-- ==== Sys2Proof/Word.lean ====
section
/-!
DEFINITION. The word types of the device: registers are 32 bits wide (R4), memory is counted in bytes, and a
register field (R8) is a run of bits at a BAR0 offset.
-/

namespace Sys2Proof

/-- A register word (R4). -/
abbrev Word := BitVec 32

/-- One byte. -/
abbrev Byte := BitVec 8

/-- A bearing: 48 bits, [47:16] mains cycles and [15:0] angle in bu (R12). -/
abbrev Bearing := BitVec 48

/-- A register field: the BAR0 offset of its register, its lowest bit and its width. -/
structure Field where
  off : Nat
  lo : Nat
  width : Nat
deriving DecidableEq, Repr

end Sys2Proof
end

