-- ==== Sys2Proof/Syntax.lean ====
section
/-!
DEFINITION. The commands the block takes: one constructor per row of the table of operations and events, and the types
of their operands.
-/

namespace Sys2Proof

/-- A queue number (R342). -/
abbrev QNum := BitVec 16

/-- A node-table index (R290). -/
abbrev NodeIx := BitVec 17

/-- A 20-bit short address. -/
abbrev Short := BitVec 20

/-- How a DMA read of host memory ends: with bytes, or as one of the failures of R584. -/
inductive DmaRead where
  | data (bytes : List Byte)
  | unsupportedRequest
  | completerAbort
  | timeout
  | poisoned
deriving DecidableEq, Repr

/-- A register access: the issuing master (R42), the offset (from BAR0 for the PF and the device's own masters, from the
VF's window for a VF) and the value written; none is a read that the table gives no row of its own (log entry 155). -/
structure RegWrite where
  master : Fin 32
  off : BitVec 24
  v : Option Word
deriving DecidableEq, Repr

/-- The supplies a power-on reset watches (R545, R592). -/
inductive Supply where
  | vddCore | vddSram | vddIo18 | vdd33
deriving DecidableEq, Repr

/-- The straps sampled at reset release (R580). -/
structure Straps where
  bootSel : BitVec 2
  chainRank : BitVec 3
  chainEn : Bool
  mgtAddr : BitVec 2
  refclkSel : Bool
deriving DecidableEq, Repr

/-- A configuration request (R562): a read of an identity word (R561) or of a word of the SR-IOV capability (R563), a sizing of a
BAR (R563: ones written and read back), or a write of a field the device acts on. -/
inductive CfgRequest where
  | readIds
  | readClass
  | readSubsystem
  | readVfCounts
  | readVfPlacement
  | readPageSizes
  | sizeBar (bar : Fin 6)
  | sizeRom
  | sizeVfBar (bar : Fin 6)
  | memorySpace (on : Bool)
  | msixEnable (on : Bool)
  | msixFunctionMask (on : Bool)
  | vfEnable (on : Bool) (numVfs : Fin 16)
deriving DecidableEq, Repr

/-- A state of the PCIe link (HIF_LINK, R585): power state, speed and width. -/
structure LinkState where
  power : Fin 4
  speed : Fin 4
  width : Fin 5
  dlUp : Bool
deriving DecidableEq, Repr

/-- A lane cross-check (R24): the bound lane, the spare that ran beside it, whether their outputs agree, which of the
two pass the vectors, and a transmit lane that failed its test (R32). -/
structure LaneCheck where
  bound : Fin 128
  spare : Fin 128
  equal : Bool
  boundOk : Bool
  spareOk : Bool
  txFail : Option (Fin 48)
deriving DecidableEq, Repr

/-- A codeword that enters the decoder queue (R33): its lane, which codeword of the frame it is, the bearing at which its
last symbol ends, and for each of its bits in the order sent (R176) the soft values demapped from its copies (R186, R188),
each with the number of its symbol (R171). -/
structure CodewordIn where
  lane : Fin 128
  index : Nat
  endBearing : Bearing
  soft : List (List (Nat × Int))
deriving DecidableEq, Repr

/-- What the correlation shows of one training or payload symbol (R199, R200): whether, where the prediction rests on a
marginal test, the start predicted for the other result has the stronger peak, and how many samples the peak kept lies from
its prediction. -/
structure SymbolPeak where
  other : Bool
  shift : Int
deriving DecidableEq, Repr

/-- What a lane hears of a frame, from the start of its fifth SYNCP on (R131, R165): the SYNCP symbols, whether SYNCD ends
them, the 56 FCH bits that the decoder gives for each band set it is tried with (R166), and the correlation of the frame's
training and payload symbols. A G3 lane hears a preamble of its own profile. -/
structure PreambleIn where
  lane : Fin 128
  syncs : BitVec 8
  deep : Bool
  fch : List (BitVec 4 × BitVec 56)
  peaks : List SymbolPeak
deriving DecidableEq, Repr

/-- What the device reads when it obtains an image (R61, R69): the host's memory, and whether the reads of slot A and
slot B succeed. -/
structure ImageSource where
  host : DmaRead
  slotAOk : Bool
  slotBOk : Bool
deriving DecidableEq, Repr

/-- A positive-going crossing on a mains-sense input (R91): the input, the rms of the band-passed input over the cycle
that ends at it in mV, and whether the mains fundamental at the port's coupler sense is below 10 % of its base
(R231). The instant is the present one. -/
structure Crossing where
  input : Fin 24
  rmsMv : Nat
  couplerLow : Bool
deriving DecidableEq, Repr

/-- What one noise bin saw in a cycle (R115, R116): the port within its triad, the sub-band, the bin, the mean power and
the peak power over any 32 µs window of the samples outside the triad's own transmissions, and the same of the pilot error
of a lane that receives, all in units of 2^-32 of full scale. -/
structure NoiseSample where
  leg : Fin 3
  sb : Fin 4
  bin : Fin 128
  power : Nat
  peak : Nat
  error : Nat
  errorPeak : Nat
deriving DecidableEq, Repr

/-- Where a pending coefficient set applies (R49, R203): the lanes of a port, or a joint-detection unit. -/
inductive ApplyTarget where
  | lanes (port : Fin 24)
  | unit (triad : Fin 8)
deriving DecidableEq, Repr

/-- A ring of the Chain (R456). -/
inductive Ring where
  | a | b
deriving DecidableEq, Repr

/-- An offer for admission on a triad, with what the spec leaves to the Plane Table: whether carrier sense and the
drawn backoff have run out for it in a contention period (R254, R255), the mode and band set of a first attempt on a hop
that has no contour map in force, whether a frame to one node goes out across the triad (R196), a grant to issue (R257):
bins, band set, superframes ahead; and whether the parcel taken from its queue fails its ECC check (R356). -/
structure AdmitChoice where
  triad : Fin 8
  clear : Bool
  mode : Fin 11
  bands : BitVec 4
  cross : Bool
  grant : Option (Fin 1024 × Fin 385 × BitVec 4 × Fin 256)
  poisoned : Bool
deriving DecidableEq, Repr

/-- What Sounding measures on one port's own transmission (R149, R217, R221): the coupler ratio (0.16), |Z_L| in 1/64
ohm with its phase in 0.1 degree per sub-band, receive response and transmit response per precoding group in 0.001 dB
and 0.001 degree. -/
structure PortMeasure where
  ratio : BitVec 16
  zl : List (Fin 4 × Nat × Int)
  response : List (Fin 28 × Int × Int)
  transmit : List (Fin 28 × Int × Int)
deriving DecidableEq, Repr

/-- What ends with a transmission (R144): the measures of its ports, and the cross-band filters adapted on it (R137, R222):
their depth in dB and the 96 taps of each of the nine, none where the transmission leaves no sub-band to hear. -/
structure TxMeasure where
  ports : List PortMeasure
  depth : BitVec 8
  filters : List (List Int)
deriving DecidableEq, Repr

/-- What Sounding measures on a received frame: channel estimates of class 4 (group, matrix element, 0.001 dB, 0.001
degree), attenuation per group in 0.25 dB (255 unmeasured) and delay spread in 0.5 µs (R227),
per-carrier SNR (R224), 112 values a stream, gain steps during the frame with the measured ratio (code before, code after, 0.001 dB, 0.001
degree, R214). -/
structure Observed where
  estimates : List (Fin 28 × Fin 9 × Int × Int)
  att : List Byte
  tau : Byte
  snr : List Byte
  steps : List (Fin 19 × Fin 19 × Int × Int)
deriving DecidableEq, Repr

/-- A received Gweol frame with a payload: the frame's lane (R167), the information bits that the decoders give, still
scrambled (R172, R176), of each codeword the corrections and the smallest log-likelihood magnitude of its decode (R420), its
FCH SNR, what Sounding measures. -/
structure RxFrame where
  lane : Fin 128
  info : List Bool
  decodes : List (Nat × Nat)
  snr : Byte
  obs : Observed
deriving DecidableEq, Repr

/-- A received GASP frame (R169): its lane, the FCH SNR. -/
structure GaspFrame where
  lane : Fin 128
  snr : Byte
deriving DecidableEq, Repr

/-- A received CAIRN_C (R246): its lane. -/
structure CairnC where
  lane : Fin 128
deriving DecidableEq, Repr

/-- What a received G3 frame is (R328, R335). -/
inductive G3Kind where
  | data | ack | beacon | toneMapRequest | toneMapResponse (map : List Byte) (modulation : Fin 6) (gain : Byte)
deriving DecidableEq, Repr

/-- A received G3 frame (R328, R337): the port, the peer's addresses, PAN id, modulation byte (R338 byte 12), LQI, key
index, whether its FCS passes, its security level, frame counter, whether its MIC passes, its kind, and its payload as
received under the MIC's protection removed. -/
structure G3Frame where
  port : Fin 24
  ext : BitVec 64
  short : BitVec 16
  pan : BitVec 16
  mode : Byte
  lqi : Byte
  keyIndex : Fin 2
  fcsOk : Bool
  level : Fin 8
  counter : Word
  micOk : Bool
  toneMapRequest : Bool
  kind : G3Kind
  payload : List Byte
deriving DecidableEq, Repr

/-- How a G3 channel access ends (R334): the channel is busy, or clear. -/
inductive G3Access where
  | busy | clear
deriving DecidableEq, Repr

/-- A conversion that ends (R502): its channel, the converter output u in units of 2^-23, a modulator overload, the
temperature of line die 1. -/
structure Conversion where
  ch : Fin 8
  u : BitVec 24
  overload : Bool
  dieTemp : Byte
deriving DecidableEq, Repr

/-- A character as the receiver samples it (R516): data bits, parity bit, first stop bit, whether its start bit was low
at its centre, and whether the line had been idle for SP_IDLE.BITS before it. -/
structure CharIn where
  data : BitVec 9
  parity : Bool
  stop : Bool
  startLow : Bool
  gap : Bool
deriving DecidableEq, Repr

/-- The outcome of the self-tests, calibrations and journal scan of SETTLE (R538); a bit set means that the unit
passed: PUF reconstruction, cipher engines,
fixed units of Sieve, programmable channels as they compute vectors A and B, slices, receive and transmit lanes that
fail, converters with the failing test, offsets, RATIOs, the journal scan, and the supplies. -/
structure SelfTest where
  pufOk : Bool
  sramOk : Bool
  engines : BitVec 4
  fixedUnits : BitVec 4
  channelsA : List (BitVec 64)
  channelsB : List (BitVec 64)
  slices : List (BitVec 12)
  rxFail : List (Fin 128)
  txFail : List (Fin 48)
  converters : List (Option (Fin 3))
  offsets : List (List Int)
  journalBad : List (BitVec 14)
  vdda5Ok : Bool
  tamperLatched : BitVec 4
deriving DecidableEq, Repr


/-- The commands of the block: one constructor per row of the table of operations and events. A constructor's operands
are what its sender decides: an address, a value, the content of a frame or a cell, a measurement. -/
inductive Instr where
  /-- MISALIGNED_ACCESS (R4). -/
  | misalignedAccess (fn : Fin 16) (off : BitVec 24) (bytes : Nat)
  /-- REGISTER_WRITE (R5). -/
  | registerWrite (w : RegWrite)
  /-- LANE_CROSS_CHECK (R24). -/
  | laneCrossCheck (c : LaneCheck)
  /-- LANE_BINDING_MOVE (R25). -/
  | laneBindingMove (lane : Fin 128)
  /-- DRAM_PAGE_RETIRED (R20). -/
  | dramPageRetired (page : Word)
  /-- LDPC_DECODE (R33). -/
  | ldpcDecode (arrived : List CodewordIn) (freed : Fin 17)
  /-- ADMISSION (R41). -/
  | admission (a : AdmitChoice)
  /-- TRANSMISSION_START (R144). -/
  | transmissionStart (tx : Nat)
  /-- TRANSMISSION_END (R144). -/
  | transmissionEnd (tx : Nat) (m : TxMeasure)
  /-- LOAD (R65). -/
  | load
  /-- STAGE_HOST (R69). -/
  | stageHost
  /-- STAGE_SLOT_A (R69). -/
  | stageSlotA
  /-- STAGE_SLOT_B (R69). -/
  | stageSlotB
  /-- STAGING_DONE (R59). -/
  | stagingDone (src : ImageSource)
  /-- ARM (R78). -/
  | arm
  /-- DISARM (R81). -/
  | disarm
  /-- DISCARD (R70). -/
  | discard
  /-- SEAL (R67). -/
  | seal
  /-- LOAD_COMPLETE (R538). -/
  | loadComplete (src : ImageSource)
  /-- SWAP_ABORT_DEADLINE (R79). -/
  | swapAbortDeadline
  /-- IMAGE_SWAP (R82). -/
  | imageSwap
  /-- MAINS_CROSSING (R91). -/
  | mainsCrossing (c : Crossing)
  /-- SLEW_COMPLETE (R109). -/
  | slewComplete
  /-- REFERENCE_SILENCE (R106). -/
  | referenceSilence
  /-- RELOCK_TIMEOUT (R86). -/
  | relockTimeout
  /-- LOCK_WAIT_EXPIRY (R88). -/
  | lockWaitExpiry
  /-- RESEAT (R111). -/
  | reseat
  /-- TRIAD_OUTAGE (R118). -/
  | triadOutage (t : Fin 8)
  /-- NOISE_MAP_UPDATE (R117). -/
  | noiseMapUpdate (t : Fin 8) (samples : List NoiseSample)
  /-- ALARM_ARM (R122). -/
  | alarmArm (k : Fin 4) (v : Word)
  /-- ALARM_FIRE (R122). -/
  | alarmFire (k : Fin 4)
  /-- BRG_NOW_READ (R124). -/
  | brgNowRead (master : Fin 32)
  /-- AGC_MEASURE (R130). -/
  | agcMeasure (port : Fin 24) (level : Nat)
  /-- AGC_STEP (R132). -/
  | agcStep (port : Fin 24) (inWindow : List (Fin 128))
  /-- AGC_RENORMALISE (R216). -/
  | agcRenormalise (port : Fin 24)
  /-- SLICE_TRIP (R147). -/
  | sliceTrip (port : Fin 24) (slice : Fin 12)
  /-- SLICE_SUSPECT (R147). -/
  | sliceSuspect (port : Fin 24) (slice : Fin 12)
  /-- SLICE_TEST (R147). -/
  | sliceTest (port : Fin 24) (slice : Fin 12) (pass : Bool)
  /-- SLICE_ROTATION (R147). -/
  | sliceRotation (port : Fin 24)
  /-- SLICE_CHANGE_APPLY (R148). -/
  | sliceChangeApply (port : Fin 24)
  /-- BANK_MEASURE (R145). -/
  | bankMeasure (bank : Fin 4) (vld : BitVec 12) (temp : BitVec 8)
  /-- BANK_ON (R145). -/
  | bankOn (bank : Fin 4)
  /-- RAIL_FAULT (R154). -/
  | railFault (bank : Fin 4)
  /-- LOSS_OBSERVATION (R223): V_LD × I_bank and P_rail,idle as measured. -/
  | lossObservation (bank : Fin 4) (supplyMw idleMw : Nat)
  /-- CANDIDATE_EXPIRY (R210). -/
  | candidateExpiry
  /-- COEFFICIENT_APPLY (R49). -/
  | coefficientApply (target : ApplyTarget)
  /-- SOUNDING_UNFREEZE (R213). -/
  | soundingUnfreeze
  /-- REBASE (R235). -/
  | rebase
  /-- WRITE_REF (R235). -/
  | writeRef
  /-- CLEAR_SHIFT (R235). -/
  | clearShift
  /-- XBC_FILTER_APPLY (R138). -/
  | xbcFilterApply (t : Fin 8)
  /-- SUPERFRAME_START (R237). -/
  | superframeStart
  /-- CP_END_CHOICE (R239). -/
  | cpEndChoice (t : Fin 8)
  /-- CAIRN_TRANSMIT (R240). -/
  | cairnTransmit (t : Fin 8)
  /-- DATA_RECEIVED (R35). -/
  | dataReceived (r : RxFrame)
  /-- ACK_RECEIVED (R259). -/
  | ackReceived (r : RxFrame)
  /-- ACK_MISSING (R259). -/
  | ackMissing (tx : Nat)
  /-- ASSOC_REQ_RECEIVED (R289). -/
  | assocReqReceived (r : RxFrame)
  /-- MAP_REPORT_RECEIVED (R267). -/
  | mapReportReceived (r : RxFrame)
  /-- GASP_RECEIVED (R281). -/
  | gaspReceived (g : GaspFrame)
  /-- CAIRN_C_RECEIVED (R305). -/
  | cairnCReceived (c : CairnC)
  /-- RELAYED_CAIRN_MISSED (R305). -/
  | relayedCairnMissed (node : NodeIx)
  /-- LEAVE_RECEIVED (R247). -/
  | leaveReceived (r : RxFrame)
  /-- NOTCH_RECOMPUTE (R252). -/
  | notchRecompute (t : Fin 8)
  /-- SUPERVISION_EXPIRY (R266). -/
  | supervisionExpiry (node : NodeIx)
  /-- BUDGET_BUCKET_ROLL (R273). -/
  | budgetBucketRoll (port : Fin 24) (sb : Fin 4)
  /-- BUDGET_TTL_EXPIRY (R275). -/
  | budgetTtlExpiry
  /-- P0_LATE (R278). -/
  | p0Late (port : Fin 24) (bins : BitVec 16)
  /-- LAST_GASP_CLOSE (R279). -/
  | lastGaspClose (t : Fin 8)
  /-- RENDEZVOUS (R268). -/
  | rendezvous (node : NodeIx)
  /-- RENDEZVOUS_MISSED (R270). -/
  | rendezvousMissed (node : NodeIx)
  /-- ROUTE_EVALUATION (R296). -/
  | routeEvaluation (node : NodeIx)
  /-- ROUTE_CHANGE_EFF (R299). -/
  | routeChangeEff (node : NodeIx)
  /-- NEIGH_RECEIVED (R302). -/
  | neighReceived (r : RxFrame)
  /-- RC_MISS_RECEIVED (R308). -/
  | rcMissReceived (r : RxFrame)
  /-- RREP_RECEIVED (R311). -/
  | rrepReceived (r : RxFrame)
  /-- JOIN_FWD_RECEIVED (R306). -/
  | joinFwdReceived (r : RxFrame)
  /-- REPAIR_DEADLINE (R311). -/
  | repairDeadline (node : NodeIx)
  /-- FREE (R326). -/
  | free
  /-- BLOCK (R326). -/
  | block
  /-- UNBLOCK (R326). -/
  | unblock
  /-- PIN (R326). -/
  | pin
  /-- UNPIN (R326). -/
  | unpin
  /-- REPAIR (R326). -/
  | repair
  /-- PH_RESET (R326). -/
  | phReset
  /-- ROUTE_ENTRY_LATCH (R326). -/
  | routeEntryLatch (v : Word)
  /-- NODE_ENTRY_READ (R292). -/
  | nodeEntryRead (node : NodeIx) (word : Fin 16) (master : Fin 32)
  /-- G3_FRAME_RECEIVED (R337). -/
  | g3FrameReceived (g : G3Frame)
  /-- G3_TRANSMIT (R334). -/
  | g3Transmit (port : Fin 24) (access : G3Access)
  /-- G3_ACK_TIMEOUT (R334). -/
  | g3AckTimeout (port : Fin 24)
  /-- TONE_MAP_EXPIRY (R335). -/
  | toneMapExpiry (port : Fin 24) (short : BitVec 16)
  /-- DOORBELL (R357). -/
  | doorbell (fn : Fin 16) (d : Fin 1020) (v : Word)
  /-- COMMAND_FETCH (R361). -/
  | commandFetch (ring : QNum) (dma : DmaRead)
  /-- NOP (R362). -/
  | nop (ring : QNum)
  /-- SEND (R363). -/
  | send (ring : QNum) (dma : DmaRead)
  /-- RECV (R364). -/
  | recv (ring : QNum)
  /-- RECV_DELIVERY (R364). -/
  | recvDelivery (q : QNum) (words : Nat) (bad : List Nat)
  /-- MARK (R355). -/
  | mark (ring : QNum)
  /-- REWIND (R355). -/
  | rewind (ring : QNum)
  /-- COMMIT (R362). -/
  | commit (ring : QNum)
  /-- QSTAT (R362). -/
  | qstat (ring : QNum)
  /-- FLUSH (R362). -/
  | flush (ring : QNum)
  /-- TAG_DECISION (R353). -/
  | tagDecision (q : QNum) (second : Fin 4) (equal : Bool)
  /-- WP_B1 (R359). -/
  | wpB1 (fn : Fin 16) (p : Fin 256) (v : BitVec 8)
  /-- WP_B2 (R359). -/
  | wpB2 (fn : Fin 16) (p : Fin 256) (v : BitVec 16)
  /-- WP_B4 (R359). -/
  | wpB4 (fn : Fin 16) (p : Fin 256) (v : BitVec 32)
  /-- WP_MARK_SOP (R359). -/
  | wpMarkSop (fn : Fin 16) (p : Fin 256)
  /-- WP_MARK_EOP (R359). -/
  | wpMarkEop (fn : Fin 16) (p : Fin 256)
  /-- CONV_PAUSE (R369). -/
  | convPause (fn : Fin 16)
  /-- CONV_RESUME (R370). -/
  | convResume (fn : Fin 16) (replay : Bool) (drop : Bool)
  /-- QF_CONV_PAUSE (R369). -/
  | qfConvPause (fn : Fin 16)
  /-- QF_CONV_RESUME (R369). -/
  | qfConvResume (fn : Fin 16) (replay : Bool) (drop : Bool)
  /-- PAUSE_COMPLETE (R369). -/
  | pauseComplete (fn : Fin 16)
  /-- WEDGED (R542). -/
  | wedged (fn : Fin 16)
  /-- FB_POST (R377). -/
  | fbPost (code : BitVec 12) (sev : Fin 8)
  /-- CTX_OPEN (R404). -/
  | ctxOpen (ring : QNum)
  /-- CTX_CLOSE (R404). -/
  | ctxClose (ring : QNum)
  /-- REKEY (R391). -/
  | rekey (ring : QNum)
  /-- ENCRYPT (R404). -/
  | encrypt (ring : QNum) (aad : DmaRead) (src : DmaRead)
  /-- DECRYPT (R405). -/
  | decrypt (ring : QNum) (aad : DmaRead) (src : DmaRead)
  /-- KEY_IMPORT (R400). -/
  | keyImport (ring : QNum) (dma : DmaRead)
  /-- RANDOM (R404). -/
  | random (ring : QNum)
  /-- CHECK (R421). -/
  | check (ring : QNum) (dma : DmaRead)
  /-- SUSPENDED_RESUME (R407). -/
  | suspendedResume (e : Fin 4)
  /-- DRBG_RESEED (R408). -/
  | drbgReseed
  /-- ENTROPY_FAIL (R409). -/
  | entropyFail (test : Fin 2)
  /-- TAMPER (R412). -/
  | tamper (inputs : BitVec 4) (powered : Bool)
  /-- SIEVE_SELF_TEST (R418). -/
  | sieveSelfTest (ch : Fin 16) (a : BitVec 64) (b : BitVec 64)
  /-- CTX_RECORD_LATCH (R424). -/
  | ctxRecordLatch (page : Fin 17) (v : Word)
  /-- INCR_COMMIT (R431). -/
  | incrCommit (x : Fin 2) (v : Word)
  /-- SET (R433). -/
  | set (x : Fin 2)
  /-- STEP (R434). -/
  | step (x : Fin 2)
  /-- DATUM_SLEW_END (R435). -/
  | datumSlewEnd (x : Fin 2)
  /-- DOMAIN_SWITCH (R436). -/
  | domainSwitch (sel : Fin 2)
  /-- DOMAIN_SWITCH_SETTLED (R436). -/
  | domainSwitchSettled
  /-- DATUM_NOW_READ (R454). -/
  | datumNowRead (x : Fin 2) (master : Fin 32)
  /-- TXS_READ (R440). -/
  | txsRead (master : Fin 32)
  /-- CAPTURE (R441). -/
  | capture
  /-- TSTAMP_EDGE (R442). -/
  | tstampEdge (k : Fin 2) (rising : Bool)
  /-- TSI_READ (R442). -/
  | tsiRead (k : Fin 2) (master : Fin 32)
  /-- TIMEPULSE_ENABLE (R444). -/
  | timepulseEnable (j : Fin 8) (v : Word)
  /-- TIMEPULSE_FIRE (R443). -/
  | timepulseFire (j : Fin 8)
  /-- TIMEPULSE_END (R443). -/
  | timepulseEnd (j : Fin 8)
  /-- DELAY_REQ_RECEIVED (R451). -/
  | delayReqReceived (r : RxFrame)
  /-- TIME_REPORT_RECEIVED (R451). -/
  | timeReportReceived (r : RxFrame)
  /-- CLEAR_ASYM (R454). -/
  | clearAsym
  /-- SET_CORR (R454). -/
  | setCorr
  /-- REMEASURE (R454). -/
  | remeasure
  /-- SYNC_SEND (R464). -/
  | syncSend
  /-- SYNC_RECEIVED (R466). -/
  | syncReceived (ring : Ring) (cell : List Byte) (residence : Nat)
  /-- RANK1_SYNC_WAIT_EXPIRY (R460). -/
  | rank1SyncWaitExpiry
  /-- CHAIN_JOIN_TIMEOUT (R460). -/
  | chainJoinTimeout
  /-- BYPASS_OPEN (R462). -/
  | bypassOpen (ring : Ring)
  /-- ECHO_SEND (R465). -/
  | echoSend (ring : Ring)
  /-- ECHO_RECEIVED (R465). -/
  | echoReceived (ring : Ring) (roundTrip : Nat) (residence : Nat)
  /-- SYNC_LOST (R469). -/
  | syncLost
  /-- MASTER_ISOLATED (R473). -/
  | masterIsolated
  /-- LOSS_OF_SIGNAL (R475). -/
  | lossOfSignal (ring : Ring)
  /-- WRAP_RECEIVED (R475). -/
  | wrapReceived (ring : Ring) (cell : List Byte)
  /-- RING_UNWRAP (R475). -/
  | ringUnwrap (ring : Ring)
  /-- DRIVE_RECEIVED (R479). -/
  | driveReceived (ring : Ring) (cell : List Byte)
  /-- TOKEN_RECEIVED (R79). -/
  | tokenReceived (ring : Ring) (cell : List Byte)
  /-- VERDICT_RECEIVED (R80). -/
  | verdictReceived (ring : Ring) (cell : List Byte)
  /-- RESET_CELL_RECEIVED (R488). -/
  | resetCellReceived (ring : Ring) (cell : List Byte)
  /-- REPL_RECEIVED (R322). -/
  | replReceived (ring : Ring) (cell : List Byte)
  /-- RXDONE_RECEIVED (R477). -/
  | rxdoneReceived (ring : Ring) (cell : List Byte)
  /-- PAIR_RECEIVED (R479). -/
  | pairReceived (ring : Ring) (cell : List Byte)
  /-- PAIR_SEND (R458). -/
  | pairSend
  /-- HELD_PARCEL_EXPIRY (R477). -/
  | heldParcelExpiry
  /-- TAKEOVER (R481). -/
  | takeover
  /-- PAIRED_PORT_CLOSE (R482). -/
  | pairedPortClose (port : Fin 24)
  /-- CHAIN_RESET (R488). -/
  | chainReset
  /-- CHAIN_RESET_TIMEOUT (R488). -/
  | chainResetTimeout
  /-- BARRIER (R486). -/
  | barrier
  /-- SNAP_ARM (R487). -/
  | snapArm
  /-- SNAP_DISARM (R487). -/
  | snapDisarm
  /-- SNAPSHOT (R487). -/
  | snapshot
  /-- HANDOVER_ARM (R485). -/
  | handoverArm
  /-- HANDOVER_DISARM (R485). -/
  | handoverDisarm
  /-- HANDOVER (R485). -/
  | handover
  /-- CONVERSION_COMPLETE (R502). -/
  | conversionComplete (c : Conversion)
  /-- COMPLIANCE_LOSS (R499). -/
  | complianceLoss (ch : Fin 8) (source : Fin 2)
  /-- NOTCH_RETUNE (R500). -/
  | notchRetune
  /-- LOOP_OPEN (R508). -/
  | loopOpen (n : Fin 2) (measured : BitVec 16)
  /-- LOOP_FAULT_CLEAR (R508). -/
  | loopFaultClear (n : Fin 2) (measured : BitVec 16)
  /-- SELF_TEST_COMPLETE (R538). -/
  | selfTestComplete (t : SelfTest)
  /-- SERVICE_ENTER (R538). -/
  | serviceEnter
  /-- CHARACTER_RECEIVED (R516). -/
  | characterReceived (p : Fin 2) (c : CharIn)
  /-- BREAK_DETECTED (R520). -/
  | breakDetected (p : Fin 2) (gap : Bool)
  /-- SERIAL_DEAD (R520). -/
  | serialDead (p : Fin 2)
  /-- SERIAL_ALIVE (R520). -/
  | serialAlive (p : Fin 2) (chars : Nat)
  /-- IDLE_EVENT (R519). -/
  | idleEvent (p : Fin 2)
  /-- SP_TX_WRITE (R518). -/
  | spTxWrite (p : Fin 2) (v : Word)
  /-- CHARACTER_SENT (R514). -/
  | characterSent (p : Fin 2)
  /-- DE_TAIL_END (R524). -/
  | deTailEnd
  /-- SEND_BRK (R521). -/
  | sendBrk (p : Fin 2)
  /-- BREAK_END (R521). -/
  | breakEnd (p : Fin 2)
  /-- AUTO (R523). -/
  | auto (p : Fin 2)
  /-- AUTOBAUD (R523). -/
  | autobaud (p : Fin 2) (intervals : List Nat)
  /-- SP_RX_READ (R517). -/
  | spRxRead (p : Fin 2) (master : Fin 32)
  /-- SERIAL_WAKE (R527). -/
  | serialWake (p : Fin 2)
  /-- OSCILLATOR_SLEEP (R527). -/
  | oscillatorSleep
  /-- CONSOLE_READ (R578). -/
  | consoleRead (line : List Byte)
  /-- CONSOLE_WRITE (R578). -/
  | consoleWrite (line : List Byte)
  /-- CONSOLE_STATUS (R578). -/
  | consoleStatus
  /-- CONSOLE_FIELD_BOOK (R578). -/
  | consoleFieldBook (seq : Word)
  /-- CONSOLE_OTHER (R578). -/
  | consoleOther (line : List Byte)
  /-- GLB_QUIET (R536). -/
  | glbQuiet
  /-- REF_CLOCK_FAULT (R536). -/
  | refClockFault
  /-- DIE_OVERTEMP (R536). -/
  | dieOvertemp
  /-- SRAM_ECC_ERROR (R536). -/
  | sramEccError
  /-- WDOG_INTERNAL (R547). -/
  | wdogInternal (master : Fin 32)
  /-- WDOG_HOST (R547). -/
  | wdogHost
  /-- WDOG_KICK (R547). -/
  | wdogKick
  /-- ESCALATION (R548). -/
  | escalation
  /-- ESC_COUNT_CLEAR (R548). -/
  | escCountClear
  /-- POWER_ON_RESET (R592). -/
  | powerOnReset (rail : Supply)
  /-- SYSRST (R545). -/
  | sysrst
  /-- PERST (R545). -/
  | perst
  /-- RESET_RELEASE (R538). -/
  | resetRelease (straps : Straps)
  /-- JOURNAL_LIFE_ENTRY (R551). -/
  | journalLifeEntry
  /-- JOURNAL_DROP_SUMMARY (R551). -/
  | journalDropSummary
  /-- AGE_UPDATE (R554). -/
  | ageUpdate (tempC : Int)
  /-- JOURNAL_SELECT (R559). -/
  | journalSelect (index : BitVec 14)
  /-- JOURNAL_LATCH_DONE (R559). -/
  | journalLatchDone
  /-- FLR (R566). -/
  | flr (fn : Fin 16)
  /-- BUS_MASTER_ENABLE (R565). -/
  | busMasterEnable (fn : Fin 16) (on : Bool)
  /-- MSIX_UNMASK (R574). -/
  | msixUnmask (fn : Fin 16) (vector : Fin 256)
  /-- CONFIG_REQUEST (R562). -/
  | configRequest (fn : Fin 16) (req : CfgRequest)
  /-- I2C_POINTER_WRITE (R576). -/
  | i2cPointerWrite (bytes : List Byte)
  /-- I2C_READ_BYTE (R576). -/
  | i2cReadByte
  /-- FLASH_ERASE (R582). -/
  | flashErase (ring : QNum)
  /-- FLASH_PROGRAM (R582). -/
  | flashProgram (ring : QNum) (dma : DmaRead)
  /-- FLASH_READ (R582). -/
  | flashRead (ring : QNum)
  /-- VDDA5_FAULT (R594). -/
  | vdda5Fault
  /-- PREAMBLE_DETECTED (R165). -/
  | preambleDetected (p : PreambleIn)
  /-- CHAIN_INPUT_LOCKED (R462). -/
  | chainInputLocked (ring : Ring)
  /-- CHAIN_INPUT_LOCK_TIMEOUT (R536). -/
  | chainInputLockTimeout
  /-- PCIE_LINK_STATE_CHANGE (R544). -/
  | pcieLinkStateChange (link : LinkState)
  /-- ENTROPY_SOURCE_RECOVERED (R409). -/
  | entropySourceRecovered
deriving DecidableEq, Repr

end Sys2Proof
end

