-- ==== Sys2Proof/Decode.lean ====
section
/-!
DEFINITION. Decoding a table word. The table of this block gives no row any bits, so no word spells a command.
-/

namespace Sys2Proof

/-- The command a word spells by the bits of the table: none, since no row has bits. -/
def decodeTableWord (_nbits _w : Nat) : Option Instr := none

end Sys2Proof
end

