-- ==== Sys2Proof/Machine/Float.lean ====
section
/-!
DEFINITION. Single-precision numbers (R502, R503, R505) as exact rationals, rounding to nearest even; and searches for
the least whole number that meets a condition, by which the rules' logarithms are taken without any rounding.
-/

namespace Sys2Proof.Machine

/-- The least of 0 to n − 1 that meets a condition, else n. -/
def leastUpTo (n : Nat) (p : Nat → Bool) : Nat := ((List.range n).find? p).getD n

/-- The least number below 2^bits that meets a condition which, once met, stays met; 2^bits where none meets it. -/
def leastMonotone (bits : Nat) (p : Nat → Bool) : Nat :=
  if p 0 then 0
  else (List.range bits).reverse.foldl (fun m i => if p (m + 2 ^ i) then m else m + 2 ^ i) 0 + 1

/-- 2^e for a signed exponent. -/
def twoPow (e : Int) : Rat := if 0 ≤ e then (2 ^ e.toNat : Nat) else 1 / (2 ^ (-e).toNat : Nat)

/-- The value of a single-precision word; none for infinities and NaNs. -/
def singleValue (w : Word) : Option Rat :=
  let m : Nat := w.toNat % 2 ^ 23
  let e : Nat := w.toNat / 2 ^ 23 % 256
  let s : Rat := if w.toNat / 2 ^ 31 = 1 then -1 else 1
  if e = 255 then none
  else if e = 0 then some (s * m * twoPow (-149))
  else some (s * (m + 2 ^ 23 : Nat) * twoPow ((e : Int) - 150))

/-- A nonnegative rational rounded to a whole number, ties to even. -/
def roundEven (x : Rat) : Nat :=
  let f := x.floor.toNat
  let r := x - f
  if r < 1 / 2 then f else if 1 / 2 < r then f + 1 else if f % 2 = 0 then f else f + 1

/-- A rational rounded to a whole number, half up. -/
def roundHalfUp (x : Rat) : Int := (x + 1 / 2).floor

/-- The single-precision word nearest to a rational, ties to even; a value beyond the format becomes infinity. -/
def singleOf (x : Rat) : Word :=
  if x = 0 then 0
  else
    let sign : Nat := if x < 0 then 2 ^ 31 else 0
    let a : Rat := if x < 0 then -x else x
    -- the biased exponent: 0 for subnormals, else the one that brings the significand into [2^23, 2^24)
    let e := leastMonotone 8 (fun e => a < twoPow ((e : Int) - 126))
    let e := if e = 0 then 1 else e
    let m := roundEven (a * twoPow (150 - (e : Int)))
    -- a significand that rounds up to 2^24 carries into the exponent by the addition itself
    let bits := if m < 2 ^ 23 then m else (e - 1) * 2 ^ 23 + m
    BitVec.ofNat 32 (sign + (if 255 ≤ e then 255 * 2 ^ 23 else min bits (255 * 2 ^ 23)))

/-- e^x for x in units of 2^-64, in the same units: the series at x / 64, squared six times. -/
def expFix (x : Int) : Int :=
  let y := x / 64
  let series := (List.range 24).foldl
    (fun (acc : Int × Int) (n : Nat) => let t := acc.2 * y / (2 ^ 64 : Nat) / ((n : Int) + 1); (acc.1 + t, t))
    (((2 ^ 64 : Nat) : Int), ((2 ^ 64 : Nat) : Int))
  (List.range 6).foldl (fun r _ => r * r / (2 ^ 64 : Nat)) series.1

end Sys2Proof.Machine
end

