-- ==== Sys2Proof/Machine/Bytes.lean ====
section
/-!
DEFINITION. Byte order and check values: little-endian fields (R4, R9), the big-endian fields R9 names, and the general
check-value computation of a Sieve channel (R415), with CRC-32C as the fixed unit computes it.
-/

namespace Sys2Proof.Machine

/-- The number a little-endian byte string holds. -/
def leNat : List Byte → Nat
  | [] => 0
  | b :: rest => b.toNat + 256 * leNat rest

/-- The `n` low bytes of a number, least significant first. -/
def toLe : Nat → Nat → List Byte
  | 0, _ => []
  | n + 1, v => BitVec.ofNat 8 v :: toLe n (v / 256)

/-- The number a big-endian byte string holds. -/
def beNat (bs : List Byte) : Nat := bs.foldl (fun acc b => acc * 256 + b.toNat) 0

/-- The `n` low bytes of a number, most significant first. -/
def toBe (n v : Nat) : List Byte := (toLe n v).reverse

/-- Bytes `o` to `o + n - 1` of a byte string; bytes beyond its end read as 0x00. -/
def slice (bs : List Byte) (o n : Nat) : List Byte :=
  let s := (bs.drop o).take n
  s ++ List.replicate (n - s.length) 0

/-- The little-endian field of `n` bytes at `o`. -/
def leAt (bs : List Byte) (o n : Nat) : Nat := leNat (slice bs o n)

/-- The byte at `o`, as a number. -/
def byteAt (bs : List Byte) (o : Nat) : Nat := leAt bs o 1

/-- Bits `lo` to `lo + w - 1` of a number. -/
def bitsAt (v lo w : Nat) : Nat := v / 2 ^ lo % 2 ^ w

/-- A number with bits `lo` to `lo + w - 1` replaced. -/
def setBits (v lo w x : Nat) : Nat := v - bitsAt v lo w * 2 ^ lo + x % 2 ^ w * 2 ^ lo

/-- A two's complement number of `w` bits. -/
def signedOf (w v : Nat) : Int := if v % 2 ^ w < 2 ^ (w - 1) then (v % 2 ^ w : Nat) else (v % 2 ^ w : Nat) - (2 ^ w : Nat)

/-- A signed number as `w` bits, two's complement. -/
def unsignedOf (w : Nat) (v : Int) : Nat := (v % (2 ^ w : Nat)).toNat

/-- A signed number held within `w` bits by saturation. -/
def saturateSigned (w : Nat) (v : Int) : Int :=
  if v < -(2 ^ (w - 1) : Nat) then -(2 ^ (w - 1) : Nat)
  else if v > (2 ^ (w - 1) : Nat) - 1 then (2 ^ (w - 1) : Nat) - 1 else v

/-- Pieces of `n` bytes of a byte string, the last one possibly shorter. -/
def chunks (n : Nat) (bs : List Byte) : List (List Byte) :=
  if n = 0 then [] else (List.range ((bs.length + n - 1) / n)).map fun i => (bs.drop (n * i)).take n

/-- The bits of a byte, bit 0 first. -/
def byteBits (b : Byte) : List Bool := (List.range 8).map fun i => b.getLsbD i

/-- The whole bytes that a bit string spells, bit 0 of each first. -/
def packBits (bs : List Bool) : List Byte :=
  (List.range (bs.length / 8)).map fun i =>
    BitVec.ofNat 8 (((bs.drop (8 * i)).take 8).foldr (fun x acc => 2 * acc + x.toNat) 0)

/-- The definition of a check value (R415): width 1 to 64, polynomial, initial value, reflection of input and output,
final XOR. -/
structure CheckDef where
  width : Nat
  poly : Nat
  init : Nat
  refin : Bool
  refout : Bool
  xorout : Nat
deriving DecidableEq, Repr

/-- The low `w` bits of a number in reverse order. -/
def reflect (w v : Nat) : Nat :=
  (List.range w).foldl (fun acc i => if v.testBit i then acc + 2 ^ (w - 1 - i) else acc) 0

/-- One bit into a check register. -/
def checkBit (d : CheckDef) (r : Nat) (bit : Bool) : Nat :=
  let top := r.testBit (d.width - 1)
  let shifted := r * 2 % 2 ^ d.width
  if Bool.xor top bit then shifted ^^^ d.poly else shifted

/-- The check value of a sequence of bits in order. -/
def checkOfBits (d : CheckDef) (bits : List Bool) : Nat :=
  let r := bits.foldl (checkBit d) (d.init % 2 ^ d.width)
  (if d.refout then reflect d.width r else r) ^^^ d.xorout

/-- The check value of a byte string. -/
def checkOf (d : CheckDef) (bs : List Byte) : Nat :=
  checkOfBits d (bs.flatMap fun b => if d.refin then byteBits b else (byteBits b).reverse)

/-- CRC-32C, as the fixed unit 3 computes it (R416). -/
def crc32cDef : CheckDef :=
  { width := 32, poly := 0x1EDC6F41, init := 0xFFFFFFFF, refin := true, refout := true, xorout := 0xFFFFFFFF }

/-- CRC-32C of a byte string. -/
def crc32c (bs : List Byte) : Nat := checkOf crc32cDef bs

/-- CRC-16-CCITT of R168: no reflection, no final XOR. -/
def crc16Def : CheckDef :=
  { width := 16, poly := 0x1021, init := 0xFFFF, refin := false, refout := false, xorout := 0 }

end Sys2Proof.Machine
end

