-- ==== Sys2Proof/Config.lean ====
section
/-!
DEFINITION. What the spec leaves to the part or leaves open. Each constant is opaque: no proof can see its value, so a
claim holds whatever it is. A value drawn afresh each time is `freeNat` applied to the block's draw counter.
-/

namespace Sys2Proof.Config

/-- A free value: what the device takes where the spec bounds a value or states none (log entry 3). -/
opaque freeNat : Nat → Nat

/-- A free byte string, for outputs the spec calls random (R408). -/
opaque freeByte : Nat → Byte

/-- The SHA-256 of the image public key held in OTP (R57). -/
opaque otpKeyHash : List Byte

/-- KiB in one DRAM page, which the spec does not give (R20). -/
opaque dramPageKiB : Nat

/-- DRAM row spares with which the part is made (FLT_DRAM.ROW_SPARES, R559). -/
opaque dramRowSpares : Nat

/-- The four root keys of 256 bits, fused in wrapped form and readable by no path (R381). -/
opaque rootKey : Nat → List Byte

/-- The sub-bands in which the first samples of a frame driven for the partner have energy, as a mask: a DRIVE cell does
not name them (R479, log entry 168). -/
opaque sampleBands : List Byte → Nat

/-- The envelope of a frame around one of its samples, as a share of its peak in units of 2^-16: the spec gives the
instantaneous demand that the rail follows no formula (R143, log entry 169). -/
opaque envelope : Nat → Nat → Nat

/-- The 16-bit code of a sample given as its terms (value, angle, taper, level below the frame's, weight), for an
attenuation in dB and a peak current in mA at which it is clipped (R148, R161): the spec gives the code no scale (R479, log
entry 172). -/
opaque sampleCode : List ((Int × Int × Nat) × Nat × Nat × Nat × (Int × Int)) → Nat → Nat → Nat

/-- The weight of a stream on a port, in units of 2^-14, from the nine elements of H_dl of a precoding group (R27, R194, R196,
R218, log entry 171). -/
opaque precoder : List (Int × Int) → Nat → Nat → Int × Int

/-- An element of H_ul as the extended state holds it, 16-bit I then 16-bit Q, from its magnitude and phase in units of 10^-6 dB
and degrees: R293 gives I and Q no scale (log entry 183). -/
opaque elementCode : Int → Int → Nat

/-- The magnitude and the phase of an element of H_ul that the extended state spells (R293, log entry 183). -/
opaque elementValue : Nat → Int × Int

/-- An element of H_ul, I and Q, times the mismatch of its port, magnitude and phase (R218): the spec gives the product no
rounding (log entry 183). -/
opaque downlink : Int × Int → Int × Int → Int × Int

/-- The SNR of a stream beyond the first on a carrier, in 0.25 dB, that the singular values of H_dl give beside the SNR a node
reports (R224): the spec gives the relation no formula (log entry 184). -/
opaque streamSnr : List (Int × Int) → Nat → Nat → Nat

/-- The nonce of a host operation on a page, from the context's LONG and the frame counter: GCM's IV, or CCM*'s nonce,
which R395 states for link security only (log entry 37). -/
opaque hostNonce (ccm : Bool) (long fctr : Nat) : List Byte

end Sys2Proof.Config
end

