-- ==== Sys2Proof/Machine/Regs.lean ====
section
/-!
DEFINITION. The register map of BAR0: every register of the spec's register tables (R83, R124, R155, R235, R284,
R326, R340, R344, R379, R424, R426, R427, R454, R491, R512, R530, R558, R559, R585), its fields, their access
codes (R5) and reset values. A register's name is the spec's; its arguments are the spec's index variables; its
value is its BAR0 offset. A field `REG_FIELD` of the spec is the `Field` of the same name.
-/

namespace Sys2Proof.Machine

/-- The access codes of R5. -/
inductive Access where
  | ro | rw | wo | w1c | w1s | ros | rwl
deriving DecidableEq, Repr

/-- One field of a register table: its lowest bit, its width, its access code and its reset value. -/
structure FieldSpec where
  lo : Nat
  width : Nat
  access : Access
  reset : Nat
deriving DecidableEq, Repr

/-- One register of a register table: the offset of its first instance, the (stride, count) of each index, outermost
first, and its fields. -/
structure RegSpec where
  base : Nat
  dims : List (Nat × Nat)
  fields : List FieldSpec
deriving DecidableEq, Repr

namespace Reg

/-- BAR0 offset of cipher page p (R423): user pages 0 to 15 in turn, internal page 16 at its own place. -/
def cxPage (p : Nat) : Nat := if p < 16 then 0x180000 + 0x1000 * p else 0x198000

abbrev CFG_STATUS : Nat := 0x10000
abbrev CFG_STATUS_ACTIVE_VALID : Field := ⟨CFG_STATUS, 0, 1⟩
abbrev CFG_STATUS_SHADOW : Field := ⟨CFG_STATUS, 1, 3⟩
abbrev CFG_STATUS_SEALED : Field := ⟨CFG_STATUS, 4, 1⟩
abbrev CFG_STATUS_BOOT_SRC : Field := ⟨CFG_STATUS, 5, 2⟩
abbrev CFG_LOAD_STATUS : Nat := 0x10004
abbrev CFG_LOAD_STATUS_CAUSE : Field := ⟨CFG_LOAD_STATUS, 0, 8⟩
abbrev CFG_LOAD_STATUS_SECTION : Field := ⟨CFG_LOAD_STATUS, 8, 8⟩
abbrev CFG_LOAD_STATUS_TARGET : Field := ⟨CFG_LOAD_STATUS, 16, 1⟩
abbrev CFG_LOAD_STATUS_ATTEMPTS : Field := ⟨CFG_LOAD_STATUS, 17, 3⟩
abbrev CFG_ACTIVE_SERIAL : Nat := 0x10008
abbrev CFG_ACTIVE_SERIAL_SERIAL : Field := ⟨CFG_ACTIVE_SERIAL, 0, 32⟩
abbrev CFG_SHADOW_SERIAL : Nat := 0x1000C
abbrev CFG_SHADOW_SERIAL_SERIAL : Field := ⟨CFG_SHADOW_SERIAL, 0, 32⟩
abbrev CFG_CMD : Nat := 0x10010
abbrev CFG_CMD_CMD : Field := ⟨CFG_CMD, 0, 4⟩
abbrev CFG_CMD_RESULT : Nat := 0x10014
abbrev CFG_CMD_RESULT_STATUS : Field := ⟨CFG_CMD_RESULT, 0, 8⟩
abbrev CFG_CMD_RESULT_BUSY : Field := ⟨CFG_CMD_RESULT, 8, 1⟩
abbrev CFG_HOST_ADDR_LO : Nat := 0x10018
abbrev CFG_HOST_ADDR_LO_ADDR : Field := ⟨CFG_HOST_ADDR_LO, 0, 32⟩
abbrev CFG_HOST_ADDR_HI : Nat := 0x1001C
abbrev CFG_HOST_ADDR_HI_ADDR : Field := ⟨CFG_HOST_ADDR_HI, 0, 32⟩
abbrev CFG_HOST_LEN : Nat := 0x10020
abbrev CFG_HOST_LEN_LEN : Field := ⟨CFG_HOST_LEN, 0, 32⟩
abbrev CFG_SWAP_BRG_LO : Nat := 0x10024
abbrev CFG_SWAP_BRG_LO_BRG : Field := ⟨CFG_SWAP_BRG_LO, 0, 32⟩
abbrev CFG_SWAP_BRG_HI : Nat := 0x10028
abbrev CFG_SWAP_BRG_HI_BRG : Field := ⟨CFG_SWAP_BRG_HI, 0, 16⟩
abbrev CFG_SWAP_STATUS : Nat := 0x1002C
abbrev CFG_SWAP_STATUS_STATE : Field := ⟨CFG_SWAP_STATUS, 0, 2⟩
abbrev CFG_SWAP_STATUS_CAUSE : Field := ⟨CFG_SWAP_STATUS, 2, 4⟩
abbrev CFG_SWAP_STATUS_MEMBERS : Field := ⟨CFG_SWAP_STATUS, 8, 8⟩
abbrev CFG_SWAP_DROPS : Nat := 0x10030
abbrev CFG_SWAP_DROPS_COUNT : Field := ⟨CFG_SWAP_DROPS, 0, 32⟩
abbrev CFG_PRESERVE_MASK : Nat := 0x10034
abbrev CFG_PRESERVE_MASK_PORTS : Field := ⟨CFG_PRESERVE_MASK, 0, 24⟩
abbrev CFG_FLASH_SLOTS : Nat := 0x10038
abbrev CFG_FLASH_SLOTS_PREF : Field := ⟨CFG_FLASH_SLOTS, 0, 1⟩
abbrev CFG_FLASH_SLOTS_DEFAULTED : Field := ⟨CFG_FLASH_SLOTS, 1, 1⟩
abbrev BRG_CTRL : Nat := 0x40000
abbrev BRG_CTRL_NOM : Field := ⟨BRG_CTRL, 0, 1⟩
abbrev BRG_CTRL_START_FREE : Field := ⟨BRG_CTRL, 1, 1⟩
abbrev BRG_CTRL_LOCK_WAIT : Field := ⟨BRG_CTRL, 8, 8⟩
abbrev BRG_REF : Nat := 0x40004
abbrev BRG_REF_SEL : Field := ⟨BRG_REF, 0, 5⟩
abbrev BRG_REF_ALT : Field := ⟨BRG_REF, 8, 5⟩
abbrev BRG_STATUS : Nat := 0x40008
abbrev BRG_STATUS_STATE : Field := ⟨BRG_STATUS, 0, 3⟩
abbrev BRG_STATUS_SRC : Field := ⟨BRG_STATUS, 4, 2⟩
abbrev BRG_STATUS_LOCKED_ONCE : Field := ⟨BRG_STATUS, 8, 1⟩
abbrev BRG_STATUS_REF_MISMATCH : Field := ⟨BRG_STATUS, 9, 1⟩
abbrev BRG_STATUS_RESEAT_PENDING : Field := ⟨BRG_STATUS, 10, 1⟩
abbrev BRG_FREQ : Nat := 0x4000C
abbrev BRG_FREQ_FREQ : Field := ⟨BRG_FREQ, 0, 32⟩
abbrev BRG_NOW_LO : Nat := 0x40010
abbrev BRG_NOW_LO_BRG : Field := ⟨BRG_NOW_LO, 0, 32⟩
abbrev BRG_NOW_HI : Nat := 0x40014
abbrev BRG_NOW_HI_BRG : Field := ⟨BRG_NOW_HI, 0, 16⟩
abbrev BRG_HOLD_LO : Nat := 0x40018
abbrev BRG_HOLD_LO_BRG : Field := ⟨BRG_HOLD_LO, 0, 32⟩
abbrev BRG_HOLD_HI : Nat := 0x4001C
abbrev BRG_HOLD_HI_BRG : Field := ⟨BRG_HOLD_HI, 0, 16⟩
abbrev BRG_SKIP_FROM_LO : Nat := 0x40020
abbrev BRG_SKIP_FROM_LO_BRG : Field := ⟨BRG_SKIP_FROM_LO, 0, 32⟩
abbrev BRG_SKIP_FROM_HI : Nat := 0x40024
abbrev BRG_SKIP_FROM_HI_BRG : Field := ⟨BRG_SKIP_FROM_HI, 0, 16⟩
abbrev BRG_SKIP_TO_LO : Nat := 0x40028
abbrev BRG_SKIP_TO_LO_BRG : Field := ⟨BRG_SKIP_TO_LO, 0, 32⟩
abbrev BRG_SKIP_TO_HI : Nat := 0x4002C
abbrev BRG_SKIP_TO_HI_BRG : Field := ⟨BRG_SKIP_TO_HI, 0, 16⟩
abbrev BRG_RESEAT_COUNT : Nat := 0x40030
abbrev BRG_RESEAT_COUNT_COUNT : Field := ⟨BRG_RESEAT_COUNT, 0, 32⟩
abbrev BRG_RESEAT_DROPS : Nat := 0x40034
abbrev BRG_RESEAT_DROPS_COUNT : Field := ⟨BRG_RESEAT_DROPS, 0, 32⟩
abbrev BRG_PHOFS (n : Nat) : Nat := 0x40040 + 0x4 * n
abbrev BRG_PHOFS_OFS (n : Nat) : Field := ⟨BRG_PHOFS n, 0, 16⟩
abbrev BRG_PHOFS_VALID (n : Nat) : Field := ⟨BRG_PHOFS n, 16, 1⟩
abbrev BRG_PHOFS_CLASS (n : Nat) : Field := ⟨BRG_PHOFS n, 17, 4⟩
abbrev BRG_PHOFS_CLASS_VALID (n : Nat) : Field := ⟨BRG_PHOFS n, 21, 1⟩
abbrev BRG_PHOFS_LOST (n : Nat) : Field := ⟨BRG_PHOFS n, 24, 1⟩
abbrev BRG_PHOFS_CHANGED (n : Nat) : Field := ⟨BRG_PHOFS n, 25, 1⟩
abbrev BRG_INPUT_STAT : Nat := 0x400A0
abbrev BRG_INPUT_STAT_PRESENT : Field := ⟨BRG_INPUT_STAT, 0, 24⟩
abbrev BRG_TRIAD_STAT : Nat := 0x400A4
abbrev BRG_TRIAD_STAT_OUTAGE : Field := ⟨BRG_TRIAD_STAT, 0, 8⟩
abbrev BRG_TRIAD_STAT_OUTAGE_SEEN : Field := ⟨BRG_TRIAD_STAT, 8, 8⟩
abbrev BRG_AL_LO (k : Nat) : Nat := 0x400C0 + 0x10 * k
abbrev BRG_AL_LO_TARGET (k : Nat) : Field := ⟨BRG_AL_LO k, 0, 32⟩
abbrev BRG_AL_HI (k : Nat) : Nat := 0x400C4 + 0x10 * k
abbrev BRG_AL_HI_TARGET (k : Nat) : Field := ⟨BRG_AL_HI k, 0, 16⟩
abbrev BRG_AL_HI_SKIP (k : Nat) : Field := ⟨BRG_AL_HI k, 16, 1⟩
abbrev BRG_AL_HI_ARM (k : Nat) : Field := ⟨BRG_AL_HI k, 31, 1⟩
abbrev BRG_AL_STAT (k : Nat) : Nat := 0x400C8 + 0x10 * k
abbrev BRG_AL_STAT_FIRED (k : Nat) : Field := ⟨BRG_AL_STAT k, 0, 1⟩
abbrev BRG_AL_STAT_LATE (k : Nat) : Field := ⟨BRG_AL_STAT k, 1, 1⟩
abbrev BRG_AL_STAT_DROPPED (k : Nat) : Field := ⟨BRG_AL_STAT k, 2, 1⟩
abbrev BRG_TRIM (n : Nat) : Nat := 0x40100 + 0x4 * n
abbrev BRG_TRIM_TRIM (n : Nat) : Field := ⟨BRG_TRIM n, 0, 16⟩
abbrev BRG_NM_CTRL : Nat := 0x40180
abbrev BRG_NM_CTRL_ENABLE : Field := ⟨BRG_NM_CTRL, 0, 1⟩
abbrev BRG_NM_CTRL_THR : Field := ⟨BRG_NM_CTRL, 8, 8⟩
abbrev BRG_NM_CTRL_OCC : Field := ⟨BRG_NM_CTRL, 16, 7⟩
abbrev BRG_NM_CTRL_FREEZE : Field := ⟨BRG_NM_CTRL, 24, 1⟩
abbrev LP_CTRL (n : Nat) : Nat := 0x80000 + 0x1000 * n
abbrev LP_CTRL_ENABLE (n : Nat) : Field := ⟨LP_CTRL n, 0, 1⟩
abbrev LP_CTRL_XBAND_RX (n : Nat) : Field := ⟨LP_CTRL n, 1, 1⟩
abbrev LP_CTRL_PAIRED (n : Nat) : Field := ⟨LP_CTRL n, 2, 1⟩
abbrev LP_STATUS (n : Nat) : Nat := 0x80004 + 0x1000 * n
abbrev LP_STATUS_STATE (n : Nat) : Field := ⟨LP_STATUS n, 0, 3⟩
abbrev LP_STATUS_HEALTHY (n : Nat) : Field := ⟨LP_STATUS n, 3, 4⟩
abbrev LP_STATUS_ACTIVE (n : Nat) : Field := ⟨LP_STATUS n, 7, 4⟩
abbrev LP_STATUS_LANE_SHORT (n : Nat) : Field := ⟨LP_STATUS n, 11, 1⟩
abbrev LP_STATUS_XBC_CONV (n : Nat) : Field := ⟨LP_STATUS n, 12, 1⟩
abbrev LP_STATUS_AGC_CAL (n : Nat) : Field := ⟨LP_STATUS n, 13, 1⟩
abbrev LP_STATUS_TX_BUSY (n : Nat) : Field := ⟨LP_STATUS n, 14, 1⟩
abbrev LP_AGC_CTRL (n : Nat) : Nat := 0x80008 + 0x1000 * n
abbrev LP_AGC_CTRL_MODE (n : Nat) : Field := ⟨LP_AGC_CTRL n, 0, 1⟩
abbrev LP_AGC_CTRL_FIXED (n : Nat) : Field := ⟨LP_AGC_CTRL n, 1, 5⟩
abbrev LP_AGC_CTRL_TARGET (n : Nat) : Field := ⟨LP_AGC_CTRL n, 8, 6⟩
abbrev LP_AGC_CTRL_TX_GAIN_MAX (n : Nat) : Field := ⟨LP_AGC_CTRL n, 16, 5⟩
abbrev LP_AGC_STAT (n : Nat) : Nat := 0x8000C + 0x1000 * n
abbrev LP_AGC_STAT_GAIN (n : Nat) : Field := ⟨LP_AGC_STAT n, 0, 5⟩
abbrev LP_AGC_STAT_LEVEL (n : Nat) : Field := ⟨LP_AGC_STAT n, 8, 8⟩
abbrev LP_AGC_STAT_ANCHOR (n : Nat) : Field := ⟨LP_AGC_STAT n, 16, 7⟩
abbrev LP_AGC_STAT_ANCHOR_VALID (n : Nat) : Field := ⟨LP_AGC_STAT n, 23, 1⟩
abbrev LP_AGC_STEPS (n : Nat) : Nat := 0x80010 + 0x1000 * n
abbrev LP_AGC_STEPS_COUNT (n : Nat) : Field := ⟨LP_AGC_STEPS n, 0, 32⟩
abbrev LP_AGC_INWIN (n : Nat) : Nat := 0x80014 + 0x1000 * n
abbrev LP_AGC_INWIN_COUNT (n : Nat) : Field := ⟨LP_AGC_INWIN n, 0, 32⟩
abbrev LP_TX_LEVEL (n : Nat) : Nat := 0x80018 + 0x1000 * n
abbrev LP_TX_LEVEL_ATTEN (n : Nat) : Field := ⟨LP_TX_LEVEL n, 0, 5⟩
abbrev LP_TX_LEVEL_MIN_ATTEN (n : Nat) : Field := ⟨LP_TX_LEVEL n, 8, 5⟩
abbrev LP_ZOUT_CTRL (n : Nat) : Nat := 0x8001C + 0x1000 * n
abbrev LP_ZOUT_CTRL_MODE (n : Nat) : Field := ⟨LP_ZOUT_CTRL n, 0, 1⟩
abbrev LP_ZOUT_CTRL_FIXED (n : Nat) : Field := ⟨LP_ZOUT_CTRL n, 4, 5⟩
abbrev LP_ZOUT_CTRL_RATIO (n : Nat) : Field := ⟨LP_ZOUT_CTRL n, 12, 4⟩
abbrev LP_ZOUT_STAT (n : Nat) : Nat := 0x80020 + 0x1000 * n
abbrev LP_ZOUT_STAT_LAST (n : Nat) : Field := ⟨LP_ZOUT_STAT n, 0, 5⟩
abbrev LP_ZOUT_STAT_ZLINE (n : Nat) : Field := ⟨LP_ZOUT_STAT n, 8, 16⟩
abbrev LP_SLICE_STAT (n : Nat) : Nat := 0x80024 + 0x1000 * n
abbrev LP_SLICE_STAT_RETIRED (n : Nat) : Field := ⟨LP_SLICE_STAT n, 0, 12⟩
abbrev LP_SLICE_STAT_POINTER (n : Nat) : Field := ⟨LP_SLICE_STAT n, 12, 4⟩
abbrev LP_SLICE_STAT_ACTIVE_SET (n : Nat) : Field := ⟨LP_SLICE_STAT n, 16, 12⟩
abbrev LP_SLICE_TRIP (n : Nat) : Nat := 0x80028 + 0x1000 * n
abbrev LP_SLICE_TRIP_TRIP (n : Nat) : Field := ⟨LP_SLICE_TRIP n, 0, 12⟩
abbrev LP_SLICE_TEST (n : Nat) : Nat := 0x8002C + 0x1000 * n
abbrev LP_SLICE_TEST_INTERVAL (n : Nat) : Field := ⟨LP_SLICE_TEST n, 0, 8⟩
abbrev LP_SLICE_TEST_ROTATE (n : Nat) : Field := ⟨LP_SLICE_TEST n, 8, 1⟩
abbrev LP_THERM (n : Nat) : Nat := 0x80030 + 0x1000 * n
abbrev LP_THERM_LOSS (n : Nat) : Field := ⟨LP_THERM n, 0, 9⟩
abbrev LP_THERM_PRED (n : Nat) : Field := ⟨LP_THERM n, 16, 16⟩
abbrev LP_CPL_STAT (n : Nat) : Nat := 0x80034 + 0x1000 * n
abbrev LP_CPL_STAT_RATIO (n : Nat) : Field := ⟨LP_CPL_STAT n, 0, 16⟩
abbrev LP_XBC_STAT (n : Nat) : Nat := 0x80038 + 0x1000 * n
abbrev LP_XBC_STAT_DEPTH (n : Nat) : Field := ⟨LP_XBC_STAT n, 0, 8⟩
abbrev LP_TX_COUNT (n : Nat) : Nat := 0x8003C + 0x1000 * n
abbrev LP_TX_COUNT_COUNT (n : Nat) : Field := ⟨LP_TX_COUNT n, 0, 32⟩
abbrev LP_TX_CUT (n : Nat) : Nat := 0x80040 + 0x1000 * n
abbrev LP_TX_CUT_COUNT (n : Nat) : Field := ⟨LP_TX_CUT n, 0, 32⟩
abbrev LP_THERM_INIT (n : Nat) : Nat := 0x80044 + 0x1000 * n
abbrev LP_THERM_INIT_LOSS_INIT (n : Nat) : Field := ⟨LP_THERM_INIT n, 0, 9⟩
abbrev LP_BANK_STAT (b : Nat) : Nat := 0x80800 + 0x6000 * b
abbrev LP_BANK_STAT_VLD (b : Nat) : Field := ⟨LP_BANK_STAT b, 0, 12⟩
abbrev LP_BANK_STAT_TEMP (b : Nat) : Field := ⟨LP_BANK_STAT b, 16, 8⟩
abbrev LP_BANK_STAT_OFF (b : Nat) : Field := ⟨LP_BANK_STAT b, 24, 1⟩
abbrev LP_BANK_STAT_OFF_SEEN (b : Nat) : Field := ⟨LP_BANK_STAT b, 25, 1⟩
abbrev LP_BANK_STAT_RAIL_FAULT (b : Nat) : Field := ⟨LP_BANK_STAT b, 26, 1⟩
abbrev LP_BANK_PRED (b : Nat) : Nat := 0x80804 + 0x6000 * b
abbrev LP_BANK_PRED_PRED (b : Nat) : Field := ⟨LP_BANK_PRED b, 0, 16⟩
abbrev SND_CTRL : Nat := 0xC0000
abbrev SND_CTRL_ENABLE : Field := ⟨SND_CTRL, 0, 1⟩
abbrev SND_CTRL_BENCH_EN : Field := ⟨SND_CTRL, 1, 1⟩
abbrev SND_CTRL_FREEZE : Field := ⟨SND_CTRL, 2, 1⟩
abbrev SND_CTRL_BENCH_ATTEN : Field := ⟨SND_CTRL, 8, 6⟩
abbrev SND_CTRL_HOLD : Field := ⟨SND_CTRL, 16, 8⟩
abbrev SND_CAL_STAT : Nat := 0xC0004
abbrev SND_CAL_STAT_PORT_CAL : Field := ⟨SND_CAL_STAT, 0, 24⟩
abbrev SND_HELD : Nat := 0xC0008
abbrev SND_HELD_COUNT : Field := ⟨SND_HELD, 0, 16⟩
abbrev SND_CONFIRMED : Nat := 0xC000C
abbrev SND_CONFIRMED_COUNT : Field := ⟨SND_CONFIRMED, 0, 32⟩
abbrev SND_EXPIRED : Nat := 0xC0010
abbrev SND_EXPIRED_COUNT : Field := ⟨SND_EXPIRED, 0, 32⟩
abbrev SND_MAP_CTRL : Nat := 0xC0014
abbrev SND_MAP_CTRL_MARGIN : Field := ⟨SND_MAP_CTRL, 0, 6⟩
abbrev SND_MAP_CTRL_GAIN : Field := ⟨SND_MAP_CTRL, 8, 6⟩
abbrev SND_MAP_CTRL_MIN_SF : Field := ⟨SND_MAP_CTRL, 16, 8⟩
abbrev SND_FP_CTRL : Nat := 0xC0018
abbrev SND_FP_CTRL_THR : Field := ⟨SND_FP_CTRL, 0, 8⟩
abbrev SND_FP_CTRL_TAU_W : Field := ⟨SND_FP_CTRL, 8, 8⟩
abbrev SND_FP_CTRL_BULK : Field := ⟨SND_FP_CTRL, 16, 8⟩
abbrev SND_FP_EVENTS : Nat := 0xC001C
abbrev SND_FP_EVENTS_COUNT : Field := ⟨SND_FP_EVENTS, 0, 32⟩
abbrev SND_FP_REBASES : Nat := 0xC0020
abbrev SND_FP_REBASES_COUNT : Field := ⟨SND_FP_REBASES, 0, 32⟩
abbrev SND_CPL_CTRL : Nat := 0xC0024
abbrev SND_CPL_CTRL_TOL : Field := ⟨SND_CPL_CTRL, 0, 8⟩
abbrev SND_FP_NODE : Nat := 0xC0028
abbrev SND_FP_NODE_INDEX : Field := ⟨SND_FP_NODE, 0, 17⟩
abbrev SND_FP_CMD : Nat := 0xC002C
abbrev SND_FP_CMD_CMD : Field := ⟨SND_FP_CMD, 0, 2⟩
abbrev SND_LIM (c : Nat) : Nat := 0xC0040 + 0x4 * c
abbrev SND_LIM_MAG (c : Nat) : Field := ⟨SND_LIM c, 0, 8⟩
abbrev SND_LIM_PHASE (c : Nat) : Field := ⟨SND_LIM c, 8, 8⟩
abbrev SND_CPL_BASE (n : Nat) : Nat := 0xC0100 + 0x4 * n
abbrev SND_CPL_BASE_BASE (n : Nat) : Field := ⟨SND_CPL_BASE n, 0, 16⟩
abbrev SND_CPL_BASE_VALID (n : Nat) : Field := ⟨SND_CPL_BASE n, 16, 1⟩
abbrev SND_CPL_BASE_EVENT (n : Nat) : Field := ⟨SND_CPL_BASE n, 17, 1⟩
abbrev SND_CPL_BASE_KIND (n : Nat) : Field := ⟨SND_CPL_BASE n, 18, 2⟩
abbrev SND_ZL (n : Nat) (s : Nat) : Nat := 0xC0200 + 0x10 * n + 0x4 * s
abbrev SND_ZL_MAG (n : Nat) (s : Nat) : Field := ⟨SND_ZL n s, 0, 16⟩
abbrev SND_ZL_PHASE (n : Nat) (s : Nat) : Field := ⟨SND_ZL n s, 16, 12⟩
abbrev SND_ZL_VALID (n : Nat) (s : Nat) : Field := ⟨SND_ZL n s, 28, 1⟩
abbrev SND_AGCR (n : Nat) (c : Nat) : Nat := 0xC0800 + 0x48 * n + 0x4 * c
abbrev SND_AGCR_GAIN (n : Nat) (c : Nat) : Field := ⟨SND_AGCR n c, 0, 12⟩
abbrev SND_AGCR_PHASE (n : Nat) (c : Nat) : Field := ⟨SND_AGCR n c, 12, 12⟩
abbrev SND_AGCR_CAL (n : Nat) (c : Nat) : Field := ⟨SND_AGCR n c, 24, 1⟩
abbrev MAC_CTRL : Nat := 0xA0000
abbrev MAC_CTRL_ENABLE : Field := ⟨MAC_CTRL, 0, 1⟩
abbrev MAC_CTRL_ASSOC_OPEN : Field := ⟨MAC_CTRL, 1, 1⟩
abbrev MAC_CTRL_DISC_FORCE : Field := ⟨MAC_CTRL, 2, 1⟩
abbrev MAC_CTRL_CAIRN_BANDS : Field := ⟨MAC_CTRL, 4, 2⟩
abbrev MAC_NET : Nat := 0xA0004
abbrev MAC_NET_NET_ID : Field := ⟨MAC_NET, 0, 8⟩
abbrev MAC_SF_CTRL : Nat := 0xA0008
abbrev MAC_SF_CTRL_CAIRN_BIN : Field := ⟨MAC_SF_CTRL, 0, 4⟩
abbrev MAC_SF_CTRL_PCS_BINS : Field := ⟨MAC_SF_CTRL, 4, 4⟩
abbrev MAC_SF_CTRL_RELAY_BINS : Field := ⟨MAC_SF_CTRL, 8, 8⟩
abbrev MAC_SF_CTRL_RC_PERIOD : Field := ⟨MAC_SF_CTRL, 16, 2⟩
abbrev MAC_CP_CTRL : Nat := 0xA000C
abbrev MAC_CP_CTRL_CP_END_MIN : Field := ⟨MAC_CP_CTRL, 0, 10⟩
abbrev MAC_CP_CTRL_CP_END_MAX : Field := ⟨MAC_CP_CTRL, 16, 10⟩
abbrev MAC_ACCESS : Nat := 0xA0010
abbrev MAC_ACCESS_MIN_BE : Field := ⟨MAC_ACCESS, 0, 4⟩
abbrev MAC_ACCESS_MAX_BE : Field := ⟨MAC_ACCESS, 4, 4⟩
abbrev MAC_ACCESS_P0_BE : Field := ⟨MAC_ACCESS, 8, 4⟩
abbrev MAC_ACCESS_P0_MAX_BE : Field := ⟨MAC_ACCESS, 12, 4⟩
abbrev MAC_ACCESS_CS_THR : Field := ⟨MAC_ACCESS, 16, 8⟩
abbrev MAC_SUPV : Nat := 0xA0014
abbrev MAC_SUPV_SUPV : Field := ⟨MAC_SUPV, 0, 16⟩
abbrev MAC_SUPV_DISC_SF : Field := ⟨MAC_SUPV, 16, 8⟩
abbrev MAC_RDV : Nat := 0xA0018
abbrev MAC_RDV_G_BASE : Field := ⟨MAC_RDV, 0, 16⟩
abbrev MAC_RDV_RATE : Field := ⟨MAC_RDV, 16, 8⟩
abbrev MAC_GASP : Nat := 0xA001C
abbrev MAC_GASP_QUEUE : Field := ⟨MAC_GASP, 0, 16⟩
abbrev MAC_GASP_ENABLE : Field := ⟨MAC_GASP, 16, 1⟩
abbrev MAC_SFN : Nat := 0xA0020
abbrev MAC_SFN_SFN : Field := ⟨MAC_SFN, 0, 29⟩
abbrev MAC_GASP_RX : Nat := 0xA0024
abbrev MAC_GASP_RX_COUNT : Field := ⟨MAC_GASP_RX, 0, 32⟩
abbrev MAC_GASP_DUP : Nat := 0xA0028
abbrev MAC_GASP_DUP_COUNT : Field := ⟨MAC_GASP_DUP, 0, 32⟩
abbrev MAC_CAIRN_SKIP : Nat := 0xA002C
abbrev MAC_CAIRN_SKIP_COUNT : Field := ⟨MAC_CAIRN_SKIP, 0, 32⟩
abbrev MAC_EVC_REJ : Nat := 0xA0030
abbrev MAC_EVC_REJ_COUNT : Field := ⟨MAC_EVC_REJ, 0, 32⟩
abbrev MAC_HCRC_REJ : Nat := 0xA0034
abbrev MAC_HCRC_REJ_COUNT : Field := ⟨MAC_HCRC_REJ, 0, 32⟩
abbrev MAC_DESYNC : Nat := 0xA0038
abbrev MAC_DESYNC_COUNT : Field := ⟨MAC_DESYNC, 0, 32⟩
abbrev MAC_SUPV_LOST : Nat := 0xA003C
abbrev MAC_SUPV_LOST_COUNT : Field := ⟨MAC_SUPV_LOST, 0, 32⟩
abbrev MAC_TRIAD (t : Nat) : Nat := 0xA0080 + 0x4 * t
abbrev MAC_TRIAD_CP_END (t : Nat) : Field := ⟨MAC_TRIAD t, 0, 10⟩
abbrev MAC_TRIAD_DISC (t : Nat) : Field := ⟨MAC_TRIAD t, 10, 1⟩
abbrev MAC_TRIAD_GASP (t : Nat) : Field := ⟨MAC_TRIAD t, 11, 1⟩
abbrev MAC_TRIAD_NVER (t : Nat) : Field := ⟨MAC_TRIAD t, 16, 8⟩
abbrev MAC_TRIAD_NEXT (t : Nat) : Field := ⟨MAC_TRIAD t, 24, 8⟩
abbrev PT_TTL : Nat := 0xA0400
abbrev PT_TTL_BUDGET_TTL : Field := ⟨PT_TTL, 0, 16⟩
abbrev PT_THERM : Nat := 0xA0404
abbrev PT_THERM_PRED : Field := ⟨PT_THERM, 0, 16⟩
abbrev PT_NOTCH_CTRL : Nat := 0xA0408
abbrev PT_NOTCH_CTRL_ENABLE : Field := ⟨PT_NOTCH_CTRL, 0, 1⟩
abbrev PT_NOTCH_CTRL_FORCE0 : Field := ⟨PT_NOTCH_CTRL, 1, 1⟩
abbrev PT_NOTCH_CTRL_INTERVAL : Field := ⟨PT_NOTCH_CTRL, 8, 8⟩
abbrev PT_P0_WAIT : Nat := 0xA040C
abbrev PT_P0_WAIT_COUNT : Field := ⟨PT_P0_WAIT, 0, 16⟩
abbrev PT_P0_LATE : Nat := 0xA0410
abbrev PT_P0_LATE_COUNT : Field := ⟨PT_P0_LATE, 0, 32⟩
abbrev PT_BUDGET_DROP : Nat := 0xA0414
abbrev PT_BUDGET_DROP_COUNT : Field := ⟨PT_BUDGET_DROP, 0, 32⟩
abbrev PT_BUD_CFG (n : Nat) (s : Nat) : Nat := 0xA0800 + 0x40 * n + 0x10 * s
abbrev PT_BUD_CFG_WINDOW (n : Nat) (s : Nat) : Field := ⟨PT_BUD_CFG n s, 0, 12⟩
abbrev PT_BUD_CFG_LIMIT (n : Nat) (s : Nat) : Field := ⟨PT_BUD_CFG n s, 16, 10⟩
abbrev PT_BUD_ACC (n : Nat) (s : Nat) : Nat := 0xA0804 + 0x40 * n + 0x10 * s
abbrev PT_BUD_ACC_ACCOUNT (n : Nat) (s : Nat) : Field := ⟨PT_BUD_ACC n s, 0, 32⟩
abbrev PT_BUD_WAITS (n : Nat) (s : Nat) : Nat := 0xA0808 + 0x40 * n + 0x10 * s
abbrev PT_BUD_WAITS_COUNT (n : Nat) (s : Nat) : Field := ⟨PT_BUD_WAITS n s, 0, 32⟩
abbrev TRV_CTRL : Nat := 0xE0000
abbrev TRV_CTRL_ROUTE_EN : Field := ⟨TRV_CTRL, 0, 1⟩
abbrev TRV_CTRL_RELAY_EN : Field := ⟨TRV_CTRL, 1, 1⟩
abbrev TRV_ROUTE_CTRL : Nat := 0xE0004
abbrev TRV_ROUTE_CTRL_HYST : Field := ⟨TRV_ROUTE_CTRL, 0, 8⟩
abbrev TRV_ROUTE_CTRL_HOP_PEN : Field := ⟨TRV_ROUTE_CTRL, 8, 16⟩
abbrev TRV_REPAIR : Nat := 0xE0008
abbrev TRV_REPAIR_REPAIR_SF : Field := ⟨TRV_REPAIR, 0, 8⟩
abbrev TRV_STAT : Nat := 0xE000C
abbrev TRV_STAT_ASSOC : Field := ⟨TRV_STAT, 0, 18⟩
abbrev TRV_RELAY_STAT : Nat := 0xE0010
abbrev TRV_RELAY_STAT_RELAYS : Field := ⟨TRV_RELAY_STAT, 0, 8⟩
abbrev TRV_RELAY_STAT_ORPHAN : Field := ⟨TRV_RELAY_STAT, 8, 8⟩
abbrev TRV_RETRIES : Nat := 0xE0014
abbrev TRV_RETRIES_COUNT : Field := ⟨TRV_RETRIES, 0, 32⟩
abbrev TRV_ARQ_FAIL : Nat := 0xE0018
abbrev TRV_ARQ_FAIL_COUNT : Field := ⟨TRV_ARQ_FAIL, 0, 32⟩
abbrev TRV_DUP : Nat := 0xE001C
abbrev TRV_DUP_COUNT : Field := ⟨TRV_DUP, 0, 32⟩
abbrev TRV_ROUTE_CHG : Nat := 0xE0020
abbrev TRV_ROUTE_CHG_COUNT : Field := ⟨TRV_ROUTE_CHG, 0, 32⟩
abbrev TRV_RELAY_REFUSED : Nat := 0xE0024
abbrev TRV_RELAY_REFUSED_COUNT : Field := ⟨TRV_RELAY_REFUSED, 0, 32⟩
abbrev TRV_JOIN_REFUSED : Nat := 0xE0028
abbrev TRV_JOIN_REFUSED_COUNT : Field := ⟨TRV_JOIN_REFUSED, 0, 32⟩
abbrev TRV_CMD : Nat := 0xE0040
abbrev TRV_CMD_CMD : Field := ⟨TRV_CMD, 0, 4⟩
abbrev TRV_CMD_NODE : Nat := 0xE0044
abbrev TRV_CMD_NODE_INDEX : Field := ⟨TRV_CMD_NODE, 0, 17⟩
abbrev TRV_CMD_ARG : Nat := 0xE0048
abbrev TRV_CMD_ARG_PARENT : Field := ⟨TRV_CMD_ARG, 0, 20⟩
abbrev TRV_CMD_RESULT : Nat := 0xE004C
abbrev TRV_CMD_RESULT_STATUS : Field := ⟨TRV_CMD_RESULT, 0, 8⟩
abbrev TRV_CMD_RESULT_BUSY : Field := ⟨TRV_CMD_RESULT, 8, 1⟩
abbrev TRV_RT_NODE : Nat := 0xE0060
abbrev TRV_RT_NODE_INDEX : Field := ⟨TRV_RT_NODE, 0, 17⟩
abbrev TRV_RT_DATA (i : Nat) : Nat := 0xE0064 + 0x4 * i
abbrev TRV_RT_DATA_DATA (i : Nat) : Field := ⟨TRV_RT_DATA i, 0, 32⟩
abbrev TRV_EXT_NODE : Nat := 0xE0080
abbrev TRV_EXT_NODE_INDEX : Field := ⟨TRV_EXT_NODE, 0, 17⟩
abbrev TRV_PART : Nat := 0xE00A0
abbrev TRV_PART_ROLE : Field := ⟨TRV_PART, 0, 1⟩
abbrev TRV_PART_RANK : Field := ⟨TRV_PART, 1, 3⟩
abbrev TRV_PART_SA_BASE : Field := ⟨TRV_PART, 4, 3⟩
abbrev TRV_REPL_SEQ : Nat := 0xE00A4
abbrev TRV_REPL_SEQ_RSEQ : Field := ⟨TRV_REPL_SEQ, 0, 32⟩
abbrev TRV_REPL_STAT : Nat := 0xE00A8
abbrev TRV_REPL_STAT_LINKED : Field := ⟨TRV_REPL_STAT, 0, 1⟩
abbrev TRV_REPL_STAT_LAG : Field := ⟨TRV_REPL_STAT, 8, 8⟩
abbrev TRV_PH_A (t : Nat) : Nat := 0xE00C0 + 0x8 * t
abbrev TRV_PH_A_L1 (t : Nat) : Field := ⟨TRV_PH_A t, 0, 16⟩
abbrev TRV_PH_A_L2 (t : Nat) : Field := ⟨TRV_PH_A t, 16, 16⟩
abbrev TRV_PH_B (t : Nat) : Nat := 0xE00C4 + 0x8 * t
abbrev TRV_PH_B_L3 (t : Nat) : Field := ⟨TRV_PH_B t, 0, 16⟩
abbrev TRV_PH_B_OTHER (t : Nat) : Field := ⟨TRV_PH_B t, 16, 16⟩
abbrev LP_G3_CTRL (n : Nat) : Nat := 0x80200 + 0x1000 * n
abbrev LP_G3_CTRL_BOUND (n : Nat) : Field := ⟨LP_G3_CTRL n, 0, 1⟩
abbrev LP_G3_CTRL_BANDPLAN (n : Nat) : Field := ⟨LP_G3_CTRL n, 1, 1⟩
abbrev LP_G3_PAN (n : Nat) : Nat := 0x80204 + 0x1000 * n
abbrev LP_G3_PAN_PAN_ID (n : Nat) : Field := ⟨LP_G3_PAN n, 0, 16⟩
abbrev LP_G3_PAN_SHORT (n : Nat) : Field := ⟨LP_G3_PAN n, 16, 16⟩
abbrev LP_G3_CSMA (n : Nat) : Nat := 0x80208 + 0x1000 * n
abbrev LP_G3_CSMA_MIN_BE (n : Nat) : Field := ⟨LP_G3_CSMA n, 0, 4⟩
abbrev LP_G3_CSMA_MAX_BE (n : Nat) : Field := ⟨LP_G3_CSMA n, 4, 4⟩
abbrev LP_G3_CSMA_MAX_BACKOFFS (n : Nat) : Field := ⟨LP_G3_CSMA n, 8, 6⟩
abbrev LP_G3_CSMA_MAX_RETRIES (n : Nat) : Field := ⟨LP_G3_CSMA n, 16, 4⟩
abbrev LP_G3_CSMA_HP_WINDOW (n : Nat) : Field := ⟨LP_G3_CSMA n, 20, 4⟩
abbrev LP_G3_TMR (n : Nat) : Nat := 0x8020C + 0x1000 * n
abbrev LP_G3_TMR_TTL (n : Nat) : Field := ⟨LP_G3_TMR n, 0, 16⟩
abbrev LP_G3_Q (n : Nat) : Nat := 0x80210 + 0x1000 * n
abbrev LP_G3_Q_RXQ (n : Nat) : Field := ⟨LP_G3_Q n, 0, 16⟩
abbrev LP_G3_Q_TXQ (n : Nat) : Field := ⟨LP_G3_Q n, 16, 16⟩
abbrev LP_G3_RX_OK (n : Nat) : Nat := 0x80220 + 0x1000 * n
abbrev LP_G3_RX_OK_COUNT (n : Nat) : Field := ⟨LP_G3_RX_OK n, 0, 32⟩
abbrev LP_G3_RX_FCS (n : Nat) : Nat := 0x80224 + 0x1000 * n
abbrev LP_G3_RX_FCS_COUNT (n : Nat) : Field := ⟨LP_G3_RX_FCS n, 0, 32⟩
abbrev LP_G3_MIC_FAIL (n : Nat) : Nat := 0x80228 + 0x1000 * n
abbrev LP_G3_MIC_FAIL_COUNT (n : Nat) : Field := ⟨LP_G3_MIC_FAIL n, 0, 32⟩
abbrev LP_G3_REPLAY (n : Nat) : Nat := 0x8022C + 0x1000 * n
abbrev LP_G3_REPLAY_COUNT (n : Nat) : Field := ⟨LP_G3_REPLAY n, 0, 32⟩
abbrev LP_G3_TX_OK (n : Nat) : Nat := 0x80230 + 0x1000 * n
abbrev LP_G3_TX_OK_COUNT (n : Nat) : Field := ⟨LP_G3_TX_OK n, 0, 32⟩
abbrev LP_G3_TX_FAIL (n : Nat) : Nat := 0x80234 + 0x1000 * n
abbrev LP_G3_TX_FAIL_COUNT (n : Nat) : Field := ⟨LP_G3_TX_FAIL n, 0, 32⟩
abbrev LP_G3_CSMA_FAIL (n : Nat) : Nat := 0x80238 + 0x1000 * n
abbrev LP_G3_CSMA_FAIL_COUNT (n : Nat) : Field := ⟨LP_G3_CSMA_FAIL n, 0, 32⟩
abbrev LP_G3_DEFER (n : Nat) : Nat := 0x8023C + 0x1000 * n
abbrev LP_G3_DEFER_COUNT (n : Nat) : Field := ⟨LP_G3_DEFER n, 0, 32⟩
abbrev QD_CFG (q : Nat) : Nat := 0x200000 + 0x20 * q
abbrev QD_CFG_KIND (q : Nat) : Field := ⟨QD_CFG q, 0, 3⟩
abbrev QD_CFG_MODE (q : Nat) : Field := ⟨QD_CFG q, 3, 1⟩
abbrev QD_CFG_PROD (q : Nat) : Field := ⟨QD_CFG q, 4, 5⟩
abbrev QD_CFG_CONS (q : Nat) : Field := ⟨QD_CFG q, 9, 5⟩
abbrev QD_CFG_PROV_OK (q : Nat) : Field := ⟨QD_CFG q, 14, 1⟩
abbrev QD_CFG_ENABLE (q : Nat) : Field := ⟨QD_CFG q, 15, 1⟩
abbrev QD_CFG_VECTOR (q : Nat) : Field := ⟨QD_CFG q, 16, 8⟩
abbrev QD_CFG_SIZE_LOG2 (q : Nat) : Field := ⟨QD_CFG q, 24, 5⟩
abbrev QD_BASE_LO (q : Nat) : Nat := 0x200004 + 0x20 * q
abbrev QD_BASE_LO_BASE (q : Nat) : Field := ⟨QD_BASE_LO q, 0, 32⟩
abbrev QD_BASE_HI (q : Nat) : Nat := 0x200008 + 0x20 * q
abbrev QD_BASE_HI_BASE (q : Nat) : Field := ⟨QD_BASE_HI q, 0, 16⟩
abbrev QD_BASE_HI_FULL (q : Nat) : Field := ⟨QD_BASE_HI q, 16, 1⟩
abbrev QD_BASE_HI_OVERRUN (q : Nat) : Field := ⟨QD_BASE_HI q, 17, 1⟩
abbrev QD_BASE_HI_CROSSED_HI (q : Nat) : Field := ⟨QD_BASE_HI q, 18, 1⟩
abbrev QD_BASE_HI_CROSSED_LO (q : Nat) : Field := ⟨QD_BASE_HI q, 19, 1⟩
abbrev QD_BASE_HI_MARK_VALID (q : Nat) : Field := ⟨QD_BASE_HI q, 20, 1⟩
abbrev QD_BASE_HI_MARK_LOST (q : Nat) : Field := ⟨QD_BASE_HI q, 21, 1⟩
abbrev QD_BASE_HI_POISONED (q : Nat) : Field := ⟨QD_BASE_HI q, 22, 1⟩
abbrev QD_WR (q : Nat) : Nat := 0x20000C + 0x20 * q
abbrev QD_WR_WR (q : Nat) : Field := ⟨QD_WR q, 0, 32⟩
abbrev QD_RD (q : Nat) : Nat := 0x200010 + 0x20 * q
abbrev QD_RD_RD (q : Nat) : Field := ⟨QD_RD q, 0, 32⟩
abbrev QD_MARK (q : Nat) : Nat := 0x200014 + 0x20 * q
abbrev QD_MARK_MARK (q : Nat) : Field := ⟨QD_MARK q, 0, 32⟩
abbrev QD_WM (q : Nat) : Nat := 0x200018 + 0x20 * q
abbrev QD_WM_HI (q : Nat) : Field := ⟨QD_WM q, 0, 10⟩
abbrev QD_WM_LO (q : Nat) : Field := ⟨QD_WM q, 10, 10⟩
abbrev QD_WM_NOTIFY_EN (q : Nat) : Field := ⟨QD_WM q, 20, 1⟩
abbrev QD_CNT (q : Nat) : Nat := 0x20001C + 0x20 * q
abbrev QD_CNT_CNT_HI (q : Nat) : Field := ⟨QD_CNT q, 0, 8⟩
abbrev QD_CNT_CNT_LO (q : Nat) : Field := ⟨QD_CNT q, 8, 8⟩
abbrev QD_CNT_NQ (q : Nat) : Field := ⟨QD_CNT q, 16, 16⟩
abbrev QF_STORAGE : Nat := 0x100000
abbrev QF_STORAGE_CONFIG : Field := ⟨QF_STORAGE, 0, 16⟩
abbrev QF_STORAGE_USABLE : Field := ⟨QF_STORAGE, 16, 16⟩
abbrev QF_DROPS : Nat := 0x100004
abbrev QF_DROPS_COUNT : Field := ⟨QF_DROPS, 0, 32⟩
abbrev QF_REVOKES : Nat := 0x100008
abbrev QF_REVOKES_COUNT : Field := ⟨QF_REVOKES, 0, 32⟩
abbrev QF_POISON : Nat := 0x10000C
abbrev QF_POISON_COUNT : Field := ⟨QF_POISON, 0, 32⟩
abbrev QF_CONV : Nat := 0x100010
abbrev QF_CONV_CMD : Field := ⟨QF_CONV, 0, 2⟩
abbrev QF_CONV_REPLAY : Field := ⟨QF_CONV, 2, 1⟩
abbrev QF_CONV_DROP_UNFETCHED : Field := ⟨QF_CONV, 3, 1⟩
abbrev QF_CONV_FN : Field := ⟨QF_CONV, 8, 4⟩
abbrev QF_PAUSED : Nat := 0x100014
abbrev QF_PAUSED_FN : Field := ⟨QF_PAUSED, 0, 16⟩
abbrev FB_HEAD : Nat := 0x28000
abbrev FB_HEAD_SEQ : Field := ⟨FB_HEAD, 0, 32⟩
abbrev FB_ACK : Nat := 0x28004
abbrev FB_ACK_SEQ : Field := ⟨FB_ACK, 0, 32⟩
abbrev FB_LOST : Nat := 0x28008
abbrev FB_LOST_COUNT : Field := ⟨FB_LOST, 0, 32⟩
abbrev FB_CTRL : Nat := 0x2800C
abbrev FB_CTRL_NOTIFY_SEV : Field := ⟨FB_CTRL, 0, 3⟩
abbrev FB_CTRL_NOTIFY_EN : Field := ⟨FB_CTRL, 3, 1⟩
abbrev FB_CTRL_VECTOR : Field := ⟨FB_CTRL, 8, 8⟩
abbrev FB_WIN : Nat := 0x28010
abbrev FB_WIN_HALF : Field := ⟨FB_WIN, 0, 1⟩
abbrev FB_POST : Nat := 0x28014
abbrev FB_POST_CODE : Field := ⟨FB_POST, 0, 12⟩
abbrev FB_POST_SEV : Field := ⟨FB_POST, 12, 3⟩
abbrev FB_POST_ARG0 : Nat := 0x28018
abbrev FB_POST_ARG0_ARG : Field := ⟨FB_POST_ARG0, 0, 32⟩
abbrev FB_POST_ARG1 : Nat := 0x2801C
abbrev FB_POST_ARG1_ARG : Field := ⟨FB_POST_ARG1, 0, 32⟩
abbrev CX_PAGE_CTRL (p : Nat) : Nat := cxPage p + 0x0
abbrev CX_PAGE_CTRL_VECTOR (p : Nat) : Field := ⟨CX_PAGE_CTRL p, 0, 8⟩
abbrev CX_PAGE_CTRL_DUE_EN (p : Nat) : Field := ⟨CX_PAGE_CTRL p, 8, 1⟩
abbrev CX_PAGE_STAT (p : Nat) : Nat := cxPage p + 0x4
abbrev CX_PAGE_STAT_OPEN (p : Nat) : Field := ⟨CX_PAGE_STAT p, 0, 19⟩
abbrev CX_PAGE_STAT_DUE (p : Nat) : Field := ⟨CX_PAGE_STAT p, 19, 1⟩
abbrev CX_PAGE_STAT_RETIRED_SEEN (p : Nat) : Field := ⟨CX_PAGE_STAT p, 20, 1⟩
abbrev CX_PAGE_CFG (p : Nat) : Nat := cxPage p + 0x8
abbrev CX_PAGE_CFG_ROOT (p : Nat) : Field := ⟨CX_PAGE_CFG p, 0, 2⟩
abbrev CX_PAGE_CFG_PURPOSES (p : Nat) : Field := ⟨CX_PAGE_CFG p, 8, 8⟩
abbrev CX_PAGE_CFG_FUNCTION (p : Nat) : Field := ⟨CX_PAGE_CFG p, 16, 4⟩
abbrev CX_DUE_CTX (p : Nat) : Nat := cxPage p + 0xC
abbrev CX_DUE_CTX_CTX (p : Nat) : Field := ⟨CX_DUE_CTX p, 0, 19⟩
abbrev CX_DUE_CTX_VALID (p : Nat) : Field := ⟨CX_DUE_CTX p, 31, 1⟩
abbrev CX_ENC_COUNT (p : Nat) : Nat := cxPage p + 0x10
abbrev CX_ENC_COUNT_COUNT (p : Nat) : Field := ⟨CX_ENC_COUNT p, 0, 32⟩
abbrev CX_DEC_COUNT (p : Nat) : Nat := cxPage p + 0x14
abbrev CX_DEC_COUNT_COUNT (p : Nat) : Field := ⟨CX_DEC_COUNT p, 0, 32⟩
abbrev CX_TAG_FAILS (p : Nat) : Nat := cxPage p + 0x18
abbrev CX_TAG_FAILS_COUNT (p : Nat) : Field := ⟨CX_TAG_FAILS p, 0, 32⟩
abbrev CX_NONCE_EXH (p : Nat) : Nat := cxPage p + 0x1C
abbrev CX_NONCE_EXH_COUNT (p : Nat) : Field := ⟨CX_NONCE_EXH p, 0, 32⟩
abbrev CX_CTX_SEL (p : Nat) : Nat := cxPage p + 0x20
abbrev CX_CTX_SEL_CTX (p : Nat) : Field := ⟨CX_CTX_SEL p, 0, 19⟩
abbrev CX_CTX_DATA (p : Nat) (i : Nat) : Nat := cxPage p + 0x40 + 0x4 * i
abbrev CX_CTX_DATA_DATA (p : Nat) (i : Nat) : Field := ⟨CX_CTX_DATA p i, 0, 32⟩
abbrev CX_CTRL : Nat := 0x190000
abbrev CX_CTRL_AUTO_REKEY : Field := ⟨CX_CTRL, 0, 1⟩
abbrev CX_CTRL_LINK_REQUIRED : Field := ⟨CX_CTRL, 1, 1⟩
abbrev CX_ENGINE_STAT : Nat := 0x190004
abbrev CX_ENGINE_STAT_ALIVE : Field := ⟨CX_ENGINE_STAT, 0, 4⟩
abbrev CX_ENGINE_STAT_SUSP0 : Field := ⟨CX_ENGINE_STAT, 8, 3⟩
abbrev CX_ENGINE_STAT_SUSP1 : Field := ⟨CX_ENGINE_STAT, 11, 3⟩
abbrev CX_ENGINE_STAT_SUSP2 : Field := ⟨CX_ENGINE_STAT, 14, 3⟩
abbrev CX_ENGINE_STAT_SUSP3 : Field := ⟨CX_ENGINE_STAT, 17, 3⟩
abbrev CX_XCHK_FAIL : Nat := 0x190008
abbrev CX_XCHK_FAIL_COUNT : Field := ⟨CX_XCHK_FAIL, 0, 32⟩
abbrev CX_CACHE_MISS : Nat := 0x19000C
abbrev CX_CACHE_MISS_COUNT : Field := ⟨CX_CACHE_MISS, 0, 32⟩
abbrev CX_RNG_STAT : Nat := 0x190010
abbrev CX_RNG_STAT_HEALTHY : Field := ⟨CX_RNG_STAT, 0, 1⟩
abbrev CX_RNG_STAT_FAILS : Field := ⟨CX_RNG_STAT, 1, 3⟩
abbrev CX_REPLAY : Nat := 0x190014
abbrev CX_REPLAY_COUNT : Field := ⟨CX_REPLAY, 0, 32⟩
abbrev CX_UNKEYED : Nat := 0x190018
abbrev CX_UNKEYED_COUNT : Field := ⟨CX_UNKEYED, 0, 32⟩
abbrev CX_SUSPEND_COUNT : Nat := 0x19001C
abbrev CX_SUSPEND_COUNT_COUNT : Field := ⟨CX_SUSPEND_COUNT, 0, 32⟩
abbrev CX_TAMPER_CFG : Nat := 0x190020
abbrev CX_TAMPER_CFG_EN : Field := ⟨CX_TAMPER_CFG, 0, 4⟩
abbrev CX_TAMPER_CFG_POL : Field := ⟨CX_TAMPER_CFG, 4, 4⟩
abbrev CX_TAMPER_CFG_DEBOUNCE : Field := ⟨CX_TAMPER_CFG, 8, 8⟩
abbrev CX_TAMPER_STAT : Nat := 0x190024
abbrev CX_TAMPER_STAT_LATCH : Field := ⟨CX_TAMPER_STAT, 0, 4⟩
abbrev CX_TAMPER_STAT_EVENTS : Field := ⟨CX_TAMPER_STAT, 16, 16⟩
abbrev CX_IMPORT_STAT0 : Nat := 0x190028
abbrev CX_IMPORT_STAT0_VALID : Field := ⟨CX_IMPORT_STAT0, 0, 32⟩
abbrev CX_IMPORT_STAT1 : Nat := 0x19002C
abbrev CX_IMPORT_STAT1_VALID : Field := ⟨CX_IMPORT_STAT1, 0, 16⟩
abbrev CV_ROLE : Nat := 0x1A0000
abbrev CV_ROLE_FCH_CH : Field := ⟨CV_ROLE, 0, 4⟩
abbrev CV_ROLE_PARCEL_CH : Field := ⟨CV_ROLE, 4, 4⟩
abbrev CV_STAT : Nat := 0x1A0004
abbrev CV_STAT_RETIRED : Field := ⟨CV_STAT, 0, 16⟩
abbrev CV_STAT_FIXED_OK : Field := ⟨CV_STAT, 16, 4⟩
abbrev CV_SUSPECT_CTRL : Nat := 0x1A0008
abbrev CV_SUSPECT_CTRL_THR : Field := ⟨CV_SUSPECT_CTRL, 0, 8⟩
abbrev CV_SUSPECT_CNT : Nat := 0x1A000C
abbrev CV_SUSPECT_CNT_COUNT : Field := ⟨CV_SUSPECT_CNT, 0, 32⟩
abbrev CV_TESTS : Nat := 0x1A0010
abbrev CV_TESTS_COUNT : Field := ⟨CV_TESTS, 0, 32⟩
abbrev CV_CH_CFG (n : Nat) : Nat := 0x1A0100 + 0x40 * n
abbrev CV_CH_CFG_WIDTH (n : Nat) : Field := ⟨CV_CH_CFG n, 0, 7⟩
abbrev CV_CH_CFG_REFIN (n : Nat) : Field := ⟨CV_CH_CFG n, 8, 1⟩
abbrev CV_CH_CFG_REFOUT (n : Nat) : Field := ⟨CV_CH_CFG n, 9, 1⟩
abbrev CV_CH_CFG_FALLBACK (n : Nat) : Field := ⟨CV_CH_CFG n, 12, 3⟩
abbrev CV_CH_POLY_LO (n : Nat) : Nat := 0x1A0104 + 0x40 * n
abbrev CV_CH_POLY_LO_POLY (n : Nat) : Field := ⟨CV_CH_POLY_LO n, 0, 32⟩
abbrev CV_CH_POLY_HI (n : Nat) : Nat := 0x1A0108 + 0x40 * n
abbrev CV_CH_POLY_HI_POLY (n : Nat) : Field := ⟨CV_CH_POLY_HI n, 0, 32⟩
abbrev CV_CH_INIT_LO (n : Nat) : Nat := 0x1A010C + 0x40 * n
abbrev CV_CH_INIT_LO_INIT (n : Nat) : Field := ⟨CV_CH_INIT_LO n, 0, 32⟩
abbrev CV_CH_INIT_HI (n : Nat) : Nat := 0x1A0110 + 0x40 * n
abbrev CV_CH_INIT_HI_INIT (n : Nat) : Field := ⟨CV_CH_INIT_HI n, 0, 32⟩
abbrev CV_CH_XOR_LO (n : Nat) : Nat := 0x1A0114 + 0x40 * n
abbrev CV_CH_XOR_LO_XOROUT (n : Nat) : Field := ⟨CV_CH_XOR_LO n, 0, 32⟩
abbrev CV_CH_XOR_HI (n : Nat) : Nat := 0x1A0118 + 0x40 * n
abbrev CV_CH_XOR_HI_XOROUT (n : Nat) : Field := ⟨CV_CH_XOR_HI n, 0, 32⟩
abbrev CV_CH_CHKA_LO (n : Nat) : Nat := 0x1A011C + 0x40 * n
abbrev CV_CH_CHKA_LO_CHECK_A (n : Nat) : Field := ⟨CV_CH_CHKA_LO n, 0, 32⟩
abbrev CV_CH_CHKA_HI (n : Nat) : Nat := 0x1A0120 + 0x40 * n
abbrev CV_CH_CHKA_HI_CHECK_A (n : Nat) : Field := ⟨CV_CH_CHKA_HI n, 0, 32⟩
abbrev CV_CH_CHKB_LO (n : Nat) : Nat := 0x1A0124 + 0x40 * n
abbrev CV_CH_CHKB_LO_CHECK_B (n : Nat) : Field := ⟨CV_CH_CHKB_LO n, 0, 32⟩
abbrev CV_CH_CHKB_HI (n : Nat) : Nat := 0x1A0128 + 0x40 * n
abbrev CV_CH_CHKB_HI_CHECK_B (n : Nat) : Field := ⟨CV_CH_CHKB_HI n, 0, 32⟩
abbrev DTM_CTRL (x : Nat) : Nat := 0x50000 + 0x40 * x
abbrev DTM_CTRL_STEP_BACK_OK (x : Nat) : Field := ⟨DTM_CTRL x, 0, 1⟩
abbrev DTM_CTRL_SLEW_PPM (x : Nat) : Field := ⟨DTM_CTRL x, 16, 10⟩
abbrev DTM_STAT (x : Nat) : Nat := 0x50004 + 0x40 * x
abbrev DTM_STAT_VALID (x : Nat) : Field := ⟨DTM_STAT x, 0, 1⟩
abbrev DTM_STAT_SLEWING (x : Nat) : Field := ⟨DTM_STAT x, 1, 1⟩
abbrev DTM_STAT_STEP_CONVERTED (x : Nat) : Field := ⟨DTM_STAT x, 2, 1⟩
abbrev DTM_STAT_FOLLOW (x : Nat) : Field := ⟨DTM_STAT x, 3, 1⟩
abbrev DTM_INCR_LO (x : Nat) : Nat := 0x50008 + 0x40 * x
abbrev DTM_INCR_LO_FRAC (x : Nat) : Field := ⟨DTM_INCR_LO x, 0, 32⟩
abbrev DTM_INCR_HI (x : Nat) : Nat := 0x5000C + 0x40 * x
abbrev DTM_INCR_HI_INT (x : Nat) : Field := ⟨DTM_INCR_HI x, 0, 32⟩
abbrev DTM_NOW_SEC_LO (x : Nat) : Nat := 0x50010 + 0x40 * x
abbrev DTM_NOW_SEC_LO_SEC (x : Nat) : Field := ⟨DTM_NOW_SEC_LO x, 0, 32⟩
abbrev DTM_NOW_SEC_HI (x : Nat) : Nat := 0x50014 + 0x40 * x
abbrev DTM_NOW_SEC_HI_SEC (x : Nat) : Field := ⟨DTM_NOW_SEC_HI x, 0, 16⟩
abbrev DTM_NOW_SEC_HI_FRAC (x : Nat) : Field := ⟨DTM_NOW_SEC_HI x, 16, 16⟩
abbrev DTM_NOW_NS (x : Nat) : Nat := 0x50018 + 0x40 * x
abbrev DTM_NOW_NS_NS (x : Nat) : Field := ⟨DTM_NOW_NS x, 0, 30⟩
abbrev DTM_ADJ_SEC_LO (x : Nat) : Nat := 0x5001C + 0x40 * x
abbrev DTM_ADJ_SEC_LO_SEC (x : Nat) : Field := ⟨DTM_ADJ_SEC_LO x, 0, 32⟩
abbrev DTM_ADJ_SEC_HI (x : Nat) : Nat := 0x50020 + 0x40 * x
abbrev DTM_ADJ_SEC_HI_SEC (x : Nat) : Field := ⟨DTM_ADJ_SEC_HI x, 0, 16⟩
abbrev DTM_ADJ_SEC_HI_NEG (x : Nat) : Field := ⟨DTM_ADJ_SEC_HI x, 31, 1⟩
abbrev DTM_ADJ_NS (x : Nat) : Nat := 0x50024 + 0x40 * x
abbrev DTM_ADJ_NS_NS (x : Nat) : Field := ⟨DTM_ADJ_NS x, 0, 30⟩
abbrev DTM_ADJ_FRAC (x : Nat) : Nat := 0x50028 + 0x40 * x
abbrev DTM_ADJ_FRAC_FRAC (x : Nat) : Field := ⟨DTM_ADJ_FRAC x, 0, 16⟩
abbrev DTM_CMD (x : Nat) : Nat := 0x5002C + 0x40 * x
abbrev DTM_CMD_CMD (x : Nat) : Field := ⟨DTM_CMD x, 0, 2⟩
abbrev DTM_CMD_RESULT (x : Nat) : Nat := 0x50030 + 0x40 * x
abbrev DTM_CMD_RESULT_STATUS (x : Nat) : Field := ⟨DTM_CMD_RESULT x, 0, 8⟩
abbrev DTM_CMD_RESULT_CONVERTED (x : Nat) : Field := ⟨DTM_CMD_RESULT x, 8, 1⟩
abbrev DTM_CMD_RESULT_BUSY (x : Nat) : Field := ⟨DTM_CMD_RESULT x, 9, 1⟩
abbrev DTM_SLEW_REM_LO (x : Nat) : Nat := 0x50034 + 0x40 * x
abbrev DTM_SLEW_REM_LO_REM (x : Nat) : Field := ⟨DTM_SLEW_REM_LO x, 0, 32⟩
abbrev DTM_SLEW_REM_HI (x : Nat) : Nat := 0x50038 + 0x40 * x
abbrev DTM_SLEW_REM_HI_REM (x : Nat) : Field := ⟨DTM_SLEW_REM_HI x, 0, 32⟩
abbrev DTM_ACTIVE : Nat := 0x50080
abbrev DTM_ACTIVE_SEL : Field := ⟨DTM_ACTIVE, 0, 1⟩
abbrev DTM_ACTIVE_SWITCHING : Field := ⟨DTM_ACTIVE, 1, 1⟩
abbrev DTM_ACTIVE_DELTA : Nat := 0x50084
abbrev DTM_ACTIVE_DELTA_DELTA : Field := ⟨DTM_ACTIVE_DELTA, 0, 32⟩
abbrev DTM_CAPTURE : Nat := 0x50088
abbrev DTM_CAPTURE_CAP : Field := ⟨DTM_CAPTURE, 0, 1⟩
abbrev DTM_CAP (i : Nat) : Nat := 0x500A0 + 0x4 * i
abbrev DTM_CAP_DATA (i : Nat) : Field := ⟨DTM_CAP i, 0, 32⟩
abbrev DTM_TXS_STAT : Nat := 0x500C0
abbrev DTM_TXS_STAT_FILL : Field := ⟨DTM_TXS_STAT, 0, 8⟩
abbrev DTM_TXS_STAT_VECTOR : Field := ⟨DTM_TXS_STAT, 8, 8⟩
abbrev DTM_TXS_STAT_NOTIFY_EN : Field := ⟨DTM_TXS_STAT, 16, 1⟩
abbrev DTM_TXS_OVF : Nat := 0x500C4
abbrev DTM_TXS_OVF_COUNT : Field := ⟨DTM_TXS_OVF, 0, 32⟩
abbrev DTM_TXS_DATA (i : Nat) : Nat := 0x500D0 + 0x4 * i
abbrev DTM_TXS_DATA_DATA (i : Nat) : Field := ⟨DTM_TXS_DATA i, 0, 32⟩
abbrev DTM_RXS : Nat := 0x50100
abbrev DTM_RXS_QUEUE : Field := ⟨DTM_RXS, 0, 16⟩
abbrev DTM_RXS_ENABLE : Field := ⟨DTM_RXS, 16, 1⟩
abbrev DTM_TSI_CFG (k : Nat) : Nat := 0x50140 + 0x40 * k
abbrev DTM_TSI_CFG_EDGE (k : Nat) : Field := ⟨DTM_TSI_CFG k, 0, 2⟩
abbrev DTM_TSI_CFG_VECTOR (k : Nat) : Field := ⟨DTM_TSI_CFG k, 8, 8⟩
abbrev DTM_TSI_CFG_NOTIFY_EN (k : Nat) : Field := ⟨DTM_TSI_CFG k, 16, 1⟩
abbrev DTM_TSI_STAT (k : Nat) : Nat := 0x50144 + 0x40 * k
abbrev DTM_TSI_STAT_FILL (k : Nat) : Field := ⟨DTM_TSI_STAT k, 0, 5⟩
abbrev DTM_TSI_OVF (k : Nat) : Nat := 0x50148 + 0x40 * k
abbrev DTM_TSI_OVF_COUNT (k : Nat) : Field := ⟨DTM_TSI_OVF k, 0, 32⟩
abbrev DTM_TSI_DATA (k : Nat) (i : Nat) : Nat := 0x50160 + 0x40 * k + 0x4 * i
abbrev DTM_TSI_DATA_DATA (k : Nat) (i : Nat) : Field := ⟨DTM_TSI_DATA k i, 0, 32⟩
abbrev DTM_TP_CTRL (j : Nat) : Nat := 0x50200 + 0x20 * j
abbrev DTM_TP_CTRL_ENABLE (j : Nat) : Field := ⟨DTM_TP_CTRL j, 0, 1⟩
abbrev DTM_TP_CTRL_REF (j : Nat) : Field := ⟨DTM_TP_CTRL j, 1, 2⟩
abbrev DTM_TP_CTRL_PERIODIC (j : Nat) : Field := ⟨DTM_TP_CTRL j, 3, 1⟩
abbrev DTM_TP_CTRL_SKIP (j : Nat) : Field := ⟨DTM_TP_CTRL j, 4, 1⟩
abbrev DTM_TP_CTRL_WIDTH (j : Nat) : Field := ⟨DTM_TP_CTRL j, 8, 24⟩
abbrev DTM_TP_T0 (j : Nat) : Nat := 0x50204 + 0x20 * j
abbrev DTM_TP_T0_TARGET (j : Nat) : Field := ⟨DTM_TP_T0 j, 0, 32⟩
abbrev DTM_TP_T1 (j : Nat) : Nat := 0x50208 + 0x20 * j
abbrev DTM_TP_T1_TARGET (j : Nat) : Field := ⟨DTM_TP_T1 j, 0, 16⟩
abbrev DTM_TP_T2 (j : Nat) : Nat := 0x5020C + 0x20 * j
abbrev DTM_TP_T2_NS (j : Nat) : Field := ⟨DTM_TP_T2 j, 0, 30⟩
abbrev DTM_TP_PERIOD (j : Nat) : Nat := 0x50210 + 0x20 * j
abbrev DTM_TP_PERIOD_PERIOD (j : Nat) : Field := ⟨DTM_TP_PERIOD j, 0, 32⟩
abbrev DTM_TP_STAT (j : Nat) : Nat := 0x50214 + 0x20 * j
abbrev DTM_TP_STAT_FIRES (j : Nat) : Field := ⟨DTM_TP_STAT j, 0, 16⟩
abbrev DTM_TP_STAT_LATE (j : Nat) : Field := ⟨DTM_TP_STAT j, 16, 1⟩
abbrev DTM_TP_STAT_DROPPED (j : Nat) : Field := ⟨DTM_TP_STAT j, 17, 1⟩
abbrev DTM_TIME_CTRL : Nat := 0x50300
abbrev DTM_TIME_CTRL_PERIOD : Field := ⟨DTM_TIME_CTRL, 0, 16⟩
abbrev DTM_TIME_CTRL_FAST : Field := ⟨DTM_TIME_CTRL, 16, 8⟩
abbrev DTM_TIME_CTRL_ENABLE : Field := ⟨DTM_TIME_CTRL, 24, 1⟩
abbrev DTM_TIME_THR : Nat := 0x50304
abbrev DTM_TIME_THR_RTT_THR : Field := ⟨DTM_TIME_THR, 0, 16⟩
abbrev DTM_TIME_THR_AGREE : Field := ⟨DTM_TIME_THR, 16, 16⟩
abbrev DTM_TIME_NODE : Nat := 0x50308
abbrev DTM_TIME_NODE_INDEX : Field := ⟨DTM_TIME_NODE, 0, 17⟩
abbrev DTM_TIME_CMD : Nat := 0x5030C
abbrev DTM_TIME_CMD_CMD : Field := ⟨DTM_TIME_CMD, 0, 2⟩
abbrev DTM_TIME_ARG : Nat := 0x50310
abbrev DTM_TIME_ARG_CORR : Field := ⟨DTM_TIME_ARG, 0, 32⟩
abbrev DTM_TIME_RESULT : Nat := 0x50314
abbrev DTM_TIME_RESULT_STATUS : Field := ⟨DTM_TIME_RESULT, 0, 8⟩
abbrev DTM_TIME_RESULT_BUSY : Field := ⟨DTM_TIME_RESULT, 8, 1⟩
abbrev DTM_ASYM_COUNT : Nat := 0x50318
abbrev DTM_ASYM_COUNT_COUNT : Field := ⟨DTM_ASYM_COUNT, 0, 32⟩
abbrev DTM_TIME_FROZEN : Nat := 0x5031C
abbrev DTM_TIME_FROZEN_COUNT : Field := ⟨DTM_TIME_FROZEN, 0, 18⟩
abbrev CHN_ID : Nat := 0x1C0000
abbrev CHN_ID_RANK : Field := ⟨CHN_ID, 0, 3⟩
abbrev CHN_ID_ROLE : Field := ⟨CHN_ID, 4, 3⟩
abbrev CHN_ID_EN : Field := ⟨CHN_ID, 8, 1⟩
abbrev CHN_ID_N : Field := ⟨CHN_ID, 16, 4⟩
abbrev CHN_STAT : Nat := 0x1C0004
abbrev CHN_STAT_STATE : Field := ⟨CHN_STAT, 0, 3⟩
abbrev CHN_STAT_READY : Field := ⟨CHN_STAT, 3, 1⟩
abbrev CHN_STAT_WRAP_A : Field := ⟨CHN_STAT, 4, 1⟩
abbrev CHN_STAT_WRAP_B : Field := ⟨CHN_STAT, 5, 1⟩
abbrev CHN_STAT_LOS_A : Field := ⟨CHN_STAT, 6, 1⟩
abbrev CHN_STAT_LOS_B : Field := ⟨CHN_STAT, 7, 1⟩
abbrev CHN_STAT_ASYM : Field := ⟨CHN_STAT, 8, 1⟩
abbrev CHN_STAT_ASYM_HOLD : Field := ⟨CHN_STAT, 9, 1⟩
abbrev CHN_STAT_YIELDED : Field := ⟨CHN_STAT, 10, 1⟩
abbrev CHN_ROSTER : Nat := 0x1C0008
abbrev CHN_ROSTER_PRESENT : Field := ⟨CHN_ROSTER, 0, 8⟩
abbrev CHN_ROSTER_READY : Field := ⟨CHN_ROSTER, 8, 8⟩
abbrev CHN_ROSTER_MEPOCH : Field := ⟨CHN_ROSTER, 16, 16⟩
abbrev CHN_SYNC_CTRL : Nat := 0x1C000C
abbrev CHN_SYNC_CTRL_ASYM_THR : Field := ⟨CHN_SYNC_CTRL, 0, 10⟩
abbrev CHN_SYNC_CTRL_BUSY_THR : Field := ⟨CHN_SYNC_CTRL, 16, 6⟩
abbrev CHN_SYNC_SEQ : Nat := 0x1C0010
abbrev CHN_SYNC_SEQ_SEQ : Field := ⟨CHN_SYNC_SEQ, 0, 16⟩
abbrev CHN_SYNC_LOST : Nat := 0x1C0014
abbrev CHN_SYNC_LOST_COUNT : Field := ⟨CHN_SYNC_LOST, 0, 32⟩
abbrev CHN_TAKEOVERS : Nat := 0x1C0018
abbrev CHN_TAKEOVERS_COUNT : Field := ⟨CHN_TAKEOVERS, 0, 32⟩
abbrev CHN_TO_BRG_LO : Nat := 0x1C001C
abbrev CHN_TO_BRG_LO_BRG : Field := ⟨CHN_TO_BRG_LO, 0, 32⟩
abbrev CHN_TO_BRG_HI : Nat := 0x1C0020
abbrev CHN_TO_BRG_HI_BRG : Field := ⟨CHN_TO_BRG_HI, 0, 16⟩
abbrev CHN_WRAPS : Nat := 0x1C0024
abbrev CHN_WRAPS_COUNT : Field := ⟨CHN_WRAPS, 0, 32⟩
abbrev CHN_CELL_ERR : Nat := 0x1C0028
abbrev CHN_CELL_ERR_COUNT : Field := ⟨CHN_CELL_ERR, 0, 32⟩
abbrev CHN_DRIVE_REFUSED : Nat := 0x1C002C
abbrev CHN_DRIVE_REFUSED_COUNT : Field := ⟨CHN_DRIVE_REFUSED, 0, 32⟩
abbrev CHN_SHADOW_REL : Nat := 0x1C0030
abbrev CHN_SHADOW_REL_COUNT : Field := ⟨CHN_SHADOW_REL, 0, 32⟩
abbrev CHN_LINK_A : Nat := 0x1C0040
abbrev CHN_LINK_A_DELAY : Field := ⟨CHN_LINK_A, 0, 16⟩
abbrev CHN_LINK_B : Nat := 0x1C0044
abbrev CHN_LINK_B_DELAY : Field := ⟨CHN_LINK_B, 0, 16⟩
abbrev CHN_PATH_A : Nat := 0x1C0048
abbrev CHN_PATH_A_RES : Field := ⟨CHN_PATH_A, 0, 32⟩
abbrev CHN_PATH_B : Nat := 0x1C004C
abbrev CHN_PATH_B_RES : Field := ⟨CHN_PATH_B, 0, 32⟩
abbrev CHN_ASYM_DIFF : Nat := 0x1C0050
abbrev CHN_ASYM_DIFF_DIFF : Field := ⟨CHN_ASYM_DIFF, 0, 32⟩
abbrev CHN_CMD : Nat := 0x1C0060
abbrev CHN_CMD_CMD : Field := ⟨CHN_CMD, 0, 4⟩
abbrev CHN_CMD_ARG : Nat := 0x1C0064
abbrev CHN_CMD_ARG_TARGET : Field := ⟨CHN_CMD_ARG, 0, 4⟩
abbrev CHN_CMD_RESULT : Nat := 0x1C0068
abbrev CHN_CMD_RESULT_STATUS : Field := ⟨CHN_CMD_RESULT, 0, 8⟩
abbrev CHN_CMD_RESULT_BUSY : Field := ⟨CHN_CMD_RESULT, 8, 1⟩
abbrev CHN_OP_BRG_LO : Nat := 0x1C006C
abbrev CHN_OP_BRG_LO_BRG : Field := ⟨CHN_OP_BRG_LO, 0, 32⟩
abbrev CHN_OP_BRG_HI : Nat := 0x1C0070
abbrev CHN_OP_BRG_HI_BRG : Field := ⟨CHN_OP_BRG_HI, 0, 16⟩
abbrev CHN_OP_STATUS : Nat := 0x1C0074
abbrev CHN_OP_STATUS_STATE : Field := ⟨CHN_OP_STATUS, 0, 2⟩
abbrev CHN_OP_STATUS_CAUSE : Field := ⟨CHN_OP_STATUS, 2, 4⟩
abbrev CHN_OP_STATUS_MEMBERS : Field := ⟨CHN_OP_STATUS, 8, 8⟩
abbrev CHN_OP_STATUS_KIND : Field := ⟨CHN_OP_STATUS, 16, 1⟩
abbrev CHN_PAIR_STAT : Nat := 0x1C0080
abbrev CHN_PAIR_STAT_REMOTE : Field := ⟨CHN_PAIR_STAT, 0, 24⟩
abbrev SS_CTRL : Nat := 0x1D0000
abbrev SS_CTRL_ENABLE : Field := ⟨SS_CTRL, 0, 1⟩
abbrev SS_CTRL_VECTOR : Field := ⟨SS_CTRL, 8, 8⟩
abbrev SS_CTRL_NOTIFY_EN : Field := ⟨SS_CTRL, 16, 1⟩
abbrev SS_STAT : Nat := 0x1D0004
abbrev SS_STAT_F_SRC : Field := ⟨SS_STAT, 0, 2⟩
abbrev SS_STAT_CONV_OK : Field := ⟨SS_STAT, 2, 2⟩
abbrev SS_NOTCH_F : Nat := 0x1D0008
abbrev SS_NOTCH_F_FREQ : Field := ⟨SS_NOTCH_F, 0, 32⟩
abbrev SS_CONV_CFG (c : Nat) : Nat := 0x1D0010 + 0x4 * c
abbrev SS_CONV_CFG_RATE (c : Nat) : Field := ⟨SS_CONV_CFG c, 0, 7⟩
abbrev SS_LOOP_CTRL (n : Nat) : Nat := 0x1D0040 + 0x20 * n
abbrev SS_LOOP_CTRL_ENABLE (n : Nat) : Field := ⟨SS_LOOP_CTRL n, 0, 1⟩
abbrev SS_LOOP_CTRL_MODE (n : Nat) : Field := ⟨SS_LOOP_CTRL n, 1, 2⟩
abbrev SS_LOOP_CTRL_SRC (n : Nat) : Field := ⟨SS_LOOP_CTRL n, 3, 3⟩
abbrev SS_LOOP_CTRL_FAULT_HI (n : Nat) : Field := ⟨SS_LOOP_CTRL n, 6, 1⟩
abbrev SS_LOOP_LO (n : Nat) : Nat := 0x1D0044 + 0x20 * n
abbrev SS_LOOP_LO_LO (n : Nat) : Field := ⟨SS_LOOP_LO n, 0, 32⟩
abbrev SS_LOOP_HI (n : Nat) : Nat := 0x1D0048 + 0x20 * n
abbrev SS_LOOP_HI_HI (n : Nat) : Field := ⟨SS_LOOP_HI n, 0, 32⟩
abbrev SS_LOOP_HOST (n : Nat) : Nat := 0x1D004C + 0x20 * n
abbrev SS_LOOP_HOST_HOST (n : Nat) : Field := ⟨SS_LOOP_HOST n, 0, 16⟩
abbrev SS_LOOP_STAT (n : Nat) : Nat := 0x1D0050 + 0x20 * n
abbrev SS_LOOP_STAT_DEMAND (n : Nat) : Field := ⟨SS_LOOP_STAT n, 0, 16⟩
abbrev SS_LOOP_STAT_MEAS (n : Nat) : Field := ⟨SS_LOOP_STAT n, 16, 16⟩
abbrev SS_LOOP_FLAGS (n : Nat) : Nat := 0x1D0054 + 0x20 * n
abbrev SS_LOOP_FLAGS_FAULT (n : Nat) : Field := ⟨SS_LOOP_FLAGS n, 0, 1⟩
abbrev SS_LOOP_FLAGS_CAUSE (n : Nat) : Field := ⟨SS_LOOP_FLAGS n, 1, 3⟩
abbrev SS_LOOP_FLAGS_SAT_LO (n : Nat) : Field := ⟨SS_LOOP_FLAGS n, 4, 1⟩
abbrev SS_LOOP_FLAGS_SAT_HI (n : Nat) : Field := ⟨SS_LOOP_FLAGS n, 5, 1⟩
abbrev SS_LOOP_FLAGS_LOOP_FAULT (n : Nat) : Field := ⟨SS_LOOP_FLAGS n, 6, 1⟩
abbrev SS_LOOP_FLAGS_LOOP_FAULT_SEEN (n : Nat) : Field := ⟨SS_LOOP_FLAGS n, 7, 1⟩
abbrev SS_LOOP_FLAGS_FAULT_SEEN (n : Nat) : Field := ⟨SS_LOOP_FLAGS n, 8, 1⟩
abbrev SS_CH_MUX (k : Nat) : Nat := 0x1D0100 + 0x20 * k
abbrev SS_CH_MUX_ENABLE (k : Nat) : Field := ⟨SS_CH_MUX k, 0, 1⟩
abbrev SS_CH_MUX_CONV (k : Nat) : Field := ⟨SS_CH_MUX k, 1, 1⟩
abbrev SS_CH_MUX_POS (k : Nat) : Field := ⟨SS_CH_MUX k, 2, 3⟩
abbrev SS_CH_MUX_NEG (k : Nat) : Field := ⟨SS_CH_MUX k, 5, 3⟩
abbrev SS_CH_MUX_REF (k : Nat) : Field := ⟨SS_CH_MUX k, 8, 2⟩
abbrev SS_CH_MUX_REFP (k : Nat) : Field := ⟨SS_CH_MUX k, 10, 3⟩
abbrev SS_CH_MUX_REFN (k : Nat) : Field := ⟨SS_CH_MUX k, 13, 3⟩
abbrev SS_CH_MUX_BIAS_EN (k : Nat) : Field := ⟨SS_CH_MUX k, 16, 1⟩
abbrev SS_CH_MUX_BIAS (k : Nat) : Field := ⟨SS_CH_MUX k, 17, 3⟩
abbrev SS_CH_EXC (k : Nat) : Nat := 0x1D0104 + 0x20 * k
abbrev SS_CH_EXC_EXC0_EN (k : Nat) : Field := ⟨SS_CH_EXC k, 0, 1⟩
abbrev SS_CH_EXC_EXC0_PIN (k : Nat) : Field := ⟨SS_CH_EXC k, 1, 3⟩
abbrev SS_CH_EXC_EXC1_EN (k : Nat) : Field := ⟨SS_CH_EXC k, 4, 1⟩
abbrev SS_CH_EXC_EXC1_PIN (k : Nat) : Field := ⟨SS_CH_EXC k, 5, 3⟩
abbrev SS_CH_EXC_CURRENT (k : Nat) : Field := ⟨SS_CH_EXC k, 8, 10⟩
abbrev SS_CH_EXC_SETTLE (k : Nat) : Field := ⟨SS_CH_EXC k, 18, 6⟩
abbrev SS_CH_EXC_FIXED (k : Nat) : Field := ⟨SS_CH_EXC k, 24, 1⟩
abbrev SS_CH_EXC_GAIN (k : Nat) : Field := ⟨SS_CH_EXC k, 25, 3⟩
abbrev SS_CH_EXC_GAIN_MAX (k : Nat) : Field := ⟨SS_CH_EXC k, 28, 3⟩
abbrev SS_CH_LIN (k : Nat) : Nat := 0x1D0108 + 0x20 * k
abbrev SS_CH_LIN_TSRC (k : Nat) : Field := ⟨SS_CH_LIN k, 0, 4⟩
abbrev SS_CH_LIN_ORD_X (k : Nat) : Field := ⟨SS_CH_LIN k, 4, 3⟩
abbrev SS_CH_LIN_ORD_T (k : Nat) : Field := ⟨SS_CH_LIN k, 7, 2⟩
abbrev SS_CH_LIN_QEN (k : Nat) : Field := ⟨SS_CH_LIN k, 9, 1⟩
abbrev SS_CH_LIN_QUEUE (k : Nat) : Field := ⟨SS_CH_LIN k, 16, 16⟩
abbrev SS_CH_STAT (k : Nat) : Nat := 0x1D010C + 0x20 * k
abbrev SS_CH_STAT_GAIN (k : Nat) : Field := ⟨SS_CH_STAT k, 0, 3⟩
abbrev SS_CH_STAT_OPEN_NOW (k : Nat) : Field := ⟨SS_CH_STAT k, 3, 1⟩
abbrev SS_CH_STAT_OPEN (k : Nat) : Field := ⟨SS_CH_STAT k, 4, 1⟩
abbrev SS_CH_STAT_RANGE_CLIPPED (k : Nat) : Field := ⟨SS_CH_STAT k, 5, 1⟩
abbrev SS_CH_STAT_OVER (k : Nat) : Field := ⟨SS_CH_STAT k, 6, 1⟩
abbrev SS_CH_STAT_T_BAD (k : Nat) : Field := ⟨SS_CH_STAT k, 7, 1⟩
abbrev SS_CH_STAT_BAD (k : Nat) : Field := ⟨SS_CH_STAT k, 8, 2⟩
abbrev SS_CH_STAT_GOOD_ONCE (k : Nat) : Field := ⟨SS_CH_STAT k, 10, 1⟩
abbrev SS_CH_STAT_SEQ (k : Nat) : Field := ⟨SS_CH_STAT k, 16, 16⟩
abbrev SS_CH_X (k : Nat) : Nat := 0x1D0110 + 0x20 * k
abbrev SS_CH_X_X (k : Nat) : Field := ⟨SS_CH_X k, 0, 24⟩
abbrev SS_CH_Y (k : Nat) : Nat := 0x1D0114 + 0x20 * k
abbrev SS_CH_Y_Y (k : Nat) : Field := ⟨SS_CH_Y k, 0, 32⟩
abbrev SS_CH_OFS (k : Nat) : Nat := 0x1D0118 + 0x20 * k
abbrev SS_CH_OFS_OFS (k : Nat) : Field := ⟨SS_CH_OFS k, 0, 24⟩
abbrev SS_CH_COUNT (k : Nat) : Nat := 0x1D011C + 0x20 * k
abbrev SS_CH_COUNT_COUNT (k : Nat) : Field := ⟨SS_CH_COUNT k, 0, 32⟩
abbrev SS_CH_C (k : Nat) (i : Nat) (j : Nat) : Nat := 0x1D0400 + 0x80 * k + 0x10 * i + 0x4 * j
abbrev SS_CH_C_C (k : Nat) (i : Nat) (j : Nat) : Field := ⟨SS_CH_C k i j, 0, 32⟩
abbrev SP_CTRL (p : Nat) : Nat := 0x1E0000 + 0x1000 * p
abbrev SP_CTRL_ENABLE (p : Nat) : Field := ⟨SP_CTRL p, 0, 1⟩
abbrev SP_CTRL_SYNC (p : Nat) : Field := ⟨SP_CTRL p, 1, 1⟩
abbrev SP_CTRL_AUTO (p : Nat) : Field := ⟨SP_CTRL p, 2, 1⟩
abbrev SP_CTRL_WAKE_EN (p : Nat) : Field := ⟨SP_CTRL p, 3, 1⟩
abbrev SP_CTRL_OWNER (p : Nat) : Field := ⟨SP_CTRL p, 4, 1⟩
abbrev SP_CTRL_RX_DURING_DE (p : Nat) : Field := ⟨SP_CTRL p, 5, 1⟩
abbrev SP_CTRL_SEND_BRK (p : Nat) : Field := ⟨SP_CTRL p, 6, 1⟩
abbrev SP_CTRL_VECTOR (p : Nat) : Field := ⟨SP_CTRL p, 8, 8⟩
abbrev SP_CTRL_NOTIFY_EN (p : Nat) : Field := ⟨SP_CTRL p, 16, 1⟩
abbrev SP_FMT (p : Nat) : Nat := 0x1E0004 + 0x1000 * p
abbrev SP_FMT_DATA (p : Nat) : Field := ⟨SP_FMT p, 0, 4⟩
abbrev SP_FMT_PARITY (p : Nat) : Field := ⟨SP_FMT p, 4, 3⟩
abbrev SP_FMT_STOP (p : Nat) : Field := ⟨SP_FMT p, 7, 2⟩
abbrev SP_DIV (p : Nat) : Nat := 0x1E0008 + 0x1000 * p
abbrev SP_DIV_DIV (p : Nat) : Field := ⟨SP_DIV p, 0, 22⟩
abbrev SP_DE (p : Nat) : Nat := 0x1E000C + 0x1000 * p
abbrev SP_DE_LEAD (p : Nat) : Field := ⟨SP_DE p, 0, 8⟩
abbrev SP_DE_TAIL (p : Nat) : Field := ⟨SP_DE p, 8, 8⟩
abbrev SP_IDLE (p : Nat) : Nat := 0x1E0010 + 0x1000 * p
abbrev SP_IDLE_BITS (p : Nat) : Field := ⟨SP_IDLE p, 0, 16⟩
abbrev SP_STAT (p : Nat) : Nat := 0x1E0014 + 0x1000 * p
abbrev SP_STAT_RX_FILL (p : Nat) : Field := ⟨SP_STAT p, 0, 7⟩
abbrev SP_STAT_TX_FILL (p : Nat) : Field := ⟨SP_STAT p, 8, 7⟩
abbrev SP_STAT_TX_BUSY (p : Nat) : Field := ⟨SP_STAT p, 16, 1⟩
abbrev SP_STAT_LINE_LOW (p : Nat) : Field := ⟨SP_STAT p, 17, 1⟩
abbrev SP_STAT_DEAD (p : Nat) : Field := ⟨SP_STAT p, 18, 1⟩
abbrev SP_STAT_DEAD_SEEN (p : Nat) : Field := ⟨SP_STAT p, 19, 1⟩
abbrev SP_STAT_AUTO_DONE (p : Nat) : Field := ⟨SP_STAT p, 20, 1⟩
abbrev SP_STAT_OVERRUN (p : Nat) : Field := ⟨SP_STAT p, 21, 1⟩
abbrev SP_STAT_IDLE_EV (p : Nat) : Field := ⟨SP_STAT p, 22, 1⟩
abbrev SP_STAT_DE (p : Nat) : Field := ⟨SP_STAT p, 23, 1⟩
abbrev SP_RX (p : Nat) : Nat := 0x1E0018 + 0x1000 * p
abbrev SP_RX_ENTRY (p : Nat) : Field := ⟨SP_RX p, 0, 16⟩
abbrev SP_TX (p : Nat) : Nat := 0x1E001C + 0x1000 * p
abbrev SP_TX_DATA (p : Nat) : Field := ⟨SP_TX p, 0, 9⟩
abbrev SP_GLITCH (p : Nat) : Nat := 0x1E0020 + 0x1000 * p
abbrev SP_GLITCH_COUNT (p : Nat) : Field := ⟨SP_GLITCH p, 0, 32⟩
abbrev SP_RX_LOST (p : Nat) : Nat := 0x1E0024 + 0x1000 * p
abbrev SP_RX_LOST_COUNT (p : Nat) : Field := ⟨SP_RX_LOST p, 0, 32⟩
abbrev SP_BREAKS (p : Nat) : Nat := 0x1E0028 + 0x1000 * p
abbrev SP_BREAKS_COUNT (p : Nat) : Field := ⟨SP_BREAKS p, 0, 32⟩
abbrev SP_TX_DROP (p : Nat) : Nat := 0x1E002C + 0x1000 * p
abbrev SP_TX_DROP_COUNT (p : Nat) : Field := ⟨SP_TX_DROP p, 0, 32⟩
abbrev GLB_ID : Nat := 0x0
abbrev GLB_ID_PART : Field := ⟨GLB_ID, 0, 16⟩
abbrev GLB_ID_STEPPING : Field := ⟨GLB_ID, 16, 4⟩
abbrev GLB_STATE : Nat := 0x10
abbrev GLB_STATE_STATE : Field := ⟨GLB_STATE, 0, 3⟩
abbrev GLB_STATE_QUIET_CAUSE : Field := ⟨GLB_STATE, 8, 8⟩
abbrev GLB_CTRL : Nat := 0x14
abbrev GLB_CTRL_HOLD_EN : Field := ⟨GLB_CTRL, 0, 1⟩
abbrev GLB_CTRL_ESC_EN : Field := ⟨GLB_CTRL, 1, 1⟩
abbrev GLB_CTRL_QUIET_RESET : Field := ⟨GLB_CTRL, 8, 8⟩
abbrev GLB_RESET_CAUSE : Nat := 0x18
abbrev GLB_RESET_CAUSE_SOURCE : Field := ⟨GLB_RESET_CAUSE, 0, 6⟩
abbrev GLB_RESET_CAUSE_ESC_COUNT : Field := ⟨GLB_RESET_CAUSE, 6, 2⟩
abbrev GLB_RESET_CAUSE_BOOT : Field := ⟨GLB_RESET_CAUSE, 16, 16⟩
abbrev GLB_WDOG : Nat := 0x1C
abbrev GLB_WDOG_TIMEOUT : Field := ⟨GLB_WDOG, 0, 16⟩
abbrev GLB_WDOG_HOST_EN : Field := ⟨GLB_WDOG, 16, 1⟩
abbrev GLB_WDOG_HOST_ACTION : Field := ⟨GLB_WDOG, 17, 1⟩
abbrev GLB_WDOG_KICK : Nat := 0x20
abbrev GLB_WDOG_KICK_KICK : Field := ⟨GLB_WDOG_KICK, 0, 8⟩
abbrev GLB_CMD : Nat := 0x24
abbrev GLB_CMD_CMD : Field := ⟨GLB_CMD, 0, 4⟩
abbrev GLB_FROZEN : Nat := 0x28
abbrev GLB_FROZEN_MASTER : Field := ⟨GLB_FROZEN, 0, 24⟩
abbrev GLB_WEDGED : Nat := 0x2C
abbrev GLB_WEDGED_FN : Field := ⟨GLB_WEDGED, 0, 16⟩
abbrev GLB_TEMP : Nat := 0x30
abbrev GLB_TEMP_TEMP : Field := ⟨GLB_TEMP, 0, 8⟩
abbrev FLT_PEND : Nat := 0x20000
abbrev FLT_PEND_VIOL : Field := ⟨FLT_PEND, 0, 1⟩
abbrev FLT_PEND_WEDGED : Field := ⟨FLT_PEND, 1, 1⟩
abbrev FLT_PEND_WDOG : Field := ⟨FLT_PEND, 2, 1⟩
abbrev FLT_PEND_SPARE : Field := ⟨FLT_PEND, 3, 1⟩
abbrev FLT_PEND_LIFE : Field := ⟨FLT_PEND, 4, 1⟩
abbrev FLT_PEND_JOURNAL : Field := ⟨FLT_PEND, 5, 1⟩
abbrev FLT_ALERT_MASK : Nat := 0x20004
abbrev FLT_ALERT_MASK_MASK : Field := ⟨FLT_ALERT_MASK, 0, 6⟩
abbrev FLT_VIOL_COUNT : Nat := 0x20008
abbrev FLT_VIOL_COUNT_COUNT : Field := ⟨FLT_VIOL_COUNT, 0, 32⟩
abbrev FLT_VIOL_INFO : Nat := 0x2000C
abbrev FLT_VIOL_INFO_MASTER : Field := ⟨FLT_VIOL_INFO, 0, 5⟩
abbrev FLT_VIOL_INFO_KIND : Field := ⟨FLT_VIOL_INFO, 8, 4⟩
abbrev FLT_VIOL_INFO_VALID : Field := ⟨FLT_VIOL_INFO, 31, 1⟩
abbrev FLT_VIOL_ADDR : Nat := 0x20010
abbrev FLT_VIOL_ADDR_OFFSET : Field := ⟨FLT_VIOL_ADDR, 0, 32⟩
abbrev FLT_SPARES : Nat := 0x20014
abbrev FLT_SPARES_RX_SPARE : Field := ⟨FLT_SPARES, 0, 8⟩
abbrev FLT_SPARES_TX_ALIVE : Field := ⟨FLT_SPARES, 8, 8⟩
abbrev FLT_DRAM : Nat := 0x20018
abbrev FLT_DRAM_ROW_SPARES : Field := ⟨FLT_DRAM, 0, 16⟩
abbrev FLT_DRAM_PAGES_RETIRED : Field := ⟨FLT_DRAM, 16, 16⟩
abbrev FLT_DRAM_RESERVE : Nat := 0x2001C
abbrev FLT_DRAM_RESERVE_MIB : Field := ⟨FLT_DRAM_RESERVE, 0, 16⟩
abbrev FLT_LIFE_HOURS : Nat := 0x20020
abbrev FLT_LIFE_HOURS_HOURS : Field := ⟨FLT_LIFE_HOURS, 0, 32⟩
abbrev FLT_AGE : Nat := 0x20024
abbrev FLT_AGE_HOURS : Field := ⟨FLT_AGE, 0, 32⟩
abbrev FLT_JNL_STAT : Nat := 0x20028
abbrev FLT_JNL_STAT_HEAD : Field := ⟨FLT_JNL_STAT, 0, 4⟩
abbrev FLT_JNL_STAT_OK : Field := ⟨FLT_JNL_STAT, 4, 1⟩
abbrev FLT_JNL_STAT_ERASES : Field := ⟨FLT_JNL_STAT, 16, 16⟩
abbrev FLT_JNL_SEQ : Nat := 0x2002C
abbrev FLT_JNL_SEQ_JSEQ : Field := ⟨FLT_JNL_SEQ, 0, 32⟩
abbrev FLT_JNL_DROP : Nat := 0x20030
abbrev FLT_JNL_DROP_COUNT : Field := ⟨FLT_JNL_DROP, 0, 32⟩
abbrev FLT_JNL_SEL : Nat := 0x20034
abbrev FLT_JNL_SEL_INDEX : Field := ⟨FLT_JNL_SEL, 0, 14⟩
abbrev FLT_JNL_SEL_BUSY : Field := ⟨FLT_JNL_SEL, 31, 1⟩
abbrev FLT_JNL_DATA (i : Nat) : Nat := 0x20040 + 0x4 * i
abbrev FLT_JNL_DATA_DATA (i : Nat) : Field := ⟨FLT_JNL_DATA i, 0, 32⟩
abbrev HIF_LINK : Nat := 0x1F0000
abbrev HIF_LINK_SPEED : Field := ⟨HIF_LINK, 0, 4⟩
abbrev HIF_LINK_WIDTH : Field := ⟨HIF_LINK, 4, 5⟩
abbrev HIF_LINK_POWER : Field := ⟨HIF_LINK, 9, 2⟩
abbrev HIF_LINK_DL_UP : Field := ⟨HIF_LINK, 11, 1⟩
abbrev HIF_STRAPS : Nat := 0x1F0004
abbrev HIF_STRAPS_BOOT_SEL : Field := ⟨HIF_STRAPS, 0, 2⟩
abbrev HIF_STRAPS_CHAIN_RANK : Field := ⟨HIF_STRAPS, 2, 3⟩
abbrev HIF_STRAPS_CHAIN_EN : Field := ⟨HIF_STRAPS, 5, 1⟩
abbrev HIF_STRAPS_MGT_ADDR : Field := ⟨HIF_STRAPS, 6, 2⟩
abbrev HIF_STRAPS_REFCLK_SEL : Field := ⟨HIF_STRAPS, 8, 1⟩
abbrev HIF_FN_STAT : Nat := 0x1F0008
abbrev HIF_FN_STAT_PRESENT : Field := ⟨HIF_FN_STAT, 0, 16⟩
abbrev HIF_FN_STAT_BME : Field := ⟨HIF_FN_STAT, 16, 16⟩
abbrev HIF_FLR_SEEN : Nat := 0x1F000C
abbrev HIF_FLR_SEEN_FN : Field := ⟨HIF_FLR_SEEN, 0, 16⟩
abbrev HIF_DMA_ERR : Nat := 0x1F0010
abbrev HIF_DMA_ERR_COUNT : Field := ⟨HIF_DMA_ERR, 0, 32⟩
abbrev HIF_DMA_ERR_INFO : Nat := 0x1F0014
abbrev HIF_DMA_ERR_INFO_FN : Field := ⟨HIF_DMA_ERR_INFO, 0, 4⟩
abbrev HIF_DMA_ERR_INFO_KIND : Field := ⟨HIF_DMA_ERR_INFO, 4, 3⟩
abbrev HIF_DMA_ERR_INFO_VALID : Field := ⟨HIF_DMA_ERR_INFO, 31, 1⟩
abbrev HIF_AER_CORR : Nat := 0x1F0018
abbrev HIF_AER_CORR_COUNT : Field := ⟨HIF_AER_CORR, 0, 32⟩
abbrev HIF_AER_UNCORR : Nat := 0x1F001C
abbrev HIF_AER_UNCORR_COUNT : Field := ⟨HIF_AER_UNCORR, 0, 32⟩
abbrev HIF_I2C_READS : Nat := 0x1F0020
abbrev HIF_I2C_READS_COUNT : Field := ⟨HIF_I2C_READS, 0, 32⟩
abbrev HIF_CONSOLE : Nat := 0x1F0024
abbrev HIF_CONSOLE_LINES : Field := ⟨HIF_CONSOLE, 0, 16⟩
abbrev HIF_CONSOLE_REFUSED : Field := ⟨HIF_CONSOLE, 16, 16⟩
abbrev HIF_FIXVEC_EN : Nat := 0x1F0030
abbrev HIF_FIXVEC_EN_EN : Field := ⟨HIF_FIXVEC_EN, 0, 10⟩
abbrev HIF_CON_OPEN_BASE (r : Nat) : Nat := 0x1F0100 + 0x8 * r
abbrev HIF_CON_OPEN_BASE_BASE (r : Nat) : Field := ⟨HIF_CON_OPEN_BASE r, 0, 21⟩
abbrev HIF_CON_OPEN_BASE_EN (r : Nat) : Field := ⟨HIF_CON_OPEN_BASE r, 31, 1⟩
abbrev HIF_CON_OPEN_LIMIT (r : Nat) : Nat := 0x1F0104 + 0x8 * r
abbrev HIF_CON_OPEN_LIMIT_LIMIT (r : Nat) : Field := ⟨HIF_CON_OPEN_LIMIT r, 0, 21⟩
abbrev CHN_SNAP_DATA (i : Nat) : Nat := 0x1C0100 + 0x4 * i
abbrev CHN_SNAP_DATA_DATA (i : Nat) : Field := ⟨CHN_SNAP_DATA i, 0, 32⟩

end Reg

/-- Registers CFG_STATUS to CFG_FLASH_SLOTS. DESIGN CHOICE (log entry 180): bits 3:0 of CFG_HOST_ADDR_LO, which must be 0 (R84), are
stored and used as written. -/
def regsCFG : List RegSpec := [
  ⟨0x10000, [], [⟨0, 1, .ro, 0⟩, ⟨1, 3, .ro, 0⟩, ⟨4, 1, .ro, 0⟩, ⟨5, 2, .ro, 0⟩]⟩,
  ⟨0x10004, [], [⟨0, 8, .ro, 0⟩, ⟨8, 8, .ro, 0⟩, ⟨16, 1, .ro, 0⟩, ⟨17, 3, .ro, 0⟩]⟩,
  ⟨0x10008, [], [⟨0, 32, .ro, 0⟩]⟩,
  ⟨0x1000C, [], [⟨0, 32, .ro, 0⟩]⟩,
  ⟨0x10010, [], [⟨0, 4, .wo, 0⟩]⟩,
  ⟨0x10014, [], [⟨0, 8, .ro, 0⟩, ⟨8, 1, .ro, 0⟩]⟩,
  ⟨0x10018, [], [⟨0, 32, .rw, 0⟩]⟩,
  ⟨0x1001C, [], [⟨0, 32, .rw, 0⟩]⟩,
  ⟨0x10020, [], [⟨0, 32, .rw, 0⟩]⟩,
  ⟨0x10024, [], [⟨0, 32, .rw, 0⟩]⟩,
  ⟨0x10028, [], [⟨0, 16, .rw, 0⟩]⟩,
  ⟨0x1002C, [], [⟨0, 2, .ro, 0⟩, ⟨2, 4, .ro, 0⟩, ⟨8, 8, .ro, 0⟩]⟩,
  ⟨0x10030, [], [⟨0, 32, .ro, 0⟩]⟩,
  ⟨0x10034, [], [⟨0, 24, .ro, 0⟩]⟩,
  ⟨0x10038, [], [⟨0, 1, .ro, 0⟩, ⟨1, 1, .ro, 0⟩]⟩]

/-- Registers BRG_CTRL to BRG_NM_CTRL. -/
def regsBRG : List RegSpec := [
  ⟨0x40000, [], [⟨0, 1, .rwl, 0⟩, ⟨1, 1, .rwl, 0⟩, ⟨8, 8, .rwl, 20⟩]⟩,
  ⟨0x40004, [], [⟨0, 5, .rwl, 0⟩, ⟨8, 5, .rwl, 31⟩]⟩,
  ⟨0x40008, [], [⟨0, 3, .ro, 0⟩, ⟨4, 2, .ro, 0⟩, ⟨8, 1, .ro, 0⟩, ⟨9, 1, .w1c, 0⟩, ⟨10, 1, .ro, 0⟩]⟩,
  ⟨0x4000C, [], [⟨0, 32, .ro, 0⟩]⟩,
  ⟨0x40010, [], [⟨0, 32, .ro, 0⟩]⟩,
  ⟨0x40014, [], [⟨0, 16, .ro, 0⟩]⟩,
  ⟨0x40018, [], [⟨0, 32, .ro, 0⟩]⟩,
  ⟨0x4001C, [], [⟨0, 16, .ro, 0⟩]⟩,
  ⟨0x40020, [], [⟨0, 32, .ro, 0⟩]⟩,
  ⟨0x40024, [], [⟨0, 16, .ro, 0⟩]⟩,
  ⟨0x40028, [], [⟨0, 32, .ro, 0⟩]⟩,
  ⟨0x4002C, [], [⟨0, 16, .ro, 0⟩]⟩,
  ⟨0x40030, [], [⟨0, 32, .ro, 0⟩]⟩,
  ⟨0x40034, [], [⟨0, 32, .ro, 0⟩]⟩,
  ⟨0x40040, [(0x4, 24)], [⟨0, 16, .ro, 0⟩, ⟨16, 1, .ro, 0⟩, ⟨17, 4, .ro, 0⟩, ⟨21, 1, .ro, 0⟩, ⟨24, 1, .w1c, 0⟩, ⟨25, 1, .w1c, 0⟩]⟩,
  ⟨0x400A0, [], [⟨0, 24, .ro, 0⟩]⟩,
  ⟨0x400A4, [], [⟨0, 8, .ro, 0⟩, ⟨8, 8, .w1c, 0⟩]⟩,
  ⟨0x400C0, [(0x10, 4)], [⟨0, 32, .rw, 0⟩]⟩,
  ⟨0x400C4, [(0x10, 4)], [⟨0, 16, .rw, 0⟩, ⟨16, 1, .rw, 0⟩, ⟨31, 1, .rw, 0⟩]⟩,
  ⟨0x400C8, [(0x10, 4)], [⟨0, 1, .w1c, 0⟩, ⟨1, 1, .w1c, 0⟩, ⟨2, 1, .w1c, 0⟩]⟩,
  ⟨0x40100, [(0x4, 24)], [⟨0, 16, .rwl, 0⟩]⟩,
  ⟨0x40180, [], [⟨0, 1, .rw, 1⟩, ⟨8, 8, .rwl, 24⟩, ⟨16, 7, .rwl, 32⟩, ⟨24, 1, .rw, 0⟩]⟩]

/-- Registers LP_CTRL to LP_BANK_PRED. -/
def regsLP : List RegSpec := [
  ⟨0x80000, [(0x1000, 24)], [⟨0, 1, .rwl, 0⟩, ⟨1, 1, .rwl, 1⟩, ⟨2, 1, .ro, 0⟩]⟩,
  ⟨0x80004, [(0x1000, 24)], [⟨0, 3, .ro, 0⟩, ⟨3, 4, .ro, 0⟩, ⟨7, 4, .ro, 0⟩, ⟨11, 1, .ro, 0⟩, ⟨12, 1, .ro, 0⟩, ⟨13, 1, .ro, 0⟩, ⟨14, 1, .ro, 0⟩]⟩,
  ⟨0x80008, [(0x1000, 24)], [⟨0, 1, .rw, 0⟩, ⟨1, 5, .rw, 4⟩, ⟨8, 6, .rw, 20⟩, ⟨16, 5, .rwl, 6⟩]⟩,
  ⟨0x8000C, [(0x1000, 24)], [⟨0, 5, .ro, 0⟩, ⟨8, 8, .ro, 255⟩, ⟨16, 7, .ro, 0⟩, ⟨23, 1, .ro, 0⟩]⟩,
  ⟨0x80010, [(0x1000, 24)], [⟨0, 32, .ro, 0⟩]⟩,
  ⟨0x80014, [(0x1000, 24)], [⟨0, 32, .ro, 0⟩]⟩,
  ⟨0x80018, [(0x1000, 24)], [⟨0, 5, .rw, 0⟩, ⟨8, 5, .ro, 0⟩]⟩,
  ⟨0x8001C, [(0x1000, 24)], [⟨0, 1, .rw, 1⟩, ⟨4, 5, .rw, 6⟩, ⟨12, 4, .rw, 4⟩]⟩,
  ⟨0x80020, [(0x1000, 24)], [⟨0, 5, .ro, 0⟩, ⟨8, 16, .ro, 0⟩]⟩,
  ⟨0x80024, [(0x1000, 24)], [⟨0, 12, .ro, 0⟩, ⟨12, 4, .ro, 0⟩, ⟨16, 12, .ro, 0⟩]⟩,
  ⟨0x80028, [(0x1000, 24)], [⟨0, 12, .w1c, 0⟩]⟩,
  ⟨0x8002C, [(0x1000, 24)], [⟨0, 8, .rw, 64⟩, ⟨8, 1, .rw, 1⟩]⟩,
  ⟨0x80030, [(0x1000, 24)], [⟨0, 9, .ro, 171⟩, ⟨16, 16, .ro, 0⟩]⟩,
  ⟨0x80034, [(0x1000, 24)], [⟨0, 16, .ro, 0⟩]⟩,
  ⟨0x80038, [(0x1000, 24)], [⟨0, 8, .ro, 0⟩]⟩,
  ⟨0x8003C, [(0x1000, 24)], [⟨0, 32, .ro, 0⟩]⟩,
  ⟨0x80040, [(0x1000, 24)], [⟨0, 32, .ro, 0⟩]⟩,
  ⟨0x80044, [(0x1000, 24)], [⟨0, 9, .rwl, 171⟩]⟩,
  ⟨0x80800, [(0x6000, 4)], [⟨0, 12, .ro, 0⟩, ⟨16, 8, .ro, 0⟩, ⟨24, 1, .ro, 0⟩, ⟨25, 1, .w1c, 0⟩, ⟨26, 1, .w1c, 0⟩]⟩,
  ⟨0x80804, [(0x6000, 4)], [⟨0, 16, .ro, 0⟩]⟩]

/-- Registers SND_CTRL to SND_AGCR. -/
def regsSND : List RegSpec := [
  ⟨0xC0000, [], [⟨0, 1, .rw, 1⟩, ⟨1, 1, .rwl, 1⟩, ⟨2, 1, .rw, 0⟩, ⟨8, 6, .rwl, 30⟩, ⟨16, 8, .rwl, 64⟩]⟩,
  ⟨0xC0004, [], [⟨0, 24, .ro, 0⟩]⟩,
  ⟨0xC0008, [], [⟨0, 16, .ro, 0⟩]⟩,
  ⟨0xC000C, [], [⟨0, 32, .ro, 0⟩]⟩,
  ⟨0xC0010, [], [⟨0, 32, .ro, 0⟩]⟩,
  ⟨0xC0014, [], [⟨0, 6, .rw, 12⟩, ⟨8, 6, .rw, 5⟩, ⟨16, 8, .rw, 8⟩]⟩,
  ⟨0xC0018, [], [⟨0, 8, .rw, 16⟩, ⟨8, 8, .rw, 4⟩, ⟨16, 8, .rw, 8⟩]⟩,
  ⟨0xC001C, [], [⟨0, 32, .ro, 0⟩]⟩,
  ⟨0xC0020, [], [⟨0, 32, .ro, 0⟩]⟩,
  ⟨0xC0024, [], [⟨0, 8, .rw, 20⟩]⟩,
  ⟨0xC0028, [], [⟨0, 17, .rw, 0⟩]⟩,
  ⟨0xC002C, [], [⟨0, 2, .wo, 0⟩]⟩,
  ⟨0xC0040, [(0x4, 6)], [⟨0, 8, .rwl, 0⟩, ⟨8, 8, .rwl, 0⟩]⟩,
  ⟨0xC0100, [(0x4, 24)], [⟨0, 16, .ro, 0⟩, ⟨16, 1, .ro, 0⟩, ⟨17, 1, .w1c, 0⟩, ⟨18, 2, .ro, 0⟩]⟩,
  ⟨0xC0200, [(0x10, 24), (0x4, 4)], [⟨0, 16, .ro, 0⟩, ⟨16, 12, .ro, 0⟩, ⟨28, 1, .ro, 0⟩]⟩,
  ⟨0xC0800, [(0x48, 24), (0x4, 18)], [⟨0, 12, .ro, 3000⟩, ⟨12, 12, .ro, 0⟩, ⟨24, 1, .ro, 0⟩]⟩]

/-- Registers MAC_CTRL to PT_BUD_WAITS. -/
def regsMACPT : List RegSpec := [
  ⟨0xA0000, [], [⟨0, 1, .rw, 1⟩, ⟨1, 1, .rw, 1⟩, ⟨2, 1, .rw, 0⟩, ⟨4, 2, .rwl, 3⟩]⟩,
  ⟨0xA0004, [], [⟨0, 8, .rwl, 0⟩]⟩,
  ⟨0xA0008, [], [⟨0, 4, .rwl, 1⟩, ⟨4, 4, .rwl, 4⟩, ⟨8, 8, .rwl, 160⟩, ⟨16, 2, .rwl, 2⟩]⟩,
  ⟨0xA000C, [], [⟨0, 10, .rwl, 448⟩, ⟨16, 10, .rwl, 832⟩]⟩,
  ⟨0xA0010, [], [⟨0, 4, .rwl, 3⟩, ⟨4, 4, .rwl, 8⟩, ⟨8, 4, .rwl, 2⟩, ⟨12, 4, .rwl, 3⟩, ⟨16, 8, .rwl, 40⟩]⟩,
  ⟨0xA0014, [], [⟨0, 16, .rwl, 64⟩, ⟨16, 8, .rwl, 64⟩]⟩,
  ⟨0xA0018, [], [⟨0, 16, .rwl, 256⟩, ⟨16, 8, .rwl, 40⟩]⟩,
  ⟨0xA001C, [], [⟨0, 16, .rwl, 0⟩, ⟨16, 1, .rwl, 1⟩]⟩,
  ⟨0xA0020, [], [⟨0, 29, .ro, 0⟩]⟩,
  ⟨0xA0024, [], [⟨0, 32, .ro, 0⟩]⟩,
  ⟨0xA0028, [], [⟨0, 32, .ro, 0⟩]⟩,
  ⟨0xA002C, [], [⟨0, 32, .ro, 0⟩]⟩,
  ⟨0xA0030, [], [⟨0, 32, .ro, 0⟩]⟩,
  ⟨0xA0034, [], [⟨0, 32, .ro, 0⟩]⟩,
  ⟨0xA0038, [], [⟨0, 32, .ro, 0⟩]⟩,
  ⟨0xA003C, [], [⟨0, 32, .ro, 0⟩]⟩,
  ⟨0xA0080, [(0x4, 8)], [⟨0, 10, .ro, 0⟩, ⟨10, 1, .ro, 0⟩, ⟨11, 1, .ro, 0⟩, ⟨16, 8, .ro, 0⟩, ⟨24, 8, .ro, 0⟩]⟩,
  ⟨0xA0400, [], [⟨0, 16, .rwl, 256⟩]⟩,
  ⟨0xA0404, [], [⟨0, 16, .ro, 0⟩]⟩,
  ⟨0xA0408, [], [⟨0, 1, .rwl, 1⟩, ⟨1, 1, .rw, 0⟩, ⟨8, 8, .rwl, 16⟩]⟩,
  ⟨0xA040C, [], [⟨0, 16, .ro, 0⟩]⟩,
  ⟨0xA0410, [], [⟨0, 32, .ro, 0⟩]⟩,
  ⟨0xA0414, [], [⟨0, 32, .ro, 0⟩]⟩,
  ⟨0xA0800, [(0x40, 24), (0x10, 4)], [⟨0, 12, .rwl, 60⟩, ⟨16, 10, .rwl, 1000⟩]⟩,
  ⟨0xA0804, [(0x40, 24), (0x10, 4)], [⟨0, 32, .ro, 0⟩]⟩,
  ⟨0xA0808, [(0x40, 24), (0x10, 4)], [⟨0, 32, .ro, 0⟩]⟩]

/-- Registers TRV_CTRL to TRV_PH_B. -/
def regsTRV : List RegSpec := [
  ⟨0xE0000, [], [⟨0, 1, .rw, 1⟩, ⟨1, 1, .rwl, 1⟩]⟩,
  ⟨0xE0004, [], [⟨0, 8, .rwl, 25⟩, ⟨8, 16, .rwl, 50⟩]⟩,
  ⟨0xE0008, [], [⟨0, 8, .rwl, 32⟩]⟩,
  ⟨0xE000C, [], [⟨0, 18, .ro, 0⟩]⟩,
  ⟨0xE0010, [], [⟨0, 8, .ro, 0⟩, ⟨8, 8, .ro, 0⟩]⟩,
  ⟨0xE0014, [], [⟨0, 32, .ro, 0⟩]⟩,
  ⟨0xE0018, [], [⟨0, 32, .ro, 0⟩]⟩,
  ⟨0xE001C, [], [⟨0, 32, .ro, 0⟩]⟩,
  ⟨0xE0020, [], [⟨0, 32, .ro, 0⟩]⟩,
  ⟨0xE0024, [], [⟨0, 32, .ro, 0⟩]⟩,
  ⟨0xE0028, [], [⟨0, 32, .ro, 0⟩]⟩,
  ⟨0xE0040, [], [⟨0, 4, .wo, 0⟩]⟩,
  ⟨0xE0044, [], [⟨0, 17, .rw, 0⟩]⟩,
  ⟨0xE0048, [], [⟨0, 20, .rw, 0⟩]⟩,
  ⟨0xE004C, [], [⟨0, 8, .ro, 0⟩, ⟨8, 1, .ro, 0⟩]⟩,
  ⟨0xE0060, [], [⟨0, 17, .rw, 0⟩]⟩,
  ⟨0xE0064, [(0x4, 4)], [⟨0, 32, .ro, 0⟩]⟩,
  ⟨0xE0080, [], [⟨0, 17, .rw, 0⟩]⟩,
  ⟨0xE00A0, [], [⟨0, 1, .ro, 0⟩, ⟨1, 3, .ro, 0⟩, ⟨4, 3, .rwl, 0⟩]⟩,
  ⟨0xE00A4, [], [⟨0, 32, .ro, 0⟩]⟩,
  ⟨0xE00A8, [], [⟨0, 1, .ro, 0⟩, ⟨8, 8, .ro, 0⟩]⟩,
  ⟨0xE00C0, [(0x8, 8)], [⟨0, 16, .ro, 0⟩, ⟨16, 16, .ro, 0⟩]⟩,
  ⟨0xE00C4, [(0x8, 8)], [⟨0, 16, .ro, 0⟩, ⟨16, 16, .ro, 0⟩]⟩]

/-- Registers LP_G3_CTRL to LP_G3_DEFER. -/
def regsLPG3 : List RegSpec := [
  ⟨0x80200, [(0x1000, 24)], [⟨0, 1, .ro, 0⟩, ⟨1, 1, .rwl, 0⟩]⟩,
  ⟨0x80204, [(0x1000, 24)], [⟨0, 16, .rw, 65535⟩, ⟨16, 16, .rw, 65535⟩]⟩,
  ⟨0x80208, [(0x1000, 24)], [⟨0, 4, .rw, 3⟩, ⟨4, 4, .rw, 8⟩, ⟨8, 6, .rw, 50⟩, ⟨16, 4, .rw, 5⟩, ⟨20, 4, .rw, 7⟩]⟩,
  ⟨0x8020C, [(0x1000, 24)], [⟨0, 16, .rw, 120⟩]⟩,
  ⟨0x80210, [(0x1000, 24)], [⟨0, 16, .rwl, 0⟩, ⟨16, 16, .rwl, 0⟩]⟩,
  ⟨0x80220, [(0x1000, 24)], [⟨0, 32, .ro, 0⟩]⟩,
  ⟨0x80224, [(0x1000, 24)], [⟨0, 32, .ro, 0⟩]⟩,
  ⟨0x80228, [(0x1000, 24)], [⟨0, 32, .ro, 0⟩]⟩,
  ⟨0x8022C, [(0x1000, 24)], [⟨0, 32, .ro, 0⟩]⟩,
  ⟨0x80230, [(0x1000, 24)], [⟨0, 32, .ro, 0⟩]⟩,
  ⟨0x80234, [(0x1000, 24)], [⟨0, 32, .ro, 0⟩]⟩,
  ⟨0x80238, [(0x1000, 24)], [⟨0, 32, .ro, 0⟩]⟩,
  ⟨0x8023C, [(0x1000, 24)], [⟨0, 32, .ro, 0⟩]⟩]

/-- Registers QD_CFG to QD_CNT. -/
def regsQD : List RegSpec := [
  ⟨0x200000, [(0x20, 65536)], [⟨0, 3, .rwl, 0⟩, ⟨3, 1, .rwl, 0⟩, ⟨4, 5, .rwl, 0⟩, ⟨9, 5, .rwl, 0⟩, ⟨14, 1, .rw, 0⟩, ⟨15, 1, .rw, 0⟩, ⟨16, 8, .rw, 0⟩, ⟨24, 5, .rwl, 0⟩]⟩,
  ⟨0x200004, [(0x20, 65536)], [⟨0, 32, .rw, 0⟩]⟩,
  ⟨0x200008, [(0x20, 65536)], [⟨0, 16, .rw, 0⟩, ⟨16, 1, .ro, 0⟩, ⟨17, 1, .w1c, 0⟩, ⟨18, 1, .w1c, 0⟩, ⟨19, 1, .w1c, 0⟩, ⟨20, 1, .ro, 0⟩, ⟨21, 1, .w1c, 0⟩, ⟨22, 1, .w1c, 0⟩]⟩,
  ⟨0x20000C, [(0x20, 65536)], [⟨0, 32, .ro, 0⟩]⟩,
  ⟨0x200010, [(0x20, 65536)], [⟨0, 32, .ro, 0⟩]⟩,
  ⟨0x200014, [(0x20, 65536)], [⟨0, 32, .ro, 0⟩]⟩,
  ⟨0x200018, [(0x20, 65536)], [⟨0, 10, .rw, 1023⟩, ⟨10, 10, .rw, 0⟩, ⟨20, 1, .rw, 0⟩]⟩,
  ⟨0x20001C, [(0x20, 65536)], [⟨0, 8, .ro, 0⟩, ⟨8, 8, .ro, 0⟩, ⟨16, 16, .rw, 0⟩]⟩]

/-- Registers QF_STORAGE to QF_PAUSED. -/
def regsQF : List RegSpec := [
  ⟨0x100000, [], [⟨0, 16, .ro, 0⟩, ⟨16, 16, .ro, 0⟩]⟩,
  ⟨0x100004, [], [⟨0, 32, .ro, 0⟩]⟩,
  ⟨0x100008, [], [⟨0, 32, .ro, 0⟩]⟩,
  ⟨0x10000C, [], [⟨0, 32, .ro, 0⟩]⟩,
  ⟨0x100010, [], [⟨0, 2, .wo, 0⟩, ⟨2, 1, .wo, 0⟩, ⟨3, 1, .wo, 0⟩, ⟨8, 4, .wo, 0⟩]⟩,
  ⟨0x100014, [], [⟨0, 16, .ro, 0⟩]⟩]

/-- Registers FB_HEAD to FB_POST_ARG1. -/
def regsFB : List RegSpec := [
  ⟨0x28000, [], [⟨0, 32, .ro, 0⟩]⟩,
  ⟨0x28004, [], [⟨0, 32, .rw, 0⟩]⟩,
  ⟨0x28008, [], [⟨0, 32, .ro, 0⟩]⟩,
  ⟨0x2800C, [], [⟨0, 3, .rw, 2⟩, ⟨3, 1, .rw, 0⟩, ⟨8, 8, .rw, 0⟩]⟩,
  ⟨0x28010, [], [⟨0, 1, .rw, 0⟩]⟩,
  ⟨0x28014, [], [⟨0, 12, .wo, 0⟩, ⟨12, 3, .wo, 0⟩]⟩,
  ⟨0x28018, [], [⟨0, 32, .rw, 0⟩]⟩,
  ⟨0x2801C, [], [⟨0, 32, .rw, 0⟩]⟩]

/-- Registers CX_PAGE_CTRL to CX16_CTX_DATA. -/
def regsCX : List RegSpec := [
  ⟨0x180000, [(0x1000, 16)], [⟨0, 8, .rw, 0⟩, ⟨8, 1, .rw, 0⟩]⟩,
  ⟨0x180004, [(0x1000, 16)], [⟨0, 19, .ro, 0⟩, ⟨19, 1, .w1c, 0⟩, ⟨20, 1, .w1c, 0⟩]⟩,
  ⟨0x180008, [(0x1000, 16)], [⟨0, 2, .rwl, 0⟩, ⟨8, 8, .rwl, 0⟩, ⟨16, 4, .rwl, 0⟩]⟩,
  ⟨0x18000C, [(0x1000, 16)], [⟨0, 19, .ro, 0⟩, ⟨31, 1, .ro, 0⟩]⟩,
  ⟨0x180010, [(0x1000, 16)], [⟨0, 32, .ro, 0⟩]⟩,
  ⟨0x180014, [(0x1000, 16)], [⟨0, 32, .ro, 0⟩]⟩,
  ⟨0x180018, [(0x1000, 16)], [⟨0, 32, .ro, 0⟩]⟩,
  ⟨0x18001C, [(0x1000, 16)], [⟨0, 32, .ro, 0⟩]⟩,
  ⟨0x180020, [(0x1000, 16)], [⟨0, 19, .rw, 0⟩]⟩,
  ⟨0x180040, [(0x1000, 16), (0x4, 8)], [⟨0, 32, .ro, 0⟩]⟩,
  ⟨0x198000, [], [⟨0, 8, .rw, 0⟩, ⟨8, 1, .rw, 0⟩]⟩,
  ⟨0x198004, [], [⟨0, 19, .ro, 0⟩, ⟨19, 1, .w1c, 0⟩, ⟨20, 1, .w1c, 0⟩]⟩,
  ⟨0x198008, [], [⟨0, 2, .rwl, 0⟩, ⟨8, 8, .rwl, 0⟩, ⟨16, 4, .rwl, 0⟩]⟩,
  ⟨0x19800C, [], [⟨0, 19, .ro, 0⟩, ⟨31, 1, .ro, 0⟩]⟩,
  ⟨0x198010, [], [⟨0, 32, .ro, 0⟩]⟩,
  ⟨0x198014, [], [⟨0, 32, .ro, 0⟩]⟩,
  ⟨0x198018, [], [⟨0, 32, .ro, 0⟩]⟩,
  ⟨0x19801C, [], [⟨0, 32, .ro, 0⟩]⟩,
  ⟨0x198020, [], [⟨0, 19, .rw, 0⟩]⟩,
  ⟨0x198040, [(0x4, 8)], [⟨0, 32, .ro, 0⟩]⟩]

/-- Registers CX_CTRL to CX_IMPORT_STAT1. -/
def regsCXC : List RegSpec := [
  ⟨0x190000, [], [⟨0, 1, .rwl, 1⟩, ⟨1, 1, .rwl, 1⟩]⟩,
  ⟨0x190004, [], [⟨0, 4, .ro, 0⟩, ⟨8, 3, .ro, 0⟩, ⟨11, 3, .ro, 0⟩, ⟨14, 3, .ro, 0⟩, ⟨17, 3, .ro, 0⟩]⟩,
  ⟨0x190008, [], [⟨0, 32, .ro, 0⟩]⟩,
  ⟨0x19000C, [], [⟨0, 32, .ro, 0⟩]⟩,
  ⟨0x190010, [], [⟨0, 1, .ro, 0⟩, ⟨1, 3, .ro, 0⟩]⟩,
  ⟨0x190014, [], [⟨0, 32, .ro, 0⟩]⟩,
  ⟨0x190018, [], [⟨0, 32, .ro, 0⟩]⟩,
  ⟨0x19001C, [], [⟨0, 32, .ro, 0⟩]⟩,
  ⟨0x190020, [], [⟨0, 4, .rwl, 15⟩, ⟨4, 4, .rwl, 0⟩, ⟨8, 8, .rwl, 10⟩]⟩,
  ⟨0x190024, [], [⟨0, 4, .w1c, 0⟩, ⟨16, 16, .ros, 0⟩]⟩,
  ⟨0x190028, [], [⟨0, 32, .ro, 0⟩]⟩,
  ⟨0x19002C, [], [⟨0, 16, .ro, 0⟩]⟩]

/-- Registers CV_ROLE to CV_CH_CHKB_HI. -/
def regsCV : List RegSpec := [
  ⟨0x1A0000, [], [⟨0, 4, .rwl, 0⟩, ⟨4, 4, .rwl, 1⟩]⟩,
  ⟨0x1A0004, [], [⟨0, 16, .ro, 0⟩, ⟨16, 4, .ro, 0⟩]⟩,
  ⟨0x1A0008, [], [⟨0, 8, .rw, 96⟩]⟩,
  ⟨0x1A000C, [], [⟨0, 32, .ro, 0⟩]⟩,
  ⟨0x1A0010, [], [⟨0, 32, .ro, 0⟩]⟩,
  ⟨0x1A0100, [(0x40, 16)], [⟨0, 7, .rwl, 0⟩, ⟨8, 1, .rwl, 0⟩, ⟨9, 1, .rwl, 0⟩, ⟨12, 3, .rwl, 0⟩]⟩,
  ⟨0x1A0104, [(0x40, 16)], [⟨0, 32, .rwl, 0⟩]⟩,
  ⟨0x1A0108, [(0x40, 16)], [⟨0, 32, .rwl, 0⟩]⟩,
  ⟨0x1A010C, [(0x40, 16)], [⟨0, 32, .rwl, 0⟩]⟩,
  ⟨0x1A0110, [(0x40, 16)], [⟨0, 32, .rwl, 0⟩]⟩,
  ⟨0x1A0114, [(0x40, 16)], [⟨0, 32, .rwl, 0⟩]⟩,
  ⟨0x1A0118, [(0x40, 16)], [⟨0, 32, .rwl, 0⟩]⟩,
  ⟨0x1A011C, [(0x40, 16)], [⟨0, 32, .rwl, 0⟩]⟩,
  ⟨0x1A0120, [(0x40, 16)], [⟨0, 32, .rwl, 0⟩]⟩,
  ⟨0x1A0124, [(0x40, 16)], [⟨0, 32, .rwl, 0⟩]⟩,
  ⟨0x1A0128, [(0x40, 16)], [⟨0, 32, .rwl, 0⟩]⟩]

/-- Registers DTM_CTRL to DTM_TP_T1. -/
def regsDTM0 : List RegSpec := [
  ⟨0x50000, [(0x40, 2)], [⟨0, 1, .rw, 0⟩, ⟨16, 10, .rw, 1000⟩]⟩,
  ⟨0x50004, [(0x40, 2)], [⟨0, 1, .ro, 0⟩, ⟨1, 1, .ro, 0⟩, ⟨2, 1, .w1c, 0⟩, ⟨3, 1, .ro, 0⟩]⟩,
  ⟨0x50008, [(0x40, 2)], [⟨0, 32, .rw, 0⟩]⟩,
  ⟨0x5000C, [(0x40, 2)], [⟨0, 32, .rw, 4⟩]⟩,
  ⟨0x50010, [(0x40, 2)], [⟨0, 32, .ro, 0⟩]⟩,
  ⟨0x50014, [(0x40, 2)], [⟨0, 16, .ro, 0⟩, ⟨16, 16, .ro, 0⟩]⟩,
  ⟨0x50018, [(0x40, 2)], [⟨0, 30, .ro, 0⟩]⟩,
  ⟨0x5001C, [(0x40, 2)], [⟨0, 32, .rw, 0⟩]⟩,
  ⟨0x50020, [(0x40, 2)], [⟨0, 16, .rw, 0⟩, ⟨31, 1, .rw, 0⟩]⟩,
  ⟨0x50024, [(0x40, 2)], [⟨0, 30, .rw, 0⟩]⟩,
  ⟨0x50028, [(0x40, 2)], [⟨0, 16, .rw, 0⟩]⟩,
  ⟨0x5002C, [(0x40, 2)], [⟨0, 2, .wo, 0⟩]⟩,
  ⟨0x50030, [(0x40, 2)], [⟨0, 8, .ro, 0⟩, ⟨8, 1, .ro, 0⟩, ⟨9, 1, .ro, 0⟩]⟩,
  ⟨0x50034, [(0x40, 2)], [⟨0, 32, .ro, 0⟩]⟩,
  ⟨0x50038, [(0x40, 2)], [⟨0, 32, .ro, 0⟩]⟩,
  ⟨0x50080, [], [⟨0, 1, .rw, 0⟩, ⟨1, 1, .ro, 0⟩]⟩,
  ⟨0x50084, [], [⟨0, 32, .ro, 0⟩]⟩,
  ⟨0x50088, [], [⟨0, 1, .wo, 0⟩]⟩,
  ⟨0x500A0, [(0x4, 8)], [⟨0, 32, .ro, 0⟩]⟩,
  ⟨0x500C0, [], [⟨0, 8, .ro, 0⟩, ⟨8, 8, .rw, 0⟩, ⟨16, 1, .rw, 0⟩]⟩,
  ⟨0x500C4, [], [⟨0, 32, .ro, 0⟩]⟩,
  ⟨0x500D0, [(0x4, 11)], [⟨0, 32, .ro, 0⟩]⟩,
  ⟨0x50100, [], [⟨0, 16, .rwl, 0⟩, ⟨16, 1, .rw, 0⟩]⟩,
  ⟨0x50140, [(0x40, 2)], [⟨0, 2, .rw, 0⟩, ⟨8, 8, .rw, 0⟩, ⟨16, 1, .rw, 0⟩]⟩,
  ⟨0x50144, [(0x40, 2)], [⟨0, 5, .ro, 0⟩]⟩,
  ⟨0x50148, [(0x40, 2)], [⟨0, 32, .ro, 0⟩]⟩,
  ⟨0x50160, [(0x40, 2), (0x4, 8)], [⟨0, 32, .ro, 0⟩]⟩,
  ⟨0x50200, [(0x20, 8)], [⟨0, 1, .rw, 0⟩, ⟨1, 2, .rw, 0⟩, ⟨3, 1, .rw, 0⟩, ⟨4, 1, .rw, 0⟩, ⟨8, 24, .rw, 250⟩]⟩,
  ⟨0x50204, [(0x20, 8)], [⟨0, 32, .rw, 0⟩]⟩,
  ⟨0x50208, [(0x20, 8)], [⟨0, 16, .rw, 0⟩]⟩]

/-- Registers DTM_TP_T2 to DTM_TIME_FROZEN. -/
def regsDTM1 : List RegSpec := [
  ⟨0x5020C, [(0x20, 8)], [⟨0, 30, .rw, 0⟩]⟩,
  ⟨0x50210, [(0x20, 8)], [⟨0, 32, .rw, 0⟩]⟩,
  ⟨0x50214, [(0x20, 8)], [⟨0, 16, .ro, 0⟩, ⟨16, 1, .w1c, 0⟩, ⟨17, 1, .w1c, 0⟩]⟩,
  ⟨0x50300, [], [⟨0, 16, .rwl, 256⟩, ⟨16, 8, .rwl, 2⟩, ⟨24, 1, .rw, 1⟩]⟩,
  ⟨0x50304, [], [⟨0, 16, .rwl, 2000⟩, ⟨16, 16, .rwl, 500⟩]⟩,
  ⟨0x50308, [], [⟨0, 17, .rw, 0⟩]⟩,
  ⟨0x5030C, [], [⟨0, 2, .wo, 0⟩]⟩,
  ⟨0x50310, [], [⟨0, 32, .rw, 0⟩]⟩,
  ⟨0x50314, [], [⟨0, 8, .ro, 0⟩, ⟨8, 1, .ro, 0⟩]⟩,
  ⟨0x50318, [], [⟨0, 32, .ro, 0⟩]⟩,
  ⟨0x5031C, [], [⟨0, 18, .ro, 0⟩]⟩]

/-- The registers of block DTM. -/
def regsDTM : List RegSpec := regsDTM0 ++ regsDTM1

/-- Registers CHN_ID to CHN_SNAP_DATA. -/
def regsCHN : List RegSpec := [
  ⟨0x1C0000, [], [⟨0, 3, .ro, 0⟩, ⟨4, 3, .ro, 0⟩, ⟨8, 1, .ro, 0⟩, ⟨16, 4, .ro, 0⟩]⟩,
  ⟨0x1C0004, [], [⟨0, 3, .ro, 0⟩, ⟨3, 1, .ro, 0⟩, ⟨4, 1, .ro, 0⟩, ⟨5, 1, .ro, 0⟩, ⟨6, 1, .ro, 0⟩, ⟨7, 1, .ro, 0⟩, ⟨8, 1, .w1c, 0⟩, ⟨9, 1, .ro, 0⟩, ⟨10, 1, .w1c, 0⟩]⟩,
  ⟨0x1C0008, [], [⟨0, 8, .ro, 0⟩, ⟨8, 8, .ro, 0⟩, ⟨16, 16, .ro, 0⟩]⟩,
  ⟨0x1C000C, [], [⟨0, 10, .rwl, 100⟩, ⟨16, 6, .rwl, 40⟩]⟩,
  ⟨0x1C0010, [], [⟨0, 16, .ro, 0⟩]⟩,
  ⟨0x1C0014, [], [⟨0, 32, .ro, 0⟩]⟩,
  ⟨0x1C0018, [], [⟨0, 32, .ro, 0⟩]⟩,
  ⟨0x1C001C, [], [⟨0, 32, .ro, 0⟩]⟩,
  ⟨0x1C0020, [], [⟨0, 16, .ro, 0⟩]⟩,
  ⟨0x1C0024, [], [⟨0, 32, .ro, 0⟩]⟩,
  ⟨0x1C0028, [], [⟨0, 32, .ro, 0⟩]⟩,
  ⟨0x1C002C, [], [⟨0, 32, .ro, 0⟩]⟩,
  ⟨0x1C0030, [], [⟨0, 32, .ro, 0⟩]⟩,
  ⟨0x1C0040, [], [⟨0, 16, .ro, 0⟩]⟩,
  ⟨0x1C0044, [], [⟨0, 16, .ro, 0⟩]⟩,
  ⟨0x1C0048, [], [⟨0, 32, .ro, 0⟩]⟩,
  ⟨0x1C004C, [], [⟨0, 32, .ro, 0⟩]⟩,
  ⟨0x1C0050, [], [⟨0, 32, .ro, 0⟩]⟩,
  ⟨0x1C0060, [], [⟨0, 4, .wo, 0⟩]⟩,
  ⟨0x1C0064, [], [⟨0, 4, .rw, 0⟩]⟩,
  ⟨0x1C0068, [], [⟨0, 8, .ro, 0⟩, ⟨8, 1, .ro, 0⟩]⟩,
  ⟨0x1C006C, [], [⟨0, 32, .rw, 0⟩]⟩,
  ⟨0x1C0070, [], [⟨0, 16, .rw, 0⟩]⟩,
  ⟨0x1C0074, [], [⟨0, 2, .ro, 0⟩, ⟨2, 4, .ro, 0⟩, ⟨8, 8, .ro, 0⟩, ⟨16, 1, .ro, 0⟩]⟩,
  ⟨0x1C0080, [], [⟨0, 24, .ro, 0⟩]⟩,
  ⟨0x1C0100, [(0x4, 16)], [⟨0, 32, .ro, 0⟩]⟩]

/-- Registers SS_CTRL to SS_CH_C. -/
def regsSS : List RegSpec := [
  ⟨0x1D0000, [], [⟨0, 1, .rw, 1⟩, ⟨8, 8, .rw, 0⟩, ⟨16, 1, .rw, 0⟩]⟩,
  ⟨0x1D0004, [], [⟨0, 2, .ro, 2⟩, ⟨2, 2, .ro, 0⟩]⟩,
  ⟨0x1D0008, [], [⟨0, 32, .ro, 0⟩]⟩,
  ⟨0x1D0010, [(0x4, 2)], [⟨0, 7, .rwl, 10⟩]⟩,
  ⟨0x1D0040, [(0x20, 2)], [⟨0, 1, .rwl, 0⟩, ⟨1, 2, .rw, 0⟩, ⟨3, 3, .rwl, 0⟩, ⟨6, 1, .rwl, 0⟩]⟩,
  ⟨0x1D0044, [(0x20, 2)], [⟨0, 32, .rwl, 0⟩]⟩,
  ⟨0x1D0048, [(0x20, 2)], [⟨0, 32, .rwl, 0⟩]⟩,
  ⟨0x1D004C, [(0x20, 2)], [⟨0, 16, .rw, 3600⟩]⟩,
  ⟨0x1D0050, [(0x20, 2)], [⟨0, 16, .ro, 0⟩, ⟨16, 16, .ro, 0⟩]⟩,
  ⟨0x1D0054, [(0x20, 2)], [⟨0, 1, .ro, 0⟩, ⟨1, 3, .ro, 0⟩, ⟨4, 1, .ro, 0⟩, ⟨5, 1, .ro, 0⟩, ⟨6, 1, .ro, 0⟩, ⟨7, 1, .w1c, 0⟩, ⟨8, 1, .w1c, 0⟩]⟩,
  ⟨0x1D0100, [(0x20, 8)], [⟨0, 1, .rwl, 0⟩, ⟨1, 1, .rwl, 0⟩, ⟨2, 3, .rwl, 0⟩, ⟨5, 3, .rwl, 1⟩, ⟨8, 2, .rwl, 0⟩, ⟨10, 3, .rwl, 0⟩, ⟨13, 3, .rwl, 0⟩, ⟨16, 1, .rwl, 0⟩, ⟨17, 3, .rwl, 0⟩]⟩,
  ⟨0x1D0104, [(0x20, 8)], [⟨0, 1, .rwl, 0⟩, ⟨1, 3, .rwl, 0⟩, ⟨4, 1, .rwl, 0⟩, ⟨5, 3, .rwl, 0⟩, ⟨8, 10, .rwl, 100⟩, ⟨18, 6, .rwl, 10⟩, ⟨24, 1, .rwl, 0⟩, ⟨25, 3, .rwl, 0⟩, ⟨28, 3, .rwl, 7⟩]⟩,
  ⟨0x1D0108, [(0x20, 8)], [⟨0, 4, .rwl, 15⟩, ⟨4, 3, .rwl, 1⟩, ⟨7, 2, .rwl, 0⟩, ⟨9, 1, .rwl, 0⟩, ⟨16, 16, .rwl, 0⟩]⟩,
  ⟨0x1D010C, [(0x20, 8)], [⟨0, 3, .ro, 0⟩, ⟨3, 1, .ro, 0⟩, ⟨4, 1, .w1c, 0⟩, ⟨5, 1, .w1c, 0⟩, ⟨6, 1, .w1c, 0⟩, ⟨7, 1, .w1c, 0⟩, ⟨8, 2, .ro, 0⟩, ⟨10, 1, .ro, 0⟩, ⟨16, 16, .ro, 0⟩]⟩,
  ⟨0x1D0110, [(0x20, 8)], [⟨0, 24, .ro, 0⟩]⟩,
  ⟨0x1D0114, [(0x20, 8)], [⟨0, 32, .ro, 0⟩]⟩,
  ⟨0x1D0118, [(0x20, 8)], [⟨0, 24, .ro, 0⟩]⟩,
  ⟨0x1D011C, [(0x20, 8)], [⟨0, 32, .ro, 0⟩]⟩,
  ⟨0x1D0400, [(0x80, 8), (0x10, 6), (0x4, 4)], [⟨0, 32, .rwl, 0⟩]⟩]

/-- Registers SP_CTRL to SP_TX_DROP. -/
def regsSP : List RegSpec := [
  ⟨0x1E0000, [(0x1000, 2)], [⟨0, 1, .rwl, 0⟩, ⟨1, 1, .rwl, 0⟩, ⟨2, 1, .rw, 0⟩, ⟨3, 1, .rwl, 1⟩, ⟨4, 1, .rwl, 0⟩, ⟨5, 1, .rwl, 0⟩, ⟨6, 1, .w1s, 0⟩, ⟨8, 8, .rw, 0⟩, ⟨16, 1, .rw, 0⟩]⟩,
  ⟨0x1E0004, [(0x1000, 2)], [⟨0, 4, .rwl, 8⟩, ⟨4, 3, .rwl, 0⟩, ⟨7, 2, .rwl, 0⟩]⟩,
  ⟨0x1E0008, [(0x1000, 2)], [⟨0, 22, .rw, 80000⟩]⟩,
  ⟨0x1E000C, [(0x1000, 2)], [⟨0, 8, .rwl, 1⟩, ⟨8, 8, .rwl, 1⟩]⟩,
  ⟨0x1E0010, [(0x1000, 2)], [⟨0, 16, .rw, 0⟩]⟩,
  ⟨0x1E0014, [(0x1000, 2)], [⟨0, 7, .ro, 0⟩, ⟨8, 7, .ro, 0⟩, ⟨16, 1, .ro, 0⟩, ⟨17, 1, .ro, 0⟩, ⟨18, 1, .ro, 0⟩, ⟨19, 1, .w1c, 0⟩, ⟨20, 1, .w1c, 0⟩, ⟨21, 1, .w1c, 0⟩, ⟨22, 1, .w1c, 0⟩, ⟨23, 1, .ro, 0⟩]⟩,
  ⟨0x1E0018, [(0x1000, 2)], [⟨0, 16, .ro, 0⟩]⟩,
  ⟨0x1E001C, [(0x1000, 2)], [⟨0, 9, .wo, 0⟩]⟩,
  ⟨0x1E0020, [(0x1000, 2)], [⟨0, 32, .ro, 0⟩]⟩,
  ⟨0x1E0024, [(0x1000, 2)], [⟨0, 32, .ro, 0⟩]⟩,
  ⟨0x1E0028, [(0x1000, 2)], [⟨0, 32, .ro, 0⟩]⟩,
  ⟨0x1E002C, [(0x1000, 2)], [⟨0, 32, .ro, 0⟩]⟩]

/-- Registers GLB_ID to GLB_TEMP. -/
def regsGLB : List RegSpec := [
  ⟨0x0, [], [⟨0, 16, .ro, 29248⟩, ⟨16, 4, .ro, 2⟩]⟩,
  ⟨0x10, [], [⟨0, 3, .ro, 0⟩, ⟨8, 8, .ro, 0⟩]⟩,
  ⟨0x14, [], [⟨0, 1, .rwl, 1⟩, ⟨1, 1, .rwl, 0⟩, ⟨8, 8, .rwl, 0⟩]⟩,
  ⟨0x18, [], [⟨0, 6, .ro, 0⟩, ⟨6, 2, .ro, 0⟩, ⟨16, 16, .ro, 0⟩]⟩,
  ⟨0x1C, [], [⟨0, 16, .rwl, 1000⟩, ⟨16, 1, .rwl, 0⟩, ⟨17, 1, .rwl, 0⟩]⟩,
  ⟨0x20, [], [⟨0, 8, .wo, 0⟩]⟩,
  ⟨0x24, [], [⟨0, 4, .wo, 0⟩]⟩,
  ⟨0x28, [], [⟨0, 24, .ro, 0⟩]⟩,
  ⟨0x2C, [], [⟨0, 16, .ro, 0⟩]⟩,
  ⟨0x30, [], [⟨0, 8, .ro, 0⟩]⟩]

/-- Registers FLT_PEND to FLT_JNL_DATA. -/
def regsFLT : List RegSpec := [
  ⟨0x20000, [], [⟨0, 1, .w1c, 0⟩, ⟨1, 1, .w1c, 0⟩, ⟨2, 1, .w1c, 0⟩, ⟨3, 1, .w1c, 0⟩, ⟨4, 1, .w1c, 0⟩, ⟨5, 1, .w1c, 0⟩]⟩,
  ⟨0x20004, [], [⟨0, 6, .rw, 0⟩]⟩,
  ⟨0x20008, [], [⟨0, 32, .ro, 0⟩]⟩,
  ⟨0x2000C, [], [⟨0, 5, .ro, 0⟩, ⟨8, 4, .ro, 0⟩, ⟨31, 1, .w1c, 0⟩]⟩,
  ⟨0x20010, [], [⟨0, 32, .ro, 0⟩]⟩,
  ⟨0x20014, [], [⟨0, 8, .ro, 0⟩, ⟨8, 8, .ro, 0⟩]⟩,
  ⟨0x20018, [], [⟨0, 16, .ro, 0⟩, ⟨16, 16, .ro, 0⟩]⟩,
  ⟨0x2001C, [], [⟨0, 16, .ro, 0⟩]⟩,
  ⟨0x20020, [], [⟨0, 32, .ro, 0⟩]⟩,
  ⟨0x20024, [], [⟨0, 32, .ro, 0⟩]⟩,
  ⟨0x20028, [], [⟨0, 4, .ro, 0⟩, ⟨4, 1, .ro, 0⟩, ⟨16, 16, .ro, 0⟩]⟩,
  ⟨0x2002C, [], [⟨0, 32, .ro, 0⟩]⟩,
  ⟨0x20030, [], [⟨0, 32, .ro, 0⟩]⟩,
  ⟨0x20034, [], [⟨0, 14, .rw, 0⟩, ⟨31, 1, .ro, 0⟩]⟩,
  ⟨0x20040, [(0x4, 16)], [⟨0, 32, .ro, 0⟩]⟩]

/-- Registers HIF_LINK to HIF_CON_OPEN_LIMIT. -/
def regsHIF : List RegSpec := [
  ⟨0x1F0000, [], [⟨0, 4, .ro, 0⟩, ⟨4, 5, .ro, 0⟩, ⟨9, 2, .ro, 3⟩, ⟨11, 1, .ro, 0⟩]⟩,
  ⟨0x1F0004, [], [⟨0, 2, .ro, 0⟩, ⟨2, 3, .ro, 0⟩, ⟨5, 1, .ro, 0⟩, ⟨6, 2, .ro, 0⟩, ⟨8, 1, .ro, 0⟩]⟩,
  ⟨0x1F0008, [], [⟨0, 16, .ro, 1⟩, ⟨16, 16, .ro, 0⟩]⟩,
  ⟨0x1F000C, [], [⟨0, 16, .w1c, 0⟩]⟩,
  ⟨0x1F0010, [], [⟨0, 32, .ro, 0⟩]⟩,
  ⟨0x1F0014, [], [⟨0, 4, .ro, 0⟩, ⟨4, 3, .ro, 0⟩, ⟨31, 1, .w1c, 0⟩]⟩,
  ⟨0x1F0018, [], [⟨0, 32, .ro, 0⟩]⟩,
  ⟨0x1F001C, [], [⟨0, 32, .ro, 0⟩]⟩,
  ⟨0x1F0020, [], [⟨0, 32, .ro, 0⟩]⟩,
  ⟨0x1F0024, [], [⟨0, 16, .ro, 0⟩, ⟨16, 16, .ro, 0⟩]⟩,
  ⟨0x1F0030, [], [⟨0, 10, .rw, 0⟩]⟩,
  ⟨0x1F0100, [(0x8, 8)], [⟨0, 21, .rwl, 0⟩, ⟨31, 1, .rwl, 0⟩]⟩,
  ⟨0x1F0104, [(0x8, 8)], [⟨0, 21, .rwl, 0⟩]⟩]

/-- The register tables that can hold offset `off`, by the address map (R568). -/
def regBlock (off : Nat) : List RegSpec :=
  if off < 0x10000 then regsGLB
  else if off < 0x20000 then regsCFG
  else if off < 0x28000 then regsFLT
  else if off < 0x30000 then regsFB
  else if off < 0x40000 then []
  else if off < 0x50000 then regsBRG
  else if off < 0x60000 then regsDTM
  else if off < 0x80000 then []
  else if off < 0xA0000 then (if 0x200 ≤ off % 0x1000 ∧ off % 0x1000 < 0x400 then regsLPG3 else regsLP)
  else if off < 0xC0000 then regsMACPT
  else if off < 0xE0000 then regsSND
  else if off < 0x100000 then regsTRV
  else if off < 0x180000 then regsQF
  else if off < 0x190000 then regsCX
  else if off < 0x198000 then regsCXC
  else if off < 0x1A0000 then regsCX
  else if off < 0x1C0000 then regsCV
  else if off < 0x1D0000 then regsCHN
  else if off < 0x1E0000 then regsSS
  else if off < 0x1F0000 then regsSP
  else if off < 0x200000 then regsHIF
  else if off < 0x400000 then regsQD
  else []

/-- Whether the distance `d` from a register's base is one of its instances, by its index strides. -/
def dimsCover : List (Nat × Nat) → Nat → Bool
  | [], d => d == 0
  | (stride, count) :: rest, d => d / stride < count && dimsCover rest (d % stride)

/-- Whether the register covers offset `off`. -/
def RegSpec.covers (r : RegSpec) (off : Nat) : Bool := r.base ≤ off && dimsCover r.dims (off - r.base)

/-- The register at an offset, if the offset holds one (R8). -/
def regAt (off : Nat) : Option RegSpec := (regBlock off).find? (·.covers off)

/-- The word of a list of fields with values. -/
def packFields : List (Nat × Nat × Nat) → Nat
  | [] => 0
  | (lo, w, v) :: rest => (v % 2 ^ w) <<< lo ||| packFields rest

/-- Reset words that differ from instance to instance: SND_LIMc (R212), CX_PAGE_CFG.FUNCTION (R424) and the first two
Sieve channels, with the fallback of the others (R417), the linearisation polynomials (R503). -/
def resetOverride (off : Nat) : Option Nat :=
  if 0xC0040 ≤ off ∧ off < 0xC0058 then
    ([0x0805, 0x140A, 0x140A, 0x2820, 0x503C, 0x0008] : List Nat)[(off - 0xC0040) / 4]?
  else if 0x180000 ≤ off ∧ off < 0x190000 ∧ off % 0x1000 = 8 then some (((off - 0x180000) / 0x1000) <<< 16)
  else if 0x1A0100 ≤ off ∧ off < 0x1A0500 then
    let n := (off - 0x1A0100) / 0x40
    let r := (off - 0x1A0100) % 0x40
    if r = 0 then some (if n = 0 then 0x1010 else if n = 1 then 0x3320 else 0x7000)
    else if n = 0 then
      (if r = 0x4 then some 0x1021 else if r = 0xC then some 0xFFFF else if r = 0x1C then some 0x29B1 else none)
    else if n = 1 then
      (if r = 0x4 then some 0x1EDC6F41 else if r = 0xC ∨ r = 0x14 then some 0xFFFFFFFF
       else if r = 0x1C then some 0xE3069283 else none)
    else none
  else if 0x1D0400 ≤ off ∧ off < 0x1D0800 ∧ (off - 0x1D0400) % 0x80 = 0x10 then some 0x3F800000
  else none

/-- The reset value of the register at an offset; an offset that holds no register reads 0 (R8). -/
def resetNat (off : Nat) : Nat :=
  match resetOverride off with
  | some v => v
  | none =>
    match regAt off with
    | some r => packFields (r.fields.map fun f => (f.lo, f.width, f.reset))
    | none => 0

/-- The reset value as a register word. -/
def resetWord (off : Nat) : Word := BitVec.ofNat 32 (resetNat off)

end Sys2Proof.Machine
end

