-- ==== Sys2Proof/Machine/Store.lean ====
section
/-!
DEFINITION. Sparse stores: a list of (key, value) pairs in one canonical form (keys strictly rising, no entry equal to
what an unlisted key reads as). Registers, queue contents, node entries, flash bytes and every other addressed part of
the block are held this way, so that equal contents are equal data.
-/

namespace Sys2Proof.Machine

/-- A sparse store of values keyed by a number. -/
abbrev Store (α : Type) := List (Nat × α)

/-- The value at a key; `d` gives what an unlisted key reads as. -/
def Store.get {α : Type} (d : Nat → α) (m : Store α) (k : Nat) : α :=
  match m.find? (fun p => p.1 == k) with
  | some p => p.2
  | none => d k

/-- The store without a key. -/
def Store.erase {α : Type} (m : Store α) (k : Nat) : Store α := m.filter (fun p => p.1 != k)

/-- Insert a pair before the first larger key. -/
def Store.insert {α : Type} : Store α → Nat → α → Store α
  | [], k, v => [(k, v)]
  | (k', v') :: rest, k, v => if k < k' then (k, v) :: (k', v') :: rest else (k', v') :: Store.insert rest k v

/-- Write a value at a key, keeping the canonical form: writing what an unlisted key reads as removes the entry. -/
def Store.put {α : Type} [DecidableEq α] (d : Nat → α) (m : Store α) (k : Nat) (v : α) : Store α :=
  if v = d k then Store.erase m k else Store.insert (Store.erase m k) k v

/-- The canonical form: keys strictly rising, no entry equal to its default. -/
def Store.wf {α : Type} [DecidableEq α] (d : Nat → α) : Store α → Bool
  | [] => true
  | (k, v) :: rest => decide (v ≠ d k) && rest.all (fun p => decide (k < p.1)) && Store.wf d rest

/-- The same store with its value at a key changed by `f`. -/
def Store.modify {α : Type} [DecidableEq α] (d : Nat → α) (m : Store α) (k : Nat) (f : α → α) : Store α :=
  Store.put d m k (f (Store.get d m k))

/-- The same store with every listed value changed by `f`, in canonical form. -/
def Store.mapVals {α : Type} [DecidableEq α] (d : Nat → α) (f : α → α) (m : Store α) : Store α :=
  (m.map fun p => (p.1, f p.2)).filter fun p => decide (p.2 ≠ d p.1)

/-- The values of a run of `n` consecutive keys from `k`. -/
def Store.range {α : Type} (d : Nat → α) (m : Store α) (k n : Nat) : List α :=
  (List.range n).map fun i => Store.get d m (k + i)

/-- Write a run of values at consecutive keys from `k`. -/
def Store.putAll {α : Type} [DecidableEq α] (d : Nat → α) (m : Store α) (k : Nat) : List α → Store α
  | [] => m
  | v :: rest => Store.putAll d (Store.put d m k v) (k + 1) rest

end Sys2Proof.Machine
end

