-- ==== Sys2Proof/Machine/State.lean ====
section
/-!
DEFINITION. The state of the block: every register (as one sparse register file keyed by BAR0 offset) and every piece
of state the spec names that is no register, in one sub-structure per chapter; the queue of waiting commands; the
state after reset. All of it is plain data.
-/

namespace Sys2Proof.Machine

/-- The device states of R45. -/
inductive DevState where
  | reset | load | settle | service | quiet | hold
deriving DecidableEq, Repr

/-- The code GLB_STATE.STATE reports (R45; DEDUCED: the order in which the terms list the states, log entry 2). -/
def DevState.code : DevState → Nat
  | .reset => 0 | .load => 1 | .settle => 2 | .service => 3 | .quiet => 4 | .hold => 5

/-! ### Lanes and memory (01_architecture.md) -/

/-- What a receive lane is bound to (R21): port, sub-band index (0 for a G3 lane) and protocol. -/
structure Binding where
  port : Nat
  sb : Nat
  g3 : Bool
deriving DecidableEq, Repr

/-- What fixes the payload of a frame: its mode, its band set, its map (empty where the mode needs none), streams. -/
structure PhyMode where
  mode : Nat
  bands : Nat
  map : List Byte
  streams : Nat
deriving DecidableEq, Repr

/-- A frame whose FCH has passed (R166, R168): its 56 FCH bits, the frame's lane (R167), the node that a grant names as its
sender (R256, R257), its payload, the bearing of its sample 0 and of its end, the sample of its sync point's preamble end and
of its end, the samples at which its training and payload symbols are found (R198 to R200) each with the shift of its peak,
and the joint-detection units it holds (R27). -/
structure RxFch where
  bits : Nat
  lead : Nat
  node : Option Nat
  phy : PhyMode
  sample0 : Bearing
  last : Bearing
  samples : Nat
  starts : List (Nat × Int)
  units : List Nat
deriving DecidableEq, Repr

/-- A reception on a lane (R131, R165): the bearing and the tick of the start of its fifth SYNCP; what the lane hears; the
frequency with which it predicts symbols (R198); its sync point's bearing and stamps in Datum A and B in units of 2^-32 ns
(R35), once it is `synced`; whether some port of the triad has transmitted in another sub-band during it (the XBAND flag,
R138); the symbols whose FFT window holds a gain step, numbered from the first FCH symbol (R133); the frame its FCH gives;
whether the last sample of its last symbol is past. -/
structure Reception where
  start : Bearing
  startTick : Nat
  freq : Nat
  syncs : Nat
  deep : Bool
  fch : List (Nat × Nat)
  peaks : List SymbolPeak
  bearing : Bearing
  stampA : Nat
  stampB : Nat
  synced : Bool
  xband : Bool
  halved : List Nat
  g3 : Bool
  frame : Option RxFch
  ended : Bool
deriving DecidableEq, Repr

/-- A receive lane: the binding it serves, whether it is retired, its reception. -/
structure Lane where
  binding : Option Binding
  retired : Bool
  reception : Option Reception
deriving DecidableEq, Repr

/-- An unbound lane in service. -/
def Lane.reset : Lane := { binding := none, retired := false, reception := none }

/-- One place of a codeword as a decoder takes it (R133, R176): a known zero, an erasure, or a soft bit in half units. -/
inductive SoftBit where
  | zero | erased
  | bit (v : Int)
deriving DecidableEq, Repr

/-- A codeword that waits for an LDPC decoder or is in one (R33), with what the decoder takes for its 24 blocks (R176). -/
structure Codeword where
  lane : Nat
  endBearing : Bearing
  input : List SoftBit
deriving DecidableEq, Repr

/-- A span that a decoded FCH implies, up to the frame's end plus 1,024 bu (R254): the sub-bands are busy on the triad. -/
structure BusySpan where
  triad : Nat
  bands : Nat
  last : Bearing
deriving DecidableEq, Repr

/-- The pools of 01_architecture.md. `moves`: a retired lane and the spare that takes its binding at the next frame
boundary (R25). `txRetired`: transmit lanes retired (R32). -/
structure PoolSt where
  lanes : Store Lane
  moves : List (Nat × Nat)
  txRetired : List Nat
  codewords : List Codeword
  decoding : List Codeword
  decodersBusy : Nat
  dropped : Nat
  busy : List BusySpan
deriving DecidableEq, Repr

/-- The pools at reset. -/
def PoolSt.reset : PoolSt :=
  { lanes := [], moves := [], txRetired := [], codewords := [], decoding := [], decodersBusy := 0, dropped := 0, busy := [] }

/-! ### The Diore image (02_diore_image.md) -/

/-- A verified image: SERIAL, FLAGS and, per section id, its setting records (R55, R621). `source`: 0 host, 1 slot A,
2 slot B. -/
structure ImageSet where
  serial : Word
  flags : Word
  sections : List (Nat × List (Nat × Word))
  source : Nat
deriving DecidableEq, Repr

/-- A verdict held for a global operation (R79, R80). -/
inductive Verdict where
  | waiting | commit | abort
deriving DecidableEq, Repr

/-- An armed swap: its bearing, the verdict held, whether this device sent the token and waits for its return, and on the
master the ranks that are ready. -/
structure Armed where
  bearing : Bearing
  verdict : Verdict
  tokenOut : Bool
  ready : Nat
deriving DecidableEq, Repr

/-- The image block beside its registers. `settings`: the image-only settings in force (R622), keyed by their address
above 0x0100_0000. `schedPending`, `nmPending`: the incoming SCHED section waits for the next superframe start (R77),
the incoming noise-map thresholds for the next cycle boundary (R73). `flashDefault`: FLASH_DEFAULTED is still to be
recorded (R63). `ended`: the bearing of the last armed swap that ended here, so that an ABORT is recorded once (R81). `quiet`: the bearing of the last swap and the ports it rebound, whose quiet window runs 65,536 bu on (R75). -/
structure ImgSt where
  active : Option ImageSet
  shadow : Option ImageSet
  staging : Nat
  armed : Option Armed
  settings : Store Word
  schedPending : List (Nat × Word)
  nmPending : List (Nat × Word)
  flashDefault : Option Nat
  ended : Option Bearing
  quiet : Option (Bearing × List Nat)
  /-- start of the two slots and the journal in force from the flash header or R63 -/
  slotA : Nat
  slotB : Nat
  journalAt : Nat
deriving DecidableEq, Repr

/-- No image (R71), flash offsets as R63 gives them until a header is read. -/
def ImgSt.reset : ImgSt :=
  { active := none, shadow := none, staging := 0, armed := none, settings := [], schedPending := [], nmPending := [],
    flashDefault := none, ended := none, quiet := none, slotA := 0x00100000, slotB := 0x00500000, journalAt := 0x00900000 }

/-- Reset default of an image-only setting (R622): sub-band permission 0xF, queue storage 1,024 MiB, else 0. -/
def settingDefault (a : Nat) : Word :=
  if 0x2000 ≤ a ∧ a < 0x2060 then 0xF else if a = 0x4000 then 1024 else 0

/-! ### Bearing (03_bearing.md) -/

/-- What the device keeps of one mains-sense input. Instants are in ticks of 4 ns. -/
structure SenseIn where
  /-- an unconfirmed candidate crossing (R91): its instant and the bearing at it -/
  candidate : Option (Nat × Bearing)
  /-- the last qualified crossing (R91): its instant, and the bearing at it -/
  lastQual : Option (Nat × Bearing)
  /-- angles of consecutive qualified crossings outside the window, newest first, at most 4 (R91, R97) -/
  outside : List Nat
  /-- consecutive valid crossings (R86, R95, R99) -/
  run : Nat
  /-- the last periods in ticks, newest first, at most 8 (R96) -/
  periods : List Nat
  /-- angles of the last valid crossings, newest first, at most 64 (R101) -/
  angles : List Nat
  /-- valid cycles since the last complete mean (R103) -/
  sinceMean : Nat
  /-- the reference offset (R103) -/
  refOffset : Option Nat
  /-- the loss of this input has been decided (R119) -/
  lossDecided : Bool
deriving DecidableEq, Repr

/-- An input that has seen no crossing. -/
def SenseIn.reset : SenseIn :=
  { candidate := none, lastQual := none, outside := [], run := 0, periods := [], angles := [], sinceMean := 0,
    refOffset := none, lossDecided := false }

/-- One noise-map bin (R116): the mean power in units of 2^-48 of full scale, none before its first sample, the last 64
cycles' impulsive flags, newest in bit 0. -/
structure NoiseBin where
  power : Option Nat
  history : BitVec 64
deriving DecidableEq, Repr

/-- An empty bin. -/
def NoiseBin.reset : NoiseBin := { power := none, history := 0 }

/-- The readable copy of the noise map while BRG_NM_CTRL.FREEZE is 1 (R117): bins, cycles per port, and the OCC of the
control register at the freeze. -/
structure NoiseCopy where
  bins : Store NoiseBin
  cycles : Store Nat
  occ : Nat
deriving DecidableEq, Repr

/-- A span of bearing in which a port has sent, or a lane of it has received, in a set of sub-bands (R115). -/
structure AirSpan where
  port : Nat
  bands : Nat
  received : Bool
  start : Bearing
  last : Bearing
deriving DecidableEq, Repr

/-- The states of the timebase (R85). -/
inductive BrgState where
  | unlocked | acquire | locked | holdover | relock | slew | follow
deriving DecidableEq, Repr

/-- BRG_STATUS.STATE (R85). -/
def BrgState.code : BrgState → Nat
  | .unlocked => 0 | .acquire => 1 | .locked => 2 | .holdover => 3 | .relock => 4 | .slew => 5 | .follow => 6

/-- Bearing beside its registers. The bearing advances each tick by F × 4 × (10^6 + steer) in units of 10^-15 bu
(R96, R109, R15): `acc` holds the part below one bu. -/
structure BearingSt where
  state : BrgState
  now : Bearing
  acc : Nat
  /-- rate correction in ppm: at most 5,000 in LOCKED (R96), 20,000 in SLEW (R109), 500 in FOLLOW (R467) -/
  steer : Int
  inputs : Store SenseIn
  /-- the alternate's offset frozen at the switch, or at the return in RELOCK (R98) -/
  altOffset : Nat
  /-- the input counted in RELOCK and its valid crossings (R86, R97) -/
  relockInput : Nat
  relockRun : Nat
  /-- consecutive cycles of disagreement of a follower's own reference (R100) -/
  mismatchRun : Nat
  /-- a follower's difference, estimate less own bearing, as last measured (R467, R471) -/
  err : Int
  /-- the lock counts as achieved (R88) -/
  lockOk : Bool
  /-- bins of the noise map, keyed (4n + s) × 128 + b -/
  noise : Store NoiseBin
  /-- the readable copy while BRG_NM_CTRL.FREEZE is 1 (R117) -/
  noiseFrozen : Option NoiseCopy
  /-- cycles accumulated since the last restart, per port (R114), counted to 64 -/
  noiseCycles : Store Nat
  /-- per triad, the count of its reference cycles at the last update of its noise map (R117) -/
  noiseAt : Store (Option Nat)
  /-- what was on the air in the last cycles (R115) -/
  spans : List AirSpan
  /-- the advance, in 10^-15 bu, still to pass before a first lock's corrected crossing instant (R87, R93) -/
  wait : Nat
  /-- the bearing at which Bearing started (R118) -/
  startedAt : Bearing
  /-- bearing bits [47:32] latched per reading master (R124) -/
  latches : Store Word
  /-- bearings at which open last-gasp windows close (R118, R279) -/
  gaspClose : Store (Option Bearing)
deriving DecidableEq, Repr

/-- Bearing at reset: UNLOCKED, reading 0 (R85, R86). -/
def BearingSt.reset : BearingSt :=
  { state := .unlocked, now := 0, acc := 0, steer := 0, inputs := [], altOffset := 0, relockInput := 0,
    relockRun := 0, mismatchRun := 0, err := 0, lockOk := false, noise := [], noiseFrozen := none, noiseCycles := [],
    noiseAt := [], spans := [], wait := 0, startedAt := 0, latches := [], gaspClose := [] }

/-! ### Line ports (04_line_ports.md) -/

/-- Why a slice waits for its test (R147). -/
inductive SliceTest where
  | share | trip | rotation
deriving DecidableEq, Repr

/-- A port beside its page: slices waiting for a test, superframes since the last rotation, the decided gain code
(R130, R132), the multiplier of R135 in 10^-6 dB and 10^-6 degrees relative to code 0, and whether its output switches are
closed (R144, R482). -/
structure PortSt where
  untested : List (Nat × SliceTest)
  sinceRotation : Nat
  agcPending : Option Nat
  multDb : Int
  multDeg : Int
  switches : Bool
  /-- the replica canceller is engaged (R134, R144) -/
  canceller : Bool
  /-- tick at which the last transmission ended, none before the first (R144, R147) -/
  ended : Option Nat
  departures : Nat
  fundamentalLow : Nat
  baseSum : Nat
  baseCount : Nat
  /-- switches wait for a quiet coupler sense (R482) -/
  closeWaits : Bool
  /-- FAILED, until a full reset (R128) -/
  failed : Bool
deriving DecidableEq, Repr

/-- A port at reset. -/
def PortSt.reset : PortSt :=
  { untested := [], sinceRotation := 0, agcPending := none, multDb := 0, multDeg := 0, switches := false,
    canceller := false, ended := none, departures := 0, fundamentalLow := 0, baseSum := 0, baseCount := 0, closeWaits := false, failed := false }

/-- A set of cross-band filters (R137, R222): the depth it reaches, and the 96 taps of each of its nine filters, that of the
i-th transmitting and the j-th receiving port at place 3i + j. -/
structure XbcSet where
  depth : Nat
  taps : List (List Int)
deriving DecidableEq, Repr

/-- The cross-band filters of a triad (R137, R138): the set in use and the set that waits for its ports to be silent. -/
structure XbcSt where
  active : Option XbcSet
  pending : Option XbcSet
deriving DecidableEq, Repr

/-- No filter adapted yet. -/
def XbcSt.reset : XbcSt := { active := none, pending := none }

/-- What a bank has sent in a superframe (R223): its number, the sum of P_out of its transmissions in units of 2^-16 mW, whether
its loss has been observed. -/
structure BankSent where
  superframe : Nat
  out : Nat
  observed : Bool
deriving DecidableEq, Repr

/-- A bank that has sent nothing. -/
def BankSent.reset : BankSent := { superframe := 0, out := 0, observed := false }

/-- Line ports beside their registers. -/
structure PortsSt where
  port : Store PortSt
  xbc : Store XbcSt
  /-- the tick since which the limits of R145 for leaving BANK_OFF have held, per bank -/
  bankOk : Store (Option Nat)
  /-- the rail of each bank in mV (R143), 6.0 V where nothing is listed -/
  rail : Store Nat
  /-- what each bank has sent in a superframe (R223) -/
  sent : Store BankSent
  /-- VDDA_5 out of range (R594) -/
  vdda5Low : Bool
deriving DecidableEq, Repr

/-- Line ports at reset. -/
def PortsSt.reset : PortsSt := { port := [], xbc := [], bankOk := [], rail := [], sent := [], vdda5Low := false }

/-! ### Sounding (06_sounding.md) -/

/-- A coefficient's value (R210): magnitude and phase in units of 10^-6. The magnitude is in dB for classes 0, 1, 2 and
4, in 1/64 ohm for class 3 and the plain number for class 5; the phase is in degrees. -/
structure CoefVal where
  mag : Int
  phase : Int
deriving DecidableEq, Repr

/-- One accepted or held observation's origin (R211): frame number, mains cycle, node. -/
structure ObsFrom where
  frame : Nat
  cycle : Nat
  node : Nat
deriving DecidableEq, Repr

/-- A held candidate (R210). -/
structure Held where
  value : CoefVal
  count : Nat
  first : Nat
  origins : List ObsFrom
deriving DecidableEq, Repr

/-- A coefficient (R210): active value, accumulator, value pending its moment, held candidate, and the independent
observations accepted so far, at most three (R215, R220, R221). -/
structure Coef where
  active : CoefVal
  acc : CoefVal
  pending : Option CoefVal
  held : Option Held
  accepted : List ObsFrom
deriving DecidableEq, Repr

/-- A coefficient with its nominal value (R204). -/
def Coef.start (m p : Int) : Coef :=
  { active := ⟨m, p⟩, acc := ⟨m, p⟩, pending := none, held := none, accepted := [] }

/-- A node's fingerprint (R227-R229): reference and current attenuations in 0.25 dB (none: unmeasured) and delay
spread in 0.5 µs, the observations of the reference, the recent observations beyond THR, the port of the
reference. -/
structure Fingerprint where
  ref : List (Option Nat)
  refTau : Nat
  refValid : Bool
  shift : Bool
  cur : List (Option Nat)
  curTau : Nat
  count : Nat
  collecting : List (List (Option Nat) × Nat)
  beyond : List (ObsFrom × Nat × List (Option Nat) × Nat)
  port : Nat
  refSet : Nat
deriving DecidableEq, Repr

/-- No fingerprint (R204). -/
def Fingerprint.reset : Fingerprint :=
  { ref := [], refTau := 0, refValid := false, shift := false, cur := [], curTau := 0, count := 0, collecting := [],
    beyond := [], port := 0, refSet := 0 }

/-- Per-node carrier SNR and contour-map bookkeeping of one direction (R224-R226). SNR in 0.25 dB and loading codes per usable
carrier, those of stream 0 first, 112 a stream; `votes`: independent observations that support raising. -/
structure LinkMap where
  snr : List Nat
  votes : List (ObsFrom × List Nat)
  rate : Nat
  loading : List Nat
  generation : Nat
  changed : Nat
  proposed : Option (Nat × List Nat × Nat)
deriving DecidableEq, Repr

/-- No map (R204). -/
def LinkMap.reset : LinkMap :=
  { snr := [], votes := [], rate := 0, loading := [], generation := 0, changed := 0, proposed := none }

/-- Sounding beside its registers. Coefficients are keyed by class and place; `frames` numbers observations;
`portEvents`: superframe of the last COUPLER_HEALTH, PHASE_CHANGE or PHASE_LOSS per port (R229); `shifts`: confirmed
shifts within the last HOLD span (port, node, superframe) for R230. -/
structure SoundSt where
  coefs : Store Coef
  prints : Store Fingerprint
  up : Store LinkMap
  down : Store LinkMap
  frames : Nat
  portEvents : Store (Option Nat)
  routeEvents : Store (Option Nat)
  shifts : List (Nat × Nat × Nat)
  /-- superframe at which FREEZE was set (R213) -/
  freezeSince : Nat
  /-- bytes 0–28 written through SND_FP_WINDOW -/
  window : Store Byte
deriving DecidableEq, Repr

/-- Sounding at reset: every coefficient nominal (R204). -/
def SoundSt.reset : SoundSt :=
  { coefs := [], prints := [], up := [], down := [], frames := 0, portEvents := [], routeEvents := [], shifts := [], freezeSince := 0, window := [] }

/-! ### Strata (10_strata.md) -/

/-- One 64-bit word of a packed queue with its 8-bit tag (R348, R349). -/
structure QWord where
  data : BitVec 64
  tag : Byte
deriving DecidableEq, Repr

/-- One entry of a priority-mode queue (R351): the pointer of its first cell, its cells, its stratum, its bytes,
whether it is provisional, a control entry, and whether its consumer has taken it. -/
structure QEntry where
  ptr : Word
  cells : Nat
  prio : Nat
  bytes : List Byte
  prov : Bool
  control : Bool
  poison : Bool
  consumed : Bool
deriving DecidableEq, Repr

/-- A parcel that a device producer writes or waits to write (R350, R353): its bytes, stratum, whether it is written
under a tag check, and the ORIG and PSEQ its control word would carry. -/
structure Produce where
  bytes : List Byte
  prio : Nat
  prov : Bool
  orig : Nat
  pseq : Nat
  producer : Nat
deriving DecidableEq, Repr

/-- A fetched command entry (R360, R361): the ring it came from, the completion ring whose slot it owes, its fields. -/
structure Cmd where
  fn : Nat
  ring : Nat
  cpl : Nat
  seq : Word
  opcode : Nat
  flags : Byte
  queue : Nat
  tag : Word
  operands : List Byte
deriving DecidableEq, Repr

/-- A completion or notice entry before its DEV_SEQ (R366). `owed`: it takes the slot owed to its command. -/
structure CplEntry where
  fn : Nat
  ring : Nat
  hostSeq : Word
  status : Nat
  opcode : Nat
  flags : Nat
  queue : Nat
  tag : Word
  result : List Byte
  owed : Bool
deriving DecidableEq, Repr

/-- An outstanding RECV (R364): its command, its delivery position, the words and bytes delivered, the first bytes of
the parcel (its header), whether provisional or poisoned data was delivered. -/
structure Recv where
  cmd : Cmd
  started : Bool
  pos : Word
  words : Nat
  bytes : Nat
  head : List Byte
  prov : Bool
  poison : Bool
deriving DecidableEq, Repr

/-- A SEND whose parcel is in a queue or on a hop (R363): its command, the queue and pointer of its parcel, its header
fields and body, the attempts made, the PSEQ given, whether the device has taken it from the queue, the bearing at which
it was placed there (R278), and the superframe since which it waits for band budget (R275). -/
structure SendRec where
  cmd : Cmd
  queue : Nat
  ptr : Word
  units : Nat
  prio : Nat
  final : Nat
  stamp : Bool
  body : List Byte
  pseq : Nat
  attempts : Nat
  taken : Bool
  entered : Bearing
  waiting : Option Nat
deriving DecidableEq, Repr

/-- What a queue holds beside its descriptor registers. -/
structure QueueSt where
  /-- readable words of a packed queue, by ring index -/
  words : Store QWord
  /-- entries of a priority-mode queue, in arrival order from RD -/
  entries : List QEntry
  /-- bytes of the host's open word (R348) -/
  openBytes : List Byte
  openSop : Bool
  /-- a word completed through a write port and held back (R359) -/
  held : Option QWord
  /-- WP_MARK bit 0 was written: the next byte is SOP (R359) -/
  sopNext : Bool
  /-- the port has written a byte since its last EOP (R359) -/
  fresh : Bool
  /-- the parcel under a live tag check (R353) -/
  live : Option Produce
  /-- a consumer has taken provisional words of the live parcel (R353) -/
  provTaken : Bool
  /-- parcels waiting in their producers for the mark (R353) -/
  waiting : List Produce
  /-- completions owed on a CPL ring (R361) -/
  owed : Nat
  /-- history of a CPL ring, by ring index (R367) -/
  history : Store (List Byte)
deriving DecidableEq, Repr

/-- An empty queue. -/
def QueueSt.empty : QueueSt :=
  { words := [], entries := [], openBytes := [], openSop := false, held := none, sopNext := false, fresh := false,
    live := none, provTaken := false, waiting := [], owed := 0, history := [] }

/-- The conversation state of one function beside QF_PAUSED (R369): CONV_STAT.BUSY and STATUS, and whether the pause
is that of R565 or R369. -/
structure ConvSt where
  busy : Bool
  status : Nat
deriving DecidableEq, Repr

/-- A waiting notice (R366): queue and kind. -/
structure Notice where
  queue : Nat
  kind : Nat
deriving DecidableEq, Repr

/-- Strata beside its registers. -/
structure StrataSt where
  queues : Store QueueSt
  /-- commands fetched and not yet executed, in order of fetch -/
  fetched : List Cmd
  recvs : List Recv
  sends : List SendRec
  /-- completions that arose while their function was paused, in order (R370) -/
  pausedOutcomes : List CplEntry
  /-- entries of R370 that wait for room, in order -/
  backlog : List CplEntry
  notices : List Notice
  conv : Store ConvSt
deriving DecidableEq, Repr

/-- Strata emptied (R372). -/
def StrataSt.reset : StrataSt :=
  { queues := [], fetched := [], recvs := [], sends := [], pausedOutcomes := [], backlog := [], notices := [],
    conv := [] }

/-- A Field Book record (R374). -/
structure FbRecord where
  seq : Word
  bearing : Bearing
  code : Nat
  sec : Word
  ns : Word
  source : Nat
  severity : Nat
  rank : Nat
  args : List Byte
deriving DecidableEq, Repr

/-- A slot of the Field Book ring that no record has filled since reset. -/
def FbRecord.zero : FbRecord :=
  { seq := 0, bearing := 0, code := 0, sec := 0, ns := 0, source := 0, severity := 0, rank := 0, args := [] }

/-! ### Gweol medium access and the Plane Table (07_gweol_mac.md) -/

/-- A parcel on its way out on one hop (R39, R245, R312): the SEND that owes its completion (none for a parcel in
transit, R37) and the queue the parcel came from, its body as the host or the last hop gave it, its header fields, and
whether its PMASK bit has been set. -/
structure OutParcel where
  send : Option Cmd
  queue : Nat
  body : List Byte
  prio : Nat
  orig : Nat
  final : Nat
  pseq : Nat
  stamp : Bool
  acked : Bool
deriving DecidableEq, Repr

/-- A transmission that waits for admission (R50): what it carries, where it goes, and the hop attempts made before.
`port` is none for a frame of all three ports of the triad. `at`: a fixed frame start (R268, R271). `exact`: the frame
has priority-0 standing without a priority-0 parcel (R268). `waiting`: the superframe since which it waits for band
budget (R275). -/
structure Offer where
  num : Nat
  type : Nat
  triad : Nat
  port : Option Nat
  dst : Nat
  prio : Nat
  standing : Bool
  ackReq : Bool
  body : List Byte
  parcels : List OutParcel
  entered : Bearing
  waiting : Option Nat
  attempts : Nat
  lastMode : Option Nat
  lastBands : Nat
  alternate : Bool
  start : Option Bearing
deriving DecidableEq, Repr

/-- Where a transmission stands: placed at a bearing where its admission is tested, admitted, on the line, or ended and
awaiting its ACK. -/
inductive TxStage where
  | placed | admitted | onLine | awaitingAck
deriving DecidableEq, Repr

/-- A value a carrier carries in one symbol (R161, R177): no energy, unit magnitude at a phase in units of 2π/1024, or a
point (i + jq)/√d. -/
inductive CarrierValue where
  | off
  | phase (p : Nat)
  | point (i q : Int) (d : Nat)
deriving DecidableEq, Repr

/-- A Benchmark tone in a symbol (R207, R208): port, carrier, attenuation in dB below the frame's level, phase in units of
2π/1024. -/
structure Tone where
  port : Nat
  carrier : Nat
  atten : Nat
  phase : Nat
deriving DecidableEq, Repr

/-- A symbol of a frame as it is sent (R161): its first sample, whether it has a cyclic prefix, per stream the value on
each carrier, its Benchmark tones. -/
structure SentSymbol where
  start : Nat
  cyclic : Bool
  streams : List (List (Nat × CarrierValue))
  tones : List Tone
deriving DecidableEq, Repr

/-- An admitted transmission (R41): its offer, what was fixed at admission, its frame on the wire (FCH bits, MAC frame,
coded payload bits, start sample of each training and payload symbol), its output impedance
code on each of its ports, its LOSS at admission and its charge per port in mW
(R151, R152), its stage. Bearings `last` and
`ackEnd` are those of its last sample and of the close of its ACK window. `phi`, `windows`: Φ_tx and the windows of its
pattern (R197, R198). `weights`: what each precoding group, port and stream is multiplied by, in 2^-14 (R194, R196), and
`line`, its symbols, both fixed at its start. -/
structure Tx where
  offer : Offer
  ports : List Nat
  phy : PhyMode
  bands : Nat
  mode : Nat
  streams : Nat
  notch : Nat
  windows : List (Nat × Nat)
  phi : Nat
  seq : Nat
  start : Bearing
  last : Bearing
  ackEnd : Bearing
  samples : Nat
  micros : Nat
  atten : Nat
  zout : List Nat
  carriers : Nat
  loss : Nat
  charge : Nat
  fch : List Bool
  mac : List Byte
  coded : List Bool
  syncs : Nat
  positions : List Nat
  weights : List (List (List (Int × Int)))
  line : List SentSymbol
  lostSlice : Bool
  stage : TxStage
deriving DecidableEq, Repr

/-- A notch pattern (R250): id, scope (bit m − 1 for mask m), windows (start bin, length). -/
structure NotchPattern where
  id : Nat
  scope : Nat
  windows : List (Nat × Nat)
deriving DecidableEq, Repr

/-- A notch set of a triad (R251, R252). -/
structure NotchSet where
  version : Nat
  patterns : List NotchPattern
deriving DecidableEq, Repr

/-- A grant in force or to come (R257): triad, band set, first bin, length in bins, superframe, receiving node. -/
structure Grant where
  triad : Nat
  bands : Nat
  start : Nat
  len : Nat
  superframe : Nat
  node : Nat
deriving DecidableEq, Repr

/-- The backoff of a frame that contends (R255): the number of its offer, the SEND it comes from where it has none, its band
set, the idle bins left to count. -/
structure Backoff where
  num : Nat
  send : Option Cmd
  bands : Nat
  left : Nat
deriving DecidableEq, Repr

/-- What the Plane Table keeps of a triad beside MAC_TRIADt: the sets in force and pending (with its superframe), the
superframe of the last announcement, PHI_DEV of this superframe (R249), the CP_END chosen for the next one (R239), the
superframes of discovery left (R260), notices and duplicates of the open last-gasp window (R281), the backoffs under way
(R255), the superframe whose Cairn has been admitted or passed over (R41, R275), the last bearing at which a last-gasp window,
a quiet window, a re-seat decision or a takeover touched the triad, the entries of the priority-0 parcels that another has been
ahead of (R278). -/
structure MacTriad where
  inForce : NotchSet
  pending : Option (NotchSet × Nat)
  announced : Option Nat
  phiDev : Nat
  cpNext : Option Nat
  discLeft : Nat
  gaspNotices : Nat
  gaspDups : Nat
  backoffs : List Backoff
  cairnFor : Option Nat
  touched : Option Bearing
  behind : List Bearing
deriving DecidableEq, Repr

/-- A triad at reset. -/
def MacTriad.reset : MacTriad :=
  { inForce := { version := 0, patterns := [] }, pending := none, announced := none, phiDev := 0, cpNext := none,
    discLeft := 0, gaspNotices := 0, gaspDups := 0, backoffs := [], cairnFor := none,
    touched := none, behind := [] }

/-- The Plane Table beside its registers. `accounts`: per port and sub-band (key 4n + s) the µs charged per bucket, the
current bucket first, 33 at most (R273). `gasps`: short addresses with the bearing of their last notice. `discForce`,
`force0`: the values in force of MAC_CTRL.DISC_FORCE and PT_NOTCH_CTRL.FORCE0 (R285). -/
structure MacSt where
  offers : List Offer
  txs : List Tx
  nextNum : Nat
  triads : Store MacTriad
  grants : List Grant
  accounts : Store (List Nat)
  gasps : List (Nat × Bearing)
  discForce : Bool
  force0 : Bool
deriving DecidableEq, Repr

/-- The Plane Table at reset. -/
def MacSt.reset : MacSt :=
  { offers := [], txs := [], nextNum := 0, triads := [], grants := [], accounts := [], gasps := [], discForce := false,
    force0 := false }

/-! ### Traverse (08_traverse.md) -/

/-- A core entry of the node table, field by field as R290 lays it out. -/
structure Node where
  long : BitVec 64
  short : Nat
  state : Nat
  relay : Bool
  depth : Nat
  sleeps : Bool
  threePh : Bool
  orphan : Bool
  pinned : Bool
  caps : Nat
  owner : Nat
  rdvDir : Bool
  unreachable : Bool
  phi : Nat
  parent : Nat
  alt : Nat
  rxPort : Nat
  phase : Nat
  phTriad : Nat
  phCode : Nat
  phEst : Nat
  link : Nat
  metric : Nat
  rcSlot : Nat
  rcPhase : Nat
  rcBand : Nat
  rcMiss : Nat
  lastSf : Nat
  bLast : Bearing
  vnext : Bearing
  rdvQ : Nat
  txSeq : Nat
  rxSeq : Nat
  pseq : Nat
  ulMap : Nat
  dlMap : Nat
  nverAck : Nat
  step : Nat
  fails : Nat
  entrySeq : Nat
deriving DecidableEq, Repr

/-- A FREE entry that nothing has written: every field 0. -/
def Node.free : Node :=
  { long := 0, short := 0, state := 0, relay := false, depth := 0, sleeps := false, threePh := false, orphan := false,
    pinned := false, caps := 0, owner := 0, rdvDir := false, unreachable := false, phi := 0, parent := 0, alt := 0,
    rxPort := 0, phase := 0, phTriad := 0, phCode := 0, phEst := 0, link := 0, metric := 0, rcSlot := 0, rcPhase := 0,
    rcBand := 0, rcMiss := 0, lastSf := 0, bLast := 0, vnext := 0, rdvQ := 0, txSeq := 0, rxSeq := 0, pseq := 0,
    ulMap := 0, dlMap := 0, nverAck := 0, step := 0, fails := 0, entrySeq := 0 }

/-- A neighbour a node has reported (R293, R301): short address, SNR, REL, superframe bits [15:0]. -/
structure Neigh where
  short : Nat
  snr : Nat
  rel : Nat
  sf : Nat
deriving DecidableEq, Repr

/-- A contour-map generation of a link (R182, R267): its index, its encoding, the superframe from which it may be used,
whether the ACK of its SET is held. -/
structure MapGen where
  index : Nat
  bytes : List Byte
  eff : Nat
  acked : Bool
deriving DecidableEq, Repr

/-- The time record of a node (R450), its fields in ns, beside the last values collected while REF_VALID is 0 (newest
first) and T1 and time of the last SYNC sent. -/
structure TimeRec where
  rttRef : Nat
  rttLast : Nat
  offsetLast : Int
  corr : Int
  refValid : Bool
  frozen : Bool
  asym : Bool
  agree : Nat
  seqT : Nat
  lastSf : Nat
  recent : List Nat
  t1 : Nat
  syncSent : Bool
deriving DecidableEq, Repr

/-- A time record before the first exchange (R450: CORR 0). -/
def TimeRec.reset : TimeRec :=
  { rttRef := 0, rttLast := 0, offsetLast := 0, corr := 0, refValid := false, frozen := false, asym := false,
    agree := 0, seqT := 0, lastSf := 0, recent := [], t1 := 0, syncSent := false }

/-- A rendezvous series (R268 to R272): V0, the index k of the next rendezvous, the WAKEs sent since the pair
desynchronised (none while it is not). -/
structure Rendezvous where
  v0 : Bearing
  k : Nat
  wakes : Option Nat
deriving DecidableEq, Repr

/-- A route change announced to a node (R299): parent, alternate, depth and version to come, EFF, and the
DOWN_ADD and DOWN_DEL frames whose ACKs are still owed. -/
structure RouteChange where
  parent : Nat
  alt : Nat
  depth : Nat
  rver : Nat
  eff : Nat
  owed : List Nat
deriving DecidableEq, Repr

/-- A join in progress (R262, R306): the bearing of its ASSOC_REQ, and the relay it goes through. -/
structure Join where
  since : Bearing
  relay : Option Nat
deriving DecidableEq, Repr

/-- The rest of what Traverse and the Plane Table keep of a node: its extended state (R293) beside the fingerprint and
the channel estimates that Sounding holds, and its link bookkeeping. -/
structure NodeExt where
  ulMaps : List MapGen
  dlMaps : List MapGen
  omegas : List Nat
  moves : List (ObsFrom × Nat)
  neigh : List Neigh
  time : TimeRec
  chmask : BitVec 112
  chstr : Nat
  chNext : Option (BitVec 112 × Nat × Nat × Bool)
  hits : List Bool
  exhausted : Nat
  supvFrom : Nat
  better : Option (Nat × Nat × Nat)
  change : Option RouteChange
  rdv : Option Rendezvous
  seen : List (Nat × Nat)
  join : Option Join
  rcPending : Option Nat
  /-- mode and band set of the last first attempt on the hop without a contour map (R313) -/
  mode : Option (Nat × Nat)
  /-- frames whose ACKs downlink to the node waits for (R309) -/
  hold : List Nat
deriving DecidableEq, Repr

/-- Extended state that nothing has written. -/
def NodeExt.reset : NodeExt :=
  { ulMaps := [], dlMaps := [], omegas := [], moves := [], neigh := [],
    time := .reset, chmask := 0, chstr := 0, chNext := none, hits := [], exhausted := 0, supvFrom := 0, better := none,
    change := none, rdv := none, seen := [], join := none, rcPending := none,
    mode := none, hold := [] }

/-- A route entry (R298). PINNED is that of the core entry. -/
structure Route where
  first : Nat
  altFirst : Nat
  port : Nat
  altPort : Nat
  metric : Nat
  altMetric : Nat
  depth : Nat
  altDepth : Nat
  rver : Nat
  usingAlt : Bool
deriving DecidableEq, Repr

/-- A route entry that nothing has written. -/
def Route.none : Route :=
  { first := 0, altFirst := 0, port := 0, altPort := 0, metric := 0, altMetric := 0, depth := 0, altDepth := 0,
    rver := 0, usingAlt := false }

/-- A repair in progress (R311): the suspect relay's index, the superframe it became suspect, nodes moved. -/
structure Repair where
  relay : Nat
  since : Nat
  subtree : List Nat
  moved : List Nat
deriving DecidableEq, Repr

/-- Traverse beside its registers. `down`: per relay short address, the (destination, next hop) entries its ACKs have
confirmed (R299, R300). `latches`: the core entry latched per master (R292). `lag`: the worst core-entry lag of this superframe
in µs (R326). -/
structure TrvSt where
  nodes : Store Node
  ext : Store NodeExt
  routes : Store Route
  down : Store (List (Nat × Nat))
  repairs : List Repair
  latches : Store (List Byte)
  lag : Nat
deriving DecidableEq, Repr

/-- Traverse at reset: an empty table. -/
def TrvSt.reset : TrvSt := { nodes := [], ext := [], routes := [], down := [], repairs := [], latches := [], lag := 0 }

/-! ### G3-PLC (09_g3_profile.md) -/

/-- A neighbour of a G3 port (R335): addresses, tone map, modulation, transmit gain, highest secured frame counter
accepted, the tick of its tone map, the order of its last use. -/
structure G3Neigh where
  short : Nat
  toneMap : List Byte
  modulation : Nat
  gain : Nat
  fctr : Option Nat
  mapAt : Nat
  used : Nat
deriving DecidableEq, Repr

/-- What a G3 port sends: a tone map response, a tone map request, an acknowledgement, or a parcel. -/
inductive G3Job where
  | mapResponse | mapRequest | ack | parcel
deriving DecidableEq, Repr

/-- The G3 frame a port has in hand (R334): its job and peer, its parcel (header and payload, sealed from the first
attempt on), the SEND that owes its completion and whether it asked for a stamp, its stratum, backoffs made in this
attempt, attempts made, its duration in µs, whether it is on the air, whether its ACK is awaited. -/
structure G3Tx where
  job : G3Job
  short : Nat
  parcel : List Byte
  send : Option Cmd
  stamp : Bool
  prio : Nat
  backoffs : Nat
  tries : Nat
  micros : Nat
  onAir : Bool
  awaitingAck : Bool
deriving DecidableEq, Repr

/-- A G3 port beside its registers: its neighbour table, the frame in hand, a count of uses, and the control frames that
wait with their peers. -/
structure G3Port where
  neigh : List G3Neigh
  tx : Option G3Tx
  uses : Nat
  control : List (Nat × G3Job)
deriving DecidableEq, Repr

/-- A G3 port at reset. -/
def G3Port.reset : G3Port := { neigh := [], tx := none, uses := 0, control := [] }
/-! ### Cipher and Sieve (11_cipher_sieve.md) -/

/-- A key context (R389, R425): STATE 0 CLOSED, 1 OPEN, 2 EXHAUSTED, 3 RETIRED. -/
structure Ctx where
  state : Nat
  due : Bool
  purpose : Nat
  dir : Bool
  ccm : Bool
  slot : Nat
  gen : Nat
  next : Nat
  high : Nat
  window : BitVec 64
  long : BitVec 64
deriving DecidableEq, Repr

/-- A CLOSED context (R393). -/
def Ctx.closed : Ctx :=
  { state := 0, due := false, purpose := 0, dir := false, ccm := false, slot := 0, gen := 0, next := 0, high := 0,
    window := 0, long := 0 }

/-- A received parcel under a tag check on page 16 (R35, R337, R397): the parcel as it goes to its queue, the context
with the generation and counter it was sealed under, ORIG and PSEQ, the sending hop's entry (the port of a G3 frame), the
ACK that owes its PMASK bit, and the stamps of its frame with its port (R439). -/
structure LinkWork where
  parcel : Produce
  ctx : Nat
  gen : Nat
  fctr : Nat
  hop : Nat
  short : Nat
  ack : Option (Nat × Nat)
  port : Nat
  sync : Bearing
  stampA : Nat
  stampB : Nat
deriving DecidableEq, Repr

/-- What becomes of a received parcel that no receive queue takes: it is in transit to a node (R37), the device has no queue
for it, or its destination is unknown. -/
inductive LinkUse where
  | relay (final : Nat)
  | dropped
  | unknown
deriving DecidableEq, Repr

/-- What a cipher operation serves (R406): a host ENCRYPT with its associated data and plaintext, a host DECRYPT with
the parcel it writes, a received parcel on its way to a receive queue, or another received parcel. -/
inductive CipherWork where
  | encrypt (c : Cmd) (aad src : List Byte)
  | decrypt (c : Cmd) (parcel : Produce)
  | link (w : LinkWork)
  | pass (w : LinkWork) (use : LinkUse)
deriving DecidableEq, Repr

/-- A cipher operation: its number in order of arrival, its priority, page and queue, its work, and for a decryption
the verdict its tag gives. -/
structure CipherOp where
  num : Nat
  prio : Nat
  page : Nat
  queue : Nat
  work : CipherWork
  tagOk : Bool
deriving DecidableEq, Repr

/-- An engine (R407): the operation it runs, the operations it holds suspended, the last suspended first. -/
structure Engine where
  running : Option CipherOp
  suspended : List CipherOp
deriving DecidableEq, Repr

/-- An idle engine. -/
def Engine.idle : Engine := { running := none, suspended := [] }

/-- The cipher and Sieve beside their registers. Contexts are keyed page × 2^19 + number. `cache`: tags (root index,
label) of the derived keys held, most recently used first, at most 4,096 (R387).
`drbgRequests`, `drbgSeeded`, `drbgStopped`: requests since the last reseed, its
tick, and whether output is stopped (R408, R409). `broughtForward`: channels whose self-test R420 brings forward.
`tamperUnpowered`: inputs of tamper events while unpowered, not yet recorded (R413). `relays`: parcels in transit whose tag has
passed, with the entry of their destination (R37). `sendsWait`: triads on which a priority-0 parcel waits for an engine to
encrypt it (R53). -/
structure CipherSt where
  ctxs : Store Ctx
  slots : Store (List Byte)
  cache : List (Nat × List Byte)
  engines : Store Engine
  waiting : List CipherOp
  nextNum : Nat
  drbgRequests : Nat
  drbgSeeded : Nat
  drbgStopped : Bool
  randoms : List Cmd
  broughtForward : List Nat
  tamperUnpowered : Nat
  relays : List (Produce × Nat)
  sendsWait : List Nat
deriving DecidableEq, Repr

/-- The cipher at reset: every context CLOSED (R393). -/
def CipherSt.reset : CipherSt :=
  { ctxs := [], slots := [], cache := [], engines := [], waiting := [], nextNum := 0, drbgRequests := 0,
    drbgSeeded := 0, drbgStopped := false, randoms := [], broughtForward := [], tamperUnpowered := 0, relays := [],
    sendsWait := [] }

/-! ### Datum (12_datum.md) -/

/-- One domain: its value in units of 2^-32 ns (seconds, nanoseconds and the 32 internal fraction bits as one number,
R429), the increment in force as 32.32 ns (R431), SLEW_REM in units of 2^-32 ns (R435). -/
structure Domain where
  t : Nat
  incr : Nat
  slewRem : Nat
  /-- on a follower (R467): the difference still to close, in units of 2^-32 ns, and the rate in ppm -/
  followErr : Int
  followPpm : Nat
deriving DecidableEq, Repr

/-- A domain at reset: 0, nominal increment (R430, R15). -/
def Domain.reset : Domain := { t := 0, incr := 0x400000000, slewRem := 0, followErr := 0, followPpm := 0 }

/-- Datum beside its registers. `delta` is Δ of R436 in units of 2^-32 ns. Stamp entries are byte lists (R437, R440).
-/
structure DatumSt where
  a : Domain
  b : Domain
  delta : Int
  txs : List (List Byte)
  /-- the queue has been read empty since the last loss was recorded (R453) -/
  txsLossArmed : Bool
  tsi0 : List (List Byte)
  tsi1 : List (List Byte)
  captures : Nat
  /-- latched registers per master: keyed master × 0x1000 + register offset in the block -/
  latches : Store Word
  /-- for each TIMEPULSE output that is high, the tick at which its pulse began (R443) -/
  pulse : Store (Option Nat)
deriving DecidableEq, Repr

/-- Datum at reset. -/
def DatumSt.reset : DatumSt :=
  { a := .reset, b := .reset, delta := 0, txs := [], txsLossArmed := true, tsi0 := [], tsi1 := [], captures := 0,
    latches := [], pulse := [] }

/-! ### The Chain (13_chain.md) -/

/-- The roles of R460, R473 and R491. -/
inductive Role where
  | none | master | standby | member | isolated
deriving DecidableEq, Repr

/-- CHN_ID.ROLE (R491). -/
def Role.code : Role → Nat
  | .none => 0 | .master => 1 | .standby => 2 | .member => 3 | .isolated => 4

/-- A cell the device sends: the ring (false A, true B) and its 72 bytes (R457). -/
structure OutCell where
  ringB : Bool
  bytes : List Byte
deriving DecidableEq, Repr

/-- A shadow parcel the standby holds (R477): its lane and port, sync bearing and stamps, receive queue and content. -/
structure HeldParcel where
  lane : Nat
  port : Nat
  sync : Bearing
  stampA : Nat
  stampB : Nat
  queue : Nat
  parcel : Produce
deriving DecidableEq, Repr

/-- A frame that the standby has received for its partner and whose ACK is the new master's to send if the partner fails before
it (R484): as it was heard, its node, its MAC bytes, the parcels that passed. -/
structure HeldAck where
  lane : Nat
  node : Nat
  port : Nat
  sb : Nat
  reception : Reception
  frame : RxFch
  mac : List Byte
  passed : List Nat
deriving DecidableEq, Repr

/-- An armed snapshot or handover (R485, R487); `ready` as for an armed swap. -/
structure ChainOp where
  handover : Bool
  bearing : Bearing
  verdict : Verdict
  tokenOut : Bool
  ready : Nat
deriving DecidableEq, Repr

/-- A frame driven for the partner on one of this device's ports (R479): its sub-bands as its samples show them, whether
its last cell has come, its LOSS at admission and its charge in mW (R151). -/
structure Drive where
  port : Nat
  slot : Nat
  bands : Nat
  done : Bool
  loss : Nat
  start : Bearing
  zout : Nat
  atten : Nat
  samples : List Byte
  charge : Nat
deriving DecidableEq, Repr

/-- The Chain beside its registers. Instants in ticks. -/
structure ChainSt where
  role : Role
  /-- inputs locked (R462, R463) and bypass switches closed (R474) -/
  lockedA : Bool
  lockedB : Bool
  bypassA : Bool
  bypassB : Bool
  joined : Bool
  /-- a SYNC has been heard since entry to SETTLE (R460) -/
  heard : Bool
  /-- the latest MEPOCH heard since reset (R461) -/
  highest : Option Nat
  /-- own Bearing lock, or start in HOLDOVER, of a device whose role is undecided (R460, R87) -/
  ownLock : Option Nat
  freeStart : Bool
  /-- arrival of the last SYNC (R469) and of the last SYNC of its own (R473) -/
  lastSync : Nat
  lastOwn : Nat
  /-- per ring: SYNC_SEQ of the last SYNC and the difference it gave, in 2^-16 bu (R466, R468) -/
  estA : Option (Nat × Int)
  estB : Option (Nat × Int)
  asymRun : Nat
  symRun : Nat
  masterFreq : Nat
  masterRank : Nat
  /-- DSTEP of each domain: as last heard, or as counted on the master (R464, R467) -/
  dstepA : Nat
  dstepB : Nat
  followStart : Option Bearing
  /-- the initial copy of the partner's partition is complete (R480) -/
  copyDone : Bool
  /-- Chain holdover (R470) -/
  holdover : Bool
  /-- closing a negative error at 98.0 %, answering TOKENs with NOT_READY (R471) -/
  backSlew : Bool
  /-- sync lost declared by a READY standby: the takeover is to come (R469, R481) -/
  takeoverDue : Bool
  /-- (source, SEQ) of the cells kept last, newest first (R457) -/
  seen : List (Nat × Nat)
  seq : Nat
  /-- cells sent, in order -/
  cells : List OutCell
  held : List HeldParcel
  heldAcks : List HeldAck
  op : Option ChainOp
  /-- a BARRIER runs (R486): 0 none, 1 TOKEN out, 2 release out -/
  barrier : Nat
  /-- a RESET to all is held (R488) -/
  resetAll : Bool
  /-- tick at which the master sent a RESET to all (R488) -/
  resetOut : Option Nat
  /-- active count and MIN_ATTEN of the partner's ports (R479) -/
  partnerK : Store Nat
  partnerAtten : Store Nat
  drives : List Drive
  refused : List (Nat × Nat)
  snapshots : Nat
  /-- an ECHO is out for the input of each ring (R465) -/
  echoA : Bool
  echoB : Bool
  /-- fragments of notch sets as the replica takes them, by triad, 8 more for the set in force (R478) -/
  notchBytes : Store (List Byte)
deriving DecidableEq, Repr

/-- The Chain at reset: bypasses closed, no role (R474, R460). -/
def ChainSt.reset : ChainSt :=
  { role := .none, lockedA := false, lockedB := false, bypassA := true, bypassB := true, joined := false,
    heard := false, highest := none, ownLock := none, freeStart := false, lastSync := 0, lastOwn := 0, estA := none,
    estB := none, asymRun := 0, symRun := 0, masterFreq := 0, masterRank := 0, dstepA := 0, dstepB := 0,
    followStart := none, copyDone := false, holdover := false, backSlew := false, takeoverDue := false, seen := [],
    seq := 0, cells := [], held := [], heldAcks := [], op := none, barrier := 0, resetAll := false, resetOut := none, partnerK := [],
    partnerAtten := [], drives := [], refused := [], snapshots := 0, echoA := false, echoB := false, notchBytes := [] }

/-! ### Site Sense (14_site_sense.md) -/

/-- A sense channel beside its registers: offset O_c per gain code (R497), the last good conversion (gain code, u,
whether its polarity was −1) where it directly precedes, the run of good conversions below 0.40 (R501), the run of good
conversions and the fault with its cause and bad conversions (R504), the polarity of the present conversion, whether a
source has been out of compliance in it (R499). -/
structure SenseCh where
  offsets : Store Rat
  prev : Option (Nat × Rat × Bool)
  small : Nat
  goodRun : Nat
  fault : Option Nat
  badTotal : Nat
  negative : Bool
  lost : Bool
  /-- an image swap has replaced SENSE and no conversion begun since has completed (R77) -/
  hold : Bool
  /-- the settings of the conversion that an image swap found in progress (R77) -/
  old : Option (List Word)
  /-- the latest conversion of its converter was this channel's (R495) -/
  latest : Bool
deriving DecidableEq, Repr

/-- A channel before its first conversion. -/
def SenseCh.reset : SenseCh :=
  { offsets := [], prev := none, small := 0, goodRun := 0, fault := none, badTotal := 0,
    negative := false, lost := false, hold := false, old := none, latest := false }

/-! ### Serial ports (15_serial_ports.md) -/

/-- A serial port beside its registers: its FIFOs (entries of R517; characters), the character
in the transmit shifter (none for a break) with the SP_FMT and the DIV under which it was started (R522), whether the
next entry carries LOST or GLITCH, whether the tail of SP1_DE runs (R524), whether the line has been high for a
character time since it last woke the port (R527). -/
structure SerialPort where
  rx : List Nat
  tx : List Nat
  shifter : Option (Option Nat × Word × Nat)
  lost : Bool
  glitched : Bool
  tail : Bool
  wakeArmed : Bool
  /-- the tick at which SP1_DE went low last (R525) -/
  deEnd : Option Nat
deriving DecidableEq, Repr

/-- A port at reset: FIFOs empty, TXD at mark (R528). -/
def SerialPort.reset : SerialPort :=
  { rx := [], tx := [], shifter := none, lost := false, glitched := false, tail := false, wakeArmed := true, deEnd := none }
/-! ### Faults, reset and the journal (16_faults_reset.md) -/

/-- An entry of the fault journal (R550): its record, JSEQ, BOOT, KIND, and the KIND 1 hours. -/
structure JournalEntry where
  record : FbRecord
  jseq : Word
  boot : Word
  kind : Nat
  hours : Word
  age : Word
  /-- the entry's CRC passes (R553); an interrupted write leaves it false -/
  crcOk : Bool
deriving DecidableEq, Repr

/-- An erased journal slot. -/
def JournalEntry.erased : JournalEntry :=
  { record := .zero, jseq := 0, boot := 0, kind := 0, hours := 0, age := 0, crcOk := false }

/-- The journal as the flash holds it (kept through a full reset, R546) and its rate limit (R551). -/
structure JournalSt where
  entries : Store JournalEntry
  /-- index of the next entry, 0 to 16,383 -/
  next : Nat
  /-- JSEQ of the next entry, contiguous over the device's life -/
  jseq : Word
  /-- erases of each sector -/
  erases : Store Nat
deriving DecidableEq, Repr

/-- The rest of the fault block: rate limit (ticks of the entries of the last 60 s), drops not yet summarised, the
age of R554 in units of 2^-64 h, powered minutes, the ticks of entry into the present device state and of the last
start of the host timer (R547), whether that timer has run out since, the full value of the boot count, whether the
self-tests of SETTLE have passed (R538). -/
structure FaultSt where
  recent : List Nat
  dropPending : Nat
  age : Nat
  minutes : Nat
  /-- tick from which the minute in progress runs (R554) -/
  minuteAt : Nat
  /-- KIND 1 entries made after 24 h powered, since the reset (R551) -/
  lives : Nat
  since : Nat
  kicked : Nat
  wdogOut : Bool
  boot : Word
  selfOk : Bool
deriving DecidableEq, Repr

/-- The fault block at a full reset. -/
def FaultSt.reset : FaultSt := { recent := [], dropPending := 0, age := 0, minutes := 0, minuteAt := 0, lives := 0, since := 0, kicked := 0, wdogOut := false, boot := 0, selfOk := false }

/-! ### Host interface (17_host_interface.md) -/

/-- One entry of an MSI-X table. -/
structure MsixEntry where
  addr : BitVec 64
  data : Word
  masked : Bool
deriving DecidableEq, Repr

/-- Every entry is masked at reset (R566). -/
def MsixEntry.reset : MsixEntry := { addr := 0, data := 0, masked := true }

/-- Configuration space of one function beside HIF_FN_STAT: Memory Space Enable and the MSI-X capability. -/
structure FnConfig where
  mse : Bool
  msixEnable : Bool
  fnMask : Bool
deriving DecidableEq, Repr

/-- Configuration space at reset values. -/
def FnConfig.reset : FnConfig := { mse := false, msixEnable := false, fnMask := false }

/-- A message signalled interrupt sent to the host. -/
structure MsixMessage where
  fn : Nat
  vector : Nat
  addr : BitVec 64
  data : Word
deriving DecidableEq, Repr

/-- A DMA write to host memory. -/
structure DmaWrite where
  fn : Nat
  addr : Nat
  bytes : List Byte
deriving DecidableEq, Repr

/-- What the device last answered on an access port (a PCIe completion, an I2C byte, a console line). -/
inductive Answer where
  | none
  | unsupported
  | retry
  | word (v : Word)
  | bytes (b : List Byte)
deriving DecidableEq, Repr

/-- The host interface beside its registers. -/
structure HostSt where
  config : Store FnConfig
  vfEnable : Bool
  numVfs : Nat
  msix : Store MsixEntry
  pba : Store Bool
  messages : List MsixMessage
  dmaWrites : List DmaWrite
  answer : Answer
  i2cPtr : Nat
  /-- the word latched by the read of its first byte (R576) -/
  i2cLatch : Option Word
  /-- a byte has been read since the pointer was last written -/
  i2cRead : Bool
  consoleOut : List (List Byte)
  /-- PE_WAKE_N driven low (R544) -/
  wakeLow : Bool
  /-- flash content by byte address; an unlisted byte is erased, 0xFF -/
  flash : Store Byte
deriving DecidableEq, Repr

/-- The host interface at reset. -/
def HostSt.reset : HostSt :=
  { config := [], vfEnable := false, numVfs := 0, msix := [], pba := [], messages := [], dmaWrites := [],
    answer := .none, i2cPtr := 0, i2cLatch := none, i2cRead := false, consoleOut := [], wakeLow := false, flash := [] }

/-! ### The whole -/

/-- Everything the spec gives the block except the queue of waiting commands. -/
structure Block where
  /-- ticks of the 250 MHz time clock since the model began (the model's own clock) -/
  ticks : Nat
  /-- how many free values have been drawn (the model's own counter) -/
  drawn : Nat
  dev : DevState
  regs : Store Word
  host : HostSt
  strata : StrataSt
  book : Store FbRecord
  fault : FaultSt
  journal : JournalSt
  img : ImgSt
  brg : BearingSt
  dtm : DatumSt
  pool : PoolSt
  ports : PortsSt
  sound : SoundSt
  chain : ChainSt
  mac : MacSt
  trv : TrvSt
  g3 : Store G3Port
  cx : CipherSt
  sense : Store SenseCh
  serial : Store SerialPort
  /-- the 48 MHz serial oscillator runs (R527) -/
  oscillator : Bool
deriving DecidableEq, Repr

/-- The state of the machine: the block, and the commands that wait, first in first out. -/
structure State where
  blk : Block
  pending : List Instr
deriving DecidableEq, Repr

/-- The block at reset: every register at its reset value, every part as its chapter gives it. -/
def Block.reset : Block :=
  { ticks := 0, drawn := 0, dev := .reset, regs := [], host := .reset, strata := .reset, book := [],
    fault := .reset,
    journal := { entries := [], next := 0, jseq := 0, erases := [] }, img := .reset, brg := .reset, dtm := .reset,
    pool := .reset, ports := .reset, sound := .reset, chain := .reset,
    mac := .reset, trv := .reset, g3 := [], cx := .reset, sense := [], serial := [], oscillator := true }

/-- The machine right after reset: the block at reset and no command waiting. -/
def State.reset : State := { blk := .reset, pending := [] }

/-- Faults: the block has none of its own (doubts, violations and resets are next states). The type has one
constructor because a step's outcome names it: `none` is raised by no meaning. -/
inductive Fault where
  /-- Raised by no meaning. Safe. -/
  | unused
deriving DecidableEq, Repr

/-- Refusals of the model. -/
inductive Refusal where
  /-- Raised by `exec` for a command whose meaning is not written yet. Safe: the model stops. -/
  | notModelled (mnemonic : String)
  /-- Raised by `answer` for operands that no environment can present (WellFormed). Safe: the model stops. -/
  | illFormed (mnemonic : String)
deriving DecidableEq, Repr

end Sys2Proof.Machine
end

