-- ==== Sys2Proof/WellFormed.lean ====
section
/-!
DEFINITION. Which operands an environment can present: a Chain cell has 72 bytes, a misaligned access is misaligned, a
self-test reports on as many parts as the device has. A command whose operands fail is refused by name.
-/

namespace Sys2Proof

/-- A Chain cell: 8 bytes of header and 64 of body (R457). -/
def cellOk (cell : List Byte) : Bool := cell.length == 72

/-- An access that is not a naturally aligned 32-bit access (R4). -/
def accessMisaligned (off bytes : Nat) : Bool := !(bytes == 4 && off % 4 == 0)

/-- A report on the self-tests of SETTLE: 16 programmable channels per vector, 24 ports, 2 converters (R538). -/
def SelfTest.wf (t : SelfTest) : Bool :=
  t.channelsA.length == 16 && t.channelsB.length == 16 && t.slices.length == 24 && t.converters.length == 2 &&
    t.offsets.length == 8

/-- Measures of a transmission: at most the three ports of a triad (R17), nine filters of 96 taps or none (R137). -/
def TxMeasure.wf (m : TxMeasure) : Bool :=
  decide (m.ports.length ≤ 3) && (m.filters.isEmpty || m.filters.map List.length == List.replicate 9 96)

/-- Whether the operands of a command are ones an environment can present. -/
def Instr.wf (i : Instr) : Bool :=
  match i with
  | .misalignedAccess _ off bytes => accessMisaligned off.toNat bytes
  | .registerWrite _ => true
  | .laneCrossCheck _ => true
  | .laneBindingMove _ => true
  | .dramPageRetired _ => true
  | .ldpcDecode _ _ => true
  | .admission _ => true
  | .transmissionStart _ => true
  | .transmissionEnd _ m => m.wf
  | .load => true
  | .stageHost => true
  | .stageSlotA => true
  | .stageSlotB => true
  | .stagingDone _ => true
  | .arm => true
  | .disarm => true
  | .discard => true
  | .seal => true
  | .loadComplete _ => true
  | .swapAbortDeadline => true
  | .imageSwap => true
  | .mainsCrossing _ => true
  | .slewComplete => true
  | .referenceSilence => true
  | .relockTimeout => true
  | .lockWaitExpiry => true
  | .reseat => true
  | .triadOutage _ => true
  | .noiseMapUpdate _ _ => true
  | .alarmArm _ _ => true
  | .alarmFire _ => true
  | .brgNowRead _ => true
  | .agcMeasure _ _ => true
  | .agcStep _ _ => true
  | .agcRenormalise _ => true
  | .sliceTrip _ _ => true
  | .sliceSuspect _ _ => true
  | .sliceTest _ _ _ => true
  | .sliceRotation _ => true
  | .sliceChangeApply _ => true
  | .bankMeasure _ _ _ => true
  | .bankOn _ => true
  | .railFault _ => true
  | .lossObservation _ _ _ => true
  | .candidateExpiry => true
  | .coefficientApply _ => true
  | .soundingUnfreeze => true
  | .rebase => true
  | .writeRef => true
  | .clearShift => true
  | .xbcFilterApply _ => true
  | .superframeStart => true
  | .cpEndChoice _ => true
  | .cairnTransmit _ => true
  | .dataReceived _ => true
  | .ackReceived _ => true
  | .ackMissing _ => true
  | .assocReqReceived _ => true
  | .mapReportReceived _ => true
  | .gaspReceived _ => true
  | .cairnCReceived _ => true
  | .relayedCairnMissed _ => true
  | .leaveReceived _ => true
  | .notchRecompute _ => true
  | .supervisionExpiry _ => true
  | .budgetBucketRoll _ _ => true
  | .budgetTtlExpiry => true
  | .p0Late _ _ => true
  | .lastGaspClose _ => true
  | .rendezvous _ => true
  | .rendezvousMissed _ => true
  | .routeEvaluation _ => true
  | .routeChangeEff _ => true
  | .neighReceived _ => true
  | .rcMissReceived _ => true
  | .rrepReceived _ => true
  | .joinFwdReceived _ => true
  | .repairDeadline _ => true
  | .free => true
  | .block => true
  | .unblock => true
  | .pin => true
  | .unpin => true
  | .repair => true
  | .phReset => true
  | .routeEntryLatch _ => true
  | .nodeEntryRead _ _ _ => true
  | .g3FrameReceived _ => true
  | .g3Transmit _ _ => true
  | .g3AckTimeout _ => true
  | .toneMapExpiry _ _ => true
  | .doorbell _ _ _ => true
  | .commandFetch _ _ => true
  | .nop _ => true
  | .send _ _ => true
  | .recv _ => true
  | .recvDelivery _ _ _ => true
  | .mark _ => true
  | .rewind _ => true
  | .commit _ => true
  | .qstat _ => true
  | .flush _ => true
  | .tagDecision _ _ _ => true
  | .wpB1 _ _ _ => true
  | .wpB2 _ _ _ => true
  | .wpB4 _ _ _ => true
  | .wpMarkSop _ _ => true
  | .wpMarkEop _ _ => true
  | .convPause _ => true
  | .convResume _ _ _ => true
  | .qfConvPause _ => true
  | .qfConvResume _ _ _ => true
  | .pauseComplete _ => true
  | .wedged _ => true
  | .fbPost _ _ => true
  | .ctxOpen _ => true
  | .ctxClose _ => true
  | .rekey _ => true
  | .encrypt _ _ _ => true
  | .decrypt _ _ _ => true
  | .keyImport _ _ => true
  | .random _ => true
  | .check _ _ => true
  | .suspendedResume _ => true
  | .drbgReseed => true
  | .entropyFail _ => true
  | .tamper _ _ => true
  | .sieveSelfTest _ _ _ => true
  | .ctxRecordLatch _ _ => true
  | .incrCommit _ _ => true
  | .set _ => true
  | .step _ => true
  | .datumSlewEnd _ => true
  | .domainSwitch _ => true
  | .domainSwitchSettled => true
  | .datumNowRead _ _ => true
  | .txsRead _ => true
  | .capture => true
  | .tstampEdge _ _ => true
  | .tsiRead _ _ => true
  | .timepulseEnable _ _ => true
  | .timepulseFire _ => true
  | .timepulseEnd _ => true
  | .delayReqReceived _ => true
  | .timeReportReceived _ => true
  | .clearAsym => true
  | .setCorr => true
  | .remeasure => true
  | .syncSend => true
  | .syncReceived _ cell _ => cellOk cell
  | .rank1SyncWaitExpiry => true
  | .chainJoinTimeout => true
  | .bypassOpen _ => true
  | .echoSend _ => true
  | .echoReceived _ _ _ => true
  | .syncLost => true
  | .masterIsolated => true
  | .lossOfSignal _ => true
  | .wrapReceived _ cell => cellOk cell
  | .ringUnwrap _ => true
  | .driveReceived _ cell => cellOk cell
  | .tokenReceived _ cell => cellOk cell
  | .verdictReceived _ cell => cellOk cell
  | .resetCellReceived _ cell => cellOk cell
  | .replReceived _ cell => cellOk cell
  | .rxdoneReceived _ cell => cellOk cell
  | .pairReceived _ cell => cellOk cell
  | .pairSend => true
  | .heldParcelExpiry => true
  | .takeover => true
  | .pairedPortClose _ => true
  | .chainReset => true
  | .chainResetTimeout => true
  | .barrier => true
  | .snapArm => true
  | .snapDisarm => true
  | .snapshot => true
  | .handoverArm => true
  | .handoverDisarm => true
  | .handover => true
  | .conversionComplete _ => true
  | .complianceLoss _ _ => true
  | .notchRetune => true
  | .loopOpen _ _ => true
  | .loopFaultClear _ _ => true
  | .selfTestComplete t => t.wf
  | .serviceEnter => true
  | .characterReceived _ _ => true
  | .breakDetected _ _ => true
  | .serialDead _ => true
  | .serialAlive _ _ => true
  | .idleEvent _ => true
  | .spTxWrite _ _ => true
  | .characterSent _ => true
  | .deTailEnd => true
  | .sendBrk _ => true
  | .breakEnd _ => true
  | .auto _ => true
  | .autobaud _ _ => true
  | .spRxRead _ _ => true
  | .serialWake _ => true
  | .oscillatorSleep => true
  | .consoleRead _ => true
  | .consoleWrite _ => true
  | .consoleStatus => true
  | .consoleFieldBook _ => true
  | .consoleOther _ => true
  | .glbQuiet => true
  | .refClockFault => true
  | .dieOvertemp => true
  | .sramEccError => true
  | .wdogInternal _ => true
  | .wdogHost => true
  | .wdogKick => true
  | .escalation => true
  | .escCountClear => true
  | .powerOnReset _ => true
  | .sysrst => true
  | .perst => true
  | .resetRelease _ => true
  | .journalLifeEntry => true
  | .journalDropSummary => true
  | .ageUpdate _ => true
  | .journalSelect _ => true
  | .journalLatchDone => true
  | .flr _ => true
  | .busMasterEnable _ _ => true
  | .msixUnmask _ _ => true
  | .configRequest _ _ => true
  | .i2cPointerWrite _ => true
  | .i2cReadByte => true
  | .flashErase _ => true
  | .flashProgram _ _ => true
  | .flashRead _ => true
  | .vdda5Fault => true
  | .preambleDetected _ => true
  | .chainInputLocked _ => true
  | .chainInputLockTimeout => true
  | .pcieLinkStateChange _ => true
  | .entropySourceRecovered => true

end Sys2Proof
end

