-- ==== Sys2Proof/Machine/Ops.lean ====
section
/-!
DEFINITION. The operations every family shares: reading and writing registers and fields, free values, MSI-X vectors,
Field Book records, the journal, fault bits, the freeze of a master.
-/

namespace Sys2Proof.Machine

/-! ### Registers -/

/-- The register word at a BAR0 offset. -/
def Block.rd (b : Block) (off : Nat) : Word := Store.get resetWord b.regs off

/-- Write a register word at a BAR0 offset. -/
def Block.wr (b : Block) (off : Nat) (v : Word) : Block := { b with regs := Store.put resetWord b.regs off v }

/-- The value of a field. -/
def Block.get (b : Block) (f : Field) : Nat := bitsAt (b.rd f.off).toNat f.lo f.width

/-- Give a field a value; bits above the field's width are dropped. -/
def Block.set (b : Block) (f : Field) (v : Nat) : Block :=
  b.wr f.off (BitVec.ofNat 32 (setBits (b.rd f.off).toNat f.lo f.width v))

/-- Whether a field is not 0. -/
def Block.on (b : Block) (f : Field) : Bool := b.get f != 0

/-- Set or clear a one-bit field. -/
def Block.setOn (b : Block) (f : Field) (on : Bool) : Block := b.set f (if on then 1 else 0)

/-- Advance a counter field, wrapping at its width. -/
def Block.inc (b : Block) (f : Field) : Block := b.set f (b.get f + 1)

/-- Add to a counter field, wrapping at its width. -/
def Block.add (b : Block) (f : Field) (n : Nat) : Block := b.set f (b.get f + n)

/-- Advance a counter field, saturating at its width. -/
def Block.incSat (b : Block) (f : Field) : Block :=
  if b.get f + 1 < 2 ^ f.width then b.set f (b.get f + 1) else b

/-- Bit `i` of a field. -/
def Block.bit (b : Block) (f : Field) (i : Nat) : Bool := (b.get f).testBit i

/-- Set or clear bit `i` of a field. -/
def Block.setBit (b : Block) (f : Field) (i : Nat) (on : Bool) : Block :=
  b.set f (setBits (b.get f) i 1 (if on then 1 else 0))

/-- Give several fields their values in turn. -/
def Block.setAll (b : Block) (fs : List (Field × Nat)) : Block := fs.foldl (fun b p => b.set p.1 p.2) b

/-! ### Free values -/

/-- The next free value. -/
def Block.free (b : Block) : Nat := Config.freeNat b.drawn

/-- Count a free value as drawn. -/
def Block.draw (b : Block) : Block := { b with drawn := b.drawn + 1 }

/-! ### Bearings -/

/-- Whether bearing `t` lies ahead of `n` (R13). -/
def ahead (t n : Bearing) : Bool := (t - n).toNat < 2 ^ 47

/-- The angle of a bearing in bu (R12). -/
def angleOf (x : Bearing) : Nat := x.toNat % 65536

/-- The cycle count of a bearing (R12). -/
def cycleOf (x : Bearing) : Nat := x.toNat / 65536

/-- The superframe number of a bearing (R14). -/
def superframeOf (x : Bearing) : Nat := x.toNat / 2 ^ 19

/-- The superframe in progress. -/
def Block.superframe (b : Block) : Nat := superframeOf b.brg.now

/-- A bearing made of its low and high registers. -/
def Block.bearingAt (b : Block) (lo hi : Field) : Bearing := BitVec.ofNat 48 (b.get lo + b.get hi * 2 ^ 32)

/-- Store a bearing in its low and high registers. -/
def Block.setBearing (b : Block) (lo hi : Field) (x : Bearing) : Block :=
  (b.set lo (x.toNat % 2 ^ 32)).set hi (x.toNat / 2 ^ 32)

/-- The frequency used for conversion, in 16.16 Hz (R105): BRG_FREQ, or the nominal frequency before BRG_FREQ holds a
measurement. -/
def Block.freq (b : Block) : Nat :=
  let f := b.get Reg.BRG_FREQ_FREQ
  if f = 0 then (if b.on Reg.BRG_CTRL_NOM then 60 * 65536 else 50 * 65536) else f

/-- A duration in ns as bearing units, rounded up (R105): ceil(d × F × 65,536 / 10^9). -/
def Block.nsToBu (b : Block) (ns : Nat) : Nat := (ns * b.freq + 999999999) / 1000000000

/-- Bearing counts in every state but UNLOCKED and ACQUIRE (R85). -/
def Block.running (b : Block) : Bool := b.brg.state != .unlocked && b.brg.state != .acquire

/-- Move Bearing to a state; BRG_STATUS.STATE shows it (R85). -/
def Block.setBrg (b : Block) (st : BrgState) : Block :=
  ({ b with brg := { b.brg with state := st } }).set Reg.BRG_STATUS_STATE st.code

/-- Take a Chain role; CHN_ID.ROLE shows it (R460, R491). -/
def Block.setRole (b : Block) (r : Role) : Block :=
  ({ b with chain := { b.chain with role := r } }).set Reg.CHN_ID_ROLE r.code

/-! ### MSI-X vectors (R572 to R574) -/

/-- The vectors a function has (R572). -/
def vectorsOf (fn : Nat) : Nat := if fn = 0 then 256 else 16

/-- Key of a vector in the MSI-X stores. -/
def msixKey (fn v : Nat) : Nat := fn * 256 + v

/-- Configuration space of a function. -/
def Block.config (b : Block) (fn : Nat) : FnConfig := Store.get (fun _ => FnConfig.reset) b.host.config fn

/-- Change configuration space of a function. -/
def Block.setConfig (b : Block) (fn : Nat) (c : FnConfig) : Block :=
  { b with host := { b.host with config := Store.put (fun _ => FnConfig.reset) b.host.config fn c } }

/-- Whether a function is present (R564). -/
def Block.present (b : Block) (fn : Nat) : Bool := b.bit Reg.HIF_FN_STAT_PRESENT fn

/-- Bus Master Enable of a function (R565). -/
def Block.bme (b : Block) (fn : Nat) : Bool := b.bit Reg.HIF_FN_STAT_BME fn

/-- The MSI-X table entry of a vector. -/
def Block.msixEntry (b : Block) (fn v : Nat) : MsixEntry :=
  Store.get (fun _ => MsixEntry.reset) b.host.msix (msixKey fn v)

/-- Whether a vector's pending bit is set. -/
def Block.vectorPending (b : Block) (fn v : Nat) : Bool := Store.get (fun _ => false) b.host.pba (msixKey fn v)

/-- Set or clear a vector's pending bit. -/
def Block.setVectorPending (b : Block) (fn v : Nat) (on : Bool) : Block :=
  { b with host := { b.host with pba := Store.put (fun _ => false) b.host.pba (msixKey fn v) on } }

/-- Whether a message of this vector can be sent now (R574). -/
def Block.vectorOpen (b : Block) (fn v : Nat) : Bool :=
  (b.config fn).msixEnable && !(b.config fn).fnMask && !(b.msixEntry fn v).masked && b.bme fn && b.present fn

/-- Send a vector's message. -/
def Block.sendVector (b : Block) (fn v : Nat) : Block :=
  let e := b.msixEntry fn v
  { b with host := { b.host with
      messages := b.host.messages ++ [{ fn := fn, vector := v, addr := e.addr, data := e.data }] } }

/-- An event raises a vector (R574): nothing while MSI-X is disabled; the pending bit where the vector is masked or
Bus Master Enable is 0; else one message. -/
def Block.raise (b : Block) (fn v : Nat) : Block :=
  if !(b.config fn).msixEnable || vectorsOf fn ≤ v then b
  else if b.vectorOpen fn v then b.sendVector fn v
  else b.setVectorPending fn v true

/-- A fixed source raises its PF vector, if enabled (R573). -/
def Block.raiseFixed (b : Block) (v : Nat) : Block := if b.bit Reg.HIF_FIXVEC_EN_EN v then b.raise 0 v else b

/-- Send the message of a vector that has become open with its pending bit set (R574). -/
def Block.releaseVector (b : Block) (fn v : Nat) : Block :=
  if b.vectorPending fn v && b.vectorOpen fn v then (b.setVectorPending fn v false).sendVector fn v else b

/-- Release every pending vector of a function that can be sent. -/
def Block.releaseVectors (b : Block) (fn : Nat) : Block :=
  (List.range (vectorsOf fn)).foldl (fun b v => b.releaseVector fn v) b

/-! ### Device state and fault bits -/

/-- Start the host watchdog's timer (R547). -/
def Block.startTimer (b : Block) : Block := { b with fault := { b.fault with kicked := b.ticks, wdogOut := false } }

/-- Move to a device state; a change raises fixed vector 1 (R573). The host's timer starts with SETTLE (R547). -/
def Block.setDev (b : Block) (d : DevState) : Block :=
  if b.dev = d then b
  else
    let b : Block := { b with dev := d, fault := { b.fault with since := b.ticks } }
    (if d = .settle then b.startTimer else b).raiseFixed 1

/-- Set a FLT_PEND bit; a bit that becomes set raises fixed vector 0 (R573). -/
def Block.pend (b : Block) (f : Field) : Block := if b.on f then b else (b.set f 1).raiseFixed 0

/-- Whether ALERT_N is low (R533). -/
def Block.alertLow (b : Block) : Bool :=
  match b.dev with
  | .settle | .service | .hold =>
    (b.rd Reg.FLT_PEND).toNat % 64 &&& (63 - b.get Reg.FLT_ALERT_MASK_MASK) != 0
  | _ => true

/-- Whether QUIET_N is high (R534). -/
def Block.quietHigh (b : Block) : Bool :=
  match b.dev with
  | .settle | .service | .hold => true
  | _ => false

/-! ### The journal (R550, R551) -/

/-- The 32 bytes of a record (R374). -/
def FbRecord.toBytes (r : FbRecord) : List Byte :=
  toLe 4 r.seq.toNat ++ toLe 6 r.bearing.toNat ++ toLe 2 r.code ++ toLe 4 r.sec.toNat ++ toLe 4 r.ns.toNat ++
    toLe 1 r.source ++ toLe 1 r.severity ++ toLe 1 r.rank ++ [0] ++ slice r.args 0 8

/-- The 64 bytes of a journal entry (R550). -/
def JournalEntry.toBytes (e : JournalEntry) : List Byte :=
  let body := e.record.toBytes ++ toLe 4 e.jseq.toNat ++ toLe 4 e.boot.toNat ++ toLe 1 e.kind ++ [0, 0, 0] ++
    (if e.kind = 1 then toLe 4 e.hours.toNat ++ toLe 4 e.age.toNat else List.replicate 8 0) ++ List.replicate 8 0
  body ++ toLe 4 (crc32c body)

/-- Ticks of 60 s. -/
def minuteTicks : Nat := 15000000000

/-- Append an entry to the journal, or count it as dropped under the rate limit of R551. -/
def Block.journalWrite (b : Block) (made : FbRecord) (kind : Nat) (hours age : Word) : Block :=
  let recent := b.fault.recent.filter fun t => b.ticks < t + minuteTicks
  if 64 ≤ recent.length then
    (({ b with fault := { b.fault with recent := recent, dropPending := b.fault.dropPending + 1 } }).inc
      Reg.FLT_JNL_DROP_COUNT).pend Reg.FLT_PEND_JOURNAL
  else
    let j := b.journal
    let i := j.next % 16384
    let sector := i / 1024
    let cleared := if i % 1024 = 0 then j.entries.filter (fun p => p.1 / 1024 != sector) else j.entries
    let erases := if i % 1024 = 0 then Store.modify (fun _ => 0) j.erases sector (· + 1) else j.erases
    let entry : JournalEntry :=
      { record := made, jseq := j.jseq, boot := b.fault.boot, kind := kind, hours := hours, age := age, crcOk := true }
    let most := (erases.map (·.2)).foldl max 0
    ({ b with
        fault := { b.fault with recent := b.ticks :: recent }
        journal := { entries := Store.put (fun _ => JournalEntry.erased) cleared i entry
                     next := (i + 1) % 16384, jseq := j.jseq + 1, erases := erases } }).setAll
      [(Reg.FLT_JNL_SEQ_JSEQ, j.jseq.toNat + 1), (Reg.FLT_JNL_STAT_HEAD, sector),
       (Reg.FLT_JNL_STAT_ERASES, min most 65535)]

/-! ### The Field Book (R373 to R377) -/

/-- Arguments of a record: values with their widths in bytes, little-endian, padded to 8 bytes (R375). -/
def recordArgs (args : List (Nat × Nat)) : List Byte := slice (args.flatMap fun p => toLe p.1 p.2) 0 8

/-- Nanoseconds in a second, in Datum units of 2^-32 ns. -/
def secUnits : Nat := 1000000000 * 2 ^ 32

/-- The record of an event as it happens now (R374, R375). -/
def Block.recordNow (b : Block) (code severity source : Nat) (args : List (Nat × Nat)) : FbRecord :=
  { seq := b.rd Reg.FB_HEAD, bearing := b.brg.now, code := code,
    sec := BitVec.ofNat 32 (b.dtm.a.t / secUnits), ns := BitVec.ofNat 32 (b.dtm.a.t % secUnits / 2 ^ 32),
    source := source, severity := severity, rank := b.get Reg.CHN_ID_RANK, args := recordArgs args }

/-- Whether the next record overwrites one that FB_ACK does not cover yet (R376). -/
def Block.overwrites (b : Block) : Bool :=
  let slot := (b.rd Reg.FB_HEAD).toNat % 4096
  b.book.any (fun p => p.1 == slot) &&
    ((Store.get (fun _ => FbRecord.zero) b.book slot).seq - b.rd Reg.FB_ACK).toNat < 2 ^ 31

/-- Write a slot of the Field Book. -/
def Block.putRecord (b : Block) (slot : Nat) (made : FbRecord) : Block :=
  { b with book := Store.put (fun _ => FbRecord.zero) b.book slot made }

/-- A record takes slot SEQ mod 4,096 (R373); an unread record it overwrites is counted (R376). -/
def Block.takeSlot (b : Block) (made : FbRecord) : Block :=
  let lost := if b.overwrites then b.inc Reg.FB_LOST_COUNT else b
  (lost.putRecord ((b.rd Reg.FB_HEAD).toNat % 4096) made).inc Reg.FB_HEAD_SEQ

/-- FB_CTRL raises its vector for a record of its severity or above (R376). -/
def Block.notifyRecord (b : Block) (severity : Nat) : Block :=
  if b.on Reg.FB_CTRL_NOTIFY_EN && b.get Reg.FB_CTRL_NOTIFY_SEV ≤ severity then
    b.raise 0 (b.get Reg.FB_CTRL_VECTOR) else b

/-- Make a record (R373 to R376): it takes its slot, severity fault and safety also go to the journal, and FB_CTRL may
raise its vector. -/
def Block.post (b : Block) (code severity source : Nat) (args : List (Nat × Nat)) : Block :=
  let made := b.recordNow code severity source args
  let kept := b.takeSlot made
  Block.notifyRecord (if 3 ≤ severity then kept.journalWrite made 0 0 0 else kept) severity

/-- The registers a journal entry may write (R551). -/
def journalRegs : List Nat := [Reg.FLT_JNL_SEQ, Reg.FLT_JNL_STAT, Reg.FLT_JNL_DROP, Reg.FLT_PEND]

/-- The registers a Field Book record may write (R373 to R376). -/
def recordRegs : List Nat := Reg.FB_HEAD :: Reg.FB_LOST :: journalRegs

/-! ### Violations and freezing (R540) -/

/-- Whether a master is frozen. -/
def Block.frozen (b : Block) (m : Nat) : Bool := b.bit Reg.GLB_FROZEN_MASTER m

/-- The freeze of R540, without the doubt an internal master adds (R539): the master is frozen, a VIOLATION record is
made, the latch takes master, kind and offset unless it holds an uncleared violation, the count and FLT_PEND.VIOL
follow. -/
def Block.freeze (b : Block) (m kind off : Nat) : Block :=
  let b := b.setBit Reg.GLB_FROZEN_MASTER m true
  let b := b.post 0x1003 3 0x49 [(1, m), (1, kind), (4, off)]
  let b := if b.on Reg.FLT_VIOL_INFO_VALID then b else
    b.setAll [(Reg.FLT_VIOL_INFO_MASTER, m), (Reg.FLT_VIOL_INFO_KIND, kind), (Reg.FLT_VIOL_INFO_VALID, 1),
      (Reg.FLT_VIOL_ADDR_OFFSET, off)]
  (b.inc Reg.FLT_VIOL_COUNT_COUNT).pend Reg.FLT_PEND_VIOL

/-- Whether an access of a function to its window takes effect: the function is present (R564) with Memory Space
Enable at 1 (else Unsupported Request, R565) and not frozen (R541), and the device is in a state in which its blocks
answer (R65, R537). -/
def Block.reaches (b : Block) (fn : Nat) : Bool :=
  b.present fn && (b.config fn).mse && !b.frozen fn &&
    (match b.dev with
     | .settle | .service | .hold => true
     | _ => false)

/-- Whether a register command of the PF takes effect. -/
def Block.accepts (b : Block) : Bool := b.reaches 0

/-- A register command that the PF writes, where it takes effect. -/
def Block.byPf (b : Block) (f : Block → Block) : Block := if b.accepts then f b else b

/-! ### Answers and DMA -/

/-- What an access port answers. -/
def Block.answerWith (b : Block) (a : Answer) : Block := { b with host := { b.host with answer := a } }

/-- A DMA write to a function's memory. -/
def Block.dma (b : Block) (fn addr : Nat) (bytes : List Byte) : Block :=
  { b with host := { b.host with dmaWrites := b.host.dmaWrites ++ [{ fn := fn, addr := addr, bytes := bytes }] } }

/-- The KIND of HIF_DMA_ERR_INFO for a failed read (R585). -/
def DmaRead.kind : DmaRead → Nat
  | .data _ => 0 | .unsupportedRequest => 1 | .completerAbort => 2 | .timeout => 3 | .poisoned => 4

/-- The bytes of a DMA read, if it succeeded. -/
def DmaRead.bytes? : DmaRead → Option (List Byte)
  | .data bs => some bs
  | _ => none

/-- A failed DMA read (R584): counted, and latched unless a failure is held. -/
def Block.dmaError (b : Block) (fn : Nat) (d : DmaRead) : Block :=
  let b := b.inc Reg.HIF_DMA_ERR_COUNT
  if b.on Reg.HIF_DMA_ERR_INFO_VALID then b else
    b.setAll [(Reg.HIF_DMA_ERR_INFO_FN, fn), (Reg.HIF_DMA_ERR_INFO_KIND, DmaRead.kind d),
      (Reg.HIF_DMA_ERR_INFO_VALID, 1)]

/-! ### Status codes (R368) -/

def stOK : Nat := 0
def stStateReject : Nat := 1
def stInvalid : Nat := 2
def stNoResource : Nat := 3
def stBudgetWait : Nat := 4
def stNonceExhausted : Nat := 5
def stTagFail : Nat := 6
def stRevoked : Nat := 7
def stFrozen : Nat := 8
def stTimeout : Nat := 9

/-! ### Harmless outputs (R532) -/

/-- The device states that hold every output harmless (R532): RESET, LOAD, QUIET. -/
def DevState.silent : DevState → Bool
  | .reset | .load | .quiet => true
  | _ => false

/-- The device states in which the Chain rings may leave the bypass (R532, R474). -/
def DevState.joins : DevState → Bool
  | .settle | .service => true
  | _ => false

/-- A port with its output switches open and its replica canceller off. -/
def PortSt.opened (p : PortSt) : PortSt := { p with switches := false, canceller := false }

/-- A serial port that sends nothing. -/
def SerialPort.hushed (p : SerialPort) : SerialPort := { p with shifter := none, tail := false }

/-- The line drivers outside SERVICE (R146, R532): no frame on the line, every output switch open. -/
def Block.releaseLine (b : Block) : Block :=
  { b with
    mac := { b.mac with txs := [] }
    ports := { b.ports with port := Store.mapVals (fun _ => PortSt.reset) PortSt.opened b.ports.port }
    chain := { b.chain with drives := [] } }

/-- The bypass switches of both rings closed (R474, R532). -/
def Block.shortRings (b : Block) : Block := { b with chain := { b.chain with bypassA := true, bypassB := true } }

/-- TIMEPULSE low and TXD at mark (R443, R528, R532). -/
def Block.hushOutputs (b : Block) : Block :=
  { b with
    dtm := { b.dtm with pulse := [] }
    serial := Store.mapVals (fun _ => SerialPort.reset) SerialPort.hushed b.serial }

/-- TIMEPULSE low, TXD at mark, SP1_DE low (R443, R528, R532). -/
def Block.muteOutputs (b : Block) : Block := b.hushOutputs.set (Reg.SP_STAT_DE 1) 0

/-- What the output stages do in a device state, whatever else the block does (R532): the driver switches open outside
SERVICE, the rings are bypassed outside SETTLE and SERVICE, the other outputs are harmless in RESET, LOAD and QUIET. -/
def Block.gated (b : Block) : Block :=
  let b := if b.dev = .service then b else b.releaseLine
  let b := if b.dev.joins then b else b.shortRings
  if b.dev.silent then b.muteOutputs else b

/-- How a meaning answers: the next block, its outputs as the device state allows them, when the operands are ones an
environment can present, else a refusal by name. The queue of waiting commands is not touched. -/
def answer (mnemonic : String) (wf : Bool) (s : State) (f : Block → Block) : Host.Outcome State Fault Refusal :=
  if wf then .next { s with blk := (f s.blk).gated } else .refused (.illFormed mnemonic)

end Sys2Proof.Machine
end

