-- ==== Sys2Proof/Machine/Queues.lean ====
section
/-!
DEFINITION. The queue fabric (10_strata.md): pointers and watermarks, notices and completions, packed words and
priority entries, device production under a tag check, the fetched commands of the rings.
-/

namespace Sys2Proof.Machine

/-! ### Descriptors (R342 to R345) -/

/-- What a queue holds beside its descriptor. -/
def Block.q (b : Block) (q : Nat) : QueueSt := Store.get (fun _ => QueueSt.empty) b.strata.queues q

/-- Replace what a queue holds. -/
def Block.setQ (b : Block) (q : Nat) (st : QueueSt) : Block :=
  { b with strata := { b.strata with queues := Store.put (fun _ => QueueSt.empty) b.strata.queues q st } }

/-- KIND of a queue: 0 OFF, 1 CMD, 2 CPL, 3 PARCEL, 4 STREAM (R342). -/
def Block.qKind (b : Block) (q : Nat) : Nat := b.get (Reg.QD_CFG_KIND q)

/-- Capacity S of a queue in its units (R344). -/
def Block.qSize (b : Block) (q : Nat) : Nat := 2 ^ b.get (Reg.QD_CFG_SIZE_LOG2 q)

/-- WR and RD of a queue. -/
def Block.qWr (b : Block) (q : Nat) : Word := b.rd (Reg.QD_WR q)
def Block.qRd (b : Block) (q : Nat) : Word := b.rd (Reg.QD_RD q)
def Block.qMark (b : Block) (q : Nat) : Word := b.rd (Reg.QD_MARK q)

/-- The fill (R344): (WR − RD) mod 2^32. -/
def Block.qFill (b : Block) (q : Nat) : Nat := (b.qWr q - b.qRd q).toNat

/-- The function that owns a queue (R343): the function its PROD or CONS names; an OFF queue has none. -/
def Block.qOwner (b : Block) (q : Nat) : Option Nat :=
  if b.qKind q = 0 then none
  else if b.get (Reg.QD_CFG_PROD q) < 16 then some (b.get (Reg.QD_CFG_PROD q))
  else if b.get (Reg.QD_CFG_CONS q) < 16 then some (b.get (Reg.QD_CFG_CONS q))
  else none

/-- A queue in priority mode (R351). -/
def Block.qPriority (b : Block) (q : Nat) : Bool := b.qKind q == 3 && b.on (Reg.QD_CFG_MODE q)

/-- A PARCEL or STREAM queue that a function produces. -/
def Block.hostProduced (b : Block) (q : Nat) : Bool :=
  (b.qKind q == 3 || b.qKind q == 4) && b.get (Reg.QD_CFG_PROD q) < 16

/-- A PARCEL or STREAM queue that a device master produces. -/
def Block.deviceProduced (b : Block) (q : Nat) : Bool :=
  (b.qKind q == 3 || b.qKind q == 4) && 16 ≤ b.get (Reg.QD_CFG_PROD q)

/-- The numbers of the configured queues, ascending: those whose QD_CFG differs from its reset value. -/
def Block.queueNumbers (b : Block) : List Nat :=
  b.regs.filterMap fun p =>
    if 0x200000 ≤ p.1 && p.1 < 0x400000 && (p.1 - 0x200000) % 32 == 0 then some ((p.1 - 0x200000) / 32) else none

/-- The queues a function owns, ascending. -/
def Block.owned (b : Block) (fn : Nat) : List Nat := b.queueNumbers.filter fun q => b.qOwner q == some fn

/-- The CMD and CPL queues a function owns, ascending: doorbell d serves the d-th (R357). -/
def Block.rings (b : Block) (fn : Nat) : List Nat := (b.owned fn).filter fun q => b.qKind q == 1 || b.qKind q == 2

/-- The host-produced STREAM queues of a function, ascending: write port p serves the p-th (R359). -/
def Block.streams (b : Block) (fn : Nat) : List Nat := (b.owned fn).filter fun q => b.qKind q == 4 && b.hostProduced q

/-! ### Conversations (R369) -/

/-- The conversation of a function. -/
def Block.conv (b : Block) (fn : Nat) : ConvSt := Store.get (fun _ => ⟨false, 0⟩) b.strata.conv fn

/-- Replace the conversation of a function. -/
def Block.setConv (b : Block) (fn : Nat) (c : ConvSt) : Block :=
  { b with strata := { b.strata with conv := Store.put (fun _ => ⟨false, 0⟩) b.strata.conv fn c } }

/-- A function whose conversation stands still: paused, pausing, or without Bus Master Enable (R369, R565), or absent
(R564). -/
def Block.still (b : Block) (fn : Nat) : Bool :=
  b.bit Reg.QF_PAUSED_FN fn || (b.conv fn).busy || !b.bme fn || !b.present fn

/-- A function with which no exchange takes place at all: frozen or wedged (R371, R542, R543; log entry 199). -/
def Block.cutOff (b : Block) (fn : Nat) : Bool := b.frozen fn || b.bit Reg.GLB_WEDGED_FN fn

/-- The device states in which commands are fetched and completions posted (R537, R65, R372). -/
def Block.converses (b : Block) : Bool :=
  match b.dev with
  | .settle | .service => true
  | .hold => b.on Reg.HIF_LINK_DL_UP
  | _ => false

/-! ### Watermarks (R352) -/

/-- The high threshold h, ceil(HI × S / 1,024). -/
def Block.highMark (b : Block) (q : Nat) : Nat := (b.get (Reg.QD_WM_HI q) * b.qSize q + 1023) / 1024

/-- The low threshold l, floor(LO × S / 1,024). -/
def Block.lowMark (b : Block) (q : Nat) : Nat := b.get (Reg.QD_WM_LO q) * b.qSize q / 1024

/-- Give a queue new pointers; FULL follows the fill (R350). -/
def Block.setPointers (b : Block) (q : Nat) (wr rd : Word) : Block :=
  let b := (b.wr (Reg.QD_WR q) wr).wr (Reg.QD_RD q) rd
  b.setOn (Reg.QD_BASE_HI_FULL q) (b.qFill q == b.qSize q)

/-- Record the crossings of a move of the fill from `old`: sticky bits and saturating counts. -/
def Block.countCrossings (b : Block) (q old : Nat) : Block :=
  let new := b.qFill q
  let b := if old < b.highMark q && b.highMark q ≤ new then
    (b.set (Reg.QD_BASE_HI_CROSSED_HI q) 1).incSat (Reg.QD_CNT_CNT_HI q) else b
  if b.lowMark q < old && new ≤ b.lowMark q then
    (b.set (Reg.QD_BASE_HI_CROSSED_LO q) 1).incSat (Reg.QD_CNT_CNT_LO q) else b

/-- Whether a bit of a queue's descriptor went from clear to set between two blocks. -/
def newlySet (before after : Block) (f : Field) : Bool := !before.on f && after.on f

/-- Move the pointers of a CMD or CPL ring: the first crossing since a CROSSED bit was last clear raises the ring's
vector while NOTIFY_EN is 1. -/
def Block.moveRing (b : Block) (q : Nat) (wr rd : Word) : Block :=
  let after := (b.setPointers q wr rd).countCrossings q (b.qFill q)
  let vector := b.get (Reg.QD_CFG_VECTOR q)
  let fn := (b.qOwner q).getD 0
  let hi := newlySet b after (Reg.QD_BASE_HI_CROSSED_HI q) && b.on (Reg.QD_WM_NOTIFY_EN q)
  let lo := newlySet b after (Reg.QD_BASE_HI_CROSSED_LO q) && b.on (Reg.QD_WM_NOTIFY_EN q)
  let after := if hi then after.raise fn vector else after
  if lo then after.raise fn vector else after

/-! ### Completion rings (R366, R367) -/

/-- The 32 bytes of an entry with its DEV_SEQ. -/
def CplEntry.toBytes (e : CplEntry) (devSeq : Word) : List Byte :=
  toLe 4 devSeq.toNat ++ toLe 4 e.hostSeq.toNat ++ toLe 1 e.status ++ toLe 1 e.opcode ++ toLe 1 e.flags ++ [0] ++
    toLe 2 e.queue ++ [0, 0] ++ toLe 4 e.tag.toNat ++ slice e.result 0 12

/-- Host address of ring index i of a ring whose entries have `size` bytes (R345): BASE holds bits [59:12]. -/
def Block.ringAddr (b : Block) (q size i : Nat) : Nat :=
  (b.get (Reg.QD_BASE_LO_BASE q) + b.get (Reg.QD_BASE_HI_BASE q) * 2 ^ 32) * 4096 + size * i

/-- Room on a ring for an entry that owns no slot (R361, R366). -/
def Block.ringRoom (b : Block) (ring : Nat) : Bool := b.qFill ring + (b.q ring).owed < b.qSize ring

/-- Post an entry to its ring: DEV_SEQ is the ring's WR, the entry goes to host memory and to the history, and the
ring's vector is raised. -/
def Block.postEntry (b : Block) (e : CplEntry) : Block :=
  let wr := b.qWr e.ring
  let i := wr.toNat % b.qSize e.ring
  let bytes := e.toBytes wr
  let st := b.q e.ring
  let b := b.setQ e.ring { st with
    owed := if e.owed then st.owed - 1 else st.owed
    history := Store.put (fun _ => []) st.history i bytes }
  let b := b.dma e.fn (b.ringAddr e.ring 32 i) bytes
  let b := b.moveRing e.ring (wr + 1) (b.qRd e.ring)
  b.raise e.fn (b.get (Reg.QD_CFG_VECTOR e.ring))

/-- The completion ring a queue's NQ names, if it is an enabled CPL queue of the same function (R361). -/
def Block.ringOf (b : Block) (q : Nat) : Option Nat :=
  let nq := b.get (Reg.QD_CNT_NQ q)
  if b.qKind nq = 2 ∧ b.on (Reg.QD_CFG_ENABLE nq) ∧ b.qOwner nq = b.qOwner q then some nq else none

/-- The entry of a notice (R366). -/
def noticeEntry (fn ring : Nat) (n : Notice) : CplEntry :=
  { fn := fn, ring := ring, hostSeq := 0, status := stOK, opcode := n.kind, flags := 1, queue := n.queue, tag := 0,
    result := [], owed := false }

/-- Post the entries that wait on a function's rings, as room allows: those of R370 in order, none ahead of one that
waits on the same ring. -/
def Block.drainBacklog (b : Block) (fn : Nat) : Block :=
  let out := b.strata.backlog.foldl (fun (acc : Block × List CplEntry) e =>
    let (b, kept) := acc
    if e.fn != fn || kept.any (fun k => k.ring == e.ring) || !(e.owed || b.ringRoom e.ring) then (b, kept ++ [e])
    else (b.postEntry e, kept)) (b, [])
  { out.1 with strata := { out.1.strata with backlog := out.2 } }

/-- Post the waiting notices in the order raised, as room allows. -/
def Block.drainNotices (b : Block) : Block :=
  let out := b.strata.notices.foldl (fun (acc : Block × List Notice) n =>
    let (b, kept) := acc
    match b.ringOf n.queue, b.qOwner n.queue with
    | some ring, some fn =>
      if b.cutOff fn then (b, kept)
      else if b.still fn || !b.converses || !b.ringRoom ring || b.strata.backlog.any (fun e => e.ring == ring) then
        (b, kept ++ [n])
      else (b.postEntry (noticeEntry fn ring n), kept)
    | _, _ => (b, kept)) (b, [])
  { out.1 with strata := { out.1.strata with notices := out.2 } }

/-- Post everything that waits for room on a function's rings. -/
def Block.drain (b : Block) (fn : Nat) : Block :=
  if b.still fn || b.cutOff fn || !b.converses then b else (b.drainBacklog fn).drainNotices

/-- Raise a notice for a queue (R361, R366): at most one per queue and kind waits. -/
def Block.notify (b : Block) (q kind : Nat) : Block :=
  if b.strata.notices.any (fun n => n.queue == q && n.kind == kind) then b
  else ({ b with strata := { b.strata with notices := b.strata.notices ++ [({ queue := q, kind := kind } : Notice)] } }).drainNotices

/-- Complete a command (R366, R370, R371): nothing is posted to a frozen function; a completion that arises during a
pause waits for RESUME; else it is posted in the slot it owns. -/
def Block.complete (b : Block) (c : Cmd) (status : Nat) (result : List Byte) (flags : Nat := 0) : Block :=
  let e : CplEntry :=
    { fn := c.fn, ring := c.cpl, hostSeq := c.seq, status := status, opcode := c.opcode, flags := flags,
      queue := c.queue, tag := c.tag, result := result, owed := true }
  if b.cutOff c.fn then b
  else if b.still c.fn || !b.converses then
    { b with strata := { b.strata with pausedOutcomes := b.strata.pausedOutcomes ++ [e] } }
  else if b.strata.backlog.any (fun x => x.fn == c.fn) then
    ({ b with strata := { b.strata with backlog := b.strata.backlog ++ [e] } }).drain c.fn
  else b.postEntry e

/-! ### Moving a PARCEL or STREAM queue -/

/-- Move the pointers of a PARCEL or STREAM queue: the first crossing since a CROSSED bit was last clear posts a
notice while NOTIFY_EN is 1 (R352). On a host-produced queue a mark that WR − MARK overtakes by S is lost (R355). -/
def Block.moveQueue (b : Block) (q : Nat) (wr rd : Word) : Block :=
  let after := (b.setPointers q wr rd).countCrossings q (b.qFill q)
  let en := b.on (Reg.QD_WM_NOTIFY_EN q)
  let hi := newlySet b after (Reg.QD_BASE_HI_CROSSED_HI q) && en
  let lo := newlySet b after (Reg.QD_BASE_HI_CROSSED_LO q) && en
  let after := if hi then after.notify q 1 else after
  let after := if lo then after.notify q 2 else after
  if after.hostProduced q && after.on (Reg.QD_BASE_HI_MARK_VALID q) &&
      after.qSize q ≤ (wr - after.qMark q).toNat then
    (((after.set (Reg.QD_BASE_HI_MARK_VALID q) 0).set (Reg.QD_BASE_HI_MARK_LOST q) 1).post 0x0A02 1 0x42
      [(2, q)]).notify q 4
  else after

/-- A refused write (R350): OVERRUN is set; only its going from clear to set makes the record and the notice. -/
def Block.overrun (b : Block) (q : Nat) : Block :=
  if b.on (Reg.QD_BASE_HI_OVERRUN q) then b
  else ((b.set (Reg.QD_BASE_HI_OVERRUN q) 1).post 0x0A01 1 0x42 [(2, q), (1, b.get (Reg.QD_CFG_PROD q))]).notify q 3

/-! ### Words and entries (R348, R349, R351) -/

/-- The tag of a word (R349). -/
def wordTag (count : Nat) (sop eop prov poison : Bool) : Byte :=
  BitVec.ofNat 8 (count + (if sop then 16 else 0) + (if eop then 32 else 0) + (if prov then 64 else 0) +
    (if poison then 128 else 0))

def QWord.count (w : QWord) : Nat := w.tag.toNat % 16
def QWord.sop (w : QWord) : Bool := w.tag.getLsbD 4
def QWord.eop (w : QWord) : Bool := w.tag.getLsbD 5
def QWord.prov (w : QWord) : Bool := w.tag.getLsbD 6
def QWord.poison (w : QWord) : Bool := w.tag.getLsbD 7

/-- A control word has COUNT 0 (R353). -/
def QWord.control (w : QWord) : Bool := w.count == 0

/-- A word that no write has filled. -/
def QWord.zero : QWord := { data := 0, tag := 0 }

/-- The words of a parcel (R348): SOP on the first, EOP on the last. -/
def packWords (bytes : List Byte) (prov : Bool) : List QWord :=
  let cs := chunks 8 bytes
  (List.range cs.length).map fun i =>
    let c := cs.getD i []
    { data := BitVec.ofNat 64 (leNat c), tag := wordTag c.length (i == 0) (i + 1 == cs.length) prov false }

/-- The control word that closes a provisional parcel (R353). -/
def controlWord (commit : Bool) (orig pseq : Nat) : QWord :=
  { data := BitVec.ofNat 64 (leNat (toLe 1 (if commit then 2 else 1) ++ toLe 3 orig ++ toLe 2 pseq ++ [0, 0])),
    tag := 0x30 }

/-- Write words at WR and advance WR. -/
def Block.writeWords (b : Block) (q : Nat) (ws : List QWord) : Block :=
  let wr := b.qWr q
  let s := b.qSize q
  let st := b.q q
  let words := (List.range ws.length).foldl
    (fun m i => Store.put (fun _ => QWord.zero) m ((wr.toNat + i) % s) (ws.getD i QWord.zero)) st.words
  (b.setQ q { st with words := words }).moveQueue q (wr + BitVec.ofNat 32 ws.length) (b.qRd q)

/-- The word at a pointer. -/
def Block.wordAt (b : Block) (q : Nat) (p : Word) : QWord :=
  Store.get (fun _ => QWord.zero) (b.q q).words (p.toNat % b.qSize q)

/-- Append an entry to a priority-mode queue (R351). -/
def Block.writeEntry (b : Block) (q : Nat) (bytes : List Byte) (prio : Nat) (prov control : Bool) : Block :=
  let wr := b.qWr q
  let cells := (bytes.length + 63) / 64
  let st := b.q q
  let e : QEntry := { ptr := wr, cells := cells, prio := prio, bytes := bytes, prov := prov, control := control,
                      poison := false, consumed := false }
  (b.setQ q { st with entries := st.entries ++ [e] }).moveQueue q (wr + BitVec.ofNat 32 cells) (b.qRd q)

/-- Free the consumed entries at the head of a priority-mode queue: RD is the oldest cell still live (R351). -/
def Block.freeConsumed (b : Block) (q : Nat) : Block :=
  let st := b.q q
  let live := st.entries.dropWhile (·.consumed)
  let rd := match live with
    | e :: _ => e.ptr
    | [] => b.qWr q
  (b.setQ q { st with entries := live }).moveQueue q (b.qWr q) rd

/-- The units a parcel of `n` bytes takes (R363). -/
def Block.unitsOf (b : Block) (q n : Nat) : Nat := if b.qPriority q then (n + 63) / 64 else (n + 7) / 8

/-- The entry the consumer of a priority-mode queue takes next: lowest stratum, then arrival order; provisional
entries only where PROV_OK is set (R351, R353). -/
def nextEntry (es : List QEntry) (provOk : Bool) : Option QEntry :=
  (es.filter fun e => !e.consumed && (provOk || !e.prov)).foldl
    (fun best e => match best with
      | none => some e
      | some x => if e.prio < x.prio then some e else some x) none

/-! ### Device production (R350, R353) -/

/-- A device producer writes a parcel: not to a frozen function's queue (R371); dropped and counted where the queue is
out of service or lacks room for the whole reservation; waiting while a mark is live; under a tag check, behind a
mark. -/
def Block.produce (b : Block) (q : Nat) (p : Produce) : Block :=
  let st := b.q q
  let units := b.unitsOf q p.bytes.length + (if p.prov then 1 else 0)
  if ((b.qOwner q).map b.frozen).getD false then b
  else if !b.deviceProduced q || !b.on (Reg.QD_CFG_ENABLE q) then b.inc Reg.QF_DROPS_COUNT
  else if b.on (Reg.QD_BASE_HI_MARK_VALID q) then b.setQ q { st with waiting := st.waiting ++ [p] }
  else if b.qSize q < b.qFill q + units then (b.inc Reg.QF_DROPS_COUNT).overrun q
  else
    let b := if p.prov then
      ((b.wr (Reg.QD_MARK q) (b.qWr q)).set (Reg.QD_BASE_HI_MARK_VALID q) 1).setQ q
        { st with live := some p, provTaken := false }
      else b
    if b.qPriority q then b.writeEntry q p.bytes p.prio p.prov false
    else b.writeWords q (packWords p.bytes p.prov)

/-- Clear PROV on the words of the live parcel (R353). -/
def Block.clearProv (b : Block) (q : Nat) : Block :=
  let st := b.q q
  let n := (b.qWr q - b.qMark q).toNat
  let s := b.qSize q
  let words := (List.range (min n s)).foldl
    (fun m i =>
      let k := ((b.qMark q).toNat + i) % s
      Store.modify (fun _ => QWord.zero) m k fun w => { w with tag := w.tag &&& 0xBF }) st.words
  b.setQ q { st with
    words := if b.qPriority q then st.words else words
    entries := st.entries.map fun e => { e with prov := false } }

/-- Set every RECV in delivery on the queue whose position lies after MARK back to MARK (R364). -/
def Block.recvsToMark (b : Block) (q : Nat) : Block :=
  let mark := b.qMark q
  let wr := b.qWr q
  { b with strata := { b.strata with recvs := b.strata.recvs.map fun r =>
      if r.cmd.queue == q && r.started && 0 < (r.pos - mark).toNat && (r.pos - mark).toNat ≤ (wr - mark).toNat then
        { r with pos := mark } else r } }

/-- Return WR to MARK, and RD with it where a consumer had already been credited with provisional words (log entry
9). -/
def Block.backToMark (b : Block) (q : Nat) : Block :=
  let mark := b.qMark q
  let span := (b.qWr q - mark).toNat
  let past := (b.qRd q - mark).toNat
  let st := b.q q
  let b := b.setQ q { st with entries := st.entries.filter fun e => !(e.ptr == mark && e.prov) }
  b.moveQueue q mark (if 0 < past && past ≤ span then mark else b.qRd q)

/-- Write a control word, or in priority mode a control entry of the parcel's stratum (R353). -/
def Block.writeControl (b : Block) (q : Nat) (commit : Bool) (p : Produce) : Block :=
  let w := controlWord commit p.orig p.pseq
  if b.qPriority q then b.writeEntry q (toLe 8 w.data.toNat) p.prio false true else b.writeWords q [w]

/-- Let the producers that wait for the mark write in turn (R353). -/
def Block.resumeProducers (b : Block) (q : Nat) : Block :=
  let st := b.q q
  st.waiting.foldl (fun b p => b.produce q p) (b.setQ q { st with waiting := [] })

/-- The tag decision on the live parcel of a queue (R353); to a queue of a frozen function no control word is written
(R371). -/
def Block.decideTag (b : Block) (q : Nat) (pass : Bool) : Block :=
  match (b.q q).live with
  | none => b
  | some p =>
    let taken := (b.q q).provTaken && !((b.qOwner q).map b.frozen).getD false
    let b := if pass then b.clearProv q else (if taken then b.recvsToMark q else b).backToMark q
    let b := b.set (Reg.QD_BASE_HI_MARK_VALID q) 0
    let b := b.setQ q { b.q q with live := none, provTaken := false }
    let b := if taken then b.writeControl q pass p else b
    let b := if taken && !pass then b.inc Reg.QF_REVOKES_COUNT else b
    b.resumeProducers q

/-! ### Fetched commands (R360, R361) -/

/-- Operand bytes of a command, by their offset in the 64-byte entry (R360). -/
def Cmd.le (c : Cmd) (off n : Nat) : Nat := leAt c.operands (off - 0x10) n

/-- Run the oldest fetched command of a ring, if it has the row's opcode. While its function is cut off it has no
effect (R371); the command leaves the list of fetched commands. -/
def Block.runCmd (b : Block) (ring opcode : Nat) (f : Cmd → Block → Block) : Block :=
  match b.strata.fetched.find? (fun c => c.ring == ring) with
  | some c =>
    if c.opcode = opcode ∧ !b.cutOff c.fn then
      f c { b with strata := { b.strata with fetched := b.strata.fetched.erase c } }
    else b
  | none => b

/-- As `runCmd`, for a command that moves data by DMA: it waits while its function is paused (R369). -/
def Block.runDmaCmd (b : Block) (ring opcode : Nat) (f : Cmd → Block → Block) : Block :=
  match b.strata.fetched.find? (fun c => c.ring == ring) with
  | some c => if b.still c.fn then b else b.runCmd ring opcode f
  | none => b

/-- The RESULT of a SEND (R363): PSEQ, attempts made, bearing of the ACK's sync point or 0. -/
def sendResult (pseq attempts bearing : Nat) : List Byte := toLe 2 pseq ++ toLe 1 attempts ++ [0] ++ toLe 6 bearing

/-- Note poisoned words (R356): POISONED, the count, and at its going from clear to set the record and the notice. -/
def Block.poisoned (b : Block) (q : Nat) (p : Word) : Block :=
  let b := b.inc Reg.QF_POISON_COUNT
  if b.on (Reg.QD_BASE_HI_POISONED q) then b
  else ((b.set (Reg.QD_BASE_HI_POISONED q) 1).post 0x0A03 2 0x42 [(2, q), (4, p.toNat)]).notify q 5

/-- PT_P0_WAIT follows the priority-0 parcels that wait: in their queues, or offered for a hop (R284). -/
def Block.refreshP0 (b : Block) : Block :=
  b.set Reg.PT_P0_WAIT_COUNT
    (min 65535 ((b.strata.sends.filter fun r => !r.taken && r.prio == 0).length +
      (b.mac.offers.filter fun o => o.prio == 0 && !o.parcels.isEmpty).length))

/-- Complete a SEND and forget it. -/
def Block.completeSend (b : Block) (r : SendRec) (status : Nat) (result : List Byte) : Block :=
  (({ b with strata := { b.strata with sends := b.strata.sends.erase r } }).complete r.cmd status result).refreshP0

/-- RD of a host-produced PARCEL queue moves to the oldest parcel that its consumer has not done with (R344, R351). -/
def Block.releaseSends (b : Block) (q : Nat) : Block :=
  if b.qPriority q then
    let live (e : QEntry) : Bool := b.strata.sends.any fun r => r.queue == q && !r.taken && r.ptr == e.ptr
    let st := b.q q
    (b.setQ q { st with entries := st.entries.map fun e => { e with consumed := e.consumed || !live e } }).freeConsumed q
  else
    match b.strata.sends.find? fun r => r.queue == q && !r.taken with
    | some r => b.moveQueue q (b.qWr q) r.ptr
    | none => b.moveQueue q (b.qWr q) (b.qWr q)

/-- The device has done with a SEND whose parcel still waited in its queue. -/
def Block.endWaitingSend (b : Block) (r : SendRec) (status : Nat) (result : List Byte) : Block :=
  (b.completeSend r status result).releaseSends r.queue

end Sys2Proof.Machine
end

