-- ==== Sys2Proof/Machine/PortOps.lean ====
section
/-!
DEFINITION. What the families share about line ports, lanes and drivers: image-only settings, slices and port states
(R128, R139, R141, R148), the thermal prediction (R150 to R152), receptions and transmissions of a port.
-/

namespace Sys2Proof.Machine

/-! ### Image-only settings (R622) -/

/-- The setting in force at 0x0100_0000 + a. -/
def Block.setting (b : Block) (a : Nat) : Word := Store.get settingDefault b.img.settings a

/-- The binding STRUCT gives receive lane l (R21, R622). -/
def Block.structBinding (b : Block) (l : Nat) : Option Binding :=
  let w := (b.setting (4 * l)).toNat
  if bitsAt w 8 1 = 1 then some { port := bitsAt w 0 5, sb := bitsAt w 5 2, g3 := bitsAt w 7 1 = 1 } else none

/-- Whether STRUCT binds a lane to a port. -/
def Block.portBound (b : Block) (n : Nat) : Bool :=
  (List.range 128).any fun l => match b.structBinding l with
    | some x => x.port == n
    | none => false

/-- Whether some port of a triad is bound. -/
def Block.triadBound (b : Block) (t : Nat) : Bool := (List.range 3).any fun i => b.portBound (3 * t + i)

/-- Whether a G3 lane is bound to a port (R330). -/
def Block.g3Bound (b : Block) (n : Nat) : Bool :=
  (List.range 128).any fun l => match b.structBinding l with
    | some x => x.port == n && x.g3
    | none => false

/-- Whether mains-sense input n is enabled (R92, R622). -/
def Block.msnsEnabled (b : Block) (n : Nat) : Bool := bitsAt (b.setting (0x1000 + 4 * n)).toNat 1 1 == 1

/-- The sub-bands port n may use, as a mask (R160, R622). -/
def Block.permitted (b : Block) (n : Nat) : Nat := (b.setting (0x2000 + 4 * n)).toNat % 16

/-- Whether CHAIN_EN is high, as sampled at reset release (R580). -/
def Block.chainEnabled (b : Block) : Bool := b.on Reg.HIF_STRAPS_CHAIN_EN

/-! ### Lanes -/

/-- A receive lane. -/
def Block.lane (b : Block) (l : Nat) : Lane := Store.get (fun _ => Lane.reset) b.pool.lanes l

/-- Replace a receive lane. -/
def Block.setLane (b : Block) (l : Nat) (x : Lane) : Block :=
  { b with pool := { b.pool with lanes := Store.put (fun _ => Lane.reset) b.pool.lanes l x } }

/-- The lanes that serve a port, ascending. -/
def Block.lanesOf (b : Block) (n : Nat) : List Nat :=
  (List.range 128).filter fun l => match (b.lane l).binding with
    | some x => x.port == n
    | none => false

/-- The reception in progress on a lane: it is in a frame (R131). -/
def Lane.current (x : Lane) : Option Reception := x.reception.filter fun r => !r.ended

/-- The lanes of a port that are in a frame. -/
def Block.receiving (b : Block) (n : Nat) : List Nat := (b.lanesOf n).filter fun l => (b.lane l).current.isSome

/-- The frame's lane, for a lane that is in a frame received on several (R167). -/
def Reception.leadOf (r : Reception) (l : Nat) : Nat := (r.frame.map (·.lead)).getD l

/-- The anchor of a port (R132): the lane in a frame whose frame began earliest, the lower index on a tie. Of a frame received
on several lanes the frame's lane stands for all (R167). -/
def Block.anchor (b : Block) (n : Nat) : Option Nat :=
  (b.receiving n).foldl (fun best l =>
    match best, (b.lane l).current with
    | some a, some r =>
      match (b.lane a).current with
      | some q =>
        if r.start != q.start && ahead q.start r.start then some (r.leadOf l)
        else some (if r.start = q.start then min a (r.leadOf l) else a)
      | none => some (r.leadOf l)
    | none, some r => some (r.leadOf l)
    | best, none => best) none

/-- Ticks from sample 0 of a lane's frame to now: the fifth SYNCP begins with sample 2,048, and a sample takes 125 ticks. -/
def Block.frameTicks (b : Block) (r : Reception) : Nat := 2048 * 125 + (b.ticks - r.startTick)

/-- LP_AGC_STAT shows the anchor of a port. -/
def Block.refreshAnchor (b : Block) (n : Nat) : Block :=
  match b.anchor n with
  | some l => b.setAll [(Reg.LP_AGC_STAT_ANCHOR n, l), (Reg.LP_AGC_STAT_ANCHOR_VALID n, 1)]
  | none => b.setAll [(Reg.LP_AGC_STAT_ANCHOR n, 0), (Reg.LP_AGC_STAT_ANCHOR_VALID n, 0)]

/-- Keep what has been on the air for the noise map of the cycle (R115); spans of more than three cycles ago go. -/
def Block.logSpan (b : Block) (x : AirSpan) : Block :=
  { b with brg := { b.brg with spans := x :: b.brg.spans.filter fun y => (b.brg.now - y.last).toNat < 196608 } }

/-- The reception of a Gweol lane, if any, leaves the air now (R115). -/
def Block.logReception (b : Block) (l : Nat) : Block :=
  match (b.lane l).binding, (b.lane l).current with
  | some x, some r =>
    if x.g3 then b
    else b.logSpan { port := x.port, bands := 2 ^ x.sb, received := true, start := r.start, last := b.brg.now }
  | _, _ => b

/-- Give a lane its reception, or none; the anchor of its port follows. -/
def Block.setReception (b : Block) (l : Nat) (r : Option Reception) : Block :=
  let b := if (r.filter fun x => !x.ended).isNone then b.logReception l else b
  let b := b.setLane l { b.lane l with reception := r }
  match (b.lane l).binding with
  | some x => b.refreshAnchor x.port
  | none => b

/-- Drop the reception of a lane. -/
def Block.dropReception (b : Block) (l : Nat) : Block := b.setReception l none

/-- No lane receives any more, and no codeword is left to decode. -/
def Block.dropReceptions (b : Block) : Block :=
  let b := (List.range 128).foldl (fun b l => b.dropReception l) b
  { b with pool := { b.pool with codewords := [], decoding := [], decodersBusy := 0 } }

/-- Unbound lanes in service (R24, FLT_SPARES.RX_SPARE). -/
def Block.spareLanes (b : Block) : List Nat :=
  (List.range 128).filter fun l => !(b.lane l).retired && (b.lane l).binding.isNone

/-- FLT_SPARES follows the pools. -/
def Block.countSpares (b : Block) : Block :=
  b.setAll [(Reg.FLT_SPARES_RX_SPARE, b.spareLanes.length), (Reg.FLT_SPARES_TX_ALIVE, 48 - b.pool.txRetired.length)]

/-- A spare pool runs low (R555): pool code and what remains. -/
def Block.spareLow (b : Block) (pool remaining : Nat) : Block :=
  (b.pend Reg.FLT_PEND_SPARE).post 0x1009 2 0x49 [(1, pool), (2, remaining)]

/-! ### Ports -/

/-- What is kept of a port beside its page. -/
def Block.port (b : Block) (n : Nat) : PortSt := Store.get (fun _ => PortSt.reset) b.ports.port n

/-- Replace what is kept of a port. -/
def Block.setPort (b : Block) (n : Nat) (p : PortSt) : Block :=
  { b with ports := { b.ports with port := Store.put (fun _ => PortSt.reset) b.ports.port n p } }

/-- Whether a transmission holds its lanes, units and charges (R30, R152). -/
def Tx.holds (x : Tx) : Bool := x.stage == .admitted || x.stage == .onLine

/-- The transmissions that hold a port: admitted or on the line (R30). -/
def Block.portTxs (b : Block) (n : Nat) : List Tx :=
  b.mac.txs.filter fun x => x.holds && x.ports.contains n

/-- Whether two closed spans of bearing meet. -/
def spansMeet (a e c f : Bearing) : Bool := ahead f a && ahead e c

/-- The transmissions of a port that a span would overlap. -/
def Block.portMeets (b : Block) (n : Nat) (a e : Bearing) : List Tx :=
  (b.portTxs n).filter fun x => spansMeet a e x.start x.last

/-- Whether a port has no room for a further transmission over a span: two would overlap it at once (R31). -/
def Block.portFull (b : Block) (n : Nat) (a e : Bearing) : Bool :=
  let on := b.portMeets n a e
  on.any fun x => on.any fun y => x.offer.num != y.offer.num && spansMeet x.start x.last y.start y.last

/-- The frames of the Plane Table that a port has on the line. -/
def Block.lineTxs (b : Block) (n : Nat) : List Tx := b.mac.txs.filter fun x => x.stage == .onLine && x.ports.contains n

/-- The frames driven for the partner (R479) that a port has on the line. -/
def Block.lineDrives (b : Block) (n : Nat) : List Drive :=
  b.chain.drives.filter fun d => d.port == n && ahead b.brg.now d.start

/-- The band sets of what a port sends now (R29, R479). -/
def Block.onAir (b : Block) (n : Nat) : List Nat := (b.lineTxs n).map (·.bands) ++ (b.lineDrives n).map (·.bands)

/-- Whether a port is sending now. -/
def Block.sending (b : Block) (n : Nat) : Bool := !(b.onAir n).isEmpty

/-- The frame boundary of R148: the port holds no transmission on the line. -/
def Block.atBoundary (b : Block) (n : Nat) : Bool := !b.sending n

/-- Whether a slice of a port is healthy: not retired, not tripped or suspect and waiting for its test (R147). -/
def Block.sliceHealthy (b : Block) (n j : Nat) : Bool :=
  !b.bit (Reg.LP_SLICE_STAT_RETIRED n) j && !(b.port n).untested.any fun p => p.1 == j && p.2 != .rotation

/-- The healthy slices of a port. -/
def Block.healthySlices (b : Block) (n : Nat) : List Nat := (List.range 12).filter fun j => b.sliceHealthy n j

/-- The active set R139 gives: at most ten healthy slices from the rotation pointer on; the slice at the pointer itself is the
first of those that follow it (DESIGN CHOICE, log entry 167: R139 does not say whether it is). -/
def Block.sliceChoice (b : Block) (n : Nat) : List Nat :=
  (((List.range 12).map fun i => (b.get (Reg.LP_SLICE_STAT_POINTER n) + i) % 12).filter
    fun j => b.sliceHealthy n j).take 10

/-- The slice limit of R141: the least d with 10^(d/20) ≥ 10/k. -/
def sliceLimit (k : Nat) : Nat := leastUpTo 31 fun d => 10 ^ 20 ≤ 10 ^ d * k ^ 20

/-- The supply limit of R141 for V_LD in 10 mV: the least d with 10^(d/20) ≥ 18/(V_LD − 6.0), 0 from 24.0 V up. -/
def supplyLimit (vld : Nat) : Nat :=
  if 2400 ≤ vld then 0 else leastUpTo 31 fun d => 1800 ^ 20 ≤ 10 ^ d * (vld - 600) ^ 20

/-- LP_TX_LEVEL.MIN_ATTEN of a port (R141). At 6.0 V and below, and so before the first measurement of V_LD, the rule
gives no supply limit: it is a free value (DESIGN CHOICE, log entry 62). -/
def Block.refreshMinAtten (b : Block) (n : Nat) : Block :=
  let vld := b.get (Reg.LP_BANK_STAT_VLD (n / 6))
  let slices := sliceLimit (b.get (Reg.LP_STATUS_ACTIVE n))
  if vld ≤ 600 then b.draw.set (Reg.LP_TX_LEVEL_MIN_ATTEN n) (max slices (b.free % 32))
  else b.set (Reg.LP_TX_LEVEL_MIN_ATTEN n) (max slices (supplyLimit vld))

/-- Whether a port waits on the Chain standby (R128, R476). -/
def Block.standsBy (b : Block) (n : Nat) : Bool := b.chain.role == .standby && b.on (Reg.LP_CTRL_PAIRED n)

/-- The state R128 gives a port. -/
def Block.portState (b : Block) (n : Nat) : Nat :=
  if !b.on (Reg.LP_CTRL_ENABLE n) || b.dev != .service then 0
  else if (b.port n).failed then 3
  else if b.on (Reg.LP_BANK_STAT_OFF (n / 6)) then 5
  else if b.standsBy n then 4
  else if b.get (Reg.LP_STATUS_ACTIVE n) = 10 then 1 else 2

/-- LP_STATUS.STATE follows R128. -/
def Block.refreshPort (b : Block) (n : Nat) : Block :=
  (b.set (Reg.LP_STATUS_STATE n) (b.portState n)).set (Reg.LP_STATUS_HEALTHY n) (b.healthySlices n).length

/-- Every port's state follows R128. -/
def Block.refreshPorts (b : Block) : Block := (List.range 24).foldl (fun b n => b.refreshPort n) b

/-- Whether a port transmits as admitted (R128). -/
def Block.transmits (b : Block) (n : Nat) : Bool :=
  b.get (Reg.LP_STATUS_STATE n) == 1 || b.get (Reg.LP_STATUS_STATE n) == 2

/-- Open a port's output switches (R144, R145, R535). -/
def Block.openSwitches (b : Block) (n : Nat) : Block :=
  (b.setPort n (b.port n).opened).set (Reg.LP_STATUS_TX_BUSY n) 0

/-- Close a port's output switches (R144, step 2): the replica canceller is engaged while XBAND_RX is 1. A port that the
partner drives for stays open here (R479). -/
def Block.closeSwitches (b : Block) (n : Nat) : Block :=
  (b.setPort n { b.port n with switches := true, canceller := b.on (Reg.LP_CTRL_XBAND_RX n) }).set
    (Reg.LP_STATUS_TX_BUSY n) 1

/-- A transmission of a port has ended (R144, step 4): its switches stay closed for 8 µs more. -/
def Block.endPort (b : Block) (n : Nat) : Block := b.setPort n { b.port n with ended := some b.ticks }

/-- A frame of some ports leaves the line now (R115). -/
def Block.logTx (b : Block) (ports : List Nat) (bands : Nat) (start : Bearing) : Block :=
  ports.foldl (fun b n => b.logSpan { port := n, bands := bands, received := false, start := start, last := b.brg.now }) b

/-! ### The thermal model (R150 to R152) -/

/-- P_d of R151 in whole milliwatts: 1,800 × m/112 × LOSS/256 × 10^(−A/10) × min(4, 10^((A − Amin)/20)), rounded up.
The power of ten joins to −(A + Amin)/20 while A − Amin ≤ 12, where the factor is still below 4. -/
def dissipation (m loss a amin : Nat) : Nat :=
  let capped := 12 < a - amin
  let num := 1800 * m * loss * (if capped then 4 else 1)
  let den := 112 * 256
  let e := if capped then 2 * a else a + amin
  leastMonotone 16 fun p => num ^ 20 ≤ (p * den) ^ 20 * 10 ^ e

/-- P_out of R150 in units of 2^-16 mW, rounded to the next lower unit. -/
def outputPower (m a : Nat) : Nat :=
  leastMonotone 28 (fun p => (1800 * m * 65536) ^ 10 < ((p + 1) * 112) ^ 10 * 10 ^ a)

/-- A transmission of a bank has ended: its output joins the sum of the superframe (R223). -/
def Block.bankSent (b : Block) (bank m a : Nat) : Block :=
  let x := Store.get (fun _ => BankSent.reset) b.ports.sent bank
  let x := if x.superframe = b.superframe then x else { BankSent.reset with superframe := b.superframe }
  { b with ports := { b.ports with
    sent := Store.put (fun _ => BankSent.reset) b.ports.sent bank { x with out := x.out + outputPower m a } } }

/-- The transmissions in progress or admitted in a bank. -/
def Block.bankTxs (b : Block) (bank : Nat) : List Tx :=
  b.mac.txs.filter fun x => x.holds && x.ports.any (fun n => n / 6 == bank)

/-- The frames driven for the partner in a bank (R479). -/
def Block.bankDrives (b : Block) (bank : Nat) : List Drive := b.chain.drives.filter fun d => d.port / 6 == bank

/-- A_min of R151: the smallest effective attenuation in a bank; 30 dB where nothing is sent. -/
def Block.bankAmin (b : Block) (bank : Nat) : Nat :=
  ((b.bankTxs bank).map (·.atten) ++ (b.bankDrives bank).map (·.atten)).foldl min 30

/-- Give every transmission of a bank its charge per port under the smallest attenuation there; m of a driven frame is
not in its cells, and 112 bounds it (log entry 60). -/
def Block.recharge (b : Block) (bank : Nat) : Block :=
  let amin := b.bankAmin bank
  { b with
    mac := { b.mac with txs := b.mac.txs.map fun x =>
      if x.holds && x.ports.any (fun n => n / 6 == bank) then
        { x with charge := dissipation x.carriers x.loss x.atten amin } else x }
    chain := { b.chain with drives := b.chain.drives.map fun d =>
      if d.port / 6 = bank then { d with charge := dissipation 112 d.loss d.atten amin } else d } }

/-- The sum of the charges on a port, with those of frames driven for the partner (R479). -/
def Block.portPred (b : Block) (n : Nat) : Nat :=
  ((b.portTxs n).map (·.charge)).sum + ((b.chain.drives.filter fun d => d.port == n).map (·.charge)).sum

/-- The device total of P_d in mW. -/
def Block.totalPred (b : Block) : Nat := ((List.range 24).map b.portPred).sum

/-- PRED of the ports, the banks and the device follow the charges. -/
def Block.reportPred (b : Block) : Block :=
  let b := (List.range 24).foldl (fun b n => b.set (Reg.LP_THERM_PRED n) (b.portPred n)) b
  let b := (List.range 4).foldl (fun b k =>
    b.set (Reg.LP_BANK_PRED_PRED k) ((List.range 6).map fun i => b.portPred (6 * k + i)).sum) b
  b.set Reg.PT_THERM_PRED b.totalPred

/-- The charges after a transmission has ended or been admitted in a bank. -/
def Block.refreshCharges (b : Block) (bank : Nat) : Block := (b.recharge bank).reportPred

/-- The frames driven for the partner on a port stop, and their further cells are passed over (R145, R148, R484). -/
def Block.cutDrivesOf (b : Block) (n cause : Nat) : Block :=
  let mine := b.chain.drives.filter fun d => d.port == n
  let b := { b with chain := { b.chain with
    drives := b.chain.drives.filter fun d => d.port != n
    refused := b.chain.refused ++ mine.map fun d => (n, d.slot) } }
  mine.foldl (fun b d => (((b.logTx [n] d.bands d.start).inc (Reg.LP_TX_CUT_COUNT n)).post 0x0405 2 0x41
    [(1, n), (1, cause)])) b

/-- Cut every transmission in progress on a port (R145, R148): counted and recorded on each of its ports; a frame that
asked for an ACK goes on to wait for it, any other is gone. Cause 0 bank off, 1 slices. -/
def Block.cutPort (b : Block) (n cause : Nat) : Block :=
  let cut := b.portTxs n
  let ports := (n :: cut.flatMap (·.ports)).dedup
  let txs := b.mac.txs.filterMap fun x =>
    if x.stage != .awaitingAck && x.ports.contains n then
      (if x.offer.ackReq then some { x with stage := .awaitingAck, lostSlice := true } else none)
    else some x
  let b := { b with mac := { b.mac with txs := txs } }
  let b := cut.foldl (fun b x => x.ports.foldl (fun b m =>
    (b.inc (Reg.LP_TX_CUT_COUNT m)).post 0x0405 2 0x41 [(1, m), (1, cause)])
    (if x.stage = .onLine then b.logTx x.ports x.bands x.start else b)) b
  let b := b.cutDrivesOf n cause
  let b := ports.foldl (fun b m => if m = n ∨ !b.sending m then (b.endPort m).openSwitches m else b) b
  ((ports.map (· / 6)).dedup).foldl (fun b k => b.refreshCharges k) b

/-- The active set, k, MIN_ATTEN and the port state take the values the healthy slices give (R139, R141, R148). -/
def Block.showSlices (b : Block) (n : Nat) : Block :=
  let chosen := b.sliceChoice n
  let b := b.set (Reg.LP_SLICE_STAT_ACTIVE_SET n) ((chosen.map fun j => 2 ^ j).sum)
  ((b.set (Reg.LP_STATUS_ACTIVE n) chosen.length).refreshMinAtten n).refreshPort n

/-- A port fails (R148): at once; its frames are cut. -/
def Block.failPort (b : Block) (n : Nat) : Block :=
  let b := ((b.setPort n { b.port n with failed := true }).cutPort n 1).showSlices n
  b.post 0x0404 3 0x41 [(1, n), (1, b.get (Reg.LP_STATUS_ACTIVE n)), (1, b.get (Reg.LP_CTRL_PAIRED n))]

/-- A frame boundary of a port (R148): what the healthy slices give takes effect. A change to DERATED is recorded and runs
the slice spares low (R555). -/
def Block.applySlices (b : Block) (n : Nat) : Block :=
  let old := b.get (Reg.LP_STATUS_ACTIVE n)
  let b := b.showSlices n
  let k := b.get (Reg.LP_STATUS_ACTIVE n)
  if (b.port n).failed then b
  else if k < 6 then b.failPort n
  else if k < 10 ∧ (old = 10 ∨ old = 0) then
    (b.post 0x0403 2 0x41 [(1, n), (1, k), (1, b.get (Reg.LP_TX_LEVEL_MIN_ATTEN n))]).spareLow 2
      ((b.healthySlices n).length - k)
  else b

/-- The active slices of a port that are still healthy (R148). -/
def Block.remainingSlices (b : Block) (n : Nat) : List Nat :=
  (b.healthySlices n).filter fun j => b.bit (Reg.LP_SLICE_STAT_ACTIVE_SET n) j

/-- The peak output current of a port in mA (R139, R148): samples beyond it are clipped at it. -/
def Block.peakCurrent (b : Block) (n : Nat) : Nat := (b.remainingSlices n).length * 200

/-- A change of the healthy set (R148): FAILED at once, when fewer than 6 slices are healthy or, in a frame, fewer than
6 of the active ones remain; everything else at the next frame boundary. -/
def Block.slicesChanged (b : Block) (n : Nat) : Block :=
  let b := b.refreshPort n
  let remaining := (b.remainingSlices n).length
  if (b.port n).failed then b.showSlices n
  else if (b.healthySlices n).length < 6 ∨ (b.sending n ∧ remaining < 6) then b.failPort n
  else if b.atBoundary n then b.applySlices n else b

end Sys2Proof.Machine
end

