-- ==== Sys2Proof/Machine/Cells.lean ====
section
/-!
DEFINITION. Cells of the Chain (13_chain.md): their form (R457), the rings they leave by (R457, R474, R475), and the
replication of an entry to the partner (R322, R478).
-/

namespace Sys2Proof.Machine

/-- Kinds of cells (R458). -/
def kindSync : Nat := 1
def kindDrive : Nat := 2
def kindToken : Nat := 3
def kindVerdict : Nat := 4
def kindReset : Nat := 5
def kindWrap : Nat := 6
def kindEcho : Nat := 7
def kindRepl : Nat := 8
def kindRxdone : Nat := 9
def kindPair : Nat := 10

/-- The 72 bytes of a cell (R457). -/
def cellBytes (kind src dst : Nat) (bcast : Bool) (seq : Nat) (body : List Byte) : List Byte :=
  let head := toLe 1 kind ++ toLe 1 (src + 8 * dst + (if bcast then 64 else 0)) ++ toLe 2 seq
  let body := slice body 0 64
  head ++ toLe 4 (crc32c (head ++ body)) ++ body

/-- Whether the bypass of a ring is closed. -/
def Block.bypassed (b : Block) (ringB : Bool) : Bool := if ringB then b.chain.bypassB else b.chain.bypassA

/-- Whether the device turns the cells of a ring onto its other ring (R475). -/
def Block.wrapped (b : Block) (ringB : Bool) : Bool :=
  if ringB then b.on Reg.CHN_STAT_WRAP_B else b.on Reg.CHN_STAT_WRAP_A

/-- A cell leaves by a ring, or by the other one where that ring is wrapped (R475); a closed bypass joins no output of
the device to its ring (R463, R474). -/
def Block.putCell (b : Block) (ringB : Bool) (bytes : List Byte) : Block :=
  let out := if b.wrapped ringB then !ringB else ringB
  if b.bypassed out then b
  else { b with chain := { b.chain with cells := b.chain.cells ++ [{ ringB := out, bytes := bytes }] } }

/-- Number the next cell of the device (R457). -/
def Block.nextSeq (b : Block) : Block := { b with chain := { b.chain with seq := (b.chain.seq + 1) % 65536 } }

/-- Send a cell of the device on both rings. -/
def Block.sendCell (b : Block) (kind dst : Nat) (bcast : Bool) (body : List Byte) : Block :=
  let bytes := cellBytes kind (b.get Reg.CHN_ID_RANK) dst bcast b.chain.seq body
  ((b.nextSeq).putCell false bytes).putCell true bytes

/-- Send a cell of the device on one ring: ECHO and WRAP (R457), or a RESET and a TOKEN on ring A (R486, R488). -/
def Block.sendCellOn (b : Block) (ringB : Bool) (kind dst : Nat) (bcast : Bool) (body : List Byte) : Block :=
  b.nextSeq.putCell ringB (cellBytes kind (b.get Reg.CHN_ID_RANK) dst bcast b.chain.seq body)

/-- The operations that a TOKEN and a VERDICT name (R79, R80, R485 to R487): byte 0 of their bodies (log entry 59: the spec
gives the bodies no layout). -/
def opSwap : Nat := 1
def opSnapshot : Nat := 2
def opHandover : Nat := 3
def opBarrier : Nat := 4

/-- The master sends its verdict on both rings (R79): 1 COMMIT, 2 ABORT with its cause. -/
def Block.sendVerdict (b : Block) (op verdict cause : Nat) (at_ : Bearing) : Block :=
  b.sendCell kindVerdict 0 true (toLe 1 op ++ toLe 1 verdict ++ toLe 1 cause ++ toLe 6 at_.toNat)

/-- The partner's rank, if CHAIN names one (R622). -/
def Block.partner (b : Block) : Option Nat :=
  let w := (b.setting 0x5000).toNat
  if w.testBit 3 then some (bitsAt w 4 3) else none

/-- Whether changes go to the partner: the table is at home and the path is up (R322). -/
def Block.replicates (b : Block) : Bool := b.on Reg.TRV_REPL_STAT_LINKED && !b.on Reg.TRV_PART_ROLE

/-- The body of a REPL cell: what it carries, the 32-byte piece, the index, the replication sequence, bits [31:0] of the
bearing of its sending, the bytes (DESIGN CHOICE, log entry 35: the spec gives REPL no layout). -/
def replBody (what piece index seq sent : Nat) (bytes : List Byte) : List Byte :=
  toLe 1 what ++ [0] ++ toLe 2 piece ++ toLe 4 index ++ toLe 4 seq ++ toLe 4 sent ++ slice bytes 0 32

/-- Send one piece of an entry, with the next replication sequence. -/
def Block.sendPiece (b : Block) (what piece index : Nat) (bytes : List Byte) : Block :=
  match b.partner with
  | some p =>
    let b := b.inc Reg.TRV_REPL_SEQ_RSEQ
    b.sendCell kindRepl p false (replBody what piece index (b.get Reg.TRV_REPL_SEQ_RSEQ) b.brg.now.toNat bytes)
  | none => b

/-- Send the pieces of an entry that differ. -/
def Block.replicate (b : Block) (what index : Nat) (old new : List Byte) : Block :=
  if !b.replicates then b
  else (List.range ((new.length + 31) / 32)).foldl (fun b i =>
    if slice old (32 * i) 32 = slice new (32 * i) 32 then b else b.sendPiece what i index (slice new (32 * i) 32)) b

/-- What a REPL cell carries. -/
def replCore : Nat := 1
def replRoute : Nat := 2
def replExt : Nat := 3
def replCtx : Nat := 4
def replAccount : Nat := 5
def replGrant : Nat := 6
def replDone : Nat := 7
def replTriad : Nat := 8
def replNotch : Nat := 9
def replG3 : Nat := 10

end Sys2Proof.Machine
end

