-- ==== Sys2Proof/Machine/Uart.lean ====
section
/-!
DEFINITION. The transmit side of the serial ports (15_serial_ports.md) as the modes of the device drive it: what a port
sends next, the levels of TXD and SP1_DE (R521, R522, R524, R527, R528).
-/

namespace Sys2Proof.Machine

/-- A serial port beside its registers. -/
def Block.sp (b : Block) (p : Nat) : SerialPort := Store.get (fun _ => SerialPort.reset) b.serial p

/-- Replace what is kept of a serial port; SP_STAT follows the fills and the shifter (R530). -/
def Block.setSp (b : Block) (p : Nat) (x : SerialPort) : Block :=
  ({ b with serial := Store.put (fun _ => SerialPort.reset) b.serial p x }).setAll
    [(Reg.SP_STAT_RX_FILL p, x.rx.length), (Reg.SP_STAT_TX_FILL p, x.tx.length),
     (Reg.SP_STAT_TX_BUSY p, if x.shifter.isSome then 1 else 0)]

/-- Whether a port drives its line (R527, R528): the device is in SETTLE, SERVICE or HOLD, the port is enabled, and the
oscillator runs. -/
def Block.spActive (b : Block) (p : Nat) : Bool :=
  b.on (Reg.SP_CTRL_ENABLE p) && b.oscillator && (match b.dev with
    | .settle | .service | .hold => true
    | _ => false)

/-- SP1_DE (R524); the tick at which it goes low is kept (R525). -/
def Block.setDe (b : Block) (p : Nat) (on : Bool) : Block :=
  if p ≠ 1 then b
  else
    let b := if b.on (Reg.SP_STAT_DE 1) && !on then b.setSp 1 { b.sp 1 with deEnd := some b.ticks } else b
    b.setOn (Reg.SP_STAT_DE 1) on

/-- Ticks of half bit times of a port (R515): a bit takes DIV / 16 cycles of 48 MHz. -/
def Block.halfBits (b : Block) (p n : Nat) : Nat := n * b.get (Reg.SP_DIV_DIV p) * 125 / 768

/-- Put what comes next into an empty shifter, under the settings now in force (R522): a break that SEND_BRK asks for,
ahead of the characters that wait (R521). SP1_DE is high while the port sends. -/
def Block.loadShifter (b : Block) (p : Nat) : Block :=
  let x := b.sp p
  let under (c : Option Nat) : Option (Option Nat × Word × Nat) := some (c, b.rd (Reg.SP_FMT p), b.get (Reg.SP_DIV_DIV p))
  if x.shifter.isSome || !b.spActive p then b
  else if b.on (Reg.SP_CTRL_SEND_BRK p) then (b.setSp p { x with shifter := under none, tail := false }).setDe p true
  else match x.tx with
    | [] => b
    | c :: rest =>
      let data := c % 2 ^ b.get (Reg.SP_FMT_DATA p)
      (b.setSp p { x with tx := rest, shifter := under (some data), tail := false }).setDe p true

/-- The shifter has finished: the next character or break follows, or the tail begins (R524). -/
def Block.shifterDone (b : Block) (p : Nat) : Block :=
  let b := (b.setSp p { b.sp p with shifter := none }).loadShifter p
  let x := b.sp p
  if p = 1 ∧ x.shifter.isNone then
    if b.get (Reg.SP_DE_TAIL 1) = 0 then b.setDe 1 false else b.setSp 1 { x with tail := true }
  else b

/-- A port takes its harmless levels: nothing in the shifter, SP1_DE low (R528). -/
def Block.hushSp (b : Block) (p : Nat) : Block :=
  (b.setSp p { b.sp p with shifter := none, tail := false }).setDe p false

/-- The ports follow a change of device state, of ENABLE or of the oscillator: a port that may not drive its line takes
its harmless levels, one that may sends what waits. -/
def Block.serialFollow (b : Block) : Block :=
  let follow (b : Block) (p : Nat) : Block :=
    if b.dev == .hold && b.on (Reg.SP_CTRL_ENABLE p) && !b.oscillator then b
    else if b.spActive p then b.loadShifter p else b.hushSp p
  follow (follow b 0) 1

end Sys2Proof.Machine
end

