-- ==== Sys2Proof/Machine/Modes.lean ====
section
/-!
DEFINITION. What a change of device state does (16_faults_reset.md): harmless outputs (R532, R535), doubts (R536),
violations (R539, R540), HOLD (R538, R544), the full reset (R545, R546); with the loop outputs (R505 to R507) and the
abort of an armed swap (R81) that they carry.
-/

namespace Sys2Proof.Machine

/-! ### Loop outputs (R505 to R507) -/

/-- What is kept of a sense channel beside its registers. -/
def Block.senseCh (b : Block) (k : Nat) : SenseCh := Store.get (fun _ => SenseCh.reset) b.sense k

/-- Replace what is kept of a sense channel. -/
def Block.setSenseCh (b : Block) (k : Nat) (c : SenseCh) : Block :=
  { b with sense := Store.put (fun _ => SenseCh.reset) b.sense k c }

/-- The demand of R505 in µA before the clamp, for a value y on the span LO to HI; a value beyond single precision lies
beyond the clamp on its own side. -/
def loopCurrent (y lo hi : Word) : Int :=
  match singleValue y, singleValue lo, singleValue hi with
  | some v, some l, some h => if h = l then 4000 else roundHalfUp (4000 + 16000 * (v - l) / (h - l))
  | _, some l, some h => if decide (l < h) != (y.toNat / 2 ^ 31 == 1) then 1000000 else -1000000
  | _, _, _ => 4000

/-- The fault level of a loop (R506). -/
def Block.loopFaultLevel (b : Block) (n : Nat) : Nat := if b.on (Reg.SS_LOOP_CTRL_FAULT_HI n) then 21500 else 3600

/-- What a loop output does (R505 to R507): its demand in µA and, at the fault level, CAUSE. -/
def Block.loopOutput (b : Block) (n : Nat) : Int × Option Nat :=
  let src := b.get (Reg.SS_LOOP_CTRL_SRC n)
  let atFault (cause : Nat) : Int × Option Nat := (b.loopFaultLevel n, some cause)
  if b.ports.vdda5Low then (0, none)
  else match b.dev with
    | .reset | .load => (3600, none)
    | .hold => if b.on (Reg.SS_LOOP_CTRL_ENABLE n) then (3600, none) else (0, none)
    | .settle | .quiet => if b.on (Reg.SS_LOOP_CTRL_ENABLE n) then atFault 2 else (0, none)
    | .service =>
      if !b.on (Reg.SS_LOOP_CTRL_ENABLE n) then (0, none)
      else if b.get (Reg.SS_LOOP_CTRL_MODE n) = 2 then atFault 3
      else if b.get (Reg.SS_LOOP_CTRL_MODE n) = 1 then (b.get (Reg.SS_LOOP_HOST_HOST n), none)
      else if !b.on Reg.SS_CTRL_ENABLE then atFault 2
      else if !b.bit Reg.SS_STAT_CONV_OK (b.get (Reg.SS_CH_MUX_CONV src)) then atFault 4
      else if (b.senseCh src).fault.isSome then atFault 1
      else if !b.on (Reg.SS_CH_STAT_GOOD_ONCE src) then atFault 5
      else (loopCurrent (b.rd (Reg.SS_CH_Y src)) (b.rd (Reg.SS_LOOP_LO n)) (b.rd (Reg.SS_LOOP_HI n)), none)

/-- Whether a loop holds its last value until the first conversion after a swap of SENSE (R77). -/
def Block.loopHolds (b : Block) (n : Nat) : Bool :=
  b.dev == .service && b.on (Reg.SS_LOOP_CTRL_ENABLE n) && b.get (Reg.SS_LOOP_CTRL_MODE n) == 0 &&
    !b.ports.vdda5Low && (b.senseCh (b.get (Reg.SS_LOOP_CTRL_SRC n))).hold

/-- Bring a loop's demand and flags to what R505 to R507 give: the channel's demand is clamped to 3,800–20,500 µA. -/
def Block.refreshLoop (b : Block) (n : Nat) : Block :=
  if b.loopHolds n then b else
  let out := b.loopOutput n
  let follows := b.dev == .service && out.2.isNone && b.on (Reg.SS_LOOP_CTRL_ENABLE n) && !b.ports.vdda5Low &&
    b.get (Reg.SS_LOOP_CTRL_MODE n) != 1
  let low := follows && decide (out.1 < 3800)
  let high := follows && decide (20500 < out.1)
  let demand := if low then 3800 else if high then 20500 else out.1.toNat
  let b := b.setAll [(Reg.SS_LOOP_STAT_DEMAND n, demand), (Reg.SS_LOOP_FLAGS_CAUSE n, out.2.getD 0),
    (Reg.SS_LOOP_FLAGS_SAT_LO n, if low then 1 else 0), (Reg.SS_LOOP_FLAGS_SAT_HI n, if high then 1 else 0),
    (Reg.SS_LOOP_FLAGS_FAULT n, if out.2.isSome then 1 else 0)]
  if out.2.isSome then b.set (Reg.SS_LOOP_FLAGS_FAULT_SEEN n) 1 else b

/-- Both loops follow. -/
def Block.refreshLoops (b : Block) : Block := (b.refreshLoop 0).refreshLoop 1

/-! ### Armed swap (R81) -/

/-- Abort an armed swap with a cause (R81): the shadow returns to VALID, the quiet windows are lifted, the change of
CFG_SWAP_STATUS raises fixed vector 6 (R573). -/
def Block.swapAbort (b : Block) (cause : Nat) : Block :=
  match b.img.armed with
  | none => b
  | some a =>
    let b := { b with img := { b.img with armed := none, ended := some a.bearing } }
    let b := b.setAll [(Reg.CFG_STATUS_SHADOW, 2), (Reg.CFG_SWAP_STATUS_STATE, 3), (Reg.CFG_SWAP_STATUS_CAUSE, cause)]
    (b.raiseFixed 6).post 0x0202 1 0x4B [(1, cause), (1, b.get Reg.CFG_SWAP_STATUS_MEMBERS), (6, a.bearing.toNat)]

/-- Abort an armed snapshot or handover with a cause (R81, R485, R487). -/
def Block.opAbort (b : Block) (cause : Nat) : Block :=
  match b.chain.op with
  | none => b
  | some _ =>
    let b := { b with chain := { b.chain with op := none } }
    (b.setAll [(Reg.CHN_OP_STATUS_STATE, 3), (Reg.CHN_OP_STATUS_CAUSE, cause)]).raiseFixed 7

/-- Abort an armed swap on every member (R81): the Chain master sends ABORT on both rings first. -/
def Block.abortSwapAll (b : Block) (cause : Nat) : Block :=
  match b.img.armed with
  | some a =>
    let b := if b.chainEnabled && b.chain.role == .master then b.sendVerdict opSwap 2 cause a.bearing else b
    b.swapAbort cause
  | none => b

/-- Abort an armed snapshot or handover on every member (R81, R485, R487). -/
def Block.abortOpAll (b : Block) (cause : Nat) : Block :=
  match b.chain.op with
  | some o =>
    let b := if b.chain.role == .master then b.sendVerdict (if o.handover then opHandover else opSnapshot) 2 cause o.bearing else b
    b.opAbort cause
  | none => b

/-- Discard the shadow set (R71). -/
def Block.discardShadow (b : Block) : Block :=
  let b := b.setAll [(Reg.CFG_STATUS_SHADOW, 0), (Reg.CFG_SHADOW_SERIAL_SERIAL, 0), (Reg.CFG_PRESERVE_MASK_PORTS, 0)]
  { b with img := { b.img with shadow := none, armed := none } }

/-! ### Entering the states -/

/-- A KIND 1 journal entry: powered hours and age (R550, R551). -/
def Block.lifeEntry (b : Block) : Block :=
  b.journalWrite FbRecord.zero 1 (b.rd Reg.FLT_LIFE_HOURS) (b.rd Reg.FLT_AGE)

/-- The Chain bypasses close (R474). -/
def Block.closeBypasses (b : Block) : Block :=
  { b with chain := { b.chain with bypassA := true, bypassB := true, joined := false } }

/-- Outputs that every state but SETTLE, SERVICE and HOLD holds harmless (R532): TIMEPULSE low, TXD at mark, SP1_DE
low. -/
def Block.silenceOutputs (b : Block) : Block :=
  let b := { b with dtm := { b.dtm with pulse := [] } }
  (b.hushSp 0).hushSp 1

/-- Every driver opens its switches and no transmission goes on (R535). -/
def Block.stopTransmitting (b : Block) : Block :=
  let b := { b with mac := { b.mac with txs := [] }, chain := { b.chain with drives := [] } }
  ((List.range 24).foldl (fun b n => b.openSwitches n) b).reportPred

/-- The record of R63, if the defaults were taken and it is still to be made. -/
def Block.recordDefaulted (b : Block) : Block :=
  match b.img.flashDefault with
  | some c => ({ b with img := { b.img with flashDefault := none } }).post 0x0203 2 0x4B [(1, c)]
  | none => b

/-- Entry to QUIET (R535, R536): an armed swap is aborted with cause STATE and the shadow discarded (R81, R71), every
output takes its harmless value, the cause is kept, the QUIET_ENTER record, after one of R63 that is owed, and a KIND 1 entry
are made. -/
def Block.enterQuiet (b : Block) (cause : Nat) : Block :=
  let prior := b.dev.code
  let b := ((b.abortSwapAll 6).abortOpAll 6).discardShadow
  let b := b.stopTransmitting.closeBypasses.silenceOutputs
  let b := (b.set Reg.GLB_STATE_QUIET_CAUSE cause).setDev .quiet
  let b := b.refreshPorts.refreshLoops
  (b.recordDefaulted.post 0x1002 4 0x49 [(1, cause), (1, prior)]).lifeEntry

/-- The states in which a doubt is detected (R536). -/
def doubtDetected (code : Nat) (d : DevState) : Bool :=
  match code, d with
  | 0x01, .load => true
  | 0x0C, .load => true
  | 0x07, .service => true
  | 0x01, _ => false
  | _, .settle => true
  | 0x08, .service | 0x09, .service | 0x0A, .service | 0x0B, .service | 0x0C, .service | 0x0D, .service => true
  | 0x08, .hold | 0x09, .hold | 0x0A, .hold | 0x0B, .hold | 0x0C, .hold | 0x0D, .hold => true
  | _, _ => false

/-- A doubt (R536): QUIET from every state in which it is detected. -/
def Block.doubt (b : Block) (code : Nat) : Block := if doubtDetected code b.dev then b.enterQuiet code else b

/-- Drop what a frozen function has waiting for transmission (R371). -/
def Block.dropWaiting (b : Block) (fn : Nat) : Block :=
  let mine (p : OutParcel) : Bool := match p.send with
    | some c => c.fn == fn
    | none => false
  Block.refreshP0 { b with
    mac := { b.mac with offers := b.mac.offers.filter fun o => !(o.type == 2 && o.parcels.any mine) }
    strata := { b.strata with
      sends := b.strata.sends.filter fun r => r.cmd.fn != fn || r.taken
      fetched := b.strata.fetched.filter fun c => c.fn != fn
      recvs := b.strata.recvs.filter fun r => r.cmd.fn != fn } }

/-- An isolation violation (R540): the master is frozen at its first one; an internal master's is also doubt 0x0C
(R539); a frozen function's waiting parcels are discarded (R371). -/
def Block.violation (b : Block) (m kind off : Nat) : Block :=
  if b.frozen m then b
  else
    let b := b.freeze m kind off
    let b := if m < 16 then b.dropWaiting m else b
    if 16 ≤ m ∧ m ≤ 23 then b.doubt 0x0C else b

/-- Entry to SETTLE (R538, R153): LOSS takes its starting value, the self-tests, the lock and the join begin anew. -/
def Block.enterSettle (b : Block) : Block :=
  let b := b.setDev .settle
  let b := { b with fault := { b.fault with selfOk := false }
                    brg := { b.brg with lockOk := false }
                    chain := { b.chain with joined := false, heard := false, ownLock := none, freeStart := false, lockedA := false,
                                            lockedB := false, followStart := none } }
  let b := b.setRole .none
  let b := (List.range 24).foldl (fun b n => b.setPort n { b.port n with closeWaits := false }) b
  -- class 5 restarts from its nominal value, LOSS_INIT
  let b := { b with sound := { b.sound with coefs := b.sound.coefs.filter fun p => p.1 / 2 ^ 26 != 5 } }
  let b := (List.range 24).foldl (fun b n =>
    b.set (Reg.LP_THERM_LOSS n) (b.get (Reg.LP_THERM_INIT_LOSS_INIT n))) b
  b.refreshPorts.refreshLoops.serialFollow

/-- Entry into HOLDOVER (R106): the bearing is kept, BRG_HOLD and the record are made. -/
def Block.enterHoldover (b : Block) : Block :=
  let b := b.setBrg .holdover
  let b := { b with brg := { b.brg with steer := 0 } }
  (b.setBearing Reg.BRG_HOLD_LO_BRG Reg.BRG_HOLD_HI_BRG b.brg.now).post 0x0301 1 0x40 [(4, b.get Reg.BRG_FREQ_FREQ)]

/-- A device that enters HOLD leaves the Chain with its bearing running (R106, R108, R489): FOLLOW passes to HOLDOVER; a
Chain holdover goes on as the device's own, frozen at the master's last frequency (R470). -/
def Block.leaveChain (b : Block) : Block :=
  let b := if b.chain.holdover && b.chain.masterFreq != 0 then b.set Reg.BRG_FREQ_FREQ b.chain.masterFreq else b
  let b := { b with chain := { b.chain with holdover := false, backSlew := false } }
  let b := if b.get Reg.BRG_STATUS_SRC = 2 then b.set Reg.BRG_STATUS_SRC 0 else b
  if b.brg.state = .follow then (b.set Reg.BRG_STATUS_RESEAT_PENDING 0).enterHoldover else b

/-- Entry to HOLD (R538, R544): the shadow set goes (R71), the bypasses close, drivers, lanes and loops go to their values of
HOLD, held candidates of Sounding are discarded (R233), HOLD_ENTER and a KIND 1 entry are made. -/
def Block.enterHold (b : Block) : Block :=
  let b := ((b.abortSwapAll 6).abortOpAll 6).discardShadow
  let b := b.stopTransmitting.dropReceptions.closeBypasses
  let b := b.leaveChain
  let unheld (p : Nat × Coef) : Nat × Coef := (p.1, { p.2 with held := none })
  let b := { b with sound := { b.sound with coefs := b.sound.coefs.map unheld } }
  let b := { (b.set Reg.SND_HELD_COUNT 0).setDev .hold with oscillator := false }
  let b := b.refreshPorts.refreshLoops
  (b.post 0x1005 1 0x49 []).lifeEntry

/-- Ticks of one second. -/
def secondTicks : Nat := 250000000

/-- Return from HOLD to SETTLE (R538, R544): PE_WAKE_N goes low if the link is in L2. -/
def Block.exitHold (b : Block) : Block :=
  let seconds := (b.ticks - b.fault.since) / secondTicks
  let b := ({ b with oscillator := true }).enterSettle
  let b := { b with host := { b.host with wakeLow := b.get Reg.HIF_LINK_POWER == 2 } }
  b.post 0x1006 1 0x49 [(4, seconds)]

/-- A full reset (R545, R546): everything restarts from its reset value but the VBAT domain, OTP and the flash with its
journal; what the block has already sent stays sent. SOURCE gets the bit of the source; further sources asserted during RESET add theirs. -/
def Block.fullReset (b : Block) (source : Nat) : Block :=
  let sources := (if b.dev = .reset then b.get Reg.GLB_RESET_CAUSE_SOURCE else 0) ||| 2 ^ source
  let fresh : Block :=
    { Block.reset with
      ticks := b.ticks
      drawn := b.drawn
      journal := b.journal
      fault := { Block.reset.fault with boot := b.fault.boot, recent := b.fault.recent, minuteAt := b.ticks }
      host := { HostSt.reset with
        flash := b.host.flash, messages := b.host.messages, dmaWrites := b.host.dmaWrites
        consoleOut := b.host.consoleOut }
      chain := { ChainSt.reset with cells := b.chain.cells }
      cx := { CipherSt.reset with tamperUnpowered := b.cx.tamperUnpowered } }
  let fresh := (fresh.wr Reg.CX_TAMPER_CFG (b.rd Reg.CX_TAMPER_CFG)).wr Reg.GLB_RESET_CAUSE (b.rd Reg.GLB_RESET_CAUSE)
  (fresh.set Reg.CX_TAMPER_STAT_LATCH (b.get Reg.CX_TAMPER_STAT_LATCH)).set Reg.GLB_RESET_CAUSE_SOURCE sources

end Sys2Proof.Machine
end

