-- ==== Sys2Proof/Machine/Sense.lean ====
section
/-!
DEFINITION. Site Sense (14_site_sense.md): conversions, offsets and ranging, faults of a channel, result records, the
mains notches, the supervision of the loops, calibration.
-/

namespace Sys2Proof.Machine

/-! ### Offsets (R497, R509) -/

/-- Units of 2^-23. -/
def fine (v : Int) : Rat := (v : Rat) / (2 ^ 23 : Nat)

/-- A value in units of 2^-23, rounded and held within 24 bits. -/
def fineUnits (x : Rat) : Nat := unsignedOf 24 (saturateSigned 24 (roundHalfUp (x * (2 ^ 23 : Nat))))

/-- The offset O_c of a channel at a gain code. -/
def SenseCh.offset (c : SenseCh) (code : Nat) : Rat := Store.get (fun _ => 0) c.offsets code

/-- Show the gain code of a channel's next conversion and the offset held for it. -/
def Block.showGain (b : Block) (k code : Nat) : Block :=
  b.setAll [(Reg.SS_CH_STAT_GAIN k, code), (Reg.SS_CH_OFS_OFS k, fineUnits ((b.senseCh k).offset code))]

/-- A channel begins anew with measured offsets, one per gain code (R501, R509). -/
def Block.startChannel (b : Block) (k : Nat) (offsets : List Int) : Block :=
  let st : SenseCh := { SenseCh.reset with
    offsets := Store.putAll (fun _ => 0) [] 0 (offsets.map fine), hold := (b.senseCh k).hold, latest := (b.senseCh k).latest }
  (b.setSenseCh k st).showGain k (b.get (Reg.SS_CH_EXC_GAIN k))

/-- Offsets the device measures without a command (R510): free values within the 1 % of R509. -/
def Block.measureOffsets (b : Block) (k : Nat) : Block :=
  let b1 := (List.range 8).foldl (fun (p : Block × List Int) _ =>
    (p.1.draw, p.2 ++ [(p.1.free % 167773 : Nat) - (83886 : Int)])) (b, [])
  b1.1.startChannel k b1.2

/-- The pins, converter and excitation of a channel, which decide whether a swap keeps its offsets (R510). -/
def Block.sensePins (b : Block) (k : Nat) : List Nat :=
  [b.get (Reg.SS_CH_MUX_CONV k), b.get (Reg.SS_CH_MUX_POS k), b.get (Reg.SS_CH_MUX_NEG k), b.get (Reg.SS_CH_MUX_REF k),
   b.get (Reg.SS_CH_MUX_REFP k), b.get (Reg.SS_CH_MUX_REFN k), b.get (Reg.SS_CH_EXC_EXC0_EN k),
   b.get (Reg.SS_CH_EXC_EXC0_PIN k), b.get (Reg.SS_CH_EXC_EXC1_EN k), b.get (Reg.SS_CH_EXC_EXC1_PIN k),
   b.get (Reg.SS_CH_MUX_BIAS_EN k), b.get (Reg.SS_CH_MUX_BIAS k)]

/-- The registers that hold the settings of a channel. -/
def senseSettings (k : Nat) : List Nat :=
  [Reg.SS_CH_MUX k, Reg.SS_CH_EXC k, Reg.SS_CH_LIN k] ++
    (List.range 6).flatMap fun i => (List.range 4).map fun j => Reg.SS_CH_C k i j

/-- Whether conversions of a channel run. -/
def Block.senseRuns (b : Block) (k : Nat) : Bool :=
  b.dev == .service && b.on Reg.SS_CTRL_ENABLE && b.on (Reg.SS_CH_MUX_ENABLE k) && !b.ports.vdda5Low &&
    b.bit Reg.SS_STAT_CONV_OK (b.get (Reg.SS_CH_MUX_CONV k))

/-- Whether a conversion of a channel is in progress (R495): its converter serves its channels in ascending order (log entry
145). -/
def Block.converting (b : Block) (k : Nat) : Bool :=
  let mine := (List.range 8).filter fun j =>
    b.on (Reg.SS_CH_MUX_ENABLE j) && b.get (Reg.SS_CH_MUX_CONV j) == b.get (Reg.SS_CH_MUX_CONV k)
  let next := match mine.find? fun j => (b.senseCh j).latest with
    | some l => ((mine.filter (l < ·)).head?).getD (mine.headD k)
    | none => mine.headD k
  b.senseRuns k && next == k

/-- A channel goes over to new settings (R510): its offsets stand where pins and converter are the same, otherwise they are
measured again before its first conversion. -/
def Block.renewChannel (b : Block) (k : Nat) (same : Bool) : Block :=
  if same then
    (b.setSenseCh k { b.senseCh k with prev := none, small := 0, lost := false, old := none }).showGain k
      (b.get (Reg.SS_CH_EXC_GAIN k))
  else b.measureOffsets k

/-- The channels after a swap of SENSE (R77, R510): a conversion in progress goes on under the settings it began with, every
other channel goes over to its new ones; the loops hold until the first new conversion completes. `before` is the block under
the old settings. -/
def Block.swapSense (b before : Block) : Block :=
  (List.range 8).foldl (fun b k =>
    let b := b.setSenseCh k { b.senseCh k with hold := true }
    if before.converting k then
      b.setSenseCh k { b.senseCh k with old := some ((senseSettings k).map before.rd) }
    else b.renewChannel k (b.sensePins k == before.sensePins k)) b

/-! ### Conversions (R496 to R504) -/

/-- Raise the Site Sense vector (R499). -/
def Block.senseVector (b : Block) : Block :=
  if b.on Reg.SS_CTRL_NOTIFY_EN then b.raise 0 (b.get Reg.SS_CTRL_VECTOR) else b

/-- How a conversion counts (R499, R501, R502). -/
inductive ConvFlag where
  | good | isOpen | rangeClipped | over | tBad
deriving DecidableEq, Repr

/-- The flag of a conversion: loss of compliance first, then the range, then the input t. -/
def Block.convFlag (b : Block) (k : Nat) (u : Rat) (overload : Bool) : ConvFlag :=
  let t := b.get (Reg.SS_CH_LIN_TSRC k)
  let size := if u < 0 then -u else u
  if (b.senseCh k).lost then .isOpen
  else if overload || decide (19 / 20 ≤ size) then
    (if !b.on (Reg.SS_CH_EXC_FIXED k) && 0 < b.get (Reg.SS_CH_STAT_GAIN k) then .rangeClipped else .over)
  else if t < 8 && (b.senseCh t).fault.isSome then .tBad
  else .good

/-- The input t of a conversion as a single-precision word (R502). -/
def Block.senseT (b : Block) (k : Nat) (dieTemp : Byte) : Word :=
  let t := b.get (Reg.SS_CH_LIN_TSRC k)
  if t < 8 then b.rd (Reg.SS_CH_Y t) else if t = 8 then singleOf (dieTemp.toInt : Rat) else 0

/-- The value y of R502 before it is rounded to single precision, from exact sums (log entry 34). -/
def Block.polynomial (b : Block) (k : Nat) (x t : Rat) : Rat :=
  let orders := (List.range (b.get (Reg.SS_CH_LIN_ORD_X k) + 1)).flatMap fun i =>
    (List.range (b.get (Reg.SS_CH_LIN_ORD_T k) + 1)).map fun j => (i, j)
  (orders.map fun p => (singleValue (b.rd (Reg.SS_CH_C k p.1 p.2))).getD 0 * x ^ p.1 * t ^ p.2).sum

/-- The result record of a conversion (R503). -/
def Block.senseRecord (b : Block) (k code : Nat) (flag : ConvFlag) (negative : Bool) (t : Word) : List Byte :=
  let bit (on : Bool) (i : Nat) : Nat := if on then 2 ^ i else 0
  let flags := bit (flag == .isOpen) 0 + bit (flag == .rangeClipped) 1 + bit (flag == .over) 2 + bit (flag == .tBad) 3 +
    bit (flag != .good) 4 + bit negative 5
  toLe 4 (b.dtm.a.t / secUnits) ++ toLe 4 (b.dtm.a.t % secUnits / 2 ^ 32) ++ toLe 4 (b.rd (Reg.SS_CH_Y k)).toNat ++
    toLe 3 (b.get (Reg.SS_CH_X_X k)) ++ toLe 1 (k + 8 * code) ++ toLe 1 flags ++ toLe 2 (b.get (Reg.SS_CH_STAT_SEQ k)) ++
    [0] ++ toLe 4 t.toNat

/-- Write the result record to the channel's queue, a STREAM queue that master 22 produces (R503, R350). -/
def Block.senseWrite (b : Block) (k : Nat) (bytes : List Byte) : Block :=
  let q := b.get (Reg.SS_CH_LIN_QUEUE k)
  if b.on (Reg.SS_CH_LIN_QEN k) && b.qKind q == 4 && b.get (Reg.QD_CFG_PROD q) == 22 then
    b.produce q { bytes := bytes, prio := 0, prov := false, orig := 0, pseq := 0, producer := 22 }
  else b

/-- A good conversion: x and y, the offset after a pair at one gain code, the range (R496, R497, R501, R502). -/
def Block.goodConversion (b : Block) (k code : Nat) (u : Rat) (t : Word) : Block :=
  let st := b.senseCh k
  let sign : Rat := if st.negative then -1 else 1
  let off := st.offset code
  let x := sign * (u - off) / (2 ^ code : Nat)
  let y := singleOf (b.polynomial k x ((singleValue t).getD 0))
  let paired := match st.prev with
    | some (c, v, neg) => if c = code ∧ neg ≠ st.negative then some ((u + v) / 2) else none
    | none => none
  let offsets := match paired with
    | some o => Store.put (fun _ => 0) st.offsets code (off + (o - off) / 8)
    | none => st.offsets
  let small := if decide ((if u < 0 then -u else u) < 2 / 5) then st.small + 1 else 0
  let raised := !b.on (Reg.SS_CH_EXC_FIXED k) && 2 ≤ small
  let next := if raised then min (code + 1) (b.get (Reg.SS_CH_EXC_GAIN_MAX k)) else code
  let b := b.setSenseCh k { st with offsets := offsets, prev := some (code, u, st.negative),
                                    small := if raised then 0 else small }
  ((b.set (Reg.SS_CH_X_X k) (fineUnits x)).wr (Reg.SS_CH_Y k) y).setAll
    [(Reg.SS_CH_STAT_GOOD_ONCE k, 1), (Reg.SS_CH_STAT_GAIN k, next)]

/-- A good conversion ends the run of bad ones, and the second ends a fault (R504). -/
def Block.countGood (b : Block) (k : Nat) : Block :=
  let st := b.senseCh k
  let b := b.set (Reg.SS_CH_STAT_BAD k) 0
  if st.fault.isSome ∧ 1 ≤ st.goodRun then
    (b.setSenseCh k { st with fault := none, goodRun := 0, badTotal := 0 }).post 0x0E03 0 0x47 [(1, k), (2, st.badTotal)]
  else b.setSenseCh k { st with goodRun := st.goodRun + 1, badTotal := if st.fault.isSome then st.badTotal else 0 }

/-- A bad conversion; the second in a row begins a fault (R504). Cause 0 OPEN, 1 OVER, 2 T_BAD. -/
def Block.countBad (b : Block) (k cause : Nat) : Block :=
  let st := b.senseCh k
  let n := min 2 (b.get (Reg.SS_CH_STAT_BAD k) + 1)
  let b := b.set (Reg.SS_CH_STAT_BAD k) n
  let st := { st with goodRun := 0, badTotal := st.badTotal + 1, prev := none, small := 0 }
  if n = 2 ∧ st.fault.isNone then
    ((b.setSenseCh k { st with fault := some cause }).senseVector).post 0x0E02 2 0x47 [(1, k), (1, cause)]
  else b.setSenseCh k st

/-- What a conversion's flag does to the channel, at gain code `code` (R499, R501, R504). -/
def Block.applyFlag (b : Block) (k code : Nat) (flag : ConvFlag) (u : Rat) (t : Word) : Block :=
  match flag with
  | .good => (b.goodConversion k code u t).countGood k
  | .isOpen => (b.set (Reg.SS_CH_STAT_OPEN k) 1).countBad k 0
  | .rangeClipped =>
    (b.setSenseCh k { b.senseCh k with prev := none, small := 0 }).setAll
      [(Reg.SS_CH_STAT_RANGE_CLIPPED k, 1), (Reg.SS_CH_STAT_GAIN k, code - 3)]
  | .over => (b.set (Reg.SS_CH_STAT_OVER k) 1).countBad k 1
  | .tBad => (b.set (Reg.SS_CH_STAT_T_BAD k) 1).countBad k 2

/-- A conversion ends (R496 to R505): flags, counts, the record, the loops; then the next one starts, with the opposite
polarity. `hold`: the loops hold on, the conversion having begun before a swap (R77). -/
def Block.endConversion (b : Block) (c : Conversion) (hold : Bool) : Block :=
  let k := c.ch.val
  if !b.senseRuns k then b
  else
    let u := fine c.u.toInt
    let code := b.get (Reg.SS_CH_STAT_GAIN k)
    let flag := b.convFlag k u c.overload
    let t := b.senseT k c.dieTemp
    let negative := (b.senseCh k).negative
    let b := b.applyFlag k code flag u t
    let b := (b.inc (Reg.SS_CH_STAT_SEQ k)).inc (Reg.SS_CH_COUNT_COUNT k)
    let b := b.senseWrite k (b.senseRecord k code flag negative t)
    let st := b.senseCh k
    let b := if st.lost then b else b.set (Reg.SS_CH_STAT_OPEN_NOW k) 0
    let conv := b.get (Reg.SS_CH_MUX_CONV k)
    let b := (List.range 8).foldl (fun b j =>
      if b.get (Reg.SS_CH_MUX_CONV j) = conv then b.setSenseCh j { b.senseCh j with latest := j == k } else b) b
    let b := b.setSenseCh k { st with negative := !negative, lost := false, hold := hold, latest := true }
    (b.showGain k (b.get (Reg.SS_CH_STAT_GAIN k))).refreshLoops

/-- The conversion of a channel that completes: one that a swap of SENSE found in progress ends under the settings it began
with, and the channel then goes over to its new ones (R77). -/
def Block.conversion (b : Block) (c : Conversion) : Block :=
  let k := c.ch.val
  let put (b : Block) (ws : List Word) : Block := ((senseSettings k).zip ws).foldl (fun b p => b.wr p.1 p.2) b
  match (b.senseCh k).old with
  | none => b.endConversion c false
  | some ws =>
    let new := (senseSettings k).map b.rd
    let pins := b.sensePins k
    let b := put b ws
    let same := b.sensePins k == pins
    (((put (b.endConversion c true) new).setSenseCh k { (b.endConversion c true).senseCh k with old := none }).renewChannel k
      same).refreshLoops

/-- CONVERSION_COMPLETE (R502). -/
def execConversionComplete (c : Conversion) (s : State) : Host.Outcome State Fault Refusal :=
  answer "CONVERSION_COMPLETE" true s fun b => b.conversion c

/-- An excitation source is out of compliance for 10 µs (R499): the present conversion will be flagged OPEN. -/
def Block.complianceLoss (b : Block) (k source : Nat) : Block :=
  let driven := if source = 0 then b.on (Reg.SS_CH_EXC_EXC0_EN k) else b.on (Reg.SS_CH_EXC_EXC1_EN k)
  let pin := if source = 0 then b.get (Reg.SS_CH_EXC_EXC0_PIN k) else b.get (Reg.SS_CH_EXC_EXC1_PIN k)
  if !b.senseRuns k || !driven then b
  else
    let b := b.setSenseCh k { b.senseCh k with lost := true }
    if b.on (Reg.SS_CH_STAT_OPEN_NOW k) then b
    else ((b.set (Reg.SS_CH_STAT_OPEN_NOW k) 1).senseVector).post 0x0E01 2 0x47 [(1, k), (1, source), (1, pin)]

/-- COMPLIANCE_LOSS (R499). -/
def execComplianceLoss (ch : Fin 8) (source : Fin 2) (s : State) : Host.Outcome State Fault Refusal :=
  answer "COMPLIANCE_LOSS" true s fun b => b.complianceLoss ch.val source.val

/-! ### Notches and loops (R500, R508) -/

/-- The source of F (R500). -/
def notchSource (st : BrgState) : Nat :=
  match st with
  | .locked | .slew | .follow => 0
  | .holdover | .relock => 1
  | .unlocked | .acquire => 2

/-- F is retuned (R500). -/
def Block.notchRetune (b : Block) : Block :=
  let src := notchSource b.brg.state
  let f := if src = 2 then (if b.on Reg.BRG_CTRL_NOM then 60 * 65536 else 50 * 65536) else b.get Reg.BRG_FREQ_FREQ
  match b.dev with
  | .settle | .service => b.setAll [(Reg.SS_STAT_F_SRC, src), (Reg.SS_NOTCH_F_FREQ, f)]
  | _ => b

/-- NOTCH_RETUNE (R500). -/
def execNotchRetune (s : State) : Host.Outcome State Fault Refusal :=
  answer "NOTCH_RETUNE" true s fun b => b.notchRetune

/-- Whether a measured current differs from a loop's demand by more than 200 µA (R508). -/
def Block.loopDiffers (b : Block) (n measured : Nat) : Bool :=
  let d := b.get (Reg.SS_LOOP_STAT_DEMAND n)
  decide (d + 200 < measured) || decide (measured + 200 < d)

/-- The measured current has differed for 100 ms (R508). -/
def Block.loopOpen (b : Block) (n measured : Nat) : Block :=
  if !b.on (Reg.SS_LOOP_CTRL_ENABLE n) then b
  else
    let b := b.set (Reg.SS_LOOP_STAT_MEAS n) measured
    if b.on (Reg.SS_LOOP_FLAGS_LOOP_FAULT n) || !b.loopDiffers n measured then b
    else
      let b := b.setAll [(Reg.SS_LOOP_FLAGS_LOOP_FAULT n, 1), (Reg.SS_LOOP_FLAGS_LOOP_FAULT_SEEN n, 1)]
      b.senseVector.post 0x0E04 3 0x47 [(1, n), (2, b.get (Reg.SS_LOOP_STAT_DEMAND n)), (2, measured)]

/-- LOOP_OPEN (R508). -/
def execLoopOpen (n : Fin 2) (measured : BitVec 16) (s : State) : Host.Outcome State Fault Refusal :=
  answer "LOOP_OPEN" true s fun b => b.loopOpen n.val measured.toNat

/-- The two have agreed for 100 ms (R508). -/
def Block.loopAgrees (b : Block) (n measured : Nat) : Block :=
  if !b.on (Reg.SS_LOOP_CTRL_ENABLE n) then b
  else
    let b := b.set (Reg.SS_LOOP_STAT_MEAS n) measured
    if b.loopDiffers n measured then b else b.set (Reg.SS_LOOP_FLAGS_LOOP_FAULT n) 0

/-- LOOP_FAULT_CLEAR (R508). -/
def execLoopFaultClear (n : Fin 2) (measured : BitVec 16) (s : State) : Host.Outcome State Fault Refusal :=
  answer "LOOP_FAULT_CLEAR" true s fun b => b.loopAgrees n.val measured.toNat

/-! ### Calibration (R509) -/

/-- The calibration of one converter: in service, or retired with the failing test. An offset beyond 1 % of full scale
fails it whatever the test reported. -/
def Block.calibrateConverter (b : Block) (c : Nat) (failing : Option Nat) (offsets : List (List Int)) : Block :=
  let mine := (List.range 8).filter fun k => b.on (Reg.SS_CH_MUX_ENABLE k) && b.get (Reg.SS_CH_MUX_CONV k) == c
  let wide := mine.any fun k => (offsets.getD k []).any fun o => decide (83886 < o) || decide (o < -83886)
  let b := mine.foldl (fun b k => b.startChannel k (offsets.getD k [])) b
  match (if wide then some 0 else failing) with
  | none => b.setBit Reg.SS_STAT_CONV_OK c true
  | some test => (b.setBit Reg.SS_STAT_CONV_OK c false).post 0x0E05 3 0x47 [(1, c), (1, test)]

/-- The calibration of both converters at SETTLE. -/
def Block.calibrateSense (b : Block) (tests : List (Option (Fin 3))) (offsets : List (List Int)) : Block :=
  let failing (c : Nat) : Option Nat := (tests.getD c none).map (·.val)
  let b := (List.range 8).foldl (fun b k => b.setAll
    [(Reg.SS_CH_STAT_GOOD_ONCE k, 0), (Reg.SS_CH_STAT_BAD k, 0), (Reg.SS_CH_STAT_OPEN_NOW k, 0)]) b
  ((b.calibrateConverter 0 (failing 0) offsets).calibrateConverter 1 (failing 1) offsets).notchRetune

end Sys2Proof.Machine
end

