-- ==== Sys2Proof/Machine/Crypto.lean ====
section
/-!
DEFINITION. The published algorithms the spec names, as pure functions on byte strings: AES (FIPS 197), CMAC and the
counter-mode KDF of SP 800-108 (R383), GCM (R395), CCM* (R401), the AES key unwrap of SP 800-38F (R400), SHA-256 and
ECDSA P-256 (R57). Byte order is that of the published algorithms (R9). The algorithms themselves are PRESUMED from
their publications (log entry 31).
-/

namespace Sys2Proof.Machine

/-! ### AES -/

/-- The S-box, 16 bytes a row, byte 0 of a row in its low bits. -/
def sboxRows : List Nat :=
  [
   0x76ABD7FE2B670130C56F6BF27B777C63, 0xC072A49CAFA2D4ADF04759FA7DC982CA,
   0x1531D871F1E5A534CCF73F362693FDB7, 0x75B227EBE28012079A059618C323C704,
   0x842FE329B3D63B52A05A6E1B1A2C8309, 0xCF584C4A39BECB6A5BB1FC20ED00D153,
   0xA89F3C507F02F94585334D43FBAAEFD0, 0xD2F3FF1021DAB6BCF5389D928F40A351,
   0x73195D643D7EA7C41744975FEC130CCD, 0xDB0B5EDE14B8EE4688902A22DC4F8160,
   0x79E4959162ACD3C25C2406490A3A32E0, 0x08AE7A65EAF4566CA94ED58D6D37C8E7,
   0x8A8BBD4B1F74DDE8C6B4A61C2E2578BA, 0x9E1DC186B95735610EF6034866B53E70,
   0xDF2855CEE9871E9B948ED9691198F8E1, 0x16BB54B00F2D99416842E6BF0D89A18C]

/-- The inverse S-box, laid out alike. -/
def invSboxRows : List Nat :=
  [
   0xFBD7F3819EA340BF38A53630D56A0952, 0xCBE9DEC444438E3487FF2F9B8239E37C,
   0x4EC3FA420B954CEE3D23C2A632947B54, 0x25D18B6D49A25B76B224D92866A12E08,
   0x92B6655DCC5CA4D41698688664F6F872, 0x849D8DA75746155EDAB9EDFD5048706C,
   0x0645B3B80558E4F70AD3BC8C00ABD890, 0x6B8A130103BDAFC1020F3FCA8F1E2CD0,
   0x73E6B4F0CECFF297EADC674F4111913A, 0x6EDF751CE837F9E28535ADE72274AC96,
   0x1BBE18AA0E62B76F89C5291D711AF147, 0xF45ACD78FEC0DB9A2079D2C64B3E56FC,
   0x5FEC8027591012B131C7078833A8DD1F, 0xEF9CC9939F7AE52D0D4AB519A97F5160,
   0x619953833CBBEBC8B0F52AAE4D3BE0A0, 0x7D0C2155631469E126D677BA7E042B17]

/-- A byte through a 256-byte table. -/
def lookup (rows : List Nat) (b : Byte) : Byte := BitVec.ofNat 8 (rows.getD (b.toNat / 16) 0 / 256 ^ (b.toNat % 16))

/-- Byte-wise exclusive or. -/
def xorBytes (a b : List Byte) : List Byte := List.zipWith (· ^^^ ·) a b

/-- Multiplication by x in the field of AES. -/
def xtime (b : Byte) : Byte := if b.getLsbD 7 then (b <<< 1) ^^^ 0x1B else b <<< 1

/-- Multiplication in the field of AES. -/
def gmul (a b : Byte) : Byte :=
  ((List.range 8).foldl (fun (p : Byte × Byte) i => (xtime p.1, if b.getLsbD i then p.2 ^^^ p.1 else p.2)) (a, 0)).2

/-- The words of the key schedule: `n` words from the key's own. -/
def keyWords (key : List Byte) (n : Nat) : List (List Byte) :=
  let nk := key.length / 4
  (List.range n).foldl (fun ws i =>
    if i < nk then ws ++ [slice key (4 * i) 4]
    else
      let t := ws.getD (i - 1) []
      let t := if i % nk = 0 then
          let rot := (t.drop 1 ++ t.take 1).map (lookup sboxRows)
          xorBytes rot [(List.range (i / nk - 1)).foldl (fun r _ => xtime r) 1, 0, 0, 0]
        else if 6 < nk ∧ i % nk = 4 then t.map (lookup sboxRows) else t
      ws ++ [xorBytes (ws.getD (i - nk) []) t]) []

/-- The round keys of AES-128 or AES-256. -/
def roundKeys (key : List Byte) : List (List Byte) :=
  let rounds := key.length / 4 + 6
  let ws := keyWords key (4 * (rounds + 1))
  (List.range (rounds + 1)).map fun i => ((ws.drop (4 * i)).take 4).flatten

/-- Rows shifted left by their number (`inv`: right). -/
def shiftRows (inv : Bool) (s : List Byte) : List Byte :=
  (List.range 16).map fun i =>
    let r := i % 4
    s.getD (r + 4 * ((i / 4 + (if inv then 4 - r else r)) % 4)) 0

/-- Columns multiplied by the circulant of the four coefficients. -/
def mixColumns (k : List Byte) (s : List Byte) : List Byte :=
  (List.range 16).map fun i =>
    (List.range 4).foldl (fun acc j => acc ^^^ gmul (k.getD ((j + 4 - i % 4) % 4) 0) (s.getD (i / 4 * 4 + j) 0)) 0

/-- One block through AES with given round keys. -/
def aesRounds : List (List Byte) → List Byte → List Byte
  | [], s => s
  | [k], s => xorBytes (shiftRows false (s.map (lookup sboxRows))) k
  | k :: rest, s => aesRounds rest (xorBytes (mixColumns [2, 3, 1, 1] (shiftRows false (s.map (lookup sboxRows)))) k)

/-- AES encryption of one block. -/
def aesEncrypt (key block : List Byte) : List Byte :=
  match roundKeys key with
  | [] => block
  | k :: rest => aesRounds rest (xorBytes block k)

/-- One block back through AES: round keys in reverse, the last of them first. -/
def aesInvRounds : List (List Byte) → List Byte → List Byte
  | [], s => s
  | [k], s => xorBytes ((shiftRows true s).map (lookup invSboxRows)) k
  | k :: rest, s =>
    aesInvRounds rest (mixColumns [14, 11, 13, 9] (xorBytes ((shiftRows true s).map (lookup invSboxRows)) k))

/-- AES decryption of one block. -/
def aesDecrypt (key block : List Byte) : List Byte :=
  match (roundKeys key).reverse with
  | [] => block
  | k :: rest => aesInvRounds rest (xorBytes block k)

/-! ### CMAC and key derivation (R383) -/

/-- Doubling in GF(2^128), most significant bit first. -/
def dbl (b : List Byte) : List Byte :=
  let v := beNat b
  toBe 16 (v * 2 % 2 ^ 128 ^^^ (if v / 2 ^ 127 = 1 then 0x87 else 0))

/-- CBC-MAC of whole blocks. -/
def cbcMac (key iv : List Byte) (blocks : List (List Byte)) : List Byte :=
  blocks.foldl (fun acc x => aesEncrypt key (xorBytes acc x)) iv

/-- A block of zeros. -/
def zeroBlock : List Byte := List.replicate 16 0

/-- AES-CMAC. -/
def cmac (key msg : List Byte) : List Byte :=
  let k1 := dbl (aesEncrypt key zeroBlock)
  let whole := msg.length % 16 = 0 ∧ msg ≠ []
  let n := if msg = [] then 0 else (msg.length - 1) / 16 * 16
  let last := msg.drop n
  let final := if whole then xorBytes last k1 else xorBytes (slice (last ++ [0x80]) 0 16) (dbl k1)
  cbcMac key zeroBlock (chunks 16 (msg.take n) ++ [final])

/-- The KDF of R383 under an input key and a 32-byte label. -/
def kdf (key label : List Byte) : List Byte :=
  let block (i : Byte) := cmac key ([i] ++ label ++ [0, 1, 0])
  block 1 ++ block 2

/-- The context label of R384. -/
def keyLabel (purpose gen : Nat) (long : BitVec 64) (page : Nat) (dir : Bool) : List Byte :=
  slice (toLe 1 purpose ++ toLe 3 gen ++ toLe 8 long.toNat ++ toLe 1 page ++ [if dir then 1 else 0]) 0 32

/-! ### GCM and CCM* -/

/-- Multiplication in GCM's field. -/
def gcmMul (x y : Nat) : Nat :=
  ((List.range 128).foldl (fun (p : Nat × Nat) i =>
    let z := if x.testBit (127 - i) then p.1 ^^^ p.2 else p.1
    (z, if p.2 % 2 = 1 then p.2 / 2 ^^^ 0xE1000000000000000000000000000000 else p.2 / 2)) (0, y)).1

/-- A byte string padded with zeros to whole blocks. -/
def padBlocks (b : List Byte) : List (List Byte) := (chunks 16 b).map fun c => slice c 0 16

/-- GHASH. -/
def ghash (h : Nat) (blocks : List (List Byte)) : Nat := blocks.foldl (fun acc x => gcmMul (acc ^^^ beNat x) h) 0

/-- Counter mode: the text under successive counter blocks, whose low `n` bytes count. -/
def ctrMode (key ctr : List Byte) (n : Nat) (text : List Byte) : List Byte :=
  let head := ctr.take (16 - n)
  let from0 := beNat (ctr.drop (16 - n))
  let cs := chunks 16 text
  ((List.range cs.length).map fun i =>
    xorBytes (cs.getD i []) (aesEncrypt key (head ++ toBe n (from0 + i)))).flatten

/-- GCM with a 96-bit IV: the text under counter mode. -/
def gcmText (key iv text : List Byte) : List Byte := ctrMode key (iv ++ [0, 0, 0, 2]) 4 text

/-- The GCM tag over a ciphertext. -/
def gcmTag (key iv aad ct : List Byte) : List Byte :=
  let h := beNat (aesEncrypt key zeroBlock)
  let lens := toBe 8 (8 * aad.length) ++ toBe 8 (8 * ct.length)
  xorBytes (toBe 16 (ghash h (padBlocks aad ++ padBlocks ct ++ [lens]))) (aesEncrypt key (iv ++ [0, 0, 0, 1]))

/-- CCM* with a 13-byte nonce: the text under counter mode. -/
def ccmText (key nonce text : List Byte) : List Byte := ctrMode key ([1] ++ nonce ++ [0, 1]) 2 text

/-- The CCM* MIC of 4 bytes over a plaintext. -/
def ccmMic (key nonce aad text : List Byte) : List Byte :=
  let flags : Byte := if aad = [] then 0x09 else 0x49
  let b0 := [flags] ++ nonce ++ toBe 2 text.length
  let header := if aad = [] then [] else padBlocks (toBe 2 aad.length ++ aad)
  let mac := cbcMac key zeroBlock ([b0] ++ header ++ padBlocks text)
  (xorBytes mac (aesEncrypt key ([1] ++ nonce ++ [0, 0]))).take 4

/-! ### Key unwrap (R400) -/

/-- KW unwrap of a 24-byte wrapped key: the 16-byte key, if the integrity check passes. -/
def unwrapKey (kek wrapped : List Byte) : Option (List Byte) :=
  let out := (List.range 12).foldl (fun (p : List Byte × List Byte × List Byte) i =>
    let t := 12 - i
    let second := t % 2 = 0
    let b := aesDecrypt kek (toBe 8 (beNat p.1 ^^^ t) ++ (if second then p.2.2 else p.2.1))
    if second then (b.take 8, p.2.1, b.drop 8) else (b.take 8, b.drop 8, p.2.2))
    (slice wrapped 0 8, slice wrapped 8 8, slice wrapped 16 8)
  if out.1 = List.replicate 8 0xA6 then some (out.2.1 ++ out.2.2) else none

/-! ### SHA-256 -/

/-- The first 64 primes. -/
def primes64 : List Nat :=
  [2, 3, 5, 7, 11, 13, 17, 19, 23, 29, 31, 37, 41, 43, 47, 53, 59, 61, 67, 71, 73, 79, 83, 89, 97, 101, 103, 107, 109,
   113, 127, 131] ++
  [137, 139, 149, 151, 157, 163, 167, 173, 179, 181, 191, 193, 197, 199, 211, 223, 227, 229, 233, 239, 241, 251, 257,
   263, 269, 271, 277, 281, 283, 293, 307, 311]

/-- The largest number below 2^bits whose n-th power does not exceed v. -/
def rootOf (bits n v : Nat) : Nat := leastMonotone bits (fun r => v < (r + 1) ^ n)

/-- The round constants: 32 bits of the fractions of cube roots. -/
def shaK : List Nat := primes64.map fun p => rootOf 36 3 (p * 2 ^ 96) % 2 ^ 32

/-- The initial state: 32 bits of the fractions of square roots. -/
def shaInit : List Nat := (primes64.take 8).map fun p => rootOf 38 2 (p * 2 ^ 64) % 2 ^ 32

/-- Rotation right in 32 bits. -/
def rotr (n x : Nat) : Nat := x / 2 ^ n + x % 2 ^ n * 2 ^ (32 - n)

/-- The 64 message words of a block. -/
def shaSchedule (block : List Byte) : List Nat :=
  (List.range 48).foldl (fun ws i =>
    let w15 := ws.getD (i + 1) 0
    let w2 := ws.getD (i + 14) 0
    let s0 := rotr 7 w15 ^^^ rotr 18 w15 ^^^ w15 / 8
    let s1 := rotr 17 w2 ^^^ rotr 19 w2 ^^^ w2 / 1024
    ws ++ [(ws.getD i 0 + s0 + ws.getD (i + 9) 0 + s1) % 2 ^ 32]) ((chunks 4 block).map beNat)

/-- One round. -/
def shaRound (st : List Nat) (kw : Nat) : List Nat :=
  match st with
  | [a, b, c, d, e, f, g, h] =>
    let s1 := rotr 6 e ^^^ rotr 11 e ^^^ rotr 25 e
    let ch := (e &&& f) ^^^ ((2 ^ 32 - 1 - e) &&& g)
    let t1 := h + s1 + ch + kw
    let s0 := rotr 2 a ^^^ rotr 13 a ^^^ rotr 22 a
    let maj := (a &&& b) ^^^ (a &&& c) ^^^ (b &&& c)
    [(t1 + s0 + maj) % 2 ^ 32, a, b, c, (d + t1) % 2 ^ 32, e, f, g]
  | st => st

/-- SHA-256 of a byte string. -/
def sha256 (msg : List Byte) : List Byte :=
  let zeros := (64 - (msg.length + 9) % 64) % 64
  let padded := msg ++ [0x80] ++ List.replicate zeros 0 ++ toBe 8 (8 * msg.length)
  let ks := shaK
  let st := (chunks 64 padded).foldl (fun st block =>
    let out := (List.zipWith (· + ·) ks (shaSchedule block)).foldl shaRound st
    List.zipWith (fun x y => (x + y) % 2 ^ 32) st out) shaInit
  st.flatMap (toBe 4)

/-! ### ECDSA P-256 (R57) -/

/-- The field prime of P-256. -/
def p256p : Nat := 2 ^ 256 - 2 ^ 224 + 2 ^ 192 + 2 ^ 96 - 1

/-- The group order of P-256. -/
def p256n : Nat := 0xFFFFFFFF00000000FFFFFFFFFFFFFFFFBCE6FAADA7179E84F3B9CAC2FC632551

/-- The constant b of P-256. -/
def p256b : Nat := 0x5AC635D8AA3A93E7B3EBBD55769886BC651D06B0CC53B0F63BCE3C3E27D2604B

/-- The generator of P-256. -/
def p256g : Nat × Nat :=
  (0x6B17D1F2E12C4247F8BCE6E563A440F277037D812DEB33A0F4A13945D898C296,
   0x4FE342E2FE1A7F9B8EE7EB4A7C0F9E162BCE33576B315ECECBB6406837BF51F5)

/-- Modular power, 256-bit exponents. -/
def powMod (b e m : Nat) : Nat :=
  ((List.range 256).foldl (fun (p : Nat × Nat) i =>
    (p.1 * p.1 % m, if e.testBit i then p.2 * p.1 % m else p.2)) (b % m, 1)).2

/-- The inverse modulo a prime. -/
def invMod (a m : Nat) : Nat := powMod a (m - 2) m

/-- Whether a point lies on the curve. -/
def onCurve (q : Nat × Nat) : Bool :=
  q.1 < p256p && q.2 < p256p &&
    q.2 * q.2 % p256p == (q.1 * q.1 * q.1 + (p256p - 3) * q.1 + p256b) % p256p

/-- Point addition; none is the point at infinity. -/
def pointAdd (a b : Option (Nat × Nat)) : Option (Nat × Nat) :=
  match a, b with
  | none, b => b
  | a, none => a
  | some (x1, y1), some (x2, y2) =>
    if x1 = x2 ∧ (y1 + y2) % p256p = 0 then none
    else
      let l := if x1 = x2 then (3 * x1 * x1 + (p256p - 3)) * invMod (2 * y1) p256p % p256p
        else (y2 + p256p - y1) * invMod (x2 + p256p - x1) p256p % p256p
      let x3 := (l * l + 2 * p256p - x1 - x2) % p256p
      some (x3, (l * (x1 + p256p - x3) + p256p - y1) % p256p)

/-- A multiple of a point. -/
def pointMul (k : Nat) (q : Nat × Nat) : Option (Nat × Nat) :=
  ((List.range 256).foldl (fun (p : Option (Nat × Nat) × Option (Nat × Nat)) i =>
    (pointAdd p.1 p.1, if k.testBit i then pointAdd p.2 p.1 else p.2)) (some q, none)).2

/-- ECDSA P-256 verification of a SHA-256 hash under a 64-byte key and a 64-byte signature. -/
def ecdsaVerify (hash key sig : List Byte) : Bool :=
  let q := (beNat (slice key 0 32), beNat (slice key 32 32))
  let r := beNat (slice sig 0 32)
  let s := beNat (slice sig 32 32)
  if !onCurve q || r = 0 || s = 0 || p256n ≤ r || p256n ≤ s then false
  else
    let w := invMod s p256n
    match pointAdd (pointMul (beNat hash * w % p256n) p256g) (pointMul (r * w % p256n) q) with
    | some (x, _) => x % p256n == r
    | none => false

end Sys2Proof.Machine
end

