-- ==== Sys2Proof/Machine/Datum.lean ====
section
/-!
DEFINITION. Datum (12_datum.md): the two domains and their tick, setting and stepping, the switch between domains,
stamps and their queues, time pulses. The node time records stand with Traverse.
-/

namespace Sys2Proof.Machine

/-! ### Reading through a latch -/

/-- What a read of a register answers: ones to a frozen master (R541), 0 where the state leaves the block unreadable
(R65, R537), Unsupported Request to a function without Memory Space Enable (R565), else what the rule of the register
gives. -/
def Block.readBy (b : Block) (m : Nat) (f : Block → Block) : Block :=
  if m < 16 && !(b.present m && (b.config m).mse) then b.answerWith .unsupported
  else if b.frozen m then b.answerWith (.word 0xFFFFFFFF)
  else match b.dev with
    | .settle | .service | .hold => f b
    | _ => b.answerWith (.word 0)

/-- Key of a latched register: the master and its offset within the block. -/
def latchKey (m off : Nat) : Nat := m * 0x1000 + off

/-- Latch consecutive words of a Datum register group for a master. -/
def Block.latchWords (b : Block) (m off : Nat) (bytes : List Byte) (n : Nat) : Block :=
  let words := (List.range n).map fun i => BitVec.ofNat 32 (leAt bytes (4 * i) 4)
  let latches := (List.range n).foldl
    (fun l i => Store.put (fun _ => (0 : Word)) l (latchKey m (off + 4 * i)) (words.getD i 0)) b.dtm.latches
  { b with dtm := { b.dtm with latches := latches } }

/-! ### The domains (R429 to R431, R435) -/

/-- The values of a domain's format (R15): 48 bits of seconds, in units of 2^-32 ns. -/
def timeModulus : Nat := 2 ^ 48 * secUnits

/-- Domain x: 0 A, 1 B. -/
def Block.domain (b : Block) (x : Nat) : Domain := if x = 0 then b.dtm.a else b.dtm.b

/-- Replace domain x. -/
def Block.setDomain (b : Block) (x : Nat) (d : Domain) : Block :=
  if x = 0 then { b with dtm := { b.dtm with a := d } } else { b with dtm := { b.dtm with b := d } }

/-- One tick of a domain (R429, R435): the increment, less what the slew takes; a follower closes its difference at its
rate (R467). -/
def Domain.tick (d : Domain) (ppm : Nat) : Domain :=
  let taken := min d.slewRem (d.incr * ppm / 1000000)
  let step := min d.followErr.natAbs (d.incr * d.followPpm / 1000000)
  let signed : Int := if d.followErr < 0 then -(step : Int) else step
  { d with
    t := (((d.t + d.incr - taken : Nat) : Int) + signed).toNat % timeModulus
    slewRem := d.slewRem - taken
    followErr := d.followErr - signed }

/-- Δ falls by INCR × SLEW_PPM / 10^6 of the active domain until it reaches 0 (R436). -/
def Block.tickDelta (b : Block) : Block :=
  let x := b.get Reg.DTM_ACTIVE_SEL
  let fall := min b.dtm.delta.natAbs ((b.domain x).incr * b.get (Reg.DTM_CTRL_SLEW_PPM x) / 1000000)
  let delta := if b.dtm.delta < 0 then b.dtm.delta + fall else b.dtm.delta - fall
  { b with dtm := { b.dtm with delta := delta } }

/-- Datum runs in every state but RESET and LOAD (R430). -/
def Block.datumRuns (b : Block) : Bool :=
  match b.dev with
  | .reset | .load => false
  | _ => true

/-- One tick of Datum. -/
def Block.tickDatum (b : Block) : Block :=
  if !b.datumRuns then b
  else
    { b with dtm := { b.dtm with
        a := b.dtm.a.tick (b.get (Reg.DTM_CTRL_SLEW_PPM 0))
        b := b.dtm.b.tick (b.get (Reg.DTM_CTRL_SLEW_PPM 1)) } }.tickDelta

/-- Served time S (R436). -/
def Block.served (b : Block) : Int := ((b.domain (b.get Reg.DTM_ACTIVE_SEL)).t : Int) - b.dtm.delta

/-- INCR_COMMIT (R431, R432): the pair of INCR_LO and the value written takes effect if it lies in range. -/
def Block.incrCommit (b : Block) (x : Nat) (v : Word) : Block :=
  if b.on (Reg.DTM_STAT_FOLLOW x) then b.set (Reg.DTM_CMD_RESULT_STATUS x) stStateReject
  else
    let incr := v.toNat * 2 ^ 32 + b.get (Reg.DTM_INCR_LO_FRAC x)
    if 0x3FDF3B645 ≤ incr ∧ incr ≤ 0x4020C49BA then
      (b.wr (Reg.DTM_INCR_HI x) v).setDomain x { b.domain x with incr := incr }
    else b

/-- INCR_COMMIT (R431). -/
def execIncrCommit (x : Fin 2) (v : Word) (s : State) : Host.Outcome State Fault Refusal :=
  answer "INCR_COMMIT" true s fun b => b.byPf fun b => b.incrCommit x v

/-! ### Time pulses (R443 to R446) -/

/-- The target of a pulse: a bearing, or nanoseconds of A or B. -/
def Block.tpTarget (b : Block) (j : Nat) : Nat :=
  if b.get (Reg.DTM_TP_CTRL_REF j) = 2 then b.get (Reg.DTM_TP_T0_TARGET j) + b.get (Reg.DTM_TP_T1_TARGET j) * 2 ^ 32
  else (b.get (Reg.DTM_TP_T0_TARGET j) + b.get (Reg.DTM_TP_T1_TARGET j) * 2 ^ 32) * 1000000000 +
    b.get (Reg.DTM_TP_T2_NS j)

/-- Give a pulse its next target. -/
def Block.setTpTarget (b : Block) (j v : Nat) : Block :=
  if b.get (Reg.DTM_TP_CTRL_REF j) = 2 then
    b.setAll [(Reg.DTM_TP_T0_TARGET j, v % 2 ^ 32), (Reg.DTM_TP_T1_TARGET j, v / 2 ^ 32)]
  else
    b.setAll [(Reg.DTM_TP_T0_TARGET j, v / 1000000000 % 2 ^ 32), (Reg.DTM_TP_T1_TARGET j, v / 1000000000 / 2 ^ 32),
      (Reg.DTM_TP_T2_NS j, v % 1000000000)]

/-- Whether the reference of a pulse has reached its target (R443): for Bearing under R13. -/
def Block.tpReached (b : Block) (j : Nat) : Bool :=
  match b.get (Reg.DTM_TP_CTRL_REF j) with
  | 0 => b.tpTarget j * 2 ^ 32 ≤ b.dtm.a.t
  | 1 => b.tpTarget j * 2 ^ 32 ≤ b.dtm.b.t
  | _ => b.running && (b.brg.now - BitVec.ofNat 48 (b.tpTarget j)).toNat < 2 ^ 47

/-- The output goes high for WIDTH from this tick on. -/
def Block.tpPulse (b : Block) (j : Nat) : Block :=
  ({ b with dtm := { b.dtm with pulse := Store.put (fun _ => none) b.dtm.pulse j (some b.ticks) } }).inc
    (Reg.DTM_TP_STAT_FIRES j)

/-- After a firing (R444): once only, or on to the next target. -/
def Block.tpNext (b : Block) (j : Nat) : Block :=
  if b.on (Reg.DTM_TP_CTRL_PERIODIC j) then b.setTpTarget j (b.tpTarget j + b.get (Reg.DTM_TP_PERIOD_PERIOD j))
  else b.set (Reg.DTM_TP_CTRL_ENABLE j) 0

/-- A pulse whose target a forward jump has passed (R445): one late pulse or none; a periodic output goes on with the
first target that the new value has not passed, `reached` targets on. -/
def Block.tpSkipped (b : Block) (j reached : Nat) : Block :=
  let b := if b.on (Reg.DTM_TP_CTRL_SKIP j) then (b.tpPulse j).set (Reg.DTM_TP_STAT_LATE j) 1
    else b.set (Reg.DTM_TP_STAT_DROPPED j) 1
  if b.on (Reg.DTM_TP_CTRL_PERIODIC j) then
    b.setTpTarget j (b.tpTarget j + reached * b.get (Reg.DTM_TP_PERIOD_PERIOD j))
  else b.set (Reg.DTM_TP_CTRL_ENABLE j) 0

/-- Targets of a pulse that lie strictly between two values of its reference, in steps of its period. -/
def targetsPassed (target period old new : Nat) : Nat :=
  if old < target ∧ target < new then (if period = 0 then 1 else (new - target + period - 1) / period) else 0

/-- A forward jump of domain x from `old` to `new`, in units of 2^-32 ns (R445). -/
def Block.tpJump (b : Block) (x old new : Nat) : Block :=
  (List.range 8).foldl (fun b j =>
    if b.on (Reg.DTM_TP_CTRL_ENABLE j) && b.get (Reg.DTM_TP_CTRL_REF j) == x then
      match targetsPassed (b.tpTarget j * 2 ^ 32) (b.get (Reg.DTM_TP_PERIOD_PERIOD j) * 2 ^ 32) old new with
      | 0 => b
      | n => b.tpSkipped j n
    else b) b

/-- The states in which pulses fire (R443). -/
def Block.pulses (b : Block) : Bool :=
  match b.dev with
  | .settle | .service | .hold => true
  | _ => false

/-- TIMEPULSE_FIRE (R443, R444). -/
def execTimepulseFire (j : Fin 8) (s : State) : Host.Outcome State Fault Refusal :=
  answer "TIMEPULSE_FIRE" true s fun b =>
    if b.pulses && b.on (Reg.DTM_TP_CTRL_ENABLE j) && b.tpReached j then (b.tpPulse j).tpNext j else b

/-- TIMEPULSE_END (R443): WIDTH × 4 ns after its start the output goes low. -/
def execTimepulseEnd (j : Fin 8) (s : State) : Host.Outcome State Fault Refusal :=
  answer "TIMEPULSE_END" true s fun b =>
    match Store.get (fun _ => none) b.dtm.pulse j with
    | some start =>
      if start + b.get (Reg.DTM_TP_CTRL_WIDTH j) ≤ b.ticks then
        { b with dtm := { b.dtm with pulse := Store.put (fun _ => none) b.dtm.pulse j none } } else b
    | none => b

/-- Whether a pulse of this width fits its period (R444): a bearing period is converted at 66.0 Hz. -/
def tpFits (ref width period : Nat) : Bool :=
  if ref = 2 then 512 ≤ period && width * 4 * 65536 * 66 < period * 1000000000
  else 1000 ≤ period && period ≤ 4000000000 && width * 4 < period

/-- A write of DTM_TPj_CTRL (R444, R454, R455): while ENABLE is 1 only ENABLE is written; REF 3 and a width below 2 are
not applied; ENABLE = 1 is not applied with a width that does not fit the period. -/
def Block.tpWrite (b : Block) (j : Nat) (v : Word) : Block :=
  let en := bitsAt v.toNat 0 1
  if b.on (Reg.DTM_TP_CTRL_ENABLE j) then b.set (Reg.DTM_TP_CTRL_ENABLE j) en
  else
      let ref := if bitsAt v.toNat 1 2 = 3 then b.get (Reg.DTM_TP_CTRL_REF j) else bitsAt v.toNat 1 2
      let width := if bitsAt v.toNat 8 24 < 2 then b.get (Reg.DTM_TP_CTRL_WIDTH j) else bitsAt v.toNat 8 24
      let periodic := bitsAt v.toNat 3 1
      if en = 1 ∧ periodic = 1 ∧ !tpFits ref width (b.get (Reg.DTM_TP_PERIOD_PERIOD j)) then b
      else b.setAll [(Reg.DTM_TP_CTRL_ENABLE j, en), (Reg.DTM_TP_CTRL_REF j, ref),
        (Reg.DTM_TP_CTRL_PERIODIC j, periodic), (Reg.DTM_TP_CTRL_SKIP j, bitsAt v.toNat 4 1),
        (Reg.DTM_TP_CTRL_WIDTH j, width)]

/-- TIMEPULSE_ENABLE (R444). -/
def execTimepulseEnable (j : Fin 8) (v : Word) (s : State) : Host.Outcome State Fault Refusal :=
  answer "TIMEPULSE_ENABLE" true s fun b => b.byPf fun b => b.tpWrite j v

/-! ### Setting and stepping (R433 to R435) -/

/-- The amount of a SET or STEP, in units of 2^-32 ns. -/
def Block.adjAmount (b : Block) (x : Nat) : Nat :=
  (b.get (Reg.DTM_ADJ_SEC_LO_SEC x) + b.get (Reg.DTM_ADJ_SEC_HI_SEC x) * 2 ^ 32) * secUnits +
    b.get (Reg.DTM_ADJ_NS_NS x) * 2 ^ 32 + b.get (Reg.DTM_ADJ_FRAC_FRAC x) * 2 ^ 16

/-- Complete a command of domain x with a status; fixed vector 9 follows (R573). -/
def Block.dtmDone (b : Block) (x status : Nat) (converted : Bool) : Block :=
  (b.setAll [(Reg.DTM_CMD_RESULT_STATUS x, status), (Reg.DTM_CMD_RESULT_CONVERTED x, if converted then 1 else 0)]).raiseFixed 9

/-- Nanoseconds of a signed amount as a saturating field of `w` bits. -/
def nsField (w : Nat) (v : Int) : Nat := unsignedOf w (saturateSigned w (v / (2 ^ 32 : Nat)))

/-- A step of domain x, counted in DSTEP (R464) and recorded (R453). -/
def Block.stepDomain (b : Block) (x : Nat) (step change : Int) : Block :=
  let d := b.domain x
  let t := (((d.t : Int) + step) % (timeModulus : Int)).toNat
  let b := b.setDomain x { d with t := t }
  let b := if x = 0 then { b with chain := { b.chain with dstepA := (b.chain.dstepA + 1) % 16 } }
    else { b with chain := { b.chain with dstepB := (b.chain.dstepB + 1) % 16 } }
  let b := b.post 0x0C01 0 0x45 [(1, x), (6, nsField 48 change)]
  if 0 < step then b.tpJump x d.t (d.t + step.toNat) else b

/-- Seconds in a day, the limit of R434 and R435, in units of 2^-32 ns. -/
def dayUnits : Nat := 86400 * secUnits

/-- A change of domain x (R434, R435): none where the change is refused. -/
def Block.changeDomain (b : Block) (x : Nat) (change : Int) : Option (Block × Bool) :=
  let d := b.domain x
  if 0 ≤ change then
    let taken := min d.slewRem change.toNat
    let b := b.setDomain x { d with slewRem := d.slewRem - taken }
    let b := if d.slewRem = taken then b.set (Reg.DTM_STAT_SLEWING x) 0 else b
    some (b.stepDomain x (change - taken) change, false)
  else if b.on (Reg.DTM_CTRL_STEP_BACK_OK x) then some (b.stepDomain x change change, false)
  else
    let mag := change.natAbs
    if mag ≤ dayUnits ∧ d.slewRem + mag ≤ dayUnits then
      let b := b.setDomain x { d with slewRem := d.slewRem + mag }
      let b := b.setAll [(Reg.DTM_STAT_SLEWING x, 1), (Reg.DTM_STAT_STEP_CONVERTED x, 1)]
      some (b.post 0x0C02 1 0x45 [(1, x), (6, min (mag / 2 ^ 32) (2 ^ 48 - 1))], true)
    else none

/-- A SET or STEP with its change (R432 to R434): STATE_REJECT on a follower, INVALID with nanoseconds beyond
999,999,999. -/
def Block.adjust (b : Block) (x : Nat) (set : Bool) (change : Int) : Block :=
  if b.on (Reg.DTM_STAT_FOLLOW x) then b.dtmDone x stStateReject false
  else if 999999999 < b.get (Reg.DTM_ADJ_NS_NS x) then b.dtmDone x stInvalid false
  else match b.changeDomain x change with
    | some (b, converted) => (if set then b.set (Reg.DTM_STAT_VALID x) 1 else b).dtmDone x stOK converted
    | none => b.dtmDone x stStateReject false

/-- SET (R433). -/
def Block.setTime (b : Block) (x : Nat) : Block := b.adjust x true ((b.adjAmount x : Int) - (b.domain x).t)

/-- STEP (R433). -/
def Block.stepTime (b : Block) (x : Nat) : Block :=
  b.adjust x false (if b.on (Reg.DTM_ADJ_SEC_HI_NEG x) then -(b.adjAmount x : Int) else b.adjAmount x)

/-- SET (R433). -/
def execSet (x : Fin 2) (s : State) : Host.Outcome State Fault Refusal :=
  answer "SET" true s fun b => b.byPf fun b => b.setTime x

/-- STEP (R434). -/
def execStep (x : Fin 2) (s : State) : Host.Outcome State Fault Refusal :=
  answer "STEP" true s fun b => b.byPf fun b => b.stepTime x

/-- DATUM_SLEW_END (R435): SLEW_REM has reached 0. -/
def execDatumSlewEnd (x : Fin 2) (s : State) : Host.Outcome State Fault Refusal :=
  answer "DATUM_SLEW_END" true s fun b =>
    if (b.domain x).slewRem = 0 then b.set (Reg.DTM_STAT_SLEWING x) 0 else b

/-! ### The switch between domains (R436) -/

/-- A new value of DTM_ACTIVE.SEL: Δ becomes D_new − S, so that S is continuous. -/
def Block.domainSwitch (b : Block) (sel : Nat) : Block :=
  if b.get Reg.DTM_ACTIVE_SEL = sel then b
  else
    let delta := ((b.domain sel).t : Int) - b.served
    let b := { b with dtm := { b.dtm with delta := delta } }
    let b := b.setAll [(Reg.DTM_ACTIVE_SEL, sel), (Reg.DTM_ACTIVE_SWITCHING, if delta = 0 then 0 else 1)]
    b.post 0x0C03 0 0x45 [(1, sel), (4, nsField 32 delta)]

/-- DOMAIN_SWITCH (R436). -/
def execDomainSwitch (sel : Fin 2) (s : State) : Host.Outcome State Fault Refusal :=
  answer "DOMAIN_SWITCH" true s fun b => b.byPf fun b => b.domainSwitch sel

/-- DOMAIN_SWITCH_SETTLED (R436): Δ has reached 0. -/
def execDomainSwitchSettled (s : State) : Host.Outcome State Fault Refusal :=
  answer "DOMAIN_SWITCH_SETTLED" true s fun b =>
    if b.dtm.delta = 0 then b.set Reg.DTM_ACTIVE_SWITCHING 0 else b

/-! ### Reading the domains (R454) -/

/-- DTM_x_NOW_SEC_LO answers seconds [31:0] and latches the rest for the reading master. -/
def Block.datumNow (b : Block) (x m : Nat) : Block :=
  let t := (b.domain x).t
  let sec := t / secUnits
  let frac := t / 2 ^ 16 % 2 ^ 16
  let ns := t % secUnits / 2 ^ 32
  let b := b.latchWords m (0x14 + 0x40 * x) (toLe 2 (sec / 2 ^ 32) ++ toLe 2 frac ++ toLe 4 ns) 2
  b.answerWith (.word (BitVec.ofNat 32 sec))

/-- DATUM_NOW_READ (R454). -/
def execDatumNowRead (x : Fin 2) (m : Fin 32) (s : State) : Host.Outcome State Fault Refusal :=
  answer "DATUM_NOW_READ" true s fun b => b.readBy m fun b => b.datumNow x m

/-! ### Stamps (R437 to R442) -/

/-- Twelve bytes of a domain value as a stamp record lays it out: seconds, fraction, nanoseconds. -/
def stampTime (t : Nat) : List Byte :=
  toLe 6 (t / secUnits) ++ toLe 2 (t / 2 ^ 16 % 2 ^ 16) ++ toLe 4 (t % secUnits / 2 ^ 32)

/-- A stamp record (R437): both domains, the bearing, VALID and the TAG bits of its use. -/
def stampRecord (a b : Nat) (x : Bearing) (tag : Nat) : List Byte :=
  stampTime a ++ stampTime b ++ toLe 6 x.toNat ++ toLe 2 (0x8000 + tag % 0x8000)

/-- The stamp of this tick. -/
def Block.stampNow (b : Block) (tag : Nat) : List Byte := stampRecord b.dtm.a.t b.dtm.b.t b.brg.now tag

/-- Place an entry in the transmit stamp queue (R440): a full queue loses the new one; the first loss since the queue
was last read empty is recorded. -/
def Block.pushTxStamp (b : Block) (entry : List Byte) : Block :=
  if 128 ≤ b.dtm.txs.length then
    let b := b.inc Reg.DTM_TXS_OVF_COUNT
    if b.dtm.txsLossArmed then
      { b with dtm := { b.dtm with txsLossArmed := false } }.post 0x0C06 1 0x45 [(4, b.get Reg.DTM_TXS_OVF_COUNT)]
    else b
  else
    let b := { b with dtm := { b.dtm with txs := b.dtm.txs ++ [entry] } }
    let b := b.set Reg.DTM_TXS_STAT_FILL b.dtm.txs.length
    if b.on Reg.DTM_TXS_STAT_NOTIFY_EN then b.raise 0 (b.get Reg.DTM_TXS_STAT_VECTOR) else b

/-- A read of DTM_TXS_DATA0 (R440): the oldest entry leaves and is latched; an empty queue reads with VALID 0. -/
def Block.txsRead (b : Block) (m : Nat) : Block :=
  let entry := b.dtm.txs.headD []
  let rest := b.dtm.txs.drop 1
  let b := { b with dtm := { b.dtm with txs := rest, txsLossArmed := b.dtm.txsLossArmed || rest.isEmpty } }
  let b := (b.set Reg.DTM_TXS_STAT_FILL rest.length).latchWords m 0xD0 entry 11
  b.answerWith (.word (BitVec.ofNat 32 (leAt entry 0 4)))

/-- TXS_READ (R440). -/
def execTxsRead (m : Fin 32) (s : State) : Host.Outcome State Fault Refusal :=
  answer "TXS_READ" true s fun b => b.readBy m fun b => b.txsRead m

/-- DTM_CAPTURE.CAP (R441): a stamp into DTM_CAP0–7; its TAG counts the captures. -/
def Block.capture (b : Block) : Block :=
  let n := (b.dtm.captures + 1) % 32768
  let b := { b with dtm := { b.dtm with captures := n } }
  let bytes := b.stampNow n
  b.setAll ((List.range 8).map fun i => (Reg.DTM_CAP_DATA i, leAt bytes (4 * i) 4))

/-- CAPTURE (R441). -/
def execCapture (s : State) : Host.Outcome State Fault Refusal := answer "CAPTURE" true s fun b => b.byPf Block.capture

/-- The FIFO of stamp input k. -/
def Block.tsi (b : Block) (k : Nat) : List (List Byte) := if k = 0 then b.dtm.tsi0 else b.dtm.tsi1

/-- Replace the FIFO of stamp input k; FILL follows. -/
def Block.setTsi (b : Block) (k : Nat) (l : List (List Byte)) : Block :=
  (if k = 0 then { b with dtm := { b.dtm with tsi0 := l } } else { b with dtm := { b.dtm with tsi1 := l } }).set
    (Reg.DTM_TSI_STAT_FILL k) l.length

/-- An accepted edge on a stamp input while Datum runs (R430, R442): stamped if DTM_TSIk_CFG.EDGE names it; a full FIFO loses it. -/
def Block.tstampEdge (b : Block) (k : Nat) (rising : Bool) : Block :=
  if !b.datumRuns || !b.bit (Reg.DTM_TSI_CFG_EDGE k) (if rising then 0 else 1) then b
  else if 16 ≤ (b.tsi k).length then b.inc (Reg.DTM_TSI_OVF_COUNT k)
  else
    let b := b.setTsi k (b.tsi k ++ [b.stampNow (if rising then 1 else 0)])
    if b.on (Reg.DTM_TSI_CFG_NOTIFY_EN k) then b.raise 0 (b.get (Reg.DTM_TSI_CFG_VECTOR k)) else b

/-- TSTAMP_EDGE (R442). -/
def execTstampEdge (k : Fin 2) (rising : Bool) (s : State) : Host.Outcome State Fault Refusal :=
  answer "TSTAMP_EDGE" true s fun b => b.tstampEdge k rising

/-- A read of DTM_TSIk_DATA0 under the latch rule of R440 (R442). -/
def Block.tsiRead (b : Block) (k m : Nat) : Block :=
  let entry := (b.tsi k).headD []
  let b := (b.setTsi k ((b.tsi k).drop 1)).latchWords m (0x160 + 0x40 * k) entry 8
  b.answerWith (.word (BitVec.ofNat 32 (leAt entry 0 4)))

/-- TSI_READ (R442). -/
def execTsiRead (k : Fin 2) (m : Fin 32) (s : State) : Host.Outcome State Fault Refusal :=
  answer "TSI_READ" true s fun b => b.readBy m fun b => b.tsiRead k m

end Sys2Proof.Machine
end

