-- ==== Sys2Proof/Machine/Driver.lean ====
section
/-!
DEFINITION. The line drivers on the time clock (04_line_ports.md): the timing around each transmission (R144), the rail of
each bank (R143), the frames driven for the partner (R479).
-/

namespace Sys2Proof.Machine

/-! ### Switches (R144) -/

/-- Bearing units until a bearing, 0 once it is reached. -/
def Block.untilBu (b : Block) (x : Bearing) : Nat := if ahead x b.brg.now then (x - b.brg.now).toNat else 0

/-- Step 2 of R144: 8 µs before a frame start the switches close. A port that R146 keeps at high impedance stays open: the
partner drives for it (R479). -/
def Block.approach (b : Block) (n : Nat) (start : Bearing) : Block :=
  let may := b.portState n == 1 || b.portState n == 2 || b.portState n == 4
  if (b.port n).switches || !may || b.nsToBu 8000 < b.untilBu start then b else b.closeSwitches n

/-- The frame starts of a port that are to come or are past: of its admitted frames and those driven on it. -/
def Block.portStarts (b : Block) (n : Nat) : List Bearing :=
  (b.portTxs n).map (·.start) ++ (b.chain.drives.filter fun d => d.port == n).map (·.start)

/-- Whether a frame of a port is on the line or within 8 µs of its start. -/
def Block.engaged (b : Block) (n : Nat) : Bool := (b.portStarts n).any fun x => b.untilBu x ≤ b.nsToBu 8000

/-- Steps 5 and 6 of R144: 2 µs after the last frame's end TX_BUSY falls, 8 µs after it the switches open. -/
def Block.release (b : Block) (n : Nat) : Block :=
  match (b.port n).ended with
  | some t =>
    if !(b.port n).switches || b.engaged n || b.ticks < t + 500 then b
    else if b.ticks < t + 2000 then b.set (Reg.LP_STATUS_TX_BUSY n) 0
    else b.openSwitches n
  | none => b

/-! ### What a transmission does to the receivers (R29, R134, R138) -/

/-- Whether a transmission of some ports in a band set blanks a lane's binding: its triad transmits in its sub-band, or its
own port transmits with XBAND_RX at 0. -/
def Block.blanks (b : Block) (ports : List Nat) (bands : Nat) (x : Binding) : Bool :=
  (!x.g3 && ports.any (fun n => n / 3 == x.port / 3) && bands.testBit x.sb) ||
    (ports.contains x.port && !b.on (Reg.LP_CTRL_XBAND_RX x.port))

/-- A transmission is on the line: the receptions it blanks are dropped (R29, R134), the other Gweol receptions of its triad
carry the XBAND flag (R138). -/
def Block.hushLanes (b : Block) (ports : List Nat) (bands : Nat) : Block :=
  let t := ports.headD 0 / 3
  ([3 * t, 3 * t + 1, 3 * t + 2].flatMap b.receiving).foldl (fun b l =>
    match (b.lane l).binding, (b.lane l).current with
    | some x, some r =>
      if b.blanks ports bands x then b.dropReception l
      else if x.g3 then b
      else b.setReception l (some { r with xband := true })
    | _, _ => b) b

/-! ### Frames driven for the partner (R479) -/

/-- The bearing at which a driven frame ends: its samples are 0.5 µs each. -/
def Block.driveEnd (b : Block) (d : Drive) : Bearing := d.start + BitVec.ofNat 48 (b.nsToBu (d.samples.length / 2 * 500))

/-- A driven frame ends with its last sample (R144): it is counted, and its line-side ratio is what the coupler sense shows, a
free value (R149, log entry 170); its output is that of 112 carriers, which its cells do not tell (log entry 60). -/
def Block.endDrive (b : Block) (d : Drive) : Block :=
  let b := { b with chain := { b.chain with drives := b.chain.drives.filter (· != d) } }
  let b := ((b.logTx [d.port] d.bands d.start).inc (Reg.LP_TX_COUNT_COUNT d.port)).endPort d.port
  ((b.draw.set (Reg.LP_CPL_STAT_RATIO d.port) (b.free % 65536)).bankSent (d.port / 6) 112 d.atten).refreshCharges (d.port / 6)

/-- The driven frames whose last sample has been sent end. -/
def Block.endDrives (b : Block) : Block :=
  b.chain.drives.foldl (fun b d => if d.done && ahead b.brg.now (b.driveEnd d) then b.endDrive d else b) b

/-! ### The rail (R143) -/

/-- The peak of a frame at an attenuation in mV at the secondary: 9 V at full level. -/
def peakMv (atten : Nat) : Nat := leastMonotone 14 fun p => 9000 ^ 20 < (p + 1) ^ 20 * 10 ^ atten

/-- What a frame demands of the rail now, in mV: the envelope of the sample that reaches the driver in 8 µs, from 10 µs before
the frame start to 8 µs after its end. -/
def Block.demandOf (b : Block) (id atten : Nat) (start last : Bearing) : Nat :=
  let now := b.brg.now + BitVec.ofNat 48 (b.nsToBu 8000)
  let index := (now - start).toNat * 1000000000 / max 1 b.freq / 500
  if ahead b.brg.now (last + BitVec.ofNat 48 (b.nsToBu 8000)) || b.nsToBu 10000 < b.untilBu start then 0
  else peakMv atten * min 65536 (Config.envelope id (if ahead now start then index else 0)) / 65536

/-- The largest demand among the transmitting ports of a bank. -/
def Block.bankDemand (b : Block) (bank : Nat) : Nat :=
  ((b.bankTxs bank).map (fun x => b.demandOf (2 * x.offer.num) x.atten x.start x.last) ++
    (b.bankDrives bank).map (fun d => b.demandOf (2 * d.slot + 1) d.atten d.start (b.driveEnd d))).foldl max 0

/-- The rail of a bank in mV (R143): the demand and 3.0 V of headroom, never above V_LD, never below 6.0 V. -/
def Block.railOf (b : Block) (bank : Nat) : Nat :=
  if (b.bankTxs bank).isEmpty && (b.bankDrives bank).isEmpty then 6000
  else max 6000 (min (b.get (Reg.LP_BANK_STAT_VLD bank) * 10) (b.bankDemand bank + 3000))

/-- The rail of a bank follows. -/
def Block.followRail (b : Block) (bank : Nat) : Block :=
  { b with ports := { b.ports with rail := Store.put (fun _ => 6000) b.ports.rail bank (b.railOf bank) } }

/-! ### The tick -/

/-- One tick of the drivers: switches close and open, driven frames end, the rails follow. -/
def Block.tickDrivers (b : Block) : Block :=
  let b := b.mac.txs.foldl (fun b x => if x.holds then x.ports.foldl (fun b n => b.approach n x.start) b else b) b
  let b := b.chain.drives.foldl (fun b d => b.approach d.port d.start) b
  let b := b.endDrives
  let b := b.chain.drives.foldl (fun b d => if ahead b.brg.now d.start then b.hushLanes [d.port] d.bands else b) b
  let b := b.ports.port.foldl (fun b p => b.release p.1) b
  (List.range 4).foldl (fun b k => b.followRail k) b

end Sys2Proof.Machine
end

