-- ==== Sys2Proof/Machine/Bearing.lean ====
section
/-!
DEFINITION. Bearing (03_bearing.md): crossings and their judgement, lock, tracking, the alternate reference, offsets and
phase identification, holdover and rejoining, the noise map, outages, alarms; and the tick of the time clock.
-/

namespace Sys2Proof.Machine

/-! ### Inputs -/

/-- What is kept of mains-sense input n. -/
def Block.sensed (b : Block) (n : Nat) : SenseIn := Store.get (fun _ => SenseIn.reset) b.brg.inputs n

/-- Replace what is kept of mains-sense input n. -/
def Block.setSensed (b : Block) (n : Nat) (x : SenseIn) : Block :=
  { b with brg := { b.brg with inputs := Store.put (fun _ => SenseIn.reset) b.brg.inputs n x } }

/-- Ticks as bearing units at the present frequency. -/
def Block.tickSpan (b : Block) (n : Nat) : Nat := n * 4 * b.freq / 1000000000

/-- The silence after which an input is lost, the reference gives way and a triad is in outage: 1.5 cycles (R98, R106,
R118, R119). -/
def silence : Nat := 98304

/-- The signed correction of an input's crossing instants, in bearing units (R93). -/
def Block.trim (b : Block) (n : Nat) : Int := signedOf 16 (b.get (Reg.BRG_TRIM_TRIM n))

/-- Bearing units since the last qualified crossing of an input; none where it has had none, and 0 while its corrected
instant (R93) is still ahead. -/
def Block.sinceQual (b : Block) (n : Nat) : Option Nat :=
  (b.sensed n).lastQual.map fun q =>
    if b.running then (b.brg.now - q.2).toInt.toNat else ((b.tickSpan (b.ticks - q.1) : Int) - b.trim n).toNat

/-- Whether an input has had no qualified crossing for 98,304 bu. One that has had none at all counts as silent from
Bearing's start (DESIGN CHOICE, log entry 160: R119 does not say from when its span runs). -/
def Block.silent (b : Block) (n : Nat) : Bool := match b.sinceQual n with
  | some d => silence ≤ d
  | none => true

/-- The enabled inputs of a triad (R118). -/
def Block.enabledInputs (b : Block) (t : Nat) : List Nat := [3 * t, 3 * t + 1, 3 * t + 2].filter b.msnsEnabled

/-- An input that has fallen silent shows no crossings: PRESENT and VALID are 0, and its mean starts afresh when it
returns (R101). -/
def Block.dropSilent (b : Block) : Block :=
  b.brg.inputs.foldl (fun b p =>
    if b.bit Reg.BRG_INPUT_STAT_PRESENT p.1 && b.silent p.1 then
      ((b.setBit Reg.BRG_INPUT_STAT_PRESENT p.1 false).set (Reg.BRG_PHOFS_VALID p.1) 0).setSensed p.1
        { b.sensed p.1 with angles := [], sinceMean := 0, run := 0 }
    else b) b

/-- The input that steers Bearing (R98). -/
def Block.steerInput (b : Block) : Nat :=
  if b.get Reg.BRG_STATUS_SRC = 1 then b.get Reg.BRG_REF_ALT else b.get Reg.BRG_REF_SEL

/-- The angle at which the steering input's crossings are expected (R98). -/
def Block.steerOffset (b : Block) : Nat := if b.get Reg.BRG_STATUS_SRC = 1 then b.brg.altOffset else 0

/-- A difference of angles reduced to one turn, −32,768 to 32,767 bu. -/
def reduceAngle (x : Int) : Int := signedOf 16 (unsignedOf 16 x)

/-- The mean of a list of angles on the circle, about its first. -/
def circularMean (xs : List Nat) : Nat :=
  match xs with
  | [] => 0
  | x :: _ =>
    let total := (xs.map fun (y : Nat) => reduceAngle ((y : Int) - x)).sum
    unsignedOf 16 (x + total / (xs.length : Int))

/-- The measured frequency of an input over its last periods, 8 at most, in 16.16 Hz (R96). -/
def SenseIn.frequency (x : SenseIn) : Nat :=
  let total := x.periods.sum
  if total = 0 then 0 else 65536 * 250000000 * x.periods.length / total

/-- BRG_FREQ takes the frequency of an input, where it has a period. -/
def Block.measure (b : Block) (n : Nat) : Block :=
  match (b.sensed n).frequency with
  | 0 => b
  | f => b.set Reg.BRG_FREQ_FREQ f

/-! ### Starting, locking, holding over -/

/-- Bearing starts at v, `lead` bearing units from now (R87, R93): until they have passed it reads v. The spans since the
inputs' last crossings keep their length. -/
def Block.startBearing (b : Block) (v : Bearing) (lead : Nat) : Block :=
  let back (t : Nat) : Bearing := v - BitVec.ofNat 48 (lead + b.tickSpan (b.ticks - t))
  { b with brg := { b.brg with
      now := v, acc := 0, wait := lead * 10 ^ 15, startedAt := v
      inputs := b.brg.inputs.map fun p => (p.1, { p.2 with
        lastQual := p.2.lastQual.map fun q => (q.1, back q.1 + BitVec.ofInt 48 (b.trim p.1))
        candidate := p.2.candidate.map fun q => (q.1, back q.1) }) } }

/-- The rate in ppm that closes a difference e to r bu over one cycle, at most ±0.5 % (R96). -/
def pllSteer (e r : Int) : Int := max (-5000) (min 5000 ((e + r) * 1000000 / 65536))

/-- LOCKED (R86, R88, R96): the PLL steers by the crossing just taken, at which the mains differs from the bearing by e. It
closes e over the cycle, to within the ±8 bu of R95 that the loop leaves (DESIGN CHOICE, log entry 161: the law of the loop
is the model's, what it leaves is a free value). -/
def Block.lockNow (b : Block) (e : Int) : Block :=
  let steer := pllSteer e ((b.free % 17 : Nat) - 8)
  let b := b.draw.setBrg .locked
  ({ b with brg := { b.brg with steer := steer, lockOk := true } }).set Reg.BRG_STATUS_LOCKED_ONCE 1

/-- FOLLOW (R86, R124, R462): the source is the Chain master; the lock counts as achieved, and the run of disagreeing cycles
begins anew (R100). -/
def Block.enterFollow (b : Block) : Block :=
  let b := (b.setBrg .follow).set Reg.BRG_STATUS_SRC 2
  { b with brg := { b.brg with mismatchRun := 0, lockOk := true } }

/-- The nominal frequency in 16.16 Hz (R105). -/
def Block.nominal (b : Block) : Nat := if b.on Reg.BRG_CTRL_NOM then 60 * 65536 else 50 * 65536

/-- Bearing starts at 0 in HOLDOVER at the nominal frequency (R88). -/
def Block.startFree (b : Block) : Block :=
  ((b.set Reg.BRG_FREQ_FREQ b.nominal).startBearing 0 0).enterHoldover

/-- The role MASTER at the join (R460, R461): MEPOCH is one more than the highest heard, or 1. -/
def Block.joinAsMaster (b : Block) : Block :=
  let mepoch := match b.chain.highest with
    | some e => (e + 1) % 65536
    | none => 1
  (b.setRole .master).set Reg.CHN_ROSTER_MEPOCH mepoch

/-- The first lock (R87): the bearing is 0 at the crossing that completes it, at that crossing's corrected instant (R93):
under a positive trim that instant lies ahead, and the bearing reads 0 until it (R89). -/
def Block.firstLock (b : Block) : Block :=
  let n := b.get Reg.BRG_REF_SEL
  let b := (b.measure n).startBearing (BitVec.ofNat 48 (-b.trim n).toNat) (b.trim n).toNat
  (({ b with brg := { b.brg with startedAt := 0 } }).set Reg.BRG_STATUS_SRC 0).lockNow 0

/-- The 8th consecutive valid crossing on the reference, or a later one: lock is reached (R88, R95). A standalone device and
a Chain master lock; rank 0 that has heard no SYNC becomes master; rank 1 starts its wait (R86, R87, R460). -/
def Block.tryLock (b : Block) : Block :=
  let b := { b with brg := { b.brg with lockOk := true } }
  if !b.chainEnabled || b.chain.role == .master then b.firstLock
  else if b.chain.role != .none || b.chain.heard then b
  else if b.get Reg.CHN_ID_RANK = 0 then b.joinAsMaster.firstLock
  else if b.chain.ownLock.isSome then b
  else { b with chain := { b.chain with ownLock := some b.ticks } }

/-- The noise map of every port restarts its accumulation (R114). -/
def Block.restartNoise (b : Block) : Block := { b with brg := { b.brg with noise := [], noiseCycles := [] } }

/-- Normal tracking, or a slew towards it, for a difference e (R109): a slew with |e| below 64 bu ends at once. -/
def Block.startSlew (b : Block) (e : Int) : Block :=
  if e.natAbs < 64 then b.lockNow e
  else
    let b := b.setBrg .slew
    { b with brg := { b.brg with steer := if e < 0 then -20000 else 20000 } }

/-! ### Valid crossings -/

/-- CLASS of an offset (R102). -/
def phaseClass (ofs : Nat) : Nat := (ofs * 12 + 32768) / 65536 % 12

/-- Whether an offset lies within 5 degrees of its class (R102). -/
def classValid (ofs : Nat) : Bool :=
  let r := ofs * 12 % 65536
  r ≤ 10923 || 65536 - r ≤ 10923

/-- An event of a port that makes a drift look like the port's own (R229): its superframe. -/
def Block.portEvent (b : Block) (n : Nat) : Block :=
  { b with sound := { b.sound with
      portEvents := Store.put (fun _ => none) b.sound.portEvents n (some b.superframe) } }

/-- A complete 64-cycle mean (R103): compared with the reference offset, which it then becomes. -/
def Block.completeMean (b : Block) (n mean : Nat) : Block :=
  let s := b.sensed n
  let b := b.setSensed n { s with sinceMean := 0, refOffset := some mean }
  match s.refOffset with
  | none => b
  | some old =>
    if 910 < (reduceAngle ((mean : Int) - old)).natAbs then
      ((b.set (Reg.BRG_PHOFS_CHANGED n) 1).post 0x0307 2 0x40 [(1, n), (2, old), (2, mean)]).portEvent n
    else b

/-- The offset of an input with a further valid crossing at an angle (R101 to R103). -/
def Block.takeOffset (b : Block) (n angle : Nat) : Block :=
  if !b.running then b
  else
    let s := b.sensed n
    let angles := (angle :: s.angles).take 64
    let mean := circularMean angles
    let b := b.setSensed n { s with angles := angles, sinceMean := s.sinceMean + 1 }
    let b := b.setAll [(Reg.BRG_PHOFS_OFS n, mean), (Reg.BRG_PHOFS_VALID n, 1), (Reg.BRG_PHOFS_CLASS n, phaseClass mean),
      (Reg.BRG_PHOFS_CLASS_VALID n, if classValid mean then 1 else 0)]
    if s.sinceMean + 1 = 64 then b.completeMean n mean else b

/-- A triad enters discovery mode for DISC_SF superframes (R260); what brings it there touches the triad (R278). -/
def Block.discover (b : Block) (t : Nat) : Block :=
  let m : MacTriad := Store.get (fun _ => MacTriad.reset) b.mac.triads t
  let m := { m with discLeft := b.get Reg.MAC_SUPV_DISC_SF, touched := some b.brg.now }
  ({ b with mac := { b.mac with triads := Store.put (fun _ => MacTriad.reset) b.mac.triads t m } }).set
    (Reg.MAC_TRIAD_DISC t) 1

/-- Every triad that carries Gweol or G3 enters discovery mode. -/
def Block.discoverAll (b : Block) : Block := ((List.range 8).filter b.triadBound).foldl (fun b t => b.discover t) b

/-- A triad leaves outage at a valid crossing on an enabled input (R120). -/
def Block.outageExit (b : Block) (n : Nat) : Block :=
  let t := n / 3
  if b.bit Reg.BRG_TRIAD_STAT_OUTAGE t && b.msnsEnabled n then
    ((b.setBit Reg.BRG_TRIAD_STAT_OUTAGE t false).post 0x0305 1 0x40 [(1, t), (1, 1)]).discover t
  else b

/-- The 8th consecutive valid crossing in RELOCK (R109 to R111). -/
def Block.rejoin (b : Block) (angle : Nat) : Block :=
  let n := b.brg.relockInput
  let src := if n = b.get Reg.BRG_REF_SEL then 0 else 1
  let b := b.set Reg.BRG_STATUS_SRC src
  let e := reduceAngle ((b.steerOffset : Int) - angle)
  if e.natAbs ≤ 8192 then ((b.measure n).post 0x0302 0 0x40 [(4, unsignedOf 32 e)]).startSlew e
  else b.set Reg.BRG_STATUS_RESEAT_PENDING 1

/-- A valid crossing counted in RELOCK. -/
def Block.countRelock (b : Block) (n angle : Nat) : Block :=
  if n ≠ b.brg.relockInput ∨ b.on Reg.BRG_STATUS_RESEAT_PENDING then b
  else
    let b := { b with brg := { b.brg with relockRun := b.brg.relockRun + 1 } }
    if b.brg.relockRun = 8 then b.rejoin angle else b

/-- Enter RELOCK, counting an input from its first valid crossing (R86, R97). -/
def Block.enterRelock (b : Block) (n run : Nat) : Block :=
  let off := if n = b.get Reg.BRG_REF_SEL then b.brg.altOffset
    else if b.get Reg.BRG_STATUS_SRC = 1 then b.brg.altOffset else b.get (Reg.BRG_PHOFS_OFS n)
  let b := b.setBrg .relock
  { b with brg := { b.brg with steer := 0, relockInput := n, relockRun := run, altOffset := off } }

/-- 64 consecutive cycles of valid reference crossings while the alternate steers (R99). The return makes no record and
leaves the noise map as it is (DESIGN CHOICE, log entry 162: R98 and R114 speak of the switch to the alternate only). -/
def Block.refReturn (b : Block) (angle : Nat) : Block :=
  let e := reduceAngle (-(angle : Int))
  if e.natAbs ≤ 8192 then ((b.set Reg.BRG_STATUS_SRC 0).measure (b.get Reg.BRG_REF_SEL)).startSlew e
  else b.set Reg.BRG_STATUS_REF_MISMATCH 1

/-- A follower's own reference against the master's bearing (R100); a cycle without its crossing breaks the run. -/
def Block.checkFollow (b : Block) (angle : Nat) : Block :=
  let diff := reduceAngle (-(angle : Int))
  let before := if (b.sensed (b.get Reg.BRG_REF_SEL)).run ≤ 1 then 0 else b.brg.mismatchRun
  let run := if 8192 < diff.natAbs then before + 1 else 0
  let b := { b with brg := { b.brg with mismatchRun := run } }
  if run = 64 then (b.set Reg.BRG_STATUS_REF_MISMATCH 1).post 0x0308 2 0x40 [(4, unsignedOf 32 diff)] else b

/-- What a valid crossing does to the timebase (R86, R95 to R100). -/
def Block.steerBy (b : Block) (n angle : Nat) : Block :=
  let sel := b.get Reg.BRG_REF_SEL
  match b.brg.state with
  | .unlocked => if n = sel then b.setBrg .acquire else b
  | .acquire => if n = sel ∧ 8 ≤ (b.sensed n).run then b.tryLock else b
  | .holdover =>
    if !b.chain.holdover && (n == sel || n == b.get Reg.BRG_REF_ALT) then b.enterRelock n 1 else b
  | .relock => b.countRelock n angle
  | .locked =>
    if n = b.steerInput then (b.measure n).lockNow (reduceAngle ((b.steerOffset : Int) - angle))
    else if b.get Reg.BRG_STATUS_SRC = 1 ∧ n = sel ∧ 64 ≤ (b.sensed n).run then b.refReturn angle
    else b
  | .slew => if n = b.steerInput then b.measure n else b
  | .follow => if n = sel then (b.measure n).checkFollow angle else b

/-- A valid crossing at an angle (R91): offsets, outage exit, timebase; on the reference in HOLD, the return to SETTLE
(R538). -/
def Block.validCrossing (b : Block) (n angle : Nat) : Block :=
  let s := b.sensed n
  let b := b.setSensed n { s with run := s.run + 1 }
  let b := (b.takeOffset n angle).outageExit n
  let b := b.steerBy n angle
  if b.dev = .hold ∧ n = b.get Reg.BRG_REF_SEL then b.exitHold else b

/-! ### Qualified crossings -/

/-- The interval condition (R91): 1/66.0 s to 1/45.0 s, both included, to the whole tick (DEDUCED, log entry 64). -/
def intervalOk (ticks : Nat) : Bool := 3787878 ≤ ticks && ticks ≤ 5555556

/-- Decide the losses that a qualified crossing on input n confirms (R119). -/
def Block.decideLosses (b : Block) (n : Nat) : Block :=
  let t := n / 3
  if !b.running || b.bit Reg.BRG_TRIAD_STAT_OUTAGE t || !b.msnsEnabled n then b
  else
    (b.enabledInputs t).foldl (fun b m =>
      if m != n && b.silent m && !(b.sensed m).lossDecided then
        let b := b.setSensed m { b.sensed m with lossDecided := true }
        ((b.set (Reg.BRG_PHOFS_LOST m) 1).post 0x0306 2 0x40 [(1, m)]).portEvent m
      else b) b

/-- Whether four angles agree: each within ±256 bu of their mean (R91). -/
def agree (xs : List Nat) : Bool :=
  let m := circularMean xs
  xs.all fun x => (reduceAngle ((x : Int) - m)).natAbs ≤ 256

/-- The window condition (R91, R97): a crossing outside the window of the steering input in LOCKED waits for three
others that agree with it; four that agree become valid, and Bearing enters RELOCK. -/
def Block.judgeWindow (b : Block) (n angle : Nat) : Block :=
  let s := b.sensed n
  if b.brg.state != .locked || b.steerInput != n ||
      (reduceAngle ((angle : Int) - b.steerOffset)).natAbs ≤ 2048 then
    (b.setSensed n { s with outside := [] }).validCrossing n angle
  else
    let outside := (angle :: s.outside).take 4
    if outside.length = 4 ∧ agree outside then
      let b := b.setSensed n { s with outside := [] }
      outside.reverse.foldl (fun b a => b.validCrossing n a) (b.enterRelock n 0)
    else b.setSensed n { s with outside := outside }

/-- The angle of a crossing with the trim of its input (R93). -/
def Block.crossingAngle (b : Block) (n : Nat) (x : Bearing) : Nat :=
  unsignedOf 16 ((angleOf x : Int) + b.trim n)

/-- A qualified crossing (R91) at an instant. `fresh`: the candidate with which a run begins. -/
def Block.qualify (b : Block) (n tick : Nat) (x : Bearing) (fresh : Bool) : Block :=
  let s := b.sensed n
  let periods := if fresh then [] else match s.lastQual with
    | some q => ((tick - q.1) :: s.periods).take 8
    | none => []
  let b := b.setSensed n { s with
    candidate := none, lastQual := some (tick, x + BitVec.ofInt 48 (b.trim n)), periods := periods, lossDecided := false
    run := if fresh then 0 else s.run
    outside := if fresh then [] else s.outside }
  let b := (b.setBit Reg.BRG_INPUT_STAT_PRESENT n true).decideLosses n
  b.judgeWindow n (b.crossingAngle n x)

/-- A coupler-health event of a kind (R231). -/
def Block.couplerEvent (b : Block) (n kind : Nat) : Block :=
  ((b.setAll [(Reg.SND_CPL_BASE_EVENT n, 1), (Reg.SND_CPL_BASE_KIND n, kind)]).post 0x0605 2 21
    [(1, n), (1, kind), (2, b.get (Reg.LP_CPL_STAT_RATIO n)), (2, b.get (Reg.SND_CPL_BASE_BASE n))]).portEvent n

/-- The mains fundamental at a port's coupler sense (R231): low for 8 consecutive cycles while crossings are valid, it
is a coupler-health event. -/
def Block.couplerCycle (b : Block) (n : Nat) (low : Bool) : Block :=
  let p := b.port n
  let run := if low && 64 ≤ p.baseCount then p.fundamentalLow + 1 else 0
  let b := b.setPort n { p with fundamentalLow := run }
  if run = 8 then b.couplerEvent n 2 else b

/-- A crossing with no qualified crossing on its input within the preceding 1/45 s (R91): it confirms the candidate
that waits, or becomes the candidate. -/
def Block.candidateCrossing (b : Block) (n : Nat) (low : Bool) : Block :=
  let s := b.sensed n
  let renew := b.setSensed n { s with candidate := some (b.ticks, b.brg.now) }
  match s.candidate with
  | some c =>
    if intervalOk (b.ticks - c.1) then
      ((b.qualify n c.1 c.2 true).qualify n b.ticks b.brg.now false).couplerCycle n low
    else renew
  | none => renew

/-- A positive-going crossing on input n, with the rms over its cycle in mV (R91). -/
def Block.crossing (b : Block) (n rms : Nat) (low : Bool) : Block :=
  if rms < 350 then b.setSensed n { b.sensed n with candidate := none }
  else match (b.sensed n).lastQual with
    | some q =>
      let d := b.ticks - q.1
      if intervalOk d then (b.qualify n b.ticks b.brg.now false).couplerCycle n low
      else if d < 3787878 then b
      else b.candidateCrossing n low
    | none => b.candidateCrossing n low

/-- The states in which mains-sense inputs are watched: all that follow LOAD (R430, R537, R544). -/
def Block.senses (b : Block) : Bool :=
  match b.dev with
  | .reset | .load => false
  | _ => true

/-- MAINS_CROSSING (R91). -/
def execMainsCrossing (c : Crossing) (s : State) : Host.Outcome State Fault Refusal :=
  answer "MAINS_CROSSING" true s fun b => if b.senses then b.crossing c.input c.rmsMv c.couplerLow else b

/-! ### Time-driven transitions -/

/-- The mains angle now: the expected angle of the steering input's last crossing and the time since. -/
def Block.mainsAngle (b : Block) : Nat :=
  match (b.sensed b.steerInput).lastQual with
  | some q => unsignedOf 16 (((b.steerOffset + b.tickSpan (b.ticks - q.1) : Nat) : Int) - b.trim b.steerInput)
  | none => angleOf b.brg.now

/-- The error e (R109, R110): mains angle minus bearing angle. -/
def Block.mainsError (b : Block) : Int := reduceAngle ((b.mainsAngle : Int) - angleOf b.brg.now)

/-- SLEW_COMPLETE (R109): |e| < 64 bu. -/
def execSlewComplete (s : State) : Host.Outcome State Fault Refusal :=
  answer "SLEW_COMPLETE" true s fun b =>
    if b.brg.state = .slew ∧ b.mainsError.natAbs < 64 then b.lockNow b.mainsError else b

/-- The reference gives way to the alternate (R98, R114). -/
def Block.refSwitch (b : Block) : Block :=
  let alt := b.get Reg.BRG_REF_ALT
  let b := { b with brg := { b.brg with altOffset := b.get (Reg.BRG_PHOFS_OFS alt) } }
  (b.set Reg.BRG_STATUS_SRC 1).restartNoise.post 0x0304 1 0x40 [(1, alt)]

/-- REFERENCE_SILENCE (R98, R106): 98,304 bu without a qualified crossing on the steering input. -/
def Block.referenceSilence (b : Block) : Block :=
  if !(b.brg.state == .locked || b.brg.state == .slew) || !b.silent b.steerInput then b
  else
    let alt := b.get Reg.BRG_REF_ALT
    if b.get Reg.BRG_STATUS_SRC = 0 ∧ alt < 24 ∧ !b.silent alt then b.refSwitch
    else b.enterHoldover

/-- REFERENCE_SILENCE (R106). -/
def execReferenceSilence (s : State) : Host.Outcome State Fault Refusal :=
  answer "REFERENCE_SILENCE" true s fun b => b.referenceSilence

/-- RELOCK_TIMEOUT (R86): a crossing is missing before the 8th; no new holdover entry (R106). -/
def Block.relockTimeout (b : Block) : Block :=
  let late : Bool := match (b.sensed b.brg.relockInput).lastQual with
    | some q => decide (5555556 < b.ticks - q.1)
    | none => true
  if b.brg.state = .relock ∧ !b.on Reg.BRG_STATUS_RESEAT_PENDING ∧ late then b.setBrg .holdover else b

/-- RELOCK_TIMEOUT (R86). -/
def execRelockTimeout (s : State) : Host.Outcome State Fault Refusal :=
  answer "RELOCK_TIMEOUT" true s fun b => b.relockTimeout

/-- LOCK_WAIT expires (R88), no lock having been reached since entry to SETTLE: without START_FREE, doubt 0x04; with it, a
running bearing goes on and the lock counts as achieved, and one that has not started starts in HOLDOVER: at the role
decision on a Chain device of rank 0 or 1 (R87). -/
def Block.lockWaitExpiry (b : Block) : Block :=
  if b.dev != .settle || b.ticks < b.fault.since + b.get Reg.BRG_CTRL_LOCK_WAIT * 25000000 ||
      b.brg.lockOk || b.brg.state == .locked || b.brg.state == .follow then b
  else if !b.on Reg.BRG_CTRL_START_FREE then b.doubt 0x04
  else
    let b := { b with brg := { b.brg with lockOk := true } }
    if b.running then b
    else if b.chainEnabled && b.get Reg.CHN_ID_RANK == 0 then b.joinAsMaster.startFree
    else if b.chainEnabled && b.get Reg.CHN_ID_RANK == 1 then
      { b with chain := { b.chain with
          ownLock := some (b.chain.ownLock.getD b.ticks), freeStart := b.chain.ownLock.isNone } }
    else b.startFree

/-- LOCK_WAIT_EXPIRY (R88). -/
def execLockWaitExpiry (s : State) : Host.Outcome State Fault Refusal :=
  answer "LOCK_WAIT_EXPIRY" true s fun b => b.lockWaitExpiry

/-! ### Alarms (R122, R123) -/

/-- The target of an alarm. -/
def Block.alarmTarget (b : Block) (k : Nat) : Bearing := b.bearingAt (Reg.BRG_AL_LO_TARGET k) (Reg.BRG_AL_HI_TARGET k)

/-- An alarm fires, on time or late: its vector is raised. -/
def Block.alarmFires (b : Block) (k : Nat) (late : Bool) : Block :=
  ((b.set (Reg.BRG_AL_HI_ARM k) 0).set (if late then Reg.BRG_AL_STAT_LATE k else Reg.BRG_AL_STAT_FIRED k) 1).raiseFixed
    (2 + k)

/-- An alarm in a skipped span (R113, R123): late under SKIP, else dropped. -/
def Block.alarmSkipped (b : Block) (k : Nat) : Block :=
  if b.on (Reg.BRG_AL_HI_SKIP k) then b.alarmFires k true
  else (b.set (Reg.BRG_AL_HI_ARM k) 0).set (Reg.BRG_AL_STAT_DROPPED k) 1

/-- A write of BRG_ALk_HI (R122): it disarms, or arms and judges the target afresh (R123). -/
def Block.alarmWrite (b : Block) (k : Nat) (v : Word) : Block :=
  let arm := bitsAt v.toNat 31 1
  let b := b.setAll [(Reg.BRG_AL_HI_TARGET k, bitsAt v.toNat 0 16), (Reg.BRG_AL_HI_SKIP k, bitsAt v.toNat 16 1),
    (Reg.BRG_AL_HI_ARM k, arm)]
  if arm = 1 ∧ !ahead (b.alarmTarget k) b.brg.now then b.alarmSkipped k else b

/-- ALARM_ARM (R122). -/
def execAlarmArm (k : Fin 4) (v : Word) (s : State) : Host.Outcome State Fault Refusal :=
  answer "ALARM_ARM" true s fun b => b.byPf fun b => b.alarmWrite k v

/-- ALARM_FIRE (R122): the bearing has reached the target of an armed alarm. -/
def execAlarmFire (k : Fin 4) (s : State) : Host.Outcome State Fault Refusal :=
  answer "ALARM_FIRE" true s fun b =>
    if b.on (Reg.BRG_AL_HI_ARM k) && b.running && (b.brg.now - b.alarmTarget k).toNat < 2 ^ 47 && b.pulses then
      b.alarmFires k false
    else b

/-! ### A cycle passes -/

/-- THR and OCC of a swap take effect, at a cycle boundary (R73). -/
def Block.applyNoiseThresholds (b : Block) : Block :=
  match b.img.nmPending with
  | (_, w) :: _ =>
    let b := { b with img := { b.img with nmPending := [] } }
    b.setAll [(Reg.BRG_NM_CTRL_THR, bitsAt w.toNat 8 8), (Reg.BRG_NM_CTRL_OCC, bitsAt w.toNat 16 7)]
  | [] => b

/-- What happens when the cycle count has moved on from `old` (R73). -/
def Block.cyclePassed (b : Block) (old : Bearing) : Block :=
  if cycleOf old = cycleOf b.brg.now then b else b.applyNoiseThresholds

/-! ### Outages (R118) -/

/-- The bearing at which the last-gasp window of a triad closes, while it is open. -/
def Block.gaspClose (b : Block) (t : Nat) : Option Bearing := Store.get (fun _ => none) b.brg.gaspClose t

/-- Open or close the last-gasp window of a triad. -/
def Block.setGaspClose (b : Block) (t : Nat) (x : Option Bearing) : Block :=
  { b with brg := { b.brg with gaspClose := Store.put (fun _ => none) b.brg.gaspClose t x } }

/-- The bearing at which an outage of a triad begins (R118): 98,304 bu after the latest crossing of its inputs, or
Bearing's start if that is later. -/
def Block.outageFrom (b : Block) (t : Nat) : Bearing :=
  let life := (b.brg.now - b.brg.startedAt).toNat
  match (b.enabledInputs t).filterMap b.sinceQual with
  | [] => b.brg.startedAt
  | d :: rest => b.brg.now - BitVec.ofNat 48 (min (rest.foldl min d - silence) life)

/-- A triad enters outage and its last-gasp window opens for 32 cycles (R118, R119, R279). A triad with no enabled input is
never in outage (DESIGN CHOICE, log entry 165: R118 does not say what holds of none). -/
def Block.triadOutage (b : Block) (t : Nat) : Block :=
  let inputs := b.enabledInputs t
  if !b.running || !b.senses || inputs.isEmpty || b.bit Reg.BRG_TRIAD_STAT_OUTAGE t || !inputs.all b.silent then b
  else
    let start := b.outageFrom t
    let b := (b.setBit Reg.BRG_TRIAD_STAT_OUTAGE t true).setBit Reg.BRG_TRIAD_STAT_OUTAGE_SEEN t true
    let b := b.post 0x0305 1 0x40 [(1, t), (1, 0)]
    let b := inputs.foldl (fun b n => b.setSensed n { b.sensed n with lossDecided := true }) b
    let m : MacTriad := Store.get (fun _ => MacTriad.reset) b.mac.triads t
    let b := { b with mac := { b.mac with
      triads := Store.put (fun _ => MacTriad.reset) b.mac.triads t { m with gaspNotices := 0, gaspDups := 0 }
      grants := b.mac.grants.filter fun g => g.triad != t || superframeOf (start + 2097152) < g.superframe } }
    (b.setGaspClose t (some (start + 2097152))).set (Reg.MAC_TRIAD_GASP t) 1

/-- TRIAD_OUTAGE (R118). -/
def execTriadOutage (t : Fin 8) (s : State) : Host.Outcome State Fault Refusal :=
  answer "TRIAD_OUTAGE" true s fun b => b.triadOutage t

/-! ### The noise map (R115 to R117) -/

/-- Key of bin x of port n and sub-band s. -/
def noiseKey (n s x : Nat) : Nat := (4 * n + s) * 128 + x

/-- A bin of the noise map. -/
def Block.noiseBin (b : Block) (k : Nat) : NoiseBin := Store.get (fun _ => NoiseBin.reset) b.brg.noise k

/-- LEVEL (R116): floor(−2 × level in dBFS) of a power in units of 2^-48, saturating at 255; 0, its reset value, before
a bin's first sample (R124). -/
def noiseLevel (power : Option Nat) : Nat := match power with
  | some p => leastUpTo 255 fun k => (2 ^ 48) ^ 20 < p ^ 20 * 10 ^ (k + 1)
  | none => 0

/-- Set bits of the last 64 cycles (R116). -/
def NoiseBin.occ (x : NoiseBin) : Nat := ((List.range 64).filter fun i => x.history.getLsbD i).length

/-- Twice the median LEVEL of the 128 bins of a port and sub-band: the sum of the two middle ones. -/
def Block.medianLevel2 (b : Block) (n s : Nat) : Nat :=
  let levels := (List.range 128).map fun x => noiseLevel (b.noiseBin (noiseKey n s x)).power
  let nth (k : Nat) : Nat := leastUpTo 256 fun v => k < (levels.filter fun l => l ≤ v).length
  nth 63 + nth 64

/-- Whether a peak power in units of 2^-32 exceeds the median by THR half-decibels at least (R116). -/
def impulsive (peak median2 thr : Nat) : Bool := 10 ^ (2 * thr) * (2 ^ 32) ^ 40 ≤ peak ^ 40 * 10 ^ median2

/-- One bin takes its cycle (R116). The first sample after a restart is the mean as it stands (DESIGN CHOICE, log entry
166: R116 gives the average no starting value). -/
def Block.noiseSample (b : Block) (k power peak median2 : Nat) : Block :=
  let old := b.noiseBin k
  let new : NoiseBin :=
    { power := some (match old.power with
        | some p => (63 * p + power * 65536) / 64
        | none => power * 65536)
      history := old.history ||| (if impulsive peak median2 (b.get Reg.BRG_NM_CTRL_THR) then 1 else 0) }
  { b with brg := { b.brg with noise := Store.put (fun _ => NoiseBin.reset) b.brg.noise k new } }

/-- The triad reference angle (R104). -/
def Block.refAngle (b : Block) (t : Nat) : Nat :=
  unsignedOf 16 ((angleOf b.brg.now : Int) - b.get (Reg.BRG_PHOFS_OFS (3 * t)))

/-- The cycles of a triad's reference angle that have begun (R104, R117). -/
def Block.refCycle (b : Block) (t : Nat) : Nat :=
  cycleOf (b.brg.now - BitVec.ofNat 48 (b.get (Reg.BRG_PHOFS_OFS (3 * t))))

/-- First bearing of a bin in the cycle that the last boundary of a triad's reference angle has ended. -/
def Block.noiseBinStart (b : Block) (t x : Nat) : Bearing :=
  b.brg.now - BitVec.ofNat 48 (b.refAngle t + 65536) + BitVec.ofNat 48 (512 * x)

/-- What is on the air now at a port: its frames on the line and its lanes' receptions. -/
def Block.airNow (b : Block) (n : Nat) : List AirSpan :=
  ((b.lineTxs n).map fun x =>
    { port := n, bands := x.bands, received := false, start := x.start, last := b.brg.now }) ++
  ((b.lineDrives n).map fun d =>
    { port := n, bands := d.bands, received := false, start := d.start, last := b.brg.now }) ++
  ((b.receiving n).filterMap fun l => match (b.lane l).binding, (b.lane l).current with
    | some x, some r =>
      if x.g3 then none
      else some { port := n, bands := 2 ^ x.sb, received := true, start := r.start, last := b.brg.now }
    | _, _ => none)

/-- What has been on the air at a port in the last cycles. -/
def Block.air (b : Block) (n : Nat) : List AirSpan := b.airNow n ++ b.brg.spans.filter fun x => x.port == n

/-- Whether a transmission of a triad in a sub-band leaves a bin of the past cycle no sample (R29, R115). -/
def Block.binSent (b : Block) (t s x : Nat) : Bool :=
  let a := b.noiseBinStart t x
  let e := a + 511
  ([3 * t, 3 * t + 1, 3 * t + 2].flatMap b.air).any fun p =>
    !p.received && p.bands.testBit s && ahead a p.start && ahead p.last e

/-- Whether a lane of a port and sub-band was receiving in a bin of the past cycle (R115). -/
def Block.binReceived (b : Block) (n s x : Nat) : Bool :=
  let a := b.noiseBinStart (n / 3) x
  (b.air n).any fun p => p.received && p.bands.testBit s && spansMeet a (a + 511) p.start p.last

/-- A bin takes what its cycle gathered (R115): nothing where the triad's own transmission covers it, the pilot error where
a lane was receiving, else the power. -/
def Block.noiseTake (b : Block) (t : Nat) (x : NoiseSample) : Block :=
  let n := 3 * t + x.leg.val
  if b.binSent t x.sb x.bin then b
  else
    let heard := b.binReceived n x.sb x.bin
    b.noiseSample (noiseKey n x.sb x.bin) (if heard then x.error else x.power) (if heard then x.errorPeak else x.peak)
      (b.medianLevel2 n x.sb)

/-- A cycle passes over the history of a triad's bins (R116). -/
def Block.noiseShift (b : Block) (t : Nat) : Block :=
  { b with brg := { b.brg with noise := b.brg.noise.map fun p =>
      if p.1 / 1536 = t then (p.1, { p.2 with history := p.2.history <<< 1 }) else p } }

/-- The noise map of a triad updates at the cycle boundary of its reference angle, once a cycle (R117). -/
def Block.noiseUpdate (b : Block) (t : Nat) (samples : List NoiseSample) : Block :=
  let last : Option Nat := Store.get (fun _ => none) b.brg.noiseAt t
  if !b.on Reg.BRG_NM_CTRL_ENABLE || !b.running || b.dev != .service || last == some (b.refCycle t) then b
  else
    let b := { b with brg := { b.brg with noiseAt := Store.put (fun _ => none) b.brg.noiseAt t (some (b.refCycle t)) } }
    let b := samples.foldl (fun b x => b.noiseTake t x) (b.noiseShift t)
    [3 * t, 3 * t + 1, 3 * t + 2].foldl (fun b n =>
      { b with brg := { b.brg with
          noiseCycles := Store.modify (fun _ => 0) b.brg.noiseCycles n fun c => min 64 (c + 1) } }) b

/-- NOISE_MAP_UPDATE (R117). -/
def execNoiseMapUpdate (t : Fin 8) (samples : List NoiseSample) (s : State) : Host.Outcome State Fault Refusal :=
  answer "NOISE_MAP_UPDATE" true s fun b => b.noiseUpdate t samples

/-- IMP of a bin (R116), 0 until 64 cycles have been accumulated (R114). -/
def Block.impulsiveBin (b : Block) (n s x : Nat) : Bool :=
  64 ≤ Store.get (fun _ => 0) b.brg.noiseCycles n &&
    b.get Reg.BRG_NM_CTRL_OCC ≤ (b.noiseBin (noiseKey n s x)).occ

/-- The noise map as it now stands (R117). -/
def Block.noiseLive (b : Block) : NoiseCopy :=
  { bins := b.brg.noise, cycles := b.brg.noiseCycles, occ := b.get Reg.BRG_NM_CTRL_OCC }

/-- The 16-bit entry of a bin in the window (R117), from the readable copy. -/
def Block.noiseEntry (b : Block) (k : Nat) : Nat :=
  let copy := b.brg.noiseFrozen.getD b.noiseLive
  let x := Store.get (fun _ => NoiseBin.reset) copy.bins k
  let full : Bool := Store.get (fun _ => 0) copy.cycles (k / 512) == 64
  noiseLevel x.power + min x.occ 127 * 256 + (if full && copy.occ ≤ x.occ then 2 ^ 15 else 0)

/-- The readable copy of the noise map stays fixed from the setting of FREEZE to its clearing (R117). -/
def Block.followNoiseFreeze (b : Block) : Block :=
  match b.on Reg.BRG_NM_CTRL_FREEZE, b.brg.noiseFrozen with
  | true, none => { b with brg := { b.brg with noiseFrozen := some b.noiseLive } }
  | false, some _ => { b with brg := { b.brg with noiseFrozen := none } }
  | _, _ => b

/-! ### Reading the bearing (R124) -/

/-- BRG_NOW_LO answers bits [31:0] and latches bits [47:32] for the reading master. -/
def Block.brgNow (b : Block) (m : Nat) : Block :=
  let hi : Word := BitVec.ofNat 32 (b.brg.now.toNat / 2 ^ 32)
  ({ b with brg := { b.brg with latches := Store.put (fun _ => 0) b.brg.latches m hi } }).answerWith
    (.word (BitVec.ofNat 32 b.brg.now.toNat))

/-- BRG_NOW_READ (R124). -/
def execBrgNowRead (m : Fin 32) (s : State) : Host.Outcome State Fault Refusal :=
  answer "BRG_NOW_READ" true s fun b => b.readBy m fun b => b.brgNow m

/-! ### The tick -/

/-- The frequency at which Bearing advances, in 16.16 Hz: the acting master's on a follower (R467, R470). -/
def Block.advanceFreq (b : Block) : Nat :=
  if (b.brg.state == .follow || b.chain.holdover) && b.chain.masterFreq != 0 then b.chain.masterFreq else b.freq

/-- One tick of Bearing. -/
def Block.tickBearing (b : Block) : Block :=
  if !b.running then b
  else
    let gain := b.advanceFreq * 4 * (1000000 + b.brg.steer).toNat
    let total := b.brg.acc + (gain - b.brg.wait)
    let old := b.brg.now
    let b := { b with brg := { b.brg with
        now := b.brg.now + BitVec.ofNat 48 (total / 10 ^ 15)
        acc := total % 10 ^ 15
        wait := b.brg.wait - gain } }
    b.cyclePassed old

end Sys2Proof.Machine
end

