-- ==== Sys2Proof/Machine/Phy.lean ====
section
/-!
DEFINITION. The Gweol physical layer (05_gweol_phy.md): carriers and pilots, the frame control header and its code, the
scrambler, the LDPC code and packing, contour maps, robust modes and DEEP-64, notch deferral, and the value that each
carrier of a frame carries in each symbol.
-/

namespace Sys2Proof.Machine

/-! ### Carriers (R159, R160) -/

/-- The carrier number k of usable index i (R159). -/
def carrierOf (i : Nat) : Nat :=
  if i ≤ 21 then i + 10 else if i ≤ 26 then i + 11 else i + 13

/-- The sub-band of usable index i (R159). -/
def subBandOf (i : Nat) : Nat := if i ≤ 14 then 0 else if i ≤ 21 then 1 else if i ≤ 26 then 2 else 3

/-- The usable indices of a band set, ascending. -/
def indicesOf (bands : Nat) : List Nat := (List.range 112).filter fun i => bands.testBit (subBandOf i)

/-- The precoding group of usable index i (R194). -/
def groupOf (i : Nat) : Nat := i / 4

/-- Pilots among M carriers (R171). -/
def pilotCount (m : Nat) : Nat := (m + 7) / 8

/-- Data carriers among M carriers (R171). -/
def dataCount (m : Nat) : Nat := m - pilotCount m

/-- Positions of the pilots in symbol n among M carriers (R171). -/
def pilotPlaces (n m : Nat) : List Nat := (List.range (pilotCount m)).map fun i => (8 * i + 3 * n % 8) % m

/-- The positions of the data carriers in symbol n, ascending. -/
def dataPlaces (n m : Nat) : List Nat := (List.range m).filter fun j => !(pilotPlaces n m).contains j

/-- The phase of SYNCP on carrier k, in units of 2π/1024 (R164): πk²/512. -/
def syncPhase (k : Nat) : Nat := k * k % 1024

/-! ### The frame control header (R168 to R170) -/

/-- The low `n` bits of a number, least significant first. -/
def lsbBits (n v : Nat) : List Bool := (List.range n).map fun i => v.testBit i

/-- The low `n` bits of a number, most significant first. -/
def msbBits (n v : Nat) : List Bool := (lsbBits n v).reverse

/-- The 56 FCH bits of the first 40 for a band set: the CRC runs over them and the band-set mask (R168). -/
def fchWithCrc (head : List Bool) (bands : Nat) : List Bool :=
  head ++ msbBits 16 (checkOfBits crc16Def (head ++ lsbBits 4 bands))

/-- The FCH of a frame (R168). -/
def fchBits (type length mode streams notch stamp bands : Nat) : List Bool :=
  fchWithCrc (lsbBits 4 type ++ lsbBits 10 length ++ lsbBits 6 mode ++ lsbBits 2 streams ++ lsbBits 4 notch ++
    lsbBits 12 stamp ++ [false, false]) bands

/-- The FCH of a GASP frame (R169). -/
def gaspFch (short stamp bands : Nat) : List Bool :=
  fchWithCrc (lsbBits 4 15 ++ lsbBits 20 short ++ [false, false] ++ lsbBits 12 stamp ++ [false, false]) bands

/-- One output bit of a generator over the last seven inputs, the present one first (R170). -/
def convOut (gen : Nat) (window : List Bool) : Bool :=
  (List.range 7).foldl (fun acc i => Bool.xor acc (gen.testBit (6 - i) && window.getD i false)) false

/-- The tail-biting code of rate 1/2, generators 133 and 171 octal (R170). -/
def convCode (bits : List Bool) : List Bool :=
  let n := bits.length
  (List.range n).flatMap fun t =>
    let window := (List.range 7).map fun i => bits.getD ((t + n - i) % n) false
    [convOut 0o133 window, convOut 0o171 window]

/-- Blocks of four symbols that the FCH takes with D data carriers (R170). -/
def fchBlocks (d : Nat) : Nat := (111 + d) / d

/-- FCH symbols of a band set (R157). -/
def fchSymbols (bands : Nat) : Nat := 4 * fchBlocks (dataCount (indicesOf bands).length)

/-! ### The scrambler (R172) -/

/-- The seed of a frame start stamp. -/
def scramblerSeed (stamp : Nat) : Nat :=
  let s := (stamp ^^^ (stamp / 128)) % 128
  if s = 0 then 127 else s

/-- One step: the register r1–r7 in bits 0–6, and the output r4 XOR r7. -/
def scramblerStep (r : Nat) : Nat × Bool :=
  let o := Bool.xor (r.testBit 3) (r.testBit 6)
  (r * 2 % 128 + (if o then 1 else 0), o)

/-- The first n outputs from a seed. -/
def scramblerBits : Nat → Nat → List Bool
  | 0, _ => []
  | n + 1, r => (scramblerStep r).2 :: scramblerBits n (scramblerStep r).1

/-! ### The LDPC code (R174 to R176) -/

/-- The information part of the base matrix (R174); 99 stands for an empty entry. -/
def baseMatrix : List (List Nat) :=
  [[7, 31, 99, 12, 44, 3, 19, 99, 28, 40, 9, 23],
   [15, 99, 38, 2, 27, 99, 33, 11, 46, 5, 99, 36],
   [99, 21, 9, 99, 40, 17, 99, 30, 4, 99, 13, 45],
   [34, 6, 99, 25, 99, 42, 14, 99, 19, 31, 99, 8],
   [99, 29, 47, 99, 10, 99, 2, 37, 99, 22, 41, 99],
   [18, 99, 24, 39, 99, 1, 99, 16, 43, 99, 30, 99],
   [43, 99, 99, 5, 21, 99, 28, 99, 99, 35, 99, 12],
   [99, 11, 20, 99, 99, 33, 99, 45, 9, 99, 26, 99],
   [26, 99, 3, 99, 36, 99, 47, 99, 99, 14, 99, 39],
   [99, 40, 99, 17, 99, 24, 99, 6, 32, 99, 99, 1],
   [10, 99, 44, 99, 99, 7, 99, 22, 99, 38, 19, 99],
   [99, 35, 99, 29, 16, 99, 41, 99, 25, 99, 99, 20]]

/-- rot(v, s)[r] = v[(r + s) mod Z] (R175). -/
def rotBlock (z : Nat) (v : List Bool) (s : Nat) : List Bool := (List.range z).map fun r => v.getD ((r + s) % z) false

/-- Bitwise XOR of two blocks. -/
def xorBlock (a b : List Bool) : List Bool := List.zipWith Bool.xor a b

/-- Row i of the code: λ_i over the information blocks (R175). -/
def lambdaRow (z : Nat) (us : List (List Bool)) (i : Nat) : List Bool :=
  (List.range 12).foldl (fun acc j =>
    let s := (baseMatrix.getD i []).getD j 99
    if s = 99 then acc else xorBlock acc (rotBlock z (us.getD j []) (if z = 48 then s else s / 2)))
    (List.replicate z false)

/-- The first `n` parity blocks from row i on (R175). -/
def parityBlocks (z : Nat) (us : List (List Bool)) : Nat → Nat → List Bool → List (List Bool)
  | 0, _, _ => []
  | n + 1, i, prev =>
    let p := xorBlock (lambdaRow z us i) prev
    p :: parityBlocks z us n (i + 1) p

/-- A code rate: 0 for 1/2, 1 for 2/3, 2 for 3/4, 3 for 5/6 (R176, R182). -/
abbrev CodeRate := Nat

/-- Parity blocks sent at a rate (R176). -/
def parityOf (rate : CodeRate) : Nat := if rate = 0 then 12 else if rate = 1 then 6 else if rate = 2 then 4 else 2

/-- Information blocks sent at a rate (R176). -/
def infoOf (rate : CodeRate) : Nat := if rate = 3 then 10 else 12

/-- Information and sent bits of a codeword with blocks of Z bits (R176). -/
def infoBits (rate : CodeRate) (z : Nat) : Nat := infoOf rate * z
def sentBits (rate : CodeRate) (z : Nat) : Nat := (infoOf rate + parityOf rate) * z

/-- One codeword as sent: information blocks, then the rate's parity blocks (R175, R176). -/
def ldpcEncode (rate : CodeRate) (z : Nat) (info : List Bool) : List Bool :=
  let zero := List.replicate z false
  let blocks := (List.range (infoOf rate)).map fun x =>
    let s := (info.drop (x * z)).take z
    s ++ List.replicate (z - s.length) false
  let us := if rate = 3 then [zero, zero] ++ blocks else blocks
  blocks.flatten ++ (parityBlocks z us (parityOf rate) 0 zero).flatten

/-! ### Packing (R179) -/

/-- Long codewords in a coded capacity, and whether a short one follows. -/
def packing (rate : CodeRate) (c : Nat) : Nat × Bool :=
  let long := c / sentBits rate 48
  (long, sentBits rate 24 ≤ c - long * sentBits rate 48)

/-- The information capacity of a coded capacity. -/
def infoCapacity (rate : CodeRate) (c : Nat) : Nat :=
  let p := packing rate c
  p.1 * infoBits rate 48 + (if p.2 then infoBits rate 24 else 0)

/-- The coded bits of a frame: the MAC frame's bits with zero fill, scrambled, encoded and packed; pad bits are the
scrambler's next outputs (R172, R173, R179). -/
def codedPayload (rate : CodeRate) (c seed : Nat) (mac : List Byte) : List Bool :=
  let p := packing rate c
  let k := infoCapacity rate c
  let sent := p.1 * sentBits rate 48 + (if p.2 then sentBits rate 24 else 0)
  let raw := mac.flatMap byteBits
  let bits := raw ++ List.replicate (k - raw.length) false
  let keys := scramblerBits (k + (c - sent)) seed
  let mixed := List.zipWith Bool.xor bits keys
  let longs := (List.range p.1).flatMap fun i => ldpcEncode rate 48 ((mixed.drop (i * infoBits rate 48)).take (infoBits rate 48))
  let short := if p.2 then ldpcEncode rate 24 (mixed.drop (p.1 * infoBits rate 48)) else []
  longs ++ short ++ keys.drop k

/-! ### Modes and contour maps (R177, R180, R182) -/

/-- Bits of a loading code (R177). -/
def loadBits (code : Nat) : Nat := [0, 1, 2, 3, 4, 6, 8, 10].getD code 0

/-- The loading code of carrier i in stream q of an encoded map (R182). -/
def mapCode (m : List Byte) (q i : Nat) : Nat := leAt m (4 + 42 * q) 42 / 2 ^ (3 * i) % 8

/-- The streams of an encoded map. -/
def mapStreams (m : List Byte) : Nat := bitsAt (byteAt m 0) 4 2

/-- The rate of an encoded map. -/
def mapRate (m : List Byte) : CodeRate := byteAt m 0 % 4

/-- An encoded map: rate, generation, the loading codes of each stream (R182). -/
def mapBytes (rate : CodeRate) (generation : Nat) (streams : List (List Nat)) : List Byte :=
  toLe 1 (rate + streams.length * 16) ++ toLe 1 generation ++ [0, 0] ++ streams.flatMap fun codes =>
    toLe 42 ((List.range 112).foldl (fun acc i => acc + codes.getD i 0 * 2 ^ (3 * i)) 0)

/-- The band set of a map: the sub-bands that hold an active carrier (R182). -/
def mapBands (m : List Byte) : Nat :=
  (List.range 4).foldl (fun acc s =>
    if (List.range 112).any fun i => subBandOf i == s && mapCode m 0 i != 0 then acc + 2 ^ s else acc) 0

/-- The repetition of a robust mode (R184); none for the others. -/
def robustOf (mode : Nat) : Option Nat := match mode with
  | 0 => some 4
  | 1 => some 8
  | 2 => some 16
  | _ => none

/-- Rate of a mode without a map (R180). -/
def modeRate (mode : Nat) : CodeRate := match mode with
  | 6 => 2 | 8 => 2 | 9 => 1 | 10 => 3 | _ => 0

/-- Bits per carrier of a uniform mode (R180). -/
def uniformBits (mode : Nat) : Nat := match mode with
  | 4 => 1 | 5 => 2 | 6 => 2 | 7 => 4 | 8 => 4 | 9 => 6 | 10 => 6 | _ => 1

/-- The usable indices in use in payload symbols (R182). -/
def PhyMode.active (p : PhyMode) : List Nat :=
  if 16 ≤ p.mode then (List.range 112).filter fun i => mapCode p.map 0 i != 0 else indicesOf p.bands

/-- The code rate of a frame. -/
def PhyMode.rate (p : PhyMode) : CodeRate := if 16 ≤ p.mode then mapRate p.map else modeRate p.mode

/-- Bits on usable index i in stream q. -/
def PhyMode.bitsOn (p : PhyMode) (q i : Nat) : Nat :=
  if 16 ≤ p.mode then loadBits (mapCode p.map q i) else uniformBits p.mode

/-- Streams that carry data. -/
def PhyMode.dataStreams (p : PhyMode) : Nat := if p.streams < 2 then 1 else p.streams

/-- Training symbols of a stream code (R191). -/
def trainingOf (streams : Nat) : Nat := if streams = 0 then 0 else if streams = 2 then 2 else 4

/-- Symbol number of the first payload symbol (R171). -/
def PhyMode.firstPayload (p : PhyMode) : Nat := fchSymbols p.bands + trainingOf p.streams

/-- Slots of payload symbol n (R181, R183): for each stream, the bits on its data carriers. -/
def PhyMode.slots (p : PhyMode) (n : Nat) : Nat :=
  let act := p.active
  let places := dataPlaces n act.length
  ((List.range p.dataStreams).map fun q => (places.map fun j => p.bitsOn q (act.getD j 0)).sum).sum

/-- Coded capacity of a payload of a given LENGTH (R179, R181, R184, R190). -/
def PhyMode.capacity (p : PhyMode) (len : Nat) : Nat :=
  let d := dataCount p.active.length
  match robustOf p.mode with
  | some r => len / r * d
  | none =>
    if p.mode = 3 then (5 * len - fchBlocks d) * d
    else
      let phases := (List.range 8).map fun i => p.slots (p.firstPayload + i)
      len / 8 * phases.sum + (phases.take (len % 8)).sum

/-- The smallest LENGTH whose information capacity holds a number of bits (R179); none above 1,023. -/
def PhyMode.lengthFor (p : PhyMode) (bits : Nat) : Option Nat :=
  let unit := (robustOf p.mode).getD 1
  let n := leastMonotone 10 fun x => bits ≤ infoCapacity p.rate (p.capacity (x * unit))
  if n * unit ≤ 1023 ∧ bits ≤ infoCapacity p.rate (p.capacity (n * unit)) then some (n * unit) else none

/-! ### Notch deferral (R197, R198) -/

/-- Ends of the occurrences of a window that a span of unreduced angles meets, in unreduced angles. -/
def windowMeets (w : Nat × Nat) (a b : Nat) : List Nat :=
  (List.range 3).filterMap fun m =>
    let base := (a / 65536 + m) * 65536
    -- occurrences begin one turn back, so that one that wraps through angle 0 is seen
    let s := base + 512 * w.1
    let e := s + 512 * w.2
    if s < b + 65536 ∧ a + 65536 < e then some (e - 65536) else none

/-- The window met whose end comes first after a, with that end. -/
def firstMet (ws : List (Nat × Nat)) (skip : Option Nat) (a b : Nat) : Option (Nat × Nat) :=
  (List.range ws.length).foldl (fun best i =>
    if skip == some i then best
    else (windowMeets (ws.getD i (0, 0)) a b).foldl (fun best e => match best with
      | some x => if e < x.2 then some (i, e) else some x
      | none => some (i, e)) best) none

/-- The start of a symbol at or after sample u (R198): held back past each window that its span meets. -/
def deferSymbol (a0 fq : Nat) (ws : List (Nat × Nat)) : Nat → Option Nat → Nat → Nat
  | 0, _, u => u
  | fuel + 1, skip, u =>
    let at' (x : Nat) : Nat := a0 + x * fq / 2000000
    match firstMet ws skip (at' u) (at' (u + 576) + 16) with
    | some (i, e) =>
      deferSymbol a0 fq ws fuel (some i) (u + ((e - at' u) * 2000000 + fq - 1) / fq)
    | none => u

/-- The starts of n symbols from sample u on (R198). -/
def symbolStarts (a0 fq : Nat) (ws : List (Nat × Nat)) : Nat → Nat → List Nat
  | 0, _ => []
  | n + 1, u =>
    let s := deferSymbol a0 fq ws 32 none u
    s :: symbolStarts a0 fq ws n (s + 576)

/-- The triad reference angle of sample 0 as both ends compute it (R198). -/
def frameAngle (stamp phi : Nat) : Nat := unsignedOf 16 ((16 * stamp : Nat) - (phi : Int))

/-- STAMP of a frame start bearing (R168). -/
def stampOf (x : Bearing) : Nat := angleOf x / 16

/-- SYNCP symbols of an extended preamble at F in 16.16 Hz (R165). -/
def extendedSync (f : Nat) : Nat := 6 + (1000000 * 65536 + f * 256 - 1) / (f * 256)

/-- Samples of the preamble with n SYNCP symbols. -/
def preambleSamples (n : Nat) : Nat := 512 * (n + 1)

/-! ### The values on the carriers -/

/-- The bit that a robust block sends on data carrier d in copy c of R (R186): unique bit j with (j + c × S) mod D = d. -/
def robustBit (d c r count : Nat) (bit : Nat → Bool) : Bool :=
  let s := max 1 (count / r)
  bit ((d + count * c - c * s % count) % count)

/-- The slots of a payload symbol in the order in which its coded bits fill them (R181): carrier and bit plane. -/
def slotOrder (n count : Nat) (bitsOn : Nat → Nat) : List (Nat × Nat) :=
  let root := leastUpTo (count + 1) fun x => count ≤ x * x
  let a := root + leastUpTo (count + 1) fun x => Nat.gcd (root + x) count == 1
  let c := 7 * n % count
  (List.range 10).flatMap fun p => (List.range count).filterMap fun t =>
    let d := (a * t + c) % count
    if p < bitsOn d then some (d, p) else none

/-- The bits on data carrier d of a payload symbol whose coded bits are given (R181). -/
def carrierBits (order : List (Nat × Nat)) (bits : List Bool) (d : Nat) : List Bool :=
  ((order.zip bits).filter fun x => x.1.1 == d).map (·.2)

/-- Gray value of a word, first bit most significant (R178). -/
def grayValue (word : List Bool) : Nat :=
  (word.foldl (fun (acc : Nat × Bool) g => let u := Bool.xor acc.2 g; (acc.1 * 2 + (if u then 1 else 0), u)) (0, false)).1

/-- The amplitudes of a square QAM point, before normalisation (R178). -/
def qamLevels (bits : List Bool) : Int × Int :=
  let half := bits.length / 2
  let word (o : Nat) : List Bool := (List.range half).map fun i => bits.getD (2 * i + o) false
  let level (w : List Bool) : Int := (2 ^ half - 1 : Nat) - 2 * (grayValue w : Int)
  (level (word 0), level (word 1))

/-- The value of a carrier loaded with these bits (R177): unit average energy over each table. -/
def mapPoint (bits : List Bool) : CarrierValue :=
  let qam (d : Nat) : CarrierValue := let a := qamLevels bits; .point a.1 a.2 d
  let sign (i : Nat) : Int := if bits.getD i false then -1 else 1
  match bits.length with
  | 0 => .off
  | 1 => .phase (if bits.getD 0 false then 512 else 0)
  | 2 => .point (sign 0) (sign 1) 2
  | 3 => .phase ((2 * grayValue bits + 1) * 64)
  | 4 => qam 10
  | 6 => qam 42
  | 8 => qam 170
  | _ => qam 682

/-- The values of an FCH or robust payload symbol (R171, R186): pilots carry SYNCP, data carriers their bit by BPSK. -/
def robustSymbol (bands n c r : Nat) (bit : Nat → Bool) : List (Nat × CarrierValue) :=
  let idx := indicesOf bands
  let m := idx.length
  let data := dataPlaces n m
  (List.range m).map fun j =>
    let k := carrierOf (idx.getD j 0)
    if data.contains j then (k, mapPoint [robustBit (data.idxOf j) c r data.length bit])
    else (k, .phase (syncPhase k))

/-- The values of stream q in payload symbol n of a uniform or contour-map frame (R171, R181, R183, R195): every stream
carries the same pilots, and its own coded bits on the data carriers. -/
def mappedSymbol (p : PhyMode) (q n : Nat) (bits : List Bool) : List (Nat × CarrierValue) :=
  let act := p.active
  let data := dataPlaces n act.length
  let order := slotOrder n data.length fun d => p.bitsOn q (act.getD (data.getD d 0) 0)
  (List.range act.length).map fun j =>
    let k := carrierOf (act.getD j 0)
    if data.contains j then (k, mapPoint (carrierBits order bits (data.idxOf j))) else (k, .phase (syncPhase k))

/-- The carriers of a payload symbol that may take a Benchmark tone (R207): usable carriers of the band set in a permitted
sub-band, not active in the symbol. -/
def benchCarriers (p : PhyMode) (permitted : Nat) : List Nat :=
  ((indicesOf p.bands).filter fun i => permitted.testBit (subBandOf i) && !p.active.contains i).map carrierOf

/-- The phase of the Benchmark tone on carrier k in payload symbol n, in units of 2π/1024 (R208). -/
def benchPhase (k n : Nat) : Nat := (syncPhase k + 128 * (n % 8)) % 1024

/-- The unique bits of a DEEP-64 frame: the FCH's slots, then the payload's coded bits (R190). -/
def deepUnique (d : Nat) (fch coded : List Bool) (i : Nat) : Bool :=
  let f := convCode fch
  if i < fchBlocks d * d then f.getD (i % 112) false else coded.getD (i - fchBlocks d * d) false

/-- The phases on the carriers of symbol n of a DEEP-64 frame, from those of the symbol before (R188, R189): copy g of
unique slot r of a group stands at position 5g + r. -/
def deepNext (bands : Nat) (fch coded : List Bool) (n : Nat) (prev : List Nat) : List Nat :=
  let idx := indicesOf bands
  let data := dataPlaces n idx.length
  let count := data.length
  let slot := 5 * (n / 320) + n % 320 / 16 % 5
  (List.range idx.length).map fun j =>
    if data.contains j then
      let v := robustBit (data.idxOf j) (n % 16) 16 count fun b => deepUnique count fch coded (slot * count + b)
      (prev.getD j 0 + (if v then 512 else 0)) % 1024
    else syncPhase (carrierOf (idx.getD j 0))

/-- The phases of SYNCD, from which a DEEP-64 frame counts (R164, R189). -/
def deepFirst (bands : Nat) : List Nat := (indicesOf bands).map fun i => (syncPhase (carrierOf i) + 256) % 1024

/-- The phases of symbols n to n + count − 1 of a DEEP-64 frame, each from the one before. -/
def deepRun (bands : Nat) (fch coded : List Bool) : Nat → Nat → List Nat → List (List Nat)
  | 0, _, _ => []
  | count + 1, n, prev =>
    let now := deepNext bands fch coded n prev
    now :: deepRun bands fch coded count (n + 1) now

/-- The sample rate's frame length after its last symbol, and its air time in whole microseconds (R161, R162). -/
def airMicros (samples : Nat) : Nat := (samples + 1) / 2

end Sys2Proof.Machine
end

