-- ==== Sys2Proof/Machine/Sounding.lean ====
section
/-!
DEFINITION. Sounding (06_sounding.md): coefficients and how they change, what own transmissions and received frames
teach, contour maps, fingerprints, coupler health.
-/

namespace Sys2Proof.Machine

/-! ### Coefficients (R203 to R213) -/

/-- Key of a coefficient: its class and its place within it. -/
def coefKey (cls place : Nat) : Nat := cls * 2 ^ 26 + place

/-- Places of the classes (R203). -/
def agcPlace (n c : Nat) : Nat := 18 * n + c
def groupPlace (n g : Nat) : Nat := 28 * n + g
def zlPlace (n s : Nat) : Nat := 4 * n + s
def channelPlace (node g e : Nat) : Nat := 252 * node + 9 * g + e

/-- A magnitude that nothing has measured: below every dB value of an observation. -/
def unmeasured : Int := -1000000000

/-- The starting value of a class (R204): 3 dB for a gain boundary, unity for the port responses, none for the line
impedance and the channel estimates. -/
def coefStart (key : Nat) : Coef :=
  match key / 2 ^ 26 with
  | 0 => Coef.start 3000000 0
  | 1 => Coef.start 0 0
  | 2 => Coef.start 0 0
  | 4 => Coef.start unmeasured 0
  | _ => Coef.start 0 0

/-- A coefficient; the driver loss starts at LP_THERM.LOSS of its bank (R153). -/
def Block.coef (b : Block) (key : Nat) : Coef :=
  match b.sound.coefs.find? (fun p => p.1 == key) with
  | some p => p.2
  | none =>
    if key / 2 ^ 26 = 5 then Coef.start (b.get (Reg.LP_THERM_LOSS (6 * (key % 2 ^ 26))) * 1000000) 0 else coefStart key

/-- Replace a coefficient. -/
def Block.setCoef (b : Block) (key : Nat) (c : Coef) : Block :=
  { b with sound := { b.sound with coefs := Store.insert (Store.erase b.sound.coefs key) key c } }

/-- A difference of phases in 10^-6 degrees, reduced to one turn. -/
def phaseDiff (x y : Int) : Int := (x - y + 180000000) % 360000000 - 180000000

/-- Whether two magnitudes lie within a limit in 0.05 dB (R210). Classes 0, 1, 2 and 4 hold dB; class 3 a ratio of
amplitudes, 20·log10; class 5 a ratio of powers, 10·log10 (DEDUCED, log entry 21). -/
def magWithin (cls : Nat) (x y : Int) (limit : Nat) : Bool :=
  let close (e : Nat) : Bool :=
    0 < x && 0 < y && x.toNat ^ e ≤ y.toNat ^ e * 10 ^ limit && y.toNat ^ e ≤ x.toNat ^ e * 10 ^ limit
  match cls with
  | 3 => close 400
  | 5 => close 200
  | _ => (x - y).natAbs ≤ limit * 50000

/-- The magnitude limit of a coefficient in 0.05 dB (R212): a gain boundary has one step more until it is
calibrated. -/
def Block.magLimit (b : Block) (cls : Nat) (c : Coef) : Nat :=
  b.get (Reg.SND_LIM_MAG cls) + (if cls = 0 ∧ c.accepted.length < 3 then 1 else 0)

/-- `within` of R210: both limits of the class. -/
def Block.within (b : Block) (cls : Nat) (c : Coef) (x y : CoefVal) : Bool :=
  magWithin cls x.mag y.mag (b.magLimit cls c) &&
    (cls == 5 || (phaseDiff x.phase y.phase).natAbs ≤ b.get (Reg.SND_LIM_PHASE cls) * 250000)

/-- Whether observations are independent (R211): distinct frames and cycles; for class 0, three come from two nodes at
least. -/
def independent (cls : Nat) (xs : List ObsFrom) : Bool :=
  (xs.map (·.frame)).Nodup && (xs.map (·.cycle)).Nodup &&
    (cls != 0 || xs.length < 3 || 2 ≤ (xs.map (·.node)).dedup.length)

/-- Accept an observation's origin towards the three of R215, R220 and R221. -/
def Coef.accept (c : Coef) (cls : Nat) (x : ObsFrom) : Coef :=
  if c.accepted.length < 3 && independent cls (x :: c.accepted) then { c with accepted := x :: c.accepted } else c

/-- The mean of two values (R210). -/
def meanVal (x y : CoefVal) : CoefVal :=
  { mag := (x.mag + y.mag) / 2, phase := x.phase + phaseDiff y.phase x.phase / 2 }

/-- One eighth of the way from an accumulator to an observation (R210). -/
def stepVal (a o : CoefVal) : CoefVal :=
  { mag := a.mag + (o.mag - a.mag) / 8, phase := a.phase + phaseDiff o.phase a.phase / 8 }

/-- What an observation does to a coefficient (R210, R213): the coefficient, and whether a candidate was confirmed. While FREEZE
is 1 candidates are opened, joined and replaced as always, and the observation that would confirm one is left out (log entry
181). -/
def Coef.observe (c : Coef) (cls : Nat) (near : CoefVal → CoefVal → Bool) (frozen : Bool) (sf : Nat) (o : CoefVal)
    (x : ObsFrom) : Coef × Bool :=
  let fresh : Held := { value := o, count := 1, first := sf, origins := [x] }
  if near o c.active then
    let a := stepVal c.acc o
    (({ c with acc := a, pending := if frozen then c.pending else some a }).accept cls x, false)
  else match c.held with
    | none => ({ c with held := some fresh }, false)
    | some h =>
      if near o h.value then
        let h := { h with value := meanVal h.value o, count := h.count + 1, origins := x :: h.origins }
        if h.count = 3 ∧ independent cls h.origins ∧ frozen then (c, false)
        else if h.count = 3 ∧ independent cls h.origins then
          let c := h.origins.foldl (fun c y => c.accept cls y) { c with accepted := [] }
          ({ c with active := h.value, acc := h.value, pending := some h.value, held := none }, true)
        else ({ c with held := some h }, false)
      else ({ c with held := some fresh }, false)

/-- Candidates now held. -/
def Block.heldCount (b : Block) : Nat := (b.sound.coefs.filter fun p => p.2.held.isSome).length

/-- Drop a held candidate that has reached HOLD superframes (R210); none ages while FREEZE is 1 (R213). -/
def Block.expire (b : Block) (key : Nat) : Block :=
  let c := b.coef key
  match c.held with
  | some h =>
    if !b.on Reg.SND_CTRL_FREEZE && h.first + b.get Reg.SND_CTRL_HOLD ≤ b.superframe then
      (b.setCoef key { c with held := none }).inc Reg.SND_EXPIRED_COUNT
    else b
  | none => b

/-! ### What a coefficient shows in registers -/

/-- A signed value in units of `unit` × 10^-6, rounded down, as a field of w bits. -/
def inUnits (v : Int) (unit : Nat) : Int := v / (unit : Int)

/-- Whether a coefficient has three accepted observations. -/
def Block.calibrated (b : Block) (cls place : Nat) : Bool := 3 ≤ (b.coef (coefKey cls place)).accepted.length

/-- The gain ceiling of a port (R134). -/
def Block.gainCeiling (b : Block) (n : Nat) : Nat :=
  if b.on (Reg.LP_CTRL_XBAND_RX n) then min 18 (b.get (Reg.LP_AGC_CTRL_TX_GAIN_MAX n)) else 18

/-- The precoding groups that hold a carrier of a band set (R194). -/
def groupsOf (bands : Nat) : List Nat := (List.range 28).filter fun g => (indicesOf bands).any fun i => groupOf i == g

/-- SND_CAL_STAT.PORT_CAL of a port (R220); where it clears, CROSS_PHASE_OFF is recorded. -/
def Block.refreshPortCal (b : Block) (n : Nat) : Block :=
  let done := (groupsOf (b.permitted n)).all fun g =>
    b.calibrated 1 (groupPlace n g) && b.calibrated 2 (groupPlace n g)
  let was := b.bit Reg.SND_CAL_STAT_PORT_CAL n
  let b := b.setBit Reg.SND_CAL_STAT_PORT_CAL n done
  if was && !done then b.post 0x0606 1 21 [(1, n / 3), (1, n)] else b

/-- LP_STATUS.AGC_CAL of a port (R136): every boundary between code 0 and the ceiling is calibrated. -/
def Block.showAgcCal (b : Block) (n : Nat) : Block :=
  b.setOn (Reg.LP_STATUS_AGC_CAL n) ((List.range (b.gainCeiling n)).all fun k => b.calibrated 0 (agcPlace n k))

/-- Registers and statuses follow a coefficient (R136, R153, R215, R220, R221, R235). -/
def Block.showCoef (b : Block) (cls place : Nat) : Block :=
  let c := b.coef (coefKey cls place)
  let cal := 3 ≤ c.accepted.length
  match cls with
  | 0 =>
    let n := place / 18
    let k := place % 18
    let b := b.setAll [(Reg.SND_AGCR_GAIN n k, (inUnits c.active.mag 1000).toNat),
      (Reg.SND_AGCR_PHASE n k, unsignedOf 12 (inUnits c.active.phase 10000)), (Reg.SND_AGCR_CAL n k, if cal then 1 else 0)]
    b.showAgcCal n
  | 1 => b.refreshPortCal (place / 28)
  | 2 => b.refreshPortCal (place / 28)
  | 3 =>
    let n := place / 4
    let s := place % 4
    b.setAll [(Reg.SND_ZL_MAG n s, min 65535 (inUnits c.active.mag 1000000).toNat),
      (Reg.SND_ZL_PHASE n s, unsignedOf 12 (inUnits c.active.phase 100000)), (Reg.SND_ZL_VALID n s, if cal then 1 else 0)]
  | 5 => (List.range 6).foldl (fun b i =>
      b.set (Reg.LP_THERM_LOSS (6 * place + i)) (inUnits c.active.mag 1000000).toNat) b
  | _ => b

/-- Classes 0, 3 and 5 have no consumer between gain steps and admissions, so what is pending is active at once (R203,
R216); the others wait for COEFFICIENT_APPLY (R49). -/
def Block.promote (b : Block) (cls place : Nat) : Block :=
  let key := coefKey cls place
  let c := b.coef key
  let b := match c.pending with
    | some v => if cls = 0 ∨ cls = 3 ∨ cls = 5 then b.setCoef key { c with active := v, pending := none } else b
    | none => b
  b.showCoef cls place

/-- One observation of a coefficient (R210), with the port and node its CAL_JUMP record names. -/
def Block.observeCoef (b : Block) (cls place : Nat) (o : CoefVal) (x : ObsFrom) (port node : Nat) : Block :=
  if !b.on Reg.SND_CTRL_ENABLE then b
  else
    let key := coefKey cls place
    let c := b.coef key
    let out := c.observe cls (b.within cls c) (b.on Reg.SND_CTRL_FREEZE) b.superframe o x
    let b := (b.setCoef key out.1).promote cls place
    let b := if out.2 then
      (b.inc Reg.SND_CONFIRMED_COUNT).post 0x0601 1 21 [(1, cls), (1, port), (3, node)] else b
    let b := b.expire key
    b.set Reg.SND_HELD_COUNT b.heldCount

/-- The node index of a port coefficient's record (R234). -/
def noNode : Nat := 0x1FFFF

/-- Number the next observed frame or own transmission. -/
def Block.newFrame (b : Block) : Block := { b with sound := { b.sound with frames := b.sound.frames + 1 } }

/-- The origin of the observation at hand. -/
def Block.origin (b : Block) (x : Bearing) (node : Nat) : ObsFrom :=
  { frame := b.sound.frames, cycle := cycleOf x, node := node }

/-- CANDIDATE_EXPIRY (R210): every held candidate that has reached HOLD superframes expires. -/
def execCandidateExpiry (s : State) : Host.Outcome State Fault Refusal :=
  answer "CANDIDATE_EXPIRY" true s fun b =>
    let b := b.sound.coefs.foldl (fun b p => b.expire p.1) b
    b.set Reg.SND_HELD_COUNT b.heldCount

/-- Whether a coefficient belongs to a target of R49: classes 1 of a port and 4 of the nodes heard on it, or classes 2
of a triad's ports and 4 of the nodes on it. -/
def Block.inTarget (b : Block) (t : ApplyTarget) (key : Nat) : Bool :=
  let cls := key / 2 ^ 26
  let place := key % 2 ^ 26
  let node := Store.get (fun _ => Node.free) b.trv.nodes (place / 252)
  match t with
  | .lanes n => (cls == 1 && place / 28 == n.val) || (cls == 4 && node.rxPort == n.val)
  | .unit t => (cls == 2 && place / 84 == t.val) || (cls == 4 && node.rxPort / 3 == t.val)

/-- Whether the lanes of a port are at a frame boundary (R49). -/
def Block.lanesIdle (b : Block) (n : Nat) : Bool := (b.receiving n).isEmpty

/-- Whether the joint-detection units of a triad are at a frame boundary (R49): no frame of its three ports is on the line,
and none comes in that is cross-phase, or may be, as long as its FCH is not known. -/
def Block.unitIdle (b : Block) (t : Nat) : Bool :=
  !(b.mac.txs.any fun x => x.stage == .onLine && x.ports.length == 3 && x.ports.contains (3 * t)) &&
    [3 * t, 3 * t + 1, 3 * t + 2].all fun n => (b.receiving n).all fun l => match (b.lane l).current with
      | some r => r.g3 || (match r.frame with
          | some f => f.phy.streams == 0
          | none => false)
      | none => true

/-- Whether every consumer of a coefficient is at a frame boundary (R49, R203): the lanes of its port for class 1, the unit of
its triad for class 2, both for a node's channel. -/
def Block.mayApply (b : Block) (key : Nat) : Bool :=
  let place := key % 2 ^ 26
  let port := (Store.get (fun _ => Node.free) b.trv.nodes (place / 252)).rxPort
  match key / 2 ^ 26 with
  | 1 => b.lanesIdle (place / 28)
  | 2 => b.unitIdle (place / 84)
  | _ => b.lanesIdle port && b.unitIdle (port / 3)

/-- A pending coefficient becomes active. -/
def Block.applyCoef (b : Block) (key : Nat) (c : Coef) : Block :=
  match c.pending with
  | some v => b.setCoef key { c with active := v, pending := none }
  | none => b

/-- Pending coefficients of a target become active at a frame boundary of what uses them (R49). -/
def Block.applyTarget (b : Block) (t : ApplyTarget) : Block :=
  b.sound.coefs.foldl (fun b p => if b.inTarget t p.1 && b.mayApply p.1 then b.applyCoef p.1 p.2 else b) b

/-- FREEZE returns to 0 (R213): accumulators within their limits become pending, and candidates age on from where they
stood. -/
def Block.unfreeze (b : Block) : Block :=
  let b := b.set Reg.SND_CTRL_FREEZE 0
  b.sound.coefs.foldl (fun b p =>
    let cls := p.1 / 2 ^ 26
    let c := { p.2 with
      held := p.2.held.map fun h => { h with first := h.first + (b.superframe - max b.sound.freezeSince h.first) }
      pending := if b.within cls p.2 p.2.acc p.2.active then some p.2.acc else p.2.pending }
    (b.setCoef p.1 c).promote cls (p.1 % 2 ^ 26)) b

/-- SND_CTRL.FREEZE is written. -/
def Block.setFreeze (b : Block) (on : Bool) : Block :=
  if on == b.on Reg.SND_CTRL_FREEZE then b
  else if on then
    { b with sound := { b.sound with freezeSince := b.superframe } }.set Reg.SND_CTRL_FREEZE 1
  else b.unfreeze

/-- SOUNDING_UNFREEZE (R213). -/
def execSoundingUnfreeze (s : State) : Host.Outcome State Fault Refusal :=
  answer "SOUNDING_UNFREEZE" true s fun b => b.byPf fun b => b.setFreeze false

/-! ### Own transmissions (R206, R217, R221 to R223, R231) -/

/-- The coupler ratio of a transmission (R149, R231): it joins the base of the first 64, or is held against it. -/
def Block.couplerRatio (b : Block) (n ratio : Nat) : Block :=
  let b := b.set (Reg.LP_CPL_STAT_RATIO n) ratio
  let p := b.port n
  if p.baseCount < 64 then
    let sum := p.baseSum + ratio
    let b := b.setPort n { p with baseSum := sum, baseCount := p.baseCount + 1 }
    if p.baseCount = 63 then b.setAll [(Reg.SND_CPL_BASE_BASE n, sum / 64), (Reg.SND_CPL_BASE_VALID n, 1)] else b
  else
    let base := b.get (Reg.SND_CPL_BASE_BASE n)
    let away : Bool := base * b.get Reg.SND_CPL_CTRL_TOL < (max ratio base - min ratio base) * 100
    let run := if away then p.departures + 1 else 0
    let b := b.setPort n { p with departures := run }
    if run = 3 then b.couplerEvent n (if base < ratio then 0 else 1) else b

/-- An operand in thousandths as a value in 10^-6. -/
def milli (m p : Int) : CoefVal := { mag := m * 1000, phase := p * 1000 }

/-- Whether a port alone drives a carrier of a precoding group in some symbol of a frame (R217): any carrier of a frame of
that one port, or a Benchmark tone that it drives in a frame of three. -/
def Tx.drivesAlone (x : Tx) (n g : Nat) : Bool :=
  if x.ports.length < 3 then (groupsOf x.bands).contains g
  else x.line.any fun s => s.tones.any fun t => t.port == n && groupOf t.carrier == g

/-- What one port of an own transmission teaches, of the sub-bands and groups of the frame (R217, R221): Z_L per sub-band, R per group, and μ = T / R where both
are measured. -/
def Block.observePort (b : Block) (tx : Tx) (n : Nat) (m : PortMeasure) (x : ObsFrom) : Block :=
  let groups := groupsOf tx.bands
  let b := (m.zl.filter fun z => tx.bands.testBit z.1).foldl (fun b z =>
    b.observeCoef 3 (zlPlace n z.1) { mag := z.2.1 * 1000000, phase := z.2.2 * 100000 } x n noNode) b
  let b := (m.response.filter fun r => groups.contains r.1).foldl (fun b r =>
    b.observeCoef 1 (groupPlace n r.1) (milli r.2.1 r.2.2) x n noNode) b
  (m.transmit.filter fun t => tx.drivesAlone n t.1).foldl (fun b t =>
    match m.response.find? (fun r => r.1 == t.1) with
    | some r => b.observeCoef 2 (groupPlace n t.1) (milli (t.2.1 - r.2.1) (t.2.2 - r.2.2)) x n noNode
    | none => b) b

/-- The cross-band filters of a triad. -/
def Block.xbc (b : Block) (t : Nat) : XbcSt := Store.get (fun _ => XbcSt.reset) b.ports.xbc t

/-- Replace the cross-band filters of a triad. -/
def Block.setXbc (b : Block) (t : Nat) (x : XbcSt) : Block :=
  { b with ports := { b.ports with xbc := Store.put (fun _ => XbcSt.reset) b.ports.xbc t x } }

/-- A filter set adapted on a transmission becomes pending if its depth is at most 3 dB below that of the active set
(R222). What it subtracts from the receive samples is in what the lanes hear (log entry 173). -/
def Block.adaptXbc (b : Block) (t : Nat) (m : TxMeasure) : Block :=
  let x := b.xbc t
  let good : Bool := match x.active with
    | some a => decide (a.depth ≤ m.depth.toNat + 3)
    | none => true
  if good ∧ m.filters ≠ [] then b.setXbc t { x with pending := some { depth := m.depth.toNat, taps := m.filters } } else b

/-- What Sounding takes from an own transmission that was neither cut nor lost a slice (R206). -/
def Block.observeTx (b : Block) (x : Tx) (m : TxMeasure) : Block :=
  let b := (List.range m.ports.length).foldl (fun b i =>
    match x.ports[i]?, m.ports[i]? with
    | some n, some pm => b.couplerRatio n pm.ratio.toNat
    | _, _ => b) b
  if x.lostSlice || !b.on Reg.SND_CTRL_ENABLE then b
  else
    let b := b.newFrame
    let from' := b.origin x.start noNode
    let b := (List.range m.ports.length).foldl (fun b i =>
      match x.ports[i]?, m.ports[i]? with
      | some n, some pm => b.observePort x n pm from'
      | _, _ => b) b
    b.adaptXbc (x.ports.headD 0 / 3) m

/-- XBC_FILTER_APPLY (R138): a pending set takes effect while no port of the triad transmits. -/
def Block.applyXbc (b : Block) (t : Nat) : Block :=
  let ports := [3 * t, 3 * t + 1, 3 * t + 2]
  match (b.xbc t).pending with
  | some d =>
    if ports.any b.sending then b
    else
      let b := b.setXbc t { active := some d, pending := none }
      ports.foldl (fun b n =>
        (b.set (Reg.LP_XBC_STAT_DEPTH n) d.depth).set (Reg.LP_STATUS_XBC_CONV n) (if 50 ≤ d.depth then 1 else 0)) b
  | none => b

/-- XBC_FILTER_APPLY (R138). -/
def execXbcFilterApply (t : Fin 8) (s : State) : Host.Outcome State Fault Refusal :=
  answer "XBC_FILTER_APPLY" true s fun b => b.applyXbc t

/-- The driver loss of a bank over the superframe in which it last sent, once for each (R223, log entry 182): the surplus of its
supply power over the idle dissipation against the sum of P_out, handled as class 5 within 128 to 384 (R153). -/
def Block.lossObservation (b : Block) (bank supply idle : Nat) : Block :=
  let x := Store.get (fun _ => BankSent.reset) b.ports.sent bank
  if b.dev != .service || x.out == 0 || x.observed then b
  else
    let loss := max 128000000 (min 384000000 (256000000 * (supply - idle) * 65536 / x.out))
    let b := { b with ports := { b.ports with
      sent := Store.put (fun _ => BankSent.reset) b.ports.sent bank { x with observed := true } } }
    let b := b.newFrame
    b.observeCoef 5 bank { mag := loss, phase := 0 } (b.origin b.brg.now noNode) (6 * bank) noNode

/-- LOSS_OBSERVATION (R223). -/
def execLossObservation (bank : Fin 4) (supplyMw idleMw : Nat) (s : State) : Host.Outcome State Fault Refusal :=
  answer "LOSS_OBSERVATION" true s fun b => b.lossObservation bank supplyMw idleMw

/-- Classes 1 and 2 of a port restart from R204 (R233). -/
def Block.restartPort (b : Block) (n : Nat) : Block :=
  let mine (key : Nat) : Bool :=
    (key / 2 ^ 26 == 1 || key / 2 ^ 26 == 2) && key % 2 ^ 26 / 28 == n
  let b := { b with sound := { b.sound with coefs := b.sound.coefs.filter fun p => !mine p.1 } }
  (b.set Reg.SND_HELD_COUNT b.heldCount).refreshPortCal n

/-- Held candidates of a port are discarded (R233). -/
def Block.dropHeld (b : Block) (n : Nat) : Block :=
  let mine (key : Nat) : Bool := match key / 2 ^ 26 with
    | 0 => key % 2 ^ 26 / 18 == n
    | 1 => key % 2 ^ 26 / 28 == n
    | 2 => key % 2 ^ 26 / 28 == n
    | 3 => key % 2 ^ 26 / 4 == n
    | _ => false
  let unheld (p : Nat × Coef) : Nat × Coef := if mine p.1 then (p.1, { p.2 with held := none }) else p
  let b := { b with sound := { b.sound with coefs := b.sound.coefs.map unheld } }
  b.set Reg.SND_HELD_COUNT b.heldCount

/-! ### Received frames (R205, R214, R218, R224) -/

/-- Boundaries that a gain step crosses. -/
def boundaries (c d : Nat) : List Nat := (List.range (max c d - min c d)).map fun i => min c d + i

/-- The product of the active ratios of some boundaries of a port. -/
def Block.ratioOf (b : Block) (n : Nat) (ks : List Nat) : CoefVal :=
  let vs := ks.map fun k => (b.coef (coefKey 0 (agcPlace n k))).active
  { mag := (vs.map (·.mag)).sum, phase := (vs.map (·.phase)).sum }

/-- A gain step during a received frame (R214): one Δ-th of the error to each boundary; of a DEEP-64 frame the error of the
magnitude alone (R205). -/
def Block.observeStep (b : Block) (n c d : Nat) (deep : Bool) (o : CoefVal) (x : ObsFrom) : Block :=
  let ks := boundaries c d
  if ks.length < 1 ∨ 4 < ks.length then b
  else
    let r := b.ratioOf n ks
    let up : Int := if c < d then 1 else -1
    let err : CoefVal := { mag := up * o.mag - r.mag, phase := if deep then 0 else up * o.phase - r.phase }
    ks.foldl (fun b k =>
      let v := (b.coef (coefKey 0 (agcPlace n k))).active
      b.observeCoef 0 (agcPlace n k)
        { mag := v.mag + err.mag / (ks.length : Int), phase := v.phase + err.phase / (ks.length : Int) } x n noNode) b

/-- Thresholds of the loadings in 0.25 dB at a rate (R225), with their codes, highest first. -/
def loadThresholds (rate : CodeRate) : List (Nat × Nat) :=
  [(7, 112), (6, 88), (5, 64), (4, 40), (3, 32), (2, 16), (1, 4)].map fun p =>
    (p.1, p.2 + (if rate = 0 then 0 else 2 + 4 * rate))

/-- The loading of a carrier (R225). -/
def loadingFor (rate : CodeRate) (margin snr : Nat) : Nat :=
  match (loadThresholds rate).find? fun p => p.2 + margin ≤ snr with
  | some p => p.1
  | none => 0

/-- Information bits per symbol in twelfths (R225), over the streams. -/
def mapInfo (rate : CodeRate) (codes : List Nat) : Nat :=
  (codes.map loadBits).sum * [6, 8, 9, 10].getD rate 6

/-- Loadings of the streams within a limit, 112 codes a stream: a carrier that is off in stream 0 is off in every stream
(R182). -/
def streamCodes (limit : Nat) (codes : List Nat) : List Nat :=
  (List.range codes.length).map fun i => if codes.getD (i % 112) 0 = 0 ∨ 112 * limit ≤ i then 0 else codes.getD i 0

/-- The computed map (R225): the rate with the most information bits, the lower on a tie, and its loadings. -/
def computeMap (margin limit : Nat) (snr : List Nat) : CodeRate × List Nat :=
  let codes (r : CodeRate) : List Nat := streamCodes limit (snr.map fun x => loadingFor r margin x)
  (List.range 4).foldl (fun best r =>
    if mapInfo best.1 best.2 < mapInfo r (codes r) then (r, codes r) else best) (0, codes 0)

/-- The SNR of each carrier and stream after a further frame, with weight 1/4 (R224); 255 stands for unmeasured. -/
def mixSnr (old new : List Nat) : List Nat :=
  (List.range (max 112 (max old.length new.length))).map fun i =>
    let o := old.getD i 0
    let x := new.getD i 255
    if x = 255 then o else if old.length ≤ i then x else (3 * o + x) / 4

/-- A link takes an observation of its SNR and may propose a map (R226), of as many streams as the link may use. -/
def LinkMap.observe (l : LinkMap) (margin gain minSf sf limit : Nat) (snr : List Nat) (x : ObsFrom) : LinkMap :=
  let snr := mixSnr l.snr snr
  let m := computeMap margin limit snr
  let places := List.range (max m.2.length l.loading.length)
  let old (i : Nat) : Nat := l.loading.getD i 0
  let lowered := places.any fun i => old i != 0 && m.2.getD i 0 < old i
  let votes := if independent 4 (x :: l.votes.map (·.1)) then ((x, m.2) :: l.votes).take 3 else l.votes
  let l := { l with snr := snr, votes := votes }
  if lowered then
    let codes := streamCodes limit (places.map fun i => min (old i) (m.2.getD i 0))
    { l with proposed := some (m.1, codes, (l.generation + 1) % 256) }
  else
    let supported := votes.length == 3 && places.all fun i =>
      m.2.getD i 0 ≤ old i || votes.all fun v => m.2.getD i 0 ≤ v.2.getD i 0
    let info := mapInfo l.rate l.loading
    let better := info * (100 + gain) ≤ mapInfo m.1 m.2 * 100 && info < mapInfo m.1 m.2
    if supported && better && l.changed + minSf ≤ sf then { l with proposed := some (m.1, m.2, (l.generation + 1) % 256) }
    else l

/-- The map bookkeeping of a node in a direction: uplink or downlink. -/
def Block.link (b : Block) (up : Bool) (node : Nat) : LinkMap :=
  Store.get (fun _ => LinkMap.reset) (if up then b.sound.up else b.sound.down) node

/-- Replace the map bookkeeping of a node. -/
def Block.setLink (b : Block) (up : Bool) (node : Nat) (l : LinkMap) : Block :=
  if up then { b with sound := { b.sound with up := Store.put (fun _ => LinkMap.reset) b.sound.up node l } }
  else { b with sound := { b.sound with down := Store.put (fun _ => LinkMap.reset) b.sound.down node l } }

/-- Observe the SNR of a link (R224 to R226). -/
def Block.observeSnr (b : Block) (up : Bool) (node limit : Nat) (snr : List Nat) (x : ObsFrom) : Block :=
  if snr.isEmpty || !b.on Reg.SND_CTRL_ENABLE then b
  else b.setLink up node ((b.link up node).observe (b.get Reg.SND_MAP_CTRL_MARGIN) (b.get Reg.SND_MAP_CTRL_GAIN)
    (b.get Reg.SND_MAP_CTRL_MIN_SF) b.superframe limit snr x)

/-! ### Fingerprints (R227 to R230) -/

/-- The fingerprint of a node. -/
def Block.fingerprint (b : Block) (node : Nat) : Fingerprint :=
  Store.get (fun _ => Fingerprint.reset) b.sound.prints node

/-- Replace the fingerprint of a node. -/
def Block.setFingerprint (b : Block) (node : Nat) (f : Fingerprint) : Block :=
  { b with sound := { b.sound with prints := Store.put (fun _ => Fingerprint.reset) b.sound.prints node f } }

/-- Attenuations as a frame gives them, 255 unmeasured. -/
def attOf (bs : List Byte) : List (Option Nat) :=
  (List.range 28).map fun g =>
    let v := (bs.getD g 255).toNat
    if v = 255 then none else some v

/-- The mean of several observations: each group over those that measured it. -/
def meanPrint (xs : List (List (Option Nat) × Nat)) : List (Option Nat) × Nat :=
  let group (g : Nat) : Option Nat :=
    let vs := xs.filterMap fun x => (x.1[g]?).join
    if vs.isEmpty then none else some (vs.sum / vs.length)
  ((List.range 28).map group, (xs.map (·.2)).sum / max 1 xs.length)

/-- The distance of R228 as a fraction, in 0.25 dB: numerator and denominator. -/
def printDistance (w : Nat) (ref : List (Option Nat)) (refTau : Nat) (cur : List (Option Nat)) (tau : Nat) : Nat × Nat :=
  let diffs := (List.range 28).filterMap fun g => match (ref[g]?).join, (cur[g]?).join with
    | some x, some y => some (max x y - min x y)
    | _, _ => none
  let dt := max tau refTau - min tau refTau
  -- τ is in 0.5 µs and W in 0.25 dB per µs
  (2 * diffs.sum + w * dt * max 1 diffs.length, 2 * max 1 diffs.length)

/-- Replace the reference of a node's fingerprint with a mean (R229, R230). -/
def Block.rebasePrint (b : Block) (node cause : Nat) (m : List (Option Nat) × Nat) (port : Nat) : Block :=
  let f := b.fingerprint node
  let b := b.setFingerprint node { f with ref := m.1, refTau := m.2, refValid := true, shift := false, beyond := [],
                                          port := port, refSet := b.superframe, count := 0 }
  (b.inc Reg.SND_FP_REBASES_COUNT).post 0x0603 0 21 [(3, node), (1, cause)]

/-- Why a confirmed shift is explained (R229): 0 route, 1 port, 2 coupler or phase. -/
def Block.explained (b : Block) (f : Fingerprint) (node port : Nat) : Option Nat :=
  let hold := b.get Reg.SND_CTRL_HOLD
  let recent (e : Option Nat) : Bool := match e with
    | some sf => b.superframe ≤ sf + hold || f.refSet ≤ sf
    | none => false
  if recent (Store.get (fun _ => none) b.sound.routeEvents node) then some 0
  else if port ≠ f.port then some 1
  else if [3 * (port / 3), 3 * (port / 3) + 1, 3 * (port / 3) + 2].any
      fun n => recent (Store.get (fun _ => none) b.sound.portEvents n) then some 2
  else none

/-- An unexplained shift (R229, R230): the event, or with more than BULK nodes on its port within one HOLD span one
record and a rebase of every one of them. -/
def Block.printShift (b : Block) (node port short d : Nat) (m : List (Option Nat) × Nat) : Block :=
  let live := b.sound.shifts.filter fun x => b.superframe < x.2.2 + b.get Reg.SND_CTRL_HOLD && x.2.1 != node
  let shifts := (port, node, b.superframe) :: live
  let b := { b with sound := { b.sound with shifts := shifts } }
  let here := shifts.filter fun x => x.1 == port
  if b.get Reg.SND_FP_CTRL_BULK < here.length then
    let b := b.post 0x0604 2 21 [(1, port), (3, here.length)]
    let b := here.foldl (fun b x =>
      let f := b.fingerprint x.2.1
      b.rebasePrint x.2.1 3 (if x.2.1 = node then m else (f.cur, f.curTau)) port) b
    { b with sound := { b.sound with shifts := shifts.filter fun x => x.1 != port } }
  else
    let f := b.fingerprint node
    ((b.setFingerprint node { f with shift := true, beyond := [] }).inc Reg.SND_FP_EVENTS_COUNT).post 0x0602 2 21
      [(3, node), (3, short), (1, port), (1, min 255 d)]

/-- A confirmed shift (R229). -/
def Block.printConfirmed (b : Block) (node port short d : Nat) : Block :=
  let f := b.fingerprint node
  let m := meanPrint ((f.beyond.take 3).map fun x => (x.2.2.1, x.2.2.2))
  match b.explained f node port with
  | some cause => b.rebasePrint node cause m port
  | none => b.printShift node port short d m

/-- One observation of a node's direct channel (R227, R228). -/
def Block.observePrint (b : Block) (node port short : Nat) (att : List (Option Nat)) (tau : Nat) (x : ObsFrom) : Block :=
  if !b.on Reg.SND_CTRL_ENABLE then b
  else
    let f := b.fingerprint node
    let f := { f with cur := att, curTau := tau, count := min 255 (f.count + 1) }
    if !f.refValid then
      let got := f.collecting ++ [(att, tau)]
      if got.length < 8 then b.setFingerprint node { f with collecting := got }
      else
        let m := meanPrint got
        b.setFingerprint node { f with ref := m.1, refTau := m.2, refValid := true, collecting := [], port := port,
                                       refSet := b.superframe }
    else
      let d := printDistance (b.get Reg.SND_FP_CTRL_TAU_W) f.ref f.refTau att tau
      if d.1 ≤ b.get Reg.SND_FP_CTRL_THR * d.2 then b.setFingerprint node f
      else
        let live := f.beyond.filter fun y => b.superframe < y.2.1 + b.get Reg.SND_CTRL_HOLD
        let beyond := if independent 4 (x :: live.map (·.1)) then (x, b.superframe, att, tau) :: live else live
        let b := b.setFingerprint node { f with beyond := beyond }
        if 3 ≤ beyond.length then b.printConfirmed node port short (d.1 / d.2) else b

/-- The 64 bytes of SND_FP_WINDOW for a node (R235). -/
def Block.printWindow (b : Block) (node : Nat) : List Byte :=
  let f := b.fingerprint node
  let atts (xs : List (Option Nat)) : List Byte :=
    (List.range 28).map fun g => BitVec.ofNat 8 (((xs[g]?).join).getD 255)
  let flags := (if f.refValid then 1 else 0) + (if f.shift then 2 else 0)
  (if f.refValid then atts f.ref else List.replicate 28 0) ++ toLe 1 f.refTau ++ toLe 1 flags ++ [0, 0] ++
    (if f.cur.isEmpty then List.replicate 28 0 else atts f.cur) ++ toLe 1 f.curTau ++ toLe 1 f.count ++ [0, 0]

/-- SND_FP_CMD (R235): 1 REBASE, 2 WRITE_REF, 3 CLEAR_SHIFT, on node SND_FP_NODE. -/
def Block.printCmd (b : Block) (cmd : Nat) : Block :=
    let node := b.get Reg.SND_FP_NODE_INDEX
    let f := b.fingerprint node
    match cmd with
    | 1 =>
      let b := b.setFingerprint node { f with refValid := false, collecting := [], beyond := [], shift := false, count := 0 }
      (b.inc Reg.SND_FP_REBASES_COUNT).post 0x0603 0 21 [(3, node), (1, 4)]
    | 2 =>
      let bytes := Store.range (fun _ => (0 : Byte)) b.sound.window 0 29
      b.setFingerprint node { f with ref := attOf bytes, refTau := byteAt bytes 28, refValid := true, collecting := [],
                                     beyond := [], refSet := b.superframe, count := 0
                                     port := (Store.get (fun _ => Node.free) b.trv.nodes node).rxPort }
    | 3 => b.setFingerprint node { f with shift := false }
    | _ => b

/-- REBASE (R235). -/
def execRebase (s : State) : Host.Outcome State Fault Refusal := answer "REBASE" true s fun b => b.byPf fun b => b.printCmd 1

/-- WRITE_REF (R235). -/
def execWriteRef (s : State) : Host.Outcome State Fault Refusal := answer "WRITE_REF" true s fun b => b.byPf fun b => b.printCmd 2

/-- CLEAR_SHIFT (R235). -/
def execClearShift (s : State) : Host.Outcome State Fault Refusal := answer "CLEAR_SHIFT" true s fun b => b.byPf fun b => b.printCmd 3

/-! ### What a received frame teaches -/

/-- H_ul of a node as the extended state holds it (R293): the active estimates of class 4, zero where there is none. -/
def Block.channelBytes (b : Block) (node : Nat) : List Byte :=
  (List.range 252).flatMap fun e =>
    match b.sound.coefs.find? (fun p => p.1 == coefKey 4 (252 * node + e)) with
    | some p => toLe 4 (Config.elementCode p.2.active.mag p.2.active.phase)
    | none => [0, 0, 0, 0]

/-- The estimates of class 4 take what a copy of the extended state spells (R322): an element that differs starts anew. -/
def Block.takeChannel (b : Block) (node : Nat) (bs : List Byte) : Block :=
  let had := b.channelBytes node
  (List.range 252).foldl (fun b e =>
    let v := leAt bs (4 * e) 4
    if v = leAt had (4 * e) 4 then b
    else b.setCoef (coefKey 4 (252 * node + e)) (Coef.start (Config.elementValue v).1 (Config.elementValue v).2)) b

/-- Element (row, column) of H_ul of a group (R293): 16-bit I, then 16-bit Q. -/
def channelElement (h : List Byte) (g row col : Nat) : Int × Int :=
  let o := 36 * g + 12 * row + 4 * col
  (signedOf 16 (leAt h o 2), signedOf 16 (leAt h (o + 2) 2))

/-- The elements of H_dl of a node on a triad in a group (R218), branch by branch: H_ul transposed, each column times the
mismatch of its port. -/
def Block.downMatrix (b : Block) (node t g : Nat) : List (Int × Int) :=
  let h := b.channelBytes node
  (List.range 9).map fun e =>
    let mu := (b.coef (coefKey 2 (groupPlace (3 * t + e % 3) g))).active
    Config.downlink (channelElement h g (e % 3) (e / 3)) (mu.mag, mu.phase)

/-- The SNR of a downlink's streams (R224): stream 0 as the node reports it, those beyond it of H_dl. -/
def Block.downSnr (b : Block) (node t limit : Nat) (snr : List Nat) : List Nat :=
  let hs := (List.range 28).map fun g => b.downMatrix node t g
  snr ++ (List.range (112 * (limit - 1))).map fun i =>
    let v := snr.getD (i % 112) 255
    if v = 255 then 255 else Config.streamSnr (hs.getD (groupOf (i % 112)) []) v (1 + i / 112) % 255

/-- A received frame that is an observation (R205), from a node heard directly on a port, of the groups of its band set: gain
ratios, channel estimates, SNR and fingerprint. `xband`: the XBAND flag; `deep`: a DEEP-64 frame, whose phases are not
observed. -/
def Block.observeFrame (b : Block) (node port short limit bands : Nat) (xband deep : Bool) (sync : Bearing) (o : Observed) :
    Block :=
  if !b.on Reg.SND_CTRL_ENABLE then b
  else
    let groups := groupsOf bands
    let carriers := indicesOf bands
    let b := b.newFrame
    let x := b.origin sync node
    let b := if xband then b else o.steps.foldl (fun b s =>
      b.observeStep port s.1 s.2.1 deep (milli s.2.2.1 s.2.2.2) x) b
    let b := (o.estimates.filter fun e => groups.contains e.1.val).foldl (fun b e =>
      let place := channelPlace node e.1 e.2.1
      let v := milli e.2.2.1 e.2.2.2
      let v := if deep then { v with phase := (b.coef (coefKey 4 place)).active.phase } else v
      b.observeCoef 4 place v x port node) b
    let snr := (List.range o.snr.length).map fun i => if carriers.contains (i % 112) then byteAt o.snr i else 255
    let b := b.observeSnr true node limit snr x
    let att := (List.range 28).map fun g => if groups.contains g then (attOf o.att).getD g none else none
    b.observePrint node port short att o.tau.toNat x

end Sys2Proof.Machine
end

