-- ==== Sys2Proof/Machine/Nodes.lean ====
section
/-!
DEFINITION. The node table (08_traverse.md): entries and the bytes they show (R290, R293, R298, R450), short addresses
(R286, R287), the counts of R326, allocation (R289), subtrees and paths.
-/

namespace Sys2Proof.Machine

/-! ### Entries as bytes -/

/-- A flag as a number. -/
def bitOf (x : Bool) : Nat := if x then 1 else 0

/-- The 64 bytes of a core entry (R290). -/
def Node.toBytes (n : Node) : List Byte :=
  toLe 8 n.long.toNat ++
  toLe 4 (n.short % 2 ^ 20 + n.state % 8 * 2 ^ 20 + bitOf n.relay * 2 ^ 23 + n.depth % 16 * 2 ^ 24 +
    bitOf n.sleeps * 2 ^ 28 + bitOf n.threePh * 2 ^ 29 + bitOf n.orphan * 2 ^ 30 + bitOf n.pinned * 2 ^ 31) ++
  toLe 2 (n.caps % 2 ^ 9 + n.owner % 16 * 2 ^ 9 + bitOf n.rdvDir * 2 ^ 13 + bitOf n.unreachable * 2 ^ 14) ++
  toLe 2 n.phi ++ toLe 3 n.parent ++ toLe 3 n.alt ++ toLe 1 n.rxPort ++
  toLe 1 (n.phase % 4 + n.phTriad % 8 * 4 + n.phCode % 8 * 32) ++ toLe 2 n.phEst ++ toLe 2 n.link ++ toLe 2 n.metric ++
  toLe 2 (n.rcSlot % 16 + n.rcPhase % 8 * 16 + n.rcBand % 2 * 128 + n.rcMiss % 4 * 256) ++ toLe 4 n.lastSf ++
  toLe 6 n.bLast.toNat ++ toLe 6 n.vnext.toNat ++ toLe 2 n.rdvQ ++ toLe 1 n.txSeq ++ toLe 1 n.rxSeq ++ toLe 2 n.pseq ++
  toLe 1 n.ulMap ++ toLe 1 n.dlMap ++ toLe 1 n.nverAck ++ toLe 1 (n.step % 8 + n.fails % 8 * 8) ++ [0, 0, 0, 0] ++
  toLe 2 n.entrySeq

/-- The core entry that 64 bytes spell (R290). -/
def Node.ofBytes (bs : List Byte) : Node :=
  let w := leAt bs 8 4
  let c := leAt bs 12 2
  let p := byteAt bs 0x17
  let r := leAt bs 0x1E 2
  { long := BitVec.ofNat 64 (leAt bs 0 8), short := bitsAt w 0 20, state := bitsAt w 20 3, relay := w.testBit 23
    depth := bitsAt w 24 4, sleeps := w.testBit 28, threePh := w.testBit 29, orphan := w.testBit 30
    pinned := w.testBit 31, caps := bitsAt c 0 9, owner := bitsAt c 9 4, rdvDir := c.testBit 13
    unreachable := c.testBit 14, phi := leAt bs 0x0E 2, parent := leAt bs 0x10 3, alt := leAt bs 0x13 3
    rxPort := byteAt bs 0x16 % 32, phase := bitsAt p 0 2, phTriad := bitsAt p 2 3, phCode := bitsAt p 5 3
    phEst := leAt bs 0x18 2, link := leAt bs 0x1A 2, metric := leAt bs 0x1C 2, rcSlot := bitsAt r 0 4
    rcPhase := bitsAt r 4 3, rcBand := bitsAt r 7 1, rcMiss := bitsAt r 8 2, lastSf := leAt bs 0x20 4
    bLast := BitVec.ofNat 48 (leAt bs 0x24 6), vnext := BitVec.ofNat 48 (leAt bs 0x2A 6), rdvQ := leAt bs 0x30 2
    txSeq := byteAt bs 0x32, rxSeq := byteAt bs 0x33, pseq := leAt bs 0x34 2, ulMap := byteAt bs 0x36 % 64
    dlMap := byteAt bs 0x37 % 64, nverAck := byteAt bs 0x38, step := byteAt bs 0x39 % 8, fails := byteAt bs 0x39 / 8 % 8
    entrySeq := leAt bs 0x3E 2 }

/-- The 16 bytes of a route entry (R298). -/
def Route.toBytes (r : Route) (pinned : Bool) : List Byte :=
  toLe 3 r.first ++ toLe 3 r.altFirst ++ toLe 1 r.port ++ toLe 1 r.altPort ++ toLe 2 r.metric ++ toLe 2 r.altMetric ++
    toLe 1 (r.depth % 16 + r.altDepth % 16 * 16) ++ toLe 1 r.rver ++ toLe 1 (bitOf r.usingAlt + 2 * bitOf pinned) ++ [0]

/-- The route entry that 16 bytes spell (R298). -/
def Route.ofBytes (bs : List Byte) : Route :=
  { first := leAt bs 0 3, altFirst := leAt bs 3 3, port := byteAt bs 6 % 32, altPort := byteAt bs 7 % 32
    metric := leAt bs 8 2, altMetric := leAt bs 10 2, depth := byteAt bs 12 % 16, altDepth := byteAt bs 12 / 16
    rver := byteAt bs 13, usingAlt := (byteAt bs 14).testBit 0 }

/-- The 24 bytes of a time record (R450). -/
def TimeRec.toBytes (t : TimeRec) : List Byte :=
  toLe 4 t.rttRef ++ toLe 4 t.rttLast ++ toLe 4 (unsignedOf 32 t.offsetLast) ++ toLe 4 (unsignedOf 32 t.corr) ++
    toLe 1 (bitOf t.refValid + 2 * bitOf t.frozen + 4 * bitOf t.asym) ++ toLe 1 t.agree ++ toLe 1 t.seqT ++ [0] ++
    toLe 4 (t.lastSf % 2 ^ 29)

/-- The eight bytes of a neighbour (R293). -/
def Neigh.toBytes (x : Neigh) : List Byte := toLe 3 x.short ++ toLe 1 x.snr ++ toLe 2 x.rel ++ toLe 2 x.sf

/-! ### Reading and writing entries -/

/-- A core entry. -/
def Block.node (b : Block) (x : Nat) : Node := Store.get (fun _ => Node.free) b.trv.nodes x

/-- The rest of what is kept of a node. -/
def Block.ext (b : Block) (x : Nat) : NodeExt := Store.get (fun _ => NodeExt.reset) b.trv.ext x

/-- A route entry. -/
def Block.route (b : Block) (x : Nat) : Route := Store.get (fun _ => Route.none) b.trv.routes x

/-- The two latest map generations of a direction as R293 keeps them: 130 bytes each, the later one first. -/
def mapArea (ms : List MapGen) : List Byte :=
  slice ((ms[0]?.map (·.bytes)).getD []) 0 130 ++ slice ((ms[1]?.map (·.bytes)).getD []) 0 130

/-- The 2 KiB of a node's extended state (R293). -/
def Block.extBytes (b : Block) (x : Nat) : List Byte :=
  let e := b.ext x
  let snrArea (up : Bool) : List Byte := (b.link up x).snr.flatMap (toLe 1)
  mapArea e.ulMaps ++ mapArea e.dlMaps ++ slice (snrArea true) 0 112 ++ slice (snrArea false) 0 112 ++ b.printWindow x ++
    b.channelBytes x ++ (slice (e.omegas.flatMap (toLe 2)) 0 32) ++
    (slice (e.neigh.flatMap Neigh.toBytes) 0 128) ++ e.time.toBytes ++ List.replicate 48 0

/-- SA_BASE (R287). -/
def Block.saBase (b : Block) : Nat := b.get Reg.TRV_PART_SA_BASE * 0x20000

/-- The short address of an entry (R287). -/
def Block.shortOf (b : Block) (x : Nat) : Nat := b.saBase + x

/-- The entry that holds a short address, if it is in use (R287). -/
def Block.indexOf (b : Block) (short : Nat) : Option Nat :=
  if b.saBase ≤ short ∧ short < b.saBase + 131072 ∧ (b.node (short - b.saBase)).state ≠ 0 then
    some (short - b.saBase) else none

/-- Whether the table is at home (R288, R322). -/
def Block.home (b : Block) : Bool := !b.on Reg.TRV_PART_ROLE

/-- Entries that satisfy a test. -/
def Block.countNodes (b : Block) (p : Node → Bool) : Nat := (b.trv.nodes.filter fun x => p x.2).length

/-- The counts of R326 follow the table. -/
def Block.refreshCounts (b : Block) : Block :=
  let live (n : Node) : Bool := n.state == 2
  let b := b.setAll [(Reg.TRV_STAT_ASSOC, b.countNodes live),
    (Reg.TRV_RELAY_STAT_RELAYS, min 255 (b.countNodes fun n => live n && n.relay)),
    (Reg.TRV_RELAY_STAT_ORPHAN, min 255 (b.countNodes fun n => n.relay && n.orphan))]
  (List.range 8).foldl (fun b t =>
    let on (n : Node) : Bool := live n && n.phTriad == t
    let leg (m : Nat) (n : Node) : Bool := on n && n.phCode == 1 && n.phase == m
    b.setAll [(Reg.TRV_PH_A_L1 t, b.countNodes (leg 0)), (Reg.TRV_PH_A_L2 t, b.countNodes (leg 1)),
      (Reg.TRV_PH_B_L3 t, b.countNodes (leg 2)),
      (Reg.TRV_PH_B_OTHER t, b.countNodes fun n => on n && (n.phCode == 2 || n.phCode == 3))]) b

/-- Write a core entry: ENTRY_SEQ advances (R290), the change goes to the partner (R322), the counts follow. -/
def Block.setNode (b : Block) (x : Nat) (n : Node) : Block :=
  let old := b.node x
  let n := { n with entrySeq := (old.entrySeq + 1) % 65536 }
  (({ b with trv := { b.trv with nodes := Store.put (fun _ => Node.free) b.trv.nodes x n } }).replicate replCore x
    old.toBytes n.toBytes).refreshCounts

/-- Change a core entry. -/
def Block.modNode (b : Block) (x : Nat) (f : Node → Node) : Block := b.setNode x (f (b.node x))

/-- Write a route entry. -/
def Block.setRoute (b : Block) (x : Nat) (r : Route) : Block :=
  let pinned := (b.node x).pinned
  ({ b with trv := { b.trv with routes := Store.put (fun _ => Route.none) b.trv.routes x r } }).replicate replRoute x
    ((b.route x).toBytes pinned) (r.toBytes pinned)

/-- Write the rest of what is kept of a node. -/
def Block.setExt (b : Block) (x : Nat) (e : NodeExt) : Block :=
  let new := { b with trv := { b.trv with ext := Store.put (fun _ => NodeExt.reset) b.trv.ext x e } }
  if b.replicates then new.replicate replExt x (b.extBytes x) (new.extBytes x) else new

/-- Change the rest of what is kept of a node. -/
def Block.modExt (b : Block) (x : Nat) (f : NodeExt → NodeExt) : Block := b.setExt x (f (b.ext x))

/-- A down table of a relay, as its ACKs have confirmed it (R299, R300). -/
def Block.downOf (b : Block) (short : Nat) : List (Nat × Nat) := Store.get (fun _ => []) b.trv.down short

/-- Replace a relay's down table. -/
def Block.setDown (b : Block) (short : Nat) (l : List (Nat × Nat)) : Block :=
  { b with trv := { b.trv with down := Store.put (fun _ => []) b.trv.down short l } }

/-! ### The tree -/

/-- The device's own address in a hop (R244). -/
def addrDevice : Nat := 0
def addrUnassociated : Nat := 0xFFFFE
def addrBroadcast : Nat := 0xFFFFF

/-- Whether a node stands in the tree: joining or associated. -/
def Node.inTree (n : Node) : Bool := n.state == 1 || n.state == 2

/-- The children of a node: entries whose PARENT it is. -/
def Block.children (b : Block) (short : Nat) : List Nat :=
  (b.trv.nodes.filter fun p => p.2.inTree && p.2.parent == short).map (·.1)

/-- The entries below some entries, to a depth. -/
def Block.below (b : Block) : Nat → List Nat → List Nat
  | 0, _ => []
  | n + 1, xs =>
    let kids := xs.flatMap fun x => b.children (b.node x).short
    kids ++ b.below n kids

/-- The subtree of a node, without the node: depth is at most 15. -/
def Block.subtree (b : Block) (x : Nat) : List Nat := b.below 15 [x]

/-- Short addresses from a node's parent up to the device. -/
def Block.pathFrom (b : Block) : Nat → Nat → List Nat
  | 0, _ => []
  | n + 1, short =>
    if short = addrDevice then [addrDevice]
    else match b.indexOf short with
      | some x => short :: b.pathFrom n (b.node x).parent
      | none => [short]

/-- The upward path of a node: its parent first. -/
def Block.pathUp (b : Block) (x : Nat) : List Nat := b.pathFrom 16 (b.node x).parent

/-- The relay nearest the device on the way to an entry with a given parent: the node itself at depth 1 (R298). -/
def Block.firstHop (b : Block) (x parent : Nat) : Nat :=
  ((((b.node x).short :: b.pathFrom 16 parent).filter (· != addrDevice)).getLast?).getD (b.node x).short

/-- The parent's METRIC plus the hop, plus HOP_PEN when the parent is a relay (R295). -/
def Block.pathMetric (b : Block) (parent link : Nat) : Nat :=
  match b.indexOf parent with
  | some p => min 65535 ((b.node p).metric + link + b.get Reg.TRV_ROUTE_CTRL_HOP_PEN)
  | none => min 65535 link

/-- A node's METRIC follows its parent's and its LINK (R295), and so do those of its subtree. -/
def Block.refreshMetrics (b : Block) (x : Nat) : Block :=
  (x :: b.subtree x).foldl (fun b y =>
    let n := b.node y
    let m := b.pathMetric n.parent n.link
    if m = n.metric then b
    else (b.modNode y fun n => { n with metric := m }).setRoute y { b.route y with metric := m }) b

/-! ### Ranges and allocation (R287 to R289) -/

/-- The range of a function, if it exists (R622): first index and size. -/
def Block.rangeOf (b : Block) (fn : Nat) : Option (Nat × Nat) :=
  let w := (b.setting (0x3040 + 8 * fn)).toNat
  if w.testBit 31 then some (bitsAt w 0 17, bitsAt (b.setting (0x3044 + 8 * fn)).toNat 0 18) else none

/-- The function that receives joins on a triad (R288). -/
def Block.joinFn (b : Block) (t : Nat) : Nat := bitsAt (b.setting (0x3100 + 4 * t)).toNat 0 4

/-- Entries that would take a reserved address (R287). -/
def Block.neverAllocated (b : Block) (x : Nat) : Bool :=
  b.shortOf x == addrDevice || b.shortOf x == addrUnassociated || b.shortOf x == addrBroadcast

/-- The entry of a range with this long address in a state other than FREE. -/
def Block.holderOf (b : Block) (lo size : Nat) (long : BitVec 64) : Option Nat :=
  (b.trv.nodes.find? fun p => lo ≤ p.1 && p.1 < lo + size && p.2.state != 0 && p.2.long == long).map (·.1)

/-- The first FREE entry from an index on, cyclically through a range. -/
def Block.freeEntry (b : Block) (lo size start : Nat) : Option Nat :=
  let taken := b.trv.nodes.filter fun p => p.2.state != 0
  -- among `taken.length + 4` consecutive entries one is free, or the range is no longer than that
  ((List.range (min size (taken.length + 4))).map fun i => lo + (start + i) % size).find? fun x =>
    !b.neverAllocated x && (b.node x).state == 0

/-- The LAPSED entry of a range with the oldest LAST_SF. -/
def Block.lapsedEntry (b : Block) (lo size : Nat) : Option Nat :=
  ((b.trv.nodes.filter fun p => lo ≤ p.1 && p.1 < lo + size && p.2.state == 3).foldl
    (fun best p => match best with
      | none => some p
      | some q => if p.2.lastSf < q.2.lastSf then some p else some q) none).map (·.1)

/-- The entry a joining node takes in a range (R289). -/
def Block.allocate (b : Block) (lo size : Nat) (long : BitVec 64) : Option Nat :=
  if size = 0 then none
  else match b.holderOf lo size long with
    | some x => some x
    | none => match b.freeEntry lo size (long.toNat % size) with
      | some x => some x
      | none => b.lapsedEntry lo size

/-! ### Link contexts of a node (R388) -/

/-- The page of link security. -/
def linkPage : Nat := 16

/-- A key context (R388, R389). -/
def Block.ctx (b : Block) (page n : Nat) : Ctx := Store.get (fun _ => Ctx.closed) b.cx.ctxs (page * 2 ^ 19 + n)

/-- Number of the link context of entry x: DIR 0 downlink, DIR 1 uplink. -/
def linkCtx (x : Nat) (up : Bool) : Nat := 2 * x + bitOf up

/-- Whether the link context of an entry is OPEN. -/
def Block.linkOpen (b : Block) (x : Nat) (up : Bool) : Bool := (b.ctx linkPage (linkCtx x up)).state == 1

/-- Whether a SEND to FINAL may be queued (R363, R399): an ASSOCIATED node of the HOME table, with an OPEN downlink
context where link security is required. -/
def Block.sendAllowed (b : Block) (final : Nat) : Bool :=
  b.home && (match b.indexOf final with
    | some x => (b.node x).state == 2 && (!b.on Reg.CX_CTRL_LINK_REQUIRED || b.linkOpen x false)
    | none => false)

end Sys2Proof.Machine
end

