-- ==== Sys2Proof/Machine/Signal.lean ====
section
/-!
DEFINITION. The transmitted signal of a Gweol frame (05_gweol_phy.md): the values on the carriers of its preamble, header,
training and payload symbols, and its samples as exact sums.
-/

namespace Sys2Proof.Machine

/-! ### Symbols (R157, R164, R170, R193, R195) -/

/-- One value on every usable carrier of a band set: SYNCP turned by a phase (R164). -/
def syncValues (bands turn : Nat) : List (Nat × CarrierValue) :=
  (indicesOf bands).map fun i => (carrierOf i, .phase ((syncPhase (carrierOf i) + turn) % 1024))

/-- The preamble (R157, R164, R165): SYNCP symbols, then SYNCM, or SYNCD in a DEEP-64 frame. -/
def preambleLine (bands syncs : Nat) (deep : Bool) : List SentSymbol :=
  let symbol (i turn : Nat) : SentSymbol :=
    { start := 512 * i, cyclic := false, streams := [syncValues bands turn], tones := [] }
  (List.range syncs).map (fun i => symbol i 0) ++ [symbol syncs (if deep then 256 else 512)]

/-- The FCH symbols (R170, R186): block n / 4 holds the unique bits f_(j mod 112) from j = D × (n / 4) on. -/
def fchLine (bands first : Nat) (fch : List Bool) : List SentSymbol :=
  let code := convCode fch
  let count := dataCount (indicesOf bands).length
  (List.range (fchSymbols bands)).map fun n =>
    { start := first + 576 * n, cyclic := true, tones := []
      streams := [robustSymbol bands n (n % 4) 4 fun j => code.getD ((n / 4 * count + j) % 112) false] }

/-- Entry (q, τ) of the Hadamard matrix of R193 as a turn: 0 or half. -/
def hadamardTurn (q x : Nat) : Nat := if (q &&& x).testBit 0 != (q / 2 &&& x / 2).testBit 0 then 512 else 0

/-- Training symbol τ of a frame of the device (R193): one branch per stream. -/
def trainingSymbol (bands streams x start : Nat) : SentSymbol :=
  { start := start, cyclic := true, tones := []
    streams := (List.range (max 1 streams)).map fun q => syncValues bands (hadamardTurn q x) }

/-- The values of payload symbol i, the n-th after the preamble, stream by stream (R181, R183, R184, R186, R195). -/
def payloadStreams (p : PhyMode) (coded : List Bool) (n i : Nat) : List (List (Nat × CarrierValue)) :=
  match robustOf p.mode with
  | some r =>
    let count := dataCount p.active.length
    [robustSymbol p.bands n (i % r) r fun j => coded.getD (i / r * count + j) false]
  | none =>
    let width (q : Nat) : Nat := ((dataPlaces n p.active.length).map fun j => p.bitsOn q (p.active.getD j 0)).sum
    (List.range p.dataStreams).map fun q =>
      mappedSymbol p q n (coded.drop (p.capacity i + ((List.range q).map width).sum))

/-- The symbols of a frame after its preamble and header: training, then payload (R157); a DEEP-64 frame has its header
among them (R187 to R190). `tones` gives the Benchmark tones of payload symbol n. -/
def bodyLine (p : PhyMode) (fch coded : List Bool) (positions : List Nat) (tones : Nat → List Tone) : List SentSymbol :=
  if p.mode = 3 then
    (positions.zip (deepRun p.bands fch coded positions.length 0 (deepFirst p.bands))).map fun x =>
      { start := x.1, cyclic := true, tones := []
        streams := [((indicesOf p.bands).zip x.2).map fun y => (carrierOf y.1, .phase y.2)] }
  else
    let head := fchSymbols p.bands
    let training := trainingOf p.streams
    (List.range positions.length).map fun i =>
      let start := positions.getD i 0
      if i < training then trainingSymbol p.bands p.dataStreams i start
      else { start := start, cyclic := true, tones := tones (head + i)
             streams := payloadStreams p coded (head + i) (i - training) }

/-- Every symbol of a frame as it is sent (R157). -/
def frameLine (p : PhyMode) (syncs : Nat) (fch coded : List Bool) (positions : List Nat) (tones : Nat → List Tone) :
    List SentSymbol :=
  preambleLine p.bands syncs (p.mode == 3) ++
    (if p.mode = 3 then [] else fchLine p.bands (preambleSamples syncs) fch) ++ bodyLine p fch coded positions tones

/-! ### Samples (R161, R162) -/

/-- How a sample is weighted at a symbol's edges (R162): not at all, by w[m] at its head, by 1 − w[m] in its postfix, with
w[m] = sin²(π(m + 0.5)/16). -/
inductive Taper where
  | flat
  | head (m : Nat)
  | tail (m : Nat)
deriving DecidableEq, Repr

/-- One term of a sample: Re{X × exp(2πj × angle/1024)} with its taper, a level in dB below the frame's, and the weight its
stream has on the port, in 2^-14. -/
structure SampleTerm where
  value : CarrierValue
  angle : Nat
  taper : Taper
  below : Nat
  weight : Int × Int
deriving DecidableEq, Repr

/-- Samples of a symbol before its postfix (R161). -/
def SentSymbol.length (x : SentSymbol) : Nat := if x.cyclic then 576 else 512

/-- The point of the body b[m] that sample m′ of a symbol is, with its taper; none outside it and its postfix. -/
def SentSymbol.pointAt (x : SentSymbol) (u : Nat) : Option (Nat × Taper) :=
  let m := u - x.start
  if u < x.start ∨ x.length + 8 ≤ m then none
  else if x.length ≤ m then some (m - x.length, .tail (m - x.length))
  else some ((if x.cyclic then (m + 448) % 512 else m), if m < 8 then .head m else .flat)

/-- The usable index of carrier k (R159). -/
def indexOfCarrier (k : Nat) : Nat := if k ≤ 31 then k - 10 else if k ≤ 37 then k - 11 else k - 13

/-- What a stream is multiplied by on a port at carrier k (R194): 1 where the frame has no weights. -/
def Tx.weightOf (x : Tx) (port stream k : Nat) : Int × Int :=
  if x.weights.isEmpty then (16384, 0)
  else ((x.weights.getD (groupOf (indexOfCarrier k)) []).getD (x.ports.idxOf port) []).getD stream (0, 0)

/-- Sample u of a frame at a port, as the terms whose sum it is (R161, R162, R194, R208): the postfix of a symbol falls on
the head of the next, or into a gap. -/
def Tx.sampleAt (x : Tx) (port u : Nat) : List SampleTerm :=
  x.line.flatMap fun s => match s.pointAt u with
    | some (m, taper) =>
      ((List.range s.streams.length).flatMap fun q => (s.streams.getD q []).map fun v =>
        { value := v.2, angle := 2 * v.1 * m % 1024, taper := taper, below := 0, weight := x.weightOf port q v.1 }) ++
      (s.tones.filter fun t => t.port == port).map fun t =>
        { value := .phase t.phase, angle := 2 * t.carrier * m % 1024, taper := taper, below := t.atten, weight := (16384, 0) }
    | none => []

end Sys2Proof.Machine
end

