-- ==== Sys2Proof/Machine/Frames.lean ====
section
/-!
DEFINITION. Frames as bytes and as samples: MAC headers, parcel records, grants and check values (R244, R245), the
parts of a frame on the wire (R157, R179, R190, R198), the frame start that meets no notch window (R197), and the
record of an admitted transmission with its attenuation, impedance and charge (R140, R142, R150).
-/

namespace Sys2Proof.Machine

/-! ### MAC frames (R244, R245) -/

/-- The number of a frame type (R243). -/
def typeCairn : Nat := 0
def typeCairnC : Nat := 1
def typeData : Nat := 2
def typeAck : Nat := 3
def typeAssocReq : Nat := 4
def typeAssocResp : Nat := 5
def typeMap : Nat := 6
def typeChmap : Nat := 7
def typeRdv : Nat := 8
def typeWake : Nat := 9
def typeTime : Nat := 10
def typeRoute : Nat := 11
def typeDisc : Nat := 12
def typeLeave : Nat := 13

/-- The type number that stands for a G3 frame among the transmissions; Gweol's types take 4 bits (R244). -/
def typeG3 : Nat := 16

/-- A check value of a frame is the definition's value, least significant byte first (R245). -/
def crc32le (bs : List Byte) : List Byte := toLe 4 (crc32c bs)

/-- CRC-16 with the parameters of R168, least significant byte first. -/
def crc16le (bs : List Byte) : List Byte := toLe 2 (checkOf crc16Def bs)

/-- The fields of a MAC header (R244). -/
structure MacHeader where
  net : Nat
  dst : Nat
  src : Nat
  seq : Nat
  ackReq : Bool
  grant : Bool
  more : Bool
  prio : Nat
  nparc : Nat
  evc : Nat
deriving DecidableEq, Repr

/-- The 14 bytes of a header (R244). -/
def MacHeader.toBytes (h : MacHeader) : List Byte :=
  let head := toLe 1 h.net ++ toLe 3 h.dst ++ toLe 3 h.src ++ toLe 1 h.seq ++
    toLe 1 (bitOf h.ackReq + 2 * bitOf h.grant + 4 * bitOf h.more + 8 * (h.prio % 8)) ++ toLe 1 (h.nparc % 16) ++
    toLe 2 h.evc
  head ++ crc16le head

/-- The header that the first 14 bytes of a frame spell. -/
def MacHeader.ofBytes (m : List Byte) : MacHeader :=
  let f := byteAt m 8
  { net := byteAt m 0, dst := leAt m 1 3 % 2 ^ 20, src := leAt m 4 3 % 2 ^ 20, seq := byteAt m 7
    ackReq := f.testBit 0, grant := f.testBit 1, more := f.testBit 2, prio := bitsAt f 3 3, nparc := byteAt m 9 % 16
    evc := leAt m 10 2 }

/-- Whether HCRC passes. -/
def headerOk (m : List Byte) : Bool := 14 ≤ m.length && slice m 12 2 == crc16le (slice m 0 12)

/-- Whether every reserved bit of a header is 0. -/
def headerReserved (m : List Byte) : Bool :=
  leAt m 1 3 < 2 ^ 20 && leAt m 4 3 < 2 ^ 20 && byteAt m 8 < 64 && byteAt m 9 < 16

/-- Whether the FCS at the end of a body of n bytes passes (R245). -/
def fcsOk (m : List Byte) (n : Nat) : Bool := 14 + n + 4 ≤ m.length && slice m (14 + n) 4 == crc32le (slice m 0 (14 + n))

/-- The 6 bytes of a grant (R245). -/
def grantBytes (g : Grant) : List Byte :=
  let w := g.start % 1024 + g.len % 512 * 2 ^ 10 + g.bands % 16 * 2 ^ 19 + g.superframe % 256 * 2 ^ 23
  toLe 4 w ++ crc16le (toLe 4 w)

/-- A parcel header (R245). -/
structure ParcelHeader where
  plen : Nat
  prio : Nat
  sec : Bool
  orig : Nat
  final : Nat
  fctr : Nat
  pseq : Nat
  gen : Nat
deriving DecidableEq, Repr

/-- The 16 bytes of a parcel header (R245). -/
def ParcelHeader.toBytes (h : ParcelHeader) : List Byte :=
  toLe 2 (h.plen % 2048 + h.prio % 8 * 2 ^ 11 + bitOf h.sec * 2 ^ 14) ++ toLe 3 h.orig ++ toLe 3 h.final ++
    toLe 4 h.fctr ++ toLe 2 h.pseq ++ toLe 1 h.gen ++ [0]

/-- The parcel header that 16 bytes spell. -/
def ParcelHeader.ofBytes (bs : List Byte) : ParcelHeader :=
  let w := leAt bs 0 2
  { plen := bitsAt w 0 11, prio := bitsAt w 11 3, sec := w.testBit 14, orig := leAt bs 2 3, final := leAt bs 5 3
    fctr := leAt bs 8 4, pseq := leAt bs 12 2, gen := byteAt bs 14 }

/-- A parcel record: header, body, tag, CRC-32C (R245). -/
def parcelRecord (h : ParcelHeader) (body tag : List Byte) : List Byte :=
  let bytes := h.toBytes ++ body ++ tag
  bytes ++ crc32le bytes

/-- The length of the parcel record that starts with these bytes. -/
def recordLength (h : ParcelHeader) : Nat := 16 + h.plen + (if h.sec then 12 else 0) + 4

/-- The next parcel record of a DATA frame and what follows it; none where the frame ends. -/
def nextRecord (bs : List Byte) : Option (List Byte × List Byte) :=
  let n := recordLength (ParcelHeader.ofBytes (slice bs 0 16))
  if n ≤ bs.length then some (bs.take n, bs.drop n) else none

/-- The first `n` parcel records of a DATA frame. -/
def recordsOf : Nat → List Byte → List (List Byte)
  | 0, _ => []
  | n + 1, bs => match nextRecord bs with
    | some (r, rest) => r :: recordsOf n rest
    | none => []

/-- Whether the CRC-32C of a parcel record passes. -/
def recordOk' (r : List Byte) : Bool := 20 ≤ r.length && slice r (r.length - 4) 4 == crc32le (r.take (r.length - 4))

/-! ### The wire (R157, R168, R179, R190, R198) -/

/-- What fixes a frame on the wire beside its content: PHY mode, the 26 FCH bits b0–b25 for a LENGTH, whether the
preamble is extended, the notch pattern with its windows, Φ_tx, frame start. -/
structure FrameShape where
  phy : PhyMode
  extended : Bool
  notch : Nat
  windows : List (Nat × Nat)
  phi : Nat
  start : Bearing
deriving DecidableEq, Repr

/-- A frame on the wire: SYNCP symbols, FCH bits, coded payload bits, start sample of each training and payload symbol,
samples. -/
structure Wire where
  syncs : Nat
  fch : List Bool
  coded : List Bool
  positions : List Nat
  samples : Nat
deriving DecidableEq, Repr

/-- SYNCP symbols of a frame's preamble (R157, R165). -/
def Block.syncSymbols (b : Block) (s : FrameShape) : Nat := if s.extended then extendedSync b.freq else 6

/-- The first sample after the preamble and, but for DEEP-64, the FCH (R157, R187). -/
def Block.headSamples (b : Block) (s : FrameShape) : Nat :=
  preambleSamples (b.syncSymbols s) + (if s.phy.mode = 3 then 0 else 576 * fchSymbols s.phy.bands)

/-- Samples from the frame start to its end as bu (R198). -/
def Block.samplesToBu (b : Block) (n : Nat) : Nat := n * b.freq / 2000000

/-- Training and payload symbols of a frame of a given LENGTH (R157, R190). -/
def symbolsAfterHead (p : PhyMode) (len : Nat) : Nat := if p.mode = 3 then 320 * len else trainingOf p.streams + len

/-- The wire of a frame that carries `mac`, or nothing but its FCH where `fchOnly` gives its head (R246, R169): none
where the mode cannot hold it. -/
def Block.wireOf (b : Block) (s : FrameShape) (type : Nat) (fchOnly : Option (List Bool)) (mac : List Byte) :
    Option Wire :=
  let stamp := stampOf s.start
  let len? := match fchOnly with
    | some _ => some 0
    | none => s.phy.lengthFor (8 * mac.length)
  match len? with
  | none => none
  | some len =>
    let fch := match fchOnly with
      | some head => fchWithCrc (head ++ lsbBits 12 stamp ++ [false, false]) s.phy.bands
      | none => fchBits type len s.phy.mode s.phy.streams s.notch stamp s.phy.bands
    let head := b.headSamples s
    let positions := symbolStarts (frameAngle stamp s.phi) b.freq s.windows (symbolsAfterHead s.phy len) head
    let coded := if fchOnly.isSome then []
      else codedPayload s.phy.rate (s.phy.capacity len) (scramblerSeed stamp) mac
    some { syncs := b.syncSymbols s, fch := fch, coded := coded, positions := positions
           samples := match positions.getLast? with
             | some p => p + 576
             | none => head }

/-- The first frame start at or after a bearing, in steps of 1 or of a superframe bin, whose preamble and FCH meet no
window (R197); none where a head too long for the gaps between the windows has none. -/
def Block.clearStart (b : Block) (s : FrameShape) (bins : Bool) : Nat → Bearing → Option Bearing
  | 0, _ => none
  | fuel + 1, x =>
    let a := frameAngle (stampOf x) s.phi
    let span := b.samplesToBu (b.headSamples s) + 16
    match firstMet s.windows none a (a + span) with
    | none => some x
    | some (_, e) =>
      let d := (e - a + 15) / 16 * 16 - angleOf x % 16
      let d := if bins then (d + 511) / 512 * 512 else d
      b.clearStart s bins fuel (x + BitVec.ofNat 48 d)

/-! ### Levels, impedance, charge (R140, R142, R150) -/

/-- The effective attenuation of a transmission on its ports over its span (R140): the greatest over them, since its
level is one. -/
def Block.attenFor (b : Block) (ports : List Nat) (a e : Bearing) : Nat :=
  (ports.map fun n =>
    let least := b.get (Reg.LP_TX_LEVEL_MIN_ATTEN n)
    max (b.get (Reg.LP_TX_LEVEL_ATTEN n)) (if (b.portMeets n a e).isEmpty then least else least + 3)).foldl max 0

/-- The sub-bands of a band set for which Sounding reports a port's line impedance (R204). -/
def Block.zlineBands (b : Block) (n bands : Nat) : List Nat :=
  (List.range 4).filter fun s => bands.testBit s && b.on (Reg.SND_ZL_VALID n s)

/-- The line impedance used for a port and a band set (R142), in 1/64 ohm: the mean of the magnitudes Sounding reports
for the band set's sub-bands (DESIGN CHOICE, log entry 36: the spec does not say how several sub-bands join). -/
def Block.zlineFor (b : Block) (n bands : Nat) : Nat :=
  let sbs := b.zlineBands n bands
  (sbs.map fun s => b.get (Reg.SND_ZL_MAG n s)).sum / max 1 sbs.length

/-- Whether a port's output impedance is computed from the line's (R142): MODE 1, once Sounding reports it (R204). -/
def Block.zoutComputed (b : Block) (n bands : Nat) : Bool :=
  b.get (Reg.LP_ZOUT_CTRL_MODE n) != 0 && !(b.zlineBands n bands).isEmpty

/-- The output impedance code of a port for a band set (R142): FIXED until Z_L is valid (R204). -/
def Block.zoutFor (b : Block) (n bands : Nat) : Nat :=
  if !b.zoutComputed n bands then b.get (Reg.LP_ZOUT_CTRL_FIXED n)
  else
    -- floor((Z_L × RATIO / 16 − 0.5) / 0.25 + 0.5) with Z_L in 1/64 ohm
    min 30 (((b.zlineFor n bands * b.get (Reg.LP_ZOUT_CTRL_RATIO n) : Nat) - (512 : Int) + 128) / 256).toNat

/-- Carriers a frame occupies (R150). -/
def PhyMode.carriers (p : PhyMode) : Nat := (indicesOf p.bands).length

/-- LOSS of a port set (R151): that of the first port's bank, which a triad shares. -/
def Block.lossFor (b : Block) (ports : List Nat) : Nat := b.get (Reg.LP_THERM_LOSS (ports.headD 0))

/-- The MAC bytes of an ACK (R247): 22 bytes. -/
def ackBytes (h : MacHeader) (seq pmask nver : Nat) : List Byte :=
  let m := h.toBytes ++ toLe 1 seq ++ toLe 2 pmask ++ toLe 1 nver
  m ++ crc32le m

/-- The PHY mode of the ACK of a frame (R258): the frame's own, or ROBUST-4 after a contour map. -/
def ackMode (p : PhyMode) : PhyMode :=
  { mode := if 16 ≤ p.mode then 0 else p.mode, bands := p.bands, map := [], streams := 0 }

/-- The close of the ACK window of a frame that ends at `last` (R259): 256 bu after the predicted end of its ACK, which a
node sends under its own offset (R198). -/
def Block.ackEndOf (b : Block) (s : FrameShape) (node : Option Nat) (last : Bearing) : Bearing :=
  let shape := { s with phy := ackMode s.phy, extended := false, phi := (node.map fun y => (b.node y).phi).getD s.phi }
  let start := (b.clearStart shape false 64 (last + 1024)).getD (last + 1024)
  match b.wireOf { shape with start := start } typeAck none (List.replicate 22 0) with
  | some w => start + BitVec.ofNat 48 (b.samplesToBu w.samples + 256)
  | none => start

/-- An admitted transmission: its frame on the wire, level, impedance, end and ACK window. -/
def Block.txOf (b : Block) (o : Offer) (ports : List Nat) (s : FrameShape) (seq : Nat) (fchOnly : Option (List Bool))
    (mac : List Byte) : Option Tx :=
  match b.wireOf s o.type fchOnly mac with
  | none => none
  | some w =>
    let last := s.start + BitVec.ofNat 48 (b.samplesToBu w.samples)
    some { offer := o, ports := ports, phy := s.phy, bands := s.phy.bands, mode := s.phy.mode, streams := s.phy.streams
           notch := s.notch, windows := s.windows, phi := s.phi, seq := seq, start := s.start, last := last
           ackEnd := if o.ackReq then b.ackEndOf s (b.indexOf o.dst) last else last
           samples := w.samples, micros := airMicros w.samples, atten := b.attenFor ports s.start last
           zout := ports.map fun n => b.zoutFor n s.phy.bands, carriers := s.phy.carriers, loss := b.lossFor ports
           charge := 0, fch := w.fch, mac := mac, coded := w.coded, syncs := w.syncs, positions := w.positions
           weights := [], line := [], lostSlice := false
           stage := .admitted }

/-- LENGTH of a transmission (R168, R190). -/
def Tx.lengthField (x : Tx) : Nat := (x.positions.length - trainingOf x.streams) / (if x.mode = 3 then 320 else 1)

/-- The same transmission with other MAC bytes of the same length, coded in its own mode. -/
def Tx.withMac (x : Tx) (mac : List Byte) : Tx :=
  { x with mac := mac
           coded := codedPayload x.phy.rate (x.phy.capacity x.lengthField) (scramblerSeed (stampOf x.start)) mac }

/-- Replace a transmission by number. -/
def Block.setTx (b : Block) (num : Nat) (f : Tx → Tx) : Block :=
  { b with mac := { b.mac with txs := b.mac.txs.map fun x => if x.offer.num == num then f x else x } }

/-- The Benchmark tones of payload symbol n of a frame (R207, R208). In a frame of three ports, symbol n's tones come from
port n mod 3 of the triad. -/
def Block.benchTones (b : Block) (x : Tx) (n : Nat) : List Tone :=
  if !b.on Reg.SND_CTRL_BENCH_EN then []
  else (x.ports.filter fun port => x.ports.length != 3 || port % 3 == n % 3).flatMap fun port =>
    (benchCarriers x.phy (b.permitted port)).map fun k =>
      { port := port, carrier := k, atten := b.get Reg.SND_CTRL_BENCH_ATTEN, phase := benchPhase k n }

/-- The power of Σ h × w over the ports of a group against that of the best single port (R196): at most 6 dB above it. The
elements h are those of H_dl, the weights in units of 2^-14. -/
def gainAllowed (h w : List (Int × Int)) : Bool :=
  let mul (x y : Int × Int) : Int × Int := (x.1 * y.1 - x.2 * y.2, x.1 * y.2 + x.2 * y.1)
  let power (x : Int × Int) : Nat := (x.1 * x.1 + x.2 * x.2).toNat
  let sum := (h.zip w).foldl (fun acc p => let m := mul p.1 p.2; (acc.1 + m.1, acc.2 + m.2)) (0, 0)
  let best := (h.map power).foldl max 0
  (power sum) ^ 5 ≤ 10 ^ 3 * (best * 2 ^ 28) ^ 5

/-- The best single port of a group (R196): the row of the largest magnitude in the first column, the lowest on a tie. -/
def bestPort (h : List (Int × Int)) : Nat :=
  let power (x : Int × Int) : Nat := (x.1 * x.1 + x.2 * x.2).toNat
  let top := (h.map power).foldl max 0
  ((List.range h.length).find? fun i => power (h.getD i (0, 0)) == top).getD 0

/-- The weights of a frame (R194, R196), per group, port and stream: none on a single port. The columns of the precoder are
the unit's own, free values of H_dl (R218, log entry 171); a combination that would gain more than 6 dB gives way
to the best single port. -/
def Block.weightsFor (b : Block) (x : Tx) : List (List (List (Int × Int))) :=
  if x.ports.length < 3 then []
  else
    let t := x.ports.headD 0 / 3
    (List.range 28).map fun g =>
      let h := ((b.indexOf x.offer.dst).map fun y => b.downMatrix y t g).getD []
      let rows := h.take 3
      let column (q : Nat) : List (Int × Int) := (List.range 3).map fun i => Config.precoder h i q
      let first := if x.phy.dataStreams = 1 ∧ !gainAllowed rows (column 0) then
          (List.range 3).map fun i => if i = bestPort rows then (16384, 0) else (0, 0)
        else column 0
      (List.range 3).map fun i => (List.range x.phy.dataStreams).map fun q => (if q = 0 then first else column q).getD i (0, 0)

/-- What a frame is at its start (R194, R197, R198): the frequency of that instant places its symbols, under the pattern and
the offset fixed for it; its weights and symbols are fixed to its end. A G3 frame's symbols are those of ITU-T G.9903 (R328),
which the spec does not give. -/
def Block.fixLine (b : Block) (x : Tx) : Tx :=
  if x.offer.type = typeG3 then x
  else
    let first := preambleSamples x.syncs + (if x.mode = 3 then 0 else 576 * fchSymbols x.bands)
    let positions := symbolStarts (frameAngle (stampOf x.start) x.phi) b.freq x.windows x.positions.length first
    let samples := match positions.getLast? with
      | some p => p + 576
      | none => first
    let last := x.start + BitVec.ofNat 48 (b.samplesToBu samples)
    let y := { x with positions := positions, samples := samples, last := last, ackEnd := x.ackEnd + (last - x.last)
                      weights := b.weightsFor x }
    { y with line := frameLine y.phy y.syncs y.fch y.coded positions fun n => b.benchTones y n }

/-- Sample u of a frame at a port as a DRIVE cell carries it (R148, R161, R479): 16 bits, clipped at a peak current in mA. -/
def Tx.sampleCode (x : Tx) (port u peak : Nat) : Nat :=
  Config.sampleCode ((x.sampleAt port u).map fun t => (match t.value with
      | .off => (0, 0, 1)
      | .phase p => ((p : Int), 0, 0)
      | .point i q d => (i, q, d),
    t.angle, match t.taper with
      | .flat => 0
      | .head m => m + 1
      | .tail m => m + 9,
    t.below, t.weight)) x.atten peak % 65536

end Sys2Proof.Machine
end

