-- ==== Sys2Proof/Machine/Ports.lean ====
section
/-!
DEFINITION. The meanings of the line ports' events (04_line_ports.md): automatic gain, slice health, bank supply and
temperature, the loss of VDDA_5.
-/

namespace Sys2Proof.Machine

/-! ### Automatic gain (R130 to R136) -/

/-- The next gain code (R130): a power more than 4.5 dB from the target moves it by one to four codes, between code 0
and the ceiling; with MODE 1 it is FIXED. `level` is the power in −0.1 dBFS. -/
def Block.nextGain (b : Block) (n level : Nat) : Nat :=
  let g := b.get (Reg.LP_AGC_STAT_GAIN n)
  let top := b.gainCeiling n
  let step := 1 + b.free % 4
  let target := b.get (Reg.LP_AGC_CTRL_TARGET n) * 10
  if b.on (Reg.LP_AGC_CTRL_MODE n) then min (b.get (Reg.LP_AGC_CTRL_FIXED n)) top
  else if level + 45 < target then min (g - step) top
  else if target + 45 < level then min (g + step) top
  else min g top

/-- The end of a 256 µs measurement (R130): its decision replaces a pending one, also one to leave the gain as it is (R132). -/
def Block.agcMeasure (b : Block) (n level : Nat) : Block :=
  if b.dev != .service || !b.on (Reg.LP_CTRL_ENABLE n) then b
  else
    let g := b.nextGain n level
    let b := b.draw.set (Reg.LP_AGC_STAT_LEVEL n) (min 255 (level / 10))
    b.setPort n { b.port n with agcPending := if g = b.get (Reg.LP_AGC_STAT_GAIN n) then none else some g }

/-- AGC_MEASURE (R130). -/
def execAgcMeasure (port : Fin 24) (level : Nat) (s : State) : Host.Outcome State Fault Refusal :=
  answer "AGC_MEASURE" true s fun b => b.agcMeasure port level

/-- The samples, from sample 0, at which the symbols after the preamble of a reception begin, as far as they are known now
(R157, R171, R198): those of the FCH follow one another; the others are where their peaks put them (R199). Of a frame whose
FCH is not yet known, `u` is the present sample. -/
def Reception.symbols (r : Reception) (u : Nat) : List Nat :=
  let first := preambleSamples r.syncs
  match r.frame with
  | none => (List.range ((u - first) / 576 + 1)).map fun i => first + 576 * i
  | some f =>
    let heads := if f.phy.mode = 3 then 0 else fchSymbols f.phy.bands
    (List.range heads).map (fun i => first + 576 * i) ++ f.starts.map fun s => ((s.1 : Int) + s.2).toNat

/-- The symbol that a frame is in or has just left: its number and the ticks since its start; none within the preamble. -/
def Block.symbolNow (b : Block) (r : Reception) : Option (Nat × Nat) :=
  let now := b.frameTicks r
  let past := (r.symbols (now / 125)).filter fun s => s * 125 ≤ now
  if !r.synced || past.isEmpty then none else some (past.length - 1, now - past.getLastD 0 * 125)

/-- Whether the present instant serves an anchor for a gain step (R132): from 2 µs to 28 µs after the start of its cyclic
prefix, or in a gap in which a notch window holds its next symbol back. The symbols of a G3 frame are not given, and
AGC_STEP itself names the instant there (log entry 174). -/
def Block.anchorAllows (b : Block) (r : Reception) : Bool :=
  r.g3 || (match b.symbolNow r with
    | some (i, t) =>
      (500 ≤ t && t ≤ 7000) || (72000 ≤ t && r.frame.isSome && i + 1 < (r.symbols 0).length)
    | none => false)

/-- Whether a lane is in the fifth or sixth SYNCP symbol or the SYNCM symbol of its frame (R132); SYNCD stands in its place in
a DEEP-64 frame. -/
def Block.inSync (b : Block) (r : Reception) : Bool :=
  let u := b.frameTicks r / 125
  !r.g3 && ((2048 ≤ u && u < 3072) || (512 * r.syncs ≤ u && u < 512 * (r.syncs + 1)))

/-- Whether a gain step may take effect now on a port (R131, R132). -/
def Block.stepInstant (b : Block) (n : Nat) : Bool :=
  (match (b.anchor n).bind fun l => (b.lane l).current with
   | some r => b.anchorAllows r
   | none => true) &&
    (b.receiving n).all fun l => match (b.lane l).current with
      | some r => !b.inSync r
      | none => true

/-- The symbol in whose FFT window a lane is (R133, R163): the window is the 512 samples from the 56th of the symbol on. -/
def Block.windowSymbol (b : Block) (r : Reception) : Option Nat :=
  match b.symbolNow r with
  | some (i, t) => if 56 * 125 ≤ t ∧ t < 568 * 125 then some i else none
  | none => none

/-- A gain step falls in an FFT window of a lane: the soft bits of that symbol are halved (R133). -/
def Block.halveSymbol (b : Block) (l : Nat) : Block :=
  match (b.lane l).reception with
  | some r => b.setLane l { b.lane l with reception := some { r with halved := r.halved ++ [((b.symbolNow r).map (·.1)).getD 0] } }
  | none => b

/-- Whether a gain step now falls in an FFT window of a lane (R133); for a G3 lane the step's sender says so. -/
def Block.stepHits (b : Block) (l : Nat) (inWindow : List Nat) : Bool :=
  match (b.lane l).current with
  | some r => if r.g3 then inWindow.contains l else (b.windowSymbol r).isSome
  | none => false

/-- The code to which a pending decision moves the gain now: FIXED in MODE 1, never above the ceiling (R130, R134). -/
def Block.decidedGain (b : Block) (n g : Nat) : Nat :=
  min (if b.on (Reg.LP_AGC_CTRL_MODE n) then b.get (Reg.LP_AGC_CTRL_FIXED n) else g) (b.gainCeiling n)

/-- The decided gain step takes effect at a usable instant (R132, R133, R135): the port's multiplier takes the inverse of the
ratio between the codes; the lanes other than the anchor whose FFT window holds the step are counted. -/
def Block.agcStep (b : Block) (n : Nat) (inWindow : List Nat) : Block :=
  match (b.port n).agcPending with
  | none => b
  | some g =>
    if !b.stepInstant n then b
    else
      let g := b.decidedGain n g
      let old := b.get (Reg.LP_AGC_STAT_GAIN n)
      let r := b.ratioOf n (boundaries old g)
      let sign : Int := if old < g then -1 else 1
      let p := b.port n
      let b := b.setPort n { p with agcPending := none, multDb := p.multDb + sign * r.mag,
                                    multDeg := p.multDeg + sign * r.phase }
      if g = old then b
      else
        let b := (b.set (Reg.LP_AGC_STAT_GAIN n) g).inc (Reg.LP_AGC_STEPS_COUNT n)
        let anchor := b.anchor n
        let hit := (b.receiving n).filter fun l =>
          b.stepHits l inWindow && anchor != ((b.lane l).current.map fun r => r.leadOf l)
        hit.foldl (fun b l => (b.halveSymbol l).inc (Reg.LP_AGC_INWIN_COUNT n)) b

/-- AGC_STEP (R132). -/
def execAgcStep (port : Fin 24) (inWindow : List (Fin 128)) (s : State) : Host.Outcome State Fault Refusal :=
  answer "AGC_STEP" true s fun b => b.agcStep port (inWindow.map (·.val))

/-- With no lane in a frame, the multiplier becomes that of the active ratios from code 0 to the present code
(R216). -/
def Block.agcRenormalise (b : Block) (n : Nat) : Block :=
  if !(b.receiving n).isEmpty then b
  else
    let r := b.ratioOf n (List.range (b.get (Reg.LP_AGC_STAT_GAIN n)))
    b.setPort n { b.port n with multDb := -r.mag, multDeg := -r.phase }

/-- AGC_RENORMALISE (R216). -/
def execAgcRenormalise (port : Fin 24) (s : State) : Host.Outcome State Fault Refusal :=
  answer "AGC_RENORMALISE" true s fun b => b.agcRenormalise port

/-! ### Slice health (R147, R148) -/

/-- A slice waits for a test. -/
def Block.awaitTest (b : Block) (n j : Nat) (why : SliceTest) : Block :=
  let p := b.port n
  b.setPort n { p with untested := (p.untested.filter fun x => x.1 != j) ++ [(j, why)] }

/-- The transmissions on the line at a port have lost an active slice (R206). -/
def Block.markLostSlice (b : Block) (n : Nat) : Block :=
  { b with mac := { b.mac with txs := b.mac.txs.map fun x =>
      if x.stage == .onLine && x.ports.contains n then { x with lostSlice := true } else x } }

/-- An active slice of a port in SERVICE. -/
def Block.sliceActive (b : Block) (n j : Nat) : Bool :=
  b.dev == .service && b.bit (Reg.LP_SLICE_STAT_ACTIVE_SET n) j && b.sliceHealthy n j

/-- A slice trips (R147). -/
def Block.sliceTrip (b : Block) (n j : Nat) : Block :=
  if !b.sliceActive n j then b
  else
    let b := (b.setBit (Reg.LP_SLICE_TRIP_TRIP n) j true).post 0x0401 0 0x41 [(1, n), (1, j)]
    ((b.awaitTest n j .trip).markLostSlice n).slicesChanged n

/-- SLICE_TRIP (R147). -/
def execSliceTrip (port : Fin 24) (slice : Fin 12) (s : State) : Host.Outcome State Fault Refusal :=
  answer "SLICE_TRIP" true s fun b => b.sliceTrip port slice

/-- The share monitor marks a slice suspect (R147). -/
def Block.sliceSuspect (b : Block) (n j : Nat) : Block :=
  if !b.sliceActive n j then b else ((b.awaitTest n j .share).markLostSlice n).slicesChanged n

/-- SLICE_SUSPECT (R147). -/
def execSliceSuspect (port : Fin 24) (slice : Fin 12) (s : State) : Host.Outcome State Fault Refusal :=
  answer "SLICE_SUSPECT" true s fun b => b.sliceSuspect port slice

/-- The code of a failed test (R154). -/
def SliceTest.code : SliceTest → Nat
  | .share => 1 | .trip => 2 | .rotation => 3

/-- Retire a slice until a full reset (R147). -/
def Block.retireSlice (b : Block) (n j test : Nat) : Block :=
  (b.setBit (Reg.LP_SLICE_STAT_RETIRED n) j true).post 0x0402 2 0x41 [(1, n), (1, j), (1, test)]

/-- Whether a port has been idle for 200 µs (R147): nothing on the line, its switches open, its last frame that long ago. -/
def Block.portIdle (b : Block) (n : Nat) : Bool :=
  !b.sending n && !(b.port n).switches && (match (b.port n).ended with
    | some t => t + 50000 ≤ b.ticks
    | none => true)

/-- The test of a slice in an idle span (R147): it returns to the healthy set or is retired. -/
def Block.sliceTest (b : Block) (n j : Nat) (pass : Bool) : Block :=
  match (b.port n).untested.find? (fun x => x.1 == j) with
  | none => b
  | some x =>
    if !b.portIdle n then b
    else
      let p := b.port n
      let b := b.setPort n { p with untested := p.untested.filter fun y => y.1 != j }
      (if pass then b else b.retireSlice n j x.2.code).slicesChanged n

/-- SLICE_TEST (R147). -/
def execSliceTest (port : Fin 24) (slice : Fin 12) (pass : Bool) (s : State) : Host.Outcome State Fault Refusal :=
  answer "SLICE_TEST" true s fun b => b.sliceTest port slice pass

/-- The rotation of a port (R147): every INTERVAL superframes, at a frame boundary, the pointer advances; the slices
that leave the active set wait for a test. -/
def Block.sliceRotation (b : Block) (n : Nat) : Block :=
  if b.dev != .service || !b.on (Reg.LP_SLICE_TEST_ROTATE n) || !b.atBoundary n ||
      (b.port n).sinceRotation < b.get (Reg.LP_SLICE_TEST_INTERVAL n) then b
  else
    let before := b.get (Reg.LP_SLICE_STAT_ACTIVE_SET n)
    let b := b.set (Reg.LP_SLICE_STAT_POINTER n) ((b.get (Reg.LP_SLICE_STAT_POINTER n) + 1) % 12)
    let b := (b.setPort n { b.port n with sinceRotation := 0 }).applySlices n
    let left := (List.range 12).filter fun j =>
      before.testBit j && !b.bit (Reg.LP_SLICE_STAT_ACTIVE_SET n) j && b.sliceHealthy n j
    left.foldl (fun b j => b.awaitTest n j .rotation) b

/-- SLICE_ROTATION (R147). -/
def execSliceRotation (port : Fin 24) (s : State) : Host.Outcome State Fault Refusal :=
  answer "SLICE_ROTATION" true s fun b => b.sliceRotation port

/-- SLICE_CHANGE_APPLY (R148): at a frame boundary, k, MIN_ATTEN and the port state follow the healthy slices. -/
def execSliceChangeApply (port : Fin 24) (s : State) : Host.Outcome State Fault Refusal :=
  answer "SLICE_CHANGE_APPLY" true s fun b =>
    if b.atBoundary port then b.applySlices port else b

/-! ### Banks (R145, R154, R594) -/

/-- The ports of a bank (R18). -/
def bankPorts (bank : Nat) : List Nat := (List.range 6).map fun i => 6 * bank + i

/-- A bank enters BANK_OFF (R145): its ports open their switches, and transmissions are cut. -/
def Block.bankOff (b : Block) (bank : Nat) : Block :=
  if b.on (Reg.LP_BANK_STAT_OFF bank) then b
  else
    let b := b.setAll [(Reg.LP_BANK_STAT_OFF bank, 1), (Reg.LP_BANK_STAT_OFF_SEEN bank, 1)]
    let b := (bankPorts bank).foldl (fun b n => b.cutPort n 0) b
    b.refreshPorts.post 0x0406 3 0x41
      [(1, bank), (2, b.get (Reg.LP_BANK_STAT_VLD bank)), (1, b.get (Reg.LP_BANK_STAT_TEMP bank))]

/-- Whether a bank's measures put it off (R145): V_LD in 10 mV, temperature in °C. -/
def bankBad (vld : Nat) (temp : Int) : Bool := vld < 1150 || 2650 < vld || 135 < temp

/-- Whether a bank's measures allow it on again (R145). -/
def bankGood (vld : Nat) (temp : Int) : Bool := 1200 ≤ vld && vld ≤ 2600 && temp ≤ 120

/-- A measurement of a bank (R145, R141). -/
def Block.bankMeasure (b : Block) (bank vld temp : Nat) : Block :=
  let t := signedOf 8 temp
  let b := b.setAll [(Reg.LP_BANK_STAT_VLD bank, vld), (Reg.LP_BANK_STAT_TEMP bank, temp)]
  let since : Option Nat := Store.get (fun _ => none) b.ports.bankOk bank
  let ok := if bankGood vld t then some (since.getD b.ticks) else none
  let b := { b with ports := { b.ports with bankOk := Store.put (fun _ => none) b.ports.bankOk bank ok } }
  let b := (bankPorts bank).foldl (fun b n => b.refreshMinAtten n) b
  if bankBad vld t then b.bankOff bank else b

/-- The states in which the analogue parts are powered and watched. -/
def Block.watches (b : Block) : Bool :=
  match b.dev with
  | .settle | .service | .quiet => true
  | _ => false

/-- BANK_MEASURE (R145). -/
def execBankMeasure (bank : Fin 4) (vld : BitVec 12) (temp : BitVec 8) (s : State) : Host.Outcome State Fault Refusal :=
  answer "BANK_MEASURE" true s fun b => if b.watches then b.bankMeasure bank vld.toNat temp.toNat else b

/-- A bank leaves BANK_OFF once its limits have held for 100 ms (R145); not while VDDA_5 is out of range (R146). -/
def Block.bankOn (b : Block) (bank : Nat) : Block :=
  match Store.get (fun _ => none) b.ports.bankOk bank with
  | some since =>
    if b.on (Reg.LP_BANK_STAT_OFF bank) && since + 25000000 ≤ b.ticks && !b.ports.vdda5Low then
      (b.set (Reg.LP_BANK_STAT_OFF bank) 0).refreshPorts.post 0x0407 1 0x41 [(1, bank)]
    else b
  | none => b

/-- BANK_ON (R145). -/
def execBankOn (bank : Fin 4) (s : State) : Host.Outcome State Fault Refusal :=
  answer "BANK_ON" true s fun b => b.bankOn bank

/-- RAIL_FAULT (R154): the bank goes to BANK_OFF, and its limits must hold anew. -/
def execRailFault (bank : Fin 4) (s : State) : Host.Outcome State Fault Refusal :=
  answer "RAIL_FAULT" true s fun b =>
    if !b.watches then b
    else
      let b := (b.set (Reg.LP_BANK_STAT_RAIL_FAULT bank) 1).post 0x0408 3 0x41 [(1, bank)]
      let b := { b with ports := { b.ports with bankOk := Store.put (fun _ => none) b.ports.bankOk bank none } }
      b.bankOff bank

/-- VDDA5_FAULT (R594): every bank enters BANK_OFF, conversions are flagged, the loops follow R507. -/
def execVdda5Fault (s : State) : Host.Outcome State Fault Refusal :=
  answer "VDDA5_FAULT" true s fun b =>
    if !b.watches then b
    else
      let b := { b with ports := { b.ports with vdda5Low := true } }
      let b := (List.range 4).foldl (fun b k => b.bankOff k) b
      b.refreshLoops

end Sys2Proof.Machine
end

