-- ==== Sys2Proof/Machine/Lanes.lean ====
section
/-!
DEFINITION. The processing pools (01_architecture.md): retirement of lanes (R24 to R26, R32), moves of bindings, DRAM
pages (R20), the decoder queue (R33), the start of a reception (R131, R165).
-/

namespace Sys2Proof.Machine

/-! ### Retirement (R25, R26, R32) -/

/-- Spare lanes that no move has named yet. -/
def Block.freeSpares (b : Block) : List Nat := b.spareLanes.filter fun l => !b.pool.moves.any fun p => p.2 == l

/-- Spare receive lanes have fallen below 4 (R555). -/
def Block.checkSpares (b : Block) (before : Nat) : Block :=
  let n := b.spareLanes.length
  let b := b.countSpares
  if n < 4 ∧ 4 ≤ before then b.spareLow 0 n else b

/-- The binding of a lane as its record shows it: port, sub-band, protocol; a lane without one shows port 255 (log
entry 30). -/
def bindingArgs (x : Option Binding) : List (Nat × Nat) :=
  match x with
  | some x => [(1, x.port), (1, if x.g3 then 0 else x.sb), (1, if x.g3 then 1 else 0)]
  | none => [(1, 255), (1, 0), (1, 0)]

/-- The binding of a retired lane finds a spare, which is answered and takes it at the next frame boundary (R25), or none:
it stops receiving, and its port is short of a lane (R26). -/
def Block.findSpare (b : Block) (l : Nat) (x : Binding) : Block × Option Nat :=
  match b.freeSpares with
  | spare :: _ => ({ b with pool := { b.pool with moves := b.pool.moves ++ [(l, spare)] } }, some spare)
  | [] => (((b.setLane l { b.lane l with binding := none }).refreshAnchor x.port).set (Reg.LP_STATUS_LANE_SHORT x.port) 1, none)

/-- The retirement of a bound lane makes one record (R619): RX_LANE_RETIRED with the spare, or RX_LANE_SHORT. -/
def Block.replaceLane (b : Block) (l : Nat) (x : Binding) (dropped : Nat) : Block :=
  match b.findSpare l x with
  | (b, some spare) => b.post 0x0101 2 0x4A ([(1, l)] ++ bindingArgs (some x) ++ [(1, spare), (2, dropped)])
  | (b, none) => b.post 0x0102 3 0x4A ([(1, l)] ++ bindingArgs (some x) ++ [(2, dropped)])

/-- A receive lane that fails its vectors is retired (R25, R26): its reception is dropped and counted. A lane without a
binding needs no spare, and the record of its retirement names spare 255 (DESIGN CHOICE, log entry 30: R619 does not say what
stands there). -/
def Block.retireLane (b : Block) (l : Nat) : Block :=
  if (b.lane l).retired then b
  else
    let before := b.spareLanes.length
    let dropped := if (b.lane l).current.isSome then 1 else 0
    let b := b.dropReception l
    let b := { b with pool := { b.pool with dropped := b.pool.dropped + dropped } }
    let b := b.setLane l { b.lane l with retired := true }
    let b := match (b.lane l).binding with
      | some x => b.replaceLane l x dropped
      | none => b.post 0x0101 2 0x4A ([(1, l)] ++ bindingArgs none ++ [(1, 255), (2, dropped)])
    b.checkSpares before

/-- A transmit lane that fails is retired (R32, R555). -/
def Block.retireTxLane (b : Block) (l : Nat) : Block :=
  if b.pool.txRetired.contains l then b
  else
    let b := { b with pool := { b.pool with txRetired := b.pool.txRetired ++ [l] } }
    let left := 48 - b.pool.txRetired.length
    (b.countSpares.post 0x0103 2 0x4A [(1, l), (1, left)]).spareLow 1 left

/-- The comparison after a superframe of parallel running (R24, R32). A test of a transmit lane that fails retires
it. -/
def Block.laneCheck (b : Block) (c : LaneCheck) : Block :=
  let bound := b.lane c.bound.val
  let spare := b.lane c.spare.val
  let pair := bound.binding.isSome && !bound.retired && spare.binding.isNone && !spare.retired
  if b.dev != .service then b
  else
    let b := if pair && !c.equal && !c.spareOk then b.retireLane c.spare.val else b
    let b := if pair && !c.equal && !c.boundOk then b.retireLane c.bound.val else b
    match c.txFail with
    | some l => b.retireTxLane l.val
    | none => b

/-- LANE_CROSS_CHECK (R24). -/
def execLaneCrossCheck (c : LaneCheck) (s : State) : Host.Outcome State Fault Refusal :=
  answer "LANE_CROSS_CHECK" true s fun b => b.laneCheck c

/-- A retired lane's binding moves to its spare at the frame boundary (R25). A spare that is no longer to be had gives way to
another one; the retirement has made its one record already (R619; DESIGN CHOICE, log entry 176). -/
def Block.moveBinding (b : Block) (l : Nat) : Block :=
  match b.pool.moves.find? (fun p => p.1 == l), (b.lane l).binding with
  | some (_, spare), some x =>
    let b := { b with pool := { b.pool with moves := b.pool.moves.filter fun p => p.1 != l } }
    if (b.lane spare).retired || (b.lane spare).binding.isSome then (b.findSpare l x).1
    else
      let b := (b.dropReception l).setLane l { b.lane l with binding := none, reception := none }
      (b.setLane spare { b.lane spare with binding := some x }).countSpares
  | some _, none => { b with pool := { b.pool with moves := b.pool.moves.filter fun p => p.1 != l } }
  | none, _ => b

/-- LANE_BINDING_MOVE (R25). -/
def execLaneBindingMove (lane : Fin 128) (s : State) : Host.Outcome State Fault Refusal :=
  answer "LANE_BINDING_MOVE" true s fun b => b.moveBinding lane.val

/-! ### DRAM (R19, R20) -/

/-- The reserve in MiB at `pages` retired pages (R19, R20): 2,048 less extended node state, lane scratch, queue storage
and the retired pages. -/
def Block.dramReserve (b : Block) (pages : Nat) : Nat :=
  ((2048 - 256 - 256 - (b.setting 0x4000).toNat) * 1024 - pages * Config.dramPageKiB) / 1024

/-- Usable queue storage in MiB at `pages` retired pages (R20): the configured size until the reserve is exhausted, then
less what the reserve could not replace (DEDUCED, log entry 63). -/
def Block.usableStorage (b : Block) (pages : Nat) : Nat :=
  let config := (b.setting 0x4000).toNat
  (config * 1024 - (pages * Config.dramPageKiB - (2048 - 256 - 256 - config) * 1024)) / 1024

/-- FLT_DRAM_RESERVE and QF_STORAGE follow (R20, R379). -/
def Block.showReserve (b : Block) : Block :=
  let pages := b.get Reg.FLT_DRAM_PAGES_RETIRED
  b.setAll [(Reg.FLT_DRAM_RESERVE_MIB, b.dramReserve pages), (Reg.QF_STORAGE_CONFIG, (b.setting 0x4000).toNat),
    (Reg.QF_STORAGE_USABLE, b.usableStorage pages)]

/-- A failing page is retired once the row spares have run out (R20, R555, R619). -/
def Block.retirePage (b : Block) (page : Nat) : Block :=
  let old := b.get Reg.FLT_DRAM_RESERVE_MIB
  let b := ((b.set Reg.FLT_DRAM_ROW_SPARES 0).incSat Reg.FLT_DRAM_PAGES_RETIRED).showReserve
  let left := b.get Reg.FLT_DRAM_RESERVE_MIB
  let b := b.post 0x0104 1 0x4A [(4, page), (2, left)]
  if left = 0 ∧ 0 < old then b.spareLow 3 0 else b

/-- DRAM_PAGE_RETIRED (R20). -/
def execDramPageRetired (page : Word) (s : State) : Host.Outcome State Fault Refusal :=
  answer "DRAM_PAGE_RETIRED" true s fun b => b.retirePage page.toNat

/-! ### The decoders (R33) -/

/-- Whether codeword x is taken before y (R33): the earlier end bearing, the lower lane on a tie. -/
def Codeword.before (x y : Codeword) : Bool :=
  if x.endBearing = y.endBearing then x.lane < y.lane else ahead y.endBearing x.endBearing

/-- The codeword a decoder takes next. -/
def nextCodeword (xs : List Codeword) : Option Codeword :=
  xs.foldl (fun best x => match best with
    | some y => if x.before y then some x else some y
    | none => some x) none

/-- What a decoder takes for a codeword of a rate with blocks of Z bits (R133, R176): its 24 blocks in order; an information
block that the rate does not send is known zeros, a parity block that it does not send is erased; a value from a symbol with
a gain step in its FFT window counts half. -/
def codewordInput (rate z : Nat) (soft : List (List (Nat × Int))) (halved : List Nat) : List SoftBit :=
  let bits := (soft.take (sentBits rate z)).map fun copies =>
    SoftBit.bit (copies.map fun x => if halved.contains x.1 then x.2 else 2 * x.2).sum
  let sent := bits ++ List.replicate (sentBits rate z - bits.length) .erased
  List.replicate ((12 - infoOf rate) * z) .zero ++ sent ++ List.replicate ((12 - parityOf rate) * z) .erased

/-- A codeword as it enters the queue (R33, R167, R176, R179): it stands under the frame's lane; none where the lane has no
frame with a payload, or the frame has no such codeword. -/
def Block.codeword (b : Block) (c : CodewordIn) : Option Codeword :=
  match (b.lane c.lane.val).binding, (b.lane c.lane.val).reception with
  | some x, some r =>
    match r.frame with
    | some f =>
      let len := f.bits / 16 % 1024
      let p := packing f.phy.rate (f.phy.capacity len)
      if x.g3 || f.starts.isEmpty || p.1 + bitOf p.2 ≤ c.index then none
      else
        some { lane := f.lead, endBearing := c.endBearing
               input := codewordInput f.phy.rate (if c.index < p.1 then 48 else 24) c.soft r.halved }
    | none => none
  | _, _ => none

/-- Codewords arrive, decoders finish, and a free decoder takes the next codeword (R33). -/
def Block.ldpcDecode (b : Block) (arrived : List CodewordIn) (freed : Nat) : Block :=
  let waiting := b.pool.codewords ++ arrived.filterMap b.codeword
  let running := b.pool.decoding.drop freed
  match (if running.length < 16 then nextCodeword waiting else none) with
  | some c =>
    { b with pool := { b.pool with
      codewords := waiting.erase c, decoding := running ++ [c], decodersBusy := running.length + 1 } }
  | none => { b with pool := { b.pool with codewords := waiting, decoding := running, decodersBusy := running.length } }

/-- LDPC_DECODE (R33). -/
def execLdpcDecode (arrived : List CodewordIn) (freed : Fin 17) (s : State) : Host.Outcome State Fault Refusal :=
  answer "LDPC_DECODE" true s fun b => b.ldpcDecode arrived freed.val

/-! ### Receptions (R29, R131, R165) -/

/-- The ports of a triad with what they send now. -/
def Block.triadAir (b : Block) (t : Nat) : List (Nat × Nat) :=
  [3 * t, 3 * t + 1, 3 * t + 2].flatMap fun n => (b.onAir n).map fun m => (n, m)

/-- Whether a lane hears nothing: its triad transmits in its sub-band (R29), its own port transmits with XBAND_RX at 0
(R134), or a last-gasp window leaves SB-B and SB-CD idle (R26). -/
def Block.blanked (b : Block) (x : Binding) : Bool :=
  (b.triadAir (x.port / 3)).any (fun p => b.blanks [p.1] p.2 x) ||
    (!x.g3 && (b.gaspClose (x.port / 3)).isSome && (x.sb == 1 || x.sb == 2))

/-- A lane detects a preamble and begins a reception (R131, R165): at the start of the fifth SYNCP of a Gweol frame, which is
accepted with 6 to 255 of them, while the lane is in no other frame. A G3 reception is stamped at once (R438), and takes the
place of one that came to nothing (log entry 49: no row tells that a G3 frame has failed). -/
def Block.preamble (b : Block) (p : PreambleIn) : Block :=
  let l := p.lane.val
  let lane := b.lane l
  match lane.binding with
  | some x =>
    if b.dev != .service || lane.retired || !b.on (Reg.LP_CTRL_ENABLE x.port) || b.blanked x ||
        (!x.g3 && (p.syncs.toNat < 6 || lane.current.isSome)) then b
    else b.setReception l (some
      { start := b.brg.now, startTick := b.ticks, freq := b.freq, syncs := p.syncs.toNat, deep := p.deep
        fch := p.fch.map fun y => (y.1.toNat, y.2.toNat), peaks := p.peaks
        bearing := b.brg.now, stampA := b.dtm.a.t, stampB := b.dtm.b.t, synced := x.g3
        xband := !(b.triadAir (x.port / 3)).isEmpty, halved := [], g3 := x.g3, frame := none, ended := false })
  | none => b

/-- PREAMBLE_DETECTED (R165). -/
def execPreambleDetected (p : PreambleIn) (s : State) : Host.Outcome State Fault Refusal :=
  answer "PREAMBLE_DETECTED" true s fun b => b.preamble p

end Sys2Proof.Machine
end

