-- ==== Sys2Proof/Machine/Ranges.lean ====
section
/-!
DEFINITION. The ranges the register tables state for their fields (R5, R623), the fields of which a software write
out of range is not applied (R156, R236, R341, R380, R428, R455, R513, R531), and the bits of a register by access
code.
-/

namespace Sys2Proof.Machine

/-- The fields whose stated range is an interval that their width does not already give. -/
def intervals : List (Field × Nat × Nat) :=
  [(Reg.BRG_CTRL_LOCK_WAIT, 5, 255), (Reg.BRG_REF_SEL, 0, 23), (Reg.BRG_NM_CTRL_THR, 2, 80),
   (Reg.BRG_NM_CTRL_OCC, 1, 64), (Reg.LP_AGC_CTRL_FIXED 0, 0, 18), (Reg.LP_AGC_CTRL_TARGET 0, 6, 40),
   (Reg.LP_AGC_CTRL_TX_GAIN_MAX 0, 0, 18), (Reg.LP_TX_LEVEL_ATTEN 0, 0, 30), (Reg.LP_ZOUT_CTRL_FIXED 0, 0, 30),
   (Reg.LP_ZOUT_CTRL_RATIO 0, 1, 15), (Reg.LP_SLICE_TEST_INTERVAL 0, 1, 255), (Reg.LP_THERM_INIT_LOSS_INIT 0, 128, 384),
   (Reg.SND_CTRL_BENCH_ATTEN, 30, 45), (Reg.SND_CTRL_HOLD, 8, 255), (Reg.SND_MAP_CTRL_GAIN, 1, 50),
   (Reg.SND_MAP_CTRL_MIN_SF, 1, 255), (Reg.SND_FP_CTRL_THR, 4, 255), (Reg.SND_FP_CTRL_BULK, 2, 255),
   (Reg.SND_CPL_CTRL_TOL, 5, 50), (Reg.SND_LIM_MAG 0, 1, 255)] ++
  [(Reg.MAC_CTRL_CAIRN_BANDS, 1, 3), (Reg.MAC_SF_CTRL_CAIRN_BIN, 1, 4), (Reg.MAC_SF_CTRL_PCS_BINS, 1, 15),
   (Reg.MAC_ACCESS_MIN_BE, 3, 8), (Reg.MAC_ACCESS_MAX_BE, 3, 8), (Reg.MAC_ACCESS_P0_BE, 0, 3),
   (Reg.MAC_ACCESS_P0_MAX_BE, 1, 3), (Reg.MAC_ACCESS_CS_THR, 10, 80), (Reg.MAC_SUPV_SUPV, 8, 65535),
   (Reg.MAC_SUPV_DISC_SF, 1, 255), (Reg.MAC_RDV_G_BASE, 16, 16384), (Reg.MAC_RDV_RATE, 1, 255),
   (Reg.PT_TTL_BUDGET_TTL, 1, 65535), (Reg.PT_NOTCH_CTRL_INTERVAL, 4, 255), (Reg.PT_BUD_CFG_WINDOW 0 0, 1, 3600),
   (Reg.PT_BUD_CFG_LIMIT 0 0, 1, 1000), (Reg.TRV_ROUTE_CTRL_HYST, 5, 75), (Reg.TRV_REPAIR_REPAIR_SF, 4, 255)] ++
  [(Reg.LP_G3_CSMA_MAX_BE 0, 3, 8), (Reg.LP_G3_CSMA_MAX_RETRIES 0, 0, 10), (Reg.LP_G3_CSMA_HP_WINDOW 0, 1, 15),
   (Reg.LP_G3_TMR_TTL 0, 10, 65535), (Reg.QD_CFG_KIND 0, 0, 4), (Reg.QD_CFG_PROD 0, 0, 23), (Reg.QD_CFG_CONS 0, 0, 23),
   (Reg.FB_CTRL_NOTIFY_SEV, 0, 4), (Reg.CX_TAMPER_CFG_DEBOUNCE, 1, 255), (Reg.CV_SUSPECT_CTRL_THR, 16, 127),
   (Reg.CV_CH_CFG_WIDTH 0, 0, 64), (Reg.DTM_CTRL_SLEW_PPM 0, 1, 1000), (Reg.DTM_TIME_CTRL_PERIOD, 16, 65535),
   (Reg.DTM_TIME_CTRL_FAST, 1, 255), (Reg.DTM_TIME_THR_RTT_THR, 200, 20000), (Reg.DTM_TIME_THR_AGREE, 50, 5000),
   (Reg.CHN_SYNC_CTRL_ASYM_THR, 20, 1000), (Reg.CHN_SYNC_CTRL_BUSY_THR, 10, 60)] ++
  [(Reg.SS_CONV_CFG_RATE 0, 1, 100), (Reg.SS_LOOP_CTRL_MODE 0, 0, 2), (Reg.SS_LOOP_HOST_HOST 0, 3600, 21600),
   (Reg.SS_CH_MUX_REF 0, 0, 2), (Reg.SS_CH_EXC_CURRENT 0, 10, 1000), (Reg.SS_CH_EXC_SETTLE 0, 1, 50),
   (Reg.SS_CH_LIN_ORD_X 0, 1, 5), (Reg.SP_FMT_DATA 0, 5, 9), (Reg.SP_FMT_PARITY 0, 0, 4), (Reg.SP_FMT_STOP 0, 0, 2),
   (Reg.SP_DIV_DIV 0, 64, 2560000), (Reg.GLB_WDOG_TIMEOUT, 10, 60000)]

/-- Whether a field, named by its register's first instance, is the one at `base`, `lo`. -/
def isAt (f : Field) (base lo : Nat) : Bool := f.off == base && f.lo == lo

/-- Whether a value lies in the stated range of the field at `base`, `lo` (R623). -/
def fieldOk (base lo v : Nat) : Bool :=
  if isAt Reg.BRG_REF_ALT base lo then v < 24 || v == 31
  else if isAt (Reg.BRG_TRIM_TRIM 0) base lo then v < 4096 || 61440 ≤ v
  else if isAt (Reg.SS_CH_LIN_TSRC 0) base lo then v ≤ 8 || v == 15
  else if isAt (Reg.CV_CH_CFG_FALLBACK 0) base lo then v ≤ 3 || v == 7
  else match intervals.find? (fun p => isAt p.1 base lo) with
    | some (_, a, z) => a ≤ v && v ≤ z
    | none => true

/-- The fields of which a software write out of range is not applied. -/
def softChecked : List Field :=
  [Reg.LP_AGC_CTRL_FIXED 0, Reg.LP_AGC_CTRL_TARGET 0, Reg.LP_TX_LEVEL_ATTEN 0, Reg.LP_ZOUT_CTRL_FIXED 0,
   Reg.LP_ZOUT_CTRL_RATIO 0, Reg.LP_SLICE_TEST_INTERVAL 0, Reg.SND_MAP_CTRL_GAIN, Reg.SND_MAP_CTRL_MIN_SF,
   Reg.SND_FP_CTRL_THR, Reg.SND_FP_CTRL_BULK, Reg.SND_CPL_CTRL_TOL, Reg.LP_G3_CSMA_MAX_BE 0,
   Reg.LP_G3_CSMA_MAX_RETRIES 0, Reg.LP_G3_CSMA_HP_WINDOW 0, Reg.LP_G3_TMR_TTL 0, Reg.FB_CTRL_NOTIFY_SEV,
   Reg.CV_SUSPECT_CTRL_THR, Reg.DTM_CTRL_SLEW_PPM 0, Reg.SS_LOOP_CTRL_MODE 0, Reg.SS_LOOP_HOST_HOST 0, Reg.SP_DIV_DIV 0]

/-- Whether a software write of a value to a field is applied as far as its range goes. -/
def softOk (base lo v : Nat) : Bool := !softChecked.any (fun f => isAt f base lo) || fieldOk base lo v

/-- The bits of a register whose access code passes a test. -/
def RegSpec.mask (r : RegSpec) (p : Access → Bool) : Nat :=
  (r.fields.map fun f => if p f.access then (2 ^ f.width - 1) * 2 ^ f.lo else 0).sum

/-- The RWL bits of the register at an offset. -/
def rwlMask (off : Nat) : Nat := match regAt off with
  | some r => r.mask (· == .rwl)
  | none => 0

/-- The bits an image record may set: RWL and RW fields (R621), less those a table reserves on one of two ports. -/
def settableMask (off : Nat) : Nat :=
  let m := match regAt off with
    | some r => r.mask fun a => a == .rwl || a == .rw
    | none => 0
  if off = Reg.SP_CTRL 1 then m - 2 ^ 4 else if off = Reg.SP_CTRL 0 then m - 2 ^ 5 else m

/-- Every offset at which a register of a table has an instance. -/
def dimOffsets : List (Nat × Nat) → List Nat
  | [] => [0]
  | (stride, count) :: rest => (List.range count).flatMap fun i => (dimOffsets rest).map fun d => i * stride + d

/-- The offsets of a register's instances. -/
def RegSpec.offsets (r : RegSpec) : List Nat := (dimOffsets r.dims).map fun d => r.base + d

end Sys2Proof.Machine
end

