-- ==== Sys2Proof/Machine/Verify.lean ====
section
/-!
DEFINITION. Verification of a Diore image (02_diore_image.md): its layout (R55 to R57), the content of its sections
(R58, R621 to R623) and the checks of R59 in their order, with the causes the other chapters name.
-/

namespace Sys2Proof.Machine

/-! ### Sections and their settings (R58, R621, R622) -/

/-- The setting records of an image's sections. -/
abbrev Sections := List (Nat × List (Nat × Word))

/-- Where the image-only settings begin. -/
def settingBase : Nat := 0x01000000

/-- The registers a section carries, each by its first instance (R621). -/
def carriedRegs (id : Nat) : List Nat :=
  match id with
  | 1 => [Reg.GLB_CTRL, Reg.GLB_WDOG]
  | 2 => [Reg.LP_CTRL 0, Reg.LP_AGC_CTRL 0, Reg.BRG_CTRL, Reg.BRG_REF, Reg.BRG_TRIM 0]
  | 3 => [Reg.PT_BUD_CFG 0 0, Reg.BRG_NM_CTRL, Reg.LP_THERM_INIT 0, Reg.LP_G3_CTRL 0, Reg.LP_G3_Q 0]
  | 4 => [Reg.MAC_CTRL, Reg.MAC_NET, Reg.MAC_SF_CTRL, Reg.MAC_CP_CTRL, Reg.MAC_ACCESS, Reg.MAC_SUPV, Reg.MAC_RDV,
          Reg.MAC_GASP, Reg.PT_TTL, Reg.PT_NOTCH_CTRL, Reg.DTM_RXS, Reg.DTM_TIME_CTRL, Reg.DTM_TIME_THR, Reg.SND_CTRL,
          Reg.SND_LIM 0]
  | 5 => [Reg.QD_CFG 0, Reg.QD_BASE_LO 0, Reg.QD_BASE_HI 0, Reg.QD_WM 0, Reg.QD_CNT 0]
  | 6 => [Reg.TRV_CTRL, Reg.TRV_ROUTE_CTRL, Reg.TRV_REPAIR, Reg.TRV_PART]
  | 7 => [Reg.CX_PAGE_CFG 0, Reg.CX_PAGE_CFG 16, Reg.CX_CTRL, Reg.CX_TAMPER_CFG]
  | 8 => [Reg.CV_ROLE, Reg.CV_CH_CFG 0, Reg.CV_CH_POLY_LO 0, Reg.CV_CH_POLY_HI 0, Reg.CV_CH_INIT_LO 0,
          Reg.CV_CH_INIT_HI 0, Reg.CV_CH_XOR_LO 0, Reg.CV_CH_XOR_HI 0, Reg.CV_CH_CHKA_LO 0, Reg.CV_CH_CHKA_HI 0,
          Reg.CV_CH_CHKB_LO 0, Reg.CV_CH_CHKB_HI 0]
  | 9 => [Reg.SS_CONV_CFG 0, Reg.SS_LOOP_CTRL 0, Reg.SS_LOOP_LO 0, Reg.SS_LOOP_HI 0, Reg.SS_CH_MUX 0, Reg.SS_CH_EXC 0,
          Reg.SS_CH_LIN 0, Reg.SS_CH_C 0 0 0]
  | 10 => [Reg.SP_CTRL 0, Reg.SP_FMT 0, Reg.SP_DIV 0, Reg.SP_DE 0, Reg.HIF_CON_OPEN_BASE 0, Reg.HIF_CON_OPEN_LIMIT 0]
  | 11 => [Reg.CHN_SYNC_CTRL]
  | _ => []

/-- The section of an image-only setting and its bits that are not reserved (R622), by its distance from the base. -/
def settingSpec (a : Nat) : Option (Nat × Nat) :=
  if a % 4 ≠ 0 then none
  else if a < 0x200 then some (1, 0x1FF)
  else if 0x1000 ≤ a ∧ a < 0x1060 then some (2, 3)
  else if 0x2000 ≤ a ∧ a < 0x2060 then some (3, 0xF)
  else if a = 0x3000 then some (6, 1)
  else if 0x3040 ≤ a ∧ a < 0x30C0 then some (6, if a % 8 = 0 then 0x8001FFFF else 0x3FFFF)
  else if 0x3100 ≤ a ∧ a < 0x3120 then some (6, 0xF)
  else if a = 0x4000 then some (5, 0xFFFF)
  else if a = 0x5000 then some (11, 0x7F)
  else if a = 0x5004 then some (11, 0xFFFFFF)
  else none

/-- Whether a section carries a setting address (R621). -/
def carries (id addr : Nat) : Bool :=
  if settingBase ≤ addr then
    match settingSpec (addr - settingBase) with
    | some (s, _) => s == id
    | none => false
  else if addr % 4 ≠ 0 then false
  else match regAt addr with
    | some r => (carriedRegs id).contains r.base
    | none => false

/-- The value a set of sections gives a setting address: the record of the section that carries it, else the reset default. -/
def imgWord (secs : Sections) (addr : Nat) : Nat :=
  match secs.findSome? (fun s => ((s.2.find? fun p => p.1 == addr).filter fun _ => carries s.1 addr).map (·.2)) with
  | some w => w.toNat
  | none => (if settingBase ≤ addr then settingDefault (addr - settingBase) else resetWord addr).toNat

/-- The value a set of sections gives a field. -/
def imgField (secs : Sections) (f : Field) : Nat := bitsAt (imgWord secs f.off) f.lo f.width

/-- The value a set of sections gives an image-only setting. -/
def imgSetting (secs : Sections) (a : Nat) : Nat := imgWord secs (settingBase + a)

/-- The records of one section. -/
def recordsOfSection (secs : Sections) (id : Nat) : List (Nat × Word) :=
  ((secs.find? (fun s => s.1 == id)).map (·.2)).getD []

/-! ### Content (R623) -/

/-- The binding sections give a lane. -/
def imgBinding (secs : Sections) (l : Nat) : Option Binding :=
  let w := imgSetting secs (4 * l)
  if bitsAt w 8 1 = 1 then some { port := bitsAt w 0 5, sb := bitsAt w 5 2, g3 := bitsAt w 7 1 = 1 } else none

/-- R22 holds: one Gweol lane to a (port, sub-band), one G3 lane to a port. -/
def bindingsOk (secs : Sections) : Bool :=
  let keys := (List.range 128).filterMap fun l => (imgBinding secs l).map fun x =>
    if x.g3 then 1000 + x.port else 4 * x.port + x.sb
  decide keys.Nodup

/-- The queues a set of sections describes. -/
def imgQueues (secs : Sections) : List Nat :=
  (((recordsOfSection secs 5).filter fun p => p.1 < settingBase && carries 5 p.1).map fun p => (p.1 - 0x200000) / 32).dedup

/-- The range of SIZE_LOG2 for a kind and mode (R342). -/
def sizeOk (kind mode size : Nat) : Bool :=
  if kind = 1 ∨ kind = 2 then 4 ≤ size && size ≤ 12
  else if kind = 3 ∧ mode = 1 then 6 ≤ size && size ≤ 24
  else if kind = 3 ∨ kind = 4 then 9 ≤ size && size ≤ 24
  else true

/-- The storage of a PARCEL or STREAM queue in 4 KiB units (R345): first unit and number of units. -/
def imgRegion (secs : Sections) (q : Nat) : Nat × Nat :=
  let base := imgField secs (Reg.QD_BASE_LO_BASE q) + imgField secs (Reg.QD_BASE_HI_BASE q) * 2 ^ 32
  let unit := if imgField secs (Reg.QD_CFG_MODE q) = 1 then 64 else 8
  (base, (2 ^ imgField secs (Reg.QD_CFG_SIZE_LOG2 q) * unit + 4095) / 4096)

/-- Whether two regions overlap. -/
def regionsMeet (x y : Nat × Nat) : Bool := x.1 < y.1 + y.2 && y.1 < x.1 + x.2

/-- Whether some two members of a list meet. -/
def anyPair {α : Type} (p : α → α → Bool) : List α → Bool
  | [] => false
  | x :: rest => rest.any (p x) || anyPair p rest

/-- The queue storage and the descriptors meet R19 and the first list of R346. -/
def queuesCarved (secs : Sections) : Bool :=
  let storage := imgSetting secs 0x4000
  let qs := imgQueues secs
  let kind (q : Nat) := imgField secs (Reg.QD_CFG_KIND q)
  let stored := qs.filter fun q => kind q == 3 || kind q == 4
  let regions := stored.map (imgRegion secs)
  256 ≤ storage && storage ≤ 1536 && storage % 64 == 0 &&
    qs.all (fun q => sizeOk (kind q) (imgField secs (Reg.QD_CFG_MODE q)) (imgField secs (Reg.QD_CFG_SIZE_LOG2 q))) &&
    !anyPair regionsMeet regions && regions.all (fun r => r.1 + r.2 ≤ storage * 256) &&
    ((qs.filter fun q => kind q == 2).map fun q => 2 ^ imgField secs (Reg.QD_CFG_SIZE_LOG2 q)).sum ≤ 1048576

/-- A setting record within its bits and ranges (R623). -/
def recordOk (p : Nat × Word) : Bool :=
  let v := p.2.toNat
  if settingBase ≤ p.1 then
    let a := p.1 - settingBase
    match settingSpec a with
    | none => false
    | some (_, m) =>
      v &&& m == v &&
        (!(a < 0x200) || (if bitsAt v 8 1 = 1 then bitsAt v 0 5 < 24 && (bitsAt v 7 1 == 0 || bitsAt v 5 2 == 0) else v == 0))
  else
    v &&& settableMask p.1 == v &&
      match regAt p.1 with
      | some r => r.fields.all fun f =>
          !(f.access == .rwl || f.access == .rw) || fieldOk r.base f.lo (bitsAt v f.lo f.width)
      | none => false

/-- A section's own records (R623): whole, of its addresses, none named twice, each within its range. -/
def sectionOk (id : Nat) (bytes : Nat) (rs : List (Nat × Word)) : Bool :=
  bytes % 8 == 0 && decide (rs.map (·.1)).Nodup && rs.all fun p => carries id p.1 && recordOk p

/-- Rules of STRUCT: the escalation of R560, the G3 lanes of R330. -/
def structOk (secs : Sections) : Bool :=
  !(imgField secs Reg.GLB_CTRL_ESC_EN == 1 && imgField secs Reg.GLB_CTRL_QUIET_RESET == 0) &&
    (List.range 128).all fun l => match imgBinding secs l with
      | some x => !x.g3 || (imgSetting secs (0x2000 + 4 * x.port)).testBit
          (if imgField secs (Reg.LP_G3_CTRL_BANDPLAN x.port) = 1 then 3 else 0)
      | none => true

/-- Rules of PORTS: R125, R156. -/
def portsOk (secs : Sections) : Bool :=
  imgField secs Reg.BRG_REF_SEL != imgField secs Reg.BRG_REF_ALT &&
    (List.range 24).all fun n =>
      imgField secs (Reg.LP_CTRL_ENABLE n) == 0 || bitsAt (imgSetting secs (0x1000 + 4 * (n / 3 * 3))) 1 1 == 1

/-- Rules of SCHED: R285, R455. -/
def schedOk (secs : Sections) : Bool :=
  imgField secs Reg.MAC_CP_CTRL_CP_END_MIN ≤ imgField secs Reg.MAC_CP_CTRL_CP_END_MAX &&
    imgField secs Reg.MAC_ACCESS_MIN_BE ≤ imgField secs Reg.MAC_ACCESS_MAX_BE &&
    imgField secs Reg.MAC_ACCESS_P0_BE ≤ imgField secs Reg.MAC_ACCESS_P0_MAX_BE &&
    imgField secs Reg.DTM_TIME_THR_AGREE < imgField secs Reg.DTM_TIME_THR_RTT_THR

/-- The function that owns a queue of the image (R343). -/
def imgOwner (secs : Sections) (q : Nat) : Option Nat :=
  let prod := imgField secs (Reg.QD_CFG_PROD q)
  let cons := imgField secs (Reg.QD_CFG_CONS q)
  if imgField secs (Reg.QD_CFG_KIND q) = 0 then none
  else if prod < 16 then some prod else if cons < 16 then some cons else none

/-- Rules of QUEUES: the second list of R346, R570. -/
def queuesOk (secs : Sections) : Bool :=
  let qs := imgQueues secs
  let kind (q : Nat) := imgField secs (Reg.QD_CFG_KIND q)
  let prod (q : Nat) := imgField secs (Reg.QD_CFG_PROD q)
  qs.all (fun q =>
    (kind q == 3 || imgField secs (Reg.QD_CFG_MODE q) == 0) &&
      (!(kind q == 3 || kind q == 4) || ((prod q < 16) != (imgField secs (Reg.QD_CFG_CONS q) < 16)))) &&
    (List.range 16).all fun fn =>
      let own := qs.filter fun q => imgOwner secs q == some fn
      own.length ≤ 1536 && (own.filter fun q => kind q == 1 || kind q == 2).length ≤ 1020 &&
        (own.filter fun q => kind q == 4 && prod q < 16).length ≤ 256

/-- The range sections give a function (R288, R622): first index and size. -/
def imgRange (secs : Sections) (fn : Nat) : Option (Nat × Nat) :=
  let w := imgSetting secs (0x3040 + 8 * fn)
  if w.testBit 31 then some (bitsAt w 0 17, bitsAt (imgSetting secs (0x3044 + 8 * fn)) 0 18) else none

/-- Rules of NODES: R327, R622. A triad's function is judged where a record names it (log entry 32). -/
def nodesOk (secs : Sections) : Bool :=
  let rs := (List.range 16).filterMap (imgRange secs)
  rs.all (fun r => 1 ≤ r.2 && r.1 + r.2 ≤ 131072) && !anyPair regionsMeet rs &&
    (recordsOfSection secs 6).all (fun p =>
      !(settingBase + 0x3100 ≤ p.1 && p.1 < settingBase + 0x3120) || (imgRange secs (p.2.toNat % 16)).isSome) &&
    (imgSetting secs 0x3000 % 2 == 0 || (imgSetting secs 0x5000).testBit 3)

/-- Rules of CIPHER: R428. -/
def cipherOk (secs : Sections) : Bool :=
  decide ((List.range 16).map fun p => imgField secs (Reg.CX_PAGE_CFG_FUNCTION p)).Nodup &&
    (List.range 16).all (fun p => imgField secs (Reg.CX_PAGE_CFG_PURPOSES p) < 4) &&
    imgField secs (Reg.CX_PAGE_CFG_PURPOSES 16) < 8 && imgField secs (Reg.CX_PAGE_CFG_FUNCTION 16) == 0

/-- The four fixed units of Sieve (R414). -/
def fixedUnit (u : Nat) : CheckDef :=
  match u with
  | 0 => { width := 8, poly := 7, init := 0, refin := false, refout := false, xorout := 0 }
  | 1 => crc16Def
  | 2 => { width := 32, poly := 0x04C11DB7, init := 0xFFFFFFFF, refin := true, refout := true, xorout := 0xFFFFFFFF }
  | _ => crc32cDef

/-- The bytes of test vector B: 0x00 to 0x3F in order (R418). -/
def vectorB : List Byte := (List.range 64).map fun i => BitVec.ofNat 8 i

/-- The definition of channel n under a reading of fields (R415). -/
def channelDef (get : Field → Nat) (n : Nat) : CheckDef :=
  { width := get (Reg.CV_CH_CFG_WIDTH n)
    poly := get (Reg.CV_CH_POLY_LO_POLY n) + get (Reg.CV_CH_POLY_HI_POLY n) * 2 ^ 32
    init := get (Reg.CV_CH_INIT_LO_INIT n) + get (Reg.CV_CH_INIT_HI_INIT n) * 2 ^ 32
    refin := get (Reg.CV_CH_CFG_REFIN n) == 1
    refout := get (Reg.CV_CH_CFG_REFOUT n) == 1
    xorout := get (Reg.CV_CH_XOR_LO_XOROUT n) + get (Reg.CV_CH_XOR_HI_XOROUT n) * 2 ^ 32 }

/-- Rules of SIEVE: R415, R416, R428. -/
def sieveOk (secs : Sections) : Bool :=
  let channel := channelDef (imgField secs)
  let role (n u : Nat) : Bool := channel n == fixedUnit u && imgField secs (Reg.CV_CH_CFG_FALLBACK n) == u
  (List.range 16).all (fun n => (channel n).width == 0 || (channel n).poly % 2 == 1) &&
    role (imgField secs Reg.CV_ROLE_FCH_CH) 1 && role (imgField secs Reg.CV_ROLE_PARCEL_CH) 3

/-- Pins that carry excitation for a channel (R493). -/
def excPins (secs : Sections) (k : Nat) : List Nat :=
  (if imgField secs (Reg.SS_CH_EXC_EXC0_EN k) = 1 then [imgField secs (Reg.SS_CH_EXC_EXC0_PIN k)] else []) ++
    (if imgField secs (Reg.SS_CH_EXC_EXC1_EN k) = 1 then [imgField secs (Reg.SS_CH_EXC_EXC1_PIN k)] else [])

/-- A channel of Site Sense (R494, R502, R513). -/
def senseChannelOk (secs : Sections) (on : List Nat) (k : Nat) : Bool :=
  let g (f : Nat → Field) := imgField secs (f k)
  let t := g Reg.SS_CH_LIN_TSRC
  let rate := imgField secs (Reg.SS_CONV_CFG_RATE (g Reg.SS_CH_MUX_CONV))
  g Reg.SS_CH_MUX_POS != g Reg.SS_CH_MUX_NEG &&
    !(g Reg.SS_CH_MUX_REF == 2 && g Reg.SS_CH_MUX_REFP == g Reg.SS_CH_MUX_REFN) &&
    !(g Reg.SS_CH_EXC_EXC1_EN == 1 && g Reg.SS_CH_EXC_EXC0_EN == 0) &&
    g Reg.SS_CH_EXC_SETTLE * rate * 2 ≤ 10000 && g Reg.SS_CH_EXC_GAIN ≤ g Reg.SS_CH_EXC_GAIN_MAX &&
    (!(t < 8) || (t != k && on.contains t && 8 ≤ imgField secs (Reg.SS_CH_LIN_TSRC t)))

/-- Rules of SENSE: R494, R513. They judge enabled channels and enabled loops (log entry 32). -/
def senseOk (secs : Sections) : Bool :=
  let on := (List.range 8).filter fun k => imgField secs (Reg.SS_CH_MUX_ENABLE k) == 1
  let inputs := on.flatMap fun k => [imgField secs (Reg.SS_CH_MUX_POS k), imgField secs (Reg.SS_CH_MUX_NEG k)]
  let exc := on.flatMap (excPins secs)
  let bias := (on.filter fun k => imgField secs (Reg.SS_CH_MUX_BIAS_EN k) == 1).map fun k =>
    imgField secs (Reg.SS_CH_MUX_BIAS k)
  on.all (senseChannelOk secs on) && decide exc.Nodup && bias.all (fun p => !(inputs ++ exc).contains p) &&
    [0, 1].all (fun c => (on.filter fun k => imgField secs (Reg.SS_CH_MUX_CONV k) == c).length ≤ 4) &&
    [0, 1].all (fun n => imgField secs (Reg.SS_LOOP_CTRL_ENABLE n) == 0 ||
      (on.contains (imgField secs (Reg.SS_LOOP_CTRL_SRC n)) &&
        imgWord secs (Reg.SS_LOOP_LO n) != imgWord secs (Reg.SS_LOOP_HI n))) &&
    (recordsOfSection secs 9).all fun p =>
      match regAt p.1 with
      | some r => !(r.base == Reg.SS_LOOP_LO 0 || r.base == Reg.SS_LOOP_HI 0 || r.base == Reg.SS_CH_C 0 0 0) ||
          (singleValue p.2).isSome
      | none => true

/-- Rules of SERIAL: the console's open ranges (R579, R586). -/
def serialOk (secs : Sections) : Bool :=
  (List.range 8).all fun r =>
    let a := 4 * imgField secs (Reg.HIF_CON_OPEN_BASE_BASE r)
    let z := 4 * imgField secs (Reg.HIF_CON_OPEN_LIMIT_LIMIT r)
    imgField secs (Reg.HIF_CON_OPEN_BASE_EN r) == 0 ||
      (a ≤ z && z < 0x200000 && !(a < 0x1F5000 && 0x1F1000 ≤ z))

/-- Rules of CHAIN: R492. -/
def chainOk (secs : Sections) : Bool :=
  let pairs := imgSetting secs 0x5004
  (pairs == 0 || imgSetting secs 0x5000 % 8 < 2) &&
    (List.range 24).all fun n => !pairs.testBit n || imgField secs (Reg.LP_CTRL_ENABLE n) == 1

/-- The rules of a section that join several settings. -/
def jointOk (secs : Sections) (id : Nat) : Bool :=
  match id with
  | 1 => structOk secs | 2 => portsOk secs | 4 => schedOk secs | 5 => queuesOk secs | 6 => nodesOk secs
  | 7 => cipherOk secs | 8 => sieveOk secs | 9 => senseOk secs | 10 => serialOk secs | 11 => chainOk secs
  | _ => true

/-! ### Layout (R55 to R57) -/

/-- One directory entry (R56). -/
structure DirEntry where
  id : Nat
  reserved : Nat
  off : Nat
  len : Nat
  crc : Nat
deriving DecidableEq, Repr

/-- The directory. -/
def directory (d : List Byte) : List DirEntry :=
  (List.range 11).map fun i =>
    let o := 0x20 + 16 * i
    { id := leAt d o 2, reserved := leAt d (o + 2) 2, off := leAt d (o + 4) 4, len := leAt d (o + 8) 4,
      crc := leAt d (o + 12) 4 }

/-- The bytes of a section. -/
def DirEntry.bytes (e : DirEntry) (d : List Byte) : List Byte := slice d e.off e.len

/-- The records in the bytes of a section. -/
def parseRecords (bytes : List Byte) : List (Nat × Word) :=
  (chunks 8 bytes).map fun c => (leAt c 0 4, BitVec.ofNat 32 (leAt c 4 4))

/-- The low byte of a section id, for CFG_LOAD_STATUS.SECTION. -/
def DirEntry.tag (e : DirEntry) : Nat := e.id % 256

/-- Whether a directory entry breaks FORMAT: its reserved bytes, or a lower id than the entry before. The check is of the
header, so it names no section (DEDUCED, log entry 67). -/
def badFormat : Nat → List DirEntry → Bool
  | _, [] => false
  | prev, e :: rest => e.reserved != 0 || decide (e.id < prev) || badFormat e.id rest

/-- The first entry that breaks the offset, length or placement rules of R56. Of two sections that overlap it is the later one,
and a section of length 0 overlaps one that it lies inside (DESIGN CHOICE, log entry 178: R56 and R59 do not say). -/
def badPlacement (sig : Nat) : List DirEntry → List DirEntry → Option Nat
  | _, [] => none
  | seen, e :: rest =>
    if e.off % 16 ≠ 0 ∨ e.off < 0x100 ∨ sig < e.off + e.len ∨
        seen.any (fun x => regionsMeet (x.off, x.len) (e.off, e.len)) then some e.tag
    else badPlacement sig (seen ++ [e]) rest

/-- The first place where the directory's ids are not 1 to 11 (SECTION_SET): the id that is missing there, or else the one
that is repeated or unknown (DESIGN CHOICE, log entry 179: R59 does not say which of them SECTION names). -/
def badSet : Nat → List DirEntry → Option Nat
  | _, [] => none
  | n, e :: rest => if e.id = n then badSet (n + 1) rest else some (if n < e.id ∧ e.id ≤ 11 then n else e.tag)

/-- How a verification ends (R59): cause and section, and the set where it passed. -/
structure Checked where
  cause : Nat
  sec : Nat
  set : Option ImageSet
deriving DecidableEq, Repr

/-- A failed verification. -/
def failed (cause sec : Nat) : Checked := { cause := cause, sec := sec, set := none }

/-- Checks of the header and the signature, causes 0x01 to 0x08 (R59). -/
def checkLayout (d : List Byte) : Option Checked :=
  let dir := directory d
  let len := leAt d 8 4
  let sig := len - 128
  let key := slice d sig 64
  if d.length < 4 ∨ leAt d 0 4 ≠ 0x44564A46 then some (failed 1 0)
  else if d.length < 256 then some (failed 3 0)
  else if leAt d 4 2 ≠ 1 ∨ leAt d 6 2 ≠ 0x7240 ∨ leAt d 0x14 2 ≠ 11 ∨ 1 < leAt d 0x10 4 ∨ leAt d 0x16 10 ≠ 0 ∨
      leAt d 0xD0 44 ≠ 0 then some (failed 2 0)
  else if badFormat 0 dir then some (failed 2 0)
  else if len % 16 ≠ 0 ∨ len < 512 ∨ 4194304 < len ∨ d.length < len then some (failed 3 0)
  else if (badPlacement sig [] dir).isSome then some (failed 3 ((badPlacement sig [] dir).getD 0))
  else if sha256 key ≠ Config.otpKeyHash then some (failed 4 0)
  else if !ecdsaVerify (sha256 (d.take sig)) key (slice d (sig + 64) 64) then some (failed 5 0)
  else if crc32c (d.take 0xFC) ≠ leAt d 0xFC 4 then some (failed 6 0)
  else match dir.find? (fun e => crc32c (e.bytes d) != e.crc) with
    | some e => some (failed 7 e.tag)
    | none => (badSet 1 dir).map (failed 8)

/-- The sections of an image that has passed its layout checks. -/
def sectionsOf (d : List Byte) : Sections := (directory d).map fun e => (e.id, parseRecords (e.bytes d))

/-- Checks of the content, causes 0x09 to 0x0C (R59, R623), each over every section before the next. -/
def Block.checkContent (b : Block) (d : List Byte) : Option Checked :=
  let secs := sectionsOf d
  if !bindingsOk secs then some (failed 9 1)
  else if !queuesCarved secs then some (failed 10 5)
  else if b.chainEnabled && imgSetting secs 0x5000 % 8 != b.get Reg.HIF_STRAPS_CHAIN_RANK then some (failed 11 11)
  else match (directory d).find? (fun e =>
      !(sectionOk e.id e.len (parseRecords (e.bytes d)) && jointOk secs e.id)) with
    | some e => some (failed 12 e.tag)
    | none => none

/-! ### A shadow beside the active set (R72, R73) -/

/-- Whether the RWL bits an image gives a register equal those in force. -/
def Block.sameRwl (b : Block) (secs : Sections) (off : Nat) : Bool :=
  imgWord secs off &&& rwlMask off == (b.rd off).toNat &&& rwlMask off

/-- Whether an image gives an image-only setting the value in force. -/
def Block.sameSetting (b : Block) (secs : Sections) (a : Nat) : Bool := imgSetting secs a == (b.setting a).toNat

/-- PRESERVE of port n (R72). -/
def preserves (secs : Sections) (n : Nat) : Bool := (imgSetting secs (0x1000 + 4 * n)).testBit 0

/-- The lowest of STRUCT, PORTS and BANDS in which a record of preserved port n differs from the values in force. -/
def Block.preserveDiff (b : Block) (secs : Sections) (n : Nat) : Option Nat :=
  let binds (x : Option Binding) : Bool := match x with
    | some x => x.port == n
    | none => false
  if (List.range 128).any fun l => (binds (imgBinding secs l) || binds (b.structBinding l)) && !b.sameSetting secs (4 * l)
  then some 1
  else if !(b.sameRwl secs (Reg.LP_CTRL n) && b.sameRwl secs (Reg.LP_AGC_CTRL n) && b.sameRwl secs (Reg.BRG_TRIM n) &&
      bitsAt (imgSetting secs (0x1000 + 4 * n)) 1 1 == bitsAt (b.setting (0x1000 + 4 * n)).toNat 1 1) then some 2
  else if !(b.sameRwl secs (Reg.LP_THERM_INIT n) && b.sameRwl secs (Reg.LP_G3_CTRL n) && b.sameRwl secs (Reg.LP_G3_Q n) &&
      (List.range 4).all (fun s => b.sameRwl secs (Reg.PT_BUD_CFG n s)) && b.sameSetting secs (0x2000 + 4 * n)) then
    some 3
  else none

/-- Whether a fixed-class section differs from the active set (R59): in RWL fields, from the values in force; in RW
fields, from the records of the active set. -/
def Block.fixedDiffers (b : Block) (old secs : Sections) (id : Nat) : Bool :=
  let addrs := ((recordsOfSection old id).map (·.1) ++ (recordsOfSection secs id).map (·.1) ++
    (b.regs.map (·.1)).filter (carries id)).dedup
  addrs.any fun a =>
    if settingBase ≤ a then !b.sameSetting secs (a - settingBase)
    else !b.sameRwl secs a ||
      imgWord secs a &&& (settableMask a - rwlMask a) != imgWord old a &&& (settableMask a - rwlMask a)

/-- Checks of a shadow, causes 0x0D and 0x0E (R59). -/
def Block.checkShadow (b : Block) (secs : Sections) : Option Checked :=
  let old := (b.img.active.map (fun (x : ImageSet) => x.sections)).getD []
  let diffs := ((List.range 24).filter (preserves secs)).filterMap (b.preserveDiff secs)
  if diffs ≠ [] then some (failed 13 (diffs.foldl min 3))
  else if !(b.sameRwl secs Reg.BRG_CTRL && b.sameRwl secs Reg.BRG_REF) then some (failed 14 2)
  else ([5, 6, 7, 11].find? (b.fixedDiffers old secs)).map (failed 14)

/-- Verification of an image (R59) from a source: 0 host, 1 slot A, 2 slot B. -/
def Block.verifyImage (b : Block) (shadow : Bool) (source : Nat) (d : List Byte) : Checked :=
  match checkLayout d with
  | some c => c
  | none =>
    match b.checkContent d with
    | some c => c
    | none =>
      match (if shadow then b.checkShadow (sectionsOf d) else none) with
      | some c => c
      | none =>
        let set : ImageSet :=
          { serial := BitVec.ofNat 32 (leAt d 0x0C 4), flags := BitVec.ofNat 32 (leAt d 0x10 4),
            sections := sectionsOf d, source := source }
        { cause := 0, sec := 0, set := some set }

end Sys2Proof.Machine
end

