-- ==== Sys2Proof/Machine/Image.lean ====
section
/-!
DEFINITION. The Diore image in the device (02_diore_image.md): loading (R61 to R66), sealing (R67), the shadow set
(R69 to R71), the exchange of the sets at a swap (R72 to R77, R82), and the meanings of the CFG_ commands. Arming and the
verdicts of a swap lie with the Chain.
-/

namespace Sys2Proof.Machine

/-! ### What follows from settings -/

/-- Registers that show settings and straps: PAIRED (R476), BOUND (R330), the role and rank of the table (R288). -/
def Block.showSettings (b : Block) : Block :=
  let chain := (b.setting 0x5000).toNat
  let replica := (b.setting 0x3000).toNat % 2
  let b := (List.range 24).foldl (fun b n =>
    (b.set (Reg.LP_CTRL_PAIRED n) (bitsAt (b.setting 0x5004).toNat n 1)).setOn (Reg.LP_G3_CTRL_BOUND n) (b.g3Bound n)) b
  b.setAll [(Reg.TRV_PART_ROLE, replica),
    (Reg.TRV_PART_RANK, if replica = 1 then bitsAt chain 4 3 else b.get Reg.HIF_STRAPS_CHAIN_RANK)]

/-- The default CHECK_B of channels 0 and 1 (R417): the result of the fallback unit over vector B, where SIEVE has
length 0. -/
def Block.defaultCheckB (b : Block) (secs : Sections) (unitOk : Nat → Bool) : Block :=
  if secs.any (fun s => s.1 == 8 && s.2 != []) then b
  else [(0, 1), (1, 3)].foldl (fun b p =>
    if unitOk p.2 then b.set (Reg.CV_CH_CHKB_LO_CHECK_B p.1) (checkOf (fixedUnit p.2) vectorB) else b) b

/-- Whether the binding of lane l is served by a lane, or will be by a named spare. -/
def Block.isServed (b : Block) (l : Nat) (x : Binding) : Bool :=
  b.pool.moves.any (fun p => p.1 == l) ||
    (List.range 128).any fun k => !(b.lane k).retired && (b.lane k).binding == some x

/-- Whether a lane stands in for a retired one: it serves a binding that STRUCT gives to that one (R72). -/
def Block.standsIn (b : Block) (k : Nat) : Bool :=
  let x := (b.lane k).binding
  !(b.lane k).retired && x.isSome && x != b.structBinding k &&
    (List.range 128).any fun l => (b.lane l).retired && b.structBinding l == x

/-- Give a lane another binding, or none: it is in no frame of the new one. -/
def Block.rebind (b : Block) (l : Nat) (x : Option Binding) : Block :=
  if (b.lane l).binding = x then b else b.setLane l { b.lane l with binding := x, reception := none }

/-- A binding that no lane serves takes the first free spare (R25); whether there was one. -/
def Block.serveBinding (b : Block) (x : Binding) : Block × Bool :=
  match b.freeSpares with
  | k :: _ => (b.rebind k (some x), true)
  | [] => (b, false)

/-- Lanes take the bindings STRUCT gives (R21). A spare in the place of a retired lane keeps serving its binding (R72), and
what STRUCT binds to that spare finds another one; a move under an old binding is void, since the port receives under its new
binding from now on (R76); a binding that none serves takes a free spare, or its port is short of a lane (R26). -/
def Block.bindLanes (b : Block) : Block :=
  let keeps := (List.range 128).filter b.standsIn
  let b := (List.range 128).foldl (fun b l =>
    if (b.lane l).retired || keeps.contains l then b else b.rebind l (b.structBinding l)) b
  let b := { b with pool := { b.pool with moves := b.pool.moves.filter fun p => (b.lane p.1).binding == b.structBinding p.1 } }
  let b := (List.range 128).foldl (fun b l =>
    if (b.lane l).retired && !b.pool.moves.any (fun p => p.1 == l) then b.rebind l none else b) b
  let out := (List.range 128).foldl (fun (acc : Block × List Nat) l => match acc.1.structBinding l with
    | some x =>
      if acc.1.isServed l x then acc
      else
        let r := acc.1.serveBinding x
        (r.1, if r.2 then acc.2 else x.port :: acc.2)
    | none => acc) (b, [])
  ((List.range 24).foldl (fun b n =>
    (b.setOn (Reg.LP_STATUS_LANE_SHORT n) (out.2.contains n)).refreshAnchor n) out.1).countSpares

/-! ### Loading (R61 to R66) -/

/-- Write one setting record at load (R621). -/
def Block.loadRecord (b : Block) (p : Nat × Word) : Block :=
  if settingBase ≤ p.1 then
    { b with img := { b.img with settings := Store.put settingDefault b.img.settings (p.1 - settingBase) p.2 } }
  else
    let old := (b.rd p.1).toNat
    let m := settableMask p.1
    b.wr p.1 (BitVec.ofNat 32 (old - (old &&& m) + (p.2.toNat &&& m)))

/-- Whether some section carries a register (R621). -/
def carriedReg (off : Nat) : Bool := (List.range 11).any fun i => carries (i + 1) off

/-- What a load starts from (R58, R66, R621): the settings, and the fields of the registers that the sections carry, at their
reset defaults. -/
def Block.clearSet (b : Block) : Block :=
  let b := { b with img := { b.img with settings := [] } }
  (b.regs.filter fun p => carriedReg p.1).foldl (fun b p =>
    let m := settableMask p.1
    b.wr p.1 (BitVec.ofNat 32 (p.2.toNat - (p.2.toNat &&& m) + ((resetWord p.1).toNat &&& m)))) b

/-- The active set is loaded (R66): every record takes its value, what none names its reset default; the pools and the DRAM
follow. -/
def Block.loadSet (b : Block) (x : ImageSet) : Block :=
  let b := b.clearSet
  let b := x.sections.foldl (fun b s => s.2.foldl (fun b p => b.loadRecord p) b) b
  let b := { b with img := { b.img with active := some x } }
  let b := b.setAll [(Reg.CFG_STATUS_ACTIVE_VALID, 1), (Reg.CFG_STATUS_BOOT_SRC, x.source),
    (Reg.CFG_ACTIVE_SERIAL_SERIAL, x.serial.toNat), (Reg.FLT_DRAM_ROW_SPARES, Config.dramRowSpares)]
  b.bindLanes.showSettings.showReserve.followNoiseFreeze

/-- The bytes of the flash (unlisted bytes are erased). -/
def Block.flashBytes (b : Block) (off n : Nat) : List Byte := Store.range (fun _ => 0xFF) b.host.flash off n

/-- Read the flash header (R62), or take the defaults of R63: cause 0 its name is missing, 1 its CRC fails. R62 gives the
preferred slot only as 0x00 and 0x01: bit 0 of the byte decides (DESIGN CHOICE, log entry 177). -/
def Block.readFlashHeader (b : Block) : Block :=
  let h := b.flashBytes 0 32
  let bad : Option Nat := if leAt h 0 4 ≠ 0x46564A46 then some 0
    else if crc32c (h.take 28) ≠ leAt h 28 4 then some 1 else none
  match bad with
  | some c =>
    let b := { b with img := { b.img with slotA := 0x00100000, slotB := 0x00500000, journalAt := 0x00900000,
                                          flashDefault := some c } }
    b.setAll [(Reg.CFG_FLASH_SLOTS_PREF, 0), (Reg.CFG_FLASH_SLOTS_DEFAULTED, 1)]
  | none =>
    let b := { b with img := { b.img with slotA := leAt h 4 4, slotB := leAt h 8 4, journalAt := leAt h 16 4,
                                          flashDefault := none } }
    b.setAll [(Reg.CFG_FLASH_SLOTS_PREF, byteAt h 12 % 2), (Reg.CFG_FLASH_SLOTS_DEFAULTED, 0)]

/-- The image in a slot: as many bytes as its header gives, within the slot's 4 MiB (R62). -/
def Block.slotBytes (b : Block) (slotB : Bool) : List Byte :=
  let off := if slotB then b.img.slotB else b.img.slotA
  b.flashBytes off (max 256 (min 4194304 (leNat (b.flashBytes (off + 8) 4))))

/-- CFG_LOAD_STATUS after a verification. -/
def Block.reportChecked (b : Block) (shadow : Bool) (c : Checked) : Block :=
  b.setAll [(Reg.CFG_LOAD_STATUS_CAUSE, c.cause), (Reg.CFG_LOAD_STATUS_SECTION, c.sec),
    (Reg.CFG_LOAD_STATUS_TARGET, if shadow then 1 else 0)]

/-- Verify the image in a slot: a failed read is cause FLASH_READ. -/
def Block.checkSlot (b : Block) (shadow slotB readOk : Bool) : Checked :=
  if !readOk then failed 15 0 else b.verifyImage shadow (if slotB then 2 else 1) (b.slotBytes slotB)

/-- Verify the image the host supplies: a failed read is cause DMA. -/
def Block.checkHost (b : Block) (shadow : Bool) (d : DmaRead) : Checked :=
  match (if b.bme 0 then DmaRead.bytes? d else none) with
  | some bs => b.verifyImage shadow 0 (bs.take (b.get Reg.CFG_HOST_LEN_LEN))
  | none => failed 16 0

/-- A failed read of host memory is counted (R584). -/
def Block.countDma (b : Block) (fn : Nat) (d : DmaRead) : Block :=
  if b.bme fn && (DmaRead.bytes? d).isNone then b.dmaError fn d else b

/-- A CFG_ command completes (R84, R573). -/
def Block.cfgDone (b : Block) (status : Nat) : Block :=
  (b.setAll [(Reg.CFG_CMD_RESULT_STATUS, status), (Reg.CFG_CMD_RESULT_BUSY, 0)]).raiseFixed 6

/-- A LOAD or STAGE command ends without its set: the spec states no status for it, so it is a free value among the
codes of R368 (DESIGN CHOICE, log entry 33). -/
def Block.cfgFailed (b : Block) : Block := b.draw.cfgDone (b.free % 10)

/-- Whether the CFG_ block takes the PF's writes (R65, R537). -/
def Block.cfgReached (b : Block) : Bool :=
  !b.frozen 0 && (b.config 0).mse && (match b.dev with
    | .load | .settle | .service | .hold => true
    | _ => false)

/-- A command that the PF writes to CFG_CMD, where it takes effect. -/
def Block.byPfCfg (b : Block) (f : Block → Block) : Block := if b.cfgReached then f b else b

/-- A command written to CFG_CMD: not while another runs (R84); `ok` says whether it is accepted (R70), `f` what it
does. -/
def Block.cfgCmd (b : Block) (ok : Bool) (f : Block → Block) : Block :=
  if b.on Reg.CFG_CMD_RESULT_BUSY then
    (b.set Reg.CFG_CMD_RESULT_STATUS stStateReject).raiseFixed 6
  else if ok then f b
  else b.cfgDone stStateReject

/-- LOAD: the boot loader begins to read the host's image (R61, R65). -/
def Block.loadCmd (b : Block) : Block :=
  b.cfgCmd (b.dev == .load && b.get Reg.HIF_STRAPS_BOOT_SEL == 0) fun b =>
    (b.set Reg.CFG_CMD_RESULT_BUSY 1).inc Reg.CFG_LOAD_STATUS_ATTEMPTS

/-- LOAD (R65). -/
def execLoad (s : State) : Host.Outcome State Fault Refusal := answer "LOAD" true s fun b => b.byPfCfg Block.loadCmd

/-- The active set has been obtained: SETTLE begins (R45, R538, R63, R557). -/
def Block.loaded (b : Block) (x : ImageSet) : Block :=
  let b := (b.loadSet x).enterSettle
  (b.post 0x1001 0 0x49 [(4, (b.rd Reg.GLB_RESET_CAUSE).toNat)]).recordDefaulted

/-- No image can be obtained: doubt 0x01 (R61, R536). -/
def Block.unloadable (b : Block) : Block := b.doubt 0x01

/-- The end of obtaining the active image, according to BOOT_SEL (R61). -/
def Block.loadComplete (b : Block) (src : ImageSource) : Block :=
  let finish (b : Block) (c : Checked) : Block :=
    match c.set with
    | some x => (b.reportChecked false c).loaded x
    | none => (b.reportChecked false c).unloadable
  if b.dev != .load then b
  else match b.get Reg.HIF_STRAPS_BOOT_SEL with
    | 0 =>
      if !b.on Reg.CFG_CMD_RESULT_BUSY then b
      else
        let c := b.checkHost false src.host
        let b := (b.countDma 0 src.host).reportChecked false c
        match c.set with
        | some x => (b.cfgDone stOK).loaded x
        | none =>
          let b := b.cfgFailed
          if 4 ≤ b.get Reg.CFG_LOAD_STATUS_ATTEMPTS then b.unloadable else b
    | 1 =>
      let prefB := b.on Reg.CFG_FLASH_SLOTS_PREF
      let readOk (slotB : Bool) : Bool := if slotB then src.slotBOk else src.slotAOk
      let first := b.checkSlot false prefB (readOk prefB)
      if first.set.isSome then finish b first
      else finish b (b.checkSlot false (!prefB) (readOk (!prefB)))
    | 2 => finish b (b.checkSlot false true src.slotBOk)
    | _ => b.unloadable

/-- LOAD_COMPLETE (R538). -/
def execLoadComplete (src : ImageSource) (s : State) : Host.Outcome State Fault Refusal :=
  answer "LOAD_COMPLETE" true s fun b => b.loadComplete src

/-! ### The shadow set (R69 to R71) -/

/-- A STAGE command: in SERVICE, with the shadow EMPTY, VALID or INVALID (R69, R70). -/
def Block.stageCmd (b : Block) (source : Nat) : Block :=
  let shadow := b.get Reg.CFG_STATUS_SHADOW
  b.cfgCmd (b.dev == .service && (shadow == 0 || shadow == 2 || shadow == 3)) fun b =>
    let b := { b with img := { b.img with shadow := none, staging := source } }
    b.setAll [(Reg.CFG_STATUS_SHADOW, 1), (Reg.CFG_CMD_RESULT_BUSY, 1), (Reg.CFG_SHADOW_SERIAL_SERIAL, 0),
      (Reg.CFG_PRESERVE_MASK_PORTS, 0)]

/-- STAGE_HOST (R69). -/
def execStageHost (s : State) : Host.Outcome State Fault Refusal := answer "STAGE_HOST" true s fun b => b.byPfCfg fun b => b.stageCmd 0

/-- STAGE_SLOT_A (R69). -/
def execStageSlotA (s : State) : Host.Outcome State Fault Refusal := answer "STAGE_SLOT_A" true s fun b => b.byPfCfg fun b => b.stageCmd 1

/-- STAGE_SLOT_B (R69). -/
def execStageSlotB (s : State) : Host.Outcome State Fault Refusal := answer "STAGE_SLOT_B" true s fun b => b.byPfCfg fun b => b.stageCmd 2

/-- CFG_PRESERVE_MASK of a shadow. -/
def preserveMask (secs : Sections) : Nat := ((List.range 24).map fun n => if preserves secs n then 2 ^ n else 0).sum

/-- Staging ends: the shadow becomes VALID or INVALID (R59, R70). A staging whose shadow has been discarded meanwhile
(R71) ends without its set. -/
def Block.stagingDone (b : Block) (src : ImageSource) : Block :=
  if b.dev == .load || !b.on Reg.CFG_CMD_RESULT_BUSY then b
  else if b.get Reg.CFG_STATUS_SHADOW ≠ 1 then b.cfgFailed
  else
    let c := match b.img.staging with
      | 0 => b.checkHost true src.host
      | 1 => b.checkSlot true false src.slotAOk
      | _ => b.checkSlot true true src.slotBOk
    let b := if b.img.staging = 0 then b.countDma 0 src.host else b
    let b := b.reportChecked true c
    match c.set with
    | some x =>
      let b := { b with img := { b.img with shadow := some x } }
      (b.setAll [(Reg.CFG_STATUS_SHADOW, 2), (Reg.CFG_SHADOW_SERIAL_SERIAL, x.serial.toNat),
        (Reg.CFG_PRESERVE_MASK_PORTS, preserveMask x.sections)]).cfgDone stOK
    | none => (b.set Reg.CFG_STATUS_SHADOW 3).cfgFailed

/-- STAGING_DONE (R59). -/
def execStagingDone (src : ImageSource) (s : State) : Host.Outcome State Fault Refusal :=
  answer "STAGING_DONE" true s fun b => b.stagingDone src

/-- DISCARD (R70). -/
def Block.discardCmd (b : Block) : Block :=
  b.cfgCmd (b.get Reg.CFG_STATUS_SHADOW == 2 || b.get Reg.CFG_STATUS_SHADOW == 3) fun b => b.discardShadow.cfgDone stOK

/-- DISCARD (R70). -/
def execDiscard (s : State) : Host.Outcome State Fault Refusal :=
  answer "DISCARD" true s fun b => b.byPfCfg Block.discardCmd

/-- SEAL (R67). -/
def Block.sealCmd (b : Block) : Block := b.cfgCmd true fun b => (b.set Reg.CFG_STATUS_SEALED 1).cfgDone stOK

/-- SEAL (R67). -/
def execSeal (s : State) : Host.Outcome State Fault Refusal := answer "SEAL" true s fun b => b.byPfCfg Block.sealCmd

/-! ### The exchange of the sets (R72 to R77, R82) -/

/-- The registers of a port that a swap may change. -/
def portRegs (n : Nat) : List Nat :=
  [Reg.LP_CTRL n, Reg.LP_AGC_CTRL n, Reg.BRG_TRIM n, Reg.LP_THERM_INIT n, Reg.LP_G3_CTRL n, Reg.LP_G3_Q n] ++
    (List.range 4).map (Reg.PT_BUD_CFG n)

/-- Every register a section carries. -/
def sectionRegs (id : Nat) : List Nat :=
  (carriedRegs id).flatMap fun base => match regAt base with
    | some r => r.offsets
    | none => []

/-- A register takes its value of the incoming image (R68, R621): RWL fields always, RW fields where a record sets
them; `m` limits the bits concerned. -/
def Block.swapWord (b : Block) (secs : Sections) (m off : Nat) : Block :=
  let set := secs.any fun s => s.2.any fun p => p.1 == off
  let bits := (if set then settableMask off else rwlMask off) &&& m
  let old := (b.rd off).toNat
  b.wr off (BitVec.ofNat 32 (old - (old &&& bits) + (imgWord secs off &&& bits)))

/-- All 32 bits. -/
def allBits : Nat := 0xFFFFFFFF

/-- The THR and OCC bits of BRG_NM_CTRL. -/
def thrOccBits : Nat := 0x7FFF00

/-- The registers of a section take the values of the active set. -/
def Block.swapSection (b : Block) (secs : Sections) (id : Nat) : Block :=
  (sectionRegs id).foldl (fun b off => b.swapWord secs allBits off) b

/-- SCHED of a swap takes effect (R77), at a superframe start. -/
def Block.applySched (b : Block) : Block :=
  if b.img.schedPending = [] then b
  else
    let old := b.get Reg.SND_CTRL_FREEZE
    let b := ({ b with img := { b.img with schedPending := [] } }).swapSection
      ((b.img.active.map (fun (x : ImageSet) => x.sections)).getD []) 4
    let new := b.on Reg.SND_CTRL_FREEZE
    (b.set Reg.SND_CTRL_FREEZE old).setFreeze new

/-- The outgoing reception of a lane of a rebound port is dropped and counted (R76). -/
def Block.dropRebound (b : Block) (l : Nat) : Block :=
  if (b.lane l).current.isSome then (b.dropReception l).inc Reg.CFG_SWAP_DROPS_COUNT else b

/-- A rebound port's trim moves: its offset is measured afresh (R73, R101). -/
def Block.remeasureInput (b : Block) (n : Nat) : Block :=
  b.setSensed n { b.sensed n with refOffset := none, angles := [], sinceMean := 0 }

/-- The image-only settings of STRUCT, PORTS and BANDS take the incoming values; those of preserved ports are equal. -/
def Block.swapSettings (b : Block) (secs : Sections) : Block :=
  let addrs := (List.range 128).map (4 * ·) ++ (List.range 24).map (0x1000 + 4 * ·) ++ (List.range 24).map (0x2000 + 4 * ·)
  { b with img := { b.img with settings := addrs.foldl (fun m a =>
      Store.put settingDefault m a (BitVec.ofNat 32 (imgSetting secs a))) b.img.settings } }

/-- A swap that changes W or λ of a port's budgets places the whole account in the current bucket (R276). -/
def Block.regroupAccounts (b : Block) (before : Block) (n : Nat) : Block :=
  (List.range 4).foldl (fun b s =>
    if b.get (Reg.PT_BUD_CFG_WINDOW n s) = before.get (Reg.PT_BUD_CFG_WINDOW n s) ∧
        b.get (Reg.PT_BUD_CFG_LIMIT n s) = before.get (Reg.PT_BUD_CFG_LIMIT n s) then b
    else
      let sum := ((Store.get (fun _ => []) b.mac.accounts (4 * n + s)).take 33).sum
      { b with mac := { b.mac with
        accounts := Store.put (fun _ => []) b.mac.accounts (4 * n + s) (if sum = 0 then [] else [sum]) } }) b

/-- A rebound port's G3 neighbour table is cleared (R339). -/
def Block.forgetG3 (b : Block) (n : Nat) : Block :=
  { b with g3 := Store.modify (fun _ => G3Port.reset) b.g3 n fun g => { g with neigh := [] } }

/-- The exchange of the sets at the swap bearing (R72 to R77, R82). -/
def Block.swapSets (b : Block) (new : ImageSet) (at_ : Bearing) : Block :=
  let secs := new.sections
  let prior := b
  let rebound := (List.range 24).filter fun n => !preserves secs n
  let before := b.get Reg.CFG_SWAP_DROPS_COUNT
  let b := rebound.foldl (fun b n => (b.lanesOf n).foldl (fun b l => b.dropRebound l) b) b
  let dropped := (b.get Reg.CFG_SWAP_DROPS_COUNT + 2 ^ 32 - before) % 2 ^ 32
  let moved := rebound.filter fun n => !b.sameRwl secs (Reg.BRG_TRIM n)
  let b := rebound.foldl (fun b n => (portRegs n).foldl (fun b off => b.swapWord secs allBits off) b) b
  let b := moved.foldl (fun b n => b.remeasureInput n) b
  let b := (sectionRegs 1).foldl (fun b off => b.swapWord secs allBits off) b
  let b := b.swapWord secs (allBits - thrOccBits) Reg.BRG_NM_CTRL
  let b := [8, 9, 10].foldl (fun b id => b.swapSection secs id) b
  let b := b.defaultCheckB secs fun _ => true
  let b := { b with img := { b.img with
    active := some new, shadow := none, armed := none, ended := some at_, quiet := some (at_, rebound)
    schedPending := (sectionRegs 4).map fun off => (off, BitVec.ofNat 32 (imgWord secs off))
    nmPending := [(Reg.BRG_NM_CTRL, BitVec.ofNat 32 (imgWord secs Reg.BRG_NM_CTRL))] } }
  let b := b.swapSense prior
  let b := (((b.swapSettings secs).bindLanes).showSettings).serialFollow
  let b := if at_.toNat % 65536 = 0 then b.applyNoiseThresholds else b
  let b := if at_.toNat % 2 ^ 19 = 0 then b.applySched else b
  let b := b.setAll [(Reg.CFG_STATUS_SHADOW, 0), (Reg.CFG_ACTIVE_SERIAL_SERIAL, new.serial.toNat),
    (Reg.CFG_SHADOW_SERIAL_SERIAL, 0), (Reg.CFG_PRESERVE_MASK_PORTS, 0), (Reg.CFG_SWAP_STATUS_STATE, 2),
    (Reg.CFG_SWAP_STATUS_CAUSE, 0)]
  let b := rebound.foldl (fun b n => (b.refreshPort n).refreshPortCal n) b
  let b := rebound.foldl (fun b n => (((b.forgetG3 n).regroupAccounts prior n).dropHeld n).showAgcCal n) b
  let b := b.followNoiseFreeze
  (b.raiseFixed 6).post 0x0201 0 0x4B [(6, at_.toNat), (2, dropped)]

/-- The armed swap at its bearing (R80 to R82): a member that holds COMMIT swaps, one that holds none does not; Bearing
in holdover aborts it. The master shows its own rank in MEMBERS; the others follow with its SYNCs (log entry 57). -/
def Block.imageSwap (b : Block) : Block :=
  match b.img.armed, b.img.shadow with
  | some a, some new =>
    if a.bearing ≠ b.brg.now ∧ ahead a.bearing b.brg.now then b
    else if b.brg.state = .holdover then b.abortSwapAll 4
    else if a.verdict = .commit then
      (b.set Reg.CFG_SWAP_STATUS_MEMBERS (if b.chainEnabled && b.chain.role != .master then 0 else
        2 ^ b.get Reg.CHN_ID_RANK)).swapSets new a.bearing
    else b.swapAbort 7
  | _, _ => b

/-- IMAGE_SWAP (R82). -/
def execImageSwap (s : State) : Host.Outcome State Fault Refusal := answer "IMAGE_SWAP" true s fun b => b.imageSwap

end Sys2Proof.Machine
end

