-- ==== Sys2Proof/Machine/Keys.lean ====
section
/-!
DEFINITION. Key contexts and keys (11_cipher_sieve.md): the context registers (R389, R424, R425), derivation and its
cache (R383 to R387), counters and rekeying (R390 to R392, R394), the protection of a parcel (R395 to R397).
-/

namespace Sys2Proof.Machine

/-! ### Contexts -/

/-- The 32 bytes of a context record (R425). -/
def Ctx.toBytes (c : Ctx) : List Byte :=
  toLe 1 c.purpose ++ toLe 1 (c.state % 4 + 4 * bitOf c.due + 8 * bitOf c.dir + 16 * bitOf c.ccm) ++ toLe 1 c.slot ++
    [0] ++ toLe 3 c.gen ++ [0] ++ toLe 4 (if c.dir then c.high else c.next) ++ [0, 0, 0, 0] ++ toLe 8 c.long.toNat ++
    toLe 8 c.window.toNat

/-- The context that a record spells (R425): a receive context has DIR 1. -/
def Ctx.ofBytes (bs : List Byte) : Ctx :=
  let f := byteAt bs 1
  { purpose := byteAt bs 0, state := f % 4, due := f.testBit 2, dir := f.testBit 3, ccm := f.testBit 4
    slot := byteAt bs 2 % 64, gen := leAt bs 4 3, next := if f.testBit 3 then 1 else leAt bs 8 4
    high := if f.testBit 3 then leAt bs 8 4 else 0, long := BitVec.ofNat 64 (leAt bs 16 8)
    window := BitVec.ofNat 64 (leAt bs 24 8) }

/-- The contexts of a page that something has opened, by number. -/
def Block.pageCtxs (b : Block) (page : Nat) : List (Nat × Ctx) :=
  b.cx.ctxs.filterMap fun p => if p.1 / 2 ^ 19 = page then some (p.1 % 2 ^ 19, p.2) else none

/-- OPEN and CX_DUE_CTX of a page follow its contexts (R424). -/
def Block.refreshPage (b : Block) (page : Nat) : Block :=
  let cs := b.pageCtxs page
  let b := b.set (Reg.CX_PAGE_STAT_OPEN page) (cs.filter fun c => c.2.state == 1 || c.2.state == 2).length
  match cs.find? fun c => c.2.due with
  | some c => b.setAll [(Reg.CX_DUE_CTX_CTX page, c.1), (Reg.CX_DUE_CTX_VALID page, 1)]
  | none => b.setAll [(Reg.CX_DUE_CTX_CTX page, 0), (Reg.CX_DUE_CTX_VALID page, 0)]

/-- Replace a context; link and G3 contexts go to the partner (R394). -/
def Block.setCtx (b : Block) (page n : Nat) (c : Ctx) : Block :=
  let old := b.ctx page n
  let b := ({ b with cx := { b.cx with ctxs := Store.put (fun _ => Ctx.closed) b.cx.ctxs (page * 2 ^ 19 + n) c } }).refreshPage page
  if page = linkPage then b.replicate replCtx n old.toBytes c.toBytes else b

/-- The first G3 context (R388). -/
def g3CtxBase : Nat := 262144

/-- Contexts of a page (R388). -/
def ctxCount (page : Nat) : Nat := if page = linkPage then 262192 else 256

/-- The function that holds a page (R402, R424). -/
def Block.pageFn (b : Block) (page : Nat) : Nat := if page = linkPage then 0 else b.get (Reg.CX_PAGE_CFG_FUNCTION page)

/-! ### Derivation (R383 to R387, R400) -/

/-- The root key of a page (R382). -/
def Block.rootIx (b : Block) (page : Nat) : Nat := b.get (Reg.CX_PAGE_CFG_ROOT page)

/-- The key derived on a page from a label. -/
def Block.pageKey (b : Block) (page : Nat) (label : List Byte) : List Byte := kdf (Config.rootKey (b.rootIx page)) label

/-- The label of a node's K_node (R385). -/
def nodeLabel (long : BitVec 64) : List Byte := keyLabel 1 0 long linkPage false

/-- The label of a node's K_link (R385). -/
def linkLabel (long : BitVec 64) (gen : Nat) (up : Bool) : List Byte := keyLabel 2 gen long linkPage up

/-- K_link of a node (R385). -/
def Block.linkKey (b : Block) (long : BitVec 64) (gen : Nat) (up : Bool) : List Byte :=
  kdf (b.pageKey linkPage (nodeLabel long)) (linkLabel long gen up)

/-- The label under which imported keys are wrapped (R400). -/
def kekLabel : List Byte := keyLabel 3 0 0 linkPage false

/-- An imported key, unwrapped (R400); empty where the slot holds none. -/
def Block.slotKey (b : Block) (s : Nat) : List Byte :=
  (unwrapKey (b.pageKey linkPage kekLabel) (Store.get (fun _ => []) b.cx.slots s)).getD []

/-- Whether an import slot holds a key. -/
def Block.slotFilled (b : Block) (s : Nat) : Bool := !(Store.get (fun _ => []) b.cx.slots s).isEmpty

/-- Whether a derived key is in the cache. -/
def Block.cached (b : Block) (root : Nat) (label : List Byte) : Bool := b.cx.cache.contains (root, label)

/-- Use a derived key: it becomes the most recently used of at most 4,096; a derivation is counted (R387, R426). -/
def Block.touchKey (b : Block) (root : Nat) (label : List Byte) : Block :=
  let hit := b.cached root label
  let b := { b with cx := { b.cx with cache := ((root, label) :: b.cx.cache.erase (root, label)).take 4096 } }
  if hit then b else b.inc Reg.CX_CACHE_MISS_COUNT

/-- Use K_link of a node; on a miss K_node is used too (R385). -/
def Block.touchLink (b : Block) (long : BitVec 64) (gen : Nat) (up : Bool) : Block :=
  let root := b.rootIx linkPage
  let b := if b.cached root (linkLabel long gen up) then b else b.touchKey root (nodeLabel long)
  b.touchKey root (linkLabel long gen up)

/-- The key of a host context at a generation (R384, R386). -/
def Block.hostKey (b : Block) (page : Nat) (c : Ctx) (gen : Nat) : List Byte :=
  b.pageKey page (keyLabel c.purpose gen c.long page c.dir)

/-! ### Counters (R390 to R394) -/

/-- REKEY of a context (R391): a new generation, or RETIRED; and whether it was retired. -/
def Block.rekeyCtx (b : Block) (page n : Nat) : Block × Bool :=
  let c := b.ctx page n
  if c.gen = 0xFFFFFF then
    (((b.setCtx page n { c with state := 3, due := false }).set (Reg.CX_PAGE_STAT_RETIRED_SEEN page) 1).post 0x0B03 2 0x43
      [(1, page), (3, n)], true)
  else (b.setCtx page n { c with state := 1, gen := c.gen + 1, next := 1, due := false }, false)

/-- A context becomes DUE (R390, R392): the page's bit, the record, its vector, and on page 16 the rekey. -/
def Block.becomeDue (b : Block) (page n : Nat) : Block :=
  let c := b.ctx page n
  let b := (b.setCtx page n { c with due := true }).set (Reg.CX_PAGE_STAT_DUE page) 1
  let b := b.post 0x0B01 1 0x43 [(1, page), (3, n), (3, c.gen)]
  let b := if b.on (Reg.CX_PAGE_CTRL_DUE_EN page) then b.raise (b.pageFn page) (b.get (Reg.CX_PAGE_CTRL_VECTOR page)) else b
  if page = linkPage ∧ b.on Reg.CX_CTRL_AUTO_REKEY then
    let r := b.rekeyCtx page n
    if r.2 then r.1 else r.1.post 0x0B02 0 0x43 [(1, page), (3, n), (3, c.gen + 1)]
  else b

/-- NEXT of a transmit context takes a value (R390): EXHAUSTED at 0xFFFF_FFFF, DUE from 0xFFF0_0000 on. -/
def Block.setNext (b : Block) (page n v : Nat) : Block :=
  let c := b.ctx page n
  let v := min v 0xFFFFFFFF
  let b := b.setCtx page n { c with next := v, state := if v = 0xFFFFFFFF then 2 else c.state }
  if 0xFFF00000 ≤ v ∧ !c.due then b.becomeDue page n else b

/-- Use the next counter of a context for an encryption (R390). -/
def Block.useCounter (b : Block) (page n : Nat) : Block :=
  (b.inc (Reg.CX_ENC_COUNT_COUNT page)).setNext page n ((b.ctx page n).next + 1)

/-! ### Parcels (R395 to R397) -/

/-- The IV of a link parcel (R395). -/
def linkIv (long : BitVec 64) (fctr : Nat) : List Byte := toBe 8 long.toNat ++ toBe 4 fctr

/-- The associated data of a link parcel (R395). -/
def linkAad (net : Nat) (header : List Byte) : List Byte := toLe 1 net ++ header

/-- The tag of a link parcel: the leading 96 bits (R395). -/
def linkTag (key : List Byte) (long : BitVec 64) (fctr net : Nat) (header ct : List Byte) : List Byte :=
  (gcmTag key (linkIv long fctr) (linkAad net header) ct).take 12

/-- The record of a parcel to entry x: under its downlink context if that is OPEN, else with SEC 0 (R395, R399). -/
def Block.sealParcel (b : Block) (x : Nat) (p : OutParcel) : Block × List Byte :=
  let h : ParcelHeader := { plen := p.body.length, prio := p.prio, sec := false, orig := p.orig, final := p.final,
                            fctr := 0, pseq := p.pseq, gen := 0 }
  if b.linkOpen x false then
    let n := linkCtx x false
    let c := b.ctx linkPage n
    let h := { h with sec := true, fctr := c.next, gen := c.gen % 256 }
    let key := b.linkKey c.long c.gen false
    let ct := gcmText key (linkIv c.long c.next) p.body
    let tag := linkTag key c.long c.next (b.get Reg.MAC_NET_NET_ID) h.toBytes ct
    ((b.touchLink c.long c.gen false).useCounter linkPage n, parcelRecord h ct tag)
  else (b, parcelRecord h p.body [])

/-- The generation of a received parcel (R396). -/
def parcelGen (g low : Nat) : Nat := g + (low + 256 - g % 256) % 256

/-- Whether a receive context accepts a counter (R397); under another generation nothing has been accepted yet. -/
def Ctx.accepts (c : Ctx) (gen fctr : Nat) : Bool :=
  gen != c.gen || c.high < fctr || (c.high ≤ fctr + 63 && !c.window.getLsbD (c.high - fctr))

/-- A receive context after a parcel whose tag has passed (R396, R397). -/
def Ctx.accept (c : Ctx) (gen fctr : Nat) : Ctx :=
  if gen ≠ c.gen then { c with gen := gen, high := fctr, window := 1 }
  else if c.high < fctr then { c with high := fctr, window := (c.window <<< (fctr - c.high)) ||| 1 }
  else { c with window := c.window ||| (1 <<< (c.high - fctr)) }

end Sys2Proof.Machine
end

