-- ==== Sys2Proof/Machine/Engines.lean ====
section
/-!
DEFINITION. The cipher engines (R406 to R413) and the cipher commands (R402 to R405, R408, R421), Sieve's self-tests
(R418, R419) and the context record (R424).
-/

namespace Sys2Proof.Machine

/-! ### A received parcel whose tag has passed -/

/-- Set a PMASK bit of an ACK that has not started (R247). -/
def Block.ackParcel (b : Block) (num bit : Nat) : Block :=
  b.setTx num fun x =>
    if x.stage = .admitted ∧ 18 ≤ x.mac.length then
      let mask := leAt x.mac 15 2 ||| 2 ^ bit
      let head := x.mac.take 15 ++ toLe 2 mask ++ [(x.mac.getD 17 0)]
      x.withMac (head ++ crc32le head)
    else x

/-- A parcel received over a hop enters that hop's record of the last 256 (R315). -/
def Block.noteSeen (b : Block) (hop orig pseq : Nat) : Block :=
  b.modExt hop fun e => { e with seen := ((orig, pseq) :: e.seen.filter fun p => p != (orig, pseq)).take 256 }

/-- The receive stamp record of a delivered parcel (R439). -/
def Block.receiveStamp (b : Block) (port orig pseq : Nat) (sync : Bearing) (stampA stampB : Nat) : Block :=
  if b.on Reg.DTM_RXS_ENABLE then
    b.produce (b.get Reg.DTM_RXS_QUEUE)
      { bytes := stampRecord stampA stampB sync (pseq % 2 ^ 15) ++ toLe 3 orig ++ toLe 1 port ++ [0, 0, 0, 0]
        prio := 0, prov := false, orig := 0, pseq := 0, producer := 19 }
  else b

/-- A G3 neighbour's highest accepted counter (R337). -/
def Block.g3Accepted (b : Block) (port short fctr : Nat) : Block :=
  { b with g3 := Store.modify (fun _ => G3Port.reset) b.g3 port fun g =>
      { g with neigh := g.neigh.map fun n => if n.short = short then { n with fctr := some fctr } else n } }

/-- What follows when the tag of a received parcel has passed: the context moves on (R396, R397), the parcel is in its
hop's record, its PMASK bit is set; for a G3 frame the neighbour's counter moves on. -/
def Block.linkAccepted (b : Block) (w : LinkWork) : Block :=
  if w.ctx < g3CtxBase then
    let b := b.setCtx linkPage w.ctx ((b.ctx linkPage w.ctx).accept w.gen w.fctr)
    let b := b.noteSeen w.hop w.parcel.orig w.parcel.pseq
    match w.ack with
    | some a => b.ackParcel a.1 a.2
    | none => b
  else b.g3Accepted w.port w.short w.fctr

/-- A received parcel that no receive queue takes (R35 to R37): an engine decrypts it, and its tag decides. One seen before is
acknowledged and counted again (R315). -/
def Block.passLink (b : Block) (w : LinkWork) (use : LinkUse) (tagOk : Bool) : Block :=
  let b := b.inc (Reg.CX_DEC_COUNT_COUNT linkPage)
  if !tagOk then b.inc (Reg.CX_TAG_FAILS_COUNT linkPage)
  else
    let seen := (b.ext w.hop).seen.contains (w.parcel.orig, w.parcel.pseq)
    let b := b.linkAccepted w
    if seen then b.inc Reg.TRV_DUP_COUNT
    else match use with
      | .relay f => { b with cx := { b.cx with relays := b.cx.relays ++ [(w.parcel, f)] } }
      | .dropped => b.inc Reg.QF_DROPS_COUNT
      | .unknown => b

/-! ### Engines (R406, R407) -/

/-- An engine. -/
def Block.engine (b : Block) (e : Nat) : Engine := Store.get (fun _ => Engine.idle) b.cx.engines e

/-- The SUSP field of an engine (R426). -/
def suspField (e : Nat) : Field :=
  match e with
  | 0 => Reg.CX_ENGINE_STAT_SUSP0
  | 1 => Reg.CX_ENGINE_STAT_SUSP1
  | 2 => Reg.CX_ENGINE_STAT_SUSP2
  | _ => Reg.CX_ENGINE_STAT_SUSP3

/-- Replace an engine; its SUSP field follows. -/
def Block.setEngine (b : Block) (e : Nat) (x : Engine) : Block :=
  ({ b with cx := { b.cx with engines := Store.put (fun _ => Engine.idle) b.cx.engines e x } }).set (suspField e)
    x.suspended.length

/-- Whether an engine is in service. -/
def Block.engineAlive (b : Block) (e : Nat) : Bool := b.bit Reg.CX_ENGINE_STAT_ALIVE e

/-- The operation that goes first: the lowest PRIO, then list order (R406). -/
def firstOp (ops : List CipherOp) : Option CipherOp :=
  ops.foldl (fun best o => match best with
    | none => some o
    | some x => if o.prio < x.prio then some o else some x) none

/-- The engine free for an operation of a priority: one that runs nothing and holds no suspended operation that would
go first (R407). -/
def Block.idleEngine (b : Block) (prio : Nat) : Option Nat :=
  (List.range 4).find? fun e => b.engineAlive e && (b.engine e).running.isNone &&
    (b.engine e).suspended.all fun s => prio < s.prio

/-- The engine that a priority-0 operation suspends (R407). -/
def Block.victim (b : Block) : Option Nat :=
  ((List.range 4).foldl (fun best e =>
    match (b.engine e).running with
    | some o =>
      if b.engineAlive e && 0 < o.prio && (b.engine e).suspended.length < 4 then
        match best with
        | some (_, p) => if p < o.prio then some (e, o.prio) else best
        | none => some (e, o.prio)
      else best
    | none => best) (none : Option (Nat × Nat))).map (·.1)

/-- Suspend what an engine runs (R407). -/
def Block.suspendEngine (b : Block) (e : Nat) : Block :=
  let x := b.engine e
  match x.running with
  | some o => (b.setEngine e { running := none, suspended := o :: x.suspended }).inc Reg.CX_SUSPEND_COUNT_COUNT
  | none => b

/-- Whether a priority-0 parcel that waits to be encrypted goes ahead of an operation of a priority (R53). -/
def Block.sendAhead (b : Block) (prio : Nat) : Bool := 0 < prio && !b.cx.sendsWait.isEmpty && b.on Reg.PT_P0_WAIT_COUNT

/-- An engine for an operation of a priority, where one is to be had now: a free one, or for priority 0 the one whose
operation is suspended (R53, R407). While the DRBG is stopped every operation waits (R409). -/
def Block.seize (b : Block) (prio : Nat) : Option (Nat × Block) :=
  if b.cx.drbgStopped then none
  else match b.idleEngine prio with
    | some e => some (e, b)
    | none =>
      if prio = 0 then
        match b.victim with
        | some e => some (e, b.suspendEngine e)
        | none => none
      else none

/-- The status with which a context refuses an encryption (R390, R404). -/
def Ctx.encryptRefusal (c : Ctx) : Option Nat :=
  if c.state = 1 then none else some (if c.state = 2 then stNonceExhausted else stStateReject)

/-- Complete a command; NONCE_EXHAUSTED is counted on its page (R424). -/
def Block.cipherDone (b : Block) (c : Cmd) (page st : Nat) (result : List Byte) : Block :=
  let b := if st = stNonceExhausted then b.inc (Reg.CX_NONCE_EXH_COUNT page) else b
  b.complete c st result

/-- A host ENCRYPT runs (R404): ciphertext and tag go to DST. -/
def Block.hostEncrypt (b : Block) (c : Cmd) (aad src : List Byte) : Block :=
  let page := c.le 0x10 1
  let n := c.le 0x14 4
  let x := b.ctx page n
  match x.encryptRefusal with
  | some st => b.cipherDone c page st []
  | none =>
    let fctr := x.next
    let key := b.hostKey page x x.gen
    let nonce := Config.hostNonce x.ccm x.long.toNat fctr
    let ct := if x.ccm then ccmText key nonce src else gcmText key nonce src
    let tag := if x.ccm then ccmMic key nonce aad src else (gcmTag key nonce aad ct).take 12
    let b := b.touchKey (b.rootIx page) (keyLabel x.purpose x.gen x.long page x.dir)
    let b := (b.useCounter page n).dma c.fn (c.le 0x38 8) (ct ++ tag)
    b.complete c stOK (toLe 4 fctr ++ toLe 3 x.gen)

/-- The parcel of an operation under a tag check. -/
def CipherOp.parcel (o : CipherOp) : Option Produce :=
  match o.work with
  | .encrypt .. => none
  | .decrypt _ p => some p
  | .link w => some w.parcel
  | .pass .. => none

/-- Whether a queue still holds or waits for the parcel of an operation. -/
def Block.opPending (b : Block) (o : CipherOp) : Bool :=
  (b.q o.queue).live == o.parcel || (match o.parcel with
    | some p => (b.q o.queue).waiting.contains p
    | none => false)

/-- What the end of a decryption brings: the completion of a DECRYPT, or the acceptance of a received parcel; failures
are counted on the page (R405, R411). `stored`: the parcel had a place in its queue. -/
def Block.endDecryption (b : Block) (o : CipherOp) (pass stored : Bool) : Block :=
  let b := if pass then b else b.inc (Reg.CX_TAG_FAILS_COUNT o.page)
  match o.work with
  | .encrypt .. => b
  | .pass .. => b
  | .decrypt c _ => b.complete c (if !pass then stTagFail else if stored then stOK else stNoResource) []
  | .link w =>
    if pass then
      let b := b.linkAccepted w
      if stored then b.receiveStamp w.port w.parcel.orig w.parcel.pseq w.sync w.stampA w.stampB else b
    else if g3CtxBase ≤ w.ctx ∧ !o.tagOk then b.inc (Reg.LP_G3_MIC_FAIL_COUNT w.port)
    else b

/-- End the running operations whose parcel found no place in its queue. -/
def Block.reap (b : Block) : Block :=
  (List.range 4).foldl (fun b e =>
    match (b.engine e).running with
    | some o => if b.opPending o then b else
        (b.setEngine e { b.engine e with running := none }).endDecryption o o.tagOk false
    | none => b) b

/-- An engine takes an operation: one that writes no queue runs to its end, a decryption that does writes its plaintext as PROV
and runs until its tag decision. -/
def Block.startOp (b : Block) (e : Nat) (o : CipherOp) : Block :=
  match o.work with
  | .encrypt c aad src => b.hostEncrypt c aad src
  | .pass w use => b.passLink w use o.tagOk
  | .decrypt _ p => (((b.setEngine e { b.engine e with running := some o }).inc (Reg.CX_DEC_COUNT_COUNT o.page)).produce o.queue p).reap
  | .link w =>
    (((b.setEngine e { b.engine e with running := some o }).inc (Reg.CX_DEC_COUNT_COUNT o.page)).produce o.queue w.parcel).reap

/-- Let the operations that wait take what engines are free, in order (R406). -/
def Block.runWaiting (b : Block) : Nat → Block
  | 0 => b
  | fuel + 1 =>
    match firstOp b.cx.waiting with
    | none => b
    | some o =>
      if b.cx.drbgStopped || b.sendAhead o.prio then b
      else match b.idleEngine o.prio with
        | some e => ({ b with cx := { b.cx with waiting := b.cx.waiting.erase o } }.startOp e o).runWaiting fuel
        | none => b

/-- Give every waiting operation its chance. -/
def Block.serveEngines (b : Block) : Block := b.runWaiting (b.cx.waiting.length + 4)

/-- A cipher operation arrives (R406, R407). -/
def Block.requestOp (b : Block) (prio page queue : Nat) (work : CipherWork) (tagOk : Bool) : Block :=
  let o : CipherOp := { num := b.cx.nextNum, prio := prio, page := page, queue := queue, work := work, tagOk := tagOk }
  let b := { b with cx := { b.cx with nextNum := b.cx.nextNum + 1 } }
  match (if b.cx.waiting.any (fun x => x.prio ≤ prio) || b.sendAhead prio then none else b.seize prio) with
  | some (e, b) => b.startOp e o
  | none => { b with cx := { b.cx with waiting := b.cx.waiting ++ [o] } }

/-- SUSPENDED_RESUME (R407): an idle engine restores its suspended operation of the highest priority, the last
suspended first among equals, unless an operation of higher priority waits (R53). -/
def Block.resumeSuspended (b : Block) (e : Nat) : Block :=
  let x := b.engine e
  match firstOp x.suspended with
  | some o =>
    if !b.engineAlive e || x.running.isSome || b.cx.drbgStopped || b.sendAhead o.prio ||
        b.cx.waiting.any (fun w => w.prio < o.prio) then b
    else b.setEngine e { running := some o, suspended := x.suspended.erase o }
  | none => b

/-- SUSPENDED_RESUME (R407). -/
def execSuspendedResume (e : Fin 4) (s : State) : Host.Outcome State Fault Refusal :=
  answer "SUSPENDED_RESUME" true s fun b => b.resumeSuspended e

/-- TAG_DECISION on a queue (R353, R411): the operation whose parcel is live there is decided by its tag and by the
comparison on a second engine; both engines are named where only the comparison fails. -/
def Block.tagDecision (b : Block) (q second : Nat) (equal : Bool) : Block :=
  let live := (b.q q).live
  let found := (List.range 4).find? fun e => match (b.engine e).running with
    | some o => o.queue == q && live.isSome && o.parcel == live
    | none => false
  match found with
  | none => b
  | some e =>
    if second = e ∨ !b.engineAlive second then b
    else match (b.engine e).running with
      | none => b
      | some o =>
        let pass := o.tagOk && equal
        let b := if o.tagOk && !equal then
          (b.inc Reg.CX_XCHK_FAIL_COUNT).post 0x0B04 2 0x43 [(1, e), (1, second), (1, o.page)] else b
        let b := b.setEngine e { b.engine e with running := none }
        (((b.decideTag q pass).endDecryption o pass true).reap).serveEngines

/-- TAG_DECISION (R353, R411). -/
def execTagDecision (q : QNum) (second : Fin 4) (equal : Bool) (s : State) : Host.Outcome State Fault Refusal :=
  answer "TAG_DECISION" true s fun b => b.tagDecision q.toNat second equal

/-! ### Commands (R402 to R404) -/

/-- Operand fields of R403 that an opcode does not use. -/
def unusedOperands (op : Nat) : List (Nat × Nat) :=
  match op with
  | 0x30 => [(0x11, 1), (0x12, 2), (0x18, 8), (0x20, 8), (0x28, 8), (0x36, 2)]
  | 0x31 => [(0x11, 1), (0x12, 2), (0x18, 8), (0x20, 8), (0x28, 8), (0x30, 8), (0x38, 8)]
  | 0x32 => [(0x11, 1), (0x12, 2), (0x18, 8), (0x20, 8), (0x28, 8), (0x30, 8), (0x38, 8)]
  | 0x33 => [(0x24, 4), (0x30, 8)]
  | 0x34 => [(0x33, 5), (0x38, 8)]
  | 0x35 => [(0x11, 1), (0x12, 2), (0x24, 4), (0x28, 8), (0x30, 8), (0x38, 8)]
  | _ => [(0x11, 1), (0x12, 2), (0x14, 4), (0x18, 8), (0x24, 4), (0x28, 8), (0x30, 8)]

/-- Whether the operands a cipher command does not use are 0 (R403). -/
def Cmd.operandsOk (c : Cmd) : Bool := (unusedOperands c.opcode).all fun f => c.le f.1 f.2 == 0

/-- Opcodes page 16 accepts (R402). -/
def linkPageOpcode (op : Nat) : Bool := op == 0x30 || op == 0x31 || op == 0x32 || op == 0x35

/-- A cipher command on its page (R402, R403): a page that the function does not hold is a violation; a page beyond 16,
an opcode the page does not accept or a nonzero unused operand is INVALID. -/
def Block.cipherCmd (b : Block) (c : Cmd) (f : Nat → Block → Block) : Block :=
  let page := c.le 0x10 1
  if 16 < page then b.complete c stInvalid []
  else if b.pageFn page ≠ c.fn then b.violation c.fn 6 (Reg.CX_PAGE_CTRL page)
  else if (page == linkPage && !linkPageOpcode c.opcode) || (page != linkPage && c.opcode == 0x35) || !c.operandsOk then
    b.complete c stInvalid []
  else f page b

/-- Whether a page permits a purpose (R386, R424). -/
def Block.permits (b : Block) (page purpose : Nat) : Bool :=
  let base := if page = linkPage then 1 else 0x10
  base ≤ purpose && purpose < base + (if page = linkPage then 3 else 2) &&
    b.bit (Reg.CX_PAGE_CFG_PURPOSES page) (purpose - base)

/-- Whether an import slot serves an OPEN context (R400). -/
def Block.slotServes (b : Block) (s : Nat) : Bool :=
  (b.pageCtxs linkPage).any fun c => g3CtxBase ≤ c.1 && c.2.state == 1 && c.2.slot == s

/-- The context that CTX_OPEN's operands spell; on page 16 the number decides direction and mode (log entry 38). -/
def openedCtx (c : Cmd) (page n : Nat) : Ctx :=
  let mode := c.le 0x34 1
  { state := 1, due := false, purpose := c.le 0x33 1
    dir := if page = linkPage then n < g3CtxBase && n % 2 == 1 else mode.testBit 1
    ccm := if page = linkPage then g3CtxBase ≤ n else mode.testBit 0
    slot := c.le 0x35 1, gen := c.le 0x30 3, next := 1, high := 0, window := 0, long := BitVec.ofNat 64 (c.le 0x38 8) }

/-- Whether CTX_OPEN's operands are in range (R386, R388, R403). -/
def Block.openOk (b : Block) (page n : Nat) (x : Ctx) (mode : Nat) : Bool :=
  n < ctxCount page && mode < 4 && x.slot < 64 && b.permits page x.purpose &&
    (if page ≠ linkPage then x.purpose != 0x11 || (x.long == 0 && !x.dir)
     else if n < g3CtxBase then x.purpose == 2
     else x.purpose == 3 && x.slot < 48 && b.slotFilled x.slot)

/-- CTX_OPEN (R404). -/
def Block.ctxOpen (b : Block) (c : Cmd) (page : Nat) : Block :=
  let n := c.le 0x14 4
  let x := openedCtx c page n
  let link := page == linkPage && n < g3CtxBase
  if !b.openOk page n x (c.le 0x34 1) then b.complete c stInvalid []
  else if (b.ctx page n).state ≠ 0 ∨ (link ∧ (b.node (n / 2)).state = 0) ∨
      (page = linkPage ∧ g3CtxBase ≤ n ∧ b.slotServes x.slot) then b.complete c stStateReject []
  else if link ∧ (b.node (n / 2)).long ≠ x.long then b.complete c stInvalid []
  else (b.setCtx page n x).complete c stOK []

/-- CTX_OPEN (R404). -/
def execCtxOpen (ring : QNum) (s : State) : Host.Outcome State Fault Refusal :=
  answer "CTX_OPEN" true s fun b => b.runCmd ring.toNat 0x30 fun c b => b.cipherCmd c fun page b => b.ctxOpen c page

/-- CTX_CLOSE (R404). -/
def Block.ctxClose (b : Block) (c : Cmd) (page : Nat) : Block :=
  let n := c.le 0x14 4
  if ctxCount page ≤ n then b.complete c stInvalid []
  else if (b.ctx page n).state = 3 then b.complete c stStateReject []
  else (b.setCtx page n .closed).complete c stOK []

/-- CTX_CLOSE (R404). -/
def execCtxClose (ring : QNum) (s : State) : Host.Outcome State Fault Refusal :=
  answer "CTX_CLOSE" true s fun b => b.runCmd ring.toNat 0x31 fun c b => b.cipherCmd c fun page b => b.ctxClose c page

/-- REKEY (R391). -/
def Block.rekey (b : Block) (c : Cmd) (page : Nat) : Block :=
  let n := c.le 0x14 4
  if ctxCount page ≤ n then b.complete c stInvalid []
  else if (b.ctx page n).state = 0 ∨ (b.ctx page n).state = 3 then b.complete c stStateReject []
  else
    let r := b.rekeyCtx page n
    r.1.cipherDone c page (if r.2 then stNonceExhausted else stOK) []

/-- REKEY (R391). -/
def execRekey (ring : QNum) (s : State) : Host.Outcome State Fault Refusal :=
  answer "REKEY" true s fun b => b.runCmd ring.toNat 0x32 fun c b => b.cipherCmd c fun page b => b.rekey c page

/-- The operands ENCRYPT and DECRYPT share are in range (R403). -/
def Cmd.dataOk (c : Cmd) (page : Nat) : Bool :=
  c.le 0x11 1 < 8 && c.le 0x12 2 ≤ 512 && c.le 0x14 4 < ctxCount page && 1 ≤ c.le 0x20 4 && c.le 0x20 4 ≤ 65536

/-- ENCRYPT (R404): refused at once, or an operation for the engines. -/
def Block.encrypt (b : Block) (c : Cmd) (page : Nat) (aad src : DmaRead) : Block :=
  if !c.dataOk page then b.complete c stInvalid []
  else match (b.ctx page (c.le 0x14 4)).encryptRefusal with
    | some st => b.cipherDone c page st []
    | none => match DmaRead.bytes? aad, DmaRead.bytes? src with
      | some a, some d =>
        b.requestOp (c.le 0x11 1) page 0 (.encrypt c (slice a 0 (c.le 0x12 2)) (slice d 0 (c.le 0x20 4))) true
      | none, _ => (b.dmaError c.fn aad).complete c stInvalid []
      | _, none => (b.dmaError c.fn src).complete c stInvalid []

/-- ENCRYPT (R404). -/
def execEncrypt (ring : QNum) (aad src : DmaRead) (s : State) : Host.Outcome State Fault Refusal :=
  answer "ENCRYPT" true s fun b => b.runDmaCmd ring.toNat 0x33 fun c b =>
    b.cipherCmd c fun page b => b.encrypt c page aad src

/-- The queue a DECRYPT may write: a PARCEL or STREAM queue with PROD 19 (R405). -/
def Block.decryptQueue (b : Block) (q : Nat) : Bool := b.deviceProduced q && b.get (Reg.QD_CFG_PROD q) == 19

/-- The plaintext of a DECRYPT and whether its tag passes (R404, R411). -/
def Block.hostPlain (b : Block) (page : Nat) (x : Ctx) (gen fctr : Nat) (aad src : List Byte) (len : Nat) :
    List Byte × Bool :=
  let key := b.hostKey page x gen
  let nonce := Config.hostNonce x.ccm x.long.toNat fctr
  let ct := slice src 0 len
  if x.ccm then
    let pt := ccmText key nonce ct
    (pt, slice src len 4 == ccmMic key nonce aad pt)
  else (gcmText key nonce ct, slice src len 12 == (gcmTag key nonce aad ct).take 12)

/-- DECRYPT (R404, R405): refused at once, or an operation for the engines that writes a provisional parcel. -/
def Block.decrypt (b : Block) (c : Cmd) (page : Nat) (aad src : DmaRead) : Block :=
  let x := b.ctx page (c.le 0x14 4)
  let len := c.le 0x20 4
  if !c.dataOk page || !b.decryptQueue c.queue then b.complete c stInvalid []
  else if x.state = 0 ∨ !b.on (Reg.QD_CFG_ENABLE c.queue) then b.complete c stStateReject []
  else match DmaRead.bytes? aad, DmaRead.bytes? src with
    | some a, some d =>
      let gen := c.le 0x30 3
      let out := b.hostPlain page x gen (c.le 0x24 4) (slice a 0 (c.le 0x12 2)) d len
      let b := b.touchKey (b.rootIx page) (keyLabel x.purpose gen x.long page x.dir)
      let p : Produce := { bytes := out.1, prio := c.le 0x11 1, prov := true, orig := 0, pseq := 0, producer := 19 }
      b.requestOp (c.le 0x11 1) page c.queue (.decrypt c p) out.2
    | none, _ => (b.dmaError c.fn aad).complete c stInvalid []
    | _, none => (b.dmaError c.fn src).complete c stInvalid []

/-- DECRYPT (R405). -/
def execDecrypt (ring : QNum) (aad src : DmaRead) (s : State) : Host.Outcome State Fault Refusal :=
  answer "DECRYPT" true s fun b => b.runDmaCmd ring.toNat 0x34 fun c b =>
    b.cipherCmd c fun page b => b.decrypt c page aad src

/-- CX_IMPORT_STAT shows whether a slot holds a key (R426). -/
def Block.showSlot (b : Block) (s : Nat) (on : Bool) : Block :=
  if s < 32 then b.setBit Reg.CX_IMPORT_STAT0_VALID s on else b.setBit Reg.CX_IMPORT_STAT1_VALID (s - 32) on

/-- KEY_IMPORT (R400): the wrapped key enters its slot once its unwrap passes. -/
def Block.keyImport (b : Block) (c : Cmd) (dma : DmaRead) : Block :=
  let s := c.le 0x14 4
  if 48 ≤ s || c.le 0x20 4 ≠ 24 || !b.permits linkPage 3 then b.complete c stInvalid []
  else match DmaRead.bytes? dma with
    | none => (b.dmaError c.fn dma).complete c stInvalid []
    | some data =>
      let wrapped := slice data 0 24
      let b := b.touchKey (b.rootIx linkPage) kekLabel
      match unwrapKey (b.pageKey linkPage kekLabel) wrapped with
      | none => b.complete c stTagFail []
      | some _ =>
        let b := { b with cx := { b.cx with slots := Store.put (fun _ => []) b.cx.slots s wrapped } }
        (b.showSlot s true).complete c stOK []

/-- KEY_IMPORT (R400). -/
def execKeyImport (ring : QNum) (dma : DmaRead) (s : State) : Host.Outcome State Fault Refusal :=
  answer "KEY_IMPORT" true s fun b => b.runDmaCmd ring.toNat 0x35 fun c b =>
    b.cipherCmd c fun _ b => b.keyImport c dma

/-- RANDOM runs: bytes of the DRBG go to DST (R404, R408). -/
def Block.giveRandom (b : Block) (c : Cmd) : Block :=
  let len := c.le 0x20 4
  let bytes := (List.range len).map fun i => Config.freeByte (b.drawn + i)
  let b := { b with drawn := b.drawn + len, cx := { b.cx with drbgRequests := b.cx.drbgRequests + 1 } }
  (b.dma c.fn (c.le 0x38 8) bytes).complete c stOK []

/-- RANDOM (R404): it waits while the DRBG gives no output (R409). -/
def Block.random (b : Block) (c : Cmd) : Block :=
  let len := c.le 0x20 4
  if len < 1 ∨ 256 < len then b.complete c stInvalid []
  else if b.cx.drbgStopped then { b with cx := { b.cx with randoms := b.cx.randoms ++ [c] } }
  else b.giveRandom c

/-- RANDOM (R404). -/
def execRandom (ring : QNum) (s : State) : Host.Outcome State Fault Refusal :=
  answer "RANDOM" true s fun b => b.runDmaCmd ring.toNat 0x36 fun c b => b.cipherCmd c fun _ b => b.random c

/-! ### The DRBG and its source (R408, R409) -/

/-- Whether the DRBG is to be reseeded (R408): after 65,536 requests or 1 s, whichever comes first. -/
def Block.reseedDue (b : Block) : Bool :=
  decide (65536 ≤ b.cx.drbgRequests) || decide (b.cx.drbgSeeded + secondTicks ≤ b.ticks)

/-- DRBG_RESEED (R408). -/
def execDrbgReseed (s : State) : Host.Outcome State Fault Refusal :=
  answer "DRBG_RESEED" true s fun b =>
    if b.cx.drbgStopped || !b.reseedDue then b else { b with cx := { b.cx with drbgRequests := 0, drbgSeeded := b.ticks } }

/-- A failed health test (R409): output stops, the failure is counted and recorded, the third in a row is doubt 0x08. -/
def Block.entropyFail (b : Block) (test : Nat) : Block :=
  let b := { b with cx := { b.cx with drbgStopped := true } }
  let b := (b.set Reg.CX_RNG_STAT_HEALTHY 0).incSat Reg.CX_RNG_STAT_FAILS
  let fails := b.get Reg.CX_RNG_STAT_FAILS
  let b := b.post 0x0B07 3 0x43 [(1, test), (1, fails)]
  if fails = 3 then b.doubt 0x08 else b

/-- ENTROPY_FAIL (R409). -/
def execEntropyFail (test : Fin 2) (s : State) : Host.Outcome State Fault Refusal :=
  answer "ENTROPY_FAIL" true s fun b => b.entropyFail test

/-- The restarted source passes (R409): output resumes, what waited proceeds. -/
def Block.entropyRecovered (b : Block) : Block :=
  let waiting := b.cx.randoms
  let b := { b with cx := { b.cx with drbgStopped := false, randoms := [] } }
  let b := b.setAll [(Reg.CX_RNG_STAT_HEALTHY, 1), (Reg.CX_RNG_STAT_FAILS, 0)]
  (waiting.foldl (fun b c => b.giveRandom c) b).serveEngines

/-- ENTROPY_SOURCE_RECOVERED (R409). -/
def execEntropySourceRecovered (s : State) : Host.Outcome State Fault Refusal :=
  answer "ENTROPY_SOURCE_RECOVERED" true s fun b => b.entropyRecovered

/-! ### Tamper (R412, R413) -/

/-- Revoke an operation in progress or waiting (R413). -/
def Block.revokeOp (b : Block) (o : CipherOp) : Block :=
  match o.work with
  | .encrypt c _ _ => b.complete c stRevoked []
  | .decrypt c p =>
    let b := if (b.q o.queue).live == some p then b.decideTag o.queue false
      else b.setQ o.queue { b.q o.queue with waiting := (b.q o.queue).waiting.erase p }
    b.complete c stRevoked []
  | .pass .. => b
  | .link w =>
    if (b.q o.queue).live == some w.parcel then b.decideTag o.queue false
    else b.setQ o.queue { b.q o.queue with waiting := (b.q o.queue).waiting.erase w.parcel }

/-- Every operation the engines run, hold suspended or have waiting. -/
def Block.allOps (b : Block) : List CipherOp :=
  (List.range 4).flatMap (fun e => (b.engine e).running.toList ++ (b.engine e).suspended) ++ b.cx.waiting

/-- The response to a tamper event with main power present (R412): cache, contexts but RETIRED ones, import slots and
operations are cleared. -/
def Block.clearSecrets (b : Block) : Block :=
  let ops := b.allOps
  -- link and G3 contexts close on the partner too (R394)
  let b := (b.pageCtxs linkPage).foldl (fun b p => if p.2.state = 3 then b else b.setCtx linkPage p.1 .closed) b
  let b := { b with cx := { b.cx with
    cache := [], slots := [], waiting := [], engines := []
    ctxs := b.cx.ctxs.filter fun p => p.2.state == 3 } }
  let b := (List.range 4).foldl (fun b e => b.set (suspField e) 0) b
  let b := (b.set Reg.CX_IMPORT_STAT0_VALID 0).set Reg.CX_IMPORT_STAT1_VALID 0
  let b := (List.range 17).foldl (fun b p => b.refreshPage p) b
  ops.foldl (fun b o => b.revokeOp o) b

/-- A tamper event on some enabled inputs (R412, R413). -/
def Block.tamper (b : Block) (inputs : Nat) (powered : Bool) : Block :=
  let mask := inputs &&& b.get Reg.CX_TAMPER_CFG_EN
  if mask = 0 then b
  else
    let b := b.set Reg.CX_TAMPER_STAT_LATCH (b.get Reg.CX_TAMPER_STAT_LATCH ||| mask)
    if powered then (b.clearSecrets.incSat Reg.CX_TAMPER_STAT_EVENTS).post 0x0B06 4 0x43 [(1, mask), (1, 1)]
    else { b with cx := { b.cx with tamperUnpowered := b.cx.tamperUnpowered ||| mask } }

/-- TAMPER (R412). -/
def execTamper (inputs : BitVec 4) (powered : Bool) (s : State) : Host.Outcome State Fault Refusal :=
  answer "TAMPER" true s fun b => b.tamper inputs.toNat powered

/-! ### Sieve (R414 to R421) -/

/-- Whether a programmable channel is in use (R415). -/
def Block.channelUsed (b : Block) (ch : Nat) : Bool := b.get (Reg.CV_CH_CFG_WIDTH ch) != 0

/-- A channel is retired (R419). -/
def Block.retireChannel (b : Block) (ch vector : Nat) : Block :=
  if b.bit Reg.CV_STAT_RETIRED ch then b
  else
    let f := b.get (Reg.CV_CH_CFG_FALLBACK ch)
    (b.setBit Reg.CV_STAT_RETIRED ch true).post 0x0B08 2 0x44 [(1, ch), (1, if f < 4 then f else 0xFF), (1, vector)]

/-- The expected values of a channel (R415). -/
def Block.checkA (b : Block) (ch : Nat) : Nat := (b.rd (Reg.CV_CH_CHKA_LO ch)).toNat + (b.rd (Reg.CV_CH_CHKA_HI ch)).toNat * 2 ^ 32
def Block.checkB (b : Block) (ch : Nat) : Nat := (b.rd (Reg.CV_CH_CHKB_LO ch)).toNat + (b.rd (Reg.CV_CH_CHKB_HI ch)).toNat * 2 ^ 32

/-- A channel's self-test with the values it computed for vectors A and B (R418, R419). -/
def Block.sieveTest (b : Block) (ch a b' : Nat) : Block :=
  if !b.channelUsed ch || b.bit Reg.CV_STAT_RETIRED ch then b
  else
    let b := b.inc Reg.CV_TESTS_COUNT
    let b := { b with cx := { b.cx with broughtForward := b.cx.broughtForward.erase ch } }
    if a ≠ b.checkA ch then b.retireChannel ch 0
    else if b' ≠ b.checkB ch then b.retireChannel ch 1
    else b

/-- SIEVE_SELF_TEST (R418). -/
def execSieveSelfTest (ch : Fin 16) (a v : BitVec 64) (s : State) : Host.Outcome State Fault Refusal :=
  answer "SIEVE_SELF_TEST" true s fun b =>
    match b.dev with
    | .settle | .service | .hold => b.sieveTest ch a.toNat v.toNat
    | _ => b

/-- The definition that serves UNIT of a CHECK: a channel, its fallback where it is retired, a fixed unit; none where a
retired channel has no fallback (R419, R421). -/
def Block.unitDef (b : Block) (unit : Nat) : Option CheckDef :=
  if 16 ≤ unit then some (fixedUnit (unit - 16))
  else if b.bit Reg.CV_STAT_RETIRED unit then
    (if b.get (Reg.CV_CH_CFG_FALLBACK unit) < 4 then some (fixedUnit (b.get (Reg.CV_CH_CFG_FALLBACK unit))) else none)
  else some (channelDef b.get unit)

/-- The running value of a check over a byte string from a starting value, and the check value of it (R415, R421). -/
def runningOf (d : CheckDef) (start : Nat) (bs : List Byte) : Nat :=
  (bs.flatMap fun b => if d.refin then byteBits b else (byteBits b).reverse).foldl (checkBit d) (start % 2 ^ d.width)
def finishOf (d : CheckDef) (r : Nat) : Nat := (if d.refout then reflect d.width r else r) ^^^ d.xorout

/-- CHECK (R421): a unit above 19 or an unused channel is INVALID. -/
def Block.checkCmd (b : Block) (c : Cmd) (dma : DmaRead) : Block :=
  let unit := c.le 0x10 1
  let flags := c.le 0x11 1
  let len := c.le 0x20 4
  if 19 < unit || 4 ≤ flags || len < 1 || 65536 < len || (unit < 16 && !b.channelUsed unit) then b.complete c stInvalid []
  else match b.unitDef unit with
    | none => b.complete c stNoResource []
    | some d => match DmaRead.bytes? dma with
      | none => (b.dmaError c.fn dma).complete c stInvalid []
      | some data =>
        let r := runningOf d (if flags.testBit 0 then c.le 0x28 8 else d.init) (slice data 0 len)
        b.complete c stOK (toLe 8 (if flags.testBit 1 then finishOf d r else r))

/-- CHECK (R421). -/
def execCheck (ring : QNum) (dma : DmaRead) (s : State) : Host.Outcome State Fault Refusal :=
  answer "CHECK" true s fun b => b.runDmaCmd ring.toNat 0x40 fun c b => b.checkCmd c dma

/-! ### The context record (R424) -/

/-- A write to CX_CTX_SEL latches the record of the context it selects (R424). -/
def Block.ctxLatch (b : Block) (page : Nat) (v : Word) : Block :=
  let n := v.toNat % 2 ^ 19
  if ctxCount linkPage ≤ n then b
  else
    let rec' := (b.ctx page n).toBytes
    let b := b.set (Reg.CX_CTX_SEL_CTX page) n
    (List.range 8).foldl (fun b i => b.wr (Reg.CX_CTX_DATA page i) (BitVec.ofNat 32 (leAt rec' (4 * i) 4))) b

/-- Whether a page register write reaches the page: from the PF, or from the function that holds it (R42, R568). -/
def Block.pageReached (b : Block) (page : Nat) : Bool := b.reaches 0 || (page != linkPage && b.reaches (b.pageFn page))

/-- CTX_RECORD_LATCH (R424). -/
def execCtxRecordLatch (page : Fin 17) (v : Word) (s : State) : Host.Outcome State Fault Refusal :=
  answer "CTX_RECORD_LATCH" true s fun b => if b.pageReached page then b.ctxLatch page v else b

end Sys2Proof.Machine
end

