-- ==== Sys2Proof/Machine/Routes.lean ====
section
/-!
DEFINITION. Offers for transmission (R39), the hop to a node, link and path metrics (R294, R295), the choice of parent
and alternate (R296, R297), route changes (R299), orphan-suspect relays and their repair (R308 to R311), relay slots
(R303).
-/

namespace Sys2Proof.Machine

/-! ### Offers -/

/-- The priority under which control frames are offered (DESIGN CHOICE, log entry 40). -/
def controlPrio : Nat := 2

/-- Frame types that the device sends with ACK_REQ 1 when it is not a DATA frame (R262, R267, R271, R299, R301). -/
def ackRequested (type : Nat) : Bool :=
  type == typeAssocResp || type == typeMap || type == typeChmap || type == typeRdv || type == typeWake || type == typeRoute

/-- A control frame before its number and its entry bearing. -/
def controlOffer (type triad : Nat) (port : Option Nat) (dst : Nat) (body : List Byte) : Offer :=
  { num := 0, type := type, triad := triad, port := port, dst := dst, prio := controlPrio, standing := false
    ackReq := ackRequested type, body := body, parcels := [], entered := 0, waiting := none, attempts := 0
    lastMode := none, lastBands := 0, alternate := false, start := none }

/-- A frame waits for admission. -/
def Block.offer (b : Block) (o : Offer) : Block :=
  ({ b with mac := { b.mac with
      offers := b.mac.offers ++ [{ o with num := b.mac.nextNum, entered := b.brg.now }]
      nextNum := b.mac.nextNum + 1 } }).refreshP0

/-- The first hop to a node and the port it goes out by: the alternate while that is in use (R298, R309). -/
def Block.hop (b : Block) (x : Nat) (alternate : Bool) : Nat × Nat :=
  let r := b.route x
  let alt := Bool.xor r.usingAlt alternate && r.altFirst != addrBroadcast
  ((b.indexOf (if alt then r.altFirst else r.first)).getD x, if alt then r.altPort else r.port)

/-- Offer a control frame to a node, by the port of its route (log entry 40). -/
def Block.controlTo (b : Block) (x type : Nat) (body : List Byte) : Block :=
  let port := (b.hop x false).2
  b.offer (controlOffer type (port / 3) (some port) (b.node x).short body)

/-! ### Metrics (R294, R295) -/

/-- LINK of a hop (R294) from the information bits per symbol, num / den, and the successes: R201 divides by 288 µs. -/
def hopLink (num den s : Nat) : Nat :=
  if num = 0 then 65535 else min 65535 ((460800 * den + num * s - 1) / (num * s))

/-- Mean information bits per payload symbol of a mode, as a fraction (R201): a contour map's over the eight places that the
pilots take in turn. -/
def PhyMode.info (p : PhyMode) : Nat × Nat :=
  let m := p.active.length
  let d := dataCount m
  let twelfths := [6, 8, 9, 10].getD p.rate 6
  if p.mode = 3 then (d, 128)
  else match robustOf p.mode with
    | some r => (d, 2 * r)
    | none =>
      if 16 ≤ p.mode then
        (((List.range 8).map p.slots).sum * twelfths, 96)
      else (d * uniformBits p.mode * twelfths, 12)

/-- The contour map that a sender uses (R267): the latest that is acknowledged and has reached EFF. -/
def mapInForce (ms : List MapGen) (sf : Nat) : Option MapGen := ms.find? fun m => m.acked && m.eff ≤ sf

/-- The PHY mode of a contour map. -/
def MapGen.phy (m : MapGen) : PhyMode :=
  { mode := 16 + m.index, bands := mapBands m.bytes, map := m.bytes, streams := if mapStreams m.bytes < 2 then 0 else mapStreams m.bytes }

/-- ROBUST-4 in SB-F, where nothing has been sent on a hop yet. -/
def firstPhy : PhyMode := { mode := 0, bands := 8, map := [], streams := 0 }

/-- The mode in use on a node's hop in a direction. -/
def Block.hopPhy (b : Block) (x : Nat) (up : Bool) : PhyMode :=
  let e := b.ext x
  match mapInForce (if up then e.ulMaps else e.dlMaps) b.superframe with
  | some m => m.phy
  | none => match e.mode with
    | some (mode, bands) => { mode := mode, bands := bands, map := [], streams := 0 }
    | none => firstPhy

/-- First-attempt successes among the last 16 frames of a hop, frames not yet sent counting as successes (R294). -/
def successes (hits : List Bool) : Nat := max 1 (16 - ((hits.take 16).filter fun h => !h).length)

/-- LINK of a node's hop follows its modes and its successes; METRIC follows (R294, R295). -/
def Block.refreshLink (b : Block) (x : Nat) : Block :=
  let dn := (b.hopPhy x false).info
  let up := (b.hopPhy x true).info
  let weak := if dn.1 * up.2 ≤ up.1 * dn.2 then dn else up
  let link := hopLink weak.1 weak.2 (successes (b.ext x).hits)
  let b := if link = (b.node x).link then b else b.modNode x fun n => { n with link := link }
  b.refreshMetrics x

/-- LINK that a hop would have at a reported SNR, in 0.25 dB: a single-stream frame over SB-F at rate 1/2, or ROBUST-4
(DESIGN CHOICE, log entry 41: the spec gives no metric of a hop that is not in use). -/
def Block.snrLink (b : Block) (snr : Nat) : Nat :=
  let code := loadingFor 0 (b.get Reg.SND_MAP_CTRL_MARGIN) snr
  if code = 0 then hopLink 74 8 16 else hopLink (74 * loadBits code) 2 16

/-- The mean of the measured uplink SNR of a node. -/
def Block.meanSnr (b : Block) (x : Nat) : Nat :=
  let l := ((b.link true x).snr.take 112).filter (· != 255)
  l.sum / max 1 l.length

/-- LINK of the hop from a node to a candidate parent. -/
def Block.linkTo (b : Block) (x c : Nat) : Nat :=
  let n := b.node x
  if c = n.parent then n.link
  else match (b.ext x).neigh.find? fun y => y.short == c with
    | some y => b.snrLink y.snr
    | none => b.snrLink (b.meanSnr x)

/-! ### Parent and alternate (R296, R297) -/

/-- The device's or a relay's DEPTH. -/
def Block.depthOf (b : Block) (short : Nat) : Nat := match b.indexOf short with
  | some y => (b.node y).depth
  | none => 0

/-- Whether a candidate is eligible as a node's parent (R296). -/
def Block.eligible (b : Block) (x c : Nat) : Bool :=
  c == addrDevice || (match b.indexOf c with
    | some y =>
      let n := b.node y
      let own := b.subtree x
      let size := ((b.subtree y).filter fun z => z != x && !own.contains z).length + own.length + 1
      n.state == 2 && n.relay && n.depth + 1 ≤ 15 && y != x && !own.contains y && size ≤ 512
    | none => false)

/-- The candidates of a node: the neighbours it has reported, and the device where it is heard directly (R296). -/
def Block.candidates (b : Block) (x : Nat) : List Nat :=
  let n := b.node x
  let direct := if n.rxPort < 24 || n.parent == addrDevice then [addrDevice] else []
  ((direct ++ (b.ext x).neigh.map (·.short)).dedup).filter fun c => b.eligible x c

/-- METRIC of a node by a candidate (R295). -/
def Block.metricBy (b : Block) (x c : Nat) : Nat := b.pathMetric c (b.linkTo x c)

/-- The candidate of the lowest METRIC, the lower short address on a tie. -/
def Block.bestOf (b : Block) (x : Nat) (cs : List Nat) : Option Nat :=
  (cs.foldl (fun best c =>
    let m := b.metricBy x c
    match best with
    | none => some (m, c)
    | some q => if m < q.1 || (m == q.1 && c < q.2) then some (m, c) else some q) (none : Option (Nat × Nat))).map (·.2)

/-- ALT_PARENT of a node with a parent (R297): the device on another port is a candidate of a one-hop node. -/
def Block.altFor (b : Block) (x parent : Nat) : Nat :=
  let n := b.node x
  let avoids (c : Nat) : Bool :=
    let path := b.pathFrom 16 c
    !path.contains n.short && (parent == addrDevice || !path.contains parent)
  ((b.bestOf x ((b.candidates x).filter fun c =>
    if c = addrDevice then true else c != parent && avoids c))).getD addrBroadcast

/-! ### Route entries (R298) -/

/-- Another port of the triad, for the direct alternate of a one-hop node: the next one that is bound. -/
def Block.otherPort (b : Block) (port : Nat) : Nat :=
  let t := port / 3
  let next (i : Nat) : Nat := 3 * t + (port % 3 + i) % 3
  if b.portBound (next 1) then next 1 else if b.portBound (next 2) then next 2 else port

/-- The port by which a node is reached directly. -/
def Block.directPort (b : Block) (x : Nat) : Nat :=
  let n := b.node x
  let r := b.route x
  if n.rxPort < 24 then n.rxPort else r.port

/-- The first hop and the port of the route through a parent. -/
def Block.routeVia (b : Block) (x parent : Nat) (other : Bool) : Nat × Nat :=
  let first := b.firstHop x parent
  let direct := b.directPort x
  if first = (b.node x).short then (first, if other then b.otherPort direct else direct)
  else match b.indexOf first with
    | some y => (first, (b.route y).port)
    | none => (first, direct)

/-- The route entry of a node follows its core entry. -/
def Block.refreshRoute (b : Block) (x : Nat) : Block :=
  let n := b.node x
  let r := b.route x
  let main := b.routeVia x n.parent false
  let none' := n.alt = addrBroadcast
  let alt := if none' then (addrBroadcast, 0) else b.routeVia x n.alt (n.parent == addrDevice && n.alt == addrDevice)
  let new : Route :=
    { r with first := main.1, port := main.2, altFirst := alt.1, altPort := alt.2, metric := n.metric
             altMetric := if none' then 65535 else b.pathMetric n.alt (b.linkTo x n.alt)
             depth := n.depth, altDepth := if none' then 0 else b.depthOf n.alt + 1 }
  if new = r then b else b.setRoute x new

/-- The routes of a node and of its subtree follow the table. -/
def Block.refreshRoutes (b : Block) (x : Nat) : Block := (x :: b.subtree x).foldl (fun b y => b.refreshRoute y) b

/-! ### The freeze of node time (R451) -/

/-- DTM_TIME_FROZEN follows the records (R454). -/
def Block.refreshFrozen (b : Block) : Block :=
  b.set Reg.DTM_TIME_FROZEN_COUNT (b.trv.ext.filter fun p => p.2.time.frozen).length

/-- An ASYM_SUSPECT record (R451, R453): cause 0 round trip, 1 route, 2 relay report. -/
def Block.asymSuspect (b : Block) (x cause : Nat) (change : Int) : Block :=
  (b.inc Reg.DTM_ASYM_COUNT_COUNT).post 0x0C04 2 0x45 [(3, x), (1, cause), (4, unsignedOf 32 (saturateSigned 32 change))]

/-- A time record freezes (R451): by a round trip, or a route change. -/
def Block.freezeTime (b : Block) (x cause : Nat) (change : Int) : Block :=
  let freeze (t : TimeRec) : TimeRec := { t with frozen := true, asym := true, refValid := false, agree := 0, recent := [] }
  let b := b.modExt x fun e => { e with time := freeze e.time }
  b.refreshFrozen.asymSuspect x cause change

/-- A change of the route of a node at depth 1 freezes its time record (R451). -/
def Block.routeFreeze (b : Block) (x : Nat) : Block :=
  if (b.node x).depth = 1 ∧ (b.ext x).time.syncSent then b.freezeTime x 1 0 else b

/-! ### Route changes (R299) -/

/-- A short address as it stands in a body. -/
def short3 (a : Nat) : List Byte := toLe 3 a

/-- The body of a PARENT frame (R301). -/
def parentBody (parent alt depth rver eff : Nat) : List Byte :=
  toLe 1 1 ++ short3 parent ++ short3 alt ++ toLe 1 depth ++ toLe 1 rver ++ toLe 4 eff

/-- The relays of a path with the next hop that each uses towards a node. -/
def downHops (short : Nat) (path : List Nat) : List (Nat × Nat) :=
  let relays := path.filter fun a => a != addrDevice
  relays.zip (short :: relays)

/-- Pieces of at most n elements of a list. -/
def pieces {α : Type} (n : Nat) (l : List α) : List (List α) :=
  (List.range ((l.length + n - 1) / n)).map fun i => (l.drop (n * i)).take n

/-- Offer a ROUTE frame to a relay and note its number. -/
def Block.routeFrame (acc : Block × List Nat) (relay : Nat) (body : List Byte) : Block × List Nat :=
  match acc.1.indexOf relay with
  | some y => (acc.1.controlTo y typeRoute body, acc.2 ++ [acc.1.mac.nextNum])
  | none => acc

/-- DOWN_ADD frames to the relays of a path for some destinations. -/
def Block.downAdds (acc : Block × List Nat) (hops : List (Nat × Nat)) (dests : List Nat) : Block × List Nat :=
  hops.foldl (fun acc h => (pieces 32 dests).foldl (fun acc ds =>
    Block.routeFrame acc h.1 (toLe 1 2 ++ toLe 1 ds.length ++ ds.flatMap fun d => short3 d ++ short3 h.2)) acc) acc

/-- DOWN_DEL frames to relays for some destinations. -/
def Block.downDels (acc : Block × List Nat) (relays dests : List Nat) : Block × List Nat :=
  relays.foldl (fun acc r => (pieces 32 dests).foldl (fun acc ds =>
    Block.routeFrame acc r (toLe 1 3 ++ toLe 1 ds.length ++ ds.flatMap short3)) acc) acc

/-- Superframes from the decision of a change to its EFF (DESIGN CHOICE, log entry 42: the spec bounds it below by 2). -/
def effAhead : Nat := 4

/-- Announce a route change to a node and to the relays of both paths (R299). -/
def Block.startChange (b : Block) (x parent alt : Nat) : Block :=
  let n := b.node x
  let depth := b.depthOf parent + 1
  let rver := ((b.route x).rver + 1) % 256
  let eff := b.superframe + effAhead
  let dests := n.short :: (b.subtree x).map b.shortOf
  let old := downHops n.short (b.pathUp x)
  let new := downHops n.short (b.pathFrom 16 parent)
  let b := b.controlTo x typeRoute (parentBody parent alt depth rver eff)
  let acc := Block.downAdds (b, []) (new.filter fun h => !old.contains h) dests
  let acc := Block.downDels acc ((old.map (·.1)).filter fun r => !(new.map (·.1)).contains r) dests
  acc.1.modExt x fun e => { e with change := some { parent := parent, alt := alt, depth := depth, rver := rver, eff := eff,
                                                    owed := acc.2 }, better := none }

/-- A route change takes effect (R299). -/
def Block.applyChange (b : Block) (x : Nat) (c : RouteChange) : Block :=
  let n := b.node x
  let moved := c.parent ≠ n.parent
  -- a sleeping node has a rendezvous series only at depth 1 (R307)
  let ends := c.depth ≠ 1 ∧ (b.ext x).rdv.isSome
  let link := b.linkTo x c.parent
  let b := b.modExt x fun e => { e with change := none, better := none, hold := []
                                        hits := if moved then [] else e.hits, exhausted := 0 }
  let b := if ends then b.modExt x fun e => { e with rdv := none, supvFrom := b.superframe } else b
  let b := b.modNode x fun n => { n with parent := c.parent, alt := c.alt, depth := c.depth, link := link
                                         orphan := false, unreachable := false, rdvQ := if ends then 0 else n.rdvQ }
  let b := (b.subtree x).foldl (fun b y =>
    b.modNode y fun m => { m with depth := min 15 (b.depthOf m.parent + 1), orphan := if moved then false else m.orphan }) b
  let b := b.setRoute x { b.route x with rver := c.rver, usingAlt := false }
  let b := if moved then (b.subtree x).foldl (fun b y => b.setRoute y { b.route y with usingAlt := false }) b else b
  let b := (((b.refreshMetrics x).refreshRoutes x).inc Reg.TRV_ROUTE_CHG_COUNT).routeFreeze x
  let b := { b with
    sound := { b.sound with routeEvents :=
      (x :: b.subtree x).foldl (fun m y => Store.put (fun _ => none) m y (some b.superframe)) b.sound.routeEvents } }
  let note (r : Repair) : Repair :=
    if r.subtree.contains x && !r.moved.contains x then { r with moved := x :: r.moved } else r
  if moved then { b with trv := { b.trv with repairs := b.trv.repairs.map note } } else b

/-- A route change whose ACKs are not all held by EFF is cancelled: PARENT goes out again with the old values (R299). -/
def Block.cancelChange (b : Block) (x : Nat) : Block :=
  let n := b.node x
  let b := b.modExt x fun e => { e with change := none }
  b.controlTo x typeRoute (parentBody n.parent n.alt n.depth (b.route x).rver (b.superframe + effAhead))

/-- An evaluation of a node's route (R296, R297): a lower METRIC counts once per superframe, and moves the node after
three evaluations. -/
def Block.evaluateRoute (b : Block) (x : Nat) : Block :=
  let n := b.node x
  let e := b.ext x
  if !b.home || n.state != 2 || e.change.isSome || !b.on Reg.TRV_CTRL_ROUTE_EN then b
  else
    let suspicious := match b.indexOf n.parent with
      | some p => (b.node p).orphan && (b.node p).relay
      | none => false
    let cs := (b.candidates x).filter fun c => !(suspicious && (c == n.parent || (b.pathFrom 16 c).contains n.parent))
    let best := (b.bestOf x cs).getD n.parent
    let present := b.metricBy x n.parent
    let low : Bool := best != n.parent && b.metricBy x best * 100 ≤ present * (100 - b.get Reg.TRV_ROUTE_CTRL_HYST)
    let run := match e.better with
      | some (c, k, sf) => if c = best then (if sf = b.superframe then k else k + 1) else 1
      | none => 1
    let parent := if n.pinned then n.parent
      else if suspicious then best
      else if low ∧ 3 ≤ run then best else n.parent
    let b := b.modExt x fun e => { e with better := if low && !n.pinned then some (best, run, b.superframe) else none }
    let alt := b.altFor x parent
    if parent ≠ n.parent ∨ alt ≠ n.alt then b.startChange x parent alt else b

/-! ### Orphan-suspect relays (R308 to R311) -/

/-- A child of a suspect relay turns to its alternate, with its subtree (R309). -/
def Block.useAlternate (b : Block) (c suspect : Nat) : Block :=
  let n := b.node c
  if n.alt = addrBroadcast ∨ (b.pathFrom 16 n.alt).contains suspect then b
  else
    let r := b.route c
    let below := b.subtree c
    let dests := n.short :: below.map b.shortOf
    let hops := downHops n.short (b.pathFrom 16 n.alt)
    let needs := hops.filter fun h => !dests.all fun d => (b.downOf h.1).contains (d, h.2)
    let b := (b.setRoute c { r with usingAlt := true }).routeFreeze c
    let b := below.foldl (fun b y => b.setRoute y { b.route y with altFirst := r.altFirst, altPort := r.altPort, usingAlt := true }) b
    let acc := Block.downAdds (b, []) needs dests
    (c :: below).foldl (fun b y => b.modExt y fun e => { e with hold := e.hold ++ acc.2 }) acc.1

/-- A relay becomes orphan-suspect (R308, R309). -/
def Block.orphanSuspect (b : Block) (x : Nat) : Block :=
  let n := b.node x
  if n.orphan && n.relay && b.trv.repairs.any (fun r => r.relay == x) then b
  else
    let below := b.subtree x
    let kids := b.children n.short
    let b := (x :: below).foldl (fun b y => b.modNode y fun m => { m with orphan := true }) b
    let b := b.post 0x0803 2 20 [(3, x), (3, n.short), (2, below.length)]
    let b := { b with trv := { b.trv with repairs :=
      b.trv.repairs ++ [{ relay := x, since := b.superframe, subtree := below, moved := [] }] } }
    let b := kids.foldl (fun b c => b.useAlternate c n.short) b
    if kids.isEmpty then b
    else
      let port := (b.route x).port
      b.offer { controlOffer typeRoute (port / 3) none addrBroadcast
        (toLe 1 6 ++ short3 n.short ++ toLe 1 (b.route x).rver ++ toLe 1 (min 15 (n.depth + 2))) with }

/-- A suspect relay is heard again: its ORPHAN flag goes, and that of the nodes still below it (R311). -/
def Block.relayHeard (b : Block) (x : Nat) : Block :=
  let b := b.modNode x fun n => { n with rcMiss := 0 }
  if (b.node x).orphan then
    (x :: b.subtree x).foldl (fun b y => b.modNode y fun m => { m with orphan := false }) b
  else b

/-- Whether a node has a route in use that avoids a relay. -/
def Block.hasRoute (b : Block) (y suspect : Nat) : Bool :=
  (b.route y).usingAlt || !(b.pathUp y).contains suspect

/-- The end of a repair (R311). -/
def Block.endRepair (b : Block) (r : Repair) : Block :=
  let short := (b.node r.relay).short
  let lost := if (b.node r.relay).orphan then
    r.subtree.filter fun y => (b.node y).inTree && !b.hasRoute y short && !(b.node y).unreachable else []
  let b := lost.foldl (fun b y =>
    (b.modNode y fun n => { n with unreachable := true }).post 0x0805 2 20 [(3, y), (3, (b.node y).short)]) b
  let b := { b with trv := { b.trv with repairs := b.trv.repairs.filter fun q => q.relay != r.relay } }
  b.post 0x0804 0 20 [(3, short), (2, r.moved.length), (2, lost.length)]

/-! ### Cairns and relay slots (R238, R241, R303) -/

/-- The band set of a Cairn sub-band: SB-F or SB-A. -/
def cairnBandSet (bandA : Bool) : Nat := if bandA then 1 else 8

/-- Samples of a compact Cairn in a band set (R246): preamble and FCH. -/
def compactSamples (bands : Nat) : Nat := preambleSamples 6 + 576 * fchSymbols bands

/-- A duration in samples as bu, rounded up (R105). -/
def Block.durationBu (b : Block) (samples : Nat) : Nat := b.nsToBu (samples * 500)

/-- Samples of the full Cairn: 38 bytes of MAC in ROBUST-8, with 34 bytes held and its header within them (R243, R247). -/
def fullCairnSamples : Nat :=
  let p : PhyMode := { mode := 1, bands := 8, map := [], streams := 0 }
  preambleSamples 6 + 576 * (fchSymbols 8 + (p.lengthFor (8 * 34)).getD 0)

/-- The first bin after the Cairn window of a sub-band: the start of its PCS (R238). -/
def Block.cairnEndBin (b : Block) (bandA : Bool) : Nat :=
  let samples := if bandA then compactSamples 1 else fullCairnSamples
  (b.get Reg.MAC_SF_CTRL_CAIRN_BIN * 512 + b.durationBu samples + 511) / 512 + 1

/-- The first bin of the relay region (R238). -/
def Block.relayStart (b : Block) (bandA : Bool) : Nat := b.cairnEndBin bandA + b.get Reg.MAC_SF_CTRL_PCS_BINS

/-- Bins of a relay slot (R241). -/
def Block.slotBins (b : Block) (bandA : Bool) : Nat :=
  (b.durationBu (compactSamples (cairnBandSet bandA)) + 511) / 512 + 1

/-- Relay slots of a Cairn sub-band (R241): none where the sub-band carries no Cairn. -/
def Block.slotCount (b : Block) (bandA : Bool) : Nat :=
  if b.bit Reg.MAC_CTRL_CAIRN_BANDS (if bandA then 0 else 1) then
    min 16 (b.get Reg.MAC_SF_CTRL_RELAY_BINS / b.slotBins bandA) else 0

/-- RC_PERIOD in superframes. -/
def Block.rcPeriod (b : Block) : Nat := 2 ^ b.get Reg.MAC_SF_CTRL_RC_PERIOD

/-- The triad of a node's route. -/
def Block.triadOf (b : Block) (x : Nat) : Nat := (b.route x).port / 3

/-- Bits [7:0] of the core entry at 0x1E: slot, phase, band. -/
def rcWord (slot phase band : Nat) : Nat := slot % 16 + phase % 8 * 16 + band % 2 * 128

/-- The relay slots in use or promised on a triad. -/
def Block.slotsTaken (b : Block) (t : Nat) : List Nat :=
  b.trv.nodes.filterMap fun p =>
    if p.2.state == 2 && b.triadOf p.1 == t then
      match (b.ext p.1).rcPending with
      | some w => if w = 0xFFFF then (if p.2.relay then some (rcWord p.2.rcSlot p.2.rcPhase p.2.rcBand) else none) else some w
      | none => if p.2.relay then some (rcWord p.2.rcSlot p.2.rcPhase p.2.rcBand) else none
    else none

/-- The first free relay slot of a triad, SB-F before SB-A, slot before phase (DESIGN CHOICE, log entry 43). -/
def Block.freeSlot (b : Block) (t : Nat) : Option Nat :=
  let taken := b.slotsTaken t
  let all := [false, true].flatMap fun bandA => (List.range (b.slotCount bandA)).flatMap fun j =>
    (List.range b.rcPeriod).map fun ph => rcWord j ph (bitOf bandA)
  all.find? fun w => !taken.contains w

/-- Offer RC_ASSIGN to a node. -/
def Block.assignRelay (b : Block) (x rc : Nat) : Block :=
  (b.controlTo x typeRoute (toLe 1 4 ++ toLe 2 rc ++ toLe 4 (b.superframe + effAhead))).modExt x
    fun e => { e with rcPending := some rc }

/-- Traverse considers whether a node is to relay (R303). Which nodes it makes relays is left to it: a free value
decides (log entry 43). A relay with no children may be relieved. -/
def Block.considerRelay (b : Block) (x : Nat) : Block :=
  let n := b.node x
  if !b.home || n.state != 2 || (b.ext x).rcPending.isSome then b
  else
    let wanted := b.free % 2 == 1
    let b := b.draw
    if n.relay then
      (if !wanted && (b.children n.short).isEmpty then b.assignRelay x 0xFFFF else b)
    else if !wanted || !b.on Reg.TRV_CTRL_RELAY_EN || 15 ≤ n.depth || n.sleeps then b
    else match b.freeSlot (b.triadOf x) with
      | some w => b.assignRelay x w
      | none => b.inc Reg.TRV_RELAY_REFUSED_COUNT

/-! ### A node leaves the tree -/

/-- The parcels that wait for a node complete with REVOKED (R324; for the other ways out DESIGN CHOICE, log entry 44). -/
def Block.revokeNode (b : Block) (short : Nat) : Block :=
  let gone := b.strata.sends.filter fun r => !r.taken && r.final == short
  let b := gone.foldl (fun b r => b.endWaitingSend r stRevoked (sendResult r.pseq r.attempts 0)) b
  let here (o : Offer) : Bool := o.type == typeData && !o.parcels.isEmpty && o.parcels.all fun p => p.final == short
  let dropped := b.mac.offers.filter here
  let b := ({ b with mac := { b.mac with offers := b.mac.offers.filter fun o => !here o } }).refreshP0
  dropped.foldl (fun b o => o.parcels.foldl (fun b p =>
    match p.send with
    | some c => b.complete c stRevoked (sendResult p.pseq o.attempts 0)
    | none => b) b) b

/-- The bookkeeping of a node whose association has ended: no series, no change under way, no frame of its own waiting. -/
def Block.dropLinks (b : Block) (x : Nat) : Block :=
  let short := (b.node x).short
  let b := b.modExt x fun e => { e with rdv := none, change := none, join := none, rcPending := none, hold := []
                                        chNext := none }
  { b with mac := { b.mac with offers := b.mac.offers.filter fun o => !(o.dst == short && o.type != typeData && o.type != typeLeave) } }

/-- A node is no longer associated (R266, R291): LAPSED; a relay becomes orphan-suspect (R308). -/
def Block.lapse (b : Block) (x : Nat) : Block :=
  let n := b.node x
  let b := (b.dropLinks x).modNode x fun n => { n with state := 3, rdvQ := 0 }
  let b := (b.post 0x0802 1 20 [(3, x), (3, n.short)]).revokeNode n.short
  if n.relay then b.orphanSuspect x else b

end Sys2Proof.Machine
end

