-- ==== Sys2Proof/Machine/Mac.lean ====
section
/-!
DEFINITION. Admission (R41, R50 to R53, R277): budgets and their accounts (R273 to R276), modes and bands of an attempt
(R265, R313, R314), notch patterns (R250, R253), frame starts, remote drive (R479), transmissions on the line (R144).
-/

namespace Sys2Proof.Machine

/-! ### Triads -/

/-- What the Plane Table keeps of a triad. -/
def Block.macTriad (b : Block) (t : Nat) : MacTriad := Store.get (fun _ => MacTriad.reset) b.mac.triads t

/-- Replace what is kept of a triad. -/
def Block.setMacTriad (b : Block) (t : Nat) (m : MacTriad) : Block :=
  { b with mac := { b.mac with triads := Store.put (fun _ => MacTriad.reset) b.mac.triads t m } }

/-- The superframe bin of a bearing (R237). -/
def binOf (x : Bearing) : Nat := x.toNat % 524288 / 512

/-- The bearing at the start of a bin of a superframe. -/
def binStart (sf bin : Nat) : Bearing := BitVec.ofNat 48 (sf * 524288 + bin * 512)

/-- The ports of a triad. -/
def triadPorts (t : Nat) : List Nat := [3 * t, 3 * t + 1, 3 * t + 2]

/-- Whether sub-band s carries Cairns (R238). -/
def Block.cairnBand (b : Block) (s : Nat) : Bool :=
  (s == 0 && b.bit Reg.MAC_CTRL_CAIRN_BANDS 0) || (s == 3 && b.bit Reg.MAC_CTRL_CAIRN_BANDS 1)

/-- The first bin of the contention period of a sub-band (R238). -/
def Block.cpStart (b : Block) (s : Nat) : Nat :=
  if b.cairnBand s then b.relayStart (s == 0) + b.get Reg.MAC_SF_CTRL_RELAY_BINS else 0

/-- CP_END of a triad for the superframe of a bearing (R239). -/
def Block.cpEndAt (b : Block) (t : Nat) (x : Bearing) : Nat :=
  if superframeOf x = b.superframe then b.get (Reg.MAC_TRIAD_CP_END t)
  else ((b.macTriad t).cpNext).getD (b.get Reg.MAC_CP_CTRL_CP_END_MIN)

/-- The sub-bands of a band set. -/
def bandsOf (m : Nat) : List Nat := (List.range 4).filter fun s => m.testBit s

/-- Whether a bearing lies in the contention period of every sub-band of a band set. -/
def Block.inCp (b : Block) (t bands : Nat) (x : Bearing) : Bool :=
  binOf x ≤ b.cpEndAt t x && (bandsOf bands).all fun s => b.cpStart s ≤ binOf x

/-- Whether a bearing lies in the scheduled period. -/
def Block.inSp (b : Block) (t : Nat) (x : Bearing) : Bool := b.cpEndAt t x < binOf x

/-- Whether a Cairn window of a band set is open at a bearing (R238). -/
def Block.cairnOpen (b : Block) (bands : Nat) (x : Bearing) : Bool :=
  (bandsOf bands).any fun s => b.cairnBand s && binOf x < b.cairnEndBin (s == 0)

/-- Whether a span meets a grant of the triad in a band set (R257). -/
def Block.meetsGrant (b : Block) (t bands : Nat) (a e : Bearing) : Bool :=
  b.mac.grants.any fun g =>
    let s := binStart g.superframe g.start
    g.triad == t && g.bands &&& bands != 0 && spansMeet a e s (s + BitVec.ofNat 48 (512 * g.len - 1))

/-- Whether a span meets a relay slot in use on the triad and band set (R242), in its superframe or the two after. -/
def Block.meetsSlot (b : Block) (t bands : Nat) (a e : Bearing) : Bool :=
  b.trv.nodes.any fun p =>
    p.2.relay && p.2.state == 2 && b.triadOf p.1 == t && bands.testBit (if p.2.rcBand = 1 then 0 else 3) &&
      (List.range 3).any fun i =>
        let sf := superframeOf a + i
        let s := binStart sf (b.relayStart (p.2.rcBand == 1) + p.2.rcSlot * b.slotBins (p.2.rcBand == 1))
        sf % b.rcPeriod == p.2.rcPhase && spansMeet a e s (s + BitVec.ofNat 48 (512 * b.slotBins (p.2.rcBand == 1) - 1))

/-- Whether a span meets the next superframe's Cairn of a band set. -/
def Block.meetsCairn (b : Block) (bands : Nat) (a e : Bearing) : Bool :=
  (bandsOf bands).any b.cairnBand && ahead e (binStart (superframeOf a + 1) (b.get Reg.MAC_SF_CTRL_CAIRN_BIN))

/-! ### Ports that can send -/

/-- Whether a port's transmissions are driven by the partner (R479): a FAILED paired port of the master whose partner
port has at least 6 active slices. -/
def Block.remoteDriven (b : Block) (n : Nat) : Bool :=
  b.chain.role == .master && b.on (Reg.LP_CTRL_PAIRED n) && b.get (Reg.LP_STATUS_STATE n) == 3 &&
    b.on Reg.TRV_REPL_STAT_LINKED && 6 ≤ Store.get (fun _ => 0) b.chain.partnerK n

/-- Whether a frame may be admitted on a port (R128, R479); after a takeover, once its switches may close (R482). -/
def Block.drives (b : Block) (n : Nat) : Bool :=
  b.portBound n && !(b.port n).closeWaits && (b.transmits n || b.remoteDriven n)

/-- Whether frames may go out across a triad (R220): PORT_CAL is set for its three ports, and all of them can send. -/
def Block.crossReady (b : Block) (t : Nat) : Bool :=
  (triadPorts t).all fun n => b.bit Reg.SND_CAL_STAT_PORT_CAL n && b.drives n

/-- The ports of a frame to a node whose phase is on port n (R196, R220): all three of the triad for a single-phase node, for
a three-phase node where it is `wide`; until the triad is ready for it, port n alone. -/
def Block.framePorts (b : Block) (node : Option Nat) (n : Nat) (wide : Bool) : List Nat :=
  let across := match node with
    | some y => wide || !(b.node y).threePh
    | none => false
  if across && b.crossReady (n / 3) then triadPorts (n / 3) else [n].filter b.drives

/-- Whether an armed handover forbids a frame that ends at `last` on a port (R485): it would still be in progress at H. -/
def Block.handoverBlocks (b : Block) (n : Nat) (last : Bearing) : Bool :=
  match b.chain.op with
  | some o => o.handover && b.chain.role == .master && b.on (Reg.LP_CTRL_PAIRED n) && ahead last o.bearing
  | none => false

/-- Whether the quiet window of a swap forbids a frame that ends at `last` on a port (R75): it would reach into the window of
an armed one, or that of the last one is still open. An armed handover forbids it likewise. -/
def Block.quietBlocks (b : Block) (n : Nat) (last : Bearing) : Bool :=
  let coming : Bool := match b.img.armed, b.img.shadow with
    | some a, some x => !preserves x.sections n && ahead last (a.bearing - 65536)
    | _, _ => false
  let passed : Bool := match b.img.quiet with
    | some (s, ports) => ports.contains n && (b.brg.now - s).toNat < 65536
    | none => false
  b.handoverBlocks n last || coming || passed

/-- Whether a re-seat decision, or an open last-gasp window, holds admissions on a triad (R111, R279). -/
def Block.held (b : Block) (t : Nat) : Bool := b.on Reg.BRG_STATUS_RESEAT_PENDING || (b.gaspClose t).isSome

/-! ### Band budgets (R273 to R276) -/

/-- The buckets of a port and sub-band, the current one first. -/
def Block.buckets (b : Block) (n s : Nat) : List Nat := Store.get (fun _ => []) b.mac.accounts (4 * n + s)

/-- The account of a port and sub-band: the current bucket and the 32 before it. -/
def Block.account (b : Block) (n s : Nat) : Nat := ((b.buckets n s).take 33).sum

/-- Replace the buckets of a port and sub-band; PT_BUD_ACC shows the account, and the partner of a paired port learns
it (R478). -/
def Block.setBuckets (b : Block) (n s : Nat) (l : List Nat) : Block :=
  let old := b.account n s
  let b := { b with mac := { b.mac with accounts := Store.put (fun _ => []) b.mac.accounts (4 * n + s) l } }
  let b := b.set (Reg.PT_BUD_ACC_ACCOUNT n s) (b.account n s)
  if b.on (Reg.LP_CTRL_PAIRED n) then b.replicate replAccount (4 * n + s) (toLe 4 old) (toLe 4 (b.account n s)) else b

/-- Charge a duration to a port and sub-band. -/
def Block.chargeBand (b : Block) (n s micros : Nat) : Block :=
  match b.buckets n s with
  | [] => b.setBuckets n s [micros]
  | x :: rest => b.setBuckets n s ((x + micros) :: rest)

/-- Charge a duration to every port and sub-band of a frame. -/
def Block.chargeFrame (b : Block) (ports : List Nat) (bands micros : Nat) : Block :=
  ports.foldl (fun b n => (bandsOf bands).foldl (fun b s => b.chargeBand n s micros) b) b

/-- The budget B of a port and sub-band in µs. -/
def Block.budget (b : Block) (n s : Nat) : Nat :=
  b.get (Reg.PT_BUD_CFG_WINDOW n s) * b.get (Reg.PT_BUD_CFG_LIMIT n s) * 1000

/-- The budgets that have no room for a frame (R274): the reserve is open to priority 0 and to the frames R274 names. -/
def Block.budgetShort (b : Block) (ports : List Nat) (bands micros : Nat) (reserve : Bool) : List (Nat × Nat) :=
  ports.flatMap fun n => (bandsOf bands).filterMap fun s =>
    let room := if reserve then b.budget n s else b.budget n s * 9 / 10
    if room < b.account n s + micros then some (n, s) else none

/-! ### The thermal budget (R50, R51, R150 to R152) -/

/-- What a frame on some ports adds to the predicted dissipation (R152): its own, with any increase of the others in its
banks. -/
def Block.thermalCost (b : Block) (ports : List Nat) (carriers loss atten : Nat) : Nat :=
  let banks := (ports.map (· / 6)).dedup
  let bank (k : Nat) : Nat :=
    let xs := b.bankTxs k
    let amin := min atten (b.bankAmin k)
    let mine := (ports.filter fun n => n / 6 == k).length * dissipation carriers loss atten amin
    let others := (xs.map fun x => (x.ports.filter fun n => n / 6 == k).length *
      (dissipation x.carriers x.loss x.atten amin - x.charge)).sum
    let driven := ((b.bankDrives k).map fun d => dissipation 112 d.loss d.atten amin - d.charge).sum
    mine + others + driven
  (banks.map bank).sum

/-- Whether the thermal budget has room for a frame on some ports. The reserve of 1,200 mW is held for priority 0. -/
def Block.thermalOk (b : Block) (ports : List Nat) (carriers loss atten : Nat) (p0 : Bool) : Bool :=
  b.totalPred + b.thermalCost ports carriers loss atten ≤ if p0 then 20000 else 18800

/-! ### Transmit lanes, joint detection and the half duplex (R27 to R32) -/

/-- Transmit lanes held by admitted transmissions. -/
def Block.lanesHeld (b : Block) : Nat := ((b.mac.txs.filter Tx.holds).map (·.ports.length)).sum

/-- Whether enough transmit lanes are free. -/
def Block.txLanesFree (b : Block) (k : Nat) : Bool := b.lanesHeld + k + b.pool.txRetired.length ≤ 48

/-- The joint-detection units of a triad and band set. -/
def unitsOfTriad (t bands : Nat) : List Nat := (bandsOf bands).map fun s => 4 * t + s

/-- The joint-detection units in use (R27): those of the frames sent on all three ports of a triad, and of the cross-phase
frames being received. -/
def Block.busyUnits (b : Block) : List Nat :=
  ((b.mac.txs.filter fun x => x.holds && x.ports.length == 3).flatMap fun x =>
    unitsOfTriad (x.ports.headD 0 / 3) x.bands) ++
  b.pool.lanes.flatMap fun p => ((p.2.current.bind fun r => r.frame).map (·.units)).getD []

/-- Whether a reception is in progress on the triad in a band set. -/
def Block.receivingIn (b : Block) (t bands : Nat) : Bool :=
  (triadPorts t).any fun n => (b.receiving n).any fun l => match (b.lane l).binding with
    | some x => !x.g3 && bands.testBit x.sb
    | none => false

/-- Whether carrier sense finds a band set idle on a triad (R254), as far as the device knows by itself: no reception in
progress, and none of its sub-bands within a span that a decoded FCH implies, for the last 576 µs. -/
def Block.senseIdle (b : Block) (t bands : Nat) : Bool :=
  !b.receivingIn t bands && !b.pool.busy.any fun x =>
    x.triad == t && x.bands &&& bands != 0 && ahead (x.last + BitVec.ofNat 48 (b.nsToBu 576000)) (b.brg.now + 1)

/-- Whether a span meets another transmission of the triad in the band set, with its ACK window (R29). -/
def Block.meetsTx (b : Block) (t bands : Nat) (a e : Bearing) : Bool :=
  b.mac.txs.any fun x => x.ports.any (fun n => n / 3 == t) && x.bands &&& bands != 0 && spansMeet a e x.start x.ackEnd

/-! ### G3 ports (R330 to R339) -/

/-- A G3 port beside its registers. -/
def Block.g3Port (b : Block) (n : Nat) : G3Port := Store.get (fun _ => G3Port.reset) b.g3 n

/-- The band set of the overlapped sub-band of a G3 port (R330). -/
def Block.g3Band (b : Block) (n : Nat) : Nat := if b.on (Reg.LP_G3_CTRL_BANDPLAN n) then 8 else 1

/-- The 16 bytes and tone map of a neighbour that its replica takes (R335, R337). -/
def G3Neigh.toBytes (x : G3Neigh) : List Byte :=
  toLe 2 x.short ++ toLe 1 x.modulation ++ toLe 1 x.gain ++ toLe 4 (x.fctr.getD 0) ++ toLe 4 x.used ++
    toLe 1 x.toneMap.length ++ toLe 1 (bitOf x.fctr.isSome) ++ [0, 0] ++ x.toneMap

/-- Replace what a G3 port holds; neighbours that differ go to the partner (R337, R478). -/
def Block.setG3 (b : Block) (n : Nat) (g : G3Port) : Block :=
  let old := b.g3Port n
  let b := { b with g3 := Store.put (fun _ => G3Port.reset) b.g3 n g }
  (g.neigh.filter fun x => !old.neigh.contains x).foldl (fun b x =>
    let was := ((old.neigh.find? fun y => y.short == x.short).map G3Neigh.toBytes).getD []
    b.replicate replG3 (n * 2 ^ 16 + x.short) was x.toBytes) b

/-- The G3 SENDs that wait in the transmit queue of a port. -/
def Block.g3Sends (b : Block) (n : Nat) : List SendRec :=
  b.strata.sends.filter fun r => !r.taken && r.queue == b.get (Reg.LP_G3_Q_TXQ n)

/-- Whether a port has a G3 frame in its channel access. -/
def Block.g3Backoff (b : Block) (n : Nat) : Bool :=
  b.g3Bound n && (match (b.g3Port n).tx with
    | some x => !x.onAir && !x.awaitingAck
    | none => !(b.g3Port n).control.isEmpty || !(b.g3Sends n).isEmpty)

/-- A Gweol frame admitted in the overlapped sub-band freezes the backoff of the ports' G3 frames (R339). -/
def Block.deferG3 (b : Block) (x : Tx) : Block :=
  if x.offer.type = typeG3 then b
  else x.ports.foldl (fun b n =>
    if b.g3Backoff n && b.g3Band n &&& x.bands != 0 then b.inc (Reg.LP_G3_DEFER_COUNT n) else b) b

/-- Whether a G3 lane of the triad hears a frame in a band set: the overlapped sub-band is busy (R331). -/
def Block.g3Hears (b : Block) (t bands : Nat) : Bool :=
  (triadPorts t).any fun n => b.g3Band n &&& bands != 0 && (b.receiving n).any fun l => match (b.lane l).binding with
    | some x => x.g3
    | none => false

/-- Ports and sub-bands that G3 parcels of priority 0 wait for (R52). -/
def Block.g3Needs (b : Block) (t : Nat) : List (List Nat × Nat) :=
  ((triadPorts t).filter fun n => b.g3Bound n && (b.g3Sends n).any fun r => r.prio == 0).map fun n => ([n], b.g3Band n)

/-- The frame in hand has been sent: with an ACK requested the port waits for it, else the SEND completes (R334, R363). -/
def Block.g3Ended (b : Block) (n : Nat) : Block :=
  let g := b.g3Port n
  match g.tx with
  | none => b
  | some x =>
    let b := b.inc (Reg.LP_G3_TX_OK_COUNT n)
    if x.job == .parcel && (byteAt x.parcel 12).testBit 5 then
      b.setG3 n { g with tx := some { x with onAir := false, awaitingAck := true } }
    else
      let b := b.setG3 n { g with tx := none }
      match x.send with
      | some c => match b.strata.sends.find? fun r => r.cmd == c with
        | some r => b.completeSend r stOK (sendResult 0 x.tries b.brg.now.toNat)
        | none => b
      | none => b

/-- Whether the resources of R50 but the budgets are free for a frame. -/
def Block.resourcesFree (b : Block) (t : Nat) (x : Tx) (p0 : Bool) : Bool :=
  b.txLanesFree x.ports.length &&
    x.ports.all (fun n =>
      let waits := b.mac.txs.any fun y => y.ports.contains n &&
        (y.stage == .onLine || y.stage == .awaitingAck || spansMeet x.start x.last y.start y.last)
      !b.portFull n x.start x.last && (b.portMeets n x.start x.last).all (fun y => y.bands &&& x.bands == 0) &&
        !(p0 && waits) && !b.quietBlocks n x.last) &&
    !(x.ports.length == 3 && (unitsOfTriad t x.bands).any b.busyUnits.contains) &&
    !b.receivingIn t x.bands && !b.meetsTx t x.bands x.start x.ackEnd

/-! ### Notch patterns (R250, R253) -/

/-- The set in force at a bearing: a pending one from its superframe on. -/
def Block.notchSetAt (b : Block) (t : Nat) (x : Bearing) : NotchSet :=
  let m := b.macTriad t
  match m.pending with
  | some (s, sf) => if sf ≤ superframeOf x then s else m.inForce
  | none => m.inForce

/-- The pattern of a set that serves a band set. -/
def NotchSet.patternFor (s : NotchSet) (bands : Nat) : Option NotchPattern :=
  s.patterns.find? fun p => p.scope.testBit (bands - 1)

/-- Pattern id and windows of a frame to a node (R197, R240, R253): 0 unless the node has named the version in force. -/
def Block.notchFor (b : Block) (t : Nat) (node : Option Nat) (p : PhyMode) (x : Bearing) : Nat × List (Nat × Nat) :=
  let s := b.notchSetAt t x
  match node with
  | some y =>
    let n := b.node y
    if n.state = 2 ∧ n.nverAck = s.version ∧ p.mode ≠ 3 ∧ b.on Reg.PT_NOTCH_CTRL_ENABLE ∧ !b.mac.force0 then
      match s.patternFor p.bands with
      | some q => (q.id, q.windows)
      | none => (0, [])
    else (0, [])
  | none => (0, [])

/-- Φ_tx of the device on a triad for a frame start (R249). -/
def Block.phiFor (b : Block) (t : Nat) (x : Bearing) : Nat :=
  if superframeOf x = b.superframe then (b.macTriad t).phiDev else b.get (Reg.BRG_PHOFS_OFS (3 * t))

/-! ### Modes of an attempt (R265, R313, R314) -/

/-- How robust a mode is, by its place on the ladder; modes that are not on it stand before it. -/
def ladderRank (mode : Nat) : Nat :=
  match mode with
  | 5 => 1 | 4 => 2 | 0 => 3 | 1 => 4 | 2 => 5 | 3 => 6 | _ => 0

/-- The mode of a stepped attempt (R313): the first at position s or beyond that is more robust than the one before. -/
def ladderStep (s prev : Nat) : Nat :=
  (([5, 4, 0, 1, 2, 3].drop (s - 1)).find? fun m => ladderRank prev < ladderRank m).getD prev

/-- STEP of the attempt after `k` earlier ones (R313). -/
def stepOf (k : Nat) : Nat := if k < 3 then 0 else k - 2

/-- Whether the channel map of a node allows a carrier (R265): both maps, while a change is under way. -/
def Block.carrierOk (b : Block) (y i : Nat) : Bool :=
  let e := b.ext y
  e.chmask.getLsbD i && (match e.chNext with
    | some (m, _, _, _) => m.getLsbD i
    | none => true)

/-- Whether every carrier of a sub-band is allowed. -/
def Block.bandOk (b : Block) (y s : Nat) : Bool :=
  (List.range 112).all fun i => subBandOf i != s || b.carrierOk y i

/-- Streams the link may use (R265). -/
def Block.streamLimit (b : Block) (y : Nat) : Nat :=
  let e := b.ext y
  match e.chNext with
  | some (_, k, _, _) => min e.chstr k
  | none => e.chstr

/-- The band set of a uniform or robust frame: what is wanted, within the ports' permission and the node's channel map;
where none of it qualifies, SB-F if permitted, else SB-A (R160, R265, R314). -/
def Block.bandsFor (b : Block) (ports : List Nat) (node : Option Nat) (want : Nat) : Nat :=
  let allowed (s : Nat) : Bool := ports.all (fun n => (b.permitted n).testBit s) && (match node with
    | some y => (b.node y).state != 2 || b.bandOk y s
    | none => true)
  let m := (((List.range 4).filter fun s => want.testBit s && allowed s).map (2 ^ ·)).sum
  if m ≠ 0 then m else if allowed 3 then 8 else 1

/-- A candidate for admission: its offer, the SEND it comes from if it is still in its queue, the entry of FINAL of a
DATA frame, the entry of the receiving hop. -/
structure Plan where
  offer : Offer
  send : Option SendRec
  final : Option Nat
  hop : Option Nat
deriving DecidableEq, Repr

/-- The contour map of a DATA frame to a node: in force, within its channel map (R265, R267). -/
def Block.dataMap (b : Block) (y : Nat) : Option PhyMode :=
  match mapInForce (b.ext y).dlMaps b.superframe with
  | some m =>
    let p := m.phy
    if p.active.all (fun i => b.carrierOk y i) && p.dataStreams ≤ b.streamLimit y then some p else none
  | none => none

/-- The PHY modes an attempt may take, the first that serves being used (R313, R314): the hop's present mode for the
first three attempts, a step of the ladder after them or, where that holds no frame, the mode before. -/
def Block.modesFor (b : Block) (p : Plan) (ports : List Nat) (a : AdmitChoice) : List PhyMode :=
  let o := p.offer
  let plain (mode want : Nat) : PhyMode := { mode := mode, bands := b.bandsFor ports p.hop want, map := [], streams := 0 }
  let chosen := plain a.mode a.bands.toNat
  let map := match p.hop with
    | some y => if o.type = typeData && (b.node y).state == 2 then b.dataMap y else none
    | none => none
  if o.type = typeAssocResp ∨ o.type = typeWake then
    (match o.lastMode with
     | some m => if o.attempts < 3 then [plain 0 o.lastBands] else [plain (ladderStep (stepOf o.attempts) m) o.lastBands, plain m o.lastBands]
     | none => [plain 0 (if o.lastBands = 0 then 15 else o.lastBands)])
  else match o.lastMode with
    | none => match map with
      | some m => [m]
      | none => [chosen]
    | some prev =>
      let present := match map with
        | some m => if 16 ≤ prev then m else plain prev o.lastBands
        | none => if 16 ≤ prev then chosen else plain prev o.lastBands
      if o.attempts < 3 then [present]
      else [plain (ladderStep (stepOf o.attempts) prev) o.lastBands, present]

/-! ### Frame starts (R41, R277) -/

/-- The next bin boundary at or after a bearing. -/
def nextBin (x : Bearing) : Bearing := x + BitVec.ofNat 48 ((512 - x.toNat % 512) % 512)

/-- Whether an offer has priority-0 standing for its frame start and its budgets. -/
def Offer.urgent (o : Offer) : Bool := o.standing || (o.prio == 0 && !o.parcels.isEmpty)

/-- The backoff of a frame, if it contends. -/
def Block.backoffOf (b : Block) (o : Offer) : Option Backoff :=
  (b.macTriad o.triad).backoffs.find? fun c => c.num == o.num && c.send == o.parcels.head?.bind fun q => q.send

/-- Whether carrier sense finds a band set idle on a triad (R254, R331), as far as the device knows by itself. -/
def Block.idleFor (b : Block) (t bands : Nat) : Bool := b.senseIdle t bands && !b.g3Hears t bands

/-- The exponent of a backoff (R255): that of the priority, one more for each failed attempt, to its bound. -/
def Block.backoffExp (b : Block) (o : Offer) : Nat :=
  if o.prio = 0 then min (b.get Reg.MAC_ACCESS_P0_BE + o.attempts) (b.get Reg.MAC_ACCESS_P0_MAX_BE)
  else min (b.get Reg.MAC_ACCESS_MIN_BE + (if 4 ≤ o.prio then 1 else 0) + o.attempts) (b.get Reg.MAC_ACCESS_MAX_BE)

/-- A frame that finds its sub-bands idle in a contention period draws its backoff (R255). -/
def Block.drawBackoff (b : Block) (o : Offer) (bands : Nat) (clear : Bool) : Block :=
  let m := b.macTriad o.triad
  if o.urgent || o.start.isSome || !clear || (b.backoffOf o).isSome || !b.idleFor o.triad bands ||
      !b.inCp o.triad bands (b.brg.now + BitVec.ofNat 48 (b.nsToBu 12000)) then b
  else b.draw.setMacTriad o.triad { m with backoffs := m.backoffs ++
    [{ num := o.num, send := o.parcels.head?.bind fun q => q.send, bands := bands, left := b.free % 2 ^ b.backoffExp o }] }

/-- One bin of the contention period has passed: the backoffs of a triad count it where their sub-bands are idle (R255). What
the received power tells is known at admissions only (log entry 185). -/
def Block.countBackoffs (b : Block) (t : Nat) : Block :=
  let m := b.macTriad t
  let counted (c : Backoff) : Backoff :=
    if b.inCp t c.bands b.brg.now && b.idleFor t c.bands then { c with left := c.left - 1 } else c
  if m.backoffs.isEmpty then b else b.setMacTriad t { m with backoffs := m.backoffs.map counted }

/-- The frame start of a candidate (R41, R254, R255, R257, R277), before notch windows move it; with whether it moves by
bins. -/
def Block.startFor (b : Block) (t : Nat) (o : Offer) (bands : Nat) (clear : Bool) : Option (Bearing × Bool) :=
  let early := b.brg.now + BitVec.ofNat 48 (b.nsToBu 12000)
  let bin := nextBin early
  let counted := (b.backoffOf o).any fun c => c.left == 0
  match o.start with
  | some x => if ahead x early then some (x, true) else none
  | none =>
    if o.urgent then (if b.cairnOpen bands bin then none else some (bin, true))
    else if b.inCp t bands early then (if clear && b.idleFor t bands && counted then some (early, false) else none)
    else if b.inSp t bin then some (bin, true)
    else none

/-- Whether a frame fits where it would stand: away from grants, used relay slots and Cairns, and within 256 bins for
priority 0 (R242, R257, R277). A frame longer than that which no superframe can hold is let past the next Cairn. -/
def Block.placed (b : Block) (t : Nat) (o : Offer) (x : Tx) : Bool :=
  let span := (x.ackEnd - x.start).toNat
  let p0 := o.prio == 0 && !o.parcels.isEmpty
  !(o.urgent && b.cairnOpen x.bands x.start) &&
    !b.meetsGrant t x.bands x.start x.ackEnd && (p0 || !b.meetsSlot t x.bands x.start x.last) &&
    (x.mode == 3 || !b.meetsCairn x.bands x.start x.ackEnd) && (!p0 || span ≤ 256 * 512)

/-! ### The frame (R244, R245) -/

/-- A parcel record's length on the wire: 12 bytes of tag where its context is OPEN. -/
def Block.recordBytes (b : Block) (x : Nat) (p : OutParcel) : Nat :=
  16 + p.body.length + (if b.linkOpen x false then 12 else 0) + 4

/-- Bytes of the MAC frame of a candidate. -/
def Block.macLength (b : Block) (p : Plan) (grant : Bool) : Nat :=
  if p.offer.type = typeData then
    14 + (if grant then 6 else 0) + (p.offer.parcels.map fun q => b.recordBytes (p.final.getD 0) q).sum
  else 14 + p.offer.body.length + 4

/-- The grant of a DATA frame that carries one (R257): its bins lie within the scheduled period of a superframe at least
one ahead, and meet no grant given before. -/
def Block.grantFor (b : Block) (p : Plan) (a : AdmitChoice) : Option Grant :=
  match a.grant, p.hop with
  | some (start, len, bands, n), some y =>
    let g : Grant := { triad := p.offer.triad, bands := bands.toNat, start := start, len := len,
                       superframe := b.superframe + n, node := y }
    let s := binStart g.superframe g.start
    if p.offer.type = typeData ∧ 1 ≤ g.len ∧ 1 ≤ n.val ∧ g.bands ≠ 0 ∧ b.get Reg.MAC_CP_CTRL_CP_END_MAX < g.start ∧
        g.start + g.len ≤ 1024 ∧ !b.meetsGrant g.triad g.bands s (s + BitVec.ofNat 48 (512 * g.len - 1)) then some g else none
  | _, _ => none

/-- A timestamp of a TIME frame (R447): seconds, nanoseconds, fraction. -/
def timeBytes (t : Nat) : List Byte :=
  toLe 6 (t / secUnits) ++ toLe 4 (t % secUnits / 2 ^ 32) ++ toLe 2 (t / 2 ^ 16 % 2 ^ 16)

/-- The served time at the sync point of a frame that starts at a bearing, in 2^-32 ns (R447): 3,584 samples on. -/
def Block.timeAtSync (b : Block) (start : Bearing) : Nat :=
  (b.served + (((start - b.brg.now).toNat * 1000000000 * 2 ^ 32 / max 1 b.freq + 1792000 * 2 ^ 32 : Nat) : Int)).toNat

/-- The body of a frame other than DATA at its admission: T1 of a SYNC is computed there, as are SFN_T and PHI_DEV of an
ASSOC_RESP, and an EFF that admission finds fewer than 2 superframes ahead moves on (R247, R265, R299, R447). -/
def Block.bodyAt (b : Block) (o : Offer) (start : Bearing) : List Byte :=
  let eff (at_ : Nat) : List Byte :=
    let least := superframeOf start + 2
    if leAt o.body at_ 4 < least then o.body.take at_ ++ toLe 4 least ++ o.body.drop (at_ + 4) else o.body
  if o.type = typeTime ∧ byteAt o.body 0 = 0 then o.body.take 3 ++ timeBytes (b.timeAtSync start)
  else if o.type = typeAssocResp then
    o.body.take 11 ++ toLe 4 (superframeOf start % 2 ^ 29 + o.triad * 2 ^ 29) ++ toLe 2 (b.phiFor o.triad start) ++ o.body.drop 17
  else if o.type = typeRoute ∧ byteAt o.body 0 = 1 then eff 9
  else if o.type = typeRoute ∧ byteAt o.body 0 = 4 then eff 3
  else if o.type = typeChmap then eff 15
  else if o.type = typeMap ∧ byteAt o.body 0 = 1 then eff 3
  else o.body

/-- What a body fixed at admission changes in the bookkeeping of its node: EFF, and T1 of the last SYNC. -/
def Block.noteBody (b : Block) (hop : Option Nat) (o : Offer) (body : List Byte) (start : Bearing) : Block :=
  match hop with
  | none => b
  | some y =>
    if o.type = typeTime ∧ byteAt body 0 = 0 then
      b.modExt y fun e => { e with time := { e.time with t1 := b.timeAtSync start, seqT := byteAt body 1, syncSent := true } }
    else if body = o.body then b
    else b.modExt y fun e =>
      if o.type = typeRoute ∧ byteAt body 0 = 1 then
        { e with change := e.change.map fun c => { c with eff := max c.eff (leAt body 9 4) } }
      else if o.type = typeChmap then { e with chNext := e.chNext.map fun c => (c.1, c.2.1, leAt body 15 4, c.2.2.2) }
      else if o.type = typeMap then
        let fix (ms : List MapGen) : List MapGen :=
          ms.map fun m => if m.index = byteAt body 2 then { m with eff := leAt body 3 4 } else m
        { e with ulMaps := fix e.ulMaps, dlMaps := fix e.dlMaps }
      else e

/-- The MAC header of a frame (R244). MORE tells that another parcel waits for the same hop (log entry 45: the spec names
the bit alone). -/
def Block.headerFor (b : Block) (o : Offer) (seq : Nat) (grant : Bool) (start : Bearing) : MacHeader :=
  { net := b.get Reg.MAC_NET_NET_ID, dst := o.dst, src := addrDevice, seq := seq, ackReq := o.ackReq, grant := grant
    more := o.type == typeData && (b.mac.offers.any (fun x => x.num != o.num && x.dst == o.dst && x.type == typeData) ||
      b.strata.sends.any fun r => !r.taken && r.final == o.dst)
    prio := o.prio, nparc := if o.type = typeData then o.parcels.length else 0, evc := superframeOf start % 65536 }

/-! ### Candidates (R50, R51, R312) -/

/-- The DATA offer that a SEND at the head of its queue would become. -/
def Block.sendOffer (b : Block) (r : SendRec) (x : Nat) : Offer × Nat :=
  let h := b.hop x false
  ({ num := 0, type := typeData, triad := h.2 / 3, port := some h.2, dst := (b.node h.1).short, prio := r.prio
     standing := false, ackReq := true, body := []
     parcels := [{ send := some r.cmd, queue := r.queue, body := r.body, prio := r.prio, orig := addrDevice, final := r.final
                   pseq := (b.node x).pseq, stamp := r.stamp, acked := false }]
     entered := r.entered, waiting := r.waiting, attempts := 0, lastMode := none, lastBands := 0, alternate := false
     start := none }, h.1)

/-- Whether a queue holds G3 parcels (R338): it is the TXQ of a port with a G3 lane. -/
def Block.g3Queue (b : Block) (q : Nat) : Bool :=
  (List.range 24).any fun n => b.g3Bound n && b.get (Reg.LP_G3_Q_TXQ n) == q

/-- The SENDs whose parcels the Plane Table may take now: the first of a packed queue, any of a priority queue (R351). -/
def Block.openSends (b : Block) : List SendRec :=
  let live := b.strata.sends.filter fun r => !r.taken && !b.g3Queue r.queue && b.on (Reg.QD_CFG_ENABLE r.queue)
  live.filter fun r => b.qPriority r.queue || (live.find? fun q => q.queue == r.queue) == some r

/-- Why a SEND ends before its admission (R390, R399): its context is used up, or closed where it must be open. -/
def Block.sendRefusal (b : Block) (r : SendRec) : Option Nat :=
  match b.indexOf r.final with
  | some x =>
    let st := (b.ctx linkPage (linkCtx x false)).state
    if st = 2 ∨ st = 3 then some stNonceExhausted
    else if st = 0 ∧ b.on Reg.CX_CTRL_LINK_REQUIRED then some stStateReject else none
  | none => none

/-- Complete the SENDs that can never be admitted (R390, R399). -/
def Block.purgeSends (b : Block) : Block :=
  b.openSends.foldl (fun b r => match b.sendRefusal r with
    | some st =>
      let b := if st = stNonceExhausted then b.inc (Reg.CX_NONCE_EXH_COUNT linkPage) else b
      b.endWaitingSend r st (sendResult r.pseq r.attempts 0)
    | none => b) b

/-- Whether a DATA frame to a node may go out now: the node is reachable by the route in use, no ACK of its down entries
is owed, and a sleeping hop is awake only at its rendezvous (R268, R309, R311). -/
def Block.reachable (b : Block) (x y : Nat) (fixed : Bool) : Bool :=
  let n := b.node x
  n.state == 2 && !n.unreachable && (b.ext x).hold.isEmpty && (!n.orphan || (b.route x).usingAlt || (n.relay && n.depth == 1)) &&
    (fixed || (b.ext y).rdv.isNone)

/-- The candidates of a triad, in the order of their priority and then of their age (R50). -/
def Block.plans (b : Block) (t : Nat) : List Plan :=
  let ofOffer (o : Offer) : Option Plan :=
    let hop := b.indexOf o.dst
    let final := match o.parcels with
      | p :: _ => b.indexOf p.final
      | [] => hop
    let awake := match hop with
      | some y => o.start.isSome || (b.ext y).rdv.isNone
      | none => true
    if o.triad ≠ t ∨ !awake then none
    else some { offer := o, send := none, final := final, hop := hop }
  let ofSend (r : SendRec) : Option Plan :=
    match b.indexOf r.final with
    | some x =>
      let o := b.sendOffer r x
      if o.1.triad = t && b.reachable x o.2 false then some { offer := o.1, send := some r, final := some x, hop := some o.2 }
      else none
    | none => none
  let all := b.mac.offers.filterMap ofOffer ++ b.openSends.filterMap ofSend
  let rank (p : Plan) : Nat := if p.offer.standing then 0 else p.offer.prio
  let before (p q : Plan) : Bool :=
    rank p < rank q || (rank p == rank q && p.offer.entered != q.offer.entered && ahead q.offer.entered p.offer.entered)
  all.foldl (fun acc p => acc.takeWhile (fun q => !before p q) ++ [p] ++ acc.dropWhile (fun q => !before p q)) []

/-- The ports of a candidate (R196, R240): those of its offer that can send, or all three of the triad. -/
def Block.portsFor (b : Block) (p : Plan) (cross : Bool) : List Nat :=
  match p.offer.port with
  | none => (triadPorts p.offer.triad).filter b.drives
  | some n =>
    let wide := match p.hop with
      | some y => p.offer.type == typeData && (match b.dataMap y with
          | some m => 2 ≤ m.dataStreams
          | none => false)
      | none => false
    b.framePorts p.hop n (cross || wide)

/-! ### The test of a candidate -/

/-- What the test of a candidate finds: a frame, budgets that are short, or something else it must wait for. -/
inductive Verdict50 where
  | fits (x : Tx) (phy : PhyMode) (ports : List Nat)
  | short (budgets : List (Nat × Nat))
  | waits
deriving DecidableEq, Repr

/-- A frame under the pattern that serves it (R197): the contents in force at its frame start, which moves until its head
meets no window of them. Pattern 0 is named where a fixed frame start would have to move, or no start is clear. -/
def Block.notched (b : Block) (t : Nat) (node : Option Nat) (plain : FrameShape) (bins fixed : Bool) :
    Nat → Bearing → FrameShape
  | 0, _ => plain
  | fuel + 1, x =>
    let notch := b.notchFor t node plain.phy x
    let shape := { plain with notch := notch.1, windows := notch.2, phi := b.phiFor t x, start := x }
    match b.clearStart shape bins 64 x with
    | none => plain
    | some y =>
      if fixed ∧ y ≠ x then plain
      else if b.notchFor t node plain.phy y = notch ∧ b.phiFor t y = shape.phi then { shape with start := y }
      else b.notched t node plain bins fixed fuel y

/-- The transmission a candidate would be, in a mode: with a body of zeros, its sequence number still open. -/
def Block.shapeTx (b : Block) (p : Plan) (ports : List Nat) (phy : PhyMode) (a : AdmitChoice) (mac : Option (List Byte)) :
    Option Tx :=
  let o := p.offer
  let phy := if 2 ≤ phy.streams ∧ ports.length < 3 then { phy with streams := 0 } else phy
  match b.startFor o.triad o phy.bands a.clear with
  | none => none
  | some (x, bins) =>
    let extended := o.type == typeWake || o.type == typeDisc
    let plain : FrameShape := { phy := phy, extended := extended, notch := 0, windows := [], phi := b.phiFor o.triad x, start := x }
    let shape := if extended then plain else b.notched o.triad p.hop plain bins o.start.isSome 4 x
    let body := mac.getD (List.replicate (b.macLength p (b.grantFor p a).isSome) 0)
    b.txOf o ports shape 0 none body

/-- The frame that a candidate would be now, in the mode its hop last used or in uniform QPSK 1/2 (log entry 47). -/
def Block.draft (b : Block) (p : Plan) (ports : List Nat) : Option Tx :=
  let last := p.hop.bind fun y => (b.ext y).mode
  let a : AdmitChoice := { triad := 0, clear := false, mode := Fin.ofNat 11 (last.elim 5 (·.1))
                           bands := BitVec.ofNat 4 (last.elim 8 (·.2)), cross := false, grant := none, poisoned := false }
  match b.modesFor p ports a with
  | [] => none
  | phy :: _ =>
    let shape : FrameShape := { phy := phy, extended := p.offer.type == typeWake, notch := 0, windows := [], phi := 0,
                                start := b.brg.now }
    b.txOf p.offer ports shape 0 none (List.replicate (b.macLength p false) 0)

/-- The part of the thermal budget in mW that waiting priority-0 parcels need (R52). -/
def Block.p0Held (b : Block) : Nat :=
  let gweol := ((List.range 8).flatMap b.plans).map fun p =>
    if p.offer.prio = 0 ∧ !p.offer.parcels.isEmpty then
      let ports := b.portsFor p false
      match b.draft p ports with
      | some x => b.thermalCost ports x.carriers x.loss x.atten
      | none => 0
    else 0
  let g3 := ((List.range 8).flatMap b.g3Needs).map fun w =>
    b.thermalCost w.1 (if w.2 = 1 then 15 else 85) (b.lossFor w.1) 0
  gweol.sum + g3.sum

/-- Whether the thermal budget has room for a parcel's frame: below priority 0, what waiting priority-0 parcels need is held
back (R52). -/
def Block.thermalRoom (b : Block) (ports : List Nat) (carriers loss atten : Nat) (p0 : Bool) : Bool :=
  b.thermalOk ports carriers loss atten p0 &&
    (p0 || b.totalPred + b.thermalCost ports carriers loss atten + b.p0Held ≤ 20000)

/-- The test of a candidate in one mode (R50). -/
def Block.testPlan (b : Block) (p : Plan) (ports : List Nat) (phy : PhyMode) (a : AdmitChoice) : Verdict50 :=
  match b.shapeTx p ports phy a none with
  | none => .waits
  | some x =>
    let o := p.offer
    let x := { x with atten := (ports.map fun n =>
      if b.remoteDriven n then Store.get (fun _ => 0) b.chain.partnerAtten n else 0).foldl max x.atten }
    if !b.placed o.triad o x || !b.resourcesFree o.triad x (o.prio == 0 && !o.parcels.isEmpty) then .waits
    else
      let short := b.budgetShort ports x.bands x.micros o.urgent
      if !short.isEmpty then .short short
      else if !b.thermalRoom ports x.carriers x.loss x.atten o.urgent then .waits
      else .fits x phy ports

/-- The test of a candidate (R50): the first of its modes that fits. -/
def Block.testModes (b : Block) (p : Plan) (a : AdmitChoice) : Verdict50 :=
  let ports := b.portsFor p a.cross
  if ports.isEmpty || b.held p.offer.triad || !b.on Reg.MAC_CTRL_ENABLE then .waits
  else (b.modesFor p ports a).foldl (fun v phy => match v with
    | .waits => b.testPlan p ports phy a
    | v => v) .waits

/-! ### Admission -/

/-- The samples of a remote-driven frame go to the partner in DRIVE cells (R479), with the partner's active count. -/
def Block.driveCells (b : Block) (x : Tx) (n : Nat) : Block :=
  match b.partner with
  | none => b
  | some p =>
    let y := b.fixLine x
    let peak := 200 * Store.get (fun _ => 0) b.chain.partnerK n
    let cells := (x.samples + 25) / 26
    let slot := (b.portTxs n).length - 1
    let zout := (((x.ports.zip x.zout).find? fun p => p.1 == n).map (·.2)).getD 0
    (List.range cells).foldl (fun b i =>
      let flags := (if i = 0 then 1 else 0) + (if i + 1 = cells then 2 else 0)
      b.sendCell kindDrive p false (toLe 1 n ++ toLe 1 slot ++ toLe 1 flags ++ toLe 6 x.start.toNat ++ toLe 1 zout ++
        toLe 1 x.atten ++ (List.range 26).flatMap fun j => toLe 2 (y.sampleCode n (26 * i + j) peak))) b

/-- LP_ZOUT_STAT of a port at admission (R142): the code applied, and the line impedance where it was used. -/
def Block.showZout (b : Block) (n code bands : Nat) : Block :=
  let b := b.set (Reg.LP_ZOUT_STAT_LAST n) code
  if b.zoutComputed n bands then b.set (Reg.LP_ZOUT_STAT_ZLINE n) (b.zlineFor n bands) else b

/-- A transmission is admitted: it holds its lanes and units, its charges stand, LP_ZOUT_STAT shows the code. -/
def Block.putTx (b : Block) (x : Tx) : Block :=
  let b := { b with mac := { b.mac with txs := b.mac.txs ++ [x] } }
  let b := ((x.ports.zip x.zout).foldl (fun b p => b.showZout p.1 p.2 x.bands) b).deferG3 x
  let b := b.chargeFrame x.ports x.bands x.micros
  let b := ((x.ports.map (· / 6)).dedup).foldl (fun b k => b.recharge k) b
  (x.ports.filter b.remoteDriven).foldl (fun b n => b.driveCells x n) b.reportPred

/-- A SEND's parcel leaves its queue for its first hop (R245, R349): it gets its PSEQ. -/
def Block.takeSend (b : Block) (r : SendRec) (x : Nat) : Block :=
  let pseq := (b.node x).pseq
  let taken (q : SendRec) : SendRec := if q = r then { q with taken := true, pseq := pseq } else q
  let b := { b with strata := { b.strata with sends := b.strata.sends.map taken } }
  ((b.modNode x fun n => { n with pseq := (n.pseq + 1) % 65536 }).releaseSends r.queue).refreshP0

/-- The attempts of a SEND in flight. -/
def Block.noteAttempt (b : Block) (c : Cmd) (attempts : Nat) : Block :=
  { b with strata := { b.strata with sends := b.strata.sends.map fun r =>
      if r.cmd = c then { r with attempts := attempts } else r } }

/-- Admit a candidate that fits (R39, R41): the header, the parcels under link security, the grant; the queue entry is
taken, the counters and the hop's bookkeeping follow. -/
def Block.admitPlan (b : Block) (p : Plan) (a : AdmitChoice) (x : Tx) (ports : List Nat) : Block :=
  let o := p.offer
  let grant := b.grantFor p a
  let num := if p.send.isSome then b.mac.nextNum else o.num
  let seq := match p.hop with
    | some y => (b.node y).txSeq
    | none => o.attempts % 256
  let h := b.headerFor o seq grant.isSome x.start
  let body := b.bodyAt o x.start
  let sealed : Block × List Byte := match p.final with
    | some f => o.parcels.foldl (fun acc q =>
        let s := acc.1.sealParcel f q
        (s.1, acc.2 ++ s.2)) (b, [])
    | none => (b, [])
  let b := if o.type = typeData then sealed.1 else b
  let mac := if o.type = typeData then
      h.toBytes ++ (match grant with
        | some g => grantBytes g
        | none => []) ++ sealed.2
    else h.toBytes ++ body ++ crc32le (h.toBytes ++ body)
  let done : Offer := { o with num := num, body := body, attempts := o.attempts + 1, lastMode := some x.mode
                               lastBands := x.bands, start := none }
  let tx := { x.withMac mac with offer := done, seq := seq }
  let b := { b with mac := { b.mac with
    offers := b.mac.offers.filter fun q => p.send.isSome || q.num != o.num
    triads := Store.modify (fun _ => MacTriad.reset) b.mac.triads o.triad fun m => { m with
      backoffs := m.backoffs.filter fun c => some c != b.backoffOf o }
    nextNum := if p.send.isSome then b.mac.nextNum + 1 else b.mac.nextNum
    grants := b.mac.grants ++ grant.toList } }
  let b := match p.send, p.final with
    | some r, some f => b.takeSend r f
    | _, _ => b
  let b := o.parcels.foldl (fun b q => match q.send with
    | some c => b.noteAttempt c (o.attempts + 1)
    | none => b) b
  let b := match p.hop with
    | some y =>
      let b := b.modNode y fun n => { n with txSeq := (n.txSeq + 1) % 256, step := stepOf o.attempts }
      let b := b.noteBody p.hop o body x.start
      if o.type = typeData ∧ o.attempts = 0 ∧ x.mode < 16 then b.modExt y fun e => { e with mode := some (x.mode, x.bands) } else b
    | none => b
  let b := if o.attempts = 0 then b else b.inc Reg.TRV_RETRIES_COUNT
  let b := match grant with
    | some g => if b.replicates then b.sendPiece replGrant 0 g.superframe (toLe 1 g.triad ++ toLe 1 g.bands ++ toLe 2 g.start ++
        toLe 2 g.len ++ toLe 4 g.superframe ++ toLe 3 g.node) else b
    | none => b
  (b.putTx { tx with ports := ports }).refreshP0

/-- A candidate is deferred for band budget (R275, R284): counted once, and its time runs from now. -/
def Block.deferPlan (b : Block) (p : Plan) (short : List (Nat × Nat)) : Block :=
  if p.offer.waiting.isSome then b
  else
    let b := short.foldl (fun b x => b.inc (Reg.PT_BUD_WAITS_COUNT x.1 x.2)) b
    match p.send with
    | some r =>
      let note (q : SendRec) : SendRec := if q = r then { q with waiting := some b.superframe } else q
      { b with strata := { b.strata with sends := b.strata.sends.map note } }
    | none =>
      let note (q : Offer) : Offer := if q.num = p.offer.num then { q with waiting := some b.superframe } else q
      { b with mac := { b.mac with offers := b.mac.offers.map note } }

/-- Whether a waiting priority-0 candidate forbids another one (R52): they share a port or a sub-band of the triad. -/
def Block.blockedBy (b : Block) (p : Plan) (a : AdmitChoice) (waiting : List (List Nat × Nat)) : Bool :=
  !(p.offer.prio == 0 && !p.offer.parcels.isEmpty) && waiting.any fun w =>
    let ports := b.portsFor p a.cross
    ports.any w.1.contains || (b.modesFor p ports a).any fun m => m.bands &&& w.2 != 0

/-- Ports and sub-bands that a waiting candidate needs, in any of its modes. -/
def Block.needs (b : Block) (p : Plan) (a : AdmitChoice) : List Nat × Nat :=
  let ports := b.portsFor p a.cross
  (ports, (b.modesFor p ports a).foldl (fun m phy => m ||| phy.bands) 0)

/-- A candidate that cannot go out yet draws its backoff where it contends (R255). -/
def Block.contend (b : Block) (p : Plan) (a : AdmitChoice) : Block :=
  match b.modesFor p (b.portsFor p a.cross) a with
  | phy :: _ => b.drawBackoff p.offer phy.bands a.clear
  | [] => b

/-- A priority-0 parcel that finds no engine waits for the first to be free, ahead of all of lower priority (R53). -/
def Block.awaitEngine (b : Block) (prio key : Nat) : Block :=
  if prio = 0 ∧ !b.cx.sendsWait.contains key then { b with cx := { b.cx with sendsWait := key :: b.cx.sendsWait } } else b

/-- It waits no longer. -/
def Block.leaveEngines (b : Block) (key : Nat) : Block :=
  { b with cx := { b.cx with sendsWait := b.cx.sendsWait.filter (· != key) } }

/-- Try the candidates in order until one is admitted (R51, R52). -/
def Block.admitFirst (b : Block) (a : AdmitChoice) : List Plan → List (List Nat × Nat) → Block
  | [], _ => b
  | p :: rest, waiting =>
    if b.blockedBy p a waiting then b.admitFirst a rest waiting
    else
      let p0 := p.offer.prio == 0 && !p.offer.parcels.isEmpty
      let waiting' := if p0 then waiting ++ [b.needs p a] else waiting
      match b.testModes p a with
      | .waits => (b.contend p a).admitFirst a rest waiting'
      | .short s => (b.deferPlan p s).admitFirst a rest waiting'
      | .fits x _ ports =>
        match p.send, a.poisoned with
        | some r, true => (b.poisoned r.queue r.ptr).endWaitingSend r stRevoked (toLe 1 1)
        | _, _ =>
          let secured := p.offer.type == typeData && (match p.final with
            | some f => b.linkOpen f false
            | none => false)
          if secured then
            match (if b.sendAhead p.offer.prio then none else b.seize p.offer.prio) with
            | some (_, b) => b.admitPlan p a x ports
            | none => (b.awaitEngine p.offer.prio a.triad).admitFirst a rest waiting'
          else b.admitPlan p a x ports

/-- ADMISSION (R41, R50): on a triad. -/
def Block.admission (b : Block) (a : AdmitChoice) : Block :=
  if b.dev != .service || !b.running then b
  else
    let b := b.purgeSends.leaveEngines a.triad
    b.admitFirst a (b.plans a.triad) (b.g3Needs a.triad)

/-- ADMISSION (R41). -/
def execAdmission (a : AdmitChoice) (s : State) : Host.Outcome State Fault Refusal :=
  answer "ADMISSION" true s fun b => b.admission a

/-! ### On the line (R144) -/

/-- A transmission by its number. -/
def Block.tx (b : Block) (num : Nat) : Option Tx := b.mac.txs.find? fun x => x.offer.num == num

/-- The entry of the transmit stamp queue for one parcel of a frame (R440). Gweol's sync point lies 3,584 samples into the
frame; that of a G3 frame is the last sample of its preamble (R438), whose length is a free value (log entry 56). -/
def Block.stampEntry (b : Block) (x : Tx) (p : OutParcel) : List Byte :=
  let us := if x.offer.type = typeG3 then b.free % x.micros else 1792
  let d := if x.offer.type = typeG3 then b.nsToBu (us * 1000) else b.samplesToBu (preambleSamples 6)
  let ns := us * 1000 * 2 ^ 32
  stampRecord (b.dtm.a.t + ns) (b.dtm.b.t + ns) (x.start + BitVec.ofNat 48 d) 0 ++ toLe 2 p.pseq ++
    (match p.send with
     | some c => toLe 1 (c.fn + 16 * x.offer.attempts) ++ toLe 1 (x.ports.headD 0) ++ toLe 3 p.final ++ [0] ++ toLe 4 c.seq.toNat
     | none => List.replicate 10 0)

/-- Whether the last instant has come at which a frame may be admitted for a frame start (R41): it lies 12 µs ahead. -/
def Block.lastCall (b : Block) (start : Bearing) : Bool := (start - b.brg.now).toNat ≤ b.nsToBu 12000 + 1

/-- Whether a frame start can no longer be met. -/
def Block.tooLate (b : Block) (start : Bearing) : Bool := !ahead start (b.brg.now + BitVec.ofNat 48 (b.nsToBu 12000))

/-- A frame placed at a bearing is admitted 12 µs before it if R50 allows it, and is gone otherwise (R41, R260, R274). -/
def Block.admitPlaced (b : Block) (num : Nat) : Block :=
  match b.tx num with
  | none => b
  | some x =>
    if x.stage ≠ .placed ∨ !(b.lastCall x.start || b.tooLate x.start) then b
    else
      let t := x.ports.headD 0 / 3
      let b := { b with mac := { b.mac with txs := b.mac.txs.filter fun y => y.offer.num != num } }
      let x := { x with
        atten := b.attenFor x.ports x.start x.last, zout := x.ports.map fun n => b.zoutFor n x.bands
        loss := b.lossFor x.ports, stage := .admitted }
      if b.tooLate x.start || b.dev != .service || !b.on Reg.MAC_CTRL_ENABLE || b.held t || !x.ports.all b.drives ||
          b.meetsGrant t x.bands x.start x.last ||
          !b.resourcesFree t x false || !(b.budgetShort x.ports x.bands x.micros false).isEmpty ||
          !b.thermalOk x.ports x.carriers x.loss x.atten false then b
      else b.putTx x

/-- A frame starts (R29, R134, R138, R144, R440): the switches of the ports that drive it are closed, the receptions it
blanks are dropped and the others of its triad take the XBAND flag, its STAMP entries are placed. -/
def Block.startTx (b : Block) (num : Nat) : Block :=
  match b.tx num with
  | none => b
  | some x =>
    if x.stage ≠ .admitted ∨ ahead x.start (b.brg.now + 1) then b
    else
      let x := b.fixLine x
      let b := b.setTx num fun _ => { x with stage := .onLine }
      let b := x.ports.foldl (fun b n => if b.transmits n then b.closeSwitches n else b) b
      let b := b.hushLanes x.ports x.bands
      (x.offer.parcels.filter fun p => p.stamp).foldl (fun b p => (b.pushTxStamp (b.stampEntry x p)).draw) b

/-- TRANSMISSION_START (R144). -/
def execTransmissionStart (tx : Nat) (s : State) : Host.Outcome State Fault Refusal :=
  answer "TRANSMISSION_START" true s fun b => b.startTx tx

/-- A frame ends (R30, R144, R152): its switches open 8 µs later, its lanes and units are free, what it measured goes to
Sounding, and it waits for its ACK if it asked for one. -/
def Block.endTx (b : Block) (num : Nat) (m : TxMeasure) : Block :=
  match b.tx num with
  | none => b
  | some x =>
    if x.stage ≠ .onLine ∨ ahead x.last (b.brg.now + 1) then b
    else
      let b := x.ports.foldl (fun b n => (b.inc (Reg.LP_TX_COUNT_COUNT n)).endPort n) (b.logTx x.ports x.bands x.start)
      let b := if x.offer.ackReq then b.setTx num fun x => { x with stage := .awaitingAck }
        else { b with mac := { b.mac with txs := b.mac.txs.filter fun y => y.offer.num != num } }
      let b := ((x.ports.map (· / 6)).dedup).foldl (fun b k => b.refreshCharges k) b
      let b := x.ports.foldl (fun b n => b.bankSent (n / 6) x.carriers x.atten) b
      let b := b.observeTx x m
      if x.offer.type = typeG3 then b.g3Ended (x.ports.headD 0) else b

/-- TRANSMISSION_END (R144). -/
def execTransmissionEnd (tx : Nat) (m : TxMeasure) (s : State) : Host.Outcome State Fault Refusal :=
  answer "TRANSMISSION_END" m.wf s fun b => b.endTx tx m

end Sys2Proof.Machine
end

