-- ==== Sys2Proof/Machine/Plane.lean ====
section
/-!
DEFINITION. The Plane Table's own calendar (07_gweol_mac.md): superframes, CP_END (R239), Cairns (R240, R247), notch sets
(R250 to R252), discovery (R260), maps and SYNCs that fall due (R267, R448), budgets, the last-gasp window, rendezvous.
-/

namespace Sys2Proof.Machine

/-! ### Notch sets (R250 to R252) -/

/-- The impulsive bins of a triad for a band set. -/
def Block.impulsiveBins (b : Block) (t m : Nat) : List Bool :=
  (List.range 128).map fun x => (triadPorts t).any fun n => (bandsOf m).any fun s => b.impulsiveBin n s x

/-- The OCC of a bin over the ports of a triad and a band set. -/
def Block.occOf (b : Block) (t m x : Nat) : Nat :=
  ((triadPorts t).flatMap fun n => (bandsOf m).map fun s => (b.noiseBin (noiseKey n s x)).occ).sum

/-- The maximal cyclic runs of set bins: start and length; a full circle starts at bin 0. -/
def cyclicRuns (bins : List Bool) : List (Nat × Nat) :=
  let n := bins.length
  let at_ (i : Nat) : Bool := bins.getD (i % n) false
  if bins.all id then [(0, n)]
  else (List.range n).filterMap fun i =>
    if at_ i && !at_ (i + n - 1) then some (i, leastUpTo n fun k => !at_ (i + k)) else none

/-- A run in windows of 16 bins and the remainder. -/
def splitRun (r : Nat × Nat) : List (Nat × Nat) :=
  (List.range ((r.2 + 15) / 16)).map fun i => ((r.1 + 16 * i) % 128, min 16 (r.2 - 16 * i))

/-- Insert a window by descending total OCC, the lower start bin first on a tie. -/
def insertWindow (w : Nat × Nat × Nat) (ws : List (Nat × Nat × Nat)) : List (Nat × Nat × Nat) :=
  let before (x : Nat × Nat × Nat) : Bool := w.1 < x.1 || (w.1 == x.1 && x.2.1 < w.2.1)
  ws.takeWhile before ++ [w] ++ ws.dropWhile before

/-- The windows of a triad for a band set (R250): at most 8, at most 64 bins. -/
def Block.windowsFor (b : Block) (t m : Nat) : List (Nat × Nat) :=
  let runs := (cyclicRuns (b.impulsiveBins t m)).flatMap splitRun
  let weighed := runs.map fun w => (((List.range w.2).map fun i => b.occOf t m ((w.1 + i) % 128)).sum, w)
  let sorted := weighed.foldl (fun acc w => insertWindow w acc) []
  (sorted.foldl (fun (acc : List (Nat × Nat) × Nat × Bool) w =>
    if acc.2.2 || 8 ≤ acc.1.length || 64 < acc.2.1 + w.2.2 then (acc.1, acc.2.1, true)
    else (acc.1 ++ [w.2], acc.2.1 + w.2.2, false)) ([], 0, false)).1

/-- The patterns of a triad (R250): masks with the same list share one; a list that a pattern of the old set had keeps its
id, a new one takes the lowest free id. -/
def Block.patternsFor (b : Block) (t : Nat) (old : List NotchPattern) : List NotchPattern :=
  let lists := (List.range 15).map fun i => b.windowsFor t (i + 1)
  let distinct := (lists.filter fun l => !l.isEmpty).dedup
  let scope (l : List (Nat × Nat)) : Nat :=
    ((List.range 15).filter fun i => lists.getD i [] == l).foldl (fun acc i => acc + 2 ^ i) 0
  let keeps (l : List (Nat × Nat)) : Option Nat := (old.find? fun p => p.windows == l).map (·.id)
  let kept := distinct.filterMap keeps
  let all := distinct.foldl (fun (acc : List NotchPattern) l =>
    let id? := match keeps l with
      | some i => some i
      | none => ((List.range 15).map (· + 1)).find? fun i => !kept.contains i && !acc.any fun p => p.id == i
    match id? with
    | some i => acc ++ [{ id := i, scope := scope l, windows := l }]
    | none => acc) []
  -- by id, as the fragments are ordered
  ((List.range 15).map (· + 1)).filterMap fun i => all.find? fun p => p.id == i

/-- The fragments of a set (R251): 5 bytes each. -/
def NotchSet.fragments (s : NotchSet) : List (List Byte) :=
  s.patterns.flatMap fun p =>
    let head := p.id + s.version % 16 * 16
    let c := p.windows.length
    let window (w : Nat) : List Byte :=
      let x := p.windows.getD w (0, 0)
      let y := p.windows.getD (w + 1) (0, 0)
      let second := if w + 1 < c then y.1 * 2 ^ 26 + (y.2 - 1) * 2 ^ 33 else 0
      toLe 5 (head + w * 2 ^ 8 + c * 2 ^ 11 + x.1 * 2 ^ 15 + (x.2 - 1) * 2 ^ 22 + second)
    toLe 5 (head + p.scope * 2 ^ 8 + 2 ^ 39) :: (List.range ((c + 1) / 2)).map fun i => window (2 * i)

/-- What the partner learns of a triad (R478). -/
def Block.triadBytes (b : Block) (t : Nat) : List Byte :=
  let m := b.macTriad t
  toLe 4 (b.rd (Reg.MAC_TRIAD t)).toNat ++ toLe 2 m.phiDev ++ toLe 4 ((m.pending.map (·.2)).getD 0)

/-- Tell the partner of a triad what has changed. -/
def Block.tellTriad (b : Block) (t : Nat) (old : List Byte) : Block := b.replicate replTriad t old (b.triadBytes t)

/-- Tell the partner the fragments of a set. -/
def Block.tellNotch (b : Block) (t : Nat) (s : NotchSet) : Block :=
  b.replicate replNotch t [] (toLe 1 s.version ++ toLe 1 s.fragments.length ++ s.fragments.flatten)

/-- NOTCH_RECOMPUTE (R252): a result that differs from the set in force is announced, unless a set is pending or the last
announcement lies less than a full interval back. -/
def Block.recomputeNotch (b : Block) (t : Nat) : Block :=
  let m := b.macTriad t
  let interval := b.get Reg.PT_NOTCH_CTRL_INTERVAL * 16
  let early := match m.announced with
    | some sf => b.superframe < sf + interval
    | none => false
  let patterns := if b.on Reg.PT_NOTCH_CTRL_ENABLE then b.patternsFor t m.inForce.patterns else []
  if b.dev != .service || !b.running || m.pending.isSome || early || patterns = m.inForce.patterns then b
  else
    let s : NotchSet := { version := (m.inForce.version + 1) % 256, patterns := patterns }
    let eff := b.superframe + 2 * s.fragments.length + 8
    let old := b.triadBytes t
    let b := b.setMacTriad t { m with pending := some (s, eff), announced := some b.superframe }
    let b := (b.set (Reg.MAC_TRIAD_NEXT t) (min 255 (eff - b.superframe))).post 0x0705 0 19 [(1, t), (1, s.version), (4, eff)]
    (b.tellTriad t old).tellNotch t s

/-- NOTCH_RECOMPUTE (R252). -/
def execNotchRecompute (t : Fin 8) (s : State) : Host.Outcome State Fault Refusal :=
  answer "NOTCH_RECOMPUTE" true s fun b => b.recomputeNotch t

/-! ### CP_END (R239) -/

/-- Bins of SP work of a candidate: its frame with its ACK window (log entry 47: the spec does not say how queued work is
sized). -/
def Block.planBins (b : Block) (p : Plan) : Nat :=
  match b.draft p [p.offer.port.getD (3 * p.offer.triad)] with
  | some x => ((x.ackEnd - x.start).toNat + 511) / 512
  | none => 0

/-- Whether a sub-band is enabled on a triad: some port of it may use it. -/
def Block.bandEnabled (b : Block) (t s : Nat) : Bool :=
  (triadPorts t).any fun n => b.portBound n && (b.permitted n).testBit s

/-- The sub-band of the DISC frame of a superframe (R260). -/
def Block.discBand (b : Block) (t n : Nat) : Nat :=
  let s := (n + b.get Reg.MAC_NET_NET_ID + n / 4) % 4
  (((List.range 4).map fun i => (s + i) % 4).find? fun x => b.bandEnabled t x).getD s

/-- The 26 leading FCH bits of a CAIRN_C or DISC frame (R246). -/
def Block.cairnHead (b : Block) (type t : Nat) : List Bool :=
  lsbBits 4 type ++ lsbBits 10 b.superframe ++ lsbBits 3 t ++ lsbBits 4 0 ++ lsbBits 4 (b.macTriad t).inForce.version ++
    lsbBits 1 (b.get Reg.MAC_CTRL_ASSOC_OPEN)

/-- Bins of the DISC frame that discovery mode adds to the coming superframe of a triad (R260). -/
def Block.discBins (b : Block) (t : Nat) : Nat :=
  if (b.macTriad t).discLeft = 0 ∧ !b.mac.discForce then 0
  else
    let o := controlOffer typeDisc t none addrBroadcast []
    let phy : PhyMode := { mode := 0, bands := 2 ^ b.discBand t (b.superframe + 1), map := [], streams := 0 }
    let shape : FrameShape := { phy := phy, extended := true, notch := 0, windows := [], phi := 0, start := b.brg.now }
    match b.txOf o [3 * t] shape 0 (some (b.cairnHead typeDisc t)) [] with
    | some x => ((x.last - x.start).toNat + 511) / 512
    | none => 0

/-- D of R239: bins of SP work queued for a triad, the coming superframe's DISC frame among it, with the grants issued for
that superframe. -/
def Block.spWork (b : Block) (t : Nat) : Nat :=
  ((b.plans t).map b.planBins).sum + b.discBins t +
    ((b.mac.grants.filter fun g => g.triad == t && g.superframe == b.superframe + 1).map (·.len)).sum

/-- CP_END_CHOICE (R239): at superframe bin 960 of the preceding superframe. -/
def Block.chooseCpEnd (b : Block) (t : Nat) : Block :=
  let m := b.macTriad t
  if b.dev != .service || !b.running || binOf b.brg.now < 960 || m.cpNext.isSome then b
  else
    let v := min (b.get Reg.MAC_CP_CTRL_CP_END_MAX) (max (b.get Reg.MAC_CP_CTRL_CP_END_MIN) (1023 - b.spWork t))
    b.setMacTriad t { m with cpNext := some v }

/-- CP_END_CHOICE (R239). -/
def execCpEndChoice (t : Fin 8) (s : State) : Host.Outcome State Fault Refusal :=
  answer "CP_END_CHOICE" true s fun b => b.chooseCpEnd t

/-! ### Discovery (R260) -/

/-- Admit a Cairn at its bearing on the ports of a triad: the budgets, lanes and half duplex decide (R50, R274, R275). -/
def Block.broadcastTx (b : Block) (t type : Nat) (ports : List Nat) (phy : PhyMode) (start : Bearing)
    (head : Option (List Bool)) (mac : List Byte) (bands : Nat) (reserve : Bool) : Option (Block × Tx) :=
  let o : Offer := { controlOffer type t none addrBroadcast [] with prio := 0, num := b.mac.nextNum, entered := b.brg.now }
  let shape : FrameShape := { phy := phy, extended := false, notch := 0, windows := [], phi := b.phiFor t start
                              start := start }
  match b.txOf o ports shape 0 head mac with
  | none => none
  | some x =>
    if ports.isEmpty || !b.resourcesFree t x false || !(b.budgetShort ports bands x.micros reserve).isEmpty ||
        !b.thermalOk ports x.carriers x.loss x.atten false then none
    else
      let b := { b with mac := { b.mac with nextNum := b.mac.nextNum + 1 } }
      some (b.putTx x, x)

/-- The DISC frame of a superframe (R260) is placed as the first frame of the triad's SP; it is admitted at its start. -/
def Block.sendDisc (b : Block) (t : Nat) : Block :=
  let n := b.superframe
  let s := b.discBand t n
  let phy : PhyMode := { mode := 0, bands := 2 ^ s, map := [], streams := 0 }
  let start := binStart n (b.get (Reg.MAC_TRIAD_CP_END t) + 1)
  if b.held t || !b.on Reg.MAC_CTRL_ENABLE then b
  else
    let ports := (triadPorts t).filter fun n => b.drives n && (b.permitted n).testBit s
    let o : Offer := { controlOffer typeDisc t none addrBroadcast [] with num := b.mac.nextNum, entered := b.brg.now }
    let shape : FrameShape := { phy := phy, extended := true, notch := 0, windows := [], phi := b.phiFor t start, start := start }
    match b.txOf o ports shape 0 (some (b.cairnHead typeDisc t)) [] with
    | some x =>
      if ports.isEmpty then b
      else { b with mac := { b.mac with nextNum := b.mac.nextNum + 1, txs := b.mac.txs ++ [{ x with stage := .placed }] } }
    | none => b

/-! ### What falls due at a superframe start -/

/-- The next map index of a direction (R267): 0–23 uplink, 24–47 downlink. -/
def nextIndex (up : Bool) (ms : List MapGen) : Nat :=
  let base := if up then 0 else 24
  match ms with
  | m :: _ => base + (m.index - base + 1) % 24
  | [] => base

/-- The loading vectors of the streams of a map: as many as have an active carrier, one at least (R182, R191, log entry 184). -/
def streamsOf (codes : List Nat) : List (List Nat) :=
  codes.take 112 :: [1, 2].filterMap fun q =>
    let v := (codes.drop (112 * q)).take 112
    if v.any (· != 0) && ((codes.drop 112).take 112).any (· != 0) then some v else none

/-- A map that Sounding proposes goes out in a MAP SET (R226, R267). -/
def Block.sendMap (b : Block) (x : Nat) (up : Bool) : Block :=
  let l := b.link up x
  match l.proposed with
  | none => b
  | some (rate, codes, gen) =>
    if (b.node x).state != 2 || (b.node x).depth != 1 then b
    else
      let e := b.ext x
      let ms := if up then e.ulMaps else e.dlMaps
      let bytes := mapBytes rate gen (streamsOf codes)
      let m : MapGen := { index := nextIndex up ms, bytes := bytes, eff := b.superframe + effAhead, acked := false }
      let b := b.setLink up x { l with proposed := none }
      let b := b.modExt x fun e => if up then { e with ulMaps := (m :: ms).take 2 } else { e with dlMaps := (m :: ms).take 2 }
      b.controlTo x typeMap (toLe 1 1 ++ toLe 1 (bitOf !up) ++ toLe 1 m.index ++ toLe 4 m.eff ++ bytes)

/-- A SYNC waits for a node (R448), with a new SEQ_T. -/
def Block.offerSync (b : Block) (x : Nat) : Block :=
  let t := (b.ext x).time
  let short := (b.node x).short
  if b.mac.offers.any (fun o => o.dst == short && o.type == typeTime && byteAt o.body 0 == 0) then b
  else b.controlTo x typeTime ([0] ++ toLe 1 (t.seqT + 1) ++ toLe 1 (bitOf t.frozen) ++ List.replicate 12 0)

/-- Whether a node's SYNC falls due in a superframe (R448). -/
def Block.syncDue (b : Block) (x n : Nat) : Bool :=
  let node := b.node x
  let period := if (b.ext x).time.frozen then b.get Reg.DTM_TIME_CTRL_FAST else b.get Reg.DTM_TIME_CTRL_PERIOD
  b.on Reg.DTM_TIME_CTRL_ENABLE && node.state == 2 && node.depth == 1 && period != 0 && n % period == x % period

/-- What is due for one node: a channel map that has reached EFF with its ACK held, the maps in force, maps that Sounding
proposes, the SYNC. -/
def Block.nodeDue (b : Block) (n x : Nat) : Block :=
  let b := match (b.ext x).chNext with
    | some (mask, k, eff, true) =>
      if eff ≤ n then b.modExt x fun e => { e with chmask := mask, chstr := k, chNext := none } else b
    | _ => b
  let e := b.ext x
  let ul : Nat := ((mapInForce e.ulMaps n).map (·.index)).getD (b.node x).ulMap
  let dl : Nat := ((mapInForce e.dlMaps n).map (·.index)).getD (b.node x).dlMap
  let b := if ul ≠ (b.node x).ulMap ∨ dl ≠ (b.node x).dlMap then
    (b.modNode x fun m => { m with ulMap := ul, dlMap := dl }).refreshLink x else b
  let b := (b.sendMap x true).sendMap x false
  if b.syncDue x n then b.offerSync x else b

/-- What a superframe start brings on a triad (R239, R249, R252, R260). -/
def Block.triadStart (b : Block) (n t : Nat) : Block :=
  let old := b.triadBytes t
  let m := b.macTriad t
  let cp := if b.triadBound t then m.cpNext.getD (b.get Reg.MAC_CP_CTRL_CP_END_MIN) else 0
  let (inForce, pending) : NotchSet × Option (NotchSet × Nat) := match m.pending with
    | some (s, eff) => if eff ≤ n then (s, none) else (m.inForce, some (s, eff))
    | none => (m.inForce, none)
  let disc := 0 < m.discLeft || b.mac.discForce
  let b := b.setMacTriad t { m with
    cpNext := none, phiDev := b.get (Reg.BRG_PHOFS_OFS (3 * t)), inForce := inForce, pending := pending
    discLeft := m.discLeft - 1 }
  let b := b.setAll [(Reg.MAC_TRIAD_CP_END t, cp), (Reg.MAC_TRIAD_DISC t, bitOf disc), (Reg.MAC_TRIAD_NVER t, inForce.version),
    (Reg.MAC_TRIAD_NEXT t, match pending with
      | some (_, eff) => min 255 (eff - n)
      | none => 0)]
  let b := b.tellTriad t old
  if disc && b.dev == .service && b.triadBound t then b.sendDisc t else b

/-- SUPERFRAME_START (R237): once for each superframe number. -/
def Block.superframeStart (b : Block) : Block :=
  let n := b.superframe
  if !b.running || b.get Reg.MAC_SFN_SFN == n % 2 ^ 29 then b
  else
    let b := ((b.set Reg.MAC_SFN_SFN n).applySched).set Reg.TRV_REPL_STAT_LAG (min 255 b.trv.lag)
    let b := { b with trv := { b.trv with lag := 0 } }
    let b := { b with mac := { b.mac with
      discForce := b.on Reg.MAC_CTRL_DISC_FORCE, force0 := b.on Reg.PT_NOTCH_CTRL_FORCE0
      grants := b.mac.grants.filter fun g => n ≤ g.superframe } }
    let b := (List.range 24).foldl (fun b p => b.setPort p { b.port p with sinceRotation := (b.port p).sinceRotation + 1 }) b
    let b := (List.range 8).foldl (fun b t => b.triadStart n t) b
    if b.home && b.dev == .service then (b.trv.nodes.map (·.1)).foldl (fun b x => b.nodeDue n x) b else b

/-- SUPERFRAME_START (R237). -/
def execSuperframeStart (s : State) : Host.Outcome State Fault Refusal :=
  answer "SUPERFRAME_START" true s fun b => b.superframeStart

/-! ### Cairns (R240, R247, R275, R282) -/

/-- FRAG of the full Cairn of a superframe (R251): zeros where no pattern is published. -/
def Block.cairnFragment (b : Block) (t n : Nat) : List Byte :=
  let m := b.macTriad t
  let s := match m.pending with
    | some (p, _) => p
    | none => m.inForce
  let fs := s.fragments
  fs.getD (n % max 1 fs.length) [0, 0, 0, 0, 0]

/-- The MAC frame of the full Cairn (R244, R247). -/
def Block.cairnMac (b : Block) (t : Nat) (start : Bearing) : List Byte :=
  let n := superframeOf start
  let m := b.macTriad t
  let h : MacHeader := { net := b.get Reg.MAC_NET_NET_ID, dst := addrBroadcast, src := addrDevice, seq := 0, ackReq := false
                         grant := false, more := false, prio := 0, nparc := 0, evc := n % 65536 }
  let bytes := h.toBytes ++ toLe 4 (n % 2 ^ 29 + t * 2 ^ 29) ++ toLe 2 m.phiDev ++ toLe 1 m.inForce.version ++
    toLe 1 (b.get (Reg.MAC_TRIAD_NEXT t)) ++
    toLe 1 (b.get Reg.MAC_CTRL_ASSOC_OPEN + 2 * b.get (Reg.MAC_TRIAD_DISC t)) ++ toLe 2 (b.get (Reg.MAC_TRIAD_CP_END t)) ++
    b.cairnFragment t n
  bytes ++ crc32le bytes

/-- A Cairn is not sent (R275, R282). -/
def Block.skipCairn (b : Block) (t s cause : Nat) : Block :=
  (b.inc Reg.MAC_CAIRN_SKIP_COUNT).post 0x0701 1 19 [(1, t), (1, s), (1, cause)]

/-- One Cairn of a triad, in SB-A or SB-F (R240). Ports in a quiet window are left out. -/
def Block.sendCairn (b : Block) (t s : Nat) (start : Bearing) : Block :=
  let all := (triadPorts t).filter fun n => b.drives n && (b.permitted n).testBit s
  let ports := all.filter fun n => !b.quietBlocks n (start + BitVec.ofNat 48 (b.durationBu fullCairnSamples))
  let type := if s = 0 then typeCairnC else typeCairn
  let phy : PhyMode := { mode := if s = 0 then 0 else 1, bands := 2 ^ s, map := [], streams := 0 }
  if all.isEmpty then (if (triadPorts t).any (fun n => !b.standsBy n) then b.skipCairn t s 0 else b)
  else if (b.gaspClose t).isSome then b.skipCairn t s 3
  else if b.on Reg.BRG_STATUS_RESEAT_PENDING then b.skipCairn t s 1
  else
    let b := if ports.length < all.length then b.skipCairn t s 2 else b
    if ports.isEmpty then b
    else match b.broadcastTx t type ports phy start (if s = 0 then some (b.cairnHead typeCairnC t) else none)
        (if s = 0 then [] else b.cairnMac t start) (2 ^ s) true with
      | some r => r.1
      | none => b.skipCairn t s 0

/-- The sub-bands in which Cairns go out, the full one first (R238, R240). -/
def Block.cairnBands (b : Block) : List Nat := [3, 0].filter b.cairnBand

/-- The bearing of the Cairns of a superframe (R240). -/
def Block.cairnStart (b : Block) (n : Nat) : Bearing := binStart n (b.get Reg.MAC_SF_CTRL_CAIRN_BIN)

/-- Whether a triad has the Cairns of a superframe still before it. -/
def Block.cairnsDue (b : Block) (t n : Nat) : Bool :=
  b.dev == .service && b.running && b.triadBound t && b.on Reg.MAC_CTRL_ENABLE && (b.macTriad t).cairnFor != some n

/-- The Cairns of a superframe are done with on a triad. -/
def Block.cairnsDone (b : Block) (t n : Nat) : Block := b.setMacTriad t { b.macTriad t with cairnFor := some n }

/-- The Cairns of a superframe are admitted 12 µs before their bearing (R41, R240, R275). A superframe entered later, as at the
entry to SERVICE, has none (log entry 22). -/
def Block.admitCairns (b : Block) (t : Nat) : Block :=
  let n := b.superframe
  let start := b.cairnStart n
  if !b.cairnsDue t n then b
  else if b.tooLate start then b.cairnsDone t n
  else if b.lastCall start then b.cairnBands.foldl (fun b s => b.sendCairn t s start) (b.cairnsDone t n)
  else b

/-- The Cairns of a triad that a re-seat has passed are skipped (R113, R275, R282). -/
def Block.passCairns (b : Block) (t n : Nat) : Block :=
  if b.cairnsDue t n then b.cairnBands.foldl (fun b s => b.skipCairn t s 1) (b.cairnsDone t n) else b

/-- CAIRN_TRANSMIT (R240): at superframe bin CAIRN_BIN the triad's Cairns that have been admitted go out. -/
def Block.transmitCairn (b : Block) (t : Nat) : Block :=
  (b.mac.txs.filter fun x => (x.offer.type == typeCairn || x.offer.type == typeCairnC) && x.offer.triad == t).foldl
    (fun b x => b.startTx x.offer.num) b

/-- CAIRN_TRANSMIT (R240). -/
def execCairnTransmit (t : Fin 8) (s : State) : Host.Outcome State Fault Refusal :=
  answer "CAIRN_TRANSMIT" true s fun b => b.transmitCairn t

/-! ### Budgets (R273, R275) -/

/-- A bucket ends; the account keeps the new one and the 32 before it. A frame counts in the bucket of its frame start, so
that the charge of one that has yet to start goes over to the new bucket (R273). -/
def Block.rollBucket (b : Block) (n s : Nat) : Block :=
  let ahead' := ((b.mac.txs.filter fun x => x.stage == .admitted && x.ports.contains n && x.bands.testBit s).map (·.micros)).sum
  match b.buckets n s with
  | [] => b
  | x :: rest => b.setBuckets n s ((min x ahead' :: (x - ahead') :: rest).take 33)

/-- BUDGET_BUCKET_ROLL (R273). -/
def execBudgetBucketRoll (port : Fin 24) (sb : Fin 4) (s : State) : Host.Outcome State Fault Refusal :=
  answer "BUDGET_BUCKET_ROLL" true s fun b => b.rollBucket port sb

/-- BUDGET_TTL_EXPIRY (R275): parcels of priority 1 to 7 that have waited BUDGET_TTL superframes are discarded. -/
def Block.expireBudget (b : Block) : Block :=
  let ttl := b.get Reg.PT_TTL_BUDGET_TTL
  let old (prio : Nat) (w : Option Nat) : Bool := 0 < prio && (match w with
    | some sf => sf + ttl ≤ b.superframe
    | none => false)
  let sends := b.strata.sends.filter fun r => !r.taken && old r.prio r.waiting
  let b := sends.foldl (fun b r =>
    (b.inc Reg.PT_BUDGET_DROP_COUNT).endWaitingSend r stBudgetWait (sendResult r.pseq r.attempts 0)) b
  let gone (o : Offer) : Bool := !o.parcels.isEmpty && old o.prio o.waiting
  let dropped := b.mac.offers.filter gone
  let b := ({ b with mac := { b.mac with offers := b.mac.offers.filter fun o => !gone o } }).refreshP0
  dropped.foldl (fun b o => o.parcels.foldl (fun b p =>
    let b := b.inc Reg.PT_BUDGET_DROP_COUNT
    match p.send with
    | some c =>
      let b := { b with strata := { b.strata with sends := b.strata.sends.filter fun r => r.cmd != c } }
      b.complete c stBudgetWait (sendResult p.pseq o.attempts 0)
    | none => b) b) b

/-- BUDGET_TTL_EXPIRY (R275). -/
def execBudgetTtlExpiry (s : State) : Host.Outcome State Fault Refusal :=
  answer "BUDGET_TTL_EXPIRY" true s fun b => b.expireBudget

/-- A priority-0 parcel under way (R278): the port of its frame, its entry into Strata, its FINAL, the attempts begun on it,
whether it has waited for band budget. -/
structure Urgent where
  port : Nat
  entered : Bearing
  final : Nat
  attempts : Nat
  budget : Bool
deriving DecidableEq, Repr

/-- The priority-0 parcels under way: in their queues, waiting as frames, on the line. -/
def Block.urgents (b : Block) : List Urgent :=
  (b.strata.sends.filter fun r => !r.taken && r.prio == 0).filterMap (fun r => (b.indexOf r.final).map fun x =>
    { port := (b.hop x false).2, entered := r.entered, final := r.final, attempts := 0, budget := r.waiting.isSome }) ++
  (b.mac.offers.filter fun o => o.prio == 0).flatMap (fun o => o.parcels.map fun p =>
    { port := o.port.getD (3 * o.triad), entered := o.entered, final := p.final, attempts := o.attempts
      budget := o.waiting.isSome }) ++
  (b.mac.txs.filter fun x => x.offer.prio == 0).flatMap fun x => x.offer.parcels.map fun p =>
    { port := x.offer.port.getD (x.ports.headD 0), entered := x.offer.entered, final := p.final, attempts := x.offer.attempts
      budget := false }

/-- Whether the conditions of R278 have held for a parcel since its entry: for a one-hop node, with no wait for band budget, no
other priority-0 parcel of the triad ahead of it now or since it entered, and nothing that has touched the triad. -/
def Block.guaranteed (b : Block) (u : Urgent) : Bool :=
  let t := u.port / 3
  (match b.indexOf u.final with
   | some x => (b.node x).depth == 1
   | none => false) && !u.budget &&
    !(b.macTriad t).behind.contains u.entered &&
    !(b.urgents.any fun v => v.port / 3 == t && v.entered != u.entered && ahead u.entered v.entered) &&
    !((b.urgents.takeWhile (· != u)).any fun v => v.port / 3 == t && v.entered == u.entered) &&
    (match (b.macTriad t).touched with
     | some x => ahead u.entered x
     | none => true)

/-- Whether a priority-0 parcel of a port is past a bound of R278: its first frame start, or its delivery while its second
attempt is not over. -/
def Block.p0Overdue (b : Block) (n : Nat) : Bool :=
  b.urgents.any fun u => u.port == n && u.attempts ≤ 2 && b.guaranteed u &&
    (if u.attempts = 0 then 299008 else 1048576) < (b.brg.now - u.entered).toNat

/-- P0_LATE (R278): a priority-0 parcel misses its bound while the conditions of the guarantee hold. -/
def execP0Late (port : Fin 24) (bins : BitVec 16) (s : State) : Host.Outcome State Fault Refusal :=
  answer "P0_LATE" true s fun b =>
    if b.p0Overdue port then
      (b.inc Reg.PT_P0_LATE_COUNT).post 0x0704 3 19 [(1, port.val / 3), (1, port), (2, bins.toNat)]
    else b

/-! ### The last-gasp window (R279, R538) -/

/-- HOLD is entered when every bound triad is in outage and no last-gasp window is open, where the image enables it
(R538). -/
def Block.tryHold (b : Block) : Block :=
  let bound := (List.range 8).filter b.triadBound
  if b.dev == .service && b.on Reg.GLB_CTRL_HOLD_EN && !bound.isEmpty &&
      bound.all (fun t => b.bit Reg.BRG_TRIAD_STAT_OUTAGE t) && (List.range 8).all (fun t => (b.gaspClose t).isNone) then
    b.enterHold else b

/-- LAST_GASP_CLOSE (R279, R281). -/
def execLastGaspClose (t : Fin 8) (s : State) : Host.Outcome State Fault Refusal :=
  answer "LAST_GASP_CLOSE" true s fun b =>
    match b.gaspClose t with
    | none => b
    | some c =>
      if ahead c (b.brg.now + 1) then b
      else
        let m := b.macTriad t
        let b := (b.setGaspClose t none).set (Reg.MAC_TRIAD_GASP t) 0
        let b := b.setMacTriad t { m with gaspNotices := 0, gaspDups := 0 }
        (b.post 0x0703 0 19 [(1, t), (2, m.gaspNotices), (2, m.gaspDups)]).tryHold

/-! ### Rendezvous (R268 to R272) -/

/-- The bearing of a rendezvous of a series. -/
def Block.rdvBearing (b : Block) (x k : Nat) : Bearing :=
  match (b.ext x).rdv with
  | some r => r.v0 + BitVec.ofNat 48 (k * (b.node x).rdvQ * 524288)
  | none => 0

/-- The guard of rendezvous V_k (R269). -/
def Block.guardOf (b : Block) (x k : Nat) : Nat :=
  let d := (b.rdvBearing x k - (b.node x).bLast).toNat
  min 16384 (b.get Reg.MAC_RDV_G_BASE + (d * b.get Reg.MAC_RDV_RATE + 999999) / 1000000)

/-- The choice of a rendezvous frame: the mode and band set its hop last used. -/
def Block.rdvChoice (b : Block) (x : Nat) : AdmitChoice :=
  let m := ((b.ext x).mode).getD (0, 8)
  { triad := Fin.ofNat 8 (b.triadOf x), clear := true, mode := Fin.ofNat 11 m.1, bands := BitVec.ofNat 4 m.2, cross := false
    grant := none, poisoned := false }

/-- Admit one offer for a fixed frame start, at priority-0 standing (R268). An offer that is not admitted waits on without
the fixed start if it carries a parcel, and is gone otherwise. -/
def Block.admitFixed (b : Block) (x : Nat) (p : Plan) (start : Bearing) : Block :=
  let o := { p.offer with start := some start, standing := true }
  let swap (q : Offer) : Offer := if q.num = o.num ∧ p.send.isNone then o else q
  let b := { b with mac := { b.mac with offers := b.mac.offers.map swap } }
  let b := b.admitFirst (b.rdvChoice x) [{ p with offer := o }] []
  let left (q : Offer) : Bool := q.num == o.num && p.send.isNone && q.start.isSome
  let keep (q : Offer) : Option Offer :=
    if left q then (if q.parcels.isEmpty && q.type == typeData then none else some { q with start := none, standing := false })
    else some q
  { b with mac := { b.mac with offers := b.mac.offers.filterMap keep } }

/-- What goes out at a rendezvous with DIR 0: a SYNC that has fallen due, else what waits for the node, else an empty DATA
frame that asks for an ACK (R268, R448). -/
def Block.rdvPlan (b : Block) (x : Nat) : Block × Plan :=
  let short := (b.node x).short
  let waiting := b.mac.offers.filter fun o => o.dst == short
  let first := match waiting.find? fun o => o.type == typeTime with
    | some o => some o
    | none => waiting.head?
  match first with
  | some o => (b, { offer := o, send := none, final := (o.parcels.head?.bind fun p => b.indexOf p.final).or (some x), hop := some x })
  | none =>
    let ready := b.openSends.filterMap fun r => match b.indexOf r.final with
      | some f =>
        let o := b.sendOffer r f
        if o.2 = x && b.reachable f x true then some ({ offer := o.1, send := some r, final := some f, hop := some x } : Plan)
        else none
      | none => none
    match ready.foldl (fun (best : Option Plan) p => match best with
        | none => some p
        | some q => if p.offer.prio < q.offer.prio then some p else some q) none with
    | some p => (b, p)
    | none =>
      let port := (b.hop x false).2
      let o := { controlOffer typeData (port / 3) (some port) short [] with ackReq := true, prio := controlPrio }
      let b := b.offer o
      (b, { offer := { o with num := b.mac.nextNum - 1, entered := b.brg.now }, send := none, final := some x, hop := some x })

/-- A WAKE for a rendezvous (R271): it names the rendezvous after it. -/
def Block.sendWake (b : Block) (x k : Nat) (start : Bearing) : Block :=
  let port := (b.hop x false).2
  let o := { controlOffer typeWake (port / 3) (some port) (b.node x).short
    (toLe 4 (superframeOf start) ++ toLe 6 (b.rdvBearing x (k + 1)).toNat) with lastBands := b.permitted port }
  let b := b.offer o
  b.admitFixed x { offer := { o with num := b.mac.nextNum - 1, entered := b.brg.now }, send := none, final := some x, hop := some x }
    start

/-- The bearing at which the device sends to a sleeping node next (R268, R271): its rendezvous, or for a desynchronised one that
of the WAKE; none where the node sends. -/
def Block.wakeBearing (b : Block) (x : Nat) : Option Bearing :=
  match (b.ext x).rdv with
  | none => none
  | some r =>
    if r.wakes.isSome then some (b.rdvBearing x r.k - 32768)
    else if (b.node x).rdvDir then none else some (b.rdvBearing x r.k)

/-- The device's wake action (R268, R271): a frame to the node with sample 0 at a bearing, a WAKE to a desynchronised one. -/
def Block.wake (b : Block) (x : Nat) (start : Bearing) : Block :=
  let out := b.mac.txs.any fun y => y.offer.dst == (b.node x).short
  match (b.ext x).rdv with
  | none => b
  | some r =>
    if b.dev != .service || !b.home || (b.node x).state != 2 || out then b
    else if r.wakes.isSome then b.sendWake x r.k start
    else
      let p := b.rdvPlan x
      p.1.admitFixed x p.2 start

/-- RENDEZVOUS (R268, R271): at most a cycle and at least 12 µs before its bearing (R41) the device admits its frame to a
sleeping node; where the node sends, the device only listens. -/
def Block.rendezvous (b : Block) (x : Nat) : Block :=
  match b.wakeBearing x with
  | some start => if (start - b.brg.now).toNat < 65536 && !b.tooLate start then b.wake x start else b
  | none => b

/-- A rendezvous that a re-seat has passed fires late (R113): its frame starts at the first bin boundary 12 µs on. -/
def Block.rendezvousLate (b : Block) (x : Nat) : Block := b.wake x (nextBin (b.brg.now + BitVec.ofNat 48 (b.nsToBu 12000)))

/-- RENDEZVOUS (R268). -/
def execRendezvous (node : NodeIx) (s : State) : Host.Outcome State Fault Refusal :=
  answer "RENDEZVOUS" true s fun b => b.rendezvous node.toNat

/-- The series moves on to its next rendezvous. -/
def Block.nextRdv (b : Block) (x : Nat) (wakes : Option Nat) : Block :=
  match (b.ext x).rdv with
  | none => b
  | some r =>
    let b := b.modExt x fun e => { e with rdv := some { r with k := r.k + 1, wakes := wakes } }
    b.modNode x fun n => { n with vnext := b.rdvBearing x (r.k + 1) }

/-- The series of a node ends (R272): its supervision timer restarts from 0 (R266). -/
def Block.endSeries (b : Block) (x : Nat) : Block :=
  let b := b.modExt x fun e => { e with rdv := none, supvFrom := b.superframe }
  b.modNode x fun n => { n with rdvQ := 0 }

/-- RENDEZVOUS_MISSED (R270 to R272): with the guard at its cap the pair is desynchronised; after two WAKEs without an
acknowledgement the series ends. -/
def Block.rdvMissed (b : Block) (x : Nat) : Block :=
  match (b.ext x).rdv with
  | none => b
  | some r =>
    let v := b.rdvBearing x r.k
    let waits := b.mac.txs.any fun y => y.offer.dst == (b.node x).short
    if !b.home || waits || ahead v b.brg.now then b
    else match r.wakes with
      | some w =>
        if 1 ≤ w then
          ((b.endSeries x).inc Reg.MAC_DESYNC_COUNT).post 0x0702 2 19 [(3, x), (3, (b.node x).short)]
        else b.nextRdv x (some (w + 1))
      | none => b.nextRdv x (if b.guardOf x r.k = 16384 then some 0 else none)

/-- RENDEZVOUS_MISSED (R270). -/
def execRendezvousMissed (node : NodeIx) (s : State) : Host.Outcome State Fault Refusal :=
  answer "RENDEZVOUS_MISSED" true s fun b => b.rdvMissed node.toNat

/-- A frame of the pair has been acknowledged (R269, R271): B_LAST takes its frame start; a series whose rendezvous is
at hand moves on. -/
def Block.rdvKept (b : Block) (x : Nat) (start : Bearing) : Block :=
  let b := b.modNode x fun n => { n with bLast := start &&& 0xFFFFFFFFFFF0 }
  match (b.ext x).rdv with
  | none => b
  | some r => if ahead (b.rdvBearing x r.k - 65536) b.brg.now then b else b.nextRdv x none

end Sys2Proof.Machine
end

