-- ==== Sys2Proof/Machine/Reseat.lean ====
section
/-!
DEFINITION. The forward re-seat of Bearing (R110 to R114): what the skipped span holds is dropped, aborted or fires late in
bearing order, and the row that applies or abandons a decided one.
-/

namespace Sys2Proof.Machine

/-! ### The skipped span (R112, R113) -/

/-- The scheduled events of R113 that a re-seat may pass. -/
inductive Skipped where
  | alarm (k : Nat)
  | pulse (j : Nat)
  | rendezvous (node : Nat)
deriving DecidableEq, Repr

/-- Insert by distance, keeping the order of equals. -/
def insertByKey {α : Type} (x : Nat × α) : List (Nat × α) → List (Nat × α)
  | [] => [x]
  | y :: rest => if x.1 < y.1 then x :: y :: rest else y :: insertByKey x rest

/-- The alarms, pulses and rendezvous whose bearings lie in the skipped span, in bearing order. -/
def Block.skippedEvents (b : Block) (old : Bearing) (step : Nat) : List (Nat × Skipped) :=
  let dist (x : Bearing) : Nat := (x - old).toNat
  let alarms := (List.range 4).filterMap fun k =>
    let d := dist (b.alarmTarget k)
    if b.on (Reg.BRG_AL_HI_ARM k) && 0 < d && d < step then some (d, Skipped.alarm k) else none
  let pulses := (List.range 8).filterMap fun j =>
    let d := dist (BitVec.ofNat 48 (b.tpTarget j))
    if b.on (Reg.DTM_TP_CTRL_ENABLE j) && b.get (Reg.DTM_TP_CTRL_REF j) == 2 && 0 < d && d < step then
      some (d, Skipped.pulse j) else none
  let wakes := (b.trv.nodes.map (·.1)).filterMap fun x => match b.wakeBearing x with
    | some v => if 0 < dist v && dist v < step then some (dist v, Skipped.rendezvous x) else none
    | none => none
  (alarms ++ pulses ++ wakes).foldl (fun acc x => insertByKey x acc) []

/-- The Cairns whose bearings lie in the skipped span are not sent (R113, R282). -/
def Block.cairnsPassed (b : Block) (old : Bearing) (step : Nat) : Block :=
  [superframeOf old, superframeOf (old + BitVec.ofNat 48 step)].dedup.foldl (fun b n =>
    let d := (b.cairnStart n - old).toNat
    if 0 < d ∧ d < step then (List.range 8).foldl (fun b t => b.passCairns t n) b else b) b

/-- Abort what is armed for a bearing inside the skipped span (R81, R113). -/
def Block.abortSkipped (b : Block) (old : Bearing) (step : Nat) : Block :=
  let inside (x : Bearing) : Bool := 0 < (x - old).toNat && (x - old).toNat < step
  let b := match b.img.armed with
    | some a => if inside a.bearing then b.abortSwapAll 4 else b
    | none => b
  match b.chain.op with
  | some o => if inside o.bearing then b.abortOpAll 4 else b
  | none => b

/-! ### The step (R110, R111) -/

/-- A re-seat by a forward step (R110 to R114). -/
def Block.applyReseat (b : Block) (step : Nat) : Block :=
  let old := b.brg.now
  let new := old + BitVec.ofNat 48 step
  let busy := (List.range 128).filter fun l => (b.lane l).current.isSome
  let b := busy.foldl (fun b l => b.dropReception l) b
  let b := { b with brg := { b.brg with
    now := new
    inputs := b.brg.inputs.map fun (p : Nat × SenseIn) => (p.1, { p.2 with
      lastQual := p.2.lastQual.map fun (q : Nat × Bearing) => (q.1, q.2 + BitVec.ofNat 48 step) }) } }
  let b := b.setBearing Reg.BRG_SKIP_FROM_LO_BRG Reg.BRG_SKIP_FROM_HI_BRG old
  let b := b.setBearing Reg.BRG_SKIP_TO_LO_BRG Reg.BRG_SKIP_TO_HI_BRG new
  let b := (b.inc Reg.BRG_RESEAT_COUNT_COUNT).add Reg.BRG_RESEAT_DROPS_COUNT busy.length
  let b := (b.post 0x0303 2 0x40 [(6, step), (2, busy.length)]).restartNoise.discoverAll
  let b := (b.cyclePassed old).abortSkipped old step
  let b := b.cairnsPassed old step
  (b.skippedEvents old step).foldl (fun b x => match x.2 with
    | .alarm k => b.alarmSkipped k
    | .rendezvous node => b.rendezvousLate node
    | .pulse j => b.tpSkipped j (targetsPassed x.1 (b.get (Reg.DTM_TP_PERIOD_PERIOD j)) 0 step)) b

/-- Whether a transmission is in progress on some port: one of the Plane Table, counted from its admission (DEDUCED, log
entry 163: R113 says that none can lie in the skipped span), or a frame driven for the partner (R479). -/
def Block.transmitting (b : Block) : Bool := b.mac.txs.any Tx.holds || !b.chain.drives.isEmpty

/-- RESEAT (R111): at the first edge with no transmission in progress, the error is taken again, and the re-seat is
applied or abandoned; a follower's error is the one its last SYNC gave (R471). One abandoned into a slew makes no RELOCK_SLEW
record (DESIGN CHOICE, log entry 164: R111 names none). -/
def Block.reseat (b : Block) : Block :=
  if !b.on Reg.BRG_STATUS_RESEAT_PENDING || b.transmitting then b
  else
    let b := b.set Reg.BRG_STATUS_RESEAT_PENDING 0
    if b.brg.state = .follow then
      let step := (b.brg.err / 65536).toNat
      if 64 ≤ step then { b.applyReseat step with brg := { (b.applyReseat step).brg with err := 0 } } else b
    else
      let e := b.mainsError
      let b := b.measure b.steerInput
      if 8192 < e.natAbs then (b.applyReseat (if 0 < e then e.toNat else (65536 + e).toNat)).lockNow 0
      else b.startSlew e

/-- RESEAT (R111). -/
def execReseat (s : State) : Host.Outcome State Fault Refusal := answer "RESEAT" true s fun b => b.reseat

end Sys2Proof.Machine
end

