-- ==== Sys2Proof/Machine/Hear.lean ====
section
/-!
DEFINITION. What the receive lanes do as a frame comes in (R35 steps 4 to 6): the stamp of the sync point, the band set and
the FCH (R165 to R169), the positions of a received frame's symbols (R198 to R200), the joint-detection units of a
cross-phase reception (R27, R28), the frames discarded after their FCH (R202), the end of a reception (R131).
-/

namespace Sys2Proof.Machine

/-! ### The FCH (R166, R168, R169) -/

/-- The lowest sub-band of a band set. -/
def lowestBand (bands : Nat) : Nat := (bandsOf bands).headD 4

/-- Whether the check value of 56 FCH bits passes for a band set (R168). -/
def fchPasses (bits bands : Nat) : Bool := fchWithCrc ((lsbBits 56 bits).take 40) bands == lsbBits 56 bits

/-- Whether a frame type consists of its FCH alone (R243): CAIRN_C, DISC, GASP. -/
def fchOnly (type : Nat) : Bool := type == typeCairnC || type == typeDisc || type == 15

/-- Whether a PHY mode is one of R180; contour maps take 16 to 63. -/
def modeKnown (m : Nat) : Bool := m ≤ 10 || 16 ≤ m

/-- Whether an FCH is one: its check value passes, its reserved bits are 0, its MODE is not reserved (R168). -/
def fchOk (bits bands : Nat) : Bool :=
  fchPasses bits bands && bitsAt bits 38 2 == 0 && (fchOnly (bits % 16) || modeKnown (bitsAt bits 14 6))

/-- Symbols after the preamble until the whole FCH has come in: R157; of a DEEP-64 frame, until the fourth copy of its last
slot has (R188, R190). -/
def fchSpan (deep : Bool) (bands : Nat) : Nat :=
  if deep then
    let last := fchBlocks (dataCount (indicesOf bands).length) - 1
    320 * (last / 5) + 16 * (16 + last % 5)
  else fchSymbols bands

/-- The tick of a reception's sync point. -/
def Reception.syncTick (r : Reception) : Nat := r.startTick + (r.syncs - 3) * 64000

/-- The Gweol reception in progress on a lane, with its binding. -/
def Block.gweolNow (b : Block) (l : Nat) : Option (Binding × Reception) :=
  match (b.lane l).binding, (b.lane l).current with
  | some x, some r => if x.g3 then none else some (x, r)
  | _, _ => none

/-- Whether two receptions may be of one frame (R166): the same symbol ends their preambles, their sync points agree within
±2 samples. -/
def Reception.agrees (r s : Reception) : Bool :=
  r.deep == s.deep && r.syncTick ≤ s.syncTick + 250 && s.syncTick ≤ r.syncTick + 250

/-- The lanes of a port on which a frame may be heard beside a lane of its own, whose FCH is not yet known. -/
def Block.alike (b : Block) (n : Nat) (r : Reception) : List (Nat × Nat) :=
  (b.receiving n).filterMap fun l => match b.gweolNow l with
    | some (x, s) => if s.synced && s.frame.isNone && r.agrees s then some (l, x.sb) else none
    | none => none

/-- The band set that a receiver forms (R166). -/
def Block.bandSet (b : Block) (n : Nat) (r : Reception) : Nat :=
  (b.alike n r).foldl (fun acc p => acc ||| 2 ^ p.2) 0

/-! ### Where a received frame's symbols lie (R198 to R200) -/

/-- The other result that a test of a span against the windows would have, moved by up to 32 bu either way, if it is marginal
(R200). -/
def marginalOther (ws : List (Nat × Nat)) (skip : Option Nat) (a e : Nat) : Option (Option (Nat × Nat)) :=
  if ws.isEmpty then none
  else ((List.range 33).flatMap fun d => [firstMet ws skip (a + d) (e + d), firstMet ws skip (a - d) (e - d)]).find? fun x =>
    x != firstMet ws skip a e

/-- The start at which a receiver finds a symbol that lies at or after sample u: as R198 predicts it, and where that rests on
a marginal test, for the result whose start has the stronger peak (R200). -/
def heardStart (a0 fq : Nat) (ws : List (Nat × Nat)) (other : Bool) : Nat → Option Nat → Nat → Nat
  | 0, _, u => u
  | fuel + 1, skip, u =>
    let at' (x : Nat) : Nat := 65536 + a0 + x * fq / 2000000
    let met := firstMet ws skip (at' u) (at' (u + 576) + 16)
    let second := if other then marginalOther ws skip (at' u) (at' (u + 576) + 16) else none
    match second.getD met with
    | some (i, e) =>
      heardStart a0 fq ws (other && second.isNone) fuel (some i) (u + ((e - at' u) * 2000000 + fq - 1) / fq)
    | none => u

/-- The starts of the symbols of a received frame from sample u on, each with the shift of its peak, which lies within ±512 bu
of the prediction (R199) or is not found. -/
def heardStarts (a0 fq : Nat) (ws : List (Nat × Nat)) : Nat → List SymbolPeak → Nat → List (Nat × Int)
  | 0, _, _ => []
  | n + 1, peaks, u =>
    let p := peaks.headD { other := false, shift := 0 }
    let s := heardStart a0 fq ws p.other 32 none u
    (s, if p.shift.natAbs * fq ≤ 512 * 2000000 then p.shift else 0) :: heardStarts a0 fq ws n (peaks.drop 1) (s + 576)

/-- The triad reference angle of a bearing (R104). -/
def Block.angleAt (b : Block) (t : Nat) (x : Bearing) : Nat :=
  (angleOf x + 65536 - b.get (Reg.BRG_PHOFS_OFS (3 * t)) % 65536) % 65536

/-- Windows of a notch pattern of a triad at a bearing (R197). -/
def Block.patternWindows (b : Block) (t id : Nat) (x : Bearing) : List (Nat × Nat) :=
  (((b.notchSetAt t x).patterns.find? fun p => p.id == id).map (·.windows)).getD []

/-- The node that a grant names as the sender of a frame which starts at a bearing (R257). -/
def Block.grantedNode (b : Block) (t bands : Nat) (x : Bearing) : Option Nat :=
  (b.mac.grants.find? fun g =>
    let s := binStart g.superframe g.start
    g.triad == t && bands &&& g.bands == bands && (x - s).toNat < 512 * g.len).map (·.node)

/-! ### A frame whose FCH has passed -/

/-- The frame that an FCH describes (R168, R198): its payload mode, with the map that a grant's node and MODE name (R256,
R267), and where its symbols lie. The sender's offset is the granted node's; of a contender, which is not known before its MAC
header, the one this frame shows (DESIGN CHOICE, log entry 175). -/
def Block.frameOf (b : Block) (l : Nat) (x : Binding) (r : Reception) (bands bits : Nat) : RxFch :=
  let t := x.port / 3
  let stamp := bitsAt bits 26 12
  let sample0 := r.bearing - BitVec.ofNat 48 (512 * (r.syncs + 1) * r.freq / 2000000)
  let node := b.grantedNode t bands sample0
  let mode := bitsAt bits 14 6
  let map := if mode < 16 then [] else
    ((node.bind fun y => (b.ext y).ulMaps.find? fun m => m.index + 16 == mode).map (·.bytes)).getD []
  let only := fchOnly (bits % 16)
  let phy : PhyMode := { mode := if only then 0 else mode, bands := bands, map := map, streams := if only then 0 else bitsAt bits 20 2 }
  let phi := (node.map fun y => (b.node y).phi).getD ((16 * stamp + 65536 - b.angleAt t sample0) % 65536)
  let first := preambleSamples r.syncs + (if r.deep then 0 else 576 * fchSymbols bands)
  let starts := if only then [] else
    heardStarts (frameAngle stamp phi) r.freq (b.patternWindows t (bitsAt bits 22 4) sample0) (symbolsAfterHead phy (bitsAt bits 4 10))
      r.peaks first
  let samples := match starts.getLast? with
    | some p => p.1 + 576
    | none => first
  { bits := bits, lead := l, node := node, phy := phy, sample0 := sample0
    last := sample0 + BitVec.ofNat 48 (samples * r.freq / 2000000), samples := samples, starts := starts, units := [] }

/-- Whether a frame stands after its FCH: GASP and DEEP-64 are as R169 and R187 say, its type is not reserved (R243), a
contour map is known and has the frame's band set (R182), one short codeword fits (R179). A frame of MODE 3 ends its preamble
with SYNCD (R187). -/
def RxFch.stands (f : RxFch) (deep : Bool) : Bool :=
  let type := f.bits % 16
  let p := f.phy
  type != 14 && (type != 15 || ((p.bands == 1 || p.bands == 8) && bitsAt f.bits 24 2 == 0)) &&
    (if deep then !fchOnly type && p.mode == 3 && p.streams == 0 && bitsAt f.bits 22 4 == 0 else p.mode != 3) &&
    (fchOnly type || ((p.mode < 16 || (!p.map.isEmpty && mapBands p.map == p.bands)) &&
      sentBits p.rate 24 ≤ p.capacity (bitsAt f.bits 4 10)))

/-- Whether all three ports of a triad have a Gweol lane bound in every sub-band of a band set (R28). -/
def Block.triadHears (b : Block) (t bands : Nat) : Bool :=
  (triadPorts t).all fun n => (bandsOf bands).all fun s => (b.lanesOf n).any fun l => match (b.lane l).binding with
    | some x => !x.g3 && x.sb == s && !(b.lane l).retired
    | none => false

/-- The cross-phase frame that the triad's units already receive, of which this is another port's share: its lane. -/
def Block.jointLead (b : Block) (n : Nat) (r : Reception) (bits : Nat) : Option Nat :=
  (((triadPorts (n / 3)).filter (· != n)).flatMap b.receiving).findSome? fun l => match b.gweolNow l with
    | some (_, s) => match s.frame with
      | some f => if !f.units.isEmpty && f.bits == bits && r.agrees s then some f.lead else none
      | none => none
    | none => none

/-- The joint-detection units of a cross-phase frame (R27, R28): the share of another port joins the frame; otherwise the
triad's units are taken if they are usable and free. Without them one stream is still received on its port; more are not. -/
def Block.jointUnits (b : Block) (n : Nat) (r : Reception) (f : RxFch) : Option RxFch :=
  if f.phy.streams = 0 then some f
  else match b.jointLead n r f.bits with
    | some l => some { f with lead := l }
    | none =>
      let units := unitsOfTriad (n / 3) f.phy.bands
      if b.triadHears (n / 3) f.phy.bands && !units.any b.busyUnits.contains then some { f with units := units }
      else if f.phy.streams = 1 then some f else none

/-- A decoded FCH makes its sub-bands busy to its frame's end and 1,024 bu on (R202, R254); spans long past are forgotten. -/
def Block.markBusy (b : Block) (x : BusySpan) : Block :=
  { b with pool := { b.pool with busy := x :: b.pool.busy.filter fun y => !ahead b.brg.now (y.last + 65536) } }

/-- An FCH has passed on the frame's lane: every lane of the frame receives it, or the frame is discarded (R202). In a
last-gasp window only GASP frames are accepted (R279). -/
def Block.fchGiven (b : Block) (l : Nat) (x : Binding) (r : Reception) (bands bits : Nat) : Block :=
  let f := b.frameOf l x r bands bits
  let lanes := ((b.alike x.port r).filter fun p => bands.testBit p.2).map (·.1)
  let shut : Bool := (b.gaspClose (x.port / 3)).isSome && bits % 16 != 15
  let b := b.markBusy { triad := x.port / 3, bands := bands, last := f.last + 1024 }
  match (if f.stands r.deep && !shut then b.jointUnits x.port r f else none) with
  | some f => lanes.foldl (fun b k => match (b.lane k).reception with
      | some s => b.setReception k (some { s with frame := some f })
      | none => b) b
  | none => lanes.foldl (fun b k => b.dropReception k) b

/-! ### The tick -/

/-- The sync point (R35, R165): the last sample of SYNCM or SYNCD is stamped in Datum A, Datum B and Bearing. -/
def Block.stampSync (b : Block) (l : Nat) (r : Reception) : Block :=
  b.setReception l (some { r with synced := true, bearing := b.brg.now, stampA := b.dtm.a.t, stampB := b.dtm.b.t })

/-- The verdict on an FCH (R166, R168): the lane of the lowest sub-band of the set that was formed tries the band sets in the
order in which its decoder gives them, and takes the first that passes once all of its FCH has come in. Where none passes
there is no frame (R202). -/
def Block.judgeFch (b : Block) (l : Nat) (x : Binding) (r : Reception) : Block :=
  let set := b.bandSet x.port r
  let ends (bands : Nat) : Nat := (preambleSamples r.syncs + 576 * fchSpan r.deep bands) * 125
  if lowestBand set ≠ x.sb then b
  else match r.fch.find? fun p => p.1 &&& set == p.1 && lowestBand p.1 == x.sb && fchOk p.2 p.1 with
    | some (bands, bits) => if b.frameTicks r < ends bands then b else b.fchGiven l x r bands bits
    | none => if b.frameTicks r < ((r.fch.map fun p => ends p.1).foldl max (ends set)) then b else b.dropReception l

/-- One tick of a lane: its sync point, its FCH, the end of its frame's last symbol (R131). -/
def Block.tickLane (b : Block) (l : Nat) : Block :=
  match b.gweolNow l with
  | none => b
  | some (x, r) =>
    if !r.synced then (if b.frameTicks r < preambleSamples r.syncs * 125 then b else b.stampSync l r)
    else match r.frame with
      | none => b.judgeFch l x r
      | some f => if b.frameTicks r < f.samples * 125 then b else b.setReception l (some { r with ended := true })

/-- One tick of the receive lanes. -/
def Block.tickLanes (b : Block) : Block := b.pool.lanes.foldl (fun b p => b.tickLane p.1) b

end Sys2Proof.Machine
end

