-- ==== Sys2Proof/Machine/Rx.lean ====
section
/-!
DEFINITION. Received Gweol frames (R35, R244, R264): the checks every frame passes, what the device learns of a node from
any of its frames (R266, R318 to R321), the device's ACK (R258), and received parcels (R35 to R37, R315, R396 to R399).
-/

namespace Sys2Proof.Machine

/-! ### Receptions -/

/-- What is known of a frame whose last symbol has ended: the port, sub-band and reception of the frame's lane, the frame that
its FCH gave, its MAC bytes, whether no gain step fell inside an FFT window of any of its symbols (R205). -/
structure Heard where
  port : Nat
  sb : Nat
  reception : Reception
  frame : RxFch
  mac : List Byte
  clean : Bool
deriving DecidableEq, Repr

/-- The triad of a reception. -/
def Heard.triad (h : Heard) : Nat := h.port / 3

/-- The superframe of the sync point. -/
def Heard.superframe (h : Heard) : Nat := superframeOf h.reception.bearing

/-- TYPE, STAMP and NOTCH of the FCH (R168). -/
def Heard.type (h : Heard) : Nat := h.frame.bits % 16
def Heard.stamp (h : Heard) : Nat := bitsAt h.frame.bits 26 12
def Heard.notch (h : Heard) : Nat := bitsAt h.frame.bits 22 4

/-- The MAC bytes of a frame (R172, R173): the information bits that the decoders give, as many as the frame holds (R179),
descrambled from its STAMP. -/
def RxFch.macBytes (f : RxFch) (info : List Bool) : List Byte :=
  let k := infoCapacity f.phy.rate (f.phy.capacity (bitsAt f.bits 4 10))
  packBits (List.zipWith Bool.xor (info.take k) (scramblerBits k (scramblerSeed (bitsAt f.bits 26 12))))

/-- The lanes of a port that a frame was received on. -/
def Block.lanesOfFrame (b : Block) (n : Nat) (f : RxFch) : List Nat :=
  (b.lanesOf n).filter fun l => ((b.lane l).reception.bind fun r => r.frame) == some f

/-- The frame that has come in on a lane, if it is the frame's lane (R167) and its last symbol has ended. -/
def Block.heardOn (b : Block) (l : Nat) (info : List Bool) : Option Heard :=
  match (b.lane l).binding, (b.lane l).reception with
  | some x, some y => match y.frame with
    | some f =>
      if b.dev == .service && !x.g3 && y.ended && f.lead == l then
        some { port := x.port, sb := x.sb, reception := y, frame := f, mac := f.macBytes info
               clean := (b.lanesOfFrame x.port f).all fun k => ((b.lane k).reception.map (·.halved)).getD [] == [] }
      else none
    | none => none
  | _, _ => none

/-- A frame has been taken from the lanes that it was received on (R167). -/
def Block.endReception (b : Block) (h : Heard) : Block :=
  (b.lanesOfFrame h.port h.frame).foldl (fun b l => b.dropReception l) b

/-- A frame of a type that carries a MAC frame, up to R264: it is taken from its lanes; it is discarded where its triad's
last-gasp window is open (R279), HCRC, NET, a reserved bit or DST does not pass (R244), or EVC does not (R264). -/
def Block.receive (b : Block) (type : Nat) (r : RxFrame) : Block × Option (Heard × MacHeader) :=
  match b.heardOn r.lane r.info with
  | none => (b, none)
  | some h =>
    if h.type ≠ type then (b, none)
    else
      let b := b.endReception h
      let m := MacHeader.ofBytes h.mac
      if (b.gaspClose h.triad).isSome then (b, none)
      else if !headerOk h.mac then (b.inc Reg.MAC_HCRC_REJ_COUNT, none)
      else if m.net ≠ b.get Reg.MAC_NET_NET_ID ∨ !headerReserved h.mac ∨ (m.dst ≠ addrDevice ∧ m.dst ≠ addrBroadcast) then
        (b, none)
      else if m.evc ≠ h.superframe % 65536 ∧ m.evc ≠ (h.superframe + 65535) % 65536 then (b.inc Reg.MAC_EVC_REJ_COUNT, none)
      else (b, some (h, m))

/-! ### Phase (R318 to R321) -/

/-- The estimate Ω of a frame received directly (R318). -/
def Block.omegaOf (b : Block) (t stamp : Nat) (sample0 : Bearing) : Nat :=
  let phi := (16 * stamp + 8 + 65536 - b.angleAt t sample0) % 65536
  (b.get (Reg.BRG_PHOFS_OFS (3 * t)) + 65536 - phi) % 65536

/-- PH_EST of a history, oldest first (R319). -/
def phaseEstimate (omegas : List Nat) : Nat :=
  match omegas with
  | [] => 0
  | o :: _ =>
    let diffs := omegas.map fun (x : Nat) => reduceAngle ((x : Int) - o)
    unsignedOf 16 ((o : Int) + diffs.sum / (omegas.length : Int))

/-- PH_CODE, PHASE, PH_TRIAD of an estimate for a node whose route leads to triad u (R320). -/
def Block.classify (b : Block) (u est : Nat) : Nat × Nat × Nat :=
  let e (m : Nat) : Nat := (reduceAngle ((est : Int) - b.get (Reg.BRG_PHOFS_OFS m))).natAbs
  let hits := (List.range 24).filter fun m => b.on (Reg.BRG_PHOFS_VALID m) && e m ≤ 1820
  let best (ms : List Nat) : Option Nat := ms.foldl (fun acc m => match acc with
    | none => some m
    | some k => if e m < e k then some m else some k) none
  match best (hits.filter fun m => m / 3 == u), best hits with
  | some m, _ => (1, m - 3 * u, u)
  | none, some m => (2, 3, m / 3)
  | none, none => (3, 3, u)

/-- A new estimate of a node's offset (R318 to R321). Three independent estimates of the history that lie far from PH_EST
restart it. A PHASE_MOVE is told once the restarted history gives a class. -/
def Block.addOmega (b : Block) (x omega : Nat) (o : ObsFrom) : Block :=
  let e := b.ext x
  let n := b.node x
  let far : Bool := 4 ≤ e.omegas.length && 1820 < (reduceAngle ((omega : Int) - n.phEst)).natAbs
  let moves := (if far then [(o, omega)] else []) ++ e.moves
  let moves := moves.take 3
  let kept := (e.omegas ++ [omega]).drop (e.omegas.length + 1 - 16)
  let moves := moves.filter fun p => kept.contains p.2
  let restart : Bool := far && moves.length == 3 && independent 4 (moves.map (·.1))
  let omegas := if restart then (moves.map (·.2)).reverse else kept
  let b := b.modExt x fun e => { e with omegas := omegas, moves := if restart then [] else moves }
  let est := phaseEstimate omegas
  let c : Nat × Nat × Nat := if omegas.length < 4 then (0, 3, 0) else b.classify (b.triadOf x) est
  let b := b.modNode x fun n => { n with phEst := est, phCode := c.1, phase := c.2.1, phTriad := c.2.2 }
  if restart ∧ (c.2.1 ≠ n.phase ∨ c.2.2 ≠ n.phTriad) then
    b.post 0x0806 2 20 [(3, x), (1, n.phase), (1, n.phTriad), (1, c.2.1), (1, c.2.2)]
  else b

/-! ### What any frame of a node brings -/

/-- The entry of an associated node that sends a frame. -/
def Block.sender (b : Block) (m : MacHeader) : Option Nat :=
  match b.indexOf m.src with
  | some x => if (b.node x).state = 2 then some x else none
  | none => none

/-- Any frame of a node that is received directly tells when and on which port it was heard, and of its phase (R290, R318). A
node that is heard is reachable (log entry 50). -/
def Block.noteHeard (b : Block) (x : Nat) (h : Heard) : Block :=
  let b := b.modNode x fun n => { n with lastSf := b.superframe % 2 ^ 29, rxPort := h.port, unreachable := false }
  b.addOmega x (b.omegaOf h.triad h.stamp h.frame.sample0) (b.origin h.reception.bearing x)

/-- A frame with a MAC header moves its node's supervision and SEQ besides (R266, R290). -/
def Block.noteFrame (b : Block) (x : Nat) (h : Heard) (m : MacHeader) : Block :=
  let b := b.modExt x fun e => { e with supvFrom := b.superframe }
  (b.modNode x fun n => { n with rxSeq := m.seq }).noteHeard x h

/-- Sounding observes a sound frame (R205); the extended state that follows it goes to the partner. -/
def Block.soundFrame (b : Block) (x : Nat) (h : Heard) (r : RxFrame) : Block :=
  if !h.clean then b
  else
    let old := if b.replicates then b.extBytes x else []
    let b := b.observeFrame x h.port (b.node x).short (b.streamLimit x) h.frame.phy.bands h.reception.xband
      (h.frame.phy.mode == 3) h.reception.bearing r.obs
    if b.replicates then b.replicate replExt x old (b.extBytes x) else b

/-- COEFFICIENT_APPLY (R49): what becomes active on a node's channel goes to the partner with its extended state (R322). -/
def execCoefficientApply (t : ApplyTarget) (s : State) : Host.Outcome State Fault Refusal :=
  answer "COEFFICIENT_APPLY" true s fun b =>
    let nodes := ((b.sound.coefs.filter fun p => p.1 / 2 ^ 26 == 4 && b.inTarget t p.1 && p.2.pending.isSome).map
      fun p => p.1 % 2 ^ 26 / 252).dedup
    let old := nodes.map fun x => (x, b.extBytes x)
    let b := b.applyTarget t
    if b.replicates then old.foldl (fun b o => b.replicate replExt o.1 o.2 (b.extBytes o.1)) b else b

/-! ### The device's ACK (R258, R259, R274) -/

/-- B_LAST of a received frame (R269). -/
def lastStart (stamp : Nat) (sync : Bearing) : Bearing :=
  let cycle := cycleOf sync - (if angleOf sync < 16 * stamp then 1 else 0)
  BitVec.ofNat 48 (cycle * 65536 + 16 * stamp)

/-- The device acknowledges a frame: its ACK is admitted at once, with no PMASK bit set yet, or is not sent (R50, R111, R242,
R274, R279). It takes the frame's band set, its notch pattern where that is clear to it, and its mode (R258). Its start lies at
least `lead` ns ahead (R41, R484). Answers the ACK's number. -/
def Block.sendAck (b : Block) (x : Nat) (h : Heard) (m : MacHeader) (lead : Nat := 12000) : Block × Option Nat :=
  let ports := b.framePorts (some x) h.port false
  if !m.ackReq || m.dst ≠ addrDevice || b.held h.triad || ports.isEmpty then (b, none)
  else
    let t := h.triad
    let base := h.frame.last + 1024
    let shapeAt (y : Bearing) : FrameShape :=
      { phy := ackMode h.frame.phy, extended := false, notch := h.notch
        windows := b.patternWindows t h.notch y, phi := b.phiFor t y, start := y }
    -- the contents in force at the frame start, which may lie in the next superframe (R197)
    match (b.clearStart (shapeAt base) false 64 base).bind fun y => b.clearStart (shapeAt y) false 64 y with
    | none => (b, none)
    | some start =>
      let shape := shapeAt start
      let seq := (b.node x).txSeq
      let head : MacHeader := { net := m.net, dst := m.src, src := addrDevice, seq := seq, ackReq := false, grant := false
                                more := false, prio := controlPrio, nparc := 0, evc := superframeOf start % 65536 }
      let mac := ackBytes head m.seq 0 (b.macTriad t).inForce.version
      let o : Offer := { controlOffer typeAck t (some h.port) m.src [] with num := b.mac.nextNum, entered := b.brg.now, attempts := 1 }
      match b.txOf o ports shape seq none mac with
      | none => (b, none)
      | some y =>
        if !ahead start (b.brg.now + BitVec.ofNat 48 (b.nsToBu lead)) || !b.resourcesFree t y false ||
            b.meetsSlot t y.bands y.start y.last ||
            !(b.budgetShort ports y.bands y.micros true).isEmpty || !b.thermalOk ports y.carriers y.loss y.atten false then
          (b, none)
        else
          let b := { b with mac := { b.mac with nextNum := b.mac.nextNum + 1 } }
          let b := (b.modNode x fun n => { n with txSeq := (n.txSeq + 1) % 256 }).putTx y
          (b.rdvKept x (lastStart h.stamp h.reception.bearing), some o.num)

/-! ### Received parcels -/

/-- The receive header of R365. -/
def rxHeader (plen prio : Nat) (secured : Bool) (port sb depth orig pseq : Nat) (sync : Bearing) : List Byte :=
  toLe 2 (plen % 2048 + prio % 8 * 2 ^ 11 + bitOf secured * 2 ^ 14) ++ toLe 1 (port % 32 + sb % 4 * 32) ++ toLe 1 (depth % 16) ++
    toLe 3 orig ++ [0] ++ toLe 2 pseq ++ toLe 6 sync.toNat

/-- The receive queue of a function: the lowest PARCEL queue of its own with PROD 19 that no other use names (DESIGN CHOICE,
log entry 51: the spec names none). -/
def Block.receiveQueue (b : Block) (fn : Nat) : Option Nat :=
  let g3 := (List.range 24).filter b.g3Bound
  (b.owned fn).find? fun q => b.qKind q == 3 && b.get (Reg.QD_CFG_PROD q) == 19 && q != b.get Reg.MAC_GASP_QUEUE &&
    !g3.any fun n => b.get (Reg.LP_G3_Q_RXQ n) == q

/-- How one parcel record fares (R36, R315, R396 to R399), before anything is delivered. -/
inductive ParcelFate where
  /-- CRC-32C fails (R36). -/
  | badCrc
  /-- No key allows it (R399). -/
  | unkeyed
  /-- Its counter was seen before (R397). -/
  | replay
  /-- Its tag fails. -/
  | badTag (gen : Nat) (plain : List Byte)
  /-- It passes; with SEC 1 under this generation. -/
  | good (gen : Nat) (plain : List Byte)
deriving DecidableEq, Repr

/-- Whether a parcel's context state lets it in with its SEC bit (R399): with LINK_REQUIRED at 0, SEC 0 stands for a
context that is not OPEN. A parcel in transit needs both contexts. -/
def Block.keyed (b : Block) (h : ParcelHeader) (orig : Nat) (final : Option Nat) : Bool :=
  let up := b.linkOpen orig true
  let down := match final with
    | some f => b.linkOpen f false
    | none => true
  if b.on Reg.CX_CTRL_LINK_REQUIRED then h.sec && up && down else h.sec == up

/-- The fate of a parcel record from entry `orig`, for entry `final` or the device. -/
def Block.fateOf (b : Block) (rec' : List Byte) (orig final : Option Nat) : ParcelFate :=
  let h := ParcelHeader.ofBytes (slice rec' 0 16)
  let body := slice rec' 16 h.plen
  if !recordOk' rec' then .badCrc
  else match orig with
    | none => .unkeyed
    | some x =>
      if !b.keyed h x final then .unkeyed
      else if !h.sec then .good 0 body
      else
        let c := b.ctx linkPage (linkCtx x true)
        let gen := parcelGen c.gen h.gen
        if !c.accepts gen h.fctr then .replay
        else
          let key := b.linkKey c.long gen true
          let plain := gcmText key (linkIv c.long h.fctr) body
          if slice rec' (16 + h.plen) 12 = linkTag key c.long h.fctr (b.get Reg.MAC_NET_NET_ID) (slice rec' 0 16) body then
            .good gen plain else .badTag gen plain

/-- The codewords of a frame that hold `n` of its MAC bytes from `o` on (R179). -/
def RxFch.codewordsOf (f : RxFch) (o n : Nat) : List Nat :=
  let k := infoBits f.phy.rate 48
  let long := (packing f.phy.rate (f.phy.capacity (bitsAt f.bits 4 10))).1
  (List.range (long + 1)).filter fun i => k * i < 8 * (o + n) && (i == long || 8 * o < k * (i + 1))

/-- CHECK_SUSPECT (R420): every codeword that holds a parcel was decoded without a correction and beyond doubt, and its CRC-32C
fails. The self-test of the channel that checks parcels (R416) is brought forward; a fallback unit has none. -/
def Block.checkSuspect (b : Block) (hd : Heard) (r : RxFrame) (o n : Nat) : Block :=
  let clean (i : Nat) : Bool := match r.decodes[i]? with
    | some d => d.1 == 0 && b.get Reg.CV_SUSPECT_CTRL_THR ≤ d.2
    | none => false
  if (hd.frame.codewordsOf o n).all clean then
    let ch := b.get Reg.CV_ROLE_PARCEL_CH
    let b := b.inc Reg.CV_SUSPECT_CNT_COUNT
    if b.bit Reg.CV_STAT_RETIRED ch then b
    else { b with cx := { b.cx with broughtForward := (ch :: b.cx.broughtForward).dedup } }
  else b

/-- The PMASK bit of a parcel, where an ACK is on its way. -/
def Block.passParcel (b : Block) (ack : Option Nat) (i : Nat) : Block := match ack with
  | some num => b.ackParcel num i
  | none => b

/-- A parcel in transit waits for its next hop, with its link security removed (R37). -/
def Block.relayParcel (b : Block) (f : Nat) (p : Produce) : Block :=
  if (b.node f).state ≠ 2 then b
  else
    let hop := b.hop f false
    let q : OutParcel := { send := none, queue := 0, body := p.bytes, prio := p.prio, orig := p.orig, final := (b.node f).short
                           pseq := p.pseq, stamp := false, acked := false }
    b.offer { controlOffer typeData (hop.2 / 3) (some hop.2) (b.node hop.1).short [] with
      prio := p.prio, ackReq := true, parcels := [q] }

/-- The parcels in transit whose tag has passed leave for their next hops. -/
def Block.drainRelays (b : Block) : Block :=
  let rs := b.cx.relays
  rs.foldl (fun b r => b.relayParcel r.2 r.1) { b with cx := { b.cx with relays := [] } }

/-- A parcel as it goes to a receive queue: the receive header of R365, then its plaintext. -/
def Block.received (b : Block) (y : Nat) (hd : Heard) (h : ParcelHeader) (plain : List Byte) : Produce :=
  { bytes := rxHeader h.plen h.prio h.sec hd.port hd.sb (b.node y).depth h.orig h.pseq hd.reception.bearing ++ plain
    prio := h.prio, prov := h.sec, orig := h.orig, pseq := h.pseq, producer := 19 }

/-- What becomes of a parcel that no receive queue takes. -/
def linkUse (h : ParcelHeader) (final : Option Nat) : LinkUse :=
  if h.final = addrDevice then .dropped else (final.map LinkUse.relay).getD .unknown

/-- A parcel under link security comes to the cipher (R35, R396 to R399): into the receive queue of its node's function under a
tag check, or, in transit or seen before, into an engine alone. -/
def Block.openParcel (b : Block) (x y : Nat) (hd : Heard) (ack : Option (Nat × Nat)) (h : ParcelHeader) (final : Option Nat)
    (gen : Nat) (plain : List Byte) (tagOk : Bool) : Block :=
  let dup := (b.ext x).seen.contains (h.orig, h.pseq)
  let w : LinkWork := { parcel := b.received y hd h plain, ctx := linkCtx y true, gen := gen, fctr := h.fctr, hop := x, short := 0
                        ack := ack, port := hd.port, sync := hd.reception.bearing, stampA := hd.reception.stampA
                        stampB := hd.reception.stampB }
  match b.receiveQueue (b.node y).owner, h.final == addrDevice && !dup with
  | some q, true => b.requestOp h.prio linkPage q (.link w) tagOk
  | _, _ => (b.requestOp h.prio linkPage 0 (.pass { w with parcel := { w.parcel with bytes := plain } } (linkUse h final))
      tagOk).drainRelays

/-- A parcel without link security that passes (R35, R315): delivered, or on its way. -/
def Block.plainParcel (b : Block) (x y : Nat) (hd : Heard) (ack : Option Nat) (i : Nat) (h : ParcelHeader) (final : Option Nat)
    (plain : List Byte) : Block :=
  if (b.ext x).seen.contains (h.orig, h.pseq) then (b.passParcel ack i).inc Reg.TRV_DUP_COUNT
  else
    let p := b.received y hd h plain
    let b := (b.noteSeen x h.orig h.pseq).passParcel ack i
    if h.final = addrDevice then
      match b.receiveQueue (b.node y).owner with
      | some q => (b.produce q p).receiveStamp hd.port h.orig h.pseq hd.reception.bearing hd.reception.stampA hd.reception.stampB
      | none => b.inc Reg.QF_DROPS_COUNT
    else match final with
      | some f => b.relayParcel f { p with bytes := plain }
      | none => b

/-- One parcel of a DATA frame from hop `x`, at byte `o` of the frame (R35, R315, R396 to R399). Answers whether it is sound in
the sense of R205. -/
def Block.takeParcel (b : Block) (x : Nat) (hd : Heard) (r : RxFrame) (ack : Option Nat) (i o : Nat) (rec' : List Byte) :
    Block × Bool :=
  let h := ParcelHeader.ofBytes (slice rec' 0 16)
  let orig := (b.indexOf h.orig).filter fun y => (b.node y).state == 2
  let final := if h.final = addrDevice then none else b.indexOf h.final
  let y := orig.getD 0
  let c := b.ctx linkPage (linkCtx y true)
  match b.fateOf rec' orig final with
  | .badCrc => (b.checkSuspect hd r o rec'.length, false)
  | .unkeyed => (if b.on Reg.CX_CTRL_LINK_REQUIRED then b.inc Reg.CX_UNKEYED_COUNT else b, !h.sec)
  | .replay =>
    let b := b.inc Reg.CX_REPLAY_COUNT
    (if (b.ext x).seen.contains (h.orig, h.pseq) then (b.passParcel ack i).inc Reg.TRV_DUP_COUNT else b, false)
  | .badTag gen plain => ((b.touchLink c.long gen true).openParcel x y hd none h final gen plain false, false)
  | .good gen plain =>
    let b := b.modNode y fun n => { n with unreachable := false }
    if h.sec then
      ((b.touchLink c.long gen true).openParcel x y hd (ack.map fun num => (num, i)) h final gen plain true, true)
    else (b.plainParcel x y hd ack i h final plain, true)

/-- The parcels of a DATA frame: the device alone sends grants, so that a frame with GRANT set holds none for it. -/
def rxRecords (m : MacHeader) (mac : List Byte) : List (List Byte) :=
  if m.grant then [] else recordsOf m.nparc (mac.drop 14)

/-- One parcel record on a standby (R477): decoded as far as the tag, then held; a parcel seen before is not held again (R315).
Answers whether it has passed. -/
def Block.holdParcel (b : Block) (x : Nat) (hd : Heard) (r : RxFrame) (rec' : List Byte) : Block × Bool :=
  let h := ParcelHeader.ofBytes (slice rec' 0 16)
  let orig := (b.indexOf h.orig).filter fun y => (b.node y).state == 2
  match b.fateOf rec' orig none, orig with
  | .good _ plain, some y =>
    let seen := (b.ext x).seen.contains (h.orig, h.pseq)
    let b := b.noteSeen x h.orig h.pseq
    if seen || h.final ≠ addrDevice then (b, true)
    else match b.receiveQueue (b.node y).owner with
      | some q =>
        let p := { b.received y hd h plain with prov := false }
        ({ b with chain := { b.chain with held := b.chain.held ++ [{
          lane := r.lane, port := hd.port, sync := hd.reception.bearing, stampA := hd.reception.stampA
          stampB := hd.reception.stampB, queue := q, parcel := p }] } }, true)
      | none => (b, true)
  | _, _ => (b, false)

/-- A DATA frame on a port of a standby (R477): its parcels are held, and what its ACK would say (R484). -/
def Block.holdParcels (b : Block) (x : Nat) (hd : Heard) (r : RxFrame) (m : MacHeader) (recs : List (List Byte)) : Block :=
  let out := (List.range recs.length).foldl (fun (acc : Block × List Nat) i =>
    let p := acc.1.holdParcel x hd r (recs.getD i [])
    (p.1, if p.2 then acc.2 ++ [i] else acc.2)) (b, [])
  let b := out.1
  if !m.ackReq || m.dst ≠ addrDevice then b
  else { b with chain := { b.chain with heldAcks := b.chain.heldAcks ++ [{
    lane := r.lane, node := x, port := hd.port, sb := hd.sb, reception := hd.reception, frame := hd.frame, mac := hd.mac
    passed := out.2 }] } }

/-- The master tells its partner that a frame of a paired port has been delivered (R477). -/
def Block.sendRxdone (b : Block) (r : RxFrame) (hd : Heard) : Block :=
  if b.chain.role == .master && b.on (Reg.LP_CTRL_PAIRED hd.port) then
    match b.partner with
    | some p => b.sendCell kindRxdone p false (toLe 1 r.lane.val ++ toLe 6 hd.reception.bearing.toNat)
    | none => b
  else b

/-- A DATA frame (R35). -/
def Block.dataFrame (b : Block) (r : RxFrame) : Block :=
  match b.receive typeData r with
  | (b, none) => b
  | (b, some (hd, m)) =>
    match b.sender m with
    | none => b
    | some x =>
      let recs := rxRecords m hd.mac
      if b.standsBy hd.port then b.holdParcels x hd r m recs
      else if !b.home then b
      else
        let b := b.noteFrame x hd m
        let a := b.sendAck x hd m
        let out := (List.range recs.length).foldl (fun (acc : Block × Bool) i =>
          let p := acc.1.takeParcel x hd r a.2 i (14 + (recs.take i).flatten.length) (recs.getD i [])
          (p.1, acc.2 && p.2)) (a.1, recs.length == m.nparc)
        let b := if out.2 then out.1.soundFrame x hd r else out.1
        (b.refreshLink x).sendRxdone r hd

/-- DATA_RECEIVED (R35). -/
def execDataReceived (r : RxFrame) (s : State) : Host.Outcome State Fault Refusal :=
  answer "DATA_RECEIVED" true s fun b => b.dataFrame r

/-- A frame with a body, other than DATA, from an associated node (R245): its FCS passes, it is acknowledged if it asks, its
node's bookkeeping follows. `type`: its FCH type; `n`: bytes of its body, which its MAC bytes may tell. -/
def Block.nodeFrame (b : Block) (type : Nat) (r : RxFrame) (n : List Byte → Nat) (f : Block → Nat → Heard → MacHeader → Block) :
    Block :=
  match b.receive type r with
  | (b, none) => b
  | (b, some (hd, m)) =>
    match b.sender m with
    | none => b
    | some x =>
      if !fcsOk hd.mac (n hd.mac) || b.standsBy hd.port || !b.home then b
      else
        let b := b.noteFrame x hd m
        let a := b.sendAck x hd m
        f (a.1.soundFrame x hd r) x hd m

/-- The body of a frame. -/
def Heard.body (h : Heard) (n : Nat) : List Byte := slice h.mac 14 n

end Sys2Proof.Machine
end

