-- ==== Sys2Proof/Machine/Clock.lean ====
section
/-!
DEFINITION. The tick of the 250 MHz time clock (R464, log entry 1): what every block does as time passes, and what the Plane
Table does at its own instants (R41, R255).
-/

namespace Sys2Proof.Machine

/-- A last-gasp window, a quiet window or a re-seat decision touches a triad (R278). -/
def Block.noteTouched (b : Block) (t : Nat) : Block :=
  if b.held t || (triadPorts t).any fun n => b.portBound n && b.quietBlocks n b.brg.now then
    b.setMacTriad t { b.macTriad t with touched := some b.brg.now }
  else b

/-- The priority-0 parcels of a triad that another has been ahead of since they entered (R278), by their entries. -/
def Block.noteBehind (b : Block) (t : Nat) : Block :=
  let entries := (b.urgents.filter fun u => u.port / 3 == t).map (·.entered)
  let was := (b.macTriad t).behind
  let now := entries.filter fun e => was.contains e || entries.any fun x => x != e && ahead e x
  if now = was then b else b.setMacTriad t { b.macTriad t with behind := now }

/-- What the Plane Table does as time passes: frames placed at a bearing and Cairns are admitted 12 µs ahead (R41), and at each
bin boundary the backoffs count (R255). -/
def Block.tickPlane (b : Block) (old : Bearing) : Block :=
  if b.dev != .service || !b.running then b
  else
    let b := (b.mac.txs.filter fun x => x.stage == .placed).foldl (fun b x => b.admitPlaced x.offer.num) b
    let b := (List.range 8).foldl (fun b t => b.admitCairns t) b
    let b := (List.range 8).foldl (fun b t => (b.noteTouched t).noteBehind t) b
    if old.toNat / 512 = b.brg.now.toNat / 512 then b else (List.range 8).foldl (fun b t => b.countBackoffs t) b

/-- One tick of the 250 MHz time clock: Bearing and Datum advance, an input that falls silent shows no crossings, the line
drivers keep their timing, the lanes follow what they hear, parcels in transit leave, the Plane Table keeps its calendar. -/
def Block.tick (b : Block) : Block :=
  let old := b.brg.now
  let b := { b with ticks := b.ticks + 1 }
  (b.tickBearing.tickDatum.dropSilent.tickDrivers.tickLanes.drainRelays).tickPlane old

end Sys2Proof.Machine
end

