-- ==== Sys2Proof/Machine/Arq.lean ====
section
/-!
DEFINITION. Acknowledgement and retransmission (R258, R259, R262, R312 to R317): ACKs received and missing, and what the
ACK of each frame type brings about.
-/

namespace Sys2Proof.Machine

/-! ### Hops and parcels -/

/-- A transmission is done with. -/
def Block.dropTx (b : Block) (num : Nat) : Block :=
  { b with mac := { b.mac with txs := b.mac.txs.filter fun x => x.offer.num != num } }

/-- A frame's first attempt on a hop succeeds or fails (R294). -/
def Block.noteHit (b : Block) (y : Nat) (attempts : Nat) (ok : Bool) : Block :=
  if attempts ≠ 1 then b
  else (b.modExt y fun e => { e with hits := (ok :: e.hits).take 16 }).refreshLink y

/-- A parcel on a hop ends: the SEND that owes its completion completes (R363). -/
def Block.endParcel (b : Block) (p : OutParcel) (status attempts bearing : Nat) : Block :=
  match p.send with
  | none => b
  | some c =>
    let result := sendResult p.pseq attempts bearing
    match b.strata.sends.find? fun r => r.taken && r.cmd == c with
    | some r => b.completeSend r status result
    | none => b.complete c status result

/-- An attempt failed: the frame waits for admission again, with the parcels still owed (R312). A frame for a sleeping node
waits for the next rendezvous. -/
def Block.retry (b : Block) (o : Offer) (parcels : List OutParcel) : Block :=
  ({ b with mac := { b.mac with offers :=
      b.mac.offers ++ [{ o with parcels := parcels, start := none, standing := false, waiting := none }] } }).refreshP0

/-- The alternate of a failed hop: the entry and port of the other route of FINAL, where that avoids the hop (R316). -/
def Block.alternateFor (b : Block) (o : Offer) (p : OutParcel) : Option (Nat × Nat) :=
  match b.indexOf p.final with
  | some f =>
    let h := b.hop f true
    if o.alternate || (b.route f).altFirst == addrBroadcast || ((b.node h.1).short == o.dst && some h.2 == o.port) then none
    else some h
  | none => none

/-- A parcel has exhausted its attempts on a hop (R316): once more by the alternate route, or TIMEOUT. -/
def Block.exhaustParcel (b : Block) (o : Offer) (p : OutParcel) : Block :=
  let b := b.inc Reg.TRV_ARQ_FAIL_COUNT
  match b.alternateFor o p with
  | some h =>
    let n := b.mac.nextNum
    ({ b with mac := { b.mac with
        nextNum := n + 1
        offers := b.mac.offers ++ [{ o with num := n, triad := h.2 / 3, port := some h.2, dst := (b.node h.1).short, parcels := [p]
                                            attempts := 0, lastMode := none, lastBands := 0, alternate := true, start := none
                                            standing := false, waiting := none }] } }).refreshP0
  | none => b.endParcel p stTimeout o.attempts 0

/-- Parcels in a row have exhausted a hop (R316): the second makes LINK_FAIL, and of a relay a suspect (R308). -/
def Block.noteExhausted (b : Block) (y k port : Nat) : Block :=
  let n := b.node y
  let fails := min 7 (n.fails + k)
  let b := b.modNode y fun n => { n with fails := fails }
  if n.fails < 2 ∧ 2 ≤ fails then
    let b := (b.modNode y fun n => { n with link := 65535 }).refreshMetrics y
    let b := b.post 0x0808 1 20 [(3, n.short), (1, port)]
    if n.relay then b.orphanSuspect y else b
  else b

/-! ### Joins (R262, R306) -/

/-- The entry a node had been given is free again (R262). -/
def Block.freeEntryOf (b : Block) (x : Nat) : Block :=
  let n := b.node x
  if n.state ≠ 1 then b
  else
    ((((b.revokeNode n.short).dropLinks x).setNode x .free).setExt x .reset).setRoute x .none

/-- A sleeping node at depth 1 is offered a rendezvous series (R268, R307). Its Q and DIR are the Plane Table's choice: free
values (log entry 52). -/
def Block.offerRdv (b : Block) (x : Nat) : Block :=
  let n := b.node x
  if !n.sleeps || n.depth ≠ 1 then b
  else
    let q := 1 + b.free % 65535
    let b := b.draw
    let dir := b.free % 2
    let b := b.draw
    let v0 := binStart (b.superframe + effAhead) (min 1023 (b.get Reg.MAC_CP_CTRL_CP_END_MAX + 1))
    b.controlTo x typeRdv (toLe 2 q ++ toLe 6 v0.toNat ++ toLe 1 dir)

/-- A node is associated (R262): its entry is live, NODE_JOIN is made. -/
def Block.joined (b : Block) (x : Nat) : Block :=
  let n := b.node x
  if n.state ≠ 1 then b
  else
    let b := b.modExt x fun e => { e with join := none, supvFrom := b.superframe }
    let b := b.modNode x fun n => { n with state := 2, lastSf := b.superframe % 2 ^ 29 }
    let b := (b.refreshLink x).refreshRoutes x
    (b.post 0x0801 0 20 [(3, x), (3, n.short), (1, n.depth)]).offerRdv x

/-! ### What the ACK of a frame brings about -/

/-- The ACK of a frame of the down tables is held (R299, R309). -/
def Block.downAcked (b : Block) (num : Nat) : Block :=
  { b with trv := { b.trv with ext := b.trv.ext.map fun p =>
      (p.1, { p.2 with hold := p.2.hold.filter (· != num)
                       change := p.2.change.map fun c => { c with owed := c.owed.filter (· != num) } }) } }

/-- The ACK of a ROUTE frame (R299, R303, R306). -/
def Block.routeAcked (b : Block) (y num : Nat) (body : List Byte) : Block :=
  let short := (b.node y).short
  let dests (size : Nat) : List (List Byte) := (List.range (byteAt body 1)).map fun i => slice body (2 + size * i) size
  match byteAt body 0 with
  | 2 =>
    let new := (dests 6).map fun e => (leAt e 0 3, leAt e 3 3)
    let old := (b.downOf short).filter fun p => !new.any fun q => q.1 == p.1
    (b.setDown short (old ++ new)).downAcked num
  | 3 =>
    let gone := (dests 3).map fun e => leAt e 0 3
    (b.setDown short ((b.downOf short).filter fun p => !gone.contains p.1)).downAcked num
  | 4 =>
    let rc := leAt body 1 2
    let b := b.modExt y fun e => { e with rcPending := none }
    if rc = 0xFFFF then (b.modNode y fun n => { n with relay := false, rcMiss := 0 }).setDown short []
    else b.modNode y fun n => { n with relay := true, rcSlot := rc % 16, rcPhase := rc / 16 % 8, rcBand := rc / 128 % 2, rcMiss := 0 }
  | 9 => match b.indexOf (leAt body 9 3 % 2 ^ 20) with
    | some x => b.joined x
    | none => b
  | _ => b

/-- The ACK of a MAP SET is held (R226, R267): the device may use the generation from EFF on. -/
def Block.mapAcked (b : Block) (y : Nat) (body : List Byte) : Block :=
  let up := byteAt body 1 == 0
  let index := byteAt body 2
  let mark (ms : List MapGen) : List MapGen := ms.map fun m => if m.index = index then { m with acked := true } else m
  let b := b.modExt y fun e => if up then { e with ulMaps := mark e.ulMaps } else { e with dlMaps := mark e.dlMaps }
  let bytes := body.drop 7
  let l := b.link up y
  b.setLink up y { l with
    rate := mapRate bytes, loading := (List.range (112 * mapStreams bytes)).map fun i => mapCode bytes (i / 112) (i % 112)
    generation := byteAt bytes 1, changed := b.superframe }

/-- The ACK of an RDV frame: the series stands (R268). -/
def Block.rdvAcked (b : Block) (y : Nat) (body : List Byte) : Block :=
  let v0 : Bearing := BitVec.ofNat 48 (leAt body 2 6)
  let b := b.modExt y fun e => { e with rdv := some { v0 := v0, k := 0, wakes := none } }
  b.modNode y fun n => { n with rdvQ := leAt body 0 2, rdvDir := byteAt body 8 == 1, vnext := v0 }

/-- The parcels of a DATA frame under its ACK (R247, R312, R316). -/
def Block.parcelsAcked (b : Block) (x : Tx) (y pmask : Nat) (sync : Bearing) : Block :=
  let o := x.offer
  let marked := (List.range o.parcels.length).zip o.parcels
  let passed := (marked.filter fun p => pmask.testBit p.1).map (·.2)
  let left := (marked.filter fun p => !pmask.testBit p.1).map (·.2)
  let b := b.noteHit y o.attempts left.isEmpty
  let b := if left.isEmpty || !passed.isEmpty then b.modNode y fun n => { n with fails := 0 } else b
  let b := passed.foldl (fun b p => b.endParcel p stOK o.attempts sync.toNat) b
  if left.isEmpty then b
  else if o.attempts < 8 then b.retry o left
  else (left.foldl (fun b p => b.exhaustParcel o p) b).noteExhausted y left.length (x.ports.headD 0)

/-- What an ACK brings about on its hop, by the type of the frame. -/
def Block.frameAcked (b : Block) (x : Tx) (y pmask : Nat) (sync : Bearing) : Block :=
  let o := x.offer
  if o.type = typeData then b.parcelsAcked x y pmask sync
  else
    let b := b.noteHit y o.attempts true
    if o.type = typeMap then b.mapAcked y o.body
    else if o.type = typeChmap then
      b.modExt y fun e => { e with chNext := e.chNext.map fun c => (c.1, c.2.1, c.2.2.1, true) }
    else if o.type = typeRdv then b.rdvAcked y o.body
    else if o.type = typeRoute then b.routeAcked y o.num o.body
    else b

/-- Whether an ACK from a node in a triad answers a transmission: it waits, its SEQ and addressee agree, and the ACK ends
within 256 bu of its prediction (R259). The node of an ASSOC_RESP answers under its new address (R262). -/
def Tx.answeredBy (x : Tx) (t src seq : Nat) (last : Bearing) : Bool :=
  x.stage == .awaitingAck && x.ports.any (fun n => n / 3 == t) && x.seq == seq && (x.ackEnd - last).toNat ≤ 512 &&
    (x.offer.dst == src || (x.offer.type == typeAssocResp && leAt x.offer.body 8 3 == src))

/-- An ACK (R258, R259). -/
def Block.ackFrame (b : Block) (r : RxFrame) : Block :=
  match b.receive typeAck r with
  | (b, none) => b
  | (b, some (hd, m)) =>
    match b.indexOf m.src with
    | none => b
    | some y =>
      if !fcsOk hd.mac 4 || b.standsBy hd.port || !b.home then b
      else
        let known := (b.node y).state == 2
        let note (b : Block) : Block := if known then
          ((b.noteFrame y hd m).modNode y fun n => { n with nverAck := byteAt hd.mac 17 }).soundFrame y hd r else b
        match b.mac.txs.find? fun x => x.answeredBy hd.triad m.src (byteAt hd.mac 14) hd.frame.last with
        | none => note b
        | some x =>
          if x.offer.type = typeAssocResp then
            (((b.dropTx x.offer.num).joined y).noteFrame y hd m).modNode y fun n => { n with nverAck := byteAt hd.mac 17 }
          else if !known then b
          else
            let b := ((b.dropTx x.offer.num).rdvKept y x.start)
            (note b).frameAcked x y (leAt hd.mac 15 2) hd.reception.bearing

/-- ACK_RECEIVED (R259). -/
def execAckReceived (r : RxFrame) (s : State) : Host.Outcome State Fault Refusal :=
  answer "ACK_RECEIVED" true s fun b => b.ackFrame r

/-! ### ACKs that are missing -/

/-- A frame without parcels has used up its attempts. -/
def Block.giveUp (b : Block) (o : Offer) : Block :=
  if o.type = typeAssocResp then
    (match b.indexOf (leAt o.body 8 3 % 2 ^ 20) with
     | some x => b.freeEntryOf x
     | none => b)
  else if o.type = typeRoute then
    (match byteAt o.body 0, b.indexOf o.dst with
     | 4, some y => b.modExt y fun e => { e with rcPending := none }
     | 9, _ => match b.indexOf (leAt o.body 9 3 % 2 ^ 20) with
       | some x => b.freeEntryOf x
       | none => b
     | _, _ => b)
  else b

/-- Attempts a frame has: 8 (R312), and 4 of an ASSOC_RESP (R262). -/
def attemptsOf (type : Nat) : Nat := if type = typeAssocResp then 4 else 8

/-- The ACK of a transmission is missing (R259, R312, R316). A WAKE and the empty frame of a rendezvous are not repeated:
the next rendezvous sends anew (R270, R271). -/
def Block.ackMissing (b : Block) (num : Nat) : Block :=
  match b.tx num with
  | none => b
  | some x =>
    if x.stage ≠ .awaitingAck ∨ ahead x.ackEnd b.brg.now then b
    else
      let o := x.offer
      let b := b.dropTx num
      let hop := b.indexOf o.dst
      let b := match hop with
        | some y => b.noteHit y o.attempts false
        | none => b
      if o.type = typeWake ∨ (o.type = typeData ∧ o.parcels.isEmpty) then b
      else if o.attempts < attemptsOf o.type then b.retry o o.parcels
      else if o.type = typeData then
        let b := o.parcels.foldl (fun b p => b.exhaustParcel o p) b
        match hop with
        | some y => b.noteExhausted y o.parcels.length (x.ports.headD 0)
        | none => b
      else b.giveUp o

/-- ACK_MISSING (R259). -/
def execAckMissing (tx : Nat) (s : State) : Host.Outcome State Fault Refusal :=
  answer "ACK_MISSING" true s fun b => b.ackMissing tx

end Sys2Proof.Machine
end

