-- ==== Sys2Proof/Machine/NodeTime.lean ====
section
/-!
DEFINITION. Time for nodes (R447 to R451): round trips, freezing, DELAY_RESP, relay reports, and the commands of R454.
-/

namespace Sys2Proof.Machine

/-- A timestamp of a TIME frame, in 2^-32 ns (R447). -/
def timeAt (bs : List Byte) (o : Nat) : Nat :=
  leAt bs o 6 * secUnits + leAt bs (o + 6) 4 * 2 ^ 32 + leAt bs (o + 10) 2 * 2 ^ 16

/-- The served time at a reception's sync point, in 2^-32 ns (R436, R447). -/
def Block.servedAt (b : Block) (y : Reception) : Int :=
  ((if b.get Reg.DTM_ACTIVE_SEL = 0 then y.stampA else y.stampB : Nat) : Int) - b.dtm.delta

/-- Whether four values lie within a span of their mean (R451). -/
def agreeing (thr : Nat) (xs : List Nat) : Bool :=
  let mean := xs.sum / 4
  xs.length == 4 && xs.all fun v => (max v mean - min v mean) ≤ thr

/-- A measured round trip in ns (R451): collected while there is no reference; against one, a jump freezes the node. -/
def Block.measureTrip (b : Block) (x rtt : Nat) (offset : Int) : Block :=
  let t := (b.ext x).time
  let t := { t with rttLast := rtt % 2 ^ 32, offsetLast := offset, lastSf := b.superframe % 2 ^ 29 }
  if t.refValid then
    let b := b.modExt x fun e => { e with time := t }
    let change : Int := (rtt : Int) - t.rttRef
    if b.get Reg.DTM_TIME_THR_RTT_THR < change.natAbs then b.freezeTime x 0 change else b
  else
    let recent := (rtt :: t.recent).take 4
    if agreeing (b.get Reg.DTM_TIME_THR_AGREE) recent then
      let ref := recent.sum / 4
      let b := b.modExt x fun e => { e with time := { t with rttRef := ref % 2 ^ 32, refValid := true, frozen := false, agree := 4, recent := [] } }
      if t.frozen then b.refreshFrozen.post 0x0C05 0 0x45 [(3, x), (4, ref)] else b
    else b.modExt x fun e => { e with time := { t with recent := recent, agree := recent.length } }

/-- A DELAY_REQ (R448, R449, R451): measured if it echoes the last SYNC sent, and answered with FREEZE as it then stands. -/
def Block.delayReq (b : Block) (x : Nat) (hd : Heard) : Block :=
  let body := hd.body 27
  let t := (b.ext x).time
  if byteAt body 0 ≠ 1 ∨ (b.node x).depth ≠ 1 ∨ !t.syncSent ∨ byteAt body 1 ≠ t.seqT then b
  else
    let t1 : Int := t.t1
    let t2 : Int := timeAt body 3
    let t3 : Int := timeAt body 15
    let t4 := b.servedAt hd.reception
    let ns : Int := (2 ^ 32 : Nat)
    let rtt := (((t4 - t1) - (t3 - t2)) / ns).toNat
    let b := b.measureTrip x rtt (((t2 - t1) - (t4 - t3)) / 2 / ns)
    let t := (b.ext x).time
    b.controlTo x typeTime ([2] ++ toLe 1 t.seqT ++ toLe 1 (bitOf t.frozen) ++ timeBytes t4.toNat ++ toLe 4 (unsignedOf 32 t.corr))

/-- DELAY_REQ_RECEIVED (R451). -/
def execDelayReqReceived (r : RxFrame) (s : State) : Host.Outcome State Fault Refusal :=
  answer "DELAY_REQ_RECEIVED" true s fun b => b.nodeFrame typeTime r (fun _ => 27) fun b x hd _ => b.delayReq x hd

/-- A REPORT from a relay about a child (R451). -/
def Block.timeReport (b : Block) (x : Nat) (hd : Heard) : Block :=
  let body := hd.body 11
  match byteAt body 0, b.indexOf (leAt body 3 3 % 2 ^ 20) with
  | 3, some y =>
    if (b.node y).parent = (b.node x).short then
      (b.modExt y fun e => { e with time := { e.time with asym := true } }).asymSuspect y 2 (signedOf 32 (leAt body 7 4))
    else b
  | _, _ => b

/-- TIME_REPORT_RECEIVED (R451). -/
def execTimeReportReceived (r : RxFrame) (s : State) : Host.Outcome State Fault Refusal :=
  answer "TIME_REPORT_RECEIVED" true s fun b => b.nodeFrame typeTime r (fun _ => 11) fun b x hd _ => b.timeReport x hd

/-- A DTM_TIME_CMD completes; fixed vector 9 follows (R573). -/
def Block.timeDone (b : Block) (status : Nat) : Block := (b.set Reg.DTM_TIME_RESULT_STATUS status).raiseFixed 9

/-- A DTM_TIME_CMD (R454): STATE_REJECT for an entry that is not ASSOCIATED at depth 1, or on a REPLICA table (R322). -/
def Block.timeCmd (b : Block) (f : TimeRec → TimeRec) : Block :=
  let x := b.get Reg.DTM_TIME_NODE_INDEX
  let ok := b.home && (b.node x).state == 2 && (b.node x).depth == 1
  let b := if ok then b.modExt x fun e => { e with time := f e.time } else b
  b.timeDone (if ok then stOK else stStateReject)

/-- CLEAR_ASYM (R454). -/
def Block.clearAsym (b : Block) : Block := b.timeCmd fun t => { t with asym := false }

/-- SET_CORR (R454). -/
def Block.setCorr (b : Block) : Block :=
  b.timeCmd fun t => { t with corr := signedOf 32 (b.get Reg.DTM_TIME_ARG_CORR) }

/-- REMEASURE (R454): clears REF_VALID without freezing. -/
def Block.remeasure (b : Block) : Block := b.timeCmd fun t => { t with refValid := false, agree := 0, recent := [] }

/-- CLEAR_ASYM (R454). -/
def execClearAsym (s : State) : Host.Outcome State Fault Refusal :=
  answer "CLEAR_ASYM" true s fun b => b.byPf Block.clearAsym

/-- SET_CORR (R454). -/
def execSetCorr (s : State) : Host.Outcome State Fault Refusal :=
  answer "SET_CORR" true s fun b => b.byPf Block.setCorr

/-- REMEASURE (R454). -/
def execRemeasure (s : State) : Host.Outcome State Fault Refusal :=
  answer "REMEASURE" true s fun b => b.byPf Block.remeasure

end Sys2Proof.Machine
end

