-- ==== Sys2Proof/Machine/G3.lean ====
section
/-!
DEFINITION. The G3-PLC profile (09_g3_profile.md): channel access and ARQ (R332 to R334), the neighbour table (R335),
security (R336, R337), parcels (R338).
-/

namespace Sys2Proof.Machine

/-! ### The neighbour table (R335) -/

/-- The neighbour with a short address. -/
def G3Port.find (g : G3Port) (short : Nat) : Option G3Neigh := g.neigh.find? fun x => x.short == short

/-- Use a neighbour: it is entered where it is new, in the place of the least recently used of 1,024. -/
def G3Port.use (g : G3Port) (now short : Nat) : G3Port :=
  let uses := g.uses + 1
  match g.find short with
  | some _ => { g with uses := uses, neigh := g.neigh.map fun x => if x.short = short then { x with used := uses } else x }
  | none =>
    let oldest := (g.neigh.map (·.used)).foldl min uses
    let kept := if g.neigh.length < 1024 then g.neigh else g.neigh.filter fun x => x.used != oldest
    { g with uses := uses
             neigh := kept ++ [{ short := short, toneMap := [], modulation := 0, gain := 0, fctr := none, mapAt := now, used := uses }] }

/-- A frame to a neighbour uses its entry, if it has one. -/
def G3Port.touch (g : G3Port) (short : Nat) : G3Port := if (g.find short).isSome then g.use 0 short else g

/-- A control frame waits to be sent, once. -/
def G3Port.ask (g : G3Port) (short : Nat) (job : G3Job) : G3Port :=
  if g.control.contains (short, job) then g else { g with control := g.control ++ [(short, job)] }

/-- TONE_MAP_EXPIRY (R335): a neighbour's tone map is older than LP_G3_TMR.TTL. -/
def Block.toneMapExpiry (b : Block) (n short : Nat) : Block :=
  let g := b.g3Port n
  if !b.g3Bound n || b.dev != .service then b
  else match g.find short with
    | some x =>
      if x.mapAt + b.get (Reg.LP_G3_TMR_TTL n) * 250000000 < b.ticks then b.setG3 n (g.ask short .mapRequest) else b
    | none => b

/-- TONE_MAP_EXPIRY (R335). -/
def execToneMapExpiry (port : Fin 24) (short : BitVec 16) (s : State) : Host.Outcome State Fault Refusal :=
  answer "TONE_MAP_EXPIRY" true s fun b => b.toneMapExpiry port short.toNat

/-! ### Frames to send (R332 to R334) -/

/-- The G3 context of a port's key (R388). -/
def g3Ctx (n k : Nat) : Nat := g3CtxBase + 2 * n + k % 2

/-- Whether a G3 frame of the port is admitted or on the line. -/
def Block.g3Sending (b : Block) (n : Nat) : Bool := (b.portTxs n).any fun x => x.offer.type == typeG3

/-- The SEND of a G3 frame. -/
def Block.g3Send (b : Block) (x : G3Tx) : Option SendRec :=
  match x.send with
  | some c => b.strata.sends.find? fun r => r.cmd == c
  | none => none

/-- The frame in hand is done with; its SEND completes. -/
def Block.g3Done (b : Block) (n status : Nat) : Block :=
  let g := b.g3Port n
  match g.tx with
  | none => b
  | some x =>
    let b := b.setG3 n { g with tx := none }
    match b.g3Send x with
    | some r => if r.taken then b.completeSend r status (sendResult 0 x.tries b.brg.now.toNat)
      else b.endWaitingSend r status (sendResult 0 x.tries 0)
    | none => b

/-- Settle the frame in hand with what has happened meanwhile: a frame that was cut on the air waits for its ACK, or ends in
TIMEOUT where it asked for none (log entry 56); a frame not yet sent goes with its SEND. -/
def Block.g3Settle (b : Block) (n : Nat) : Block :=
  let g := b.g3Port n
  match g.tx with
  | none => b
  | some x =>
    if x.onAir ∧ !b.g3Sending n then
      if x.job = .parcel ∧ (byteAt x.parcel 12).testBit 5 then b.setG3 n { g with tx := some { x with onAir := false, awaitingAck := true } }
      else (b.inc (Reg.LP_G3_TX_FAIL_COUNT n)).g3Done n stTimeout
    else if x.send.isSome ∧ x.tries = 0 ∧ (b.g3Send x).isNone then b.setG3 n { g with tx := none }
    else b

/-- The G3 SEND a port takes next, in stratum order. -/
def Block.g3Next (b : Block) (n : Nat) : Option SendRec :=
  let live := (b.g3Sends n).filter fun r => b.on (Reg.QD_CFG_ENABLE r.queue)
  if b.qPriority (b.get (Reg.LP_G3_Q_TXQ n)) then
    live.foldl (fun best r => match best with
      | some x => if r.prio < x.prio then some r else some x
      | none => some r) none
  else live.head?

/-- Why a G3 parcel is not sent (R338, R390): a reserved modulation, 16-QAM without coherence, no whole header; a key
context that is used up, or closed. -/
def Block.g3Refusal (b : Block) (n : Nat) (body : List Byte) : Option Nat :=
  let mode := byteAt body 12
  let st := (b.ctx linkPage (g3Ctx n (byteAt body 14))).state
  if body.length < 16 || 6 ≤ mode % 8 || (mode % 8 == 4 && !mode.testBit 3) then some stInvalid
  else if !mode.testBit 4 || st == 1 then none
  else if st = 0 then some stStateReject else some stNonceExhausted

/-- A duration in µs for a G3 frame: ITU-T G.9903 fixes it, not this spec (a free value, log entry 56). -/
def Block.g3Micros (b : Block) : Nat := 1 + b.free % 2 ^ 20

/-- A frame comes into hand: a control frame that waits, else the next parcel. -/
def Block.g3Take (b : Block) (n : Nat) : Block :=
  let g := b.g3Port n
  let fresh (job : G3Job) (short : Nat) : G3Tx :=
    { job := job, short := short, parcel := [], send := none, stamp := false, prio := 4, backoffs := 0, tries := 0
      micros := b.g3Micros, onAir := false, awaitingAck := false }
  match g.tx, g.control with
  | some _, _ => b
  | none, c :: rest => (b.setG3 n { g with tx := some (fresh c.2 c.1), control := rest }).draw
  | none, [] =>
    match b.g3Next n with
    | none => b
    | some r =>
      match b.g3Refusal n r.body with
      | some st =>
        let b := if st = stNonceExhausted then b.inc (Reg.CX_NONCE_EXH_COUNT linkPage) else b
        b.endWaitingSend r st (sendResult 0 0 0)
      | none =>
        let x := { fresh .parcel (leAt r.body 8 2) with parcel := r.body, send := some r.cmd, stamp := r.stamp, prio := r.prio }
        (b.setG3 n { g with tx := some x }).draw

/-- A parcel as it goes out: unsecured as it stands; secured, its payload under CCM* and a 32-bit MIC of the port's key, its
nonce and associated data those of ITU-T G.9903 (free values, log entries 37 and 56). -/
def Block.g3Seal (b : Block) (n : Nat) (x : G3Tx) : Block × List Byte :=
  if x.tries ≠ 0 || x.job != .parcel || !(byteAt x.parcel 12).testBit 4 then (b, x.parcel)
  else
    let k := g3Ctx n (byteAt x.parcel 14)
    let c := b.ctx linkPage k
    let key := b.slotKey c.slot
    let nonce := Config.hostNonce true c.long.toNat c.next
    let head := slice x.parcel 0 16
    let plain := x.parcel.drop 16
    (b.useCounter linkPage k, head ++ ccmText key nonce plain ++ ccmMic key nonce head plain)

/-- The transmission of the frame in hand. -/
def Block.g3Frame (b : Block) (n : Nat) (x : G3Tx) (mac : List Byte) : Tx :=
  let band := b.g3Band n
  let start := b.brg.now + BitVec.ofNat 48 (b.nsToBu 12000)
  let last := start + BitVec.ofNat 48 (b.nsToBu (1000 * x.micros))
  let out : OutParcel := { send := x.send, queue := b.get (Reg.LP_G3_Q_TXQ n), body := [], prio := x.prio, orig := addrDevice
                           final := ((b.g3Send x).map (·.final)).getD 0, pseq := 0, stamp := x.stamp, acked := false }
  { offer := { controlOffer typeG3 (n / 3) (some n) x.short [] with
      num := b.mac.nextNum, prio := x.prio, ackReq := false, parcels := if x.job = .parcel then [out] else []
      entered := ((b.g3Send x).map (·.entered)).getD b.brg.now, attempts := x.tries + 1 }
    ports := [n], phy := { mode := 0, bands := band, map := [], streams := 0 }, bands := band, mode := 0, streams := 0, notch := 0
    windows := [], phi := 0, seq := 0, start := start, last := last, ackEnd := last, syncs := 0, weights := [], line := []
    samples := 2 * x.micros, micros := x.micros, atten := b.attenFor [n] start last, zout := [b.zoutFor n band]
    carriers := if band = 1 then 15 else 85, loss := b.lossFor [n], charge := 0, fch := [], mac := mac, coded := [], positions := []
    lostSlice := false, stage := .admitted }

/-- Whether a G3 frame would overlap a protected region of its triad (R333). -/
def Block.g3Barred (b : Block) (t : Nat) (x : Tx) : Bool :=
  let cairn (sf : Nat) : Bool := (bandsOf x.bands).any fun s => b.cairnBand s &&
    spansMeet x.start x.last (binStart sf 0) (binStart sf (b.relayStart (s == 0)) - 1)
  cairn (superframeOf x.start) || cairn (superframeOf x.start + 1) || b.meetsSlot t x.bands x.start x.last ||
    b.meetsGrant t x.bands x.start x.last

/-- The budgets a G3 frame lacks are counted once for its SEND (R275, R284). -/
def Block.g3Defer (b : Block) (x : G3Tx) (short : List (Nat × Nat)) : Block :=
  match b.g3Send x with
  | some r =>
    if r.waiting.isSome then b
    else
      let b := short.foldl (fun b p => b.inc (Reg.PT_BUD_WAITS_COUNT p.1 p.2)) b
      { b with strata := { b.strata with sends := b.strata.sends.map fun q =>
          if q = r then { q with waiting := some b.superframe } else q } }
  | none => b

/-- The frame in hand goes out: sealed at its first attempt, its SEND's parcel taken from the queue. -/
def Block.g3Admit (b : Block) (n : Nat) (x : G3Tx) : Block :=
  let taken := b.g3Send x
  let out := b.g3Seal n x
  let tx := b.g3Frame n x out.2
  let b := out.1
  let b := b.setG3 n { (b.g3Port n).touch x.short with
    tx := some { x with parcel := out.2, tries := x.tries + 1, backoffs := 0, onAir := true, awaitingAck := false } }
  let b := { b with mac := { b.mac with nextNum := b.mac.nextNum + 1 } }
  let b := match taken with
    | some r =>
      let done (q : SendRec) : SendRec := if q = r then { q with taken := true, attempts := x.tries + 1 } else q
      let b := { b with strata := { b.strata with sends := b.strata.sends.map done } }
      if r.taken then b else (b.releaseSends r.queue).refreshP0
    | none => b
  b.putTx tx

/-- The channel is busy at the end of a backoff (R334): after MAX_BACKOFFS of them the frame completes with TIMEOUT. -/
def Block.g3Busy (b : Block) (n : Nat) (x : G3Tx) : Block :=
  if x.backoffs + 1 < b.get (Reg.LP_G3_CSMA_MAX_BACKOFFS n) then
    b.setG3 n { b.g3Port n with tx := some { x with backoffs := x.backoffs + 1 } }
  else (b.inc (Reg.LP_G3_CSMA_FAIL_COUNT n)).g3Done n stTimeout

/-- Whether a Gweol candidate of priority 0 waits for what a G3 frame needs (R52). -/
def Block.g3YieldsP0 (b : Block) (n prio : Nat) : Bool :=
  prio != 0 && (b.plans (n / 3)).any fun p => p.offer.prio == 0 && !p.offer.parcels.isEmpty && p.offer.port == some n

/-- A backoff ends with a frame in hand (R331 to R334, R339, R50). -/
def Block.g3Try (b : Block) (n : Nat) (x : G3Tx) (access : G3Access) : Block :=
  let t := n / 3
  let tx := b.g3Frame n x []
  let p0 := x.prio == 0 && x.job == .parcel
  if b.quietBlocks n tx.last || b.g3Barred t tx || b.g3YieldsP0 n x.prio then b
  else if access = .busy ∨ !b.senseIdle t tx.bands then b.g3Busy n x
  else if b.meetsTx t tx.bands tx.start tx.last || !b.txLanesFree 1 || b.portFull n tx.start tx.last ||
      !b.thermalRoom [n] tx.carriers tx.loss tx.atten p0 then b
  else
    let short := b.budgetShort [n] tx.bands tx.micros p0
    if !short.isEmpty then b.g3Defer x short
    else if x.job = .parcel ∧ x.tries = 0 ∧ (byteAt x.parcel 12).testBit 4 then
      (match (if b.sendAhead x.prio then none else b.seize x.prio) with
       | some (_, b) => b.g3Admit n x
       | none => b.awaitEngine x.prio (8 + n))
    else b.g3Admit n x

/-- G3_TRANSMIT (R334): a backoff of a port ends. Nothing is admitted, and no attempt counted, while the port may not
send. -/
def Block.g3Transmit (b : Block) (n : Nat) (access : G3Access) : Block :=
  if b.dev != .service || !b.running || !b.g3Bound n || !b.on (Reg.LP_CTRL_ENABLE n) || !b.drives n || b.standsBy n ||
      b.held (n / 3) || b.g3Sending n then b
  else
    let b := ((b.g3Settle n).g3Take n).leaveEngines (8 + n)
    match (b.g3Port n).tx with
    | some x => if x.awaitingAck then b else b.g3Try n x access
    | none => b

/-- G3_TRANSMIT (R334). -/
def execG3Transmit (port : Fin 24) (access : G3Access) (s : State) : Host.Outcome State Fault Refusal :=
  answer "G3_TRANSMIT" true s fun b => b.g3Transmit port access

/-- The acknowledgement of a frame does not arrive (R334): it is sent again, at most 1 + MAX_RETRIES times. -/
def Block.g3AckTimeout (b : Block) (n : Nat) : Block :=
  let b := b.g3Settle n
  match (b.g3Port n).tx with
  | some x =>
    if !x.awaitingAck then b
    else if x.tries < 1 + b.get (Reg.LP_G3_CSMA_MAX_RETRIES n) then
      b.setG3 n { b.g3Port n with tx := some { x with awaitingAck := false, backoffs := 0 } }
    else (b.inc (Reg.LP_G3_TX_FAIL_COUNT n)).g3Done n stTimeout
  | none => b

/-- G3_ACK_TIMEOUT (R334). -/
def execG3AckTimeout (port : Fin 24) (s : State) : Host.Outcome State Fault Refusal :=
  answer "G3_ACK_TIMEOUT" true s fun b => b.g3AckTimeout port

/-! ### Received frames (R336 to R338) -/

/-- The 16 bytes before a received payload (R338). -/
def g3Header (f : G3Frame) : List Byte :=
  toLe 8 f.ext.toNat ++ toLe 2 f.short.toNat ++ toLe 2 f.pan.toNat ++
    toLe 1 (f.mode.toNat % 16 + (if f.level.val = 0 then 0 else 16) + 32 * bitOf (f.mode.getLsbD 5)) ++ [f.lqi] ++
    toLe 1 f.keyIndex.val ++ [0]

/-- The parcel of a received frame as it goes to Strata. -/
def g3Parcel (f : G3Frame) : Produce :=
  { bytes := g3Header f ++ f.payload, prio := 4, prov := f.level != 0, orig := f.short.toNat, pseq := 0, producer := 19 }

/-- A received payload goes to LP_G3_Q.RXQ: unsecured at once, secured as PROV under its tag check (R336). -/
def Block.g3Deliver (b : Block) (f : G3Frame) (r : Reception) : Block :=
  let n := f.port.val
  let rxq := b.get (Reg.LP_G3_Q_RXQ n)
  if f.level = 0 then (b.produce rxq (g3Parcel f)).receiveStamp n f.short.toNat 0 r.bearing r.stampA r.stampB
  else
    let k := g3Ctx n f.keyIndex.val
    let w : LinkWork := { parcel := g3Parcel f, ctx := k, gen := (b.ctx linkPage k).gen, fctr := f.counter.toNat, hop := n
                          short := f.short.toNat, ack := none, port := n, sync := r.bearing, stampA := r.stampA, stampB := r.stampB }
    b.requestOp 4 linkPage rxq (.link w) f.micOk

/-- What the kind of a frame brings. -/
def Block.g3Kind (b : Block) (f : G3Frame) (r : Reception) : Block :=
  let n := f.port.val
  let short := f.short.toNat
  match f.kind with
  | .data | .beacon => b.g3Deliver f r
  | .ack =>
    match (b.g3Port n).tx with
    | some x => if x.awaitingAck then b.g3Done n stOK else b
    | none => b
  | .toneMapRequest => b.setG3 n ((b.g3Port n).ask short .mapResponse)
  | .toneMapResponse map modulation gain =>
    let g := b.g3Port n
    let take (x : G3Neigh) : G3Neigh := if x.short = short then
      { x with toneMap := map, modulation := modulation.val, gain := gain.toNat, mapAt := b.ticks } else x
    b.setG3 n { g with neigh := g.neigh.map take }

/-- The counter that discards a secured frame before its tag check (R337): its level, a context without a key, an old
counter. -/
def Block.g3Discards (b : Block) (f : G3Frame) : Option Field :=
  let n := f.port.val
  let st := (b.ctx linkPage (g3Ctx n f.keyIndex.val)).state
  let high := ((b.g3Port n).find f.short.toNat).bind (·.fctr)
  if f.level = 0 then none
  else if f.level ≠ 5 ∨ (st ≠ 1 ∧ st ≠ 2) then some (Reg.LP_G3_MIC_FAIL_COUNT n)
  else if high.any fun h => f.counter.toNat ≤ h then some (Reg.LP_G3_REPLAY_COUNT n)
  else none

/-- A received G3 frame (R337): its reception ends; a standby leaves it to its partner. -/
def Block.g3Received (b : Block) (f : G3Frame) : Block :=
  let n := f.port.val
  let lane := (b.receiving n).find? fun l => match (b.lane l).binding with
    | some x => x.g3
    | none => false
  match lane with
  | none => b
  | some l =>
    match (b.lane l).current with
    | none => b
    | some r =>
      let b := b.dropReception l
      if b.dev != .service || b.standsBy n then b
      else if !f.fcsOk then b.inc (Reg.LP_G3_RX_FCS_COUNT n)
      else
        let b := b.inc (Reg.LP_G3_RX_OK_COUNT n)
        match b.g3Discards f with
        | some c => b.inc c
        | none =>
          let g := (b.g3Port n).use b.ticks f.short.toNat
          let g := if f.kind = .data ∧ f.mode.getLsbD 5 then g.ask f.short.toNat .ack else g
          let g := if f.toneMapRequest then g.ask f.short.toNat .mapResponse else g
          (b.setG3 n g).g3Kind f r

/-- G3_FRAME_RECEIVED (R337). -/
def execG3FrameReceived (f : G3Frame) (s : State) : Host.Outcome State Fault Refusal :=
  answer "G3_FRAME_RECEIVED" true s fun b => b.g3Received f

end Sys2Proof.Machine
end

