-- ==== Sys2Proof/Machine/Faults.lean ====
section
/-!
DEFINITION. Doubts, watchdogs, reset sources, escalation and the fault journal as commands (16_faults_reset.md).
-/

namespace Sys2Proof.Machine

/-! ### Doubts (R536) -/

/-- GLB_QUIET (R536, R556): the PF's QUIET is doubt 0x0D; in QUIET it is rejected. -/
def execGlbQuiet (s : State) : Host.Outcome State Fault Refusal :=
  answer "GLB_QUIET" true s fun b => b.byPf fun b => b.doubt 0x0D

/-- REF_CLOCK_FAULT (R536). -/
def execRefClockFault (s : State) : Host.Outcome State Fault Refusal :=
  answer "REF_CLOCK_FAULT" true s fun b => b.doubt 0x0A

/-- DIE_OVERTEMP (R536). -/
def execDieOvertemp (s : State) : Host.Outcome State Fault Refusal :=
  answer "DIE_OVERTEMP" true s fun b => b.doubt 0x0B

/-- SRAM_ECC_ERROR (R536). -/
def execSramEccError (s : State) : Host.Outcome State Fault Refusal :=
  answer "SRAM_ECC_ERROR" true s fun b => b.doubt 0x09

/-! ### Watchdogs (R547) -/

/-- The states in which the watchdog acts. -/
def Block.wdogActs (b : Block) : Bool :=
  match b.dev with
  | .settle | .service => true
  | _ => false

/-- Ticks of one millisecond. -/
def milliTicks : Nat := 250000

/-- The internal masters whose requests the watchdog watches. -/
def wdogMasters : List Nat := [16, 17, 19, 20, 21, 22, 23]

/-- WDOG_INTERNAL (R547): a WDOG record, and a full reset. -/
def execWdogInternal (master : Fin 32) (s : State) : Host.Outcome State Fault Refusal :=
  answer "WDOG_INTERNAL" true s fun b =>
    if b.wdogActs && wdogMasters.contains master.val then
      (b.post 0x1007 3 0x49 [(1, 0), (1, master.val)]).fullReset 3
    else b

/-- Whether the host's interval runs out: TIMEOUT since the last kick, or since SETTLE began. A timer that has run out
waits for a kick (DEDUCED, log entry 66). -/
def Block.hostLate (b : Block) : Bool :=
  b.wdogActs && b.on Reg.GLB_WDOG_HOST_EN && !b.fault.wdogOut &&
    b.fault.kicked + b.get Reg.GLB_WDOG_TIMEOUT * milliTicks ≤ b.ticks

/-- Expiry of the host watchdog (R547): FLT_PEND.WDOG and a record; with HOST_ACTION a full reset. -/
def Block.wdogHost (b : Block) : Block :=
  let b := { b with fault := { b.fault with wdogOut := true } }
  let b := (b.pend Reg.FLT_PEND_WDOG).post 0x1007 3 0x49 [(1, 1), (1, 0)]
  if b.on Reg.GLB_WDOG_HOST_ACTION then b.fullReset 3 else b

/-- WDOG_HOST (R547). -/
def execWdogHost (s : State) : Host.Outcome State Fault Refusal :=
  answer "WDOG_HOST" true s fun b => if b.hostLate then b.wdogHost else b

/-- A write of GLB_WDOG_KICK (R547, R558): 0xA5 restarts the host timer. -/
def Block.kick (b : Block) : Block := b.startTimer

/-- WDOG_KICK (R547). -/
def execWdogKick (s : State) : Host.Outcome State Fault Refusal :=
  answer "WDOG_KICK" true s fun b => b.byPf Block.kick

/-! ### Escalation (R548) -/

/-- ESCALATION (R548): after QUIET_RESET minutes in QUIET, unless the count has reached 3. -/
def execEscalation (s : State) : Host.Outcome State Fault Refusal :=
  answer "ESCALATION" true s fun b =>
    if b.dev == .quiet && b.on Reg.GLB_CTRL_ESC_EN && b.on Reg.GLB_CTRL_QUIET_RESET &&
        decide (b.fault.since + b.get Reg.GLB_CTRL_QUIET_RESET * minuteTicks ≤ b.ticks) &&
        decide (b.get Reg.GLB_RESET_CAUSE_ESC_COUNT < 3) then
      (b.inc Reg.GLB_RESET_CAUSE_ESC_COUNT).fullReset 5
    else b

/-- ESC_COUNT_CLEAR (R548): after 1 h spent continuously in SERVICE. -/
def execEscCountClear (s : State) : Host.Outcome State Fault Refusal :=
  answer "ESC_COUNT_CLEAR" true s fun b =>
    if b.dev == .service && decide (b.fault.since + 60 * minuteTicks ≤ b.ticks) then
      b.set Reg.GLB_RESET_CAUSE_ESC_COUNT 0
    else b

/-! ### Reset sources (R545) -/

/-- POWER_ON_RESET (R545, R592): a supply of the power-on group is below its operating range. -/
def execPowerOnReset (_rail : Supply) (s : State) : Host.Outcome State Fault Refusal :=
  answer "POWER_ON_RESET" true s fun b => b.fullReset 0

/-- SYSRST (R545). -/
def execSysrst (s : State) : Host.Outcome State Fault Refusal := answer "SYSRST" true s fun b => b.fullReset 1

/-- PERST (R545). -/
def execPerst (s : State) : Host.Outcome State Fault Refusal := answer "PERST" true s fun b => b.fullReset 2

/-! ### The journal (R550 to R554) -/

/-- Whether another 24 h powered have passed since the reset (R551). -/
def Block.dayPassed (b : Block) : Bool := b.dev != .reset && decide ((b.fault.lives + 1) * 1440 ≤ b.fault.minutes)

/-- The KIND 1 entry of a day powered (R551). -/
def Block.dailyEntry (b : Block) : Block :=
  { b with fault := { b.fault with lives := b.fault.lives + 1 } }.lifeEntry

/-- JOURNAL_LIFE_ENTRY (R551): after every 24 h powered. -/
def execJournalLifeEntry (s : State) : Host.Outcome State Fault Refusal :=
  answer "JOURNAL_LIFE_ENTRY" true s fun b => if b.dayPassed then b.dailyEntry else b

/-- JOURNAL_DROP_SUMMARY (R551): one KIND 2 entry that holds the count of the entries dropped, once the limit allows
it. -/
def execJournalDropSummary (s : State) : Host.Outcome State Fault Refusal :=
  answer "JOURNAL_DROP_SUMMARY" true s fun b =>
    let recent := b.fault.recent.filter fun t => b.ticks < t + minuteTicks
    if b.dev == .reset || b.fault.dropPending = 0 || decide (64 ≤ recent.length) then b
    else
      let n := b.fault.dropPending
      let b := { b with fault := { b.fault with dropPending := 0 } }
      b.journalWrite { FbRecord.zero with args := recordArgs [(4, n)] } 2 0 0

/-- The age one minute at a die temperature adds (R554), in units of 2^-64 h. -/
def ageStep (tempC : Int) : Nat :=
  let t := 100 * tempC + 27315
  if t ≤ 0 then 0 else (expFix (812350 * (t - 37315) * (2 ^ 64 : Nat) / (37315 * t)) / 60).toNat

/-- Hours of age at which the life warning is made (R554). -/
def lifeLimit : Nat := 197235

/-- One minute powered (R554): age, powered hours, die temperature. -/
def Block.ageUpdate (b : Block) (tempC : Int) : Block :=
  let before := b.fault.age / 2 ^ 64
  let age := b.fault.age + ageStep tempC
  let b := { b with fault := { b.fault with age := age, minutes := b.fault.minutes + 1, minuteAt := b.fault.minuteAt + minuteTicks } }
  let b := b.setAll [(Reg.FLT_AGE_HOURS, age / 2 ^ 64), (Reg.GLB_TEMP_TEMP, unsignedOf 8 tempC)]
  let b := if b.fault.minutes % 60 = 0 then b.inc Reg.FLT_LIFE_HOURS_HOURS else b
  if before < lifeLimit ∧ lifeLimit ≤ age / 2 ^ 64 then
    (b.pend Reg.FLT_PEND_LIFE).post 0x1008 2 0x49 [(4, age / 2 ^ 64)]
  else b

/-- Whether a minute powered has passed since the last update (R554). -/
def Block.minutePassed (b : Block) : Bool := b.dev != .reset && decide (b.fault.minuteAt + minuteTicks ≤ b.ticks)

/-- AGE_UPDATE (R554). -/
def execAgeUpdate (tempC : Int) (s : State) : Host.Outcome State Fault Refusal :=
  answer "AGE_UPDATE" true s fun b => if b.minutePassed then b.ageUpdate tempC else b

/-- The journal entry at an index. -/
def Block.journalAt (b : Block) (i : Nat) : Option JournalEntry := (b.journal.entries.find? fun p => p.1 == i).map (·.2)

/-- The bytes of an entry as they stand in the flash: erased bytes read 0xFF; of an entry whose CRC fails the spec gives
no content. -/
def Block.journalBytes (b : Block) (i : Nat) : List Byte :=
  match b.journalAt i with
  | none => List.replicate 64 0xFF
  | some e => if e.crcOk then e.toBytes else (List.range 64).map fun k => Config.freeByte ((b.drawn * 16384 + i) * 64 + k)

/-- A write of FLT_JNL_SEL (R559, R560): not applied while BUSY is 1. -/
def Block.journalSelect (b : Block) (i : Nat) : Block :=
  if b.on Reg.FLT_JNL_SEL_BUSY then b else b.setAll [(Reg.FLT_JNL_SEL_INDEX, i), (Reg.FLT_JNL_SEL_BUSY, 1)]

/-- JOURNAL_SELECT (R559). -/
def execJournalSelect (index : BitVec 14) (s : State) : Host.Outcome State Fault Refusal :=
  answer "JOURNAL_SELECT" true s fun b => b.byPf fun b => b.journalSelect index.toNat

/-- JOURNAL_LATCH_DONE (R559): the entry is in FLT_JNL_DATA0–15. -/
def execJournalLatchDone (s : State) : Host.Outcome State Fault Refusal :=
  answer "JOURNAL_LATCH_DONE" true s fun b =>
    if !b.on Reg.FLT_JNL_SEL_BUSY then b
    else
      let bytes := b.journalBytes (b.get Reg.FLT_JNL_SEL_INDEX)
      (b.draw.setAll ((List.range 16).map fun i => (Reg.FLT_JNL_DATA_DATA i, leAt bytes (4 * i) 4))).set
        Reg.FLT_JNL_SEL_BUSY 0

/-- The journal scan of SETTLE (R553): the head is the entry with the highest JSEQ whose CRC passes; BOOT counts the full
resets, so it advances at the first scan after one; hours
and age come from the latest KIND 1 entry. `bad` lists the entries whose CRC fails. -/
def Block.journalScan (b : Block) (bad : List Nat) : Block :=
  let marked := b.journal.entries.map fun p => if bad.contains p.1 then (p.1, { p.2 with crcOk := false }) else p
  let good := marked.filter fun p => p.2.crcOk
  let latest (es : Store JournalEntry) : Option (Nat × JournalEntry) := es.foldl
    (fun acc p => match acc with
      | some q => if q.2.jseq.toNat < p.2.jseq.toNat then some p else some q
      | none => some p) none
  let next : Nat × Word := match latest good with
    | some p => ((p.1 + 1) % 16384, p.2.jseq + 1)
    | none => (0, 0)
  let head := ((latest good).map fun p => p.1 / 1024).getD 0
  let life := latest (good.filter fun p => p.2.kind == 1)
  let hours : Nat := (life.map fun p => p.2.hours.toNat).getD 0
  let age : Nat := (life.map fun p => p.2.age.toNat).getD 0
  let boot := if b.on Reg.FLT_JNL_STAT_OK then b.fault.boot else b.fault.boot + 1
  let most := (b.journal.erases.map (·.2)).foldl max 0
  ({ b with
      journal := { b.journal with entries := marked, next := next.1, jseq := next.2 }
      fault := { b.fault with boot := boot, age := age * 2 ^ 64 } }).setAll
    [(Reg.GLB_RESET_CAUSE_BOOT, boot.toNat), (Reg.FLT_LIFE_HOURS_HOURS, hours), (Reg.FLT_AGE_HOURS, age),
     (Reg.FLT_JNL_STAT_OK, 1), (Reg.FLT_JNL_STAT_HEAD, head), (Reg.FLT_JNL_STAT_ERASES, min most 65535),
     (Reg.FLT_JNL_SEQ_JSEQ, next.2.toNat)]

end Sys2Proof.Machine
end

