-- ==== Sys2Proof/Machine/Hif.lean ====
section
/-!
DEFINITION. The host interface (17_host_interface.md): configuration space, function-level reset, Bus Master Enable,
MSI-X, the PCIe link, the I2C target, and the flash commands.
-/

namespace Sys2Proof.Machine

/-! ### Configuration space (R561 to R566) -/

/-- Pause a conversation at once: no DMA of the function can be under way (R565). -/
def Block.pausedNow (b : Block) (fn : Nat) : Block :=
  (b.setBit Reg.QF_PAUSED_FN fn true).setConv fn { b.conv fn with busy := false }

/-- Bus Master Enable of a function as HIF_FN_STAT shows it. -/
def Block.setBme (b : Block) (fn : Nat) (on : Bool) : Block := b.setBit Reg.HIF_FN_STAT_BME fn on

/-- A change of Bus Master Enable (R565, R574): cleared, the function is paused; set, messages that wait for it go
out. -/
def Block.busMasterEnable (b : Block) (fn : Nat) (on : Bool) : Block :=
  if b.dev == .reset || !b.present fn then b
  else if on then ((b.setBme fn true).releaseVectors fn).drain fn
  else (b.setBme fn false).pausedNow fn

/-- BUS_MASTER_ENABLE (R565). -/
def execBusMasterEnable (fn : Fin 16) (on : Bool) (s : State) : Host.Outcome State Fault Refusal :=
  answer "BUS_MASTER_ENABLE" true s fun b => b.busMasterEnable fn.val on

/-- Every MSI-X table entry of a function masked, no vector pending (R566). -/
def Block.resetMsix (b : Block) (fn : Nat) : Block :=
  let mine (p : Nat × MsixEntry) : Nat × MsixEntry := if p.1 / 256 = fn then (p.1, { p.2 with masked := true }) else p
  let keep (p : Nat × MsixEntry) : Bool := decide (p.2 ≠ MsixEntry.reset)
  { b with host := { b.host with
      msix := (b.host.msix.map mine).filter keep, pba := b.host.pba.filter fun p => p.1 / 256 != fn } }

/-- A function's configuration space at reset values and its conversation paused (R566). -/
def Block.resetConfig (b : Block) (fn : Nat) : Block :=
  (((b.setConfig fn FnConfig.reset).resetMsix fn).setBme fn false).pausedNow fn

/-- Make VFs 1 to `n` present and no others (R564). Of a VF that becomes absent its queues, cipher page and nodes
persist, its configuration space does not (DEDUCED, log entry 65). -/
def Block.setVfs (b : Block) (on : Bool) (n : Nat) : Block :=
  let stays (f : Nat) : Bool := f == 0 || (on && f ≤ n)
  let gone := (List.range 16).filter fun f => b.present f && !stays f
  let b := gone.foldl (fun b f => b.resetConfig f) b
  let b := { b with host := { b.host with vfEnable := on, numVfs := n } }
  b.set Reg.HIF_FN_STAT_PRESENT (if on then 2 ^ (n + 1) - 1 else 1)

/-- A function-level reset (R566): configuration space at reset values, the conversation paused; of the PF, every VF
absent and paused. Descriptors, queues, pages, contexts and nodes stay. -/
def Block.flr (b : Block) (fn : Nat) : Block :=
  if b.dev == .reset || !b.present fn then b
  else
    let b := b.resetConfig fn
    let b := if fn = 0 then b.setVfs false 0 else b
    b.setBit Reg.HIF_FLR_SEEN_FN fn true

/-- FLR (R566). -/
def execFlr (fn : Fin 16) (s : State) : Host.Outcome State Fault Refusal := answer "FLR" true s fun b => b.flr fn.val

/-- What the two words of a 64-bit non-prefetchable memory BAR of a size read after ones are written to them (R563; the coding is
that of PCI, PRESUMED, log entry 198); the BARs beyond read as 0. -/
def sizedBar (size bar : Nat) : Word :=
  match bar with
  | 0 => BitVec.ofNat 32 (2 ^ 32 - size + 4)
  | 1 => 0xFFFFFFFF
  | _ => 0

/-- The answer of a function whose capabilities are read: the SR-IOV capability stands on the PF alone (R563). -/
def Block.answerOfPf (b : Block) (fn : Nat) (w : Word) : Block := b.answerWith (.word (if fn = 0 then w else 0))

/-- A configuration request (R561 to R563): retried in RESET; nothing answers for an absent VF. -/
def Block.configRequest (b : Block) (fn : Nat) (req : CfgRequest) : Block :=
  if b.dev == .reset then b.answerWith .retry
  else if !b.present fn then b.answerWith .unsupported
  else
    let c := b.config fn
    match req with
    | .readIds => b.answerWith (.word (BitVec.ofNat 32 (0x1F8E + 2 ^ 16 * (if fn = 0 then 0x7240 else 0x7241))))
    | .readClass => b.answerWith (.word 0x02800002)
    | .readSubsystem => b.answerWith (.word 0x72401F8E)
    | .readVfCounts => b.answerOfPf fn 0x000F000F
    | .readVfPlacement => b.answerOfPf fn 0x00010001
    | .readPageSizes => b.answerOfPf fn 0x1F
    | .sizeBar bar => b.answerOfPf fn (sizedBar 0x1000000 bar.val)
    | .sizeRom => b.answerWith (.word 0)
    | .sizeVfBar bar => b.answerOfPf fn (sizedBar 0x10000 bar.val)
    | .memorySpace on => (b.setConfig fn { c with mse := on }).answerWith .none
    | .msixEnable on => ((b.setConfig fn { c with msixEnable := on }).releaseVectors fn).answerWith .none
    | .msixFunctionMask on => ((b.setConfig fn { c with fnMask := on }).releaseVectors fn).answerWith .none
    | .vfEnable on n =>
      if fn ≠ 0 then b.answerWith .none else (b.setVfs on n.val).answerWith .none

/-- CONFIG_REQUEST (R562). -/
def execConfigRequest (fn : Fin 16) (req : CfgRequest) (s : State) : Host.Outcome State Fault Refusal :=
  answer "CONFIG_REQUEST" true s fun b => b.configRequest fn.val req

/-- Unmask a vector; its message goes out if its pending bit is set (R574). -/
def Block.msixUnmask (b : Block) (fn v : Nat) : Block :=
  if !b.reaches fn || vectorsOf fn ≤ v then b
  else
    let e := { b.msixEntry fn v with masked := false }
    let b := { b with host := { b.host with
      msix := Store.put (fun _ => MsixEntry.reset) b.host.msix (msixKey fn v) e } }
    b.releaseVector fn v

/-- MSIX_UNMASK (R574). -/
def execMsixUnmask (fn : Fin 16) (vector : Fin 256) (s : State) : Host.Outcome State Fault Refusal :=
  answer "MSIX_UNMASK" true s fun b => b.msixUnmask fn.val vector.val

/-- The link changes state (R544, R585): HIF_LINK shows it; PE_WAKE_N is released in L0. -/
def Block.linkChange (b : Block) (x : LinkState) : Block :=
  let b := b.setAll [(Reg.HIF_LINK_SPEED, x.speed.val), (Reg.HIF_LINK_WIDTH, x.width.val),
    (Reg.HIF_LINK_POWER, x.power.val), (Reg.HIF_LINK_DL_UP, if x.dlUp then 1 else 0)]
  let b := if x.power.val = 0 then { b with host := { b.host with wakeLow := false } } else b
  (List.range 16).foldl (fun b f => b.drain f) b

/-- PCIE_LINK_STATE_CHANGE (R544). -/
def execPcieLinkStateChange (link : LinkState) (s : State) : Host.Outcome State Fault Refusal :=
  answer "PCIE_LINK_STATE_CHANGE" true s fun b => b.linkChange link

/-! ### What a register reads as -/

/-- The word a register holds, with what the device computes at a read: GLB_STATE.STATE, the remaining slew of a Datum
domain, Δ, and the Field Book window (R45, R376, R435, R436). -/
def Block.word (b : Block) (off : Nat) : Word :=
  if off = Reg.GLB_STATE then BitVec.ofNat 32 (setBits (b.rd off).toNat 0 3 b.dev.code)
  else if off = Reg.DTM_SLEW_REM_LO 0 then BitVec.ofNat 32 (b.dtm.a.slewRem / 2 ^ 16)
  else if off = Reg.DTM_SLEW_REM_HI 0 then BitVec.ofNat 32 (b.dtm.a.slewRem / 2 ^ 48)
  else if off = Reg.DTM_SLEW_REM_LO 1 then BitVec.ofNat 32 (b.dtm.b.slewRem / 2 ^ 16)
  else if off = Reg.DTM_SLEW_REM_HI 1 then BitVec.ofNat 32 (b.dtm.b.slewRem / 2 ^ 48)
  else if off = Reg.DTM_ACTIVE_DELTA then BitVec.ofNat 32 (nsField 32 b.dtm.delta)
  else if 0x30000 ≤ off ∧ off < 0x40000 then BitVec.ofNat 32
    (leAt (Store.get (fun _ => FbRecord.zero) b.book ((off - 0x30000) / 32 + 2048 * b.get Reg.FB_WIN_HALF)).toBytes
      (off % 32) 4)
  else b.rd off

/-! ### The I2C target (R575 to R577) -/

/-- The registers the I2C map copies, in order from 0x00_0000. -/
def i2cRegs : List Nat :=
  [Reg.GLB_ID, Reg.GLB_STATE, Reg.GLB_RESET_CAUSE, Reg.GLB_TEMP, Reg.FLT_PEND, Reg.FLT_VIOL_INFO, Reg.FLT_LIFE_HOURS,
   Reg.FLT_AGE, Reg.FLT_SPARES, Reg.FLT_DRAM_RESERVE, Reg.FB_HEAD, Reg.CFG_STATUS, Reg.CFG_ACTIVE_SERIAL,
   Reg.BRG_STATUS, Reg.BRG_FREQ, Reg.CHN_ID, Reg.CHN_STAT, Reg.PT_THERM] ++ (List.range 4).map Reg.LP_BANK_STAT ++
  [Reg.SS_LOOP_STAT 0, Reg.SS_LOOP_STAT 1, Reg.HIF_LINK, Reg.GLB_FROZEN, Reg.CX_TAMPER_STAT]

/-- The word at an aligned offset of the I2C map (R577). -/
def Block.i2cWord (b : Block) (p : Nat) : Word :=
  if p < 0x100 then match i2cRegs[p / 4]? with
    | some off => b.word off
    | none => 0
  else if 0x20000 ≤ p ∧ p < 0x40000 then BitVec.ofNat 32
    (leAt (Store.get (fun _ => FbRecord.zero) b.book ((p - 0x20000) / 32)).toBytes (p % 32) 4)
  else 0xFFFFFFFF

/-- A transaction writes the pointer, most significant byte first; a further byte changes nothing (R576). -/
def Block.i2cPointer (b : Block) (bytes : List Byte) : Block :=
  if bytes.length < 3 then b
  else { b with host := { b.host with i2cPtr := beNat (bytes.take 3), i2cLatch := none, i2cRead := false } }

/-- I2C_POINTER_WRITE (R576). -/
def execI2cPointerWrite (bytes : List Byte) (s : State) : Host.Outcome State Fault Refusal :=
  answer "I2C_POINTER_WRITE" true s fun b => b.i2cPointer bytes

/-- Read one byte and advance the pointer (R576): the first byte of a word latches the word. -/
def Block.i2cRead (b : Block) : Block :=
  let p := b.host.i2cPtr
  let latch := if p % 4 = 0 then some (b.i2cWord p) else b.host.i2cLatch
  let w := latch.getD (b.i2cWord (p - p % 4))
  let b := if b.host.i2cRead then b else b.inc Reg.HIF_I2C_READS_COUNT
  let b := { b with host := { b.host with i2cPtr := (p + 1) % 2 ^ 24, i2cLatch := latch, i2cRead := true } }
  b.answerWith (.bytes [BitVec.ofNat 8 (w.toNat / 256 ^ (p % 4))])

/-- I2C_READ_BYTE (R576). -/
def execI2cReadByte (s : State) : Host.Outcome State Fault Refusal := answer "I2C_READ_BYTE" true s fun b => b.i2cRead

/-! ### The flash commands (R582, R583) -/

/-- Whether a run of flash bytes lies within a region. -/
def rangeIn (a n start len : Nat) : Bool := start ≤ a && a + n ≤ start + len

/-- Whether two runs of flash bytes meet. -/
def meets (a n start len : Nat) : Bool := a < start + len && start < a + n

/-- Bytes of a slot, and of the journal. -/
def slotSize : Nat := 0x400000
def journalSize : Nat := 0x100000

/-- Whether ERASE and PROGRAM may touch a run: sector 0 or a slot, and not the journal (R583). -/
def Block.flashRegionOk (b : Block) (a n : Nat) : Bool :=
  !meets a n b.img.journalAt journalSize &&
    (rangeIn a n 0 0x10000 || rangeIn a n b.img.slotA slotSize || rangeIn a n b.img.slotB slotSize)

/-- Whether a run lies in a slot that holds the active set or a shadow (R583). -/
def Block.flashBusy (b : Block) (a n : Nat) : Bool :=
  let held (source : Nat) : Bool :=
    (b.img.active.map (·.source)) == some source || (b.img.shadow.map (·.source)) == some source
  (held 1 && meets a n b.img.slotA slotSize) || (held 2 && meets a n b.img.slotB slotSize)

/-- The status with which ERASE or PROGRAM of a run is refused, if it is (R583). -/
def Block.flashRefuses (b : Block) (c : Cmd) (a n : Nat) (ok : Bool) : Option Nat :=
  if c.fn ≠ 0 ∨ !ok ∨ !b.flashRegionOk a n then some stInvalid
  else if b.get Reg.CFG_STATUS_SHADOW = 1 ∨ b.flashBusy a n then some stStateReject
  else none

/-- The content of the flash at an address: the journal's entries stand in its region (R550). -/
def Block.flashByte (b : Block) (a : Nat) : Byte :=
  if rangeIn a 1 b.img.journalAt journalSize then
    let o := a - b.img.journalAt
    (b.journalBytes (o / 64)).getD (o % 64) 0xFF
  else Store.get (fun _ => 0xFF) b.host.flash a

/-- FLASH_ERASE (R582, R583): a 64 KiB sector. -/
def Block.flashErase (b : Block) (c : Cmd) : Block :=
  let a := c.le 0x10 4
  match b.flashRefuses c a 0x10000 (a % 0x10000 == 0) with
  | some st => b.complete c st []
  | none =>
    let flash := b.host.flash.filter fun p => !rangeIn p.1 1 a 0x10000
    ({ b with host := { b.host with flash := flash } }).complete c stOK []

/-- FLASH_ERASE (R582). -/
def execFlashErase (ring : QNum) (s : State) : Host.Outcome State Fault Refusal :=
  answer "FLASH_ERASE" true s fun b => b.runCmd ring.toNat 0x50 fun c b => b.flashErase c

/-- Whether ADDR and LEN name bytes of one sector (R582). -/
def flashSpanOk (a n : Nat) : Bool := 1 ≤ n && n ≤ 65536 && a / 0x10000 == (a + n - 1) / 0x10000

/-- FLASH_PROGRAM (R582, R583): programming clears bits of a NOR flash and sets none. -/
def Block.flashProgram (b : Block) (c : Cmd) (dma : DmaRead) : Block :=
  let a := c.le 0x10 4
  let n := c.le 0x20 4
  match b.flashRefuses c a n (flashSpanOk a n) with
  | some st => b.complete c st []
  | none =>
    match DmaRead.bytes? dma with
    | none => (b.dmaError c.fn dma).complete c stInvalid []
    | some bs =>
      let data := slice bs 0 n
      let old := Store.range (fun _ => (0xFF : Byte)) b.host.flash a n
      let new := (old.zip data).map fun p => p.1 &&& p.2
      ({ b with host := { b.host with flash := Store.putAll (fun _ => 0xFF) b.host.flash a new } }).complete c stOK []

/-- FLASH_PROGRAM (R582). -/
def execFlashProgram (ring : QNum) (dma : DmaRead) (s : State) : Host.Outcome State Fault Refusal :=
  answer "FLASH_PROGRAM" true s fun b => b.runDmaCmd ring.toNat 0x51 fun c b => b.flashProgram c dma

/-- FLASH_READ (R582, R583). -/
def Block.flashRead (b : Block) (c : Cmd) : Block :=
  let a := c.le 0x10 4
  let n := c.le 0x20 4
  if c.fn ≠ 0 ∨ !flashSpanOk a n then b.complete c stInvalid []
  else if b.get Reg.CFG_STATUS_SHADOW = 1 then b.complete c stStateReject []
  else (b.draw.dma c.fn (c.le 0x18 8) ((List.range n).map fun i => b.flashByte (a + i))).complete c stOK []

/-- FLASH_READ (R582). -/
def execFlashRead (ring : QNum) (s : State) : Host.Outcome State Fault Refusal :=
  answer "FLASH_READ" true s fun b => b.runDmaCmd ring.toNat 0x52 fun c b => b.flashRead c

end Sys2Proof.Machine
end

