-- ==== Sys2Proof/Machine/Serial.lean ====
section
/-!
DEFINITION. The commands of the serial ports (15_serial_ports.md): characters received and sent, breaks and dead lines,
rate detection, the driver enable of SP1, and the wake from HOLD.
-/

namespace Sys2Proof.Machine

/-- Raise the port's vector for one of its events (R530). -/
def Block.spNotify (b : Block) (p : Nat) : Block :=
  if b.on (Reg.SP_CTRL_NOTIFY_EN p) then b.raise 0 (b.get (Reg.SP_CTRL_VECTOR p)) else b

/-- Whether SP1's receiver ignores what began `halves` half bit times ago: while SP1_DE is high and for one bit time after it
goes low (R525). -/
def Block.deafened (b : Block) (halves : Nat) : Bool :=
  !b.on (Reg.SP_CTRL_RX_DURING_DE 1) && (b.on (Reg.SP_STAT_DE 1) ||
    (b.sp 1).deEnd.any fun t => b.ticks < t + b.halfBits 1 2 + b.halfBits 1 halves)

/-- Whether a port's receiver takes what its line brought in its last `halves` half bit times: the port is active, its line not
dead, no rate detection runs (R523), and SP1 does not drive the line it would hear (R525). -/
def Block.spListens (b : Block) (p halves : Nat) : Bool :=
  b.spActive p && !b.on (Reg.SP_STAT_DEAD p) && !b.on (Reg.SP_CTRL_AUTO p) && !(p == 1 && b.deafened halves)

/-- Bits of a character from its start bit up to its stop bits (R514). -/
def Block.charBits (b : Block) (p : Nat) : Nat :=
  1 + b.get (Reg.SP_FMT_DATA p) + (if b.on (Reg.SP_FMT_PARITY p) then 1 else 0)

/-- Half bit times of a whole character (R514). -/
def Block.charHalves (b : Block) (p : Nat) : Nat := 2 * b.charBits p + 2 + b.get (Reg.SP_FMT_STOP p)

/-- The parity bit a character should have (R514); none without parity. -/
def charParity (mode data : Nat) : Option Bool :=
  let ones := ((List.range 9).filter fun i => data.testBit i).length
  match mode with
  | 1 => some (ones % 2 == 0)
  | 2 => some (ones % 2 == 1)
  | 3 => some true
  | 4 => some false
  | _ => none

/-- An entry of the receive FIFO (R517). -/
def spEntry (data : Nat) (pe fe brk glitch lost gap : Bool) : Nat :=
  data % 512 + (if pe then 2 ^ 9 else 0) + (if fe then 2 ^ 10 else 0) + (if brk then 2 ^ 11 else 0) +
    (if glitch then 2 ^ 12 else 0) + (if lost then 2 ^ 13 else 0) + (if gap then 2 ^ 14 else 0) + 2 ^ 15

/-- Write an entry to the receive FIFO (R517, R518): one that finds it full is lost. With OWNER at 1 the characters of
SP0 go to the console agent instead. -/
def Block.spPut (b : Block) (p data : Nat) (pe fe brk gap : Bool) : Block :=
  let x := b.sp p
  if p = 0 ∧ b.on (Reg.SP_CTRL_OWNER 0) then b.setSp p { x with glitched := false }
  else if 64 ≤ x.rx.length then
    let was := b.on (Reg.SP_STAT_OVERRUN p)
    let b := ((b.setSp p { x with lost := true }).inc (Reg.SP_RX_LOST_COUNT p)).set (Reg.SP_STAT_OVERRUN p) 1
    if was then b else b.spNotify p
  else
    let gap := gap && b.on (Reg.SP_IDLE_BITS p)
    let e := spEntry data pe fe brk x.glitched x.lost gap
    let b := b.setSp p { x with rx := x.rx ++ [e], lost := false, glitched := false }
    if brk then b.inc (Reg.SP_BREAKS_COUNT p) else b

/-- A character or a glitch arrives (R516), at the centre of its first stop bit or of its start bit. -/
def Block.characterReceived (b : Block) (p : Nat) (c : CharIn) : Block :=
  let glitch := !c.startLow && !b.on (Reg.SP_CTRL_SYNC p)
  if !b.spListens p (if glitch then 1 else 2 * b.charBits p + 1) then b
  else if glitch then
    (b.setSp p { b.sp p with glitched := true }).inc (Reg.SP_GLITCH_COUNT p)
  else
    let data := c.data.toNat % 2 ^ b.get (Reg.SP_FMT_DATA p)
    let pe := match charParity (b.get (Reg.SP_FMT_PARITY p)) data with
      | some bit => bit != c.parity
      | none => false
    (b.setOn (Reg.SP_STAT_LINE_LOW p) (!c.stop)).spPut p data pe (!c.stop) false c.gap

/-- CHARACTER_RECEIVED (R516). -/
def execCharacterReceived (p : Fin 2) (c : CharIn) (s : State) : Host.Outcome State Fault Refusal :=
  answer "CHARACTER_RECEIVED" true s fun b => b.characterReceived p.val c

/-- BREAK_DETECTED (R520): one entry with DATA 0, BRK and FE. -/
def execBreakDetected (p : Fin 2) (gap : Bool) (s : State) : Host.Outcome State Fault Refusal :=
  answer "BREAK_DETECTED" true s fun b =>
    if b.spListens p.val (b.charHalves p.val) then (b.set (Reg.SP_STAT_LINE_LOW p.val) 1).spPut p.val 0 false true true gap else b

/-- SERIAL_DEAD (R520, R529): after 64 character times low. -/
def execSerialDead (p : Fin 2) (s : State) : Host.Outcome State Fault Refusal :=
  answer "SERIAL_DEAD" true s fun b =>
    if !b.spActive p.val || b.on (Reg.SP_STAT_DEAD p.val) then b
    else
      let b := b.setAll [(Reg.SP_STAT_DEAD p.val, 1), (Reg.SP_STAT_DEAD_SEEN p.val, 1), (Reg.SP_STAT_LINE_LOW p.val, 1)]
      (b.spNotify p.val).post 0x0F01 2 0x48 [(1, p.val)]

/-- SERIAL_ALIVE (R520, R529): a dead line has been high for one character time. -/
def execSerialAlive (p : Fin 2) (chars : Nat) (s : State) : Host.Outcome State Fault Refusal :=
  answer "SERIAL_ALIVE" true s fun b =>
    if !b.on (Reg.SP_STAT_DEAD p.val) then b
    else
      let b := b.setAll [(Reg.SP_STAT_DEAD p.val, 0), (Reg.SP_STAT_LINE_LOW p.val, 0)]
      (b.setSp p.val { b.sp p.val with wakeArmed := true }).post 0x0F02 0 0x48
        [(1, p.val), (4, min chars 0xFFFFFFFF)]

/-- IDLE_EVENT (R519): the line has been high for BITS bit times and the receive FIFO is not empty. -/
def execIdleEvent (p : Fin 2) (s : State) : Host.Outcome State Fault Refusal :=
  answer "IDLE_EVENT" true s fun b =>
    if !b.spActive p.val || !b.on (Reg.SP_IDLE_BITS p.val) || (b.sp p.val).rx.isEmpty then b
    else (b.setAll [(Reg.SP_STAT_IDLE_EV p.val, 1), (Reg.SP_STAT_LINE_LOW p.val, 0)]).spNotify p.val

/-- A write of SP_TX (R518, R524): queued, or dropped and counted where the FIFO is full; an idle port starts to send
it. -/
def Block.spTxWrite (b : Block) (p : Nat) (v : Word) : Block :=
  let x := b.sp p
  if 64 ≤ x.tx.length then b.inc (Reg.SP_TX_DROP_COUNT p)
  else (b.setSp p { x with tx := x.tx ++ [v.toNat % 512] }).loadShifter p

/-- SP_TX_WRITE (R518). -/
def execSpTxWrite (p : Fin 2) (v : Word) (s : State) : Host.Outcome State Fault Refusal :=
  answer "SP_TX_WRITE" true s fun b => b.byPf fun b => b.spTxWrite p.val v

/-- CHARACTER_SENT (R514, R521, R524). -/
def execCharacterSent (p : Fin 2) (s : State) : Host.Outcome State Fault Refusal :=
  answer "CHARACTER_SENT" true s fun b =>
    match (b.sp p.val).shifter with
    | some (some _, _, _) => if b.spActive p.val then b.shifterDone p.val else b
    | _ => b

/-- DE_TAIL_END (R524): SP1_DE goes low if the transmit FIFO is empty. -/
def execDeTailEnd (s : State) : Host.Outcome State Fault Refusal :=
  answer "DE_TAIL_END" true s fun b =>
    let x := b.sp 1
    if x.tail && x.tx.isEmpty then (b.setSp 1 { x with tail := false }).setDe 1 false else b

/-- A write of 1 to SEND_BRK (R521). -/
def Block.sendBreak (b : Block) (p : Nat) : Block := (b.set (Reg.SP_CTRL_SEND_BRK p) 1).loadShifter p

/-- SEND_BRK (R521). -/
def execSendBrk (p : Fin 2) (s : State) : Host.Outcome State Fault Refusal :=
  answer "SEND_BRK" true s fun b => b.byPf fun b => b.sendBreak p.val

/-- BREAK_END (R521): the device clears SEND_BRK. -/
def execBreakEnd (p : Fin 2) (s : State) : Host.Outcome State Fault Refusal :=
  answer "BREAK_END" true s fun b =>
    match (b.sp p.val).shifter with
    | some (none, _, _) => if b.spActive p.val then (b.set (Reg.SP_CTRL_SEND_BRK p.val) 0).shifterDone p.val else b
    | _ => b

/-- A write of AUTO (R523, R531): not applied while SYNC is 1. -/
def Block.autoWrite (b : Block) (p : Nat) (on : Bool) : Block :=
  if b.on (Reg.SP_CTRL_SYNC p) then b else b.setOn (Reg.SP_CTRL_AUTO p) on

/-- AUTO (R523). -/
def execAuto (p : Fin 2) (s : State) : Host.Outcome State Fault Refusal :=
  answer "AUTO" true s fun b => b.byPf fun b => b.autoWrite p.val true

/-- Whether four intervals agree, each within 6 % of their mean (R523). -/
def intervalsAgree (xs : List Nat) : Bool :=
  let total := xs.sum
  xs.length == 4 && xs.all fun x => 94 * total ≤ 400 * x && 400 * x ≤ 106 * total

/-- Five falling edges, the intervals between them in cycles of the oscillator (R523): DIV becomes twice their sum where
they agree, DATA is 8 or 9 and the DIV is one the detection covers; else the edges are discarded. -/
def Block.autobaud (b : Block) (p : Nat) (xs : List Nat) : Block :=
  let div := 2 * xs.sum
  let data := b.get (Reg.SP_FMT_DATA p)
  if !b.spActive p || !b.on (Reg.SP_CTRL_AUTO p) || b.on (Reg.SP_CTRL_SYNC p) then b
  else if !intervalsAgree xs || !(data == 8 || data == 9) || div < 256 || 2560000 < div then b
  else
    let b := b.setAll [(Reg.SP_DIV_DIV p, div), (Reg.SP_CTRL_AUTO p, 0), (Reg.SP_STAT_AUTO_DONE p, 1)]
    (b.spNotify p).post 0x0F03 0 0x48 [(1, p), (4, div)]

/-- AUTOBAUD (R523). -/
def execAutobaud (p : Fin 2) (intervals : List Nat) (s : State) : Host.Outcome State Fault Refusal :=
  answer "AUTOBAUD" true s fun b => b.autobaud p.val intervals

/-- Whether a master reaches a serial page: the PF both, the console agent SP0 while OWNER is 1 (R530). -/
def Block.spReach (b : Block) (p m : Nat) : Bool := m == 0 || (m == 17 && p == 0 && b.on (Reg.SP_CTRL_OWNER 0))

/-- A read of SP_RX (R517): the oldest entry, or VALID 0 from an empty FIFO, and for the PF while the console agent owns
SP0. A master that does not reach the page breaks R42 or R43. -/
def Block.spRxRead (b : Block) (p m : Nat) : Block :=
  if !b.spReach p m then
    if 24 ≤ m then b else (b.answerWith (.word 0xFFFFFFFF)).violation m (if m < 16 then 1 else 8) (Reg.SP_RX p)
  else if m = 0 ∧ p = 0 ∧ b.on (Reg.SP_CTRL_OWNER 0) then b.answerWith (.word 0)
  else
    let x := b.sp p
    match x.rx with
    | [] => b.answerWith (.word 0)
    | e :: rest => (b.setSp p { x with rx := rest }).answerWith (.word (BitVec.ofNat 32 e))

/-- SP_RX_READ (R517). -/
def execSpRxRead (p : Fin 2) (master : Fin 32) (s : State) : Host.Outcome State Fault Refusal :=
  answer "SP_RX_READ" true s fun b => b.readBy master.val fun b => b.spRxRead p.val master.val

/-- SERIAL_WAKE (R527): a falling edge on an armed line starts the oscillator. -/
def execSerialWake (p : Fin 2) (s : State) : Host.Outcome State Fault Refusal :=
  answer "SERIAL_WAKE" true s fun b =>
    let x := b.sp p.val
    if b.dev == .hold && !b.oscillator && b.on (Reg.SP_CTRL_ENABLE p.val) && b.on (Reg.SP_CTRL_WAKE_EN p.val) &&
        x.wakeArmed then
      let b := (b.setSp p.val { x with wakeArmed := false }).set (Reg.SP_STAT_LINE_LOW p.val) 1
      ({ b with oscillator := true }).serialFollow
    else b

/-- OSCILLATOR_SLEEP (R527): in HOLD, with the FIFOs and shifters empty and the lines idle high. -/
def execOscillatorSleep (s : State) : Host.Outcome State Fault Refusal :=
  answer "OSCILLATOR_SLEEP" true s fun b =>
    let rests (x : SerialPort) : Bool := x.rx.isEmpty && x.tx.isEmpty && x.shifter.isNone
    if b.dev == .hold && rests (b.sp 0) && rests (b.sp 1) then
      let b := (b.setSp 0 { b.sp 0 with wakeArmed := true }).setSp 1 { b.sp 1 with wakeArmed := true }
      { b.setAll [(Reg.SP_STAT_LINE_LOW 0, 0), (Reg.SP_STAT_LINE_LOW 1, 0)] with oscillator := false }
    else b

end Sys2Proof.Machine
end

