-- ==== Sys2Proof/Machine/Strata.lean ====
section
/-!
DEFINITION. The meanings of the Strata commands (10_strata.md): doorbells, write ports, fetching, the queue opcodes,
RECV delivery, tag decisions, pausing and resuming a conversation, host records.
-/

namespace Sys2Proof.Machine

/-! ### Doorbells and write ports -/

/-- Offset of a function's doorbell page and write-port page as an access names them: BAR0 for the PF, the VF's window
for a VF (R568, R569). -/
def doorbellPage (fn : Nat) : Nat := if fn = 0 then 0x1F3000 else 0x1000
def writePortPage (fn : Nat) : Nat := if fn = 0 then 0x1F4000 else 0x2000

/-- A doorbell write (R357, R358). -/
def Block.doorbell (b : Block) (fn d : Nat) (v : Word) : Block :=
  if !b.reaches fn then b
  else match (b.rings fn)[d]? with
    | none => b.violation fn 3 (doorbellPage fn + 4 * d)
    | some q =>
      let outOfRange :=
        if b.qKind q = 1 then b.qSize q < (v - b.qRd q).toNat || 2 ^ 31 ≤ (v - b.qWr q).toNat
        else b.qFill q < (v - b.qRd q).toNat
      if outOfRange then b.violation fn 3 (doorbellPage fn + 4 * d)
      else if b.qKind q = 1 then b.moveRing q v (b.qRd q)
      else (b.moveRing q (b.qWr q) v).drain fn

/-- DOORBELL (R357, R358). -/
def execDoorbell (fn : Fin 16) (d : Fin 1020) (v : Word) (s : State) : Host.Outcome State Fault Refusal :=
  answer "DOORBELL" true s fun b => b.doorbell fn d v

/-- Make a word held back by a write port readable (R359). -/
def Block.releaseHeld (b : Block) (q : Nat) : Block :=
  match (b.q q).held with
  | some w => (b.setQ q { b.q q with held := none }).writeWords q [w]
  | none => b

/-- Units of a queue that its host writer has taken or opened: fill, a word held back, an open word. -/
def Block.hostUnits (b : Block) (q bytes : Nat) : Nat :=
  b.qFill q + (if (b.q q).held.isSome then 1 else 0) + ((b.q q).openBytes.length + bytes + 7) / 8

/-- One byte into the open word of a host-produced STREAM queue; a word that becomes complete is held back (R348,
R359). -/
def Block.wpByte (b : Block) (q : Nat) (x : Byte) : Block :=
  let st := b.q q
  let sop := st.openSop || st.sopNext
  let bytes := st.openBytes ++ [x]
  if bytes.length = 8 then
    b.setQ q { st with openBytes := [], openSop := false, sopNext := false, fresh := true
                       held := some { data := BitVec.ofNat 64 (leNat bytes), tag := wordTag 8 sop false false false } }
  else b.setQ q { st with openBytes := bytes, openSop := sop, sopNext := false, fresh := true }

/-- A write of bytes through a write port, whole or not at all (R350, R359). -/
def Block.wpWrite (b : Block) (fn p : Nat) (bytes : List Byte) : Block :=
  if !b.reaches fn then b
  else match (b.streams fn)[p]? with
    | none => b.violation fn 4 (writePortPage fn + 16 * p)
    | some q =>
      if !b.on (Reg.QD_CFG_ENABLE q) then b
      else
        let b := b.releaseHeld q
        if b.qSize q < b.hostUnits q bytes.length then b.overrun q
        else bytes.foldl (fun b x => b.wpByte q x) b

/-- WP_B1 (R359). -/
def execWpB1 (fn : Fin 16) (p : Fin 256) (v : BitVec 8) (s : State) : Host.Outcome State Fault Refusal :=
  answer "WP_B1" true s fun b => b.wpWrite fn p (toLe 1 v.toNat)

/-- WP_B2 (R359). -/
def execWpB2 (fn : Fin 16) (p : Fin 256) (v : BitVec 16) (s : State) : Host.Outcome State Fault Refusal :=
  answer "WP_B2" true s fun b => b.wpWrite fn p (toLe 2 v.toNat)

/-- WP_B4 (R359). -/
def execWpB4 (fn : Fin 16) (p : Fin 256) (v : BitVec 32) (s : State) : Host.Outcome State Fault Refusal :=
  answer "WP_B4" true s fun b => b.wpWrite fn p (toLe 4 v.toNat)

/-- WP_MARK bit 0: the next byte is SOP (R359). -/
def Block.wpSop (b : Block) (fn p : Nat) : Block :=
  if !b.reaches fn then b
  else match (b.streams fn)[p]? with
    | none => b.violation fn 4 (writePortPage fn + 16 * p + 12)
    | some q =>
      if !b.on (Reg.QD_CFG_ENABLE q) then b
      else
        let b := b.releaseHeld q
        b.setQ q { b.q q with sopNext := true }

/-- WP_MARK bit 1 (R359): close the open word with EOP; with none open, give EOP to the word the port last completed
and make it readable; with no byte since the last EOP, nothing. -/
def Block.wpEop (b : Block) (fn p : Nat) : Block :=
  if !b.reaches fn then b
  else match (b.streams fn)[p]? with
    | none => b.violation fn 4 (writePortPage fn + 16 * p + 12)
    | some q =>
      let st := b.q q
      if !b.on (Reg.QD_CFG_ENABLE q) || !st.fresh then b
      else if st.openBytes ≠ [] then
        let b := b.releaseHeld q
        let w : QWord := { data := BitVec.ofNat 64 (leNat st.openBytes),
                           tag := wordTag st.openBytes.length st.openSop true false false }
        (b.setQ q { b.q q with openBytes := [], openSop := false, fresh := false }).writeWords q [w]
      else match st.held with
        | some w => (b.setQ q { st with held := none, fresh := false }).writeWords q [{ w with tag := w.tag ||| 0x20 }]
        | none =>
          let k := (b.qWr q - 1).toNat % b.qSize q
          b.setQ q { st with fresh := false
                             words := Store.modify (fun _ => QWord.zero) st.words k
                               fun w => { w with tag := w.tag ||| 0x20 } }

/-- WP_MARK_SOP (R359). -/
def execWpMarkSop (fn : Fin 16) (p : Fin 256) (s : State) : Host.Outcome State Fault Refusal :=
  answer "WP_MARK_SOP" true s fun b => b.wpSop fn p

/-- WP_MARK_EOP (R359). -/
def execWpMarkEop (fn : Fin 16) (p : Fin 256) (s : State) : Host.Outcome State Fault Refusal :=
  answer "WP_MARK_EOP" true s fun b => b.wpEop fn p

/-! ### Fetching (R360, R361) -/

/-- The opcodes that act on a queue (R361): SEND to FLUSH, and DECRYPT. -/
def queueOpcode (op : Nat) : Bool := (1 ≤ op && op ≤ 7) || op == 0x34

/-- The opcodes the device knows (R362, R404, R421, R582). -/
def knownOpcode (op : Nat) : Bool :=
  op ≤ 7 || (0x30 ≤ op && op ≤ 0x36) || op == 0x40 || (0x50 ≤ op && op ≤ 0x52)

/-- Whether the device fetches from a CMD ring now (R361, R369, R371, R537, R564). -/
def Block.fetches (b : Block) (ring : Nat) : Option (Nat × Nat) :=
  match b.qOwner ring, b.ringOf ring with
  | some fn, some cpl =>
    if b.qKind ring = 1 ∧ b.on (Reg.QD_CFG_ENABLE ring) ∧ 0 < b.qFill ring ∧ !b.still fn ∧ !b.cutOff fn ∧
        b.converses ∧ b.ringRoom cpl then some (fn, cpl) else none
  | _, _ => none

/-- The command an entry spells. -/
def cmdOf (fn ring cpl : Nat) (bytes : List Byte) : Cmd :=
  { fn := fn, ring := ring, cpl := cpl, seq := BitVec.ofNat 32 (leAt bytes 0 4), opcode := byteAt bytes 4,
    flags := BitVec.ofNat 8 (byteAt bytes 5), queue := leAt bytes 8 2, tag := BitVec.ofNat 32 (leAt bytes 12 4),
    operands := slice bytes 16 48 }

/-- Fetch the entry at RD of a CMD ring: a slot is owed and RD advances; a failed read, a HOST_SEQ that differs from
RD, an unknown opcode or a nonzero reserved QUEUE completes with INVALID; a queue the function does not own is a
violation; anything else waits for its row (R361). -/
def Block.fetch (b : Block) (ring : Nat) (dma : DmaRead) : Block :=
  match b.fetches ring with
  | none => b
  | some (fn, cpl) =>
    let rd := b.qRd ring
    let st := b.q cpl
    let b := (b.setQ cpl { st with owed := st.owed + 1 }).moveRing ring (b.qWr ring) (rd + 1)
    match DmaRead.bytes? dma with
    | none =>
      (b.dmaError fn dma).complete
        { fn := fn, ring := ring, cpl := cpl, seq := rd, opcode := 0, flags := 0, queue := ring, tag := 0,
          operands := [] } stInvalid []
    | some bytes =>
      let c := cmdOf fn ring cpl bytes
      if c.seq ≠ rd ∨ !knownOpcode c.opcode then b.complete c stInvalid []
      else if queueOpcode c.opcode then
        if b.qOwner c.queue = some fn then
          { b with strata := { b.strata with fetched := b.strata.fetched ++ [c] } }
        else b.violation fn 7 (Reg.QD_CFG c.queue)
      else if c.queue ≠ 0 then b.complete c stInvalid []
      else { b with strata := { b.strata with fetched := b.strata.fetched ++ [c] } }

/-- COMMAND_FETCH (R361). -/
def execCommandFetch (ring : QNum) (dma : DmaRead) (s : State) : Host.Outcome State Fault Refusal :=
  answer "COMMAND_FETCH" true s fun b => b.fetch ring.toNat dma

/-! ### Queue opcodes (R362 to R364) -/

/-- NOP completes with OK (R362). -/
def execNop (ring : QNum) (s : State) : Host.Outcome State Fault Refusal :=
  answer "NOP" true s fun b => b.runCmd ring.toNat 0 fun c b => b.complete c stOK []

/-- A FINAL that names one node (R363): no bit above bit 19, not 0x0_0000, 0xF_FFFE or 0xF_FFFF. -/
def finalOk (x : Nat) : Bool := x < 2 ^ 20 && x != 0 && x != 0xFFFFE && x != 0xFFFFF

/-- The 16-byte transmit header of a SEND (R363). -/
def transmitHeader (len prio final fn : Nat) (stamp : Bool) (seq : Word) : List Byte :=
  toLe 2 (len + prio * 2 ^ 11) ++ toLe 3 final ++ toLe 1 (fn + (if stamp then 16 else 0)) ++ toLe 4 seq.toNat ++
    List.replicate 6 0

/-- SEND (R363, R350, R399): the first status that applies in the rule's order, else the parcel is placed behind its
header and the command stays in flight. -/
def Block.send (b : Block) (c : Cmd) (dma : DmaRead) : Block :=
  let len := c.le 0x18 2
  let prio := c.le 0x1A 1 % 8
  let final := c.le 0x1C 4
  let stamp := c.flags.getLsbD 0
  if !b.hostProduced c.queue || b.qKind c.queue != 3 then b.complete c stInvalid []
  else if len < 1 || 2047 < len || !finalOk final then b.complete c stInvalid []
  else match DmaRead.bytes? dma with
    | none => (b.dmaError c.fn dma).complete c stInvalid []
    | some data =>
      if !b.on (Reg.QD_CFG_ENABLE c.queue) || !b.sendAllowed final then b.complete c stStateReject []
      else
        let body := slice data 0 len
        let bytes := transmitHeader len prio final c.fn stamp c.seq ++ body
        let units := b.unitsOf c.queue bytes.length
        if b.qSize c.queue < b.qFill c.queue + units then (b.overrun c.queue).complete c stNoResource []
        else
          let r : SendRec := { cmd := c, queue := c.queue, ptr := b.qWr c.queue, units := units, prio := prio,
                               final := final, stamp := stamp, body := body, pseq := 0, attempts := 0, taken := false
                               entered := b.brg.now, waiting := none }
          let b := ({ b with strata := { b.strata with sends := b.strata.sends ++ [r] } }).refreshP0
          if b.qPriority c.queue then b.writeEntry c.queue bytes prio false false
          else b.writeWords c.queue (packWords bytes false)

/-- SEND (R363). -/
def execSend (ring : QNum) (dma : DmaRead) (s : State) : Host.Outcome State Fault Refusal :=
  answer "SEND" true s fun b => b.runDmaCmd ring.toNat 1 fun c b => b.send c dma

/-- Whether a RECV's LEN is legal (R364). -/
def recvLenOk (len : Nat) : Bool := 8 ≤ len && len ≤ 1048576 && len % 8 == 0

/-- RECV registers a delivery request (R364). -/
def Block.recv (b : Block) (c : Cmd) : Block :=
  if !b.deviceProduced c.queue || !recvLenOk (c.le 0x18 4) then b.complete c stInvalid []
  else if !b.on (Reg.QD_CFG_ENABLE c.queue) then b.complete c stStateReject []
  else { b with strata := { b.strata with recvs := b.strata.recvs ++
      [{ cmd := c, started := false, pos := 0, words := 0, bytes := 0, head := [], prov := false, poison := false }] } }

/-- RECV (R364). -/
def execRecv (ring : QNum) (s : State) : Host.Outcome State Fault Refusal :=
  answer "RECV" true s fun b => b.runCmd ring.toNat 2 fun c b => b.recv c

/-- MARK on a host-produced queue (R355, R362). -/
def execMark (ring : QNum) (s : State) : Host.Outcome State Fault Refusal :=
  answer "MARK" true s fun b => b.runCmd ring.toNat 3 fun c b =>
    if !b.hostProduced c.queue then b.complete c stInvalid []
    else (((b.wr (Reg.QD_MARK c.queue) (b.qWr c.queue)).set (Reg.QD_BASE_HI_MARK_VALID c.queue) 1).set
      (Reg.QD_BASE_HI_MARK_LOST c.queue) 0).complete c stOK []

/-- Whether the consumer has taken anything written after the mark (R355). -/
def Block.takenPastMark (b : Block) (q : Nat) : Bool :=
  let mark := b.qMark q
  let span := (b.qWr q - mark).toNat
  let after (p : Word) : Bool := (p - mark).toNat < span
  (0 < (b.qRd q - mark).toNat && (b.qRd q - mark).toNat ≤ span) ||
    (b.q q).entries.any (fun e => e.consumed && after e.ptr) ||
    b.strata.sends.any (fun r => r.queue == q && r.taken && after r.ptr)

/-- REWIND: WR = MARK, the open and held words are withdrawn, and every SEND withdrawn completes with REVOKED
(R355). -/
def Block.rewind (b : Block) (c : Cmd) : Block :=
  let q := c.queue
  if !b.hostProduced q then b.complete c stInvalid []
  else if !b.on (Reg.QD_BASE_HI_MARK_VALID q) || b.takenPastMark q then b.complete c stStateReject []
  else
    let mark := b.qMark q
    let span := (b.qWr q - mark).toNat
    let after (p : Word) : Bool := (p - mark).toNat < span
    let gone := b.strata.sends.filter fun r => r.queue == q && !r.taken && after r.ptr
    let st := b.q q
    let b := b.setQ q { st with openBytes := [], openSop := false, held := none, sopNext := false, fresh := false
                                entries := st.entries.filter fun e => !after e.ptr }
    let b := b.moveQueue q mark (b.qRd q)
    let b := gone.foldl (fun b r => b.completeSend r stRevoked (sendResult r.pseq r.attempts 0)) b
    b.complete c stOK []

/-- REWIND (R355). -/
def execRewind (ring : QNum) (s : State) : Host.Outcome State Fault Refusal :=
  answer "REWIND" true s fun b => b.runCmd ring.toNat 4 fun c b => b.rewind c

/-- COMMIT releases the mark (R362). -/
def execCommit (ring : QNum) (s : State) : Host.Outcome State Fault Refusal :=
  answer "COMMIT" true s fun b => b.runCmd ring.toNat 5 fun c b =>
    if !b.hostProduced c.queue then b.complete c stInvalid []
    else if !b.on (Reg.QD_BASE_HI_MARK_VALID c.queue) then b.complete c stStateReject []
    else (b.set (Reg.QD_BASE_HI_MARK_VALID c.queue) 0).complete c stOK []

/-- QSTAT returns WR, RD and MARK (R362). -/
def execQstat (ring : QNum) (s : State) : Host.Outcome State Fault Refusal :=
  answer "QSTAT" true s fun b => b.runCmd ring.toNat 6 fun c b =>
    b.complete c stOK (toLe 4 (b.qWr c.queue).toNat ++ toLe 4 (b.qRd c.queue).toNat ++ toLe 4 (b.qMark c.queue).toNat)

/-- FLUSH sets RD to WR on a device-produced queue (R362). -/
def execFlush (ring : QNum) (s : State) : Host.Outcome State Fault Refusal :=
  answer "FLUSH" true s fun b => b.runCmd ring.toNat 7 fun c b =>
    if !b.deviceProduced c.queue then b.complete c stInvalid []
    else if b.on (Reg.QD_BASE_HI_MARK_VALID c.queue) || b.strata.recvs.any (fun r => r.cmd.queue == c.queue) then
      b.complete c stStateReject []
    else
      let st := b.q c.queue
      ((b.setQ c.queue { st with entries := [] }).moveQueue c.queue (b.qWr c.queue) (b.qWr c.queue)).complete c stOK []

/-! ### Delivery (R364) -/

/-- The RESULT of a RECV: bytes delivered, PSEQ, ORIG and stratum of the parcel from its receive header (R365). -/
def recvResult (bytes : Nat) (head : List Byte) (parcel : Bool) : List Byte :=
  toLe 4 bytes ++ (if parcel then toLe 2 (leAt head 8 2) ++ toLe 3 (leAt head 4 3) ++ toLe 1 (leAt head 0 2 / 2 ^ 11 % 8)
    else [0, 0, 0, 0, 0, 0])

/-- The FLAGS of a RECV's completion (R366): PROV and POISON. -/
def recvFlags (r : Recv) : Nat := (if r.prov then 2 else 0) + (if r.poison then 4 else 0)

/-- Complete a RECV: RD advances over what it delivered, and it leaves the list. -/
def Block.completeRecv (b : Block) (r : Recv) (status : Nat) : Block :=
  let q := r.cmd.queue
  let b := { b with strata := { b.strata with recvs := b.strata.recvs.filter fun x => x.cmd != r.cmd } }
  let b := if b.qPriority q then b.freeConsumed q else b.moveQueue q (b.qWr q) r.pos
  b.complete r.cmd status (recvResult r.bytes r.head (b.qKind q == 3)) (recvFlags r)

/-- What a delivery of one word found: more words may follow, the end of the data, or the end of the RECV with a
status. -/
inductive Delivery where
  | more | noData | done (status : Nat)
deriving DecidableEq, Repr

/-- Deliver one word of a packed queue to a RECV. `bad`: the word's storage fails its ECC check (R356). A RECV that
holds provisional words ends on the control word that follows the parcel, not at its EOP (R353, R372), and while the
mark is live it keeps its last 8 bytes for that word (DEDUCED, log entry 9). -/
def Block.deliverWord (b : Block) (r : Recv) (bad : Bool) : Block × Recv × Delivery :=
  let q := r.cmd.queue
  let w := b.wordAt q r.pos
  let len := r.cmd.le 0x18 4
  let buf := r.cmd.le 0x10 8
  let tagbuf := r.cmd.le 0x20 8
  let room := if w.prov then 16 else 8
  if r.pos = b.qWr q ∨ (w.prov ∧ !b.on (Reg.QD_CFG_PROV_OK q)) ∨ len < r.bytes + room then (b, r, .noData)
  else
    let tag := if bad then w.tag ||| 0x80 else w.tag
    let b := if bad then b.poisoned q r.pos else b
    let b := b.dma r.cmd.fn (buf + r.bytes) (toLe 8 w.data.toNat)
    let b := if tagbuf = 0 then b else b.dma r.cmd.fn (tagbuf + r.words) [tag]
    let b := if w.prov then b.setQ q { b.q q with provTaken := true } else b
    let r := { r with pos := r.pos + 1, words := r.words + 1, bytes := r.bytes + 8
                      head := if r.head.length < 16 then r.head ++ toLe 8 w.data.toNat else r.head
                      prov := r.prov || w.prov, poison := r.poison || bad || w.poison }
    if w.control then (b, r, .done (if w.data.toNat % 256 = 1 then stRevoked else stOK))
    else if b.qKind q = 3 ∧ w.eop ∧ !r.prov then (b, r, .done stOK)
    else if len < r.bytes + 8 then (b, r, .done stOK)
    else (b, r, .more)

/-- Deliver up to `n` words to a RECV in turn. -/
def Block.deliverWords (b : Block) (r : Recv) (bad : List Nat) : Nat → Block × Recv × Delivery
  | 0 => (b, r, .more)
  | n + 1 =>
    match b.deliverWord r (bad.contains r.words) with
    | (b, r, .more) => b.deliverWords r bad n
    | out => out

/-- Deliver one entry of a priority-mode queue (R351, R364): INVALID, with nothing consumed, if it exceeds LEN. -/
def Block.deliverEntry (b : Block) (r : Recv) (bad : Bool) : Block :=
  let q := r.cmd.queue
  match nextEntry (b.q q).entries (b.on (Reg.QD_CFG_PROV_OK q)) with
  | none => b
  | some e =>
    if r.cmd.le 0x18 4 < e.bytes.length then
      ({ b with strata := { b.strata with recvs := b.strata.recvs.filter fun x => x.cmd != r.cmd } }).complete
        r.cmd stInvalid []
    else
      let b := if bad then b.poisoned q e.ptr else b
      let b := b.dma r.cmd.fn (r.cmd.le 0x10 8) e.bytes
      let st := b.q q
      let b := b.setQ q { st with
        entries := st.entries.map fun x => if x.ptr == e.ptr then { x with consumed := true } else x
        provTaken := st.provTaken || e.prov }
      let status := if e.control ∧ byteAt e.bytes 0 = 1 then stRevoked else stOK
      b.completeRecv { r with bytes := e.bytes.length, head := slice e.bytes 0 16, prov := e.prov, poison := bad } status

/-- RECV_DELIVERY: the oldest RECV on the queue takes up to `words` words, or one entry in priority mode, and completes
at the end of its parcel, at a control word, at LEN, or on a STREAM queue when no further word is readable (R364),
unless it holds provisional words whose tag decision is still to come (log entry 9). -/
def Block.recvDelivery (b : Block) (q words : Nat) (bad : List Nat) : Block :=
  match b.strata.recvs.find? (fun r => r.cmd.queue == q) with
  | none => b
  | some r =>
    if b.still r.cmd.fn || b.cutOff r.cmd.fn || !b.converses then b
    else if b.qPriority q then b.deliverEntry r (bad ≠ [])
    else
      let r := if r.started then r else { r with started := true, pos := b.qRd q }
      match b.deliverWords r bad words with
      | (b, r, d) =>
        let kept := { b with strata := { b.strata with
          recvs := b.strata.recvs.map fun x => if x.cmd == r.cmd then r else x } }
        match d with
        | .done st => kept.completeRecv r st
        | .noData =>
          let undecided : Bool := r.prov && b.on (Reg.QD_BASE_HI_MARK_VALID q)
          if b.qKind q = 4 ∧ 0 < r.words ∧ !undecided then kept.completeRecv r stOK else kept
        | .more => kept

/-- RECV_DELIVERY (R364). -/
def execRecvDelivery (q : QNum) (words : Nat) (bad : List Nat) (s : State) : Host.Outcome State Fault Refusal :=
  answer "RECV_DELIVERY" true s fun b => b.recvDelivery q.toNat words bad

/-! ### Pausing and resuming (R369, R370) -/

/-- Record the status of a CONV command. -/
def Block.convStatus (b : Block) (fn st : Nat) : Block := b.setConv fn { b.conv fn with status := st }

/-- PAUSE of a function's conversation (R369). -/
def Block.pauseConv (b : Block) (fn : Nat) : Block :=
  if b.frozen fn then b.convStatus fn stStateReject
  else if b.bit Reg.QF_PAUSED_FN fn then b.convStatus fn stOK
  else b.setConv fn { busy := true, status := stOK }

/-- An entry that RESUME posts of itself (R370 steps 2 and 4). -/
def resumeEntry (fn ring : Nat) (seq : Word) (status opcode flags queue : Nat) (tag : Word) : CplEntry :=
  { fn := fn, ring := ring, hostSeq := seq, status := status, opcode := opcode, flags := flags, queue := queue,
    tag := tag, result := [], owed := false }

/-- Step 1 of R370 on one completion ring: post again every unacknowledged entry, with REPLAYED set, in place. -/
def Block.replayRing (b : Block) (fn ring : Nat) : Block :=
  let rd := b.qRd ring
  (List.range (b.qFill ring)).foldl (fun b i =>
    let k := (rd.toNat + i) % b.qSize ring
    let e := Store.get (fun _ => []) (b.q ring).history k
    let e := e.take 10 ++ [BitVec.ofNat 8 (byteAt e 10) ||| 0x08] ++ e.drop 11
    (b.dma fn (b.ringAddr ring 32 k) e).raise fn (b.get (Reg.QD_CFG_VECTOR ring))) b

/-- Step 2 of R370: the entries of the commands of one CMD ring not yet fetched. -/
def Block.unfetchedEntries (b : Block) (fn ring : Nat) : List CplEntry :=
  match b.ringOf ring with
  | none => []
  | some cpl => (List.range (b.qFill ring)).map fun i =>
      resumeEntry fn cpl (b.qRd ring + BitVec.ofNat 32 i) stRevoked 0 32 ring 0

/-- Step 3 of R370: the completion of a RECV in flight. -/
def Block.revokedRecv (b : Block) (r : Recv) : CplEntry :=
  { fn := r.cmd.fn, ring := r.cmd.cpl, hostSeq := r.cmd.seq, status := stRevoked, opcode := r.cmd.opcode,
    flags := recvFlags r, queue := r.cmd.queue, tag := r.cmd.tag,
    result := recvResult r.bytes r.head (b.qKind r.cmd.queue == 3), owed := true }

/-- The command that owes the completion of a cipher operation. -/
def CipherOp.cmd (x : CipherOp) : Option Cmd := match x.work with
  | .encrypt c _ _ => some c
  | .decrypt c _ => some c
  | .link _ | .pass .. => none

/-- The commands of a function in flight, its RECVs apart (R370 step 4): fetched and not yet run, SENDs, cipher
operations, and requests that wait for random bytes. -/
def Block.inFlight (b : Block) (fn : Nat) : List Cmd :=
  let ops := b.cx.engines.flatMap (fun e => e.2.running.toList ++ e.2.suspended) ++ b.cx.waiting
  (b.strata.fetched ++ b.strata.sends.map (·.cmd) ++ ops.filterMap CipherOp.cmd ++ b.cx.randoms).filter fun c => c.fn == fn

/-- CONV_STAT of a function (R369). -/
def Block.convStat (b : Block) (fn : Nat) : Nat :=
  let n := (b.inFlight fn).length + (b.strata.recvs.filter fun r => r.cmd.fn == fn).length +
    (b.strata.pausedOutcomes.filter fun e => e.fn == fn).length
  (if b.bit Reg.QF_PAUSED_FN fn then 1 else 0) + (if (b.conv fn).busy then 2 else 0) +
    2 ^ 8 * ((b.conv fn).status % 256) + 2 ^ 16 * min 65535 n

/-- RESUME (R369, R370): replay, drop what was not fetched, revoke the RECVs in flight, one INFLIGHT entry for every
other command in flight, then the completions that arose during the pause; a RESYNC record. -/
def Block.resumeConv (b : Block) (fn : Nat) (replay drop : Bool) : Block :=
  if !(b.bit Reg.QF_PAUSED_FN fn) || b.cutOff fn || !b.bme fn then b.convStatus fn stStateReject
  else
    let cmds := (b.rings fn).filter fun q => b.qKind q == 1
    let cpls := (b.rings fn).filter fun q => b.qKind q == 2
    let replayed := if replay then (cpls.map fun q => b.qFill q).sum else 0
    let unfetched := if drop then cmds.flatMap fun q => b.unfetchedEntries fn q else []
    let recvs := b.strata.recvs.filter fun r => r.cmd.fn == fn
    let inflight :=
      (b.inFlight fn).map
        (fun c => resumeEntry fn c.cpl c.seq stOK c.opcode 16 c.queue c.tag) ++
      (b.strata.pausedOutcomes.filter fun e => e.fn == fn).map
        (fun e => resumeEntry fn e.ring e.hostSeq stOK e.opcode 16 e.queue e.tag)
    let late := b.strata.pausedOutcomes.filter fun e => e.fn == fn
    let b := (b.setBit Reg.QF_PAUSED_FN fn false).setConv fn { busy := false, status := stOK }
    let b := if replay then cpls.foldl (fun b q => b.replayRing fn q) b else b
    let b := if drop then cmds.foldl (fun b q => b.moveRing q (b.qWr q) (b.qWr q)) b else b
    let b := { b with strata := { b.strata with
      recvs := b.strata.recvs.filter fun r => r.cmd.fn != fn
      pausedOutcomes := b.strata.pausedOutcomes.filter fun e => e.fn != fn
      backlog := b.strata.backlog ++ unfetched ++ recvs.map b.revokedRecv ++ inflight ++ late } }
    (b.drain fn).post 0x0A04 1 0x42
      [(1, fn), (2, replayed), (2, unfetched.length), (2, recvs.length + inflight.length)]

/-- CONV_PAUSE (R369). -/
def execConvPause (fn : Fin 16) (s : State) : Host.Outcome State Fault Refusal :=
  answer "CONV_PAUSE" true s fun b => if b.reaches fn then b.pauseConv fn else b

/-- CONV_RESUME (R370). -/
def execConvResume (fn : Fin 16) (replay drop : Bool) (s : State) : Host.Outcome State Fault Refusal :=
  answer "CONV_RESUME" true s fun b => if b.reaches fn then b.resumeConv fn replay drop else b

/-- QF_CONV_PAUSE: the PF pauses any function (R369, R379). -/
def execQfConvPause (fn : Fin 16) (s : State) : Host.Outcome State Fault Refusal :=
  answer "QF_CONV_PAUSE" true s fun b => if b.reaches 0 then b.pauseConv fn else b

/-- QF_CONV_RESUME: the PF resumes any function (R369, R379). -/
def execQfConvResume (fn : Fin 16) (replay drop : Bool) (s : State) : Host.Outcome State Fault Refusal :=
  answer "QF_CONV_RESUME" true s fun b => if b.reaches 0 then b.resumeConv fn replay drop else b

/-- PAUSE_COMPLETE: the last DMA of a pausing function has ended, and PAUSED is set (R369). -/
def execPauseComplete (fn : Fin 16) (s : State) : Host.Outcome State Fault Refusal :=
  answer "PAUSE_COMPLETE" true s fun b =>
    if (b.conv fn).busy then
      (b.setBit Reg.QF_PAUSED_FN fn true).setConv fn { b.conv fn with busy := false }
    else b

/-- WEDGED: the DMA of a pausing or frozen function has not ended in time and is abandoned (R542). -/
def execWedged (fn : Fin 16) (s : State) : Host.Outcome State Fault Refusal :=
  answer "WEDGED" true s fun b =>
    if ((b.conv fn).busy || b.frozen fn) && !b.bit Reg.GLB_WEDGED_FN fn then
      let b := b.setBit Reg.GLB_WEDGED_FN fn true
      let b := if (b.conv fn).busy then
        (b.setBit Reg.QF_PAUSED_FN fn true).setConv fn { b.conv fn with busy := false } else b
      (b.pend Reg.FLT_PEND_WEDGED).post 0x1004 3 0x49 [(1, fn)]
    else b

/-! ### Host records (R377) -/

/-- A PF write to FB_POST makes the PF's own record; SEV above 2 posts nothing (R377, R380). -/
def Block.fbPost (b : Block) (code sev : Nat) : Block :=
  if 2 < sev then b
  else b.post (0xF000 + code) sev 0 [(4, (b.rd Reg.FB_POST_ARG0).toNat), (4, (b.rd Reg.FB_POST_ARG1).toNat)]

/-- FB_POST (R377). -/
def execFbPost (code : BitVec 12) (sev : Fin 8) (s : State) : Host.Outcome State Fault Refusal :=
  answer "FB_POST" true s fun b => if b.reaches 0 then b.fbPost code.toNat sev else b

end Sys2Proof.Machine
end

