-- ==== Sys2Proof/Machine/Joins.lean ====
section
/-!
DEFINITION. How nodes join and leave (R262, R263, R266, R289, R306): ASSOC_REQ, JOIN_FWD, LEAVE, supervision.
-/

namespace Sys2Proof.Machine

/-! ### The answer to a join -/

/-- The 38 bytes of an ASSOC_RESP body before its FCS (R247). -/
def Block.assocBody (b : Block) (t : Nat) (long : BitVec 64) (short status phi : Nat) (mask : BitVec 112) (streams : Nat) :
    List Byte :=
  toLe 8 long.toNat ++ toLe 3 (short % 2 ^ 20 + status * 2 ^ 20) ++ toLe 4 (b.superframe % 2 ^ 29 + t * 2 ^ 29) ++
    toLe 2 (b.macTriad t).phiDev ++ toLe 2 phi ++ toLe 14 mask.toNat ++ toLe 1 streams ++
    toLe 2 (b.get Reg.MAC_CP_CTRL_CP_END_MIN) ++ toLe 2 (b.get Reg.MAC_SUPV_SUPV)

/-- Where a join came in: its triad; directly on a port in a band set, or through a relay with the SNR it reports. -/
inductive JoinVia where
  | direct (port bands : Nat)
  | relay (entry snr : Nat)
deriving DecidableEq, Repr

/-- Whether a waiting frame answers a join of a long address. -/
def Offer.answersJoin (o : Offer) (long : BitVec 64) : Bool :=
  (o.type == typeAssocResp && leAt o.body 0 8 == long.toNat) ||
    (o.type == typeRoute && byteAt o.body 0 == 9 && leAt o.body 1 8 == long.toNat)

/-- Offer the answer to a join (R262, R306): a new one replaces what still waits for the same node. A refused node has no
address to acknowledge under, so a refusal asks for no ACK. -/
def Block.answerJoin (b : Block) (t : Nat) (via : JoinVia) (long : BitVec 64) (accepted : Bool) (body : List Byte) : Block :=
  let b := { b with mac := { b.mac with offers := b.mac.offers.filter fun o => !o.answersJoin long } }
  match via with
  | .direct port bands =>
    b.offer { controlOffer typeAssocResp t (some port) addrUnassociated body with lastBands := bands, ackReq := accepted }
  | .relay y _ => b.controlTo y typeRoute (toLe 1 9 ++ body)

/-- Refuse a join: status 1 for want of room makes TABLE_FULL (R289), status 2 is the host's refusal (R284, R291). -/
def Block.refuseJoin (b : Block) (t : Nat) (via : JoinVia) (long : BitVec 64) (status : Nat) : Block :=
  let b := if status = 1 then
    (b.inc Reg.TRV_JOIN_REFUSED_COUNT).post 0x0807 1 20 [(1, b.joinFn t), (1, t)] else b
  b.answerJoin t via long false (b.assocBody t long 0 status 0 0 1)

/-! ### Taking an entry -/

/-- The parent of a joining node, its DEPTH and the LINK it starts with (R294, R306). -/
def Block.joinPlace (b : Block) (via : JoinVia) : Nat × Nat × Nat :=
  match via with
  | .direct _ _ => (addrDevice, 1, hopLink firstPhy.info.1 firstPhy.info.2 16)
  | .relay y snr => ((b.node y).short, (b.node y).depth + 1, b.snrLink snr)

/-- Whether a join under way takes precedence over a new one of the same node (R306): within one superframe the direct
reception wins, then the lower path metric, then the lower relay address. -/
def Block.joinStands (b : Block) (x : Nat) (long : BitVec 64) (via : JoinVia) : Bool :=
  let n := b.node x
  match (b.ext x).join, via with
  | some j, .relay y snr =>
    if n.long != long || n.state != 1 || 524288 < (b.brg.now - j.since).toNat then false
    else match j.relay with
      | none => true
      | some y0 =>
        let new := b.pathMetric (b.node y).short (b.snrLink snr)
        y0 != y && (n.metric < new || (n.metric == new && (b.node y0).short < (b.node y).short))
  | _, _ => false

/-- Carriers a new node may use: those of the sub-bands that its port permits and that its CAPS names (DESIGN CHOICE, log
entry 53: the spec gives CHMASK no value). -/
def Block.firstMask (b : Block) (port caps : Nat) : BitVec 112 :=
  BitVec.ofNat 112 (((indicesOf (b.permitted port &&& caps % 16)).map (2 ^ ·)).sum)

/-- Sounding forgets an entry's former node. -/
def Block.forgetNode (b : Block) (x : Nat) : Block :=
  let b := ((b.setFingerprint x .reset).setLink true x .reset).setLink false x .reset
  let mine (k : Nat) : Bool := coefKey 4 0 ≤ k && k < coefKey 5 0 && (k - coefKey 4 0) / 252 == x
  { b with sound := { b.sound with coefs := b.sound.coefs.filter fun p => !mine p.1 } }

/-- A node takes an entry (R289, R291, R324): a known node keeps its fingerprint reference, its time record and its phase
history, and its SEQ counters and maps are reset; a new node takes a fresh entry. -/
def Block.takeEntry (b : Block) (x t : Nat) (via : JoinVia) (long : BitVec 64) (caps phi : Nat) : Block :=
  let old := b.node x
  let same : Bool := old.state != 0 && old.long == long
  let b := if same then
      let fresh (l : LinkMap) : LinkMap := { LinkMap.reset with snr := l.snr }
      (b.setLink true x (fresh (b.link true x))).setLink false x (fresh (b.link false x))
    else b.forgetNode x
  let place := b.joinPlace via
  let base := if same then old else { Node.free with phase := 3, rxPort := 31 }
  let e := if same then b.ext x else .reset
  let port := match via with
    | .direct p _ => p
    | .relay y _ => (b.route y).port
  let b := b.dropLinks x
  let b := b.setExt x { e with
    ulMaps := [], dlMaps := [], hits := [], exhausted := 0, better := none, change := none, rdv := none, seen := []
    join := some { since := b.brg.now, relay := match via with
      | .direct _ _ => none
      | .relay y _ => some y }
    rcPending := none, mode := none, hold := [], chmask := b.firstMask port caps, chNext := none
    chstr := if caps.testBit 4 then 3 else 1, supvFrom := b.superframe }
  let b := b.setNode x { base with
    long := long, short := b.shortOf x, state := 1, depth := place.2.1, sleeps := caps.testBit 5, threePh := caps.testBit 4
    orphan := false, pinned := base.pinned && base.parent == place.1, caps := caps % 512, owner := b.joinFn t, rdvDir := false
    unreachable := false, phi := phi, parent := place.1, alt := addrBroadcast
    rxPort := match via with
      | .direct p _ => p
      | .relay _ _ => base.rxPort
    link := place.2.2, metric := b.pathMetric place.1 place.2.2, rcMiss := 0, lastSf := b.superframe % 2 ^ 29
    vnext := 0, rdvQ := 0, txSeq := 0, rxSeq := 0, pseq := 0, ulMap := 0, dlMap := 0, nverAck := 0, step := 0, fails := 0 }
  b.refreshRoutes x

/-- A join (R289, R306): the entry it takes, or its refusal, and the answer. -/
def Block.join (b : Block) (t : Nat) (via : JoinVia) (long : BitVec 64) (caps phi : Nat) : Block × Option Nat :=
  let blocked := b.trv.nodes.any fun p => p.2.state == 4 && p.2.long == long
  if !b.on Reg.MAC_CTRL_ASSOC_OPEN || blocked then (b.refuseJoin t via long 2, none)
  else match (b.rangeOf (b.joinFn t)).bind fun r => b.allocate r.1 r.2 long with
    | none => (b.refuseJoin t via long 1, none)
    | some x =>
      if b.joinStands x long via then (b, none)
      else
        let b := b.takeEntry x t via long caps phi
        let e := b.ext x
        (b.answerJoin t via long true (b.assocBody t long (b.shortOf x) 0 phi e.chmask e.chstr), some x)

/-- An ASSOC_REQ heard directly (R262, R263, R289). -/
def Block.assocReq (b : Block) (r : RxFrame) : Block :=
  match b.receive typeAssocReq r with
  | (b, none) => b
  | (b, some (hd, m)) =>
    let caps := leAt hd.mac 22 4
    if m.src ≠ addrUnassociated ∨ !fcsOk hd.mac 12 ∨ 512 ≤ caps ∨ b.standsBy hd.port ∨ !b.home then b
    else
      let t := hd.triad
      let phi := (16 * hd.stamp + 65536 - b.angleAt t hd.frame.sample0) % 65536
      let out := b.join t (.direct hd.port hd.frame.phy.bands) (BitVec.ofNat 64 (leAt hd.mac 14 8)) caps phi
      match out.2 with
      | some x => out.1.addOmega x (out.1.omegaOf t hd.stamp hd.frame.sample0) (out.1.origin hd.reception.bearing x)
      | none => out.1

/-- ASSOC_REQ_RECEIVED (R289). -/
def execAssocReqReceived (r : RxFrame) (s : State) : Host.Outcome State Fault Refusal :=
  answer "ASSOC_REQ_RECEIVED" true s fun b => b.assocReq r

/-- An estimate of a child's offset from what its parent reports (R318): once PH_EST of the parent is in use. -/
def Block.childOmega (b : Block) (parent child rel : Nat) (o : ObsFrom) : Block :=
  if (b.ext parent).omegas.length < 4 then b
  else b.addOmega child (((b.node parent).phEst + 2 * 65536 - rel % 65536 - 8) % 65536) o

/-- A join that a relay forwards (R306). -/
def Block.joinFwd (b : Block) (x : Nat) (hd : Heard) : Block :=
  let body := hd.body 16
  let n := b.node x
  let caps := leAt body 9 4
  let rel := leAt body 13 2
  if byteAt body 0 ≠ 8 ∨ !n.relay ∨ 15 ≤ n.depth ∨ 512 ≤ caps ∨ 512 ≤ (b.subtree x).length then b
  else
    let out := b.join (b.triadOf x) (.relay x (byteAt body 15)) (BitVec.ofNat 64 (leAt body 1 8)) caps ((n.phi + rel) % 65536)
    match out.2 with
    | some y => out.1.childOmega x y rel (out.1.origin hd.reception.bearing y)
    | none => out.1

/-- JOIN_FWD_RECEIVED (R306). -/
def execJoinFwdReceived (r : RxFrame) (s : State) : Host.Outcome State Fault Refusal :=
  answer "JOIN_FWD_RECEIVED" true s fun b => b.nodeFrame typeRoute r (fun _ => 16) fun b x hd _ => b.joinFwd x hd

/-! ### Leaving -/

/-- LEAVE_RECEIVED (R247): the association ends. -/
def execLeaveReceived (r : RxFrame) (s : State) : Host.Outcome State Fault Refusal :=
  answer "LEAVE_RECEIVED" true s fun b => b.nodeFrame typeLeave r (fun _ => 1) fun b x _ _ => b.lapse x

/-- SUPERVISION_EXPIRY (R266): the timer stands still while a rendezvous series stands. -/
def Block.superviseNode (b : Block) (x : Nat) : Block :=
  let e := b.ext x
  if !b.home || (b.node x).state != 2 || e.rdv.isSome || b.superframe < e.supvFrom + b.get Reg.MAC_SUPV_SUPV then b
  else (b.inc Reg.MAC_SUPV_LOST_COUNT).lapse x

/-- SUPERVISION_EXPIRY (R266). -/
def execSupervisionExpiry (node : NodeIx) (s : State) : Host.Outcome State Fault Refusal :=
  answer "SUPERVISION_EXPIRY" true s fun b => b.superviseNode node.toNat

end Sys2Proof.Machine
end

