-- ==== Sys2Proof/Machine/Traverse.lean ====
section
/-!
DEFINITION. What Traverse does when reports arrive and when its own moments come (08_traverse.md): MAP REPORT, NEIGH, RREP,
RC_MISS, relayed Cairns, route evaluation and change, repair; GASP notices (R281); the commands and latches of R292, R326.
-/

namespace Sys2Proof.Machine

/-! ### Reports of nodes -/

/-- A MAP REPORT (R224, R267): downlink SNR is taken as reported, unmeasured carriers keep theirs. -/
def Block.mapReport (b : Block) (x : Nat) (hd : Heard) : Block :=
  let body := hd.body 113
  if byteAt body 0 ≠ 0 || !b.on Reg.SND_CTRL_ENABLE then b
  else
    let l := b.link false x
    let snr := (List.range 112).map fun i => if byteAt body (1 + i) = 255 then l.snr.getD i 255 else byteAt body (1 + i)
    let old := if b.replicates then b.extBytes x else []
    let b := (b.setLink false x { l with snr := [] }).newFrame
    let limit := b.streamLimit x
    let b := b.observeSnr false x limit (b.downSnr x ((b.node x).rxPort / 3) limit snr) (b.origin hd.reception.bearing x)
    if b.replicates then b.replicate replExt x old (b.extBytes x) else b

/-- MAP_REPORT_RECEIVED (R267). -/
def execMapReportReceived (r : RxFrame) (s : State) : Host.Outcome State Fault Refusal :=
  answer "MAP_REPORT_RECEIVED" true s fun b => b.nodeFrame typeMap r (fun _ => 113) fun b x hd _ => b.mapReport x hd

/-- The entries of a NEIGH list: short address, SNR, REL. -/
def neighEntries (sf : Nat) (body : List Byte) : List Neigh :=
  (List.range (min 16 (byteAt body 0))).map fun i =>
    { short := leAt body (1 + 6 * i) 3 % 2 ^ 20, snr := byteAt body (4 + 6 * i), rel := leAt body (5 + 6 * i) 2, sf := sf % 65536 }

/-- A node of a suspect relay's subtree moves to the best candidate that avoids it (R311). -/
def Block.repairNode (b : Block) (x suspect : Nat) : Block :=
  let n := b.node x
  let cs := (b.candidates x).filter fun c => c != suspect && !(b.pathFrom 16 c).contains suspect
  if n.pinned || (b.ext x).change.isSome then b
  else match b.bestOf x cs with
    | some c => b.startChange x c (b.altFor x c)
    | none => b

/-- The suspect relay on a node's path, if there is one. -/
def Block.suspectAbove (b : Block) (x : Nat) : Option Nat :=
  (b.pathUp x).find? fun a => match b.indexOf a with
    | some y => (b.node y).orphan && (b.node y).relay
    | none => false

/-- A neighbour list (R301, R302, R318): it replaces the node's, gives estimates of its children, and in a repair moves the
node (R311). -/
def Block.neighbours (b : Block) (x : Nat) (hd : Heard) (list : List Byte) : Block :=
  let es := neighEntries b.superframe list
  let b := b.modExt x fun e => { e with neigh := es }
  let short := (b.node x).short
  let b := es.foldl (fun b e => match b.indexOf e.short with
    | some y =>
      if (b.node y).parent = short ∧ (b.node y).state = 2 then b.childOmega x y e.rel (b.origin hd.reception.bearing y) else b
    | none => b) b
  match b.suspectAbove x with
  | some a => b.repairNode x a
  | none => b

/-- Bytes of a NEIGH body, and of a RREP body. -/
def neighLength (mac : List Byte) : Nat := 2 + 6 * byteAt mac 15
def rrepLength (mac : List Byte) : Nat := 5 + 6 * byteAt mac 18

/-- NEIGH_RECEIVED (R302). -/
def execNeighReceived (r : RxFrame) (s : State) : Host.Outcome State Fault Refusal :=
  answer "NEIGH_RECEIVED" true s fun b => b.nodeFrame typeRoute r neighLength fun b x hd _ =>
    let body := hd.body (neighLength hd.mac)
    if byteAt body 0 = 0 ∧ byteAt body 1 ≤ 16 then b.neighbours x hd (body.drop 1) else b

/-- RREP_RECEIVED (R311): a node of a suspect's subtree reports what it hears. -/
def execRrepReceived (r : RxFrame) (s : State) : Host.Outcome State Fault Refusal :=
  answer "RREP_RECEIVED" true s fun b => b.nodeFrame typeRoute r rrepLength fun b x hd _ =>
    let body := hd.body (rrepLength hd.mac)
    if byteAt body 0 = 7 ∧ byteAt body 4 ≤ 16 then b.neighbours x hd (body.drop 4) else b

/-- RC_MISS_RECEIVED (R308): the monitor of a relay at depth 2 or more reports its misses. -/
def execRcMissReceived (r : RxFrame) (s : State) : Host.Outcome State Fault Refusal :=
  answer "RC_MISS_RECEIVED" true s fun b => b.nodeFrame typeRoute r (fun _ => 5) fun b x hd _ =>
    let body := hd.body 5
    match byteAt body 0, b.indexOf (leAt body 1 3 % 2 ^ 20) with
    | 5, some y =>
      let n := b.node y
      if n.relay ∧ n.state = 2 ∧ n.parent = (b.node x).short then
        let b := b.modNode y fun n => { n with rcMiss := min 3 (byteAt body 4) }
        if 3 ≤ byteAt body 4 then b.orphanSuspect y else b
      else b
    | _, _ => b

/-! ### Relayed Cairns (R242, R305) -/

/-- The start of a relay's slot in a superframe (R241). -/
def Block.slotStart (b : Block) (n : Node) (sf : Nat) : Bearing :=
  binStart sf (b.relayStart (n.rcBand == 1) + n.rcSlot * b.slotBins (n.rcBand == 1))

/-- Whether a relay at depth 1 sends its Cairn in a superframe, and the device is its monitor. -/
def Block.monitors (b : Block) (x sf : Nat) : Bool :=
  let n := b.node x
  b.home && n.state == 2 && n.relay && n.depth == 1 && sf % b.rcPeriod == n.rcPhase

/-- Whether two bearings lie within 512 bu of each other. -/
def near512 (x y : Bearing) : Bool := (x - y).toNat ≤ 512 || (y - x).toNat ≤ 512

/-- A relayed Cairn (R246, R305): its relay is known by triad, sub-band and slot. -/
def Block.cairnC (b : Block) (c : CairnC) : Block :=
  match b.heardOn c.lane [] with
  | none => b
  | some h =>
    let start := h.frame.sample0
    let sf := superframeOf start
    let is (p : Nat × Node) : Bool :=
      b.monitors p.1 sf && b.triadOf p.1 == h.triad && h.sb == (if p.2.rcBand = 1 then 0 else 3) &&
        near512 start (b.slotStart p.2 sf)
    if h.type ≠ typeCairnC then b
    else
      let b := b.endReception h
      let bits := h.frame.bits
      if (b.gaspClose h.triad).isSome || b.standsBy h.port || bitsAt bits 14 3 != h.triad || bitsAt bits 17 4 != 1 ||
          bitsAt bits 4 10 != sf % 1024 then b
      else match b.trv.nodes.find? is with
      | some p => (b.relayHeard p.1).noteHeard p.1 h
      | none => b

/-- CAIRN_C_RECEIVED (R305). -/
def execCairnCReceived (c : CairnC) (s : State) : Host.Outcome State Fault Refusal :=
  answer "CAIRN_C_RECEIVED" true s fun b => b.cairnC c

/-- A relayed Cairn is missed (R242, R305, R308): none counts in whose span the device itself sends on the triad and
sub-band. -/
def Block.cairnMissed (b : Block) (x : Nat) : Block :=
  let sf := b.superframe
  let n := b.node x
  let start := b.slotStart n sf
  let band := if n.rcBand = 1 then 1 else 8
  let meets (bands : Nat) (a e : Bearing) : Bool := bands &&& band != 0 &&
    spansMeet a e (start - 512) (start + BitVec.ofNat 48 (512 * b.slotBins (n.rcBand == 1)))
  let sends := b.mac.txs.any (fun y => y.ports.any (fun p => p / 3 == b.triadOf x) && meets y.bands y.start y.last) ||
    b.brg.spans.any fun y => !y.received && y.port / 3 == b.triadOf x && meets y.bands y.start y.last
  if !b.monitors x sf || ahead (start + 512) b.brg.now || sends || b.standsBy (b.route x).port then b
  else
    let miss := min 3 (n.rcMiss + 1)
    let b := b.modNode x fun n => { n with rcMiss := miss }
    if miss = 3 then b.orphanSuspect x else b

/-- RELAYED_CAIRN_MISSED (R305). -/
def execRelayedCairnMissed (node : NodeIx) (s : State) : Host.Outcome State Fault Refusal :=
  answer "RELAYED_CAIRN_MISSED" true s fun b => b.cairnMissed node.toNat

/-! ### GASP notices (R279, R281) -/

/-- The 16 bytes of a notice (R281). -/
def Block.gaspNotice (b : Block) (h : Heard) (short snr : Nat) : List Byte :=
  toLe 3 short ++ toLe 1 (h.port % 32 + h.sb * 32 + (if (b.indexOf short).isNone then 128 else 0)) ++
    toLe 6 h.reception.bearing.toNat ++ toLe 2 snr ++ toLe 4 (b.dtm.a.t / secUnits)

/-- A GASP frame (R169, R281). -/
def Block.gasp (b : Block) (g : GaspFrame) : Block :=
  match b.heardOn g.lane [] with
  | none => b
  | some h =>
    if h.type ≠ 15 then b
    else if b.standsBy h.port then b.endReception h
    else
      let b := b.endReception h
      let b := b.inc Reg.MAC_GASP_RX_COUNT
      let short := bitsAt h.frame.bits 4 20
      let b := match (b.indexOf short).filter fun x => (b.node x).state == 2 with
        | some x => b.noteHeard x h
        | none => b
      let recent := b.mac.gasps.filter fun p => (h.reception.bearing - p.2).toNat < 2097152
      let m := b.macTriad h.triad
      let inWindow := (b.gaspClose h.triad).isSome
      if recent.any fun p => p.1 == short then
        let b := b.inc Reg.MAC_GASP_DUP_COUNT
        if inWindow then b.setMacTriad h.triad { m with gaspDups := m.gaspDups + 1 } else b
      else if !b.on Reg.MAC_GASP_ENABLE then b
      else
        let b := { b with mac := { b.mac with gasps := recent ++ [(short, h.reception.bearing)] } }
        let b := if inWindow then b.setMacTriad h.triad { m with gaspNotices := m.gaspNotices + 1 } else b
        b.produce (b.get Reg.MAC_GASP_QUEUE)
          { bytes := b.gaspNotice h short g.snr.toNat, prio := 0, prov := false, orig := short, pseq := 0, producer := 19 }

/-- GASP_RECEIVED (R281). -/
def execGaspReceived (g : GaspFrame) (s : State) : Host.Outcome State Fault Refusal :=
  answer "GASP_RECEIVED" true s fun b => b.gasp g

/-! ### Traverse's own moments -/

/-- ROUTE_EVALUATION (R296, R297, R303). -/
def execRouteEvaluation (node : NodeIx) (s : State) : Host.Outcome State Fault Refusal :=
  answer "ROUTE_EVALUATION" true s fun b => (b.evaluateRoute node.toNat).considerRelay node.toNat

/-- A route change reaches its EFF (R299). -/
def Block.changeDue (b : Block) (x : Nat) : Block :=
  match (b.ext x).change with
  | some c => if !b.home || b.superframe < c.eff then b else if c.owed.isEmpty then b.applyChange x c else b.cancelChange x
  | none => b

/-- ROUTE_CHANGE_EFF (R299). -/
def execRouteChangeEff (node : NodeIx) (s : State) : Host.Outcome State Fault Refusal :=
  answer "ROUTE_CHANGE_EFF" true s fun b => b.changeDue node.toNat

/-- REPAIR_DEADLINE (R311): REPAIR_SF superframes after the suspicion. -/
def execRepairDeadline (node : NodeIx) (s : State) : Host.Outcome State Fault Refusal :=
  answer "REPAIR_DEADLINE" true s fun b =>
    match b.trv.repairs.find? fun r => r.relay == node.toNat with
    | some r => if !b.home || b.superframe < r.since + b.get Reg.TRV_REPAIR_REPAIR_SF then b else b.endRepair r
    | none => b

/-! ### Commands (R324, R326) -/

/-- Complete a TRV_CMD; fixed vector 8 follows (R573). -/
def Block.trvDone (b : Block) (status : Nat) : Block := (b.set Reg.TRV_CMD_RESULT_STATUS status).raiseFixed 8

/-- A TRV_CMD on the entry TRV_CMD_NODE names (R322, R324): STATE_REJECT on a REPLICA table, or where the entry's state does
not allow it. -/
def Block.trvCmd (b : Block) (ok : Node → Bool) (f : Nat → Block → Block) : Block :=
  let x := b.get Reg.TRV_CMD_NODE_INDEX
  if !b.home || !ok (b.node x) then b.trvDone stStateReject else f x b

/-- The host frees an entry (R324): LEAVE goes out ahead of the parcels, which complete with REVOKED. -/
def Block.freeNode (b : Block) (x : Nat) : Block :=
  let n := b.node x
  let b := if n.state = 2 then b.controlTo x typeLeave [0] else b
  ((((b.revokeNode n.short).dropLinks x).setNode x .free).setExt x .reset).setRoute x .none

/-- FREE (R326). -/
def Block.freeCmd (b : Block) : Block :=
  b.trvCmd (fun n => n.state != 0) fun x b => (b.freeNode x).trvDone stOK

/-- FREE (R326). -/
def execFree (s : State) : Host.Outcome State Fault Refusal := answer "FREE" true s fun b => b.byPf Block.freeCmd

/-- BLOCK (R326): what waits for the node is revoked. -/
def Block.blockCmd (b : Block) : Block :=
  b.trvCmd (fun n => n.state != 0 && n.state != 4) fun x b =>
    (((b.revokeNode (b.node x).short).dropLinks x).modNode x fun n => { n with state := 4, rdvQ := 0 }).trvDone stOK

/-- BLOCK (R326). -/
def execBlock (s : State) : Host.Outcome State Fault Refusal := answer "BLOCK" true s fun b => b.byPf Block.blockCmd

/-- UNBLOCK (R326): the entry becomes LAPSED, so that its node may join again (DESIGN CHOICE, log entry 54). -/
def Block.unblockCmd (b : Block) : Block :=
  b.trvCmd (fun n => n.state == 4) fun x b =>
    (b.modNode x fun n => { n with state := 3 }).trvDone stOK

/-- UNBLOCK (R326). -/
def execUnblock (s : State) : Host.Outcome State Fault Refusal := answer "UNBLOCK" true s fun b => b.byPf Block.unblockCmd

/-- PIN (R326): a parent that does not satisfy R296 is INVALID. -/
def Block.pinNode (b : Block) (x : Nat) : Block :=
  let parent := b.get Reg.TRV_CMD_ARG_PARENT
  if !b.eligible x parent then b.trvDone stInvalid
  else if (b.ext x).change.isSome then b.trvDone stStateReject
  else
    let b := b.modNode x fun n => { n with pinned := true }
    let b := b.setRoute x (b.route x)
    (if parent = (b.node x).parent then b else b.startChange x parent (b.altFor x parent)).trvDone stOK

/-- PIN (R326). -/
def Block.pinCmd (b : Block) : Block :=
  b.trvCmd (fun n => n.state == 2) fun x b => b.pinNode x

/-- PIN (R326). -/
def execPin (s : State) : Host.Outcome State Fault Refusal := answer "PIN" true s fun b => b.byPf Block.pinCmd

/-- UNPIN (R326). -/
def Block.unpinCmd (b : Block) : Block :=
  b.trvCmd (fun n => n.state == 2 && n.pinned) fun x b =>
    (b.modNode x fun n => { n with pinned := false }).trvDone stOK

/-- UNPIN (R326). -/
def execUnpin (s : State) : Host.Outcome State Fault Refusal := answer "UNPIN" true s fun b => b.byPf Block.unpinCmd

/-- REPAIR (R326): the node is treated as orphan-suspect. -/
def Block.repairCmd (b : Block) : Block :=
  b.trvCmd (fun n => n.state == 2 && n.relay && !n.orphan) fun x b =>
    (b.orphanSuspect x).trvDone stOK

/-- REPAIR (R326). -/
def execRepair (s : State) : Host.Outcome State Fault Refusal := answer "REPAIR" true s fun b => b.byPf Block.repairCmd

/-- PH_RESET (R326): the node's phase identification starts again (R319, R320). -/
def Block.phResetCmd (b : Block) : Block :=
  b.trvCmd (fun n => n.state == 2) fun x b =>
    let b := b.modExt x fun e => { e with omegas := [], moves := [] }
    (b.modNode x fun n => { n with phEst := 0, phCode := 0, phase := 3, phTriad := 0 }).trvDone stOK

/-- PH_RESET (R326). -/
def execPhReset (s : State) : Host.Outcome State Fault Refusal := answer "PH_RESET" true s fun b => b.byPf Block.phResetCmd

/-! ### Latches (R292, R326) -/

/-- A write to TRV_RT_NODE latches the route entry that INDEX names (R326); the reserved bits 31:17 are ignored (R7). A field
of 17 bits holds no index above 131,071 (R327). -/
def Block.routeLatch (b : Block) (v : Nat) : Block :=
  let x := v % 2 ^ 17
  let bytes := (b.route x).toBytes (b.node x).pinned
  let b := b.set Reg.TRV_RT_NODE_INDEX x
  (List.range 4).foldl (fun b i => b.wr (Reg.TRV_RT_DATA i) (BitVec.ofNat 32 (leAt bytes (4 * i) 4))) b

/-- ROUTE_ENTRY_LATCH (R326). -/
def execRouteEntryLatch (v : Word) (s : State) : Host.Outcome State Fault Refusal :=
  answer "ROUTE_ENTRY_LATCH" true s fun b => b.byPf fun b => b.routeLatch v.toNat

/-- A read in the node-table window (R292): the first word latches its entry for the reading master; other words come from
what that master has latched. -/
def Block.nodeRead (b : Block) (x word m : Nat) : Block :=
  b.readBy m fun b =>
    let b := if word = 0 then
      { b with trv := { b.trv with latches := Store.put (fun _ => []) b.trv.latches m (b.node x).toBytes } } else b
    b.answerWith (.word (BitVec.ofNat 32 (leAt (Store.get (fun _ => []) b.trv.latches m) (4 * word) 4)))

/-- NODE_ENTRY_READ (R292). -/
def execNodeEntryRead (node : NodeIx) (word : Fin 16) (master : Fin 32) (s : State) : Host.Outcome State Fault Refusal :=
  answer "NODE_ENTRY_READ" true s fun b => b.nodeRead node.toNat word master

end Sys2Proof.Machine
end

