-- ==== Sys2Proof/Machine/Reads.lean ====
section
/-!
DEFINITION. What a read returns (R4, R8, R65, R537, R541, R565, R567 to R569). The reads that have an effect of their own
are commands with rows of their own; every other read changes nothing, and what it returns is a function of the state,
given here.
-/

namespace Sys2Proof.Machine

/-- The index of the instance of a register at an offset. -/
def instanceAt (reg : Nat → Nat) (count off : Nat) : Option Nat := (List.range count).find? fun i => reg i == off

/-- The cipher page that an offset of BAR0 lies in (R423). -/
def cipherPage (off : Nat) : Option Nat :=
  if 0x180000 ≤ off ∧ off < 0x190000 then some ((off - 0x180000) / 0x1000)
  else if 0x198000 ≤ off ∧ off < 0x199000 then some linkPage
  else none

/-- The user page of the cipher that a function holds (R381). -/
def Block.heldPage (b : Block) (fn : Nat) : Option Nat := (List.range 16).find? fun p => b.pageFn p == fn

/-- A word of the MSI-X table of a function (R568, R569): address, data, and the mask in bit 0. -/
def Block.msixWord (b : Block) (fn o : Nat) : Word :=
  if vectorsOf fn ≤ o / 16 then 0
  else
    let e := b.msixEntry fn (o / 16)
    match o % 16 / 4 with
    | 0 => BitVec.ofNat 32 e.addr.toNat
    | 1 => BitVec.ofNat 32 (e.addr.toNat / 2 ^ 32)
    | 2 => e.data
    | _ => if e.masked then 1 else 0

/-- A word of the pending-bit array of a function (R568, R569). -/
def Block.pbaWord (b : Block) (fn o : Nat) : Word :=
  BitVec.ofNat 32 (((List.range 32).map fun i =>
    let v := 8 * o + i
    if v < vectorsOf fn && b.vectorPending fn v then 2 ^ i else 0).sum)

/-- Whether an offset lies among the LP_G3_ registers of a port without a G3 lane, where it holds no register (R8, R340). -/
def Block.g3Absent (b : Block) (off : Nat) : Bool :=
  0x80000 ≤ off && off < 0x98000 && 0x200 ≤ off % 0x1000 && off % 0x1000 < 0x240 && !b.g3Bound ((off - 0x80000) / 0x1000)

/-- The word a register shows a master, with the latches of R124 and R440 the windows (R117, R235, R293), and the PF's
MSI-X arrays and CONV_STAT (R568). -/
def Block.shownWord (b : Block) (m off : Nat) : Word :=
  let latched := Store.get (fun _ => (0 : Word)) b.dtm.latches (latchKey m (off - 0x50000))
  if b.g3Absent off then 0
  else if off = Reg.BRG_NOW_HI then Store.get (fun _ => 0) b.brg.latches m
  else if 0x48000 ≤ off ∧ off < 0x4E000 then
    BitVec.ofNat 32 (b.noiseEntry ((off - 0x48000) / 2) + b.noiseEntry ((off - 0x48000) / 2 + 1) * 2 ^ 16)
  else if 0x50000 ≤ off ∧ off < 0x60000 ∧ ((off % 0x40 = 0x14 ∨ off % 0x40 = 0x18) ∧ off < 0x50080 ∨
      0x500D0 ≤ off ∧ off < 0x50100 ∨ 0x50160 ≤ off ∧ off < 0x50180 ∨ 0x501A0 ≤ off ∧ off < 0x501C0) then latched
  else if 0xC1000 ≤ off ∧ off < 0xC1040 then
    BitVec.ofNat 32 (leAt (b.printWindow (b.get Reg.SND_FP_NODE_INDEX)) (off - 0xC1000) 4)
  else if 0xE1000 ≤ off ∧ off < 0xE1800 then
    BitVec.ofNat 32 (leAt (b.extBytes (b.get Reg.TRV_EXT_NODE_INDEX)) (off - 0xE1000) 4)
  else if 0x1F1000 ≤ off ∧ off < 0x1F2000 then b.msixWord 0 (off - 0x1F1000)
  else if 0x1F2000 ≤ off ∧ off < 0x1F2020 then b.pbaWord 0 (off - 0x1F2000)
  else if off = 0x1F3FF4 then BitVec.ofNat 32 (b.convStat 0)
  else b.word off

/-- A read that has an effect of its own (R124, R292, R440, R442, R454, R517), if it is one. -/
def Block.readSpecial (b : Block) (m off : Nat) : Option Block :=
  if off = Reg.BRG_NOW_LO then some (b.brgNow m)
  else if off = Reg.DTM_TXS_DATA 0 then some (b.txsRead m)
  else if 0x400000 ≤ off ∧ off < 0xC00000 then some (b.nodeRead ((off - 0x400000) / 64) (off % 64 / 4) m)
  else match instanceAt Reg.DTM_NOW_SEC_LO 2 off, instanceAt (fun k => Reg.DTM_TSI_DATA k 0) 2 off,
      instanceAt Reg.SP_RX 2 off with
    | some x, _, _ => some (b.datumNow x m)
    | _, some k, _ => some (b.tsiRead k m)
    | _, _, some p => some (b.spRxRead p m)
    | none, none, none => none

/-- VF_INFO of a VF (R569): its number, the cipher page it holds or 31, how many queues it owns. -/
def Block.vfInfo (b : Block) (fn : Nat) : Word :=
  BitVec.ofNat 32 (fn + 2 ^ 4 * (b.heldPage fn).getD 31 + 2 ^ 9 * ((b.owned fn).length % 2 ^ 11))

/-- Two entries of QMAP of a VF (R569): the numbers of the queues it owns, 0xFFFF beyond the last. -/
def Block.qmapWord (b : Block) (fn o : Nat) : Word :=
  let entry (k : Nat) : Nat := (b.owned fn)[k]?.getD 0xFFFF
  BitVec.ofNat 32 (entry (o / 2) + 2 ^ 16 * entry (o / 2 + 1))

/-- What a read of the PF at an aligned offset of BAR0 returns where the read has no effect of its own (R567, R568): 0 at
an offset the state does not open (R65, R537). -/
def Block.pfWord (b : Block) (off : Nat) : Word :=
  let open_ : Bool := match b.dev with
    | .reset => false
    | .load => off < 0x20000
    | .quiet => off < 0x10000 || (0x20000 ≤ off && off < 0x40000)
    | _ => true
  if open_ then b.shownWord 0 off else 0

/-- What a read of a VF at an aligned offset of its window returns (R569); 0 in LOAD and QUIET (R65, R537). -/
def Block.vfWord (b : Block) (fn off : Nat) : Word :=
  if b.dev == .load || b.dev == .quiet || b.dev == .reset then 0
  else if off < 0x1000 then
    match b.heldPage fn with
    | some p => b.word (Reg.cxPage p + off)
    | none => 0
  else if off = 0x1FF4 then BitVec.ofNat 32 (b.convStat fn)
  else if off < 0x3000 then 0
  else if off < 0x3100 then b.msixWord fn (off - 0x3000)
  else if off < 0x3108 then b.pbaWord fn (off - 0x3100)
  else if off = 0x3200 then b.vfInfo fn
  else if off < 0x3400 then 0
  else if off < 0x4000 then b.qmapWord fn (off - 0x3400)
  else match (b.owned fn)[(off - 0x4000) / 32]? with
    | some q => b.word (Reg.QD_CFG q + off % 32)
    | none => 0

/-- What a function's read of 4 aligned bytes returns: none is Unsupported Request (R4, R565); a frozen function reads
ones (R541). -/
def Block.readWord (b : Block) (fn off : Nat) : Option Word :=
  if off % 4 ≠ 0 ∨ b.dev = .reset ∨ !b.present fn ∨ !(b.config fn).mse then none
  else if b.frozen fn then some 0xFFFFFFFF
  else some (if fn = 0 then b.pfWord off else b.vfWord fn off)

end Sys2Proof.Machine
end

