-- ==== Sys2Proof/Machine/Chain.lean ====
section
/-!
DEFINITION. The Chain (13_chain.md), first part: cells received (R457, R458), roles and SYNCs (R460 to R473), the join
(R462, R463), link delays (R465), loss of sync and of signal (R469, R473, R475), what CHN_STAT and the roster show.
-/

namespace Sys2Proof.Machine

/-! ### Cells received (R457, R458) -/

/-- A cell that has passed its checks. -/
structure Cell where
  kind : Nat
  src : Nat
  dst : Nat
  bcast : Bool
  seq : Nat
  body : List Byte
deriving DecidableEq, Repr

/-- The cell that 72 bytes spell: none where the CRC fails or the kind is unknown (R457). -/
def cellOf (bytes : List Byte) : Option Cell :=
  let kind := byteAt bytes 0
  let a := byteAt bytes 1
  let body := slice bytes 8 64
  if leAt bytes 4 4 ≠ crc32c (slice bytes 0 4 ++ body) ∨ kind = 0 ∨ 10 < kind then none
  else some { kind := kind, src := a % 8, dst := a / 8 % 8, bcast := a.testBit 6, seq := leAt bytes 2 2, body := body }

/-- Its bytes, with the body it has now. -/
def Cell.toBytes (c : Cell) : List Byte := cellBytes c.kind c.src c.dst c.bcast c.seq c.body

/-- The rank of the device. -/
def Block.rank (b : Block) : Nat := b.get Reg.CHN_ID_RANK

/-- Whether the receivers of a ring are at work: the SerDes are enabled from SETTLE on (R462), but not in QUIET or HOLD
(R489), and the input shows valid code groups (R475). -/
def Block.hears (b : Block) (ringB : Bool) : Bool :=
  b.chainEnabled && (b.dev == .settle || b.dev == .service) &&
    !(if ringB then b.on Reg.CHN_STAT_LOS_B else b.on Reg.CHN_STAT_LOS_A)

/-- A cell arrives (R457): one whose CRC fails or whose kind is unknown is dropped and counted; one of another kind than the
command names is not this command's. -/
def Block.openCell (b : Block) (ringB : Bool) (kind : Nat) (bytes : List Byte) : Block × Option Cell :=
  if !b.hears ringB then (b, none)
  else match cellOf bytes with
    | none => (b.inc Reg.CHN_CELL_ERR_COUNT, none)
    | some c => (b, if c.kind = kind then some c else none)

/-- Whether a cell has been kept before (R457). -/
def Block.hasSeen (b : Block) (c : Cell) : Bool := b.chain.seen.contains (c.src, c.seq)

/-- Keep a cell's identity; 64 of them tell the second copy of a cell from a new one. -/
def Block.keep (b : Block) (c : Cell) : Block :=
  { b with chain := { b.chain with seen := ((c.src, c.seq) :: b.chain.seen).take 64 } }

/-- A cell that is not for the device alone goes on round its ring (R458); a device takes its own cells off. -/
def Block.forward (b : Block) (ringB : Bool) (c : Cell) : Block :=
  if c.src = b.rank then b else b.putCell ringB c.toBytes

/-- Take a cell of a kind that is sent on both rings: it is forwarded, and answered if it is for the device, from another
device, and the first copy (R457). -/
def Block.takeCell (b : Block) (ringB : Bool) (kind : Nat) (bytes : List Byte) : Block × Option Cell :=
  match b.openCell ringB kind bytes with
  | (b, none) => (b, none)
  | (b, some c) =>
    let b := b.forward ringB c
    if c.src = b.rank ∨ b.hasSeen c then (b, none)
    else (b.keep c, if c.bcast ∨ c.dst = b.rank then some c else none)

/-! ### What the Chain shows (R480, R491) -/

/-- Paired ports. -/
def Block.pairedPorts (b : Block) : List Nat := (List.range 24).filter fun n => b.on (Reg.LP_CTRL_PAIRED n)

/-- CHN_STAT.STATE (R491). -/
def Block.chainState (b : Block) : Nat :=
  if !b.chainEnabled || !(b.dev == .settle || b.dev == .service) then 0
  else if b.chain.holdover then 3
  else match b.chain.role with
    | .master => 4
    | .isolated => 4
    | .none => 1
    | _ => if b.chain.joined then 2 else 1

/-- Whether a standby is READY (R480). -/
def Block.standbyReady (b : Block) : Bool :=
  b.chain.role == .standby && b.dev == .service && !b.chain.holdover &&
    (match b.chain.followStart with
     | some s => 64 * 65536 ≤ (b.brg.now - s).toNat
     | none => false) &&
    b.on Reg.TRV_REPL_STAT_LINKED && b.chain.copyDone &&
    b.pairedPorts.all fun n => b.get (Reg.LP_STATUS_STATE n) == 4 && 6 ≤ (b.healthySlices n).length

/-- Ports under remote drive follow (R479), each change with its record. -/
def Block.refreshRemote (b : Block) : Block :=
  (List.range 24).foldl (fun b n =>
    let now := b.remoteDriven n
    if now = b.bit Reg.CHN_PAIR_STAT_REMOTE n then b
    else (b.setBit Reg.CHN_PAIR_STAT_REMOTE n now).post 0x0D09 2 0x46 [(1, n), (1, if now then 0 else 1)]) b

/-- Entries of the initial copy of the partition (R480), then the mark that it is complete. -/
def Block.initialCopy (b : Block) : Block :=
  let b := b.trv.nodes.foldl (fun b p => b.replicate replCore p.1 [] p.2.toBytes) b
  let b := b.trv.routes.foldl (fun b p => b.replicate replRoute p.1 [] (p.2.toBytes (b.node p.1).pinned)) b
  let b := b.trv.nodes.foldl (fun b p => b.replicate replExt p.1 [] (b.extBytes p.1)) b
  let b := (b.pageCtxs linkPage).foldl (fun b p => b.replicate replCtx p.1 [] p.2.toBytes) b
  let b := b.g3.foldl (fun b p => p.2.neigh.foldl (fun b x => b.replicate replG3 (p.1 * 2 ^ 16 + x.short) [] x.toBytes) b) b
  let b := b.pairedPorts.foldl (fun b n => (List.range 4).foldl (fun b s =>
    b.replicate replAccount (4 * n + s) [] (toLe 4 (b.account n s))) b) b
  let b := b.mac.grants.foldl (fun b g => b.sendPiece replGrant 0 g.superframe (toLe 1 g.triad ++ toLe 1 g.bands ++
    toLe 2 g.start ++ toLe 2 g.len ++ toLe 4 g.superframe ++ toLe 3 g.node)) b
  let b := (List.range 8).foldl (fun b t =>
    let b := b.replicate replTriad t [] (b.triadBytes t)
    let m := b.macTriad t
    let set (s : NotchSet) : List Byte := toLe 1 s.version ++ toLe 1 s.fragments.length ++ s.fragments.flatten
    let b := b.replicate replNotch (t + 8) [] (set m.inForce)
    match m.pending with
    | some (s, _) => b.replicate replNotch t [] (set s)
    | none => b) b
  b.sendPiece replDone 0 0 []

/-- A replica begins anew when its path comes up: the copy that follows fills it (R322, R480). -/
def Block.emptyReplica (b : Block) : Block :=
  let b := { b with
    trv := TrvSt.reset
    cx := { b.cx with ctxs := b.cx.ctxs.filter fun p => p.1 / 2 ^ 19 != linkPage }
    chain := { b.chain with copyDone := false, notchBytes := [] } }
  (b.refreshPage linkPage).refreshCounts

/-- Whether the replication path to the partner is up: both are in the roster, as master and standby. -/
def Block.partnerUp (b : Block) : Bool :=
  match b.partner with
  | some p => (b.chain.role == .master || b.chain.role == .standby) && b.chain.joined && !b.chain.holdover &&
      b.bit Reg.CHN_ROSTER_PRESENT p
  | none => false

/-- TRV_REPL_STAT.LINKED follows the path; at its rise the HOME side copies its partition, and the replica makes room. -/
def Block.refreshLinked (b : Block) : Block :=
  let up := b.partnerUp
  if up = b.on Reg.TRV_REPL_STAT_LINKED then b
  else
    let b := b.setOn Reg.TRV_REPL_STAT_LINKED up
    if !up then { b with chain := { b.chain with copyDone := false } }
    else if b.home then b.initialCopy else b.emptyReplica

/-- What the Chain's status fields show. -/
def Block.refreshChain (b : Block) : Block :=
  let b := b.refreshLinked
  (b.setAll [(Reg.CHN_STAT_STATE, b.chainState), (Reg.CHN_STAT_READY, bitOf b.standbyReady)]).refreshRemote

/-! ### SYNCs sent (R464) -/

/-- A Datum value in a SYNC: seconds, nanoseconds, fraction. -/
def datumBytes (t : Nat) : List Byte :=
  toLe 6 (t / secUnits) ++ toLe 4 (t % secUnits / 2 ^ 32) ++ toLe 2 (t / 2 ^ 16 % 2 ^ 16)

/-- The bearing with its fraction, in units of 2^-16 bu. -/
def Block.fineBearing (b : Block) : Nat := b.brg.now.toNat * 65536 + b.brg.acc * 65536 / 10 ^ 15

/-- The body of a SYNC (R464). The reserved bytes 48 to 51 gather the ranks that it passes: present, READY, swapped, and done
with a snapshot or handover (DESIGN CHOICE, log entry 57: the spec does not say how the master learns them). -/
def Block.syncBody (b : Block) (seq : Nat) : List Byte :=
  toLe 2 seq ++ toLe 2 (b.get Reg.CHN_ROSTER_MEPOCH) ++
    toLe 1 (b.rank + (if b.brg.state = .holdover then 8 else 0)) ++ toLe 1 (b.get Reg.CHN_ROSTER_PRESENT) ++
    toLe 1 (b.get Reg.CHN_ROSTER_READY) ++ toLe 1 (b.chain.dstepA + 16 * b.chain.dstepB) ++ toLe 6 b.brg.now.toNat ++
    toLe 2 (b.fineBearing % 65536) ++ datumBytes b.dtm.a.t ++ datumBytes b.dtm.b.t ++ toLe 4 0 ++
    toLe 4 (b.get Reg.BRG_FREQ_FREQ) ++ List.replicate 16 0

/-- The master sends a SYNC (R463, R464): only with its bearing started; a closed bypass keeps it off its ring. -/
def Block.sendSync (b : Block) : Block :=
  if !b.chainEnabled || b.chain.role != .master || !b.running then b
  else
    let b := b.set Reg.CHN_ROSTER_PRESENT (b.get Reg.CHN_ROSTER_PRESENT ||| 2 ^ b.rank)
    let seq := (b.get Reg.CHN_SYNC_SEQ_SEQ + 1) % 65536
    (b.set Reg.CHN_SYNC_SEQ_SEQ seq).sendCell kindSync 0 true (b.syncBody seq)

/-- SYNC_SEND (R464). -/
def execSyncSend (s : State) : Host.Outcome State Fault Refusal := answer "SYNC_SEND" true s fun b => b.sendSync

/-! ### SYNCs received (R460, R461, R465 to R468, R471) -/

/-- The fields of a SYNC; the estimates of R466 are those at its arrival, bearing in 2^-16 bu, Datum in 2^-32 ns. -/
structure SyncView where
  seq : Nat
  mepoch : Nat
  rank : Nat
  present : Nat
  ready : Nat
  dstepA : Nat
  dstepB : Nat
  bearing : Nat
  timeA : Nat
  timeB : Nat
  res : Nat
  freq : Nat
deriving DecidableEq, Repr

/-- What a SYNC says (R464, R466). -/
def syncOf (body : List Byte) : SyncView :=
  let res := leAt body 40 4
  let freq := leAt body 44 4
  let time (o : Nat) : Nat :=
    (leAt body o 6 * secUnits + leAt body (o + 6) 4 * 2 ^ 32 + leAt body (o + 10) 2 * 2 ^ 16 + res * 2 ^ 28) % timeModulus
  { seq := leAt body 0 2, mepoch := leAt body 2 2, rank := byteAt body 4 % 8, present := byteAt body 5, ready := byteAt body 6
    dstepA := byteAt body 7 % 16, dstepB := byteAt body 7 / 16
    bearing := (leAt body 8 6 * 65536 + leAt body 14 2 + res * freq * 65536 / 16000000000) % 2 ^ 64
    timeA := time 16, timeB := time 28, res := res, freq := freq }

/-- Whether MEPOCH x is later than y (R13, R461). -/
def laterEpoch (x y : Nat) : Bool := 0 < (x + 65536 - y) % 65536 && (x + 65536 - y) % 65536 < 32768

/-- A SYNC goes on with its delay (R465): the measured delay of its input link and the time it has spent in the device; it
gathers the device's rank, and whether the device has swapped or ended an operation (log entry 57). -/
def Block.forwardSync (b : Block) (ringB : Bool) (c : Cell) (residence : Nat) : Block :=
  let delay := if ringB then b.get Reg.CHN_LINK_B_DELAY else b.get Reg.CHN_LINK_A_DELAY
  let res := leAt c.body 40 4 + delay + residence
  let mark (o : Nat) (on : Bool) : Nat := byteAt c.body o ||| (if on then 2 ^ b.rank else 0)
  let body := c.body.take 40 ++ toLe 4 res ++ slice c.body 44 4 ++ toLe 1 (mark 48 true) ++
    toLe 1 (mark 49 (b.on Reg.CHN_STAT_READY)) ++ toLe 1 (mark 50 (b.get Reg.CFG_SWAP_STATUS_STATE == 2)) ++
    toLe 1 (mark 51 (b.get Reg.CHN_OP_STATUS_STATE == 2)) ++ slice c.body 52 12
  b.forward ringB { c with body := body }

/-- The roster of a SYNC (R464, R491). -/
def Block.takeRoster (b : Block) (present ready : Nat) : Block :=
  b.setAll [(Reg.CHN_ROSTER_PRESENT, present), (Reg.CHN_ROSTER_READY, ready),
    (Reg.CHN_ID_N, ((List.range 8).filter fun k => present.testBit k).length)]

/-- e of R466 in units of 2^-16 bu. -/
def Block.syncError (b : Block) (v : SyncView) : Int :=
  let d : Nat := (v.bearing + 2 ^ 64 - b.fineBearing) % 2 ^ 64
  if d < 2 ^ 63 then d else (d : Int) - 2 ^ 64

/-- The ring's estimate is kept; with both rings' estimates of one SYNC the mean serves, and they are compared (R466,
R468). Answers the error to close. -/
def Block.pairEstimates (b : Block) (ringB : Bool) (v : SyncView) : Block × Int :=
  let e := b.syncError v
  let b := if ringB then b.set Reg.CHN_PATH_B_RES v.res else b.set Reg.CHN_PATH_A_RES v.res
  let other := if ringB then b.chain.estA else b.chain.estB
  let b := { b with chain := if ringB then { b.chain with estB := some (v.seq, e) } else { b.chain with estA := some (v.seq, e) } }
  match other with
  | some (seq, o) =>
    if seq ≠ v.seq then (b, e)
    else
      let diff := (if ringB then o - e else e - o) * 16000000000 / ((max 1 v.freq * 65536 : Nat) : Int)
      let b := b.set Reg.CHN_ASYM_DIFF_DIFF (unsignedOf 32 diff)
      let far : Bool := 16 * b.get Reg.CHN_SYNC_CTRL_ASYM_THR < diff.natAbs
      let asymRun := if far then b.chain.asymRun + 1 else 0
      let symRun := if far then 0 else b.chain.symRun + 1
      let b := { b with chain := { b.chain with asymRun := asymRun, symRun := symRun } }
      let b := if asymRun = 16 then
        (b.setAll [(Reg.CHN_STAT_ASYM, 1), (Reg.CHN_STAT_ASYM_HOLD, 1)]).post 0x0D06 2 0x46 [(4, unsignedOf 32 diff)] else b
      let b := if 256 ≤ symRun then b.set Reg.CHN_STAT_ASYM_HOLD 0 else b
      (b, (o + e) / 2)
  | none => (b, e)

/-- A domain of a follower (R467): a step of the master is a step in this tick; otherwise the difference is closed at 1,000
ppm. -/
def Block.followDomain (b : Block) (x est : Nat) (stepped second : Bool) : Block :=
  let d := b.domain x
  let e := (est : Int) - d.t
  if stepped then
    let b := b.setDomain x { d with t := est, followErr := 0 }
    if 0 < e then b.tpJump x d.t est else b
  else b.setDomain x { d with followErr := if second then (d.followErr + e) / 2 else e, followPpm := 1000 }

/-- Datum of a follower takes a SYNC (R432, R467). -/
def Block.followDatum (b : Block) (v : SyncView) (second : Bool) : Block :=
  let b := (b.followDomain 0 v.timeA (v.dstepA != b.chain.dstepA) second).followDomain 1 v.timeB (v.dstepB != b.chain.dstepB) second
  { b with chain := { b.chain with dstepA := v.dstepA, dstepB := v.dstepB } }

/-- The rate that closes e, within ±500 ppm (R467); its amount is the device's (a free value). -/
def Block.closeError (b : Block) (e : Int) : Block :=
  let rate : Int := (b.free % 501 : Nat)
  let b := b.draw
  { b with brg := { b.brg with err := e, steer := if e < 0 then -rate else rate } }

/-- Begin to follow an acting master with a bearing of its own (R471, R472): e is closed, re-seated, or closed at 98.0 %. -/
def Block.rejoinChain (b : Block) (e : Int) : Block :=
  let b := { b with chain := { b.chain with holdover := false, backSlew := false } }
  let b := b.enterFollow
  if e.natAbs < 64 * 65536 then b.closeError e
  else if 0 < e then ({ b with brg := { b.brg with err := e, steer := 0 } }).set Reg.BRG_STATUS_RESEAT_PENDING 1
  else { b with brg := { b.brg with err := e, steer := -20000 }, chain := { b.chain with backSlew := true } }

/-- A follower closes e (R467, R468, R471). -/
def Block.followBearing (b : Block) (e : Int) : Block :=
  if b.on Reg.BRG_STATUS_RESEAT_PENDING then { b with brg := { b.brg with err := e } }
  else if b.chain.backSlew then
    if e.natAbs < 64 * 65536 then ({ b with chain := { b.chain with backSlew := false } }).closeError e
    else { b with brg := { b.brg with err := e } }
  else if b.on Reg.CHN_STAT_ASYM_HOLD then b
  else b.closeError e

/-- Both domains follow, or stand on their own (R432). -/
def Block.followFlags (b : Block) (on : Bool) : Block :=
  (b.setOn (Reg.DTM_STAT_FOLLOW 0) on).setOn (Reg.DTM_STAT_FOLLOW 1) on

/-- A role that follows: STANDBY on the devices that may be paired, else MEMBER. -/
def Block.takeFollower (b : Block) (standby : Bool) (masterRank : Nat) : Block :=
  let b := (b.setRole (if standby then .standby else .member)).followFlags true
  let b := { b with chain := { b.chain with
    masterRank := masterRank, followStart := some b.brg.now, estA := none, estB := none, asymRun := 0, symRun := 0, lastSync := b.ticks } }
  b.refreshPorts

/-- Bearing and Datum are taken from the master at the join (R87, R462); a bearing that runs follows R471 (R89). -/
def Block.joinFollower (b : Block) (v : SyncView) : Block :=
  let e := b.syncError v
  let b := if b.running then b.rejoinChain e
    else
      let b := (b.startBearing (BitVec.ofNat 48 (v.bearing / 65536)) 0).enterFollow
      { b with brg := { b.brg with acc := v.bearing % 65536 * 10 ^ 15 / 65536, steer := 0, err := 0 } }
  let b := (b.setDomain 0 { b.dtm.a with t := v.timeA, followErr := 0 }).setDomain 1 { b.dtm.b with t := v.timeB, followErr := 0 }
  let b := { b with chain := { b.chain with dstepA := v.dstepA, dstepB := v.dstepB, masterFreq := v.freq } }
  b.takeFollower (b.rank ≤ 1) v.rank

/-- A frame of a port that has become STANDBY is cut (R473): its output switches open. The record's causes name none for it;
it shows cause 1 (log entry 58). -/
def Block.standPairedBy (b : Block) : Block := (b.pairedPorts.foldl (fun b n => b.cutPort n 1) b).refreshPorts

/-- Complete a CHN_ command (R491, R573). -/
def Block.chnDone (b : Block) (status : Nat) : Block :=
  (b.setAll [(Reg.CHN_CMD_RESULT_STATUS, status), (Reg.CHN_CMD_RESULT_BUSY, 0)]).raiseFixed 7

/-- A member that had answered READY has left the roster: it has left SERVICE, and what it was armed for is aborted (R81). -/
def Block.abortDeparted (b : Block) : Block :=
  let gone (members : Nat) : Bool := (List.range 8).any fun k => members.testBit k && !b.bit Reg.CHN_ROSTER_PRESENT k
  let b := if (b.img.armed.map fun a => gone a.ready).getD false then b.abortSwapAll 6 else b
  if (b.chain.op.map fun o => gone o.ready).getD false then b.abortOpAll 6 else b

/-- A BARRIER that a master cannot end, since it has lost its role, is refused. -/
def Block.dropBarrier (b : Block) : Block :=
  if b.chain.barrier = 0 then b else ({ b with chain := { b.chain with barrier := 0 } }).chnDone stStateReject

/-- MASTER_YIELD to another master (R461, R472). -/
def Block.yieldTo (b : Block) (v : SyncView) : Block :=
  let e := b.syncError v
  let paired := !b.pairedPorts.isEmpty
  let b := (b.post 0x0D07 2 0x46 [(1, 1), (1, v.rank)]).set Reg.CHN_STAT_YIELDED 1
  let b := ((b.swapAbort 5).opAbort 5).dropBarrier
  let b := if b.running then b.rejoinChain e else b
  let b := (b.takeFollower paired v.rank)
  let b := { b with chain := { b.chain with masterFreq := v.freq, dstepA := v.dstepA, dstepB := v.dstepB } }
  let b := b.followDatum v false
  (if paired then b.standPairedBy else b).set Reg.TRV_PART_ROLE (if paired then 1 else b.get Reg.TRV_PART_ROLE)

/-- Whether a master gives way to the sender of a SYNC (R461). -/
def Block.yields (b : Block) (v : SyncView) : Bool :=
  let mine := b.get Reg.CHN_ROSTER_MEPOCH
  laterEpoch v.mepoch mine || (v.mepoch == mine && v.rank < b.rank)

/-- A follower takes a SYNC of the acting master. -/
def Block.follow (b : Block) (ringB : Bool) (v : SyncView) : Block :=
  let second : Bool := match (if ringB then b.chain.estA else b.chain.estB) with
    | some (seq, _) => seq == v.seq
    | none => false
  let p := b.pairEstimates ringB v
  let b := p.1
  let again := b.chain.holdover || v.rank != b.chain.masterRank
  let later := laterEpoch v.mepoch (b.get Reg.CHN_ROSTER_MEPOCH)
  let b := { b with chain := { b.chain with
    lastSync := b.ticks, masterFreq := v.freq, masterRank := v.rank
    followStart := if again then some b.brg.now else b.chain.followStart } }
  let b := (b.takeRoster v.present v.ready).setAll [(Reg.CHN_SYNC_SEQ_SEQ, v.seq), (Reg.CHN_ROSTER_MEPOCH, v.mepoch)]
  let b := b.followDatum v second
  -- a later MEPOCH is a takeover, which aborts what is armed on every member (R81, R461)
  let b := if later then (b.swapAbort 5).opAbort 5 else b
  let b := if b.chain.holdover then
      let b := b.rejoinChain p.2
      (b.post 0x0D08 1 0x46 [(1, 1), (4, unsignedOf 32 (p.2 / 65536))])
    else b.followBearing p.2
  let b := { b with chain := { b.chain with takeoverDue := false } }
  if !b.chain.joined ∧ !b.chain.bypassA ∧ !b.chain.bypassB ∧ v.present.testBit b.rank then
    ({ b with chain := { b.chain with joined := true } }).post 0x0D01 0 0x46 [(1, b.rank), (1, b.chain.role.code)]
  else b

/-- Whether a follower takes a SYNC for the acting master's: none of an earlier MEPOCH, nor, at an equal one, of a higher
rank than the master followed. -/
def Block.acting (b : Block) (v : SyncView) : Bool :=
  let held := b.get Reg.CHN_ROSTER_MEPOCH
  laterEpoch v.mepoch held || (v.mepoch == held && v.rank ≤ b.chain.masterRank)

/-- A SYNC of another device (R460, R461). -/
def Block.syncFrom (b : Block) (ringB : Bool) (v : SyncView) : Block :=
  let highest := match b.chain.highest with
    | some h => if laterEpoch v.mepoch h then v.mepoch else h
    | none => v.mepoch
  let b := { b with chain := { b.chain with heard := true, highest := some highest } }
  match b.chain.role with
  | .none =>
    if b.dev != .settle then b
    else
      let b := ((b.joinFollower v).takeRoster v.present v.ready).setAll
        [(Reg.CHN_SYNC_SEQ_SEQ, v.seq), (Reg.CHN_ROSTER_MEPOCH, v.mepoch)]
      if ringB then b.set Reg.CHN_PATH_B_RES v.res else b.set Reg.CHN_PATH_A_RES v.res
  | .master => if b.yields v then (b.yieldTo v).set Reg.CHN_ROSTER_MEPOCH v.mepoch else b
  | .isolated =>
    if b.yields v then (b.yieldTo v).set Reg.CHN_ROSTER_MEPOCH v.mepoch else (b.setRole .master).refreshPorts
  | _ => if b.acting v then b.follow ringB v else b

/-- The ranks that have swapped, and that have ended a snapshot or handover, as the master's own SYNC brings them back (R80,
R487; log entry 57). -/
def Block.takeMembers (b : Block) (swapped done : Nat) : Block :=
  let b := if b.get Reg.CFG_SWAP_STATUS_STATE = 2 then
      b.set Reg.CFG_SWAP_STATUS_MEMBERS (b.get Reg.CFG_SWAP_STATUS_MEMBERS ||| swapped) else b
  if b.get Reg.CHN_OP_STATUS_STATE = 2 then
    b.set Reg.CHN_OP_STATUS_MEMBERS (b.get Reg.CHN_OP_STATUS_MEMBERS ||| done) else b

/-- A SYNC of the device comes back (R473): the master learns the roster from it (log entry 57); an isolated master is
MASTER again. -/
def Block.ownSync (b : Block) (ringB : Bool) (c : Cell) : Block :=
  let res := leAt c.body 40 4
  let b := if ringB then b.set Reg.CHN_PATH_B_RES res else b.set Reg.CHN_PATH_A_RES res
  let own := 2 ^ b.rank
  if b.chain.role != .master && b.chain.role != .isolated then b
  else
    let b := { b with chain := { b.chain with lastOwn := b.ticks } }
    let b := (b.takeRoster (byteAt c.body 48 ||| own) (byteAt c.body 49)).abortDeparted
    let b := b.takeMembers (byteAt c.body 50) (byteAt c.body 51)
    if b.chain.role == .isolated then (b.setRole .master).refreshPorts else b

/-- A SYNC arrives (R465, R466). -/
def Block.syncReceived (b : Block) (ringB : Bool) (bytes : List Byte) (residence : Nat) : Block :=
  match b.openCell ringB kindSync bytes with
  | (b, none) => b
  | (b, some c) =>
    let b := b.forwardSync ringB c residence
    (if c.src = b.rank then b.ownSync ringB c else b.syncFrom ringB (syncOf c.body)).refreshChain

/-- SYNC_RECEIVED (R466). -/
def execSyncReceived (ring : Ring) (cell : List Byte) (residence : Nat) (s : State) : Host.Outcome State Fault Refusal :=
  answer "SYNC_RECEIVED" (cellOk cell) s fun b => b.syncReceived (ring == .b) cell residence

/-! ### The join (R460, R462, R463, R536) -/

/-- 40 ms after its own lock rank 1, having heard no SYNC, becomes MASTER (R460); a bearing that started under R88 is set at
once, else at the next reference crossing (R87). -/
def Block.rank1Wait (b : Block) : Block :=
  match b.chain.ownLock with
  | some t =>
    if b.chainEnabled && b.dev == .settle && b.rank == 1 && b.chain.role == .none && !b.chain.heard && t + 10000000 ≤ b.ticks then
      let b := b.joinAsMaster
      (if b.chain.freeStart then b.startFree else b).refreshChain
    else b
  | none => b

/-- RANK1_SYNC_WAIT_EXPIRY (R460). -/
def execRank1SyncWaitExpiry (s : State) : Host.Outcome State Fault Refusal :=
  answer "RANK1_SYNC_WAIT_EXPIRY" true s fun b => b.rank1Wait

/-- A device of rank 2 to 7 that hears no SYNC in time does not join (R460): doubt 0x05 (R536). -/
def Block.joinTimeout (b : Block) : Block :=
  if b.chainEnabled && b.dev == .settle && 2 ≤ b.rank && !b.chain.heard &&
      b.fault.since + (b.get Reg.BRG_CTRL_LOCK_WAIT + 1) * 25000000 ≤ b.ticks then b.doubt 0x05
  else b

/-- CHAIN_JOIN_TIMEOUT (R460). -/
def execChainJoinTimeout (s : State) : Host.Outcome State Fault Refusal :=
  answer "CHAIN_JOIN_TIMEOUT" true s fun b => b.joinTimeout

/-- An input locks (R462): the receivers listen. -/
def Block.inputLocked (b : Block) (ringB : Bool) : Block :=
  if b.chainEnabled && b.dev == .settle then
    { b with chain := if ringB then { b.chain with lockedB := true } else { b.chain with lockedA := true } }
  else b

/-- CHAIN_INPUT_LOCKED (R462). -/
def execChainInputLocked (ring : Ring) (s : State) : Host.Outcome State Fault Refusal :=
  answer "CHAIN_INPUT_LOCKED" true s fun b => b.inputLocked (ring == .b)

/-- CHAIN_INPUT_LOCK_TIMEOUT (R536): no input has locked within 100 ms of entry to SETTLE. -/
def execChainInputLockTimeout (s : State) : Host.Outcome State Fault Refusal :=
  answer "CHAIN_INPUT_LOCK_TIMEOUT" true s fun b =>
    if b.chainEnabled && b.dev == .settle && !b.chain.lockedA && !b.chain.lockedB && b.fault.since + 25000000 ≤ b.ticks then
      b.doubt 0x05
    else b

/-- A bypass opens at a sync boundary of the join (R462, R463): ring A after the role decision, ring B after ring A. The
master then sends on the ring, and has joined when ring B is open. -/
def Block.bypassOpens (b : Block) (ringB : Bool) : Block :=
  if !b.chainEnabled || b.dev != .settle || b.chain.role == .none || !b.running then b
  else if !ringB then
    if !b.chain.bypassA then b
    else ({ b with chain := { b.chain with bypassA := false, lastOwn := b.ticks } }).sendSync.refreshChain
  else if b.chain.bypassA || !b.chain.bypassB then b
  else
    let b := { b with chain := { b.chain with bypassB := false, lastOwn := b.ticks } }
    let b := b.sendSync
    let b := if b.chain.role = .master then
        (({ b with chain := { b.chain with joined := true } }).takeRoster (b.get Reg.CHN_ROSTER_PRESENT ||| 2 ^ b.rank)
          (b.get Reg.CHN_ROSTER_READY)).post 0x0D01 0 0x46 [(1, b.rank), (1, b.chain.role.code)]
      else b
    b.refreshChain

/-- BYPASS_OPEN (R462, R463). -/
def execBypassOpen (ring : Ring) (s : State) : Host.Outcome State Fault Refusal :=
  answer "BYPASS_OPEN" true s fun b => b.bypassOpens (ring == .b)

/-! ### Link delays (R465) -/

/-- The neighbour that feeds an input, by the roster (R456): the next lower rank on ring A, the next higher on ring B. -/
def Block.upstream (b : Block) (ringB : Bool) : Nat :=
  let order := if ringB then (List.range 8).map fun i => (b.rank + 1 + i) % 8 else (List.range 8).map fun i => (b.rank + 7 - i) % 8
  (order.find? fun k => b.bit Reg.CHN_ROSTER_PRESENT k).getD b.rank

/-- ECHO_SEND (R465): an ECHO to the upstream neighbour of an input, on the other ring. -/
def execEchoSend (ring : Ring) (s : State) : Host.Outcome State Fault Refusal :=
  answer "ECHO_SEND" true s fun b =>
    if !b.hears (ring == .b) then b
    else
      let b := b.sendCellOn (ring == .a) kindEcho (b.upstream (ring == .b)) false (toLe 1 (if ring = .b then 1 else 0))
      { b with chain := if ring = .b then { b.chain with echoB := true } else { b.chain with echoA := true } }

/-- The delay of an input link: half of the round trip less the neighbour's residence (R465), in 2^-4 ns. -/
def Block.echoed (b : Block) (ringB : Bool) (roundTrip residence : Nat) : Block :=
  let delay := min 65535 ((roundTrip - residence) / 2)
  if ringB then
    if b.chain.echoB then ({ b with chain := { b.chain with echoB := false } }).set Reg.CHN_LINK_B_DELAY delay else b
  else if b.chain.echoA then ({ b with chain := { b.chain with echoA := false } }).set Reg.CHN_LINK_A_DELAY delay else b

/-- ECHO_RECEIVED (R465). -/
def execEchoReceived (ring : Ring) (roundTrip residence : Nat) (s : State) : Host.Outcome State Fault Refusal :=
  answer "ECHO_RECEIVED" true s fun b => if b.hears (ring == .b) then b.echoed (ring == .b) roundTrip residence else b

/-! ### Sync lost, isolation (R469, R470, R473) -/

/-- Chain holdover begins (R470): the bearing goes on at the master's last frequency, Datum at its last increments. -/
def Block.enterChainHoldover (b : Block) : Block :=
  let b := { b with chain := { b.chain with holdover := true, backSlew := false } }
  let b := (b.setBrg .holdover).set Reg.BRG_STATUS_RESEAT_PENDING 0
  let b := { b with brg := { b.brg with steer := 0, err := 0 } }
  let b := (b.setDomain 0 { b.dtm.a with followErr := 0 }).setDomain 1 { b.dtm.b with followErr := 0 }
  b.post 0x0D08 1 0x46 [(1, 0), (4, 0)]

/-- Sync is lost 12 µs after the last SYNC (R469): a READY standby is to take over, any other follower is in Chain
holdover. -/
def Block.syncLost (b : Block) : Block :=
  let follows := b.chain.role == .standby || b.chain.role == .member
  if !b.chainEnabled || !follows || b.chain.holdover || b.chain.takeoverDue || b.ticks < b.chain.lastSync + 3000 then b
  else
    let takes := b.standbyReady && !b.chain.resetAll
    let b := (b.inc Reg.CHN_SYNC_LOST_COUNT).post 0x0D02 2 0x46 [(2, b.get Reg.CHN_SYNC_SEQ_SEQ), (1, bitOf takes)]
    if takes then { b with chain := { b.chain with takeoverDue := true } } else b.enterChainHoldover.refreshChain

/-- SYNC_LOST (R469). -/
def execSyncLost (s : State) : Host.Outcome State Fault Refusal := answer "SYNC_LOST" true s fun b => b.syncLost

/-- A master hears none of its SYNCs for 12 µs (R473): with a READY standby in its last roster it yields its paired ports. -/
def Block.isolate (b : Block) : Block :=
  let ready := match b.partner with
    | some p => b.bit Reg.CHN_ROSTER_READY p
    | none => false
  if b.chain.role != .master || !b.chain.joined || b.ticks < b.chain.lastOwn + 3000 || !ready then b
  else
    let b := (b.post 0x0D07 2 0x46 [(1, 0), (1, b.partner.getD 0)]).set Reg.CHN_STAT_YIELDED 1
    ((b.setRole .isolated).dropBarrier.standPairedBy).refreshChain

/-- MASTER_ISOLATED (R473). -/
def execMasterIsolated (s : State) : Host.Outcome State Fault Refusal := answer "MASTER_ISOLATED" true s fun b => b.isolate

/-! ### Ring wrap (R475) -/

/-- The loss-of-signal and wrap flags of a ring. -/
def losField (ringB : Bool) : Field := if ringB then Reg.CHN_STAT_LOS_B else Reg.CHN_STAT_LOS_A
def wrapField (ringB : Bool) : Field := if ringB then Reg.CHN_STAT_WRAP_B else Reg.CHN_STAT_WRAP_A

/-- A device wraps a ring: what it would send on it goes onto its other ring. -/
def Block.wrap (b : Block) (out failed : Bool) (upstream : Nat) : Block :=
  ((b.set (wrapField out) 1).inc Reg.CHN_WRAPS_COUNT).post 0x0D04 1 0x46 [(1, if failed then 1 else 0), (1, upstream)]

/-- An input loses its signal (R475): WRAP goes to the neighbour that feeds it, and what the device would send towards the
failed link turns onto its other ring. -/
def Block.lossOfSignal (b : Block) (ringB : Bool) : Block :=
  if !b.hears ringB then b
  else
    let up := b.upstream ringB
    let b := (b.set (losField ringB) 1).sendCellOn (!ringB) kindWrap up false (toLe 1 (if ringB then 1 else 0))
    (b.wrap (!ringB) ringB up).refreshChain

/-- LOSS_OF_SIGNAL (R475). -/
def execLossOfSignal (ring : Ring) (s : State) : Host.Outcome State Fault Refusal :=
  answer "LOSS_OF_SIGNAL" true s fun b => b.lossOfSignal (ring == .b)

/-- WRAP arrives on a ring (R475): the device feeds the failed input, and turns that ring's cells round. -/
def Block.wrapReceived (b : Block) (ringB : Bool) (bytes : List Byte) : Block :=
  match b.openCell ringB kindWrap bytes with
  | (b, some c) =>
    let failed := byteAt c.body 0 == 1
    if c.dst ≠ b.rank ∨ b.on (wrapField failed) then b else b.wrap failed failed b.rank
  | (b, none) => b

/-- WRAP_RECEIVED (R475). -/
def execWrapReceived (ring : Ring) (cell : List Byte) (s : State) : Host.Outcome State Fault Refusal :=
  answer "WRAP_RECEIVED" (cellOk cell) s fun b => b.wrapReceived (ring == .b) cell

/-- The link of a ring has been free of errors for 100 ms (R475): the device on either side of it unwraps. -/
def Block.unwrap (b : Block) (ringB : Bool) : Block :=
  if b.on (losField ringB) then
    (((b.set (losField ringB) 0).set (wrapField (!ringB)) 0).post 0x0D05 0 0x46
      [(1, if ringB then 1 else 0), (1, b.upstream ringB)]).refreshChain
  else if b.on (wrapField ringB) then
    (b.set (wrapField ringB) 0).post 0x0D05 0 0x46 [(1, if ringB then 1 else 0), (1, b.rank)]
  else b

/-- RING_UNWRAP (R475). -/
def execRingUnwrap (ring : Ring) (s : State) : Host.Outcome State Fault Refusal :=
  answer "RING_UNWRAP" true s fun b => b.unwrap (ring == .b)

end Sys2Proof.Machine
end

