-- ==== Sys2Proof/Machine/Takeover.lean ====
section
/-!
DEFINITION. The Chain, second part: paired ports (R476 to R479, R482), replication (R322, R478), takeover and handover (R481
to R485), the global operations (R78 to R81, R486 to R488), with the arming of an image swap.
-/

namespace Sys2Proof.Machine

/-! ### Paired ports (R458, R477, R479) -/

/-- PAIR_SEND (R458): active count and MIN_ATTEN of every port, to the partner. -/
def Block.pairSend (b : Block) : Block :=
  match b.partner with
  | some p =>
    if !b.chainEnabled || 1 < b.rank || b.pairedPorts.isEmpty then b
    else b.sendCell kindPair p false ((List.range 24).flatMap fun n =>
      toLe 1 (b.get (Reg.LP_STATUS_ACTIVE n)) ++ toLe 1 (b.get (Reg.LP_TX_LEVEL_MIN_ATTEN n)))
  | none => b

/-- PAIR_SEND (R458). -/
def execPairSend (s : State) : Host.Outcome State Fault Refusal := answer "PAIR_SEND" true s fun b => b.pairSend

/-- PAIR_RECEIVED (R479): the partner's active counts and MIN_ATTEN. -/
def Block.pairReceived (b : Block) (ringB : Bool) (bytes : List Byte) : Block :=
  match b.takeCell ringB kindPair bytes with
  | (b, some c) =>
    if b.partner ≠ some c.src then b
    else
      let put (o : Nat) (m : Store Nat) : Store Nat := (List.range 24).foldl (fun m n =>
        Store.put (fun _ => 0) m n (byteAt c.body (2 * n + o))) m
      ({ b with chain := { b.chain with partnerK := put 0 b.chain.partnerK, partnerAtten := put 1 b.chain.partnerAtten } }).refreshChain
  | (b, none) => b

/-- PAIR_RECEIVED (R479). -/
def execPairReceived (ring : Ring) (cell : List Byte) (s : State) : Host.Outcome State Fault Refusal :=
  answer "PAIR_RECEIVED" (cellOk cell) s fun b => b.pairReceived (ring == .b) cell

/-- The frames refused, whose further cells are passed over. -/
def Block.setRefused (b : Block) (l : List (Nat × Nat)) : Block := { b with chain := { b.chain with refused := l } }

/-- The first cell of a frame to drive (R479): refused where the predicted dissipation would exceed 20 W; its m is not in the
cell, and 112 bounds it (log entry 60). Its switches close 8 µs before its start (R144). -/
def Block.beginDrive (b : Block) (d : Drive) : Block :=
  if !b.thermalOk [d.port] 112 d.loss d.atten true then
    (b.inc Reg.CHN_DRIVE_REFUSED_COUNT).setRefused ((d.port, d.slot) :: b.chain.refused)
  else
    let b := { b with chain := { b.chain with drives := b.chain.drives ++ [d] } }
    (b.set (Reg.LP_ZOUT_STAT_LAST d.port) d.zout).refreshCharges (d.port / 6)

/-- Whether a port of the standby drives for its partner (R128, R146, R479): in STANDBY, with at least 6 healthy slices. -/
def Block.drivesFor (b : Block) (n : Nat) : Bool :=
  b.dev == .service && n < 24 && b.portState n == 4 && 6 ≤ (b.healthySlices n).length

/-- A DRIVE cell (R479): the first begins a frame, each adds its samples, the last tells where it ends. The cells of a frame
that is not driven are passed over. -/
def Block.driveReceived (b : Block) (ringB : Bool) (bytes : List Byte) : Block :=
  match b.takeCell ringB kindDrive bytes with
  | (b, some c) =>
    let port := byteAt c.body 0
    let slot := byteAt c.body 1
    let flags := byteAt c.body 2
    let key := (port, slot)
    let data := slice c.body 11 52
    if !b.drivesFor port then b
    else
      let b := if flags.testBit 0 then
          (b.setRefused (b.chain.refused.filter (· != key))).beginDrive
            { port := port, slot := slot, bands := Config.sampleBands data % 16, done := false, loss := b.lossFor [port]
              start := BitVec.ofNat 48 (leAt c.body 3 6), zout := byteAt c.body 9, atten := byteAt c.body 10, samples := []
              charge := 0 }
        else b
      if b.chain.refused.contains key then b
      else
        let take (d : Drive) : Drive :=
          if d.port = port ∧ d.slot = slot ∧ !d.done then { d with samples := d.samples ++ data, done := flags.testBit 1 } else d
        { b with chain := { b.chain with drives := b.chain.drives.map take } }
  | (b, none) => b

/-- DRIVE_RECEIVED (R479). -/
def execDriveReceived (ring : Ring) (cell : List Byte) (s : State) : Host.Outcome State Fault Refusal :=
  answer "DRIVE_RECEIVED" (cellOk cell) s fun b => b.driveReceived (ring == .b) cell

/-- RXDONE (R477): the held parcels of a frame go, by lane and sync bearing. -/
def Block.rxdoneReceived (b : Block) (ringB : Bool) (bytes : List Byte) : Block :=
  match b.takeCell ringB kindRxdone bytes with
  | (b, some c) =>
    let lane := byteAt c.body 0
    let sync : Bearing := BitVec.ofNat 48 (leAt c.body 1 6)
    { b with chain := { b.chain with
        held := b.chain.held.filter fun h => !(h.lane == lane && h.sync == sync)
        heldAcks := b.chain.heldAcks.filter fun h => !(h.lane == lane && h.reception.bearing == sync) } }
  | (b, none) => b

/-- RXDONE_RECEIVED (R477). -/
def execRxdoneReceived (ring : Ring) (cell : List Byte) (s : State) : Host.Outcome State Fault Refusal :=
  answer "RXDONE_RECEIVED" (cellOk cell) s fun b => b.rxdoneReceived (ring == .b) cell

/-- HELD_PARCEL_EXPIRY (R477): held parcels go 2 superframes after their sync point. -/
def execHeldParcelExpiry (s : State) : Host.Outcome State Fault Refusal :=
  answer "HELD_PARCEL_EXPIRY" true s fun b =>
    { b with chain := { b.chain with
        held := b.chain.held.filter fun h => (b.brg.now - h.sync).toNat < 2 * 524288
        heldAcks := b.chain.heldAcks.filter fun h => (b.brg.now - h.reception.bearing).toNat < 2 * 524288 } }

/-! ### Replication (R322, R478) -/

/-- The bytes of an entry with one piece replaced. -/
def patch (bytes : List Byte) (piece : Nat) (new : List Byte) : List Byte :=
  slice bytes 0 (32 * piece) ++ new ++ bytes.drop (32 * piece + 32)

/-- A neighbour of a G3 port that bytes spell; its tone map counts as new. -/
def g3NeighOf (bs : List Byte) (now : Nat) : G3Neigh :=
  { short := leAt bs 0 2, modulation := byteAt bs 2, gain := byteAt bs 3, used := leAt bs 8 4
    fctr := if byteAt bs 13 = 1 then some (leAt bs 4 4) else none, toneMap := slice bs 16 (byteAt bs 12), mapAt := now }

/-- A notch set that its version and fragments spell (R251). -/
def notchSetOf (bs : List Byte) : NotchSet :=
  let add (ps : List NotchPattern) (v : Nat) : List NotchPattern :=
    let id := v % 16
    if id = 0 then ps
    else if v.testBit 39 then ps ++ [{ id := id, scope := v / 2 ^ 8 % 2 ^ 15, windows := [] }]
    else
      let w := v / 2 ^ 8 % 8
      let c := v / 2 ^ 11 % 16
      let first := (v / 2 ^ 15 % 128, v / 2 ^ 22 % 16 + 1)
      let second := (v / 2 ^ 26 % 128, v / 2 ^ 33 % 16 + 1)
      ps.map fun p => if p.id = id then { p with windows := p.windows ++ [first] ++ (if w + 1 < c then [second] else []) } else p
  { version := byteAt bs 0
    patterns := ((List.range (byteAt bs 1)).map fun i => leAt bs (2 + 5 * i) 5).foldl add [] }

/-- The contour maps of a direction that the extended state spells (R293): the later one has the index of the core entry. -/
def mapsOf (base index : Nat) (area : List Byte) : List MapGen :=
  let one (bs : List Byte) (i : Nat) : List MapGen :=
    if bs.all (· == 0) then []
    else [{ index := i, bytes := bs.take (4 + 42 * (byteAt bs 0 / 16 % 4)), eff := 0, acked := true }]
  one (slice area 0 130) index ++ one (slice area 130 130) (base + (index + 23 - base) % 24)

/-- The extended state of a node takes the bytes of the replicated one (R293). -/
def Block.takeExt (b : Block) (x : Nat) (bs : List Byte) : Block :=
  let n := b.node x
  let e := b.ext x
  let num (o : Nat) (i : Nat) : Nat := byteAt bs (o + i)
  let neigh (i : Nat) : Neigh :=
    let o := 0x738 + 8 * i
    { short := leAt bs o 3, snr := byteAt bs (o + 3), rel := leAt bs (o + 4) 2, sf := leAt bs (o + 6) 2 }
  let flags := byteAt bs 0x7C8
  let time : TimeRec := { e.time with
    rttRef := leAt bs 0x7B8 4, rttLast := leAt bs 0x7BC 4, offsetLast := signedOf 32 (leAt bs 0x7C0 4)
    corr := signedOf 32 (leAt bs 0x7C4 4), refValid := flags.testBit 0, frozen := flags.testBit 1, asym := flags.testBit 2
    agree := byteAt bs 0x7C9, seqT := byteAt bs 0x7CA, lastSf := leAt bs 0x7CC 4 }
  let e := { e with
    ulMaps := mapsOf 0 n.ulMap (slice bs 0 260), dlMaps := mapsOf 24 n.dlMap (slice bs 260 260)
    omegas := ((List.range 16).map fun i => leAt bs (0x718 + 2 * i) 2).filter (· != 0)
    neigh := ((List.range 16).map neigh).filter fun y => y.short != 0, time := time }
  let f := b.fingerprint x
  let f := { f with
    ref := attOf (slice bs 0x2E8 28), refTau := num 0x304 0, refValid := (num 0x305 0).testBit 0, shift := (num 0x305 0).testBit 1
    cur := attOf (slice bs 0x308 28), curTau := num 0x324 0, count := num 0x325 0 }
  let b := { b with trv := { b.trv with ext := Store.put (fun _ => NodeExt.reset) b.trv.ext x e } }
  let b := (b.setFingerprint x f).takeChannel x (slice bs 0x328 1008)
  let b := b.setLink true x { b.link true x with snr := (List.range 112).map (num 0x208) }
  b.setLink false x { b.link false x with snr := (List.range 112).map (num 0x278) }

/-- A replica takes one piece (R322, R478). -/
def Block.takePiece (b : Block) (what piece index : Nat) (new : List Byte) : Block :=
  if what = replCore then
    let n := Node.ofBytes (patch (b.node index).toBytes piece new)
    ({ b with trv := { b.trv with nodes := Store.put (fun _ => Node.free) b.trv.nodes index n } }).refreshCounts
  else if what = replRoute then
    let r := Route.ofBytes (patch ((b.route index).toBytes (b.node index).pinned) piece new)
    { b with trv := { b.trv with routes := Store.put (fun _ => Route.none) b.trv.routes index r } }
  else if what = replExt then b.takeExt index (patch (b.extBytes index) piece new)
  else if what = replCtx then b.setCtx linkPage index (Ctx.ofBytes (patch (b.ctx linkPage index).toBytes piece new))
  else if what = replAccount then b.setBuckets (index / 4) (index % 4) [leAt new 0 4]
  else if what = replGrant then
    let g : Grant := { triad := byteAt new 0, bands := byteAt new 1, start := leAt new 2 2, len := leAt new 4 2
                       superframe := leAt new 6 4, node := leAt new 10 3 }
    { b with mac := { b.mac with grants := b.mac.grants ++ [g] } }
  else if what = replDone then { b with chain := { b.chain with copyDone := true } }
  else if what = replTriad then
    let bs := patch (b.triadBytes index) piece new
    let m := b.macTriad index
    let eff := leAt bs 6 4
    let m := if eff ≠ 0 then { m with pending := some ((m.pending.map (·.1)).getD { version := 0, patterns := [] }, eff) }
      else match m.pending with
        | some (s, _) => { m with inForce := s, pending := none }
        | none => m
    (b.setMacTriad index { m with phiDev := leAt bs 4 2 }).wr (Reg.MAC_TRIAD index) (BitVec.ofNat 32 (leAt bs 0 4))
  else if what = replNotch then
    let bs := patch (Store.get (fun _ => []) b.chain.notchBytes index) piece new
    let b := { b with chain := { b.chain with notchBytes := Store.put (fun _ => []) b.chain.notchBytes index bs } }
    let t := index % 8
    let m := b.macTriad t
    if 8 ≤ index then b.setMacTriad t { m with inForce := notchSetOf bs }
    else match m.pending with
      | some (_, eff) => b.setMacTriad t { m with pending := some (notchSetOf bs, eff) }
      | none => b
  else if what = replG3 then
    let n := index / 2 ^ 16
    let g := b.g3Port n
    let short := index % 2 ^ 16
    let old := ((g.neigh.find? fun x => x.short == short).map G3Neigh.toBytes).getD []
    let x := { g3NeighOf (patch old piece new) b.ticks with short := short }
    b.setG3 n { g with neigh := (g.neigh.filter fun y => y.short != short) ++ [x] }
  else b

/-- The lag of a core entry in µs (R326): from the bearing of its sending to its coming in. -/
def Block.noteLag (b : Block) (what sent : Nat) : Block :=
  let d := (b.brg.now.toNat + 2 ^ 48 - sent) % 2 ^ 32
  if what ≠ replCore ∨ 2 ^ 31 ≤ d then b
  else { b with trv := { b.trv with lag := max b.trv.lag (d * 1000000 / max 1 b.freq) } }

/-- REPL_RECEIVED (R322): from the partner, into a REPLICA table only. -/
def Block.replReceived (b : Block) (ringB : Bool) (bytes : List Byte) : Block :=
  match b.takeCell ringB kindRepl bytes with
  | (b, some c) =>
    if b.partner ≠ some c.src ∨ b.home then b
    else
      let b := b.takePiece (byteAt c.body 0) (leAt c.body 2 2) (leAt c.body 4 4) (slice c.body 16 32)
      let b := b.noteLag (byteAt c.body 0) (leAt c.body 12 4)
      (b.set Reg.TRV_REPL_SEQ_RSEQ (leAt c.body 8 4)).refreshChain
  | (b, none) => b

/-- REPL_RECEIVED (R322). -/
def execReplReceived (ring : Ring) (cell : List Byte) (s : State) : Host.Outcome State Fault Refusal :=
  answer "REPL_RECEIVED" (cellOk cell) s fun b => b.replReceived (ring == .b) cell

/-! ### Takeover (R481 to R485) -/

/-- Transmit counters move on by 4,096 (R337, R394). -/
def Block.advanceCounters (b : Block) : Block :=
  (b.pageCtxs linkPage).foldl (fun b p =>
    if p.2.state = 1 ∧ !p.2.dir then b.setNext linkPage p.1 (p.2.next + 4096) else b) b

/-- Every held parcel goes to its receive queue with its original stamps (R481 step 4). -/
def Block.releaseShadow (b : Block) : Block :=
  let held := b.chain.held
  let b := { b with chain := { b.chain with held := [] } }
  let b := held.foldl (fun b h =>
    (b.produce h.queue h.parcel).receiveStamp h.port h.parcel.orig h.parcel.pseq h.sync h.stampA h.stampB) b
  b.add Reg.CHN_SHADOW_REL_COUNT held.length

/-- Of the frames whose ACK the failed master owed, those stay whose ACK starts at least 10 µs after T_o, which is now (R484). -/
def Block.keepAcks (b : Block) : Block :=
  let from_ := b.brg.now + BitVec.ofNat 48 (b.nsToBu 10000)
  { b with chain := { b.chain with heldAcks := b.chain.heldAcks.filter fun h => ahead (h.frame.last + 1024) from_ } }

/-- The ACKs of frames that a port received before a takeover are sent, as far as their switches can still close in time (R144,
R484, log entry 188). -/
def Block.answerHeld (b : Block) (n : Nat) : Block :=
  let mine := b.chain.heldAcks.filter fun h => h.port == n
  let b := { b with chain := { b.chain with heldAcks := b.chain.heldAcks.filter fun h => h.port != n } }
  mine.foldl (fun b h =>
    let hd : Heard := { port := h.port, sb := h.sb, reception := h.reception, frame := h.frame, mac := h.mac, clean := true }
    match b.sendAck h.node hd (MacHeader.ofBytes h.mac) 8000 with
    | (b, some num) => h.passed.foldl (fun b i => b.ackParcel num i) b
    | (b, none) => b) b

/-- The frames driven for a master that has failed are cut (R484). -/
def Block.cutDrives (b : Block) : Block :=
  ((b.chain.drives.map (·.port)).dedup).foldl (fun b n =>
    (((b.cutDrivesOf n 1).endPort n).openSwitches n).refreshCharges (n / 6)) b

/-- A node of the replica as the new master keeps it (R323, log entry 187): counting restarts at 0, its supervision runs from
the superframe it was last heard in, its rendezvous series goes on from its next bearing; its channel map, which is not
replicated, is that of a node that joins. -/
def Block.adoptNode (b : Block) (x : Nat) : Block :=
  let n := b.node x
  let e := b.ext x
  let b := b.setExt x { e with
    supvFrom := n.lastSf, rdv := if n.rdvQ = 0 then none else some { v0 := n.vnext, k := 0, wakes := none }
    chmask := if e.chmask = 0 then b.firstMask (b.route x).port n.caps else e.chmask
    chstr := if e.chstr = 0 then (if n.threePh then 3 else 1) else e.chstr }
  let b := if n.rcMiss = 0 ∧ n.fails = 0 ∧ n.step = 0 then b else b.modNode x fun n => { n with rcMiss := 0, fails := 0, step := 0 }
  if n.relay && n.orphan && (b.suspectAbove x).isNone then
    { b with trv := { b.trv with repairs := b.trv.repairs ++
        [{ relay := x, since := b.superframe, subtree := b.subtree x, moved := [] }] } }
  else b

/-- The steps of R481 at T_o. Bearing goes on without a step and seeks its own reference: R86 names no state for it, RELOCK
free-runs while crossings are counted (DESIGN CHOICE, log entry 61). -/
def Block.takeOver (b : Block) : Block :=
  let former := b.chain.masterRank
  let us := (b.ticks - b.chain.lastSync) / 250
  let mepoch := (b.get Reg.CHN_ROSTER_MEPOCH + 1) % 65536
  let b := (b.setRole .master).followFlags false
  let b := b.set Reg.CHN_ROSTER_MEPOCH mepoch
  let b := { b with chain := { b.chain with
    takeoverDue := false, holdover := false, backSlew := false, lastOwn := b.ticks, masterRank := b.rank
    highest := some mepoch } }
  let b := b.takeRoster ((b.get Reg.CHN_ROSTER_PRESENT ||| 2 ^ b.rank) - 2 ^ former * bitOf (b.bit Reg.CHN_ROSTER_PRESENT former)) 0
  let b := (b.enterRelock (b.get Reg.BRG_REF_SEL) 0).setAll [(Reg.BRG_STATUS_RESEAT_PENDING, 0), (Reg.BRG_STATUS_SRC, 0)]
  let b := { b with brg := { b.brg with err := 0 } }
  let b := b.sendSync
  let b := (b.trv.nodes.map (·.1)).foldl (fun b x => b.adoptNode x) b
  let b := b.set Reg.TRV_PART_ROLE 0
  let b := b.advanceCounters.releaseShadow.keepAcks.cutDrives
  let b := b.pairedPorts.foldl (fun b n =>
    (b.setPort n { b.port n with closeWaits := true }).restartPort n) b
  let b := b.refreshPorts
  let b := ((b.pairedPorts.map (· / 3)).dedup).foldl (fun b t => b.discover t) b
  let b := (b.abortSwapAll 5).abortOpAll 5
  let b := (b.inc Reg.CHN_TAKEOVERS_COUNT).setBearing Reg.CHN_TO_BRG_LO_BRG Reg.CHN_TO_BRG_HI_BRG b.brg.now
  (b.post 0x0D03 3 0x46 [(1, former), (2, mepoch), (2, min us 65535)]).refreshChain

/-- TAKEOVER (R481): of a READY standby that has declared sync lost. A RESET to all held meanwhile forbids it (R488). -/
def execTakeover (s : State) : Host.Outcome State Fault Refusal :=
  answer "TAKEOVER" true s fun b =>
    if b.chain.role == .standby && b.chain.takeoverDue && !b.chain.resetAll then b.takeOver else b

/-- PAIRED_PORT_CLOSE (R482): the coupler has been quiet for 2 µs, and the port's switches may close. -/
def execPairedPortClose (port : Fin 24) (s : State) : Host.Outcome State Fault Refusal :=
  answer "PAIRED_PORT_CLOSE" true s fun b =>
    if b.chain.role == .master && b.on (Reg.LP_CTRL_PAIRED port) then
      (b.setPort port { b.port port with closeWaits := false }).answerHeld port
    else b

/-! ### Global operations (R78 to R81, R485 to R488) -/

/-- L of R78 in bu. -/
def Block.leadTime (b : Block) : Nat :=
  b.nsToBu (if b.chainEnabled then 2 * b.get Reg.CHN_ID_N * 800 + 10000 else 10000)

/-- Whether a bearing may be armed (R78): at least L ahead, no more than 65,536 cycles. -/
def Block.armable (b : Block) (at_ : Bearing) : Bool :=
  let d := (at_ - b.brg.now).toNat
  b.leadTime ≤ d && d ≤ 65536 * 65536

/-- The master's TOKEN goes round ring A (R79): operation, bearing, NOT_READY, ranks READY. -/
def Block.sendToken (b : Block) (op : Nat) (at_ : Bearing) : Block :=
  b.sendCellOn false kindToken 0 true (toLe 1 op ++ toLe 6 at_.toNat ++ [0] ++ toLe 1 (2 ^ b.rank))

/-- ARM (R78, R79): on a Chain by the master alone. -/
def Block.armSwap (b : Block) : Block :=
  let at_ := b.bearingAt Reg.CFG_SWAP_BRG_LO_BRG Reg.CFG_SWAP_BRG_HI_BRG
  let state := b.dev == .service && b.running && b.get Reg.CFG_STATUS_SHADOW == 2 &&
    (!b.chainEnabled || b.chain.role == .master)
  b.cfgCmd state fun b =>
    match b.img.shadow with
    | none => b.cfgDone stStateReject
    | some x =>
      let rebinds := (List.range 24).any fun n => !preserves x.sections n
      if !b.armable at_ || (rebinds && (at_ - b.brg.now).toNat < 65536 + b.leadTime) then b.cfgDone stInvalid
      else
        let verdict : Verdict := if b.chainEnabled then .waiting else .commit
        let b := { b with img := { b.img with armed := some {
          bearing := at_, verdict := verdict, tokenOut := b.chainEnabled, ready := if b.chainEnabled then 0 else 2 ^ b.rank } } }
        let b := b.setAll [(Reg.CFG_STATUS_SHADOW, 4), (Reg.CFG_SWAP_STATUS_STATE, 1), (Reg.CFG_SWAP_STATUS_CAUSE, 0),
          (Reg.CFG_SWAP_STATUS_MEMBERS, 0)]
        let b := if b.chainEnabled then b.sendToken opSwap at_ else b
        (b.raiseFixed 6).cfgDone stOK

/-- ARM (R78). -/
def execArm (s : State) : Host.Outcome State Fault Refusal := answer "ARM" true s fun b => b.byPfCfg Block.armSwap

/-- DISARM (R81): on a Chain by the master alone, and on every member. -/
def Block.disarmSwap (b : Block) : Block :=
  b.cfgCmd (b.img.armed.isSome && (!b.chainEnabled || b.chain.role == .master)) fun b => (b.abortSwapAll 1).cfgDone stOK

/-- DISARM (R81). -/
def execDisarm (s : State) : Host.Outcome State Fault Refusal := answer "DISARM" true s fun b => b.byPfCfg Block.disarmSwap

/-- Whether 10 µs or less remain to a bearing (R79). -/
def Block.atDeadline (b : Block) (at_ : Bearing) : Bool :=
  (at_ - b.brg.now).toNat ≤ b.nsToBu 10000 || !ahead at_ b.brg.now

/-- The master's last moment to send ABORT (R79): the token of an armed swap, snapshot or handover has not returned. -/
def Block.abortLate (b : Block) : Block :=
  if b.chain.role != .master then b
  else
    let b := match b.img.armed with
      | some a => if a.verdict = Verdict.waiting ∧ b.atDeadline a.bearing then b.abortSwapAll 3 else b
      | none => b
    match b.chain.op with
    | some o => if o.verdict = Verdict.waiting ∧ b.atDeadline o.bearing then b.abortOpAll 3 else b
    | none => b

/-- SWAP_ABORT_DEADLINE (R79). -/
def execSwapAbortDeadline (s : State) : Host.Outcome State Fault Refusal :=
  answer "SWAP_ABORT_DEADLINE" true s fun b => b.abortLate

/-- A member's answer to a TOKEN (R79, R470, R471): whether it is ready, and what it arms. -/
def Block.answerToken (b : Block) (op : Nat) (at_ : Bearing) : Block × Bool :=
  let sound := b.dev == .service && b.running && !b.chain.holdover && !b.chain.backSlew
  if op = opSwap then
    if sound && b.get Reg.CFG_STATUS_SHADOW == 2 then
      let b := { b with img := { b.img with armed := some {
        bearing := at_, verdict := .waiting, tokenOut := false, ready := 0 } } }
      let b := (b.setBearing Reg.CFG_SWAP_BRG_LO_BRG Reg.CFG_SWAP_BRG_HI_BRG at_).setAll
        [(Reg.CFG_STATUS_SHADOW, 4), (Reg.CFG_SWAP_STATUS_STATE, 1), (Reg.CFG_SWAP_STATUS_CAUSE, 0)]
      (b.raiseFixed 6, true)
    else ({ b with img := { b.img with ended := none } }, false)
  else if op = opBarrier then (b, sound)
  else
    let handover := op == opHandover
    if sound && b.chain.op.isNone && (!handover || b.chain.role != .standby || b.standbyReady) then
      let b := { b with chain := { b.chain with op := some {
        handover := handover, bearing := at_, verdict := .waiting, tokenOut := false, ready := 0 } } }
      let b := b.setAll [(Reg.CHN_OP_STATUS_STATE, 1), (Reg.CHN_OP_STATUS_CAUSE, 0), (Reg.CHN_OP_STATUS_KIND, bitOf handover)]
      (b.raiseFixed 7, true)
    else (b, false)

/-- The token of an operation is back (R79): COMMIT with every rank of the roster ready, else ABORT with NOT_READY. -/
def Block.tokenBack (b : Block) (op : Nat) (at_ : Bearing) (notReady ready : Nat) : Block :=
  let all := notReady == 0 && ready &&& b.get Reg.CHN_ROSTER_PRESENT == b.get Reg.CHN_ROSTER_PRESENT
  if op = opSwap then
    (match b.img.armed with
     | some a =>
       if a.bearing ≠ at_ ∨ a.verdict ≠ .waiting then b
       else if all then
         { b with img := { b.img with armed := some {
           a with verdict := .commit, tokenOut := false, ready := ready } } }.sendVerdict opSwap 1 0 at_
       else b.abortSwapAll 2
     | none => b)
  else
    match b.chain.op with
    | some o =>
      if o.bearing ≠ at_ ∨ o.verdict ≠ .waiting then b
      else if all then
        { b with chain := { b.chain with op := some {
          o with verdict := .commit, tokenOut := false, ready := ready } } }.sendVerdict op 1 0 at_
      else b.abortOpAll 2
    | none => b

/-- The token of a BARRIER is back (R486): the release follows, and its return completes the command. -/
def Block.barrierBack (b : Block) : Block :=
  if b.chain.barrier = 1 then ({ b with chain := { b.chain with barrier := 2 } }).sendToken opBarrier 0
  else if b.chain.barrier = 2 then ({ b with chain := { b.chain with barrier := 0 } }).chnDone stOK
  else b

/-- A TOKEN arrives (R79): a member marks and forwards it; the master's own ends its round. -/
def Block.tokenReceived (b : Block) (ringB : Bool) (bytes : List Byte) : Block :=
  match b.openCell ringB kindToken bytes with
  | (b, none) => b
  | (b, some c) =>
    let op := byteAt c.body 0
    let at_ : Bearing := BitVec.ofNat 48 (leAt c.body 1 6)
    if c.src = b.rank then
      (if b.chain.role != .master || b.hasSeen c then b
       else
         let b := b.keep c
         if op = opBarrier then b.barrierBack else b.tokenBack op at_ (byteAt c.body 7) (byteAt c.body 8))
    else if b.hasSeen c || b.chain.role == .none then b.forward ringB c
    else
      let a := (b.keep c).answerToken op at_
      let body := c.body.take 7 ++ toLe 1 (if a.2 then byteAt c.body 7 else 1) ++
        toLe 1 (byteAt c.body 8 ||| (if a.2 then 2 ^ b.rank else 0)) ++ c.body.drop 9
      a.1.forward ringB { c with body := body }

/-- TOKEN_RECEIVED (R79). -/
def execTokenReceived (ring : Ring) (cell : List Byte) (s : State) : Host.Outcome State Fault Refusal :=
  answer "TOKEN_RECEIVED" (cellOk cell) s fun b => b.tokenReceived (ring == .b) cell

/-- An ABORT reaches a member that has nothing armed (R81): unless the swap has ended here already, the member shows the
cause and makes its record; its shadow stays what it is. -/
def Block.abortUnarmed (b : Block) (cause : Nat) (at_ : Bearing) : Block :=
  if b.img.ended = some at_ then b
  else
    let b := ({ b with img := { b.img with ended := some at_ } }).setAll
      [(Reg.CFG_SWAP_STATUS_STATE, 3), (Reg.CFG_SWAP_STATUS_CAUSE, cause)]
    (b.raiseFixed 6).post 0x0202 1 0x4B [(1, cause), (1, b.get Reg.CFG_SWAP_STATUS_MEMBERS), (6, at_.toNat)]

/-- A VERDICT arrives (R80, R81): COMMIT is held for the operation it names, ABORT ends it. -/
def Block.verdictReceived (b : Block) (ringB : Bool) (bytes : List Byte) : Block :=
  match b.takeCell ringB kindVerdict bytes with
  | (b, none) => b
  | (b, some c) =>
    let op := byteAt c.body 0
    let commit := byteAt c.body 1 == 1
    let cause := byteAt c.body 2
    let at_ : Bearing := BitVec.ofNat 48 (leAt c.body 3 6)
    if op = opSwap then
      (match b.img.armed with
       | some a =>
         if a.bearing ≠ at_ then b
         else if commit then { b with img := { b.img with armed := some { a with verdict := .commit } } }
         else b.swapAbort cause
       | none => if commit then b else b.abortUnarmed cause at_)
    else match b.chain.op with
      | some o =>
        if o.bearing ≠ at_ ∨ o.handover ≠ (op == opHandover) then b
        else if commit then { b with chain := { b.chain with op := some { o with verdict := .commit } } }
        else b.opAbort cause
      | none => b

/-- VERDICT_RECEIVED (R80). -/
def execVerdictReceived (ring : Ring) (cell : List Byte) (s : State) : Host.Outcome State Fault Refusal :=
  answer "VERDICT_RECEIVED" (cellOk cell) s fun b => b.verdictReceived (ring == .b) cell

/-- A RESET cell (R488): to the device, or to all, which it forwards first; the master's own ends its round. -/
def Block.resetCell (b : Block) (ringB : Bool) (bytes : List Byte) : Block :=
  match b.openCell ringB kindReset bytes with
  | (b, none) => b
  | (b, some c) =>
    if c.src = b.rank then (if c.bcast && b.chain.resetOut.isSome then b.fullReset 4 else b)
    else
      let b := b.forward ringB c
      if c.bcast then ({ b with chain := { b.chain with resetAll := true } }).fullReset 4
      else if c.dst = b.rank ∧ !b.hasSeen c then b.fullReset 4
      else b.keep c

/-- RESET_CELL_RECEIVED (R488). -/
def execResetCellReceived (ring : Ring) (cell : List Byte) (s : State) : Host.Outcome State Fault Refusal :=
  answer "RESET_CELL_RECEIVED" (cellOk cell) s fun b => b.resetCell (ring == .b) cell

/-- A command written to CHN_CMD (R491): not while one runs, on the master alone. -/
def Block.chnCmd (b : Block) (f : Block → Block) : Block :=
  if b.on Reg.CHN_CMD_RESULT_BUSY then (b.set Reg.CHN_CMD_RESULT_STATUS stStateReject).raiseFixed 7
  else if b.chain.role != .master then b.chnDone stStateReject
  else f b

/-- RESET (R488): one rank on both rings, or all round ring A. -/
def Block.chainResetCmd (b : Block) : Block :=
  b.chnCmd fun b =>
    let target := b.get Reg.CHN_CMD_ARG_TARGET
    if 7 < target ∧ target ≠ 15 then b.chnDone stInvalid
    else
      let b := (b.post 0x0D0A 1 0x46 [(1, target)]).chnDone stOK
      if target = 15 then
        ({ b with chain := { b.chain with resetOut := some b.ticks } }).sendCellOn false kindReset 0 true []
      else if target = b.rank then b.fullReset 4
      else b.sendCell kindReset target false []

/-- CHAIN_RESET (R488). -/
def execChainReset (s : State) : Host.Outcome State Fault Refusal := answer "CHAIN_RESET" true s fun b => b.byPf Block.chainResetCmd

/-- CHAIN_RESET_TIMEOUT (R488): 10 µs after a RESET to all the master enters RESET. -/
def execChainResetTimeout (s : State) : Host.Outcome State Fault Refusal :=
  answer "CHAIN_RESET_TIMEOUT" true s fun b =>
    match b.chain.resetOut with
    | some t => if t + 2500 ≤ b.ticks then b.fullReset 4 else b
    | none => b

/-- BARRIER (R486): a TOKEN round ring A, then a release. -/
def Block.barrierCmd (b : Block) : Block :=
  b.chnCmd fun b =>
    (({ b with chain := { b.chain with barrier := 1 } }).set Reg.CHN_CMD_RESULT_BUSY 1).sendToken opBarrier 0

/-- BARRIER (R486). -/
def execBarrier (s : State) : Host.Outcome State Fault Refusal := answer "BARRIER" true s fun b => b.byPf Block.barrierCmd

/-- SNAP_ARM and HANDOVER_ARM (R485, R487): under the rules of a swap (R78, R79). -/
def Block.armOp (b : Block) (handover : Bool) : Block :=
  b.chnCmd fun b =>
    let at_ := b.bearingAt Reg.CHN_OP_BRG_LO_BRG Reg.CHN_OP_BRG_HI_BRG
    if b.dev != .service || !b.running || b.chain.op.isSome || (handover && b.partner.isNone) then b.chnDone stStateReject
    else if !b.armable at_ then b.chnDone stInvalid
    else
      let b := { b with chain := { b.chain with op := some {
        handover := handover, bearing := at_, verdict := .waiting, tokenOut := true, ready := 0 } } }
      let b := b.setAll [(Reg.CHN_OP_STATUS_STATE, 1), (Reg.CHN_OP_STATUS_CAUSE, 0), (Reg.CHN_OP_STATUS_MEMBERS, 0),
        (Reg.CHN_OP_STATUS_KIND, bitOf handover)]
      ((b.raiseFixed 7).sendToken (if handover then opHandover else opSnapshot) at_).chnDone stOK

/-- SNAP_ARM (R487). -/
def execSnapArm (s : State) : Host.Outcome State Fault Refusal := answer "SNAP_ARM" true s fun b => b.byPf fun b => b.armOp false

/-- HANDOVER_ARM (R485). -/
def execHandoverArm (s : State) : Host.Outcome State Fault Refusal := answer "HANDOVER_ARM" true s fun b => b.byPf fun b => b.armOp true

/-- SNAP_DISARM and HANDOVER_DISARM: cause DISARMED (R81). -/
def Block.disarmOp (b : Block) (handover : Bool) : Block :=
  b.chnCmd fun b =>
    match b.chain.op with
    | some o => if o.handover = handover then (b.abortOpAll 1).chnDone stOK else b.chnDone stStateReject
    | none => b.chnDone stStateReject

/-- SNAP_DISARM (R487). -/
def execSnapDisarm (s : State) : Host.Outcome State Fault Refusal := answer "SNAP_DISARM" true s fun b => b.byPf fun b => b.disarmOp false

/-- HANDOVER_DISARM (R485). -/
def execHandoverDisarm (s : State) : Host.Outcome State Fault Refusal :=
  answer "HANDOVER_DISARM" true s fun b => b.byPf fun b => b.disarmOp true

/-- The operation armed ends at its bearing (R80, R81): `act` on a member that holds COMMIT, with no holdover. -/
def Block.opDue (b : Block) (handover : Bool) (act : Block → Block) : Block :=
  match b.chain.op with
  | some o =>
    if o.handover ≠ handover ∨ (o.bearing ≠ b.brg.now ∧ ahead o.bearing b.brg.now) then b
    else if b.brg.state = .holdover then b.abortOpAll 4
    else if o.verdict = .commit then
      act (({ b with chain := { b.chain with op := none } }.setAll [(Reg.CHN_OP_STATUS_STATE, 2),
        (Reg.CHN_OP_STATUS_MEMBERS, 2 ^ b.rank)]).raiseFixed 7)
    else b.opAbort 7
  | none => b

/-- CHN_SNAP_DATA (R487). -/
def Block.snapBytes (b : Block) : List Byte :=
  let word (x : Word) : List Byte := toLe 4 x.toNat
  b.stampNow b.chain.snapshots ++ word (b.rd Reg.FB_HEAD) ++ word (b.rd Reg.TRV_STAT) ++ word (b.rd Reg.PT_THERM) ++
    toLe 4 ((List.range 24).map fun n => b.get (Reg.LP_TX_COUNT_COUNT n)).sum ++ word (b.rd Reg.MAC_GASP_RX) ++
    word (b.rd Reg.QF_DROPS) ++ word (b.rd Reg.TRV_REPL_SEQ) ++ toLe 4 (b.get Reg.CHN_SYNC_SEQ_SEQ)

/-- Capture a snapshot. -/
def Block.captureSnap (b : Block) : Block :=
  let b := { b with chain := { b.chain with snapshots := (b.chain.snapshots + 1) % 2 ^ 15 } }
  let bytes := b.snapBytes
  (List.range 16).foldl (fun b i => b.wr (Reg.CHN_SNAP_DATA i) (BitVec.ofNat 32 (leAt bytes (4 * i) 4))) b

/-- SNAPSHOT (R487). -/
def execSnapshot (s : State) : Host.Outcome State Fault Refusal :=
  answer "SNAPSHOT" true s fun b => b.opDue false Block.captureSnap

/-- The handover at H (R485): the master and its paired ports stand by, the standby takes over. -/
def Block.handOver (b : Block) : Block :=
  match b.chain.role with
  | .master =>
    let p := b.partner.getD 0
    let b := (b.post 0x0D07 2 0x46 [(1, 2), (1, p)]).set Reg.CHN_STAT_YIELDED 1
    let b := b.dropBarrier.takeFollower true p
    let b := { b with chain := { b.chain with masterFreq := b.freq } }
    let b := b.enterFollow
    let b := { b with brg := { b.brg with steer := 0, err := 0 } }
    ((b.set Reg.TRV_PART_ROLE 1).standPairedBy).refreshChain
  | .standby => b.takeOver
  | _ => b

/-- HANDOVER (R485). -/
def execHandover (s : State) : Host.Outcome State Fault Refusal :=
  answer "HANDOVER" true s fun b => b.opDue true Block.handOver

end Sys2Proof.Machine
end

