-- ==== Sys2Proof/Machine/Start.lean ====
section
/-!
DEFINITION. Start-up as commands (16_faults_reset.md): release of reset and the straps (R538, R580), the self-tests,
calibrations and journal scan of SETTLE (R538), entry to SERVICE (R67, R231, R260, R538).
-/

namespace Sys2Proof.Machine

/-! ### Reset release (R538, R580) -/

/-- Reset is released: the straps are sampled, and LOAD begins with the flash header (R62, R63). -/
def Block.resetRelease (b : Block) (x : Straps) : Block :=
  let b := b.setAll
    [(Reg.HIF_STRAPS_BOOT_SEL, x.bootSel.toNat), (Reg.HIF_STRAPS_CHAIN_RANK, x.chainRank.toNat),
     (Reg.HIF_STRAPS_CHAIN_EN, bitOf x.chainEn), (Reg.HIF_STRAPS_MGT_ADDR, x.mgtAddr.toNat),
     (Reg.HIF_STRAPS_REFCLK_SEL, bitOf x.refclkSel), (Reg.CHN_ID_RANK, x.chainRank.toNat),
     (Reg.CHN_ID_EN, bitOf x.chainEn)]
  (b.setDev .load).readFlashHeader

/-- RESET_RELEASE (R538). -/
def execResetRelease (straps : Straps) (s : State) : Host.Outcome State Fault Refusal :=
  answer "RESET_RELEASE" true s fun b => if b.dev == .reset then b.resetRelease straps else b

/-! ### Self-tests (R538) -/

/-- Several doubts at one instant (R536): the lowest code is kept, each makes its own record. -/
def Block.doubts (b : Block) (codes : List Nat) : Block :=
  match codes.filter (fun c => doubtDetected c b.dev) with
  | [] => b
  | first :: rest =>
    let prior := b.dev.code
    rest.foldl (fun b c => b.post 0x1002 4 0x49 [(1, c), (1, prior)]) (b.enterQuiet first)

/-- Slice j of port n under the test of SETTLE (R147): a retired slice is not tested again. -/
def Block.settleSlice (b : Block) (n j : Nat) (pass : Bool) : Block :=
  if b.bit (Reg.LP_SLICE_STAT_RETIRED n) j || pass then b else b.retireSlice n j 0

/-- The slices of a port under the test of SETTLE (R147): each returns to the healthy set or is retired. -/
def Block.settleSlices (b : Block) (n : Nat) (pass : BitVec 12) : Block :=
  let b := b.setPort n { b.port n with untested := [] }
  let b := (List.range 12).foldl (fun b j => b.settleSlice n j (pass.getLsbD j)) b
  b.applySlices n

/-- A cipher engine fails its known-answer test (R410, R555). -/
def Block.retireEngine (b : Block) (e : Nat) : Block :=
  let b := (b.setBit Reg.CX_ENGINE_STAT_ALIVE e false).post 0x0B05 3 0x43 [(1, e)]
  b.spareLow 4 ((List.range 4).filter b.engineAlive).length

/-- The known-answer tests of the engines (R410). After a full reset ALIVE is 0 and all four are tested; later, those
in service. -/
def Block.testEngines (b : Block) (pass : BitVec 4) : Block :=
  let tested := (List.range 4).filter fun e => b.get Reg.CX_ENGINE_STAT_ALIVE == 0 || b.engineAlive e
  let b := tested.foldl (fun b e => b.setBit Reg.CX_ENGINE_STAT_ALIVE e true) b
  (tested.filter fun e => !pass.getLsbD e).foldl (fun b e => b.retireEngine e) b

/-- The tests of the fixed units, and of the channels in use with the values they computed for vectors A and B (R417 to
R419). -/
def Block.testSieve (b : Block) (t : SelfTest) : Block :=
  let b := b.set Reg.CV_STAT_FIXED_OK t.fixedUnits.toNat
  let b := ((List.range 4).filter fun u => !t.fixedUnits.getLsbD u).foldl (fun b u => b.post 0x0B09 4 0x44 [(1, u)]) b
  let b := b.defaultCheckB ((b.img.active.map fun (x : ImageSet) => x.sections).getD []) fun u => t.fixedUnits.getLsbD u
  (List.range 16).foldl (fun b ch =>
    b.sieveTest ch (t.channelsA.getD ch 0).toNat (t.channelsB.getD ch 0).toNat) b

/-- The record of tamper events latched while unpowered (R413). -/
def Block.recordTamper (b : Block) (latched : Nat) : Block :=
  let mask := b.cx.tamperUnpowered ||| (latched &&& b.get Reg.CX_TAMPER_CFG_EN)
  if mask = 0 then b
  else
    let b := { b with cx := { b.cx with tamperUnpowered := 0 } }
    (b.set Reg.CX_TAMPER_STAT_LATCH (b.get Reg.CX_TAMPER_STAT_LATCH ||| mask)).post 0x0B06 4 0x43 [(1, mask), (1, 0)]

/-- VDDA_5 as SETTLE finds it (R594). -/
def Block.checkVdda5 (b : Block) (ok : Bool) : Block :=
  let b := { b with ports := { b.ports with vdda5Low := !ok } }
  if ok then b else (List.range 4).foldl (fun b k => b.bankOff k) b

/-- The codes of the doubts that self-tests raise (R382, R410, R418, R536), lowest first. -/
def Block.testDoubts (b : Block) (t : SelfTest) : List Nat :=
  (if t.sramOk then [] else [0x02]) ++ (if t.pufOk then [] else [0x03]) ++
    (if t.fixedUnits = 15 then [] else [0x06]) ++
    (if ((List.range 4).filter b.engineAlive).length < 2 then [0x07] else [])

/-- The self-tests, calibrations and journal scan of SETTLE end (R538): a pass, or doubts. -/
def Block.selfTest (b : Block) (t : SelfTest) : Block :=
  let b := b.journalScan (t.journalBad.map BitVec.toNat)
  let b := b.recordTamper t.tamperLatched.toNat
  let b := (b.testEngines t.engines).testSieve t
  let b := if b.cx.drbgStopped then b else b.set Reg.CX_RNG_STAT_HEALTHY 1
  let b := t.rxFail.foldl (fun b l => b.retireLane l.val) b
  let b := t.txFail.foldl (fun b l => b.retireTxLane l.val) b
  let b := (List.range 24).foldl (fun b n => b.settleSlices n (t.slices.getD n 0)) b
  let b := (b.checkVdda5 t.vdda5Ok).calibrateSense t.converters t.offsets
  let b := { b with fault := { b.fault with selfOk := true } }
  b.refreshLoops.doubts (b.testDoubts t)

/-- SELF_TEST_COMPLETE (R538). -/
def execSelfTestComplete (t : SelfTest) (s : State) : Host.Outcome State Fault Refusal :=
  answer "SELF_TEST_COMPLETE" t.wf s fun b => if b.dev == .settle then b.selfTest t else b

/-! ### Entry to SERVICE (R538) -/

/-- The lock that R538 (b) asks for. -/
def Block.lockAchieved (b : Block) : Bool := b.brg.state == .locked || b.brg.state == .follow || b.brg.lockOk

/-- The conditions of SETTLE → SERVICE (R538). -/
def Block.serviceReady (b : Block) : Bool :=
  b.dev == .settle && b.fault.selfOk && b.lockAchieved && (!b.chainEnabled || b.chain.joined)

/-- The coupler base of a port is taken over its first 64 transmissions in SERVICE (R231). -/
def Block.restartCoupler (b : Block) (n : Nat) : Block :=
  (b.setPort n { b.port n with baseSum := 0, baseCount := 0, departures := 0, fundamentalLow := 0 }).set
    (Reg.SND_CPL_BASE_VALID n) 0

/-- SERVICE begins: sealed where the image asks for it (R67), ports, loops and serial ports in service, the bases of
R231 begin, every bound triad discovers (R260). -/
def Block.enterService (b : Block) : Block :=
  let b := b.setDev .service
  let flags : Word := (b.img.active.map fun (x : ImageSet) => x.flags).getD 0
  let b := if flags.getLsbD 0 then b.set Reg.CFG_STATUS_SEALED 1 else b
  let b := (List.range 24).foldl (fun b n => b.restartCoupler n) b
  (b.refreshPorts.refreshLoops.serialFollow.discoverAll.refreshChain).tryHold

/-- SERVICE_ENTER (R538). -/
def execServiceEnter (s : State) : Host.Outcome State Fault Refusal :=
  answer "SERVICE_ENTER" true s fun b => if b.serviceReady then b.enterService else b

end Sys2Proof.Machine
end

