-- ==== Sys2Proof/Machine/Access.lean ====
section
/-!
DEFINITION. Register accesses as commands: writes by the PF, a VF or an internal master (R4 to R8, R42, R347, R540,
R567 to R569), and the console agent (R578, R579). A write that reaches a command register does what the command of its
own row does.
-/

namespace Sys2Proof.Machine

/-! ### Fields by access code (R5 to R7) -/

/-- Bits of a register that carry RWL fields; the fields a table reserves on one of two ports are left out. -/
def rwlBits (off : Nat) : Nat := rwlMask off &&& settableMask off

/-- Whether a write touches an RWL field (R6): it would give the field another value. -/
def Block.touchesRwl (b : Block) (off : Nat) (v : Word) : Bool :=
  ((b.rd off).toNat ^^^ v.toNat) &&& rwlBits off != 0

/-- The value a field takes from a write of `new` over `old` by master m (R5, R572). -/
def fieldAfter (base m : Nat) (f : FieldSpec) (old new : Nat) : Nat :=
  match f.access with
  | .ro | .ros | .wo => old
  | .w1c => old - (old &&& new)
  | .w1s => old ||| new
  | .rwl => new
  | .rw =>
    let vfVector := base == Reg.CX_PAGE_CTRL 0 && f.lo == 0 && 1 ≤ m && m ≤ 15 && 15 < new
    if softOk base f.lo new && !vfVector then new else old

/-- A write applies its fields by their access codes; reserved bits are ignored (R5, R7), an empty offset ignores it
(R8). -/
def Block.writeFields (b : Block) (m off : Nat) (v : Word) : Block :=
  match regAt off with
  | none => b
  | some r =>
    let old := (b.rd off).toNat
    let keep := if off = Reg.SP_CTRL 0 then 2 ^ 5 else if off = Reg.SP_CTRL 1 then 2 ^ 4 else 0
    let new := r.fields.foldl (fun w f =>
      setBits w f.lo f.width (fieldAfter r.base m f (bitsAt old f.lo f.width) (bitsAt v.toNat f.lo f.width))) old
    b.wr off (BitVec.ofNat 32 (new - (new &&& keep)))

/-! ### Registers whose write is a command -/

/-- GLB_, FLT_ and FB_ (R377, R547, R558, R559). -/
def Block.writeGlb (b : Block) (off n : Nat) : Option Block :=
  if off = Reg.GLB_CMD then some (if n % 16 = 1 then b.doubt 0x0D else b)
  else if off = Reg.GLB_WDOG_KICK then some (if n % 256 = 0xA5 then b.kick else b)
  else if off = Reg.FLT_JNL_SEL then some (b.journalSelect (n % 2 ^ 14))
  else if off = Reg.FB_POST then some (b.fbPost (n % 2 ^ 12) (bitsAt n 12 3))
  else none

/-- CFG_CMD (R84). -/
def Block.writeCfg (b : Block) (off n : Nat) : Option Block :=
  if off ≠ Reg.CFG_CMD then none
  else some (match n % 16 with
    | 1 => b.loadCmd
    | 2 => b.stageCmd 0
    | 3 => b.stageCmd 1
    | 4 => b.stageCmd 2
    | 5 => b.armSwap
    | 6 => b.disarmSwap
    | 7 => b.discardCmd
    | 8 => b.sealCmd
    | _ => b.cfgCmd true fun b => b.cfgDone stInvalid)

/-- BRG_: an armed alarm keeps its target; BRG_ALk_HI arms and disarms (R122). -/
def Block.writeBrg (b : Block) (off : Nat) (v : Word) : Option Block :=
  match instanceAt Reg.BRG_AL_HI 4 off, instanceAt Reg.BRG_AL_LO 4 off with
  | some k, _ => some (b.alarmWrite k v)
  | none, some k => if b.on (Reg.BRG_AL_HI_ARM k) then some b else none
  | none, none => none

/-- The registers of one Datum domain: the increment pair and the commands (R431 to R433). -/
def Block.writeDomain (b : Block) (x off : Nat) (v : Word) : Option Block :=
  if off = Reg.DTM_INCR_LO x then
    (if b.on (Reg.DTM_STAT_FOLLOW x) then some (b.set (Reg.DTM_CMD_RESULT_STATUS x) stStateReject) else none)
  else if off = Reg.DTM_INCR_HI x then some (b.incrCommit x v)
  else if off = Reg.DTM_CMD x then some (match v.toNat % 4 with
    | 1 => b.setTime x
    | 2 => b.stepTime x
    | _ => b.dtmDone x stInvalid false)
  else none

/-- The registers of one time pulse: CTRL is a command, target and period stand while ENABLE is 1 (R444). -/
def Block.writePulse (b : Block) (off : Nat) (v : Word) : Option Block :=
  let j := (off - Reg.DTM_TP_CTRL 0) / 0x20
  if off = Reg.DTM_TP_CTRL j then some (b.tpWrite j v)
  else if b.on (Reg.DTM_TP_CTRL_ENABLE j) && [Reg.DTM_TP_T0 j, Reg.DTM_TP_T1 j, Reg.DTM_TP_T2 j,
    Reg.DTM_TP_PERIOD j].contains off then some b
  else none

/-- DTM_ (R431 to R454). -/
def Block.writeDtm (b : Block) (off : Nat) (v : Word) : Option Block :=
  if off < Reg.DTM_ACTIVE then b.writeDomain ((off - 0x50000) / 0x40) off v
  else if off = Reg.DTM_ACTIVE then some (b.domainSwitch (v.toNat % 2))
  else if off = Reg.DTM_CAPTURE then some (if v.toNat % 2 = 1 then b.capture else b)
  else if Reg.DTM_TP_CTRL 0 ≤ off ∧ off < Reg.DTM_TIME_CTRL then b.writePulse off v
  else if off = Reg.DTM_TIME_CMD then some (match v.toNat % 4 with
    | 1 => b.clearAsym
    | 2 => b.setCorr
    | 3 => b.remeasure
    | _ => b.timeDone stInvalid)
  else none

/-- SND_: the commands on a fingerprint, and the reference bytes of its window (R235). -/
def Block.writeSnd (b : Block) (off : Nat) (v : Word) : Option Block :=
  if off = Reg.SND_FP_CMD then some (b.printCmd (v.toNat % 4))
  else if 0xC1000 ≤ off ∧ off < 0xC1040 then
    let at_ := off - 0xC1000
    some { b with sound := { b.sound with
      window := Store.putAll (fun _ => 0) b.sound.window at_ ((toLe 4 v.toNat).take (29 - at_)) } }
  else none

/-- TRV_ (R326). -/
def Block.writeTrv (b : Block) (off : Nat) (v : Word) : Option Block :=
  if off = Reg.TRV_RT_NODE then some (b.routeLatch (v.toNat % 2 ^ 17))
  else if off ≠ Reg.TRV_CMD then none
  else some (match v.toNat % 16 with
    | 1 => b.freeCmd
    | 2 => b.blockCmd
    | 3 => b.unblockCmd
    | 4 => b.pinCmd
    | 5 => b.unpinCmd
    | 6 => b.repairCmd
    | 7 => b.phResetCmd
    | _ => b.trvDone stInvalid)

/-- A CONV command on a function's conversation (R369): 0 does nothing, 3 is INVALID. -/
def Block.convCmd (b : Block) (fn n : Nat) : Block :=
  match n % 4 with
  | 0 => b
  | 1 => b.pauseConv fn
  | 2 => b.resumeConv fn (n.testBit 2) (n.testBit 3)
  | _ => b.convStatus fn stInvalid

/-- CHN_CMD (R491). -/
def Block.writeChn (b : Block) (off n : Nat) : Option Block :=
  if off ≠ Reg.CHN_CMD then none
  else some (match n % 16 with
    | 1 => b.chainResetCmd
    | 2 => b.barrierCmd
    | 3 => b.armOp false
    | 4 => b.disarmOp false
    | 5 => b.armOp true
    | 6 => b.disarmOp true
    | _ => b.chnCmd fun b => b.chnDone stInvalid)

/-- A write that a rule of its own decides, if it is one. -/
def Block.writeSpecial (b : Block) (off : Nat) (v : Word) : Option Block :=
  if off < 0x10000 then b.writeGlb off v.toNat
  else if off < 0x20000 then b.writeCfg off v.toNat
  else if off < 0x30000 then b.writeGlb off v.toNat
  else if off < 0x50000 then b.writeBrg off v
  else if off < 0x60000 then b.writeDtm off v
  else if off < 0xC0000 then none
  else if off < 0xE0000 then b.writeSnd off v
  else if off < 0x100000 then b.writeTrv off v
  else if off = Reg.QF_CONV then some (b.convCmd (bitsAt v.toNat 8 4) v.toNat)
  else if off < 0x1A0000 then
    match cipherPage off with
    | some p => if off = Reg.CX_CTX_SEL p then some (b.ctxLatch p v) else none
    | none => none
  else if off < 0x1D0000 then b.writeChn off v.toNat
  else match instanceAt Reg.SP_TX 2 off with
    | some p => some (b.spTxWrite p v)
    | none => none

/-- MIN_BE of LP_G3_CSMA does not exceed MAX_BE (R340): a write that would make it so is not applied (R341). -/
def Block.keepCsma (b before : Block) (n : Nat) : Block :=
  if b.get (Reg.LP_G3_CSMA_MIN_BE n) ≤ b.get (Reg.LP_G3_CSMA_MAX_BE n) then b
  else
    let b := b.set (Reg.LP_G3_CSMA_MIN_BE n) (before.get (Reg.LP_G3_CSMA_MIN_BE n))
    if b.get (Reg.LP_G3_CSMA_MIN_BE n) ≤ b.get (Reg.LP_G3_CSMA_MAX_BE n) then b
    else b.set (Reg.LP_G3_CSMA_MAX_BE n) (before.get (Reg.LP_G3_CSMA_MAX_BE n))

/-- What follows a register's new value: outputs and states that show it. `before` is the block the write met. -/
def Block.afterWrite (b before : Block) (off : Nat) : Block :=
  if off = Reg.GLB_CTRL then b.tryHold
  else if off = Reg.BRG_NM_CTRL then b.followNoiseFreeze
  else if off = Reg.SND_CTRL then
    (b.set Reg.SND_CTRL_FREEZE (before.get Reg.SND_CTRL_FREEZE)).setFreeze (b.on Reg.SND_CTRL_FREEZE)
  else if 0x1D0000 ≤ off ∧ off < 0x1E0000 then b.refreshLoops
  else if 0x80000 ≤ off ∧ off < 0x98000 ∧ off % 0x1000 = 0x208 then b.keepCsma before ((off - 0x80000) / 0x1000)
  else match instanceAt Reg.SP_CTRL 2 off, instanceAt Reg.LP_CTRL 24 off, instanceAt Reg.LP_AGC_CTRL 24 off with
    | some p, _, _ =>
      (if b.on (Reg.SP_CTRL_SYNC p) then b.set (Reg.SP_CTRL_AUTO p) (before.get (Reg.SP_CTRL_AUTO p)) else b).serialFollow
    | none, some n, _ => ((b.refreshPort n).showAgcCal n).refreshPortCal n
    | none, none, some n => b.showAgcCal n
    | none, none, none => b

/-- A write by a master to a register it reaches: a violation where it touches an RWL field against R6, discarded whole;
else the register's own rule, or its fields by their access codes. -/
def Block.writeReg (b : Block) (m off : Nat) (v : Word) : Block :=
  if b.g3Absent off then b
  else if b.touchesRwl off v && (m != 0 || b.on Reg.CFG_STATUS_SEALED) then b.violation m 2 off
  else match b.writeSpecial off v with
    | some b' => b'
    | none => (b.writeFields m off v).afterWrite b off

/-! ### Queue descriptors (R344, R345, R347) -/

/-- The function that PROD or CONS of a descriptor names (R343). -/
def Block.descOwner (b : Block) (q : Nat) : Option Nat :=
  if b.get (Reg.QD_CFG_PROD q) < 16 then some (b.get (Reg.QD_CFG_PROD q))
  else if b.get (Reg.QD_CFG_CONS q) < 16 then some (b.get (Reg.QD_CFG_CONS q))
  else none

/-- The BASE bits of a descriptor change only on a CMD or CPL ring that is disabled or whose function is paused
(R345). -/
def Block.keepBase (b before : Block) (q : Nat) : Block :=
  let free := (before.qKind q == 1 || before.qKind q == 2) &&
    (!before.on (Reg.QD_CFG_ENABLE q) || before.still ((before.qOwner q).getD 0))
  if free then b
  else (b.set (Reg.QD_BASE_LO_BASE q) (before.get (Reg.QD_BASE_LO_BASE q))).set (Reg.QD_BASE_HI_BASE q)
    (before.get (Reg.QD_BASE_HI_BASE q))

/-- A crossing bit that a write of 1 clears takes its count with it (R352). -/
def Block.clearCounts (b : Block) (q : Nat) (v : Word) : Block :=
  let b := if v.getLsbD 18 then b.set (Reg.QD_CNT_CNT_HI q) 0 else b
  if v.getLsbD 19 then b.set (Reg.QD_CNT_CNT_LO q) 0 else b

/-- A VF's VECTOR above 15 is not applied (R572). -/
def Block.keepVector (b before : Block) (m q : Nat) : Block :=
  if 1 ≤ m ∧ m ≤ 15 ∧ 15 < b.get (Reg.QD_CFG_VECTOR q) then
    b.set (Reg.QD_CFG_VECTOR q) (before.get (Reg.QD_CFG_VECTOR q))
  else b

/-- A write to word `w` of the descriptor of queue q by a function (R347, R540); `at_` is the offset a violation shows. -/
def Block.writeDesc (b : Block) (m q w at_ : Nat) (v : Word) : Block :=
  let off := Reg.QD_CFG q + 4 * w
  if 3 ≤ w ∧ w ≤ 5 then b
  else if b.descOwner q ≠ some m then b.violation m 5 at_
  else if b.touchesRwl off v && (m != 0 || b.on Reg.CFG_STATUS_SEALED) then b.violation m 2 at_
  else
    let new := ((b.writeFields m off v).keepBase b q).keepVector b m q
    let new := if w = 2 then new.clearCounts q v else new
    new.drain m

/-! ### Windows (R567 to R569) -/

/-- A write to the MSI-X table of a function: address, data, mask; an unmasked vector sends what is pending (R574). -/
def Block.writeMsix (b : Block) (fn o : Nat) (v : Word) : Block :=
  let vector := o / 16
  if vectorsOf fn ≤ vector then b
  else
    let e := b.msixEntry fn vector
    let e := match o % 16 / 4 with
      | 0 => { e with addr := BitVec.ofNat 64 (e.addr.toNat / 2 ^ 32 * 2 ^ 32 + v.toNat) }
      | 1 => { e with addr := BitVec.ofNat 64 (e.addr.toNat % 2 ^ 32 + v.toNat * 2 ^ 32) }
      | 2 => { e with data := v }
      | _ => { e with masked := v.getLsbD 0 }
    let b := { b with host := { b.host with
      msix := Store.put (fun _ => MsixEntry.reset) b.host.msix (msixKey fn vector) e } }
    b.releaseVector fn vector

/-- A write to a doorbell page: the doorbells and CONV_CTRL (R357, R369). -/
def Block.writeBellPage (b : Block) (fn o : Nat) (v : Word) : Block :=
  if o < 4080 then b.doorbell fn (o / 4) v
  else if o = 0xFF0 then b.convCmd fn v.toNat
  else b

/-- A write to a write-port page (R359). -/
def Block.writePortAt (b : Block) (fn o : Nat) (v : Word) : Block :=
  let p := o / 16
  match o % 16 / 4 with
  | 0 => b.wpWrite fn p (toLe 1 v.toNat)
  | 1 => b.wpWrite fn p (toLe 2 v.toNat)
  | 2 => b.wpWrite fn p (toLe 4 v.toNat)
  | _ =>
    let b := if v.getLsbD 1 then b.wpEop fn p else b
    if v.getLsbD 0 then b.wpSop fn p else b

/-- Whether the device's state lets a write of the PF through (R65, R537). -/
def Block.stateOpen (b : Block) (off : Nat) : Bool :=
  match b.dev with
  | .reset => false
  | .load => off < 0x20000
  | .quiet => off == Reg.FLT_PEND || off == Reg.GLB_CMD
  | _ => true

/-- A write of the PF to BAR0 (R567, R568). -/
def Block.pfWrite (b : Block) (off : Nat) (v : Word) : Block :=
  if !b.stateOpen off then b
  else if 0x200000 ≤ off ∧ off < 0x400000 then b.writeDesc 0 ((off - 0x200000) / 32) (off % 32 / 4) off v
  else if 0x400000 ≤ off then b
  else if 0x1F1000 ≤ off ∧ off < 0x1F2000 then b.writeMsix 0 (off - 0x1F1000) v
  else if 0x1F3000 ≤ off ∧ off < 0x1F4000 then b.writeBellPage 0 (off - 0x1F3000) v
  else if 0x1F4000 ≤ off ∧ off < 0x1F5000 then b.writePortAt 0 (off - 0x1F4000) v
  else match cipherPage off with
    | some p => if b.pageFn p = 0 then b.writeReg 0 off v else b.violation 0 1 off
    | none => b.writeReg 0 off v

/-- A write of a VF to its window (R569); an offset beyond the window lies in another function's (R540). -/
def Block.vfWrite (b : Block) (fn off : Nat) (v : Word) : Block :=
  if !b.reaches fn then b
  else if 0x10000 ≤ off then b.violation fn 1 off
  else if off < 0x1000 then
    match b.heldPage fn with
    | some p => b.writeReg fn (Reg.cxPage p + off) v
    | none => b
  else if off < 0x2000 then b.writeBellPage fn (off - 0x1000) v
  else if off < 0x3000 then b.writePortAt fn (off - 0x2000) v
  else if off < 0x3100 then b.writeMsix fn (off - 0x3000) v
  else if off < 0x4000 then b
  else match (b.owned fn)[(off - 0x4000) / 32]? with
    | some q => b.writeDesc fn q (off % 32 / 4) off v
    | none => b

/-! ### Internal masters (R42, R43, R567) -/

/-- Whether an offset of BAR0 lies in a range the image opens to the console agent (R579, R585). -/
def Block.openRange (b : Block) (off : Nat) : Bool :=
  (List.range 8).any fun r => b.on (Reg.HIF_CON_OPEN_BASE_EN r) &&
    b.get (Reg.HIF_CON_OPEN_BASE_BASE r) ≤ off / 4 && off / 4 ≤ b.get (Reg.HIF_CON_OPEN_LIMIT_LIMIT r)

/-- What the registers and windows of an internal master are (R42, R567). -/
def Block.granted (b : Block) (m off : Nat) : Bool :=
  let inside (a z : Nat) : Bool := a ≤ off && off < z
  match m with
  | 16 => inside 0x1C0000 0x1C0140
  | 17 => (inside 0x1E0000 0x1E1000 && b.on (Reg.SP_CTRL_OWNER 0)) || b.openRange off
  | 18 => (b.dev == .reset || b.dev == .load) && (inside 0 0x1000 || inside 0x10000 0x11000)
  | 19 => inside 0xA0000 0xA0E00
  | 20 => inside 0xE0000 0xE1800 || inside 0x400000 0xC00000
  | 21 => inside 0xC0000 0xC1040
  | 22 => inside 0x1D0000 0x1D0800
  | 23 => inside 0x28000 0x28100 || inside 0x30000 0x40000
  | _ => false

/-- Whether the device's state lets the access of an internal master through: in RESET that of the boot loader alone, in LOAD
those to GLB_ and CFG_ (R42, R65, R537). -/
def Block.internalOpen (b : Block) (m off : Nat) : Bool :=
  match b.dev with
  | .reset => m == 18
  | .load => off < 0x20000
  | .quiet => false
  | _ => true

/-- Whether an offset is a queue descriptor and the master one whose grants name queues (R42). -/
def namesQueues (m off : Nat) : Bool := 0x200000 ≤ off && off < 0x400000 && 19 ≤ m && m ≤ 22

/-- A write of an internal master: outside its grants it is a violation of kind 8; a descriptor belongs to a function
(R347, kind 5). -/
def Block.internalWrite (b : Block) (m off : Nat) (v : Word) : Block :=
  if !b.internalOpen m off then b
  else if namesQueues m off then (if 3 ≤ off % 32 / 4 ∧ off % 32 / 4 ≤ 5 then b else b.violation m 5 off)
  else if !b.granted m off then b.violation m 8 off
  else b.writeReg m off v

/-! ### Reads (R4, R8, R42, R540, R541) -/

/-- The answer to a read of a register: its own effect where it has one (R124, R292, R440, R442, R454, R517), else the word it
shows. -/
def Block.readAnswer (b : Block) (m off : Nat) (shown : Word) : Block :=
  (b.readSpecial m off).getD (b.answerWith (.word shown))

/-- A read of the PF: the cipher page of another function is a violation of kind 1, and its answer that of a frozen master. -/
def Block.pfRead (b : Block) (off : Nat) : Block :=
  let live : Bool := match b.dev with
    | .settle | .service | .hold => true
    | _ => false
  if live && (cipherPage off).any (fun p => b.pageFn p != 0) then (b.violation 0 1 off).answerWith (.word 0xFFFFFFFF)
  else if live then b.readAnswer 0 off (b.pfWord off)
  else b.answerWith (.word (b.pfWord off))

/-- A read of a VF: an offset beyond its window lies in another function's (R540). -/
def Block.vfRead (b : Block) (fn off : Nat) : Block :=
  if 0x10000 ≤ off ∧ b.reaches fn then (b.violation fn 1 off).answerWith (.word 0xFFFFFFFF)
  else b.answerWith (.word (b.vfWord fn off))

/-- A read of an internal master: outside its grants a violation of kind 8. -/
def Block.internalRead (b : Block) (m off : Nat) : Block :=
  if !b.internalOpen m off then b.answerWith (.word 0)
  else if namesQueues m off then b.answerWith (.word (b.word off))
  else if !b.granted m off then (b.violation m 8 off).answerWith (.word 0xFFFFFFFF)
  else b.readAnswer m off (b.shownWord m off)

/-! ### The commands -/

/-- A register access (R4, R5): Unsupported Request where R4 or R565 asks for it; a frozen master reads ones and its writes are
ignored (R541); masters 24 to 31 issue none. -/
def Block.registerWrite (b : Block) (w : RegWrite) : Block :=
  let m := w.master.val
  let off := w.off.toNat
  if m < 16 && (off % 4 != 0 || b.dev == .reset || !b.present m || !(b.config m).mse) then b.answerWith .unsupported
  else if off % 4 ≠ 0 ∨ 24 ≤ m then b
  else match w.v with
    | some v =>
      if b.frozen m then b
      else if m = 0 then b.pfWrite off v
      else if m < 16 then b.vfWrite m off v
      else b.internalWrite m off v
    | none =>
      if b.frozen m then b.answerWith (.word 0xFFFFFFFF)
      else if m = 0 then b.pfRead off
      else if m < 16 then b.vfRead m off
      else b.internalRead m off

/-- REGISTER_WRITE (R5). -/
def execRegisterWrite (w : RegWrite) (s : State) : Host.Outcome State Fault Refusal :=
  answer "REGISTER_WRITE" true s fun b => b.registerWrite w

/-- MISALIGNED_ACCESS (R4): Unsupported Request, and nothing else. -/
def execMisalignedAccess (_fn : Fin 16) (off : BitVec 24) (bytes : Nat) (s : State) : Host.Outcome State Fault Refusal :=
  answer "MISALIGNED_ACCESS" (accessMisaligned off.toNat bytes) s fun b => b.answerWith .unsupported

/-! ### Reading for the console (R578, R579) -/

/-- A read by the console agent: the block after it, and the word. In QUIET only GLB_, FLT_ and FB_ read as they are
(R537). -/
def Block.consoleWord (b : Block) (off : Nat) : Block × Word :=
  let readable := off < 0x10000 || (0x20000 ≤ off && off < 0x40000)
  if b.dev == .quiet && !readable then (b, 0)
  else match b.readSpecial 17 off with
    | some b' => match b'.host.answer with
      | .word w => (b', w)
      | _ => (b', 0)
    | none => (b, b.shownWord 17 off)

/-- The grants of the console agent to read (R579). -/
def Block.consoleReads (b : Block) (off : Nat) : Bool :=
  let inside (a z : Nat) : Bool := a ≤ off && off < z
  off % 4 == 0 && (inside 0 0x1000 || inside 0x20000 0x21000 || inside 0x28000 0x28100 || off == Reg.CFG_STATUS ||
    inside 0x40000 0x4E000 || inside 0x1C0000 0x1C0140 || inside 0x80000 0x98000 || inside 0x1D0000 0x1D0800 ||
    b.openRange off)

/-! ### Lines (R578) -/

/-- The value of a hexadecimal digit in ASCII. -/
def hexValue (c : Byte) : Option Nat :=
  let n := c.toNat
  if 0x30 ≤ n ∧ n ≤ 0x39 then some (n - 0x30)
  else if 0x41 ≤ n ∧ n ≤ 0x46 then some (n - 0x41 + 10)
  else if 0x61 ≤ n ∧ n ≤ 0x66 then some (n - 0x61 + 10)
  else none

/-- A number of eight hexadecimal digits. -/
def hexWord (cs : List Byte) : Option Nat :=
  if cs.length ≠ 8 then none
  else cs.foldl (fun acc c => match acc, hexValue c with
    | some a, some d => some (a * 16 + d)
    | _, _ => none) (some 0)

/-- A hexadecimal digit in ASCII, upper case. -/
def hexDigit (d : Nat) : Byte := BitVec.ofNat 8 (if d < 10 then 0x30 + d else 0x41 + d - 10)

/-- A number as `n` hexadecimal digits, the most significant first. -/
def hexDigits (n v : Nat) : List Byte := (List.range n).reverse.map fun i => hexDigit (v / 16 ^ i % 16)

/-- What a line asks for (R578). -/
inductive ConsoleLine where
  | read (off : Nat)
  | write (off : Nat) (v : Word)
  | status
  | book (seq : Word)
  | other
deriving DecidableEq, Repr

/-- A line as the agent reads it: LF is ignored, more than 64 characters are too many. -/
def parseLine (line : List Byte) : ConsoleLine :=
  let cs := line.filter fun c => c != 0x0A
  if 64 < cs.length then .other
  else match cs with
  | [0x53#8] => .status
  | 0x52#8 :: 0x20#8 :: rest => match hexWord rest with
    | some a => .read a
    | none => .other
  | 0x46#8 :: 0x20#8 :: rest => match hexWord rest with
    | some n => .book (BitVec.ofNat 32 n)
    | none => .other
  | 0x57#8 :: 0x20#8 :: rest =>
    if rest.length = 17 ∧ rest[8]? = some 0x20 then
      match hexWord (rest.take 8), hexWord (rest.drop 9) with
      | some a, some v => .write a (BitVec.ofNat 32 v)
      | _, _ => .other
    else .other
  | _ => .other

/-- ASCII of OK, of E 01 and of E 02. -/
def textOk : List Byte := [0x4F, 0x4B]
def textE (n : Nat) : List Byte := [0x45, 0x20] ++ hexDigits 2 n

/-- Whether the agent takes a line: SP0 is its own, and the device is past LOAD (R578, R584). -/
def Block.consoleTakes (b : Block) : Bool :=
  b.on (Reg.SP_CTRL_ENABLE 0) && b.on (Reg.SP_CTRL_OWNER 0) && (match b.dev with
    | .settle | .service | .hold | .quiet => true
    | _ => false)

/-- The agent answers a line with one line (R578); the lines, and those answered E, are counted (R585). -/
def Block.consoleSay (b : Block) (line : List Byte) : Block :=
  let b := b.inc Reg.HIF_CONSOLE_LINES
  let b := if line.head? = some 0x45 then b.inc Reg.HIF_CONSOLE_REFUSED else b
  ({ b with host := { b.host with consoleOut := b.host.consoleOut ++ [line] } }).answerWith (.bytes line)

/-- A line that asks for what its row names. -/
def Block.consoleLine (b : Block) (occasion : Bool) (f : Block → Block) : Block :=
  if b.consoleTakes && occasion then f b else b

/-- R (R578, R579). -/
def Block.consoleR (b : Block) (off : Nat) : Block :=
  if !b.consoleReads off then b.consoleSay (textE 2)
  else
    let r := b.consoleWord off
    r.1.consoleSay (textOk ++ [0x20] ++ hexDigits 8 r.2.toNat)

/-- W (R578, R579, R584): E 02 outside the open ranges, E 01 where an RWL field would be touched and in QUIET. -/
def Block.consoleW (b : Block) (off : Nat) (v : Word) : Block :=
  if off % 4 ≠ 0 ∨ !b.openRange off then b.consoleSay (textE 2)
  else if b.touchesRwl off v || b.dev == .quiet then b.consoleSay (textE 1)
  else
    let b := b.writeReg 17 off v
    if b.dev == .reset then b else b.consoleSay textOk

/-- S (R578). -/
def Block.consoleS (b : Block) : Block :=
  b.consoleSay (textOk ++ [0x20] ++ hexDigits 2 b.dev.code ++ [0x20] ++ hexDigits 2 (b.get Reg.GLB_STATE_QUIET_CAUSE) ++
    [0x20] ++ hexDigits 8 (b.rd Reg.FLT_PEND).toNat)

/-- F (R578): the record of a sequence, unless it is overwritten or not yet made. -/
def Block.consoleF (b : Block) (seq : Word) : Block :=
  match b.book.find? fun p => p.1 == seq.toNat % 4096 && p.2.seq == seq with
  | some p => b.consoleSay (textOk ++ [0x20] ++ p.2.toBytes.flatMap fun x => hexDigits 2 x.toNat)
  | none => b.consoleSay (textE 2)

/-- CONSOLE_READ (R578). -/
def execConsoleRead (line : List Byte) (s : State) : Host.Outcome State Fault Refusal :=
  answer "CONSOLE_READ" true s fun b =>
    match parseLine line with
    | .read off => b.consoleLine true fun b => b.consoleR off
    | _ => b

/-- CONSOLE_WRITE (R578). -/
def execConsoleWrite (line : List Byte) (s : State) : Host.Outcome State Fault Refusal :=
  answer "CONSOLE_WRITE" true s fun b =>
    match parseLine line with
    | .write off v => b.consoleLine true fun b => b.consoleW off v
    | _ => b

/-- CONSOLE_STATUS (R578). -/
def execConsoleStatus (s : State) : Host.Outcome State Fault Refusal :=
  answer "CONSOLE_STATUS" true s fun b => b.consoleLine true fun b => b.consoleS

/-- CONSOLE_FIELD_BOOK (R578). -/
def execConsoleFieldBook (seq : Word) (s : State) : Host.Outcome State Fault Refusal :=
  answer "CONSOLE_FIELD_BOOK" true s fun b => b.consoleLine true fun b => b.consoleF seq

/-- CONSOLE_OTHER (R578). -/
def execConsoleOther (line : List Byte) (s : State) : Host.Outcome State Fault Refusal :=
  answer "CONSOLE_OTHER" true s fun b => b.consoleLine (parseLine line == .other) fun b => b.consoleSay (textE 2)

end Sys2Proof.Machine
end

