-- ==== Sys2Proof/Machine/Dispatch.lean ====
section
/-!
DEFINITION. The meaning of every command: one arm per constructor, each a direct call of its meaning.
-/

namespace Sys2Proof.Machine

/-- The effect of a command on everything but the queue. -/
def exec (i : Instr) (s : State) : Host.Outcome State Fault Refusal :=
  match i with
  | .misalignedAccess fn off bytes => Sys2Proof.Machine.execMisalignedAccess fn off bytes s
  | .registerWrite w => Sys2Proof.Machine.execRegisterWrite w s
  | .laneCrossCheck c => Sys2Proof.Machine.execLaneCrossCheck c s
  | .laneBindingMove lane => Sys2Proof.Machine.execLaneBindingMove lane s
  | .dramPageRetired page => Sys2Proof.Machine.execDramPageRetired page s
  | .ldpcDecode arrived freed => Sys2Proof.Machine.execLdpcDecode arrived freed s
  | .admission a => Sys2Proof.Machine.execAdmission a s
  | .transmissionStart tx => Sys2Proof.Machine.execTransmissionStart tx s
  | .transmissionEnd tx m => Sys2Proof.Machine.execTransmissionEnd tx m s
  | .load => Sys2Proof.Machine.execLoad s
  | .stageHost => Sys2Proof.Machine.execStageHost s
  | .stageSlotA => Sys2Proof.Machine.execStageSlotA s
  | .stageSlotB => Sys2Proof.Machine.execStageSlotB s
  | .stagingDone src => Sys2Proof.Machine.execStagingDone src s
  | .arm => Sys2Proof.Machine.execArm s
  | .disarm => Sys2Proof.Machine.execDisarm s
  | .discard => Sys2Proof.Machine.execDiscard s
  | .seal => Sys2Proof.Machine.execSeal s
  | .loadComplete src => Sys2Proof.Machine.execLoadComplete src s
  | .swapAbortDeadline => Sys2Proof.Machine.execSwapAbortDeadline s
  | .imageSwap => Sys2Proof.Machine.execImageSwap s
  | .mainsCrossing c => Sys2Proof.Machine.execMainsCrossing c s
  | .slewComplete => Sys2Proof.Machine.execSlewComplete s
  | .referenceSilence => Sys2Proof.Machine.execReferenceSilence s
  | .relockTimeout => Sys2Proof.Machine.execRelockTimeout s
  | .lockWaitExpiry => Sys2Proof.Machine.execLockWaitExpiry s
  | .reseat => Sys2Proof.Machine.execReseat s
  | .triadOutage t => Sys2Proof.Machine.execTriadOutage t s
  | .noiseMapUpdate t samples => Sys2Proof.Machine.execNoiseMapUpdate t samples s
  | .alarmArm k v => Sys2Proof.Machine.execAlarmArm k v s
  | .alarmFire k => Sys2Proof.Machine.execAlarmFire k s
  | .brgNowRead master => Sys2Proof.Machine.execBrgNowRead master s
  | .agcMeasure port level => Sys2Proof.Machine.execAgcMeasure port level s
  | .agcStep port inWindow => Sys2Proof.Machine.execAgcStep port inWindow s
  | .agcRenormalise port => Sys2Proof.Machine.execAgcRenormalise port s
  | .sliceTrip port slice => Sys2Proof.Machine.execSliceTrip port slice s
  | .sliceSuspect port slice => Sys2Proof.Machine.execSliceSuspect port slice s
  | .sliceTest port slice pass => Sys2Proof.Machine.execSliceTest port slice pass s
  | .sliceRotation port => Sys2Proof.Machine.execSliceRotation port s
  | .sliceChangeApply port => Sys2Proof.Machine.execSliceChangeApply port s
  | .bankMeasure bank vld temp => Sys2Proof.Machine.execBankMeasure bank vld temp s
  | .bankOn bank => Sys2Proof.Machine.execBankOn bank s
  | .railFault bank => Sys2Proof.Machine.execRailFault bank s
  | .lossObservation bank supplyMw idleMw => Sys2Proof.Machine.execLossObservation bank supplyMw idleMw s
  | .candidateExpiry => Sys2Proof.Machine.execCandidateExpiry s
  | .coefficientApply target => Sys2Proof.Machine.execCoefficientApply target s
  | .soundingUnfreeze => Sys2Proof.Machine.execSoundingUnfreeze s
  | .rebase => Sys2Proof.Machine.execRebase s
  | .writeRef => Sys2Proof.Machine.execWriteRef s
  | .clearShift => Sys2Proof.Machine.execClearShift s
  | .xbcFilterApply t => Sys2Proof.Machine.execXbcFilterApply t s
  | .superframeStart => Sys2Proof.Machine.execSuperframeStart s
  | .cpEndChoice t => Sys2Proof.Machine.execCpEndChoice t s
  | .cairnTransmit t => Sys2Proof.Machine.execCairnTransmit t s
  | .dataReceived r => Sys2Proof.Machine.execDataReceived r s
  | .ackReceived r => Sys2Proof.Machine.execAckReceived r s
  | .ackMissing tx => Sys2Proof.Machine.execAckMissing tx s
  | .assocReqReceived r => Sys2Proof.Machine.execAssocReqReceived r s
  | .mapReportReceived r => Sys2Proof.Machine.execMapReportReceived r s
  | .gaspReceived g => Sys2Proof.Machine.execGaspReceived g s
  | .cairnCReceived c => Sys2Proof.Machine.execCairnCReceived c s
  | .relayedCairnMissed node => Sys2Proof.Machine.execRelayedCairnMissed node s
  | .leaveReceived r => Sys2Proof.Machine.execLeaveReceived r s
  | .notchRecompute t => Sys2Proof.Machine.execNotchRecompute t s
  | .supervisionExpiry node => Sys2Proof.Machine.execSupervisionExpiry node s
  | .budgetBucketRoll port sb => Sys2Proof.Machine.execBudgetBucketRoll port sb s
  | .budgetTtlExpiry => Sys2Proof.Machine.execBudgetTtlExpiry s
  | .p0Late port bins => Sys2Proof.Machine.execP0Late port bins s
  | .lastGaspClose t => Sys2Proof.Machine.execLastGaspClose t s
  | .rendezvous node => Sys2Proof.Machine.execRendezvous node s
  | .rendezvousMissed node => Sys2Proof.Machine.execRendezvousMissed node s
  | .routeEvaluation node => Sys2Proof.Machine.execRouteEvaluation node s
  | .routeChangeEff node => Sys2Proof.Machine.execRouteChangeEff node s
  | .neighReceived r => Sys2Proof.Machine.execNeighReceived r s
  | .rcMissReceived r => Sys2Proof.Machine.execRcMissReceived r s
  | .rrepReceived r => Sys2Proof.Machine.execRrepReceived r s
  | .joinFwdReceived r => Sys2Proof.Machine.execJoinFwdReceived r s
  | .repairDeadline node => Sys2Proof.Machine.execRepairDeadline node s
  | .free => Sys2Proof.Machine.execFree s
  | .block => Sys2Proof.Machine.execBlock s
  | .unblock => Sys2Proof.Machine.execUnblock s
  | .pin => Sys2Proof.Machine.execPin s
  | .unpin => Sys2Proof.Machine.execUnpin s
  | .repair => Sys2Proof.Machine.execRepair s
  | .phReset => Sys2Proof.Machine.execPhReset s
  | .routeEntryLatch v => Sys2Proof.Machine.execRouteEntryLatch v s
  | .nodeEntryRead node word master => Sys2Proof.Machine.execNodeEntryRead node word master s
  | .g3FrameReceived g => Sys2Proof.Machine.execG3FrameReceived g s
  | .g3Transmit port access => Sys2Proof.Machine.execG3Transmit port access s
  | .g3AckTimeout port => Sys2Proof.Machine.execG3AckTimeout port s
  | .toneMapExpiry port short => Sys2Proof.Machine.execToneMapExpiry port short s
  | .doorbell fn d v => Sys2Proof.Machine.execDoorbell fn d v s
  | .commandFetch ring dma => Sys2Proof.Machine.execCommandFetch ring dma s
  | .nop ring => Sys2Proof.Machine.execNop ring s
  | .send ring dma => Sys2Proof.Machine.execSend ring dma s
  | .recv ring => Sys2Proof.Machine.execRecv ring s
  | .recvDelivery q words bad => Sys2Proof.Machine.execRecvDelivery q words bad s
  | .mark ring => Sys2Proof.Machine.execMark ring s
  | .rewind ring => Sys2Proof.Machine.execRewind ring s
  | .commit ring => Sys2Proof.Machine.execCommit ring s
  | .qstat ring => Sys2Proof.Machine.execQstat ring s
  | .flush ring => Sys2Proof.Machine.execFlush ring s
  | .tagDecision q second equal => Sys2Proof.Machine.execTagDecision q second equal s
  | .wpB1 fn p v => Sys2Proof.Machine.execWpB1 fn p v s
  | .wpB2 fn p v => Sys2Proof.Machine.execWpB2 fn p v s
  | .wpB4 fn p v => Sys2Proof.Machine.execWpB4 fn p v s
  | .wpMarkSop fn p => Sys2Proof.Machine.execWpMarkSop fn p s
  | .wpMarkEop fn p => Sys2Proof.Machine.execWpMarkEop fn p s
  | .convPause fn => Sys2Proof.Machine.execConvPause fn s
  | .convResume fn replay drop => Sys2Proof.Machine.execConvResume fn replay drop s
  | .qfConvPause fn => Sys2Proof.Machine.execQfConvPause fn s
  | .qfConvResume fn replay drop => Sys2Proof.Machine.execQfConvResume fn replay drop s
  | .pauseComplete fn => Sys2Proof.Machine.execPauseComplete fn s
  | .wedged fn => Sys2Proof.Machine.execWedged fn s
  | .fbPost code sev => Sys2Proof.Machine.execFbPost code sev s
  | .ctxOpen ring => Sys2Proof.Machine.execCtxOpen ring s
  | .ctxClose ring => Sys2Proof.Machine.execCtxClose ring s
  | .rekey ring => Sys2Proof.Machine.execRekey ring s
  | .encrypt ring aad src => Sys2Proof.Machine.execEncrypt ring aad src s
  | .decrypt ring aad src => Sys2Proof.Machine.execDecrypt ring aad src s
  | .keyImport ring dma => Sys2Proof.Machine.execKeyImport ring dma s
  | .random ring => Sys2Proof.Machine.execRandom ring s
  | .check ring dma => Sys2Proof.Machine.execCheck ring dma s
  | .suspendedResume e => Sys2Proof.Machine.execSuspendedResume e s
  | .drbgReseed => Sys2Proof.Machine.execDrbgReseed s
  | .entropyFail test => Sys2Proof.Machine.execEntropyFail test s
  | .tamper inputs powered => Sys2Proof.Machine.execTamper inputs powered s
  | .sieveSelfTest ch a b => Sys2Proof.Machine.execSieveSelfTest ch a b s
  | .ctxRecordLatch page v => Sys2Proof.Machine.execCtxRecordLatch page v s
  | .incrCommit x v => Sys2Proof.Machine.execIncrCommit x v s
  | .set x => Sys2Proof.Machine.execSet x s
  | .step x => Sys2Proof.Machine.execStep x s
  | .datumSlewEnd x => Sys2Proof.Machine.execDatumSlewEnd x s
  | .domainSwitch sel => Sys2Proof.Machine.execDomainSwitch sel s
  | .domainSwitchSettled => Sys2Proof.Machine.execDomainSwitchSettled s
  | .datumNowRead x master => Sys2Proof.Machine.execDatumNowRead x master s
  | .txsRead master => Sys2Proof.Machine.execTxsRead master s
  | .capture => Sys2Proof.Machine.execCapture s
  | .tstampEdge k rising => Sys2Proof.Machine.execTstampEdge k rising s
  | .tsiRead k master => Sys2Proof.Machine.execTsiRead k master s
  | .timepulseEnable j v => Sys2Proof.Machine.execTimepulseEnable j v s
  | .timepulseFire j => Sys2Proof.Machine.execTimepulseFire j s
  | .timepulseEnd j => Sys2Proof.Machine.execTimepulseEnd j s
  | .delayReqReceived r => Sys2Proof.Machine.execDelayReqReceived r s
  | .timeReportReceived r => Sys2Proof.Machine.execTimeReportReceived r s
  | .clearAsym => Sys2Proof.Machine.execClearAsym s
  | .setCorr => Sys2Proof.Machine.execSetCorr s
  | .remeasure => Sys2Proof.Machine.execRemeasure s
  | .syncSend => Sys2Proof.Machine.execSyncSend s
  | .syncReceived ring cell residence => Sys2Proof.Machine.execSyncReceived ring cell residence s
  | .rank1SyncWaitExpiry => Sys2Proof.Machine.execRank1SyncWaitExpiry s
  | .chainJoinTimeout => Sys2Proof.Machine.execChainJoinTimeout s
  | .bypassOpen ring => Sys2Proof.Machine.execBypassOpen ring s
  | .echoSend ring => Sys2Proof.Machine.execEchoSend ring s
  | .echoReceived ring roundTrip residence => Sys2Proof.Machine.execEchoReceived ring roundTrip residence s
  | .syncLost => Sys2Proof.Machine.execSyncLost s
  | .masterIsolated => Sys2Proof.Machine.execMasterIsolated s
  | .lossOfSignal ring => Sys2Proof.Machine.execLossOfSignal ring s
  | .wrapReceived ring cell => Sys2Proof.Machine.execWrapReceived ring cell s
  | .ringUnwrap ring => Sys2Proof.Machine.execRingUnwrap ring s
  | .driveReceived ring cell => Sys2Proof.Machine.execDriveReceived ring cell s
  | .tokenReceived ring cell => Sys2Proof.Machine.execTokenReceived ring cell s
  | .verdictReceived ring cell => Sys2Proof.Machine.execVerdictReceived ring cell s
  | .resetCellReceived ring cell => Sys2Proof.Machine.execResetCellReceived ring cell s
  | .replReceived ring cell => Sys2Proof.Machine.execReplReceived ring cell s
  | .rxdoneReceived ring cell => Sys2Proof.Machine.execRxdoneReceived ring cell s
  | .pairReceived ring cell => Sys2Proof.Machine.execPairReceived ring cell s
  | .pairSend => Sys2Proof.Machine.execPairSend s
  | .heldParcelExpiry => Sys2Proof.Machine.execHeldParcelExpiry s
  | .takeover => Sys2Proof.Machine.execTakeover s
  | .pairedPortClose port => Sys2Proof.Machine.execPairedPortClose port s
  | .chainReset => Sys2Proof.Machine.execChainReset s
  | .chainResetTimeout => Sys2Proof.Machine.execChainResetTimeout s
  | .barrier => Sys2Proof.Machine.execBarrier s
  | .snapArm => Sys2Proof.Machine.execSnapArm s
  | .snapDisarm => Sys2Proof.Machine.execSnapDisarm s
  | .snapshot => Sys2Proof.Machine.execSnapshot s
  | .handoverArm => Sys2Proof.Machine.execHandoverArm s
  | .handoverDisarm => Sys2Proof.Machine.execHandoverDisarm s
  | .handover => Sys2Proof.Machine.execHandover s
  | .conversionComplete c => Sys2Proof.Machine.execConversionComplete c s
  | .complianceLoss ch source => Sys2Proof.Machine.execComplianceLoss ch source s
  | .notchRetune => Sys2Proof.Machine.execNotchRetune s
  | .loopOpen n measured => Sys2Proof.Machine.execLoopOpen n measured s
  | .loopFaultClear n measured => Sys2Proof.Machine.execLoopFaultClear n measured s
  | .selfTestComplete t => Sys2Proof.Machine.execSelfTestComplete t s
  | .serviceEnter => Sys2Proof.Machine.execServiceEnter s
  | .characterReceived p c => Sys2Proof.Machine.execCharacterReceived p c s
  | .breakDetected p gap => Sys2Proof.Machine.execBreakDetected p gap s
  | .serialDead p => Sys2Proof.Machine.execSerialDead p s
  | .serialAlive p chars => Sys2Proof.Machine.execSerialAlive p chars s
  | .idleEvent p => Sys2Proof.Machine.execIdleEvent p s
  | .spTxWrite p v => Sys2Proof.Machine.execSpTxWrite p v s
  | .characterSent p => Sys2Proof.Machine.execCharacterSent p s
  | .deTailEnd => Sys2Proof.Machine.execDeTailEnd s
  | .sendBrk p => Sys2Proof.Machine.execSendBrk p s
  | .breakEnd p => Sys2Proof.Machine.execBreakEnd p s
  | .auto p => Sys2Proof.Machine.execAuto p s
  | .autobaud p intervals => Sys2Proof.Machine.execAutobaud p intervals s
  | .spRxRead p master => Sys2Proof.Machine.execSpRxRead p master s
  | .serialWake p => Sys2Proof.Machine.execSerialWake p s
  | .oscillatorSleep => Sys2Proof.Machine.execOscillatorSleep s
  | .consoleRead line => Sys2Proof.Machine.execConsoleRead line s
  | .consoleWrite line => Sys2Proof.Machine.execConsoleWrite line s
  | .consoleStatus => Sys2Proof.Machine.execConsoleStatus s
  | .consoleFieldBook seq => Sys2Proof.Machine.execConsoleFieldBook seq s
  | .consoleOther line => Sys2Proof.Machine.execConsoleOther line s
  | .glbQuiet => Sys2Proof.Machine.execGlbQuiet s
  | .refClockFault => Sys2Proof.Machine.execRefClockFault s
  | .dieOvertemp => Sys2Proof.Machine.execDieOvertemp s
  | .sramEccError => Sys2Proof.Machine.execSramEccError s
  | .wdogInternal master => Sys2Proof.Machine.execWdogInternal master s
  | .wdogHost => Sys2Proof.Machine.execWdogHost s
  | .wdogKick => Sys2Proof.Machine.execWdogKick s
  | .escalation => Sys2Proof.Machine.execEscalation s
  | .escCountClear => Sys2Proof.Machine.execEscCountClear s
  | .powerOnReset rail => Sys2Proof.Machine.execPowerOnReset rail s
  | .sysrst => Sys2Proof.Machine.execSysrst s
  | .perst => Sys2Proof.Machine.execPerst s
  | .resetRelease straps => Sys2Proof.Machine.execResetRelease straps s
  | .journalLifeEntry => Sys2Proof.Machine.execJournalLifeEntry s
  | .journalDropSummary => Sys2Proof.Machine.execJournalDropSummary s
  | .ageUpdate tempC => Sys2Proof.Machine.execAgeUpdate tempC s
  | .journalSelect index => Sys2Proof.Machine.execJournalSelect index s
  | .journalLatchDone => Sys2Proof.Machine.execJournalLatchDone s
  | .flr fn => Sys2Proof.Machine.execFlr fn s
  | .busMasterEnable fn on => Sys2Proof.Machine.execBusMasterEnable fn on s
  | .msixUnmask fn vector => Sys2Proof.Machine.execMsixUnmask fn vector s
  | .configRequest fn req => Sys2Proof.Machine.execConfigRequest fn req s
  | .i2cPointerWrite bytes => Sys2Proof.Machine.execI2cPointerWrite bytes s
  | .i2cReadByte => Sys2Proof.Machine.execI2cReadByte s
  | .flashErase ring => Sys2Proof.Machine.execFlashErase ring s
  | .flashProgram ring dma => Sys2Proof.Machine.execFlashProgram ring dma s
  | .flashRead ring => Sys2Proof.Machine.execFlashRead ring s
  | .vdda5Fault => Sys2Proof.Machine.execVdda5Fault s
  | .preambleDetected p => Sys2Proof.Machine.execPreambleDetected p s
  | .chainInputLocked ring => Sys2Proof.Machine.execChainInputLocked ring s
  | .chainInputLockTimeout => Sys2Proof.Machine.execChainInputLockTimeout s
  | .pcieLinkStateChange link => Sys2Proof.Machine.execPcieLinkStateChange link s
  | .entropySourceRecovered => Sys2Proof.Machine.execEntropySourceRecovered s

end Sys2Proof.Machine
end

