-- ==== Sys2Proof/Safety.lean ====
section
/-!
DEFINITION. What counts as a safe run: in every device state the outputs that could endanger the line, the Chain or the
station have the values R532 gives, and the register file keeps its canonical form.
-/

namespace Sys2Proof.Machine

/-- The line drivers are released (R146, R532): no frame and no frame driven for the partner is on the line, and every
output switch is open. -/
def Block.lineReleased (b : Block) : Prop :=
  b.mac.txs = [] ∧ b.chain.drives = [] ∧ ∀ n, (b.port n).switches = false

/-- TIMEPULSE outputs low, both TXD at mark, SP1_DE low (R443, R528, R532). -/
def Block.outputsMute (b : Block) : Prop :=
  b.dtm.pulse = [] ∧ (∀ p, (b.sp p).shifter = none ∧ (b.sp p).tail = false) ∧ b.get (Reg.SP_STAT_DE 1) = 0

/-- The harmless state of R532 wherever the device state calls for it. -/
def Block.harmless (b : Block) : Prop :=
  (b.dev ≠ .service → b.lineReleased) ∧
    (b.dev.joins = false → b.chain.bypassA = true ∧ b.chain.bypassB = true) ∧
    (b.dev.silent = true → b.outputsMute)

/-- QUIET with a cause (R535 to R537): the line released, the rings bypassed, the other outputs mute, no swap armed and no
shadow held. -/
def Block.quietWith (b : Block) (cause : Nat) : Prop :=
  b.dev = .quiet ∧ b.get Reg.GLB_STATE_QUIET_CAUSE = cause ∧ b.lineReleased ∧ b.chain.bypassA = true ∧
    b.chain.bypassB = true ∧ b.outputsMute ∧ b.img.armed = none ∧ b.img.shadow = none

/-- A command completes: `exec` answers a next state, the waiting commands are as they were, and the block is one of
which `P` holds. -/
def Completes (c : Instr) (s : State) (P : Block → Prop) : Prop :=
  ∃ t : State, exec c s = .next t ∧ t.pending = s.pending ∧ P t.blk

/-- Every register but those listed reads in `b'` as in `b`. -/
def Block.keepsBut (b b' : Block) (offs : List Nat) : Prop := ∀ off, off ∉ offs → b'.rd off = b.rd off

/-- Every register outside a span of offsets reads in `b'` as in `b`. -/
def Block.keepsOutside (b b' : Block) (base size : Nat) : Prop :=
  ∀ off, off < base ∨ base + size ≤ off → b'.rd off = b.rd off

/-- The canonical form of the register file and of the Field Book. -/
def Block.canonical (b : Block) : Prop := Store.wf resetWord b.regs = true ∧ Store.wf (fun _ => FbRecord.zero) b.book = true

/-- A received frame of `n` bytes of body passes every check on its way from an associated node (R35, R244, R245, R264):
heard on a port in SERVICE, with the header `m`, from the entry `x`, its FCS right, the table at home. -/
def Block.takesFrame (b : Block) (type : Nat) (r : RxFrame) (n x : Nat) (hd : Heard) (m : MacHeader) : Prop :=
  (b.receive type r).2 = some (hd, m) ∧ b.sender m = some x ∧ fcsOk hd.mac n = true ∧ b.standsBy hd.port = false ∧
    b.home = true

/-- The registers of a descriptor that moving the queue's pointers writes (R342, R350, R352). -/
def queueRegs (q : Nat) : List Nat := [Reg.QD_WR q, Reg.QD_RD q, Reg.QD_BASE_HI q, Reg.QD_CNT q]

/-- Every register below the descriptors but those listed reads in `b'` as in `b`. -/
def Block.keepsLow (b b' : Block) (offs : List Nat) : Prop :=
  ∀ off, off < 0x200000 → off ∉ offs → b'.rd off = b.rd off

/-- A completion for a function is posted at once (R366, R369, R371): its conversation runs, nothing waits before it. -/
def Block.postsTo (b : Block) (fn : Nat) : Prop :=
  b.cutOff fn = false ∧ b.still fn = false ∧ b.converses = true ∧ ∀ e ∈ b.strata.backlog, e.fn ≠ fn

/-- `c` is the command of an opcode that a ring runs next, and its completion can be posted (R361). -/
def Block.runs (b : Block) (ring opcode : Nat) (c : Cmd) : Prop :=
  b.strata.fetched.find? (fun x => x.ring == ring) = some c ∧ c.opcode = opcode ∧ b.qKind c.cpl = 2 ∧ b.postsTo c.fn

/-- As `runs`, for a cipher command whose page its function holds and accepts, with its unused operands 0 (R402, R403). -/
def Block.pageRuns (b : Block) (ring opcode : Nat) (c : Cmd) (page : Nat) : Prop :=
  b.runs ring opcode c ∧ c.le 0x10 1 = page ∧ page ≤ 16 ∧ b.pageFn page = c.fn ∧ c.operandsOk = true ∧
    (page = linkPage → linkPageOpcode opcode = true) ∧ (page ≠ linkPage → opcode ≠ 0x35)

/-- The last DMA write is the completion of a command (R366), in the place before WR of its completion ring. -/
def Block.posted (b : Block) (c : Cmd) (status flags : Nat) (result : List Byte) : Prop :=
  let at_ := b.qWr c.cpl - 1
  let e : CplEntry :=
    { fn := c.fn, ring := c.cpl, hostSeq := c.seq, status := status, opcode := c.opcode, flags := flags,
      queue := c.queue, tag := c.tag, result := result, owed := true }
  b.host.dmaWrites.getLast? =
    some { fn := c.fn, addr := b.ringAddr c.cpl 32 (at_.toNat % b.qSize c.cpl), bytes := e.toBytes at_ }

/-- An answer to a read of a master is possible (R65, R537, R541, R565). -/
def Block.readable (b : Block) (m : Nat) : Prop :=
  (m < 16 → b.reaches m = true) ∧ b.frozen m = false ∧ (b.dev = .settle ∨ b.dev = .service ∨ b.dev = .hold)

/-- The device takes a cell that arrives on a ring: heard, its CRC right, of a kind, another device's, the first copy, for
this device (R457). -/
def Block.takesCell (b : Block) (ringB : Bool) (kind : Nat) (bytes : List Byte) (c : Cell) : Prop :=
  cellOk bytes = true ∧ b.hears ringB = true ∧ cellOf bytes = some c ∧ c.kind = kind ∧ c.src ≠ b.rank ∧
    b.hasSeen c = false ∧ (c.bcast = true ∨ c.dst = b.rank)

end Sys2Proof.Machine
end

