-- ==== Sys2Proof/Certificates/Slice0/Obligations.lean ====
section
/-!
DEFINITION. The statements of this model for the provers. Each says in its docstring which rules of the spec it
formalises. `Completes c s P` (Safety.lean): `exec c s` answers a next state with the same queue whose block has `P`.
-/

open Sys2Proof Sys2Proof.Machine

/-- A step with a command at the front of the queue runs that command on the state with the rest of the queue. -/
def Obligations.StepRunsFrontCommand : Prop :=
  ∀ (c : Instr) (rest : List Instr) (s : State),
    step { s with pending := c :: rest } = exec c { s with pending := rest }

/-- On an empty queue a step is one tick of the 250 MHz time clock (the model's choice, log entry 1): the queue stays
empty, the tick is counted, the device state, the queues and the contexts stay as they are; the parcels in transit whose tag
has passed have left for their next hops. -/
def Obligations.IdleStepIsATick : Prop :=
  ∀ s : State, s.pending = [] →
    ∃ t : State, step s = .next t ∧ t.pending = [] ∧ t.blk.ticks = s.blk.ticks + 1 ∧ t.blk.dev = s.blk.dev ∧
      t.blk.strata = s.blk.strata ∧ t.blk.cx = { s.blk.cx with relays := [] }

/-- The block at reset: state RESET, no command waiting, every register at the value its table gives, outputs harmless
(R532) and the register file in its canonical form, Bearing UNLOCKED and reading 0 (R85, R86), no image (R71), every
context CLOSED (R393), Field Book empty. -/
def Obligations.ResetState : Prop :=
  State.reset.pending = [] ∧ State.reset.blk.dev = .reset ∧ (∀ off, State.reset.blk.rd off = resetWord off) ∧
    State.reset.blk.harmless ∧ State.reset.blk.canonical ∧
    State.reset.blk.brg.state = .unlocked ∧ State.reset.blk.brg.now = 0 ∧ State.reset.blk.img.active = none ∧
    State.reset.blk.img.shadow = none ∧ State.reset.blk.cx.ctxs = [] ∧ State.reset.blk.book = [] ∧
    State.reset.blk.get Reg.GLB_ID_PART = 0x7240 ∧ State.reset.blk.get Reg.GLB_WDOG_TIMEOUT = 1000 ∧
    State.reset.blk.on Reg.GLB_CTRL_HOLD_EN = true

/-- Bearing arithmetic (R13) is modulo 2^48; a bearing lies ahead of another when the difference, modulo 2^48, is less than
2^47. The superframe number (R14) is bits 47 to 19 of a bearing, the cycle count shifted right by 3. -/
def Obligations.BearingArithmetic : Prop :=
  ∀ t n : Bearing,
    (t + n).toNat = (t.toNat + n.toNat) % 2 ^ 48 ∧ (t - n).toNat = (t.toNat + 2 ^ 48 - n.toNat) % 2 ^ 48 ∧
    (ahead t n = true ↔ (t.toNat + 2 ^ 48 - n.toNat) % 2 ^ 48 < 2 ^ 47) ∧
    superframeOf t = (t.extractLsb' 19 29).toNat ∧ superframeOf t = cycleOf t >>> 3

/-- The harmless state of R532 wherever the device state calls for it: whatever command runs, or on a tick, the next
state has it. Outside SERVICE no frame is on a line and every driver's switches are open; outside SETTLE and SERVICE
both rings are bypassed; in RESET, LOAD and QUIET every TIMEPULSE is low, both TXD are at mark and SP1_DE is low. -/
def Obligations.StepKeepsHarmless : Prop :=
  ∀ s t : State, s.blk.harmless → step s = .next t → t.blk.harmless

/-- Doubts (R535, R536): the reference clock, the die temperature and an SRAM error are detected in SETTLE, SERVICE and
HOLD, as is the PF's QUIET; each moves the device to QUIET with its code in QUIET_CAUSE, the line released, the rings
bypassed, the other outputs mute, no swap armed and no shadow held. In RESET, LOAD and QUIET none of them does. -/
def Obligations.DoubtEntersQuiet : Prop :=
  ∀ s : State,
    (s.blk.dev = .settle ∨ s.blk.dev = .service ∨ s.blk.dev = .hold →
      Completes .refClockFault s (·.quietWith 0x0A) ∧ Completes .dieOvertemp s (·.quietWith 0x0B) ∧
      Completes .sramEccError s (·.quietWith 0x09) ∧
      (s.blk.accepts = true → Completes .glbQuiet s (·.quietWith 0x0D))) ∧
    (s.blk.dev = .reset ∨ s.blk.dev = .load ∨ s.blk.dev = .quiet → ∀ c ∈ [Instr.refClockFault, .dieOvertemp,
      .sramEccError, .glbQuiet], Completes c s fun b => b.dev = s.blk.dev ∧ s.blk.keepsBut b [Reg.SP_STAT 1])

/-- Every reset source causes the same full reset (R545), which keeps only the VBAT domain (the tamper latch and its
configuration, the reset cause, the escalation count and the boot count) and the flash with its journal (R546);
everything else restarts from its reset value. The bit of the source is set in GLB_RESET_CAUSE. -/
def Obligations.FullResetKeepsOnlyVbat : Prop :=
  ∀ (s : State) (rail : Supply), ∀ p ∈ [(Instr.powerOnReset rail, 0), (.sysrst, 1), (.perst, 2)],
    Completes p.1 s fun b =>
      b.dev = .reset ∧ b.journal = s.blk.journal ∧ b.host.flash = s.blk.host.flash ∧ b.fault.boot = s.blk.fault.boot ∧
      b.rd Reg.CX_TAMPER_CFG = s.blk.rd Reg.CX_TAMPER_CFG ∧
      b.get Reg.CX_TAMPER_STAT_LATCH = s.blk.get Reg.CX_TAMPER_STAT_LATCH ∧
      b.get Reg.GLB_RESET_CAUSE_ESC_COUNT = s.blk.get Reg.GLB_RESET_CAUSE_ESC_COUNT ∧
      b.get Reg.GLB_RESET_CAUSE_BOOT = s.blk.get Reg.GLB_RESET_CAUSE_BOOT ∧
      b.bit Reg.GLB_RESET_CAUSE_SOURCE p.2 = true ∧
      (∀ off, off ∉ [Reg.CX_TAMPER_CFG, Reg.GLB_RESET_CAUSE, Reg.CX_TAMPER_STAT] → b.rd off = resetWord off) ∧
      b.book = [] ∧ b.strata = StrataSt.reset ∧ b.cx.ctxs = [] ∧ b.img = ImgSt.reset ∧ b.brg = BearingSt.reset ∧
      b.dtm = DatumSt.reset ∧ b.pool = PoolSt.reset ∧ b.mac = MacSt.reset ∧ b.trv = TrvSt.reset ∧
      b.sense = [] ∧ b.serial = []
/-- An access that is not a naturally aligned 32-bit access is answered with Unsupported Request and changes nothing else
(R4): no register, where the outputs are in their harmless state; else none but the driver enable of SP1, which R532 holds
low in RESET, LOAD and QUIET. An aligned one is no such access: the command is refused by name. -/
def Obligations.MisalignedAccessChangesNothing : Prop :=
  ∀ (s : State) (fn : Fin 16) (off : BitVec 24) (bytes : Nat),
    (accessMisaligned off.toNat bytes = true → Completes (.misalignedAccess fn off bytes) s fun b =>
      b.host = { s.blk.host with answer := .unsupported } ∧ b.dev = s.blk.dev ∧ s.blk.keepsBut b [Reg.SP_STAT 1] ∧
      (s.blk.harmless → s.blk.keepsBut b []) ∧ b.strata = s.blk.strata ∧ b.book = s.blk.book ∧ b.brg = s.blk.brg ∧ b.img = s.blk.img ∧ b.cx = s.blk.cx) ∧
    (accessMisaligned off.toNat bytes = false →
      exec (.misalignedAccess fn off bytes) s = .refused (.illFormed "MISALIGNED_ACCESS"))

/-- What a write of the PF does by the access code of the field (R5, R7, R8): an RW field takes the value, an RO field
keeps it, a W1C field loses the bits written as 1, an offset that holds no register ignores it; reserved bits stay.
Every other register keeps its value. A read answers the word that the register shows, and changes none. -/
def Obligations.RegisterWriteFollowsAccessCodes : Prop :=
  ∀ (s : State) (v : Word), s.blk.accepts = true →
    Completes (.registerWrite { master := 0, off := BitVec.ofNat 24 Reg.FLT_ALERT_MASK, v := some v }) s (fun b =>
      b.rd Reg.FLT_ALERT_MASK = BitVec.ofNat 32 (v.toNat % 64 + (s.blk.rd Reg.FLT_ALERT_MASK).toNat / 64 * 64) ∧
      s.blk.keepsBut b [Reg.FLT_ALERT_MASK]) ∧
    Completes (.registerWrite { master := 0, off := BitVec.ofNat 24 Reg.GLB_ID, v := some v }) s (fun b =>
      s.blk.keepsBut b []) ∧
    Completes (.registerWrite { master := 0, off := BitVec.ofNat 24 Reg.HIF_FLR_SEEN, v := some v }) s (fun b =>
      b.get Reg.HIF_FLR_SEEN_FN =
        s.blk.get Reg.HIF_FLR_SEEN_FN - (s.blk.get Reg.HIF_FLR_SEEN_FN &&& v.toNat % 65536) ∧
      s.blk.keepsBut b [Reg.HIF_FLR_SEEN]) ∧
    Completes (.registerWrite { master := 0, off := 0x000FF0, v := some v }) s (fun b => s.blk.keepsBut b []) ∧
    Completes (.registerWrite { master := 0, off := BitVec.ofNat 24 Reg.FLT_ALERT_MASK, v := none }) s (fun b =>
      b.host.answer = .word (s.blk.word Reg.FLT_ALERT_MASK) ∧ s.blk.keepsBut b [])

/-- After sealing, a write of the PF that would give an RWL field another value is an isolation violation (R6, R540): the
write is discarded whole, the PF is frozen, the count advances, FLT_PEND.VIOL is set and the register keeps its value;
before sealing the same write gives the fields their values and freezes nobody. -/
def Obligations.SealedWriteIsDiscarded : Prop :=
  ∀ (s : State) (v : Word), s.blk.accepts = true → s.blk.touchesRwl Reg.GLB_WDOG v = true →
    (s.blk.on Reg.CFG_STATUS_SEALED = true →
      Completes (.registerWrite { master := 0, off := BitVec.ofNat 24 Reg.GLB_WDOG, v := some v }) s fun b =>
        b.rd Reg.GLB_WDOG = s.blk.rd Reg.GLB_WDOG ∧ b.frozen 0 = true ∧ b.dev = s.blk.dev ∧
        b.get Reg.FLT_PEND_VIOL = 1 ∧
        b.get Reg.FLT_VIOL_COUNT_COUNT = (s.blk.get Reg.FLT_VIOL_COUNT_COUNT + 1) % 2 ^ 32 ∧
        b.on Reg.FLT_VIOL_INFO_VALID = true) ∧
    (s.blk.on Reg.CFG_STATUS_SEALED = false →
      Completes (.registerWrite { master := 0, off := BitVec.ofNat 24 Reg.GLB_WDOG, v := some v }) s fun b =>
        b.get Reg.GLB_WDOG_TIMEOUT = v.toNat % 65536 ∧ b.get Reg.GLB_WDOG_HOST_EN = v.toNat / 65536 % 2 ∧
        b.get Reg.GLB_WDOG_HOST_ACTION = v.toNat / 131072 % 2 ∧ s.blk.keepsBut b [Reg.GLB_WDOG])

/-- The console agent answers each line with one line and counts it, and counts those it answers with E (R578, R579,
R585): S tells state, cause and FLT_PEND; F tells the record of a sequence held, else E 02; R tells a word it may read,
else E 02; W writes where the image opens a range, else E 02; any other line gets E 02. It takes lines only while SP0
is enabled and its own, past LOAD. -/
def Obligations.ConsoleAnswersEachLine : Prop :=
  let said (s : State) (line : List Byte) (refused : Nat) (b : Block) : Prop :=
    b.host.consoleOut = s.blk.host.consoleOut ++ [line] ∧ b.host.answer = .bytes line ∧
    b.get Reg.HIF_CONSOLE_LINES = (s.blk.get Reg.HIF_CONSOLE_LINES + 1) % 2 ^ 16 ∧
    b.get Reg.HIF_CONSOLE_REFUSED = (s.blk.get Reg.HIF_CONSOLE_REFUSED + refused) % 2 ^ 16
  ∀ (s : State) (line : List Byte) (seq v : Word) (off : Nat),
    (s.blk.consoleTakes = true →
      Completes .consoleStatus s (said s (textOk ++ [0x20] ++ hexDigits 2 s.blk.dev.code ++ [0x20] ++
        hexDigits 2 (s.blk.get Reg.GLB_STATE_QUIET_CAUSE) ++ [0x20] ++ hexDigits 8 (s.blk.rd Reg.FLT_PEND).toNat) 0) ∧
      (∀ p, s.blk.book.find? (fun p => p.1 == seq.toNat % 4096 && p.2.seq == seq) = some p →
        Completes (.consoleFieldBook seq) s
          (said s (textOk ++ [0x20] ++ p.2.toBytes.flatMap fun x => hexDigits 2 x.toNat) 0)) ∧
      (s.blk.book.find? (fun p => p.1 == seq.toNat % 4096 && p.2.seq == seq) = none →
        Completes (.consoleFieldBook seq) s (said s (textE 2) 1)) ∧
      (parseLine line = .other → Completes (.consoleOther line) s (said s (textE 2) 1)) ∧
      (parseLine line = .read off → s.blk.consoleReads off = false →
        Completes (.consoleRead line) s (said s (textE 2) 1)) ∧
      (parseLine line = .read Reg.FLT_PEND →
        Completes (.consoleRead line) s
          (said s (textOk ++ [0x20] ++ hexDigits 8 (s.blk.rd Reg.FLT_PEND).toNat) 0)) ∧
      (parseLine line = .write off v → (off % 4 ≠ 0 ∨ s.blk.openRange off = false) →
        Completes (.consoleWrite line) s (said s (textE 2) 1)) ∧
      (parseLine line = .write Reg.FLT_ALERT_MASK v → s.blk.openRange Reg.FLT_ALERT_MASK = true → s.blk.dev ≠ .quiet →
        Completes (.consoleWrite line) s fun b =>
          said s textOk 0 b ∧ b.get Reg.FLT_ALERT_MASK_MASK = v.toNat % 64)) ∧
    (s.blk.consoleTakes = false → ∀ c ∈ [Instr.consoleStatus, .consoleFieldBook seq, .consoleOther line,
      .consoleRead line, .consoleWrite line], Completes c s fun b =>
        b.host = s.blk.host ∧ s.blk.keepsBut b [Reg.SP_STAT 1])

/-- The I2C target (R576): three bytes set the pointer, most significant first; each read answers one byte of the word
and advances the pointer; the first byte of a word latches the word, and the later ones come from the latch. -/
def Obligations.I2cReadsAWordAsLatched : Prop :=
  ∀ (s : State) (x y z : Byte),
    Completes (.i2cPointerWrite [x, y, z]) s (fun b =>
      b.host = { s.blk.host with
        i2cPtr := x.toNat * 65536 + y.toNat * 256 + z.toNat, i2cLatch := none, i2cRead := false } ∧
      s.blk.keepsBut b [Reg.SP_STAT 1]) ∧
    Completes .i2cReadByte s (fun b =>
      b.host.i2cPtr = (s.blk.host.i2cPtr + 1) % 2 ^ 24 ∧ b.host.i2cRead = true ∧
      (s.blk.host.i2cPtr % 4 = 0 → b.host.i2cLatch = some (s.blk.i2cWord s.blk.host.i2cPtr) ∧
        b.host.answer = .bytes [BitVec.ofNat 8 (s.blk.i2cWord s.blk.host.i2cPtr).toNat]) ∧
      (∀ w, s.blk.host.i2cPtr % 4 ≠ 0 → s.blk.host.i2cLatch = some w → b.host.i2cLatch = some w ∧
        b.host.answer = .bytes [BitVec.ofNat 8 (w.toNat / 256 ^ (s.blk.host.i2cPtr % 4))]) ∧
      s.blk.keepsBut b [Reg.HIF_I2C_READS, Reg.SP_STAT 1])

/-- The host timer (R547, R558): a kick by the PF restarts it; when it has run out, in SETTLE and SERVICE with HOST_EN at
1, FLT_PEND.WDOG is set and, with HOST_ACTION at 0, the device goes on; with HOST_ACTION at 1 a full reset follows. The
watchdog of an internal master resets the device. -/
def Obligations.WatchdogsExpire : Prop :=
  ∀ (s : State) (m : Fin 32),
    (s.blk.accepts = true → Completes .wdogKick s fun b => b.fault.kicked = s.blk.ticks ∧ s.blk.keepsBut b []) ∧
    (s.blk.hostLate = true → s.blk.on Reg.GLB_WDOG_HOST_ACTION = false → Completes .wdogHost s fun b =>
      b.get Reg.FLT_PEND_WDOG = 1 ∧ b.dev = s.blk.dev ∧ s.blk.keepsBut b recordRegs) ∧
    (s.blk.hostLate = true → s.blk.on Reg.GLB_WDOG_HOST_ACTION = true → Completes .wdogHost s fun b =>
      b.dev = .reset ∧ b.bit Reg.GLB_RESET_CAUSE_SOURCE 3 = true) ∧
    (s.blk.hostLate = false → Completes .wdogHost s fun b => b.dev = s.blk.dev ∧ s.blk.keepsBut b [Reg.SP_STAT 1]) ∧
    (s.blk.dev = .settle ∨ s.blk.dev = .service → m.val ∈ [16, 17, 19, 20, 21, 22, 23] →
      Completes (.wdogInternal m) s fun b => b.dev = .reset ∧ b.bit Reg.GLB_RESET_CAUSE_SOURCE 3 = true)

/-- Escalation (R548): a device that has stayed in QUIET for QUIET_RESET minutes with ESC_EN at 1 resets itself and
counts the reset; once the count is 3 it stays in QUIET, as it does with ESC_EN or QUIET_RESET at 0; the count returns to
0 after an hour in SERVICE. -/
def Obligations.EscalationStopsAtThree : Prop :=
  ∀ s : State,
    (s.blk.dev = .quiet → s.blk.on Reg.GLB_CTRL_ESC_EN = true → s.blk.on Reg.GLB_CTRL_QUIET_RESET = true →
      s.blk.fault.since + s.blk.get Reg.GLB_CTRL_QUIET_RESET * minuteTicks ≤ s.blk.ticks →
      (s.blk.get Reg.GLB_RESET_CAUSE_ESC_COUNT < 3 → Completes .escalation s fun b =>
        b.dev = .reset ∧ b.get Reg.GLB_RESET_CAUSE_ESC_COUNT = s.blk.get Reg.GLB_RESET_CAUSE_ESC_COUNT + 1) ∧
      (s.blk.get Reg.GLB_RESET_CAUSE_ESC_COUNT = 3 → Completes .escalation s fun b => b.dev = .quiet)) ∧
    (s.blk.dev = .quiet → s.blk.on Reg.GLB_CTRL_ESC_EN = false ∨ s.blk.on Reg.GLB_CTRL_QUIET_RESET = false →
      Completes .escalation s fun b => b.dev = .quiet ∧ s.blk.keepsBut b [Reg.SP_STAT 1]) ∧
    (s.blk.dev = .service → s.blk.fault.since + 60 * minuteTicks ≤ s.blk.ticks → Completes .escCountClear s fun b =>
      b.get Reg.GLB_RESET_CAUSE_ESC_COUNT = 0 ∧ s.blk.keepsBut b [Reg.GLB_RESET_CAUSE])

/-- The journal (R550, R551, R553, R559): a KIND 1 entry with the powered hours and the age for each 24 h powered, and one KIND 2
entry with the count of the entries dropped, take the next place with the next JSEQ while fewer than 64 entries have been written in the
last 60 s; a selection is latched into FLT_JNL_DATA. -/
def Obligations.JournalTakesEntries : Prop :=
  ∀ (s : State) (index : BitVec 14),
    (s.blk.dayPassed = true → (s.blk.fault.recent.filter fun t => s.blk.ticks < t + minuteTicks).length < 64 →
      Completes .journalLifeEntry s fun b =>
        b.journal.next = (s.blk.journal.next % 16384 + 1) % 16384 ∧ b.journal.jseq = s.blk.journal.jseq + 1 ∧
        (∃ e : JournalEntry, Store.get (fun _ => JournalEntry.erased) b.journal.entries (s.blk.journal.next % 16384) = e ∧
          e.kind = 1 ∧ e.jseq = s.blk.journal.jseq ∧ e.hours = s.blk.rd Reg.FLT_LIFE_HOURS ∧
          e.age = s.blk.rd Reg.FLT_AGE ∧ e.boot = s.blk.fault.boot) ∧
        b.fault.lives = s.blk.fault.lives + 1 ∧ b.dev = s.blk.dev) ∧
    (s.blk.dayPassed = false → Completes .journalLifeEntry s fun b =>
      b.journal = s.blk.journal ∧ b.fault = s.blk.fault ∧ s.blk.keepsBut b [Reg.SP_STAT 1]) ∧
    (s.blk.dev ≠ .reset → 0 < s.blk.fault.dropPending →
      (s.blk.fault.recent.filter fun t => s.blk.ticks < t + minuteTicks).length < 64 →
      Completes .journalDropSummary s fun b =>
        b.fault.dropPending = 0 ∧ b.journal.jseq = s.blk.journal.jseq + 1 ∧
        ∃ e : JournalEntry, Store.get (fun _ => JournalEntry.erased) b.journal.entries (s.blk.journal.next % 16384) = e ∧
          e.kind = 2 ∧ e.record.args = recordArgs [(4, s.blk.fault.dropPending)]) ∧
    (s.blk.accepts = true → s.blk.on Reg.FLT_JNL_SEL_BUSY = false → Completes (.journalSelect index) s fun b =>
      b.get Reg.FLT_JNL_SEL_INDEX = index.toNat ∧ b.get Reg.FLT_JNL_SEL_BUSY = 1 ∧
      s.blk.keepsBut b [Reg.FLT_JNL_SEL]) ∧
    (s.blk.on Reg.FLT_JNL_SEL_BUSY = true → Completes .journalLatchDone s fun b =>
      b.get Reg.FLT_JNL_SEL_BUSY = 0 ∧
      (∀ i, i < 16 → b.get (Reg.FLT_JNL_DATA_DATA i) =
        leAt (s.blk.journalBytes (s.blk.get Reg.FLT_JNL_SEL_INDEX)) (4 * i) 4) ∧
      s.blk.keepsBut b (Reg.FLT_JNL_SEL :: Reg.SP_STAT 1 :: (List.range 16).map Reg.FLT_JNL_DATA))

/-- A minute powered (R554): the age grows by the step of the die temperature, GLB_TEMP shows the temperature, the
powered minutes advance and every sixtieth adds an hour; before a minute has passed since the last nothing changes. -/
def Obligations.AgeAdvances : Prop :=
  ∀ (s : State) (t : Int),
    (s.blk.minutePassed = true → Completes (.ageUpdate t) s fun b =>
      b.fault.age = s.blk.fault.age + ageStep t ∧ b.fault.minutes = s.blk.fault.minutes + 1 ∧
      b.fault.minuteAt = s.blk.fault.minuteAt + minuteTicks ∧
      b.get Reg.GLB_TEMP_TEMP = unsignedOf 8 t ∧
      b.get Reg.FLT_AGE_HOURS = (s.blk.fault.age + ageStep t) / 2 ^ 64 % 2 ^ 32 ∧
      b.get Reg.FLT_LIFE_HOURS_HOURS =
        (s.blk.get Reg.FLT_LIFE_HOURS_HOURS + if (s.blk.fault.minutes + 1) % 60 = 0 then 1 else 0) % 2 ^ 32 ∧
      b.dev = s.blk.dev) ∧
    (s.blk.minutePassed = false → Completes (.ageUpdate t) s fun b =>
      b.fault = s.blk.fault ∧ s.blk.keepsBut b [Reg.SP_STAT 1])

/-- What an event does to its vector (R574): nothing while MSI-X is disabled; while the vector is masked, the function
masked, or Bus Master Enable is 0, its pending bit is set and no message goes out; else one message of its table entry
goes out and the pending bits stay. -/
def Obligations.EventRaisesVectorOrPends : Prop :=
  ∀ (b : Block) (fn v : Nat), v < vectorsOf fn →
    ((b.config fn).msixEnable = false → b.raise fn v = b) ∧
    ((b.config fn).msixEnable = true → b.vectorOpen fn v = false →
      (b.raise fn v).vectorPending fn v = true ∧ (b.raise fn v).host.messages = b.host.messages ∧
      ∀ fn' v', v < 256 → v' < 256 → (fn', v') ≠ (fn, v) →
        (b.raise fn v).vectorPending fn' v' = b.vectorPending fn' v') ∧
    (b.vectorOpen fn v = true →
      (b.raise fn v).host.messages = b.host.messages ++
        [{ fn := fn, vector := v, addr := (b.msixEntry fn v).addr, data := (b.msixEntry fn v).data }] ∧
      (b.raise fn v).host.pba = b.host.pba)

/-- Unmasking a vector sends the message whose pending bit is set, once, and clears the bit; without it nothing is sent
(R574). -/
def Obligations.UnmaskSendsWhatIsPending : Prop :=
  ∀ (s : State) (fn : Fin 16) (v : Fin 256), s.blk.reaches fn.val = true → v.val < vectorsOf fn.val →
    (s.blk.vectorPending fn v = true → (s.blk.config fn).msixEnable = true → (s.blk.config fn).fnMask = false →
      s.blk.bme fn = true → Completes (.msixUnmask fn v) s fun b =>
        (b.msixEntry fn v).masked = false ∧ b.vectorPending fn v = false ∧
        (∃ msg : MsixMessage, b.host.messages = s.blk.host.messages ++ [msg] ∧ msg.fn = fn ∧ msg.vector = v ∧
          msg.addr = (s.blk.msixEntry fn v).addr ∧ msg.data = (s.blk.msixEntry fn v).data) ∧ s.blk.keepsBut b []) ∧
    (s.blk.vectorPending fn v = false → Completes (.msixUnmask fn v) s fun b =>
      (b.msixEntry fn v).masked = false ∧ b.host.messages = s.blk.host.messages ∧ s.blk.keepsBut b [])

/-- A function-level reset (R566): the function's configuration space returns to its reset values and its conversation is
paused; descriptors, queues, pages and contexts stay; the PF's makes every VF absent. It sets the function's bit in
HIF_FLR_SEEN and is no reset: the device state stays. Bus Master Enable cleared pauses the function (R565); set again,
the pause remains until RESUME. -/
def Obligations.FlrPausesAndKeepsQueues : Prop :=
  ∀ (s : State) (fn : Fin 16), s.blk.dev ≠ .reset → s.blk.present fn = true →
    Completes (.flr fn) s (fun b =>
      b.config fn = FnConfig.reset ∧ b.bme fn = false ∧ b.bit Reg.QF_PAUSED_FN fn = true ∧
      b.bit Reg.HIF_FLR_SEEN_FN fn = true ∧ b.strata.queues = s.blk.strata.queues ∧ b.cx = s.blk.cx ∧
      b.dev = s.blk.dev ∧ (fn.val = 0 → b.get Reg.HIF_FN_STAT_PRESENT = 1) ∧
      s.blk.keepsBut b [Reg.HIF_FN_STAT, Reg.HIF_FLR_SEEN, Reg.QF_PAUSED, Reg.SP_STAT 1]) ∧
    Completes (.busMasterEnable fn false) s (fun b =>
      b.bme fn = false ∧ b.bit Reg.QF_PAUSED_FN fn = true ∧ b.strata.queues = s.blk.strata.queues ∧
      s.blk.keepsBut b [Reg.HIF_FN_STAT, Reg.QF_PAUSED, Reg.SP_STAT 1]) ∧
    Completes (.busMasterEnable fn true) s (fun b =>
      b.bme fn = true ∧ (∀ off, off < 0x200000 → off ∉ [Reg.HIF_FN_STAT, Reg.SP_STAT 1] → b.rd off = s.blk.rd off))

/-- Configuration requests (R561, R562, R564): retried in RESET, unsupported of an absent VF; the identity and class of
the PF and of a VF; the words of the SR-IOV capability and the sizes of the BARs (R563; their coding in words is PCI's, PRESUMED,
log entry 198); Memory Space Enable and the MSI-X capability take what is written; NumVFs with VF Enable makes VFs
1 to n present. A change of the link shows in HIF_LINK (R585). -/
def Obligations.ConfigurationSpaceAnswers : Prop :=
  ∀ (s : State) (fn : Fin 16) (on : Bool) (n : Fin 16) (x : LinkState) (bar : Fin 6),
    (s.blk.dev = .reset → ∀ r, Completes (.configRequest fn r) s fun b => b.host.answer = .retry) ∧
    (s.blk.dev ≠ .reset → s.blk.present fn = false → ∀ r, Completes (.configRequest fn r) s fun b =>
      b.host.answer = .unsupported ∧ s.blk.keepsBut b [Reg.SP_STAT 1]) ∧
    (s.blk.dev ≠ .reset → s.blk.present fn = true →
      Completes (.configRequest fn .readIds) s (fun b =>
        b.host.answer = .word (if fn.val = 0 then 0x72401F8E else 0x72411F8E)) ∧
      Completes (.configRequest fn .readClass) s (fun b => b.host.answer = .word 0x02800002) ∧
      (fn.val = 0 →
        Completes (.configRequest fn .readVfCounts) s (fun b => b.host.answer = .word 0x000F000F) ∧
        Completes (.configRequest fn .readVfPlacement) s (fun b => b.host.answer = .word 0x00010001) ∧
        Completes (.configRequest fn .readPageSizes) s (fun b => b.host.answer = .word 0x1F) ∧
        Completes (.configRequest fn (.sizeBar bar)) s (fun b => b.host.answer = .word (sizedBar 0x1000000 bar.val)) ∧
        Completes (.configRequest fn .sizeRom) s (fun b => b.host.answer = .word 0) ∧
        Completes (.configRequest fn (.sizeVfBar bar)) s (fun b => b.host.answer = .word (sizedBar 0x10000 bar.val))) ∧
      Completes (.configRequest fn (.memorySpace on)) s (fun b => (b.config fn).mse = on ∧
        s.blk.keepsBut b [Reg.SP_STAT 1]) ∧
      Completes (.configRequest fn (.msixEnable on)) s (fun b => (b.config fn).msixEnable = on) ∧
      (fn.val = 0 → Completes (.configRequest fn (.vfEnable true n)) s fun b =>
        b.get Reg.HIF_FN_STAT_PRESENT = 2 ^ (n.val + 1) - 1)) ∧
    Completes (.pcieLinkStateChange x) s (fun b =>
      b.get Reg.HIF_LINK_SPEED = x.speed.val ∧ b.get Reg.HIF_LINK_WIDTH = x.width.val ∧
      b.get Reg.HIF_LINK_POWER = x.power.val ∧ (x.power.val = 0 → b.host.wakeLow = false))

/-- The end of reset (R538, R580): the straps are sampled and LOAD begins. The self-tests of SETTLE end with the result
kept; SERVICE begins when tests, lock and join are all achieved, sealed where the image asks for it (R67), and not
before. -/
def Obligations.StartUpGoesByItsConditions : Prop :=
  ∀ (s : State) (x : Straps) (t : SelfTest),
    (s.blk.dev = .reset → Completes (.resetRelease x) s fun b =>
      b.dev = .load ∧ b.get Reg.HIF_STRAPS_BOOT_SEL = x.bootSel.toNat ∧ b.get Reg.CHN_ID_RANK = x.chainRank.toNat ∧
      b.get Reg.HIF_STRAPS_MGT_ADDR = x.mgtAddr.toNat ∧ b.on Reg.HIF_STRAPS_CHAIN_EN = x.chainEn) ∧
    (s.blk.dev ≠ .reset → Completes (.resetRelease x) s fun b =>
      b.dev = s.blk.dev ∧ s.blk.keepsBut b [Reg.SP_STAT 1]) ∧
    (t.wf = true → s.blk.dev = .settle → Completes (.selfTestComplete t) s fun b => b.fault.selfOk = true) ∧
    (t.wf = false → exec (.selfTestComplete t) s = .refused (.illFormed "SELF_TEST_COMPLETE")) ∧
    (s.blk.serviceReady = true → s.blk.on Reg.GLB_CTRL_HOLD_EN = false → Completes .serviceEnter s fun b =>
      b.dev = .service ∧ ∀ set, s.blk.img.active = some set → set.flags.getLsbD 0 = true →
        b.on Reg.CFG_STATUS_SEALED = true) ∧
    (s.blk.serviceReady = false → Completes .serviceEnter s fun b =>
      b.dev = s.blk.dev ∧ s.blk.keepsBut b [Reg.SP_STAT 1])

/-- A crossing of the mains (R91): below 350 mV it discards the candidate that waits; with no qualified crossing before
it, it becomes the candidate; sooner than 1/66 s after a qualified one it changes nothing. In RESET and LOAD the inputs
are not watched. -/
def Obligations.CrossingIsJudged : Prop :=
  ∀ (s : State) (c : Crossing),
    (s.blk.senses = true → c.rmsMv < 350 → Completes (.mainsCrossing c) s fun b =>
      b.sensed c.input = { s.blk.sensed c.input with candidate := none } ∧ s.blk.keepsBut b [Reg.SP_STAT 1] ∧
      b.brg.now = s.blk.brg.now ∧ b.brg.state = s.blk.brg.state) ∧
    (s.blk.senses = true → 350 ≤ c.rmsMv → (s.blk.sensed c.input).lastQual = none →
      (s.blk.sensed c.input).candidate = none → Completes (.mainsCrossing c) s fun b =>
        b.sensed c.input = { s.blk.sensed c.input with candidate := some (s.blk.ticks, s.blk.brg.now) } ∧
        s.blk.keepsBut b [Reg.SP_STAT 1] ∧ b.brg.state = s.blk.brg.state) ∧
    (∀ q, s.blk.senses = true → 350 ≤ c.rmsMv → (s.blk.sensed c.input).lastQual = some q →
      s.blk.ticks - q.1 < 3787878 → Completes (.mainsCrossing c) s fun b =>
        b.brg = s.blk.brg ∧ s.blk.keepsBut b [Reg.SP_STAT 1]) ∧
    (s.blk.senses = false → Completes (.mainsCrossing c) s fun b =>
      b.brg = s.blk.brg ∧ s.blk.keepsBut b [Reg.SP_STAT 1])

/-- The states of the timebase (R86, R88, R98, R106, R109): a slew ends in LOCKED when the error is below 64 bu, and not
before; the loss of the steering input switches to a living alternate, else enters HOLDOVER and keeps the bearing in BRG_HOLD;
a crossing missing in RELOCK returns to HOLDOVER; without a lock in time the device goes to QUIET, unless START_FREE lets a
running bearing go on, or a standalone one start at 0 in HOLDOVER at the nominal frequency. The rate taken up at the end of a
slew, which closes the error to within 8 bu, is the model's choice (log entry 161), as is that an input without a crossing is
silent from Bearing's start (log entry 160). -/
def Obligations.TimebaseChangesState : Prop :=
  ∀ s : State,
    (s.blk.brg.state = .slew → s.blk.mainsError.natAbs < 64 → Completes .slewComplete s fun b =>
      b.brg.state = .locked ∧ b.get Reg.BRG_STATUS_STATE = 2 ∧ b.get Reg.BRG_STATUS_LOCKED_ONCE = 1 ∧
      b.brg.now = s.blk.brg.now ∧ (∃ r : Int, r.natAbs ≤ 8 ∧ b.brg.steer = pllSteer s.blk.mainsError r) ∧
      s.blk.keepsBut b [Reg.BRG_STATUS, Reg.SP_STAT 1]) ∧
    (s.blk.brg.state ≠ .slew ∨ 64 ≤ s.blk.mainsError.natAbs → Completes .slewComplete s fun b =>
      b.brg = s.blk.brg ∧ s.blk.keepsBut b [Reg.SP_STAT 1]) ∧
    ((s.blk.brg.state = .locked ∨ s.blk.brg.state = .slew) → s.blk.silent s.blk.steerInput = true →
      (s.blk.get Reg.BRG_STATUS_SRC = 0 → s.blk.get Reg.BRG_REF_ALT < 24 →
        s.blk.silent (s.blk.get Reg.BRG_REF_ALT) = false → Completes .referenceSilence s fun b =>
          b.get Reg.BRG_STATUS_SRC = 1 ∧ b.brg.now = s.blk.brg.now ∧ b.brg.state = s.blk.brg.state ∧
          s.blk.keepsBut b (Reg.BRG_STATUS :: Reg.SP_STAT 1 :: recordRegs)) ∧
      (s.blk.get Reg.BRG_STATUS_SRC ≠ 0 ∨ 24 ≤ s.blk.get Reg.BRG_REF_ALT ∨
          s.blk.silent (s.blk.get Reg.BRG_REF_ALT) = true → Completes .referenceSilence s fun b =>
          b.brg.state = .holdover ∧ b.get Reg.BRG_STATUS_STATE = 3 ∧ b.brg.now = s.blk.brg.now ∧ b.brg.steer = 0 ∧
          b.bearingAt Reg.BRG_HOLD_LO_BRG Reg.BRG_HOLD_HI_BRG = s.blk.brg.now ∧ s.blk.keepsBut b
            (Reg.BRG_STATUS :: Reg.BRG_HOLD_LO :: Reg.BRG_HOLD_HI :: Reg.SP_STAT 1 :: recordRegs))) ∧
    (s.blk.silent s.blk.steerInput = false → Completes .referenceSilence s fun b =>
      b.brg = s.blk.brg ∧ s.blk.keepsBut b [Reg.SP_STAT 1]) ∧
    (s.blk.brg.state = .relock → s.blk.on Reg.BRG_STATUS_RESEAT_PENDING = false →
      ((∀ q, (s.blk.sensed s.blk.brg.relockInput).lastQual = some q → 5555556 < s.blk.ticks - q.1) →
        Completes .relockTimeout s fun b =>
          b.brg.state = .holdover ∧ b.brg.now = s.blk.brg.now ∧ s.blk.keepsBut b [Reg.BRG_STATUS, Reg.SP_STAT 1]) ∧
      (∀ q, (s.blk.sensed s.blk.brg.relockInput).lastQual = some q → s.blk.ticks - q.1 ≤ 5555556 →
        Completes .relockTimeout s fun b => b.brg = s.blk.brg ∧ s.blk.keepsBut b [Reg.SP_STAT 1])) ∧
    (s.blk.dev = .settle → s.blk.fault.since + s.blk.get Reg.BRG_CTRL_LOCK_WAIT * 25000000 ≤ s.blk.ticks →
      s.blk.brg.lockOk = false → s.blk.brg.state ≠ .locked → s.blk.brg.state ≠ .follow →
      (s.blk.on Reg.BRG_CTRL_START_FREE = false → Completes .lockWaitExpiry s fun b => b.quietWith 0x04) ∧
      (s.blk.on Reg.BRG_CTRL_START_FREE = true → s.blk.running = true → Completes .lockWaitExpiry s fun b =>
        b.dev = .settle ∧ b.brg = { s.blk.brg with lockOk := true }) ∧
      (s.blk.on Reg.BRG_CTRL_START_FREE = true → s.blk.running = false → s.blk.chainEnabled = false →
        Completes .lockWaitExpiry s fun b =>
          b.dev = .settle ∧ b.brg.state = .holdover ∧ b.brg.now = 0 ∧ b.brg.lockOk = true ∧
          b.get Reg.BRG_FREQ_FREQ = (if s.blk.on Reg.BRG_CTRL_NOM then 60 * 65536 else 50 * 65536)))

/-- A re-seat waits for the transmissions in progress (R111; those that are admitted but not begun are counted, log entry
163); then, with an error of at most 8,192 bu, it is abandoned and the bearing slews or locks; with a larger one the bearing
steps forward by the error to the mains angle, and the pending flag is cleared either way. Where none is pending nothing
happens. -/
def Obligations.ReseatStepsForwardOnly : Prop :=
  (∀ s : State, s.blk.on Reg.BRG_STATUS_RESEAT_PENDING = false → Completes .reseat s fun b =>
    b.brg = s.blk.brg ∧ s.blk.keepsBut b [Reg.SP_STAT 1]) ∧
  ∀ s : State, s.blk.on Reg.BRG_STATUS_RESEAT_PENDING = true → s.blk.brg.state ≠ .follow →
    (s.blk.transmitting = true → Completes .reseat s fun b => b.brg = s.blk.brg ∧ s.blk.keepsBut b [Reg.SP_STAT 1]) ∧
    (s.blk.transmitting = false → s.blk.mainsError.natAbs ≤ 8192 → Completes .reseat s fun b =>
      b.on Reg.BRG_STATUS_RESEAT_PENDING = false ∧ b.brg.now = s.blk.brg.now ∧
      (b.brg.state = .locked ∨ b.brg.state = .slew) ∧
      s.blk.keepsBut b [Reg.BRG_STATUS, Reg.BRG_FREQ, Reg.SP_STAT 1]) ∧
    (s.blk.transmitting = false → 8192 < s.blk.mainsError.natAbs → Completes .reseat s fun b =>
      b.brg.state = .locked ∧ b.on Reg.BRG_STATUS_RESEAT_PENDING = false ∧
      b.brg.now = s.blk.brg.now + BitVec.ofInt 48
        (if 0 < s.blk.mainsError then s.blk.mainsError else 65536 + s.blk.mainsError))

/-- An outage of a triad (R118, R279): all its enabled inputs silent for 98,304 bu, its OUTAGE and OUTAGE_SEEN bits are
set and its last-gasp window opens; one with no enabled input is never in outage (the model's choice, log entry 165). The
noise map counts a cycle of each of the triad's ports, at most 64, once a cycle of the triad's reference angle, in SERVICE
while it is enabled and Bearing runs (R114, R116, R117). -/
def Obligations.OutageAndNoiseMap : Prop :=
  ∀ (s : State) (t : Fin 8) (samples : List NoiseSample),
    (s.blk.running = true → s.blk.senses = true → s.blk.enabledInputs t ≠ [] →
      s.blk.bit Reg.BRG_TRIAD_STAT_OUTAGE t = false → (s.blk.enabledInputs t).all s.blk.silent = true →
      Completes (.triadOutage t) s fun b =>
        b.bit Reg.BRG_TRIAD_STAT_OUTAGE t = true ∧ b.bit Reg.BRG_TRIAD_STAT_OUTAGE_SEEN t = true ∧
        b.get (Reg.MAC_TRIAD_GASP t) = 1 ∧ b.gaspClose t = some (s.blk.outageFrom t + 2097152) ∧
        b.brg.now = s.blk.brg.now ∧
        s.blk.keepsBut b (Reg.BRG_TRIAD_STAT :: Reg.MAC_TRIAD t :: Reg.SP_STAT 1 :: recordRegs)) ∧
    (s.blk.enabledInputs t = [] → Completes (.triadOutage t) s fun b =>
      b.gaspClose t = s.blk.gaspClose t ∧ s.blk.keepsBut b [Reg.SP_STAT 1]) ∧
    (s.blk.on Reg.BRG_NM_CTRL_ENABLE = true → s.blk.running = true → s.blk.dev = .service →
      (Store.get (fun _ => none) s.blk.brg.noiseAt t ≠ some (s.blk.refCycle t) →
        Completes (.noiseMapUpdate t samples) s fun b =>
          (∀ i, i < 3 → Store.get (fun _ => 0) b.brg.noiseCycles (3 * t + i) =
            min 64 (Store.get (fun _ => 0) s.blk.brg.noiseCycles (3 * t + i) + 1)) ∧
          s.blk.keepsBut b []) ∧
      (Store.get (fun _ => none) s.blk.brg.noiseAt t = some (s.blk.refCycle t) →
        Completes (.noiseMapUpdate t samples) s fun b => b = s.blk)) ∧
    (s.blk.on Reg.BRG_NM_CTRL_ENABLE = false → Completes (.noiseMapUpdate t samples) s fun b =>
      b.brg = s.blk.brg ∧ s.blk.keepsBut b [Reg.SP_STAT 1])

/-- Alarms (R122, R123) and the bearing as read (R124): a write of the high word arms for a target ahead, or disarms; a
target that is not ahead fires late under SKIP and is dropped otherwise; an armed alarm whose target is reached fires
once; a read of the low word latches the high one for its master. -/
def Obligations.AlarmsFireOnce : Prop :=
  ∀ (s : State) (k : Fin 4) (v : Word) (m : Fin 32),
    (s.blk.accepts = true → v.getLsbD 31 = false → Completes (.alarmArm k v) s fun b =>
      b.get (Reg.BRG_AL_HI_ARM k) = 0 ∧ b.get (Reg.BRG_AL_HI_TARGET k) = v.toNat % 65536 ∧
      s.blk.keepsBut b [Reg.BRG_AL_HI k]) ∧
    (s.blk.accepts = true → v.getLsbD 31 = true →
      (ahead (BitVec.ofNat 48 (s.blk.get (Reg.BRG_AL_LO_TARGET k) + v.toNat % 65536 * 2 ^ 32)) s.blk.brg.now = true →
        Completes (.alarmArm k v) s fun b =>
          b.get (Reg.BRG_AL_HI_ARM k) = 1 ∧ s.blk.keepsBut b [Reg.BRG_AL_HI k]) ∧
      (ahead (BitVec.ofNat 48 (s.blk.get (Reg.BRG_AL_LO_TARGET k) + v.toNat % 65536 * 2 ^ 32)) s.blk.brg.now = false →
        Completes (.alarmArm k v) s fun b => b.get (Reg.BRG_AL_HI_ARM k) = 0 ∧
          (if v.getLsbD 16 then b.get (Reg.BRG_AL_STAT_LATE k) = 1 else b.get (Reg.BRG_AL_STAT_DROPPED k) = 1) ∧
          s.blk.keepsBut b [Reg.BRG_AL_HI k, Reg.BRG_AL_STAT k])) ∧
    (s.blk.on (Reg.BRG_AL_HI_ARM k) = true → s.blk.running = true → s.blk.pulses = true →
      ahead s.blk.brg.now (s.blk.alarmTarget k) = true → Completes (.alarmFire k) s fun b =>
        b.get (Reg.BRG_AL_HI_ARM k) = 0 ∧ b.get (Reg.BRG_AL_STAT_FIRED k) = 1 ∧
        b.host = ((s.blk).raiseFixed (2 + k)).host) ∧
    (s.blk.on (Reg.BRG_AL_HI_ARM k) = false → Completes (.alarmFire k) s fun b =>
      b.host = s.blk.host ∧ s.blk.keepsBut b [Reg.SP_STAT 1]) ∧
    (s.blk.accepts = true → m.val = 0 → Completes (.brgNowRead m) s fun b =>
      b.host.answer = .word (BitVec.ofNat 32 s.blk.brg.now.toNat) ∧
      Store.get (fun _ => 0) b.brg.latches m = BitVec.ofNat 32 (s.blk.brg.now.toNat / 2 ^ 32) ∧
      b.brg.now = s.blk.brg.now ∧ s.blk.keepsBut b [])

/-- Receive lanes (R24 to R26, R32): equal results, or two that pass their vectors, retire none; a bound lane that fails is
retired, its reception dropped, and its binding goes to a free spare at the next frame boundary, or, with none left, the
port is short of a lane; a spare that fails is retired and the bound lane goes on; a transmit lane that fails its test is
retired. At the frame boundary the spare takes the binding. -/
def Obligations.RetiredLaneIsReplaced : Prop :=
  ∀ (s : State) (c : LaneCheck) (x : Binding),
    (s.blk.dev ≠ .service → Completes (.laneCrossCheck c) s fun b =>
      b.pool = s.blk.pool ∧ s.blk.keepsBut b [Reg.SP_STAT 1]) ∧
    (s.blk.pool.moves.find? (fun p => p.1 == c.bound.val) = none → Completes (.laneBindingMove c.bound) s fun b =>
      b.pool = s.blk.pool ∧ s.blk.keepsBut b [Reg.SP_STAT 1]) ∧
    (s.blk.dev = .service → x.port < 24 →
      (s.blk.lane c.bound).binding = some x → (s.blk.lane c.bound).retired = false →
      (s.blk.lane c.spare).binding = none → (s.blk.lane c.spare).retired = false →
      (c.equal = true ∨ c.boundOk = true ∧ c.spareOk = true →
        (c.txFail = none → Completes (.laneCrossCheck c) s fun b => b = s.blk) ∧
        (∀ l, c.txFail = some l → l.val ∉ s.blk.pool.txRetired → Completes (.laneCrossCheck c) s fun b =>
          b.pool = { s.blk.pool with txRetired := s.blk.pool.txRetired ++ [l.val] } ∧
          b.get Reg.FLT_SPARES_TX_ALIVE = 48 - b.pool.txRetired.length ∧
          s.blk.keepsBut b (Reg.FLT_SPARES :: Reg.FLT_PEND :: recordRegs))) ∧
      (c.equal = false → c.boundOk = false → c.spareOk = true → c.txFail = none →
        Completes (.laneCrossCheck c) s fun b =>
          (b.lane c.bound).retired = true ∧ (b.lane c.bound).reception = none ∧
          (∀ k ks, s.blk.freeSpares = k :: ks →
            b.pool.moves = s.blk.pool.moves ++ [(c.bound.val, k)] ∧ (b.lane c.bound).binding = some x) ∧
          (s.blk.freeSpares = [] →
            (b.lane c.bound).binding = none ∧ b.get (Reg.LP_STATUS_LANE_SHORT x.port) = 1) ∧
          s.blk.keepsBut b (Reg.LP_AGC_STAT x.port :: Reg.LP_STATUS x.port :: Reg.FLT_SPARES :: recordRegs)) ∧
      (c.equal = false → c.boundOk = true → c.spareOk = false → c.txFail = none →
        Completes (.laneCrossCheck c) s fun b =>
          (b.lane c.spare).retired = true ∧ b.lane c.bound = s.blk.lane c.bound ∧ b.pool.moves = s.blk.pool.moves ∧
          s.blk.keepsBut b (Reg.FLT_SPARES :: Reg.FLT_PEND :: recordRegs)) ∧
      (s.blk.pool.moves.find? (fun p => p.1 == c.bound.val) = some (c.bound.val, c.spare.val) →
        Completes (.laneBindingMove c.bound) s fun b =>
          (b.lane c.spare).binding = some x ∧ (b.lane c.bound).binding = none ∧
          b.pool.moves = s.blk.pool.moves.filter (fun p => p.1 != c.bound.val) ∧
          s.blk.keepsBut b [Reg.LP_AGC_STAT x.port, Reg.FLT_SPARES]))

/-- DRAM, decoders and preambles (R20, R33, R35, R131, R165): a retired page is counted and taken from the reserve and, once that
is used up, from the queue storage (the size of a page is an opaque constant, log entry 76; how the storage shrinks is log
entry 63); of the codewords that wait, a free decoder takes the one whose last symbol ends first, the lower lane on a tie (one
codeword for a command, log entry 147); a
lane that detects the preamble of a frame begins a reception with the bearing and the time of both Datum domains, unless it is
blanked, in a frame already, or the frame has fewer than 6 SYNCP symbols. -/
def Obligations.PoolsServeTheirQueues : Prop :=
  ∀ (s : State) (page : Word) (arrived : List CodewordIn) (w : Codeword) (freed : Fin 17) (p : PreambleIn) (v : Binding),
    Completes (.dramPageRetired page) s (fun b =>
      let pages := min (s.blk.get Reg.FLT_DRAM_PAGES_RETIRED + 1) 0xFFFF
      b.get Reg.FLT_DRAM_ROW_SPARES = 0 ∧ b.get Reg.FLT_DRAM_PAGES_RETIRED = pages ∧
      b.get Reg.FLT_DRAM_RESERVE_MIB = s.blk.dramReserve pages % 2 ^ 16 ∧
      b.get Reg.QF_STORAGE_USABLE = s.blk.usableStorage pages % 2 ^ 16 ∧ b.dev = s.blk.dev ∧
      s.blk.keepsBut b (Reg.FLT_DRAM :: Reg.FLT_DRAM_RESERVE :: Reg.QF_STORAGE :: Reg.FLT_PEND :: Reg.SP_STAT 1 ::
        recordRegs)) ∧
    (let waiting := s.blk.pool.codewords ++ arrived.filterMap s.blk.codeword
     let running := s.blk.pool.decoding.drop freed
     (running.length < 16 → w ∈ waiting →
       (∀ y ∈ waiting, y ≠ w → (w.endBearing = y.endBearing ∧ w.lane < y.lane) ∨
         (w.endBearing ≠ y.endBearing ∧ ahead y.endBearing w.endBearing = true)) →
       Completes (.ldpcDecode arrived freed) s fun b =>
         b.pool = { s.blk.pool with
           codewords := waiting.erase w, decoding := running ++ [w], decodersBusy := running.length + 1 } ∧
         s.blk.keepsBut b [Reg.SP_STAT 1]) ∧
     (16 ≤ running.length ∨ waiting = [] → Completes (.ldpcDecode arrived freed) s fun b =>
       b.pool = { s.blk.pool with codewords := waiting, decoding := running, decodersBusy := running.length } ∧
        s.blk.keepsBut b [Reg.SP_STAT 1])) ∧
    (s.blk.dev = .service → (s.blk.lane p.lane).binding = some v → (s.blk.lane p.lane).retired = false →
      s.blk.on (Reg.LP_CTRL_ENABLE v.port) = true →
      (s.blk.blanked v = false → v.g3 = true ∨ 6 ≤ p.syncs.toNat ∧ (s.blk.lane p.lane).current = none →
        Completes (.preambleDetected p) s fun b =>
          (∃ r, (b.lane p.lane).reception = some r ∧ r.start = s.blk.brg.now ∧ r.startTick = s.blk.ticks ∧
            r.bearing = s.blk.brg.now ∧ r.stampA = s.blk.dtm.a.t ∧ r.stampB = s.blk.dtm.b.t ∧ r.syncs = p.syncs.toNat ∧
            r.g3 = v.g3 ∧ r.frame = none ∧ r.ended = false) ∧
          s.blk.keepsBut b [Reg.LP_AGC_STAT v.port]) ∧
      (s.blk.blanked v = true → Completes (.preambleDetected p) s fun b => b = s.blk) ∧
      (v.g3 = false → p.syncs.toNat < 6 ∨ (s.blk.lane p.lane).current.isSome = true →
        Completes (.preambleDetected p) s fun b => b = s.blk))

/-- Automatic gain (R130, R132, R216): within 4.5 dB of the target the code stays, a louder signal lowers it, a quieter one
raises it (by one to four codes: how many is a free value, log entry 189), in MODE 1 the code is FIXED, always at most the
ceiling; the last decision takes effect at the next instant that serves, is counted, and the multiplier turns against it;
while no lane is in a frame the multiplier is that of the code. -/
def Obligations.GainStepsTakeEffect : Prop :=
  ∀ (s : State) (port : Fin 24) (level g : Nat) (inWindow : List (Fin 128)),
    let fixed := s.blk.on (Reg.LP_AGC_CTRL_MODE port)
    let gain := s.blk.get (Reg.LP_AGC_STAT_GAIN port)
    let target := s.blk.get (Reg.LP_AGC_CTRL_TARGET port) * 10
    (s.blk.dev = .service → s.blk.on (Reg.LP_CTRL_ENABLE port) = true →
      Completes (.agcMeasure port level) s fun b =>
        b.get (Reg.LP_AGC_STAT_LEVEL port) = min 255 (level / 10) ∧
        (∀ n, (b.port port).agcPending = some n → n ≤ s.blk.gainCeiling port) ∧
        (fixed = false → gain ≤ s.blk.gainCeiling port → level ≤ target + 45 → target ≤ level + 45 →
          (b.port port).agcPending = none) ∧
        (fixed = false → level + 45 < target → 0 < gain → ∃ n, (b.port port).agcPending = some n ∧ n < gain) ∧
        (fixed = false → target + 45 < level → gain < s.blk.gainCeiling port →
          ∃ n, (b.port port).agcPending = some n ∧ gain < n) ∧
        (fixed = true → (b.port port).agcPending =
          (let n := min (s.blk.get (Reg.LP_AGC_CTRL_FIXED port)) (s.blk.gainCeiling port)
            if n = gain then none else some n)) ∧
        s.blk.keepsBut b [Reg.LP_AGC_STAT port]) ∧
    (s.blk.dev ≠ .service ∨ s.blk.on (Reg.LP_CTRL_ENABLE port) = false → Completes (.agcMeasure port level) s fun b =>
      (b.port port).agcPending = (s.blk.port port).agcPending ∧ s.blk.keepsBut b [Reg.SP_STAT 1]) ∧
    ((s.blk.port port).agcPending = some g → g < 32 → s.blk.stepInstant port = true →
      let to_ := min (if fixed then s.blk.get (Reg.LP_AGC_CTRL_FIXED port) else g) (s.blk.gainCeiling port)
      Completes (.agcStep port inWindow) s fun b =>
        b.get (Reg.LP_AGC_STAT_GAIN port) = to_ ∧ (b.port port).agcPending = none ∧
        (to_ ≠ gain → b.get (Reg.LP_AGC_STEPS_COUNT port) = (s.blk.get (Reg.LP_AGC_STEPS_COUNT port) + 1) % 2 ^ 32) ∧
        s.blk.keepsBut b [Reg.LP_AGC_STAT port, Reg.LP_AGC_STEPS port, Reg.LP_AGC_INWIN port, Reg.SP_STAT 1]) ∧
    ((s.blk.port port).agcPending = none ∨ s.blk.stepInstant port = false → Completes (.agcStep port inWindow) s fun b =>
      (b.port port).agcPending = (s.blk.port port).agcPending ∧ s.blk.keepsBut b [Reg.SP_STAT 1]) ∧
    (s.blk.receiving port = [] → Completes (.agcRenormalise port) s fun b =>
      (b.port port).multDb = -(s.blk.ratioOf port (List.range gain)).mag ∧
      (b.port port).multDeg = -(s.blk.ratioOf port (List.range gain)).phase ∧
      (gain = 0 → (b.port port).multDb = 0 ∧ (b.port port).multDeg = 0) ∧ s.blk.keepsBut b [Reg.SP_STAT 1]) ∧
    (s.blk.receiving port ≠ [] → Completes (.agcRenormalise port) s fun b =>
      (b.port port).multDb = (s.blk.port port).multDb ∧ s.blk.keepsBut b [Reg.SP_STAT 1])

/-- Slices (R139, R147, R148): a trip or a suspicion takes a slice out of the healthy set until its test; the test, made in a
span of 200 µs in which the port does not send, returns it or retires it; the rotation advances the pointer; at a frame
boundary the active set is that of R139, at most ten healthy slices, from the one at the pointer on (log entry 167). -/
def Obligations.SlicesAreTestedOrRetired : Prop :=
  ∀ (s : State) (port : Fin 24) (j : Fin 12) (why : SliceTest),
    (s.blk.sliceActive port j = true → Completes (.sliceTrip port j) s fun b =>
      b.bit (Reg.LP_SLICE_TRIP_TRIP port) j = true ∧ b.sliceHealthy port j = false ∧ b.dev = s.blk.dev) ∧
    (s.blk.sliceActive port j = true → Completes (.sliceSuspect port j) s fun b =>
      b.sliceHealthy port j = false ∧ b.dev = s.blk.dev) ∧
    (s.blk.sliceActive port j = false → ∀ c ∈ [Instr.sliceTrip port j, .sliceSuspect port j], Completes c s fun b =>
      (b.port port).untested = (s.blk.port port).untested ∧ s.blk.keepsBut b [Reg.SP_STAT 1]) ∧
    ((s.blk.port port).untested = [(j.val, why)] → s.blk.portIdle port = true →
      s.blk.bit (Reg.LP_SLICE_STAT_RETIRED port) j = false →
      Completes (.sliceTest port j true) s (fun b =>
        b.sliceHealthy port j = true ∧ (b.port port).untested = []) ∧
      Completes (.sliceTest port j false) s (fun b =>
        b.bit (Reg.LP_SLICE_STAT_RETIRED port) j = true ∧ b.sliceHealthy port j = false)) ∧
    (s.blk.portIdle port = false → ∀ pass, Completes (.sliceTest port j pass) s fun b =>
      b.port port = s.blk.gated.port port ∧ s.blk.keepsBut b [Reg.SP_STAT 1]) ∧
    (s.blk.dev = .service → s.blk.on (Reg.LP_SLICE_TEST_ROTATE port) = true → s.blk.sending port = false →
      s.blk.get (Reg.LP_SLICE_TEST_INTERVAL port) ≤ (s.blk.port port).sinceRotation →
      Completes (.sliceRotation port) s fun b =>
        b.get (Reg.LP_SLICE_STAT_POINTER port) = (s.blk.get (Reg.LP_SLICE_STAT_POINTER port) + 1) % 12 ∧
        (b.port port).sinceRotation = 0) ∧
    (s.blk.sending port = true ∨ (s.blk.port port).sinceRotation < s.blk.get (Reg.LP_SLICE_TEST_INTERVAL port) →
      Completes (.sliceRotation port) s fun b => s.blk.keepsBut b [Reg.SP_STAT 1]) ∧
    (s.blk.sending port = false → (s.blk.port port).failed = false → 6 ≤ (s.blk.sliceChoice port).length →
      Completes (.sliceChangeApply port) s fun b =>
        b.get (Reg.LP_STATUS_ACTIVE port) = (s.blk.sliceChoice port).length ∧
        (∀ i, i < 12 → (b.bit (Reg.LP_SLICE_STAT_ACTIVE_SET port) i = true ↔ i ∈ s.blk.sliceChoice port)) ∧
        b.get (Reg.LP_STATUS_ACTIVE port) ≤ 10) ∧
    (s.blk.sending port = true → Completes (.sliceChangeApply port) s fun b => s.blk.keepsBut b [Reg.SP_STAT 1])

/-- Banks (R145, R154, R594): a measurement shows V_LD and the temperature; outside 11.50 to 26.50 V or above 135 °C the
bank goes off and its ports open their switches; it comes on again once 12.00 to 26.00 V and 120 °C have held for 100 ms;
a rail fault puts its bank off, the loss of VDDA_5 all four. -/
def Obligations.BanksGoOffAndOn : Prop :=
  ∀ (s : State) (bank : Fin 4) (vld : BitVec 12) (temp : BitVec 8),
    (s.blk.watches = true → Completes (.bankMeasure bank vld temp) s fun b =>
      b.get (Reg.LP_BANK_STAT_VLD bank) = vld.toNat ∧ b.get (Reg.LP_BANK_STAT_TEMP bank) = temp.toNat ∧
      (vld.toNat < 1150 ∨ 2650 < vld.toNat ∨ 135 < temp.toInt → b.on (Reg.LP_BANK_STAT_OFF bank) = true ∧
        (s.blk.on (Reg.LP_BANK_STAT_OFF bank) = false → b.on (Reg.LP_BANK_STAT_OFF_SEEN bank) = true ∧
          ∀ n ∈ bankPorts bank, (b.port n).switches = false)) ∧
      (1150 ≤ vld.toNat ∧ vld.toNat ≤ 2650 ∧ temp.toInt ≤ 135 →
        b.on (Reg.LP_BANK_STAT_OFF bank) = s.blk.on (Reg.LP_BANK_STAT_OFF bank))) ∧
    (∀ since : Nat, Store.get (fun _ => none) s.blk.ports.bankOk bank.val = some since →
      s.blk.on (Reg.LP_BANK_STAT_OFF bank) = true → since + 25000000 ≤ s.blk.ticks → s.blk.ports.vdda5Low = false →
      Completes (.bankOn bank) s fun b => b.on (Reg.LP_BANK_STAT_OFF bank) = false) ∧
    (Store.get (fun _ => none) s.blk.ports.bankOk bank.val = (none : Option Nat) → Completes (.bankOn bank) s fun b =>
      s.blk.keepsBut b [Reg.SP_STAT 1]) ∧
    (s.blk.watches = true → Completes (.railFault bank) s fun b =>
      b.on (Reg.LP_BANK_STAT_RAIL_FAULT bank) = true ∧ b.on (Reg.LP_BANK_STAT_OFF bank) = true ∧ b.dev = s.blk.dev) ∧
    (s.blk.watches = true → Completes .vdda5Fault s fun b =>
      b.ports.vdda5Low = true ∧ (∀ k, k < 4 → b.on (Reg.LP_BANK_STAT_OFF k) = true) ∧ b.dev = s.blk.dev) ∧
    (s.blk.watches = false → ∀ c ∈ [Instr.bankMeasure bank vld temp, .railFault bank, .vdda5Fault],
      Completes c s fun b => s.blk.keepsBut b [Reg.SP_STAT 1])

/-- Coefficients (R49, R138, R203, R210, R213, R222, R223): an observation of the driver loss within the limits moves
the value by an eighth of the way, any other becomes a held candidate and changes nothing else; a superframe of a bank is
observed once (log entry 182); candidates expire after HOLD superframes, but not under FREEZE; what is pending becomes active at
a boundary of its target; the cross-band filters take effect while no port of their triad transmits. -/
def Obligations.CoefficientsFollowObservations : Prop :=
  ∀ (s : State) (bank : Fin 4) (supply idle : Nat) (target : ApplyTarget) (t : Fin 8),
    let sent := Store.get (fun _ => BankSent.reset) s.blk.ports.sent bank
    (s.blk.dev = .service → 0 < sent.out → sent.observed = false → s.blk.on Reg.SND_CTRL_ENABLE = true → s.blk.on Reg.SND_CTRL_FREEZE = false →
      let c := s.blk.coef (coefKey 5 bank)
      let o : CoefVal :=
        { mag := max 128000000 (min 384000000 (256000000 * (supply - idle) * 65536 / sent.out)), phase := 0 }
      (s.blk.within 5 c o c.active = true → Completes (.lossObservation bank supply idle) s fun b =>
        (b.coef (coefKey 5 bank)).active = stepVal c.acc o) ∧
      (s.blk.within 5 c o c.active = false → c.held = none → c.pending = none → s.blk.on Reg.SND_CTRL_HOLD = true →
        Completes (.lossObservation bank supply idle) s fun b =>
        (b.coef (coefKey 5 bank)).active = c.active ∧
        ∃ h, (b.coef (coefKey 5 bank)).held = some h ∧ h.value = o ∧ h.count = 1)) ∧
    (sent.out = 0 ∨ sent.observed = true → Completes (.lossObservation bank supply idle) s fun b =>
      b.sound = s.blk.sound ∧ s.blk.keepsBut b [Reg.SP_STAT 1]) ∧
    (s.blk.on Reg.SND_CTRL_FREEZE = false → (s.blk.sound.coefs.map (·.1)).Nodup →
      Completes .candidateExpiry s fun b =>
        (∀ p ∈ b.sound.coefs, ∀ h, p.2.held = some h → s.blk.superframe < h.first + s.blk.get Reg.SND_CTRL_HOLD) ∧
        b.get Reg.SND_HELD_COUNT = b.heldCount % 2 ^ 16) ∧
    (s.blk.on Reg.SND_CTRL_FREEZE = true → Completes .candidateExpiry s fun b => b.sound = s.blk.sound) ∧
    ((s.blk.sound.coefs.map (·.1)).Nodup →
      Completes (.coefficientApply target) s fun b =>
        (∀ p ∈ s.blk.sound.coefs, ∀ v, p.2.pending = some v →
          (s.blk.inTarget target p.1 = true → s.blk.mayApply p.1 = true →
            b.coef p.1 = { p.2 with active := v, pending := none }) ∧
          (s.blk.inTarget target p.1 = false ∨ s.blk.mayApply p.1 = false → b.coef p.1 = p.2)) ∧
        s.blk.keepsBut b [Reg.TRV_REPL_SEQ, Reg.SP_STAT 1]) ∧
    (s.blk.accepts = true → s.blk.on Reg.SND_CTRL_FREEZE = true → Completes .soundingUnfreeze s fun b =>
      b.on Reg.SND_CTRL_FREEZE = false) ∧
    (∀ d, (s.blk.xbc t).pending = some d → [3 * t.val, 3 * t.val + 1, 3 * t.val + 2].any s.blk.sending = false →
      Completes (.xbcFilterApply t) s fun b =>
        b.xbc t = { active := some d, pending := none } ∧
        (∀ i, i < 3 → b.get (Reg.LP_XBC_STAT_DEPTH (3 * t + i)) = d.depth % 256 ∧
          b.on (Reg.LP_STATUS_XBC_CONV (3 * t + i)) = decide (50 ≤ d.depth))) ∧
    ([3 * t.val, 3 * t.val + 1, 3 * t.val + 2].any s.blk.sending = true → Completes (.xbcFilterApply t) s fun b =>
      b.xbc t = s.blk.xbc t ∧ s.blk.keepsBut b [Reg.SP_STAT 1])

/-- The fingerprint commands (R235) on the node of SND_FP_NODE: REBASE ends the reference and counts, WRITE_REF takes the
window as the reference, CLEAR_SHIFT clears SHIFT alone. -/
def Obligations.FingerprintCommandsAct : Prop :=
  ∀ s : State, s.blk.accepts = true →
    let node := s.blk.get Reg.SND_FP_NODE_INDEX
    let f := s.blk.fingerprint node
    Completes .rebase s (fun b =>
      (b.fingerprint node).refValid = false ∧ (b.fingerprint node).shift = false ∧ (b.fingerprint node).count = 0 ∧
      b.get Reg.SND_FP_REBASES_COUNT = (s.blk.get Reg.SND_FP_REBASES_COUNT + 1) % 2 ^ 32 ∧
      s.blk.keepsBut b (Reg.SND_FP_REBASES :: recordRegs)) ∧
    Completes .writeRef s (fun b =>
      (b.fingerprint node).refValid = true ∧
      (b.fingerprint node).ref = attOf (Store.range (fun _ => 0) s.blk.sound.window 0 29) ∧
      (b.fingerprint node).count = 0 ∧ s.blk.keepsBut b []) ∧
    Completes .clearShift s (fun b => b.fingerprint node = { f with shift := false } ∧ s.blk.keepsBut b [])

/-- Frames on the line (R50, R144, R206, R259): of the frames that wait, one that no other precedes and that finds
everything R50 asks for is admitted; at its start the ports that send it have their switches closed and show TX_BUSY, and
nothing happens before; at its end it is counted, each of its ports notes the instant, from which the time clock opens the
switches 8 µs later, and the frame is gone or waits for its ACK. -/
def Obligations.FramesHoldTheirPorts : Prop :=
  ∀ (s : State) (a : AdmitChoice) (num : Nat) (x : Tx) (m : TxMeasure), s.blk.dev = .service →
    (∀ p rest phy ports, s.blk.running = true → s.blk.purgeSends = s.blk → s.blk.leaveEngines a.triad = s.blk →
      s.blk.plans a.triad = p :: rest →
      s.blk.blockedBy p a (s.blk.g3Needs a.triad) = false → s.blk.testModes p a = .fits x phy ports →
      p.send = none → p.offer.type ≠ typeData → p.offer.parcels = [] →
      Completes (.admission a) s fun b =>
        (∃ y ∈ b.mac.txs, y.offer.num = p.offer.num ∧ y.ports = ports ∧ y.offer.attempts = p.offer.attempts + 1) ∧
        (∀ o ∈ b.mac.offers, o.num ≠ p.offer.num)) ∧
    (s.blk.running = false → Completes (.admission a) s fun b => b = s.blk) ∧
    (s.blk.tx num = some x → x.stage = .admitted → ahead x.start (s.blk.brg.now + 1) = false →
      x.offer.parcels = [] → (∀ n ∈ x.ports, n < 24 ∧ s.blk.transmits n = true) →
      Completes (.transmissionStart num) s fun b =>
        (b.tx num).map (·.stage) = some .onLine ∧
        ∀ n ∈ x.ports, (b.port n).switches = true ∧ b.get (Reg.LP_STATUS_TX_BUSY n) = 1) ∧
    (s.blk.tx num = some x → x.stage ≠ .admitted ∨ ahead x.start (s.blk.brg.now + 1) = true →
      Completes (.transmissionStart num) s fun b => b = s.blk) ∧
    (m.wf = true → s.blk.tx num = some x → x.stage = .onLine → ahead x.last (s.blk.brg.now + 1) = false →
      x.ports.Nodup → (∀ n ∈ x.ports, n < 24) → Completes (.transmissionEnd num m) s fun b =>
        (b.tx num).map (·.stage) = (if x.offer.ackReq then some .awaitingAck else none) ∧
        ∀ n ∈ x.ports, (b.port n).ended = some s.blk.ticks ∧
          b.get (Reg.LP_TX_COUNT_COUNT n) = (s.blk.get (Reg.LP_TX_COUNT_COUNT n) + 1) % 2 ^ 32) ∧
    (m.wf = true → s.blk.tx num = none → Completes (.transmissionEnd num m) s fun b => b = s.blk) ∧
    (m.wf = false → exec (.transmissionEnd num m) s = .refused (.illFormed "TRANSMISSION_END"))

/-- The image (R61, R65, R67, R69 to R71, R84): LOAD is taken in LOAD of a host that supplies it; what it obtains takes the
device to SETTLE, a slot that fails takes it to QUIET; staging, in SERVICE, leaves the shadow VALID or INVALID; DISCARD
empties it; SEAL seals; while one command runs, another is refused. -/
def Obligations.ImageIsLoadedAndStaged : Prop :=
  ∀ (s : State) (src : ImageSource),
    (s.blk.cfgReached = true → s.blk.on Reg.CFG_CMD_RESULT_BUSY = false → s.blk.dev = .load →
      s.blk.get Reg.HIF_STRAPS_BOOT_SEL = 0 → Completes .load s fun b =>
        b.get Reg.CFG_CMD_RESULT_BUSY = 1 ∧
        b.get Reg.CFG_LOAD_STATUS_ATTEMPTS = (s.blk.get Reg.CFG_LOAD_STATUS_ATTEMPTS + 1) % 8 ∧
        s.blk.keepsBut b [Reg.CFG_CMD_RESULT, Reg.CFG_LOAD_STATUS, Reg.SP_STAT 1]) ∧
    (s.blk.cfgReached = true → s.blk.on Reg.CFG_CMD_RESULT_BUSY = false → s.blk.dev = .service →
      s.blk.get Reg.CFG_STATUS_SHADOW = 0 ∨ s.blk.get Reg.CFG_STATUS_SHADOW = 2 ∨ s.blk.get Reg.CFG_STATUS_SHADOW = 3 →
      ∀ p ∈ [(Instr.stageHost, 0), (.stageSlotA, 1), (.stageSlotB, 2)], Completes p.1 s fun b =>
        b.get Reg.CFG_STATUS_SHADOW = 1 ∧ b.get Reg.CFG_CMD_RESULT_BUSY = 1 ∧ b.img.shadow = none ∧
        b.img.staging = p.2 ∧ b.img.active = s.blk.img.active) ∧
    (s.blk.dev = .service → s.blk.on Reg.CFG_CMD_RESULT_BUSY = true → s.blk.get Reg.CFG_STATUS_SHADOW = 1 →
      s.blk.img.staging = 0 →
      Completes (.stagingDone src) s fun b =>
        b.get Reg.CFG_CMD_RESULT_BUSY = 0 ∧ b.img.active = s.blk.img.active ∧
        match (s.blk.checkHost true src.host).set with
        | some x => b.get Reg.CFG_STATUS_SHADOW = 2 ∧ b.img.shadow = some x ∧ b.get Reg.CFG_CMD_RESULT_STATUS = 0 ∧
            b.get Reg.CFG_SHADOW_SERIAL_SERIAL = x.serial.toNat
        | none => b.get Reg.CFG_STATUS_SHADOW = 3 ∧ b.img.shadow = s.blk.img.shadow) ∧
    (s.blk.dev = .load → s.blk.get Reg.HIF_STRAPS_BOOT_SEL = 0 → s.blk.on Reg.CFG_CMD_RESULT_BUSY = true →
      Completes (.loadComplete src) s fun b =>
        match (s.blk.checkHost false src.host).set with
        | some x => b.dev = .settle ∧ b.img.active = some x ∧ b.get Reg.CFG_STATUS_ACTIVE_VALID = 1
        | none => if 4 ≤ s.blk.get Reg.CFG_LOAD_STATUS_ATTEMPTS then b.quietWith 0x01
            else b.dev = .load ∧ b.img.active = s.blk.img.active ∧ b.get Reg.CFG_CMD_RESULT_BUSY = 0) ∧
    (s.blk.dev = .load → s.blk.get Reg.HIF_STRAPS_BOOT_SEL = 2 → (s.blk.checkSlot false true src.slotBOk).set = none →
      Completes (.loadComplete src) s fun b => b.quietWith 0x01) ∧
    (s.blk.accepts = true → s.blk.on Reg.CFG_CMD_RESULT_BUSY = false →
      (s.blk.get Reg.CFG_STATUS_SHADOW = 2 ∨ s.blk.get Reg.CFG_STATUS_SHADOW = 3 → Completes .discard s fun b =>
        b.get Reg.CFG_STATUS_SHADOW = 0 ∧ b.img.shadow = none ∧ b.get Reg.CFG_CMD_RESULT_STATUS = 0 ∧
        b.img.active = s.blk.img.active) ∧
      Completes .seal s fun b => b.get Reg.CFG_STATUS_SEALED = 1 ∧ b.get Reg.CFG_CMD_RESULT_STATUS = 0 ∧
        s.blk.keepsBut b [Reg.CFG_STATUS, Reg.CFG_CMD_RESULT]) ∧
    (s.blk.accepts = true → s.blk.on Reg.CFG_CMD_RESULT_BUSY = true →
      ∀ c ∈ [Instr.load, .stageHost, .stageSlotA, .stageSlotB, .arm, .disarm, .discard, .seal], Completes c s fun b =>
        b.get Reg.CFG_CMD_RESULT_STATUS = 1 ∧ b.img = s.blk.img ∧ s.blk.keepsBut b [Reg.CFG_CMD_RESULT])

/-- An image swap (R78 to R82): ARM, on a device without a Chain or by its master, of a bearing far enough ahead arms the shadow,
with COMMIT where no Chain has to agree; of another bearing it is INVALID; on a follower it is refused. DISARM returns the shadow
to VALID with cause 1; the master whose token is out 10 µs before the bearing aborts with cause 3; at its bearing an armed swap
with COMMIT exchanges the sets, one in holdover aborts with cause 4, one without a verdict with cause 7. -/
def Obligations.SwapActsAtItsBearing : Prop :=
  ∀ (s : State) (x : ImageSet),
    let at_ := s.blk.bearingAt Reg.CFG_SWAP_BRG_LO_BRG Reg.CFG_SWAP_BRG_HI_BRG
    (s.blk.accepts = true → s.blk.on Reg.CFG_CMD_RESULT_BUSY = false → s.blk.dev = .service → s.blk.running = true →
      s.blk.get Reg.CFG_STATUS_SHADOW = 2 → s.blk.img.shadow = some x →
      (s.blk.chainEnabled = false ∨ s.blk.chain.role = .master → s.blk.armable at_ = true →
        (∀ n, n < 24 → preserves x.sections n = true) ∨ 65536 + s.blk.leadTime ≤ (at_ - s.blk.brg.now).toNat →
        Completes .arm s fun b =>
        b.img = { s.blk.img with armed := some {
          bearing := at_, verdict := if s.blk.chainEnabled then .waiting else .commit, tokenOut := s.blk.chainEnabled,
          ready := if s.blk.chainEnabled then 0 else 2 ^ s.blk.rank } } ∧
        b.get Reg.CFG_STATUS_SHADOW = 4 ∧ b.get Reg.CFG_SWAP_STATUS_STATE = 1 ∧ b.get Reg.CFG_CMD_RESULT_STATUS = 0 ∧
        s.blk.keepsBut b [Reg.CFG_STATUS, Reg.CFG_SWAP_STATUS, Reg.CFG_CMD_RESULT]) ∧
      (s.blk.chainEnabled = false ∨ s.blk.chain.role = .master → s.blk.armable at_ = false → Completes .arm s fun b =>
        b.img = s.blk.img ∧ b.get Reg.CFG_CMD_RESULT_STATUS = 2 ∧ s.blk.keepsBut b [Reg.CFG_CMD_RESULT]) ∧
      (s.blk.chainEnabled = true → s.blk.chain.role ≠ .master → Completes .arm s fun b =>
        b.img = s.blk.img ∧ b.get Reg.CFG_CMD_RESULT_STATUS = 1 ∧ s.blk.keepsBut b [Reg.CFG_CMD_RESULT])) ∧
    (∀ a, s.blk.img.armed = some a →
      (s.blk.accepts = true → s.blk.on Reg.CFG_CMD_RESULT_BUSY = false →
        s.blk.chainEnabled = false ∨ s.blk.chain.role = .master → Completes .disarm s fun b =>
          b.img = { s.blk.img with armed := none, ended := some a.bearing } ∧ b.get Reg.CFG_STATUS_SHADOW = 2 ∧
          b.get Reg.CFG_SWAP_STATUS_STATE = 3 ∧ b.get Reg.CFG_SWAP_STATUS_CAUSE = 1 ∧
          b.get Reg.CFG_CMD_RESULT_STATUS = 0) ∧
      (s.blk.dev = .service → s.blk.chain.role = .master → a.verdict = .waiting → s.blk.atDeadline a.bearing = true →
        s.blk.chain.op = none → Completes .swapAbortDeadline s fun b =>
          b.img = { s.blk.img with armed := none, ended := some a.bearing } ∧ b.get Reg.CFG_STATUS_SHADOW = 2 ∧
          b.get Reg.CFG_SWAP_STATUS_CAUSE = 3) ∧
      (s.blk.img.shadow = some x → a.bearing = s.blk.brg.now →
        (s.blk.brg.state = .holdover → Completes .imageSwap s fun b =>
          b.img = { s.blk.img with armed := none, ended := some a.bearing } ∧ b.get Reg.CFG_SWAP_STATUS_CAUSE = 4) ∧
        (s.blk.brg.state ≠ .holdover → a.verdict = .waiting → Completes .imageSwap s fun b =>
          b.img = { s.blk.img with armed := none, ended := some a.bearing } ∧ b.get Reg.CFG_SWAP_STATUS_CAUSE = 7) ∧
        (s.blk.brg.state ≠ .holdover → a.verdict = .commit → Completes .imageSwap s fun b =>
          b.img.active = some x ∧ b.img.shadow = none ∧ b.img.armed = none ∧ b.get Reg.CFG_SWAP_STATUS_STATE = 2 ∧
          b.get Reg.CFG_STATUS_SHADOW = 0 ∧ b.get Reg.CFG_ACTIVE_SERIAL_SERIAL = x.serial.toNat)) ∧
      (s.blk.img.shadow = some x → a.bearing ≠ s.blk.brg.now → ahead a.bearing s.blk.brg.now = true →
        Completes .imageSwap s fun b => b.img = s.blk.img ∧ s.blk.keepsBut b [Reg.SP_STAT 1]))

/-- The Plane Table's calendar (R237, R239, R240, R249, R252, R279): a superframe start shows its number and takes CP_END of
every bound triad, once; CP_END is chosen from bin 960 on within its bounds (how much work is queued is log entry 47's); at
their bearing the Cairns that have been admitted go on the line; a notch set that differs is announced with its effective
superframe; a last-gasp window closes at its bearing. What has nothing to do leaves the block as it was. -/
def Obligations.CalendarOfTheSuperframe : Prop :=
  ∀ (s : State) (t : Fin 8),
    (s.blk.running = true → s.blk.get Reg.MAC_SFN_SFN ≠ s.blk.superframe % 2 ^ 29 → s.blk.img.schedPending = [] →
      Completes .superframeStart s fun b =>
        b.get Reg.MAC_SFN_SFN = s.blk.superframe % 2 ^ 29 ∧ (b.macTriad t).cpNext = none ∧
        (s.blk.triadBound t = true → b.get (Reg.MAC_TRIAD_CP_END t) =
          ((s.blk.macTriad t).cpNext.getD (s.blk.get Reg.MAC_CP_CTRL_CP_END_MIN)) % 1024)) ∧
    (s.blk.running = true → s.blk.get Reg.MAC_SFN_SFN ≠ s.blk.superframe % 2 ^ 29 → Completes .superframeStart s fun b =>
      (b.macTriad t).cpNext = none ∧ b.img.schedPending = []) ∧
    (s.blk.running = false ∨ s.blk.get Reg.MAC_SFN_SFN = s.blk.superframe % 2 ^ 29 → Completes .superframeStart s fun b =>
      s.blk.keepsBut b [Reg.SP_STAT 1]) ∧
    (s.blk.dev = .service → s.blk.running = true → 960 ≤ binOf s.blk.brg.now → (s.blk.macTriad t).cpNext = none →
      Completes (.cpEndChoice t) s fun b =>
        (b.macTriad t).cpNext = some (min (s.blk.get Reg.MAC_CP_CTRL_CP_END_MAX)
          (max (s.blk.get Reg.MAC_CP_CTRL_CP_END_MIN) (1023 - s.blk.spWork t))) ∧ s.blk.keepsBut b []) ∧
    (s.blk.dev ≠ .service ∨ s.blk.running = false ∨ binOf s.blk.brg.now < 960 ∨ (s.blk.macTriad t).cpNext.isSome = true →
      Completes (.cpEndChoice t) s fun b => b.macTriad t = s.blk.macTriad t ∧ s.blk.keepsBut b [Reg.SP_STAT 1]) ∧
    (let cairn : Tx → Bool := fun x =>
      (x.offer.type == typeCairn || x.offer.type == typeCairnC) && x.offer.triad == t.val
    (s.blk.dev = .service → (s.blk.mac.txs.map (·.offer.num)).Nodup → Completes (.cairnTransmit t) s fun b =>
      (∀ x ∈ s.blk.mac.txs, cairn x = true → x.stage = .admitted → ahead x.start (s.blk.brg.now + 1) = false →
        x.offer.parcels = [] → (b.tx x.offer.num).map (·.stage) = some .onLine ∧
          ∀ n ∈ x.ports, n < 24 → s.blk.transmits n = true → (b.port n).switches = true) ∧
      (∀ x ∈ s.blk.mac.txs, cairn x = false → b.tx x.offer.num = some x)) ∧
    (s.blk.mac.txs.filter cairn = [] → Completes (.cairnTransmit t) s fun b =>
      b.mac.offers = s.blk.mac.offers ∧ (s.blk.dev = .service → b = s.blk))) ∧
    (s.blk.dev = .service → s.blk.running = true → (s.blk.macTriad t).pending = none →
      (∀ sf, (s.blk.macTriad t).announced = some sf → sf + s.blk.get Reg.PT_NOTCH_CTRL_INTERVAL * 16 ≤ s.blk.superframe) →
      let old := (s.blk.macTriad t).inForce
      let new := if s.blk.on Reg.PT_NOTCH_CTRL_ENABLE then s.blk.patternsFor t old.patterns else []
      (new ≠ old.patterns → Completes (.notchRecompute t) s fun b =>
        ∃ set eff, (b.macTriad t).pending = some (set, eff) ∧ set.patterns = new ∧
          set.version = (old.version + 1) % 256 ∧ eff = s.blk.superframe + 2 * set.fragments.length + 8) ∧
      (new = old.patterns → Completes (.notchRecompute t) s fun b => b = s.blk)) ∧
    (s.blk.dev ≠ .service ∨ s.blk.running = false ∨ (s.blk.macTriad t).pending.isSome = true →
      Completes (.notchRecompute t) s fun b => b.macTriad t = s.blk.macTriad t ∧ s.blk.keepsBut b [Reg.SP_STAT 1]) ∧
    (∀ c, s.blk.gaspClose t = some c → ahead c (s.blk.brg.now + 1) = false → Completes (.lastGaspClose t) s fun b =>
      b.gaspClose t = none ∧ b.get (Reg.MAC_TRIAD_GASP t) = 0 ∧ (b.macTriad t).gaspNotices = 0) ∧
    ((∀ c, s.blk.gaspClose t = some c → ahead c (s.blk.brg.now + 1) = true) → Completes (.lastGaspClose t) s fun b =>
      s.blk.keepsBut b [Reg.SP_STAT 1])

/-- Budgets and the priority-0 bound (R273, R275, R278): a bucket that ends leaves the account after 32 further ones, and the
charge of a frame that has yet to start goes over to the new one; parcels of priority 1 to 7 that have waited BUDGET_TTL
superframes are gone; a priority-0 parcel past its bound is counted. -/
def Obligations.BudgetsAndBounds : Prop :=
  ∀ (s : State) (port : Fin 24) (sb : Fin 4) (bins : BitVec 16),
    (∀ x rest, s.blk.buckets port sb = x :: rest → Completes (.budgetBucketRoll port sb) s fun b =>
      let yet := ((s.blk.mac.txs.filter fun y => y.stage == .admitted && y.ports.contains port.val &&
        y.bands.testBit sb).map (·.micros)).sum
      b.buckets port sb = (min x yet :: (x - yet) :: rest).take 33 ∧
      b.get (Reg.PT_BUD_ACC_ACCOUNT port sb) = ((min x yet :: (x - yet) :: rest).take 33).sum % 2 ^ 32) ∧
    (s.blk.buckets port sb = [] → Completes (.budgetBucketRoll port sb) s fun b =>
      b.buckets port sb = [] ∧ s.blk.keepsBut b [Reg.SP_STAT 1]) ∧
    Completes .budgetTtlExpiry s (fun b =>
      (∀ r ∈ b.strata.sends, ∀ sf, r.taken = false → 0 < r.prio → r.waiting = some sf →
        s.blk.superframe < sf + s.blk.get Reg.PT_TTL_BUDGET_TTL) ∧
      ∀ o ∈ b.mac.offers, ∀ sf, o.parcels ≠ [] → 0 < o.prio → o.waiting = some sf →
        s.blk.superframe < sf + s.blk.get Reg.PT_TTL_BUDGET_TTL) ∧
    (s.blk.p0Overdue port = true → Completes (.p0Late port bins) s fun b =>
      b.get Reg.PT_P0_LATE_COUNT = (s.blk.get Reg.PT_P0_LATE_COUNT + 1) % 2 ^ 32 ∧
      s.blk.keepsBut b (Reg.PT_P0_LATE :: Reg.SP_STAT 1 :: recordRegs)) ∧
    (s.blk.p0Overdue port = false → Completes (.p0Late port bins) s fun b => s.blk.keepsBut b [Reg.SP_STAT 1])

/-- Rendezvous and supervision (R41, R266, R268, R270 to R272): a frame that waits for a sleeping node is admitted for its
rendezvous, at least 12 µs ahead and at most a cycle ahead (the cycle is log entry 48's), and at no other instant; a missed
one moves the series on, at the cap of the guard the pair is desynchronised, and after two WAKEs the series ends; a node not
heard for SUPV superframes lapses, unless a series stands. -/
def Obligations.SleepersAndSilentNodes : Prop :=
  ∀ (s : State) (node : NodeIx) (v : Rendezvous),
    let x := node.toNat
    (s.blk.dev = .service → s.blk.home = true → (s.blk.ext x).rdv = some v → (s.blk.node x).state = 2 → v.wakes = none →
      (∀ y ∈ s.blk.mac.txs, y.offer.dst ≠ (s.blk.node x).short) →
      ∀ (p : Plan) (start : Bearing) (y : Tx) (phy : PhyMode) (ports : List Nat),
        s.blk.wakeBearing x = some start → (start - s.blk.brg.now).toNat < 65536 → s.blk.tooLate start = false →
        s.blk.rdvPlan x = (s.blk, p) → p.send = none → p.offer.type ≠ typeData →
        let fixed : Offer := { p.offer with start := some start, standing := true }
        let b0 : Block := { s.blk with mac := { s.blk.mac with
          offers := s.blk.mac.offers.map fun q => if q.num = fixed.num then fixed else q } }
        b0.testModes { p with offer := fixed } (b0.rdvChoice x) = .fits y phy ports →
        Completes (.rendezvous node) s fun b =>
          (∀ o ∈ b.mac.offers, o.num ≠ p.offer.num) ∧
          ∃ z ∈ b.mac.txs, z.offer.num = p.offer.num ∧ z.offer.dst = p.offer.dst ∧ z.ports = ports) ∧
    ((∀ start, s.blk.wakeBearing x = some start → 65536 ≤ (start - s.blk.brg.now).toNat ∨ s.blk.tooLate start = true) →
      Completes (.rendezvous node) s fun b => b.mac.offers = s.blk.mac.offers ∧ s.blk.keepsBut b [Reg.SP_STAT 1]) ∧
    (s.blk.home = true → (s.blk.ext x).rdv = some v → (∀ y ∈ s.blk.mac.txs, y.offer.dst ≠ (s.blk.node x).short) →
      ahead (s.blk.rdvBearing x v.k) s.blk.brg.now = false →
      (v.wakes = none → Completes (.rendezvousMissed node) s fun b =>
        (b.ext x).rdv = some { v with k := v.k + 1, wakes := if s.blk.guardOf x v.k = 16384 then some 0 else none }) ∧
      (v.wakes = some 0 → Completes (.rendezvousMissed node) s fun b =>
        (b.ext x).rdv = some { v with k := v.k + 1, wakes := some 1 }) ∧
      (v.wakes = some 1 → Completes (.rendezvousMissed node) s fun b =>
        (b.ext x).rdv = none ∧ (b.ext x).supvFrom = s.blk.superframe ∧
        b.get Reg.MAC_DESYNC_COUNT = (s.blk.get Reg.MAC_DESYNC_COUNT + 1) % 2 ^ 32)) ∧
    ((s.blk.ext x).rdv = none ∨ s.blk.home = false → Completes (.rendezvousMissed node) s fun b =>
      b.trv = s.blk.trv ∧ s.blk.keepsBut b [Reg.SP_STAT 1]) ∧
    (s.blk.home = true → (s.blk.node x).state = 2 →
      ((s.blk.ext x).rdv = none → (s.blk.ext x).supvFrom + s.blk.get Reg.MAC_SUPV_SUPV ≤ s.blk.superframe →
        Completes (.supervisionExpiry node) s fun b =>
          (b.node x).state = 3 ∧
          b.get Reg.MAC_SUPV_LOST_COUNT = (s.blk.get Reg.MAC_SUPV_LOST_COUNT + 1) % 2 ^ 32) ∧
      ((s.blk.ext x).rdv = some v → Completes (.supervisionExpiry node) s fun b =>
        b.trv = s.blk.trv ∧ s.blk.keepsBut b [Reg.SP_STAT 1])) ∧
    (s.blk.home = false ∨ (s.blk.node x).state ≠ 2 ∨ s.blk.superframe < (s.blk.ext x).supvFrom + s.blk.get Reg.MAC_SUPV_SUPV →
      Completes (.supervisionExpiry node) s fun b => b.trv = s.blk.trv ∧ s.blk.keepsBut b [Reg.SP_STAT 1])

/-- A frame that holds one parcel for the device, without link security (R35, R315, R365, R399): the parcel is placed in the
receive queue of its node's owner (which queue that is, log entry 51), whose WR moves by its words; a second copy is counted
and placed nowhere. Where no frame has come in on the lane the command changes nothing. -/
def Obligations.DataParcelReachesItsQueue : Prop :=
  ∀ (s : State) (r : RxFrame) (hd : Heard) (m : MacHeader) (x y q : Nat) (rec' plain : List Byte),
    ((s.blk.receive typeData r).2 = some (hd, m) → s.blk.sender m = some x → s.blk.standsBy hd.port = false →
      s.blk.home = true → m.nparc = 1 → rxRecords m hd.mac = [rec'] →
      let h := ParcelHeader.ofBytes (slice rec' 0 16)
      h.sec = false → h.final = addrDevice → s.blk.indexOf h.orig = some y → (s.blk.node y).state = 2 →
      s.blk.fateOf rec' (some y) none = .good 0 plain →
      ((h.orig, h.pseq) ∉ (s.blk.ext x).seen → s.blk.receiveQueue (s.blk.node y).owner = some q →
        s.blk.qPriority q = false → s.blk.on (Reg.QD_CFG_ENABLE q) = true →
        s.blk.on (Reg.QD_BASE_HI_MARK_VALID q) = false → s.blk.frozen (s.blk.node y).owner = false →
        s.blk.on Reg.DTM_RXS_ENABLE = false → s.blk.qFill q + (16 + plain.length + 7) / 8 ≤ s.blk.qSize q →
        Completes (.dataReceived r) s fun b =>
          b.qWr q = s.blk.qWr q + BitVec.ofNat 32 ((16 + plain.length + 7) / 8) ∧
          b.get Reg.TRV_DUP_COUNT = s.blk.get Reg.TRV_DUP_COUNT) ∧
      ((h.orig, h.pseq) ∈ (s.blk.ext x).seen → Completes (.dataReceived r) s fun b =>
        b.qWr q = s.blk.qWr q ∧ b.get Reg.TRV_DUP_COUNT = (s.blk.get Reg.TRV_DUP_COUNT + 1) % 2 ^ 32)) ∧
    (s.blk.heardOn r.lane r.info = none → Completes (.dataReceived r) s fun b =>
      b.trv = s.blk.trv ∧ s.blk.keepsBut b [Reg.SP_STAT 1])

/-- Acknowledgement (R259, R262, R312): an ACK that answers a transmission ends its wait, and makes the node of an ASSOC_RESP
associated; a transmission whose ACK is missing waits for its next attempt, as long as it has one. -/
def Obligations.AckEndsTheWait : Prop :=
  ∀ (s : State) (r : RxFrame) (hd : Heard) (m : MacHeader) (y num : Nat) (x : Tx),
    ((s.blk.receive typeAck r).2 = some (hd, m) → s.blk.indexOf m.src = some y → fcsOk hd.mac 4 = true →
      s.blk.standsBy hd.port = false → s.blk.home = true →
      s.blk.mac.txs.find? (fun x => x.answeredBy hd.triad m.src (byteAt hd.mac 14) hd.frame.last) = some x →
      ((s.blk.node y).state = 2 → x.offer.type ≠ typeAssocResp → Completes (.ackReceived r) s fun b =>
        ∀ z ∈ b.mac.txs, z.offer.num ≠ x.offer.num) ∧
      ((s.blk.node y).state = 1 → x.offer.type = typeAssocResp → Completes (.ackReceived r) s fun b =>
        (b.node y).state = 2 ∧ ∀ z ∈ b.mac.txs, z.offer.num ≠ x.offer.num)) ∧
    (s.blk.heardOn r.lane r.info = none → Completes (.ackReceived r) s fun b =>
      b.trv = s.blk.trv ∧ s.blk.keepsBut b [Reg.SP_STAT 1]) ∧
    (s.blk.tx num = some x → x.stage = .awaitingAck → ahead x.ackEnd s.blk.brg.now = false → x.offer.type ≠ typeWake →
      (x.offer.type = typeData → x.offer.parcels ≠ []) → x.offer.attempts < attemptsOf x.offer.type →
      Completes (.ackMissing num) s fun b =>
        (∀ z ∈ b.mac.txs, z.offer.num ≠ num) ∧
        ∃ o ∈ b.mac.offers, o.num = num ∧ o.attempts = x.offer.attempts ∧ o.parcels = x.offer.parcels ∧ o.start = none) ∧
    (s.blk.tx num = some x → x.stage = .awaitingAck → ahead x.ackEnd s.blk.brg.now = false → x.offer.type = typeWake →
      Completes (.ackMissing num) s fun b =>
        (∀ z ∈ b.mac.txs, z.offer.num ≠ num) ∧ b.mac.offers = s.blk.mac.offers) ∧
    (s.blk.tx num = none ∨ (s.blk.tx num = some x ∧ (x.stage ≠ .awaitingAck ∨ ahead x.ackEnd s.blk.brg.now = true)) →
      Completes (.ackMissing num) s fun b => s.blk.keepsBut b [Reg.SP_STAT 1])

/-- How nodes join and leave (R247, R262, R289, R306): a join that finds ASSOC_OPEN, a range and a free entry takes that
entry, as a child of the device when heard directly, of its relay when forwarded; a node that leaves lapses. Where no frame
has come in on the lane nothing changes. -/
def Obligations.NodesJoinAndLeave : Prop :=
  ∀ (s : State) (r : RxFrame) (hd : Heard) (m : MacHeader) (x y lo size : Nat) (long : BitVec 64),
    (s.blk.on Reg.MAC_CTRL_ASSOC_OPEN = true → (∀ p ∈ s.blk.trv.nodes, p.2.long ≠ long) → 0 < size →
      s.blk.freeEntry lo size (long.toNat % size) = some y →
      ((s.blk.receive typeAssocReq r).2 = some (hd, m) → m.src = addrUnassociated → fcsOk hd.mac 12 = true →
        leAt hd.mac 22 4 < 512 → s.blk.standsBy hd.port = false → s.blk.home = true →
        long = BitVec.ofNat 64 (leAt hd.mac 14 8) →
        s.blk.rangeOf (s.blk.joinFn hd.triad) = some (lo, size) → Completes (.assocReqReceived r) s fun b =>
          (b.node y).state = 1 ∧ (b.node y).long = long ∧ (b.node y).parent = addrDevice ∧ (b.node y).depth = 1 ∧
          (b.node y).rxPort = hd.port) ∧
      (s.blk.takesFrame typeRoute r 16 x hd m → byteAt (hd.body 16) 0 = 8 → (s.blk.node x).relay = true →
        (s.blk.node x).depth < 15 → leAt (hd.body 16) 9 4 < 512 → (s.blk.subtree x).length < 512 →
        long = BitVec.ofNat 64 (leAt (hd.body 16) 1 8) →
        s.blk.rangeOf (s.blk.joinFn (s.blk.triadOf x)) = some (lo, size) → Completes (.joinFwdReceived r) s fun b =>
          (b.node y).state = 1 ∧ (b.node y).long = long ∧ (b.node y).parent = (s.blk.node x).short ∧
          (b.node y).depth = (s.blk.node x).depth + 1)) ∧
    (s.blk.takesFrame typeLeave r 1 x hd m → Completes (.leaveReceived r) s fun b => (b.node x).state = 3) ∧
    ∀ c ∈ [Instr.assocReqReceived r, .joinFwdReceived r, .leaveReceived r],
      s.blk.heardOn r.lane r.info = none → Completes c s fun b =>
        b.trv = s.blk.trv ∧ s.blk.keepsBut b [Reg.SP_STAT 1]

/-- What nodes report (R224, R267, R302, R308, R311, R318, R448, R449, R451): the downlink SNR, the neighbours, the Cairns
their children miss, a round trip, which is answered, and a child's asymmetry. A frame that fails its FCS changes none of
it, and where no frame has come in on the lane nothing changes. -/
def Obligations.NodeReportsAreTaken : Prop :=
  ∀ (s : State) (r : RxFrame) (hd : Heard) (m : MacHeader) (x y : Nat),
    (s.blk.takesFrame typeMap r 113 x hd m → byteAt (hd.body 113) 0 = 0 → s.blk.on Reg.SND_CTRL_ENABLE = true →
      Completes (.mapReportReceived r) s fun b =>
        ∀ i, i < 112 → byteAt (hd.body 113) (1 + i) ≠ 255 →
          (b.link false x).snr.getD i 0 = byteAt (hd.body 113) (1 + i)) ∧
    (s.blk.takesFrame typeRoute r (neighLength hd.mac) x hd m → byteAt hd.mac 14 = 0 → byteAt hd.mac 15 ≤ 16 →
      Completes (.neighReceived r) s fun b =>
        (b.ext x).neigh = neighEntries s.blk.superframe ((hd.body (neighLength hd.mac)).drop 1)) ∧
    (s.blk.takesFrame typeRoute r (rrepLength hd.mac) x hd m → byteAt hd.mac 14 = 7 → byteAt hd.mac 18 ≤ 16 →
      Completes (.rrepReceived r) s fun b =>
        (b.ext x).neigh = neighEntries s.blk.superframe ((hd.body (rrepLength hd.mac)).drop 4)) ∧
    (s.blk.takesFrame typeRoute r 5 x hd m → byteAt (hd.body 5) 0 = 5 →
      s.blk.indexOf (leAt (hd.body 5) 1 3 % 2 ^ 20) = some y → (s.blk.node y).relay = true → (s.blk.node y).state = 2 →
      (s.blk.node y).parent = (s.blk.node x).short → Completes (.rcMissReceived r) s fun b =>
        (b.node y).rcMiss = min 3 (byteAt (hd.body 5) 4) ∧
        (3 ≤ byteAt (hd.body 5) 4 → b.trv.repairs.any (fun q => q.relay == y) = true)) ∧
    (s.blk.takesFrame typeTime r 27 x hd m → byteAt (hd.body 27) 0 = 1 → (s.blk.node x).depth = 1 →
      (s.blk.ext x).time.syncSent = true → byteAt (hd.body 27) 1 = (s.blk.ext x).time.seqT →
      Completes (.delayReqReceived r) s fun b =>
        ∃ o ∈ b.mac.offers, o.type = typeTime ∧ o.dst = (s.blk.node x).short ∧ byteAt o.body 0 = 2 ∧
          byteAt o.body 1 = byteAt (hd.body 27) 1) ∧
    (s.blk.takesFrame typeTime r 11 x hd m → byteAt (hd.body 11) 0 = 3 →
      s.blk.indexOf (leAt (hd.body 11) 3 3 % 2 ^ 20) = some y → (s.blk.node y).parent = (s.blk.node x).short →
      Completes (.timeReportReceived r) s fun b =>
        (b.ext y).time.asym = true ∧ b.get Reg.DTM_ASYM_COUNT_COUNT = (s.blk.get Reg.DTM_ASYM_COUNT_COUNT + 1) % 2 ^ 32) ∧
    ((s.blk.receive typeMap r).2 = some (hd, m) → fcsOk hd.mac 113 = false → Completes (.mapReportReceived r) s fun b =>
      b.trv = s.blk.trv ∧ b.sound = s.blk.sound) ∧
    ∀ c ∈ [Instr.mapReportReceived r, .neighReceived r, .rrepReceived r, .rcMissReceived r, .delayReqReceived r,
        .timeReportReceived r],
      s.blk.heardOn r.lane r.info = none → Completes c s fun b =>
        b.trv = s.blk.trv ∧ b.sound = s.blk.sound ∧ s.blk.keepsBut b [Reg.SP_STAT 1]

/-- GASP and relayed Cairns (R169, R242, R246, R279, R281, R305, R308): a GASP frame is counted, its notice made unless it is a
further copy; a relayed Cairn that is heard in its relay's slot ends its relay's misses, the third that is missed in a row
makes the relay suspect. Where no frame has come in on the lane nothing changes. -/
def Obligations.GaspsAndRelayedCairns : Prop :=
  ∀ (s : State) (g : GaspFrame) (c : CairnC) (node : NodeIx) (hd : Heard),
    (s.blk.heardOn g.lane [] = some hd → hd.type = 15 → s.blk.standsBy hd.port = false →
      let short := bitsAt hd.frame.bits 4 20
      let copy := s.blk.mac.gasps.any fun p => p.1 == short && (hd.reception.bearing - p.2).toNat < 2097152
      (copy = false → s.blk.on Reg.MAC_GASP_ENABLE = true → Completes (.gaspReceived g) s fun b =>
        b.get Reg.MAC_GASP_RX_COUNT = (s.blk.get Reg.MAC_GASP_RX_COUNT + 1) % 2 ^ 32 ∧
        (short, hd.reception.bearing) ∈ b.mac.gasps ∧
        b.get Reg.MAC_GASP_DUP_COUNT = s.blk.get Reg.MAC_GASP_DUP_COUNT) ∧
      (copy = false → s.blk.on Reg.MAC_GASP_ENABLE = false → Completes (.gaspReceived g) s fun b =>
        b.get Reg.MAC_GASP_RX_COUNT = (s.blk.get Reg.MAC_GASP_RX_COUNT + 1) % 2 ^ 32 ∧
        b.mac.gasps = s.blk.mac.gasps) ∧
      (copy = true → Completes (.gaspReceived g) s fun b =>
        b.get Reg.MAC_GASP_RX_COUNT = (s.blk.get Reg.MAC_GASP_RX_COUNT + 1) % 2 ^ 32 ∧
        b.get Reg.MAC_GASP_DUP_COUNT = (s.blk.get Reg.MAC_GASP_DUP_COUNT + 1) % 2 ^ 32 ∧
        b.mac.gasps = s.blk.mac.gasps)) ∧
    (s.blk.heardOn g.lane [] = none → Completes (.gaspReceived g) s fun b => s.blk.keepsBut b [Reg.SP_STAT 1]) ∧
    (s.blk.heardOn c.lane [] = some hd → hd.type = typeCairnC →
      let start := hd.frame.sample0
      let sf := superframeOf start
      let inSlot (p : Nat × Node) : Prop := s.blk.monitors p.1 sf = true ∧ s.blk.triadOf p.1 = hd.triad ∧
        hd.sb = (if p.2.rcBand = 1 then 0 else 3) ∧ near512 start (s.blk.slotStart p.2 sf) = true
      (node.toNat, s.blk.node node.toNat) ∈ s.blk.trv.nodes → inSlot (node.toNat, s.blk.node node.toNat) →
      (∀ p ∈ s.blk.trv.nodes, inSlot p → p.1 = node.toNat) →
      s.blk.gaspClose hd.triad = none → s.blk.standsBy hd.port = false → bitsAt hd.frame.bits 14 3 = hd.triad →
      bitsAt hd.frame.bits 17 4 = 1 → bitsAt hd.frame.bits 4 10 = sf % 1024 → Completes (.cairnCReceived c) s fun b =>
        (b.node node.toNat).rcMiss = 0 ∧ (b.node node.toNat).orphan = false) ∧
    (s.blk.heardOn c.lane [] = none → Completes (.cairnCReceived c) s fun b =>
      b.trv = s.blk.trv ∧ s.blk.keepsBut b [Reg.SP_STAT 1]) ∧
    (s.blk.monitors node.toNat s.blk.superframe = true →
      (∀ y ∈ s.blk.mac.txs, ∀ p ∈ y.ports, p / 3 ≠ s.blk.triadOf node.toNat) →
      (∀ y ∈ s.blk.brg.spans, y.received = true ∨ y.port / 3 ≠ s.blk.triadOf node.toNat) →
      s.blk.standsBy (s.blk.route node.toNat).port = false →
      ahead (s.blk.slotStart (s.blk.node node.toNat) s.blk.superframe + 512) s.blk.brg.now = false →
      Completes (.relayedCairnMissed node) s fun b =>
        (b.node node.toNat).rcMiss = min 3 ((s.blk.node node.toNat).rcMiss + 1) ∧
        (2 ≤ (s.blk.node node.toNat).rcMiss → b.trv.repairs.any (fun q => q.relay == node.toNat) = true)) ∧
    (s.blk.monitors node.toNat s.blk.superframe = false ∨
        ahead (s.blk.slotStart (s.blk.node node.toNat) s.blk.superframe + 512) s.blk.brg.now = true →
      Completes (.relayedCairnMissed node) s fun b => b.trv = s.blk.trv ∧ s.blk.keepsBut b [Reg.SP_STAT 1])

/-- Routes (R296, R297, R299, R311): a better parent found in three evaluations of different superframes is announced; a
change takes effect at EFF when every ACK is held and is cancelled otherwise; a repair ends at its deadline. -/
def Obligations.RoutesChangeAtEff : Prop :=
  ∀ (s : State) (node : NodeIx),
    let x := node.toNat
    (∀ best sf, s.blk.home = true → (s.blk.node x).state = 2 → (s.blk.node x).pinned = false → (s.blk.ext x).change = none →
      s.blk.on Reg.TRV_CTRL_ROUTE_EN = true → s.blk.indexOf (s.blk.node x).parent = none →
      s.blk.bestOf x (s.blk.candidates x) = some best → best ≠ (s.blk.node x).parent →
      s.blk.metricBy x best * 100 ≤
        s.blk.metricBy x (s.blk.node x).parent * (100 - s.blk.get Reg.TRV_ROUTE_CTRL_HYST) →
      (s.blk.ext x).better = some (best, 2, sf) → sf ≠ s.blk.superframe →
      Completes (.routeEvaluation node) s fun b => ∃ c, (b.ext x).change = some c ∧ c.parent = best ∧
        s.blk.superframe + 2 ≤ c.eff) ∧
    (s.blk.home = false → Completes (.routeEvaluation node) s fun b => b.trv = s.blk.trv) ∧
    (∀ c, (s.blk.ext x).change = some c → s.blk.home = true → c.eff ≤ s.blk.superframe →
      (c.owed = [] → Completes (.routeChangeEff node) s fun b =>
        (b.node x).parent = c.parent ∧ (b.node x).alt = c.alt ∧ (b.ext x).change = none) ∧
      (c.owed ≠ [] → Completes (.routeChangeEff node) s fun b =>
        b.node x = s.blk.node x ∧ (b.ext x).change = none)) ∧
    (∀ c, (s.blk.ext x).change = some c → s.blk.superframe < c.eff → Completes (.routeChangeEff node) s fun b =>
      b.trv = s.blk.trv ∧ s.blk.keepsBut b [Reg.SP_STAT 1]) ∧
    (∀ p, s.blk.trv.repairs.find? (fun q => q.relay == x) = some p → s.blk.home = true →
      (p.since + s.blk.get Reg.TRV_REPAIR_REPAIR_SF ≤ s.blk.superframe → Completes (.repairDeadline node) s fun b =>
        ∀ q ∈ b.trv.repairs, q.relay ≠ x) ∧
      (s.blk.superframe < p.since + s.blk.get Reg.TRV_REPAIR_REPAIR_SF → Completes (.repairDeadline node) s fun b =>
        b.trv = s.blk.trv))

/-- The commands on a node (R322, R324, R326, R454) of the entry TRV_CMD_NODE or DTM_TIME_NODE names: each acts in the states
of the entry that allow it and answers OK; in others, and on a replica, it answers STATE_REJECT and the table stays. -/
def Obligations.NodeCommandsAct : Prop :=
  ∀ s : State, s.blk.accepts = true →
    let x := s.blk.get Reg.TRV_CMD_NODE_INDEX
    let y := s.blk.get Reg.DTM_TIME_NODE_INDEX
    let n := s.blk.node x
    let done (st : Nat) (b : Block) : Prop := b.get Reg.TRV_CMD_RESULT_STATUS = st
    let timed (st : Nat) (b : Block) : Prop := b.get Reg.DTM_TIME_RESULT_STATUS = st
    (s.blk.home = true →
      (n.state ≠ 0 → Completes .free s fun b => (b.node x).state = 0 ∧ b.ext x = .reset ∧ done 0 b) ∧
      (n.state ≠ 0 → n.state ≠ 4 → Completes .block s fun b => (b.node x).state = 4 ∧ done 0 b) ∧
      (n.state = 4 → Completes .unblock s fun b => (b.node x).state = 3 ∧ done 0 b) ∧
      (n.state = 2 → s.blk.eligible x (s.blk.get Reg.TRV_CMD_ARG_PARENT) = true → (s.blk.ext x).change = none →
        Completes .pin s fun b => (b.node x).pinned = true ∧ done 0 b ∧
          (s.blk.get Reg.TRV_CMD_ARG_PARENT ≠ n.parent →
            ∃ c, (b.ext x).change = some c ∧ c.parent = s.blk.get Reg.TRV_CMD_ARG_PARENT)) ∧
      (n.state = 2 → s.blk.eligible x (s.blk.get Reg.TRV_CMD_ARG_PARENT) = false → Completes .pin s fun b =>
        b.trv = s.blk.trv ∧ done 2 b) ∧
      (n.state = 2 → n.pinned = true → Completes .unpin s fun b => (b.node x).pinned = false ∧ done 0 b) ∧
      (n.state = 2 → n.relay = true → n.orphan = false → Completes .repair s fun b =>
        (b.node x).orphan = true ∧ b.trv.repairs.any (fun q => q.relay == x) = true ∧ done 0 b) ∧
      (n.state = 2 → Completes .phReset s fun b =>
        (b.ext x).omegas = [] ∧ (b.node x).phCode = 0 ∧ (b.node x).phase = 3 ∧ done 0 b) ∧
      ((s.blk.node y).state = 2 → (s.blk.node y).depth = 1 →
        Completes .clearAsym s (fun b => (b.ext y).time = { (s.blk.ext y).time with asym := false } ∧ timed 0 b) ∧
        Completes .setCorr s (fun b =>
          (b.ext y).time = { (s.blk.ext y).time with corr := signedOf 32 (s.blk.get Reg.DTM_TIME_ARG_CORR) } ∧ timed 0 b) ∧
        Completes .remeasure s (fun b => (b.ext y).time.refValid = false ∧
          (b.ext y).time.frozen = (s.blk.ext y).time.frozen ∧ timed 0 b))) ∧
    (s.blk.home = false →
      (∀ c ∈ [Instr.free, .block, .unblock, .pin, .unpin, .repair, .phReset], Completes c s fun b =>
        b.trv = s.blk.trv ∧ done 1 b ∧ s.blk.keepsBut b [Reg.TRV_CMD_RESULT]) ∧
      ∀ c ∈ [Instr.clearAsym, .setCorr, .remeasure], Completes c s fun b =>
        b.trv = s.blk.trv ∧ timed 1 b ∧ s.blk.keepsBut b [Reg.DTM_TIME_RESULT])

/-- The latches of the table (R7, R292, R326): a write to TRV_RT_NODE that the PF may make latches the route entry of its
17-bit index, whatever its reserved bits; a read of the first word of a node's entry latches the entry for its master, whose
further words come from there. -/
def Obligations.TableEntriesAreLatched : Prop :=
  ∀ (s : State) (v : Word) (node : NodeIx) (word : Fin 16) (m : Fin 32),
    let x := v.toNat % 2 ^ 17
    (s.blk.accepts = true → Completes (.routeEntryLatch v) s fun b =>
      b.get Reg.TRV_RT_NODE_INDEX = x ∧
      (∀ i, i < 4 → b.rd (Reg.TRV_RT_DATA i) =
        BitVec.ofNat 32 (leAt ((s.blk.route x).toBytes (s.blk.node x).pinned) (4 * i) 4)) ∧
      s.blk.keepsBut b (Reg.TRV_RT_NODE :: (List.range 4).map Reg.TRV_RT_DATA)) ∧
    (s.blk.accepts = false → Completes (.routeEntryLatch v) s fun b => s.blk.keepsBut b [Reg.SP_STAT 1]) ∧
    (s.blk.readable m →
      Completes (.nodeEntryRead node 0 m) s (fun b =>
        b.host.answer = .word (BitVec.ofNat 32 (leAt (s.blk.node node.toNat).toBytes 0 4)) ∧
        Store.get (fun _ => []) b.trv.latches m = (s.blk.node node.toNat).toBytes ∧ s.blk.keepsBut b []) ∧
      (word ≠ 0 → Completes (.nodeEntryRead node word m) s fun b =>
        b.host.answer = .word (BitVec.ofNat 32 (leAt (Store.get (fun _ => []) s.blk.trv.latches m) (4 * word) 4)) ∧
        b.trv = s.blk.trv ∧ s.blk.keepsBut b []))

/-- The commands of the rings on queues and on the flash (R355, R361, R362, R366, R368, R582, R583): NOP, QSTAT, MARK, COMMIT,
REWIND and FLUSH complete with OK and the effect of their table row, or with the status that refuses them; a sector erased
reads as ones, programming clears bits, a read of the flash goes to host memory. -/
def Obligations.QueueCommandsComplete : Prop :=
  ∀ (s : State) (ring : QNum) (c : Cmd),
    let r := ring.toNat
    let q := c.queue
    let own := queueRegs c.cpl
    (s.blk.runs r 0 c → Completes (.nop ring) s fun b =>
      b.posted c 0 0 [] ∧ b.qWr c.cpl = s.blk.qWr c.cpl + 1 ∧ s.blk.keepsBut b own) ∧
    (s.blk.runs r 6 c → Completes (.qstat ring) s fun b =>
      b.posted c 0 0 (toLe 4 (s.blk.qWr q).toNat ++ toLe 4 (s.blk.qRd q).toNat ++ toLe 4 (s.blk.qMark q).toNat) ∧
      s.blk.keepsBut b own) ∧
    (s.blk.hostProduced q = true →
      (s.blk.runs r 3 c → Completes (.mark ring) s fun b =>
        b.posted c 0 0 [] ∧ b.qMark q = s.blk.qWr q ∧ b.on (Reg.QD_BASE_HI_MARK_VALID q) = true ∧
        b.on (Reg.QD_BASE_HI_MARK_LOST q) = false ∧ s.blk.keepsBut b (Reg.QD_MARK q :: Reg.QD_BASE_HI q :: own)) ∧
      (s.blk.on (Reg.QD_BASE_HI_MARK_VALID q) = true →
        (s.blk.runs r 5 c → Completes (.commit ring) s fun b =>
          b.posted c 0 0 [] ∧ b.on (Reg.QD_BASE_HI_MARK_VALID q) = false ∧ s.blk.keepsBut b (Reg.QD_BASE_HI q :: own)) ∧
        (s.blk.runs r 4 c → s.blk.takenPastMark q = true → Completes (.rewind ring) s fun b =>
          b.posted c 1 0 [] ∧ s.blk.keepsBut b own) ∧
        (s.blk.runs r 4 c → s.blk.takenPastMark q = false → (∀ x ∈ s.blk.strata.sends, s.blk.qKind x.cmd.cpl = 2) →
          (∀ e ∈ s.blk.strata.backlog, s.blk.qKind e.ring = 2) → Completes (.rewind ring) s fun b =>
          b.posted c 0 0 [] ∧ b.qWr q = s.blk.qMark q ∧
          (∀ x ∈ b.strata.sends, x ∈ s.blk.strata.sends ∧ (x.queue = q → x.taken = true ∨
            (s.blk.qWr q - s.blk.qMark q).toNat ≤ (x.ptr - s.blk.qMark q).toNat)) ∧
          s.blk.keepsLow b [Reg.PT_P0_WAIT])) ∧
      (s.blk.on (Reg.QD_BASE_HI_MARK_VALID q) = false →
        (s.blk.runs r 5 c → Completes (.commit ring) s fun b => b.posted c 1 0 [] ∧ s.blk.keepsBut b own) ∧
        (s.blk.runs r 4 c → Completes (.rewind ring) s fun b => b.posted c 1 0 [] ∧ s.blk.keepsBut b own))) ∧
    (s.blk.hostProduced q = false →
      (s.blk.runs r 3 c → Completes (.mark ring) s fun b => b.posted c 2 0 [] ∧ s.blk.keepsBut b own) ∧
      (s.blk.runs r 4 c → Completes (.rewind ring) s fun b => b.posted c 2 0 [] ∧ s.blk.keepsBut b own) ∧
      (s.blk.runs r 5 c → Completes (.commit ring) s fun b => b.posted c 2 0 [] ∧ s.blk.keepsBut b own)) ∧
    (s.blk.runs r 7 c →
      (s.blk.deviceProduced q = true → s.blk.on (Reg.QD_BASE_HI_MARK_VALID q) = false →
        (∀ x ∈ s.blk.strata.recvs, x.cmd.queue ≠ q) → Completes (.flush ring) s fun b =>
          b.posted c 0 0 [] ∧ b.qRd q = s.blk.qWr q ∧ s.blk.keepsLow b []) ∧
      (s.blk.deviceProduced q = true → s.blk.on (Reg.QD_BASE_HI_MARK_VALID q) = true → Completes (.flush ring) s fun b =>
        b.posted c 1 0 [] ∧ s.blk.keepsBut b own) ∧
      (s.blk.deviceProduced q = false → Completes (.flush ring) s fun b => b.posted c 2 0 [] ∧ s.blk.keepsBut b own)) ∧
    (∀ (a n : Nat) (d : List Byte), a = c.le 0x10 4 → n = c.le 0x20 4 →
      let old (x : Nat) : Byte := Store.get (fun _ => 0xFF) s.blk.host.flash x
      (s.blk.runs r 0x50 c → s.blk.flashRefuses c a 0x10000 (a % 0x10000 == 0) = none →
        Completes (.flashErase ring) s fun b =>
          b.posted c 0 0 [] ∧ s.blk.keepsBut b own ∧ ∀ x, Store.get (fun _ => (0xFF : Byte)) b.host.flash x =
            if a ≤ x ∧ x < a + 0x10000 then 0xFF else old x) ∧
      (∀ st, s.blk.runs r 0x50 c → s.blk.flashRefuses c a 0x10000 (a % 0x10000 == 0) = some st →
        Completes (.flashErase ring) s fun b =>
          b.posted c st 0 [] ∧ b.host.flash = s.blk.host.flash ∧ s.blk.keepsBut b own) ∧
      (s.blk.runs r 0x51 c → s.blk.flashRefuses c a n (flashSpanOk a n) = none → d.length = n →
        Completes (.flashProgram ring (.data d)) s fun b =>
          b.posted c 0 0 [] ∧ s.blk.keepsBut b own ∧ ∀ x, Store.get (fun _ => (0xFF : Byte)) b.host.flash x =
            if a ≤ x ∧ x < a + n then old x &&& d.getD (x - a) 0 else old x) ∧
      (s.blk.runs r 0x52 c → c.fn = 0 → flashSpanOk a n = true → s.blk.get Reg.CFG_STATUS_SHADOW ≠ 1 →
        Completes (.flashRead ring) s fun b =>
          b.posted c 0 0 [] ∧ b.host.flash = s.blk.host.flash ∧ s.blk.keepsBut b own ∧
          { fn := 0, addr := c.le 0x18 8, bytes := (List.range n).map fun i => s.blk.flashByte (a + i) } ∈
            b.host.dmaWrites))

/-- Parcels in and out of the queues (R348, R350, R351, R363, R364, R366): a SEND with room places its parcel behind its
header, word by word, and stays in flight; without room it completes with NO_RESOURCE and OVERRUN is set; a RECV waits in
line; a delivery writes the word at its position to the host buffer and completes at the end of the parcel, RD past what
was delivered; in priority mode it delivers the entry that goes first. -/
def Obligations.SendsAndDeliveries : Prop :=
  ∀ (s : State) (ring qn : QNum) (c : Cmd) (d : List Byte),
    let q := c.queue
    let len := c.le 0x18 2
    let final := c.le 0x1C 4
    let bytes := transmitHeader len (c.le 0x1A 1 % 8) final c.fn (c.flags.getLsbD 0) c.seq ++ slice d 0 len
    (s.blk.runs ring.toNat 1 c → s.blk.hostProduced q = true → s.blk.qKind q = 3 →
      1 ≤ len → len ≤ 2047 → finalOk final = true →
      (s.blk.on (Reg.QD_CFG_ENABLE q) = true → s.blk.sendAllowed final = true →
        (s.blk.qFill q + s.blk.unitsOf q bytes.length ≤ s.blk.qSize q → s.blk.qPriority q = false →
          Completes (.send ring (.data d)) s fun b =>
            b.qWr q = s.blk.qWr q + BitVec.ofNat 32 ((bytes.length + 7) / 8) ∧
            (∀ i, i < (bytes.length + 7) / 8 → b.wordAt q (s.blk.qWr q + BitVec.ofNat 32 i) =
              (packWords bytes false).getD i QWord.zero) ∧
            (∃ x, b.strata.sends = s.blk.strata.sends ++ [x] ∧ x.cmd = c ∧ x.queue = q ∧ x.ptr = s.blk.qWr q ∧
              x.final = final ∧ x.taken = false ∧ x.entered = s.blk.brg.now) ∧
            s.blk.keepsLow b (Reg.PT_P0_WAIT :: recordRegs)) ∧
        (s.blk.qSize q < s.blk.qFill q + s.blk.unitsOf q bytes.length → Completes (.send ring (.data d)) s fun b =>
          b.posted c 3 0 [] ∧ b.on (Reg.QD_BASE_HI_OVERRUN q) = true ∧ b.qWr q = s.blk.qWr q ∧
          b.strata.sends = s.blk.strata.sends)) ∧
      (s.blk.on (Reg.QD_CFG_ENABLE q) = false → Completes (.send ring (.data d)) s fun b =>
        b.posted c 1 0 [] ∧ s.blk.keepsBut b (queueRegs c.cpl))) ∧
    (s.blk.runs ring.toNat 1 c → finalOk final = false → Completes (.send ring (.data d)) s fun b =>
      b.posted c 2 0 [] ∧ s.blk.keepsBut b (queueRegs c.cpl)) ∧
    (s.blk.runs ring.toNat 2 c →
      (s.blk.deviceProduced q = true → recvLenOk (c.le 0x18 4) = true → s.blk.on (Reg.QD_CFG_ENABLE q) = true →
        Completes (.recv ring) s fun b =>
          (∃ x, b.strata.recvs = s.blk.strata.recvs ++ [x] ∧ x.cmd = c ∧ x.started = false ∧ x.bytes = 0) ∧
          s.blk.keepsBut b []) ∧
      (recvLenOk (c.le 0x18 4) = false → Completes (.recv ring) s fun b =>
        b.posted c 2 0 [] ∧ s.blk.keepsBut b (queueRegs c.cpl))) ∧
    (∀ r, s.blk.strata.recvs.find? (fun x => x.cmd.queue == qn.toNat) = some r → s.blk.postsTo r.cmd.fn →
      s.blk.qKind r.cmd.cpl = 2 → s.blk.qKind qn.toNat = 3 →
      let buf := r.cmd.le 0x10 8
      let most := r.cmd.le 0x18 4
      let pos := if r.started then r.pos else s.blk.qRd qn.toNat
      let w := s.blk.wordAt qn.toNat pos
      (s.blk.qPriority qn.toNat = false → pos ≠ s.blk.qWr qn.toNat → w.prov = false → w.control = false →
        r.prov = false → r.bytes + 8 ≤ most →
        (w.eop = true → Completes (.recvDelivery qn 1 []) s fun b =>
          { fn := r.cmd.fn, addr := buf + r.bytes, bytes := toLe 8 w.data.toNat } ∈ b.host.dmaWrites ∧
          b.qRd qn.toNat = pos + 1 ∧ (∀ x ∈ b.strata.recvs, x.cmd ≠ r.cmd) ∧
          b.posted r.cmd 0 (if r.poison || w.poison then 4 else 0) (recvResult (r.bytes + 8)
            (if r.head.length < 16 then r.head ++ toLe 8 w.data.toNat else r.head) true)) ∧
        (w.eop = false → r.bytes + 16 ≤ most → Completes (.recvDelivery qn 1 []) s fun b =>
          { fn := r.cmd.fn, addr := buf + r.bytes, bytes := toLe 8 w.data.toNat } ∈ b.host.dmaWrites ∧
          s.blk.keepsBut b [] ∧ ∃ x ∈ b.strata.recvs, x.cmd = r.cmd ∧ x.pos = pos + 1 ∧ x.bytes = r.bytes + 8)) ∧
      (∀ e, s.blk.qPriority qn.toNat = true →
        nextEntry (s.blk.q qn.toNat).entries (s.blk.on (Reg.QD_CFG_PROV_OK qn.toNat)) = some e →
        (e.bytes.length ≤ most → e.control = false → e.prov = false → Completes (.recvDelivery qn 1 []) s fun b =>
          { fn := r.cmd.fn, addr := buf, bytes := e.bytes } ∈ b.host.dmaWrites ∧
          (∀ x ∈ b.strata.recvs, x.cmd ≠ r.cmd) ∧
          b.posted r.cmd 0 0 (recvResult e.bytes.length (slice e.bytes 0 16) true)) ∧
        (most < e.bytes.length → Completes (.recvDelivery qn 1 []) s fun b =>
          b.posted r.cmd 2 0 [] ∧ b.q qn.toNat = s.blk.q qn.toNat ∧ s.blk.keepsBut b (queueRegs r.cmd.cpl))))

/-- What the host writes and what is fetched for it (R357 to R361, R369 to R371, R377, R542): a doorbell in range moves its
pointer, another freezes the function; bytes written through a port build words, which the next byte or EOP makes
readable; a command entry that agrees with RD is fetched and owes a slot; a conversation pauses, is paused, resumes; DMA that does
not end wedges the function; a host record takes the next slot of the Field Book. -/
def Obligations.HostTrafficIsTaken : Prop :=
  ∀ (s : State) (fn : Fin 16) (q : Nat),
    (∀ (d : Fin 1020) (v : Word), s.blk.reaches fn = true → (s.blk.rings fn)[d.val]? = some q →
      (s.blk.qKind q = 1 → (v - s.blk.qRd q).toNat ≤ s.blk.qSize q → (v - s.blk.qWr q).toNat < 2 ^ 31 →
        Completes (.doorbell fn d v) s fun b =>
          b.qWr q = v ∧ b.qRd q = s.blk.qRd q ∧ s.blk.keepsBut b (queueRegs q)) ∧
      (s.blk.qKind q = 1 → s.blk.qSize q < (v - s.blk.qRd q).toNat → Completes (.doorbell fn d v) s fun b =>
        b.frozen fn = true ∧ b.qWr q = s.blk.qWr q ∧ b.get Reg.FLT_PEND_VIOL = 1) ∧
      (s.blk.qKind q = 2 → (v - s.blk.qRd q).toNat ≤ s.blk.qFill q → Completes (.doorbell fn d v) s fun b =>
        b.qRd q = v ∧ s.blk.keepsLow b [])) ∧
    (∀ (p : Fin 256) (v1 : BitVec 8) (v2 : BitVec 16) (v4 : BitVec 32), s.blk.reaches fn = true →
      (s.blk.streams fn)[p.val]? = some q → s.blk.on (Reg.QD_CFG_ENABLE q) = true →
      let st := s.blk.q q
      (∀ x ∈ [(Instr.wpB1 fn p v1, toLe 1 v1.toNat), (.wpB2 fn p v2, toLe 2 v2.toNat), (.wpB4 fn p v4, toLe 4 v4.toNat)],
        (st.held = none → st.openBytes.length + x.2.length < 8 → s.blk.hostUnits q x.2.length ≤ s.blk.qSize q →
          Completes x.1 s fun b =>
            (b.q q).openBytes = st.openBytes ++ x.2 ∧ (b.q q).openSop = (st.openSop || st.sopNext) ∧ s.blk.keepsBut b []) ∧
        (st.held = none → st.openBytes.length + x.2.length = 8 → s.blk.hostUnits q x.2.length ≤ s.blk.qSize q →
          Completes x.1 s fun b =>
            (b.q q).openBytes = [] ∧ s.blk.keepsBut b [] ∧ (b.q q).held =
              some { data := BitVec.ofNat 64 (leNat (st.openBytes ++ x.2)),
                     tag := wordTag 8 (st.openSop || st.sopNext) false false false }) ∧
        (st.held = none → s.blk.qSize q < s.blk.hostUnits q x.2.length → Completes x.1 s fun b =>
          b.on (Reg.QD_BASE_HI_OVERRUN q) = true ∧ (b.q q).openBytes = st.openBytes ∧ b.qWr q = s.blk.qWr q)) ∧
      (st.held = none → Completes (.wpMarkSop fn p) s fun b =>
        b.q q = { st with sopNext := true } ∧ s.blk.keepsBut b []) ∧
      (∀ w, st.held = some w → Completes (.wpMarkSop fn p) s fun b =>
        b.qWr q = s.blk.qWr q + 1 ∧ b.wordAt q (s.blk.qWr q) = w ∧ (b.q q).held = none ∧ (b.q q).sopNext = true) ∧
      (st.fresh = true → st.openBytes ≠ [] → st.held = none → Completes (.wpMarkEop fn p) s fun b =>
        b.qWr q = s.blk.qWr q + 1 ∧ (b.q q).openBytes = [] ∧ b.wordAt q (s.blk.qWr q) =
          { data := BitVec.ofNat 64 (leNat st.openBytes), tag := wordTag st.openBytes.length st.openSop true false false }) ∧
      (∀ w, st.fresh = true → st.openBytes = [] → st.held = some w → Completes (.wpMarkEop fn p) s fun b =>
        b.qWr q = s.blk.qWr q + 1 ∧ (b.q q).held = none ∧ b.wordAt q (s.blk.qWr q) = { w with tag := w.tag ||| 0x20 }) ∧
      (st.fresh = false → Completes (.wpMarkEop fn p) s fun b => b.q q = st ∧ s.blk.keepsBut b [])) ∧
    (∀ (ring : QNum) (cpl : Nat) (es : List Byte), s.blk.fetches ring.toNat = some (fn.val, cpl) →
      let c := cmdOf fn ring.toNat cpl es
      (c.seq = s.blk.qRd ring.toNat → knownOpcode c.opcode = true →
        (queueOpcode c.opcode = true → s.blk.qOwner c.queue = some fn.val) → (queueOpcode c.opcode = false → c.queue = 0) →
        Completes (.commandFetch ring (.data es)) s fun b =>
          b.strata.fetched = s.blk.strata.fetched ++ [c] ∧ b.qRd ring.toNat = s.blk.qRd ring.toNat + 1 ∧
          (b.q cpl).owed = (s.blk.q cpl).owed + 1 ∧ s.blk.keepsBut b (queueRegs ring.toNat)) ∧
      (c.seq ≠ s.blk.qRd ring.toNat → (∀ e ∈ s.blk.strata.backlog, e.fn ≠ fn.val) →
        Completes (.commandFetch ring (.data es)) s fun b =>
          b.posted c 2 0 [] ∧ b.strata.fetched = s.blk.strata.fetched ∧
          b.qRd ring.toNat = s.blk.qRd ring.toNat + 1)) ∧
    (∀ p ∈ [(Instr.convPause fn, fn.val), (.qfConvPause fn, 0)], s.blk.reaches p.2 = true → s.blk.frozen fn = false →
      s.blk.bit Reg.QF_PAUSED_FN fn = false → Completes p.1 s fun b =>
        b.conv fn = { busy := true, status := 0 } ∧ s.blk.keepsBut b []) ∧
    ((s.blk.conv fn).busy = true → Completes (.pauseComplete fn) s fun b =>
      b.bit Reg.QF_PAUSED_FN fn = true ∧ (b.conv fn).busy = false ∧ s.blk.keepsBut b [Reg.QF_PAUSED, Reg.SP_STAT 1]) ∧
    (∀ replay drop, ∀ p ∈ [(Instr.convResume fn replay drop, fn.val), (.qfConvResume fn replay drop, 0)],
      s.blk.reaches p.2 = true →
      (s.blk.bit Reg.QF_PAUSED_FN fn = true → s.blk.cutOff fn = false → s.blk.bme fn = true → Completes p.1 s fun b =>
        b.bit Reg.QF_PAUSED_FN fn = false ∧ b.conv fn = { busy := false, status := 0 } ∧
        (∀ r ∈ b.strata.recvs, r.cmd.fn ≠ fn) ∧ (∀ e ∈ b.strata.pausedOutcomes, e.fn ≠ fn) ∧
        b.get Reg.FB_HEAD_SEQ = (s.blk.get Reg.FB_HEAD_SEQ + 1) % 2 ^ 32) ∧
      (s.blk.bit Reg.QF_PAUSED_FN fn = false → Completes p.1 s fun b =>
        (b.conv fn).status = 1 ∧ s.blk.keepsBut b [])) ∧
    ((s.blk.conv fn).busy = true ∨ s.blk.frozen fn = true → s.blk.bit Reg.GLB_WEDGED_FN fn = false →
      Completes (.wedged fn) s fun b =>
        b.bit Reg.GLB_WEDGED_FN fn = true ∧ b.get Reg.FLT_PEND_WEDGED = 1 ∧
        ((s.blk.conv fn).busy = true → b.bit Reg.QF_PAUSED_FN fn = true)) ∧
    (∀ (code : BitVec 12) (sev : Fin 8), s.blk.reaches 0 = true →
      (sev.val ≤ 2 → Completes (.fbPost code sev) s fun b =>
        b.get Reg.FB_HEAD_SEQ = (s.blk.get Reg.FB_HEAD_SEQ + 1) % 2 ^ 32 ∧
        Store.get (fun _ => FbRecord.zero) b.book ((s.blk.rd Reg.FB_HEAD).toNat % 4096) =
          s.blk.recordNow (0xF000 + code.toNat) sev 0
            [(4, (s.blk.rd Reg.FB_POST_ARG0).toNat), (4, (s.blk.rd Reg.FB_POST_ARG1).toNat)] ∧
        s.blk.keepsBut b [Reg.FB_HEAD, Reg.FB_LOST]) ∧
      (2 < sev.val → Completes (.fbPost code sev) s fun b => b.book = s.blk.book ∧ s.blk.keepsBut b []))

/-- Contexts, keys, random bytes and checks (R389, R391, R393, R400, R404, R408, R421, R424, R425): CTX_OPEN gives a CLOSED
context what its operands spell; CTX_CLOSE closes it, but not a RETIRED one; REKEY moves it to its next generation, the last
one retires it; an import fills its slot where the unwrap passes; RANDOM writes bytes of the generator (free values);
CHECK answers the running value or the check value; a selection latches the record of a context. -/
def Obligations.KeysAndContexts : Prop :=
  ∀ (s : State) (ring : QNum) (c : Cmd) (page : Nat) (d : List Byte),
    let n := c.le 0x14 4
    let x := s.blk.ctx page n
    let own := queueRegs c.cpl
    (s.blk.pageRuns ring.toNat 0x30 c page →
      let y := openedCtx c page n
      (s.blk.openOk page n y (c.le 0x34 1) = true →
        (x.state = 0 → (page = linkPage → n < g3CtxBase → (s.blk.node (n / 2)).state ≠ 0 ∧ (s.blk.node (n / 2)).long = y.long) →
          (page = linkPage → g3CtxBase ≤ n → s.blk.slotServes y.slot = false) → Completes (.ctxOpen ring) s fun b =>
            b.ctx page n = y ∧ (b.ctx page n).state = 1 ∧ (b.ctx page n).next = 1 ∧ b.posted c 0 0 []) ∧
        (x.state ≠ 0 → Completes (.ctxOpen ring) s fun b =>
          b.ctx page n = x ∧ b.posted c 1 0 [] ∧ s.blk.keepsBut b own)) ∧
      (s.blk.openOk page n y (c.le 0x34 1) = false → Completes (.ctxOpen ring) s fun b =>
        b.cx.ctxs = s.blk.cx.ctxs ∧ b.posted c 2 0 [] ∧ s.blk.keepsBut b own)) ∧
    (s.blk.pageRuns ring.toNat 0x31 c page → n < ctxCount page →
      (x.state ≠ 3 → Completes (.ctxClose ring) s fun b => b.ctx page n = Ctx.closed ∧ b.posted c 0 0 []) ∧
      (x.state = 3 → Completes (.ctxClose ring) s fun b => b.ctx page n = x ∧ b.posted c 1 0 [] ∧ s.blk.keepsBut b own)) ∧
    (s.blk.pageRuns ring.toNat 0x32 c page → n < ctxCount page →
      (x.state = 1 ∨ x.state = 2 →
        (x.gen ≠ 0xFFFFFF → Completes (.rekey ring) s fun b =>
          b.ctx page n = { x with state := 1, gen := x.gen + 1, next := 1, due := false } ∧ b.posted c 0 0 []) ∧
        (x.gen = 0xFFFFFF → Completes (.rekey ring) s fun b =>
          b.ctx page n = { x with state := 3, due := false } ∧ b.posted c 5 0 [] ∧
          b.get (Reg.CX_PAGE_STAT_RETIRED_SEEN page) = 1 ∧
          b.get (Reg.CX_NONCE_EXH_COUNT page) = (s.blk.get (Reg.CX_NONCE_EXH_COUNT page) + 1) % 2 ^ 32)) ∧
      (x.state = 0 ∨ x.state = 3 → Completes (.rekey ring) s fun b =>
        b.ctx page n = x ∧ b.posted c 1 0 [] ∧ s.blk.keepsBut b own)) ∧
    (s.blk.pageRuns ring.toNat 0x35 c page → n < 48 → c.le 0x20 4 = 24 → s.blk.permits linkPage 3 = true →
      Completes (.keyImport ring (.data d)) s fun b =>
        if (unwrapKey (s.blk.pageKey linkPage kekLabel) (slice d 0 24)).isSome then
          Store.get (fun _ => []) b.cx.slots n = slice d 0 24 ∧ b.posted c 0 0 []
        else b.cx.slots = s.blk.cx.slots ∧ b.posted c 6 0 []) ∧
    (s.blk.pageRuns ring.toNat 0x36 c page → 1 ≤ c.le 0x20 4 → c.le 0x20 4 ≤ 256 →
      (s.blk.cx.drbgStopped = false → Completes (.random ring) s fun b =>
        { fn := c.fn, addr := c.le 0x38 8,
          bytes := (List.range (c.le 0x20 4)).map fun i => Config.freeByte (s.blk.drawn + i) } ∈ b.host.dmaWrites ∧
        b.posted c 0 0 [] ∧ s.blk.keepsBut b own) ∧
      (s.blk.cx.drbgStopped = true → Completes (.random ring) s fun b =>
        b.cx.randoms = s.blk.cx.randoms ++ [c] ∧ b.host = s.blk.host ∧ s.blk.keepsBut b [])) ∧
    (s.blk.runs ring.toNat 0x40 c →
      let unit := c.le 0x10 1
      let flags := c.le 0x11 1
      let len := c.le 0x20 4
      (unit ≤ 19 → flags < 4 → 1 ≤ len → len ≤ 65536 → (unit < 16 → s.blk.channelUsed unit = true) →
        (∀ f, s.blk.unitDef unit = some f → Completes (.check ring (.data d)) s fun b =>
          let v := runningOf f (if flags.testBit 0 then c.le 0x28 8 else f.init) (slice d 0 len)
          b.posted c 0 0 (toLe 8 (if flags.testBit 1 then finishOf f v else v)) ∧ s.blk.keepsBut b own) ∧
        (s.blk.unitDef unit = none → Completes (.check ring (.data d)) s fun b =>
          b.posted c 3 0 [] ∧ s.blk.keepsBut b own)) ∧
      (19 < unit → Completes (.check ring (.data d)) s fun b => b.posted c 2 0 [] ∧ s.blk.keepsBut b own)) ∧
    (∀ (p : Fin 17) (v : Word), s.blk.pageReached p = true → v.toNat % 2 ^ 19 < ctxCount linkPage →
      Completes (.ctxRecordLatch p v) s fun b =>
        b.get (Reg.CX_CTX_SEL_CTX p) = v.toNat % 2 ^ 19 ∧
        (∀ i, i < 8 → b.rd (Reg.CX_CTX_DATA p i) =
          BitVec.ofNat 32 (leAt (s.blk.ctx p (v.toNat % 2 ^ 19)).toBytes (4 * i) 4)) ∧
        s.blk.keepsBut b (Reg.CX_CTX_SEL p :: (List.range 8).map fun i => Reg.CX_CTX_DATA p i))

/-- Encryption, decryption and the decision of a tag (R353, R355, R390, R404 to R407, R411): ENCRYPT under an OPEN context
uses its next counter and writes ciphertext and tag to host memory; a context used up, closed or retired refuses; DECRYPT
writes its plaintext behind a mark as PROV and holds its engine; the tag decision of two engines that agree ends it: a tag
that passes leaves the words in the queue, one that fails takes WR back to the mark; a suspended operation comes back to its
idle engine. -/
def Obligations.EncryptionAndTags : Prop :=
  ∀ (s : State) (ring qn : QNum) (c : Cmd) (page : Nat) (a d : List Byte) (e second : Fin 4),
    let n := c.le 0x14 4
    let x := s.blk.ctx page n
    let aad := slice a 0 (c.le 0x12 2)
    let idle := ∀ i, i < 4 → (s.blk.engine i).running = none
    (s.blk.pageRuns ring.toNat 0x33 c page → c.dataOk page = true →
      (x.state = 1 → s.blk.cx.drbgStopped = false → s.blk.cx.waiting = [] → s.blk.sendAhead (c.le 0x11 1) = false →
        s.blk.idleEngine (c.le 0x11 1) = some e.val →
        Completes (.encrypt ring (.data a) (.data d)) s fun b =>
          let key := s.blk.hostKey page x x.gen
          let nonce := Config.hostNonce x.ccm x.long.toNat x.next
          let src := slice d 0 (c.le 0x20 4)
          (x.ccm = false → { fn := c.fn, addr := c.le 0x38 8, bytes := gcmText key nonce src ++
            (gcmTag key nonce aad (gcmText key nonce src)).take 12 } ∈ b.host.dmaWrites) ∧
          (x.ccm = true → { fn := c.fn, addr := c.le 0x38 8, bytes := ccmText key nonce src ++ ccmMic key nonce aad src } ∈
            b.host.dmaWrites) ∧
          (b.ctx page n).next = min (x.next + 1) 0xFFFFFFFF ∧ (b.ctx page n).gen = x.gen ∧
          b.posted c 0 0 (toLe 4 x.next ++ toLe 3 x.gen)) ∧
      (x.state = 2 → Completes (.encrypt ring (.data a) (.data d)) s fun b =>
        b.posted c 5 0 [] ∧ b.ctx page n = x ∧ s.blk.keepsBut b (Reg.CX_NONCE_EXH page :: queueRegs c.cpl)) ∧
      (x.state = 0 ∨ x.state = 3 → Completes (.encrypt ring (.data a) (.data d)) s fun b =>
        b.posted c 1 0 [] ∧ b.ctx page n = x ∧ s.blk.keepsBut b (queueRegs c.cpl))) ∧
    (s.blk.pageRuns ring.toNat 0x34 c page → c.dataOk page = true → s.blk.decryptQueue c.queue = true →
      (x.state ≠ 0 → s.blk.on (Reg.QD_CFG_ENABLE c.queue) = true → s.blk.cx.drbgStopped = false → s.blk.cx.waiting = [] →
        s.blk.sendAhead (c.le 0x11 1) = false → idle → s.blk.idleEngine (c.le 0x11 1) = some e.val → s.blk.on (Reg.QD_BASE_HI_MARK_VALID c.queue) = false →
        (∀ fn, s.blk.qOwner c.queue = some fn → s.blk.frozen fn = false) → s.blk.qPriority c.queue = false →
        let out := s.blk.hostPlain page x (c.le 0x30 3) (c.le 0x24 4) aad d (c.le 0x20 4)
        s.blk.qFill c.queue + (out.1.length + 7) / 8 + 1 ≤ s.blk.qSize c.queue →
        Completes (.decrypt ring (.data a) (.data d)) s fun b =>
          b.on (Reg.QD_BASE_HI_MARK_VALID c.queue) = true ∧ b.qMark c.queue = s.blk.qWr c.queue ∧
          b.qWr c.queue = s.blk.qWr c.queue + BitVec.ofNat 32 ((out.1.length + 7) / 8) ∧
          (∃ p, (b.q c.queue).live = some p ∧ p.bytes = out.1 ∧ p.prov = true) ∧
          ∃ o, (b.engine e).running = some o ∧ o.queue = c.queue ∧ o.tagOk = out.2) ∧
      (x.state = 0 → Completes (.decrypt ring (.data a) (.data d)) s fun b =>
        b.posted c 1 0 [] ∧ s.blk.keepsBut b (queueRegs c.cpl))) ∧
    (∀ (o : CipherOp) (p : Produce), (s.blk.engine e).running = some o → o.work = .decrypt c p →
      (∀ i, i < 4 → i ≠ e → (s.blk.engine i).running = none) → o.queue = qn.toNat → (s.blk.q qn.toNat).live = some p →
      (s.blk.q qn.toNat).waiting = [] → s.blk.cx.waiting = [] → second ≠ e → s.blk.engineAlive second = true →
      o.page ≤ 16 → s.blk.postsTo c.fn → s.blk.qKind c.cpl = 2 → s.blk.deviceProduced qn.toNat = true →
      (∀ fn, s.blk.qOwner qn.toNat = some fn → s.blk.frozen fn = false) →
      let taken : BitVec 32 := if (s.blk.q qn.toNat).provTaken then 1 else 0
      (o.tagOk = true → Completes (.tagDecision qn second true) s fun b =>
        b.posted c 0 0 [] ∧ b.qWr qn.toNat = s.blk.qWr qn.toNat + taken ∧
        b.on (Reg.QD_BASE_HI_MARK_VALID qn.toNat) = false ∧ (b.q qn.toNat).live = none ∧ (b.engine e).running = none) ∧
      (o.tagOk = false → Completes (.tagDecision qn second true) s fun b =>
        b.posted c 6 0 [] ∧ b.qWr qn.toNat = s.blk.qMark qn.toNat + taken ∧
        b.on (Reg.QD_BASE_HI_MARK_VALID qn.toNat) = false ∧ (b.engine e).running = none ∧
        b.get (Reg.CX_TAG_FAILS_COUNT o.page) = (s.blk.get (Reg.CX_TAG_FAILS_COUNT o.page) + 1) % 2 ^ 32 ∧
        b.get Reg.CX_XCHK_FAIL_COUNT = s.blk.get Reg.CX_XCHK_FAIL_COUNT) ∧
      (o.tagOk = true → Completes (.tagDecision qn second false) s fun b =>
        b.posted c 6 0 [] ∧ b.qWr qn.toNat = s.blk.qMark qn.toNat + taken ∧
        b.get Reg.CX_XCHK_FAIL_COUNT = (s.blk.get Reg.CX_XCHK_FAIL_COUNT + 1) % 2 ^ 32)) ∧
    ((s.blk.q qn.toNat).live = none → ∀ equal, Completes (.tagDecision qn second equal) s fun b =>
      b.cx = s.blk.cx ∧ b.strata = s.blk.strata ∧ s.blk.keepsBut b [Reg.SP_STAT 1]) ∧
    (∀ o, firstOp (s.blk.engine e).suspended = some o → s.blk.engineAlive e = true → (s.blk.engine e).running = none →
      s.blk.cx.drbgStopped = false → s.blk.sendAhead o.prio = false → (∀ w ∈ s.blk.cx.waiting, o.prio ≤ w.prio) →
      Completes (.suspendedResume e) s fun b =>
        b.engine e = { running := some o, suspended := (s.blk.engine e).suspended.erase o } ∧
        s.blk.keepsBut b [Reg.CX_ENGINE_STAT, Reg.SP_STAT 1]) ∧
    (s.blk.engineAlive e = false ∨ (s.blk.engine e).running.isSome = true ∨ (s.blk.engine e).suspended = [] → Completes (.suspendedResume e) s fun b =>
      b.cx = s.blk.cx ∧ s.blk.keepsBut b [Reg.SP_STAT 1])

/-- The random generator, tampering and Sieve's channels (R408, R409, R412, R413, R418, R419): after 65,536 requests or 1 s
a reseed starts its count anew; a failed health test stops its output, the third in a row is doubt 0x08; the source's recovery lets it go on; a tamper
event on an enabled input latches it and, with main power present, clears keys and contexts; a channel whose self-test
gives another value than expected is retired. -/
def Obligations.EntropyTamperAndSieve : Prop :=
  ∀ (s : State) (test : Fin 2) (inputs : BitVec 4) (ch : Fin 16) (va vb : BitVec 64),
    let mask := inputs.toNat &&& s.blk.get Reg.CX_TAMPER_CFG_EN
    (s.blk.cx.drbgStopped = false → s.blk.reseedDue = true → Completes .drbgReseed s fun b =>
      b.cx.drbgRequests = 0 ∧ b.cx.drbgSeeded = s.blk.ticks ∧ s.blk.keepsBut b [Reg.SP_STAT 1]) ∧
    (s.blk.cx.drbgStopped = true ∨ s.blk.reseedDue = false → Completes .drbgReseed s fun b => b.cx = s.blk.cx ∧ s.blk.keepsBut b [Reg.SP_STAT 1]) ∧
    (s.blk.get Reg.CX_RNG_STAT_FAILS < 2 → Completes (.entropyFail test) s fun b =>
      b.cx.drbgStopped = true ∧ b.get Reg.CX_RNG_STAT_HEALTHY = 0 ∧ b.dev = s.blk.dev ∧
      b.get Reg.CX_RNG_STAT_FAILS = s.blk.get Reg.CX_RNG_STAT_FAILS + 1 ∧
      s.blk.keepsBut b (Reg.CX_RNG_STAT :: Reg.SP_STAT 1 :: recordRegs)) ∧
    (s.blk.get Reg.CX_RNG_STAT_FAILS = 2 → s.blk.dev = .settle ∨ s.blk.dev = .service ∨ s.blk.dev = .hold →
      Completes (.entropyFail test) s (·.quietWith 0x08)) ∧
    (s.blk.cx.waiting = [] →
      (s.blk.cx.randoms = [] → Completes .entropySourceRecovered s fun b =>
        b.cx.drbgStopped = false ∧ b.get Reg.CX_RNG_STAT_HEALTHY = 1 ∧ b.get Reg.CX_RNG_STAT_FAILS = 0 ∧
        s.blk.keepsBut b [Reg.CX_RNG_STAT, Reg.SP_STAT 1]) ∧
      (∀ c, s.blk.cx.randoms = [c] → s.blk.postsTo c.fn → Completes .entropySourceRecovered s fun b =>
        b.cx.randoms = [] ∧ b.posted c 0 0 [] ∧
        { fn := c.fn, addr := c.le 0x38 8,
          bytes := (List.range (c.le 0x20 4)).map fun i => Config.freeByte (s.blk.drawn + i) } ∈ b.host.dmaWrites)) ∧
    ((mask = 0 → ∀ powered, Completes (.tamper inputs powered) s fun b =>
        b.cx = s.blk.cx ∧ s.blk.keepsBut b [Reg.SP_STAT 1]) ∧
      (mask ≠ 0 → Completes (.tamper inputs true) s fun b =>
        b.get Reg.CX_TAMPER_STAT_LATCH = s.blk.get Reg.CX_TAMPER_STAT_LATCH ||| mask ∧
        b.get Reg.CX_TAMPER_STAT_EVENTS = min 65535 (s.blk.get Reg.CX_TAMPER_STAT_EVENTS + 1) ∧
        b.cx.cache = [] ∧ b.cx.slots = [] ∧ b.cx.waiting = [] ∧ b.cx.engines = [] ∧
        ∀ p ∈ b.cx.ctxs, p ∈ s.blk.cx.ctxs ∧ p.2.state = 3) ∧
      (mask ≠ 0 → Completes (.tamper inputs false) s fun b =>
        b.get Reg.CX_TAMPER_STAT_LATCH = s.blk.get Reg.CX_TAMPER_STAT_LATCH ||| mask ∧
        b.cx.tamperUnpowered = s.blk.cx.tamperUnpowered ||| mask ∧ b.cx.ctxs = s.blk.cx.ctxs ∧
        s.blk.keepsBut b [Reg.CX_TAMPER_STAT, Reg.SP_STAT 1])) ∧
    (s.blk.dev = .settle ∨ s.blk.dev = .service ∨ s.blk.dev = .hold → s.blk.channelUsed ch = true →
      s.blk.bit Reg.CV_STAT_RETIRED ch = false →
      (va.toNat = s.blk.checkA ch → vb.toNat = s.blk.checkB ch → Completes (.sieveSelfTest ch va vb) s fun b =>
        b.get Reg.CV_TESTS_COUNT = (s.blk.get Reg.CV_TESTS_COUNT + 1) % 2 ^ 32 ∧ s.blk.keepsBut b [Reg.CV_TESTS]) ∧
      (va.toNat ≠ s.blk.checkA ch ∨ vb.toNat ≠ s.blk.checkB ch → Completes (.sieveSelfTest ch va vb) s fun b =>
        b.bit Reg.CV_STAT_RETIRED ch = true ∧
        (∀ i, i ≠ ch.val → b.bit Reg.CV_STAT_RETIRED i = s.blk.bit Reg.CV_STAT_RETIRED i) ∧
        s.blk.keepsBut b (Reg.CV_TESTS :: Reg.CV_STAT :: recordRegs))) ∧
    (s.blk.dev = .quiet ∨ s.blk.channelUsed ch = false → Completes (.sieveSelfTest ch va vb) s fun b =>
      s.blk.keepsBut b [Reg.SP_STAT 1])

/-- Datum (R429 to R446, R454): an increment in range takes effect; SET and STEP move a domain forward at once, backwards by
a slew unless STEP_BACK_OK; the active domain changes without a step of served time; reads latch; captures and stamp inputs
take the time of the instant; a time pulse goes high when its reference reaches its target and low after its width. -/
def Obligations.DatumKeepsTime : Prop :=
  ∀ (s : State) (x k : Fin 2) (v : Word) (j : Fin 8) (m : Fin 32) (rising : Bool),
    let d := s.blk.domain x
    let amount := s.blk.adjAmount x
    let ns := s.blk.get (Reg.DTM_ADJ_NS_NS x)
    let incr := v.toNat * 2 ^ 32 + s.blk.get (Reg.DTM_INCR_LO_FRAC x)
    let n := (s.blk.dtm.captures + 1) % 32768
    (s.blk.accepts = true →
      (s.blk.on (Reg.DTM_STAT_FOLLOW x) = false →
        (0x3FDF3B645 ≤ incr → incr ≤ 0x4020C49BA → Completes (.incrCommit x v) s fun b =>
          b.domain x = { d with incr := incr } ∧ b.rd (Reg.DTM_INCR_HI x) = v ∧ s.blk.keepsBut b [Reg.DTM_INCR_HI x]) ∧
        (incr < 0x3FDF3B645 ∨ 0x4020C49BA < incr → Completes (.incrCommit x v) s fun b =>
          b.dtm = s.blk.dtm ∧ s.blk.keepsBut b [])) ∧
      (s.blk.on (Reg.DTM_STAT_FOLLOW x) = true → ∀ c ∈ [Instr.incrCommit x v, .set x, .step x], Completes c s fun b =>
        b.get (Reg.DTM_CMD_RESULT_STATUS x) = 1 ∧ b.dtm = s.blk.dtm ∧ s.blk.keepsBut b [Reg.DTM_CMD_RESULT x]) ∧
      (s.blk.on (Reg.DTM_STAT_FOLLOW x) = false → 999999999 < ns → ∀ c ∈ [Instr.set x, .step x], Completes c s fun b =>
        b.get (Reg.DTM_CMD_RESULT_STATUS x) = 2 ∧ b.dtm = s.blk.dtm ∧ s.blk.keepsBut b [Reg.DTM_CMD_RESULT x]) ∧
      (s.blk.on (Reg.DTM_STAT_FOLLOW x) = false → ns ≤ 999999999 → d.slewRem = 0 → d.t < timeModulus →
        (amount < timeModulus → d.t ≤ amount ∨ s.blk.on (Reg.DTM_CTRL_STEP_BACK_OK x) = true →
          Completes (.set x) s fun b =>
            (b.domain x).t = amount ∧ b.on (Reg.DTM_STAT_VALID x) = true ∧ b.get (Reg.DTM_CMD_RESULT_STATUS x) = 0 ∧
            b.on (Reg.DTM_CMD_RESULT_CONVERTED x) = false ∧ b.domain (1 - x) = s.blk.domain (1 - x)) ∧
        (amount < d.t → s.blk.on (Reg.DTM_CTRL_STEP_BACK_OK x) = false →
          (d.t - amount ≤ dayUnits → Completes (.set x) s fun b =>
            b.domain x = { d with slewRem := d.t - amount } ∧ b.on (Reg.DTM_STAT_SLEWING x) = true ∧
            b.on (Reg.DTM_STAT_VALID x) = true ∧ b.get (Reg.DTM_CMD_RESULT_STATUS x) = 0 ∧
            b.on (Reg.DTM_CMD_RESULT_CONVERTED x) = true) ∧
          (dayUnits < d.t - amount → Completes (.set x) s fun b =>
            b.dtm = s.blk.dtm ∧ b.get (Reg.DTM_CMD_RESULT_STATUS x) = 1 ∧ s.blk.keepsBut b [Reg.DTM_CMD_RESULT x])) ∧
        (s.blk.on (Reg.DTM_ADJ_SEC_HI_NEG x) = false → Completes (.step x) s fun b =>
          (b.domain x).t = (d.t + amount) % timeModulus ∧ b.get (Reg.DTM_CMD_RESULT_STATUS x) = 0) ∧
        (s.blk.on (Reg.DTM_ADJ_SEC_HI_NEG x) = true → 0 < amount → amount ≤ dayUnits →
          s.blk.on (Reg.DTM_CTRL_STEP_BACK_OK x) = false → Completes (.step x) s fun b =>
          b.domain x = { d with slewRem := amount } ∧ b.on (Reg.DTM_STAT_SLEWING x) = true ∧
          b.on (Reg.DTM_STAT_VALID x) = s.blk.on (Reg.DTM_STAT_VALID x))) ∧
      (∀ sel : Fin 2, s.blk.get Reg.DTM_ACTIVE_SEL ≠ sel → Completes (.domainSwitch sel) s fun b =>
        b.served = s.blk.served ∧ b.get Reg.DTM_ACTIVE_SEL = sel ∧
        b.on Reg.DTM_ACTIVE_SWITCHING = decide (b.dtm.delta ≠ 0) ∧
        s.blk.keepsBut b (Reg.DTM_ACTIVE :: recordRegs)) ∧
      (Completes .capture s fun b =>
          b.dtm.captures = n ∧ (∀ i, i < 8 → b.get (Reg.DTM_CAP_DATA i) = leAt (s.blk.stampNow n) (4 * i) 4) ∧
          s.blk.keepsBut b ((List.range 8).map Reg.DTM_CAP)) ∧
      (s.blk.on (Reg.DTM_TP_CTRL_ENABLE j) = true → Completes (.timepulseEnable j v) s fun b =>
        b.on (Reg.DTM_TP_CTRL_ENABLE j) = v.getLsbD 0 ∧
        b.get (Reg.DTM_TP_CTRL_WIDTH j) = s.blk.get (Reg.DTM_TP_CTRL_WIDTH j) ∧
        s.blk.keepsBut b [Reg.DTM_TP_CTRL j]) ∧
      (s.blk.on (Reg.DTM_TP_CTRL_ENABLE j) = false → bitsAt v.toNat 1 2 ≠ 3 → 2 ≤ bitsAt v.toNat 8 24 →
        (v.getLsbD 3 = true → tpFits (bitsAt v.toNat 1 2) (bitsAt v.toNat 8 24)
          (s.blk.get (Reg.DTM_TP_PERIOD_PERIOD j)) = true) → Completes (.timepulseEnable j v) s fun b =>
        b.on (Reg.DTM_TP_CTRL_ENABLE j) = v.getLsbD 0 ∧ b.get (Reg.DTM_TP_CTRL_REF j) = bitsAt v.toNat 1 2 ∧
        b.on (Reg.DTM_TP_CTRL_PERIODIC j) = v.getLsbD 3 ∧ b.on (Reg.DTM_TP_CTRL_SKIP j) = v.getLsbD 4 ∧
        b.get (Reg.DTM_TP_CTRL_WIDTH j) = bitsAt v.toNat 8 24 ∧ s.blk.keepsBut b [Reg.DTM_TP_CTRL j])) ∧
    (d.slewRem = 0 → Completes (.datumSlewEnd x) s fun b =>
      b.on (Reg.DTM_STAT_SLEWING x) = false ∧ s.blk.keepsBut b [Reg.DTM_STAT x, Reg.SP_STAT 1]) ∧
    (d.slewRem ≠ 0 → Completes (.datumSlewEnd x) s fun b => s.blk.keepsBut b [Reg.SP_STAT 1]) ∧
    (s.blk.dtm.delta = 0 → Completes .domainSwitchSettled s fun b =>
      b.on Reg.DTM_ACTIVE_SWITCHING = false ∧ s.blk.keepsBut b [Reg.DTM_ACTIVE, Reg.SP_STAT 1]) ∧
    (s.blk.dtm.delta ≠ 0 → Completes .domainSwitchSettled s fun b => s.blk.keepsBut b [Reg.SP_STAT 1]) ∧
    (s.blk.readable m →
      Completes (.datumNowRead x m) s (fun b =>
        b.host.answer = .word (BitVec.ofNat 32 (d.t / secUnits)) ∧ b.domain x = d ∧ s.blk.keepsBut b []) ∧
      (∀ e rest, s.blk.dtm.txs = e :: rest → Completes (.txsRead m) s fun b =>
        b.host.answer = .word (BitVec.ofNat 32 (leAt e 0 4)) ∧ b.dtm.txs = rest ∧
        b.get Reg.DTM_TXS_STAT_FILL = rest.length % 256 ∧ s.blk.keepsBut b [Reg.DTM_TXS_STAT]) ∧
      (s.blk.dtm.txs = [] → Completes (.txsRead m) s fun b =>
        b.host.answer = .word 0 ∧ b.dtm.txs = [] ∧ b.dtm.txsLossArmed = true) ∧
      (∀ e rest, s.blk.tsi k = e :: rest → Completes (.tsiRead k m) s fun b =>
        b.host.answer = .word (BitVec.ofNat 32 (leAt e 0 4)) ∧ b.tsi k = rest ∧
        b.get (Reg.DTM_TSI_STAT_FILL k) = rest.length % 32 ∧ s.blk.keepsBut b [Reg.DTM_TSI_STAT k])) ∧
    (s.blk.datumRuns = true →
      (s.blk.bit (Reg.DTM_TSI_CFG_EDGE k) (if rising then 0 else 1) = true →
        ((s.blk.tsi k).length < 16 → Completes (.tstampEdge k rising) s fun b =>
          b.tsi k = s.blk.tsi k ++ [s.blk.stampNow (if rising then 1 else 0)] ∧ s.blk.keepsBut b [Reg.DTM_TSI_STAT k]) ∧
        (16 ≤ (s.blk.tsi k).length → Completes (.tstampEdge k rising) s fun b =>
          b.tsi k = s.blk.tsi k ∧ s.blk.keepsBut b [Reg.DTM_TSI_OVF k] ∧
          b.get (Reg.DTM_TSI_OVF_COUNT k) = (s.blk.get (Reg.DTM_TSI_OVF_COUNT k) + 1) % 2 ^ 32)) ∧
      (s.blk.bit (Reg.DTM_TSI_CFG_EDGE k) (if rising then 0 else 1) = false → Completes (.tstampEdge k rising) s fun b =>
        b.dtm = s.blk.dtm ∧ s.blk.keepsBut b [])) ∧
    (s.blk.pulses = true →
      (s.blk.on (Reg.DTM_TP_CTRL_ENABLE j) = true → s.blk.tpReached j = true → Completes (.timepulseFire j) s fun b =>
        Store.get (fun _ => none) b.dtm.pulse j = some s.blk.ticks ∧
        b.get (Reg.DTM_TP_STAT_FIRES j) = (s.blk.get (Reg.DTM_TP_STAT_FIRES j) + 1) % 2 ^ 16 ∧
        b.on (Reg.DTM_TP_CTRL_ENABLE j) = s.blk.on (Reg.DTM_TP_CTRL_PERIODIC j) ∧
        (s.blk.on (Reg.DTM_TP_CTRL_PERIODIC j) = true → s.blk.get (Reg.DTM_TP_CTRL_REF j) ≠ 2 →
          s.blk.tpTarget j + s.blk.get (Reg.DTM_TP_PERIOD_PERIOD j) < 2 ^ 48 * 1000000000 →
          b.tpTarget j = s.blk.tpTarget j + s.blk.get (Reg.DTM_TP_PERIOD_PERIOD j))) ∧
      (s.blk.on (Reg.DTM_TP_CTRL_ENABLE j) = false ∨ s.blk.tpReached j = false → Completes (.timepulseFire j) s fun b =>
        b.dtm = s.blk.dtm ∧ s.blk.keepsBut b [])) ∧
    (∀ start, Store.get (fun _ => none) s.blk.dtm.pulse j = some start →
      (start + s.blk.get (Reg.DTM_TP_CTRL_WIDTH j) ≤ s.blk.ticks → Completes (.timepulseEnd j) s fun b =>
        Store.get (fun _ => none) b.dtm.pulse j = none ∧ s.blk.keepsBut b [Reg.SP_STAT 1]) ∧
      (s.blk.ticks < start + s.blk.get (Reg.DTM_TP_CTRL_WIDTH j) → s.blk.dev.silent = false →
        Completes (.timepulseEnd j) s fun b => b.dtm = s.blk.dtm ∧ s.blk.keepsBut b []))

/-- SYNCs and the join (R457, R460 to R467, R472, R536): the master numbers a SYNC and sends it on both rings; a device that
hears one in SETTLE follows its sender and takes its time; a master yields to a later epoch; a cell that fails its check is
counted; inputs lock or the join is in doubt; bypasses open one after the other; the echo gives the delay of a link. What a
SYNC's reserved bytes gather, and how its own bytes are laid out beyond R464, is the model's choice (log entry 57). -/
def Obligations.SyncsAndTheJoin : Prop :=
  ∀ (s : State) (ring : Ring) (cell : List Byte) (residence rt : Nat) (c : Cell),
    let v := syncOf c.body
    let inB := ring == .b
    (s.blk.chainEnabled = true → s.blk.chain.role = .master → s.blk.running = true → s.blk.chain.bypassA = false →
      s.blk.chain.bypassB = false → s.blk.wrapped false = false → s.blk.wrapped true = false →
      s.blk.dev = .settle ∨ s.blk.dev = .service → Completes .syncSend s fun b =>
        let seq := (s.blk.get Reg.CHN_SYNC_SEQ_SEQ + 1) % 65536
        let bytes := cellBytes kindSync s.blk.rank 0 true s.blk.chain.seq (b.syncBody seq)
        b.get Reg.CHN_SYNC_SEQ_SEQ = seq ∧ b.bit Reg.CHN_ROSTER_PRESENT s.blk.rank = true ∧
        b.chain.cells = s.blk.chain.cells ++ [{ ringB := false, bytes := bytes }, { ringB := true, bytes := bytes }] ∧
        s.blk.keepsBut b [Reg.CHN_SYNC_SEQ, Reg.CHN_ROSTER]) ∧
    (s.blk.chain.role ≠ .master → Completes .syncSend s fun b =>
      b.chain.cells = s.blk.chain.cells ∧ s.blk.keepsBut b [Reg.SP_STAT 1]) ∧
    (cellOk cell = true → s.blk.hears inB = true → cellOf cell = some c → c.kind = kindSync → c.src ≠ s.blk.rank →
      (s.blk.chain.role = .none → s.blk.dev = .settle → Completes (.syncReceived ring cell residence) s fun b =>
        b.chain.role = (if s.blk.rank ≤ 1 then .standby else .member) ∧ b.chain.masterRank = v.rank ∧
        b.on (Reg.DTM_STAT_FOLLOW 0) = true ∧ b.on (Reg.DTM_STAT_FOLLOW 1) = true ∧ b.dtm.a.t = v.timeA ∧
        b.dtm.b.t = v.timeB ∧ b.get Reg.CHN_ROSTER_MEPOCH = v.mepoch ∧ b.brg.state = .follow ∧
        (s.blk.running = false → b.brg.now = BitVec.ofNat 48 (v.bearing / 65536))) ∧
      (s.blk.chain.role = .master → laterEpoch v.mepoch (s.blk.get Reg.CHN_ROSTER_MEPOCH) = true →
        Completes (.syncReceived ring cell residence) s fun b =>
          b.chain.role = (if s.blk.pairedPorts = [] then .member else .standby) ∧ b.on Reg.CHN_STAT_YIELDED = true ∧
          b.get Reg.CHN_ROSTER_MEPOCH = v.mepoch ∧ b.chain.masterRank = v.rank) ∧
      (s.blk.chain.role = .master → s.blk.yields v = false → Completes (.syncReceived ring cell residence) s fun b =>
        b.chain.role = .master ∧ b.get Reg.CHN_ROSTER_MEPOCH = s.blk.get Reg.CHN_ROSTER_MEPOCH)) ∧
    (cellOk cell = true → s.blk.hears inB = true → cellOf cell = none →
      ∀ i ∈ [Instr.syncReceived ring cell residence, .wrapReceived ring cell, .pairReceived ring cell, .driveReceived ring cell,
        .rxdoneReceived ring cell, .replReceived ring cell, .tokenReceived ring cell, .verdictReceived ring cell,
        .resetCellReceived ring cell], Completes i s fun b =>
          b.get Reg.CHN_CELL_ERR_COUNT = (s.blk.get Reg.CHN_CELL_ERR_COUNT + 1) % 2 ^ 32 ∧
          s.blk.keepsBut b [Reg.CHN_CELL_ERR]) ∧
    (cellOk cell = false → ∀ i ∈ [(Instr.syncReceived ring cell residence, "SYNC_RECEIVED"),
      (.wrapReceived ring cell, "WRAP_RECEIVED"), (.pairReceived ring cell, "PAIR_RECEIVED"),
      (.driveReceived ring cell, "DRIVE_RECEIVED"), (.rxdoneReceived ring cell, "RXDONE_RECEIVED"),
      (.replReceived ring cell, "REPL_RECEIVED"), (.tokenReceived ring cell, "TOKEN_RECEIVED"),
      (.verdictReceived ring cell, "VERDICT_RECEIVED"), (.resetCellReceived ring cell, "RESET_CELL_RECEIVED")],
      exec i.1 s = .refused (.illFormed i.2)) ∧
    (s.blk.chainEnabled = true → s.blk.dev = .settle →
      (∀ t, s.blk.chain.ownLock = some t → s.blk.rank = 1 → s.blk.chain.role = .none → s.blk.chain.heard = false →
        t + 10000000 ≤ s.blk.ticks → Completes .rank1SyncWaitExpiry s fun b =>
          b.chain.role = .master ∧ b.get Reg.CHN_ID_ROLE = Role.master.code) ∧
      (2 ≤ s.blk.rank → s.blk.chain.heard = false →
        s.blk.fault.since + (s.blk.get Reg.BRG_CTRL_LOCK_WAIT + 1) * 25000000 ≤ s.blk.ticks →
        Completes .chainJoinTimeout s (·.quietWith 0x05)) ∧
      (s.blk.chain.heard = true → Completes .chainJoinTimeout s fun b => s.blk.keepsBut b []) ∧
      Completes (.chainInputLocked ring) s (fun b =>
        (if inB then b.chain.lockedB else b.chain.lockedA) = true ∧ s.blk.keepsBut b []) ∧
      (s.blk.chain.lockedA = false → s.blk.chain.lockedB = false → s.blk.fault.since + 25000000 ≤ s.blk.ticks →
        Completes .chainInputLockTimeout s (·.quietWith 0x05)) ∧
      (s.blk.chain.lockedA = true ∨ s.blk.chain.lockedB = true → Completes .chainInputLockTimeout s fun b =>
        s.blk.keepsBut b []) ∧
      (s.blk.chain.role ≠ .none → s.blk.running = true →
        (s.blk.chain.bypassA = true → Completes (.bypassOpen .a) s fun b => b.chain.bypassA = false) ∧
        (s.blk.chain.bypassA = true → Completes (.bypassOpen .b) s fun b =>
          b.chain.bypassB = s.blk.chain.bypassB ∧ s.blk.keepsBut b []) ∧
        (s.blk.chain.bypassA = false → s.blk.chain.bypassB = true → Completes (.bypassOpen .b) s fun b =>
          b.chain.bypassB = false ∧ (s.blk.chain.role = .master → b.chain.joined = true)))) ∧
    (s.blk.hears inB = true → s.blk.bypassed (!inB) = false → s.blk.wrapped (!inB) = false →
      Completes (.echoSend ring) s fun b =>
        let bytes := cellBytes kindEcho s.blk.rank (s.blk.upstream inB) false s.blk.chain.seq (toLe 1 (if inB then 1 else 0))
        (if inB then b.chain.echoB else b.chain.echoA) = true ∧ s.blk.keepsBut b [] ∧
        b.chain.cells = s.blk.chain.cells ++ [{ ringB := !inB, bytes := bytes }]) ∧
    (s.blk.hears inB = true → (if inB then s.blk.chain.echoB else s.blk.chain.echoA) = true →
      Completes (.echoReceived ring rt residence) s fun b =>
        b.get (if inB then Reg.CHN_LINK_B_DELAY else Reg.CHN_LINK_A_DELAY) = min 65535 ((rt - residence) / 2) ∧
        (if inB then b.chain.echoB else b.chain.echoA) = false ∧
        s.blk.keepsBut b [if inB then Reg.CHN_LINK_B else Reg.CHN_LINK_A])

/-- The Chain in operation (R458, R469, R470, R473, R475, R477 to R482): sync lost makes a follower hold over, or a READY
standby due to take over; an isolated master yields; a lost signal wraps the ring, a link that is well again unwraps it; the
partner's pair cells, driven frames, finished receptions and replicated entries are taken; the takeover makes the standby
master of the next epoch, whose ports close and send the ACKs still owed. How these cells' bodies are laid out and that a driven
frame counts with 112 carriers are the model's choices (log entries 59, 60). -/
def Obligations.ChainKeepsRunning : Prop :=
  ∀ (s : State) (ring : Ring) (cell : List Byte) (c : Cell) (port : Fin 24),
    let inB := ring == .b
    (s.blk.chainEnabled = true → s.blk.chain.holdover = false → s.blk.chain.takeoverDue = false →
      s.blk.chain.lastSync + 3000 ≤ s.blk.ticks →
      (s.blk.chain.role = .member → Completes .syncLost s fun b =>
        b.chain.holdover = true ∧ b.brg.state = .holdover ∧ b.dtm.a.followErr = 0 ∧
        b.get Reg.CHN_SYNC_LOST_COUNT = (s.blk.get Reg.CHN_SYNC_LOST_COUNT + 1) % 2 ^ 32) ∧
      (s.blk.standbyReady = true → s.blk.chain.resetAll = false → Completes .syncLost s fun b =>
        b.chain.takeoverDue = true ∧ b.chain.holdover = false ∧ b.brg = s.blk.brg)) ∧
    (s.blk.ticks < s.blk.chain.lastSync + 3000 → Completes .syncLost s fun b => s.blk.keepsBut b [Reg.SP_STAT 1]) ∧
    (s.blk.chain.role = .master → s.blk.chain.joined = true →
      (∀ p, s.blk.chain.lastOwn + 3000 ≤ s.blk.ticks → s.blk.partner = some p → s.blk.bit Reg.CHN_ROSTER_READY p = true →
        Completes .masterIsolated s fun b => b.chain.role = .isolated ∧ b.on Reg.CHN_STAT_YIELDED = true) ∧
      (s.blk.ticks < s.blk.chain.lastOwn + 3000 → Completes .masterIsolated s fun b =>
        b.chain.role = .master ∧ s.blk.keepsBut b [Reg.SP_STAT 1])) ∧
    (s.blk.hears inB = true → Completes (.lossOfSignal ring) s fun b =>
      b.on (losField inB) = true ∧ b.on (wrapField (!inB)) = true ∧
      b.get Reg.CHN_WRAPS_COUNT = (s.blk.get Reg.CHN_WRAPS_COUNT + 1) % 2 ^ 32) ∧
    (s.blk.hears inB = false → Completes (.lossOfSignal ring) s fun b => s.blk.keepsBut b [Reg.SP_STAT 1]) ∧
    (cellOk cell = true → s.blk.hears inB = true → cellOf cell = some c → c.kind = kindWrap → c.dst = s.blk.rank →
      s.blk.on (wrapField (byteAt c.body 0 == 1)) = false → Completes (.wrapReceived ring cell) s fun b =>
        b.on (wrapField (byteAt c.body 0 == 1)) = true ∧
        b.get Reg.CHN_WRAPS_COUNT = (s.blk.get Reg.CHN_WRAPS_COUNT + 1) % 2 ^ 32 ∧
        s.blk.keepsBut b (Reg.CHN_STAT :: Reg.CHN_WRAPS :: recordRegs)) ∧
    (s.blk.on (losField inB) = true → Completes (.ringUnwrap ring) s fun b =>
      b.on (losField inB) = false ∧ b.on (wrapField (!inB)) = false) ∧
    (s.blk.on (losField inB) = false → s.blk.on (wrapField inB) = true → Completes (.ringUnwrap ring) s fun b =>
      b.on (wrapField inB) = false ∧ s.blk.keepsBut b (Reg.CHN_STAT :: Reg.SP_STAT 1 :: recordRegs)) ∧
    (∀ p, s.blk.partner = some p → s.blk.chainEnabled = true → s.blk.rank ≤ 1 → s.blk.pairedPorts ≠ [] →
      s.blk.bypassed false = false → s.blk.wrapped false = false → Completes .pairSend s fun b =>
        (∃ x ∈ b.chain.cells, x.ringB = false ∧ ∃ y, cellOf x.bytes = some y ∧ y.kind = kindPair ∧ y.src = s.blk.rank ∧
          y.dst = p) ∧
        s.blk.keepsBut b [Reg.SP_STAT 1]) ∧
    (s.blk.takesCell inB kindPair cell c → s.blk.partner = some c.src → Completes (.pairReceived ring cell) s fun b =>
      ∀ n, n < 24 → Store.get (fun _ => 0) b.chain.partnerK n = byteAt c.body (2 * n) ∧
        Store.get (fun _ => 0) b.chain.partnerAtten n = byteAt c.body (2 * n + 1)) ∧
    (s.blk.takesCell inB kindDrive cell c → byteAt c.body 0 = port →
      (s.blk.drivesFor port = true → byteAt c.body 2 = 1 →
        let fits := s.blk.thermalOk [port.val] 112 (s.blk.lossFor [port.val]) (byteAt c.body 10) true
        (fits = true → Completes (.driveReceived ring cell) s fun b =>
          b.get (Reg.LP_ZOUT_STAT_LAST port) = byteAt c.body 9 % 32 ∧
          ∃ d ∈ b.chain.drives, d.port = port ∧ d.slot = byteAt c.body 1 ∧ d.atten = byteAt c.body 10 ∧
            d.start = BitVec.ofNat 48 (leAt c.body 3 6) ∧ d.samples = slice c.body 11 52) ∧
        (fits = false → Completes (.driveReceived ring cell) s fun b =>
          b.get Reg.CHN_DRIVE_REFUSED_COUNT = (s.blk.get Reg.CHN_DRIVE_REFUSED_COUNT + 1) % 2 ^ 32 ∧
          b.chain.drives = s.blk.chain.drives ∧ s.blk.keepsBut b [Reg.CHN_DRIVE_REFUSED])) ∧
      (s.blk.drivesFor port = false → Completes (.driveReceived ring cell) s fun b =>
        (s.blk.dev = .service → b.chain.drives = s.blk.chain.drives) ∧ s.blk.keepsBut b [])) ∧
    (s.blk.takesCell inB kindRxdone cell c → Completes (.rxdoneReceived ring cell) s fun b =>
      b.chain.held = s.blk.chain.held.filter (fun h =>
        !(h.lane == byteAt c.body 0 && h.sync == BitVec.ofNat 48 (leAt c.body 1 6))) ∧
      b.chain.heldAcks = s.blk.chain.heldAcks.filter (fun h =>
        !(h.lane == byteAt c.body 0 && h.reception.bearing == BitVec.ofNat 48 (leAt c.body 1 6))) ∧ s.blk.keepsBut b []) ∧
    Completes .heldParcelExpiry s (fun b =>
      (∀ h ∈ b.chain.held, (s.blk.brg.now - h.sync).toNat < 2 * 524288) ∧
      (∀ h ∈ b.chain.heldAcks, (s.blk.brg.now - h.reception.bearing).toNat < 2 * 524288) ∧
      (∀ h ∈ s.blk.chain.held, (s.blk.brg.now - h.sync).toNat < 2 * 524288 → h ∈ b.chain.held) ∧
      s.blk.keepsBut b [Reg.SP_STAT 1]) ∧
    (s.blk.takesCell inB kindRepl cell c → s.blk.partner = some c.src → s.blk.home = false →
      s.blk.partnerUp = true → s.blk.on Reg.TRV_REPL_STAT_LINKED = true →
      (byteAt c.body 0 = replDone → Completes (.replReceived ring cell) s fun b =>
        b.chain.copyDone = true ∧ b.get Reg.TRV_REPL_SEQ_RSEQ = leAt c.body 8 4) ∧
      (byteAt c.body 0 = replCore → Completes (.replReceived ring cell) s fun b =>
        b.node (leAt c.body 4 4) =
          Node.ofBytes (patch (s.blk.node (leAt c.body 4 4)).toBytes (leAt c.body 2 2) (slice c.body 16 32)) ∧
        b.get Reg.TRV_REPL_SEQ_RSEQ = leAt c.body 8 4)) ∧
    (s.blk.chain.role = .standby → s.blk.chain.takeoverDue = true → s.blk.chain.resetAll = false →
      Completes .takeover s fun b =>
        b.chain.role = .master ∧ b.get Reg.CHN_ROSTER_MEPOCH = (s.blk.get Reg.CHN_ROSTER_MEPOCH + 1) % 65536 ∧
        b.on (Reg.DTM_STAT_FOLLOW 0) = false ∧ b.get Reg.TRV_PART_ROLE = 0 ∧ b.chain.held = [] ∧
        b.get Reg.CHN_TAKEOVERS_COUNT = (s.blk.get Reg.CHN_TAKEOVERS_COUNT + 1) % 2 ^ 32) ∧
    (s.blk.chain.takeoverDue = false → Completes .takeover s fun b =>
      b.chain.role = s.blk.chain.role ∧ s.blk.keepsBut b [Reg.SP_STAT 1]) ∧
    (s.blk.chain.role = .master → s.blk.on (Reg.LP_CTRL_PAIRED port) = true → s.blk.dev = .service →
      Completes (.pairedPortClose port) s fun b =>
        (b.port port).closeWaits = false ∧ (∀ h ∈ b.chain.heldAcks, h.port ≠ port) ∧
        ((∀ h ∈ s.blk.chain.heldAcks, h.port ≠ port) → s.blk.keepsBut b [])) ∧
    (s.blk.chain.role ≠ .master ∨ s.blk.on (Reg.LP_CTRL_PAIRED port) = false →
      Completes (.pairedPortClose port) s fun b => s.blk.keepsBut b [Reg.SP_STAT 1])

/-- The global operations of the Chain (R78 to R81, R458, R485 to R488): a token finds a member ready or not and its return
decides; a verdict is held for its bearing or ends the operation; a reset goes to one rank or to all; a barrier, a snapshot
and a handover are armed, disarmed and act at their bearing. How the bodies of TOKEN and VERDICT are laid out is the model's
choice (log entry 59). -/
def Obligations.ChainOperationsAgree : Prop :=
  ∀ (s : State) (ring : Ring) (cell : List Byte) (c : Cell),
    let inB := ring == .b
    let op := byteAt c.body 0
    let at_ : Bearing := BitVec.ofNat 48 (leAt c.body 1 6)
    (cellOk cell = true → s.blk.hears inB = true → cellOf cell = some c → s.blk.hasSeen c = false →
      (c.kind = kindToken → c.src ≠ s.blk.rank → s.blk.chain.role ≠ .none → op = opSwap →
        (s.blk.dev = .service → s.blk.running = true → s.blk.chain.holdover = false → s.blk.chain.backSlew = false →
          s.blk.get Reg.CFG_STATUS_SHADOW = 2 → Completes (.tokenReceived ring cell) s fun b =>
            b.get Reg.CFG_STATUS_SHADOW = 4 ∧
            b.img.armed = some { bearing := at_, verdict := .waiting, tokenOut := false, ready := 0 }) ∧
        (s.blk.get Reg.CFG_STATUS_SHADOW ≠ 2 → Completes (.tokenReceived ring cell) s fun b =>
          b.img = { s.blk.img with ended := none } ∧ s.blk.keepsBut b [])) ∧
      (c.kind = kindToken → c.src = s.blk.rank → s.blk.chain.role = .master → op = opSwap →
        ∀ a, s.blk.img.armed = some a → a.bearing = at_ → a.verdict = .waiting →
          let ready := byteAt c.body 8
          let present := s.blk.get Reg.CHN_ROSTER_PRESENT
          (byteAt c.body 7 = 0 → ready &&& present = present → Completes (.tokenReceived ring cell) s fun b =>
            b.img.armed = some { a with verdict := .commit, tokenOut := false, ready := ready } ∧ s.blk.keepsBut b []) ∧
          (byteAt c.body 7 ≠ 0 → Completes (.tokenReceived ring cell) s fun b =>
            b.img.armed = none ∧ b.get Reg.CFG_SWAP_STATUS_CAUSE = 2)) ∧
      (c.kind = kindVerdict → c.src ≠ s.blk.rank → c.bcast = true → op = opSwap → ∀ a, s.blk.img.armed = some a →
        a.bearing = BitVec.ofNat 48 (leAt c.body 3 6) →
        (byteAt c.body 1 = 1 → Completes (.verdictReceived ring cell) s fun b =>
          b.img.armed = some { a with verdict := .commit } ∧ s.blk.keepsBut b []) ∧
        (byteAt c.body 1 ≠ 1 → byteAt c.body 2 < 16 → Completes (.verdictReceived ring cell) s fun b =>
          b.img.armed = none ∧ b.get Reg.CFG_SWAP_STATUS_CAUSE = byteAt c.body 2 ∧ b.get Reg.CFG_STATUS_SHADOW = 2)) ∧
      (c.kind = kindReset → c.src ≠ s.blk.rank → c.bcast = true ∨ c.dst = s.blk.rank →
        Completes (.resetCellReceived ring cell) s fun b => b.dev = .reset ∧ b.bit Reg.GLB_RESET_CAUSE_SOURCE 4 = true) ∧
      (c.kind = kindReset → c.src ≠ s.blk.rank → c.bcast = false → c.dst ≠ s.blk.rank →
        Completes (.resetCellReceived ring cell) s fun b => b.dev = s.blk.dev ∧ s.blk.keepsBut b [])) ∧
    (s.blk.accepts = true → s.blk.on Reg.CHN_CMD_RESULT_BUSY = false →
      (s.blk.chain.role ≠ .master → ∀ i ∈ [Instr.chainReset, .barrier, .snapArm, .snapDisarm, .handoverArm, .handoverDisarm],
        Completes i s fun b => b.get Reg.CHN_CMD_RESULT_STATUS = 1 ∧ b.chain = { s.blk.chain with
          bypassA := b.chain.bypassA, bypassB := b.chain.bypassB, drives := b.chain.drives } ∧
          s.blk.keepsBut b [Reg.CHN_CMD_RESULT]) ∧
      (s.blk.chain.role = .master →
        let target := s.blk.get Reg.CHN_CMD_ARG_TARGET
        let at2 := s.blk.bearingAt Reg.CHN_OP_BRG_LO_BRG Reg.CHN_OP_BRG_HI_BRG
        (target = 15 → Completes .chainReset s fun b =>
          b.chain.resetOut = some s.blk.ticks ∧ b.get Reg.CHN_CMD_RESULT_STATUS = 0 ∧ b.dev = s.blk.dev) ∧
        (target = s.blk.rank → Completes .chainReset s fun b =>
          b.dev = .reset ∧ b.bit Reg.GLB_RESET_CAUSE_SOURCE 4 = true) ∧
        (7 < target → target ≠ 15 → Completes .chainReset s fun b =>
          b.get Reg.CHN_CMD_RESULT_STATUS = 2 ∧ b.dev = s.blk.dev ∧ s.blk.keepsBut b [Reg.CHN_CMD_RESULT]) ∧
        Completes .barrier s (fun b => b.chain.barrier = 1 ∧ b.get Reg.CHN_CMD_RESULT_BUSY = 1 ∧
          s.blk.keepsBut b [Reg.CHN_CMD_RESULT]) ∧
        (s.blk.dev = .service → s.blk.running = true → s.blk.chain.op = none → ∀ i ∈ [(Instr.snapArm, false), (.handoverArm, true)],
          (i.2 = true → s.blk.partner.isSome = true) →
          (s.blk.armable at2 = true → Completes i.1 s fun b =>
            b.chain.op = some { handover := i.2, bearing := at2, verdict := .waiting, tokenOut := true, ready := 0 } ∧
            b.get Reg.CHN_OP_STATUS_STATE = 1 ∧ b.get Reg.CHN_CMD_RESULT_STATUS = 0 ∧
            s.blk.keepsBut b [Reg.CHN_OP_STATUS, Reg.CHN_CMD_RESULT]) ∧
          (s.blk.armable at2 = false → Completes i.1 s fun b =>
            b.chain.op = none ∧ b.get Reg.CHN_CMD_RESULT_STATUS = 2 ∧ s.blk.keepsBut b [Reg.CHN_CMD_RESULT])) ∧
        (∀ o, s.blk.chain.op = some o → Completes (if o.handover then .handoverDisarm else .snapDisarm) s fun b =>
          b.chain.op = none ∧ b.get Reg.CHN_OP_STATUS_STATE = 3 ∧ b.get Reg.CHN_OP_STATUS_CAUSE = 1 ∧
          b.get Reg.CHN_CMD_RESULT_STATUS = 0))) ∧
    (∀ t, s.blk.chain.resetOut = some t →
      (t + 2500 ≤ s.blk.ticks → Completes .chainResetTimeout s fun b =>
        b.dev = .reset ∧ b.bit Reg.GLB_RESET_CAUSE_SOURCE 4 = true) ∧
      (s.blk.ticks < t + 2500 → Completes .chainResetTimeout s fun b =>
        b.dev = s.blk.dev ∧ s.blk.keepsBut b [Reg.SP_STAT 1])) ∧
    (∀ o, s.blk.chain.op = some o → o.bearing = s.blk.brg.now →
      let act : Instr := if o.handover then .handover else .snapshot
      (s.blk.brg.state = .holdover → Completes act s fun b =>
        b.chain.op = none ∧ b.get Reg.CHN_OP_STATUS_STATE = 3 ∧ b.get Reg.CHN_OP_STATUS_CAUSE = 4) ∧
      (s.blk.brg.state ≠ .holdover → o.verdict ≠ .commit → Completes act s fun b =>
        b.chain.op = none ∧ b.get Reg.CHN_OP_STATUS_STATE = 3 ∧ b.get Reg.CHN_OP_STATUS_CAUSE = 7) ∧
      (s.blk.brg.state ≠ .holdover → o.verdict = .commit → o.handover = false → Completes .snapshot s fun b =>
        b.chain.op = none ∧ b.get Reg.CHN_OP_STATUS_STATE = 2 ∧
        (∀ i, i < 16 → b.rd (Reg.CHN_SNAP_DATA i) = BitVec.ofNat 32 (leAt b.snapBytes (4 * i) 4)) ∧
        s.blk.keepsBut b (Reg.CHN_OP_STATUS :: Reg.SP_STAT 1 :: (List.range 16).map Reg.CHN_SNAP_DATA)) ∧
      (s.blk.brg.state ≠ .holdover → o.verdict = .commit → o.handover = true →
        (s.blk.chain.role = .master → Completes .handover s fun b =>
          b.chain.role = .standby ∧ b.get Reg.TRV_PART_ROLE = 1 ∧ b.on Reg.CHN_STAT_YIELDED = true) ∧
        (s.blk.chain.role = .standby → Completes .handover s fun b =>
          b.chain.role = .master ∧ b.get Reg.TRV_PART_ROLE = 0 ∧
          b.get Reg.CHN_ROSTER_MEPOCH = (s.blk.get Reg.CHN_ROSTER_MEPOCH + 1) % 65536)))

/-- Site Sense (R496 to R508): a good conversion gives x and y under the channel's polynomial, ends the run of bad ones and is
counted; one that the loss of compliance spoils is OPEN and counts as bad; the notches follow Bearing's frequency; a loop
whose current differs from its demand faults until the two agree. -/
def Obligations.SenseMeasures : Prop :=
  ∀ (s : State) (c : Conversion) (source n : Fin 2) (measured : BitVec 16),
    let k := c.ch.val
    let st := s.blk.senseCh k
    let u := fine c.u.toInt
    let code := s.blk.get (Reg.SS_CH_STAT_GAIN k)
    let x := (if st.negative then (-1 : Rat) else 1) * (u - st.offset code) / (2 ^ code : Nat)
    (s.blk.senseRuns k = true → st.old = none →
      (s.blk.convFlag k u c.overload = .good → Completes (.conversionComplete c) s fun b =>
        b.rd (Reg.SS_CH_Y k) = singleOf (s.blk.polynomial k x ((singleValue (s.blk.senseT k c.dieTemp)).getD 0)) ∧
        b.get (Reg.SS_CH_X_X k) = fineUnits x ∧ b.get (Reg.SS_CH_STAT_BAD k) = 0 ∧
        b.on (Reg.SS_CH_STAT_GOOD_ONCE k) = true ∧ b.on (Reg.SS_CH_STAT_OPEN_NOW k) = false ∧
        b.get (Reg.SS_CH_COUNT_COUNT k) = (s.blk.get (Reg.SS_CH_COUNT_COUNT k) + 1) % 2 ^ 32 ∧
        b.get (Reg.SS_CH_STAT_SEQ k) = (s.blk.get (Reg.SS_CH_STAT_SEQ k) + 1) % 2 ^ 16 ∧
        (b.senseCh k).negative = !st.negative ∧ (b.senseCh k).hold = false) ∧
      (s.blk.convFlag k u c.overload = .isOpen → Completes (.conversionComplete c) s fun b =>
        b.rd (Reg.SS_CH_Y k) = s.blk.rd (Reg.SS_CH_Y k) ∧ b.on (Reg.SS_CH_STAT_OPEN k) = true ∧
        b.get (Reg.SS_CH_STAT_BAD k) = min 2 (s.blk.get (Reg.SS_CH_STAT_BAD k) + 1) ∧
        (1 ≤ s.blk.get (Reg.SS_CH_STAT_BAD k) → (b.senseCh k).fault.isSome = true) ∧
        b.get (Reg.SS_CH_COUNT_COUNT k) = (s.blk.get (Reg.SS_CH_COUNT_COUNT k) + 1) % 2 ^ 32) ∧
      (s.blk.on (if source = 0 then Reg.SS_CH_EXC_EXC0_EN k else Reg.SS_CH_EXC_EXC1_EN k) = true →
        Completes (.complianceLoss c.ch source) s fun b =>
          (b.senseCh k).lost = true ∧ b.on (Reg.SS_CH_STAT_OPEN_NOW k) = true ∧
          s.blk.keepsBut b (Reg.SS_CH_STAT k :: recordRegs))) ∧
    (∀ ws, st.old = some ws → Completes (.conversionComplete c) s fun b =>
      (b.senseCh k).old = none ∧ ∀ off ∈ senseSettings k, b.rd off = s.blk.rd off) ∧
    (s.blk.senseRuns k = false → st.old = none →
      ∀ i ∈ [Instr.conversionComplete c, .complianceLoss c.ch source], Completes i s fun b =>
        b.sense = s.blk.sense ∧ s.blk.keepsBut b [Reg.SP_STAT 1]) ∧
    (s.blk.dev = .settle ∨ s.blk.dev = .service →
      (s.blk.brg.state = .locked ∨ s.blk.brg.state = .slew ∨ s.blk.brg.state = .follow → Completes .notchRetune s fun b =>
        b.get Reg.SS_STAT_F_SRC = 0 ∧ b.get Reg.SS_NOTCH_F_FREQ = s.blk.get Reg.BRG_FREQ_FREQ ∧
        s.blk.keepsBut b [Reg.SS_STAT, Reg.SS_NOTCH_F]) ∧
      (s.blk.brg.state = .holdover ∨ s.blk.brg.state = .relock → Completes .notchRetune s fun b =>
        b.get Reg.SS_STAT_F_SRC = 1 ∧ b.get Reg.SS_NOTCH_F_FREQ = s.blk.get Reg.BRG_FREQ_FREQ ∧
        s.blk.keepsBut b [Reg.SS_STAT, Reg.SS_NOTCH_F]) ∧
      (s.blk.brg.state = .unlocked ∨ s.blk.brg.state = .acquire → Completes .notchRetune s fun b =>
        b.get Reg.SS_STAT_F_SRC = 2 ∧
        b.get Reg.SS_NOTCH_F_FREQ = (if s.blk.on Reg.BRG_CTRL_NOM then 60 * 65536 else 50 * 65536) ∧
        s.blk.keepsBut b [Reg.SS_STAT, Reg.SS_NOTCH_F])) ∧
    (s.blk.on (Reg.SS_LOOP_CTRL_ENABLE n) = true →
      (s.blk.loopDiffers n measured.toNat = true → s.blk.on (Reg.SS_LOOP_FLAGS_LOOP_FAULT n) = false →
        Completes (.loopOpen n measured) s fun b =>
          b.on (Reg.SS_LOOP_FLAGS_LOOP_FAULT n) = true ∧ b.on (Reg.SS_LOOP_FLAGS_LOOP_FAULT_SEEN n) = true ∧
          b.get (Reg.SS_LOOP_STAT_MEAS n) = measured.toNat ∧
          s.blk.keepsBut b (Reg.SS_LOOP_STAT n :: Reg.SS_LOOP_FLAGS n :: Reg.SP_STAT 1 :: recordRegs)) ∧
      (s.blk.loopDiffers n measured.toNat = false → Completes (.loopFaultClear n measured) s fun b =>
        b.on (Reg.SS_LOOP_FLAGS_LOOP_FAULT n) = false ∧ b.get (Reg.SS_LOOP_STAT_MEAS n) = measured.toNat ∧
        s.blk.keepsBut b [Reg.SS_LOOP_STAT n, Reg.SS_LOOP_FLAGS n, Reg.SP_STAT 1])) ∧
    (s.blk.on (Reg.SS_LOOP_CTRL_ENABLE n) = false → ∀ i ∈ [Instr.loopOpen n measured, .loopFaultClear n measured],
      Completes i s fun b => s.blk.keepsBut b [Reg.SP_STAT 1])

/-- The serial ports (R514 to R530): characters, glitches and breaks enter the receive FIFO with their flags, a full FIFO
loses them; a line that stays low is dead until it is high again; characters written go out in order, a break before them;
the driver enable of SP1 falls with its tail; the rate is found from five edges; the oscillator sleeps in HOLD and a line
wakes it. -/
def Obligations.SerialPortsTalk : Prop :=
  ∀ (s : State) (p : Fin 2) (c : CharIn) (gap : Bool) (v : Word) (chars : Nat) (xs : List Nat),
    let x := s.blk.sp p
    let data := c.data.toNat % 2 ^ s.blk.get (Reg.SP_FMT_DATA p)
    let div := 2 * xs.sum
    let whole := 2 * s.blk.charBits p + 1
    (s.blk.spListens p whole = true → s.blk.spListens p 1 = true → s.blk.spListens p (s.blk.charHalves p) = true → ¬ (p = 0 ∧ s.blk.on (Reg.SP_CTRL_OWNER 0) = true) →
      (c.startLow = true → x.rx.length < 64 → Completes (.characterReceived p c) s fun b =>
          let pe := match charParity (s.blk.get (Reg.SP_FMT_PARITY p)) data with
            | some bit => bit != c.parity
            | none => false
          (b.sp p).rx = x.rx ++ [spEntry data pe (!c.stop) false x.glitched x.lost (c.gap && s.blk.on (Reg.SP_IDLE_BITS p))] ∧
          (b.sp p).lost = false ∧ (b.sp p).glitched = false ∧
          b.get (Reg.SP_STAT_RX_FILL p) = x.rx.length + 1 ∧ s.blk.keepsBut b [Reg.SP_STAT p]) ∧
      (c.startLow = true → 64 ≤ x.rx.length → Completes (.characterReceived p c) s fun b =>
        (b.sp p).rx = x.rx ∧ (b.sp p).lost = true ∧ b.on (Reg.SP_STAT_OVERRUN p) = true ∧
        b.get (Reg.SP_RX_LOST_COUNT p) = (s.blk.get (Reg.SP_RX_LOST_COUNT p) + 1) % 2 ^ 32) ∧
      (c.startLow = false → s.blk.on (Reg.SP_CTRL_SYNC p) = false → Completes (.characterReceived p c) s fun b =>
        (b.sp p).rx = x.rx ∧ (b.sp p).glitched = true ∧
        b.get (Reg.SP_GLITCH_COUNT p) = (s.blk.get (Reg.SP_GLITCH_COUNT p) + 1) % 2 ^ 32) ∧
      (x.rx.length < 64 → Completes (.breakDetected p gap) s fun b =>
        (b.sp p).rx = x.rx ++ [spEntry 0 false true true x.glitched x.lost (gap && s.blk.on (Reg.SP_IDLE_BITS p))] ∧
        b.on (Reg.SP_STAT_LINE_LOW p) = true ∧
        b.get (Reg.SP_BREAKS_COUNT p) = (s.blk.get (Reg.SP_BREAKS_COUNT p) + 1) % 2 ^ 32)) ∧
    (s.blk.spListens p whole = false → s.blk.spListens p 1 = false → Completes (.characterReceived p c) s fun b =>
      (b.sp p).rx = x.rx ∧ s.blk.keepsBut b [Reg.SP_STAT 1]) ∧
    (s.blk.spListens p (s.blk.charHalves p) = false → Completes (.breakDetected p gap) s fun b =>
      (b.sp p).rx = x.rx ∧ s.blk.keepsBut b [Reg.SP_STAT 1]) ∧
    (s.blk.spActive p = true →
      (s.blk.on (Reg.SP_STAT_DEAD p) = false → Completes (.serialDead p) s fun b =>
        b.on (Reg.SP_STAT_DEAD p) = true ∧ b.on (Reg.SP_STAT_DEAD_SEEN p) = true ∧
        s.blk.keepsBut b (Reg.SP_STAT p :: recordRegs)) ∧
      (s.blk.on (Reg.SP_IDLE_BITS p) = true → x.rx ≠ [] → Completes (.idleEvent p) s fun b =>
        b.on (Reg.SP_STAT_IDLE_EV p) = true ∧ (b.sp p).rx = x.rx ∧ s.blk.keepsBut b [Reg.SP_STAT p]) ∧
      (∀ d fmt div, x.shifter = some (some d, fmt, div) → s.blk.on (Reg.SP_CTRL_SEND_BRK p) = false →
        (∀ y rest, x.tx = y :: rest → Completes (.characterSent p) s fun b =>
          (b.sp p).tx = rest ∧ s.blk.keepsBut b [Reg.SP_STAT p] ∧ (b.sp p).shifter =
            some (some (y % 2 ^ s.blk.get (Reg.SP_FMT_DATA p)), s.blk.rd (Reg.SP_FMT p), s.blk.get (Reg.SP_DIV_DIV p))) ∧
        (x.tx = [] → Completes (.characterSent p) s fun b =>
          (b.sp p).shifter = none ∧ b.get (Reg.SP_STAT_TX_BUSY p) = 0 ∧
          (p = 1 → s.blk.get (Reg.SP_DE_TAIL 1) = 0 → b.get (Reg.SP_STAT_DE 1) = 0) ∧
          (p = 1 → s.blk.get (Reg.SP_DE_TAIL 1) ≠ 0 → (b.sp p).tail = true))) ∧
      (∀ fmt div, x.shifter = some (none, fmt, div) → x.tx = [] → Completes (.breakEnd p) s fun b =>
        b.on (Reg.SP_CTRL_SEND_BRK p) = false ∧ (b.sp p).shifter = none) ∧
      (s.blk.on (Reg.SP_CTRL_AUTO p) = true → s.blk.on (Reg.SP_CTRL_SYNC p) = false → intervalsAgree xs = true →
        s.blk.get (Reg.SP_FMT_DATA p) = 8 ∨ s.blk.get (Reg.SP_FMT_DATA p) = 9 → 256 ≤ div → div ≤ 2560000 →
        Completes (.autobaud p xs) s fun b =>
          b.get (Reg.SP_DIV_DIV p) = div ∧ b.on (Reg.SP_CTRL_AUTO p) = false ∧ b.on (Reg.SP_STAT_AUTO_DONE p) = true ∧
          s.blk.keepsBut b (Reg.SP_DIV p :: Reg.SP_CTRL p :: Reg.SP_STAT p :: recordRegs)) ∧
      (intervalsAgree xs = false → Completes (.autobaud p xs) s fun b => s.blk.keepsBut b [])) ∧
    (s.blk.on (Reg.SP_STAT_DEAD p) = true → Completes (.serialAlive p chars) s fun b =>
      b.on (Reg.SP_STAT_DEAD p) = false ∧ s.blk.keepsBut b (Reg.SP_STAT p :: Reg.SP_STAT 1 :: recordRegs)) ∧
    (s.blk.accepts = true →
      (64 ≤ x.tx.length → Completes (.spTxWrite p v) s fun b =>
        (b.sp p).tx = x.tx ∧ b.get (Reg.SP_TX_DROP_COUNT p) = (s.blk.get (Reg.SP_TX_DROP_COUNT p) + 1) % 2 ^ 32 ∧
        s.blk.keepsBut b [Reg.SP_TX_DROP p]) ∧
      (x.tx.length < 64 → x.shifter.isSome = true → Completes (.spTxWrite p v) s fun b =>
        (b.sp p).tx = x.tx ++ [v.toNat % 512] ∧ (b.sp p).shifter = x.shifter ∧ s.blk.keepsBut b [Reg.SP_STAT p]) ∧
      (x.tx = [] → x.shifter = none → s.blk.spActive p = true → s.blk.on (Reg.SP_CTRL_SEND_BRK p) = false →
        Completes (.spTxWrite p v) s fun b =>
          (b.sp p).tx = [] ∧ b.get (Reg.SP_STAT_TX_BUSY p) = 1 ∧ (p = 1 → b.get (Reg.SP_STAT_DE 1) = 1)) ∧
      (x.shifter = none → s.blk.spActive p = true → Completes (.sendBrk p) s fun b =>
        b.on (Reg.SP_CTRL_SEND_BRK p) = true ∧ (b.sp p).tx = x.tx ∧
        (b.sp p).shifter = some (none, s.blk.rd (Reg.SP_FMT p), s.blk.get (Reg.SP_DIV_DIV p))) ∧
      (s.blk.on (Reg.SP_CTRL_SYNC p) = false → Completes (.auto p) s fun b =>
        b.on (Reg.SP_CTRL_AUTO p) = true ∧ s.blk.keepsBut b [Reg.SP_CTRL p]) ∧
      (s.blk.on (Reg.SP_CTRL_SYNC p) = true → Completes (.auto p) s fun b => s.blk.keepsBut b []) ∧
      (¬ (p = 0 ∧ s.blk.on (Reg.SP_CTRL_OWNER 0) = true) →
        (∀ e rest, x.rx = e :: rest → Completes (.spRxRead p 0) s fun b =>
          b.host.answer = .word (BitVec.ofNat 32 e) ∧ (b.sp p).rx = rest ∧ s.blk.keepsBut b [Reg.SP_STAT p]) ∧
        (x.rx = [] → Completes (.spRxRead p 0) s fun b => b.host.answer = .word 0 ∧ s.blk.keepsBut b []))) ∧
    ((s.blk.sp 1).tail = true → (s.blk.sp 1).tx = [] → Completes .deTailEnd s fun b =>
      (b.sp 1).tail = false ∧ b.get (Reg.SP_STAT_DE 1) = 0 ∧ s.blk.keepsBut b [Reg.SP_STAT 1]) ∧
    (s.blk.dev = .hold → s.blk.oscillator = false → s.blk.on (Reg.SP_CTRL_ENABLE p) = true →
      s.blk.on (Reg.SP_CTRL_WAKE_EN p) = true →
      (x.wakeArmed = true → Completes (.serialWake p) s fun b => b.oscillator = true ∧ (b.sp p).wakeArmed = false) ∧
      (x.wakeArmed = false → Completes (.serialWake p) s fun b => b.oscillator = false ∧ s.blk.keepsBut b [])) ∧
    (s.blk.dev = .hold → (∀ i : Fin 2, (s.blk.sp i).rx = [] ∧ (s.blk.sp i).tx = [] ∧ (s.blk.sp i).shifter = none) →
      Completes .oscillatorSleep s fun b =>
        b.oscillator = false ∧ (b.sp p).wakeArmed = true ∧ s.blk.keepsBut b [Reg.SP_STAT 0, Reg.SP_STAT 1]) ∧
    (s.blk.dev = .hold → x.rx ≠ [] → Completes .oscillatorSleep s fun b => b.oscillator = s.blk.oscillator)

/-- The G3-PLC profile (R331 to R338): a frame in hand that finds the channel busy backs off, at last fails; one that finds it
clear and everything R50 asks for is on its way; a missing ACK sends it again while attempts remain; a frame received is
counted and its sender is a neighbour; a tone map that is too old is asked for anew. -/
def Obligations.G3FramesGoAndCome : Prop :=
  ∀ (s : State) (port : Fin 24) (x : G3Tx) (short : BitVec 16) (f : G3Frame) (l : Nat) (r : Reception),
    let n := port.val
    let g := s.blk.g3Port n
    (g.tx = some x → x.send = none → x.onAir = false →
      (s.blk.dev = .service → s.blk.running = true → s.blk.g3Bound n = true → s.blk.on (Reg.LP_CTRL_ENABLE n) = true →
        s.blk.drives n = true → s.blk.standsBy n = false → s.blk.held (n / 3) = false → s.blk.g3Sending n = false →
        x.awaitingAck = false →
        let y := s.blk.g3Frame n x []
        s.blk.quietBlocks n y.last = false → s.blk.g3Barred (n / 3) y = false → s.blk.g3YieldsP0 n x.prio = false →
        (x.backoffs + 1 < s.blk.get (Reg.LP_G3_CSMA_MAX_BACKOFFS n) → Completes (.g3Transmit port .busy) s fun b =>
          (b.g3Port n).tx = some { x with backoffs := x.backoffs + 1 } ∧ b.mac.txs = s.blk.mac.txs ∧ s.blk.keepsBut b []) ∧
        (s.blk.get (Reg.LP_G3_CSMA_MAX_BACKOFFS n) ≤ x.backoffs + 1 → Completes (.g3Transmit port .busy) s fun b =>
          (b.g3Port n).tx = none ∧ s.blk.keepsBut b [Reg.LP_G3_CSMA_FAIL n] ∧
          b.get (Reg.LP_G3_CSMA_FAIL_COUNT n) = (s.blk.get (Reg.LP_G3_CSMA_FAIL_COUNT n) + 1) % 2 ^ 32) ∧
        (s.blk.senseIdle (n / 3) y.bands = true → s.blk.meetsTx (n / 3) y.bands y.start y.last = false →
          s.blk.txLanesFree 1 = true → s.blk.portFull n y.start y.last = false →
          s.blk.thermalRoom [n] y.carriers y.loss y.atten (x.prio == 0 && x.job == .parcel) = true →
          s.blk.budgetShort [n] y.bands y.micros (x.prio == 0 && x.job == .parcel) = [] → x.job ≠ .parcel →
          Completes (.g3Transmit port .clear) s fun b =>
            (b.g3Port n).tx = some { x with tries := x.tries + 1, backoffs := 0, onAir := true } ∧
            ∃ z ∈ b.mac.txs, z.offer.type = typeG3 ∧ z.ports = [n] ∧ z.start = y.start)) ∧
      (x.awaitingAck = true →
        (x.tries < 1 + s.blk.get (Reg.LP_G3_CSMA_MAX_RETRIES n) → Completes (.g3AckTimeout port) s fun b =>
          (b.g3Port n).tx = some { x with awaitingAck := false, backoffs := 0 } ∧ s.blk.keepsBut b [Reg.SP_STAT 1]) ∧
        (1 + s.blk.get (Reg.LP_G3_CSMA_MAX_RETRIES n) ≤ x.tries → Completes (.g3AckTimeout port) s fun b =>
          (b.g3Port n).tx = none ∧ s.blk.keepsBut b [Reg.LP_G3_TX_FAIL n, Reg.SP_STAT 1] ∧
          b.get (Reg.LP_G3_TX_FAIL_COUNT n) = (s.blk.get (Reg.LP_G3_TX_FAIL_COUNT n) + 1) % 2 ^ 32))) ∧
    (s.blk.g3Bound n = true → s.blk.dev = .service → ∀ z, g.find short.toNat = some z →
      (z.mapAt + s.blk.get (Reg.LP_G3_TMR_TTL n) * 250000000 < s.blk.ticks → Completes (.toneMapExpiry port short) s fun b =>
        (short.toNat, .mapRequest) ∈ (b.g3Port n).control ∧ s.blk.keepsBut b []) ∧
      (s.blk.ticks ≤ z.mapAt + s.blk.get (Reg.LP_G3_TMR_TTL n) * 250000000 → Completes (.toneMapExpiry port short) s fun b =>
        b.g3Port n = g ∧ s.blk.keepsBut b [])) ∧
    (f.port = port → s.blk.dev = .service → s.blk.standsBy n = false →
      (s.blk.receiving n).find? (fun i => match (s.blk.lane i).binding with
        | some y => y.g3
        | none => false) = some l → (s.blk.lane l).current = some r →
      (f.fcsOk = false → Completes (.g3FrameReceived f) s fun b =>
        b.get (Reg.LP_G3_RX_FCS_COUNT n) = (s.blk.get (Reg.LP_G3_RX_FCS_COUNT n) + 1) % 2 ^ 32 ∧
        b.get (Reg.LP_G3_RX_OK_COUNT n) = s.blk.get (Reg.LP_G3_RX_OK_COUNT n) ∧ b.g3 = s.blk.g3) ∧
      (f.fcsOk = true → s.blk.g3Discards f = none → Completes (.g3FrameReceived f) s fun b =>
        b.get (Reg.LP_G3_RX_OK_COUNT n) = (s.blk.get (Reg.LP_G3_RX_OK_COUNT n) + 1) % 2 ^ 32 ∧
        ((b.g3Port n).find f.short.toNat).isSome = true) ∧
      (f.fcsOk = true → f.level ≠ 0 → f.level ≠ 5 → Completes (.g3FrameReceived f) s fun b =>
        b.get (Reg.LP_G3_MIC_FAIL_COUNT n) = (s.blk.get (Reg.LP_G3_MIC_FAIL_COUNT n) + 1) % 2 ^ 32 ∧ b.g3 = s.blk.g3)) ∧
    ((s.blk.receiving f.port).find? (fun i => match (s.blk.lane i).binding with
        | some y => y.g3
        | none => false) = none → Completes (.g3FrameReceived f) s fun b =>
      b.g3 = s.blk.g3 ∧ s.blk.keepsBut b [Reg.SP_STAT 1])
end

