-- ==== Sys2Proof/Laws/Store.lean ====
section
/-!
SUPPORT. The laws of sparse stores: a write is read back, leaves every other key alone, and keeps the canonical form.
-/

namespace Sys2Proof.Machine

variable {α : Type}

@[simp] theorem Store.get_nil (d : Nat → α) (k : Nat) : Store.get d [] k = d k := rfl

theorem Store.get_cons (d : Nat → α) (p : Nat × α) (m : Store α) (k : Nat) :
    Store.get d (p :: m) k = if p.1 = k then p.2 else Store.get d m k := by
  by_cases h : p.1 = k <;> simp [Store.get, h]

theorem Store.get_erase_other (d : Nat → α) (m : Store α) {k k' : Nat} (h : k' ≠ k) :
    Store.get d (Store.erase m k) k' = Store.get d m k' := by
  induction m with
  | nil => rfl
  | cons p m ih =>
    by_cases hp : p.1 = k
    · have h2 : p.1 ≠ k' := fun e => h (e ▸ hp)
      have he : Store.erase (p :: m) k = Store.erase m k := by simp [Store.erase, hp]
      rw [he, ih, Store.get_cons, if_neg h2]
    · have he : Store.erase (p :: m) k = p :: Store.erase m k := by simp [Store.erase, hp]
      rw [he, Store.get_cons, Store.get_cons, ih]

theorem Store.get_erase_same (d : Nat → α) (m : Store α) (k : Nat) : Store.get d (Store.erase m k) k = d k := by
  induction m with
  | nil => rfl
  | cons p m ih =>
    by_cases hp : p.1 = k
    · have he : Store.erase (p :: m) k = Store.erase m k := by simp [Store.erase, hp]
      rw [he, ih]
    · have he : Store.erase (p :: m) k = p :: Store.erase m k := by simp [Store.erase, hp]
      rw [he, Store.get_cons, if_neg hp, ih]

theorem Store.get_insert (d : Nat → α) (m : Store α) (k : Nat) (v : α) (k' : Nat) (hm : ∀ p ∈ m, p.1 ≠ k) :
    Store.get d (Store.insert m k v) k' = if k = k' then v else Store.get d m k' := by
  induction m with
  | nil => simp [Store.insert, Store.get_cons]
  | cons p m ih =>
    have hp : p.1 ≠ k := hm p (by simp)
    have ih := ih fun q hq => hm q (List.mem_cons_of_mem _ hq)
    by_cases hk : k < p.1
    · simp [Store.insert, hk, Store.get_cons]
    · rw [Store.insert, if_neg hk, Store.get_cons, ih, Store.get_cons]
      by_cases h1 : p.1 = k'
      · have : k ≠ k' := fun e => hp (h1.trans e.symm)
        simp [h1, this]
      · simp [h1]

theorem Store.erase_ne (m : Store α) (k : Nat) : ∀ p ∈ Store.erase m k, p.1 ≠ k := by
  intro p hp
  simpa [Store.erase] using (List.mem_filter.1 hp).2

variable [DecidableEq α]

/-- A value written is read back. -/
@[simp] theorem Store.get_put_same (d : Nat → α) (m : Store α) (k : Nat) (v : α) :
    Store.get d (Store.put d m k v) k = v := by
  unfold Store.put
  split
  · rename_i h; rw [Store.get_erase_same, h]
  · rw [Store.get_insert d _ k v k (Store.erase_ne m k), if_pos rfl]

/-- A write leaves every other key alone. -/
theorem Store.get_put_other (d : Nat → α) (m : Store α) {k k' : Nat} (v : α) (h : k' ≠ k) :
    Store.get d (Store.put d m k v) k' = Store.get d m k' := by
  unfold Store.put
  split
  · exact Store.get_erase_other d m h
  · rw [Store.get_insert d _ k v k' (Store.erase_ne m k), if_neg (Ne.symm h), Store.get_erase_other d m h]

theorem Store.get_put (d : Nat → α) (m : Store α) (k : Nat) (v : α) (k' : Nat) :
    Store.get d (Store.put d m k v) k' = if k' = k then v else Store.get d m k' := by
  by_cases h : k' = k
  · subst h; simp
  · rw [Store.get_put_other d m v h, if_neg h]

theorem Store.wf_cons (d : Nat → α) (k : Nat) (v : α) (m : Store α) :
    Store.wf d ((k, v) :: m) = true ↔ v ≠ d k ∧ (∀ p ∈ m, k < p.1) ∧ Store.wf d m = true := by
  simp [Store.wf, and_assoc]

theorem Store.wf_filter (d : Nat → α) (m : Store α) (f : Nat × α → Bool) (h : Store.wf d m = true) :
    Store.wf d (m.filter f) = true := by
  induction m with
  | nil => rfl
  | cons p m ih =>
    obtain ⟨k, v⟩ := p
    obtain ⟨h1, h2, h3⟩ := (Store.wf_cons d k v m).1 h
    by_cases hf : f (k, v) = true
    · rw [List.filter_cons_of_pos hf, Store.wf_cons]
      exact ⟨h1, fun p hp => h2 p (List.mem_filter.1 hp).1, ih h3⟩
    · rw [List.filter_cons_of_neg hf]
      exact ih h3

/-- Removing a key keeps the canonical form. -/
theorem Store.wf_erase (d : Nat → α) (m : Store α) (k : Nat) (h : Store.wf d m = true) :
    Store.wf d (Store.erase m k) = true := Store.wf_filter d m _ h

theorem Store.mem_insert {m : Store α} {k : Nat} {v : α} {p : Nat × α} :
    p ∈ Store.insert m k v ↔ p = (k, v) ∨ p ∈ m := by
  induction m with
  | nil => simp [Store.insert]
  | cons q m ih =>
    by_cases hk : k < q.1
    · simp [Store.insert, hk]
    · rw [Store.insert, if_neg hk, List.mem_cons, ih, List.mem_cons]
      tauto

theorem Store.wf_insert (d : Nat → α) (m : Store α) (k : Nat) (v : α) (h : Store.wf d m = true) (hv : v ≠ d k)
    (hm : ∀ p ∈ m, p.1 ≠ k) : Store.wf d (Store.insert m k v) = true := by
  induction m with
  | nil => simp [Store.insert, Store.wf, hv]
  | cons q m ih =>
    obtain ⟨k', v'⟩ := q
    obtain ⟨h1, h2, h3⟩ := (Store.wf_cons d k' v' m).1 h
    have hne : k' ≠ k := hm (k', v') (by simp)
    by_cases hk : k < k'
    · rw [Store.insert, if_pos hk, Store.wf_cons]
      refine ⟨hv, ?_, h⟩
      intro p hp
      rcases List.mem_cons.1 hp with rfl | hp
      · exact hk
      · exact lt_trans hk (h2 p hp)
    · rw [Store.insert, if_neg hk, Store.wf_cons]
      refine ⟨h1, ?_, ih h3 fun p hp => hm p (List.mem_cons_of_mem _ hp)⟩
      intro p hp
      rcases Store.mem_insert.1 hp with rfl | hp
      · show k' < k
        omega
      · exact h2 p hp

/-- A write keeps the canonical form. -/
theorem Store.wf_put (d : Nat → α) (m : Store α) (k : Nat) (v : α) (h : Store.wf d m = true) :
    Store.wf d (Store.put d m k v) = true := by
  unfold Store.put
  split
  · exact Store.wf_erase d m k h
  · rename_i hv
    exact Store.wf_insert d _ k v (Store.wf_erase d m k h) hv (Store.erase_ne m k)

theorem Store.wf_modify (d : Nat → α) (m : Store α) (k : Nat) (f : α → α) (h : Store.wf d m = true) :
    Store.wf d (Store.modify d m k f) = true := Store.wf_put d m k _ h

theorem Store.wf_putAll (d : Nat → α) (m : Store α) (k : Nat) (vs : List α) (h : Store.wf d m = true) :
    Store.wf d (Store.putAll d m k vs) = true := by
  induction vs generalizing m k with
  | nil => exact h
  | cons v vs ih => exact ih _ _ (Store.wf_put d m k v h)

/-- Changing every listed value keeps the canonical form. -/
theorem Store.wf_mapVals (d : Nat → α) (f : α → α) (m : Store α) (h : Store.wf d m = true) :
    Store.wf d (Store.mapVals d f m) = true := by
  induction m with
  | nil => rfl
  | cons p m ih =>
    obtain ⟨k, v⟩ := p
    obtain ⟨_, h2, h3⟩ := (Store.wf_cons d k v m).1 h
    have ih := ih h3
    unfold Store.mapVals at ih ⊢
    by_cases hv : f v = d k
    · simpa [List.filter_cons, hv] using ih
    · rw [List.map_cons, List.filter_cons_of_pos (by simpa using hv), Store.wf_cons]
      refine ⟨hv, ?_, ih⟩
      intro p hp
      obtain ⟨q, hq, rfl⟩ := List.mem_map.1 (List.mem_filter.1 hp).1
      exact h2 q hq

/-- What a store reads as after every listed value has been changed by an `f` that keeps what an unlisted key reads
as: every value satisfies what `f` establishes and the default has. -/
theorem Store.mapVals_all (d : Nat → α) (f : α → α) (m : Store α) (k : Nat) (P : α → Prop) (hd : P (d k))
    (hf : ∀ v, P (f v)) : P (Store.get d (Store.mapVals d f m) k) := by
  induction m with
  | nil => exact hd
  | cons p m ih =>
    unfold Store.mapVals at ih ⊢
    by_cases hp : f p.2 = d p.1
    · simpa [List.filter_cons, hp] using ih
    · rw [List.map_cons, List.filter_cons_of_pos (by simpa using hp), Store.get_cons]
      split
      · exact hf _
      · exact ih

end Sys2Proof.Machine
end

