-- ==== Sys2Proof/Laws/Fields.lean ====
section
/-!
SUPPORT. The laws of register words and fields: a field written is read back, every other register and every field of
other bits keeps its value.
-/

namespace Sys2Proof

/-- A field lies within its register. -/
abbrev Field.fits (f : Field) : Prop := f.lo + f.width ≤ 32

/-- Two fields share no bit. -/
abbrev Field.apart (f g : Field) : Prop := f.off ≠ g.off ∨ f.lo + f.width ≤ g.lo ∨ g.lo + g.width ≤ f.lo

end Sys2Proof

namespace Sys2Proof.Machine

/-! ### Bits of a number -/

theorem bitsAt_lt (v lo w : Nat) : bitsAt v lo w < 2 ^ w := Nat.mod_lt _ (by positivity)

theorem bits_split (v lo w : Nat) :
    v = v / 2 ^ (lo + w) * 2 ^ (lo + w) + bitsAt v lo w * 2 ^ lo + v % 2 ^ lo := by
  have h1 : v = 2 ^ lo * (v / 2 ^ lo) + v % 2 ^ lo := (Nat.div_add_mod v (2 ^ lo)).symm
  have h2 : v / 2 ^ lo = 2 ^ w * (v / 2 ^ lo / 2 ^ w) + v / 2 ^ lo % 2 ^ w := (Nat.div_add_mod _ _).symm
  have h3 : v / 2 ^ lo / 2 ^ w = v / 2 ^ (lo + w) := by rw [Nat.div_div_eq_div_mul, pow_add]
  rw [h3] at h2
  unfold bitsAt
  calc v = 2 ^ lo * (v / 2 ^ lo) + v % 2 ^ lo := h1
    _ = 2 ^ lo * (2 ^ w * (v / 2 ^ (lo + w)) + v / 2 ^ lo % 2 ^ w) + v % 2 ^ lo := by rw [← h2]
    _ = _ := by rw [pow_add]; ring

theorem setBits_eq (v lo w x : Nat) :
    setBits v lo w x = v / 2 ^ (lo + w) * 2 ^ (lo + w) + x % 2 ^ w * 2 ^ lo + v % 2 ^ lo := by
  have h := bits_split v lo w
  unfold setBits
  omega

/-- The bits of a number with a run replaced, above and below the run. -/
theorem testBit_setBits (v lo w x i : Nat) :
    (setBits v lo w x).testBit i = if i < lo then v.testBit i else if i < lo + w then x.testBit (i - lo) else v.testBit i := by
  have hlt : x % 2 ^ w * 2 ^ lo + v % 2 ^ lo < 2 ^ (lo + w) := by
    have h1 : x % 2 ^ w + 1 ≤ 2 ^ w := Nat.mod_lt _ (by positivity)
    have h2 : v % 2 ^ lo < 2 ^ lo := Nat.mod_lt _ (by positivity)
    calc x % 2 ^ w * 2 ^ lo + v % 2 ^ lo < (x % 2 ^ w + 1) * 2 ^ lo := by rw [add_mul]; omega
      _ ≤ 2 ^ w * 2 ^ lo := Nat.mul_le_mul_right _ h1
      _ = 2 ^ (lo + w) := by rw [pow_add]; ring
  have h2 : v % 2 ^ lo < 2 ^ lo := Nat.mod_lt _ (by positivity)
  rw [setBits_eq, add_assoc, mul_comm, Nat.testBit_two_pow_mul_add _ hlt]
  by_cases hi : i < lo + w
  · rw [if_pos hi, mul_comm, Nat.testBit_two_pow_mul_add _ h2]
    by_cases hl : i < lo
    · simp [hl, Nat.testBit_mod_two_pow]
    · have : i - lo < w := by omega
      simp [hl, hi, this, Nat.testBit_mod_two_pow]
  · have hl : ¬ i < lo := by omega
    rw [if_neg hi, if_neg hl, if_neg hi, Nat.testBit_div_two_pow]
    congr 1
    omega

theorem testBit_bitsAt (v lo w i : Nat) : (bitsAt v lo w).testBit i = (decide (i < w) && v.testBit (lo + i)) := by
  unfold bitsAt
  rw [Nat.testBit_mod_two_pow, Nat.testBit_div_two_pow, add_comm lo i]

theorem setBits_lt {v lo w x n : Nat} (hv : v < 2 ^ n) (h : lo + w ≤ n) : setBits v lo w x < 2 ^ n := by
  apply Nat.lt_pow_two_of_testBit
  intro i hi
  have h1 : ¬ i < lo := by omega
  have h2 : ¬ i < lo + w := by omega
  rw [testBit_setBits, if_neg h1, if_neg h2]
  exact Nat.testBit_lt_two_pow (lt_of_lt_of_le hv (Nat.pow_le_pow_right (by norm_num) hi))

theorem bitsAt_setBits_same (v lo w x : Nat) : bitsAt (setBits v lo w x) lo w = x % 2 ^ w := by
  apply Nat.eq_of_testBit_eq
  intro i
  rw [testBit_bitsAt, testBit_setBits, Nat.testBit_mod_two_pow]
  by_cases h : i < w
  · have h1 : ¬ lo + i < lo := by omega
    simp [h, h1]
  · simp [h]

theorem bitsAt_setBits_apart (v lo w x lo' w' : Nat) (h : lo' + w' ≤ lo ∨ lo + w ≤ lo') :
    bitsAt (setBits v lo w x) lo' w' = bitsAt v lo' w' := by
  apply Nat.eq_of_testBit_eq
  intro i
  rw [testBit_bitsAt, testBit_bitsAt, testBit_setBits]
  by_cases hi : i < w'
  · rcases h with h | h
    · have h1 : lo' + i < lo := by omega
      simp [h1]
    · have h1 : ¬ lo' + i < lo := by omega
      have h2 : ¬ lo' + i < lo + w := by omega
      simp [h1, h2]
  · simp [hi]

/-- Clearing one bit of a number at most 2^w leaves the other bits. -/
theorem testBit_setBits_one (v i : Nat) (on : Bool) (j : Nat) :
    (setBits v i 1 (if on then 1 else 0)).testBit j = if j = i then on else v.testBit j := by
  rw [testBit_setBits]
  by_cases h : j = i
  · subst h
    cases on <;> simp
  · by_cases h1 : j < i
    · simp [h1, h]
    · have h2 : ¬ j < i + 1 := by omega
      simp [h1, h2, h]

/-! ### Register words -/

@[simp] theorem Block.rd_wr_same (b : Block) (off : Nat) (v : Word) : (b.wr off v).rd off = v :=
  Store.get_put_same _ _ _ _

theorem Block.rd_wr_other (b : Block) {off off' : Nat} (v : Word) (h : off' ≠ off) :
    (b.wr off v).rd off' = b.rd off' := Store.get_put_other _ _ _ h

theorem Block.rd_wr (b : Block) (off : Nat) (v : Word) (off' : Nat) :
    (b.wr off v).rd off' = if off' = off then v else b.rd off' := Store.get_put _ _ _ _ _

theorem Block.wr_canonical (b : Block) (off : Nat) (v : Word) (h : Store.wf resetWord b.regs = true) :
    Store.wf resetWord (b.wr off v).regs = true := Store.wf_put _ _ _ _ h

/-! ### Fields -/

theorem Block.rd_set_other (b : Block) (f : Field) (v off : Nat) (h : off ≠ f.off) : (b.set f v).rd off = b.rd off :=
  b.rd_wr_other _ h

theorem Block.get_set_same (b : Block) (f : Field) (v : Nat) (h : f.fits) : (b.set f v).get f = v % 2 ^ f.width := by
  unfold Block.get Block.set
  rw [Block.rd_wr_same, BitVec.toNat_ofNat, Nat.mod_eq_of_lt (setBits_lt (b.rd f.off).isLt h), bitsAt_setBits_same]

theorem Block.get_set_apart (b : Block) (f g : Field) (v : Nat) (hf : f.fits) (h : f.apart g) :
    (b.set f v).get g = b.get g := by
  unfold Block.get
  by_cases ho : f.off = g.off
  · have hb : f.lo + f.width ≤ g.lo ∨ g.lo + g.width ≤ f.lo := by tauto
    unfold Block.set
    rw [ho, Block.rd_wr_same, BitVec.toNat_ofNat, Nat.mod_eq_of_lt (setBits_lt (b.rd g.off).isLt hf),
      bitsAt_setBits_apart]
    tauto
  · rw [b.rd_set_other f v g.off (Ne.symm ho)]

theorem Block.get_lt (b : Block) (f : Field) : b.get f < 2 ^ f.width := bitsAt_lt _ _ _

theorem Block.get_setOn (b : Block) (f : Field) (on : Bool) (h : f.fits) (hw : 0 < f.width) :
    (b.setOn f on).get f = if on then 1 else 0 := by
  unfold Block.setOn
  rw [b.get_set_same f _ h]
  have : 1 < 2 ^ f.width := Nat.one_lt_two_pow (by omega)
  cases on <;> simp [Nat.mod_eq_of_lt this]

theorem Block.bit_setBit (b : Block) (f : Field) (i : Nat) (on : Bool) (j : Nat) (h : f.fits) (hi : i < f.width) :
    (b.setBit f i on).bit f j = if j = i then on else b.bit f j := by
  unfold Block.bit Block.setBit
  rw [b.get_set_same f _ h, Nat.testBit_mod_two_pow, testBit_setBits_one]
  by_cases hj : j = i
  · subst hj; simp [hi]
  · by_cases hw : j < f.width
    · simp [hj, hw]
    · have hz : b.get f < 2 ^ j := lt_of_lt_of_le (b.get_lt f) (Nat.pow_le_pow_right (by norm_num) (by omega))
      simp [hj, hw, Nat.testBit_lt_two_pow hz]

theorem Block.get_inc (b : Block) (f : Field) (h : f.fits) : (b.inc f).get f = (b.get f + 1) % 2 ^ f.width :=
  b.get_set_same f _ h

theorem Block.get_incSat (b : Block) (f : Field) (h : f.fits) :
    (b.incSat f).get f = min (b.get f + 1) (2 ^ f.width - 1) := by
  unfold Block.incSat
  have hl := b.get_lt f
  split
  · rename_i hs
    rw [b.get_set_same f _ h, Nat.mod_eq_of_lt hs]
    omega
  · omega

/-! ### Registers that a list of writes leaves alone -/

theorem Block.rd_setAll_other (fs : List (Field × Nat)) (b : Block) (off : Nat) (h : ∀ p ∈ fs, off ≠ p.1.off) :
    (b.setAll fs).rd off = b.rd off := by
  induction fs generalizing b with
  | nil => rfl
  | cons p fs ih =>
    have ih := ih (b.set p.1 p.2) fun q hq => h q (List.mem_cons_of_mem _ hq)
    have e : b.setAll (p :: fs) = (b.set p.1 p.2).setAll fs := rfl
    rw [e, ih, b.rd_set_other p.1 p.2 off (h p (by simp))]

@[simp] theorem Block.setAll_nil (b : Block) : b.setAll [] = b := (rfl)
@[simp] theorem Block.setAll_cons (b : Block) (p : Field × Nat) (fs : List (Field × Nat)) :
    b.setAll (p :: fs) = (b.set p.1 p.2).setAll fs := (rfl)

theorem Block.get_of_rd {b b' : Block} {f : Field} (h : b'.rd f.off = b.rd f.off) : b'.get f = b.get f := by
  unfold Block.get; rw [h]

end Sys2Proof.Machine
end

