-- ==== Sys2Proof/Laws/State.lean ====
section
/-!
SUPPORT. What the plain updates of the block leave alone: one lemma per update and field, true by computation.
-/

namespace Sys2Proof.Machine


/-! ### wr -/

@[simp] theorem Block.wr_ticks (b : Block) (off : Nat) (v : Word) : (b.wr off v).ticks = b.ticks := (rfl)
@[simp] theorem Block.wr_drawn (b : Block) (off : Nat) (v : Word) : (b.wr off v).drawn = b.drawn := (rfl)
@[simp] theorem Block.wr_dev (b : Block) (off : Nat) (v : Word) : (b.wr off v).dev = b.dev := (rfl)
@[simp] theorem Block.wr_host (b : Block) (off : Nat) (v : Word) : (b.wr off v).host = b.host := (rfl)
@[simp] theorem Block.wr_strata (b : Block) (off : Nat) (v : Word) : (b.wr off v).strata = b.strata := (rfl)
@[simp] theorem Block.wr_book (b : Block) (off : Nat) (v : Word) : (b.wr off v).book = b.book := (rfl)
@[simp] theorem Block.wr_fault (b : Block) (off : Nat) (v : Word) : (b.wr off v).fault = b.fault := (rfl)
@[simp] theorem Block.wr_journal (b : Block) (off : Nat) (v : Word) : (b.wr off v).journal = b.journal := (rfl)
@[simp] theorem Block.wr_img (b : Block) (off : Nat) (v : Word) : (b.wr off v).img = b.img := (rfl)
@[simp] theorem Block.wr_brg (b : Block) (off : Nat) (v : Word) : (b.wr off v).brg = b.brg := (rfl)
@[simp] theorem Block.wr_dtm (b : Block) (off : Nat) (v : Word) : (b.wr off v).dtm = b.dtm := (rfl)
@[simp] theorem Block.wr_pool (b : Block) (off : Nat) (v : Word) : (b.wr off v).pool = b.pool := (rfl)
@[simp] theorem Block.wr_ports (b : Block) (off : Nat) (v : Word) : (b.wr off v).ports = b.ports := (rfl)
@[simp] theorem Block.wr_sound (b : Block) (off : Nat) (v : Word) : (b.wr off v).sound = b.sound := (rfl)
@[simp] theorem Block.wr_chain (b : Block) (off : Nat) (v : Word) : (b.wr off v).chain = b.chain := (rfl)
@[simp] theorem Block.wr_mac (b : Block) (off : Nat) (v : Word) : (b.wr off v).mac = b.mac := (rfl)
@[simp] theorem Block.wr_trv (b : Block) (off : Nat) (v : Word) : (b.wr off v).trv = b.trv := (rfl)
@[simp] theorem Block.wr_g3 (b : Block) (off : Nat) (v : Word) : (b.wr off v).g3 = b.g3 := (rfl)
@[simp] theorem Block.wr_cx (b : Block) (off : Nat) (v : Word) : (b.wr off v).cx = b.cx := (rfl)
@[simp] theorem Block.wr_sense (b : Block) (off : Nat) (v : Word) : (b.wr off v).sense = b.sense := (rfl)
@[simp] theorem Block.wr_serial (b : Block) (off : Nat) (v : Word) : (b.wr off v).serial = b.serial := (rfl)
@[simp] theorem Block.wr_oscillator (b : Block) (off : Nat) (v : Word) : (b.wr off v).oscillator = b.oscillator := (rfl)

/-! ### set -/

@[simp] theorem Block.set_ticks (b : Block) (f : Field) (v : Nat) : (b.set f v).ticks = b.ticks := (rfl)
@[simp] theorem Block.set_drawn (b : Block) (f : Field) (v : Nat) : (b.set f v).drawn = b.drawn := (rfl)
@[simp] theorem Block.set_dev (b : Block) (f : Field) (v : Nat) : (b.set f v).dev = b.dev := (rfl)
@[simp] theorem Block.set_host (b : Block) (f : Field) (v : Nat) : (b.set f v).host = b.host := (rfl)
@[simp] theorem Block.set_strata (b : Block) (f : Field) (v : Nat) : (b.set f v).strata = b.strata := (rfl)
@[simp] theorem Block.set_book (b : Block) (f : Field) (v : Nat) : (b.set f v).book = b.book := (rfl)
@[simp] theorem Block.set_fault (b : Block) (f : Field) (v : Nat) : (b.set f v).fault = b.fault := (rfl)
@[simp] theorem Block.set_journal (b : Block) (f : Field) (v : Nat) : (b.set f v).journal = b.journal := (rfl)
@[simp] theorem Block.set_img (b : Block) (f : Field) (v : Nat) : (b.set f v).img = b.img := (rfl)
@[simp] theorem Block.set_brg (b : Block) (f : Field) (v : Nat) : (b.set f v).brg = b.brg := (rfl)
@[simp] theorem Block.set_dtm (b : Block) (f : Field) (v : Nat) : (b.set f v).dtm = b.dtm := (rfl)
@[simp] theorem Block.set_pool (b : Block) (f : Field) (v : Nat) : (b.set f v).pool = b.pool := (rfl)
@[simp] theorem Block.set_ports (b : Block) (f : Field) (v : Nat) : (b.set f v).ports = b.ports := (rfl)
@[simp] theorem Block.set_sound (b : Block) (f : Field) (v : Nat) : (b.set f v).sound = b.sound := (rfl)
@[simp] theorem Block.set_chain (b : Block) (f : Field) (v : Nat) : (b.set f v).chain = b.chain := (rfl)
@[simp] theorem Block.set_mac (b : Block) (f : Field) (v : Nat) : (b.set f v).mac = b.mac := (rfl)
@[simp] theorem Block.set_trv (b : Block) (f : Field) (v : Nat) : (b.set f v).trv = b.trv := (rfl)
@[simp] theorem Block.set_g3 (b : Block) (f : Field) (v : Nat) : (b.set f v).g3 = b.g3 := (rfl)
@[simp] theorem Block.set_cx (b : Block) (f : Field) (v : Nat) : (b.set f v).cx = b.cx := (rfl)
@[simp] theorem Block.set_sense (b : Block) (f : Field) (v : Nat) : (b.set f v).sense = b.sense := (rfl)
@[simp] theorem Block.set_serial (b : Block) (f : Field) (v : Nat) : (b.set f v).serial = b.serial := (rfl)
@[simp] theorem Block.set_oscillator (b : Block) (f : Field) (v : Nat) : (b.set f v).oscillator = b.oscillator := (rfl)

/-! ### setAll -/

@[simp] theorem Block.setAll_ticks (fs : List (Field × Nat)) (b : Block) : (b.setAll fs).ticks = b.ticks := by
  induction fs generalizing b with
  | nil => exact (rfl)
  | cons p fs ih => rw [Block.setAll_cons, ih, Block.set_ticks]
@[simp] theorem Block.setAll_drawn (fs : List (Field × Nat)) (b : Block) : (b.setAll fs).drawn = b.drawn := by
  induction fs generalizing b with
  | nil => exact (rfl)
  | cons p fs ih => rw [Block.setAll_cons, ih, Block.set_drawn]
@[simp] theorem Block.setAll_dev (fs : List (Field × Nat)) (b : Block) : (b.setAll fs).dev = b.dev := by
  induction fs generalizing b with
  | nil => exact (rfl)
  | cons p fs ih => rw [Block.setAll_cons, ih, Block.set_dev]
@[simp] theorem Block.setAll_host (fs : List (Field × Nat)) (b : Block) : (b.setAll fs).host = b.host := by
  induction fs generalizing b with
  | nil => exact (rfl)
  | cons p fs ih => rw [Block.setAll_cons, ih, Block.set_host]
@[simp] theorem Block.setAll_strata (fs : List (Field × Nat)) (b : Block) : (b.setAll fs).strata = b.strata := by
  induction fs generalizing b with
  | nil => exact (rfl)
  | cons p fs ih => rw [Block.setAll_cons, ih, Block.set_strata]
@[simp] theorem Block.setAll_book (fs : List (Field × Nat)) (b : Block) : (b.setAll fs).book = b.book := by
  induction fs generalizing b with
  | nil => exact (rfl)
  | cons p fs ih => rw [Block.setAll_cons, ih, Block.set_book]
@[simp] theorem Block.setAll_fault (fs : List (Field × Nat)) (b : Block) : (b.setAll fs).fault = b.fault := by
  induction fs generalizing b with
  | nil => exact (rfl)
  | cons p fs ih => rw [Block.setAll_cons, ih, Block.set_fault]
@[simp] theorem Block.setAll_journal (fs : List (Field × Nat)) (b : Block) : (b.setAll fs).journal = b.journal := by
  induction fs generalizing b with
  | nil => exact (rfl)
  | cons p fs ih => rw [Block.setAll_cons, ih, Block.set_journal]
@[simp] theorem Block.setAll_img (fs : List (Field × Nat)) (b : Block) : (b.setAll fs).img = b.img := by
  induction fs generalizing b with
  | nil => exact (rfl)
  | cons p fs ih => rw [Block.setAll_cons, ih, Block.set_img]
@[simp] theorem Block.setAll_brg (fs : List (Field × Nat)) (b : Block) : (b.setAll fs).brg = b.brg := by
  induction fs generalizing b with
  | nil => exact (rfl)
  | cons p fs ih => rw [Block.setAll_cons, ih, Block.set_brg]
@[simp] theorem Block.setAll_dtm (fs : List (Field × Nat)) (b : Block) : (b.setAll fs).dtm = b.dtm := by
  induction fs generalizing b with
  | nil => exact (rfl)
  | cons p fs ih => rw [Block.setAll_cons, ih, Block.set_dtm]
@[simp] theorem Block.setAll_pool (fs : List (Field × Nat)) (b : Block) : (b.setAll fs).pool = b.pool := by
  induction fs generalizing b with
  | nil => exact (rfl)
  | cons p fs ih => rw [Block.setAll_cons, ih, Block.set_pool]
@[simp] theorem Block.setAll_ports (fs : List (Field × Nat)) (b : Block) : (b.setAll fs).ports = b.ports := by
  induction fs generalizing b with
  | nil => exact (rfl)
  | cons p fs ih => rw [Block.setAll_cons, ih, Block.set_ports]
@[simp] theorem Block.setAll_sound (fs : List (Field × Nat)) (b : Block) : (b.setAll fs).sound = b.sound := by
  induction fs generalizing b with
  | nil => exact (rfl)
  | cons p fs ih => rw [Block.setAll_cons, ih, Block.set_sound]
@[simp] theorem Block.setAll_chain (fs : List (Field × Nat)) (b : Block) : (b.setAll fs).chain = b.chain := by
  induction fs generalizing b with
  | nil => exact (rfl)
  | cons p fs ih => rw [Block.setAll_cons, ih, Block.set_chain]
@[simp] theorem Block.setAll_mac (fs : List (Field × Nat)) (b : Block) : (b.setAll fs).mac = b.mac := by
  induction fs generalizing b with
  | nil => exact (rfl)
  | cons p fs ih => rw [Block.setAll_cons, ih, Block.set_mac]
@[simp] theorem Block.setAll_trv (fs : List (Field × Nat)) (b : Block) : (b.setAll fs).trv = b.trv := by
  induction fs generalizing b with
  | nil => exact (rfl)
  | cons p fs ih => rw [Block.setAll_cons, ih, Block.set_trv]
@[simp] theorem Block.setAll_g3 (fs : List (Field × Nat)) (b : Block) : (b.setAll fs).g3 = b.g3 := by
  induction fs generalizing b with
  | nil => exact (rfl)
  | cons p fs ih => rw [Block.setAll_cons, ih, Block.set_g3]
@[simp] theorem Block.setAll_cx (fs : List (Field × Nat)) (b : Block) : (b.setAll fs).cx = b.cx := by
  induction fs generalizing b with
  | nil => exact (rfl)
  | cons p fs ih => rw [Block.setAll_cons, ih, Block.set_cx]
@[simp] theorem Block.setAll_sense (fs : List (Field × Nat)) (b : Block) : (b.setAll fs).sense = b.sense := by
  induction fs generalizing b with
  | nil => exact (rfl)
  | cons p fs ih => rw [Block.setAll_cons, ih, Block.set_sense]
@[simp] theorem Block.setAll_serial (fs : List (Field × Nat)) (b : Block) : (b.setAll fs).serial = b.serial := by
  induction fs generalizing b with
  | nil => exact (rfl)
  | cons p fs ih => rw [Block.setAll_cons, ih, Block.set_serial]
@[simp] theorem Block.setAll_oscillator (fs : List (Field × Nat)) (b : Block) : (b.setAll fs).oscillator = b.oscillator := by
  induction fs generalizing b with
  | nil => exact (rfl)
  | cons p fs ih => rw [Block.setAll_cons, ih, Block.set_oscillator]

/-! ### setOn -/

@[simp] theorem Block.setOn_ticks (b : Block) (f : Field) (on : Bool) : (b.setOn f on).ticks = b.ticks := by simp only [Block.setOn, Block.set_ticks]
@[simp] theorem Block.setOn_drawn (b : Block) (f : Field) (on : Bool) : (b.setOn f on).drawn = b.drawn := by simp only [Block.setOn, Block.set_drawn]
@[simp] theorem Block.setOn_dev (b : Block) (f : Field) (on : Bool) : (b.setOn f on).dev = b.dev := by simp only [Block.setOn, Block.set_dev]
@[simp] theorem Block.setOn_host (b : Block) (f : Field) (on : Bool) : (b.setOn f on).host = b.host := by simp only [Block.setOn, Block.set_host]
@[simp] theorem Block.setOn_strata (b : Block) (f : Field) (on : Bool) : (b.setOn f on).strata = b.strata := by simp only [Block.setOn, Block.set_strata]
@[simp] theorem Block.setOn_book (b : Block) (f : Field) (on : Bool) : (b.setOn f on).book = b.book := by simp only [Block.setOn, Block.set_book]
@[simp] theorem Block.setOn_fault (b : Block) (f : Field) (on : Bool) : (b.setOn f on).fault = b.fault := by simp only [Block.setOn, Block.set_fault]
@[simp] theorem Block.setOn_journal (b : Block) (f : Field) (on : Bool) : (b.setOn f on).journal = b.journal := by simp only [Block.setOn, Block.set_journal]
@[simp] theorem Block.setOn_img (b : Block) (f : Field) (on : Bool) : (b.setOn f on).img = b.img := by simp only [Block.setOn, Block.set_img]
@[simp] theorem Block.setOn_brg (b : Block) (f : Field) (on : Bool) : (b.setOn f on).brg = b.brg := by simp only [Block.setOn, Block.set_brg]
@[simp] theorem Block.setOn_dtm (b : Block) (f : Field) (on : Bool) : (b.setOn f on).dtm = b.dtm := by simp only [Block.setOn, Block.set_dtm]
@[simp] theorem Block.setOn_pool (b : Block) (f : Field) (on : Bool) : (b.setOn f on).pool = b.pool := by simp only [Block.setOn, Block.set_pool]
@[simp] theorem Block.setOn_ports (b : Block) (f : Field) (on : Bool) : (b.setOn f on).ports = b.ports := by simp only [Block.setOn, Block.set_ports]
@[simp] theorem Block.setOn_sound (b : Block) (f : Field) (on : Bool) : (b.setOn f on).sound = b.sound := by simp only [Block.setOn, Block.set_sound]
@[simp] theorem Block.setOn_chain (b : Block) (f : Field) (on : Bool) : (b.setOn f on).chain = b.chain := by simp only [Block.setOn, Block.set_chain]
@[simp] theorem Block.setOn_mac (b : Block) (f : Field) (on : Bool) : (b.setOn f on).mac = b.mac := by simp only [Block.setOn, Block.set_mac]
@[simp] theorem Block.setOn_trv (b : Block) (f : Field) (on : Bool) : (b.setOn f on).trv = b.trv := by simp only [Block.setOn, Block.set_trv]
@[simp] theorem Block.setOn_g3 (b : Block) (f : Field) (on : Bool) : (b.setOn f on).g3 = b.g3 := by simp only [Block.setOn, Block.set_g3]
@[simp] theorem Block.setOn_cx (b : Block) (f : Field) (on : Bool) : (b.setOn f on).cx = b.cx := by simp only [Block.setOn, Block.set_cx]
@[simp] theorem Block.setOn_sense (b : Block) (f : Field) (on : Bool) : (b.setOn f on).sense = b.sense := by simp only [Block.setOn, Block.set_sense]
@[simp] theorem Block.setOn_serial (b : Block) (f : Field) (on : Bool) : (b.setOn f on).serial = b.serial := by simp only [Block.setOn, Block.set_serial]
@[simp] theorem Block.setOn_oscillator (b : Block) (f : Field) (on : Bool) : (b.setOn f on).oscillator = b.oscillator := by simp only [Block.setOn, Block.set_oscillator]

/-! ### inc -/

@[simp] theorem Block.inc_ticks (b : Block) (f : Field) : (b.inc f).ticks = b.ticks := by simp only [Block.inc, Block.set_ticks]
@[simp] theorem Block.inc_drawn (b : Block) (f : Field) : (b.inc f).drawn = b.drawn := by simp only [Block.inc, Block.set_drawn]
@[simp] theorem Block.inc_dev (b : Block) (f : Field) : (b.inc f).dev = b.dev := by simp only [Block.inc, Block.set_dev]
@[simp] theorem Block.inc_host (b : Block) (f : Field) : (b.inc f).host = b.host := by simp only [Block.inc, Block.set_host]
@[simp] theorem Block.inc_strata (b : Block) (f : Field) : (b.inc f).strata = b.strata := by simp only [Block.inc, Block.set_strata]
@[simp] theorem Block.inc_book (b : Block) (f : Field) : (b.inc f).book = b.book := by simp only [Block.inc, Block.set_book]
@[simp] theorem Block.inc_fault (b : Block) (f : Field) : (b.inc f).fault = b.fault := by simp only [Block.inc, Block.set_fault]
@[simp] theorem Block.inc_journal (b : Block) (f : Field) : (b.inc f).journal = b.journal := by simp only [Block.inc, Block.set_journal]
@[simp] theorem Block.inc_img (b : Block) (f : Field) : (b.inc f).img = b.img := by simp only [Block.inc, Block.set_img]
@[simp] theorem Block.inc_brg (b : Block) (f : Field) : (b.inc f).brg = b.brg := by simp only [Block.inc, Block.set_brg]
@[simp] theorem Block.inc_dtm (b : Block) (f : Field) : (b.inc f).dtm = b.dtm := by simp only [Block.inc, Block.set_dtm]
@[simp] theorem Block.inc_pool (b : Block) (f : Field) : (b.inc f).pool = b.pool := by simp only [Block.inc, Block.set_pool]
@[simp] theorem Block.inc_ports (b : Block) (f : Field) : (b.inc f).ports = b.ports := by simp only [Block.inc, Block.set_ports]
@[simp] theorem Block.inc_sound (b : Block) (f : Field) : (b.inc f).sound = b.sound := by simp only [Block.inc, Block.set_sound]
@[simp] theorem Block.inc_chain (b : Block) (f : Field) : (b.inc f).chain = b.chain := by simp only [Block.inc, Block.set_chain]
@[simp] theorem Block.inc_mac (b : Block) (f : Field) : (b.inc f).mac = b.mac := by simp only [Block.inc, Block.set_mac]
@[simp] theorem Block.inc_trv (b : Block) (f : Field) : (b.inc f).trv = b.trv := by simp only [Block.inc, Block.set_trv]
@[simp] theorem Block.inc_g3 (b : Block) (f : Field) : (b.inc f).g3 = b.g3 := by simp only [Block.inc, Block.set_g3]
@[simp] theorem Block.inc_cx (b : Block) (f : Field) : (b.inc f).cx = b.cx := by simp only [Block.inc, Block.set_cx]
@[simp] theorem Block.inc_sense (b : Block) (f : Field) : (b.inc f).sense = b.sense := by simp only [Block.inc, Block.set_sense]
@[simp] theorem Block.inc_serial (b : Block) (f : Field) : (b.inc f).serial = b.serial := by simp only [Block.inc, Block.set_serial]
@[simp] theorem Block.inc_oscillator (b : Block) (f : Field) : (b.inc f).oscillator = b.oscillator := by simp only [Block.inc, Block.set_oscillator]

/-! ### add -/

@[simp] theorem Block.add_ticks (b : Block) (f : Field) (n : Nat) : (b.add f n).ticks = b.ticks := by simp only [Block.add, Block.set_ticks]
@[simp] theorem Block.add_drawn (b : Block) (f : Field) (n : Nat) : (b.add f n).drawn = b.drawn := by simp only [Block.add, Block.set_drawn]
@[simp] theorem Block.add_dev (b : Block) (f : Field) (n : Nat) : (b.add f n).dev = b.dev := by simp only [Block.add, Block.set_dev]
@[simp] theorem Block.add_host (b : Block) (f : Field) (n : Nat) : (b.add f n).host = b.host := by simp only [Block.add, Block.set_host]
@[simp] theorem Block.add_strata (b : Block) (f : Field) (n : Nat) : (b.add f n).strata = b.strata := by simp only [Block.add, Block.set_strata]
@[simp] theorem Block.add_book (b : Block) (f : Field) (n : Nat) : (b.add f n).book = b.book := by simp only [Block.add, Block.set_book]
@[simp] theorem Block.add_fault (b : Block) (f : Field) (n : Nat) : (b.add f n).fault = b.fault := by simp only [Block.add, Block.set_fault]
@[simp] theorem Block.add_journal (b : Block) (f : Field) (n : Nat) : (b.add f n).journal = b.journal := by simp only [Block.add, Block.set_journal]
@[simp] theorem Block.add_img (b : Block) (f : Field) (n : Nat) : (b.add f n).img = b.img := by simp only [Block.add, Block.set_img]
@[simp] theorem Block.add_brg (b : Block) (f : Field) (n : Nat) : (b.add f n).brg = b.brg := by simp only [Block.add, Block.set_brg]
@[simp] theorem Block.add_dtm (b : Block) (f : Field) (n : Nat) : (b.add f n).dtm = b.dtm := by simp only [Block.add, Block.set_dtm]
@[simp] theorem Block.add_pool (b : Block) (f : Field) (n : Nat) : (b.add f n).pool = b.pool := by simp only [Block.add, Block.set_pool]
@[simp] theorem Block.add_ports (b : Block) (f : Field) (n : Nat) : (b.add f n).ports = b.ports := by simp only [Block.add, Block.set_ports]
@[simp] theorem Block.add_sound (b : Block) (f : Field) (n : Nat) : (b.add f n).sound = b.sound := by simp only [Block.add, Block.set_sound]
@[simp] theorem Block.add_chain (b : Block) (f : Field) (n : Nat) : (b.add f n).chain = b.chain := by simp only [Block.add, Block.set_chain]
@[simp] theorem Block.add_mac (b : Block) (f : Field) (n : Nat) : (b.add f n).mac = b.mac := by simp only [Block.add, Block.set_mac]
@[simp] theorem Block.add_trv (b : Block) (f : Field) (n : Nat) : (b.add f n).trv = b.trv := by simp only [Block.add, Block.set_trv]
@[simp] theorem Block.add_g3 (b : Block) (f : Field) (n : Nat) : (b.add f n).g3 = b.g3 := by simp only [Block.add, Block.set_g3]
@[simp] theorem Block.add_cx (b : Block) (f : Field) (n : Nat) : (b.add f n).cx = b.cx := by simp only [Block.add, Block.set_cx]
@[simp] theorem Block.add_sense (b : Block) (f : Field) (n : Nat) : (b.add f n).sense = b.sense := by simp only [Block.add, Block.set_sense]
@[simp] theorem Block.add_serial (b : Block) (f : Field) (n : Nat) : (b.add f n).serial = b.serial := by simp only [Block.add, Block.set_serial]
@[simp] theorem Block.add_oscillator (b : Block) (f : Field) (n : Nat) : (b.add f n).oscillator = b.oscillator := by simp only [Block.add, Block.set_oscillator]

/-! ### setBit -/

@[simp] theorem Block.setBit_ticks (b : Block) (f : Field) (i : Nat) (on : Bool) : (b.setBit f i on).ticks = b.ticks := by simp only [Block.setBit, Block.set_ticks]
@[simp] theorem Block.setBit_drawn (b : Block) (f : Field) (i : Nat) (on : Bool) : (b.setBit f i on).drawn = b.drawn := by simp only [Block.setBit, Block.set_drawn]
@[simp] theorem Block.setBit_dev (b : Block) (f : Field) (i : Nat) (on : Bool) : (b.setBit f i on).dev = b.dev := by simp only [Block.setBit, Block.set_dev]
@[simp] theorem Block.setBit_host (b : Block) (f : Field) (i : Nat) (on : Bool) : (b.setBit f i on).host = b.host := by simp only [Block.setBit, Block.set_host]
@[simp] theorem Block.setBit_strata (b : Block) (f : Field) (i : Nat) (on : Bool) : (b.setBit f i on).strata = b.strata := by simp only [Block.setBit, Block.set_strata]
@[simp] theorem Block.setBit_book (b : Block) (f : Field) (i : Nat) (on : Bool) : (b.setBit f i on).book = b.book := by simp only [Block.setBit, Block.set_book]
@[simp] theorem Block.setBit_fault (b : Block) (f : Field) (i : Nat) (on : Bool) : (b.setBit f i on).fault = b.fault := by simp only [Block.setBit, Block.set_fault]
@[simp] theorem Block.setBit_journal (b : Block) (f : Field) (i : Nat) (on : Bool) : (b.setBit f i on).journal = b.journal := by simp only [Block.setBit, Block.set_journal]
@[simp] theorem Block.setBit_img (b : Block) (f : Field) (i : Nat) (on : Bool) : (b.setBit f i on).img = b.img := by simp only [Block.setBit, Block.set_img]
@[simp] theorem Block.setBit_brg (b : Block) (f : Field) (i : Nat) (on : Bool) : (b.setBit f i on).brg = b.brg := by simp only [Block.setBit, Block.set_brg]
@[simp] theorem Block.setBit_dtm (b : Block) (f : Field) (i : Nat) (on : Bool) : (b.setBit f i on).dtm = b.dtm := by simp only [Block.setBit, Block.set_dtm]
@[simp] theorem Block.setBit_pool (b : Block) (f : Field) (i : Nat) (on : Bool) : (b.setBit f i on).pool = b.pool := by simp only [Block.setBit, Block.set_pool]
@[simp] theorem Block.setBit_ports (b : Block) (f : Field) (i : Nat) (on : Bool) : (b.setBit f i on).ports = b.ports := by simp only [Block.setBit, Block.set_ports]
@[simp] theorem Block.setBit_sound (b : Block) (f : Field) (i : Nat) (on : Bool) : (b.setBit f i on).sound = b.sound := by simp only [Block.setBit, Block.set_sound]
@[simp] theorem Block.setBit_chain (b : Block) (f : Field) (i : Nat) (on : Bool) : (b.setBit f i on).chain = b.chain := by simp only [Block.setBit, Block.set_chain]
@[simp] theorem Block.setBit_mac (b : Block) (f : Field) (i : Nat) (on : Bool) : (b.setBit f i on).mac = b.mac := by simp only [Block.setBit, Block.set_mac]
@[simp] theorem Block.setBit_trv (b : Block) (f : Field) (i : Nat) (on : Bool) : (b.setBit f i on).trv = b.trv := by simp only [Block.setBit, Block.set_trv]
@[simp] theorem Block.setBit_g3 (b : Block) (f : Field) (i : Nat) (on : Bool) : (b.setBit f i on).g3 = b.g3 := by simp only [Block.setBit, Block.set_g3]
@[simp] theorem Block.setBit_cx (b : Block) (f : Field) (i : Nat) (on : Bool) : (b.setBit f i on).cx = b.cx := by simp only [Block.setBit, Block.set_cx]
@[simp] theorem Block.setBit_sense (b : Block) (f : Field) (i : Nat) (on : Bool) : (b.setBit f i on).sense = b.sense := by simp only [Block.setBit, Block.set_sense]
@[simp] theorem Block.setBit_serial (b : Block) (f : Field) (i : Nat) (on : Bool) : (b.setBit f i on).serial = b.serial := by simp only [Block.setBit, Block.set_serial]
@[simp] theorem Block.setBit_oscillator (b : Block) (f : Field) (i : Nat) (on : Bool) : (b.setBit f i on).oscillator = b.oscillator := by simp only [Block.setBit, Block.set_oscillator]

/-! ### setBearing -/

@[simp] theorem Block.setBearing_ticks (b : Block) (lo hi : Field) (x : Bearing) : (b.setBearing lo hi x).ticks = b.ticks := by simp only [Block.setBearing, Block.set_ticks]
@[simp] theorem Block.setBearing_drawn (b : Block) (lo hi : Field) (x : Bearing) : (b.setBearing lo hi x).drawn = b.drawn := by simp only [Block.setBearing, Block.set_drawn]
@[simp] theorem Block.setBearing_dev (b : Block) (lo hi : Field) (x : Bearing) : (b.setBearing lo hi x).dev = b.dev := by simp only [Block.setBearing, Block.set_dev]
@[simp] theorem Block.setBearing_host (b : Block) (lo hi : Field) (x : Bearing) : (b.setBearing lo hi x).host = b.host := by simp only [Block.setBearing, Block.set_host]
@[simp] theorem Block.setBearing_strata (b : Block) (lo hi : Field) (x : Bearing) : (b.setBearing lo hi x).strata = b.strata := by simp only [Block.setBearing, Block.set_strata]
@[simp] theorem Block.setBearing_book (b : Block) (lo hi : Field) (x : Bearing) : (b.setBearing lo hi x).book = b.book := by simp only [Block.setBearing, Block.set_book]
@[simp] theorem Block.setBearing_fault (b : Block) (lo hi : Field) (x : Bearing) : (b.setBearing lo hi x).fault = b.fault := by simp only [Block.setBearing, Block.set_fault]
@[simp] theorem Block.setBearing_journal (b : Block) (lo hi : Field) (x : Bearing) : (b.setBearing lo hi x).journal = b.journal := by simp only [Block.setBearing, Block.set_journal]
@[simp] theorem Block.setBearing_img (b : Block) (lo hi : Field) (x : Bearing) : (b.setBearing lo hi x).img = b.img := by simp only [Block.setBearing, Block.set_img]
@[simp] theorem Block.setBearing_brg (b : Block) (lo hi : Field) (x : Bearing) : (b.setBearing lo hi x).brg = b.brg := by simp only [Block.setBearing, Block.set_brg]
@[simp] theorem Block.setBearing_dtm (b : Block) (lo hi : Field) (x : Bearing) : (b.setBearing lo hi x).dtm = b.dtm := by simp only [Block.setBearing, Block.set_dtm]
@[simp] theorem Block.setBearing_pool (b : Block) (lo hi : Field) (x : Bearing) : (b.setBearing lo hi x).pool = b.pool := by simp only [Block.setBearing, Block.set_pool]
@[simp] theorem Block.setBearing_ports (b : Block) (lo hi : Field) (x : Bearing) : (b.setBearing lo hi x).ports = b.ports := by simp only [Block.setBearing, Block.set_ports]
@[simp] theorem Block.setBearing_sound (b : Block) (lo hi : Field) (x : Bearing) : (b.setBearing lo hi x).sound = b.sound := by simp only [Block.setBearing, Block.set_sound]
@[simp] theorem Block.setBearing_chain (b : Block) (lo hi : Field) (x : Bearing) : (b.setBearing lo hi x).chain = b.chain := by simp only [Block.setBearing, Block.set_chain]
@[simp] theorem Block.setBearing_mac (b : Block) (lo hi : Field) (x : Bearing) : (b.setBearing lo hi x).mac = b.mac := by simp only [Block.setBearing, Block.set_mac]
@[simp] theorem Block.setBearing_trv (b : Block) (lo hi : Field) (x : Bearing) : (b.setBearing lo hi x).trv = b.trv := by simp only [Block.setBearing, Block.set_trv]
@[simp] theorem Block.setBearing_g3 (b : Block) (lo hi : Field) (x : Bearing) : (b.setBearing lo hi x).g3 = b.g3 := by simp only [Block.setBearing, Block.set_g3]
@[simp] theorem Block.setBearing_cx (b : Block) (lo hi : Field) (x : Bearing) : (b.setBearing lo hi x).cx = b.cx := by simp only [Block.setBearing, Block.set_cx]
@[simp] theorem Block.setBearing_sense (b : Block) (lo hi : Field) (x : Bearing) : (b.setBearing lo hi x).sense = b.sense := by simp only [Block.setBearing, Block.set_sense]
@[simp] theorem Block.setBearing_serial (b : Block) (lo hi : Field) (x : Bearing) : (b.setBearing lo hi x).serial = b.serial := by simp only [Block.setBearing, Block.set_serial]
@[simp] theorem Block.setBearing_oscillator (b : Block) (lo hi : Field) (x : Bearing) : (b.setBearing lo hi x).oscillator = b.oscillator := by simp only [Block.setBearing, Block.set_oscillator]

/-! ### setBrg -/

@[simp] theorem Block.setBrg_ticks (b : Block) (st : BrgState) : (b.setBrg st).ticks = b.ticks := by simp only [Block.setBrg, Block.set_ticks]
@[simp] theorem Block.setBrg_drawn (b : Block) (st : BrgState) : (b.setBrg st).drawn = b.drawn := by simp only [Block.setBrg, Block.set_drawn]
@[simp] theorem Block.setBrg_dev (b : Block) (st : BrgState) : (b.setBrg st).dev = b.dev := by simp only [Block.setBrg, Block.set_dev]
@[simp] theorem Block.setBrg_host (b : Block) (st : BrgState) : (b.setBrg st).host = b.host := by simp only [Block.setBrg, Block.set_host]
@[simp] theorem Block.setBrg_strata (b : Block) (st : BrgState) : (b.setBrg st).strata = b.strata := by simp only [Block.setBrg, Block.set_strata]
@[simp] theorem Block.setBrg_book (b : Block) (st : BrgState) : (b.setBrg st).book = b.book := by simp only [Block.setBrg, Block.set_book]
@[simp] theorem Block.setBrg_fault (b : Block) (st : BrgState) : (b.setBrg st).fault = b.fault := by simp only [Block.setBrg, Block.set_fault]
@[simp] theorem Block.setBrg_journal (b : Block) (st : BrgState) : (b.setBrg st).journal = b.journal := by simp only [Block.setBrg, Block.set_journal]
@[simp] theorem Block.setBrg_img (b : Block) (st : BrgState) : (b.setBrg st).img = b.img := by simp only [Block.setBrg, Block.set_img]
@[simp] theorem Block.setBrg_dtm (b : Block) (st : BrgState) : (b.setBrg st).dtm = b.dtm := by simp only [Block.setBrg, Block.set_dtm]
@[simp] theorem Block.setBrg_pool (b : Block) (st : BrgState) : (b.setBrg st).pool = b.pool := by simp only [Block.setBrg, Block.set_pool]
@[simp] theorem Block.setBrg_ports (b : Block) (st : BrgState) : (b.setBrg st).ports = b.ports := by simp only [Block.setBrg, Block.set_ports]
@[simp] theorem Block.setBrg_sound (b : Block) (st : BrgState) : (b.setBrg st).sound = b.sound := by simp only [Block.setBrg, Block.set_sound]
@[simp] theorem Block.setBrg_chain (b : Block) (st : BrgState) : (b.setBrg st).chain = b.chain := by simp only [Block.setBrg, Block.set_chain]
@[simp] theorem Block.setBrg_mac (b : Block) (st : BrgState) : (b.setBrg st).mac = b.mac := by simp only [Block.setBrg, Block.set_mac]
@[simp] theorem Block.setBrg_trv (b : Block) (st : BrgState) : (b.setBrg st).trv = b.trv := by simp only [Block.setBrg, Block.set_trv]
@[simp] theorem Block.setBrg_g3 (b : Block) (st : BrgState) : (b.setBrg st).g3 = b.g3 := by simp only [Block.setBrg, Block.set_g3]
@[simp] theorem Block.setBrg_cx (b : Block) (st : BrgState) : (b.setBrg st).cx = b.cx := by simp only [Block.setBrg, Block.set_cx]
@[simp] theorem Block.setBrg_sense (b : Block) (st : BrgState) : (b.setBrg st).sense = b.sense := by simp only [Block.setBrg, Block.set_sense]
@[simp] theorem Block.setBrg_serial (b : Block) (st : BrgState) : (b.setBrg st).serial = b.serial := by simp only [Block.setBrg, Block.set_serial]
@[simp] theorem Block.setBrg_oscillator (b : Block) (st : BrgState) : (b.setBrg st).oscillator = b.oscillator := by simp only [Block.setBrg, Block.set_oscillator]

/-! ### setRole -/

@[simp] theorem Block.setRole_ticks (b : Block) (r : Role) : (b.setRole r).ticks = b.ticks := by simp only [Block.setRole, Block.set_ticks]
@[simp] theorem Block.setRole_drawn (b : Block) (r : Role) : (b.setRole r).drawn = b.drawn := by simp only [Block.setRole, Block.set_drawn]
@[simp] theorem Block.setRole_dev (b : Block) (r : Role) : (b.setRole r).dev = b.dev := by simp only [Block.setRole, Block.set_dev]
@[simp] theorem Block.setRole_host (b : Block) (r : Role) : (b.setRole r).host = b.host := by simp only [Block.setRole, Block.set_host]
@[simp] theorem Block.setRole_strata (b : Block) (r : Role) : (b.setRole r).strata = b.strata := by simp only [Block.setRole, Block.set_strata]
@[simp] theorem Block.setRole_book (b : Block) (r : Role) : (b.setRole r).book = b.book := by simp only [Block.setRole, Block.set_book]
@[simp] theorem Block.setRole_fault (b : Block) (r : Role) : (b.setRole r).fault = b.fault := by simp only [Block.setRole, Block.set_fault]
@[simp] theorem Block.setRole_journal (b : Block) (r : Role) : (b.setRole r).journal = b.journal := by simp only [Block.setRole, Block.set_journal]
@[simp] theorem Block.setRole_img (b : Block) (r : Role) : (b.setRole r).img = b.img := by simp only [Block.setRole, Block.set_img]
@[simp] theorem Block.setRole_brg (b : Block) (r : Role) : (b.setRole r).brg = b.brg := by simp only [Block.setRole, Block.set_brg]
@[simp] theorem Block.setRole_dtm (b : Block) (r : Role) : (b.setRole r).dtm = b.dtm := by simp only [Block.setRole, Block.set_dtm]
@[simp] theorem Block.setRole_pool (b : Block) (r : Role) : (b.setRole r).pool = b.pool := by simp only [Block.setRole, Block.set_pool]
@[simp] theorem Block.setRole_ports (b : Block) (r : Role) : (b.setRole r).ports = b.ports := by simp only [Block.setRole, Block.set_ports]
@[simp] theorem Block.setRole_sound (b : Block) (r : Role) : (b.setRole r).sound = b.sound := by simp only [Block.setRole, Block.set_sound]
@[simp] theorem Block.setRole_mac (b : Block) (r : Role) : (b.setRole r).mac = b.mac := by simp only [Block.setRole, Block.set_mac]
@[simp] theorem Block.setRole_trv (b : Block) (r : Role) : (b.setRole r).trv = b.trv := by simp only [Block.setRole, Block.set_trv]
@[simp] theorem Block.setRole_g3 (b : Block) (r : Role) : (b.setRole r).g3 = b.g3 := by simp only [Block.setRole, Block.set_g3]
@[simp] theorem Block.setRole_cx (b : Block) (r : Role) : (b.setRole r).cx = b.cx := by simp only [Block.setRole, Block.set_cx]
@[simp] theorem Block.setRole_sense (b : Block) (r : Role) : (b.setRole r).sense = b.sense := by simp only [Block.setRole, Block.set_sense]
@[simp] theorem Block.setRole_serial (b : Block) (r : Role) : (b.setRole r).serial = b.serial := by simp only [Block.setRole, Block.set_serial]
@[simp] theorem Block.setRole_oscillator (b : Block) (r : Role) : (b.setRole r).oscillator = b.oscillator := by simp only [Block.setRole, Block.set_oscillator]

/-! ### draw -/

@[simp] theorem Block.draw_ticks (b : Block) : (b.draw).ticks = b.ticks := (rfl)
@[simp] theorem Block.draw_dev (b : Block) : (b.draw).dev = b.dev := (rfl)
@[simp] theorem Block.draw_regs (b : Block) : (b.draw).regs = b.regs := (rfl)
@[simp] theorem Block.draw_host (b : Block) : (b.draw).host = b.host := (rfl)
@[simp] theorem Block.draw_strata (b : Block) : (b.draw).strata = b.strata := (rfl)
@[simp] theorem Block.draw_book (b : Block) : (b.draw).book = b.book := (rfl)
@[simp] theorem Block.draw_fault (b : Block) : (b.draw).fault = b.fault := (rfl)
@[simp] theorem Block.draw_journal (b : Block) : (b.draw).journal = b.journal := (rfl)
@[simp] theorem Block.draw_img (b : Block) : (b.draw).img = b.img := (rfl)
@[simp] theorem Block.draw_brg (b : Block) : (b.draw).brg = b.brg := (rfl)
@[simp] theorem Block.draw_dtm (b : Block) : (b.draw).dtm = b.dtm := (rfl)
@[simp] theorem Block.draw_pool (b : Block) : (b.draw).pool = b.pool := (rfl)
@[simp] theorem Block.draw_ports (b : Block) : (b.draw).ports = b.ports := (rfl)
@[simp] theorem Block.draw_sound (b : Block) : (b.draw).sound = b.sound := (rfl)
@[simp] theorem Block.draw_chain (b : Block) : (b.draw).chain = b.chain := (rfl)
@[simp] theorem Block.draw_mac (b : Block) : (b.draw).mac = b.mac := (rfl)
@[simp] theorem Block.draw_trv (b : Block) : (b.draw).trv = b.trv := (rfl)
@[simp] theorem Block.draw_g3 (b : Block) : (b.draw).g3 = b.g3 := (rfl)
@[simp] theorem Block.draw_cx (b : Block) : (b.draw).cx = b.cx := (rfl)
@[simp] theorem Block.draw_sense (b : Block) : (b.draw).sense = b.sense := (rfl)
@[simp] theorem Block.draw_serial (b : Block) : (b.draw).serial = b.serial := (rfl)
@[simp] theorem Block.draw_oscillator (b : Block) : (b.draw).oscillator = b.oscillator := (rfl)

/-! ### setConfig -/

@[simp] theorem Block.setConfig_ticks (b : Block) (fn : Nat) (c : FnConfig) : (b.setConfig fn c).ticks = b.ticks := (rfl)
@[simp] theorem Block.setConfig_drawn (b : Block) (fn : Nat) (c : FnConfig) : (b.setConfig fn c).drawn = b.drawn := (rfl)
@[simp] theorem Block.setConfig_dev (b : Block) (fn : Nat) (c : FnConfig) : (b.setConfig fn c).dev = b.dev := (rfl)
@[simp] theorem Block.setConfig_regs (b : Block) (fn : Nat) (c : FnConfig) : (b.setConfig fn c).regs = b.regs := (rfl)
@[simp] theorem Block.setConfig_strata (b : Block) (fn : Nat) (c : FnConfig) : (b.setConfig fn c).strata = b.strata := (rfl)
@[simp] theorem Block.setConfig_book (b : Block) (fn : Nat) (c : FnConfig) : (b.setConfig fn c).book = b.book := (rfl)
@[simp] theorem Block.setConfig_fault (b : Block) (fn : Nat) (c : FnConfig) : (b.setConfig fn c).fault = b.fault := (rfl)
@[simp] theorem Block.setConfig_journal (b : Block) (fn : Nat) (c : FnConfig) : (b.setConfig fn c).journal = b.journal := (rfl)
@[simp] theorem Block.setConfig_img (b : Block) (fn : Nat) (c : FnConfig) : (b.setConfig fn c).img = b.img := (rfl)
@[simp] theorem Block.setConfig_brg (b : Block) (fn : Nat) (c : FnConfig) : (b.setConfig fn c).brg = b.brg := (rfl)
@[simp] theorem Block.setConfig_dtm (b : Block) (fn : Nat) (c : FnConfig) : (b.setConfig fn c).dtm = b.dtm := (rfl)
@[simp] theorem Block.setConfig_pool (b : Block) (fn : Nat) (c : FnConfig) : (b.setConfig fn c).pool = b.pool := (rfl)
@[simp] theorem Block.setConfig_ports (b : Block) (fn : Nat) (c : FnConfig) : (b.setConfig fn c).ports = b.ports := (rfl)
@[simp] theorem Block.setConfig_sound (b : Block) (fn : Nat) (c : FnConfig) : (b.setConfig fn c).sound = b.sound := (rfl)
@[simp] theorem Block.setConfig_chain (b : Block) (fn : Nat) (c : FnConfig) : (b.setConfig fn c).chain = b.chain := (rfl)
@[simp] theorem Block.setConfig_mac (b : Block) (fn : Nat) (c : FnConfig) : (b.setConfig fn c).mac = b.mac := (rfl)
@[simp] theorem Block.setConfig_trv (b : Block) (fn : Nat) (c : FnConfig) : (b.setConfig fn c).trv = b.trv := (rfl)
@[simp] theorem Block.setConfig_g3 (b : Block) (fn : Nat) (c : FnConfig) : (b.setConfig fn c).g3 = b.g3 := (rfl)
@[simp] theorem Block.setConfig_cx (b : Block) (fn : Nat) (c : FnConfig) : (b.setConfig fn c).cx = b.cx := (rfl)
@[simp] theorem Block.setConfig_sense (b : Block) (fn : Nat) (c : FnConfig) : (b.setConfig fn c).sense = b.sense := (rfl)
@[simp] theorem Block.setConfig_serial (b : Block) (fn : Nat) (c : FnConfig) : (b.setConfig fn c).serial = b.serial := (rfl)
@[simp] theorem Block.setConfig_oscillator (b : Block) (fn : Nat) (c : FnConfig) : (b.setConfig fn c).oscillator = b.oscillator := (rfl)

/-! ### setVectorPending -/

@[simp] theorem Block.setVectorPending_ticks (b : Block) (fn v : Nat) (on : Bool) : (b.setVectorPending fn v on).ticks = b.ticks := (rfl)
@[simp] theorem Block.setVectorPending_drawn (b : Block) (fn v : Nat) (on : Bool) : (b.setVectorPending fn v on).drawn = b.drawn := (rfl)
@[simp] theorem Block.setVectorPending_dev (b : Block) (fn v : Nat) (on : Bool) : (b.setVectorPending fn v on).dev = b.dev := (rfl)
@[simp] theorem Block.setVectorPending_regs (b : Block) (fn v : Nat) (on : Bool) : (b.setVectorPending fn v on).regs = b.regs := (rfl)
@[simp] theorem Block.setVectorPending_strata (b : Block) (fn v : Nat) (on : Bool) : (b.setVectorPending fn v on).strata = b.strata := (rfl)
@[simp] theorem Block.setVectorPending_book (b : Block) (fn v : Nat) (on : Bool) : (b.setVectorPending fn v on).book = b.book := (rfl)
@[simp] theorem Block.setVectorPending_fault (b : Block) (fn v : Nat) (on : Bool) : (b.setVectorPending fn v on).fault = b.fault := (rfl)
@[simp] theorem Block.setVectorPending_journal (b : Block) (fn v : Nat) (on : Bool) : (b.setVectorPending fn v on).journal = b.journal := (rfl)
@[simp] theorem Block.setVectorPending_img (b : Block) (fn v : Nat) (on : Bool) : (b.setVectorPending fn v on).img = b.img := (rfl)
@[simp] theorem Block.setVectorPending_brg (b : Block) (fn v : Nat) (on : Bool) : (b.setVectorPending fn v on).brg = b.brg := (rfl)
@[simp] theorem Block.setVectorPending_dtm (b : Block) (fn v : Nat) (on : Bool) : (b.setVectorPending fn v on).dtm = b.dtm := (rfl)
@[simp] theorem Block.setVectorPending_pool (b : Block) (fn v : Nat) (on : Bool) : (b.setVectorPending fn v on).pool = b.pool := (rfl)
@[simp] theorem Block.setVectorPending_ports (b : Block) (fn v : Nat) (on : Bool) : (b.setVectorPending fn v on).ports = b.ports := (rfl)
@[simp] theorem Block.setVectorPending_sound (b : Block) (fn v : Nat) (on : Bool) : (b.setVectorPending fn v on).sound = b.sound := (rfl)
@[simp] theorem Block.setVectorPending_chain (b : Block) (fn v : Nat) (on : Bool) : (b.setVectorPending fn v on).chain = b.chain := (rfl)
@[simp] theorem Block.setVectorPending_mac (b : Block) (fn v : Nat) (on : Bool) : (b.setVectorPending fn v on).mac = b.mac := (rfl)
@[simp] theorem Block.setVectorPending_trv (b : Block) (fn v : Nat) (on : Bool) : (b.setVectorPending fn v on).trv = b.trv := (rfl)
@[simp] theorem Block.setVectorPending_g3 (b : Block) (fn v : Nat) (on : Bool) : (b.setVectorPending fn v on).g3 = b.g3 := (rfl)
@[simp] theorem Block.setVectorPending_cx (b : Block) (fn v : Nat) (on : Bool) : (b.setVectorPending fn v on).cx = b.cx := (rfl)
@[simp] theorem Block.setVectorPending_sense (b : Block) (fn v : Nat) (on : Bool) : (b.setVectorPending fn v on).sense = b.sense := (rfl)
@[simp] theorem Block.setVectorPending_serial (b : Block) (fn v : Nat) (on : Bool) : (b.setVectorPending fn v on).serial = b.serial := (rfl)
@[simp] theorem Block.setVectorPending_oscillator (b : Block) (fn v : Nat) (on : Bool) : (b.setVectorPending fn v on).oscillator = b.oscillator := (rfl)

/-! ### sendVector -/

@[simp] theorem Block.sendVector_ticks (b : Block) (fn v : Nat) : (b.sendVector fn v).ticks = b.ticks := (rfl)
@[simp] theorem Block.sendVector_drawn (b : Block) (fn v : Nat) : (b.sendVector fn v).drawn = b.drawn := (rfl)
@[simp] theorem Block.sendVector_dev (b : Block) (fn v : Nat) : (b.sendVector fn v).dev = b.dev := (rfl)
@[simp] theorem Block.sendVector_regs (b : Block) (fn v : Nat) : (b.sendVector fn v).regs = b.regs := (rfl)
@[simp] theorem Block.sendVector_strata (b : Block) (fn v : Nat) : (b.sendVector fn v).strata = b.strata := (rfl)
@[simp] theorem Block.sendVector_book (b : Block) (fn v : Nat) : (b.sendVector fn v).book = b.book := (rfl)
@[simp] theorem Block.sendVector_fault (b : Block) (fn v : Nat) : (b.sendVector fn v).fault = b.fault := (rfl)
@[simp] theorem Block.sendVector_journal (b : Block) (fn v : Nat) : (b.sendVector fn v).journal = b.journal := (rfl)
@[simp] theorem Block.sendVector_img (b : Block) (fn v : Nat) : (b.sendVector fn v).img = b.img := (rfl)
@[simp] theorem Block.sendVector_brg (b : Block) (fn v : Nat) : (b.sendVector fn v).brg = b.brg := (rfl)
@[simp] theorem Block.sendVector_dtm (b : Block) (fn v : Nat) : (b.sendVector fn v).dtm = b.dtm := (rfl)
@[simp] theorem Block.sendVector_pool (b : Block) (fn v : Nat) : (b.sendVector fn v).pool = b.pool := (rfl)
@[simp] theorem Block.sendVector_ports (b : Block) (fn v : Nat) : (b.sendVector fn v).ports = b.ports := (rfl)
@[simp] theorem Block.sendVector_sound (b : Block) (fn v : Nat) : (b.sendVector fn v).sound = b.sound := (rfl)
@[simp] theorem Block.sendVector_chain (b : Block) (fn v : Nat) : (b.sendVector fn v).chain = b.chain := (rfl)
@[simp] theorem Block.sendVector_mac (b : Block) (fn v : Nat) : (b.sendVector fn v).mac = b.mac := (rfl)
@[simp] theorem Block.sendVector_trv (b : Block) (fn v : Nat) : (b.sendVector fn v).trv = b.trv := (rfl)
@[simp] theorem Block.sendVector_g3 (b : Block) (fn v : Nat) : (b.sendVector fn v).g3 = b.g3 := (rfl)
@[simp] theorem Block.sendVector_cx (b : Block) (fn v : Nat) : (b.sendVector fn v).cx = b.cx := (rfl)
@[simp] theorem Block.sendVector_sense (b : Block) (fn v : Nat) : (b.sendVector fn v).sense = b.sense := (rfl)
@[simp] theorem Block.sendVector_serial (b : Block) (fn v : Nat) : (b.sendVector fn v).serial = b.serial := (rfl)
@[simp] theorem Block.sendVector_oscillator (b : Block) (fn v : Nat) : (b.sendVector fn v).oscillator = b.oscillator := (rfl)

/-! ### putRecord -/

@[simp] theorem Block.putRecord_ticks (b : Block) (slot : Nat) (r : FbRecord) : (b.putRecord slot r).ticks = b.ticks := (rfl)
@[simp] theorem Block.putRecord_drawn (b : Block) (slot : Nat) (r : FbRecord) : (b.putRecord slot r).drawn = b.drawn := (rfl)
@[simp] theorem Block.putRecord_dev (b : Block) (slot : Nat) (r : FbRecord) : (b.putRecord slot r).dev = b.dev := (rfl)
@[simp] theorem Block.putRecord_regs (b : Block) (slot : Nat) (r : FbRecord) : (b.putRecord slot r).regs = b.regs := (rfl)
@[simp] theorem Block.putRecord_host (b : Block) (slot : Nat) (r : FbRecord) : (b.putRecord slot r).host = b.host := (rfl)
@[simp] theorem Block.putRecord_strata (b : Block) (slot : Nat) (r : FbRecord) : (b.putRecord slot r).strata = b.strata := (rfl)
@[simp] theorem Block.putRecord_fault (b : Block) (slot : Nat) (r : FbRecord) : (b.putRecord slot r).fault = b.fault := (rfl)
@[simp] theorem Block.putRecord_journal (b : Block) (slot : Nat) (r : FbRecord) : (b.putRecord slot r).journal = b.journal := (rfl)
@[simp] theorem Block.putRecord_img (b : Block) (slot : Nat) (r : FbRecord) : (b.putRecord slot r).img = b.img := (rfl)
@[simp] theorem Block.putRecord_brg (b : Block) (slot : Nat) (r : FbRecord) : (b.putRecord slot r).brg = b.brg := (rfl)
@[simp] theorem Block.putRecord_dtm (b : Block) (slot : Nat) (r : FbRecord) : (b.putRecord slot r).dtm = b.dtm := (rfl)
@[simp] theorem Block.putRecord_pool (b : Block) (slot : Nat) (r : FbRecord) : (b.putRecord slot r).pool = b.pool := (rfl)
@[simp] theorem Block.putRecord_ports (b : Block) (slot : Nat) (r : FbRecord) : (b.putRecord slot r).ports = b.ports := (rfl)
@[simp] theorem Block.putRecord_sound (b : Block) (slot : Nat) (r : FbRecord) : (b.putRecord slot r).sound = b.sound := (rfl)
@[simp] theorem Block.putRecord_chain (b : Block) (slot : Nat) (r : FbRecord) : (b.putRecord slot r).chain = b.chain := (rfl)
@[simp] theorem Block.putRecord_mac (b : Block) (slot : Nat) (r : FbRecord) : (b.putRecord slot r).mac = b.mac := (rfl)
@[simp] theorem Block.putRecord_trv (b : Block) (slot : Nat) (r : FbRecord) : (b.putRecord slot r).trv = b.trv := (rfl)
@[simp] theorem Block.putRecord_g3 (b : Block) (slot : Nat) (r : FbRecord) : (b.putRecord slot r).g3 = b.g3 := (rfl)
@[simp] theorem Block.putRecord_cx (b : Block) (slot : Nat) (r : FbRecord) : (b.putRecord slot r).cx = b.cx := (rfl)
@[simp] theorem Block.putRecord_sense (b : Block) (slot : Nat) (r : FbRecord) : (b.putRecord slot r).sense = b.sense := (rfl)
@[simp] theorem Block.putRecord_serial (b : Block) (slot : Nat) (r : FbRecord) : (b.putRecord slot r).serial = b.serial := (rfl)
@[simp] theorem Block.putRecord_oscillator (b : Block) (slot : Nat) (r : FbRecord) : (b.putRecord slot r).oscillator = b.oscillator := (rfl)

/-! ### answerWith -/

@[simp] theorem Block.answerWith_ticks (b : Block) (a : Answer) : (b.answerWith a).ticks = b.ticks := (rfl)
@[simp] theorem Block.answerWith_drawn (b : Block) (a : Answer) : (b.answerWith a).drawn = b.drawn := (rfl)
@[simp] theorem Block.answerWith_dev (b : Block) (a : Answer) : (b.answerWith a).dev = b.dev := (rfl)
@[simp] theorem Block.answerWith_regs (b : Block) (a : Answer) : (b.answerWith a).regs = b.regs := (rfl)
@[simp] theorem Block.answerWith_strata (b : Block) (a : Answer) : (b.answerWith a).strata = b.strata := (rfl)
@[simp] theorem Block.answerWith_book (b : Block) (a : Answer) : (b.answerWith a).book = b.book := (rfl)
@[simp] theorem Block.answerWith_fault (b : Block) (a : Answer) : (b.answerWith a).fault = b.fault := (rfl)
@[simp] theorem Block.answerWith_journal (b : Block) (a : Answer) : (b.answerWith a).journal = b.journal := (rfl)
@[simp] theorem Block.answerWith_img (b : Block) (a : Answer) : (b.answerWith a).img = b.img := (rfl)
@[simp] theorem Block.answerWith_brg (b : Block) (a : Answer) : (b.answerWith a).brg = b.brg := (rfl)
@[simp] theorem Block.answerWith_dtm (b : Block) (a : Answer) : (b.answerWith a).dtm = b.dtm := (rfl)
@[simp] theorem Block.answerWith_pool (b : Block) (a : Answer) : (b.answerWith a).pool = b.pool := (rfl)
@[simp] theorem Block.answerWith_ports (b : Block) (a : Answer) : (b.answerWith a).ports = b.ports := (rfl)
@[simp] theorem Block.answerWith_sound (b : Block) (a : Answer) : (b.answerWith a).sound = b.sound := (rfl)
@[simp] theorem Block.answerWith_chain (b : Block) (a : Answer) : (b.answerWith a).chain = b.chain := (rfl)
@[simp] theorem Block.answerWith_mac (b : Block) (a : Answer) : (b.answerWith a).mac = b.mac := (rfl)
@[simp] theorem Block.answerWith_trv (b : Block) (a : Answer) : (b.answerWith a).trv = b.trv := (rfl)
@[simp] theorem Block.answerWith_g3 (b : Block) (a : Answer) : (b.answerWith a).g3 = b.g3 := (rfl)
@[simp] theorem Block.answerWith_cx (b : Block) (a : Answer) : (b.answerWith a).cx = b.cx := (rfl)
@[simp] theorem Block.answerWith_sense (b : Block) (a : Answer) : (b.answerWith a).sense = b.sense := (rfl)
@[simp] theorem Block.answerWith_serial (b : Block) (a : Answer) : (b.answerWith a).serial = b.serial := (rfl)
@[simp] theorem Block.answerWith_oscillator (b : Block) (a : Answer) : (b.answerWith a).oscillator = b.oscillator := (rfl)

/-! ### dma -/

@[simp] theorem Block.dma_ticks (b : Block) (fn addr : Nat) (bytes : List Byte) : (b.dma fn addr bytes).ticks = b.ticks := (rfl)
@[simp] theorem Block.dma_drawn (b : Block) (fn addr : Nat) (bytes : List Byte) : (b.dma fn addr bytes).drawn = b.drawn := (rfl)
@[simp] theorem Block.dma_dev (b : Block) (fn addr : Nat) (bytes : List Byte) : (b.dma fn addr bytes).dev = b.dev := (rfl)
@[simp] theorem Block.dma_regs (b : Block) (fn addr : Nat) (bytes : List Byte) : (b.dma fn addr bytes).regs = b.regs := (rfl)
@[simp] theorem Block.dma_strata (b : Block) (fn addr : Nat) (bytes : List Byte) : (b.dma fn addr bytes).strata = b.strata := (rfl)
@[simp] theorem Block.dma_book (b : Block) (fn addr : Nat) (bytes : List Byte) : (b.dma fn addr bytes).book = b.book := (rfl)
@[simp] theorem Block.dma_fault (b : Block) (fn addr : Nat) (bytes : List Byte) : (b.dma fn addr bytes).fault = b.fault := (rfl)
@[simp] theorem Block.dma_journal (b : Block) (fn addr : Nat) (bytes : List Byte) : (b.dma fn addr bytes).journal = b.journal := (rfl)
@[simp] theorem Block.dma_img (b : Block) (fn addr : Nat) (bytes : List Byte) : (b.dma fn addr bytes).img = b.img := (rfl)
@[simp] theorem Block.dma_brg (b : Block) (fn addr : Nat) (bytes : List Byte) : (b.dma fn addr bytes).brg = b.brg := (rfl)
@[simp] theorem Block.dma_dtm (b : Block) (fn addr : Nat) (bytes : List Byte) : (b.dma fn addr bytes).dtm = b.dtm := (rfl)
@[simp] theorem Block.dma_pool (b : Block) (fn addr : Nat) (bytes : List Byte) : (b.dma fn addr bytes).pool = b.pool := (rfl)
@[simp] theorem Block.dma_ports (b : Block) (fn addr : Nat) (bytes : List Byte) : (b.dma fn addr bytes).ports = b.ports := (rfl)
@[simp] theorem Block.dma_sound (b : Block) (fn addr : Nat) (bytes : List Byte) : (b.dma fn addr bytes).sound = b.sound := (rfl)
@[simp] theorem Block.dma_chain (b : Block) (fn addr : Nat) (bytes : List Byte) : (b.dma fn addr bytes).chain = b.chain := (rfl)
@[simp] theorem Block.dma_mac (b : Block) (fn addr : Nat) (bytes : List Byte) : (b.dma fn addr bytes).mac = b.mac := (rfl)
@[simp] theorem Block.dma_trv (b : Block) (fn addr : Nat) (bytes : List Byte) : (b.dma fn addr bytes).trv = b.trv := (rfl)
@[simp] theorem Block.dma_g3 (b : Block) (fn addr : Nat) (bytes : List Byte) : (b.dma fn addr bytes).g3 = b.g3 := (rfl)
@[simp] theorem Block.dma_cx (b : Block) (fn addr : Nat) (bytes : List Byte) : (b.dma fn addr bytes).cx = b.cx := (rfl)
@[simp] theorem Block.dma_sense (b : Block) (fn addr : Nat) (bytes : List Byte) : (b.dma fn addr bytes).sense = b.sense := (rfl)
@[simp] theorem Block.dma_serial (b : Block) (fn addr : Nat) (bytes : List Byte) : (b.dma fn addr bytes).serial = b.serial := (rfl)
@[simp] theorem Block.dma_oscillator (b : Block) (fn addr : Nat) (bytes : List Byte) : (b.dma fn addr bytes).oscillator = b.oscillator := (rfl)

/-! ### startTimer -/

@[simp] theorem Block.startTimer_ticks (b : Block) : (b.startTimer).ticks = b.ticks := (rfl)
@[simp] theorem Block.startTimer_drawn (b : Block) : (b.startTimer).drawn = b.drawn := (rfl)
@[simp] theorem Block.startTimer_dev (b : Block) : (b.startTimer).dev = b.dev := (rfl)
@[simp] theorem Block.startTimer_regs (b : Block) : (b.startTimer).regs = b.regs := (rfl)
@[simp] theorem Block.startTimer_host (b : Block) : (b.startTimer).host = b.host := (rfl)
@[simp] theorem Block.startTimer_strata (b : Block) : (b.startTimer).strata = b.strata := (rfl)
@[simp] theorem Block.startTimer_book (b : Block) : (b.startTimer).book = b.book := (rfl)
@[simp] theorem Block.startTimer_journal (b : Block) : (b.startTimer).journal = b.journal := (rfl)
@[simp] theorem Block.startTimer_img (b : Block) : (b.startTimer).img = b.img := (rfl)
@[simp] theorem Block.startTimer_brg (b : Block) : (b.startTimer).brg = b.brg := (rfl)
@[simp] theorem Block.startTimer_dtm (b : Block) : (b.startTimer).dtm = b.dtm := (rfl)
@[simp] theorem Block.startTimer_pool (b : Block) : (b.startTimer).pool = b.pool := (rfl)
@[simp] theorem Block.startTimer_ports (b : Block) : (b.startTimer).ports = b.ports := (rfl)
@[simp] theorem Block.startTimer_sound (b : Block) : (b.startTimer).sound = b.sound := (rfl)
@[simp] theorem Block.startTimer_chain (b : Block) : (b.startTimer).chain = b.chain := (rfl)
@[simp] theorem Block.startTimer_mac (b : Block) : (b.startTimer).mac = b.mac := (rfl)
@[simp] theorem Block.startTimer_trv (b : Block) : (b.startTimer).trv = b.trv := (rfl)
@[simp] theorem Block.startTimer_g3 (b : Block) : (b.startTimer).g3 = b.g3 := (rfl)
@[simp] theorem Block.startTimer_cx (b : Block) : (b.startTimer).cx = b.cx := (rfl)
@[simp] theorem Block.startTimer_sense (b : Block) : (b.startTimer).sense = b.sense := (rfl)
@[simp] theorem Block.startTimer_serial (b : Block) : (b.startTimer).serial = b.serial := (rfl)
@[simp] theorem Block.startTimer_oscillator (b : Block) : (b.startTimer).oscillator = b.oscillator := (rfl)

/-! ### setQ -/

@[simp] theorem Block.setQ_ticks (b : Block) (q : Nat) (st : QueueSt) : (b.setQ q st).ticks = b.ticks := (rfl)
@[simp] theorem Block.setQ_drawn (b : Block) (q : Nat) (st : QueueSt) : (b.setQ q st).drawn = b.drawn := (rfl)
@[simp] theorem Block.setQ_dev (b : Block) (q : Nat) (st : QueueSt) : (b.setQ q st).dev = b.dev := (rfl)
@[simp] theorem Block.setQ_regs (b : Block) (q : Nat) (st : QueueSt) : (b.setQ q st).regs = b.regs := (rfl)
@[simp] theorem Block.setQ_host (b : Block) (q : Nat) (st : QueueSt) : (b.setQ q st).host = b.host := (rfl)
@[simp] theorem Block.setQ_book (b : Block) (q : Nat) (st : QueueSt) : (b.setQ q st).book = b.book := (rfl)
@[simp] theorem Block.setQ_fault (b : Block) (q : Nat) (st : QueueSt) : (b.setQ q st).fault = b.fault := (rfl)
@[simp] theorem Block.setQ_journal (b : Block) (q : Nat) (st : QueueSt) : (b.setQ q st).journal = b.journal := (rfl)
@[simp] theorem Block.setQ_img (b : Block) (q : Nat) (st : QueueSt) : (b.setQ q st).img = b.img := (rfl)
@[simp] theorem Block.setQ_brg (b : Block) (q : Nat) (st : QueueSt) : (b.setQ q st).brg = b.brg := (rfl)
@[simp] theorem Block.setQ_dtm (b : Block) (q : Nat) (st : QueueSt) : (b.setQ q st).dtm = b.dtm := (rfl)
@[simp] theorem Block.setQ_pool (b : Block) (q : Nat) (st : QueueSt) : (b.setQ q st).pool = b.pool := (rfl)
@[simp] theorem Block.setQ_ports (b : Block) (q : Nat) (st : QueueSt) : (b.setQ q st).ports = b.ports := (rfl)
@[simp] theorem Block.setQ_sound (b : Block) (q : Nat) (st : QueueSt) : (b.setQ q st).sound = b.sound := (rfl)
@[simp] theorem Block.setQ_chain (b : Block) (q : Nat) (st : QueueSt) : (b.setQ q st).chain = b.chain := (rfl)
@[simp] theorem Block.setQ_mac (b : Block) (q : Nat) (st : QueueSt) : (b.setQ q st).mac = b.mac := (rfl)
@[simp] theorem Block.setQ_trv (b : Block) (q : Nat) (st : QueueSt) : (b.setQ q st).trv = b.trv := (rfl)
@[simp] theorem Block.setQ_g3 (b : Block) (q : Nat) (st : QueueSt) : (b.setQ q st).g3 = b.g3 := (rfl)
@[simp] theorem Block.setQ_cx (b : Block) (q : Nat) (st : QueueSt) : (b.setQ q st).cx = b.cx := (rfl)
@[simp] theorem Block.setQ_sense (b : Block) (q : Nat) (st : QueueSt) : (b.setQ q st).sense = b.sense := (rfl)
@[simp] theorem Block.setQ_serial (b : Block) (q : Nat) (st : QueueSt) : (b.setQ q st).serial = b.serial := (rfl)
@[simp] theorem Block.setQ_oscillator (b : Block) (q : Nat) (st : QueueSt) : (b.setQ q st).oscillator = b.oscillator := (rfl)

/-! ### setConv -/

@[simp] theorem Block.setConv_ticks (b : Block) (fn : Nat) (c : ConvSt) : (b.setConv fn c).ticks = b.ticks := (rfl)
@[simp] theorem Block.setConv_drawn (b : Block) (fn : Nat) (c : ConvSt) : (b.setConv fn c).drawn = b.drawn := (rfl)
@[simp] theorem Block.setConv_dev (b : Block) (fn : Nat) (c : ConvSt) : (b.setConv fn c).dev = b.dev := (rfl)
@[simp] theorem Block.setConv_regs (b : Block) (fn : Nat) (c : ConvSt) : (b.setConv fn c).regs = b.regs := (rfl)
@[simp] theorem Block.setConv_host (b : Block) (fn : Nat) (c : ConvSt) : (b.setConv fn c).host = b.host := (rfl)
@[simp] theorem Block.setConv_book (b : Block) (fn : Nat) (c : ConvSt) : (b.setConv fn c).book = b.book := (rfl)
@[simp] theorem Block.setConv_fault (b : Block) (fn : Nat) (c : ConvSt) : (b.setConv fn c).fault = b.fault := (rfl)
@[simp] theorem Block.setConv_journal (b : Block) (fn : Nat) (c : ConvSt) : (b.setConv fn c).journal = b.journal := (rfl)
@[simp] theorem Block.setConv_img (b : Block) (fn : Nat) (c : ConvSt) : (b.setConv fn c).img = b.img := (rfl)
@[simp] theorem Block.setConv_brg (b : Block) (fn : Nat) (c : ConvSt) : (b.setConv fn c).brg = b.brg := (rfl)
@[simp] theorem Block.setConv_dtm (b : Block) (fn : Nat) (c : ConvSt) : (b.setConv fn c).dtm = b.dtm := (rfl)
@[simp] theorem Block.setConv_pool (b : Block) (fn : Nat) (c : ConvSt) : (b.setConv fn c).pool = b.pool := (rfl)
@[simp] theorem Block.setConv_ports (b : Block) (fn : Nat) (c : ConvSt) : (b.setConv fn c).ports = b.ports := (rfl)
@[simp] theorem Block.setConv_sound (b : Block) (fn : Nat) (c : ConvSt) : (b.setConv fn c).sound = b.sound := (rfl)
@[simp] theorem Block.setConv_chain (b : Block) (fn : Nat) (c : ConvSt) : (b.setConv fn c).chain = b.chain := (rfl)
@[simp] theorem Block.setConv_mac (b : Block) (fn : Nat) (c : ConvSt) : (b.setConv fn c).mac = b.mac := (rfl)
@[simp] theorem Block.setConv_trv (b : Block) (fn : Nat) (c : ConvSt) : (b.setConv fn c).trv = b.trv := (rfl)
@[simp] theorem Block.setConv_g3 (b : Block) (fn : Nat) (c : ConvSt) : (b.setConv fn c).g3 = b.g3 := (rfl)
@[simp] theorem Block.setConv_cx (b : Block) (fn : Nat) (c : ConvSt) : (b.setConv fn c).cx = b.cx := (rfl)
@[simp] theorem Block.setConv_sense (b : Block) (fn : Nat) (c : ConvSt) : (b.setConv fn c).sense = b.sense := (rfl)
@[simp] theorem Block.setConv_serial (b : Block) (fn : Nat) (c : ConvSt) : (b.setConv fn c).serial = b.serial := (rfl)
@[simp] theorem Block.setConv_oscillator (b : Block) (fn : Nat) (c : ConvSt) : (b.setConv fn c).oscillator = b.oscillator := (rfl)

/-! ### setPort -/

@[simp] theorem Block.setPort_ticks (b : Block) (n : Nat) (p : PortSt) : (b.setPort n p).ticks = b.ticks := (rfl)
@[simp] theorem Block.setPort_drawn (b : Block) (n : Nat) (p : PortSt) : (b.setPort n p).drawn = b.drawn := (rfl)
@[simp] theorem Block.setPort_dev (b : Block) (n : Nat) (p : PortSt) : (b.setPort n p).dev = b.dev := (rfl)
@[simp] theorem Block.setPort_regs (b : Block) (n : Nat) (p : PortSt) : (b.setPort n p).regs = b.regs := (rfl)
@[simp] theorem Block.setPort_host (b : Block) (n : Nat) (p : PortSt) : (b.setPort n p).host = b.host := (rfl)
@[simp] theorem Block.setPort_strata (b : Block) (n : Nat) (p : PortSt) : (b.setPort n p).strata = b.strata := (rfl)
@[simp] theorem Block.setPort_book (b : Block) (n : Nat) (p : PortSt) : (b.setPort n p).book = b.book := (rfl)
@[simp] theorem Block.setPort_fault (b : Block) (n : Nat) (p : PortSt) : (b.setPort n p).fault = b.fault := (rfl)
@[simp] theorem Block.setPort_journal (b : Block) (n : Nat) (p : PortSt) : (b.setPort n p).journal = b.journal := (rfl)
@[simp] theorem Block.setPort_img (b : Block) (n : Nat) (p : PortSt) : (b.setPort n p).img = b.img := (rfl)
@[simp] theorem Block.setPort_brg (b : Block) (n : Nat) (p : PortSt) : (b.setPort n p).brg = b.brg := (rfl)
@[simp] theorem Block.setPort_dtm (b : Block) (n : Nat) (p : PortSt) : (b.setPort n p).dtm = b.dtm := (rfl)
@[simp] theorem Block.setPort_pool (b : Block) (n : Nat) (p : PortSt) : (b.setPort n p).pool = b.pool := (rfl)
@[simp] theorem Block.setPort_sound (b : Block) (n : Nat) (p : PortSt) : (b.setPort n p).sound = b.sound := (rfl)
@[simp] theorem Block.setPort_chain (b : Block) (n : Nat) (p : PortSt) : (b.setPort n p).chain = b.chain := (rfl)
@[simp] theorem Block.setPort_mac (b : Block) (n : Nat) (p : PortSt) : (b.setPort n p).mac = b.mac := (rfl)
@[simp] theorem Block.setPort_trv (b : Block) (n : Nat) (p : PortSt) : (b.setPort n p).trv = b.trv := (rfl)
@[simp] theorem Block.setPort_g3 (b : Block) (n : Nat) (p : PortSt) : (b.setPort n p).g3 = b.g3 := (rfl)
@[simp] theorem Block.setPort_cx (b : Block) (n : Nat) (p : PortSt) : (b.setPort n p).cx = b.cx := (rfl)
@[simp] theorem Block.setPort_sense (b : Block) (n : Nat) (p : PortSt) : (b.setPort n p).sense = b.sense := (rfl)
@[simp] theorem Block.setPort_serial (b : Block) (n : Nat) (p : PortSt) : (b.setPort n p).serial = b.serial := (rfl)
@[simp] theorem Block.setPort_oscillator (b : Block) (n : Nat) (p : PortSt) : (b.setPort n p).oscillator = b.oscillator := (rfl)

/-! ### setLane -/

@[simp] theorem Block.setLane_ticks (b : Block) (l : Nat) (x : Lane) : (b.setLane l x).ticks = b.ticks := (rfl)
@[simp] theorem Block.setLane_drawn (b : Block) (l : Nat) (x : Lane) : (b.setLane l x).drawn = b.drawn := (rfl)
@[simp] theorem Block.setLane_dev (b : Block) (l : Nat) (x : Lane) : (b.setLane l x).dev = b.dev := (rfl)
@[simp] theorem Block.setLane_regs (b : Block) (l : Nat) (x : Lane) : (b.setLane l x).regs = b.regs := (rfl)
@[simp] theorem Block.setLane_host (b : Block) (l : Nat) (x : Lane) : (b.setLane l x).host = b.host := (rfl)
@[simp] theorem Block.setLane_strata (b : Block) (l : Nat) (x : Lane) : (b.setLane l x).strata = b.strata := (rfl)
@[simp] theorem Block.setLane_book (b : Block) (l : Nat) (x : Lane) : (b.setLane l x).book = b.book := (rfl)
@[simp] theorem Block.setLane_fault (b : Block) (l : Nat) (x : Lane) : (b.setLane l x).fault = b.fault := (rfl)
@[simp] theorem Block.setLane_journal (b : Block) (l : Nat) (x : Lane) : (b.setLane l x).journal = b.journal := (rfl)
@[simp] theorem Block.setLane_img (b : Block) (l : Nat) (x : Lane) : (b.setLane l x).img = b.img := (rfl)
@[simp] theorem Block.setLane_brg (b : Block) (l : Nat) (x : Lane) : (b.setLane l x).brg = b.brg := (rfl)
@[simp] theorem Block.setLane_dtm (b : Block) (l : Nat) (x : Lane) : (b.setLane l x).dtm = b.dtm := (rfl)
@[simp] theorem Block.setLane_ports (b : Block) (l : Nat) (x : Lane) : (b.setLane l x).ports = b.ports := (rfl)
@[simp] theorem Block.setLane_sound (b : Block) (l : Nat) (x : Lane) : (b.setLane l x).sound = b.sound := (rfl)
@[simp] theorem Block.setLane_chain (b : Block) (l : Nat) (x : Lane) : (b.setLane l x).chain = b.chain := (rfl)
@[simp] theorem Block.setLane_mac (b : Block) (l : Nat) (x : Lane) : (b.setLane l x).mac = b.mac := (rfl)
@[simp] theorem Block.setLane_trv (b : Block) (l : Nat) (x : Lane) : (b.setLane l x).trv = b.trv := (rfl)
@[simp] theorem Block.setLane_g3 (b : Block) (l : Nat) (x : Lane) : (b.setLane l x).g3 = b.g3 := (rfl)
@[simp] theorem Block.setLane_cx (b : Block) (l : Nat) (x : Lane) : (b.setLane l x).cx = b.cx := (rfl)
@[simp] theorem Block.setLane_sense (b : Block) (l : Nat) (x : Lane) : (b.setLane l x).sense = b.sense := (rfl)
@[simp] theorem Block.setLane_serial (b : Block) (l : Nat) (x : Lane) : (b.setLane l x).serial = b.serial := (rfl)
@[simp] theorem Block.setLane_oscillator (b : Block) (l : Nat) (x : Lane) : (b.setLane l x).oscillator = b.oscillator := (rfl)

/-! ### setSenseCh -/

@[simp] theorem Block.setSenseCh_ticks (b : Block) (k : Nat) (c : SenseCh) : (b.setSenseCh k c).ticks = b.ticks := (rfl)
@[simp] theorem Block.setSenseCh_drawn (b : Block) (k : Nat) (c : SenseCh) : (b.setSenseCh k c).drawn = b.drawn := (rfl)
@[simp] theorem Block.setSenseCh_dev (b : Block) (k : Nat) (c : SenseCh) : (b.setSenseCh k c).dev = b.dev := (rfl)
@[simp] theorem Block.setSenseCh_regs (b : Block) (k : Nat) (c : SenseCh) : (b.setSenseCh k c).regs = b.regs := (rfl)
@[simp] theorem Block.setSenseCh_host (b : Block) (k : Nat) (c : SenseCh) : (b.setSenseCh k c).host = b.host := (rfl)
@[simp] theorem Block.setSenseCh_strata (b : Block) (k : Nat) (c : SenseCh) : (b.setSenseCh k c).strata = b.strata := (rfl)
@[simp] theorem Block.setSenseCh_book (b : Block) (k : Nat) (c : SenseCh) : (b.setSenseCh k c).book = b.book := (rfl)
@[simp] theorem Block.setSenseCh_fault (b : Block) (k : Nat) (c : SenseCh) : (b.setSenseCh k c).fault = b.fault := (rfl)
@[simp] theorem Block.setSenseCh_journal (b : Block) (k : Nat) (c : SenseCh) : (b.setSenseCh k c).journal = b.journal := (rfl)
@[simp] theorem Block.setSenseCh_img (b : Block) (k : Nat) (c : SenseCh) : (b.setSenseCh k c).img = b.img := (rfl)
@[simp] theorem Block.setSenseCh_brg (b : Block) (k : Nat) (c : SenseCh) : (b.setSenseCh k c).brg = b.brg := (rfl)
@[simp] theorem Block.setSenseCh_dtm (b : Block) (k : Nat) (c : SenseCh) : (b.setSenseCh k c).dtm = b.dtm := (rfl)
@[simp] theorem Block.setSenseCh_pool (b : Block) (k : Nat) (c : SenseCh) : (b.setSenseCh k c).pool = b.pool := (rfl)
@[simp] theorem Block.setSenseCh_ports (b : Block) (k : Nat) (c : SenseCh) : (b.setSenseCh k c).ports = b.ports := (rfl)
@[simp] theorem Block.setSenseCh_sound (b : Block) (k : Nat) (c : SenseCh) : (b.setSenseCh k c).sound = b.sound := (rfl)
@[simp] theorem Block.setSenseCh_chain (b : Block) (k : Nat) (c : SenseCh) : (b.setSenseCh k c).chain = b.chain := (rfl)
@[simp] theorem Block.setSenseCh_mac (b : Block) (k : Nat) (c : SenseCh) : (b.setSenseCh k c).mac = b.mac := (rfl)
@[simp] theorem Block.setSenseCh_trv (b : Block) (k : Nat) (c : SenseCh) : (b.setSenseCh k c).trv = b.trv := (rfl)
@[simp] theorem Block.setSenseCh_g3 (b : Block) (k : Nat) (c : SenseCh) : (b.setSenseCh k c).g3 = b.g3 := (rfl)
@[simp] theorem Block.setSenseCh_cx (b : Block) (k : Nat) (c : SenseCh) : (b.setSenseCh k c).cx = b.cx := (rfl)
@[simp] theorem Block.setSenseCh_serial (b : Block) (k : Nat) (c : SenseCh) : (b.setSenseCh k c).serial = b.serial := (rfl)
@[simp] theorem Block.setSenseCh_oscillator (b : Block) (k : Nat) (c : SenseCh) : (b.setSenseCh k c).oscillator = b.oscillator := (rfl)

/-! ### releaseLine -/

@[simp] theorem Block.releaseLine_ticks (b : Block) : (b.releaseLine).ticks = b.ticks := (rfl)
@[simp] theorem Block.releaseLine_drawn (b : Block) : (b.releaseLine).drawn = b.drawn := (rfl)
@[simp] theorem Block.releaseLine_dev (b : Block) : (b.releaseLine).dev = b.dev := (rfl)
@[simp] theorem Block.releaseLine_regs (b : Block) : (b.releaseLine).regs = b.regs := (rfl)
@[simp] theorem Block.releaseLine_host (b : Block) : (b.releaseLine).host = b.host := (rfl)
@[simp] theorem Block.releaseLine_strata (b : Block) : (b.releaseLine).strata = b.strata := (rfl)
@[simp] theorem Block.releaseLine_book (b : Block) : (b.releaseLine).book = b.book := (rfl)
@[simp] theorem Block.releaseLine_fault (b : Block) : (b.releaseLine).fault = b.fault := (rfl)
@[simp] theorem Block.releaseLine_journal (b : Block) : (b.releaseLine).journal = b.journal := (rfl)
@[simp] theorem Block.releaseLine_img (b : Block) : (b.releaseLine).img = b.img := (rfl)
@[simp] theorem Block.releaseLine_brg (b : Block) : (b.releaseLine).brg = b.brg := (rfl)
@[simp] theorem Block.releaseLine_dtm (b : Block) : (b.releaseLine).dtm = b.dtm := (rfl)
@[simp] theorem Block.releaseLine_pool (b : Block) : (b.releaseLine).pool = b.pool := (rfl)
@[simp] theorem Block.releaseLine_sound (b : Block) : (b.releaseLine).sound = b.sound := (rfl)
@[simp] theorem Block.releaseLine_trv (b : Block) : (b.releaseLine).trv = b.trv := (rfl)
@[simp] theorem Block.releaseLine_g3 (b : Block) : (b.releaseLine).g3 = b.g3 := (rfl)
@[simp] theorem Block.releaseLine_cx (b : Block) : (b.releaseLine).cx = b.cx := (rfl)
@[simp] theorem Block.releaseLine_sense (b : Block) : (b.releaseLine).sense = b.sense := (rfl)
@[simp] theorem Block.releaseLine_serial (b : Block) : (b.releaseLine).serial = b.serial := (rfl)
@[simp] theorem Block.releaseLine_oscillator (b : Block) : (b.releaseLine).oscillator = b.oscillator := (rfl)

/-! ### shortRings -/

@[simp] theorem Block.shortRings_ticks (b : Block) : (b.shortRings).ticks = b.ticks := (rfl)
@[simp] theorem Block.shortRings_drawn (b : Block) : (b.shortRings).drawn = b.drawn := (rfl)
@[simp] theorem Block.shortRings_dev (b : Block) : (b.shortRings).dev = b.dev := (rfl)
@[simp] theorem Block.shortRings_regs (b : Block) : (b.shortRings).regs = b.regs := (rfl)
@[simp] theorem Block.shortRings_host (b : Block) : (b.shortRings).host = b.host := (rfl)
@[simp] theorem Block.shortRings_strata (b : Block) : (b.shortRings).strata = b.strata := (rfl)
@[simp] theorem Block.shortRings_book (b : Block) : (b.shortRings).book = b.book := (rfl)
@[simp] theorem Block.shortRings_fault (b : Block) : (b.shortRings).fault = b.fault := (rfl)
@[simp] theorem Block.shortRings_journal (b : Block) : (b.shortRings).journal = b.journal := (rfl)
@[simp] theorem Block.shortRings_img (b : Block) : (b.shortRings).img = b.img := (rfl)
@[simp] theorem Block.shortRings_brg (b : Block) : (b.shortRings).brg = b.brg := (rfl)
@[simp] theorem Block.shortRings_dtm (b : Block) : (b.shortRings).dtm = b.dtm := (rfl)
@[simp] theorem Block.shortRings_pool (b : Block) : (b.shortRings).pool = b.pool := (rfl)
@[simp] theorem Block.shortRings_ports (b : Block) : (b.shortRings).ports = b.ports := (rfl)
@[simp] theorem Block.shortRings_sound (b : Block) : (b.shortRings).sound = b.sound := (rfl)
@[simp] theorem Block.shortRings_mac (b : Block) : (b.shortRings).mac = b.mac := (rfl)
@[simp] theorem Block.shortRings_trv (b : Block) : (b.shortRings).trv = b.trv := (rfl)
@[simp] theorem Block.shortRings_g3 (b : Block) : (b.shortRings).g3 = b.g3 := (rfl)
@[simp] theorem Block.shortRings_cx (b : Block) : (b.shortRings).cx = b.cx := (rfl)
@[simp] theorem Block.shortRings_sense (b : Block) : (b.shortRings).sense = b.sense := (rfl)
@[simp] theorem Block.shortRings_serial (b : Block) : (b.shortRings).serial = b.serial := (rfl)
@[simp] theorem Block.shortRings_oscillator (b : Block) : (b.shortRings).oscillator = b.oscillator := (rfl)

/-! ### hushOutputs -/

@[simp] theorem Block.hushOutputs_ticks (b : Block) : (b.hushOutputs).ticks = b.ticks := (rfl)
@[simp] theorem Block.hushOutputs_drawn (b : Block) : (b.hushOutputs).drawn = b.drawn := (rfl)
@[simp] theorem Block.hushOutputs_dev (b : Block) : (b.hushOutputs).dev = b.dev := (rfl)
@[simp] theorem Block.hushOutputs_regs (b : Block) : (b.hushOutputs).regs = b.regs := (rfl)
@[simp] theorem Block.hushOutputs_host (b : Block) : (b.hushOutputs).host = b.host := (rfl)
@[simp] theorem Block.hushOutputs_strata (b : Block) : (b.hushOutputs).strata = b.strata := (rfl)
@[simp] theorem Block.hushOutputs_book (b : Block) : (b.hushOutputs).book = b.book := (rfl)
@[simp] theorem Block.hushOutputs_fault (b : Block) : (b.hushOutputs).fault = b.fault := (rfl)
@[simp] theorem Block.hushOutputs_journal (b : Block) : (b.hushOutputs).journal = b.journal := (rfl)
@[simp] theorem Block.hushOutputs_img (b : Block) : (b.hushOutputs).img = b.img := (rfl)
@[simp] theorem Block.hushOutputs_brg (b : Block) : (b.hushOutputs).brg = b.brg := (rfl)
@[simp] theorem Block.hushOutputs_pool (b : Block) : (b.hushOutputs).pool = b.pool := (rfl)
@[simp] theorem Block.hushOutputs_ports (b : Block) : (b.hushOutputs).ports = b.ports := (rfl)
@[simp] theorem Block.hushOutputs_sound (b : Block) : (b.hushOutputs).sound = b.sound := (rfl)
@[simp] theorem Block.hushOutputs_chain (b : Block) : (b.hushOutputs).chain = b.chain := (rfl)
@[simp] theorem Block.hushOutputs_mac (b : Block) : (b.hushOutputs).mac = b.mac := (rfl)
@[simp] theorem Block.hushOutputs_trv (b : Block) : (b.hushOutputs).trv = b.trv := (rfl)
@[simp] theorem Block.hushOutputs_g3 (b : Block) : (b.hushOutputs).g3 = b.g3 := (rfl)
@[simp] theorem Block.hushOutputs_cx (b : Block) : (b.hushOutputs).cx = b.cx := (rfl)
@[simp] theorem Block.hushOutputs_sense (b : Block) : (b.hushOutputs).sense = b.sense := (rfl)
@[simp] theorem Block.hushOutputs_oscillator (b : Block) : (b.hushOutputs).oscillator = b.oscillator := (rfl)

/-! ### setSp -/

@[simp] theorem Block.setSp_ticks (b : Block) (p : Nat) (x : SerialPort) : (b.setSp p x).ticks = b.ticks := by simp only [Block.setSp, Block.setAll_ticks]
@[simp] theorem Block.setSp_drawn (b : Block) (p : Nat) (x : SerialPort) : (b.setSp p x).drawn = b.drawn := by simp only [Block.setSp, Block.setAll_drawn]
@[simp] theorem Block.setSp_dev (b : Block) (p : Nat) (x : SerialPort) : (b.setSp p x).dev = b.dev := by simp only [Block.setSp, Block.setAll_dev]
@[simp] theorem Block.setSp_host (b : Block) (p : Nat) (x : SerialPort) : (b.setSp p x).host = b.host := by simp only [Block.setSp, Block.setAll_host]
@[simp] theorem Block.setSp_strata (b : Block) (p : Nat) (x : SerialPort) : (b.setSp p x).strata = b.strata := by simp only [Block.setSp, Block.setAll_strata]
@[simp] theorem Block.setSp_book (b : Block) (p : Nat) (x : SerialPort) : (b.setSp p x).book = b.book := by simp only [Block.setSp, Block.setAll_book]
@[simp] theorem Block.setSp_fault (b : Block) (p : Nat) (x : SerialPort) : (b.setSp p x).fault = b.fault := by simp only [Block.setSp, Block.setAll_fault]
@[simp] theorem Block.setSp_journal (b : Block) (p : Nat) (x : SerialPort) : (b.setSp p x).journal = b.journal := by simp only [Block.setSp, Block.setAll_journal]
@[simp] theorem Block.setSp_img (b : Block) (p : Nat) (x : SerialPort) : (b.setSp p x).img = b.img := by simp only [Block.setSp, Block.setAll_img]
@[simp] theorem Block.setSp_brg (b : Block) (p : Nat) (x : SerialPort) : (b.setSp p x).brg = b.brg := by simp only [Block.setSp, Block.setAll_brg]
@[simp] theorem Block.setSp_dtm (b : Block) (p : Nat) (x : SerialPort) : (b.setSp p x).dtm = b.dtm := by simp only [Block.setSp, Block.setAll_dtm]
@[simp] theorem Block.setSp_pool (b : Block) (p : Nat) (x : SerialPort) : (b.setSp p x).pool = b.pool := by simp only [Block.setSp, Block.setAll_pool]
@[simp] theorem Block.setSp_ports (b : Block) (p : Nat) (x : SerialPort) : (b.setSp p x).ports = b.ports := by simp only [Block.setSp, Block.setAll_ports]
@[simp] theorem Block.setSp_sound (b : Block) (p : Nat) (x : SerialPort) : (b.setSp p x).sound = b.sound := by simp only [Block.setSp, Block.setAll_sound]
@[simp] theorem Block.setSp_chain (b : Block) (p : Nat) (x : SerialPort) : (b.setSp p x).chain = b.chain := by simp only [Block.setSp, Block.setAll_chain]
@[simp] theorem Block.setSp_mac (b : Block) (p : Nat) (x : SerialPort) : (b.setSp p x).mac = b.mac := by simp only [Block.setSp, Block.setAll_mac]
@[simp] theorem Block.setSp_trv (b : Block) (p : Nat) (x : SerialPort) : (b.setSp p x).trv = b.trv := by simp only [Block.setSp, Block.setAll_trv]
@[simp] theorem Block.setSp_g3 (b : Block) (p : Nat) (x : SerialPort) : (b.setSp p x).g3 = b.g3 := by simp only [Block.setSp, Block.setAll_g3]
@[simp] theorem Block.setSp_cx (b : Block) (p : Nat) (x : SerialPort) : (b.setSp p x).cx = b.cx := by simp only [Block.setSp, Block.setAll_cx]
@[simp] theorem Block.setSp_sense (b : Block) (p : Nat) (x : SerialPort) : (b.setSp p x).sense = b.sense := by simp only [Block.setSp, Block.setAll_sense]
@[simp] theorem Block.setSp_oscillator (b : Block) (p : Nat) (x : SerialPort) : (b.setSp p x).oscillator = b.oscillator := by simp only [Block.setSp, Block.setAll_oscillator]

/-! ### openSwitches -/

@[simp] theorem Block.openSwitches_ticks (b : Block) (n : Nat) : (b.openSwitches n).ticks = b.ticks := by simp only [Block.openSwitches, Block.set_ticks, Block.setPort_ticks]
@[simp] theorem Block.openSwitches_drawn (b : Block) (n : Nat) : (b.openSwitches n).drawn = b.drawn := by simp only [Block.openSwitches, Block.set_drawn, Block.setPort_drawn]
@[simp] theorem Block.openSwitches_dev (b : Block) (n : Nat) : (b.openSwitches n).dev = b.dev := by simp only [Block.openSwitches, Block.set_dev, Block.setPort_dev]
@[simp] theorem Block.openSwitches_host (b : Block) (n : Nat) : (b.openSwitches n).host = b.host := by simp only [Block.openSwitches, Block.set_host, Block.setPort_host]
@[simp] theorem Block.openSwitches_strata (b : Block) (n : Nat) : (b.openSwitches n).strata = b.strata := by simp only [Block.openSwitches, Block.set_strata, Block.setPort_strata]
@[simp] theorem Block.openSwitches_book (b : Block) (n : Nat) : (b.openSwitches n).book = b.book := by simp only [Block.openSwitches, Block.set_book, Block.setPort_book]
@[simp] theorem Block.openSwitches_fault (b : Block) (n : Nat) : (b.openSwitches n).fault = b.fault := by simp only [Block.openSwitches, Block.set_fault, Block.setPort_fault]
@[simp] theorem Block.openSwitches_journal (b : Block) (n : Nat) : (b.openSwitches n).journal = b.journal := by simp only [Block.openSwitches, Block.set_journal, Block.setPort_journal]
@[simp] theorem Block.openSwitches_img (b : Block) (n : Nat) : (b.openSwitches n).img = b.img := by simp only [Block.openSwitches, Block.set_img, Block.setPort_img]
@[simp] theorem Block.openSwitches_brg (b : Block) (n : Nat) : (b.openSwitches n).brg = b.brg := by simp only [Block.openSwitches, Block.set_brg, Block.setPort_brg]
@[simp] theorem Block.openSwitches_dtm (b : Block) (n : Nat) : (b.openSwitches n).dtm = b.dtm := by simp only [Block.openSwitches, Block.set_dtm, Block.setPort_dtm]
@[simp] theorem Block.openSwitches_pool (b : Block) (n : Nat) : (b.openSwitches n).pool = b.pool := by simp only [Block.openSwitches, Block.set_pool, Block.setPort_pool]
@[simp] theorem Block.openSwitches_sound (b : Block) (n : Nat) : (b.openSwitches n).sound = b.sound := by simp only [Block.openSwitches, Block.set_sound, Block.setPort_sound]
@[simp] theorem Block.openSwitches_chain (b : Block) (n : Nat) : (b.openSwitches n).chain = b.chain := by simp only [Block.openSwitches, Block.set_chain, Block.setPort_chain]
@[simp] theorem Block.openSwitches_mac (b : Block) (n : Nat) : (b.openSwitches n).mac = b.mac := by simp only [Block.openSwitches, Block.set_mac, Block.setPort_mac]
@[simp] theorem Block.openSwitches_trv (b : Block) (n : Nat) : (b.openSwitches n).trv = b.trv := by simp only [Block.openSwitches, Block.set_trv, Block.setPort_trv]
@[simp] theorem Block.openSwitches_g3 (b : Block) (n : Nat) : (b.openSwitches n).g3 = b.g3 := by simp only [Block.openSwitches, Block.set_g3, Block.setPort_g3]
@[simp] theorem Block.openSwitches_cx (b : Block) (n : Nat) : (b.openSwitches n).cx = b.cx := by simp only [Block.openSwitches, Block.set_cx, Block.setPort_cx]
@[simp] theorem Block.openSwitches_sense (b : Block) (n : Nat) : (b.openSwitches n).sense = b.sense := by simp only [Block.openSwitches, Block.set_sense, Block.setPort_sense]
@[simp] theorem Block.openSwitches_serial (b : Block) (n : Nat) : (b.openSwitches n).serial = b.serial := by simp only [Block.openSwitches, Block.set_serial, Block.setPort_serial]
@[simp] theorem Block.openSwitches_oscillator (b : Block) (n : Nat) : (b.openSwitches n).oscillator = b.oscillator := by simp only [Block.openSwitches, Block.set_oscillator, Block.setPort_oscillator]

/-! ### muteOutputs -/

@[simp] theorem Block.muteOutputs_ticks (b : Block) : (b.muteOutputs).ticks = b.ticks := by simp only [Block.muteOutputs, Block.set_ticks, Block.hushOutputs_ticks]
@[simp] theorem Block.muteOutputs_drawn (b : Block) : (b.muteOutputs).drawn = b.drawn := by simp only [Block.muteOutputs, Block.set_drawn, Block.hushOutputs_drawn]
@[simp] theorem Block.muteOutputs_dev (b : Block) : (b.muteOutputs).dev = b.dev := by simp only [Block.muteOutputs, Block.set_dev, Block.hushOutputs_dev]
@[simp] theorem Block.muteOutputs_host (b : Block) : (b.muteOutputs).host = b.host := by simp only [Block.muteOutputs, Block.set_host, Block.hushOutputs_host]
@[simp] theorem Block.muteOutputs_strata (b : Block) : (b.muteOutputs).strata = b.strata := by simp only [Block.muteOutputs, Block.set_strata, Block.hushOutputs_strata]
@[simp] theorem Block.muteOutputs_book (b : Block) : (b.muteOutputs).book = b.book := by simp only [Block.muteOutputs, Block.set_book, Block.hushOutputs_book]
@[simp] theorem Block.muteOutputs_fault (b : Block) : (b.muteOutputs).fault = b.fault := by simp only [Block.muteOutputs, Block.set_fault, Block.hushOutputs_fault]
@[simp] theorem Block.muteOutputs_journal (b : Block) : (b.muteOutputs).journal = b.journal := by simp only [Block.muteOutputs, Block.set_journal, Block.hushOutputs_journal]
@[simp] theorem Block.muteOutputs_img (b : Block) : (b.muteOutputs).img = b.img := by simp only [Block.muteOutputs, Block.set_img, Block.hushOutputs_img]
@[simp] theorem Block.muteOutputs_brg (b : Block) : (b.muteOutputs).brg = b.brg := by simp only [Block.muteOutputs, Block.set_brg, Block.hushOutputs_brg]
@[simp] theorem Block.muteOutputs_pool (b : Block) : (b.muteOutputs).pool = b.pool := by simp only [Block.muteOutputs, Block.set_pool, Block.hushOutputs_pool]
@[simp] theorem Block.muteOutputs_ports (b : Block) : (b.muteOutputs).ports = b.ports := by simp only [Block.muteOutputs, Block.set_ports, Block.hushOutputs_ports]
@[simp] theorem Block.muteOutputs_sound (b : Block) : (b.muteOutputs).sound = b.sound := by simp only [Block.muteOutputs, Block.set_sound, Block.hushOutputs_sound]
@[simp] theorem Block.muteOutputs_chain (b : Block) : (b.muteOutputs).chain = b.chain := by simp only [Block.muteOutputs, Block.set_chain, Block.hushOutputs_chain]
@[simp] theorem Block.muteOutputs_mac (b : Block) : (b.muteOutputs).mac = b.mac := by simp only [Block.muteOutputs, Block.set_mac, Block.hushOutputs_mac]
@[simp] theorem Block.muteOutputs_trv (b : Block) : (b.muteOutputs).trv = b.trv := by simp only [Block.muteOutputs, Block.set_trv, Block.hushOutputs_trv]
@[simp] theorem Block.muteOutputs_g3 (b : Block) : (b.muteOutputs).g3 = b.g3 := by simp only [Block.muteOutputs, Block.set_g3, Block.hushOutputs_g3]
@[simp] theorem Block.muteOutputs_cx (b : Block) : (b.muteOutputs).cx = b.cx := by simp only [Block.muteOutputs, Block.set_cx, Block.hushOutputs_cx]
@[simp] theorem Block.muteOutputs_sense (b : Block) : (b.muteOutputs).sense = b.sense := by simp only [Block.muteOutputs, Block.set_sense, Block.hushOutputs_sense]
@[simp] theorem Block.muteOutputs_oscillator (b : Block) : (b.muteOutputs).oscillator = b.oscillator := by simp only [Block.muteOutputs, Block.set_oscillator, Block.hushOutputs_oscillator]

end Sys2Proof.Machine
end

