-- ==== Sys2Proof/Laws/Cells.lean ====
section
/-!
SUPPORT. Cells (R457): the bytes of a cell the device sends are read as that cell.
-/

namespace Sys2Proof.Machine

/-- A reflected 32-bit value fits 32 bits. -/
theorem reflect_lt (v : Nat) : reflect 32 v < 2 ^ 32 := by
  have key : ∀ n, n ≤ 32 → (List.range n).foldl (fun acc i => if v.testBit i then acc + 2 ^ (32 - 1 - i) else acc) 0 +
      2 ^ (32 - n) ≤ 2 ^ 32 := by
    intro n
    induction n with
    | zero => intro _; simp
    | succ n ih =>
      intro h
      have := ih (by omega)
      rw [List.range_succ, List.foldl_append]
      have e : 2 ^ (32 - n) = 2 ^ (32 - (n + 1)) + 2 ^ (32 - (n + 1)) := by
        rw [show 32 - n = (32 - (n + 1)) + 1 by omega, pow_succ]; omega
      have e2 : 32 - 1 - n = 32 - (n + 1) := by omega
      simp only [List.foldl_cons, List.foldl_nil, e2]
      rw [e] at this
      generalize 2 ^ (32 - (n + 1)) = q at this ⊢
      split <;> omega
  have := key 32 (le_refl _)
  unfold reflect
  simp only [Nat.sub_self, pow_zero] at this
  omega

/-- A CRC-32C fits 32 bits. -/
theorem crc32c_lt (bs : List Byte) : crc32c bs < 2 ^ 32 :=
  Nat.xor_lt_two_pow (reflect_lt _) (by decide)

/-- The four bytes of a value below 2^32 spell it. -/
theorem toLe_four (x : Nat) (h : x < 2 ^ 32) : ∃ a b c d : Byte, toLe 4 x = [a, b, c, d] ∧ leNat [a, b, c, d] = x := by
  refine ⟨_, _, _, _, rfl, ?_⟩
  simp only [leNat, BitVec.toNat_ofNat]
  omega

/-- What the bytes of a cell are read as. -/
theorem cellOf_cellBytes (kind src dst : Nat) (bcast : Bool) (seq : Nat) (bs : List Byte) (h1 : 1 ≤ kind) (h2 : kind ≤ 10)
    (h3 : src < 8) (h4 : dst < 8) : cellOf (cellBytes kind src dst bcast seq bs) =
      some { kind := kind, src := src, dst := dst, bcast := bcast, seq := seq % 65536, body := slice bs 0 64 } := by
  have hl : (slice bs 0 64).length = 64 := by simp [slice]
  obtain ⟨body, hb0⟩ : ∃ body, slice bs 0 64 = body := ⟨_, rfl⟩
  rw [hb0] at hl
  have hb : slice body 0 64 = body := by
    simp only [slice, List.drop_zero, hl, List.length_take, min_self, Nat.sub_self, List.replicate_zero, List.append_nil]
    exact List.take_of_length_le (by omega)
  unfold cellBytes
  simp only [hb0]
  obtain ⟨x0, x1, x2, x3, e, ex⟩ := toLe_four (crc32c (toLe 1 kind ++ toLe 1 (src + 8 * dst + if bcast = true then 64 else 0) ++ toLe 2 seq ++ body)) (crc32c_lt _)
  rw [e]
  have hd : toLe 1 kind ++ toLe 1 (src + 8 * dst + if bcast = true then 64 else 0) ++ toLe 2 seq =
      [BitVec.ofNat 8 kind, BitVec.ofNat 8 (src + 8 * dst + if bcast = true then 64 else 0), BitVec.ofNat 8 seq,
        BitVec.ofNat 8 (seq / 256)] := rfl
  rw [hd] at ex ⊢
  simp only [List.cons_append, List.nil_append] at ex ⊢
  unfold cellOf
  have s0 : ∀ a b c d : Byte, slice (a :: b :: c :: d :: x0 :: x1 :: x2 :: x3 :: body) 0 4 = [a, b, c, d] := fun _ _ _ _ => rfl
  have s4 : ∀ a b c d : Byte, leAt (a :: b :: c :: d :: x0 :: x1 :: x2 :: x3 :: body) 4 4 = leNat [x0, x1, x2, x3] :=
    fun _ _ _ _ => rfl
  have s8 : ∀ a b c d : Byte, slice (a :: b :: c :: d :: x0 :: x1 :: x2 :: x3 :: body) 8 64 = body := fun _ _ _ _ => hb
  have b0 : ∀ a b c d : Byte, byteAt (a :: b :: c :: d :: x0 :: x1 :: x2 :: x3 :: body) 0 = a.toNat := fun _ _ _ _ => rfl
  have b1 : ∀ a b c d : Byte, byteAt (a :: b :: c :: d :: x0 :: x1 :: x2 :: x3 :: body) 1 = b.toNat := fun _ _ _ _ => rfl
  have b2 : ∀ a b c d : Byte, leAt (a :: b :: c :: d :: x0 :: x1 :: x2 :: x3 :: body) 2 2 = c.toNat + 256 * (d.toNat) := fun _ _ _ _ => rfl
  simp only [s0, s8, b0, b1, b2, s4, ex, List.cons_append, List.nil_append, BitVec.toNat_ofNat]
  have k : kind % 2 ^ 8 = kind := Nat.mod_eq_of_lt (by omega)
  rw [k]
  rw [if_neg (by simp; omega)]
  have q : seq % 2 ^ 8 + 256 * (seq / 256 % 2 ^ 8) = seq % 65536 := by omega
  rw [q]
  have hs : (src + 8 * dst + if bcast = true then 64 else 0) % 2 ^ 8 = (src + 8 * dst + if bcast = true then 64 else 0) :=
    Nat.mod_eq_of_lt (by split <;> omega)
  rw [hs]
  interval_cases src <;> interval_cases dst <;> cases bcast <;> rfl

/-- A well-formed cell is read from its bytes. -/
theorem cellOf_toBytes (c : Cell) (h : (1 ≤ c.kind ∧ c.kind ≤ 10) ∧ c.src < 8 ∧ c.dst < 8 ∧ c.seq < 65536 ∧ c.body.length = 64) :
    cellOf c.toBytes = some c := by
  obtain ⟨kind, src, dst, bcast, seq, body⟩ := c
  obtain ⟨⟨h1, h2⟩, h3, h4, h5, h6⟩ := h
  simp only at *
  have hb : slice body 0 64 = body := by
    simp only [slice, List.drop_zero, h6, List.length_take, min_self, Nat.sub_self, List.replicate_zero, List.append_nil]
    exact List.take_of_length_le (by omega)
  simp only [Cell.toBytes, cellOf_cellBytes kind src dst bcast seq body h1 h2 h3 h4, hb, Nat.mod_eq_of_lt h5]

end Sys2Proof.Machine
end

