-- ==== Sys2Proof/Laws/Ops.lean ====
section
/-!
SUPPORT. What the shared operations can do: one lemma per operation and field it leaves alone, and the registers it
writes.
-/

namespace Sys2Proof.Machine


/-! ### incSat -/

@[simp] theorem Block.incSat_ticks (b : Block) (f : Field) : (b.incSat f).ticks = b.ticks := by
  unfold Block.incSat; split <;> simp
@[simp] theorem Block.incSat_drawn (b : Block) (f : Field) : (b.incSat f).drawn = b.drawn := by
  unfold Block.incSat; split <;> simp
@[simp] theorem Block.incSat_dev (b : Block) (f : Field) : (b.incSat f).dev = b.dev := by
  unfold Block.incSat; split <;> simp
@[simp] theorem Block.incSat_host (b : Block) (f : Field) : (b.incSat f).host = b.host := by
  unfold Block.incSat; split <;> simp
@[simp] theorem Block.incSat_strata (b : Block) (f : Field) : (b.incSat f).strata = b.strata := by
  unfold Block.incSat; split <;> simp
@[simp] theorem Block.incSat_book (b : Block) (f : Field) : (b.incSat f).book = b.book := by
  unfold Block.incSat; split <;> simp
@[simp] theorem Block.incSat_fault (b : Block) (f : Field) : (b.incSat f).fault = b.fault := by
  unfold Block.incSat; split <;> simp
@[simp] theorem Block.incSat_journal (b : Block) (f : Field) : (b.incSat f).journal = b.journal := by
  unfold Block.incSat; split <;> simp
@[simp] theorem Block.incSat_img (b : Block) (f : Field) : (b.incSat f).img = b.img := by
  unfold Block.incSat; split <;> simp
@[simp] theorem Block.incSat_brg (b : Block) (f : Field) : (b.incSat f).brg = b.brg := by
  unfold Block.incSat; split <;> simp
@[simp] theorem Block.incSat_dtm (b : Block) (f : Field) : (b.incSat f).dtm = b.dtm := by
  unfold Block.incSat; split <;> simp
@[simp] theorem Block.incSat_pool (b : Block) (f : Field) : (b.incSat f).pool = b.pool := by
  unfold Block.incSat; split <;> simp
@[simp] theorem Block.incSat_ports (b : Block) (f : Field) : (b.incSat f).ports = b.ports := by
  unfold Block.incSat; split <;> simp
@[simp] theorem Block.incSat_sound (b : Block) (f : Field) : (b.incSat f).sound = b.sound := by
  unfold Block.incSat; split <;> simp
@[simp] theorem Block.incSat_chain (b : Block) (f : Field) : (b.incSat f).chain = b.chain := by
  unfold Block.incSat; split <;> simp
@[simp] theorem Block.incSat_mac (b : Block) (f : Field) : (b.incSat f).mac = b.mac := by
  unfold Block.incSat; split <;> simp
@[simp] theorem Block.incSat_trv (b : Block) (f : Field) : (b.incSat f).trv = b.trv := by
  unfold Block.incSat; split <;> simp
@[simp] theorem Block.incSat_g3 (b : Block) (f : Field) : (b.incSat f).g3 = b.g3 := by
  unfold Block.incSat; split <;> simp
@[simp] theorem Block.incSat_cx (b : Block) (f : Field) : (b.incSat f).cx = b.cx := by
  unfold Block.incSat; split <;> simp
@[simp] theorem Block.incSat_sense (b : Block) (f : Field) : (b.incSat f).sense = b.sense := by
  unfold Block.incSat; split <;> simp
@[simp] theorem Block.incSat_serial (b : Block) (f : Field) : (b.incSat f).serial = b.serial := by
  unfold Block.incSat; split <;> simp
@[simp] theorem Block.incSat_oscillator (b : Block) (f : Field) : (b.incSat f).oscillator = b.oscillator := by
  unfold Block.incSat; split <;> simp

/-! ### raise -/

@[simp] theorem Block.raise_ticks (b : Block) (fn v : Nat) : (b.raise fn v).ticks = b.ticks := by
  unfold Block.raise; split; · exact (rfl)
  split <;> simp
@[simp] theorem Block.raise_drawn (b : Block) (fn v : Nat) : (b.raise fn v).drawn = b.drawn := by
  unfold Block.raise; split; · exact (rfl)
  split <;> simp
@[simp] theorem Block.raise_dev (b : Block) (fn v : Nat) : (b.raise fn v).dev = b.dev := by
  unfold Block.raise; split; · exact (rfl)
  split <;> simp
@[simp] theorem Block.raise_regs (b : Block) (fn v : Nat) : (b.raise fn v).regs = b.regs := by
  unfold Block.raise; split; · exact (rfl)
  split <;> simp
@[simp] theorem Block.raise_strata (b : Block) (fn v : Nat) : (b.raise fn v).strata = b.strata := by
  unfold Block.raise; split; · exact (rfl)
  split <;> simp
@[simp] theorem Block.raise_book (b : Block) (fn v : Nat) : (b.raise fn v).book = b.book := by
  unfold Block.raise; split; · exact (rfl)
  split <;> simp
@[simp] theorem Block.raise_fault (b : Block) (fn v : Nat) : (b.raise fn v).fault = b.fault := by
  unfold Block.raise; split; · exact (rfl)
  split <;> simp
@[simp] theorem Block.raise_journal (b : Block) (fn v : Nat) : (b.raise fn v).journal = b.journal := by
  unfold Block.raise; split; · exact (rfl)
  split <;> simp
@[simp] theorem Block.raise_img (b : Block) (fn v : Nat) : (b.raise fn v).img = b.img := by
  unfold Block.raise; split; · exact (rfl)
  split <;> simp
@[simp] theorem Block.raise_brg (b : Block) (fn v : Nat) : (b.raise fn v).brg = b.brg := by
  unfold Block.raise; split; · exact (rfl)
  split <;> simp
@[simp] theorem Block.raise_dtm (b : Block) (fn v : Nat) : (b.raise fn v).dtm = b.dtm := by
  unfold Block.raise; split; · exact (rfl)
  split <;> simp
@[simp] theorem Block.raise_pool (b : Block) (fn v : Nat) : (b.raise fn v).pool = b.pool := by
  unfold Block.raise; split; · exact (rfl)
  split <;> simp
@[simp] theorem Block.raise_ports (b : Block) (fn v : Nat) : (b.raise fn v).ports = b.ports := by
  unfold Block.raise; split; · exact (rfl)
  split <;> simp
@[simp] theorem Block.raise_sound (b : Block) (fn v : Nat) : (b.raise fn v).sound = b.sound := by
  unfold Block.raise; split; · exact (rfl)
  split <;> simp
@[simp] theorem Block.raise_chain (b : Block) (fn v : Nat) : (b.raise fn v).chain = b.chain := by
  unfold Block.raise; split; · exact (rfl)
  split <;> simp
@[simp] theorem Block.raise_mac (b : Block) (fn v : Nat) : (b.raise fn v).mac = b.mac := by
  unfold Block.raise; split; · exact (rfl)
  split <;> simp
@[simp] theorem Block.raise_trv (b : Block) (fn v : Nat) : (b.raise fn v).trv = b.trv := by
  unfold Block.raise; split; · exact (rfl)
  split <;> simp
@[simp] theorem Block.raise_g3 (b : Block) (fn v : Nat) : (b.raise fn v).g3 = b.g3 := by
  unfold Block.raise; split; · exact (rfl)
  split <;> simp
@[simp] theorem Block.raise_cx (b : Block) (fn v : Nat) : (b.raise fn v).cx = b.cx := by
  unfold Block.raise; split; · exact (rfl)
  split <;> simp
@[simp] theorem Block.raise_sense (b : Block) (fn v : Nat) : (b.raise fn v).sense = b.sense := by
  unfold Block.raise; split; · exact (rfl)
  split <;> simp
@[simp] theorem Block.raise_serial (b : Block) (fn v : Nat) : (b.raise fn v).serial = b.serial := by
  unfold Block.raise; split; · exact (rfl)
  split <;> simp
@[simp] theorem Block.raise_oscillator (b : Block) (fn v : Nat) : (b.raise fn v).oscillator = b.oscillator := by
  unfold Block.raise; split; · exact (rfl)
  split <;> simp

/-! ### raiseFixed -/

@[simp] theorem Block.raiseFixed_ticks (b : Block) (v : Nat) : (b.raiseFixed v).ticks = b.ticks := by
  unfold Block.raiseFixed; split <;> simp
@[simp] theorem Block.raiseFixed_drawn (b : Block) (v : Nat) : (b.raiseFixed v).drawn = b.drawn := by
  unfold Block.raiseFixed; split <;> simp
@[simp] theorem Block.raiseFixed_dev (b : Block) (v : Nat) : (b.raiseFixed v).dev = b.dev := by
  unfold Block.raiseFixed; split <;> simp
@[simp] theorem Block.raiseFixed_regs (b : Block) (v : Nat) : (b.raiseFixed v).regs = b.regs := by
  unfold Block.raiseFixed; split <;> simp
@[simp] theorem Block.raiseFixed_strata (b : Block) (v : Nat) : (b.raiseFixed v).strata = b.strata := by
  unfold Block.raiseFixed; split <;> simp
@[simp] theorem Block.raiseFixed_book (b : Block) (v : Nat) : (b.raiseFixed v).book = b.book := by
  unfold Block.raiseFixed; split <;> simp
@[simp] theorem Block.raiseFixed_fault (b : Block) (v : Nat) : (b.raiseFixed v).fault = b.fault := by
  unfold Block.raiseFixed; split <;> simp
@[simp] theorem Block.raiseFixed_journal (b : Block) (v : Nat) : (b.raiseFixed v).journal = b.journal := by
  unfold Block.raiseFixed; split <;> simp
@[simp] theorem Block.raiseFixed_img (b : Block) (v : Nat) : (b.raiseFixed v).img = b.img := by
  unfold Block.raiseFixed; split <;> simp
@[simp] theorem Block.raiseFixed_brg (b : Block) (v : Nat) : (b.raiseFixed v).brg = b.brg := by
  unfold Block.raiseFixed; split <;> simp
@[simp] theorem Block.raiseFixed_dtm (b : Block) (v : Nat) : (b.raiseFixed v).dtm = b.dtm := by
  unfold Block.raiseFixed; split <;> simp
@[simp] theorem Block.raiseFixed_pool (b : Block) (v : Nat) : (b.raiseFixed v).pool = b.pool := by
  unfold Block.raiseFixed; split <;> simp
@[simp] theorem Block.raiseFixed_ports (b : Block) (v : Nat) : (b.raiseFixed v).ports = b.ports := by
  unfold Block.raiseFixed; split <;> simp
@[simp] theorem Block.raiseFixed_sound (b : Block) (v : Nat) : (b.raiseFixed v).sound = b.sound := by
  unfold Block.raiseFixed; split <;> simp
@[simp] theorem Block.raiseFixed_chain (b : Block) (v : Nat) : (b.raiseFixed v).chain = b.chain := by
  unfold Block.raiseFixed; split <;> simp
@[simp] theorem Block.raiseFixed_mac (b : Block) (v : Nat) : (b.raiseFixed v).mac = b.mac := by
  unfold Block.raiseFixed; split <;> simp
@[simp] theorem Block.raiseFixed_trv (b : Block) (v : Nat) : (b.raiseFixed v).trv = b.trv := by
  unfold Block.raiseFixed; split <;> simp
@[simp] theorem Block.raiseFixed_g3 (b : Block) (v : Nat) : (b.raiseFixed v).g3 = b.g3 := by
  unfold Block.raiseFixed; split <;> simp
@[simp] theorem Block.raiseFixed_cx (b : Block) (v : Nat) : (b.raiseFixed v).cx = b.cx := by
  unfold Block.raiseFixed; split <;> simp
@[simp] theorem Block.raiseFixed_sense (b : Block) (v : Nat) : (b.raiseFixed v).sense = b.sense := by
  unfold Block.raiseFixed; split <;> simp
@[simp] theorem Block.raiseFixed_serial (b : Block) (v : Nat) : (b.raiseFixed v).serial = b.serial := by
  unfold Block.raiseFixed; split <;> simp
@[simp] theorem Block.raiseFixed_oscillator (b : Block) (v : Nat) : (b.raiseFixed v).oscillator = b.oscillator := by
  unfold Block.raiseFixed; split <;> simp

/-! ### releaseVector -/

@[simp] theorem Block.releaseVector_ticks (b : Block) (fn v : Nat) : (b.releaseVector fn v).ticks = b.ticks := by
  unfold Block.releaseVector; split <;> simp
@[simp] theorem Block.releaseVector_drawn (b : Block) (fn v : Nat) : (b.releaseVector fn v).drawn = b.drawn := by
  unfold Block.releaseVector; split <;> simp
@[simp] theorem Block.releaseVector_dev (b : Block) (fn v : Nat) : (b.releaseVector fn v).dev = b.dev := by
  unfold Block.releaseVector; split <;> simp
@[simp] theorem Block.releaseVector_regs (b : Block) (fn v : Nat) : (b.releaseVector fn v).regs = b.regs := by
  unfold Block.releaseVector; split <;> simp
@[simp] theorem Block.releaseVector_strata (b : Block) (fn v : Nat) : (b.releaseVector fn v).strata = b.strata := by
  unfold Block.releaseVector; split <;> simp
@[simp] theorem Block.releaseVector_book (b : Block) (fn v : Nat) : (b.releaseVector fn v).book = b.book := by
  unfold Block.releaseVector; split <;> simp
@[simp] theorem Block.releaseVector_fault (b : Block) (fn v : Nat) : (b.releaseVector fn v).fault = b.fault := by
  unfold Block.releaseVector; split <;> simp
@[simp] theorem Block.releaseVector_journal (b : Block) (fn v : Nat) : (b.releaseVector fn v).journal = b.journal := by
  unfold Block.releaseVector; split <;> simp
@[simp] theorem Block.releaseVector_img (b : Block) (fn v : Nat) : (b.releaseVector fn v).img = b.img := by
  unfold Block.releaseVector; split <;> simp
@[simp] theorem Block.releaseVector_brg (b : Block) (fn v : Nat) : (b.releaseVector fn v).brg = b.brg := by
  unfold Block.releaseVector; split <;> simp
@[simp] theorem Block.releaseVector_dtm (b : Block) (fn v : Nat) : (b.releaseVector fn v).dtm = b.dtm := by
  unfold Block.releaseVector; split <;> simp
@[simp] theorem Block.releaseVector_pool (b : Block) (fn v : Nat) : (b.releaseVector fn v).pool = b.pool := by
  unfold Block.releaseVector; split <;> simp
@[simp] theorem Block.releaseVector_ports (b : Block) (fn v : Nat) : (b.releaseVector fn v).ports = b.ports := by
  unfold Block.releaseVector; split <;> simp
@[simp] theorem Block.releaseVector_sound (b : Block) (fn v : Nat) : (b.releaseVector fn v).sound = b.sound := by
  unfold Block.releaseVector; split <;> simp
@[simp] theorem Block.releaseVector_chain (b : Block) (fn v : Nat) : (b.releaseVector fn v).chain = b.chain := by
  unfold Block.releaseVector; split <;> simp
@[simp] theorem Block.releaseVector_mac (b : Block) (fn v : Nat) : (b.releaseVector fn v).mac = b.mac := by
  unfold Block.releaseVector; split <;> simp
@[simp] theorem Block.releaseVector_trv (b : Block) (fn v : Nat) : (b.releaseVector fn v).trv = b.trv := by
  unfold Block.releaseVector; split <;> simp
@[simp] theorem Block.releaseVector_g3 (b : Block) (fn v : Nat) : (b.releaseVector fn v).g3 = b.g3 := by
  unfold Block.releaseVector; split <;> simp
@[simp] theorem Block.releaseVector_cx (b : Block) (fn v : Nat) : (b.releaseVector fn v).cx = b.cx := by
  unfold Block.releaseVector; split <;> simp
@[simp] theorem Block.releaseVector_sense (b : Block) (fn v : Nat) : (b.releaseVector fn v).sense = b.sense := by
  unfold Block.releaseVector; split <;> simp
@[simp] theorem Block.releaseVector_serial (b : Block) (fn v : Nat) : (b.releaseVector fn v).serial = b.serial := by
  unfold Block.releaseVector; split <;> simp
@[simp] theorem Block.releaseVector_oscillator (b : Block) (fn v : Nat) : (b.releaseVector fn v).oscillator = b.oscillator := by
  unfold Block.releaseVector; split <;> simp

/-! ### pend -/

@[simp] theorem Block.pend_ticks (b : Block) (f : Field) : (b.pend f).ticks = b.ticks := by
  unfold Block.pend; split <;> simp
@[simp] theorem Block.pend_drawn (b : Block) (f : Field) : (b.pend f).drawn = b.drawn := by
  unfold Block.pend; split <;> simp
@[simp] theorem Block.pend_dev (b : Block) (f : Field) : (b.pend f).dev = b.dev := by
  unfold Block.pend; split <;> simp
@[simp] theorem Block.pend_strata (b : Block) (f : Field) : (b.pend f).strata = b.strata := by
  unfold Block.pend; split <;> simp
@[simp] theorem Block.pend_book (b : Block) (f : Field) : (b.pend f).book = b.book := by
  unfold Block.pend; split <;> simp
@[simp] theorem Block.pend_fault (b : Block) (f : Field) : (b.pend f).fault = b.fault := by
  unfold Block.pend; split <;> simp
@[simp] theorem Block.pend_journal (b : Block) (f : Field) : (b.pend f).journal = b.journal := by
  unfold Block.pend; split <;> simp
@[simp] theorem Block.pend_img (b : Block) (f : Field) : (b.pend f).img = b.img := by
  unfold Block.pend; split <;> simp
@[simp] theorem Block.pend_brg (b : Block) (f : Field) : (b.pend f).brg = b.brg := by
  unfold Block.pend; split <;> simp
@[simp] theorem Block.pend_dtm (b : Block) (f : Field) : (b.pend f).dtm = b.dtm := by
  unfold Block.pend; split <;> simp
@[simp] theorem Block.pend_pool (b : Block) (f : Field) : (b.pend f).pool = b.pool := by
  unfold Block.pend; split <;> simp
@[simp] theorem Block.pend_ports (b : Block) (f : Field) : (b.pend f).ports = b.ports := by
  unfold Block.pend; split <;> simp
@[simp] theorem Block.pend_sound (b : Block) (f : Field) : (b.pend f).sound = b.sound := by
  unfold Block.pend; split <;> simp
@[simp] theorem Block.pend_chain (b : Block) (f : Field) : (b.pend f).chain = b.chain := by
  unfold Block.pend; split <;> simp
@[simp] theorem Block.pend_mac (b : Block) (f : Field) : (b.pend f).mac = b.mac := by
  unfold Block.pend; split <;> simp
@[simp] theorem Block.pend_trv (b : Block) (f : Field) : (b.pend f).trv = b.trv := by
  unfold Block.pend; split <;> simp
@[simp] theorem Block.pend_g3 (b : Block) (f : Field) : (b.pend f).g3 = b.g3 := by
  unfold Block.pend; split <;> simp
@[simp] theorem Block.pend_cx (b : Block) (f : Field) : (b.pend f).cx = b.cx := by
  unfold Block.pend; split <;> simp
@[simp] theorem Block.pend_sense (b : Block) (f : Field) : (b.pend f).sense = b.sense := by
  unfold Block.pend; split <;> simp
@[simp] theorem Block.pend_serial (b : Block) (f : Field) : (b.pend f).serial = b.serial := by
  unfold Block.pend; split <;> simp
@[simp] theorem Block.pend_oscillator (b : Block) (f : Field) : (b.pend f).oscillator = b.oscillator := by
  unfold Block.pend; split <;> simp

/-! ### setDev -/

@[simp] theorem Block.setDev_ticks (b : Block) (d : DevState) : (b.setDev d).ticks = b.ticks := by
  unfold Block.setDev; split; · exact (rfl)
  simp only [Block.raiseFixed_ticks]; split <;> simp
@[simp] theorem Block.setDev_drawn (b : Block) (d : DevState) : (b.setDev d).drawn = b.drawn := by
  unfold Block.setDev; split; · exact (rfl)
  simp only [Block.raiseFixed_drawn]; split <;> simp
@[simp] theorem Block.setDev_regs (b : Block) (d : DevState) : (b.setDev d).regs = b.regs := by
  unfold Block.setDev; split; · exact (rfl)
  simp only [Block.raiseFixed_regs]; split <;> simp
@[simp] theorem Block.setDev_strata (b : Block) (d : DevState) : (b.setDev d).strata = b.strata := by
  unfold Block.setDev; split; · exact (rfl)
  simp only [Block.raiseFixed_strata]; split <;> simp
@[simp] theorem Block.setDev_book (b : Block) (d : DevState) : (b.setDev d).book = b.book := by
  unfold Block.setDev; split; · exact (rfl)
  simp only [Block.raiseFixed_book]; split <;> simp
@[simp] theorem Block.setDev_journal (b : Block) (d : DevState) : (b.setDev d).journal = b.journal := by
  unfold Block.setDev; split; · exact (rfl)
  simp only [Block.raiseFixed_journal]; split <;> simp
@[simp] theorem Block.setDev_img (b : Block) (d : DevState) : (b.setDev d).img = b.img := by
  unfold Block.setDev; split; · exact (rfl)
  simp only [Block.raiseFixed_img]; split <;> simp
@[simp] theorem Block.setDev_brg (b : Block) (d : DevState) : (b.setDev d).brg = b.brg := by
  unfold Block.setDev; split; · exact (rfl)
  simp only [Block.raiseFixed_brg]; split <;> simp
@[simp] theorem Block.setDev_dtm (b : Block) (d : DevState) : (b.setDev d).dtm = b.dtm := by
  unfold Block.setDev; split; · exact (rfl)
  simp only [Block.raiseFixed_dtm]; split <;> simp
@[simp] theorem Block.setDev_pool (b : Block) (d : DevState) : (b.setDev d).pool = b.pool := by
  unfold Block.setDev; split; · exact (rfl)
  simp only [Block.raiseFixed_pool]; split <;> simp
@[simp] theorem Block.setDev_ports (b : Block) (d : DevState) : (b.setDev d).ports = b.ports := by
  unfold Block.setDev; split; · exact (rfl)
  simp only [Block.raiseFixed_ports]; split <;> simp
@[simp] theorem Block.setDev_sound (b : Block) (d : DevState) : (b.setDev d).sound = b.sound := by
  unfold Block.setDev; split; · exact (rfl)
  simp only [Block.raiseFixed_sound]; split <;> simp
@[simp] theorem Block.setDev_chain (b : Block) (d : DevState) : (b.setDev d).chain = b.chain := by
  unfold Block.setDev; split; · exact (rfl)
  simp only [Block.raiseFixed_chain]; split <;> simp
@[simp] theorem Block.setDev_mac (b : Block) (d : DevState) : (b.setDev d).mac = b.mac := by
  unfold Block.setDev; split; · exact (rfl)
  simp only [Block.raiseFixed_mac]; split <;> simp
@[simp] theorem Block.setDev_trv (b : Block) (d : DevState) : (b.setDev d).trv = b.trv := by
  unfold Block.setDev; split; · exact (rfl)
  simp only [Block.raiseFixed_trv]; split <;> simp
@[simp] theorem Block.setDev_g3 (b : Block) (d : DevState) : (b.setDev d).g3 = b.g3 := by
  unfold Block.setDev; split; · exact (rfl)
  simp only [Block.raiseFixed_g3]; split <;> simp
@[simp] theorem Block.setDev_cx (b : Block) (d : DevState) : (b.setDev d).cx = b.cx := by
  unfold Block.setDev; split; · exact (rfl)
  simp only [Block.raiseFixed_cx]; split <;> simp
@[simp] theorem Block.setDev_sense (b : Block) (d : DevState) : (b.setDev d).sense = b.sense := by
  unfold Block.setDev; split; · exact (rfl)
  simp only [Block.raiseFixed_sense]; split <;> simp
@[simp] theorem Block.setDev_serial (b : Block) (d : DevState) : (b.setDev d).serial = b.serial := by
  unfold Block.setDev; split; · exact (rfl)
  simp only [Block.raiseFixed_serial]; split <;> simp
@[simp] theorem Block.setDev_oscillator (b : Block) (d : DevState) : (b.setDev d).oscillator = b.oscillator := by
  unfold Block.setDev; split; · exact (rfl)
  simp only [Block.raiseFixed_oscillator]; split <;> simp

/-! ### journalWrite -/

@[simp] theorem Block.journalWrite_ticks (b : Block) (r : FbRecord) (k : Nat) (hours age : Word) : (b.journalWrite r k hours age).ticks = b.ticks := by
  unfold Block.journalWrite; dsimp only; split <;> simp only [Block.setAll_ticks, Block.pend_ticks, Block.inc_ticks]
@[simp] theorem Block.journalWrite_drawn (b : Block) (r : FbRecord) (k : Nat) (hours age : Word) : (b.journalWrite r k hours age).drawn = b.drawn := by
  unfold Block.journalWrite; dsimp only; split <;> simp only [Block.setAll_drawn, Block.pend_drawn, Block.inc_drawn]
@[simp] theorem Block.journalWrite_dev (b : Block) (r : FbRecord) (k : Nat) (hours age : Word) : (b.journalWrite r k hours age).dev = b.dev := by
  unfold Block.journalWrite; dsimp only; split <;> simp only [Block.setAll_dev, Block.pend_dev, Block.inc_dev]
@[simp] theorem Block.journalWrite_strata (b : Block) (r : FbRecord) (k : Nat) (hours age : Word) : (b.journalWrite r k hours age).strata = b.strata := by
  unfold Block.journalWrite; dsimp only; split <;> simp only [Block.setAll_strata, Block.pend_strata, Block.inc_strata]
@[simp] theorem Block.journalWrite_book (b : Block) (r : FbRecord) (k : Nat) (hours age : Word) : (b.journalWrite r k hours age).book = b.book := by
  unfold Block.journalWrite; dsimp only; split <;> simp only [Block.setAll_book, Block.pend_book, Block.inc_book]
@[simp] theorem Block.journalWrite_img (b : Block) (r : FbRecord) (k : Nat) (hours age : Word) : (b.journalWrite r k hours age).img = b.img := by
  unfold Block.journalWrite; dsimp only; split <;> simp only [Block.setAll_img, Block.pend_img, Block.inc_img]
@[simp] theorem Block.journalWrite_brg (b : Block) (r : FbRecord) (k : Nat) (hours age : Word) : (b.journalWrite r k hours age).brg = b.brg := by
  unfold Block.journalWrite; dsimp only; split <;> simp only [Block.setAll_brg, Block.pend_brg, Block.inc_brg]
@[simp] theorem Block.journalWrite_dtm (b : Block) (r : FbRecord) (k : Nat) (hours age : Word) : (b.journalWrite r k hours age).dtm = b.dtm := by
  unfold Block.journalWrite; dsimp only; split <;> simp only [Block.setAll_dtm, Block.pend_dtm, Block.inc_dtm]
@[simp] theorem Block.journalWrite_pool (b : Block) (r : FbRecord) (k : Nat) (hours age : Word) : (b.journalWrite r k hours age).pool = b.pool := by
  unfold Block.journalWrite; dsimp only; split <;> simp only [Block.setAll_pool, Block.pend_pool, Block.inc_pool]
@[simp] theorem Block.journalWrite_ports (b : Block) (r : FbRecord) (k : Nat) (hours age : Word) : (b.journalWrite r k hours age).ports = b.ports := by
  unfold Block.journalWrite; dsimp only; split <;> simp only [Block.setAll_ports, Block.pend_ports, Block.inc_ports]
@[simp] theorem Block.journalWrite_sound (b : Block) (r : FbRecord) (k : Nat) (hours age : Word) : (b.journalWrite r k hours age).sound = b.sound := by
  unfold Block.journalWrite; dsimp only; split <;> simp only [Block.setAll_sound, Block.pend_sound, Block.inc_sound]
@[simp] theorem Block.journalWrite_chain (b : Block) (r : FbRecord) (k : Nat) (hours age : Word) : (b.journalWrite r k hours age).chain = b.chain := by
  unfold Block.journalWrite; dsimp only; split <;> simp only [Block.setAll_chain, Block.pend_chain, Block.inc_chain]
@[simp] theorem Block.journalWrite_mac (b : Block) (r : FbRecord) (k : Nat) (hours age : Word) : (b.journalWrite r k hours age).mac = b.mac := by
  unfold Block.journalWrite; dsimp only; split <;> simp only [Block.setAll_mac, Block.pend_mac, Block.inc_mac]
@[simp] theorem Block.journalWrite_trv (b : Block) (r : FbRecord) (k : Nat) (hours age : Word) : (b.journalWrite r k hours age).trv = b.trv := by
  unfold Block.journalWrite; dsimp only; split <;> simp only [Block.setAll_trv, Block.pend_trv, Block.inc_trv]
@[simp] theorem Block.journalWrite_g3 (b : Block) (r : FbRecord) (k : Nat) (hours age : Word) : (b.journalWrite r k hours age).g3 = b.g3 := by
  unfold Block.journalWrite; dsimp only; split <;> simp only [Block.setAll_g3, Block.pend_g3, Block.inc_g3]
@[simp] theorem Block.journalWrite_cx (b : Block) (r : FbRecord) (k : Nat) (hours age : Word) : (b.journalWrite r k hours age).cx = b.cx := by
  unfold Block.journalWrite; dsimp only; split <;> simp only [Block.setAll_cx, Block.pend_cx, Block.inc_cx]
@[simp] theorem Block.journalWrite_sense (b : Block) (r : FbRecord) (k : Nat) (hours age : Word) : (b.journalWrite r k hours age).sense = b.sense := by
  unfold Block.journalWrite; dsimp only; split <;> simp only [Block.setAll_sense, Block.pend_sense, Block.inc_sense]
@[simp] theorem Block.journalWrite_serial (b : Block) (r : FbRecord) (k : Nat) (hours age : Word) : (b.journalWrite r k hours age).serial = b.serial := by
  unfold Block.journalWrite; dsimp only; split <;> simp only [Block.setAll_serial, Block.pend_serial, Block.inc_serial]
@[simp] theorem Block.journalWrite_oscillator (b : Block) (r : FbRecord) (k : Nat) (hours age : Word) : (b.journalWrite r k hours age).oscillator = b.oscillator := by
  unfold Block.journalWrite; dsimp only; split <;> simp only [Block.setAll_oscillator, Block.pend_oscillator, Block.inc_oscillator]

/-! ### takeSlot -/

@[simp] theorem Block.takeSlot_ticks (b : Block) (r : FbRecord) : (b.takeSlot r).ticks = b.ticks := by
  unfold Block.takeSlot; dsimp only; split <;> simp only [Block.inc_ticks, Block.putRecord_ticks]
@[simp] theorem Block.takeSlot_drawn (b : Block) (r : FbRecord) : (b.takeSlot r).drawn = b.drawn := by
  unfold Block.takeSlot; dsimp only; split <;> simp only [Block.inc_drawn, Block.putRecord_drawn]
@[simp] theorem Block.takeSlot_dev (b : Block) (r : FbRecord) : (b.takeSlot r).dev = b.dev := by
  unfold Block.takeSlot; dsimp only; split <;> simp only [Block.inc_dev, Block.putRecord_dev]
@[simp] theorem Block.takeSlot_host (b : Block) (r : FbRecord) : (b.takeSlot r).host = b.host := by
  unfold Block.takeSlot; dsimp only; split <;> simp only [Block.inc_host, Block.putRecord_host]
@[simp] theorem Block.takeSlot_strata (b : Block) (r : FbRecord) : (b.takeSlot r).strata = b.strata := by
  unfold Block.takeSlot; dsimp only; split <;> simp only [Block.inc_strata, Block.putRecord_strata]
@[simp] theorem Block.takeSlot_fault (b : Block) (r : FbRecord) : (b.takeSlot r).fault = b.fault := by
  unfold Block.takeSlot; dsimp only; split <;> simp only [Block.inc_fault, Block.putRecord_fault]
@[simp] theorem Block.takeSlot_journal (b : Block) (r : FbRecord) : (b.takeSlot r).journal = b.journal := by
  unfold Block.takeSlot; dsimp only; split <;> simp only [Block.inc_journal, Block.putRecord_journal]
@[simp] theorem Block.takeSlot_img (b : Block) (r : FbRecord) : (b.takeSlot r).img = b.img := by
  unfold Block.takeSlot; dsimp only; split <;> simp only [Block.inc_img, Block.putRecord_img]
@[simp] theorem Block.takeSlot_brg (b : Block) (r : FbRecord) : (b.takeSlot r).brg = b.brg := by
  unfold Block.takeSlot; dsimp only; split <;> simp only [Block.inc_brg, Block.putRecord_brg]
@[simp] theorem Block.takeSlot_dtm (b : Block) (r : FbRecord) : (b.takeSlot r).dtm = b.dtm := by
  unfold Block.takeSlot; dsimp only; split <;> simp only [Block.inc_dtm, Block.putRecord_dtm]
@[simp] theorem Block.takeSlot_pool (b : Block) (r : FbRecord) : (b.takeSlot r).pool = b.pool := by
  unfold Block.takeSlot; dsimp only; split <;> simp only [Block.inc_pool, Block.putRecord_pool]
@[simp] theorem Block.takeSlot_ports (b : Block) (r : FbRecord) : (b.takeSlot r).ports = b.ports := by
  unfold Block.takeSlot; dsimp only; split <;> simp only [Block.inc_ports, Block.putRecord_ports]
@[simp] theorem Block.takeSlot_sound (b : Block) (r : FbRecord) : (b.takeSlot r).sound = b.sound := by
  unfold Block.takeSlot; dsimp only; split <;> simp only [Block.inc_sound, Block.putRecord_sound]
@[simp] theorem Block.takeSlot_chain (b : Block) (r : FbRecord) : (b.takeSlot r).chain = b.chain := by
  unfold Block.takeSlot; dsimp only; split <;> simp only [Block.inc_chain, Block.putRecord_chain]
@[simp] theorem Block.takeSlot_mac (b : Block) (r : FbRecord) : (b.takeSlot r).mac = b.mac := by
  unfold Block.takeSlot; dsimp only; split <;> simp only [Block.inc_mac, Block.putRecord_mac]
@[simp] theorem Block.takeSlot_trv (b : Block) (r : FbRecord) : (b.takeSlot r).trv = b.trv := by
  unfold Block.takeSlot; dsimp only; split <;> simp only [Block.inc_trv, Block.putRecord_trv]
@[simp] theorem Block.takeSlot_g3 (b : Block) (r : FbRecord) : (b.takeSlot r).g3 = b.g3 := by
  unfold Block.takeSlot; dsimp only; split <;> simp only [Block.inc_g3, Block.putRecord_g3]
@[simp] theorem Block.takeSlot_cx (b : Block) (r : FbRecord) : (b.takeSlot r).cx = b.cx := by
  unfold Block.takeSlot; dsimp only; split <;> simp only [Block.inc_cx, Block.putRecord_cx]
@[simp] theorem Block.takeSlot_sense (b : Block) (r : FbRecord) : (b.takeSlot r).sense = b.sense := by
  unfold Block.takeSlot; dsimp only; split <;> simp only [Block.inc_sense, Block.putRecord_sense]
@[simp] theorem Block.takeSlot_serial (b : Block) (r : FbRecord) : (b.takeSlot r).serial = b.serial := by
  unfold Block.takeSlot; dsimp only; split <;> simp only [Block.inc_serial, Block.putRecord_serial]
@[simp] theorem Block.takeSlot_oscillator (b : Block) (r : FbRecord) : (b.takeSlot r).oscillator = b.oscillator := by
  unfold Block.takeSlot; dsimp only; split <;> simp only [Block.inc_oscillator, Block.putRecord_oscillator]

/-! ### notifyRecord -/

@[simp] theorem Block.notifyRecord_ticks (b : Block) (sev : Nat) : (b.notifyRecord sev).ticks = b.ticks := by
  unfold Block.notifyRecord; split <;> simp only [Block.raise_ticks]
@[simp] theorem Block.notifyRecord_drawn (b : Block) (sev : Nat) : (b.notifyRecord sev).drawn = b.drawn := by
  unfold Block.notifyRecord; split <;> simp only [Block.raise_drawn]
@[simp] theorem Block.notifyRecord_dev (b : Block) (sev : Nat) : (b.notifyRecord sev).dev = b.dev := by
  unfold Block.notifyRecord; split <;> simp only [Block.raise_dev]
@[simp] theorem Block.notifyRecord_regs (b : Block) (sev : Nat) : (b.notifyRecord sev).regs = b.regs := by
  unfold Block.notifyRecord; split <;> simp only [Block.raise_regs]
@[simp] theorem Block.notifyRecord_strata (b : Block) (sev : Nat) : (b.notifyRecord sev).strata = b.strata := by
  unfold Block.notifyRecord; split <;> simp only [Block.raise_strata]
@[simp] theorem Block.notifyRecord_book (b : Block) (sev : Nat) : (b.notifyRecord sev).book = b.book := by
  unfold Block.notifyRecord; split <;> simp only [Block.raise_book]
@[simp] theorem Block.notifyRecord_fault (b : Block) (sev : Nat) : (b.notifyRecord sev).fault = b.fault := by
  unfold Block.notifyRecord; split <;> simp only [Block.raise_fault]
@[simp] theorem Block.notifyRecord_journal (b : Block) (sev : Nat) : (b.notifyRecord sev).journal = b.journal := by
  unfold Block.notifyRecord; split <;> simp only [Block.raise_journal]
@[simp] theorem Block.notifyRecord_img (b : Block) (sev : Nat) : (b.notifyRecord sev).img = b.img := by
  unfold Block.notifyRecord; split <;> simp only [Block.raise_img]
@[simp] theorem Block.notifyRecord_brg (b : Block) (sev : Nat) : (b.notifyRecord sev).brg = b.brg := by
  unfold Block.notifyRecord; split <;> simp only [Block.raise_brg]
@[simp] theorem Block.notifyRecord_dtm (b : Block) (sev : Nat) : (b.notifyRecord sev).dtm = b.dtm := by
  unfold Block.notifyRecord; split <;> simp only [Block.raise_dtm]
@[simp] theorem Block.notifyRecord_pool (b : Block) (sev : Nat) : (b.notifyRecord sev).pool = b.pool := by
  unfold Block.notifyRecord; split <;> simp only [Block.raise_pool]
@[simp] theorem Block.notifyRecord_ports (b : Block) (sev : Nat) : (b.notifyRecord sev).ports = b.ports := by
  unfold Block.notifyRecord; split <;> simp only [Block.raise_ports]
@[simp] theorem Block.notifyRecord_sound (b : Block) (sev : Nat) : (b.notifyRecord sev).sound = b.sound := by
  unfold Block.notifyRecord; split <;> simp only [Block.raise_sound]
@[simp] theorem Block.notifyRecord_chain (b : Block) (sev : Nat) : (b.notifyRecord sev).chain = b.chain := by
  unfold Block.notifyRecord; split <;> simp only [Block.raise_chain]
@[simp] theorem Block.notifyRecord_mac (b : Block) (sev : Nat) : (b.notifyRecord sev).mac = b.mac := by
  unfold Block.notifyRecord; split <;> simp only [Block.raise_mac]
@[simp] theorem Block.notifyRecord_trv (b : Block) (sev : Nat) : (b.notifyRecord sev).trv = b.trv := by
  unfold Block.notifyRecord; split <;> simp only [Block.raise_trv]
@[simp] theorem Block.notifyRecord_g3 (b : Block) (sev : Nat) : (b.notifyRecord sev).g3 = b.g3 := by
  unfold Block.notifyRecord; split <;> simp only [Block.raise_g3]
@[simp] theorem Block.notifyRecord_cx (b : Block) (sev : Nat) : (b.notifyRecord sev).cx = b.cx := by
  unfold Block.notifyRecord; split <;> simp only [Block.raise_cx]
@[simp] theorem Block.notifyRecord_sense (b : Block) (sev : Nat) : (b.notifyRecord sev).sense = b.sense := by
  unfold Block.notifyRecord; split <;> simp only [Block.raise_sense]
@[simp] theorem Block.notifyRecord_serial (b : Block) (sev : Nat) : (b.notifyRecord sev).serial = b.serial := by
  unfold Block.notifyRecord; split <;> simp only [Block.raise_serial]
@[simp] theorem Block.notifyRecord_oscillator (b : Block) (sev : Nat) : (b.notifyRecord sev).oscillator = b.oscillator := by
  unfold Block.notifyRecord; split <;> simp only [Block.raise_oscillator]

/-! ### post -/

@[simp] theorem Block.post_ticks (b : Block) (code sev src : Nat) (args : List (Nat × Nat)) : (b.post code sev src args).ticks = b.ticks := by
  unfold Block.post; dsimp only; rw [Block.notifyRecord_ticks]; split <;> simp only [Block.takeSlot_ticks, Block.journalWrite_ticks]
@[simp] theorem Block.post_drawn (b : Block) (code sev src : Nat) (args : List (Nat × Nat)) : (b.post code sev src args).drawn = b.drawn := by
  unfold Block.post; dsimp only; rw [Block.notifyRecord_drawn]; split <;> simp only [Block.takeSlot_drawn, Block.journalWrite_drawn]
@[simp] theorem Block.post_dev (b : Block) (code sev src : Nat) (args : List (Nat × Nat)) : (b.post code sev src args).dev = b.dev := by
  unfold Block.post; dsimp only; rw [Block.notifyRecord_dev]; split <;> simp only [Block.takeSlot_dev, Block.journalWrite_dev]
@[simp] theorem Block.post_strata (b : Block) (code sev src : Nat) (args : List (Nat × Nat)) : (b.post code sev src args).strata = b.strata := by
  unfold Block.post; dsimp only; rw [Block.notifyRecord_strata]; split <;> simp only [Block.takeSlot_strata, Block.journalWrite_strata]
@[simp] theorem Block.post_img (b : Block) (code sev src : Nat) (args : List (Nat × Nat)) : (b.post code sev src args).img = b.img := by
  unfold Block.post; dsimp only; rw [Block.notifyRecord_img]; split <;> simp only [Block.takeSlot_img, Block.journalWrite_img]
@[simp] theorem Block.post_brg (b : Block) (code sev src : Nat) (args : List (Nat × Nat)) : (b.post code sev src args).brg = b.brg := by
  unfold Block.post; dsimp only; rw [Block.notifyRecord_brg]; split <;> simp only [Block.takeSlot_brg, Block.journalWrite_brg]
@[simp] theorem Block.post_dtm (b : Block) (code sev src : Nat) (args : List (Nat × Nat)) : (b.post code sev src args).dtm = b.dtm := by
  unfold Block.post; dsimp only; rw [Block.notifyRecord_dtm]; split <;> simp only [Block.takeSlot_dtm, Block.journalWrite_dtm]
@[simp] theorem Block.post_pool (b : Block) (code sev src : Nat) (args : List (Nat × Nat)) : (b.post code sev src args).pool = b.pool := by
  unfold Block.post; dsimp only; rw [Block.notifyRecord_pool]; split <;> simp only [Block.takeSlot_pool, Block.journalWrite_pool]
@[simp] theorem Block.post_ports (b : Block) (code sev src : Nat) (args : List (Nat × Nat)) : (b.post code sev src args).ports = b.ports := by
  unfold Block.post; dsimp only; rw [Block.notifyRecord_ports]; split <;> simp only [Block.takeSlot_ports, Block.journalWrite_ports]
@[simp] theorem Block.post_sound (b : Block) (code sev src : Nat) (args : List (Nat × Nat)) : (b.post code sev src args).sound = b.sound := by
  unfold Block.post; dsimp only; rw [Block.notifyRecord_sound]; split <;> simp only [Block.takeSlot_sound, Block.journalWrite_sound]
@[simp] theorem Block.post_chain (b : Block) (code sev src : Nat) (args : List (Nat × Nat)) : (b.post code sev src args).chain = b.chain := by
  unfold Block.post; dsimp only; rw [Block.notifyRecord_chain]; split <;> simp only [Block.takeSlot_chain, Block.journalWrite_chain]
@[simp] theorem Block.post_mac (b : Block) (code sev src : Nat) (args : List (Nat × Nat)) : (b.post code sev src args).mac = b.mac := by
  unfold Block.post; dsimp only; rw [Block.notifyRecord_mac]; split <;> simp only [Block.takeSlot_mac, Block.journalWrite_mac]
@[simp] theorem Block.post_trv (b : Block) (code sev src : Nat) (args : List (Nat × Nat)) : (b.post code sev src args).trv = b.trv := by
  unfold Block.post; dsimp only; rw [Block.notifyRecord_trv]; split <;> simp only [Block.takeSlot_trv, Block.journalWrite_trv]
@[simp] theorem Block.post_g3 (b : Block) (code sev src : Nat) (args : List (Nat × Nat)) : (b.post code sev src args).g3 = b.g3 := by
  unfold Block.post; dsimp only; rw [Block.notifyRecord_g3]; split <;> simp only [Block.takeSlot_g3, Block.journalWrite_g3]
@[simp] theorem Block.post_cx (b : Block) (code sev src : Nat) (args : List (Nat × Nat)) : (b.post code sev src args).cx = b.cx := by
  unfold Block.post; dsimp only; rw [Block.notifyRecord_cx]; split <;> simp only [Block.takeSlot_cx, Block.journalWrite_cx]
@[simp] theorem Block.post_sense (b : Block) (code sev src : Nat) (args : List (Nat × Nat)) : (b.post code sev src args).sense = b.sense := by
  unfold Block.post; dsimp only; rw [Block.notifyRecord_sense]; split <;> simp only [Block.takeSlot_sense, Block.journalWrite_sense]
@[simp] theorem Block.post_serial (b : Block) (code sev src : Nat) (args : List (Nat × Nat)) : (b.post code sev src args).serial = b.serial := by
  unfold Block.post; dsimp only; rw [Block.notifyRecord_serial]; split <;> simp only [Block.takeSlot_serial, Block.journalWrite_serial]
@[simp] theorem Block.post_oscillator (b : Block) (code sev src : Nat) (args : List (Nat × Nat)) : (b.post code sev src args).oscillator = b.oscillator := by
  unfold Block.post; dsimp only; rw [Block.notifyRecord_oscillator]; split <;> simp only [Block.takeSlot_oscillator, Block.journalWrite_oscillator]

/-! ### freeze -/

@[simp] theorem Block.freeze_ticks (b : Block) (m kind off : Nat) : (b.freeze m kind off).ticks = b.ticks := by
  unfold Block.freeze; dsimp only; split <;> simp only [Block.setAll_ticks, Block.pend_ticks, Block.inc_ticks, Block.post_ticks, Block.setBit_ticks]
@[simp] theorem Block.freeze_drawn (b : Block) (m kind off : Nat) : (b.freeze m kind off).drawn = b.drawn := by
  unfold Block.freeze; dsimp only; split <;> simp only [Block.setAll_drawn, Block.pend_drawn, Block.inc_drawn, Block.post_drawn, Block.setBit_drawn]
@[simp] theorem Block.freeze_dev (b : Block) (m kind off : Nat) : (b.freeze m kind off).dev = b.dev := by
  unfold Block.freeze; dsimp only; split <;> simp only [Block.setAll_dev, Block.pend_dev, Block.inc_dev, Block.post_dev, Block.setBit_dev]
@[simp] theorem Block.freeze_strata (b : Block) (m kind off : Nat) : (b.freeze m kind off).strata = b.strata := by
  unfold Block.freeze; dsimp only; split <;> simp only [Block.setAll_strata, Block.pend_strata, Block.inc_strata, Block.post_strata, Block.setBit_strata]
@[simp] theorem Block.freeze_img (b : Block) (m kind off : Nat) : (b.freeze m kind off).img = b.img := by
  unfold Block.freeze; dsimp only; split <;> simp only [Block.setAll_img, Block.pend_img, Block.inc_img, Block.post_img, Block.setBit_img]
@[simp] theorem Block.freeze_brg (b : Block) (m kind off : Nat) : (b.freeze m kind off).brg = b.brg := by
  unfold Block.freeze; dsimp only; split <;> simp only [Block.setAll_brg, Block.pend_brg, Block.inc_brg, Block.post_brg, Block.setBit_brg]
@[simp] theorem Block.freeze_dtm (b : Block) (m kind off : Nat) : (b.freeze m kind off).dtm = b.dtm := by
  unfold Block.freeze; dsimp only; split <;> simp only [Block.setAll_dtm, Block.pend_dtm, Block.inc_dtm, Block.post_dtm, Block.setBit_dtm]
@[simp] theorem Block.freeze_pool (b : Block) (m kind off : Nat) : (b.freeze m kind off).pool = b.pool := by
  unfold Block.freeze; dsimp only; split <;> simp only [Block.setAll_pool, Block.pend_pool, Block.inc_pool, Block.post_pool, Block.setBit_pool]
@[simp] theorem Block.freeze_ports (b : Block) (m kind off : Nat) : (b.freeze m kind off).ports = b.ports := by
  unfold Block.freeze; dsimp only; split <;> simp only [Block.setAll_ports, Block.pend_ports, Block.inc_ports, Block.post_ports, Block.setBit_ports]
@[simp] theorem Block.freeze_sound (b : Block) (m kind off : Nat) : (b.freeze m kind off).sound = b.sound := by
  unfold Block.freeze; dsimp only; split <;> simp only [Block.setAll_sound, Block.pend_sound, Block.inc_sound, Block.post_sound, Block.setBit_sound]
@[simp] theorem Block.freeze_chain (b : Block) (m kind off : Nat) : (b.freeze m kind off).chain = b.chain := by
  unfold Block.freeze; dsimp only; split <;> simp only [Block.setAll_chain, Block.pend_chain, Block.inc_chain, Block.post_chain, Block.setBit_chain]
@[simp] theorem Block.freeze_mac (b : Block) (m kind off : Nat) : (b.freeze m kind off).mac = b.mac := by
  unfold Block.freeze; dsimp only; split <;> simp only [Block.setAll_mac, Block.pend_mac, Block.inc_mac, Block.post_mac, Block.setBit_mac]
@[simp] theorem Block.freeze_trv (b : Block) (m kind off : Nat) : (b.freeze m kind off).trv = b.trv := by
  unfold Block.freeze; dsimp only; split <;> simp only [Block.setAll_trv, Block.pend_trv, Block.inc_trv, Block.post_trv, Block.setBit_trv]
@[simp] theorem Block.freeze_g3 (b : Block) (m kind off : Nat) : (b.freeze m kind off).g3 = b.g3 := by
  unfold Block.freeze; dsimp only; split <;> simp only [Block.setAll_g3, Block.pend_g3, Block.inc_g3, Block.post_g3, Block.setBit_g3]
@[simp] theorem Block.freeze_cx (b : Block) (m kind off : Nat) : (b.freeze m kind off).cx = b.cx := by
  unfold Block.freeze; dsimp only; split <;> simp only [Block.setAll_cx, Block.pend_cx, Block.inc_cx, Block.post_cx, Block.setBit_cx]
@[simp] theorem Block.freeze_sense (b : Block) (m kind off : Nat) : (b.freeze m kind off).sense = b.sense := by
  unfold Block.freeze; dsimp only; split <;> simp only [Block.setAll_sense, Block.pend_sense, Block.inc_sense, Block.post_sense, Block.setBit_sense]
@[simp] theorem Block.freeze_serial (b : Block) (m kind off : Nat) : (b.freeze m kind off).serial = b.serial := by
  unfold Block.freeze; dsimp only; split <;> simp only [Block.setAll_serial, Block.pend_serial, Block.inc_serial, Block.post_serial, Block.setBit_serial]
@[simp] theorem Block.freeze_oscillator (b : Block) (m kind off : Nat) : (b.freeze m kind off).oscillator = b.oscillator := by
  unfold Block.freeze; dsimp only; split <;> simp only [Block.setAll_oscillator, Block.pend_oscillator, Block.inc_oscillator, Block.post_oscillator, Block.setBit_oscillator]

/-! ### dmaError -/

@[simp] theorem Block.dmaError_ticks (b : Block) (fn : Nat) (d : DmaRead) : (b.dmaError fn d).ticks = b.ticks := by
  unfold Block.dmaError; dsimp only; split <;> simp only [Block.setAll_ticks, Block.inc_ticks]
@[simp] theorem Block.dmaError_drawn (b : Block) (fn : Nat) (d : DmaRead) : (b.dmaError fn d).drawn = b.drawn := by
  unfold Block.dmaError; dsimp only; split <;> simp only [Block.setAll_drawn, Block.inc_drawn]
@[simp] theorem Block.dmaError_dev (b : Block) (fn : Nat) (d : DmaRead) : (b.dmaError fn d).dev = b.dev := by
  unfold Block.dmaError; dsimp only; split <;> simp only [Block.setAll_dev, Block.inc_dev]
@[simp] theorem Block.dmaError_host (b : Block) (fn : Nat) (d : DmaRead) : (b.dmaError fn d).host = b.host := by
  unfold Block.dmaError; dsimp only; split <;> simp only [Block.setAll_host, Block.inc_host]
@[simp] theorem Block.dmaError_strata (b : Block) (fn : Nat) (d : DmaRead) : (b.dmaError fn d).strata = b.strata := by
  unfold Block.dmaError; dsimp only; split <;> simp only [Block.setAll_strata, Block.inc_strata]
@[simp] theorem Block.dmaError_book (b : Block) (fn : Nat) (d : DmaRead) : (b.dmaError fn d).book = b.book := by
  unfold Block.dmaError; dsimp only; split <;> simp only [Block.setAll_book, Block.inc_book]
@[simp] theorem Block.dmaError_fault (b : Block) (fn : Nat) (d : DmaRead) : (b.dmaError fn d).fault = b.fault := by
  unfold Block.dmaError; dsimp only; split <;> simp only [Block.setAll_fault, Block.inc_fault]
@[simp] theorem Block.dmaError_journal (b : Block) (fn : Nat) (d : DmaRead) : (b.dmaError fn d).journal = b.journal := by
  unfold Block.dmaError; dsimp only; split <;> simp only [Block.setAll_journal, Block.inc_journal]
@[simp] theorem Block.dmaError_img (b : Block) (fn : Nat) (d : DmaRead) : (b.dmaError fn d).img = b.img := by
  unfold Block.dmaError; dsimp only; split <;> simp only [Block.setAll_img, Block.inc_img]
@[simp] theorem Block.dmaError_brg (b : Block) (fn : Nat) (d : DmaRead) : (b.dmaError fn d).brg = b.brg := by
  unfold Block.dmaError; dsimp only; split <;> simp only [Block.setAll_brg, Block.inc_brg]
@[simp] theorem Block.dmaError_dtm (b : Block) (fn : Nat) (d : DmaRead) : (b.dmaError fn d).dtm = b.dtm := by
  unfold Block.dmaError; dsimp only; split <;> simp only [Block.setAll_dtm, Block.inc_dtm]
@[simp] theorem Block.dmaError_pool (b : Block) (fn : Nat) (d : DmaRead) : (b.dmaError fn d).pool = b.pool := by
  unfold Block.dmaError; dsimp only; split <;> simp only [Block.setAll_pool, Block.inc_pool]
@[simp] theorem Block.dmaError_ports (b : Block) (fn : Nat) (d : DmaRead) : (b.dmaError fn d).ports = b.ports := by
  unfold Block.dmaError; dsimp only; split <;> simp only [Block.setAll_ports, Block.inc_ports]
@[simp] theorem Block.dmaError_sound (b : Block) (fn : Nat) (d : DmaRead) : (b.dmaError fn d).sound = b.sound := by
  unfold Block.dmaError; dsimp only; split <;> simp only [Block.setAll_sound, Block.inc_sound]
@[simp] theorem Block.dmaError_chain (b : Block) (fn : Nat) (d : DmaRead) : (b.dmaError fn d).chain = b.chain := by
  unfold Block.dmaError; dsimp only; split <;> simp only [Block.setAll_chain, Block.inc_chain]
@[simp] theorem Block.dmaError_mac (b : Block) (fn : Nat) (d : DmaRead) : (b.dmaError fn d).mac = b.mac := by
  unfold Block.dmaError; dsimp only; split <;> simp only [Block.setAll_mac, Block.inc_mac]
@[simp] theorem Block.dmaError_trv (b : Block) (fn : Nat) (d : DmaRead) : (b.dmaError fn d).trv = b.trv := by
  unfold Block.dmaError; dsimp only; split <;> simp only [Block.setAll_trv, Block.inc_trv]
@[simp] theorem Block.dmaError_g3 (b : Block) (fn : Nat) (d : DmaRead) : (b.dmaError fn d).g3 = b.g3 := by
  unfold Block.dmaError; dsimp only; split <;> simp only [Block.setAll_g3, Block.inc_g3]
@[simp] theorem Block.dmaError_cx (b : Block) (fn : Nat) (d : DmaRead) : (b.dmaError fn d).cx = b.cx := by
  unfold Block.dmaError; dsimp only; split <;> simp only [Block.setAll_cx, Block.inc_cx]
@[simp] theorem Block.dmaError_sense (b : Block) (fn : Nat) (d : DmaRead) : (b.dmaError fn d).sense = b.sense := by
  unfold Block.dmaError; dsimp only; split <;> simp only [Block.setAll_sense, Block.inc_sense]
@[simp] theorem Block.dmaError_serial (b : Block) (fn : Nat) (d : DmaRead) : (b.dmaError fn d).serial = b.serial := by
  unfold Block.dmaError; dsimp only; split <;> simp only [Block.setAll_serial, Block.inc_serial]
@[simp] theorem Block.dmaError_oscillator (b : Block) (fn : Nat) (d : DmaRead) : (b.dmaError fn d).oscillator = b.oscillator := by
  unfold Block.dmaError; dsimp only; split <;> simp only [Block.setAll_oscillator, Block.inc_oscillator]

/-! ### gated -/

@[simp] theorem Block.gated_ticks (b : Block) : (b.gated).ticks = b.ticks := by
  unfold Block.gated; dsimp only; split <;> split <;> split <;> simp only [Block.muteOutputs_ticks, Block.shortRings_ticks, Block.releaseLine_ticks]
@[simp] theorem Block.gated_drawn (b : Block) : (b.gated).drawn = b.drawn := by
  unfold Block.gated; dsimp only; split <;> split <;> split <;> simp only [Block.muteOutputs_drawn, Block.shortRings_drawn, Block.releaseLine_drawn]
@[simp] theorem Block.gated_dev (b : Block) : (b.gated).dev = b.dev := by
  unfold Block.gated; dsimp only; split <;> split <;> split <;> simp only [Block.muteOutputs_dev, Block.shortRings_dev, Block.releaseLine_dev]
@[simp] theorem Block.gated_host (b : Block) : (b.gated).host = b.host := by
  unfold Block.gated; dsimp only; split <;> split <;> split <;> simp only [Block.muteOutputs_host, Block.shortRings_host, Block.releaseLine_host]
@[simp] theorem Block.gated_strata (b : Block) : (b.gated).strata = b.strata := by
  unfold Block.gated; dsimp only; split <;> split <;> split <;> simp only [Block.muteOutputs_strata, Block.shortRings_strata, Block.releaseLine_strata]
@[simp] theorem Block.gated_book (b : Block) : (b.gated).book = b.book := by
  unfold Block.gated; dsimp only; split <;> split <;> split <;> simp only [Block.muteOutputs_book, Block.shortRings_book, Block.releaseLine_book]
@[simp] theorem Block.gated_fault (b : Block) : (b.gated).fault = b.fault := by
  unfold Block.gated; dsimp only; split <;> split <;> split <;> simp only [Block.muteOutputs_fault, Block.shortRings_fault, Block.releaseLine_fault]
@[simp] theorem Block.gated_journal (b : Block) : (b.gated).journal = b.journal := by
  unfold Block.gated; dsimp only; split <;> split <;> split <;> simp only [Block.muteOutputs_journal, Block.shortRings_journal, Block.releaseLine_journal]
@[simp] theorem Block.gated_img (b : Block) : (b.gated).img = b.img := by
  unfold Block.gated; dsimp only; split <;> split <;> split <;> simp only [Block.muteOutputs_img, Block.shortRings_img, Block.releaseLine_img]
@[simp] theorem Block.gated_brg (b : Block) : (b.gated).brg = b.brg := by
  unfold Block.gated; dsimp only; split <;> split <;> split <;> simp only [Block.muteOutputs_brg, Block.shortRings_brg, Block.releaseLine_brg]
@[simp] theorem Block.gated_pool (b : Block) : (b.gated).pool = b.pool := by
  unfold Block.gated; dsimp only; split <;> split <;> split <;> simp only [Block.muteOutputs_pool, Block.shortRings_pool, Block.releaseLine_pool]
@[simp] theorem Block.gated_sound (b : Block) : (b.gated).sound = b.sound := by
  unfold Block.gated; dsimp only; split <;> split <;> split <;> simp only [Block.muteOutputs_sound, Block.shortRings_sound, Block.releaseLine_sound]
@[simp] theorem Block.gated_trv (b : Block) : (b.gated).trv = b.trv := by
  unfold Block.gated; dsimp only; split <;> split <;> split <;> simp only [Block.muteOutputs_trv, Block.shortRings_trv, Block.releaseLine_trv]
@[simp] theorem Block.gated_g3 (b : Block) : (b.gated).g3 = b.g3 := by
  unfold Block.gated; dsimp only; split <;> split <;> split <;> simp only [Block.muteOutputs_g3, Block.shortRings_g3, Block.releaseLine_g3]
@[simp] theorem Block.gated_cx (b : Block) : (b.gated).cx = b.cx := by
  unfold Block.gated; dsimp only; split <;> split <;> split <;> simp only [Block.muteOutputs_cx, Block.shortRings_cx, Block.releaseLine_cx]
@[simp] theorem Block.gated_sense (b : Block) : (b.gated).sense = b.sense := by
  unfold Block.gated; dsimp only; split <;> split <;> split <;> simp only [Block.muteOutputs_sense, Block.shortRings_sense, Block.releaseLine_sense]
@[simp] theorem Block.gated_oscillator (b : Block) : (b.gated).oscillator = b.oscillator := by
  unfold Block.gated; dsimp only; split <;> split <;> split <;> simp only [Block.muteOutputs_oscillator, Block.shortRings_oscillator, Block.releaseLine_oscillator]

/-! ### The device state -/

@[simp] theorem Block.setDev_dev (b : Block) (d : DevState) : (b.setDev d).dev = d := by
  unfold Block.setDev
  split
  · assumption
  · simp only [Block.raiseFixed_dev]; split <;> simp

/-! ### Registers -/

/-- A register reads as before where the register file is the same. -/
theorem Block.rd_of_regs {b b' : Block} (h : b'.regs = b.regs) (off : Nat) : b'.rd off = b.rd off := by
  unfold Block.rd; rw [h]

theorem Block.get_of_regs {b b' : Block} (h : b'.regs = b.regs) (f : Field) : b'.get f = b.get f :=
  Block.get_of_rd (Block.rd_of_regs h _)

theorem Block.rd_inc_other (b : Block) (f : Field) (off : Nat) (h : off ≠ f.off) : (b.inc f).rd off = b.rd off :=
  b.rd_set_other f _ off h

theorem Block.rd_incSat_other (b : Block) (f : Field) (off : Nat) (h : off ≠ f.off) :
    (b.incSat f).rd off = b.rd off := by
  unfold Block.incSat
  split
  · exact b.rd_set_other f _ off h
  · rfl

theorem Block.rd_setBit_other (b : Block) (f : Field) (i : Nat) (on : Bool) (off : Nat) (h : off ≠ f.off) :
    (b.setBit f i on).rd off = b.rd off := b.rd_set_other f _ off h

theorem Block.rd_setOn_other (b : Block) (f : Field) (on : Bool) (off : Nat) (h : off ≠ f.off) :
    (b.setOn f on).rd off = b.rd off := b.rd_set_other f _ off h

theorem Block.rd_pend_other (b : Block) (f : Field) (off : Nat) (h : off ≠ f.off) : (b.pend f).rd off = b.rd off := by
  unfold Block.pend
  split
  · rfl
  · rw [Block.rd_of_regs (Block.raiseFixed_regs _ _), b.rd_set_other f 1 off h]

theorem Block.rd_journalWrite (b : Block) (r : FbRecord) (k : Nat) (hours age : Word) (off : Nat)
    (h : off ∉ journalRegs) : (b.journalWrite r k hours age).rd off = b.rd off := by
  simp only [journalRegs, List.mem_cons, List.not_mem_nil, or_false, not_or] at h
  obtain ⟨h1, h2, h3, h4⟩ := h
  unfold Block.journalWrite
  dsimp only
  split
  · rw [Block.rd_pend_other _ _ _ h4, Block.rd_inc_other _ _ _ h3]
    rfl
  · rw [Block.rd_setAll_other]
    · rfl
    · intro p hp
      simp only [List.mem_cons, List.not_mem_nil, or_false] at hp
      rcases hp with rfl | rfl | rfl
      · exact h1
      · exact h2
      · exact h2

theorem Block.rd_takeSlot (b : Block) (m : FbRecord) (off : Nat) (h1 : off ≠ Reg.FB_HEAD) (h2 : off ≠ Reg.FB_LOST) :
    (b.takeSlot m).rd off = b.rd off := by
  unfold Block.takeSlot
  dsimp only
  rw [Block.rd_inc_other _ _ _ h1, Block.rd_of_regs (Block.putRecord_regs _ _ _)]
  split
  · exact Block.rd_inc_other _ _ _ h2
  · rfl

/-- A record writes no register but FB_HEAD, FB_LOST and, at severity 3 or more, the journal's. -/
theorem Block.rd_post (b : Block) (code sev src : Nat) (args : List (Nat × Nat)) (off : Nat) (h : off ∉ recordRegs) :
    (b.post code sev src args).rd off = b.rd off := by
  simp only [recordRegs, List.mem_cons, not_or] at h
  obtain ⟨h1, h2, h3⟩ := h
  have hs : ∀ m, (b.takeSlot m).rd off = b.rd off := fun m => b.rd_takeSlot m off h1 h2
  unfold Block.post
  dsimp only
  rw [Block.rd_of_regs (Block.notifyRecord_regs _ _)]
  split
  · rw [Block.rd_journalWrite _ _ _ _ _ _ h3, hs]
  · exact hs _

theorem Block.get_post (b : Block) (code sev src : Nat) (args : List (Nat × Nat)) (f : Field) (h : f.off ∉ recordRegs) :
    (b.post code sev src args).get f = b.get f := Block.get_of_rd (b.rd_post code sev src args f.off h)

theorem Block.get_pend (b : Block) (f : Field) (hf : f.fits) (hw : f.width = 1) : (b.pend f).get f = 1 := by
  unfold Block.pend
  split
  · rename_i h
    have h2 := b.get_lt f
    unfold Block.on at h
    rw [hw] at h2
    have h3 : b.get f ≠ 0 := by simpa using h
    omega
  · rw [Block.get_of_regs (Block.raiseFixed_regs _ _), b.get_set_same f 1 hf, hw]
    norm_num

/-! ### The output stages (R532) -/

theorem Block.gated_service (b : Block) (h : b.dev = .service) : b.gated = b := by
  unfold Block.gated
  simp [h, DevState.joins, DevState.silent]

/-- Outside RESET, LOAD and QUIET the output stages write no register. -/
theorem Block.gated_regs (b : Block) (h : b.dev.silent = false) : b.gated.regs = b.regs := by
  unfold Block.gated
  dsimp only
  split <;> split <;> simp [h]

theorem Block.gated_rd (b : Block) (h : b.dev.silent = false) (off : Nat) : b.gated.rd off = b.rd off :=
  Block.rd_of_regs (b.gated_regs h) off

/-- In every device state the output stages write no register but SP_STAT of port 1. -/
theorem Block.gated_rd_other (b : Block) (off : Nat) (h : off ≠ Reg.SP_STAT 1) : b.gated.rd off = b.rd off := by
  unfold Block.gated
  dsimp only
  have key : ∀ c : Block, c.rd off = b.rd off → (if c.dev.silent = true then c.muteOutputs else c).rd off = b.rd off := by
    intro c hc
    split
    · unfold Block.muteOutputs
      rw [Block.rd_set_other _ _ _ _ h, Block.rd_of_regs (Block.hushOutputs_regs _)]
      exact hc
    · exact hc
  apply key
  split <;> split <;> rfl

/-! ### Answers -/

/-- What a meaning answers: the next block through the output stages, the queue as it was; or a refusal by name. -/
theorem answer_next {m : String} {s : State} {f : Block → Block} :
    answer m true s f = .next { s with blk := (f s.blk).gated } := rfl


end Sys2Proof.Machine
end

