-- ==== Sys2Proof/Laws/Modes.lean ====
section
/-!
SUPPORT. What the operations on ports, loops and device states can do.
-/

namespace Sys2Proof.Machine

/-! ### Folds -/

/-- What every step of a fold leaves alone, the fold leaves alone. -/
theorem foldl_keeps {α β γ : Type} (π : β → γ) (f : β → α → β) (l : List α) (b : β)
    (h : ∀ b x, π (f b x) = π b) : π (l.foldl f b) = π b := by
  induction l generalizing b with
  | nil => rfl
  | cons x l ih => rw [List.foldl_cons, ih, h]

/-- What a fold's step leaves alone for the listed elements, the fold leaves alone. -/
theorem foldl_keeps_mem {α β γ : Type} (π : β → γ) (f : β → α → β) (l : List α) (b : β)
    (h : ∀ b, ∀ x ∈ l, π (f b x) = π b) : π (l.foldl f b) = π b := by
  induction l generalizing b with
  | nil => rfl
  | cons x l ih =>
    rw [List.foldl_cons, ih _ fun b y hy => h b y (List.mem_cons_of_mem _ hy), h b x (by simp)]


/-! ### refreshPort -/

@[simp] theorem Block.refreshPort_ticks (b : Block) (n : Nat) : (b.refreshPort n).ticks = b.ticks := by
  unfold Block.refreshPort; simp only [Block.set_ticks]
@[simp] theorem Block.refreshPort_drawn (b : Block) (n : Nat) : (b.refreshPort n).drawn = b.drawn := by
  unfold Block.refreshPort; simp only [Block.set_drawn]
@[simp] theorem Block.refreshPort_dev (b : Block) (n : Nat) : (b.refreshPort n).dev = b.dev := by
  unfold Block.refreshPort; simp only [Block.set_dev]
@[simp] theorem Block.refreshPort_host (b : Block) (n : Nat) : (b.refreshPort n).host = b.host := by
  unfold Block.refreshPort; simp only [Block.set_host]
@[simp] theorem Block.refreshPort_strata (b : Block) (n : Nat) : (b.refreshPort n).strata = b.strata := by
  unfold Block.refreshPort; simp only [Block.set_strata]
@[simp] theorem Block.refreshPort_book (b : Block) (n : Nat) : (b.refreshPort n).book = b.book := by
  unfold Block.refreshPort; simp only [Block.set_book]
@[simp] theorem Block.refreshPort_fault (b : Block) (n : Nat) : (b.refreshPort n).fault = b.fault := by
  unfold Block.refreshPort; simp only [Block.set_fault]
@[simp] theorem Block.refreshPort_journal (b : Block) (n : Nat) : (b.refreshPort n).journal = b.journal := by
  unfold Block.refreshPort; simp only [Block.set_journal]
@[simp] theorem Block.refreshPort_img (b : Block) (n : Nat) : (b.refreshPort n).img = b.img := by
  unfold Block.refreshPort; simp only [Block.set_img]
@[simp] theorem Block.refreshPort_brg (b : Block) (n : Nat) : (b.refreshPort n).brg = b.brg := by
  unfold Block.refreshPort; simp only [Block.set_brg]
@[simp] theorem Block.refreshPort_dtm (b : Block) (n : Nat) : (b.refreshPort n).dtm = b.dtm := by
  unfold Block.refreshPort; simp only [Block.set_dtm]
@[simp] theorem Block.refreshPort_pool (b : Block) (n : Nat) : (b.refreshPort n).pool = b.pool := by
  unfold Block.refreshPort; simp only [Block.set_pool]
@[simp] theorem Block.refreshPort_ports (b : Block) (n : Nat) : (b.refreshPort n).ports = b.ports := by
  unfold Block.refreshPort; simp only [Block.set_ports]
@[simp] theorem Block.refreshPort_sound (b : Block) (n : Nat) : (b.refreshPort n).sound = b.sound := by
  unfold Block.refreshPort; simp only [Block.set_sound]
@[simp] theorem Block.refreshPort_chain (b : Block) (n : Nat) : (b.refreshPort n).chain = b.chain := by
  unfold Block.refreshPort; simp only [Block.set_chain]
@[simp] theorem Block.refreshPort_mac (b : Block) (n : Nat) : (b.refreshPort n).mac = b.mac := by
  unfold Block.refreshPort; simp only [Block.set_mac]
@[simp] theorem Block.refreshPort_trv (b : Block) (n : Nat) : (b.refreshPort n).trv = b.trv := by
  unfold Block.refreshPort; simp only [Block.set_trv]
@[simp] theorem Block.refreshPort_g3 (b : Block) (n : Nat) : (b.refreshPort n).g3 = b.g3 := by
  unfold Block.refreshPort; simp only [Block.set_g3]
@[simp] theorem Block.refreshPort_cx (b : Block) (n : Nat) : (b.refreshPort n).cx = b.cx := by
  unfold Block.refreshPort; simp only [Block.set_cx]
@[simp] theorem Block.refreshPort_sense (b : Block) (n : Nat) : (b.refreshPort n).sense = b.sense := by
  unfold Block.refreshPort; simp only [Block.set_sense]
@[simp] theorem Block.refreshPort_serial (b : Block) (n : Nat) : (b.refreshPort n).serial = b.serial := by
  unfold Block.refreshPort; simp only [Block.set_serial]
@[simp] theorem Block.refreshPort_oscillator (b : Block) (n : Nat) : (b.refreshPort n).oscillator = b.oscillator := by
  unfold Block.refreshPort; simp only [Block.set_oscillator]

/-! ### refreshPorts -/

@[simp] theorem Block.refreshPorts_ticks (b : Block) : (b.refreshPorts).ticks = b.ticks := by
  exact foldl_keeps (fun b : Block => b.ticks) _ _ _ fun b n => b.refreshPort_ticks n
@[simp] theorem Block.refreshPorts_drawn (b : Block) : (b.refreshPorts).drawn = b.drawn := by
  exact foldl_keeps (fun b : Block => b.drawn) _ _ _ fun b n => b.refreshPort_drawn n
@[simp] theorem Block.refreshPorts_dev (b : Block) : (b.refreshPorts).dev = b.dev := by
  exact foldl_keeps (fun b : Block => b.dev) _ _ _ fun b n => b.refreshPort_dev n
@[simp] theorem Block.refreshPorts_host (b : Block) : (b.refreshPorts).host = b.host := by
  exact foldl_keeps (fun b : Block => b.host) _ _ _ fun b n => b.refreshPort_host n
@[simp] theorem Block.refreshPorts_strata (b : Block) : (b.refreshPorts).strata = b.strata := by
  exact foldl_keeps (fun b : Block => b.strata) _ _ _ fun b n => b.refreshPort_strata n
@[simp] theorem Block.refreshPorts_book (b : Block) : (b.refreshPorts).book = b.book := by
  exact foldl_keeps (fun b : Block => b.book) _ _ _ fun b n => b.refreshPort_book n
@[simp] theorem Block.refreshPorts_fault (b : Block) : (b.refreshPorts).fault = b.fault := by
  exact foldl_keeps (fun b : Block => b.fault) _ _ _ fun b n => b.refreshPort_fault n
@[simp] theorem Block.refreshPorts_journal (b : Block) : (b.refreshPorts).journal = b.journal := by
  exact foldl_keeps (fun b : Block => b.journal) _ _ _ fun b n => b.refreshPort_journal n
@[simp] theorem Block.refreshPorts_img (b : Block) : (b.refreshPorts).img = b.img := by
  exact foldl_keeps (fun b : Block => b.img) _ _ _ fun b n => b.refreshPort_img n
@[simp] theorem Block.refreshPorts_brg (b : Block) : (b.refreshPorts).brg = b.brg := by
  exact foldl_keeps (fun b : Block => b.brg) _ _ _ fun b n => b.refreshPort_brg n
@[simp] theorem Block.refreshPorts_dtm (b : Block) : (b.refreshPorts).dtm = b.dtm := by
  exact foldl_keeps (fun b : Block => b.dtm) _ _ _ fun b n => b.refreshPort_dtm n
@[simp] theorem Block.refreshPorts_pool (b : Block) : (b.refreshPorts).pool = b.pool := by
  exact foldl_keeps (fun b : Block => b.pool) _ _ _ fun b n => b.refreshPort_pool n
@[simp] theorem Block.refreshPorts_ports (b : Block) : (b.refreshPorts).ports = b.ports := by
  exact foldl_keeps (fun b : Block => b.ports) _ _ _ fun b n => b.refreshPort_ports n
@[simp] theorem Block.refreshPorts_sound (b : Block) : (b.refreshPorts).sound = b.sound := by
  exact foldl_keeps (fun b : Block => b.sound) _ _ _ fun b n => b.refreshPort_sound n
@[simp] theorem Block.refreshPorts_chain (b : Block) : (b.refreshPorts).chain = b.chain := by
  exact foldl_keeps (fun b : Block => b.chain) _ _ _ fun b n => b.refreshPort_chain n
@[simp] theorem Block.refreshPorts_mac (b : Block) : (b.refreshPorts).mac = b.mac := by
  exact foldl_keeps (fun b : Block => b.mac) _ _ _ fun b n => b.refreshPort_mac n
@[simp] theorem Block.refreshPorts_trv (b : Block) : (b.refreshPorts).trv = b.trv := by
  exact foldl_keeps (fun b : Block => b.trv) _ _ _ fun b n => b.refreshPort_trv n
@[simp] theorem Block.refreshPorts_g3 (b : Block) : (b.refreshPorts).g3 = b.g3 := by
  exact foldl_keeps (fun b : Block => b.g3) _ _ _ fun b n => b.refreshPort_g3 n
@[simp] theorem Block.refreshPorts_cx (b : Block) : (b.refreshPorts).cx = b.cx := by
  exact foldl_keeps (fun b : Block => b.cx) _ _ _ fun b n => b.refreshPort_cx n
@[simp] theorem Block.refreshPorts_sense (b : Block) : (b.refreshPorts).sense = b.sense := by
  exact foldl_keeps (fun b : Block => b.sense) _ _ _ fun b n => b.refreshPort_sense n
@[simp] theorem Block.refreshPorts_serial (b : Block) : (b.refreshPorts).serial = b.serial := by
  exact foldl_keeps (fun b : Block => b.serial) _ _ _ fun b n => b.refreshPort_serial n
@[simp] theorem Block.refreshPorts_oscillator (b : Block) : (b.refreshPorts).oscillator = b.oscillator := by
  exact foldl_keeps (fun b : Block => b.oscillator) _ _ _ fun b n => b.refreshPort_oscillator n

/-! ### refreshLoop -/

@[simp] theorem Block.refreshLoop_ticks (b : Block) (n : Nat) : (b.refreshLoop n).ticks = b.ticks := by
  unfold Block.refreshLoop; split; · exact (rfl)
  dsimp only; split <;> simp only [Block.set_ticks, Block.setAll_ticks]
@[simp] theorem Block.refreshLoop_drawn (b : Block) (n : Nat) : (b.refreshLoop n).drawn = b.drawn := by
  unfold Block.refreshLoop; split; · exact (rfl)
  dsimp only; split <;> simp only [Block.set_drawn, Block.setAll_drawn]
@[simp] theorem Block.refreshLoop_dev (b : Block) (n : Nat) : (b.refreshLoop n).dev = b.dev := by
  unfold Block.refreshLoop; split; · exact (rfl)
  dsimp only; split <;> simp only [Block.set_dev, Block.setAll_dev]
@[simp] theorem Block.refreshLoop_host (b : Block) (n : Nat) : (b.refreshLoop n).host = b.host := by
  unfold Block.refreshLoop; split; · exact (rfl)
  dsimp only; split <;> simp only [Block.set_host, Block.setAll_host]
@[simp] theorem Block.refreshLoop_strata (b : Block) (n : Nat) : (b.refreshLoop n).strata = b.strata := by
  unfold Block.refreshLoop; split; · exact (rfl)
  dsimp only; split <;> simp only [Block.set_strata, Block.setAll_strata]
@[simp] theorem Block.refreshLoop_book (b : Block) (n : Nat) : (b.refreshLoop n).book = b.book := by
  unfold Block.refreshLoop; split; · exact (rfl)
  dsimp only; split <;> simp only [Block.set_book, Block.setAll_book]
@[simp] theorem Block.refreshLoop_fault (b : Block) (n : Nat) : (b.refreshLoop n).fault = b.fault := by
  unfold Block.refreshLoop; split; · exact (rfl)
  dsimp only; split <;> simp only [Block.set_fault, Block.setAll_fault]
@[simp] theorem Block.refreshLoop_journal (b : Block) (n : Nat) : (b.refreshLoop n).journal = b.journal := by
  unfold Block.refreshLoop; split; · exact (rfl)
  dsimp only; split <;> simp only [Block.set_journal, Block.setAll_journal]
@[simp] theorem Block.refreshLoop_img (b : Block) (n : Nat) : (b.refreshLoop n).img = b.img := by
  unfold Block.refreshLoop; split; · exact (rfl)
  dsimp only; split <;> simp only [Block.set_img, Block.setAll_img]
@[simp] theorem Block.refreshLoop_brg (b : Block) (n : Nat) : (b.refreshLoop n).brg = b.brg := by
  unfold Block.refreshLoop; split; · exact (rfl)
  dsimp only; split <;> simp only [Block.set_brg, Block.setAll_brg]
@[simp] theorem Block.refreshLoop_dtm (b : Block) (n : Nat) : (b.refreshLoop n).dtm = b.dtm := by
  unfold Block.refreshLoop; split; · exact (rfl)
  dsimp only; split <;> simp only [Block.set_dtm, Block.setAll_dtm]
@[simp] theorem Block.refreshLoop_pool (b : Block) (n : Nat) : (b.refreshLoop n).pool = b.pool := by
  unfold Block.refreshLoop; split; · exact (rfl)
  dsimp only; split <;> simp only [Block.set_pool, Block.setAll_pool]
@[simp] theorem Block.refreshLoop_ports (b : Block) (n : Nat) : (b.refreshLoop n).ports = b.ports := by
  unfold Block.refreshLoop; split; · exact (rfl)
  dsimp only; split <;> simp only [Block.set_ports, Block.setAll_ports]
@[simp] theorem Block.refreshLoop_sound (b : Block) (n : Nat) : (b.refreshLoop n).sound = b.sound := by
  unfold Block.refreshLoop; split; · exact (rfl)
  dsimp only; split <;> simp only [Block.set_sound, Block.setAll_sound]
@[simp] theorem Block.refreshLoop_chain (b : Block) (n : Nat) : (b.refreshLoop n).chain = b.chain := by
  unfold Block.refreshLoop; split; · exact (rfl)
  dsimp only; split <;> simp only [Block.set_chain, Block.setAll_chain]
@[simp] theorem Block.refreshLoop_mac (b : Block) (n : Nat) : (b.refreshLoop n).mac = b.mac := by
  unfold Block.refreshLoop; split; · exact (rfl)
  dsimp only; split <;> simp only [Block.set_mac, Block.setAll_mac]
@[simp] theorem Block.refreshLoop_trv (b : Block) (n : Nat) : (b.refreshLoop n).trv = b.trv := by
  unfold Block.refreshLoop; split; · exact (rfl)
  dsimp only; split <;> simp only [Block.set_trv, Block.setAll_trv]
@[simp] theorem Block.refreshLoop_g3 (b : Block) (n : Nat) : (b.refreshLoop n).g3 = b.g3 := by
  unfold Block.refreshLoop; split; · exact (rfl)
  dsimp only; split <;> simp only [Block.set_g3, Block.setAll_g3]
@[simp] theorem Block.refreshLoop_cx (b : Block) (n : Nat) : (b.refreshLoop n).cx = b.cx := by
  unfold Block.refreshLoop; split; · exact (rfl)
  dsimp only; split <;> simp only [Block.set_cx, Block.setAll_cx]
@[simp] theorem Block.refreshLoop_sense (b : Block) (n : Nat) : (b.refreshLoop n).sense = b.sense := by
  unfold Block.refreshLoop; split; · exact (rfl)
  dsimp only; split <;> simp only [Block.set_sense, Block.setAll_sense]
@[simp] theorem Block.refreshLoop_serial (b : Block) (n : Nat) : (b.refreshLoop n).serial = b.serial := by
  unfold Block.refreshLoop; split; · exact (rfl)
  dsimp only; split <;> simp only [Block.set_serial, Block.setAll_serial]
@[simp] theorem Block.refreshLoop_oscillator (b : Block) (n : Nat) : (b.refreshLoop n).oscillator = b.oscillator := by
  unfold Block.refreshLoop; split; · exact (rfl)
  dsimp only; split <;> simp only [Block.set_oscillator, Block.setAll_oscillator]

/-! ### refreshLoops -/

@[simp] theorem Block.refreshLoops_ticks (b : Block) : (b.refreshLoops).ticks = b.ticks := by
  unfold Block.refreshLoops; rw [Block.refreshLoop_ticks, Block.refreshLoop_ticks]
@[simp] theorem Block.refreshLoops_drawn (b : Block) : (b.refreshLoops).drawn = b.drawn := by
  unfold Block.refreshLoops; rw [Block.refreshLoop_drawn, Block.refreshLoop_drawn]
@[simp] theorem Block.refreshLoops_dev (b : Block) : (b.refreshLoops).dev = b.dev := by
  unfold Block.refreshLoops; rw [Block.refreshLoop_dev, Block.refreshLoop_dev]
@[simp] theorem Block.refreshLoops_host (b : Block) : (b.refreshLoops).host = b.host := by
  unfold Block.refreshLoops; rw [Block.refreshLoop_host, Block.refreshLoop_host]
@[simp] theorem Block.refreshLoops_strata (b : Block) : (b.refreshLoops).strata = b.strata := by
  unfold Block.refreshLoops; rw [Block.refreshLoop_strata, Block.refreshLoop_strata]
@[simp] theorem Block.refreshLoops_book (b : Block) : (b.refreshLoops).book = b.book := by
  unfold Block.refreshLoops; rw [Block.refreshLoop_book, Block.refreshLoop_book]
@[simp] theorem Block.refreshLoops_fault (b : Block) : (b.refreshLoops).fault = b.fault := by
  unfold Block.refreshLoops; rw [Block.refreshLoop_fault, Block.refreshLoop_fault]
@[simp] theorem Block.refreshLoops_journal (b : Block) : (b.refreshLoops).journal = b.journal := by
  unfold Block.refreshLoops; rw [Block.refreshLoop_journal, Block.refreshLoop_journal]
@[simp] theorem Block.refreshLoops_img (b : Block) : (b.refreshLoops).img = b.img := by
  unfold Block.refreshLoops; rw [Block.refreshLoop_img, Block.refreshLoop_img]
@[simp] theorem Block.refreshLoops_brg (b : Block) : (b.refreshLoops).brg = b.brg := by
  unfold Block.refreshLoops; rw [Block.refreshLoop_brg, Block.refreshLoop_brg]
@[simp] theorem Block.refreshLoops_dtm (b : Block) : (b.refreshLoops).dtm = b.dtm := by
  unfold Block.refreshLoops; rw [Block.refreshLoop_dtm, Block.refreshLoop_dtm]
@[simp] theorem Block.refreshLoops_pool (b : Block) : (b.refreshLoops).pool = b.pool := by
  unfold Block.refreshLoops; rw [Block.refreshLoop_pool, Block.refreshLoop_pool]
@[simp] theorem Block.refreshLoops_ports (b : Block) : (b.refreshLoops).ports = b.ports := by
  unfold Block.refreshLoops; rw [Block.refreshLoop_ports, Block.refreshLoop_ports]
@[simp] theorem Block.refreshLoops_sound (b : Block) : (b.refreshLoops).sound = b.sound := by
  unfold Block.refreshLoops; rw [Block.refreshLoop_sound, Block.refreshLoop_sound]
@[simp] theorem Block.refreshLoops_chain (b : Block) : (b.refreshLoops).chain = b.chain := by
  unfold Block.refreshLoops; rw [Block.refreshLoop_chain, Block.refreshLoop_chain]
@[simp] theorem Block.refreshLoops_mac (b : Block) : (b.refreshLoops).mac = b.mac := by
  unfold Block.refreshLoops; rw [Block.refreshLoop_mac, Block.refreshLoop_mac]
@[simp] theorem Block.refreshLoops_trv (b : Block) : (b.refreshLoops).trv = b.trv := by
  unfold Block.refreshLoops; rw [Block.refreshLoop_trv, Block.refreshLoop_trv]
@[simp] theorem Block.refreshLoops_g3 (b : Block) : (b.refreshLoops).g3 = b.g3 := by
  unfold Block.refreshLoops; rw [Block.refreshLoop_g3, Block.refreshLoop_g3]
@[simp] theorem Block.refreshLoops_cx (b : Block) : (b.refreshLoops).cx = b.cx := by
  unfold Block.refreshLoops; rw [Block.refreshLoop_cx, Block.refreshLoop_cx]
@[simp] theorem Block.refreshLoops_sense (b : Block) : (b.refreshLoops).sense = b.sense := by
  unfold Block.refreshLoops; rw [Block.refreshLoop_sense, Block.refreshLoop_sense]
@[simp] theorem Block.refreshLoops_serial (b : Block) : (b.refreshLoops).serial = b.serial := by
  unfold Block.refreshLoops; rw [Block.refreshLoop_serial, Block.refreshLoop_serial]
@[simp] theorem Block.refreshLoops_oscillator (b : Block) : (b.refreshLoops).oscillator = b.oscillator := by
  unfold Block.refreshLoops; rw [Block.refreshLoop_oscillator, Block.refreshLoop_oscillator]

/-! ### putCell -/

@[simp] theorem Block.putCell_ticks (b : Block) (ringB : Bool) (bytes : List Byte) : (b.putCell ringB bytes).ticks = b.ticks := by
  unfold Block.putCell; dsimp only; generalize (if b.wrapped ringB = true then !ringB else ringB) = o; split <;> exact (rfl)
@[simp] theorem Block.putCell_drawn (b : Block) (ringB : Bool) (bytes : List Byte) : (b.putCell ringB bytes).drawn = b.drawn := by
  unfold Block.putCell; dsimp only; generalize (if b.wrapped ringB = true then !ringB else ringB) = o; split <;> exact (rfl)
@[simp] theorem Block.putCell_dev (b : Block) (ringB : Bool) (bytes : List Byte) : (b.putCell ringB bytes).dev = b.dev := by
  unfold Block.putCell; dsimp only; generalize (if b.wrapped ringB = true then !ringB else ringB) = o; split <;> exact (rfl)
@[simp] theorem Block.putCell_regs (b : Block) (ringB : Bool) (bytes : List Byte) : (b.putCell ringB bytes).regs = b.regs := by
  unfold Block.putCell; dsimp only; generalize (if b.wrapped ringB = true then !ringB else ringB) = o; split <;> exact (rfl)
@[simp] theorem Block.putCell_host (b : Block) (ringB : Bool) (bytes : List Byte) : (b.putCell ringB bytes).host = b.host := by
  unfold Block.putCell; dsimp only; generalize (if b.wrapped ringB = true then !ringB else ringB) = o; split <;> exact (rfl)
@[simp] theorem Block.putCell_strata (b : Block) (ringB : Bool) (bytes : List Byte) : (b.putCell ringB bytes).strata = b.strata := by
  unfold Block.putCell; dsimp only; generalize (if b.wrapped ringB = true then !ringB else ringB) = o; split <;> exact (rfl)
@[simp] theorem Block.putCell_book (b : Block) (ringB : Bool) (bytes : List Byte) : (b.putCell ringB bytes).book = b.book := by
  unfold Block.putCell; dsimp only; generalize (if b.wrapped ringB = true then !ringB else ringB) = o; split <;> exact (rfl)
@[simp] theorem Block.putCell_fault (b : Block) (ringB : Bool) (bytes : List Byte) : (b.putCell ringB bytes).fault = b.fault := by
  unfold Block.putCell; dsimp only; generalize (if b.wrapped ringB = true then !ringB else ringB) = o; split <;> exact (rfl)
@[simp] theorem Block.putCell_journal (b : Block) (ringB : Bool) (bytes : List Byte) : (b.putCell ringB bytes).journal = b.journal := by
  unfold Block.putCell; dsimp only; generalize (if b.wrapped ringB = true then !ringB else ringB) = o; split <;> exact (rfl)
@[simp] theorem Block.putCell_img (b : Block) (ringB : Bool) (bytes : List Byte) : (b.putCell ringB bytes).img = b.img := by
  unfold Block.putCell; dsimp only; generalize (if b.wrapped ringB = true then !ringB else ringB) = o; split <;> exact (rfl)
@[simp] theorem Block.putCell_brg (b : Block) (ringB : Bool) (bytes : List Byte) : (b.putCell ringB bytes).brg = b.brg := by
  unfold Block.putCell; dsimp only; generalize (if b.wrapped ringB = true then !ringB else ringB) = o; split <;> exact (rfl)
@[simp] theorem Block.putCell_dtm (b : Block) (ringB : Bool) (bytes : List Byte) : (b.putCell ringB bytes).dtm = b.dtm := by
  unfold Block.putCell; dsimp only; generalize (if b.wrapped ringB = true then !ringB else ringB) = o; split <;> exact (rfl)
@[simp] theorem Block.putCell_pool (b : Block) (ringB : Bool) (bytes : List Byte) : (b.putCell ringB bytes).pool = b.pool := by
  unfold Block.putCell; dsimp only; generalize (if b.wrapped ringB = true then !ringB else ringB) = o; split <;> exact (rfl)
@[simp] theorem Block.putCell_ports (b : Block) (ringB : Bool) (bytes : List Byte) : (b.putCell ringB bytes).ports = b.ports := by
  unfold Block.putCell; dsimp only; generalize (if b.wrapped ringB = true then !ringB else ringB) = o; split <;> exact (rfl)
@[simp] theorem Block.putCell_sound (b : Block) (ringB : Bool) (bytes : List Byte) : (b.putCell ringB bytes).sound = b.sound := by
  unfold Block.putCell; dsimp only; generalize (if b.wrapped ringB = true then !ringB else ringB) = o; split <;> exact (rfl)
@[simp] theorem Block.putCell_mac (b : Block) (ringB : Bool) (bytes : List Byte) : (b.putCell ringB bytes).mac = b.mac := by
  unfold Block.putCell; dsimp only; generalize (if b.wrapped ringB = true then !ringB else ringB) = o; split <;> exact (rfl)
@[simp] theorem Block.putCell_trv (b : Block) (ringB : Bool) (bytes : List Byte) : (b.putCell ringB bytes).trv = b.trv := by
  unfold Block.putCell; dsimp only; generalize (if b.wrapped ringB = true then !ringB else ringB) = o; split <;> exact (rfl)
@[simp] theorem Block.putCell_g3 (b : Block) (ringB : Bool) (bytes : List Byte) : (b.putCell ringB bytes).g3 = b.g3 := by
  unfold Block.putCell; dsimp only; generalize (if b.wrapped ringB = true then !ringB else ringB) = o; split <;> exact (rfl)
@[simp] theorem Block.putCell_cx (b : Block) (ringB : Bool) (bytes : List Byte) : (b.putCell ringB bytes).cx = b.cx := by
  unfold Block.putCell; dsimp only; generalize (if b.wrapped ringB = true then !ringB else ringB) = o; split <;> exact (rfl)
@[simp] theorem Block.putCell_sense (b : Block) (ringB : Bool) (bytes : List Byte) : (b.putCell ringB bytes).sense = b.sense := by
  unfold Block.putCell; dsimp only; generalize (if b.wrapped ringB = true then !ringB else ringB) = o; split <;> exact (rfl)
@[simp] theorem Block.putCell_serial (b : Block) (ringB : Bool) (bytes : List Byte) : (b.putCell ringB bytes).serial = b.serial := by
  unfold Block.putCell; dsimp only; generalize (if b.wrapped ringB = true then !ringB else ringB) = o; split <;> exact (rfl)
@[simp] theorem Block.putCell_oscillator (b : Block) (ringB : Bool) (bytes : List Byte) : (b.putCell ringB bytes).oscillator = b.oscillator := by
  unfold Block.putCell; dsimp only; generalize (if b.wrapped ringB = true then !ringB else ringB) = o; split <;> exact (rfl)

/-! ### sendCell -/

@[simp] theorem Block.sendCell_ticks (b : Block) (kind dst : Nat) (bcast : Bool) (body : List Byte) : (b.sendCell kind dst bcast body).ticks = b.ticks := by
  unfold Block.sendCell; dsimp only; rw [Block.putCell_ticks, Block.putCell_ticks]; exact (rfl)
@[simp] theorem Block.sendCell_drawn (b : Block) (kind dst : Nat) (bcast : Bool) (body : List Byte) : (b.sendCell kind dst bcast body).drawn = b.drawn := by
  unfold Block.sendCell; dsimp only; rw [Block.putCell_drawn, Block.putCell_drawn]; exact (rfl)
@[simp] theorem Block.sendCell_dev (b : Block) (kind dst : Nat) (bcast : Bool) (body : List Byte) : (b.sendCell kind dst bcast body).dev = b.dev := by
  unfold Block.sendCell; dsimp only; rw [Block.putCell_dev, Block.putCell_dev]; exact (rfl)
@[simp] theorem Block.sendCell_regs (b : Block) (kind dst : Nat) (bcast : Bool) (body : List Byte) : (b.sendCell kind dst bcast body).regs = b.regs := by
  unfold Block.sendCell; dsimp only; rw [Block.putCell_regs, Block.putCell_regs]; exact (rfl)
@[simp] theorem Block.sendCell_host (b : Block) (kind dst : Nat) (bcast : Bool) (body : List Byte) : (b.sendCell kind dst bcast body).host = b.host := by
  unfold Block.sendCell; dsimp only; rw [Block.putCell_host, Block.putCell_host]; exact (rfl)
@[simp] theorem Block.sendCell_strata (b : Block) (kind dst : Nat) (bcast : Bool) (body : List Byte) : (b.sendCell kind dst bcast body).strata = b.strata := by
  unfold Block.sendCell; dsimp only; rw [Block.putCell_strata, Block.putCell_strata]; exact (rfl)
@[simp] theorem Block.sendCell_book (b : Block) (kind dst : Nat) (bcast : Bool) (body : List Byte) : (b.sendCell kind dst bcast body).book = b.book := by
  unfold Block.sendCell; dsimp only; rw [Block.putCell_book, Block.putCell_book]; exact (rfl)
@[simp] theorem Block.sendCell_fault (b : Block) (kind dst : Nat) (bcast : Bool) (body : List Byte) : (b.sendCell kind dst bcast body).fault = b.fault := by
  unfold Block.sendCell; dsimp only; rw [Block.putCell_fault, Block.putCell_fault]; exact (rfl)
@[simp] theorem Block.sendCell_journal (b : Block) (kind dst : Nat) (bcast : Bool) (body : List Byte) : (b.sendCell kind dst bcast body).journal = b.journal := by
  unfold Block.sendCell; dsimp only; rw [Block.putCell_journal, Block.putCell_journal]; exact (rfl)
@[simp] theorem Block.sendCell_img (b : Block) (kind dst : Nat) (bcast : Bool) (body : List Byte) : (b.sendCell kind dst bcast body).img = b.img := by
  unfold Block.sendCell; dsimp only; rw [Block.putCell_img, Block.putCell_img]; exact (rfl)
@[simp] theorem Block.sendCell_brg (b : Block) (kind dst : Nat) (bcast : Bool) (body : List Byte) : (b.sendCell kind dst bcast body).brg = b.brg := by
  unfold Block.sendCell; dsimp only; rw [Block.putCell_brg, Block.putCell_brg]; exact (rfl)
@[simp] theorem Block.sendCell_dtm (b : Block) (kind dst : Nat) (bcast : Bool) (body : List Byte) : (b.sendCell kind dst bcast body).dtm = b.dtm := by
  unfold Block.sendCell; dsimp only; rw [Block.putCell_dtm, Block.putCell_dtm]; exact (rfl)
@[simp] theorem Block.sendCell_pool (b : Block) (kind dst : Nat) (bcast : Bool) (body : List Byte) : (b.sendCell kind dst bcast body).pool = b.pool := by
  unfold Block.sendCell; dsimp only; rw [Block.putCell_pool, Block.putCell_pool]; exact (rfl)
@[simp] theorem Block.sendCell_ports (b : Block) (kind dst : Nat) (bcast : Bool) (body : List Byte) : (b.sendCell kind dst bcast body).ports = b.ports := by
  unfold Block.sendCell; dsimp only; rw [Block.putCell_ports, Block.putCell_ports]; exact (rfl)
@[simp] theorem Block.sendCell_sound (b : Block) (kind dst : Nat) (bcast : Bool) (body : List Byte) : (b.sendCell kind dst bcast body).sound = b.sound := by
  unfold Block.sendCell; dsimp only; rw [Block.putCell_sound, Block.putCell_sound]; exact (rfl)
@[simp] theorem Block.sendCell_mac (b : Block) (kind dst : Nat) (bcast : Bool) (body : List Byte) : (b.sendCell kind dst bcast body).mac = b.mac := by
  unfold Block.sendCell; dsimp only; rw [Block.putCell_mac, Block.putCell_mac]; exact (rfl)
@[simp] theorem Block.sendCell_trv (b : Block) (kind dst : Nat) (bcast : Bool) (body : List Byte) : (b.sendCell kind dst bcast body).trv = b.trv := by
  unfold Block.sendCell; dsimp only; rw [Block.putCell_trv, Block.putCell_trv]; exact (rfl)
@[simp] theorem Block.sendCell_g3 (b : Block) (kind dst : Nat) (bcast : Bool) (body : List Byte) : (b.sendCell kind dst bcast body).g3 = b.g3 := by
  unfold Block.sendCell; dsimp only; rw [Block.putCell_g3, Block.putCell_g3]; exact (rfl)
@[simp] theorem Block.sendCell_cx (b : Block) (kind dst : Nat) (bcast : Bool) (body : List Byte) : (b.sendCell kind dst bcast body).cx = b.cx := by
  unfold Block.sendCell; dsimp only; rw [Block.putCell_cx, Block.putCell_cx]; exact (rfl)
@[simp] theorem Block.sendCell_sense (b : Block) (kind dst : Nat) (bcast : Bool) (body : List Byte) : (b.sendCell kind dst bcast body).sense = b.sense := by
  unfold Block.sendCell; dsimp only; rw [Block.putCell_sense, Block.putCell_sense]; exact (rfl)
@[simp] theorem Block.sendCell_serial (b : Block) (kind dst : Nat) (bcast : Bool) (body : List Byte) : (b.sendCell kind dst bcast body).serial = b.serial := by
  unfold Block.sendCell; dsimp only; rw [Block.putCell_serial, Block.putCell_serial]; exact (rfl)
@[simp] theorem Block.sendCell_oscillator (b : Block) (kind dst : Nat) (bcast : Bool) (body : List Byte) : (b.sendCell kind dst bcast body).oscillator = b.oscillator := by
  unfold Block.sendCell; dsimp only; rw [Block.putCell_oscillator, Block.putCell_oscillator]; exact (rfl)

/-! ### sendVerdict -/

@[simp] theorem Block.sendVerdict_ticks (b : Block) (op verdict cause : Nat) (at_ : Bearing) : (b.sendVerdict op verdict cause at_).ticks = b.ticks := by
  exact b.sendCell_ticks _ _ _ _
@[simp] theorem Block.sendVerdict_drawn (b : Block) (op verdict cause : Nat) (at_ : Bearing) : (b.sendVerdict op verdict cause at_).drawn = b.drawn := by
  exact b.sendCell_drawn _ _ _ _
@[simp] theorem Block.sendVerdict_dev (b : Block) (op verdict cause : Nat) (at_ : Bearing) : (b.sendVerdict op verdict cause at_).dev = b.dev := by
  exact b.sendCell_dev _ _ _ _
@[simp] theorem Block.sendVerdict_regs (b : Block) (op verdict cause : Nat) (at_ : Bearing) : (b.sendVerdict op verdict cause at_).regs = b.regs := by
  exact b.sendCell_regs _ _ _ _
@[simp] theorem Block.sendVerdict_host (b : Block) (op verdict cause : Nat) (at_ : Bearing) : (b.sendVerdict op verdict cause at_).host = b.host := by
  exact b.sendCell_host _ _ _ _
@[simp] theorem Block.sendVerdict_strata (b : Block) (op verdict cause : Nat) (at_ : Bearing) : (b.sendVerdict op verdict cause at_).strata = b.strata := by
  exact b.sendCell_strata _ _ _ _
@[simp] theorem Block.sendVerdict_book (b : Block) (op verdict cause : Nat) (at_ : Bearing) : (b.sendVerdict op verdict cause at_).book = b.book := by
  exact b.sendCell_book _ _ _ _
@[simp] theorem Block.sendVerdict_fault (b : Block) (op verdict cause : Nat) (at_ : Bearing) : (b.sendVerdict op verdict cause at_).fault = b.fault := by
  exact b.sendCell_fault _ _ _ _
@[simp] theorem Block.sendVerdict_journal (b : Block) (op verdict cause : Nat) (at_ : Bearing) : (b.sendVerdict op verdict cause at_).journal = b.journal := by
  exact b.sendCell_journal _ _ _ _
@[simp] theorem Block.sendVerdict_img (b : Block) (op verdict cause : Nat) (at_ : Bearing) : (b.sendVerdict op verdict cause at_).img = b.img := by
  exact b.sendCell_img _ _ _ _
@[simp] theorem Block.sendVerdict_brg (b : Block) (op verdict cause : Nat) (at_ : Bearing) : (b.sendVerdict op verdict cause at_).brg = b.brg := by
  exact b.sendCell_brg _ _ _ _
@[simp] theorem Block.sendVerdict_dtm (b : Block) (op verdict cause : Nat) (at_ : Bearing) : (b.sendVerdict op verdict cause at_).dtm = b.dtm := by
  exact b.sendCell_dtm _ _ _ _
@[simp] theorem Block.sendVerdict_pool (b : Block) (op verdict cause : Nat) (at_ : Bearing) : (b.sendVerdict op verdict cause at_).pool = b.pool := by
  exact b.sendCell_pool _ _ _ _
@[simp] theorem Block.sendVerdict_ports (b : Block) (op verdict cause : Nat) (at_ : Bearing) : (b.sendVerdict op verdict cause at_).ports = b.ports := by
  exact b.sendCell_ports _ _ _ _
@[simp] theorem Block.sendVerdict_sound (b : Block) (op verdict cause : Nat) (at_ : Bearing) : (b.sendVerdict op verdict cause at_).sound = b.sound := by
  exact b.sendCell_sound _ _ _ _
@[simp] theorem Block.sendVerdict_mac (b : Block) (op verdict cause : Nat) (at_ : Bearing) : (b.sendVerdict op verdict cause at_).mac = b.mac := by
  exact b.sendCell_mac _ _ _ _
@[simp] theorem Block.sendVerdict_trv (b : Block) (op verdict cause : Nat) (at_ : Bearing) : (b.sendVerdict op verdict cause at_).trv = b.trv := by
  exact b.sendCell_trv _ _ _ _
@[simp] theorem Block.sendVerdict_g3 (b : Block) (op verdict cause : Nat) (at_ : Bearing) : (b.sendVerdict op verdict cause at_).g3 = b.g3 := by
  exact b.sendCell_g3 _ _ _ _
@[simp] theorem Block.sendVerdict_cx (b : Block) (op verdict cause : Nat) (at_ : Bearing) : (b.sendVerdict op verdict cause at_).cx = b.cx := by
  exact b.sendCell_cx _ _ _ _
@[simp] theorem Block.sendVerdict_sense (b : Block) (op verdict cause : Nat) (at_ : Bearing) : (b.sendVerdict op verdict cause at_).sense = b.sense := by
  exact b.sendCell_sense _ _ _ _
@[simp] theorem Block.sendVerdict_serial (b : Block) (op verdict cause : Nat) (at_ : Bearing) : (b.sendVerdict op verdict cause at_).serial = b.serial := by
  exact b.sendCell_serial _ _ _ _
@[simp] theorem Block.sendVerdict_oscillator (b : Block) (op verdict cause : Nat) (at_ : Bearing) : (b.sendVerdict op verdict cause at_).oscillator = b.oscillator := by
  exact b.sendCell_oscillator _ _ _ _

/-! ### swapAbort -/

@[simp] theorem Block.swapAbort_ticks (b : Block) (cause : Nat) : (b.swapAbort cause).ticks = b.ticks := by
  unfold Block.swapAbort; split; · exact (rfl)
  dsimp only; rw [Block.post_ticks, Block.raiseFixed_ticks, Block.setAll_ticks]
@[simp] theorem Block.swapAbort_drawn (b : Block) (cause : Nat) : (b.swapAbort cause).drawn = b.drawn := by
  unfold Block.swapAbort; split; · exact (rfl)
  dsimp only; rw [Block.post_drawn, Block.raiseFixed_drawn, Block.setAll_drawn]
@[simp] theorem Block.swapAbort_dev (b : Block) (cause : Nat) : (b.swapAbort cause).dev = b.dev := by
  unfold Block.swapAbort; split; · exact (rfl)
  dsimp only; rw [Block.post_dev, Block.raiseFixed_dev, Block.setAll_dev]
@[simp] theorem Block.swapAbort_strata (b : Block) (cause : Nat) : (b.swapAbort cause).strata = b.strata := by
  unfold Block.swapAbort; split; · exact (rfl)
  dsimp only; rw [Block.post_strata, Block.raiseFixed_strata, Block.setAll_strata]
@[simp] theorem Block.swapAbort_brg (b : Block) (cause : Nat) : (b.swapAbort cause).brg = b.brg := by
  unfold Block.swapAbort; split; · exact (rfl)
  dsimp only; rw [Block.post_brg, Block.raiseFixed_brg, Block.setAll_brg]
@[simp] theorem Block.swapAbort_dtm (b : Block) (cause : Nat) : (b.swapAbort cause).dtm = b.dtm := by
  unfold Block.swapAbort; split; · exact (rfl)
  dsimp only; rw [Block.post_dtm, Block.raiseFixed_dtm, Block.setAll_dtm]
@[simp] theorem Block.swapAbort_pool (b : Block) (cause : Nat) : (b.swapAbort cause).pool = b.pool := by
  unfold Block.swapAbort; split; · exact (rfl)
  dsimp only; rw [Block.post_pool, Block.raiseFixed_pool, Block.setAll_pool]
@[simp] theorem Block.swapAbort_ports (b : Block) (cause : Nat) : (b.swapAbort cause).ports = b.ports := by
  unfold Block.swapAbort; split; · exact (rfl)
  dsimp only; rw [Block.post_ports, Block.raiseFixed_ports, Block.setAll_ports]
@[simp] theorem Block.swapAbort_sound (b : Block) (cause : Nat) : (b.swapAbort cause).sound = b.sound := by
  unfold Block.swapAbort; split; · exact (rfl)
  dsimp only; rw [Block.post_sound, Block.raiseFixed_sound, Block.setAll_sound]
@[simp] theorem Block.swapAbort_chain (b : Block) (cause : Nat) : (b.swapAbort cause).chain = b.chain := by
  unfold Block.swapAbort; split; · exact (rfl)
  dsimp only; rw [Block.post_chain, Block.raiseFixed_chain, Block.setAll_chain]
@[simp] theorem Block.swapAbort_mac (b : Block) (cause : Nat) : (b.swapAbort cause).mac = b.mac := by
  unfold Block.swapAbort; split; · exact (rfl)
  dsimp only; rw [Block.post_mac, Block.raiseFixed_mac, Block.setAll_mac]
@[simp] theorem Block.swapAbort_trv (b : Block) (cause : Nat) : (b.swapAbort cause).trv = b.trv := by
  unfold Block.swapAbort; split; · exact (rfl)
  dsimp only; rw [Block.post_trv, Block.raiseFixed_trv, Block.setAll_trv]
@[simp] theorem Block.swapAbort_g3 (b : Block) (cause : Nat) : (b.swapAbort cause).g3 = b.g3 := by
  unfold Block.swapAbort; split; · exact (rfl)
  dsimp only; rw [Block.post_g3, Block.raiseFixed_g3, Block.setAll_g3]
@[simp] theorem Block.swapAbort_cx (b : Block) (cause : Nat) : (b.swapAbort cause).cx = b.cx := by
  unfold Block.swapAbort; split; · exact (rfl)
  dsimp only; rw [Block.post_cx, Block.raiseFixed_cx, Block.setAll_cx]
@[simp] theorem Block.swapAbort_sense (b : Block) (cause : Nat) : (b.swapAbort cause).sense = b.sense := by
  unfold Block.swapAbort; split; · exact (rfl)
  dsimp only; rw [Block.post_sense, Block.raiseFixed_sense, Block.setAll_sense]
@[simp] theorem Block.swapAbort_serial (b : Block) (cause : Nat) : (b.swapAbort cause).serial = b.serial := by
  unfold Block.swapAbort; split; · exact (rfl)
  dsimp only; rw [Block.post_serial, Block.raiseFixed_serial, Block.setAll_serial]
@[simp] theorem Block.swapAbort_oscillator (b : Block) (cause : Nat) : (b.swapAbort cause).oscillator = b.oscillator := by
  unfold Block.swapAbort; split; · exact (rfl)
  dsimp only; rw [Block.post_oscillator, Block.raiseFixed_oscillator, Block.setAll_oscillator]

/-! ### opAbort -/

@[simp] theorem Block.opAbort_ticks (b : Block) (cause : Nat) : (b.opAbort cause).ticks = b.ticks := by
  unfold Block.opAbort; split; · exact (rfl)
  dsimp only; rw [Block.raiseFixed_ticks, Block.setAll_ticks]
@[simp] theorem Block.opAbort_drawn (b : Block) (cause : Nat) : (b.opAbort cause).drawn = b.drawn := by
  unfold Block.opAbort; split; · exact (rfl)
  dsimp only; rw [Block.raiseFixed_drawn, Block.setAll_drawn]
@[simp] theorem Block.opAbort_dev (b : Block) (cause : Nat) : (b.opAbort cause).dev = b.dev := by
  unfold Block.opAbort; split; · exact (rfl)
  dsimp only; rw [Block.raiseFixed_dev, Block.setAll_dev]
@[simp] theorem Block.opAbort_strata (b : Block) (cause : Nat) : (b.opAbort cause).strata = b.strata := by
  unfold Block.opAbort; split; · exact (rfl)
  dsimp only; rw [Block.raiseFixed_strata, Block.setAll_strata]
@[simp] theorem Block.opAbort_book (b : Block) (cause : Nat) : (b.opAbort cause).book = b.book := by
  unfold Block.opAbort; split; · exact (rfl)
  dsimp only; rw [Block.raiseFixed_book, Block.setAll_book]
@[simp] theorem Block.opAbort_fault (b : Block) (cause : Nat) : (b.opAbort cause).fault = b.fault := by
  unfold Block.opAbort; split; · exact (rfl)
  dsimp only; rw [Block.raiseFixed_fault, Block.setAll_fault]
@[simp] theorem Block.opAbort_journal (b : Block) (cause : Nat) : (b.opAbort cause).journal = b.journal := by
  unfold Block.opAbort; split; · exact (rfl)
  dsimp only; rw [Block.raiseFixed_journal, Block.setAll_journal]
@[simp] theorem Block.opAbort_img (b : Block) (cause : Nat) : (b.opAbort cause).img = b.img := by
  unfold Block.opAbort; split; · exact (rfl)
  dsimp only; rw [Block.raiseFixed_img, Block.setAll_img]
@[simp] theorem Block.opAbort_brg (b : Block) (cause : Nat) : (b.opAbort cause).brg = b.brg := by
  unfold Block.opAbort; split; · exact (rfl)
  dsimp only; rw [Block.raiseFixed_brg, Block.setAll_brg]
@[simp] theorem Block.opAbort_dtm (b : Block) (cause : Nat) : (b.opAbort cause).dtm = b.dtm := by
  unfold Block.opAbort; split; · exact (rfl)
  dsimp only; rw [Block.raiseFixed_dtm, Block.setAll_dtm]
@[simp] theorem Block.opAbort_pool (b : Block) (cause : Nat) : (b.opAbort cause).pool = b.pool := by
  unfold Block.opAbort; split; · exact (rfl)
  dsimp only; rw [Block.raiseFixed_pool, Block.setAll_pool]
@[simp] theorem Block.opAbort_ports (b : Block) (cause : Nat) : (b.opAbort cause).ports = b.ports := by
  unfold Block.opAbort; split; · exact (rfl)
  dsimp only; rw [Block.raiseFixed_ports, Block.setAll_ports]
@[simp] theorem Block.opAbort_sound (b : Block) (cause : Nat) : (b.opAbort cause).sound = b.sound := by
  unfold Block.opAbort; split; · exact (rfl)
  dsimp only; rw [Block.raiseFixed_sound, Block.setAll_sound]
@[simp] theorem Block.opAbort_mac (b : Block) (cause : Nat) : (b.opAbort cause).mac = b.mac := by
  unfold Block.opAbort; split; · exact (rfl)
  dsimp only; rw [Block.raiseFixed_mac, Block.setAll_mac]
@[simp] theorem Block.opAbort_trv (b : Block) (cause : Nat) : (b.opAbort cause).trv = b.trv := by
  unfold Block.opAbort; split; · exact (rfl)
  dsimp only; rw [Block.raiseFixed_trv, Block.setAll_trv]
@[simp] theorem Block.opAbort_g3 (b : Block) (cause : Nat) : (b.opAbort cause).g3 = b.g3 := by
  unfold Block.opAbort; split; · exact (rfl)
  dsimp only; rw [Block.raiseFixed_g3, Block.setAll_g3]
@[simp] theorem Block.opAbort_cx (b : Block) (cause : Nat) : (b.opAbort cause).cx = b.cx := by
  unfold Block.opAbort; split; · exact (rfl)
  dsimp only; rw [Block.raiseFixed_cx, Block.setAll_cx]
@[simp] theorem Block.opAbort_sense (b : Block) (cause : Nat) : (b.opAbort cause).sense = b.sense := by
  unfold Block.opAbort; split; · exact (rfl)
  dsimp only; rw [Block.raiseFixed_sense, Block.setAll_sense]
@[simp] theorem Block.opAbort_serial (b : Block) (cause : Nat) : (b.opAbort cause).serial = b.serial := by
  unfold Block.opAbort; split; · exact (rfl)
  dsimp only; rw [Block.raiseFixed_serial, Block.setAll_serial]
@[simp] theorem Block.opAbort_oscillator (b : Block) (cause : Nat) : (b.opAbort cause).oscillator = b.oscillator := by
  unfold Block.opAbort; split; · exact (rfl)
  dsimp only; rw [Block.raiseFixed_oscillator, Block.setAll_oscillator]

/-! ### abortSwapAll -/

@[simp] theorem Block.abortSwapAll_ticks (b : Block) (cause : Nat) : (b.abortSwapAll cause).ticks = b.ticks := by
  unfold Block.abortSwapAll; split
  · dsimp only; rw [Block.swapAbort_ticks]; split
    · exact b.sendVerdict_ticks _ _ _ _
    · exact (rfl)
  · exact (rfl)
@[simp] theorem Block.abortSwapAll_drawn (b : Block) (cause : Nat) : (b.abortSwapAll cause).drawn = b.drawn := by
  unfold Block.abortSwapAll; split
  · dsimp only; rw [Block.swapAbort_drawn]; split
    · exact b.sendVerdict_drawn _ _ _ _
    · exact (rfl)
  · exact (rfl)
@[simp] theorem Block.abortSwapAll_dev (b : Block) (cause : Nat) : (b.abortSwapAll cause).dev = b.dev := by
  unfold Block.abortSwapAll; split
  · dsimp only; rw [Block.swapAbort_dev]; split
    · exact b.sendVerdict_dev _ _ _ _
    · exact (rfl)
  · exact (rfl)
@[simp] theorem Block.abortSwapAll_strata (b : Block) (cause : Nat) : (b.abortSwapAll cause).strata = b.strata := by
  unfold Block.abortSwapAll; split
  · dsimp only; rw [Block.swapAbort_strata]; split
    · exact b.sendVerdict_strata _ _ _ _
    · exact (rfl)
  · exact (rfl)
@[simp] theorem Block.abortSwapAll_brg (b : Block) (cause : Nat) : (b.abortSwapAll cause).brg = b.brg := by
  unfold Block.abortSwapAll; split
  · dsimp only; rw [Block.swapAbort_brg]; split
    · exact b.sendVerdict_brg _ _ _ _
    · exact (rfl)
  · exact (rfl)
@[simp] theorem Block.abortSwapAll_dtm (b : Block) (cause : Nat) : (b.abortSwapAll cause).dtm = b.dtm := by
  unfold Block.abortSwapAll; split
  · dsimp only; rw [Block.swapAbort_dtm]; split
    · exact b.sendVerdict_dtm _ _ _ _
    · exact (rfl)
  · exact (rfl)
@[simp] theorem Block.abortSwapAll_pool (b : Block) (cause : Nat) : (b.abortSwapAll cause).pool = b.pool := by
  unfold Block.abortSwapAll; split
  · dsimp only; rw [Block.swapAbort_pool]; split
    · exact b.sendVerdict_pool _ _ _ _
    · exact (rfl)
  · exact (rfl)
@[simp] theorem Block.abortSwapAll_ports (b : Block) (cause : Nat) : (b.abortSwapAll cause).ports = b.ports := by
  unfold Block.abortSwapAll; split
  · dsimp only; rw [Block.swapAbort_ports]; split
    · exact b.sendVerdict_ports _ _ _ _
    · exact (rfl)
  · exact (rfl)
@[simp] theorem Block.abortSwapAll_sound (b : Block) (cause : Nat) : (b.abortSwapAll cause).sound = b.sound := by
  unfold Block.abortSwapAll; split
  · dsimp only; rw [Block.swapAbort_sound]; split
    · exact b.sendVerdict_sound _ _ _ _
    · exact (rfl)
  · exact (rfl)
@[simp] theorem Block.abortSwapAll_mac (b : Block) (cause : Nat) : (b.abortSwapAll cause).mac = b.mac := by
  unfold Block.abortSwapAll; split
  · dsimp only; rw [Block.swapAbort_mac]; split
    · exact b.sendVerdict_mac _ _ _ _
    · exact (rfl)
  · exact (rfl)
@[simp] theorem Block.abortSwapAll_trv (b : Block) (cause : Nat) : (b.abortSwapAll cause).trv = b.trv := by
  unfold Block.abortSwapAll; split
  · dsimp only; rw [Block.swapAbort_trv]; split
    · exact b.sendVerdict_trv _ _ _ _
    · exact (rfl)
  · exact (rfl)
@[simp] theorem Block.abortSwapAll_g3 (b : Block) (cause : Nat) : (b.abortSwapAll cause).g3 = b.g3 := by
  unfold Block.abortSwapAll; split
  · dsimp only; rw [Block.swapAbort_g3]; split
    · exact b.sendVerdict_g3 _ _ _ _
    · exact (rfl)
  · exact (rfl)
@[simp] theorem Block.abortSwapAll_cx (b : Block) (cause : Nat) : (b.abortSwapAll cause).cx = b.cx := by
  unfold Block.abortSwapAll; split
  · dsimp only; rw [Block.swapAbort_cx]; split
    · exact b.sendVerdict_cx _ _ _ _
    · exact (rfl)
  · exact (rfl)
@[simp] theorem Block.abortSwapAll_sense (b : Block) (cause : Nat) : (b.abortSwapAll cause).sense = b.sense := by
  unfold Block.abortSwapAll; split
  · dsimp only; rw [Block.swapAbort_sense]; split
    · exact b.sendVerdict_sense _ _ _ _
    · exact (rfl)
  · exact (rfl)
@[simp] theorem Block.abortSwapAll_serial (b : Block) (cause : Nat) : (b.abortSwapAll cause).serial = b.serial := by
  unfold Block.abortSwapAll; split
  · dsimp only; rw [Block.swapAbort_serial]; split
    · exact b.sendVerdict_serial _ _ _ _
    · exact (rfl)
  · exact (rfl)
@[simp] theorem Block.abortSwapAll_oscillator (b : Block) (cause : Nat) : (b.abortSwapAll cause).oscillator = b.oscillator := by
  unfold Block.abortSwapAll; split
  · dsimp only; rw [Block.swapAbort_oscillator]; split
    · exact b.sendVerdict_oscillator _ _ _ _
    · exact (rfl)
  · exact (rfl)

/-! ### abortOpAll -/

@[simp] theorem Block.abortOpAll_ticks (b : Block) (cause : Nat) : (b.abortOpAll cause).ticks = b.ticks := by
  unfold Block.abortOpAll; split
  · dsimp only; rw [Block.opAbort_ticks]; split
    · exact b.sendVerdict_ticks _ _ _ _
    · exact (rfl)
  · exact (rfl)
@[simp] theorem Block.abortOpAll_drawn (b : Block) (cause : Nat) : (b.abortOpAll cause).drawn = b.drawn := by
  unfold Block.abortOpAll; split
  · dsimp only; rw [Block.opAbort_drawn]; split
    · exact b.sendVerdict_drawn _ _ _ _
    · exact (rfl)
  · exact (rfl)
@[simp] theorem Block.abortOpAll_dev (b : Block) (cause : Nat) : (b.abortOpAll cause).dev = b.dev := by
  unfold Block.abortOpAll; split
  · dsimp only; rw [Block.opAbort_dev]; split
    · exact b.sendVerdict_dev _ _ _ _
    · exact (rfl)
  · exact (rfl)
@[simp] theorem Block.abortOpAll_strata (b : Block) (cause : Nat) : (b.abortOpAll cause).strata = b.strata := by
  unfold Block.abortOpAll; split
  · dsimp only; rw [Block.opAbort_strata]; split
    · exact b.sendVerdict_strata _ _ _ _
    · exact (rfl)
  · exact (rfl)
@[simp] theorem Block.abortOpAll_book (b : Block) (cause : Nat) : (b.abortOpAll cause).book = b.book := by
  unfold Block.abortOpAll; split
  · dsimp only; rw [Block.opAbort_book]; split
    · exact b.sendVerdict_book _ _ _ _
    · exact (rfl)
  · exact (rfl)
@[simp] theorem Block.abortOpAll_fault (b : Block) (cause : Nat) : (b.abortOpAll cause).fault = b.fault := by
  unfold Block.abortOpAll; split
  · dsimp only; rw [Block.opAbort_fault]; split
    · exact b.sendVerdict_fault _ _ _ _
    · exact (rfl)
  · exact (rfl)
@[simp] theorem Block.abortOpAll_journal (b : Block) (cause : Nat) : (b.abortOpAll cause).journal = b.journal := by
  unfold Block.abortOpAll; split
  · dsimp only; rw [Block.opAbort_journal]; split
    · exact b.sendVerdict_journal _ _ _ _
    · exact (rfl)
  · exact (rfl)
@[simp] theorem Block.abortOpAll_img (b : Block) (cause : Nat) : (b.abortOpAll cause).img = b.img := by
  unfold Block.abortOpAll; split
  · dsimp only; rw [Block.opAbort_img]; split
    · exact b.sendVerdict_img _ _ _ _
    · exact (rfl)
  · exact (rfl)
@[simp] theorem Block.abortOpAll_brg (b : Block) (cause : Nat) : (b.abortOpAll cause).brg = b.brg := by
  unfold Block.abortOpAll; split
  · dsimp only; rw [Block.opAbort_brg]; split
    · exact b.sendVerdict_brg _ _ _ _
    · exact (rfl)
  · exact (rfl)
@[simp] theorem Block.abortOpAll_dtm (b : Block) (cause : Nat) : (b.abortOpAll cause).dtm = b.dtm := by
  unfold Block.abortOpAll; split
  · dsimp only; rw [Block.opAbort_dtm]; split
    · exact b.sendVerdict_dtm _ _ _ _
    · exact (rfl)
  · exact (rfl)
@[simp] theorem Block.abortOpAll_pool (b : Block) (cause : Nat) : (b.abortOpAll cause).pool = b.pool := by
  unfold Block.abortOpAll; split
  · dsimp only; rw [Block.opAbort_pool]; split
    · exact b.sendVerdict_pool _ _ _ _
    · exact (rfl)
  · exact (rfl)
@[simp] theorem Block.abortOpAll_ports (b : Block) (cause : Nat) : (b.abortOpAll cause).ports = b.ports := by
  unfold Block.abortOpAll; split
  · dsimp only; rw [Block.opAbort_ports]; split
    · exact b.sendVerdict_ports _ _ _ _
    · exact (rfl)
  · exact (rfl)
@[simp] theorem Block.abortOpAll_sound (b : Block) (cause : Nat) : (b.abortOpAll cause).sound = b.sound := by
  unfold Block.abortOpAll; split
  · dsimp only; rw [Block.opAbort_sound]; split
    · exact b.sendVerdict_sound _ _ _ _
    · exact (rfl)
  · exact (rfl)
@[simp] theorem Block.abortOpAll_mac (b : Block) (cause : Nat) : (b.abortOpAll cause).mac = b.mac := by
  unfold Block.abortOpAll; split
  · dsimp only; rw [Block.opAbort_mac]; split
    · exact b.sendVerdict_mac _ _ _ _
    · exact (rfl)
  · exact (rfl)
@[simp] theorem Block.abortOpAll_trv (b : Block) (cause : Nat) : (b.abortOpAll cause).trv = b.trv := by
  unfold Block.abortOpAll; split
  · dsimp only; rw [Block.opAbort_trv]; split
    · exact b.sendVerdict_trv _ _ _ _
    · exact (rfl)
  · exact (rfl)
@[simp] theorem Block.abortOpAll_g3 (b : Block) (cause : Nat) : (b.abortOpAll cause).g3 = b.g3 := by
  unfold Block.abortOpAll; split
  · dsimp only; rw [Block.opAbort_g3]; split
    · exact b.sendVerdict_g3 _ _ _ _
    · exact (rfl)
  · exact (rfl)
@[simp] theorem Block.abortOpAll_cx (b : Block) (cause : Nat) : (b.abortOpAll cause).cx = b.cx := by
  unfold Block.abortOpAll; split
  · dsimp only; rw [Block.opAbort_cx]; split
    · exact b.sendVerdict_cx _ _ _ _
    · exact (rfl)
  · exact (rfl)
@[simp] theorem Block.abortOpAll_sense (b : Block) (cause : Nat) : (b.abortOpAll cause).sense = b.sense := by
  unfold Block.abortOpAll; split
  · dsimp only; rw [Block.opAbort_sense]; split
    · exact b.sendVerdict_sense _ _ _ _
    · exact (rfl)
  · exact (rfl)
@[simp] theorem Block.abortOpAll_serial (b : Block) (cause : Nat) : (b.abortOpAll cause).serial = b.serial := by
  unfold Block.abortOpAll; split
  · dsimp only; rw [Block.opAbort_serial]; split
    · exact b.sendVerdict_serial _ _ _ _
    · exact (rfl)
  · exact (rfl)
@[simp] theorem Block.abortOpAll_oscillator (b : Block) (cause : Nat) : (b.abortOpAll cause).oscillator = b.oscillator := by
  unfold Block.abortOpAll; split
  · dsimp only; rw [Block.opAbort_oscillator]; split
    · exact b.sendVerdict_oscillator _ _ _ _
    · exact (rfl)
  · exact (rfl)

/-! ### recordDefaulted -/

@[simp] theorem Block.recordDefaulted_ticks (b : Block) : (b.recordDefaulted).ticks = b.ticks := by
  unfold Block.recordDefaulted; split
  · rw [Block.post_ticks]
  · exact (rfl)
@[simp] theorem Block.recordDefaulted_drawn (b : Block) : (b.recordDefaulted).drawn = b.drawn := by
  unfold Block.recordDefaulted; split
  · rw [Block.post_drawn]
  · exact (rfl)
@[simp] theorem Block.recordDefaulted_dev (b : Block) : (b.recordDefaulted).dev = b.dev := by
  unfold Block.recordDefaulted; split
  · rw [Block.post_dev]
  · exact (rfl)
@[simp] theorem Block.recordDefaulted_strata (b : Block) : (b.recordDefaulted).strata = b.strata := by
  unfold Block.recordDefaulted; split
  · rw [Block.post_strata]
  · exact (rfl)
@[simp] theorem Block.recordDefaulted_brg (b : Block) : (b.recordDefaulted).brg = b.brg := by
  unfold Block.recordDefaulted; split
  · rw [Block.post_brg]
  · exact (rfl)
@[simp] theorem Block.recordDefaulted_dtm (b : Block) : (b.recordDefaulted).dtm = b.dtm := by
  unfold Block.recordDefaulted; split
  · rw [Block.post_dtm]
  · exact (rfl)
@[simp] theorem Block.recordDefaulted_pool (b : Block) : (b.recordDefaulted).pool = b.pool := by
  unfold Block.recordDefaulted; split
  · rw [Block.post_pool]
  · exact (rfl)
@[simp] theorem Block.recordDefaulted_ports (b : Block) : (b.recordDefaulted).ports = b.ports := by
  unfold Block.recordDefaulted; split
  · rw [Block.post_ports]
  · exact (rfl)
@[simp] theorem Block.recordDefaulted_sound (b : Block) : (b.recordDefaulted).sound = b.sound := by
  unfold Block.recordDefaulted; split
  · rw [Block.post_sound]
  · exact (rfl)
@[simp] theorem Block.recordDefaulted_chain (b : Block) : (b.recordDefaulted).chain = b.chain := by
  unfold Block.recordDefaulted; split
  · rw [Block.post_chain]
  · exact (rfl)
@[simp] theorem Block.recordDefaulted_mac (b : Block) : (b.recordDefaulted).mac = b.mac := by
  unfold Block.recordDefaulted; split
  · rw [Block.post_mac]
  · exact (rfl)
@[simp] theorem Block.recordDefaulted_trv (b : Block) : (b.recordDefaulted).trv = b.trv := by
  unfold Block.recordDefaulted; split
  · rw [Block.post_trv]
  · exact (rfl)
@[simp] theorem Block.recordDefaulted_g3 (b : Block) : (b.recordDefaulted).g3 = b.g3 := by
  unfold Block.recordDefaulted; split
  · rw [Block.post_g3]
  · exact (rfl)
@[simp] theorem Block.recordDefaulted_cx (b : Block) : (b.recordDefaulted).cx = b.cx := by
  unfold Block.recordDefaulted; split
  · rw [Block.post_cx]
  · exact (rfl)
@[simp] theorem Block.recordDefaulted_sense (b : Block) : (b.recordDefaulted).sense = b.sense := by
  unfold Block.recordDefaulted; split
  · rw [Block.post_sense]
  · exact (rfl)
@[simp] theorem Block.recordDefaulted_serial (b : Block) : (b.recordDefaulted).serial = b.serial := by
  unfold Block.recordDefaulted; split
  · rw [Block.post_serial]
  · exact (rfl)
@[simp] theorem Block.recordDefaulted_oscillator (b : Block) : (b.recordDefaulted).oscillator = b.oscillator := by
  unfold Block.recordDefaulted; split
  · rw [Block.post_oscillator]
  · exact (rfl)

/-! ### discardShadow -/

@[simp] theorem Block.discardShadow_ticks (b : Block) : (b.discardShadow).ticks = b.ticks := by
  unfold Block.discardShadow; dsimp only; rw [Block.setAll_ticks]
@[simp] theorem Block.discardShadow_drawn (b : Block) : (b.discardShadow).drawn = b.drawn := by
  unfold Block.discardShadow; dsimp only; rw [Block.setAll_drawn]
@[simp] theorem Block.discardShadow_dev (b : Block) : (b.discardShadow).dev = b.dev := by
  unfold Block.discardShadow; dsimp only; rw [Block.setAll_dev]
@[simp] theorem Block.discardShadow_host (b : Block) : (b.discardShadow).host = b.host := by
  unfold Block.discardShadow; dsimp only; rw [Block.setAll_host]
@[simp] theorem Block.discardShadow_strata (b : Block) : (b.discardShadow).strata = b.strata := by
  unfold Block.discardShadow; dsimp only; rw [Block.setAll_strata]
@[simp] theorem Block.discardShadow_book (b : Block) : (b.discardShadow).book = b.book := by
  unfold Block.discardShadow; dsimp only; rw [Block.setAll_book]
@[simp] theorem Block.discardShadow_fault (b : Block) : (b.discardShadow).fault = b.fault := by
  unfold Block.discardShadow; dsimp only; rw [Block.setAll_fault]
@[simp] theorem Block.discardShadow_journal (b : Block) : (b.discardShadow).journal = b.journal := by
  unfold Block.discardShadow; dsimp only; rw [Block.setAll_journal]
@[simp] theorem Block.discardShadow_brg (b : Block) : (b.discardShadow).brg = b.brg := by
  unfold Block.discardShadow; dsimp only; rw [Block.setAll_brg]
@[simp] theorem Block.discardShadow_dtm (b : Block) : (b.discardShadow).dtm = b.dtm := by
  unfold Block.discardShadow; dsimp only; rw [Block.setAll_dtm]
@[simp] theorem Block.discardShadow_pool (b : Block) : (b.discardShadow).pool = b.pool := by
  unfold Block.discardShadow; dsimp only; rw [Block.setAll_pool]
@[simp] theorem Block.discardShadow_ports (b : Block) : (b.discardShadow).ports = b.ports := by
  unfold Block.discardShadow; dsimp only; rw [Block.setAll_ports]
@[simp] theorem Block.discardShadow_sound (b : Block) : (b.discardShadow).sound = b.sound := by
  unfold Block.discardShadow; dsimp only; rw [Block.setAll_sound]
@[simp] theorem Block.discardShadow_chain (b : Block) : (b.discardShadow).chain = b.chain := by
  unfold Block.discardShadow; dsimp only; rw [Block.setAll_chain]
@[simp] theorem Block.discardShadow_mac (b : Block) : (b.discardShadow).mac = b.mac := by
  unfold Block.discardShadow; dsimp only; rw [Block.setAll_mac]
@[simp] theorem Block.discardShadow_trv (b : Block) : (b.discardShadow).trv = b.trv := by
  unfold Block.discardShadow; dsimp only; rw [Block.setAll_trv]
@[simp] theorem Block.discardShadow_g3 (b : Block) : (b.discardShadow).g3 = b.g3 := by
  unfold Block.discardShadow; dsimp only; rw [Block.setAll_g3]
@[simp] theorem Block.discardShadow_cx (b : Block) : (b.discardShadow).cx = b.cx := by
  unfold Block.discardShadow; dsimp only; rw [Block.setAll_cx]
@[simp] theorem Block.discardShadow_sense (b : Block) : (b.discardShadow).sense = b.sense := by
  unfold Block.discardShadow; dsimp only; rw [Block.setAll_sense]
@[simp] theorem Block.discardShadow_serial (b : Block) : (b.discardShadow).serial = b.serial := by
  unfold Block.discardShadow; dsimp only; rw [Block.setAll_serial]
@[simp] theorem Block.discardShadow_oscillator (b : Block) : (b.discardShadow).oscillator = b.oscillator := by
  unfold Block.discardShadow; dsimp only; rw [Block.setAll_oscillator]

/-! ### lifeEntry -/

@[simp] theorem Block.lifeEntry_ticks (b : Block) : (b.lifeEntry).ticks = b.ticks := by
  unfold Block.lifeEntry; rw [Block.journalWrite_ticks]
@[simp] theorem Block.lifeEntry_drawn (b : Block) : (b.lifeEntry).drawn = b.drawn := by
  unfold Block.lifeEntry; rw [Block.journalWrite_drawn]
@[simp] theorem Block.lifeEntry_dev (b : Block) : (b.lifeEntry).dev = b.dev := by
  unfold Block.lifeEntry; rw [Block.journalWrite_dev]
@[simp] theorem Block.lifeEntry_strata (b : Block) : (b.lifeEntry).strata = b.strata := by
  unfold Block.lifeEntry; rw [Block.journalWrite_strata]
@[simp] theorem Block.lifeEntry_book (b : Block) : (b.lifeEntry).book = b.book := by
  unfold Block.lifeEntry; rw [Block.journalWrite_book]
@[simp] theorem Block.lifeEntry_img (b : Block) : (b.lifeEntry).img = b.img := by
  unfold Block.lifeEntry; rw [Block.journalWrite_img]
@[simp] theorem Block.lifeEntry_brg (b : Block) : (b.lifeEntry).brg = b.brg := by
  unfold Block.lifeEntry; rw [Block.journalWrite_brg]
@[simp] theorem Block.lifeEntry_dtm (b : Block) : (b.lifeEntry).dtm = b.dtm := by
  unfold Block.lifeEntry; rw [Block.journalWrite_dtm]
@[simp] theorem Block.lifeEntry_pool (b : Block) : (b.lifeEntry).pool = b.pool := by
  unfold Block.lifeEntry; rw [Block.journalWrite_pool]
@[simp] theorem Block.lifeEntry_ports (b : Block) : (b.lifeEntry).ports = b.ports := by
  unfold Block.lifeEntry; rw [Block.journalWrite_ports]
@[simp] theorem Block.lifeEntry_sound (b : Block) : (b.lifeEntry).sound = b.sound := by
  unfold Block.lifeEntry; rw [Block.journalWrite_sound]
@[simp] theorem Block.lifeEntry_chain (b : Block) : (b.lifeEntry).chain = b.chain := by
  unfold Block.lifeEntry; rw [Block.journalWrite_chain]
@[simp] theorem Block.lifeEntry_mac (b : Block) : (b.lifeEntry).mac = b.mac := by
  unfold Block.lifeEntry; rw [Block.journalWrite_mac]
@[simp] theorem Block.lifeEntry_trv (b : Block) : (b.lifeEntry).trv = b.trv := by
  unfold Block.lifeEntry; rw [Block.journalWrite_trv]
@[simp] theorem Block.lifeEntry_g3 (b : Block) : (b.lifeEntry).g3 = b.g3 := by
  unfold Block.lifeEntry; rw [Block.journalWrite_g3]
@[simp] theorem Block.lifeEntry_cx (b : Block) : (b.lifeEntry).cx = b.cx := by
  unfold Block.lifeEntry; rw [Block.journalWrite_cx]
@[simp] theorem Block.lifeEntry_sense (b : Block) : (b.lifeEntry).sense = b.sense := by
  unfold Block.lifeEntry; rw [Block.journalWrite_sense]
@[simp] theorem Block.lifeEntry_serial (b : Block) : (b.lifeEntry).serial = b.serial := by
  unfold Block.lifeEntry; rw [Block.journalWrite_serial]
@[simp] theorem Block.lifeEntry_oscillator (b : Block) : (b.lifeEntry).oscillator = b.oscillator := by
  unfold Block.lifeEntry; rw [Block.journalWrite_oscillator]

/-! ### closeBypasses -/

@[simp] theorem Block.closeBypasses_ticks (b : Block) : (b.closeBypasses).ticks = b.ticks := by
  exact (rfl)
@[simp] theorem Block.closeBypasses_drawn (b : Block) : (b.closeBypasses).drawn = b.drawn := by
  exact (rfl)
@[simp] theorem Block.closeBypasses_dev (b : Block) : (b.closeBypasses).dev = b.dev := by
  exact (rfl)
@[simp] theorem Block.closeBypasses_regs (b : Block) : (b.closeBypasses).regs = b.regs := by
  exact (rfl)
@[simp] theorem Block.closeBypasses_host (b : Block) : (b.closeBypasses).host = b.host := by
  exact (rfl)
@[simp] theorem Block.closeBypasses_strata (b : Block) : (b.closeBypasses).strata = b.strata := by
  exact (rfl)
@[simp] theorem Block.closeBypasses_book (b : Block) : (b.closeBypasses).book = b.book := by
  exact (rfl)
@[simp] theorem Block.closeBypasses_fault (b : Block) : (b.closeBypasses).fault = b.fault := by
  exact (rfl)
@[simp] theorem Block.closeBypasses_journal (b : Block) : (b.closeBypasses).journal = b.journal := by
  exact (rfl)
@[simp] theorem Block.closeBypasses_img (b : Block) : (b.closeBypasses).img = b.img := by
  exact (rfl)
@[simp] theorem Block.closeBypasses_brg (b : Block) : (b.closeBypasses).brg = b.brg := by
  exact (rfl)
@[simp] theorem Block.closeBypasses_dtm (b : Block) : (b.closeBypasses).dtm = b.dtm := by
  exact (rfl)
@[simp] theorem Block.closeBypasses_pool (b : Block) : (b.closeBypasses).pool = b.pool := by
  exact (rfl)
@[simp] theorem Block.closeBypasses_ports (b : Block) : (b.closeBypasses).ports = b.ports := by
  exact (rfl)
@[simp] theorem Block.closeBypasses_sound (b : Block) : (b.closeBypasses).sound = b.sound := by
  exact (rfl)
@[simp] theorem Block.closeBypasses_mac (b : Block) : (b.closeBypasses).mac = b.mac := by
  exact (rfl)
@[simp] theorem Block.closeBypasses_trv (b : Block) : (b.closeBypasses).trv = b.trv := by
  exact (rfl)
@[simp] theorem Block.closeBypasses_g3 (b : Block) : (b.closeBypasses).g3 = b.g3 := by
  exact (rfl)
@[simp] theorem Block.closeBypasses_cx (b : Block) : (b.closeBypasses).cx = b.cx := by
  exact (rfl)
@[simp] theorem Block.closeBypasses_sense (b : Block) : (b.closeBypasses).sense = b.sense := by
  exact (rfl)
@[simp] theorem Block.closeBypasses_serial (b : Block) : (b.closeBypasses).serial = b.serial := by
  exact (rfl)
@[simp] theorem Block.closeBypasses_oscillator (b : Block) : (b.closeBypasses).oscillator = b.oscillator := by
  exact (rfl)

/-! ### reportPred -/

@[simp] theorem Block.reportPred_ticks (b : Block) : (b.reportPred).ticks = b.ticks := by
  unfold Block.reportPred; dsimp only; rw [Block.set_ticks, foldl_keeps (fun b : Block => b.ticks) _ _ _ fun b n => b.set_ticks _ _, foldl_keeps (fun b : Block => b.ticks) _ _ _ fun b n => b.set_ticks _ _]
@[simp] theorem Block.reportPred_drawn (b : Block) : (b.reportPred).drawn = b.drawn := by
  unfold Block.reportPred; dsimp only; rw [Block.set_drawn, foldl_keeps (fun b : Block => b.drawn) _ _ _ fun b n => b.set_drawn _ _, foldl_keeps (fun b : Block => b.drawn) _ _ _ fun b n => b.set_drawn _ _]
@[simp] theorem Block.reportPred_dev (b : Block) : (b.reportPred).dev = b.dev := by
  unfold Block.reportPred; dsimp only; rw [Block.set_dev, foldl_keeps (fun b : Block => b.dev) _ _ _ fun b n => b.set_dev _ _, foldl_keeps (fun b : Block => b.dev) _ _ _ fun b n => b.set_dev _ _]
@[simp] theorem Block.reportPred_host (b : Block) : (b.reportPred).host = b.host := by
  unfold Block.reportPred; dsimp only; rw [Block.set_host, foldl_keeps (fun b : Block => b.host) _ _ _ fun b n => b.set_host _ _, foldl_keeps (fun b : Block => b.host) _ _ _ fun b n => b.set_host _ _]
@[simp] theorem Block.reportPred_strata (b : Block) : (b.reportPred).strata = b.strata := by
  unfold Block.reportPred; dsimp only; rw [Block.set_strata, foldl_keeps (fun b : Block => b.strata) _ _ _ fun b n => b.set_strata _ _, foldl_keeps (fun b : Block => b.strata) _ _ _ fun b n => b.set_strata _ _]
@[simp] theorem Block.reportPred_book (b : Block) : (b.reportPred).book = b.book := by
  unfold Block.reportPred; dsimp only; rw [Block.set_book, foldl_keeps (fun b : Block => b.book) _ _ _ fun b n => b.set_book _ _, foldl_keeps (fun b : Block => b.book) _ _ _ fun b n => b.set_book _ _]
@[simp] theorem Block.reportPred_fault (b : Block) : (b.reportPred).fault = b.fault := by
  unfold Block.reportPred; dsimp only; rw [Block.set_fault, foldl_keeps (fun b : Block => b.fault) _ _ _ fun b n => b.set_fault _ _, foldl_keeps (fun b : Block => b.fault) _ _ _ fun b n => b.set_fault _ _]
@[simp] theorem Block.reportPred_journal (b : Block) : (b.reportPred).journal = b.journal := by
  unfold Block.reportPred; dsimp only; rw [Block.set_journal, foldl_keeps (fun b : Block => b.journal) _ _ _ fun b n => b.set_journal _ _, foldl_keeps (fun b : Block => b.journal) _ _ _ fun b n => b.set_journal _ _]
@[simp] theorem Block.reportPred_img (b : Block) : (b.reportPred).img = b.img := by
  unfold Block.reportPred; dsimp only; rw [Block.set_img, foldl_keeps (fun b : Block => b.img) _ _ _ fun b n => b.set_img _ _, foldl_keeps (fun b : Block => b.img) _ _ _ fun b n => b.set_img _ _]
@[simp] theorem Block.reportPred_brg (b : Block) : (b.reportPred).brg = b.brg := by
  unfold Block.reportPred; dsimp only; rw [Block.set_brg, foldl_keeps (fun b : Block => b.brg) _ _ _ fun b n => b.set_brg _ _, foldl_keeps (fun b : Block => b.brg) _ _ _ fun b n => b.set_brg _ _]
@[simp] theorem Block.reportPred_dtm (b : Block) : (b.reportPred).dtm = b.dtm := by
  unfold Block.reportPred; dsimp only; rw [Block.set_dtm, foldl_keeps (fun b : Block => b.dtm) _ _ _ fun b n => b.set_dtm _ _, foldl_keeps (fun b : Block => b.dtm) _ _ _ fun b n => b.set_dtm _ _]
@[simp] theorem Block.reportPred_pool (b : Block) : (b.reportPred).pool = b.pool := by
  unfold Block.reportPred; dsimp only; rw [Block.set_pool, foldl_keeps (fun b : Block => b.pool) _ _ _ fun b n => b.set_pool _ _, foldl_keeps (fun b : Block => b.pool) _ _ _ fun b n => b.set_pool _ _]
@[simp] theorem Block.reportPred_ports (b : Block) : (b.reportPred).ports = b.ports := by
  unfold Block.reportPred; dsimp only; rw [Block.set_ports, foldl_keeps (fun b : Block => b.ports) _ _ _ fun b n => b.set_ports _ _, foldl_keeps (fun b : Block => b.ports) _ _ _ fun b n => b.set_ports _ _]
@[simp] theorem Block.reportPred_sound (b : Block) : (b.reportPred).sound = b.sound := by
  unfold Block.reportPred; dsimp only; rw [Block.set_sound, foldl_keeps (fun b : Block => b.sound) _ _ _ fun b n => b.set_sound _ _, foldl_keeps (fun b : Block => b.sound) _ _ _ fun b n => b.set_sound _ _]
@[simp] theorem Block.reportPred_chain (b : Block) : (b.reportPred).chain = b.chain := by
  unfold Block.reportPred; dsimp only; rw [Block.set_chain, foldl_keeps (fun b : Block => b.chain) _ _ _ fun b n => b.set_chain _ _, foldl_keeps (fun b : Block => b.chain) _ _ _ fun b n => b.set_chain _ _]
@[simp] theorem Block.reportPred_mac (b : Block) : (b.reportPred).mac = b.mac := by
  unfold Block.reportPred; dsimp only; rw [Block.set_mac, foldl_keeps (fun b : Block => b.mac) _ _ _ fun b n => b.set_mac _ _, foldl_keeps (fun b : Block => b.mac) _ _ _ fun b n => b.set_mac _ _]
@[simp] theorem Block.reportPred_trv (b : Block) : (b.reportPred).trv = b.trv := by
  unfold Block.reportPred; dsimp only; rw [Block.set_trv, foldl_keeps (fun b : Block => b.trv) _ _ _ fun b n => b.set_trv _ _, foldl_keeps (fun b : Block => b.trv) _ _ _ fun b n => b.set_trv _ _]
@[simp] theorem Block.reportPred_g3 (b : Block) : (b.reportPred).g3 = b.g3 := by
  unfold Block.reportPred; dsimp only; rw [Block.set_g3, foldl_keeps (fun b : Block => b.g3) _ _ _ fun b n => b.set_g3 _ _, foldl_keeps (fun b : Block => b.g3) _ _ _ fun b n => b.set_g3 _ _]
@[simp] theorem Block.reportPred_cx (b : Block) : (b.reportPred).cx = b.cx := by
  unfold Block.reportPred; dsimp only; rw [Block.set_cx, foldl_keeps (fun b : Block => b.cx) _ _ _ fun b n => b.set_cx _ _, foldl_keeps (fun b : Block => b.cx) _ _ _ fun b n => b.set_cx _ _]
@[simp] theorem Block.reportPred_sense (b : Block) : (b.reportPred).sense = b.sense := by
  unfold Block.reportPred; dsimp only; rw [Block.set_sense, foldl_keeps (fun b : Block => b.sense) _ _ _ fun b n => b.set_sense _ _, foldl_keeps (fun b : Block => b.sense) _ _ _ fun b n => b.set_sense _ _]
@[simp] theorem Block.reportPred_serial (b : Block) : (b.reportPred).serial = b.serial := by
  unfold Block.reportPred; dsimp only; rw [Block.set_serial, foldl_keeps (fun b : Block => b.serial) _ _ _ fun b n => b.set_serial _ _, foldl_keeps (fun b : Block => b.serial) _ _ _ fun b n => b.set_serial _ _]
@[simp] theorem Block.reportPred_oscillator (b : Block) : (b.reportPred).oscillator = b.oscillator := by
  unfold Block.reportPred; dsimp only; rw [Block.set_oscillator, foldl_keeps (fun b : Block => b.oscillator) _ _ _ fun b n => b.set_oscillator _ _, foldl_keeps (fun b : Block => b.oscillator) _ _ _ fun b n => b.set_oscillator _ _]

/-! ### setDe -/

@[simp] theorem Block.setDe_ticks (b : Block) (p : Nat) (on : Bool) : (b.setDe p on).ticks = b.ticks := by
  unfold Block.setDe; split; · exact (rfl)
  dsimp only; rw [Block.setOn_ticks]; split
  · rw [Block.setSp_ticks]
  · exact (rfl)
@[simp] theorem Block.setDe_drawn (b : Block) (p : Nat) (on : Bool) : (b.setDe p on).drawn = b.drawn := by
  unfold Block.setDe; split; · exact (rfl)
  dsimp only; rw [Block.setOn_drawn]; split
  · rw [Block.setSp_drawn]
  · exact (rfl)
@[simp] theorem Block.setDe_dev (b : Block) (p : Nat) (on : Bool) : (b.setDe p on).dev = b.dev := by
  unfold Block.setDe; split; · exact (rfl)
  dsimp only; rw [Block.setOn_dev]; split
  · rw [Block.setSp_dev]
  · exact (rfl)
@[simp] theorem Block.setDe_host (b : Block) (p : Nat) (on : Bool) : (b.setDe p on).host = b.host := by
  unfold Block.setDe; split; · exact (rfl)
  dsimp only; rw [Block.setOn_host]; split
  · rw [Block.setSp_host]
  · exact (rfl)
@[simp] theorem Block.setDe_strata (b : Block) (p : Nat) (on : Bool) : (b.setDe p on).strata = b.strata := by
  unfold Block.setDe; split; · exact (rfl)
  dsimp only; rw [Block.setOn_strata]; split
  · rw [Block.setSp_strata]
  · exact (rfl)
@[simp] theorem Block.setDe_book (b : Block) (p : Nat) (on : Bool) : (b.setDe p on).book = b.book := by
  unfold Block.setDe; split; · exact (rfl)
  dsimp only; rw [Block.setOn_book]; split
  · rw [Block.setSp_book]
  · exact (rfl)
@[simp] theorem Block.setDe_fault (b : Block) (p : Nat) (on : Bool) : (b.setDe p on).fault = b.fault := by
  unfold Block.setDe; split; · exact (rfl)
  dsimp only; rw [Block.setOn_fault]; split
  · rw [Block.setSp_fault]
  · exact (rfl)
@[simp] theorem Block.setDe_journal (b : Block) (p : Nat) (on : Bool) : (b.setDe p on).journal = b.journal := by
  unfold Block.setDe; split; · exact (rfl)
  dsimp only; rw [Block.setOn_journal]; split
  · rw [Block.setSp_journal]
  · exact (rfl)
@[simp] theorem Block.setDe_img (b : Block) (p : Nat) (on : Bool) : (b.setDe p on).img = b.img := by
  unfold Block.setDe; split; · exact (rfl)
  dsimp only; rw [Block.setOn_img]; split
  · rw [Block.setSp_img]
  · exact (rfl)
@[simp] theorem Block.setDe_brg (b : Block) (p : Nat) (on : Bool) : (b.setDe p on).brg = b.brg := by
  unfold Block.setDe; split; · exact (rfl)
  dsimp only; rw [Block.setOn_brg]; split
  · rw [Block.setSp_brg]
  · exact (rfl)
@[simp] theorem Block.setDe_dtm (b : Block) (p : Nat) (on : Bool) : (b.setDe p on).dtm = b.dtm := by
  unfold Block.setDe; split; · exact (rfl)
  dsimp only; rw [Block.setOn_dtm]; split
  · rw [Block.setSp_dtm]
  · exact (rfl)
@[simp] theorem Block.setDe_pool (b : Block) (p : Nat) (on : Bool) : (b.setDe p on).pool = b.pool := by
  unfold Block.setDe; split; · exact (rfl)
  dsimp only; rw [Block.setOn_pool]; split
  · rw [Block.setSp_pool]
  · exact (rfl)
@[simp] theorem Block.setDe_ports (b : Block) (p : Nat) (on : Bool) : (b.setDe p on).ports = b.ports := by
  unfold Block.setDe; split; · exact (rfl)
  dsimp only; rw [Block.setOn_ports]; split
  · rw [Block.setSp_ports]
  · exact (rfl)
@[simp] theorem Block.setDe_sound (b : Block) (p : Nat) (on : Bool) : (b.setDe p on).sound = b.sound := by
  unfold Block.setDe; split; · exact (rfl)
  dsimp only; rw [Block.setOn_sound]; split
  · rw [Block.setSp_sound]
  · exact (rfl)
@[simp] theorem Block.setDe_chain (b : Block) (p : Nat) (on : Bool) : (b.setDe p on).chain = b.chain := by
  unfold Block.setDe; split; · exact (rfl)
  dsimp only; rw [Block.setOn_chain]; split
  · rw [Block.setSp_chain]
  · exact (rfl)
@[simp] theorem Block.setDe_mac (b : Block) (p : Nat) (on : Bool) : (b.setDe p on).mac = b.mac := by
  unfold Block.setDe; split; · exact (rfl)
  dsimp only; rw [Block.setOn_mac]; split
  · rw [Block.setSp_mac]
  · exact (rfl)
@[simp] theorem Block.setDe_trv (b : Block) (p : Nat) (on : Bool) : (b.setDe p on).trv = b.trv := by
  unfold Block.setDe; split; · exact (rfl)
  dsimp only; rw [Block.setOn_trv]; split
  · rw [Block.setSp_trv]
  · exact (rfl)
@[simp] theorem Block.setDe_g3 (b : Block) (p : Nat) (on : Bool) : (b.setDe p on).g3 = b.g3 := by
  unfold Block.setDe; split; · exact (rfl)
  dsimp only; rw [Block.setOn_g3]; split
  · rw [Block.setSp_g3]
  · exact (rfl)
@[simp] theorem Block.setDe_cx (b : Block) (p : Nat) (on : Bool) : (b.setDe p on).cx = b.cx := by
  unfold Block.setDe; split; · exact (rfl)
  dsimp only; rw [Block.setOn_cx]; split
  · rw [Block.setSp_cx]
  · exact (rfl)
@[simp] theorem Block.setDe_sense (b : Block) (p : Nat) (on : Bool) : (b.setDe p on).sense = b.sense := by
  unfold Block.setDe; split; · exact (rfl)
  dsimp only; rw [Block.setOn_sense]; split
  · rw [Block.setSp_sense]
  · exact (rfl)
@[simp] theorem Block.setDe_oscillator (b : Block) (p : Nat) (on : Bool) : (b.setDe p on).oscillator = b.oscillator := by
  unfold Block.setDe; split; · exact (rfl)
  dsimp only; rw [Block.setOn_oscillator]; split
  · rw [Block.setSp_oscillator]
  · exact (rfl)

/-! ### hushSp -/

@[simp] theorem Block.hushSp_ticks (b : Block) (p : Nat) : (b.hushSp p).ticks = b.ticks := by
  unfold Block.hushSp; rw [Block.setDe_ticks, Block.setSp_ticks]
@[simp] theorem Block.hushSp_drawn (b : Block) (p : Nat) : (b.hushSp p).drawn = b.drawn := by
  unfold Block.hushSp; rw [Block.setDe_drawn, Block.setSp_drawn]
@[simp] theorem Block.hushSp_dev (b : Block) (p : Nat) : (b.hushSp p).dev = b.dev := by
  unfold Block.hushSp; rw [Block.setDe_dev, Block.setSp_dev]
@[simp] theorem Block.hushSp_host (b : Block) (p : Nat) : (b.hushSp p).host = b.host := by
  unfold Block.hushSp; rw [Block.setDe_host, Block.setSp_host]
@[simp] theorem Block.hushSp_strata (b : Block) (p : Nat) : (b.hushSp p).strata = b.strata := by
  unfold Block.hushSp; rw [Block.setDe_strata, Block.setSp_strata]
@[simp] theorem Block.hushSp_book (b : Block) (p : Nat) : (b.hushSp p).book = b.book := by
  unfold Block.hushSp; rw [Block.setDe_book, Block.setSp_book]
@[simp] theorem Block.hushSp_fault (b : Block) (p : Nat) : (b.hushSp p).fault = b.fault := by
  unfold Block.hushSp; rw [Block.setDe_fault, Block.setSp_fault]
@[simp] theorem Block.hushSp_journal (b : Block) (p : Nat) : (b.hushSp p).journal = b.journal := by
  unfold Block.hushSp; rw [Block.setDe_journal, Block.setSp_journal]
@[simp] theorem Block.hushSp_img (b : Block) (p : Nat) : (b.hushSp p).img = b.img := by
  unfold Block.hushSp; rw [Block.setDe_img, Block.setSp_img]
@[simp] theorem Block.hushSp_brg (b : Block) (p : Nat) : (b.hushSp p).brg = b.brg := by
  unfold Block.hushSp; rw [Block.setDe_brg, Block.setSp_brg]
@[simp] theorem Block.hushSp_dtm (b : Block) (p : Nat) : (b.hushSp p).dtm = b.dtm := by
  unfold Block.hushSp; rw [Block.setDe_dtm, Block.setSp_dtm]
@[simp] theorem Block.hushSp_pool (b : Block) (p : Nat) : (b.hushSp p).pool = b.pool := by
  unfold Block.hushSp; rw [Block.setDe_pool, Block.setSp_pool]
@[simp] theorem Block.hushSp_ports (b : Block) (p : Nat) : (b.hushSp p).ports = b.ports := by
  unfold Block.hushSp; rw [Block.setDe_ports, Block.setSp_ports]
@[simp] theorem Block.hushSp_sound (b : Block) (p : Nat) : (b.hushSp p).sound = b.sound := by
  unfold Block.hushSp; rw [Block.setDe_sound, Block.setSp_sound]
@[simp] theorem Block.hushSp_chain (b : Block) (p : Nat) : (b.hushSp p).chain = b.chain := by
  unfold Block.hushSp; rw [Block.setDe_chain, Block.setSp_chain]
@[simp] theorem Block.hushSp_mac (b : Block) (p : Nat) : (b.hushSp p).mac = b.mac := by
  unfold Block.hushSp; rw [Block.setDe_mac, Block.setSp_mac]
@[simp] theorem Block.hushSp_trv (b : Block) (p : Nat) : (b.hushSp p).trv = b.trv := by
  unfold Block.hushSp; rw [Block.setDe_trv, Block.setSp_trv]
@[simp] theorem Block.hushSp_g3 (b : Block) (p : Nat) : (b.hushSp p).g3 = b.g3 := by
  unfold Block.hushSp; rw [Block.setDe_g3, Block.setSp_g3]
@[simp] theorem Block.hushSp_cx (b : Block) (p : Nat) : (b.hushSp p).cx = b.cx := by
  unfold Block.hushSp; rw [Block.setDe_cx, Block.setSp_cx]
@[simp] theorem Block.hushSp_sense (b : Block) (p : Nat) : (b.hushSp p).sense = b.sense := by
  unfold Block.hushSp; rw [Block.setDe_sense, Block.setSp_sense]
@[simp] theorem Block.hushSp_oscillator (b : Block) (p : Nat) : (b.hushSp p).oscillator = b.oscillator := by
  unfold Block.hushSp; rw [Block.setDe_oscillator, Block.setSp_oscillator]

/-! ### silenceOutputs -/

@[simp] theorem Block.silenceOutputs_ticks (b : Block) : (b.silenceOutputs).ticks = b.ticks := by
  unfold Block.silenceOutputs; dsimp only; rw [Block.hushSp_ticks, Block.hushSp_ticks]
@[simp] theorem Block.silenceOutputs_drawn (b : Block) : (b.silenceOutputs).drawn = b.drawn := by
  unfold Block.silenceOutputs; dsimp only; rw [Block.hushSp_drawn, Block.hushSp_drawn]
@[simp] theorem Block.silenceOutputs_dev (b : Block) : (b.silenceOutputs).dev = b.dev := by
  unfold Block.silenceOutputs; dsimp only; rw [Block.hushSp_dev, Block.hushSp_dev]
@[simp] theorem Block.silenceOutputs_host (b : Block) : (b.silenceOutputs).host = b.host := by
  unfold Block.silenceOutputs; dsimp only; rw [Block.hushSp_host, Block.hushSp_host]
@[simp] theorem Block.silenceOutputs_strata (b : Block) : (b.silenceOutputs).strata = b.strata := by
  unfold Block.silenceOutputs; dsimp only; rw [Block.hushSp_strata, Block.hushSp_strata]
@[simp] theorem Block.silenceOutputs_book (b : Block) : (b.silenceOutputs).book = b.book := by
  unfold Block.silenceOutputs; dsimp only; rw [Block.hushSp_book, Block.hushSp_book]
@[simp] theorem Block.silenceOutputs_fault (b : Block) : (b.silenceOutputs).fault = b.fault := by
  unfold Block.silenceOutputs; dsimp only; rw [Block.hushSp_fault, Block.hushSp_fault]
@[simp] theorem Block.silenceOutputs_journal (b : Block) : (b.silenceOutputs).journal = b.journal := by
  unfold Block.silenceOutputs; dsimp only; rw [Block.hushSp_journal, Block.hushSp_journal]
@[simp] theorem Block.silenceOutputs_img (b : Block) : (b.silenceOutputs).img = b.img := by
  unfold Block.silenceOutputs; dsimp only; rw [Block.hushSp_img, Block.hushSp_img]
@[simp] theorem Block.silenceOutputs_brg (b : Block) : (b.silenceOutputs).brg = b.brg := by
  unfold Block.silenceOutputs; dsimp only; rw [Block.hushSp_brg, Block.hushSp_brg]
@[simp] theorem Block.silenceOutputs_pool (b : Block) : (b.silenceOutputs).pool = b.pool := by
  unfold Block.silenceOutputs; dsimp only; rw [Block.hushSp_pool, Block.hushSp_pool]
@[simp] theorem Block.silenceOutputs_ports (b : Block) : (b.silenceOutputs).ports = b.ports := by
  unfold Block.silenceOutputs; dsimp only; rw [Block.hushSp_ports, Block.hushSp_ports]
@[simp] theorem Block.silenceOutputs_sound (b : Block) : (b.silenceOutputs).sound = b.sound := by
  unfold Block.silenceOutputs; dsimp only; rw [Block.hushSp_sound, Block.hushSp_sound]
@[simp] theorem Block.silenceOutputs_chain (b : Block) : (b.silenceOutputs).chain = b.chain := by
  unfold Block.silenceOutputs; dsimp only; rw [Block.hushSp_chain, Block.hushSp_chain]
@[simp] theorem Block.silenceOutputs_mac (b : Block) : (b.silenceOutputs).mac = b.mac := by
  unfold Block.silenceOutputs; dsimp only; rw [Block.hushSp_mac, Block.hushSp_mac]
@[simp] theorem Block.silenceOutputs_trv (b : Block) : (b.silenceOutputs).trv = b.trv := by
  unfold Block.silenceOutputs; dsimp only; rw [Block.hushSp_trv, Block.hushSp_trv]
@[simp] theorem Block.silenceOutputs_g3 (b : Block) : (b.silenceOutputs).g3 = b.g3 := by
  unfold Block.silenceOutputs; dsimp only; rw [Block.hushSp_g3, Block.hushSp_g3]
@[simp] theorem Block.silenceOutputs_cx (b : Block) : (b.silenceOutputs).cx = b.cx := by
  unfold Block.silenceOutputs; dsimp only; rw [Block.hushSp_cx, Block.hushSp_cx]
@[simp] theorem Block.silenceOutputs_sense (b : Block) : (b.silenceOutputs).sense = b.sense := by
  unfold Block.silenceOutputs; dsimp only; rw [Block.hushSp_sense, Block.hushSp_sense]
@[simp] theorem Block.silenceOutputs_oscillator (b : Block) : (b.silenceOutputs).oscillator = b.oscillator := by
  unfold Block.silenceOutputs; dsimp only; rw [Block.hushSp_oscillator, Block.hushSp_oscillator]

/-! ### stopTransmitting -/

@[simp] theorem Block.stopTransmitting_ticks (b : Block) : (b.stopTransmitting).ticks = b.ticks := by
  unfold Block.stopTransmitting; dsimp only; rw [Block.reportPred_ticks, foldl_keeps (fun b : Block => b.ticks) _ _ _ fun b n => b.openSwitches_ticks n]
@[simp] theorem Block.stopTransmitting_drawn (b : Block) : (b.stopTransmitting).drawn = b.drawn := by
  unfold Block.stopTransmitting; dsimp only; rw [Block.reportPred_drawn, foldl_keeps (fun b : Block => b.drawn) _ _ _ fun b n => b.openSwitches_drawn n]
@[simp] theorem Block.stopTransmitting_dev (b : Block) : (b.stopTransmitting).dev = b.dev := by
  unfold Block.stopTransmitting; dsimp only; rw [Block.reportPred_dev, foldl_keeps (fun b : Block => b.dev) _ _ _ fun b n => b.openSwitches_dev n]
@[simp] theorem Block.stopTransmitting_host (b : Block) : (b.stopTransmitting).host = b.host := by
  unfold Block.stopTransmitting; dsimp only; rw [Block.reportPred_host, foldl_keeps (fun b : Block => b.host) _ _ _ fun b n => b.openSwitches_host n]
@[simp] theorem Block.stopTransmitting_strata (b : Block) : (b.stopTransmitting).strata = b.strata := by
  unfold Block.stopTransmitting; dsimp only; rw [Block.reportPred_strata, foldl_keeps (fun b : Block => b.strata) _ _ _ fun b n => b.openSwitches_strata n]
@[simp] theorem Block.stopTransmitting_book (b : Block) : (b.stopTransmitting).book = b.book := by
  unfold Block.stopTransmitting; dsimp only; rw [Block.reportPred_book, foldl_keeps (fun b : Block => b.book) _ _ _ fun b n => b.openSwitches_book n]
@[simp] theorem Block.stopTransmitting_fault (b : Block) : (b.stopTransmitting).fault = b.fault := by
  unfold Block.stopTransmitting; dsimp only; rw [Block.reportPred_fault, foldl_keeps (fun b : Block => b.fault) _ _ _ fun b n => b.openSwitches_fault n]
@[simp] theorem Block.stopTransmitting_journal (b : Block) : (b.stopTransmitting).journal = b.journal := by
  unfold Block.stopTransmitting; dsimp only; rw [Block.reportPred_journal, foldl_keeps (fun b : Block => b.journal) _ _ _ fun b n => b.openSwitches_journal n]
@[simp] theorem Block.stopTransmitting_img (b : Block) : (b.stopTransmitting).img = b.img := by
  unfold Block.stopTransmitting; dsimp only; rw [Block.reportPred_img, foldl_keeps (fun b : Block => b.img) _ _ _ fun b n => b.openSwitches_img n]
@[simp] theorem Block.stopTransmitting_brg (b : Block) : (b.stopTransmitting).brg = b.brg := by
  unfold Block.stopTransmitting; dsimp only; rw [Block.reportPred_brg, foldl_keeps (fun b : Block => b.brg) _ _ _ fun b n => b.openSwitches_brg n]
@[simp] theorem Block.stopTransmitting_dtm (b : Block) : (b.stopTransmitting).dtm = b.dtm := by
  unfold Block.stopTransmitting; dsimp only; rw [Block.reportPred_dtm, foldl_keeps (fun b : Block => b.dtm) _ _ _ fun b n => b.openSwitches_dtm n]
@[simp] theorem Block.stopTransmitting_pool (b : Block) : (b.stopTransmitting).pool = b.pool := by
  unfold Block.stopTransmitting; dsimp only; rw [Block.reportPred_pool, foldl_keeps (fun b : Block => b.pool) _ _ _ fun b n => b.openSwitches_pool n]
@[simp] theorem Block.stopTransmitting_sound (b : Block) : (b.stopTransmitting).sound = b.sound := by
  unfold Block.stopTransmitting; dsimp only; rw [Block.reportPred_sound, foldl_keeps (fun b : Block => b.sound) _ _ _ fun b n => b.openSwitches_sound n]
@[simp] theorem Block.stopTransmitting_trv (b : Block) : (b.stopTransmitting).trv = b.trv := by
  unfold Block.stopTransmitting; dsimp only; rw [Block.reportPred_trv, foldl_keeps (fun b : Block => b.trv) _ _ _ fun b n => b.openSwitches_trv n]
@[simp] theorem Block.stopTransmitting_g3 (b : Block) : (b.stopTransmitting).g3 = b.g3 := by
  unfold Block.stopTransmitting; dsimp only; rw [Block.reportPred_g3, foldl_keeps (fun b : Block => b.g3) _ _ _ fun b n => b.openSwitches_g3 n]
@[simp] theorem Block.stopTransmitting_cx (b : Block) : (b.stopTransmitting).cx = b.cx := by
  unfold Block.stopTransmitting; dsimp only; rw [Block.reportPred_cx, foldl_keeps (fun b : Block => b.cx) _ _ _ fun b n => b.openSwitches_cx n]
@[simp] theorem Block.stopTransmitting_sense (b : Block) : (b.stopTransmitting).sense = b.sense := by
  unfold Block.stopTransmitting; dsimp only; rw [Block.reportPred_sense, foldl_keeps (fun b : Block => b.sense) _ _ _ fun b n => b.openSwitches_sense n]
@[simp] theorem Block.stopTransmitting_serial (b : Block) : (b.stopTransmitting).serial = b.serial := by
  unfold Block.stopTransmitting; dsimp only; rw [Block.reportPred_serial, foldl_keeps (fun b : Block => b.serial) _ _ _ fun b n => b.openSwitches_serial n]
@[simp] theorem Block.stopTransmitting_oscillator (b : Block) : (b.stopTransmitting).oscillator = b.oscillator := by
  unfold Block.stopTransmitting; dsimp only; rw [Block.reportPred_oscillator, foldl_keeps (fun b : Block => b.oscillator) _ _ _ fun b n => b.openSwitches_oscillator n]

/-! ### enterQuiet -/

@[simp] theorem Block.enterQuiet_ticks (b : Block) (cause : Nat) : (b.enterQuiet cause).ticks = b.ticks := by
  simp only [Block.enterQuiet, Block.lifeEntry_ticks, Block.post_ticks, Block.recordDefaulted_ticks, Block.refreshLoops_ticks, Block.refreshPorts_ticks, Block.setDev_ticks, Block.set_ticks, Block.silenceOutputs_ticks, Block.closeBypasses_ticks, Block.stopTransmitting_ticks, Block.discardShadow_ticks, Block.abortOpAll_ticks, Block.abortSwapAll_ticks]
@[simp] theorem Block.enterQuiet_drawn (b : Block) (cause : Nat) : (b.enterQuiet cause).drawn = b.drawn := by
  simp only [Block.enterQuiet, Block.lifeEntry_drawn, Block.post_drawn, Block.recordDefaulted_drawn, Block.refreshLoops_drawn, Block.refreshPorts_drawn, Block.setDev_drawn, Block.set_drawn, Block.silenceOutputs_drawn, Block.closeBypasses_drawn, Block.stopTransmitting_drawn, Block.discardShadow_drawn, Block.abortOpAll_drawn, Block.abortSwapAll_drawn]
@[simp] theorem Block.enterQuiet_strata (b : Block) (cause : Nat) : (b.enterQuiet cause).strata = b.strata := by
  simp only [Block.enterQuiet, Block.lifeEntry_strata, Block.post_strata, Block.recordDefaulted_strata, Block.refreshLoops_strata, Block.refreshPorts_strata, Block.setDev_strata, Block.set_strata, Block.silenceOutputs_strata, Block.closeBypasses_strata, Block.stopTransmitting_strata, Block.discardShadow_strata, Block.abortOpAll_strata, Block.abortSwapAll_strata]
@[simp] theorem Block.enterQuiet_brg (b : Block) (cause : Nat) : (b.enterQuiet cause).brg = b.brg := by
  simp only [Block.enterQuiet, Block.lifeEntry_brg, Block.post_brg, Block.recordDefaulted_brg, Block.refreshLoops_brg, Block.refreshPorts_brg, Block.setDev_brg, Block.set_brg, Block.silenceOutputs_brg, Block.closeBypasses_brg, Block.stopTransmitting_brg, Block.discardShadow_brg, Block.abortOpAll_brg, Block.abortSwapAll_brg]
@[simp] theorem Block.enterQuiet_pool (b : Block) (cause : Nat) : (b.enterQuiet cause).pool = b.pool := by
  simp only [Block.enterQuiet, Block.lifeEntry_pool, Block.post_pool, Block.recordDefaulted_pool, Block.refreshLoops_pool, Block.refreshPorts_pool, Block.setDev_pool, Block.set_pool, Block.silenceOutputs_pool, Block.closeBypasses_pool, Block.stopTransmitting_pool, Block.discardShadow_pool, Block.abortOpAll_pool, Block.abortSwapAll_pool]
@[simp] theorem Block.enterQuiet_sound (b : Block) (cause : Nat) : (b.enterQuiet cause).sound = b.sound := by
  simp only [Block.enterQuiet, Block.lifeEntry_sound, Block.post_sound, Block.recordDefaulted_sound, Block.refreshLoops_sound, Block.refreshPorts_sound, Block.setDev_sound, Block.set_sound, Block.silenceOutputs_sound, Block.closeBypasses_sound, Block.stopTransmitting_sound, Block.discardShadow_sound, Block.abortOpAll_sound, Block.abortSwapAll_sound]
@[simp] theorem Block.enterQuiet_trv (b : Block) (cause : Nat) : (b.enterQuiet cause).trv = b.trv := by
  simp only [Block.enterQuiet, Block.lifeEntry_trv, Block.post_trv, Block.recordDefaulted_trv, Block.refreshLoops_trv, Block.refreshPorts_trv, Block.setDev_trv, Block.set_trv, Block.silenceOutputs_trv, Block.closeBypasses_trv, Block.stopTransmitting_trv, Block.discardShadow_trv, Block.abortOpAll_trv, Block.abortSwapAll_trv]
@[simp] theorem Block.enterQuiet_g3 (b : Block) (cause : Nat) : (b.enterQuiet cause).g3 = b.g3 := by
  simp only [Block.enterQuiet, Block.lifeEntry_g3, Block.post_g3, Block.recordDefaulted_g3, Block.refreshLoops_g3, Block.refreshPorts_g3, Block.setDev_g3, Block.set_g3, Block.silenceOutputs_g3, Block.closeBypasses_g3, Block.stopTransmitting_g3, Block.discardShadow_g3, Block.abortOpAll_g3, Block.abortSwapAll_g3]
@[simp] theorem Block.enterQuiet_cx (b : Block) (cause : Nat) : (b.enterQuiet cause).cx = b.cx := by
  simp only [Block.enterQuiet, Block.lifeEntry_cx, Block.post_cx, Block.recordDefaulted_cx, Block.refreshLoops_cx, Block.refreshPorts_cx, Block.setDev_cx, Block.set_cx, Block.silenceOutputs_cx, Block.closeBypasses_cx, Block.stopTransmitting_cx, Block.discardShadow_cx, Block.abortOpAll_cx, Block.abortSwapAll_cx]
@[simp] theorem Block.enterQuiet_sense (b : Block) (cause : Nat) : (b.enterQuiet cause).sense = b.sense := by
  simp only [Block.enterQuiet, Block.lifeEntry_sense, Block.post_sense, Block.recordDefaulted_sense, Block.refreshLoops_sense, Block.refreshPorts_sense, Block.setDev_sense, Block.set_sense, Block.silenceOutputs_sense, Block.closeBypasses_sense, Block.stopTransmitting_sense, Block.discardShadow_sense, Block.abortOpAll_sense, Block.abortSwapAll_sense]
@[simp] theorem Block.enterQuiet_oscillator (b : Block) (cause : Nat) : (b.enterQuiet cause).oscillator = b.oscillator := by
  simp only [Block.enterQuiet, Block.lifeEntry_oscillator, Block.post_oscillator, Block.recordDefaulted_oscillator, Block.refreshLoops_oscillator, Block.refreshPorts_oscillator, Block.setDev_oscillator, Block.set_oscillator, Block.silenceOutputs_oscillator, Block.closeBypasses_oscillator, Block.stopTransmitting_oscillator, Block.discardShadow_oscillator, Block.abortOpAll_oscillator, Block.abortSwapAll_oscillator]

/-! ### Registers of ports and loops -/

theorem Block.rd_refreshPort (b : Block) (n off : Nat) (h : off ≠ Reg.LP_STATUS n) : (b.refreshPort n).rd off = b.rd off := by
  unfold Block.refreshPort
  rw [Block.rd_set_other _ _ _ _ h, Block.rd_set_other _ _ _ _ h]

theorem Block.rd_refreshPorts (b : Block) (off : Nat) (h : ∀ n, off ≠ Reg.LP_STATUS n) : b.refreshPorts.rd off = b.rd off :=
  foldl_keeps (fun b : Block => b.rd off) _ _ _ fun b n => b.rd_refreshPort n off (h n)

theorem Block.rd_refreshLoop (b : Block) (n off : Nat) (h1 : off ≠ Reg.SS_LOOP_STAT n) (h2 : off ≠ Reg.SS_LOOP_FLAGS n) :
    (b.refreshLoop n).rd off = b.rd off := by
  unfold Block.refreshLoop
  split
  · rfl
  · dsimp only
    have key : ∀ fs : List (Field × Nat), (∀ p ∈ fs, p.1.off = Reg.SS_LOOP_STAT n ∨ p.1.off = Reg.SS_LOOP_FLAGS n) →
        (b.setAll fs).rd off = b.rd off := by
      intro fs hfs
      apply Block.rd_setAll_other
      intro p hp
      rcases hfs p hp with e | e <;> rw [e] <;> assumption
    split
    · rw [Block.rd_set_other _ _ _ _ h2]
      apply key
      simp
    · apply key
      simp

theorem Block.rd_refreshLoops (b : Block) (off : Nat) (h1 : ∀ n, off ≠ Reg.SS_LOOP_STAT n)
    (h2 : ∀ n, off ≠ Reg.SS_LOOP_FLAGS n) : b.refreshLoops.rd off = b.rd off := by
  unfold Block.refreshLoops
  rw [Block.rd_refreshLoop _ _ _ (h1 1) (h2 1), Block.rd_refreshLoop _ _ _ (h1 0) (h2 0)]

/-! ### Entry to QUIET (R535 to R537) -/

theorem Block.rd_lifeEntry (b : Block) (off : Nat) (h : off ∉ journalRegs) : b.lifeEntry.rd off = b.rd off :=
  b.rd_journalWrite _ _ _ _ off h

theorem Block.rd_recordDefaulted (b : Block) (off : Nat) (h : off ∉ recordRegs) : b.recordDefaulted.rd off = b.rd off := by
  unfold Block.recordDefaulted
  split
  · rw [Block.rd_post _ _ _ _ _ _ h]; rfl
  · rfl

/-- The record of R63 takes nothing from the sets of the image. -/
theorem Block.recordDefaulted_img (b : Block) :
    b.recordDefaulted.img.shadow = b.img.shadow ∧ b.recordDefaulted.img.armed = b.img.armed := by
  unfold Block.recordDefaulted
  split
  · rw [Block.post_img]; exact ⟨rfl, rfl⟩
  · exact ⟨rfl, rfl⟩

@[simp] theorem Block.enterQuiet_dev (b : Block) (cause : Nat) : (b.enterQuiet cause).dev = .quiet := by
  rw [Block.enterQuiet]
  rw [Block.lifeEntry_dev, Block.post_dev, Block.recordDefaulted_dev, Block.refreshLoops_dev, Block.refreshPorts_dev, Block.setDev_dev]

theorem Block.setDev_regs' (b : Block) (d : DevState) : (b.setDev d).regs = b.regs := Block.setDev_regs b d

/-- The cause of QUIET is held in GLB_STATE. -/
theorem Block.enterQuiet_cause (b : Block) (cause : Nat) :
    (b.enterQuiet cause).get Reg.GLB_STATE_QUIET_CAUSE = cause % 256 := by
  rw [Block.enterQuiet]
  have e : ∀ c : Block, ((c.recordDefaulted.post 0x1002 4 0x49 [(1, cause), (1, b.dev.code)]).lifeEntry).get
      Reg.GLB_STATE_QUIET_CAUSE = c.get Reg.GLB_STATE_QUIET_CAUSE := by
    intro c
    rw [Block.get_of_rd (Block.rd_lifeEntry _ _ (by decide)), Block.get_post _ _ _ _ _ _ (by decide),
      Block.get_of_rd (Block.rd_recordDefaulted _ _ (by decide))]
  rw [e, Block.get_of_rd (Block.rd_refreshLoops _ _ ?_ ?_), Block.get_of_rd (Block.rd_refreshPorts _ _ ?_),
    Block.get_of_regs (Block.setDev_regs _ _), Block.get_set_same _ _ _ (by decide)]
  · rfl
  · intro n; show (0x10 : Nat) ≠ 0x80004 + 0x1000 * n; omega
  · intro n; show (0x10 : Nat) ≠ 0x1D0050 + 0x20 * n; omega
  · intro n; show (0x10 : Nat) ≠ 0x1D0054 + 0x20 * n; omega

/-- No swap is armed and no shadow held in QUIET (R71, R81). -/
theorem Block.enterQuiet_img (b : Block) (cause : Nat) :
    (b.enterQuiet cause).img.shadow = none ∧ (b.enterQuiet cause).img.armed = none := by
  rw [Block.enterQuiet]
  rw [Block.lifeEntry_img, Block.post_img, (Block.recordDefaulted_img _).1, (Block.recordDefaulted_img _).2,
    Block.refreshLoops_img, Block.refreshPorts_img, Block.setDev_img, Block.set_img, Block.silenceOutputs_img,
    Block.closeBypasses_img, Block.stopTransmitting_img]
  exact ⟨rfl, rfl⟩

/-! ### Harmless outputs (R532) -/

theorem Block.gated_lineReleased (b : Block) (h : b.dev ≠ .service) :
    b.gated.mac.txs = [] ∧ b.gated.chain.drives = [] ∧ ∀ n, (b.gated.port n).switches = false := by
  have hr : b.releaseLine.mac.txs = [] ∧ b.releaseLine.chain.drives = [] ∧
      ∀ n, (b.releaseLine.port n).switches = false :=
    ⟨rfl, rfl, fun n => Store.mapVals_all _ _ _ n (fun p : PortSt => p.switches = false) rfl fun _ => rfl⟩
  have hs : ∀ c : Block, (c.mac.txs = [] ∧ c.chain.drives = [] ∧ ∀ n, (c.port n).switches = false) →
      (c.shortRings.mac.txs = [] ∧ c.shortRings.chain.drives = [] ∧ ∀ n, (c.shortRings.port n).switches = false) :=
    fun c hc => ⟨hc.1, hc.2.1, hc.2.2⟩
  have hm : ∀ c : Block, (c.mac.txs = [] ∧ c.chain.drives = [] ∧ ∀ n, (c.port n).switches = false) →
      (c.muteOutputs.mac.txs = [] ∧ c.muteOutputs.chain.drives = [] ∧ ∀ n, (c.muteOutputs.port n).switches = false) := by
    intro c hc
    unfold Block.port at hc ⊢
    rw [Block.muteOutputs_mac, Block.muteOutputs_chain, Block.muteOutputs_ports]
    exact hc
  unfold Block.gated
  rw [if_neg h]
  dsimp only
  split <;> split
  · exact hm _ hr
  · exact hr
  · exact hm _ (hs _ hr)
  · exact hs _ hr

theorem Block.gated_bypass (b : Block) (h : b.dev.joins = false) : b.gated.chain.bypassA = true ∧ b.gated.chain.bypassB = true := by
  have hs : ∀ c : Block, c.shortRings.chain.bypassA = true ∧ c.shortRings.chain.bypassB = true := fun c => ⟨rfl, rfl⟩
  have hm : ∀ c : Block, c.muteOutputs.chain = c.chain := fun c => c.muteOutputs_chain
  unfold Block.gated
  dsimp only
  have hd : (if b.dev = DevState.service then b else b.releaseLine).dev = b.dev := by split <;> simp
  rw [hd, h]
  simp only [Bool.false_eq_true, if_false]
  generalize (if b.dev = DevState.service then b else b.releaseLine) = c
  split
  · rw [hm]; exact hs c
  · exact hs c

theorem Block.gated_mute (b : Block) (h : b.dev.silent = true) :
    b.gated.dtm.pulse = [] ∧ (∀ p, (b.gated.sp p).shifter = none ∧ (b.gated.sp p).tail = false) ∧
      b.gated.get (Reg.SP_STAT_DE 1) = 0 := by
  have hm : ∀ c : Block, c.muteOutputs.dtm.pulse = [] ∧
      (∀ p, (c.muteOutputs.sp p).shifter = none ∧ (c.muteOutputs.sp p).tail = false) ∧
      c.muteOutputs.get (Reg.SP_STAT_DE 1) = 0 := by
    intro c
    refine ⟨rfl, fun p => ?_, ?_⟩
    · have : c.muteOutputs.sp p = c.hushOutputs.sp p := by unfold Block.sp Block.muteOutputs; rw [Block.set_serial]
      rw [this]
      exact Store.mapVals_all _ _ _ p (fun x : SerialPort => x.shifter = none ∧ x.tail = false) ⟨rfl, rfl⟩ fun _ => ⟨rfl, rfl⟩
    · unfold Block.muteOutputs
      rw [Block.get_set_same _ _ _ (by decide)]
      rfl
  unfold Block.gated
  dsimp only
  have hd : (if (if b.dev = DevState.service then b else b.releaseLine).dev.joins = true then
              if b.dev = DevState.service then b else b.releaseLine
            else (if b.dev = DevState.service then b else b.releaseLine).shortRings).dev = b.dev := by
    split <;> split <;> simp
  rw [hd, h]
  exact hm _

end Sys2Proof.Machine
end

