-- ==== Sys2Proof/Laws/Exec.lean ====
section
/-!
SUPPORT. What every command can do to the state: the waiting commands stay, and the next block has passed the output
stages.
-/

namespace Sys2Proof.Machine

theorem answer_gated {m : String} {wf : Bool} {s t : State} {f : Block → Block} (h : answer m wf s f = .next t) :
    wf = true ∧ t = { s with blk := (f s.blk).gated } := by
  unfold answer at h
  split at h
  · rename_i hw
    injection h with h
    exact ⟨hw, h.symm⟩
  · cases h

/-- Whatever command runs, its next state keeps the queue, and its block has passed the output stages (R532). -/
theorem exec_next {c : Instr} {s t : State} (h : exec c s = .next t) : ∃ b : Block, t = { s with blk := b.gated } := by
  cases c <;> (dsimp only [exec] at h; exact ⟨_, (answer_gated h).2⟩)

/-- A step keeps to the rest of the queue, and its block has passed the output stages (R532). -/
theorem step_next {s t : State} (h : step s = .next t) :
    ∃ b : Block, t = { pending := s.pending.tail, blk := b.gated } := by
  unfold step at h
  split at h
  · rename_i hp
    injection h with h
    exact ⟨_, by rw [← h, hp]; rfl⟩
  · rename_i c rest hp
    obtain ⟨b, rfl⟩ := exec_next h
    exact ⟨b, by rw [hp]; rfl⟩

end Sys2Proof.Machine
end

