-- ==== Sys2Proof/Tests/Slice0.lean ====
section
/-!
SUPPORT. The model's own tests: an ill-formed term for each check of WellFormed, results the spec states, and for every
obligation with hypotheses a witness theorem: states and operands that meet the hypotheses of each of its clauses.
-/

namespace Sys2Proof.Tests

open Sys2Proof Sys2Proof.Machine

-- One theorem at a time: the witnesses together would ask for too many threads.
set_option Elab.async false

/-- The block at reset moved to a device state, with field values and further changes. -/
def inState (d : DevState) (fs : List (Field × Nat) := []) (f : Block → Block := id) : State :=
  { blk := f (({ Block.reset with dev := d } : Block).setAll fs), pending := [] }

/-- The same with the PF's Memory Space Enable and Bus Master Enable at 1. -/
def hosted (d : DevState) (fs : List (Field × Nat) := []) (f : Block → Block := id) : State :=
  inState d ((Reg.HIF_FN_STAT_BME, 1) :: fs) fun b => f (b.setConfig 0 { FnConfig.reset with mse := true })

/-- A transmission of port 0 in the band 0, as it stands on the line. -/
def aTx : Tx :=
  { offer := { num := 1, type := 0, triad := 0, port := some 0, dst := 0x20, prio := 4, standing := false, ackReq := true,
               body := [], parcels := [], entered := 0, waiting := none, attempts := 1, lastMode := none,
               lastBands := 0, alternate := false, start := none }
    ports := [0], phy := { mode := 0, bands := 1, map := [], streams := 0 }, bands := 1, mode := 0, streams := 0, notch := 0,
    windows := [], phi := 0, seq := 7, start := 100, last := 400, ackEnd := 900,
    samples := 600, micros := 300, atten := 0, zout := [0], carriers := 28, loss := 0, charge := 0, fch := [], mac := [],
    coded := [], syncs := 8, positions := [], weights := [], line := [], lostSlice := false, stage := .onLine }

/-- With a Bearing state and a bearing. -/
def atBearing (st : BrgState) (now : Bearing) (b : Block) : Block := { b with brg := { b.brg with state := st, now := now } }

/-- With an input whose last qualified crossing was at a tick. -/
def crossed (n tick : Nat) (b : Block) : Block :=
  { b with brg := { b.brg with
      inputs := Store.put (fun _ => SenseIn.reset) b.brg.inputs n { SenseIn.reset with lastQual := some (tick, 0) } } }

/-- With the tick counter at a value. -/
def atTick (n : Nat) (b : Block) : Block := { b with ticks := n }

/-- With an image-only setting. -/
def withSetting (a : Nat) (v : Word) (b : Block) : Block :=
  { b with img := { b.img with settings := Store.put settingDefault b.img.settings a v } }

/-- With lane 5 bound to port 0, sub-band 0. -/
def bound5 (b : Block) : Block := b.setLane 5 { Lane.reset with binding := some { port := 0, sb := 0, g3 := false } }

/-- A control frame that waits for port 0 of triad 0. -/
def anOffer : Offer :=
  { num := 1, type := typeTime, triad := 0, port := some 0, dst := 0x20, prio := 2, standing := false, ackReq := false,
    body := [3, 0], parcels := [], entered := 0, waiting := none, attempts := 0, lastMode := none, lastBands := 0,
    alternate := false, start := none }

/-- Port 0 bound and normal, with budgets, the Plane Table enabled, Bearing in bin 600 of its first superframe. -/
def lineUp (fs : List (Field × Nat) := []) (f : Block → Block := id) : State :=
  hosted .service ([(Reg.MAC_CTRL_ENABLE, 1), (Reg.LP_CTRL_ENABLE 0, 1), (Reg.LP_STATUS_STATE 0, 1),
      (Reg.PT_BUD_CFG_WINDOW 0 0, 100), (Reg.PT_BUD_CFG_LIMIT 0 0, 1000), (Reg.PT_BUD_CFG_WINDOW 0 3, 100),
      (Reg.PT_BUD_CFG_LIMIT 0 3, 1000), (Reg.LP_BANK_STAT_VLD 0, 2400)] ++ fs)
    fun b => f (atBearing .locked 307200 (withSetting 20 0x100 b))

/-- A choice of the Plane Table for triad 0: robust mode 3, sub-band A. -/
def aChoice : AdmitChoice :=
  { triad := 0, clear := true, mode := 3, bands := 1, cross := false, grant := none, poisoned := false }

/-- The line with `anOffer` waiting. -/
def offered : State := lineUp [] fun b => { b with mac := { b.mac with offers := [anOffer], nextNum := 2 } }

/-- `anOffer` as a candidate. -/
def aPlan : Plan := { offer := anOffer, send := none, final := none, hop := none }

/-- The frame a candidate would be, if it fits. -/
def fitted (b : Block) (p : Plan) (a : AdmitChoice) : Tx × PhyMode × List Nat :=
  match b.testModes p a with
  | .fits x phy ports => (x, phy, ports)
  | _ => (aTx, { mode := 0, bands := 0, map := [], streams := 0 }, [])

/-- An image whose ports are all preserved. -/
def anImage : ImageSet :=
  { serial := 7, flags := 0, sections := [(2, (List.range 24).map fun n => (0x1001000 + 4 * n, 1))], source := 0 }

/-- A swap armed for bearing 900. -/
def armedAt (v : Verdict) : Armed := { bearing := 900, verdict := v, tokenOut := false, ready := 0 }

/-- With what bank 3 has sent in the first superframe. -/
def bankSent (n : Nat) (b : Block) : Block :=
  { b with ports := { b.ports with sent := [(3, { superframe := 0, out := n, observed := false })] } }
/-- A node of depth 1 in entry 7, associated, its parent the device. -/
def aNode : Node := { Node.free with short := 7, long := 77, state := 2, depth := 1, rxPort := 0 }

/-- A MAC header from node 7 to the device. -/
def aHeader : MacHeader :=
  { net := 0, dst := addrDevice, src := 7, seq := 9, ackReq := false, grant := false, more := false, prio := 2,
    nparc := 0, evc := 0 }

/-- A frame's MAC bytes. -/
def macOf (h : MacHeader) (body : List Byte) : List Byte := h.toBytes ++ body ++ crc32le (h.toBytes ++ body)

/-- Bytes as the information bits of a frame, zero filled and scrambled from STAMP 0. -/
def infoOfMac (mac : List Byte) (n : Nat) : List Bool :=
  List.zipWith Bool.xor ((mac ++ List.replicate (n - mac.length) 0).flatMap byteBits)
    (scramblerBits (8 * n) 127)

/-- The LENGTH of a frame of mode 9 in sub-band A that holds MAC bytes, and the bytes that it holds. -/
def aLength (mac : List Byte) : Nat × Nat :=
  if mac.length ≤ 36 then (6, 36) else if mac.length ≤ 72 then (12, 72) else (23, 144)

/-- What the FCH of a frame on lane 5 in sub-band A gave. -/
def aFch (bits : Nat) : RxFch :=
  { bits := bits, lead := 5, node := none, phy := { mode := 9, bands := 1, map := [], streams := 0 }, sample0 := 306000,
    last := 306400, samples := 3000, starts := [], units := [] }

/-- That of a frame of a type that holds MAC bytes. -/
def fchOf (type : Nat) (mac : List Byte) : RxFch := aFch (type + 16 * (aLength mac).1 + 2 ^ 14 * 9)

/-- A frame received on lane 5. -/
def aFrame (mac : List Byte) : RxFrame :=
  { lane := 5, info := infoOfMac mac (aLength mac).2, decodes := [], snr := 64,
    obs := { estimates := [], att := [], tau := 0, snr := [], steps := [] } }

/-- The reception of a frame on lane 5, at its end. -/
def aReception (f : RxFch) : Reception :=
  { start := 306080, startTick := 0, freq := 0, syncs := 8, deep := false, fch := [], peaks := [], bearing := 306100,
    stampA := 0, stampB := 0, synced := true, xband := false, halved := [], g3 := false, frame := some f, ended := true }

/-- What lane 5 has heard of it. -/
def heardOf (f : RxFch) (mac : List Byte) : Heard :=
  { port := 0, sb := 0, reception := aReception f, frame := f, mac := mac, clean := true }

/-- What lane 5 has heard of a frame of a type with MAC bytes. -/
def aHeard (type : Nat) (mac : List Byte) : Heard :=
  heardOf (fchOf type mac) (mac ++ List.replicate ((aLength mac).2 - mac.length) 0)

/-- With a frame at its end on lane 5. -/
def hears (f : RxFch) (b : Block) : Block :=
  b.setLane 5 { Lane.reset with binding := some { port := 0, sb := 0, g3 := false }, reception := some (aReception f) }

/-- The line with lane 5 bound and nodes in the table. -/
def hearing (nodes : List (Nat × Node)) (fs : List (Field × Nat) := []) (f : Block → Block := id) : State :=
  lineUp fs fun b => f (bound5 { b with trv := { b.trv with nodes := nodes } })

/-- With the rest of what is kept of node 7. -/
def withExt (e : NodeExt) (b : Block) : Block := { b with trv := { b.trv with ext := [(7, e)] } }

/-- The header that the first bytes of a frame spell. -/
def headOf (mac : List Byte) : MacHeader := MacHeader.ofBytes mac

/-- A parcel record of three bytes from node 7 to the device. -/
def aRecord : List Byte :=
  parcelRecord { plen := 3, prio := 2, sec := false, orig := 7, final := addrDevice, fctr := 0, pseq := 40, gen := 0 }
    [1, 2, 3] []

/-- The MAC bytes of a DATA frame with that record. -/
def aDataMac : List Byte := { aHeader with nparc := 1 }.toBytes ++ aRecord

/-- A packed PARCEL queue 3 of function 0, produced by master 19. -/
def rxQueue : List (Field × Nat) :=
  [(Reg.QD_CFG_KIND 3, 3), (Reg.QD_CFG_PROD 3, 19), (Reg.QD_CFG_CONS 3, 0), (Reg.QD_CFG_SIZE_LOG2 3, 4),
    (Reg.QD_CFG_ENABLE 3, 1)]

/-- A send that waits for the port of node 7 since bearing 0. -/
def aSend : SendRec :=
  { cmd := { fn := 0, ring := 1, cpl := 2, seq := 5, opcode := 1, flags := 0, queue := 4, tag := 9, operands := [] },
    queue := 4, ptr := 0, units := 3, prio := 0, final := 7, stamp := false, body := [1], pseq := 4, attempts := 0,
    taken := false, entered := 0, waiting := none }

/-- A rendezvous series of node 7 whose rendezvous 0 is at a bearing. -/
def series (at_ : Bearing) (wakes : Option Nat) : Rendezvous := { v0 := at_, k := 0, wakes := wakes }

/-- A relay of depth 1 in entry 7. -/
def aRelay : Node := { aNode with relay := true }

/-- A child of the relay in entry 8. -/
def aChild : Node := { aNode with short := 8, long := 88, depth := 2, parent := 7, rxPort := 31 }

/-- `aTx` to node 7, awaiting its ACK. -/
def waitsFor (type : Nat) (body : List Byte) : Tx :=
  { aTx with offer := { aTx.offer with type := type, dst := 7, body := body }, stage := .awaitingAck, last := 305000,
             ackEnd := 306400 }

/-- The line with node 7 asleep, a rendezvous ahead and a frame that waits for it. -/
def sleeper : State :=
  lineUp [] fun b =>
    { b with trv := { b.trv with
               nodes := [(7, { aNode with rdvQ := 4, sleeps := true })]
               ext := [(7, { NodeExt.reset with rdv := some (series 310000 none), mode := some (3, 1) })] }
             mac := { b.mac with offers := [{ anOffer with dst := 7 }], nextNum := 2 } }

/-- The plan of that rendezvous and its bearing. -/
def planRdv (b : Block) : Plan := (b.rdvPlan 7).2
def startRdv (b : Block) : Bearing := (b.wakeBearing 7).getD 0

/-- That frame as it fits. -/
def fittedRdv (b : Block) : Tx × PhyMode × List Nat :=
  let fixed : Offer := { (planRdv b).offer with start := some (startRdv b), standing := true }
  let b0 : Block :=
    { b with mac := { b.mac with offers := b.mac.offers.map fun q => if q.num = fixed.num then fixed else q } }
  match b0.testModes { planRdv b with offer := fixed } (b0.rdvChoice 7) with
  | .fits x phy ports => (x, phy, ports)
  | _ => (aTx, { mode := 0, bands := 0, map := [], streams := 0 }, [])

/-- The FCH of a relayed Cairn of node 7 in the first slot of sub-band A. -/
def aCairnC : RxFch :=
  { aFch (typeCairnC + 2 ^ 17) with
    sample0 := (hearing [] [(Reg.MAC_SF_CTRL_RC_PERIOD, 0)]).blk.slotStart { aRelay with rcBand := 1 } 0 }

/-- The CRC register after bytes. -/
def crcRun (n : Nat) (bs : List Byte) : Nat := (bs.flatMap byteBits).foldl (checkBit crc32cDef) n

/-- The register runs through the bytes in order. -/
theorem crc_run_append (n : Nat) (a b : List Byte) : crcRun n (a ++ b) = crcRun (crcRun n a) b := by
  unfold crcRun; rw [List.flatMap_append, List.foldl_append]

/-- The CRC-32C of bytes from the register. -/
theorem crc_of_run (a : List Byte) : crc32c a = reflect 32 (crcRun 0xFFFFFFFF a) ^^^ 0xFFFFFFFF := rfl

/-- The MAC bytes of a MAP REPORT of node 7: 111 carriers at 10 dB, the last unmeasured. -/
def aMapMac : List Byte :=
  (aHeader.toBytes ++ List.replicate 1 0 ++ List.replicate 37 40 ++ List.replicate 37 40 ++ List.replicate 37 40 ++
    [255] ++ [174, 188, 41, 128])

/-- Its FCS passes. -/
theorem map_frame_passes : fcsOk (aHeard typeMap aMapMac).mac 113 = true := by
  have h : crc32c (slice (aHeard typeMap aMapMac).mac 0 127) = 2150218926 := by
    rw [show slice (aHeard typeMap aMapMac).mac 0 127 = aHeader.toBytes ++ List.replicate 1 0 ++ List.replicate 37 40 ++
          List.replicate 37 40 ++ List.replicate 37 40 ++ [255] by decide +kernel,
      crc_of_run, crc_run_append, crc_run_append, crc_run_append, crc_run_append,
      show crcRun 0xFFFFFFFF (aHeader.toBytes ++ List.replicate 1 0) = 319582670 by decide +kernel,
      show crcRun 319582670 (List.replicate 37 40) = 449638761 by decide +kernel,
      show crcRun 449638761 (List.replicate 37 40) = 2804086804 by decide +kernel,
      show crcRun 2804086804 (List.replicate 37 40) = 2226895038 by decide +kernel]
    decide +kernel
  unfold fcsOk crc32le
  rw [h]
  decide +kernel

/-- A command of function 0, from ring 1 with completion ring 2. -/
def aCmd (opcode queue : Nat) (operands : List Byte := []) : Cmd :=
  { fn := 0, ring := 1, cpl := 2, seq := 5, opcode := opcode, flags := 0, queue := queue, tag := 9, operands := operands }

/-- Function 0's rings 1 (CMD) and 2 (CPL), its packed PARCEL queue 3 to the device, the device's PARCEL queue 4 to it, its
STREAM queue 5. -/
def fabric : List (Field × Nat) :=
  [(Reg.QD_CFG_KIND 1, 1), (Reg.QD_CFG_PROD 1, 0), (Reg.QD_CFG_CONS 1, 23), (Reg.QD_CFG_SIZE_LOG2 1, 4),
    (Reg.QD_CFG_ENABLE 1, 1), (Reg.QD_CNT_NQ 1, 2),
    (Reg.QD_CFG_KIND 2, 2), (Reg.QD_CFG_PROD 2, 23), (Reg.QD_CFG_CONS 2, 0), (Reg.QD_CFG_SIZE_LOG2 2, 4),
    (Reg.QD_CFG_ENABLE 2, 1),
    (Reg.QD_CFG_KIND 3, 3), (Reg.QD_CFG_PROD 3, 0), (Reg.QD_CFG_CONS 3, 19), (Reg.QD_CFG_SIZE_LOG2 3, 3),
    (Reg.QD_CFG_ENABLE 3, 1),
    (Reg.QD_CFG_KIND 4, 3), (Reg.QD_CFG_PROD 4, 19), (Reg.QD_CFG_CONS 4, 0), (Reg.QD_CFG_SIZE_LOG2 4, 3),
    (Reg.QD_CFG_ENABLE 4, 1),
    (Reg.QD_CFG_KIND 5, 4), (Reg.QD_CFG_PROD 5, 0), (Reg.QD_CFG_CONS 5, 19), (Reg.QD_CFG_SIZE_LOG2 5, 3),
    (Reg.QD_CFG_ENABLE 5, 1)]

/-- A register as one field. -/
def whole (off : Nat) : Field := ⟨off, 0, 32⟩

/-- The fabric in SERVICE with commands fetched. -/
def running (cs : List Cmd) (fs : List (Field × Nat) := []) (f : Block → Block := id) : State :=
  lineUp (fabric ++ fs) fun b => f ({ b with
    strata := { b.strata with fetched := cs, queues := [(2, { QueueSt.empty with owed := cs.length })] } })

/-- What a queue holds. -/
def withQ (q : Nat) (st : QueueSt) (b : Block) : Block := b.setQ q st

/-- A delivery request of queue 4. -/
def aRecv (len : Nat) : Recv :=
  { cmd := aCmd 2 4 (toLe 8 0x1000 ++ toLe 4 len ++ toLe 4 0 ++ toLe 8 0), started := false, pos := 0, words := 0,
    bytes := 0, head := [], prov := false, poison := false }

/-- Delivery requests. -/
def withRecvs (rs : List Recv) (b : Block) : Block := { b with strata := { b.strata with recvs := rs } }

/-- Operands of a SEND of two bytes to node 7. -/
def sendOperands : List Byte := toLe 8 0x1000 ++ toLe 2 2 ++ [1, 0] ++ toLe 4 7

/-- The 64 bytes of a MARK of queue 3 with HOST_SEQ 5. -/
def anEntry : List Byte := toLe 4 5 ++ [3, 0, 0, 0] ++ toLe 4 3 ++ List.replicate 52 0

/-- Operands of a cipher command: page, priority, length of the associated data, context or slot, source, length,
FCTR, bytes 0x30 to 0x37, destination or long address. -/
def cxOps (page prio aad n src len fctr : Nat) (rest : List Byte) (dst : Nat) : List Byte :=
  toLe 1 page ++ toLe 1 prio ++ toLe 2 aad ++ toLe 4 n ++ toLe 8 src ++ toLe 4 len ++ toLe 4 fctr ++ toLe 8 0 ++
    rest ++ List.replicate (8 - rest.length) 0 ++ toLe 8 dst

/-- The bytes of CTX_OPEN: generation, purpose, mode, slot. -/
def openBits (gen purpose mode slot : Nat) : List Byte := toLe 3 gen ++ toLe 1 purpose ++ toLe 1 mode ++ toLe 1 slot

/-- A context in a state with a generation. -/
def aCtx (state gen : Nat) : Ctx := { Ctx.closed with state := state, gen := gen, purpose := 0x10, next := 9 }

/-- With a context of a page. -/
def withCtx (page n : Nat) (x : Ctx) (b : Block) : Block :=
  { b with cx := { b.cx with ctxs := [(page * 2 ^ 19 + n, x)] } }

/-- A parcel that a decryption writes. -/
def aProduce : Produce := { bytes := [7], prio := 0, prov := true, orig := 0, pseq := 0, producer := 19 }

/-- The command of a decryption into queue 4. -/
def aDecrypt : Cmd := aCmd 0x34 4 (cxOps 0 0 0 5 0x1000 1 3 (toLe 3 2) 0)

/-- The decryption that an engine holds. -/
def anOp (ok : Bool) : CipherOp :=
  { num := 1, prio := 0, page := 0, queue := 4, work := .decrypt aDecrypt aProduce, tagOk := ok }

/-- Engine 1 holding it, with its word behind the mark of queue 4. -/
def deciding (ok taken : Bool) : State :=
  running [] [(Reg.CX_ENGINE_STAT_ALIVE, 15), (Reg.QD_BASE_HI_MARK_VALID 4, 1), (whole (Reg.QD_WR 4), 1)] fun b =>
    { b with cx := { b.cx with engines := [(1, { running := some (anOp ok), suspended := [] })] }
             strata := { b.strata with queues := [(2, { QueueSt.empty with owed := 1 }),
               (4, { QueueSt.empty with live := some aProduce, provTaken := taken,
                                        words := [(0, { data := 7, tag := 0x71 })] })] } }

/-- Where the queue's owner is known, so is whether it is frozen. -/
theorem owner_cut {b : Block} {q f : Nat} (h : b.qOwner q = some f) (c : b.frozen f = false) :
    ∀ fn, b.qOwner q = some fn → b.frozen fn = false := by
  intro fn hf
  rw [h] at hf
  cases hf
  exact c

/-- A text of one byte stays one byte, whatever the key. -/
theorem ctr_one (key ctr : List Byte) (n : Nat) (t : Byte) : (ctrMode key ctr n [t]).length ≤ 1 := by
  have h : chunks 16 [t] = [[t]] := by simp [chunks]
  simp only [ctrMode, h]
  simp [xorBytes]

/-- So does the plaintext of a DECRYPT of one byte. -/
theorem host_plain_one (b : Block) (page gen fctr len : Nat) (x : Ctx) (aad rest : List Byte) (t : Byte)
    (h : x.ccm = false) (l : len = 1) : (b.hostPlain page x gen fctr aad (t :: rest) len).1.length ≤ 1 := by
  subst l
  simp only [Block.hostPlain, h]
  exact ctr_one _ _ _ _

/-- A serial port in SERVICE with what it holds. -/
def talking (p : Nat) (x : SerialPort) (fs : List (Field × Nat) := []) (f : Block → Block := id) : State :=
  running [] ((Reg.SP_CTRL_ENABLE p, 1) :: fs) fun b => f { b with serial := [(p, x)] }

/-- The same in HOLD with the oscillator asleep. -/
def sleeping (p : Nat) (x : SerialPort) (fs : List (Field × Nat) := []) : State :=
  inState .hold ((Reg.SP_CTRL_ENABLE p, 1) :: fs) fun b => { b with oscillator := false, serial := [(p, x)] }

/-- A character with its start bit low. -/
def aChar : CharIn := { data := 0x141, parity := true, stop := true, startLow := true, gap := false }

/-- A channel that converts in SERVICE. -/
def sensing (k : Nat) (fs : List (Field × Nat) := []) (f : Block → Block := id) : State :=
  running [] ([(Reg.SS_CTRL_ENABLE, 1), (Reg.SS_CH_MUX_ENABLE k, 1), (Reg.SS_STAT_CONV_OK, 3)] ++ fs) f

/-- A conversion of channel 7 in the midst of its range. -/
def aConversion : Conversion := { ch := 7, u := 0x200000, overload := false, dieTemp := 40 }

/-- A G3 acknowledgement in hand. -/
def aG3Tx : G3Tx :=
  { job := .ack, short := 9, parcel := [], send := none, stamp := false, prio := 4, backoffs := 3, tries := 2,
    micros := 700, onAir := false, awaitingAck := false }

/-- A neighbour of a G3 port. -/
def aG3Neigh : G3Neigh :=
  { short := 9, toneMap := [1], modulation := 0, gain := 0, fctr := some 5, mapAt := 100, used := 0 }

/-- A port with a G3 lane (lane 6 of port 0) that has a frame in hand. -/
def g3Up (t : Option G3Tx) (fs : List (Field × Nat) := []) (f : Block → Block := id) : State :=
  lineUp ([(Reg.LP_G3_CSMA_MAX_BACKOFFS 0, 5), (Reg.LP_G3_CSMA_MAX_RETRIES 0, 2), (Reg.LP_G3_TMR_TTL 0, 1)] ++ fs) fun b =>
    f (withSetting 24 0x380 { b with g3 := [(0, { G3Port.reset with tx := t, neigh := [aG3Neigh] })] })

/-- A reception on the G3 lane. -/
def g3Hearing (b : Block) : Block :=
  b.setLane 6 { Lane.reset with
    binding := some { port := 0, sb := 0, g3 := true }
    reception := some { aReception (aFch 0) with g3 := true, frame := none, ended := false } }

/-- A G3 frame of the neighbour. -/
def aG3Frame : G3Frame :=
  { port := 0, ext := 99, short := 9, pan := 0, mode := 0, lqi := 0, keyIndex := 0, fcsOk := true, level := 0, counter := 9,
    micOk := true, toneMapRequest := false, kind := .data, payload := [1, 2] }
/-- A cell of device 2 for the device. -/
def aCell (kind dst : Nat) (bcast : Bool) (body : List Byte) : Cell :=
  { kind := kind, src := 2, dst := dst, bcast := bcast, seq := 9, body := body ++ List.replicate (64 - body.length) 0 }

/-- 72 zero bytes are no cell: the kind 0 is unknown. -/
theorem no_cell : cellOf (List.replicate 72 0) = none := by
  have h : byteAt (List.replicate 72 0) 0 = 0 := by decide
  simp only [cellOf, h, true_or, or_true, if_true]

/-- A device of rank 3 on the Chain with a role, Bearing in LOCKED and both bypasses open. -/
def chained (d : DevState) (role : Role) (fs : List (Field × Nat) := []) (f : Block → Block := id) : State :=
  hosted d ([(Reg.HIF_STRAPS_CHAIN_EN, 1), (Reg.CHN_ID_RANK, 3), (Reg.BRG_FREQ_FREQ, 3276800)] ++ fs) fun b =>
    f { b with chain := { b.chain with role := role, bypassA := false, bypassB := false }
               brg := { b.brg with state := .locked } }

/-- With a partner of rank 2. -/
def partnered (b : Block) : Block := withSetting 0x5000 0x28 b

/-- A standby whose initial copy is complete, joined, its partner present. -/
def ready (d : DevState) (due : Bool) (fs : List (Field × Nat) := []) : State :=
  chained d .standby ([(Reg.TRV_REPL_STAT_LINKED, 1), (Reg.TRV_PART_ROLE, 1), (Reg.CHN_ROSTER_PRESENT, 12)] ++ fs) fun b =>
    partnered { b with ticks := 9000, brg := { b.brg with now := 4194304 }
                       chain := { b.chain with followStart := some 0, copyDone := true, joined := true, takeoverDue := due } }

/-- An operation on the Chain at bearing 900. -/
def anOperation (handover : Bool) (v : Verdict) : ChainOp :=
  { handover := handover, bearing := 900, verdict := v, tokenOut := false, ready := 0 }

/-- With it armed. -/
def withOp (o : ChainOp) (b : Block) : Block := { b with chain := { b.chain with op := some o } }

/-- What holds of every value an absent one has. -/
theorem no_some {α : Type} {o : Option α} {p : α → Prop} (h : o.isNone = true) : ∀ c, o = some c → p c :=
  fun c e => by rw [e] at h; cases h

/-! ### WellFormed: an ill-formed term for each check -/

/-- A self-test that reports every part good. -/
def aSelfTest : SelfTest :=
  { pufOk := true, sramOk := true, engines := 15, fixedUnits := 15, channelsA := List.replicate 16 0,
    channelsB := List.replicate 16 0, slices := List.replicate 24 0, rxFail := [], txFail := [],
    converters := [none, none], offsets := List.replicate 8 [], journalBad := [], vdda5Ok := true, tamperLatched := 0 }

/-- What is measured on a port. -/
def portsMeasured (n : Nat) (p : PortMeasure) : TxMeasure := { ports := List.replicate n p, depth := 0, filters := [] }

/-- An aligned 4-byte access is no misaligned access (R4). -/
theorem test_wf_aligned_access : (Instr.misalignedAccess 0 0x100 4).wf = false := by decide

/-- An access of 4 bytes at an odd address is one, and so is one of 2 bytes (R4). -/
theorem test_wf_misaligned_access :
    (Instr.misalignedAccess 0 0x101 4).wf = true ∧ (Instr.misalignedAccess 0 0x100 2).wf = true := by decide

/-- A self-test that reports on every part is well formed. -/
theorem test_wf_self_test : (Instr.selfTestComplete aSelfTest).wf = true := by decide

/-- One channel short on vector A. -/
theorem test_wf_channels_a :
    (Instr.selfTestComplete { aSelfTest with channelsA := List.replicate 15 0 }).wf = false := by decide

/-- One channel too many on vector B. -/
theorem test_wf_channels_b :
    (Instr.selfTestComplete { aSelfTest with channelsB := List.replicate 17 0 }).wf = false := by decide

/-- One port short. -/
theorem test_wf_slices : (Instr.selfTestComplete { aSelfTest with slices := List.replicate 23 0 }).wf = false := by decide

/-- One converter short. -/
theorem test_wf_converters : (Instr.selfTestComplete { aSelfTest with converters := [none] }).wf = false := by decide

/-- One channel of Site Sense too many. -/
theorem test_wf_offsets :
    (Instr.selfTestComplete { aSelfTest with offsets := List.replicate 9 [] }).wf = false := by decide

/-- Measures of four ports (R17 gives a triad three). -/
theorem test_wf_tx_measure (p : PortMeasure) : (Instr.transmissionEnd 1 (portsMeasured 4 p)).wf = false := rfl

/-- A cell of 71 bytes (R457 gives it 72). -/
theorem test_wf_cells :
    [Instr.syncReceived .a (List.replicate 71 0) 0, .wrapReceived .a (List.replicate 71 0),
      .driveReceived .a (List.replicate 71 0), .tokenReceived .a (List.replicate 71 0),
      .verdictReceived .a (List.replicate 71 0), .resetCellReceived .a (List.replicate 71 0),
      .replReceived .a (List.replicate 71 0), .rxdoneReceived .a (List.replicate 71 0),
      .pairReceived .a (List.replicate 71 0)].all (fun i => !i.wf) = true := by decide

/-- A command whose operands fail is refused by name. -/
theorem test_ill_formed_cell (s : State) :
    exec (.pairReceived .b []) s = .refused (.illFormed "PAIR_RECEIVED") := rfl

/-! ### Results the spec states -/

/-- CRC-32C of the ASCII digits 1 to 9, the usual check value of the polynomial R457 names. -/
theorem test_crc32c : crc32c [0x31, 0x32, 0x33, 0x34, 0x35, 0x36, 0x37, 0x38, 0x39] = 0xE3069283 := by decide +kernel

/-- The table gives no row any bits. -/
theorem test_no_word_decodes : decodeTableWord 32 0xFFFFFFFF = none := rfl

/-- The queue is first in, first out: the front command runs, the rest stays. -/
theorem test_queue_order :
    (match step { inState .service with pending := [.snapDisarm, .nop 1] } with
     | .next t => t.pending == [.nop 1]
     | _ => false) = true := by decide +kernel

/-! ### Witnesses of the statements -/

/-- States that meet the hypotheses of `Obligations.IdleStepIsATick`. -/
theorem witness_idle_step_is_a_tick :
    ∃ s : State, (s.pending = []) :=
  ⟨State.reset, by decide +kernel⟩

/-- A state and a step that meet the hypotheses of `Obligations.StepKeepsHarmless`. -/
theorem witness_step_keeps_harmless : ∃ s t : State, s.blk.harmless ∧ step s = .next t :=
  ⟨State.reset, _, ⟨fun _ => ⟨rfl, rfl, fun _ => rfl⟩, fun _ => ⟨rfl, rfl⟩,
    fun _ => ⟨rfl, fun _ => ⟨rfl, rfl⟩, by decide⟩⟩, rfl⟩

/-- States that meet the hypotheses of `Obligations.DoubtEntersQuiet`. -/
theorem witness_doubt_enters_quiet :
    (∃ s : State, (s.blk.dev = .settle ∨ s.blk.dev = .service ∨ s.blk.dev = .hold)) ∧
    (∃ s : State, (s.blk.dev = .settle ∨ s.blk.dev = .service ∨ s.blk.dev = .hold) ∧ (s.blk.accepts = true)) ∧
    (∃ s : State, (s.blk.dev = .reset ∨ s.blk.dev = .load ∨ s.blk.dev = .quiet)) := by
  refine ⟨⟨inState .service, ?_⟩,
    ⟨hosted .hold, ?_⟩,
    ⟨inState .quiet, ?_⟩⟩ <;> decide +kernel

/-- States that meet the hypotheses of `Obligations.MisalignedAccessChangesNothing`. -/
theorem witness_misaligned_access_changes_nothing :
    (∃ off : BitVec 24, ∃ bytes : Nat, (accessMisaligned off.toNat bytes = true)) ∧
    (∃ off : BitVec 24, ∃ bytes : Nat, (accessMisaligned off.toNat bytes = false)) := by
  refine ⟨⟨0x10, 2, ?_⟩,
    ⟨0x10, 4, ?_⟩⟩ <;> decide +kernel

/-- States that meet the hypotheses of `Obligations.RegisterWriteFollowsAccessCodes`. -/
theorem witness_register_write_follows_access_codes :
    ∃ s : State, (s.blk.accepts = true) :=
  ⟨hosted .service [(Reg.HIF_FLR_SEEN_FN, 7)], by decide +kernel⟩

/-- States that meet the hypotheses of `Obligations.SealedWriteIsDiscarded`. -/
theorem witness_sealed_write_is_discarded :
    (∃ s : State, ∃ v : Word, (s.blk.accepts = true) ∧ (s.blk.touchesRwl Reg.GLB_WDOG v = true) ∧ (s.blk.on
      Reg.CFG_STATUS_SEALED = true)) ∧
    (∃ s : State, ∃ v : Word, (s.blk.accepts = true) ∧ (s.blk.touchesRwl Reg.GLB_WDOG v = true) ∧ (s.blk.on
      Reg.CFG_STATUS_SEALED = false)) := by
  refine ⟨⟨hosted .service [(Reg.CFG_STATUS_SEALED, 1)], 0x30010, ?_⟩,
    ⟨hosted .service, 0x30010, ?_⟩⟩ <;> decide +kernel

/-- States that meet the hypotheses of `Obligations.ConsoleAnswersEachLine`. -/
theorem witness_console_answers_each_line :
    (∃ s : State, (s.blk.consoleTakes = true)) ∧
    (∃ s : State, ∃ seq : Word, (s.blk.consoleTakes = true) ∧ ∃ p, (s.blk.book.find? (fun p => p.1 == seq.toNat %
      4096 && p.2.seq == seq) = some p)) ∧
    (∃ s : State, ∃ seq : Word, (s.blk.consoleTakes = true) ∧ (s.blk.book.find? (fun p => p.1 == seq.toNat % 4096
      && p.2.seq == seq) = none)) ∧
    (∃ s : State, ∃ line : List Byte, (s.blk.consoleTakes = true) ∧ (parseLine line = .other)) ∧
    (∃ s : State, ∃ line : List Byte, ∃ off : Nat, (s.blk.consoleTakes = true) ∧ (parseLine line = .read off) ∧
      (s.blk.consoleReads off = false)) ∧
    (∃ s : State, ∃ line : List Byte, (s.blk.consoleTakes = true) ∧ (parseLine line = .read Reg.FLT_PEND)) ∧
    (∃ s : State, ∃ line : List Byte, ∃ v : Word, ∃ off : Nat, (s.blk.consoleTakes = true) ∧ (parseLine line =
      .write off v) ∧ ((off % 4 ≠ 0 ∨ s.blk.openRange off = false))) ∧
    (∃ s : State, ∃ line : List Byte, ∃ v : Word, (s.blk.consoleTakes = true) ∧ (parseLine line = .write
      Reg.FLT_ALERT_MASK v) ∧ (s.blk.openRange Reg.FLT_ALERT_MASK = true) ∧ (s.blk.dev ≠ .quiet)) ∧
    (∃ s : State, (s.blk.consoleTakes = false)) := by
  refine ⟨⟨inState .service [(Reg.SP_CTRL_ENABLE 0, 1), (Reg.SP_CTRL_OWNER 0, 1)], ?_⟩,
    ⟨inState .service [(Reg.SP_CTRL_ENABLE 0, 1), (Reg.SP_CTRL_OWNER 0, 1)] fun b =>
      { b with book := [(0, { FbRecord.zero with code := 5 })] }, 0, ?_, (0, { FbRecord.zero with code := 5 }),
      ?_⟩,
    ⟨inState .service [(Reg.SP_CTRL_ENABLE 0, 1), (Reg.SP_CTRL_OWNER 0, 1)], 0, ?_⟩,
    ⟨inState .service [(Reg.SP_CTRL_ENABLE 0, 1), (Reg.SP_CTRL_OWNER 0, 1)], [0x58], ?_⟩,
    ⟨inState .service [(Reg.SP_CTRL_ENABLE 0, 1), (Reg.SP_CTRL_OWNER 0, 1)], [0x52, 0x20, 0x30, 0x30, 0x31, 0x46,
      0x30, 0x30, 0x30, 0x30], 0x1F0000, ?_⟩,
    ⟨inState .service [(Reg.SP_CTRL_ENABLE 0, 1), (Reg.SP_CTRL_OWNER 0, 1)], [0x52, 0x20, 0x30, 0x30, 0x30, 0x32,
      0x30, 0x30, 0x30, 0x30], ?_⟩,
    ⟨inState .service [(Reg.SP_CTRL_ENABLE 0, 1), (Reg.SP_CTRL_OWNER 0, 1)], [0x57, 0x20, 0x30, 0x30, 0x30, 0x32,
      0x30, 0x30, 0x30, 0x34, 0x20, 0x30, 0x30, 0x30, 0x30, 0x30, 0x30, 0x33, 0x46], 0x3F, 0x20004, ?_⟩,
    ⟨inState .service ((Reg.HIF_CON_OPEN_BASE_EN 0, 1) :: (Reg.HIF_CON_OPEN_LIMIT_LIMIT 0, 0xFFFF) ::
      [(Reg.SP_CTRL_ENABLE 0, 1), (Reg.SP_CTRL_OWNER 0, 1)]), [0x57, 0x20, 0x30, 0x30, 0x30, 0x32, 0x30, 0x30,
      0x30, 0x34, 0x20, 0x30, 0x30, 0x30, 0x30, 0x30, 0x30, 0x33, 0x46], 0x3F, ?_⟩,
    ⟨inState .service, ?_⟩⟩ <;> decide +kernel

/-- States that meet the hypotheses of `Obligations.WatchdogsExpire`. -/
theorem witness_watchdogs_expire :
    (∃ s : State, (s.blk.accepts = true)) ∧
    (∃ s : State, (s.blk.hostLate = true) ∧ (s.blk.on Reg.GLB_WDOG_HOST_ACTION = false)) ∧
    (∃ s : State, (s.blk.hostLate = true) ∧ (s.blk.on Reg.GLB_WDOG_HOST_ACTION = true)) ∧
    (∃ s : State, (s.blk.hostLate = false)) ∧
    (∃ s : State, ∃ m : Fin 32, (s.blk.dev = .settle ∨ s.blk.dev = .service) ∧ (m.val ∈ [16, 17, 19, 20, 21, 22,
      23])) := by
  refine ⟨⟨hosted .settle, ?_⟩,
    ⟨inState .settle [(Reg.GLB_WDOG_HOST_EN, 1)] (atTick 250000000), ?_⟩,
    ⟨inState .service [(Reg.GLB_WDOG_HOST_EN, 1), (Reg.GLB_WDOG_HOST_ACTION, 1)] (atTick 250000000), ?_⟩,
    ⟨inState .settle [(Reg.GLB_WDOG_HOST_EN, 1)] (atTick 249999999), ?_⟩,
    ⟨inState .service, 19, ?_⟩⟩ <;> decide +kernel

/-- States that meet the hypotheses of `Obligations.EscalationStopsAtThree`. -/
theorem witness_escalation_stops_at_three :
    (∃ s : State, (s.blk.dev = .quiet) ∧ (s.blk.on Reg.GLB_CTRL_ESC_EN = true) ∧ (s.blk.on
      Reg.GLB_CTRL_QUIET_RESET = true) ∧ (s.blk.fault.since + s.blk.get Reg.GLB_CTRL_QUIET_RESET * minuteTicks
      ≤ s.blk.ticks) ∧ (s.blk.get Reg.GLB_RESET_CAUSE_ESC_COUNT < 3)) ∧
    (∃ s : State, (s.blk.dev = .quiet) ∧ (s.blk.on Reg.GLB_CTRL_ESC_EN = true) ∧ (s.blk.on
      Reg.GLB_CTRL_QUIET_RESET = true) ∧ (s.blk.fault.since + s.blk.get Reg.GLB_CTRL_QUIET_RESET * minuteTicks
      ≤ s.blk.ticks) ∧ (s.blk.get Reg.GLB_RESET_CAUSE_ESC_COUNT = 3)) ∧
    (∃ s : State, (s.blk.dev = .quiet) ∧ (s.blk.on Reg.GLB_CTRL_ESC_EN = false ∨ s.blk.on Reg.GLB_CTRL_QUIET_RESET
      = false)) ∧
    (∃ s : State, (s.blk.dev = .service) ∧ (s.blk.fault.since + 60 * minuteTicks ≤ s.blk.ticks)) := by
  refine ⟨⟨inState .quiet [(Reg.GLB_CTRL_ESC_EN, 1), (Reg.GLB_CTRL_QUIET_RESET, 1), (Reg.GLB_RESET_CAUSE_ESC_COUNT, 2)]
      (atTick minuteTicks), ?_⟩,
    ⟨inState .quiet [(Reg.GLB_CTRL_ESC_EN, 1), (Reg.GLB_CTRL_QUIET_RESET, 1), (Reg.GLB_RESET_CAUSE_ESC_COUNT, 3)]
      (atTick minuteTicks), ?_⟩,
    ⟨inState .quiet [(Reg.GLB_CTRL_ESC_EN, 0), (Reg.GLB_CTRL_QUIET_RESET, 1)] (atTick minuteTicks), ?_⟩,
    ⟨inState .service [(Reg.GLB_RESET_CAUSE_ESC_COUNT, 3)] (atTick (60 * minuteTicks)), ?_⟩⟩ <;> decide +kernel

/-- States that meet the hypotheses of `Obligations.JournalTakesEntries`. -/
theorem witness_journal_takes_entries :
    (∃ s : State, (s.blk.dayPassed = true) ∧ ((s.blk.fault.recent.filter fun t => s.blk.ticks < t +
      minuteTicks).length < 64)) ∧
    (∃ s : State, (s.blk.dayPassed = false)) ∧
    (∃ s : State, (s.blk.dev ≠ .reset) ∧ (0 < s.blk.fault.dropPending) ∧ ((s.blk.fault.recent.filter fun t =>
      s.blk.ticks < t + minuteTicks).length < 64)) ∧
    (∃ s : State, (s.blk.accepts = true) ∧ (s.blk.on Reg.FLT_JNL_SEL_BUSY = false)) ∧
    (∃ s : State, (s.blk.on Reg.FLT_JNL_SEL_BUSY = true)) := by
  refine ⟨⟨inState .service [] fun b => { b with fault := { b.fault with minutes := 2880, lives := 1 } }, ?_⟩,
    ⟨inState .service [] fun b => { b with fault := { b.fault with minutes := 2879, lives := 1 } }, ?_⟩,
    ⟨inState .service [] fun b => { b with fault := { b.fault with dropPending := 3 } }, ?_⟩,
    ⟨hosted .service, ?_⟩,
    ⟨inState .service [(Reg.FLT_JNL_SEL_BUSY, 1)], ?_⟩⟩ <;> decide +kernel

/-- States that meet the hypotheses of `Obligations.AgeAdvances`. -/
theorem witness_age_advances :
    (∃ s : State, (s.blk.minutePassed = true)) ∧
    (∃ s : State, (s.blk.minutePassed = false)) := by
  refine ⟨⟨inState .service [] fun b => atTick minuteTicks { b with fault := { b.fault with minutes := 59 } }, ?_⟩,
    ⟨inState .service [] fun b => atTick (minuteTicks - 1) b, ?_⟩⟩ <;> decide +kernel

/-- States that meet the hypotheses of `Obligations.EventRaisesVectorOrPends`. -/
theorem witness_event_raises_vector_or_pends :
    (∃ b : Block, ∃ fn : Nat, ∃ v : Nat, (v < vectorsOf fn) ∧ ((b.config fn).msixEnable = false)) ∧
    (∃ b : Block, ∃ fn : Nat, ∃ v : Nat, (v < vectorsOf fn) ∧ ((b.config fn).msixEnable = true) ∧ (b.vectorOpen fn
      v = false)) ∧
    (∃ b : Block, ∃ fn : Nat, ∃ v : Nat, (v < vectorsOf fn) ∧ ((b.config fn).msixEnable = true) ∧ (b.vectorOpen fn
      v = false) ∧ ∃ fn', ∃ v', (v < 256) ∧ (v' < 256) ∧ ((fn', v') ≠ (fn, v))) ∧
    (∃ b : Block, ∃ fn : Nat, ∃ v : Nat, (v < vectorsOf fn) ∧ (b.vectorOpen fn v = true)) := by
  refine ⟨⟨Block.reset, 0, 255, ?_⟩,
    ⟨(inState .service [] fun b => b.setConfig 0 { mse := true, msixEnable := true, fnMask := false }).blk, 0, 255,
      ?_⟩,
    ⟨(inState .service [] fun b => b.setConfig 0 { mse := true, msixEnable := true, fnMask := false }).blk, 0, 255,
      ?_, ?_, ?_, 0, 254, ?_⟩,
    ⟨(inState .service [(Reg.HIF_FN_STAT_BME, 1)] fun b => (fun b => b.setConfig 0
      { mse := true, msixEnable := true, fnMask := false })
      { b with host := { b.host with msix := [(255, { addr := 0x1000, data := 9, masked := false })] } }).blk,
      0, 255, ?_⟩⟩ <;> decide +kernel

/-- States that meet the hypotheses of `Obligations.UnmaskSendsWhatIsPending`. -/
theorem witness_unmask_sends_what_is_pending :
    (∃ s : State, ∃ fn : Fin 16, ∃ v : Fin 256, (s.blk.reaches fn.val = true) ∧ (v.val < vectorsOf fn.val) ∧
      (s.blk.vectorPending fn v = true) ∧ ((s.blk.config fn).msixEnable = true) ∧ ((s.blk.config fn).fnMask =
      false) ∧ (s.blk.bme fn = true)) ∧
    (∃ s : State, ∃ fn : Fin 16, ∃ v : Fin 256, (s.blk.reaches fn.val = true) ∧ (v.val < vectorsOf fn.val) ∧
      (s.blk.vectorPending fn v = false)) := by
  refine ⟨⟨inState .service [(Reg.HIF_FN_STAT_BME, 1)] fun b => (fun b => b.setConfig 0
      { mse := true, msixEnable := true, fnMask := false })
      { b with host := { b.host with pba := [(255, true)] } }, 0, 255, ?_⟩,
    ⟨hosted .service, 0, 0, ?_⟩⟩ <;> decide +kernel

/-- States that meet the hypotheses of `Obligations.FlrPausesAndKeepsQueues`. -/
theorem witness_flr_pauses_and_keeps_queues :
    ∃ s : State, ∃ fn : Fin 16, (s.blk.dev ≠ .reset) ∧ (s.blk.present fn = true) :=
  ⟨hosted .service [(Reg.HIF_FN_STAT_PRESENT, 7), (Reg.QD_WR 3 |> fun o => ⟨o, 0, 32⟩, 5)], 0, by decide +kernel⟩

/-- States that meet the hypotheses of `Obligations.ConfigurationSpaceAnswers`. -/
theorem witness_configuration_space_answers :
    (∃ s : State, (s.blk.dev = .reset)) ∧
    (∃ s : State, ∃ fn : Fin 16, (s.blk.dev ≠ .reset) ∧ (s.blk.present fn = false)) ∧
    (∃ s : State, ∃ fn : Fin 16, (s.blk.dev ≠ .reset) ∧ (s.blk.present fn = true)) ∧
    (∃ s : State, ∃ fn : Fin 16, (s.blk.dev ≠ .reset) ∧ (s.blk.present fn = true) ∧ (fn.val = 0)) ∧
    (∃ s : State, ∃ fn : Fin 16, (s.blk.dev ≠ .reset) ∧ (s.blk.present fn = true) ∧ (fn.val = 0)) := by
  refine ⟨⟨inState .reset, ?_⟩,
    ⟨inState .service, 1, ?_⟩,
    ⟨inState .load, 0, ?_⟩,
    ⟨inState .load, 0, ?_⟩,
    ⟨inState .load, 0, ?_⟩⟩ <;> decide +kernel

/-- States that meet the hypotheses of `Obligations.StartUpGoesByItsConditions`. -/
theorem witness_start_up_goes_by_its_conditions :
    (∃ s : State, (s.blk.dev = .reset)) ∧
    (∃ s : State, (s.blk.dev ≠ .reset)) ∧
    (∃ s : State, ∃ t : SelfTest, (t.wf = true) ∧ (s.blk.dev = .settle)) ∧
    (∃ t : SelfTest, (t.wf = false)) ∧
    (∃ s : State, (s.blk.serviceReady = true) ∧ (s.blk.on Reg.GLB_CTRL_HOLD_EN = false)) ∧
    (∃ s : State, (s.blk.serviceReady = false)) := by
  refine ⟨⟨State.reset, ?_⟩,
    ⟨inState .service, ?_⟩,
    ⟨inState .settle,
      { pufOk := true, sramOk := true, engines := 15, fixedUnits := 15, channelsA := List.replicate 16 0, channelsB := List.replicate 16 0, slices := List.replicate 24 0xFFF, rxFail := [], txFail := [], converters := [none, none], offsets := List.replicate 8 [], journalBad := [], vdda5Ok := true, tamperLatched := 0 },
      ?_⟩,
    ⟨{ pufOk := true, sramOk := true, engines := 15, fixedUnits := 15, channelsA := List.replicate 16 0, channelsB := List.replicate 16 0, slices := [], rxFail := [], txFail := [], converters := [none, none], offsets := List.replicate 8 [], journalBad := [], vdda5Ok := true, tamperLatched := 0 },
      ?_⟩,
    ⟨inState .settle [(Reg.GLB_CTRL_HOLD_EN, 0)] fun b => atBearing .locked 9
      { b with fault := { b.fault with selfOk := true } }, ?_⟩,
    ⟨inState .settle, ?_⟩⟩ <;> decide +kernel

/-- States that meet the hypotheses of `Obligations.CrossingIsJudged`. -/
theorem witness_crossing_is_judged :
    (∃ s : State, ∃ c : Crossing, (s.blk.senses = true) ∧ (c.rmsMv < 350)) ∧
    (∃ s : State, ∃ c : Crossing, (s.blk.senses = true) ∧ (350 ≤ c.rmsMv) ∧ ((s.blk.sensed c.input).lastQual =
      none) ∧ ((s.blk.sensed c.input).candidate = none)) ∧
    (∃ s : State, ∃ c : Crossing, ∃ q, (s.blk.senses = true) ∧ (350 ≤ c.rmsMv) ∧ ((s.blk.sensed c.input).lastQual
      = some q) ∧ (s.blk.ticks - q.1 < 3787878)) ∧
    (∃ s : State, (s.blk.senses = false)) := by
  refine ⟨⟨inState .load [] fun b => { b with dev := .settle }, { input := 23, rmsMv := 349, couplerLow := false }, ?_⟩,
    ⟨inState .service, { input := 23, rmsMv := 350, couplerLow := false }, ?_⟩,
    ⟨inState .service [] fun b => crossed 23 0 (atTick 3787877 b),
      { input := 23, rmsMv := 350, couplerLow := false }, (0, 0), ?_⟩,
    ⟨inState .load, ?_⟩⟩ <;> decide +kernel

/-- States that meet the hypotheses of `Obligations.TimebaseChangesState`. -/
theorem witness_timebase_changes_state :
    (∃ s : State, (s.blk.brg.state = .slew) ∧ (s.blk.mainsError.natAbs < 64)) ∧
    (∃ s : State, (s.blk.brg.state ≠ .slew ∨ 64 ≤ s.blk.mainsError.natAbs)) ∧
    (∃ s : State, ((s.blk.brg.state = .locked ∨ s.blk.brg.state = .slew)) ∧ (s.blk.silent s.blk.steerInput = true)
      ∧ (s.blk.get Reg.BRG_STATUS_SRC = 0) ∧ (s.blk.get Reg.BRG_REF_ALT < 24) ∧ (s.blk.silent (s.blk.get
      Reg.BRG_REF_ALT) = false)) ∧
    (∃ s : State, ((s.blk.brg.state = .locked ∨ s.blk.brg.state = .slew)) ∧ (s.blk.silent s.blk.steerInput = true)
      ∧ (s.blk.get Reg.BRG_STATUS_SRC ≠ 0 ∨ 24 ≤ s.blk.get Reg.BRG_REF_ALT ∨ s.blk.silent (s.blk.get
      Reg.BRG_REF_ALT) = true)) ∧
    (∃ s : State, (s.blk.silent s.blk.steerInput = false)) ∧
    (∃ s : State, (s.blk.brg.state = .relock) ∧ (s.blk.on Reg.BRG_STATUS_RESEAT_PENDING = false) ∧ ((∀ q,
      (s.blk.sensed s.blk.brg.relockInput).lastQual = some q → 5555556 < s.blk.ticks - q.1))) ∧
    (∃ s : State, (s.blk.brg.state = .relock) ∧ (s.blk.on Reg.BRG_STATUS_RESEAT_PENDING = false) ∧ ∃ q,
      ((s.blk.sensed s.blk.brg.relockInput).lastQual = some q) ∧ (s.blk.ticks - q.1 ≤ 5555556)) ∧
    (∃ s : State, (s.blk.dev = .settle) ∧ (s.blk.fault.since + s.blk.get Reg.BRG_CTRL_LOCK_WAIT * 25000000 ≤
      s.blk.ticks) ∧ (s.blk.brg.lockOk = false) ∧ (s.blk.brg.state ≠ .locked) ∧ (s.blk.brg.state ≠ .follow) ∧
      (s.blk.on Reg.BRG_CTRL_START_FREE = false)) ∧
    (∃ s : State, (s.blk.dev = .settle) ∧ (s.blk.fault.since + s.blk.get Reg.BRG_CTRL_LOCK_WAIT * 25000000 ≤
      s.blk.ticks) ∧ (s.blk.brg.lockOk = false) ∧ (s.blk.brg.state ≠ .locked) ∧ (s.blk.brg.state ≠ .follow) ∧
      (s.blk.on Reg.BRG_CTRL_START_FREE = true) ∧ (s.blk.running = true)) ∧
    (∃ s : State, (s.blk.dev = .settle) ∧ (s.blk.fault.since + s.blk.get Reg.BRG_CTRL_LOCK_WAIT * 25000000 ≤
      s.blk.ticks) ∧ (s.blk.brg.lockOk = false) ∧ (s.blk.brg.state ≠ .locked) ∧ (s.blk.brg.state ≠ .follow) ∧
      (s.blk.on Reg.BRG_CTRL_START_FREE = true) ∧ (s.blk.running = false) ∧ (s.blk.chainEnabled = false)) := by
  refine ⟨⟨inState .service [] fun b => crossed 0 0 (atBearing .slew 63 b), ?_⟩,
    ⟨inState .service [] fun b => crossed 0 0 (atBearing .slew 64 b), ?_⟩,
    ⟨inState .service [(Reg.BRG_REF_ALT, 4)] fun b => crossed 4 0 (atBearing .locked 63 b), ?_⟩,
    ⟨inState .service [(Reg.BRG_REF_ALT, 31)] (atBearing .locked 63), ?_⟩,
    ⟨inState .service [] fun b => crossed 0 0 (atBearing .locked 63 b), ?_⟩,
    ⟨inState .service [] (atBearing .relock 63), ?_⟩,
    ⟨inState .service [] fun b => crossed 0 0 (atTick 5555556 (atBearing .relock 63 b)), ?_, ?_, (0, 0), ?_⟩,
    ⟨inState .settle [] (atTick 25000000000), ?_⟩,
    ⟨inState .settle [(Reg.BRG_CTRL_START_FREE, 1)] fun b => atBearing .holdover 8 (atTick 25000000000 b), ?_⟩,
    ⟨inState .settle [(Reg.BRG_CTRL_START_FREE, 1)] (atTick 25000000000), ?_⟩⟩ <;> decide +kernel

/-- States that meet the hypotheses of `Obligations.ReseatStepsForwardOnly`. -/
theorem witness_reseat_steps_forward_only :
    (∃ s : State, (s.blk.on Reg.BRG_STATUS_RESEAT_PENDING = false)) ∧
    (∃ s : State, (s.blk.on Reg.BRG_STATUS_RESEAT_PENDING = true) ∧ (s.blk.brg.state ≠ .follow) ∧
      (s.blk.transmitting = true)) ∧
    (∃ s : State, (s.blk.on Reg.BRG_STATUS_RESEAT_PENDING = true) ∧ (s.blk.brg.state ≠ .follow) ∧
      (s.blk.transmitting = false) ∧ (s.blk.mainsError.natAbs ≤ 8192)) ∧
    (∃ s : State, (s.blk.on Reg.BRG_STATUS_RESEAT_PENDING = true) ∧ (s.blk.brg.state ≠ .follow) ∧
      (s.blk.transmitting = false) ∧ (8192 < s.blk.mainsError.natAbs)) := by
  refine ⟨⟨inState .service, ?_⟩,
    ⟨inState .service [(Reg.BRG_STATUS_RESEAT_PENDING, 1)] fun b => atBearing .relock 9
      { b with mac := { b.mac with txs := [aTx] } }, ?_⟩,
    ⟨inState .service [(Reg.BRG_STATUS_RESEAT_PENDING, 1)] fun b => crossed 0 0 (atBearing .relock 8192 b), ?_⟩,
    ⟨inState .service [(Reg.BRG_STATUS_RESEAT_PENDING, 1)] fun b => crossed 0 0 (atBearing .relock 8193 b), ?_⟩⟩ <;> decide +kernel

/-- States that meet the hypotheses of `Obligations.OutageAndNoiseMap`. -/
theorem witness_outage_and_noise_map :
    (∃ s : State, ∃ t : Fin 8, (s.blk.running = true) ∧ (s.blk.senses = true) ∧ (s.blk.enabledInputs t ≠ []) ∧
      (s.blk.bit Reg.BRG_TRIAD_STAT_OUTAGE t = false) ∧ ((s.blk.enabledInputs t).all s.blk.silent = true)) ∧
    (∃ s : State, ∃ t : Fin 8, (s.blk.enabledInputs t = [])) ∧
    (∃ s : State, ∃ t : Fin 8, (s.blk.on Reg.BRG_NM_CTRL_ENABLE = true) ∧ (s.blk.running = true) ∧ (s.blk.dev =
      .service) ∧ (Store.get (fun _ => none) s.blk.brg.noiseAt t ≠ some (s.blk.refCycle t))) ∧
    (∃ s : State, ∃ t : Fin 8, (s.blk.on Reg.BRG_NM_CTRL_ENABLE = true) ∧ (s.blk.running = true) ∧ (s.blk.dev =
      .service) ∧ (Store.get (fun _ => none) s.blk.brg.noiseAt t = some (s.blk.refCycle t))) ∧
    (∃ s : State, (s.blk.on Reg.BRG_NM_CTRL_ENABLE = false)) := by
  refine ⟨⟨inState .service [] fun b => withSetting 0x105C 3 (atBearing .locked 9 b), 7, ?_⟩,
    ⟨inState .service, 0, ?_⟩,
    ⟨inState .service [(Reg.BRG_NM_CTRL_ENABLE, 1)] (atBearing .locked 9), 0, ?_⟩,
    ⟨inState .service [(Reg.BRG_NM_CTRL_ENABLE, 1)] fun b => atBearing .locked 9
      { b with brg := { b.brg with noiseAt := [(0, some 0)] } }, 0, ?_⟩,
    ⟨inState .service [(Reg.BRG_NM_CTRL_ENABLE, 0)], ?_⟩⟩ <;> decide +kernel

/-- States that meet the hypotheses of `Obligations.AlarmsFireOnce`. -/
theorem witness_alarms_fire_once :
    (∃ s : State, ∃ v : Word, (s.blk.accepts = true) ∧ (v.getLsbD 31 = false)) ∧
    (∃ s : State, ∃ k : Fin 4, ∃ v : Word, (s.blk.accepts = true) ∧ (v.getLsbD 31 = true) ∧ (ahead (BitVec.ofNat
      48 (s.blk.get (Reg.BRG_AL_LO_TARGET k) + v.toNat % 65536 * 2 ^ 32)) s.blk.brg.now = true)) ∧
    (∃ s : State, ∃ k : Fin 4, ∃ v : Word, (s.blk.accepts = true) ∧ (v.getLsbD 31 = true) ∧ (ahead (BitVec.ofNat
      48 (s.blk.get (Reg.BRG_AL_LO_TARGET k) + v.toNat % 65536 * 2 ^ 32)) s.blk.brg.now = false)) ∧
    (∃ s : State, ∃ k : Fin 4, (s.blk.on (Reg.BRG_AL_HI_ARM k) = true) ∧ (s.blk.running = true) ∧ (s.blk.pulses =
      true) ∧ (ahead s.blk.brg.now (s.blk.alarmTarget k) = true)) ∧
    (∃ s : State, ∃ k : Fin 4, (s.blk.on (Reg.BRG_AL_HI_ARM k) = false)) ∧
    (∃ s : State, ∃ m : Fin 32, (s.blk.accepts = true) ∧ (m.val = 0)) := by
  refine ⟨⟨hosted .service, 0x7FFFFFFF, ?_⟩,
    ⟨hosted .service, 3, 0x80000000, ?_⟩,
    ⟨hosted .service [] (atBearing .locked 1), 3, 0x80010000, ?_⟩,
    ⟨inState .service [(Reg.BRG_AL_HI_ARM 3, 1)] (atBearing .locked 1), 3, ?_⟩,
    ⟨inState .service, 3, ?_⟩,
    ⟨hosted .service [] (atBearing .locked 0x123456789ABC), 0, ?_⟩⟩ <;> decide +kernel

/-- States that meet the hypotheses of `Obligations.RetiredLaneIsReplaced`. -/
theorem witness_retired_lane_is_replaced :
    (∃ s : State, (s.blk.dev ≠ .service)) ∧
    (∃ s : State, ∃ c : LaneCheck, (s.blk.pool.moves.find? (fun p => p.1 == c.bound.val) = none)) ∧
    (∃ s : State, ∃ c : LaneCheck, ∃ x : Binding, (s.blk.dev = .service) ∧ (x.port < 24) ∧ ((s.blk.lane
      c.bound).binding = some x) ∧ ((s.blk.lane c.bound).retired = false) ∧ ((s.blk.lane c.spare).binding =
      none) ∧ ((s.blk.lane c.spare).retired = false) ∧ (c.equal = true ∨ c.boundOk = true ∧ c.spareOk = true)
      ∧ (c.txFail = none)) ∧
    (∃ s : State, ∃ c : LaneCheck, ∃ x : Binding, (s.blk.dev = .service) ∧ (x.port < 24) ∧ ((s.blk.lane
      c.bound).binding = some x) ∧ ((s.blk.lane c.bound).retired = false) ∧ ((s.blk.lane c.spare).binding =
      none) ∧ ((s.blk.lane c.spare).retired = false) ∧ (c.equal = true ∨ c.boundOk = true ∧ c.spareOk = true)
      ∧ ∃ l, (c.txFail = some l) ∧ (l.val ∉ s.blk.pool.txRetired)) ∧
    (∃ s : State, ∃ c : LaneCheck, ∃ x : Binding, (s.blk.dev = .service) ∧ (x.port < 24) ∧ ((s.blk.lane
      c.bound).binding = some x) ∧ ((s.blk.lane c.bound).retired = false) ∧ ((s.blk.lane c.spare).binding =
      none) ∧ ((s.blk.lane c.spare).retired = false) ∧ (c.equal = false) ∧ (c.boundOk = false) ∧ (c.spareOk =
      true) ∧ (c.txFail = none)) ∧
    (∃ s : State, ∃ c : LaneCheck, ∃ x : Binding, (s.blk.dev = .service) ∧ (x.port < 24) ∧ ((s.blk.lane
      c.bound).binding = some x) ∧ ((s.blk.lane c.bound).retired = false) ∧ ((s.blk.lane c.spare).binding =
      none) ∧ ((s.blk.lane c.spare).retired = false) ∧ (c.equal = false) ∧ (c.boundOk = true) ∧ (c.spareOk =
      false) ∧ (c.txFail = none)) ∧
    (∃ s : State, ∃ c : LaneCheck, ∃ x : Binding, (s.blk.dev = .service) ∧ (x.port < 24) ∧ ((s.blk.lane
      c.bound).binding = some x) ∧ ((s.blk.lane c.bound).retired = false) ∧ ((s.blk.lane c.spare).binding =
      none) ∧ ((s.blk.lane c.spare).retired = false) ∧ (s.blk.pool.moves.find? (fun p => p.1 == c.bound.val) =
      some (c.bound.val, c.spare.val))) := by
  refine ⟨⟨inState .settle [] bound5, ?_⟩,
    ⟨inState .service [] bound5,
      { bound := 5, spare := 127, equal := false, boundOk := true, spareOk := true, txFail := none }, ?_⟩,
    ⟨inState .service [] bound5,
      { bound := 5, spare := 127, equal := false, boundOk := true, spareOk := true, txFail := none },
      { port := 0, sb := 0, g3 := false }, ?_⟩,
    ⟨inState .service [] bound5,
      { bound := 5, spare := 127, equal := true, boundOk := true, spareOk := true, txFail := some 47 },
      { port := 0, sb := 0, g3 := false }, ?_, ?_, ?_, ?_, ?_, ?_, ?_, 47, ?_⟩,
    ⟨inState .service [] bound5,
      { bound := 5, spare := 127, equal := false, boundOk := false, spareOk := true, txFail := none },
      { port := 0, sb := 0, g3 := false }, ?_⟩,
    ⟨inState .service [] bound5,
      { bound := 5, spare := 127, equal := false, boundOk := true, spareOk := false, txFail := none },
      { port := 0, sb := 0, g3 := false }, ?_⟩,
    ⟨inState .service [] fun b => bound5 { b with pool := { b.pool with moves := [(5, 127)] } },
      { bound := 5, spare := 127, equal := false, boundOk := true, spareOk := true, txFail := none },
      { port := 0, sb := 0, g3 := false }, ?_⟩⟩ <;> decide +kernel

/-- States that meet the hypotheses of `Obligations.PoolsServeTheirQueues`. -/
theorem witness_pools_serve_their_queues :
    (∃ s : State, ∃ arrived : List CodewordIn, ∃ w : Codeword, ∃ freed : Fin 17,
      let waiting := s.blk.pool.codewords ++ arrived.filterMap s.blk.codeword;
      let running := s.blk.pool.decoding.drop freed; (running.length < 16) ∧ (w ∈ waiting) ∧ ((∀ y ∈ waiting,
      y ≠ w → (w.endBearing = y.endBearing ∧ w.lane < y.lane) ∨ (w.endBearing ≠ y.endBearing ∧ ahead
      y.endBearing w.endBearing = true)))) ∧
    (∃ s : State, ∃ arrived : List CodewordIn, ∃ freed : Fin 17,
      let waiting := s.blk.pool.codewords ++ arrived.filterMap s.blk.codeword;
      let running := s.blk.pool.decoding.drop freed; (16 ≤ running.length ∨ waiting = [])) ∧
    (∃ s : State, ∃ p : PreambleIn, ∃ v : Binding, (s.blk.dev = .service) ∧ ((s.blk.lane p.lane).binding = some v)
      ∧ ((s.blk.lane p.lane).retired = false) ∧ (s.blk.on (Reg.LP_CTRL_ENABLE v.port) = true) ∧ (s.blk.blanked
      v = false) ∧ (v.g3 = true ∨ 6 ≤ p.syncs.toNat ∧ (s.blk.lane p.lane).current = none)) ∧
    (∃ s : State, ∃ p : PreambleIn, ∃ v : Binding, (s.blk.dev = .service) ∧ ((s.blk.lane p.lane).binding = some v)
      ∧ ((s.blk.lane p.lane).retired = false) ∧ (s.blk.on (Reg.LP_CTRL_ENABLE v.port) = true) ∧ (s.blk.blanked
      v = true)) ∧
    (∃ s : State, ∃ p : PreambleIn, ∃ v : Binding, (s.blk.dev = .service) ∧ ((s.blk.lane p.lane).binding = some v)
      ∧ ((s.blk.lane p.lane).retired = false) ∧ (s.blk.on (Reg.LP_CTRL_ENABLE v.port) = true) ∧ (v.g3 = false)
      ∧ (p.syncs.toNat < 6 ∨ (s.blk.lane p.lane).current.isSome = true)) := by
  refine ⟨⟨inState .service [] fun b =>
      { b with pool := { b.pool with codewords := [⟨4, 11, []⟩, ⟨3, 10, []⟩], decoding := List.replicate 16 ⟨9, 9, []⟩ } },
      [], { lane := 3, endBearing := 10, input := [] }, 1, ?_⟩,
    ⟨inState .service [] fun b =>
      { b with pool := { b.pool with codewords := [⟨4, 11, []⟩], decoding := List.replicate 16 ⟨9, 9, []⟩ } },
      [], 0, ?_⟩,
    ⟨inState .service [(Reg.LP_CTRL_ENABLE 0, 1)] bound5,
      { lane := 5, syncs := 6, deep := false, fch := [], peaks := [] }, { port := 0, sb := 0, g3 := false },
      ?_⟩,
    ⟨inState .service [(Reg.LP_CTRL_ENABLE 0, 1)] fun b => bound5 { b with mac := { b.mac with txs := [aTx] } },
      { lane := 5, syncs := 6, deep := false, fch := [], peaks := [] }, { port := 0, sb := 0, g3 := false },
      ?_⟩,
    ⟨inState .service [(Reg.LP_CTRL_ENABLE 0, 1)] bound5,
      { lane := 5, syncs := 5, deep := false, fch := [], peaks := [] }, { port := 0, sb := 0, g3 := false },
      ?_⟩⟩ <;> decide +kernel

/-- States that meet the hypotheses of `Obligations.GainStepsTakeEffect`. -/
theorem witness_gain_steps_take_effect :
    (∃ s : State, ∃ port : Fin 24, (s.blk.dev = .service) ∧ (s.blk.on (Reg.LP_CTRL_ENABLE port) = true)) ∧
    (∃ s : State, ∃ port : Fin 24, (s.blk.dev ≠ .service ∨ s.blk.on (Reg.LP_CTRL_ENABLE port) = false)) ∧
    (∃ s : State, ∃ port : Fin 24, ∃ g : Nat, ((s.blk.port port).agcPending = some g) ∧ (g < 32) ∧
      (s.blk.stepInstant port = true)) ∧
    (∃ s : State, ∃ port : Fin 24, ((s.blk.port port).agcPending = none ∨ s.blk.stepInstant port = false)) ∧
    (∃ s : State, ∃ port : Fin 24, (s.blk.receiving port = [])) ∧
    (∃ s : State, ∃ port : Fin 24, (s.blk.receiving port ≠ [])) := by
  refine ⟨⟨inState .service [(Reg.LP_CTRL_ENABLE 23, 1), (Reg.LP_AGC_STAT_GAIN 23, 9)], 23, ?_⟩,
    ⟨inState .service, 23, ?_⟩,
    ⟨inState .service [] fun b => b.setPort 23 { PortSt.reset with agcPending := some 18 }, 23, 18, ?_⟩,
    ⟨inState .service, 23, ?_⟩,
    ⟨inState .service [(Reg.LP_AGC_STAT_GAIN 23, 0)], 23, ?_⟩,
    ⟨inState .service [] fun b => hears (aFch 0) b |>.setLane 5
      { Lane.reset with binding := some { port := 23, sb := 0, g3 := false }, reception := some { aReception (aFch 0) with ended := false } },
      23, ?_⟩⟩ <;> decide +kernel

/-- States that meet the hypotheses of `Obligations.SlicesAreTestedOrRetired`. -/
theorem witness_slices_are_tested_or_retired :
    (∃ s : State, ∃ port : Fin 24, ∃ j : Fin 12, (s.blk.sliceActive port j = true)) ∧
    (∃ s : State, ∃ port : Fin 24, ∃ j : Fin 12, (s.blk.sliceActive port j = true)) ∧
    (∃ s : State, ∃ port : Fin 24, ∃ j : Fin 12, (s.blk.sliceActive port j = false)) ∧
    (∃ s : State, ∃ port : Fin 24, ∃ j : Fin 12, ∃ why : SliceTest, ((s.blk.port port).untested = [(j.val, why)])
      ∧ (s.blk.portIdle port = true) ∧ (s.blk.bit (Reg.LP_SLICE_STAT_RETIRED port) j = false)) ∧
    (∃ s : State, ∃ port : Fin 24, (s.blk.portIdle port = false)) ∧
    (∃ s : State, ∃ port : Fin 24, (s.blk.dev = .service) ∧ (s.blk.on (Reg.LP_SLICE_TEST_ROTATE port) = true) ∧
      (s.blk.sending port = false) ∧ (s.blk.get (Reg.LP_SLICE_TEST_INTERVAL port) ≤ (s.blk.port
      port).sinceRotation)) ∧
    (∃ s : State, ∃ port : Fin 24, (s.blk.sending port = true ∨ (s.blk.port port).sinceRotation < s.blk.get
      (Reg.LP_SLICE_TEST_INTERVAL port))) ∧
    (∃ s : State, ∃ port : Fin 24, (s.blk.sending port = false) ∧ ((s.blk.port port).failed = false) ∧ (6 ≤
      (s.blk.sliceChoice port).length)) ∧
    (∃ s : State, ∃ port : Fin 24, (s.blk.sending port = true)) := by
  refine ⟨⟨inState .service [(Reg.LP_SLICE_STAT_ACTIVE_SET 0, 0xFFC)], 0, 11, ?_⟩,
    ⟨inState .service [(Reg.LP_SLICE_STAT_ACTIVE_SET 0, 0xFFC)], 0, 11, ?_⟩,
    ⟨inState .service, 0, 11, ?_⟩,
    ⟨inState .service [] fun b => b.setPort 0 { PortSt.reset with untested := [(11, .trip)] }, 0, 11, .trip, ?_⟩,
    ⟨inState .service [] fun b => { b with mac := { b.mac with txs := [aTx] } }, 0, ?_⟩,
    ⟨inState .service [(Reg.LP_SLICE_TEST_ROTATE 0, 1), (Reg.LP_SLICE_TEST_INTERVAL 0, 4),
      (Reg.LP_SLICE_STAT_POINTER 0, 11)] fun b => b.setPort 0 { PortSt.reset with sinceRotation := 4 }, 0, ?_⟩,
    ⟨inState .service [(Reg.LP_SLICE_TEST_INTERVAL 0, 4)], 0, ?_⟩,
    ⟨inState .service [(Reg.LP_SLICE_STAT_POINTER 0, 11)], 0, ?_⟩,
    ⟨inState .service [] fun b => { b with mac := { b.mac with txs := [aTx] } }, 0, ?_⟩⟩ <;> decide +kernel

/-- States that meet the hypotheses of `Obligations.BanksGoOffAndOn`. -/
theorem witness_banks_go_off_and_on :
    (∃ s : State, (s.blk.watches = true)) ∧
    (∃ s : State, ∃ bank : Fin 4, ∃ since : Nat, (Store.get (fun _ => none) s.blk.ports.bankOk bank.val = some
      since) ∧ (s.blk.on (Reg.LP_BANK_STAT_OFF bank) = true) ∧ (since + 25000000 ≤ s.blk.ticks) ∧
      (s.blk.ports.vdda5Low = false)) ∧
    (∃ s : State, ∃ bank : Fin 4, (Store.get (fun _ => none) s.blk.ports.bankOk bank.val = (none : Option Nat))) ∧
    (∃ s : State, (s.blk.watches = true)) ∧
    (∃ s : State, (s.blk.watches = true)) ∧
    (∃ s : State, (s.blk.watches = false)) := by
  refine ⟨⟨inState .service, ?_⟩,
    ⟨inState .service [(Reg.LP_BANK_STAT_OFF 3, 1)] fun b => atTick 25000000
      { b with ports := { b.ports with bankOk := [(3, some 0)] } }, 3, 0, ?_⟩,
    ⟨inState .service, 3, ?_⟩,
    ⟨inState .settle, ?_⟩,
    ⟨inState .quiet, ?_⟩,
    ⟨inState .load, ?_⟩⟩ <;> decide +kernel

/-- States that meet the hypotheses of `Obligations.CoefficientsFollowObservations`. -/
theorem witness_coefficients_follow_observations :
    (∃ s : State, ∃ bank : Fin 4, ∃ supply : Nat, ∃ idle : Nat,
      let sent := Store.get (fun _ => BankSent.reset) s.blk.ports.sent bank; (s.blk.dev = .service) ∧ (0 <
      sent.out) ∧ (sent.observed = false) ∧ (s.blk.on Reg.SND_CTRL_ENABLE = true) ∧ (s.blk.on
      Reg.SND_CTRL_FREEZE = false) ∧ let c := s.blk.coef (coefKey 5 bank);
      let o : CoefVal := { mag := max 128000000 (min 384000000 (256000000 * (supply - idle) * 65536 / sent.out)), phase := 0 };
      (s.blk.within 5 c o c.active = true)) ∧
    (∃ s : State, ∃ bank : Fin 4, ∃ supply : Nat, ∃ idle : Nat,
      let sent := Store.get (fun _ => BankSent.reset) s.blk.ports.sent bank; (s.blk.dev = .service) ∧ (0 <
      sent.out) ∧ (sent.observed = false) ∧ (s.blk.on Reg.SND_CTRL_ENABLE = true) ∧ (s.blk.on
      Reg.SND_CTRL_FREEZE = false) ∧ let c := s.blk.coef (coefKey 5 bank);
      let o : CoefVal := { mag := max 128000000 (min 384000000 (256000000 * (supply - idle) * 65536 / sent.out)), phase := 0 };
      (s.blk.within 5 c o c.active = false) ∧ (c.held = none) ∧ (c.pending = none) ∧ (s.blk.on
      Reg.SND_CTRL_HOLD = true)) ∧
    (∃ s : State, ∃ bank : Fin 4, let sent := Store.get (fun _ => BankSent.reset) s.blk.ports.sent bank; (sent.out
      = 0 ∨ sent.observed = true)) ∧
    (∃ s : State, (s.blk.on Reg.SND_CTRL_FREEZE = false) ∧ ((s.blk.sound.coefs.map (·.1)).Nodup)) ∧
    (∃ s : State, (s.blk.on Reg.SND_CTRL_FREEZE = true)) ∧
    (∃ s : State, ((s.blk.sound.coefs.map (·.1)).Nodup)) ∧
    (∃ s : State, (s.blk.accepts = true) ∧ (s.blk.on Reg.SND_CTRL_FREEZE = true)) ∧
    (∃ s : State, ∃ t : Fin 8, ∃ d, ((s.blk.xbc t).pending = some d) ∧ ([3 * t.val, 3 * t.val + 1, 3 * t.val +
      2].any s.blk.sending = false)) ∧
    (∃ s : State, ∃ t : Fin 8, ([3 * t.val, 3 * t.val + 1, 3 * t.val + 2].any s.blk.sending = true)) := by
  refine ⟨⟨inState .service [(Reg.SND_CTRL_ENABLE, 1), (Reg.SND_CTRL_FREEZE, 0), (Reg.LP_THERM_LOSS 18, 255)] (bankSent
      65536), 3, 3, 2, ?_⟩,
    ⟨inState .service [(Reg.SND_CTRL_ENABLE, 1), (Reg.SND_CTRL_FREEZE, 0), (Reg.SND_CTRL_HOLD, 9),
      (Reg.LP_THERM_LOSS 18, 128)] (bankSent 65536), 3, 3, 1, ?_⟩,
    ⟨inState .service, 3, ?_⟩,
    ⟨inState .service [(Reg.SND_CTRL_FREEZE, 0), (Reg.SND_CTRL_HOLD, 2)] fun b => atBearing .locked (3 * 524288)
      (b.setCoef (coefKey 5 1)
      { Coef.start 5 6 with held := some { value := ⟨1, 2⟩, count := 1, first := 1, origins := [] } }), ?_⟩,
    ⟨inState .service [(Reg.SND_CTRL_FREEZE, 1)], ?_⟩,
    ⟨inState .service [] fun b => (b.setCoef (coefKey 2 600) { Coef.start 5 6 with pending := some ⟨1, 2⟩ }).setCoef
      (coefKey 2 5) { Coef.start 5 6 with pending := some ⟨1, 2⟩ }, ?_⟩,
    ⟨hosted .service [(Reg.SND_CTRL_FREEZE, 1)], ?_⟩,
    ⟨inState .service [] fun b => b.setXbc 7 { active := none, pending := some { depth := 50, taps := [] } }, 7,
      { depth := 50, taps := [] }, ?_⟩,
    ⟨inState .service [] fun b => { b with mac := { b.mac with txs := [aTx] } }, 0, ?_⟩⟩ <;> decide +kernel

/-- States that meet the hypotheses of `Obligations.FingerprintCommandsAct`. -/
theorem witness_fingerprint_commands_act :
    ∃ s : State, (s.blk.accepts = true) :=
  ⟨hosted .service [(Reg.SND_FP_NODE_INDEX, 131071)] fun b =>
      { b with sound := { b.sound with prints := [(131071, { Fingerprint.reset with refValid := true, shift := true, count := 3 })], window := [(28, 4)] } },
      by decide +kernel⟩

/-- States that meet the hypotheses of `Obligations.FramesHoldTheirPorts`. -/
theorem witness_frames_hold_their_ports :
    (∃ s : State, ∃ a : AdmitChoice, ∃ x : Tx, (s.blk.dev = .service) ∧ ∃ p, ∃ rest, ∃ phy, ∃ ports,
      (s.blk.running = true) ∧ (s.blk.purgeSends = s.blk) ∧ (s.blk.leaveEngines a.triad = s.blk) ∧
      (s.blk.plans a.triad = p :: rest) ∧ (s.blk.blockedBy p a (s.blk.g3Needs a.triad) = false) ∧
      (s.blk.testModes p a = .fits x phy ports) ∧ (p.send = none) ∧ (p.offer.type ≠ typeData) ∧
      (p.offer.parcels = [])) ∧
    (∃ s : State, (s.blk.dev = .service) ∧ (s.blk.running = false)) ∧
    (∃ s : State, ∃ num : Nat, ∃ x : Tx, (s.blk.dev = .service) ∧ (s.blk.tx num = some x) ∧ (x.stage = .admitted)
      ∧ (ahead x.start (s.blk.brg.now + 1) = false) ∧ (x.offer.parcels = []) ∧ ((∀ n ∈ x.ports, n < 24 ∧
      s.blk.transmits n = true))) ∧
    (∃ s : State, ∃ num : Nat, ∃ x : Tx, (s.blk.dev = .service) ∧ (s.blk.tx num = some x) ∧ (x.stage ≠ .admitted ∨
      ahead x.start (s.blk.brg.now + 1) = true)) ∧
    (∃ s : State, ∃ num : Nat, ∃ x : Tx, ∃ m : TxMeasure, (s.blk.dev = .service) ∧ (m.wf = true) ∧ (s.blk.tx num =
      some x) ∧ (x.stage = .onLine) ∧ (ahead x.last (s.blk.brg.now + 1) = false) ∧ (x.ports.Nodup) ∧ ((∀ n ∈
      x.ports, n < 24))) ∧
    (∃ s : State, ∃ num : Nat, ∃ m : TxMeasure, (s.blk.dev = .service) ∧ (m.wf = true) ∧ (s.blk.tx num = none)) ∧
    (∃ s : State, ∃ m : TxMeasure, (s.blk.dev = .service) ∧ (m.wf = false)) := by
  refine ⟨⟨offered, aChoice, (fitted offered.blk aPlan aChoice).1, ?_, aPlan, [], (fitted offered.blk aPlan aChoice).2.1,
      (fitted offered.blk aPlan aChoice).2.2, ?_⟩,
    ⟨inState .service, ?_⟩,
    ⟨lineUp [] fun b => atBearing .locked 100
      { b with mac := { b.mac with txs := [{ aTx with stage := .admitted }] } }, 1,
      { aTx with stage := .admitted }, ?_⟩,
    ⟨lineUp [] fun b => { b with mac := { b.mac with txs := [aTx] } }, 1, aTx, ?_⟩,
    ⟨lineUp [] fun b => atBearing .locked 400 { b with mac := { b.mac with txs := [aTx] } }, 1, aTx,
      { ports := [], depth := 0, filters := [] }, ?_⟩,
    ⟨inState .service, 1, { ports := [], depth := 0, filters := [] }, ?_⟩,
    ⟨inState .service,
      { ports := List.replicate 4 { ratio := 0, zl := [], response := [], transmit := [] }, depth := 0, filters := [] },
      ?_⟩⟩ <;> decide +kernel

/-- States that meet the hypotheses of `Obligations.ImageIsLoadedAndStaged`. -/
theorem witness_image_is_loaded_and_staged :
    (∃ s : State, (s.blk.cfgReached = true) ∧ (s.blk.on Reg.CFG_CMD_RESULT_BUSY = false) ∧ (s.blk.dev = .load) ∧
      (s.blk.get Reg.HIF_STRAPS_BOOT_SEL = 0)) ∧
    (∃ s : State, (s.blk.cfgReached = true) ∧ (s.blk.on Reg.CFG_CMD_RESULT_BUSY = false) ∧ (s.blk.dev = .service)
      ∧ (s.blk.get Reg.CFG_STATUS_SHADOW = 0 ∨ s.blk.get Reg.CFG_STATUS_SHADOW = 2 ∨ s.blk.get
      Reg.CFG_STATUS_SHADOW = 3)) ∧
    (∃ s : State, (s.blk.dev = .service) ∧ (s.blk.on Reg.CFG_CMD_RESULT_BUSY = true) ∧ (s.blk.get
      Reg.CFG_STATUS_SHADOW = 1) ∧ (s.blk.img.staging = 0)) ∧
    (∃ s : State, (s.blk.dev = .load) ∧ (s.blk.get Reg.HIF_STRAPS_BOOT_SEL = 0) ∧ (s.blk.on
      Reg.CFG_CMD_RESULT_BUSY = true)) ∧
    (∃ s : State, ∃ src : ImageSource, (s.blk.dev = .load) ∧ (s.blk.get Reg.HIF_STRAPS_BOOT_SEL = 2) ∧
      ((s.blk.checkSlot false true src.slotBOk).set = none)) ∧
    (∃ s : State, (s.blk.accepts = true) ∧ (s.blk.on Reg.CFG_CMD_RESULT_BUSY = false)) ∧
    (∃ s : State, (s.blk.accepts = true) ∧ (s.blk.on Reg.CFG_CMD_RESULT_BUSY = false) ∧ (s.blk.get
      Reg.CFG_STATUS_SHADOW = 2 ∨ s.blk.get Reg.CFG_STATUS_SHADOW = 3)) ∧
    (∃ s : State, (s.blk.accepts = true) ∧ (s.blk.on Reg.CFG_CMD_RESULT_BUSY = true)) := by
  refine ⟨⟨hosted .load [(Reg.CFG_LOAD_STATUS_ATTEMPTS, 3)], ?_⟩,
    ⟨hosted .service [(Reg.CFG_STATUS_SHADOW, 3)], ?_⟩,
    ⟨hosted .service [(Reg.CFG_CMD_RESULT_BUSY, 1), (Reg.CFG_STATUS_SHADOW, 1)], ?_⟩,
    ⟨hosted .load [(Reg.CFG_CMD_RESULT_BUSY, 1), (Reg.CFG_LOAD_STATUS_ATTEMPTS, 4)], ?_⟩,
    ⟨hosted .load [(Reg.HIF_STRAPS_BOOT_SEL, 2)], { host := .data [], slotAOk := true, slotBOk := false }, ?_⟩,
    ⟨hosted .service, ?_⟩,
    ⟨hosted .service [(Reg.CFG_STATUS_SHADOW, 2)], ?_⟩,
    ⟨hosted .service [(Reg.CFG_CMD_RESULT_BUSY, 1)], ?_⟩⟩ <;> decide +kernel

/-- States that meet the hypotheses of `Obligations.SwapActsAtItsBearing`. -/
theorem witness_swap_acts_at_its_bearing :
    (∃ s : State, ∃ x : ImageSet, let at_ := s.blk.bearingAt Reg.CFG_SWAP_BRG_LO_BRG Reg.CFG_SWAP_BRG_HI_BRG;
      (s.blk.accepts = true) ∧ (s.blk.on Reg.CFG_CMD_RESULT_BUSY = false) ∧ (s.blk.dev = .service) ∧
      (s.blk.running = true) ∧ (s.blk.get Reg.CFG_STATUS_SHADOW = 2) ∧ (s.blk.img.shadow = some x) ∧
      (s.blk.chainEnabled = false ∨ s.blk.chain.role = .master) ∧ (s.blk.armable at_ = true) ∧ ((∀ n, n < 24 →
      preserves x.sections n = true) ∨ 65536 + s.blk.leadTime ≤ (at_ - s.blk.brg.now).toNat)) ∧
    (∃ s : State, ∃ x : ImageSet, let at_ := s.blk.bearingAt Reg.CFG_SWAP_BRG_LO_BRG Reg.CFG_SWAP_BRG_HI_BRG;
      (s.blk.accepts = true) ∧ (s.blk.on Reg.CFG_CMD_RESULT_BUSY = false) ∧ (s.blk.dev = .service) ∧
      (s.blk.running = true) ∧ (s.blk.get Reg.CFG_STATUS_SHADOW = 2) ∧ (s.blk.img.shadow = some x) ∧
      (s.blk.chainEnabled = false ∨ s.blk.chain.role = .master) ∧ (s.blk.armable at_ = false)) ∧
    (∃ s : State, ∃ x : ImageSet, (s.blk.accepts = true) ∧ (s.blk.on Reg.CFG_CMD_RESULT_BUSY = false) ∧ (s.blk.dev
      = .service) ∧ (s.blk.running = true) ∧ (s.blk.get Reg.CFG_STATUS_SHADOW = 2) ∧ (s.blk.img.shadow = some
      x) ∧ (s.blk.chainEnabled = true) ∧ (s.blk.chain.role ≠ .master)) ∧
    (∃ s : State, ∃ a, (s.blk.img.armed = some a) ∧ (s.blk.accepts = true) ∧ (s.blk.on Reg.CFG_CMD_RESULT_BUSY =
      false) ∧ (s.blk.chainEnabled = false ∨ s.blk.chain.role = .master)) ∧
    (∃ s : State, ∃ a, (s.blk.img.armed = some a) ∧ (s.blk.dev = .service) ∧ (s.blk.chain.role = .master) ∧
      (a.verdict = .waiting) ∧ (s.blk.atDeadline a.bearing = true) ∧ (s.blk.chain.op = none)) ∧
    (∃ s : State, ∃ x : ImageSet, ∃ a, (s.blk.img.armed = some a) ∧ (s.blk.img.shadow = some x) ∧ (a.bearing =
      s.blk.brg.now) ∧ (s.blk.brg.state = .holdover)) ∧
    (∃ s : State, ∃ x : ImageSet, ∃ a, (s.blk.img.armed = some a) ∧ (s.blk.img.shadow = some x) ∧ (a.bearing =
      s.blk.brg.now) ∧ (s.blk.brg.state ≠ .holdover) ∧ (a.verdict = .waiting)) ∧
    (∃ s : State, ∃ x : ImageSet, ∃ a, (s.blk.img.armed = some a) ∧ (s.blk.img.shadow = some x) ∧ (a.bearing =
      s.blk.brg.now) ∧ (s.blk.brg.state ≠ .holdover) ∧ (a.verdict = .commit)) ∧
    (∃ s : State, ∃ x : ImageSet, ∃ a, (s.blk.img.armed = some a) ∧ (s.blk.img.shadow = some x) ∧ (a.bearing ≠
      s.blk.brg.now) ∧ (ahead a.bearing s.blk.brg.now = true)) := by
  refine ⟨⟨hosted .service [(Reg.CFG_STATUS_SHADOW, 2), (Reg.CFG_SWAP_BRG_HI_BRG, 1)] fun b => atBearing .locked 9
      { b with img := { b.img with shadow := some anImage } }, anImage, ?_⟩,
    ⟨hosted .service [(Reg.CFG_STATUS_SHADOW, 2), (Reg.CFG_SWAP_BRG_LO_BRG, 8)] fun b => atBearing .locked 9
      { b with img := { b.img with shadow := some anImage } }, anImage, ?_⟩,
    ⟨hosted .service [(Reg.CFG_STATUS_SHADOW, 2), (Reg.HIF_STRAPS_CHAIN_EN, 1)] fun b => atBearing .locked 9
      { b with img := { b.img with shadow := some anImage }, chain := { b.chain with role := .standby } },
      anImage, ?_⟩,
    ⟨hosted .service [] fun b => atBearing .locked 9
      { b with img := { b.img with shadow := some anImage, armed := some (armedAt .waiting) } }, armedAt
      .waiting, ?_⟩,
    ⟨hosted .service [] fun b => atBearing .locked 899
      { b with img := { b.img with shadow := some anImage, armed := some (armedAt .waiting) }, chain := { b.chain with role := .master } },
      armedAt .waiting, ?_⟩,
    ⟨hosted .service [] fun b => atBearing .holdover 900
      { b with img := { b.img with shadow := some anImage, armed := some (armedAt .commit) } }, anImage, armedAt
      .commit, ?_⟩,
    ⟨hosted .service [] fun b => atBearing .locked 900
      { b with img := { b.img with shadow := some anImage, armed := some (armedAt .waiting) } }, anImage,
      armedAt .waiting, ?_⟩,
    ⟨hosted .service [] fun b => atBearing .locked 900
      { b with img := { b.img with shadow := some anImage, armed := some (armedAt .commit) } }, anImage, armedAt
      .commit, ?_⟩,
    ⟨hosted .service [] fun b => atBearing .locked 899
      { b with img := { b.img with shadow := some anImage, armed := some (armedAt .commit) } }, anImage, armedAt
      .commit, ?_⟩⟩ <;> decide +kernel

/-- States that meet the hypotheses of `Obligations.CalendarOfTheSuperframe`. -/
theorem witness_calendar_of_the_superframe :
    (∃ s : State, (s.blk.running = true) ∧ (s.blk.get Reg.MAC_SFN_SFN ≠ s.blk.superframe % 2 ^ 29) ∧
      (s.blk.img.schedPending = [])) ∧
    (∃ s : State, (s.blk.running = true) ∧ (s.blk.get Reg.MAC_SFN_SFN ≠ s.blk.superframe % 2 ^ 29)) ∧
    (∃ s : State, (s.blk.running = false ∨ s.blk.get Reg.MAC_SFN_SFN = s.blk.superframe % 2 ^ 29)) ∧
    (∃ s : State, ∃ t : Fin 8, (s.blk.dev = .service) ∧ (s.blk.running = true) ∧ (960 ≤ binOf s.blk.brg.now) ∧
      ((s.blk.macTriad t).cpNext = none)) ∧
    (∃ s : State, ∃ t : Fin 8, (s.blk.dev ≠ .service ∨ s.blk.running = false ∨ binOf s.blk.brg.now < 960 ∨
      (s.blk.macTriad t).cpNext.isSome = true)) ∧
    (∃ s : State, (s.blk.dev = .service) ∧ ((s.blk.mac.txs.map (·.offer.num)).Nodup)) ∧
    (∃ s : State, ∃ t : Fin 8,
      let cairn : Tx → Bool := fun x => (x.offer.type == typeCairn || x.offer.type == typeCairnC) && x.offer.triad == t.val;
      (s.blk.mac.txs.filter cairn = [])) ∧
    (∃ s : State, ∃ t : Fin 8, (s.blk.dev = .service) ∧ (s.blk.running = true) ∧ ((s.blk.macTriad t).pending =
      none) ∧ ((∀ sf, (s.blk.macTriad t).announced = some sf → sf + s.blk.get Reg.PT_NOTCH_CTRL_INTERVAL * 16
      ≤ s.blk.superframe)) ∧ let old := (s.blk.macTriad t).inForce;
      let new := if s.blk.on Reg.PT_NOTCH_CTRL_ENABLE then s.blk.patternsFor t old.patterns else []; (new ≠
      old.patterns)) ∧
    (∃ s : State, ∃ t : Fin 8, (s.blk.dev = .service) ∧ (s.blk.running = true) ∧ ((s.blk.macTriad t).pending =
      none) ∧ ((∀ sf, (s.blk.macTriad t).announced = some sf → sf + s.blk.get Reg.PT_NOTCH_CTRL_INTERVAL * 16
      ≤ s.blk.superframe)) ∧ let old := (s.blk.macTriad t).inForce;
      let new := if s.blk.on Reg.PT_NOTCH_CTRL_ENABLE then s.blk.patternsFor t old.patterns else []; (new =
      old.patterns)) ∧
    (∃ s : State, ∃ t : Fin 8, (s.blk.dev ≠ .service ∨ s.blk.running = false ∨ (s.blk.macTriad t).pending.isSome =
      true)) ∧
    (∃ s : State, ∃ t : Fin 8, ∃ c, (s.blk.gaspClose t = some c) ∧ (ahead c (s.blk.brg.now + 1) = false)) ∧
    (∃ s : State, ∃ t : Fin 8, ((∀ c, s.blk.gaspClose t = some c → ahead c (s.blk.brg.now + 1) = true))) := by
  refine ⟨⟨lineUp [(Reg.MAC_SFN_SFN, 0)] fun b => atBearing .locked 524288 (b.setMacTriad 0
      { MacTriad.reset with cpNext := some 800 }), ?_⟩,
    ⟨lineUp [(Reg.MAC_SFN_SFN, 0)] fun b => atBearing .locked 524288
      { b with img := { b.img with schedPending := [(0, 1)] } }, ?_⟩,
    ⟨inState .service, ?_⟩,
    ⟨inState .service [] (atBearing .locked 491520), 0, ?_⟩,
    ⟨inState .service [] (atBearing .locked 491519), 0, ?_⟩,
    ⟨lineUp [] fun b => atBearing .locked 100
      { b with mac := { b.mac with txs := [{ aTx with offer := { aTx.offer with type := typeCairn }, stage := .admitted }, { aTx with offer := { aTx.offer with num := 2 } }] } },
      ?_⟩,
    ⟨offered, 0, ?_⟩,
    ⟨lineUp [(Reg.PT_NOTCH_CTRL_ENABLE, 0)] fun b => b.setMacTriad 0
      { MacTriad.reset with inForce := { version := 255, patterns := [{ id := 1, scope := 1, windows := [(3, 4)] }] } },
      0, ?_⟩,
    ⟨lineUp [(Reg.PT_NOTCH_CTRL_ENABLE, 0)], 0, ?_⟩,
    ⟨inState .hold, 0, ?_⟩,
    ⟨inState .service [(Reg.MAC_TRIAD_GASP 7, 1)] fun b => atBearing .locked 100 (b.setGaspClose 7 (some 100)), 7,
      100, ?_⟩,
    ⟨inState .service, 0, no_some (?_)⟩⟩ <;> decide +kernel

/-- States that meet the hypotheses of `Obligations.BudgetsAndBounds`. -/
theorem witness_budgets_and_bounds :
    (∃ s : State, ∃ port : Fin 24, ∃ sb : Fin 4, ∃ x, ∃ rest, (s.blk.buckets port sb = x :: rest)) ∧
    (∃ s : State, ∃ port : Fin 24, ∃ sb : Fin 4, (s.blk.buckets port sb = [])) ∧
    (∃ s : State, ∃ port : Fin 24, (s.blk.p0Overdue port = true)) ∧
    (∃ s : State, ∃ port : Fin 24, (s.blk.p0Overdue port = false)) := by
  refine ⟨⟨lineUp [] fun b =>
      { b with mac := { b.mac with accounts := [(0, [5, 6])], txs := [{ aTx with stage := .admitted }] } }, 0,
      0, 5, [6], ?_⟩,
    ⟨lineUp, 1, 0, ?_⟩,
    ⟨hearing [(7, aNode)] [] fun b => { b with strata := { b.strata with sends := [aSend] } }, 0, ?_⟩,
    ⟨inState .service, 0, ?_⟩⟩ <;> decide +kernel

/-- States that meet the hypotheses of `Obligations.SleepersAndSilentNodes`. -/
theorem witness_sleepers_and_silent_nodes :
    (∃ s : State, ∃ node : NodeIx, ∃ v : Rendezvous, let x := node.toNat; (s.blk.dev = .service) ∧ (s.blk.home =
      true) ∧ ((s.blk.ext x).rdv = some v) ∧ ((s.blk.node x).state = 2) ∧ (v.wakes = none) ∧ ((∀ y ∈
      s.blk.mac.txs, y.offer.dst ≠ (s.blk.node x).short)) ∧ ∃ p : Plan, ∃ start : Bearing, ∃ y : Tx, ∃ phy :
      PhyMode, ∃ ports : List Nat, (s.blk.wakeBearing x = some start) ∧ ((start - s.blk.brg.now).toNat <
      65536) ∧ (s.blk.tooLate start = false) ∧ (s.blk.rdvPlan x = (s.blk, p)) ∧ (p.send = none) ∧
      (p.offer.type ≠ typeData) ∧ let fixed : Offer := { p.offer with start := some start, standing := true };
      let b0 : Block := { s.blk with mac := { s.blk.mac with offers := s.blk.mac.offers.map fun q => if q.num = fixed.num then fixed else q } };
      (b0.testModes { p with offer := fixed } (b0.rdvChoice x) = .fits y phy ports)) ∧
    (∃ s : State, ∃ node : NodeIx, let x := node.toNat; ((∀ start, s.blk.wakeBearing x = some start → 65536 ≤
      (start - s.blk.brg.now).toNat ∨ s.blk.tooLate start = true))) ∧
    (∃ s : State, ∃ node : NodeIx, ∃ v : Rendezvous, let x := node.toNat; (s.blk.home = true) ∧ ((s.blk.ext x).rdv
      = some v) ∧ ((∀ y ∈ s.blk.mac.txs, y.offer.dst ≠ (s.blk.node x).short)) ∧ (ahead (s.blk.rdvBearing x
      v.k) s.blk.brg.now = false) ∧ (v.wakes = none)) ∧
    (∃ s : State, ∃ node : NodeIx, ∃ v : Rendezvous, let x := node.toNat; (s.blk.home = true) ∧ ((s.blk.ext x).rdv
      = some v) ∧ ((∀ y ∈ s.blk.mac.txs, y.offer.dst ≠ (s.blk.node x).short)) ∧ (ahead (s.blk.rdvBearing x
      v.k) s.blk.brg.now = false) ∧ (v.wakes = some 0)) ∧
    (∃ s : State, ∃ node : NodeIx, ∃ v : Rendezvous, let x := node.toNat; (s.blk.home = true) ∧ ((s.blk.ext x).rdv
      = some v) ∧ ((∀ y ∈ s.blk.mac.txs, y.offer.dst ≠ (s.blk.node x).short)) ∧ (ahead (s.blk.rdvBearing x
      v.k) s.blk.brg.now = false) ∧ (v.wakes = some 1)) ∧
    (∃ s : State, ∃ node : NodeIx, let x := node.toNat; ((s.blk.ext x).rdv = none ∨ s.blk.home = false)) ∧
    (∃ s : State, ∃ node : NodeIx, let x := node.toNat; (s.blk.home = true) ∧ ((s.blk.node x).state = 2) ∧
      ((s.blk.ext x).rdv = none) ∧ ((s.blk.ext x).supvFrom + s.blk.get Reg.MAC_SUPV_SUPV ≤ s.blk.superframe)) ∧
    (∃ s : State, ∃ node : NodeIx, ∃ v : Rendezvous, let x := node.toNat; (s.blk.home = true) ∧ ((s.blk.node
      x).state = 2) ∧ ((s.blk.ext x).rdv = some v)) ∧
    (∃ s : State, ∃ node : NodeIx, let x := node.toNat; (s.blk.home = false ∨ (s.blk.node x).state ≠ 2 ∨
      s.blk.superframe < (s.blk.ext x).supvFrom + s.blk.get Reg.MAC_SUPV_SUPV)) := by
  refine ⟨⟨sleeper, 7, series 310000 none, ?_, ?_, ?_, ?_, ?_, ?_, planRdv sleeper.blk, startRdv sleeper.blk, (fittedRdv
      sleeper.blk).1, (fittedRdv sleeper.blk).2.1, (fittedRdv sleeper.blk).2.2, ?_⟩,
    ⟨inState .service, 7, no_some (?_)⟩,
    ⟨hearing [(7, { aNode with rdvQ := 4, sleeps := true })] [] (withExt
      { NodeExt.reset with rdv := some (series 1000 none) }), 7, series 1000 none, ?_⟩,
    ⟨hearing [(7, { aNode with rdvQ := 4, sleeps := true })] [] (withExt
      { NodeExt.reset with rdv := some (series 1000 (some 0)) }), 7, series 1000 (some 0), ?_⟩,
    ⟨hearing [(7, { aNode with rdvQ := 4, sleeps := true })] [] (withExt
      { NodeExt.reset with rdv := some (series 1000 (some 1)) }), 7, series 1000 (some 1), ?_⟩,
    ⟨inState .service, 7, ?_⟩,
    ⟨hearing [(7, aNode)] [(Reg.MAC_SUPV_SUPV, 0)], 7, ?_⟩,
    ⟨hearing [(7, { aNode with rdvQ := 4, sleeps := true })] [] (withExt
      { NodeExt.reset with rdv := some (series 1000 none) }), 7, series 1000 none, ?_⟩,
    ⟨hearing [(7, aNode)] [(Reg.MAC_SUPV_SUPV, 2)], 7, ?_⟩⟩ <;> decide +kernel

/-- States that meet the hypotheses of `Obligations.DataParcelReachesItsQueue`. -/
theorem witness_data_parcel_reaches_its_queue :
    (∃ s : State, ∃ r : RxFrame, ∃ hd : Heard, ∃ m : MacHeader, ∃ x : Nat, ∃ y : Nat, ∃ q : Nat, ∃ rec' : List
      Byte, ∃ plain : List Byte, ((s.blk.receive typeData r).2 = some (hd, m)) ∧ (s.blk.sender m = some x) ∧
      (s.blk.standsBy hd.port = false) ∧ (s.blk.home = true) ∧ (m.nparc = 1) ∧ (rxRecords m hd.mac = [rec']) ∧
      let h := ParcelHeader.ofBytes (slice rec' 0 16); (h.sec = false) ∧ (h.final = addrDevice) ∧
      (s.blk.indexOf h.orig = some y) ∧ ((s.blk.node y).state = 2) ∧ (s.blk.fateOf rec' (some y) none = .good
      0 plain) ∧ ((h.orig, h.pseq) ∉ (s.blk.ext x).seen) ∧ (s.blk.receiveQueue (s.blk.node y).owner = some q)
      ∧ (s.blk.qPriority q = false) ∧ (s.blk.on (Reg.QD_CFG_ENABLE q) = true) ∧ (s.blk.on
      (Reg.QD_BASE_HI_MARK_VALID q) = false) ∧ (s.blk.frozen (s.blk.node y).owner = false) ∧ (s.blk.on
      Reg.DTM_RXS_ENABLE = false) ∧ (s.blk.qFill q + (16 + plain.length + 7) / 8 ≤ s.blk.qSize q)) ∧
    (∃ s : State, ∃ r : RxFrame, ∃ hd : Heard, ∃ m : MacHeader, ∃ x : Nat, ∃ y : Nat, ∃ rec' : List Byte, ∃ plain
      : List Byte, ((s.blk.receive typeData r).2 = some (hd, m)) ∧ (s.blk.sender m = some x) ∧ (s.blk.standsBy
      hd.port = false) ∧ (s.blk.home = true) ∧ (m.nparc = 1) ∧ (rxRecords m hd.mac = [rec']) ∧
      let h := ParcelHeader.ofBytes (slice rec' 0 16); (h.sec = false) ∧ (h.final = addrDevice) ∧
      (s.blk.indexOf h.orig = some y) ∧ ((s.blk.node y).state = 2) ∧ (s.blk.fateOf rec' (some y) none = .good
      0 plain) ∧ ((h.orig, h.pseq) ∈ (s.blk.ext x).seen)) ∧
    (∃ s : State, ∃ r : RxFrame, (s.blk.heardOn r.lane r.info = none)) := by
  refine ⟨⟨hearing [(7, aNode)] ([(Reg.CX_CTRL_LINK_REQUIRED, 0)] ++ rxQueue) fun b => hears (fchOf typeData (aDataMac))
      (withQ 3 QueueSt.empty b), aFrame aDataMac, aHeard typeData aDataMac, headOf aDataMac, 7, 7, 3, aRecord,
      [1, 2, 3], ?_⟩,
    ⟨hearing [(7, aNode)] ([(Reg.CX_CTRL_LINK_REQUIRED, 0)] ++ rxQueue) fun b => hears (fchOf typeData (aDataMac))
      (withExt { NodeExt.reset with seen := [(7, 40)] } b), aFrame aDataMac, aHeard typeData aDataMac, headOf
      aDataMac, 7, 7, aRecord, [1, 2, 3], ?_⟩,
    ⟨hearing [(7, aNode)], aFrame aDataMac, ?_⟩⟩ <;> decide +kernel

/-- States that meet the hypotheses of `Obligations.AckEndsTheWait`. -/
theorem witness_ack_ends_the_wait :
    (∃ s : State, ∃ r : RxFrame, ∃ hd : Heard, ∃ m : MacHeader, ∃ y : Nat, ∃ x : Tx, ((s.blk.receive typeAck r).2
      = some (hd, m)) ∧ (s.blk.indexOf m.src = some y) ∧ (fcsOk hd.mac 4 = true) ∧ (s.blk.standsBy hd.port =
      false) ∧ (s.blk.home = true) ∧ (s.blk.mac.txs.find? (fun x => x.answeredBy hd.triad m.src (byteAt hd.mac
      14) hd.frame.last) = some x) ∧ ((s.blk.node y).state = 2) ∧ (x.offer.type ≠ typeAssocResp)) ∧
    (∃ s : State, ∃ r : RxFrame, ∃ hd : Heard, ∃ m : MacHeader, ∃ y : Nat, ∃ x : Tx, ((s.blk.receive typeAck r).2
      = some (hd, m)) ∧ (s.blk.indexOf m.src = some y) ∧ (fcsOk hd.mac 4 = true) ∧ (s.blk.standsBy hd.port =
      false) ∧ (s.blk.home = true) ∧ (s.blk.mac.txs.find? (fun x => x.answeredBy hd.triad m.src (byteAt hd.mac
      14) hd.frame.last) = some x) ∧ ((s.blk.node y).state = 1) ∧ (x.offer.type = typeAssocResp)) ∧
    (∃ s : State, ∃ r : RxFrame, (s.blk.heardOn r.lane r.info = none)) ∧
    (∃ s : State, ∃ num : Nat, ∃ x : Tx, (s.blk.tx num = some x) ∧ (x.stage = .awaitingAck) ∧ (ahead x.ackEnd
      s.blk.brg.now = false) ∧ (x.offer.type ≠ typeWake) ∧ ((x.offer.type = typeData → x.offer.parcels ≠ []))
      ∧ (x.offer.attempts < attemptsOf x.offer.type)) ∧
    (∃ s : State, ∃ num : Nat, ∃ x : Tx, (s.blk.tx num = some x) ∧ (x.stage = .awaitingAck) ∧ (ahead x.ackEnd
      s.blk.brg.now = false) ∧ (x.offer.type = typeWake)) ∧
    (∃ s : State, ∃ num : Nat, ∃ x : Tx, (s.blk.tx num = none ∨ (s.blk.tx num = some x ∧ (x.stage ≠ .awaitingAck ∨
      ahead x.ackEnd s.blk.brg.now = true)))) := by
  refine ⟨⟨hearing [(7, aNode)] [] fun b => hears (fchOf typeAck (macOf aHeader [7, 0, 0, 0]))
      { b with mac := { b.mac with txs := [waitsFor typeTime [3, 0]] } }, aFrame (macOf aHeader [7, 0, 0, 0]),
      aHeard typeAck (macOf aHeader [7, 0, 0, 0]), aHeader, 7, waitsFor typeTime [3, 0], ?_⟩,
    ⟨hearing [(7, { aNode with state := 1 })] [] fun b => hears (fchOf typeAck (macOf aHeader [7, 0, 0, 0]))
      { b with mac := { b.mac with txs := [waitsFor typeAssocResp ([0, 0, 0, 0, 0, 0, 0, 0, 7, 0, 0] ++ List.replicate 27 0)] } },
      aFrame (macOf aHeader [7, 0, 0, 0]), aHeard typeAck (macOf aHeader [7, 0, 0, 0]), aHeader, 7, waitsFor
      typeAssocResp ([0, 0, 0, 0, 0, 0, 0, 0, 7, 0, 0] ++ List.replicate 27 0), ?_⟩,
    ⟨hearing [(7, aNode)], aFrame (macOf aHeader [7, 0, 0, 0]), ?_⟩,
    ⟨hearing [(7, aNode)] [] fun b => { b with mac := { b.mac with txs := [waitsFor typeTime [3, 0]] } }, 1,
      waitsFor typeTime [3, 0], ?_⟩,
    ⟨hearing [(7, aNode)] [] fun b => { b with mac := { b.mac with txs := [waitsFor typeWake [3, 0]] } }, 1,
      waitsFor typeWake [3, 0], ?_⟩,
    ⟨inState .service, 1, aTx, ?_⟩⟩ <;> decide +kernel

/-- States that meet the hypotheses of `Obligations.NodesJoinAndLeave`. -/
theorem witness_nodes_join_and_leave :
    (∃ s : State, ∃ r : RxFrame, ∃ hd : Heard, ∃ m : MacHeader, ∃ y : Nat, ∃ lo : Nat, ∃ size : Nat, ∃ long :
      BitVec 64, (s.blk.on Reg.MAC_CTRL_ASSOC_OPEN = true) ∧ ((∀ p ∈ s.blk.trv.nodes, p.2.long ≠ long)) ∧ (0 <
      size) ∧ (s.blk.freeEntry lo size (long.toNat % size) = some y) ∧ ((s.blk.receive typeAssocReq r).2 =
      some (hd, m)) ∧ (m.src = addrUnassociated) ∧ (fcsOk hd.mac 12 = true) ∧ (leAt hd.mac 22 4 < 512) ∧
      (s.blk.standsBy hd.port = false) ∧ (s.blk.home = true) ∧ (long = BitVec.ofNat 64 (leAt hd.mac 14 8)) ∧
      (s.blk.rangeOf (s.blk.joinFn hd.triad) = some (lo, size))) ∧
    (∃ s : State, ∃ r : RxFrame, ∃ hd : Heard, ∃ m : MacHeader, ∃ x : Nat, ∃ y : Nat, ∃ lo : Nat, ∃ size : Nat, ∃
      long : BitVec 64, (s.blk.on Reg.MAC_CTRL_ASSOC_OPEN = true) ∧ ((∀ p ∈ s.blk.trv.nodes, p.2.long ≠ long))
      ∧ (0 < size) ∧ (s.blk.freeEntry lo size (long.toNat % size) = some y) ∧ (s.blk.takesFrame typeRoute r 16
      x hd m) ∧ (byteAt (hd.body 16) 0 = 8) ∧ ((s.blk.node x).relay = true) ∧ ((s.blk.node x).depth < 15) ∧
      (leAt (hd.body 16) 9 4 < 512) ∧ ((s.blk.subtree x).length < 512) ∧ (long = BitVec.ofNat 64 (leAt
      (hd.body 16) 1 8)) ∧ (s.blk.rangeOf (s.blk.joinFn (s.blk.triadOf x)) = some (lo, size))) ∧
    (∃ s : State, ∃ r : RxFrame, ∃ hd : Heard, ∃ m : MacHeader, ∃ x : Nat, (s.blk.takesFrame typeLeave r 1 x hd
      m)) ∧
    (∃ s : State, ∃ r : RxFrame, ∃ c ∈ [Instr.assocReqReceived r, .joinFwdReceived r, .leaveReceived r],
      (s.blk.heardOn r.lane r.info = none)) := by
  refine ⟨⟨hearing [(7, aNode)] [(Reg.MAC_CTRL_ASSOC_OPEN, 1)] fun b => hears (fchOf typeAssocReq (macOf
      { aHeader with src := addrUnassociated } [5, 0, 0, 0, 0, 0, 0, 0, 0x1F, 0, 0, 0])) (withSetting 0x3040
      0x80000000 (withSetting 0x3044 512 b)), aFrame (macOf { aHeader with src := addrUnassociated } [5, 0, 0,
      0, 0, 0, 0, 0, 0x1F, 0, 0, 0]), aHeard typeAssocReq (macOf { aHeader with src := addrUnassociated } [5, 0,
      0, 0, 0, 0, 0, 0, 0x1F, 0, 0, 0]), { aHeader with src := addrUnassociated }, 5, 0, 512, 5, ?_⟩,
    ⟨hearing [(7, aRelay)] [(Reg.MAC_CTRL_ASSOC_OPEN, 1)] fun b => hears (fchOf typeRoute (macOf aHeader [8, 5, 0,
      0, 0, 0, 0, 0, 0, 0x1F, 0, 0, 0, 9, 0, 40])) (withSetting 0x3040 0x80000000 (withSetting 0x3044 512 b)),
      aFrame (macOf aHeader [8, 5, 0, 0, 0, 0, 0, 0, 0, 0x1F, 0, 0, 0, 9, 0, 40]), aHeard typeRoute (macOf
      aHeader [8, 5, 0, 0, 0, 0, 0, 0, 0, 0x1F, 0, 0, 0, 9, 0, 40]), aHeader, 7, 5, 0, 512, 5,
      by unfold Block.takesFrame; decide +kernel⟩,
    ⟨hearing [(7, aNode)] [] (hears (fchOf typeLeave (macOf aHeader [0]))), aFrame (macOf aHeader [0]), aHeard
      typeLeave (macOf aHeader [0]), aHeader, 7, by unfold Block.takesFrame; decide +kernel⟩,
    ⟨hearing [(7, aNode)], aFrame ([]), .leaveReceived (aFrame []), ?_, ?_⟩⟩ <;> decide +kernel

/-- States that meet the hypotheses of `Obligations.NodeReportsAreTaken`. -/
theorem witness_node_reports_are_taken :
    (∃ s : State, ∃ r : RxFrame, ∃ hd : Heard, ∃ m : MacHeader, ∃ x : Nat, (s.blk.takesFrame typeMap r 113 x hd m)
      ∧ (byteAt (hd.body 113) 0 = 0) ∧ (s.blk.on Reg.SND_CTRL_ENABLE = true)) ∧
    (∃ s : State, ∃ r : RxFrame, ∃ hd : Heard, ∃ m : MacHeader, ∃ x : Nat, (s.blk.takesFrame typeRoute r
      (neighLength hd.mac) x hd m) ∧ (byteAt hd.mac 14 = 0) ∧ (byteAt hd.mac 15 ≤ 16)) ∧
    (∃ s : State, ∃ r : RxFrame, ∃ hd : Heard, ∃ m : MacHeader, ∃ x : Nat, (s.blk.takesFrame typeRoute r
      (rrepLength hd.mac) x hd m) ∧ (byteAt hd.mac 14 = 7) ∧ (byteAt hd.mac 18 ≤ 16)) ∧
    (∃ s : State, ∃ r : RxFrame, ∃ hd : Heard, ∃ m : MacHeader, ∃ x : Nat, ∃ y : Nat, (s.blk.takesFrame typeRoute
      r 5 x hd m) ∧ (byteAt (hd.body 5) 0 = 5) ∧ (s.blk.indexOf (leAt (hd.body 5) 1 3 % 2 ^ 20) = some y) ∧
      ((s.blk.node y).relay = true) ∧ ((s.blk.node y).state = 2) ∧ ((s.blk.node y).parent = (s.blk.node
      x).short)) ∧
    (∃ s : State, ∃ r : RxFrame, ∃ hd : Heard, ∃ m : MacHeader, ∃ x : Nat, (s.blk.takesFrame typeTime r 27 x hd m)
      ∧ (byteAt (hd.body 27) 0 = 1) ∧ ((s.blk.node x).depth = 1) ∧ ((s.blk.ext x).time.syncSent = true) ∧
      (byteAt (hd.body 27) 1 = (s.blk.ext x).time.seqT)) ∧
    (∃ s : State, ∃ r : RxFrame, ∃ hd : Heard, ∃ m : MacHeader, ∃ x : Nat, ∃ y : Nat, (s.blk.takesFrame typeTime r
      11 x hd m) ∧ (byteAt (hd.body 11) 0 = 3) ∧ (s.blk.indexOf (leAt (hd.body 11) 3 3 % 2 ^ 20) = some y) ∧
      ((s.blk.node y).parent = (s.blk.node x).short)) ∧
    (∃ s : State, ∃ r : RxFrame, ∃ hd : Heard, ∃ m : MacHeader, ((s.blk.receive typeMap r).2 = some (hd, m)) ∧
      (fcsOk hd.mac 113 = false)) ∧
    (∃ s : State, ∃ r : RxFrame, ∃ c ∈ [Instr.mapReportReceived r, .neighReceived r, .rrepReceived r,
      .rcMissReceived r, .delayReqReceived r, .timeReportReceived r], (s.blk.heardOn r.lane r.info = none)) := by
  refine ⟨⟨hearing [(7, aNode)] [(Reg.SND_CTRL_ENABLE, 1)] (hears (fchOf typeMap (aMapMac))), aFrame (aMapMac), aHeard
      typeMap (aMapMac), aHeader, 7, ⟨⟨?_, ?_, map_frame_passes, ?_, ?_⟩, ?_⟩⟩,
    ⟨hearing [(7, aRelay), (8, aChild)] [] (hears (fchOf typeRoute (macOf aHeader (0 :: [1, 8, 0, 0, 50, 3, 1])))),
      aFrame (macOf aHeader (0 :: [1, 8, 0, 0, 50, 3, 1])), aHeard typeRoute (macOf aHeader (0 :: [1, 8, 0, 0,
      50, 3, 1])), aHeader, 7, by unfold Block.takesFrame; decide +kernel⟩,
    ⟨hearing [(7, aRelay), (8, aChild)] [] (hears (fchOf typeRoute (macOf aHeader ([7, 8, 0, 0] ++ [1, 8, 0, 0, 50,
      3, 1])))), aFrame (macOf aHeader ([7, 8, 0, 0] ++ [1, 8, 0, 0, 50, 3, 1])), aHeard typeRoute (macOf
      aHeader ([7, 8, 0, 0] ++ [1, 8, 0, 0, 50, 3, 1])), aHeader, 7,
      by unfold Block.takesFrame; decide +kernel⟩,
    ⟨hearing [(7, aRelay), (8, { aChild with relay := true })] [] (hears (fchOf typeRoute (macOf aHeader [5, 8, 0,
      0, 3]))), aFrame (macOf aHeader [5, 8, 0, 0, 3]), aHeard typeRoute (macOf aHeader [5, 8, 0, 0, 3]),
      aHeader, 7, 8, by unfold Block.takesFrame; decide +kernel⟩,
    ⟨hearing [(7, aNode)] [] fun b => hears (fchOf typeTime (macOf aHeader ([1, 4] ++ List.replicate 25 0)))
      (withExt { NodeExt.reset with time := { TimeRec.reset with syncSent := true, seqT := 4 } } b), aFrame
      (macOf aHeader ([1, 4] ++ List.replicate 25 0)), aHeard typeTime (macOf aHeader ([1, 4] ++ List.replicate
      25 0)), aHeader, 7, by unfold Block.takesFrame; decide +kernel⟩,
    ⟨hearing [(7, aRelay), (8, aChild)] [] (hears (fchOf typeTime (macOf aHeader [3, 0, 0, 8, 0, 0, 9, 0, 0, 0,
      0]))), aFrame (macOf aHeader [3, 0, 0, 8, 0, 0, 9, 0, 0, 0, 0]), aHeard typeTime (macOf aHeader [3, 0, 0,
      8, 0, 0, 9, 0, 0, 0, 0]), aHeader, 7, 8, by unfold Block.takesFrame; decide +kernel⟩,
    ⟨hearing [(7, aNode)] [(Reg.SND_CTRL_ENABLE, 1)] (hears (fchOf typeMap (aHeader.toBytes))), aFrame
      (aHeader.toBytes), aHeard typeMap (aHeader.toBytes), aHeader, ?_⟩,
    ⟨hearing [(7, aNode)], aFrame ([]), .neighReceived (aFrame []), ?_, ?_⟩⟩ <;> decide +kernel

/-- States that meet the hypotheses of `Obligations.GaspsAndRelayedCairns`. -/
theorem witness_gasps_and_relayed_cairns :
    (∃ s : State, ∃ g : GaspFrame, ∃ hd : Heard, (s.blk.heardOn g.lane [] = some hd) ∧ (hd.type = 15) ∧
      (s.blk.standsBy hd.port = false) ∧ let short := bitsAt hd.frame.bits 4 20;
      let copy := s.blk.mac.gasps.any fun p => p.1 == short && (hd.reception.bearing - p.2).toNat < 2097152;
      (copy = false) ∧ (s.blk.on Reg.MAC_GASP_ENABLE = true)) ∧
    (∃ s : State, ∃ g : GaspFrame, ∃ hd : Heard, (s.blk.heardOn g.lane [] = some hd) ∧ (hd.type = 15) ∧
      (s.blk.standsBy hd.port = false) ∧ let short := bitsAt hd.frame.bits 4 20;
      let copy := s.blk.mac.gasps.any fun p => p.1 == short && (hd.reception.bearing - p.2).toNat < 2097152;
      (copy = false) ∧ (s.blk.on Reg.MAC_GASP_ENABLE = false)) ∧
    (∃ s : State, ∃ g : GaspFrame, ∃ hd : Heard, (s.blk.heardOn g.lane [] = some hd) ∧ (hd.type = 15) ∧
      (s.blk.standsBy hd.port = false) ∧ let short := bitsAt hd.frame.bits 4 20;
      let copy := s.blk.mac.gasps.any fun p => p.1 == short && (hd.reception.bearing - p.2).toNat < 2097152;
      (copy = true)) ∧
    (∃ s : State, ∃ g : GaspFrame, (s.blk.heardOn g.lane [] = none)) ∧
    (∃ s : State, ∃ c : CairnC, ∃ node : NodeIx, ∃ hd : Heard, (s.blk.heardOn c.lane [] = some hd) ∧ (hd.type =
      typeCairnC) ∧ let start := hd.frame.sample0; let sf := superframeOf start;
      let inSlot (p : Nat × Node) : Prop := s.blk.monitors p.1 sf = true ∧ s.blk.triadOf p.1 = hd.triad ∧ hd.sb = (if p.2.rcBand = 1 then 0 else 3) ∧ near512 start (s.blk.slotStart p.2 sf) = true;
      ((node.toNat, s.blk.node node.toNat) ∈ s.blk.trv.nodes) ∧ (inSlot (node.toNat, s.blk.node node.toNat)) ∧
      ((∀ p ∈ s.blk.trv.nodes, inSlot p → p.1 = node.toNat)) ∧ (s.blk.gaspClose hd.triad = none) ∧
      (s.blk.standsBy hd.port = false) ∧ (bitsAt hd.frame.bits 14 3 = hd.triad) ∧ (bitsAt hd.frame.bits 17 4 =
      1) ∧ (bitsAt hd.frame.bits 4 10 = sf % 1024)) ∧
    (∃ s : State, ∃ c : CairnC, (s.blk.heardOn c.lane [] = none)) ∧
    (∃ s : State, ∃ node : NodeIx, (s.blk.monitors node.toNat s.blk.superframe = true) ∧ ((∀ y ∈ s.blk.mac.txs, ∀
      p ∈ y.ports, p / 3 ≠ s.blk.triadOf node.toNat)) ∧ ((∀ y ∈ s.blk.brg.spans, y.received = true ∨ y.port /
      3 ≠ s.blk.triadOf node.toNat)) ∧ (s.blk.standsBy (s.blk.route node.toNat).port = false) ∧ (ahead
      (s.blk.slotStart (s.blk.node node.toNat) s.blk.superframe + 512) s.blk.brg.now = false)) ∧
    (∃ s : State, ∃ node : NodeIx, (s.blk.monitors node.toNat s.blk.superframe = false ∨ ahead (s.blk.slotStart
      (s.blk.node node.toNat) s.blk.superframe + 512) s.blk.brg.now = true)) := by
  refine ⟨⟨hearing [(7, aNode)] ([(Reg.MAC_GASP_ENABLE, 1), (Reg.MAC_GASP_QUEUE, 3)] ++ rxQueue) fun b => hears (aFch (15
      + 16 * 7)) { b with mac := { b.mac with gasps := [(8, 306000)] } }, { lane := 5, snr := 40 }, heardOf
      (aFch (15 + 16 * 7)) [], ?_⟩,
    ⟨hearing [(7, aNode)] [(Reg.MAC_GASP_ENABLE, 0)] fun b => hears (aFch (15 + 16 * 7))
      { b with mac := { b.mac with gasps := [] } }, { lane := 5, snr := 40 }, heardOf (aFch (15 + 16 * 7)) [],
      ?_⟩,
    ⟨hearing [(7, aNode)] [] fun b => hears (aFch (15 + 16 * 7))
      { b with mac := { b.mac with gasps := [(7, 306000)] } }, { lane := 5, snr := 40 }, heardOf (aFch (15 + 16
      * 7)) [], ?_⟩,
    ⟨hearing [(7, aNode)], { lane := 5, snr := 40 }, ?_⟩,
    ⟨hearing [(7, { aRelay with rcBand := 1, orphan := true, rcMiss := 2 })] [(Reg.MAC_SF_CTRL_RC_PERIOD, 0)] fun b
      => hears (aCairnC) { b with mac := { b.mac with gasps := [] } }, { lane := 5 }, 7, heardOf aCairnC [],
      ?_⟩,
    ⟨hearing [(7, aNode)], { lane := 5 }, ?_⟩,
    ⟨hearing [(7, { aRelay with rcBand := 1, orphan := true, rcMiss := 2 })] [(Reg.MAC_SF_CTRL_RC_PERIOD, 0)], 7,
      ?_⟩,
    ⟨hearing [(7, aNode)], 7, ?_⟩⟩ <;> decide +kernel

/-- States that meet the hypotheses of `Obligations.RoutesChangeAtEff`. -/
theorem witness_routes_change_at_eff :
    (∃ s : State, ∃ node : NodeIx, let x := node.toNat; ∃ best, ∃ sf, (s.blk.home = true) ∧ ((s.blk.node x).state
      = 2) ∧ ((s.blk.node x).pinned = false) ∧ ((s.blk.ext x).change = none) ∧ (s.blk.on Reg.TRV_CTRL_ROUTE_EN
      = true) ∧ (s.blk.indexOf (s.blk.node x).parent = none) ∧ (s.blk.bestOf x (s.blk.candidates x) = some
      best) ∧ (best ≠ (s.blk.node x).parent) ∧ (s.blk.metricBy x best * 100 ≤ s.blk.metricBy x (s.blk.node
      x).parent * (100 - s.blk.get Reg.TRV_ROUTE_CTRL_HYST)) ∧ ((s.blk.ext x).better = some (best, 2, sf)) ∧
      (sf ≠ s.blk.superframe)) ∧
    (∃ s : State, (s.blk.home = false)) ∧
    (∃ s : State, ∃ node : NodeIx, let x := node.toNat; ∃ c, ((s.blk.ext x).change = some c) ∧ (s.blk.home = true)
      ∧ (c.eff ≤ s.blk.superframe) ∧ (c.owed = [])) ∧
    (∃ s : State, ∃ node : NodeIx, let x := node.toNat; ∃ c, ((s.blk.ext x).change = some c) ∧ (s.blk.home = true)
      ∧ (c.eff ≤ s.blk.superframe) ∧ (c.owed ≠ [])) ∧
    (∃ s : State, ∃ node : NodeIx, let x := node.toNat; ∃ c, ((s.blk.ext x).change = some c) ∧ (s.blk.superframe <
      c.eff)) ∧
    (∃ s : State, ∃ node : NodeIx, let x := node.toNat; ∃ p, (s.blk.trv.repairs.find? (fun q => q.relay == x) =
      some p) ∧ (s.blk.home = true) ∧ (p.since + s.blk.get Reg.TRV_REPAIR_REPAIR_SF ≤ s.blk.superframe)) ∧
    (∃ s : State, ∃ node : NodeIx, let x := node.toNat; ∃ p, (s.blk.trv.repairs.find? (fun q => q.relay == x) =
      some p) ∧ (s.blk.home = true) ∧ (s.blk.superframe < p.since + s.blk.get Reg.TRV_REPAIR_REPAIR_SF)) := by
  refine ⟨⟨hearing [(7, { aNode with link := 60000, metric := 60000, parent := 0xFFFFF, rxPort := 31, depth := 3 }), (8,
      { aNode with short := 8, relay := true })] [(Reg.TRV_CTRL_ROUTE_EN, 1)] (withExt
      { NodeExt.reset with neigh := [{ short := 8, snr := 200, rel := 0, sf := 0 }], better := some (8, 2, 9) }),
      7, 8, 9, ?_⟩,
    ⟨hearing [(7, aNode)] [(Reg.TRV_PART_ROLE, 1)], ?_⟩,
    ⟨hearing [(7, { aNode with parent := 8, depth := 2 })] [] (withExt
      { NodeExt.reset with change := some { parent := 0, alt := addrBroadcast, depth := 1, rver := 2, eff := 0, owed := [] } }),
      7, { parent := 0, alt := addrBroadcast, depth := 1, rver := 2, eff := 0, owed := [] }, ?_⟩,
    ⟨hearing [(7, { aNode with parent := 8, depth := 2 })] [] (withExt
      { NodeExt.reset with change := some { parent := 0, alt := addrBroadcast, depth := 1, rver := 2, eff := 0, owed := [3] } }),
      7, { parent := 0, alt := addrBroadcast, depth := 1, rver := 2, eff := 0, owed := [3] }, ?_⟩,
    ⟨hearing [(7, aNode)] [] (withExt
      { NodeExt.reset with change := some { parent := 0, alt := addrBroadcast, depth := 1, rver := 2, eff := 1, owed := [] } }),
      7, { parent := 0, alt := addrBroadcast, depth := 1, rver := 2, eff := 1, owed := [] }, ?_⟩,
    ⟨hearing [(7, { aRelay with orphan := true }), (8, aChild)] [(Reg.TRV_REPAIR_REPAIR_SF, 0)] fun b =>
      { b with trv := { b.trv with repairs := [{ relay := 7, since := 0, subtree := [8], moved := [] }] } }, 7,
      { relay := 7, since := 0, subtree := [8], moved := [] }, ?_⟩,
    ⟨hearing [(7, aRelay)] [(Reg.TRV_REPAIR_REPAIR_SF, 4)] fun b =>
      { b with trv := { b.trv with repairs := [{ relay := 7, since := 0, subtree := [8], moved := [] }] } }, 7,
      { relay := 7, since := 0, subtree := [8], moved := [] }, ?_⟩⟩ <;> decide +kernel

/-- States that meet the hypotheses of `Obligations.NodeCommandsAct`. -/
theorem witness_node_commands_act :
    (∃ s : State, (s.blk.accepts = true) ∧ let x := s.blk.get Reg.TRV_CMD_NODE_INDEX; let n := s.blk.node x;
      (s.blk.home = true) ∧ (n.state ≠ 0)) ∧
    (∃ s : State, (s.blk.accepts = true) ∧ let x := s.blk.get Reg.TRV_CMD_NODE_INDEX; let n := s.blk.node x;
      (s.blk.home = true) ∧ (n.state ≠ 0) ∧ (n.state ≠ 4)) ∧
    (∃ s : State, (s.blk.accepts = true) ∧ let x := s.blk.get Reg.TRV_CMD_NODE_INDEX; let n := s.blk.node x;
      (s.blk.home = true) ∧ (n.state = 4)) ∧
    (∃ s : State, (s.blk.accepts = true) ∧ let x := s.blk.get Reg.TRV_CMD_NODE_INDEX; let n := s.blk.node x;
      (s.blk.home = true) ∧ (n.state = 2) ∧ (s.blk.eligible x (s.blk.get Reg.TRV_CMD_ARG_PARENT) = true) ∧
      ((s.blk.ext x).change = none)) ∧
    (∃ s : State, (s.blk.accepts = true) ∧ let x := s.blk.get Reg.TRV_CMD_NODE_INDEX; let n := s.blk.node x;
      (s.blk.home = true) ∧ (n.state = 2) ∧ (s.blk.eligible x (s.blk.get Reg.TRV_CMD_ARG_PARENT) = false)) ∧
    (∃ s : State, (s.blk.accepts = true) ∧ let x := s.blk.get Reg.TRV_CMD_NODE_INDEX; let n := s.blk.node x;
      (s.blk.home = true) ∧ (n.state = 2) ∧ (n.pinned = true)) ∧
    (∃ s : State, (s.blk.accepts = true) ∧ let x := s.blk.get Reg.TRV_CMD_NODE_INDEX; let n := s.blk.node x;
      (s.blk.home = true) ∧ (n.state = 2) ∧ (n.relay = true) ∧ (n.orphan = false)) ∧
    (∃ s : State, (s.blk.accepts = true) ∧ let x := s.blk.get Reg.TRV_CMD_NODE_INDEX; let n := s.blk.node x;
      (s.blk.home = true) ∧ (n.state = 2)) ∧
    (∃ s : State, (s.blk.accepts = true) ∧ let y := s.blk.get Reg.DTM_TIME_NODE_INDEX; (s.blk.home = true) ∧
      ((s.blk.node y).state = 2) ∧ ((s.blk.node y).depth = 1)) ∧
    (∃ s : State, (s.blk.accepts = true) ∧ (s.blk.home = false)) ∧
    (∃ s : State, (s.blk.accepts = true) ∧ (s.blk.home = false)) := by
  refine ⟨⟨hearing [(7, aRelay), (8, aChild)] [(Reg.TRV_CMD_NODE_INDEX, 7), (Reg.DTM_TIME_NODE_INDEX, 7)], ?_⟩,
    ⟨hearing [(7, { aRelay with state := 3 }), (8, aChild)] [(Reg.TRV_CMD_NODE_INDEX, 7), (Reg.DTM_TIME_NODE_INDEX,
      7)], ?_⟩,
    ⟨hearing [(7, { aRelay with state := 4 })] [(Reg.TRV_CMD_NODE_INDEX, 7), (Reg.DTM_TIME_NODE_INDEX, 7)], ?_⟩,
    ⟨hearing [(7, { aNode with parent := 8, depth := 2 }), (8, { aNode with short := 8, relay := true })]
      [(Reg.TRV_CMD_NODE_INDEX, 7), (Reg.DTM_TIME_NODE_INDEX, 7), (Reg.TRV_CMD_ARG_PARENT, 0)], ?_⟩,
    ⟨hearing [(7, aRelay), (8, aChild)] [(Reg.TRV_CMD_NODE_INDEX, 7), (Reg.DTM_TIME_NODE_INDEX, 7),
      (Reg.TRV_CMD_ARG_PARENT, 8)], ?_⟩,
    ⟨hearing [(7, { aNode with pinned := true })] [(Reg.TRV_CMD_NODE_INDEX, 7), (Reg.DTM_TIME_NODE_INDEX, 7)], ?_⟩,
    ⟨hearing [(7, aRelay), (8, aChild)] [(Reg.TRV_CMD_NODE_INDEX, 7), (Reg.DTM_TIME_NODE_INDEX, 7)], ?_⟩,
    ⟨hearing [(7, aRelay), (8, aChild)] [(Reg.TRV_CMD_NODE_INDEX, 7), (Reg.DTM_TIME_NODE_INDEX, 7)] (withExt
      { NodeExt.reset with omegas := [4] }), ?_⟩,
    ⟨hearing [(7, aRelay), (8, aChild)] [(Reg.TRV_CMD_NODE_INDEX, 7), (Reg.DTM_TIME_NODE_INDEX, 7),
      (Reg.DTM_TIME_ARG_CORR, 0xFFFFFFFF)] (withExt
      { NodeExt.reset with time := { TimeRec.reset with asym := true, refValid := true, frozen := true } }),
      ?_⟩,
    ⟨hearing [(7, aRelay), (8, aChild)] [(Reg.TRV_CMD_NODE_INDEX, 7), (Reg.DTM_TIME_NODE_INDEX, 7),
      (Reg.TRV_PART_ROLE, 1)], ?_⟩,
    ⟨hearing [(7, aRelay), (8, aChild)] [(Reg.TRV_CMD_NODE_INDEX, 7), (Reg.DTM_TIME_NODE_INDEX, 7),
      (Reg.TRV_PART_ROLE, 1)], ?_⟩⟩ <;> decide +kernel

/-- States that meet the hypotheses of `Obligations.TableEntriesAreLatched`. -/
theorem witness_table_entries_are_latched :
    (∃ s : State, (s.blk.accepts = true)) ∧
    (∃ s : State, (s.blk.accepts = false)) ∧
    (∃ s : State, ∃ m : Fin 32, (s.blk.readable m)) ∧
    (∃ s : State, ∃ word : Fin 16, ∃ m : Fin 32, (s.blk.readable m) ∧ (word ≠ 0)) := by
  refine ⟨⟨hearing [(7, aNode)], ?_⟩,
    ⟨inState .load, ?_⟩,
    ⟨hearing [(7, aNode)], 0, by unfold Block.readable; decide +kernel⟩,
    ⟨hearing [(7, aNode)] [] fun b => { b with trv := { b.trv with latches := [(0, List.replicate 64 5)] } }, 3, 0,
      by unfold Block.readable; decide +kernel⟩⟩ <;> decide +kernel

/-- States that meet the hypotheses of `Obligations.QueueCommandsComplete`. -/
theorem witness_queue_commands_complete :
    (∃ s : State, ∃ ring : QNum, ∃ c : Cmd, let r := ring.toNat; (s.blk.runs r 0 c)) ∧
    (∃ s : State, ∃ ring : QNum, ∃ c : Cmd, let r := ring.toNat; (s.blk.runs r 6 c)) ∧
    (∃ s : State, ∃ ring : QNum, ∃ c : Cmd, let r := ring.toNat; let q := c.queue; (s.blk.hostProduced q = true) ∧
      (s.blk.runs r 3 c)) ∧
    (∃ s : State, ∃ ring : QNum, ∃ c : Cmd, let r := ring.toNat; let q := c.queue; (s.blk.hostProduced q = true) ∧
      (s.blk.on (Reg.QD_BASE_HI_MARK_VALID q) = true) ∧ (s.blk.runs r 5 c)) ∧
    (∃ s : State, ∃ ring : QNum, ∃ c : Cmd, let r := ring.toNat; let q := c.queue; (s.blk.hostProduced q = true) ∧
      (s.blk.on (Reg.QD_BASE_HI_MARK_VALID q) = true) ∧ (s.blk.runs r 4 c) ∧ (s.blk.takenPastMark q = true)) ∧
    (∃ s : State, ∃ ring : QNum, ∃ c : Cmd, let r := ring.toNat; let q := c.queue; (s.blk.hostProduced q = true) ∧
      (s.blk.on (Reg.QD_BASE_HI_MARK_VALID q) = true) ∧ (s.blk.runs r 4 c) ∧ (s.blk.takenPastMark q = false) ∧
      ((∀ x ∈ s.blk.strata.sends, s.blk.qKind x.cmd.cpl = 2)) ∧ ((∀ e ∈ s.blk.strata.backlog, s.blk.qKind
      e.ring = 2))) ∧
    (∃ s : State, ∃ ring : QNum, ∃ c : Cmd, let r := ring.toNat; let q := c.queue; (s.blk.hostProduced q = true) ∧
      (s.blk.on (Reg.QD_BASE_HI_MARK_VALID q) = false) ∧ (s.blk.runs r 5 c)) ∧
    (∃ s : State, ∃ ring : QNum, ∃ c : Cmd, let r := ring.toNat; let q := c.queue; (s.blk.hostProduced q = true) ∧
      (s.blk.on (Reg.QD_BASE_HI_MARK_VALID q) = false) ∧ (s.blk.runs r 4 c)) ∧
    (∃ s : State, ∃ ring : QNum, ∃ c : Cmd, let r := ring.toNat; let q := c.queue; (s.blk.hostProduced q = false)
      ∧ (s.blk.runs r 3 c)) ∧
    (∃ s : State, ∃ ring : QNum, ∃ c : Cmd, let r := ring.toNat; let q := c.queue; (s.blk.hostProduced q = false)
      ∧ (s.blk.runs r 4 c)) ∧
    (∃ s : State, ∃ ring : QNum, ∃ c : Cmd, let r := ring.toNat; let q := c.queue; (s.blk.hostProduced q = false)
      ∧ (s.blk.runs r 5 c)) ∧
    (∃ s : State, ∃ ring : QNum, ∃ c : Cmd, let r := ring.toNat; let q := c.queue; (s.blk.runs r 7 c) ∧
      (s.blk.deviceProduced q = true) ∧ (s.blk.on (Reg.QD_BASE_HI_MARK_VALID q) = false) ∧ ((∀ x ∈
      s.blk.strata.recvs, x.cmd.queue ≠ q))) ∧
    (∃ s : State, ∃ ring : QNum, ∃ c : Cmd, let r := ring.toNat; let q := c.queue; (s.blk.runs r 7 c) ∧
      (s.blk.deviceProduced q = true) ∧ (s.blk.on (Reg.QD_BASE_HI_MARK_VALID q) = true)) ∧
    (∃ s : State, ∃ ring : QNum, ∃ c : Cmd, let r := ring.toNat; let q := c.queue; (s.blk.runs r 7 c) ∧
      (s.blk.deviceProduced q = false)) ∧
    (∃ s : State, ∃ ring : QNum, ∃ c : Cmd, let r := ring.toNat; ∃ a : Nat, ∃ n : Nat, (a = c.le 0x10 4) ∧ (n =
      c.le 0x20 4) ∧ (s.blk.runs r 0x50 c) ∧ (s.blk.flashRefuses c a 0x10000 (a % 0x10000 == 0) = none)) ∧
    (∃ s : State, ∃ ring : QNum, ∃ c : Cmd, let r := ring.toNat; ∃ a : Nat, ∃ n : Nat, (a = c.le 0x10 4) ∧ (n =
      c.le 0x20 4) ∧ ∃ st, (s.blk.runs r 0x50 c) ∧ (s.blk.flashRefuses c a 0x10000 (a % 0x10000 == 0) = some
      st)) ∧
    (∃ s : State, ∃ ring : QNum, ∃ c : Cmd, let r := ring.toNat; ∃ a : Nat, ∃ n : Nat, ∃ d : List Byte, (a = c.le
      0x10 4) ∧ (n = c.le 0x20 4) ∧ (s.blk.runs r 0x51 c) ∧ (s.blk.flashRefuses c a n (flashSpanOk a n) =
      none) ∧ (d.length = n)) ∧
    (∃ s : State, ∃ ring : QNum, ∃ c : Cmd, let r := ring.toNat; ∃ a : Nat, ∃ n : Nat, (a = c.le 0x10 4) ∧ (n =
      c.le 0x20 4) ∧ (s.blk.runs r 0x52 c) ∧ (c.fn = 0) ∧ (flashSpanOk a n = true) ∧ (s.blk.get
      Reg.CFG_STATUS_SHADOW ≠ 1)) := by
  refine ⟨⟨running [aCmd 0 0] [], 1, aCmd 0 0, by unfold Block.runs Block.postsTo; decide +kernel⟩,
    ⟨running [aCmd 6 3] [(Reg.QD_BASE_HI_MARK_VALID 3, 1), (whole (Reg.QD_MARK 3), 2), (whole (Reg.QD_WR 3), 6)], 1,
      aCmd 6 3, by unfold Block.runs Block.postsTo; decide +kernel⟩,
    ⟨running [aCmd 3 3] [(whole (Reg.QD_WR 3), 6)], 1, aCmd 3 3,
      by unfold Block.runs Block.postsTo; decide +kernel⟩,
    ⟨running [aCmd 5 3] [(Reg.QD_BASE_HI_MARK_VALID 3, 1), (whole (Reg.QD_MARK 3), 2), (whole (Reg.QD_WR 3), 6)], 1,
      aCmd 5 3, by unfold Block.runs Block.postsTo; decide +kernel⟩,
    ⟨running [aCmd 4 3] [(Reg.QD_BASE_HI_MARK_VALID 3, 1), (whole (Reg.QD_MARK 3), 2), (whole (Reg.QD_WR 3), 6),
      (whole (Reg.QD_RD 3), 4)], 1, aCmd 4 3, by unfold Block.runs Block.postsTo; decide +kernel⟩,
    ⟨running [aCmd 4 3] [(Reg.QD_BASE_HI_MARK_VALID 3, 1), (whole (Reg.QD_MARK 3), 2), (whole (Reg.QD_WR 3), 6)] fun
      b =>
      { b with strata := { b.strata with sends := [ { aSend with queue := 3, ptr := 1 }, { aSend with queue := 3, ptr := 3, cmd := aCmd 1 3 }] } },
      1, aCmd 4 3, by unfold Block.runs Block.postsTo; decide +kernel⟩,
    ⟨running [aCmd 5 3] [], 1, aCmd 5 3, by unfold Block.runs Block.postsTo; decide +kernel⟩,
    ⟨running [aCmd 4 3] [], 1, aCmd 4 3, by unfold Block.runs Block.postsTo; decide +kernel⟩,
    ⟨running [aCmd 3 4] [], 1, aCmd 3 4, by unfold Block.runs Block.postsTo; decide +kernel⟩,
    ⟨running [aCmd 4 4] [], 1, aCmd 4 4, by unfold Block.runs Block.postsTo; decide +kernel⟩,
    ⟨running [aCmd 5 4] [], 1, aCmd 5 4, by unfold Block.runs Block.postsTo; decide +kernel⟩,
    ⟨running [aCmd 7 4] [(whole (Reg.QD_WR 4), 6)], 1, aCmd 7 4,
      by unfold Block.runs Block.postsTo; decide +kernel⟩,
    ⟨running [aCmd 7 4] [(Reg.QD_BASE_HI_MARK_VALID 4, 1)], 1, aCmd 7 4,
      by unfold Block.runs Block.postsTo; decide +kernel⟩,
    ⟨running [aCmd 7 3] [], 1, aCmd 7 3, by unfold Block.runs Block.postsTo; decide +kernel⟩,
    ⟨running [aCmd 80 0 (toLe 4 0x300000 ++ List.replicate 12 0 ++ toLe 4 4)] [] fun b =>
      { b with host := { b.host with flash := [(0x300001, 0x0F)] } }, 1, aCmd 80 0 (toLe 4 0x300000 ++
      List.replicate 12 0 ++ toLe 4 4), 0x300000, 4, by unfold Block.runs Block.postsTo; decide +kernel⟩,
    ⟨running [aCmd 80 0 (toLe 4 0x300001 ++ List.replicate 12 0 ++ toLe 4 4)] [] fun b =>
      { b with host := { b.host with flash := [(0x300001, 0x0F)] } }, 1, aCmd 80 0 (toLe 4 0x300001 ++
      List.replicate 12 0 ++ toLe 4 4), 0x300001, 4, ?_, ?_, 2,
      by unfold Block.runs Block.postsTo; decide +kernel⟩,
    ⟨running [aCmd 81 0 (toLe 4 0x300000 ++ List.replicate 12 0 ++ toLe 4 4)] [] fun b =>
      { b with host := { b.host with flash := [(0x300001, 0x0F)] } }, 1, aCmd 81 0 (toLe 4 0x300000 ++
      List.replicate 12 0 ++ toLe 4 4), 0x300000, 4, [1, 2, 0xF8, 4],
      by unfold Block.runs Block.postsTo; decide +kernel⟩,
    ⟨running [aCmd 82 0 (toLe 4 0x300000 ++ toLe 4 0 ++ toLe 8 0x4000 ++ toLe 4 4)] [] fun b =>
      { b with host := { b.host with flash := [(0x300001, 0x0F)] } }, 1, aCmd 82 0 (toLe 4 0x300000 ++ toLe 4 0
      ++ toLe 8 0x4000 ++ toLe 4 4), 0x300000, 4, by unfold Block.runs Block.postsTo; decide +kernel⟩⟩ <;> decide +kernel

/-- States that meet the hypotheses of `Obligations.SendsAndDeliveries`. -/
theorem witness_sends_and_deliveries :
    (∃ s : State, ∃ ring : QNum, ∃ c : Cmd, ∃ d : List Byte, let q := c.queue; let len := c.le 0x18 2;
      let final := c.le 0x1C 4;
      let bytes := transmitHeader len (c.le 0x1A 1 % 8) final c.fn (c.flags.getLsbD 0) c.seq ++ slice d 0 len;
      (s.blk.runs ring.toNat 1 c) ∧ (s.blk.hostProduced q = true) ∧ (s.blk.qKind q = 3) ∧ (1 ≤ len) ∧ (len ≤
      2047) ∧ (finalOk final = true) ∧ (s.blk.on (Reg.QD_CFG_ENABLE q) = true) ∧ (s.blk.sendAllowed final =
      true) ∧ (s.blk.qFill q + s.blk.unitsOf q bytes.length ≤ s.blk.qSize q) ∧ (s.blk.qPriority q = false)) ∧
    (∃ s : State, ∃ ring : QNum, ∃ c : Cmd, ∃ d : List Byte, let q := c.queue; let len := c.le 0x18 2;
      let final := c.le 0x1C 4;
      let bytes := transmitHeader len (c.le 0x1A 1 % 8) final c.fn (c.flags.getLsbD 0) c.seq ++ slice d 0 len;
      (s.blk.runs ring.toNat 1 c) ∧ (s.blk.hostProduced q = true) ∧ (s.blk.qKind q = 3) ∧ (1 ≤ len) ∧ (len ≤
      2047) ∧ (finalOk final = true) ∧ (s.blk.on (Reg.QD_CFG_ENABLE q) = true) ∧ (s.blk.sendAllowed final =
      true) ∧ (s.blk.qSize q < s.blk.qFill q + s.blk.unitsOf q bytes.length)) ∧
    (∃ s : State, ∃ ring : QNum, ∃ c : Cmd, let q := c.queue; let len := c.le 0x18 2; let final := c.le 0x1C 4;
      (s.blk.runs ring.toNat 1 c) ∧ (s.blk.hostProduced q = true) ∧ (s.blk.qKind q = 3) ∧ (1 ≤ len) ∧ (len ≤
      2047) ∧ (finalOk final = true) ∧ (s.blk.on (Reg.QD_CFG_ENABLE q) = false)) ∧
    (∃ s : State, ∃ ring : QNum, ∃ c : Cmd, let final := c.le 0x1C 4; (s.blk.runs ring.toNat 1 c) ∧ (finalOk final
      = false)) ∧
    (∃ s : State, ∃ ring : QNum, ∃ c : Cmd, let q := c.queue; (s.blk.runs ring.toNat 2 c) ∧ (s.blk.deviceProduced
      q = true) ∧ (recvLenOk (c.le 0x18 4) = true) ∧ (s.blk.on (Reg.QD_CFG_ENABLE q) = true)) ∧
    (∃ s : State, ∃ ring : QNum, ∃ c : Cmd, (s.blk.runs ring.toNat 2 c) ∧ (recvLenOk (c.le 0x18 4) = false)) ∧
    (∃ s : State, ∃ qn : QNum, ∃ r, (s.blk.strata.recvs.find? (fun x => x.cmd.queue == qn.toNat) = some r) ∧
      (s.blk.postsTo r.cmd.fn) ∧ (s.blk.qKind r.cmd.cpl = 2) ∧ (s.blk.qKind qn.toNat = 3) ∧
      let most := r.cmd.le 0x18 4; let pos := if r.started then r.pos else s.blk.qRd qn.toNat;
      let w := s.blk.wordAt qn.toNat pos; (s.blk.qPriority qn.toNat = false) ∧ (pos ≠ s.blk.qWr qn.toNat) ∧
      (w.prov = false) ∧ (w.control = false) ∧ (r.prov = false) ∧ (r.bytes + 8 ≤ most) ∧ (w.eop = true)) ∧
    (∃ s : State, ∃ qn : QNum, ∃ r, (s.blk.strata.recvs.find? (fun x => x.cmd.queue == qn.toNat) = some r) ∧
      (s.blk.postsTo r.cmd.fn) ∧ (s.blk.qKind r.cmd.cpl = 2) ∧ (s.blk.qKind qn.toNat = 3) ∧
      let most := r.cmd.le 0x18 4; let pos := if r.started then r.pos else s.blk.qRd qn.toNat;
      let w := s.blk.wordAt qn.toNat pos; (s.blk.qPriority qn.toNat = false) ∧ (pos ≠ s.blk.qWr qn.toNat) ∧
      (w.prov = false) ∧ (w.control = false) ∧ (r.prov = false) ∧ (r.bytes + 8 ≤ most) ∧ (w.eop = false) ∧
      (r.bytes + 16 ≤ most)) ∧
    (∃ s : State, ∃ qn : QNum, ∃ r, (s.blk.strata.recvs.find? (fun x => x.cmd.queue == qn.toNat) = some r) ∧
      (s.blk.postsTo r.cmd.fn) ∧ (s.blk.qKind r.cmd.cpl = 2) ∧ (s.blk.qKind qn.toNat = 3) ∧
      let most := r.cmd.le 0x18 4; ∃ e, (s.blk.qPriority qn.toNat = true) ∧ (nextEntry (s.blk.q
      qn.toNat).entries (s.blk.on (Reg.QD_CFG_PROV_OK qn.toNat)) = some e) ∧ (e.bytes.length ≤ most) ∧
      (e.control = false) ∧ (e.prov = false)) ∧
    (∃ s : State, ∃ qn : QNum, ∃ r, (s.blk.strata.recvs.find? (fun x => x.cmd.queue == qn.toNat) = some r) ∧
      (s.blk.postsTo r.cmd.fn) ∧ (s.blk.qKind r.cmd.cpl = 2) ∧ (s.blk.qKind qn.toNat = 3) ∧
      let most := r.cmd.le 0x18 4; ∃ e, (s.blk.qPriority qn.toNat = true) ∧ (nextEntry (s.blk.q
      qn.toNat).entries (s.blk.on (Reg.QD_CFG_PROV_OK qn.toNat)) = some e) ∧ (most < e.bytes.length)) := by
  refine ⟨⟨running [aCmd 1 3 sendOperands] [(Reg.CX_CTRL_LINK_REQUIRED, 0)] fun b =>
      { b with trv := { b.trv with nodes := [(7, aNode)] } }, 1, aCmd 1 3 sendOperands, [1, 2],
      by unfold Block.runs Block.postsTo; decide +kernel⟩,
    ⟨running [aCmd 1 3 sendOperands] [(Reg.CX_CTRL_LINK_REQUIRED, 0), (whole (Reg.QD_WR 3), 6)] fun b =>
      { b with trv := { b.trv with nodes := [(7, aNode)] } }, 1, aCmd 1 3 sendOperands, [1, 2],
      by unfold Block.runs Block.postsTo; decide +kernel⟩,
    ⟨running [aCmd 1 3 sendOperands] [(Reg.QD_CFG_ENABLE 3, 0)], 1, aCmd 1 3 sendOperands,
      by unfold Block.runs Block.postsTo; decide +kernel⟩,
    ⟨running [aCmd 1 3 (toLe 8 0 ++ toLe 2 2 ++ [1, 0] ++ toLe 4 0xFFFFF)] [], 1, aCmd 1 3 (toLe 8 0 ++ toLe 2 2 ++
      [1, 0] ++ toLe 4 0xFFFFF), by unfold Block.runs Block.postsTo; decide +kernel⟩,
    ⟨running [(aRecv 1048576).cmd] [], 1, (aRecv 1048576).cmd, by unfold Block.runs Block.postsTo; decide +kernel⟩,
    ⟨running [(aRecv 12).cmd] [], 1, (aRecv 12).cmd, by unfold Block.runs Block.postsTo; decide +kernel⟩,
    ⟨running [] [(whole (Reg.QD_WR 4), 2)] fun b => withQ 4
      { QueueSt.empty with words := [(0, { data := 5, tag := 0x38 })] } (withRecvs [aRecv 8] b), 4, aRecv 8,
      by unfold Block.postsTo; decide +kernel⟩,
    ⟨running [] [(whole (Reg.QD_WR 4), 2)] fun b => withQ 4
      { QueueSt.empty with words := [(0, { data := 5, tag := 0x18 })] } (withRecvs [aRecv 16] b), 4, aRecv 16,
      by unfold Block.postsTo; decide +kernel⟩,
    ⟨running [] [(Reg.QD_CFG_MODE 4, 1), (whole (Reg.QD_WR 4), 1)] fun b => withQ 4
      { QueueSt.empty with entries := [{ ptr := 0, cells := 1, prio := 3, bytes := List.replicate 18 1, prov := false, control := false, poison := false, consumed := false }] }
      (withRecvs [aRecv 24] b), 4, aRecv 24, ?_, by unfold Block.postsTo; decide +kernel, ?_, ?_,
      { ptr := 0, cells := 1, prio := 3, bytes := List.replicate 18 1, prov := false, control := false, poison := false, consumed := false },
      ?_⟩,
    ⟨running [] [(Reg.QD_CFG_MODE 4, 1), (whole (Reg.QD_WR 4), 1)] fun b => withQ 4
      { QueueSt.empty with entries := [{ ptr := 0, cells := 1, prio := 3, bytes := List.replicate 18 1, prov := false, control := false, poison := false, consumed := false }] }
      (withRecvs [aRecv 16] b), 4, aRecv 16, ?_, by unfold Block.postsTo; decide +kernel, ?_, ?_,
      { ptr := 0, cells := 1, prio := 3, bytes := List.replicate 18 1, prov := false, control := false, poison := false, consumed := false },
      ?_⟩⟩ <;> decide +kernel

/-- States that meet the hypotheses of `Obligations.HostTrafficIsTaken`. -/
theorem witness_host_traffic_is_taken :
    (∃ s : State, ∃ fn : Fin 16, ∃ q : Nat, ∃ d : Fin 1020, ∃ v : Word, (s.blk.reaches fn = true) ∧ ((s.blk.rings
      fn)[d.val]? = some q) ∧ (s.blk.qKind q = 1) ∧ ((v - s.blk.qRd q).toNat ≤ s.blk.qSize q) ∧ ((v -
      s.blk.qWr q).toNat < 2 ^ 31)) ∧
    (∃ s : State, ∃ fn : Fin 16, ∃ q : Nat, ∃ d : Fin 1020, ∃ v : Word, (s.blk.reaches fn = true) ∧ ((s.blk.rings
      fn)[d.val]? = some q) ∧ (s.blk.qKind q = 1) ∧ (s.blk.qSize q < (v - s.blk.qRd q).toNat)) ∧
    (∃ s : State, ∃ fn : Fin 16, ∃ q : Nat, ∃ d : Fin 1020, ∃ v : Word, (s.blk.reaches fn = true) ∧ ((s.blk.rings
      fn)[d.val]? = some q) ∧ (s.blk.qKind q = 2) ∧ ((v - s.blk.qRd q).toNat ≤ s.blk.qFill q)) ∧
    (∃ s : State, ∃ fn : Fin 16, ∃ q : Nat, ∃ p : Fin 256, ∃ v1 : BitVec 8, ∃ v2 : BitVec 16, ∃ v4 : BitVec 32,
      (s.blk.reaches fn = true) ∧ ((s.blk.streams fn)[p.val]? = some q) ∧ (s.blk.on (Reg.QD_CFG_ENABLE q) =
      true) ∧ let st := s.blk.q q; ∃ x ∈ [(Instr.wpB1 fn p v1, toLe 1 v1.toNat), (.wpB2 fn p v2, toLe 2
      v2.toNat), (.wpB4 fn p v4, toLe 4 v4.toNat)], (st.held = none) ∧ (st.openBytes.length + x.2.length < 8)
      ∧ (s.blk.hostUnits q x.2.length ≤ s.blk.qSize q)) ∧
    (∃ s : State, ∃ fn : Fin 16, ∃ q : Nat, ∃ p : Fin 256, ∃ v1 : BitVec 8, ∃ v2 : BitVec 16, ∃ v4 : BitVec 32,
      (s.blk.reaches fn = true) ∧ ((s.blk.streams fn)[p.val]? = some q) ∧ (s.blk.on (Reg.QD_CFG_ENABLE q) =
      true) ∧ let st := s.blk.q q; ∃ x ∈ [(Instr.wpB1 fn p v1, toLe 1 v1.toNat), (.wpB2 fn p v2, toLe 2
      v2.toNat), (.wpB4 fn p v4, toLe 4 v4.toNat)], (st.held = none) ∧ (st.openBytes.length + x.2.length = 8)
      ∧ (s.blk.hostUnits q x.2.length ≤ s.blk.qSize q)) ∧
    (∃ s : State, ∃ fn : Fin 16, ∃ q : Nat, ∃ p : Fin 256, ∃ v1 : BitVec 8, ∃ v2 : BitVec 16, ∃ v4 : BitVec 32,
      (s.blk.reaches fn = true) ∧ ((s.blk.streams fn)[p.val]? = some q) ∧ (s.blk.on (Reg.QD_CFG_ENABLE q) =
      true) ∧ let st := s.blk.q q; ∃ x ∈ [(Instr.wpB1 fn p v1, toLe 1 v1.toNat), (.wpB2 fn p v2, toLe 2
      v2.toNat), (.wpB4 fn p v4, toLe 4 v4.toNat)], (st.held = none) ∧ (s.blk.qSize q < s.blk.hostUnits q
      x.2.length)) ∧
    (∃ s : State, ∃ fn : Fin 16, ∃ q : Nat, ∃ p : Fin 256, (s.blk.reaches fn = true) ∧ ((s.blk.streams fn)[p.val]?
      = some q) ∧ (s.blk.on (Reg.QD_CFG_ENABLE q) = true) ∧ let st := s.blk.q q; (st.held = none)) ∧
    (∃ s : State, ∃ fn : Fin 16, ∃ q : Nat, ∃ p : Fin 256, (s.blk.reaches fn = true) ∧ ((s.blk.streams fn)[p.val]?
      = some q) ∧ (s.blk.on (Reg.QD_CFG_ENABLE q) = true) ∧ let st := s.blk.q q; ∃ w, (st.held = some w)) ∧
    (∃ s : State, ∃ fn : Fin 16, ∃ q : Nat, ∃ p : Fin 256, (s.blk.reaches fn = true) ∧ ((s.blk.streams fn)[p.val]?
      = some q) ∧ (s.blk.on (Reg.QD_CFG_ENABLE q) = true) ∧ let st := s.blk.q q; (st.fresh = true) ∧
      (st.openBytes ≠ []) ∧ (st.held = none)) ∧
    (∃ s : State, ∃ fn : Fin 16, ∃ q : Nat, ∃ p : Fin 256, (s.blk.reaches fn = true) ∧ ((s.blk.streams fn)[p.val]?
      = some q) ∧ (s.blk.on (Reg.QD_CFG_ENABLE q) = true) ∧ let st := s.blk.q q; ∃ w, (st.fresh = true) ∧
      (st.openBytes = []) ∧ (st.held = some w)) ∧
    (∃ s : State, ∃ fn : Fin 16, ∃ q : Nat, ∃ p : Fin 256, (s.blk.reaches fn = true) ∧ ((s.blk.streams fn)[p.val]?
      = some q) ∧ (s.blk.on (Reg.QD_CFG_ENABLE q) = true) ∧ let st := s.blk.q q; (st.fresh = false)) ∧
    (∃ s : State, ∃ fn : Fin 16, ∃ ring : QNum, ∃ cpl : Nat, ∃ es : List Byte, (s.blk.fetches ring.toNat = some
      (fn.val, cpl)) ∧ let c := cmdOf fn ring.toNat cpl es; (c.seq = s.blk.qRd ring.toNat) ∧ (knownOpcode
      c.opcode = true) ∧ ((queueOpcode c.opcode = true → s.blk.qOwner c.queue = some fn.val)) ∧ ((queueOpcode
      c.opcode = false → c.queue = 0))) ∧
    (∃ s : State, ∃ fn : Fin 16, ∃ ring : QNum, ∃ cpl : Nat, ∃ es : List Byte, (s.blk.fetches ring.toNat = some
      (fn.val, cpl)) ∧ let c := cmdOf fn ring.toNat cpl es; (c.seq ≠ s.blk.qRd ring.toNat) ∧ ((∀ e ∈
      s.blk.strata.backlog, e.fn ≠ fn.val))) ∧
    (∃ s : State, ∃ fn : Fin 16, ∃ p ∈ [(Instr.convPause fn, fn.val), (.qfConvPause fn, 0)], (s.blk.reaches p.2 =
      true) ∧ (s.blk.frozen fn = false) ∧ (s.blk.bit Reg.QF_PAUSED_FN fn = false)) ∧
    (∃ s : State, ∃ fn : Fin 16, ((s.blk.conv fn).busy = true)) ∧
    (∃ s : State, ∃ fn : Fin 16, ∃ replay, ∃ drop, ∃ p ∈ [(Instr.convResume fn replay drop, fn.val),
      (.qfConvResume fn replay drop, 0)], (s.blk.reaches p.2 = true) ∧ (s.blk.bit Reg.QF_PAUSED_FN fn = true)
      ∧ (s.blk.cutOff fn = false) ∧ (s.blk.bme fn = true)) ∧
    (∃ s : State, ∃ fn : Fin 16, ∃ replay, ∃ drop, ∃ p ∈ [(Instr.convResume fn replay drop, fn.val),
      (.qfConvResume fn replay drop, 0)], (s.blk.reaches p.2 = true) ∧ (s.blk.bit Reg.QF_PAUSED_FN fn =
      false)) ∧
    (∃ s : State, ∃ fn : Fin 16, ((s.blk.conv fn).busy = true ∨ s.blk.frozen fn = true) ∧ (s.blk.bit
      Reg.GLB_WEDGED_FN fn = false)) ∧
    (∃ s : State, ∃ sev : Fin 8, (s.blk.reaches 0 = true) ∧ (sev.val ≤ 2)) ∧
    (∃ s : State, ∃ sev : Fin 8, (s.blk.reaches 0 = true) ∧ (2 < sev.val)) := by
  refine ⟨⟨running [] [(whole (Reg.QD_WR 1), 0xFFFFFFFE), (whole (Reg.QD_RD 1), 0xFFFFFFFC)], 0, 1, 0, 12, ?_⟩,
    ⟨running [], 0, 1, 0, 17, ?_⟩,
    ⟨running [] [(whole (Reg.QD_WR 2), 6)], 0, 2, 1, 6, ?_⟩,
    ⟨running [] [] (withQ 5 { QueueSt.empty with openBytes := [1, 2, 3, 4, 5], sopNext := true }), 0, 5, 0, 7,
      0x807, 0x0A090807, ?_, ?_, ?_, (.wpB2 0 0 0x807, toLe 2 0x807), ?_, ?_⟩,
    ⟨running [] [] (withQ 5 { QueueSt.empty with openBytes := [1, 2, 3, 4], openSop := true }), 0, 5, 0, 7, 0x807,
      0x0A090807, ?_, ?_, ?_, (.wpB4 0 0 0x0A090807, toLe 4 0x0A090807), ?_, ?_⟩,
    ⟨running [] [(whole (Reg.QD_WR 5), 8)], 0, 5, 0, 7, 0x807, 0x0A090807, ?_, ?_, ?_, (.wpB1 0 0 7, toLe 1 7), ?_,
      ?_⟩,
    ⟨running [], 0, 5, 0, ?_⟩,
    ⟨running [] [] (withQ 5 { QueueSt.empty with held := some { data := 9, tag := 0x18 }, fresh := true }), 0, 5, 0,
      ?_, ?_, ?_, { data := 9, tag := 0x18 }, ?_⟩,
    ⟨running [] [] (withQ 5 { QueueSt.empty with openBytes := [1, 2], openSop := true, fresh := true }), 0, 5, 0,
      ?_⟩,
    ⟨running [] [] (withQ 5 { QueueSt.empty with held := some { data := 9, tag := 0x18 }, fresh := true }), 0, 5, 0,
      ?_, ?_, ?_, { data := 9, tag := 0x18 }, ?_⟩,
    ⟨running [], 0, 5, 0, ?_⟩,
    ⟨running [] [(whole (Reg.QD_WR 1), 9), (whole (Reg.QD_RD 1), 5)], 0, 1, 2, anEntry, ?_⟩,
    ⟨running [] [(whole (Reg.QD_WR 1), 9), (whole (Reg.QD_RD 1), 6)], 0, 1, 2, anEntry, ?_⟩,
    ⟨running [], 0, (.qfConvPause 0, 0), ?_, ?_⟩,
    ⟨running [] [] fun b => b.setConv 0 { busy := true, status := 0 }, 0, ?_⟩,
    ⟨running [aCmd 0 0] [(Reg.QF_PAUSED_FN, 1), (whole (Reg.QD_WR 1), 2)] (withRecvs [aRecv 64]), 0, true, true,
      (.convResume 0 true true, 0), ?_, ?_⟩,
    ⟨running [], 0, true, true, (.convResume 0 true true, 0), ?_, ?_⟩,
    ⟨running [] [] fun b => b.setConv 0 { busy := true, status := 0 }, 0, ?_⟩,
    ⟨running [], 2, ?_⟩,
    ⟨running [], 3, ?_⟩⟩ <;> decide +kernel

/-- States that meet the hypotheses of `Obligations.KeysAndContexts`. -/
theorem witness_keys_and_contexts :
    (∃ s : State, ∃ ring : QNum, ∃ c : Cmd, ∃ page : Nat, let n := c.le 0x14 4; let x := s.blk.ctx page n;
      (s.blk.pageRuns ring.toNat 0x30 c page) ∧ let y := openedCtx c page n; (s.blk.openOk page n y (c.le 0x34
      1) = true) ∧ (x.state = 0) ∧ ((page = linkPage → n < g3CtxBase → (s.blk.node (n / 2)).state ≠ 0 ∧
      (s.blk.node (n / 2)).long = y.long)) ∧ ((page = linkPage → g3CtxBase ≤ n → s.blk.slotServes y.slot =
      false))) ∧
    (∃ s : State, ∃ ring : QNum, ∃ c : Cmd, ∃ page : Nat, let n := c.le 0x14 4; let x := s.blk.ctx page n;
      (s.blk.pageRuns ring.toNat 0x30 c page) ∧ let y := openedCtx c page n; (s.blk.openOk page n y (c.le 0x34
      1) = true) ∧ (x.state ≠ 0)) ∧
    (∃ s : State, ∃ ring : QNum, ∃ c : Cmd, ∃ page : Nat, let n := c.le 0x14 4; (s.blk.pageRuns ring.toNat 0x30 c
      page) ∧ let y := openedCtx c page n; (s.blk.openOk page n y (c.le 0x34 1) = false)) ∧
    (∃ s : State, ∃ ring : QNum, ∃ c : Cmd, ∃ page : Nat, let n := c.le 0x14 4; let x := s.blk.ctx page n;
      (s.blk.pageRuns ring.toNat 0x31 c page) ∧ (n < ctxCount page) ∧ (x.state ≠ 3)) ∧
    (∃ s : State, ∃ ring : QNum, ∃ c : Cmd, ∃ page : Nat, let n := c.le 0x14 4; let x := s.blk.ctx page n;
      (s.blk.pageRuns ring.toNat 0x31 c page) ∧ (n < ctxCount page) ∧ (x.state = 3)) ∧
    (∃ s : State, ∃ ring : QNum, ∃ c : Cmd, ∃ page : Nat, let n := c.le 0x14 4; let x := s.blk.ctx page n;
      (s.blk.pageRuns ring.toNat 0x32 c page) ∧ (n < ctxCount page) ∧ (x.state = 1 ∨ x.state = 2) ∧ (x.gen ≠
      0xFFFFFF)) ∧
    (∃ s : State, ∃ ring : QNum, ∃ c : Cmd, ∃ page : Nat, let n := c.le 0x14 4; let x := s.blk.ctx page n;
      (s.blk.pageRuns ring.toNat 0x32 c page) ∧ (n < ctxCount page) ∧ (x.state = 1 ∨ x.state = 2) ∧ (x.gen =
      0xFFFFFF)) ∧
    (∃ s : State, ∃ ring : QNum, ∃ c : Cmd, ∃ page : Nat, let n := c.le 0x14 4; let x := s.blk.ctx page n;
      (s.blk.pageRuns ring.toNat 0x32 c page) ∧ (n < ctxCount page) ∧ (x.state = 0 ∨ x.state = 3)) ∧
    (∃ s : State, ∃ ring : QNum, ∃ c : Cmd, ∃ page : Nat, let n := c.le 0x14 4; (s.blk.pageRuns ring.toNat 0x35 c
      page) ∧ (n < 48) ∧ (c.le 0x20 4 = 24) ∧ (s.blk.permits linkPage 3 = true)) ∧
    (∃ s : State, ∃ ring : QNum, ∃ c : Cmd, ∃ page : Nat, (s.blk.pageRuns ring.toNat 0x36 c page) ∧ (1 ≤ c.le 0x20
      4) ∧ (c.le 0x20 4 ≤ 256) ∧ (s.blk.cx.drbgStopped = false)) ∧
    (∃ s : State, ∃ ring : QNum, ∃ c : Cmd, ∃ page : Nat, (s.blk.pageRuns ring.toNat 0x36 c page) ∧ (1 ≤ c.le 0x20
      4) ∧ (c.le 0x20 4 ≤ 256) ∧ (s.blk.cx.drbgStopped = true)) ∧
    (∃ s : State, ∃ ring : QNum, ∃ c : Cmd, (s.blk.runs ring.toNat 0x40 c) ∧ let unit := c.le 0x10 1;
      let flags := c.le 0x11 1; let len := c.le 0x20 4; (unit ≤ 19) ∧ (flags < 4) ∧ (1 ≤ len) ∧ (len ≤ 65536)
      ∧ ((unit < 16 → s.blk.channelUsed unit = true)) ∧ ∃ f, (s.blk.unitDef unit = some f)) ∧
    (∃ s : State, ∃ ring : QNum, ∃ c : Cmd, (s.blk.runs ring.toNat 0x40 c) ∧ let unit := c.le 0x10 1;
      let flags := c.le 0x11 1; let len := c.le 0x20 4; (unit ≤ 19) ∧ (flags < 4) ∧ (1 ≤ len) ∧ (len ≤ 65536)
      ∧ ((unit < 16 → s.blk.channelUsed unit = true)) ∧ (s.blk.unitDef unit = none)) ∧
    (∃ s : State, ∃ ring : QNum, ∃ c : Cmd, (s.blk.runs ring.toNat 0x40 c) ∧ let unit := c.le 0x10 1; (19 < unit)) ∧
    (∃ s : State, ∃ p : Fin 17, ∃ v : Word, (s.blk.pageReached p = true) ∧ (v.toNat % 2 ^ 19 < ctxCount linkPage)) := by
  refine ⟨⟨running [aCmd 48 0 (cxOps 0 0 0 255 0 0 0 (openBits 3 0x10 1 63) 0x1122334455667788)]
      [(Reg.CX_PAGE_CFG_PURPOSES 0, 3), (Reg.CX_PAGE_CFG_PURPOSES 16, 7)], 1, aCmd 48 0 (cxOps 0 0 0 255 0 0 0
      (openBits 3 0x10 1 63) 0x1122334455667788), 0,
      by unfold Block.pageRuns Block.runs Block.postsTo; decide +kernel⟩,
    ⟨running [aCmd 48 0 (cxOps 0 0 0 255 0 0 0 (openBits 3 0x10 1 63) 0x1122334455667788)]
      [(Reg.CX_PAGE_CFG_PURPOSES 0, 3), (Reg.CX_PAGE_CFG_PURPOSES 16, 7)] (withCtx 0 255 (aCtx 3 4)), 1, aCmd 48
      0 (cxOps 0 0 0 255 0 0 0 (openBits 3 0x10 1 63) 0x1122334455667788), 0,
      by unfold Block.pageRuns Block.runs Block.postsTo; decide +kernel⟩,
    ⟨running [aCmd 48 0 (cxOps 0 0 0 256 0 0 0 (openBits 3 0x10 1 63) 5)] [(Reg.CX_PAGE_CFG_PURPOSES 0, 3),
      (Reg.CX_PAGE_CFG_PURPOSES 16, 7)], 1, aCmd 48 0 (cxOps 0 0 0 256 0 0 0 (openBits 3 0x10 1 63) 5), 0,
      by unfold Block.pageRuns Block.runs Block.postsTo; decide +kernel⟩,
    ⟨running [aCmd 49 0 (cxOps 0 0 0 5 0 0 0 [] 0)] [(Reg.CX_PAGE_CFG_PURPOSES 0, 3), (Reg.CX_PAGE_CFG_PURPOSES 16,
      7)] (withCtx 0 5 (aCtx 1 4)), 1, aCmd 49 0 (cxOps 0 0 0 5 0 0 0 [] 0), 0,
      by unfold Block.pageRuns Block.runs Block.postsTo; decide +kernel⟩,
    ⟨running [aCmd 49 0 (cxOps 0 0 0 5 0 0 0 [] 0)] [(Reg.CX_PAGE_CFG_PURPOSES 0, 3), (Reg.CX_PAGE_CFG_PURPOSES 16,
      7)] (withCtx 0 5 (aCtx 3 4)), 1, aCmd 49 0 (cxOps 0 0 0 5 0 0 0 [] 0), 0,
      by unfold Block.pageRuns Block.runs Block.postsTo; decide +kernel⟩,
    ⟨running [aCmd 50 0 (cxOps 0 0 0 5 0 0 0 [] 0)] [(Reg.CX_PAGE_CFG_PURPOSES 0, 3), (Reg.CX_PAGE_CFG_PURPOSES 16,
      7)] (withCtx 0 5 (aCtx 2 0xFFFFFE)), 1, aCmd 50 0 (cxOps 0 0 0 5 0 0 0 [] 0), 0,
      by unfold Block.pageRuns Block.runs Block.postsTo; decide +kernel⟩,
    ⟨running [aCmd 50 0 (cxOps 0 0 0 5 0 0 0 [] 0)] [(Reg.CX_PAGE_CFG_PURPOSES 0, 3), (Reg.CX_PAGE_CFG_PURPOSES 16,
      7)] (withCtx 0 5 (aCtx 1 0xFFFFFF)), 1, aCmd 50 0 (cxOps 0 0 0 5 0 0 0 [] 0), 0,
      by unfold Block.pageRuns Block.runs Block.postsTo; decide +kernel⟩,
    ⟨running [aCmd 50 0 (cxOps 0 0 0 5 0 0 0 [] 0)] [(Reg.CX_PAGE_CFG_PURPOSES 0, 3), (Reg.CX_PAGE_CFG_PURPOSES 16,
      7)] (withCtx 0 5 (aCtx 3 4)), 1, aCmd 50 0 (cxOps 0 0 0 5 0 0 0 [] 0), 0,
      by unfold Block.pageRuns Block.runs Block.postsTo; decide +kernel⟩,
    ⟨running [aCmd 53 0 (cxOps 16 0 0 47 0x1000 24 0 [] 0)] [(Reg.CX_PAGE_CFG_PURPOSES 0, 3),
      (Reg.CX_PAGE_CFG_PURPOSES 16, 7)], 1, aCmd 53 0 (cxOps 16 0 0 47 0x1000 24 0 [] 0), 16,
      by unfold Block.pageRuns Block.runs Block.postsTo; decide +kernel⟩,
    ⟨running [aCmd 54 0 (cxOps 0 0 0 0 0 256 0 [] 0x4000)] [(Reg.CX_PAGE_CFG_PURPOSES 0, 3),
      (Reg.CX_PAGE_CFG_PURPOSES 16, 7)], 1, aCmd 54 0 (cxOps 0 0 0 0 0 256 0 [] 0x4000), 0,
      by unfold Block.pageRuns Block.runs Block.postsTo; decide +kernel⟩,
    ⟨running [aCmd 54 0 (cxOps 0 0 0 0 0 1 0 [] 0x4000)] [(Reg.CX_PAGE_CFG_PURPOSES 0, 3), (Reg.CX_PAGE_CFG_PURPOSES
      16, 7)] fun b => { b with cx := { b.cx with drbgStopped := true } }, 1, aCmd 54 0 (cxOps 0 0 0 0 0 1 0 []
      0x4000), 0, by unfold Block.pageRuns Block.runs Block.postsTo; decide +kernel⟩,
    ⟨running [aCmd 64 0 (cxOps 16 2 0 0 0x1000 2 0 [] 0)] [(Reg.CX_PAGE_CFG_PURPOSES 0, 3),
      (Reg.CX_PAGE_CFG_PURPOSES 16, 7)], 1, aCmd 64 0 (cxOps 16 2 0 0 0x1000 2 0 [] 0),
      by unfold Block.runs Block.postsTo; decide +kernel, ?_, ?_, ?_, ?_, ?_, fixedUnit 0, ?_⟩,
    ⟨running [aCmd 64 0 (cxOps 0 0 0 0 0x1000 2 0 [] 0)] [(Reg.CX_PAGE_CFG_PURPOSES 0, 3), (Reg.CX_PAGE_CFG_PURPOSES
      16, 7), (Reg.CV_STAT_RETIRED, 1), (Reg.CV_CH_CFG_FALLBACK 0, 4), (Reg.CV_CH_CFG_WIDTH 0, 32)], 1, aCmd 64
      0 (cxOps 0 0 0 0 0x1000 2 0 [] 0), by unfold Block.runs Block.postsTo; decide +kernel⟩,
    ⟨running [aCmd 64 0 (cxOps 20 0 0 0 0x1000 2 0 [] 0)] [(Reg.CX_PAGE_CFG_PURPOSES 0, 3),
      (Reg.CX_PAGE_CFG_PURPOSES 16, 7)], 1, aCmd 64 0 (cxOps 20 0 0 0 0x1000 2 0 [] 0),
      by unfold Block.runs Block.postsTo; decide +kernel⟩,
    ⟨running [] [] (withCtx 3 5 (aCtx 1 4)), 3, 5, ?_⟩⟩ <;> decide +kernel

/-- States that meet the hypotheses of `Obligations.EncryptionAndTags`. -/
theorem witness_encryption_and_tags :
    (∃ s : State, ∃ ring : QNum, ∃ c : Cmd, ∃ page : Nat, ∃ e : Fin 4, let n := c.le 0x14 4;
      let x := s.blk.ctx page n; (s.blk.pageRuns ring.toNat 0x33 c page) ∧ (c.dataOk page = true) ∧ (x.state =
      1) ∧ (s.blk.cx.drbgStopped = false) ∧ (s.blk.cx.waiting = []) ∧ (s.blk.sendAhead (c.le 0x11 1) = false)
      ∧ (s.blk.idleEngine (c.le 0x11 1) = some e.val)) ∧
    (∃ s : State, ∃ ring : QNum, ∃ c : Cmd, ∃ page : Nat, let n := c.le 0x14 4; let x := s.blk.ctx page n;
      (s.blk.pageRuns ring.toNat 0x33 c page) ∧ (c.dataOk page = true) ∧ (x.state = 2)) ∧
    (∃ s : State, ∃ ring : QNum, ∃ c : Cmd, ∃ page : Nat, let n := c.le 0x14 4; let x := s.blk.ctx page n;
      (s.blk.pageRuns ring.toNat 0x33 c page) ∧ (c.dataOk page = true) ∧ (x.state = 0 ∨ x.state = 3)) ∧
    (∃ s : State, ∃ ring : QNum, ∃ c : Cmd, ∃ page : Nat, ∃ a : List Byte, ∃ d : List Byte, ∃ e : Fin 4,
      let n := c.le 0x14 4; let x := s.blk.ctx page n; let aad := slice a 0 (c.le 0x12 2);
      let idle := ∀ i, i < 4 → (s.blk.engine i).running = none; (s.blk.pageRuns ring.toNat 0x34 c page) ∧
      (c.dataOk page = true) ∧ (s.blk.decryptQueue c.queue = true) ∧ (x.state ≠ 0) ∧ (s.blk.on
      (Reg.QD_CFG_ENABLE c.queue) = true) ∧ (s.blk.cx.drbgStopped = false) ∧ (s.blk.cx.waiting = []) ∧
      (s.blk.sendAhead (c.le 0x11 1) = false) ∧ (idle) ∧ (s.blk.idleEngine (c.le 0x11 1) = some e.val) ∧
      (s.blk.on (Reg.QD_BASE_HI_MARK_VALID c.queue) = false) ∧ ((∀ fn, s.blk.qOwner c.queue = some fn →
      s.blk.frozen fn = false)) ∧ (s.blk.qPriority c.queue = false) ∧
      let out := s.blk.hostPlain page x (c.le 0x30 3) (c.le 0x24 4) aad d (c.le 0x20 4); (s.blk.qFill c.queue
      + (out.1.length + 7) / 8 + 1 ≤ s.blk.qSize c.queue)) ∧
    (∃ s : State, ∃ ring : QNum, ∃ c : Cmd, ∃ page : Nat, let n := c.le 0x14 4; let x := s.blk.ctx page n;
      (s.blk.pageRuns ring.toNat 0x34 c page) ∧ (c.dataOk page = true) ∧ (s.blk.decryptQueue c.queue = true) ∧
      (x.state = 0)) ∧
    (∃ s : State, ∃ qn : QNum, ∃ c : Cmd, ∃ e : Fin 4, ∃ second : Fin 4, ∃ o : CipherOp, ∃ p : Produce,
      ((s.blk.engine e).running = some o) ∧ (o.work = .decrypt c p) ∧ ((∀ i, i < 4 → i ≠ e → (s.blk.engine
      i).running = none)) ∧ (o.queue = qn.toNat) ∧ ((s.blk.q qn.toNat).live = some p) ∧ ((s.blk.q
      qn.toNat).waiting = []) ∧ (s.blk.cx.waiting = []) ∧ (second ≠ e) ∧ (s.blk.engineAlive second = true) ∧
      (o.page ≤ 16) ∧ (s.blk.postsTo c.fn) ∧ (s.blk.qKind c.cpl = 2) ∧ (s.blk.deviceProduced qn.toNat = true)
      ∧ ((∀ fn, s.blk.qOwner qn.toNat = some fn → s.blk.frozen fn = false)) ∧ (o.tagOk = true)) ∧
    (∃ s : State, ∃ qn : QNum, ∃ c : Cmd, ∃ e : Fin 4, ∃ second : Fin 4, ∃ o : CipherOp, ∃ p : Produce,
      ((s.blk.engine e).running = some o) ∧ (o.work = .decrypt c p) ∧ ((∀ i, i < 4 → i ≠ e → (s.blk.engine
      i).running = none)) ∧ (o.queue = qn.toNat) ∧ ((s.blk.q qn.toNat).live = some p) ∧ ((s.blk.q
      qn.toNat).waiting = []) ∧ (s.blk.cx.waiting = []) ∧ (second ≠ e) ∧ (s.blk.engineAlive second = true) ∧
      (o.page ≤ 16) ∧ (s.blk.postsTo c.fn) ∧ (s.blk.qKind c.cpl = 2) ∧ (s.blk.deviceProduced qn.toNat = true)
      ∧ ((∀ fn, s.blk.qOwner qn.toNat = some fn → s.blk.frozen fn = false)) ∧ (o.tagOk = false)) ∧
    (∃ s : State, ∃ qn : QNum, ∃ c : Cmd, ∃ e : Fin 4, ∃ second : Fin 4, ∃ o : CipherOp, ∃ p : Produce,
      ((s.blk.engine e).running = some o) ∧ (o.work = .decrypt c p) ∧ ((∀ i, i < 4 → i ≠ e → (s.blk.engine
      i).running = none)) ∧ (o.queue = qn.toNat) ∧ ((s.blk.q qn.toNat).live = some p) ∧ ((s.blk.q
      qn.toNat).waiting = []) ∧ (s.blk.cx.waiting = []) ∧ (second ≠ e) ∧ (s.blk.engineAlive second = true) ∧
      (o.page ≤ 16) ∧ (s.blk.postsTo c.fn) ∧ (s.blk.qKind c.cpl = 2) ∧ (s.blk.deviceProduced qn.toNat = true)
      ∧ ((∀ fn, s.blk.qOwner qn.toNat = some fn → s.blk.frozen fn = false)) ∧ (o.tagOk = true)) ∧
    (∃ s : State, ∃ qn : QNum, ((s.blk.q qn.toNat).live = none)) ∧
    (∃ s : State, ∃ e : Fin 4, ∃ o, (firstOp (s.blk.engine e).suspended = some o) ∧ (s.blk.engineAlive e = true) ∧
      ((s.blk.engine e).running = none) ∧ (s.blk.cx.drbgStopped = false) ∧ (s.blk.sendAhead o.prio = false) ∧
      ((∀ w ∈ s.blk.cx.waiting, o.prio ≤ w.prio))) ∧
    (∃ s : State, ∃ e : Fin 4, (s.blk.engineAlive e = false ∨ (s.blk.engine e).running.isSome = true ∨
      (s.blk.engine e).suspended = [])) := by
  refine ⟨⟨running [aCmd 51 0 (cxOps 0 7 2 5 0x1000 1 0 [] 0x4000)] [(Reg.CX_PAGE_CFG_PURPOSES 0, 3),
      (Reg.CX_PAGE_CFG_PURPOSES 16, 7), (Reg.CX_ENGINE_STAT_ALIVE, 15)] (withCtx 0 5 (aCtx 1 4)), 1, aCmd 51 0
      (cxOps 0 7 2 5 0x1000 1 0 [] 0x4000), 0, 0,
      by unfold Block.pageRuns Block.runs Block.postsTo; decide +kernel⟩,
    ⟨running [aCmd 51 0 (cxOps 0 7 2 5 0x1000 1 0 [] 0x4000)] [(Reg.CX_PAGE_CFG_PURPOSES 0, 3),
      (Reg.CX_PAGE_CFG_PURPOSES 16, 7), (Reg.CX_ENGINE_STAT_ALIVE, 15)] (withCtx 0 5 (aCtx 2 4)), 1, aCmd 51 0
      (cxOps 0 7 2 5 0x1000 1 0 [] 0x4000), 0,
      by unfold Block.pageRuns Block.runs Block.postsTo; decide +kernel⟩,
    ⟨running [aCmd 51 0 (cxOps 0 7 2 5 0x1000 1 0 [] 0x4000)] [(Reg.CX_PAGE_CFG_PURPOSES 0, 3),
      (Reg.CX_PAGE_CFG_PURPOSES 16, 7), (Reg.CX_ENGINE_STAT_ALIVE, 15)] (withCtx 0 5 (aCtx 3 4)), 1, aCmd 51 0
      (cxOps 0 7 2 5 0x1000 1 0 [] 0x4000), 0,
      by unfold Block.pageRuns Block.runs Block.postsTo; decide +kernel⟩,
    ⟨running [aDecrypt] [(Reg.CX_PAGE_CFG_PURPOSES 0, 3), (Reg.CX_PAGE_CFG_PURPOSES 16, 7),
      (Reg.CX_ENGINE_STAT_ALIVE, 15)] (withCtx 0 5 (aCtx 3 4)), 1, aDecrypt, 0, [], [1, 2, 3, 4], 0,
      ⟨by unfold Block.pageRuns Block.runs Block.postsTo; decide +kernel, ?_, ?_, ?_, ?_, ?_, ?_, ?_, ?_, ?_,
      ?_, owner_cut (f := 0) (?_) (?_), ?_, Nat.le_trans (Nat.add_le_add_right (Nat.add_le_add_left
      (Nat.div_le_div_right (Nat.add_le_add_right (host_plain_one _ _ _ _ _ _ _ _ _ (?_) (?_)) 7)) _) 1) (?_)⟩⟩,
    ⟨running [aDecrypt] [(Reg.CX_PAGE_CFG_PURPOSES 0, 3), (Reg.CX_PAGE_CFG_PURPOSES 16, 7),
      (Reg.CX_ENGINE_STAT_ALIVE, 15)], 1, aDecrypt, 0,
      by unfold Block.pageRuns Block.runs Block.postsTo; decide +kernel⟩,
    ⟨deciding true true, 4, aDecrypt, 1, 2, anOp true, aProduce, ⟨?_, ?_, ?_, ?_, ?_, ?_, ?_, ?_, ?_, ?_,
      by unfold Block.postsTo; decide +kernel, ?_, ?_, owner_cut (f := 0) (?_) (?_), ?_⟩⟩,
    ⟨deciding false true, 4, aDecrypt, 1, 2, anOp false, aProduce, ⟨?_, ?_, ?_, ?_, ?_, ?_, ?_, ?_, ?_, ?_,
      by unfold Block.postsTo; decide +kernel, ?_, ?_, owner_cut (f := 0) (?_) (?_), ?_⟩⟩,
    ⟨deciding true false, 4, aDecrypt, 1, 2, anOp true, aProduce, ⟨?_, ?_, ?_, ?_, ?_, ?_, ?_, ?_, ?_, ?_,
      by unfold Block.postsTo; decide +kernel, ?_, ?_, owner_cut (f := 0) (?_) (?_), ?_⟩⟩,
    ⟨running [], 4, ?_⟩,
    ⟨running [] [(Reg.CX_ENGINE_STAT_ALIVE, 2)] fun b =>
      { b with cx := { b.cx with waiting := [anOp true], engines := [(1, { running := none, suspended := [{ anOp true with prio := 3 }, anOp false] })] } },
      1, anOp false, ?_⟩,
    ⟨running [] [(Reg.CX_ENGINE_STAT_ALIVE, 0)] fun b =>
      { b with cx := { b.cx with engines := [(1, { running := none, suspended := [anOp false] })] } }, 1, ?_⟩⟩ <;> decide +kernel

/-- States that meet the hypotheses of `Obligations.EntropyTamperAndSieve`. -/
theorem witness_entropy_tamper_and_sieve :
    (∃ s : State, (s.blk.cx.drbgStopped = false) ∧ (s.blk.reseedDue = true)) ∧
    (∃ s : State, (s.blk.cx.drbgStopped = true ∨ s.blk.reseedDue = false)) ∧
    (∃ s : State, (s.blk.get Reg.CX_RNG_STAT_FAILS < 2)) ∧
    (∃ s : State, (s.blk.get Reg.CX_RNG_STAT_FAILS = 2) ∧ (s.blk.dev = .settle ∨ s.blk.dev = .service ∨ s.blk.dev
      = .hold)) ∧
    (∃ s : State, (s.blk.cx.waiting = []) ∧ (s.blk.cx.randoms = [])) ∧
    (∃ s : State, (s.blk.cx.waiting = []) ∧ ∃ c, (s.blk.cx.randoms = [c]) ∧ (s.blk.postsTo c.fn)) ∧
    (∃ s : State, ∃ inputs : BitVec 4, let mask := inputs.toNat &&& s.blk.get Reg.CX_TAMPER_CFG_EN; (mask = 0)) ∧
    (∃ s : State, ∃ inputs : BitVec 4, let mask := inputs.toNat &&& s.blk.get Reg.CX_TAMPER_CFG_EN; (mask ≠ 0)) ∧
    (∃ s : State, ∃ inputs : BitVec 4, let mask := inputs.toNat &&& s.blk.get Reg.CX_TAMPER_CFG_EN; (mask ≠ 0)) ∧
    (∃ s : State, ∃ ch : Fin 16, ∃ va : BitVec 64, ∃ vb : BitVec 64, (s.blk.dev = .settle ∨ s.blk.dev = .service ∨
      s.blk.dev = .hold) ∧ (s.blk.channelUsed ch = true) ∧ (s.blk.bit Reg.CV_STAT_RETIRED ch = false) ∧
      (va.toNat = s.blk.checkA ch) ∧ (vb.toNat = s.blk.checkB ch)) ∧
    (∃ s : State, ∃ ch : Fin 16, ∃ va : BitVec 64, ∃ vb : BitVec 64, (s.blk.dev = .settle ∨ s.blk.dev = .service ∨
      s.blk.dev = .hold) ∧ (s.blk.channelUsed ch = true) ∧ (s.blk.bit Reg.CV_STAT_RETIRED ch = false) ∧
      (va.toNat ≠ s.blk.checkA ch ∨ vb.toNat ≠ s.blk.checkB ch)) ∧
    (∃ s : State, ∃ ch : Fin 16, (s.blk.dev = .quiet ∨ s.blk.channelUsed ch = false)) := by
  refine ⟨⟨running [] [] fun b => { b with cx := { b.cx with drbgRequests := 65536 } }, ?_⟩,
    ⟨running [] [] fun b => { b with cx := { b.cx with drbgStopped := true } }, ?_⟩,
    ⟨running [] [(Reg.CX_RNG_STAT_FAILS, 1)], ?_⟩,
    ⟨running [] [(Reg.CX_RNG_STAT_FAILS, 2)], ?_⟩,
    ⟨running [] [(Reg.CX_RNG_STAT_FAILS, 2)] fun b => { b with cx := { b.cx with drbgStopped := true } }, ?_⟩,
    ⟨running [] [] fun b =>
      { b with cx := { b.cx with drbgStopped := true, randoms := [aCmd 0x36 0 (cxOps 0 0 0 0 0 2 0 [] 0x4000)] } },
      ?_, aCmd 0x36 0 (cxOps 0 0 0 0 0 2 0 [] 0x4000), by unfold Block.postsTo; decide +kernel⟩,
    ⟨running [] [(Reg.CX_TAMPER_CFG_EN, 13)], 2, ?_⟩,
    ⟨running [] [(Reg.CX_TAMPER_CFG_EN, 2)] fun b =>
      { b with cx := { b.cx with ctxs := [(5, aCtx 1 4), (6, aCtx 3 4)], slots := [(3, [1])] } }, 2, ?_⟩,
    ⟨running [] [(Reg.CX_TAMPER_CFG_EN, 2)] fun b =>
      { b with cx := { b.cx with ctxs := [(5, aCtx 1 4), (6, aCtx 3 4)], slots := [(3, [1])] } }, 2, ?_⟩,
    ⟨running [] [(Reg.CV_CH_CFG_WIDTH 15, 64), (whole (Reg.CV_CH_CHKA_HI 15), 3), (whole (Reg.CV_CH_CHKB_LO 15),
      4)], 15, 0x300000000, 4, ?_⟩,
    ⟨running [] [(Reg.CV_CH_CFG_WIDTH 15, 64), (whole (Reg.CV_CH_CHKA_HI 15), 3), (whole (Reg.CV_CH_CHKB_LO 15), 4),
      (Reg.CV_STAT_RETIRED, 0x7FFF)], 15, 0x300000000, 5, ?_⟩,
    ⟨running [] [(Reg.CV_CH_CFG_WIDTH 15, 0)], 15, ?_⟩⟩ <;> decide +kernel

/-- States that meet the hypotheses of `Obligations.DatumKeepsTime`. -/
theorem witness_datum_keeps_time :
    (∃ s : State, (s.blk.accepts = true)) ∧
    (∃ s : State, ∃ x : Fin 2, ∃ v : Word, let incr := v.toNat * 2 ^ 32 + s.blk.get (Reg.DTM_INCR_LO_FRAC x);
      (s.blk.accepts = true) ∧ (s.blk.on (Reg.DTM_STAT_FOLLOW x) = false) ∧ (0x3FDF3B645 ≤ incr) ∧ (incr ≤
      0x4020C49BA)) ∧
    (∃ s : State, ∃ x : Fin 2, ∃ v : Word, let incr := v.toNat * 2 ^ 32 + s.blk.get (Reg.DTM_INCR_LO_FRAC x);
      (s.blk.accepts = true) ∧ (s.blk.on (Reg.DTM_STAT_FOLLOW x) = false) ∧ (incr < 0x3FDF3B645 ∨ 0x4020C49BA
      < incr)) ∧
    (∃ s : State, ∃ x : Fin 2, (s.blk.accepts = true) ∧ (s.blk.on (Reg.DTM_STAT_FOLLOW x) = true)) ∧
    (∃ s : State, ∃ x : Fin 2, let ns := s.blk.get (Reg.DTM_ADJ_NS_NS x); (s.blk.accepts = true) ∧ (s.blk.on
      (Reg.DTM_STAT_FOLLOW x) = false) ∧ (999999999 < ns)) ∧
    (∃ s : State, ∃ x : Fin 2, let d := s.blk.domain x; let amount := s.blk.adjAmount x;
      let ns := s.blk.get (Reg.DTM_ADJ_NS_NS x); (s.blk.accepts = true) ∧ (s.blk.on (Reg.DTM_STAT_FOLLOW x) =
      false) ∧ (ns ≤ 999999999) ∧ (d.slewRem = 0) ∧ (d.t < timeModulus) ∧ (amount < timeModulus) ∧ (d.t ≤
      amount ∨ s.blk.on (Reg.DTM_CTRL_STEP_BACK_OK x) = true)) ∧
    (∃ s : State, ∃ x : Fin 2, let d := s.blk.domain x; let amount := s.blk.adjAmount x;
      let ns := s.blk.get (Reg.DTM_ADJ_NS_NS x); (s.blk.accepts = true) ∧ (s.blk.on (Reg.DTM_STAT_FOLLOW x) =
      false) ∧ (ns ≤ 999999999) ∧ (d.slewRem = 0) ∧ (d.t < timeModulus) ∧ (amount < d.t) ∧ (s.blk.on
      (Reg.DTM_CTRL_STEP_BACK_OK x) = false) ∧ (d.t - amount ≤ dayUnits)) ∧
    (∃ s : State, ∃ x : Fin 2, let d := s.blk.domain x; let amount := s.blk.adjAmount x;
      let ns := s.blk.get (Reg.DTM_ADJ_NS_NS x); (s.blk.accepts = true) ∧ (s.blk.on (Reg.DTM_STAT_FOLLOW x) =
      false) ∧ (ns ≤ 999999999) ∧ (d.slewRem = 0) ∧ (d.t < timeModulus) ∧ (amount < d.t) ∧ (s.blk.on
      (Reg.DTM_CTRL_STEP_BACK_OK x) = false) ∧ (dayUnits < d.t - amount)) ∧
    (∃ s : State, ∃ x : Fin 2, let d := s.blk.domain x; let ns := s.blk.get (Reg.DTM_ADJ_NS_NS x); (s.blk.accepts
      = true) ∧ (s.blk.on (Reg.DTM_STAT_FOLLOW x) = false) ∧ (ns ≤ 999999999) ∧ (d.slewRem = 0) ∧ (d.t <
      timeModulus) ∧ (s.blk.on (Reg.DTM_ADJ_SEC_HI_NEG x) = false)) ∧
    (∃ s : State, ∃ x : Fin 2, let d := s.blk.domain x; let amount := s.blk.adjAmount x;
      let ns := s.blk.get (Reg.DTM_ADJ_NS_NS x); (s.blk.accepts = true) ∧ (s.blk.on (Reg.DTM_STAT_FOLLOW x) =
      false) ∧ (ns ≤ 999999999) ∧ (d.slewRem = 0) ∧ (d.t < timeModulus) ∧ (s.blk.on (Reg.DTM_ADJ_SEC_HI_NEG x)
      = true) ∧ (0 < amount) ∧ (amount ≤ dayUnits) ∧ (s.blk.on (Reg.DTM_CTRL_STEP_BACK_OK x) = false)) ∧
    (∃ s : State, (s.blk.accepts = true) ∧ ∃ sel : Fin 2, (s.blk.get Reg.DTM_ACTIVE_SEL ≠ sel)) ∧
    (∃ s : State, ∃ j : Fin 8, (s.blk.accepts = true) ∧ (s.blk.on (Reg.DTM_TP_CTRL_ENABLE j) = true)) ∧
    (∃ s : State, ∃ v : Word, ∃ j : Fin 8, (s.blk.accepts = true) ∧ (s.blk.on (Reg.DTM_TP_CTRL_ENABLE j) = false)
      ∧ (bitsAt v.toNat 1 2 ≠ 3) ∧ (2 ≤ bitsAt v.toNat 8 24) ∧ ((v.getLsbD 3 = true → tpFits (bitsAt v.toNat 1
      2) (bitsAt v.toNat 8 24) (s.blk.get (Reg.DTM_TP_PERIOD_PERIOD j)) = true))) ∧
    (∃ s : State, ∃ x : Fin 2, let d := s.blk.domain x; (d.slewRem = 0)) ∧
    (∃ s : State, ∃ x : Fin 2, let d := s.blk.domain x; (d.slewRem ≠ 0)) ∧
    (∃ s : State, (s.blk.dtm.delta = 0)) ∧
    (∃ s : State, (s.blk.dtm.delta ≠ 0)) ∧
    (∃ s : State, ∃ m : Fin 32, (s.blk.readable m)) ∧
    (∃ s : State, ∃ m : Fin 32, (s.blk.readable m) ∧ ∃ e, ∃ rest, (s.blk.dtm.txs = e :: rest)) ∧
    (∃ s : State, ∃ m : Fin 32, (s.blk.readable m) ∧ (s.blk.dtm.txs = [])) ∧
    (∃ s : State, ∃ k : Fin 2, ∃ m : Fin 32, (s.blk.readable m) ∧ ∃ e, ∃ rest, (s.blk.tsi k = e :: rest)) ∧
    (∃ s : State, ∃ k : Fin 2, ∃ rising : Bool, (s.blk.datumRuns = true) ∧ (s.blk.bit (Reg.DTM_TSI_CFG_EDGE k) (if
      rising then 0 else 1) = true) ∧ ((s.blk.tsi k).length < 16)) ∧
    (∃ s : State, ∃ k : Fin 2, ∃ rising : Bool, (s.blk.datumRuns = true) ∧ (s.blk.bit (Reg.DTM_TSI_CFG_EDGE k) (if
      rising then 0 else 1) = true) ∧ (16 ≤ (s.blk.tsi k).length)) ∧
    (∃ s : State, ∃ k : Fin 2, ∃ rising : Bool, (s.blk.datumRuns = true) ∧ (s.blk.bit (Reg.DTM_TSI_CFG_EDGE k) (if
      rising then 0 else 1) = false)) ∧
    (∃ s : State, ∃ j : Fin 8, (s.blk.pulses = true) ∧ (s.blk.on (Reg.DTM_TP_CTRL_ENABLE j) = true) ∧
      (s.blk.tpReached j = true)) ∧
    (∃ s : State, ∃ j : Fin 8, (s.blk.pulses = true) ∧ (s.blk.on (Reg.DTM_TP_CTRL_ENABLE j) = false ∨
      s.blk.tpReached j = false)) ∧
    (∃ s : State, ∃ j : Fin 8, ∃ start, (Store.get (fun _ => none) s.blk.dtm.pulse j = some start) ∧ (start +
      s.blk.get (Reg.DTM_TP_CTRL_WIDTH j) ≤ s.blk.ticks)) ∧
    (∃ s : State, ∃ j : Fin 8, ∃ start, (Store.get (fun _ => none) s.blk.dtm.pulse j = some start) ∧ (s.blk.ticks
      < start + s.blk.get (Reg.DTM_TP_CTRL_WIDTH j)) ∧ (s.blk.dev.silent = false)) := by
  refine ⟨⟨running [], ?_⟩,
    ⟨running [] [(Reg.DTM_INCR_LO_FRAC 1, 0x20C49BA)], 1, 4, ?_⟩,
    ⟨running [] [(Reg.DTM_INCR_LO_FRAC 1, 0x20C49BB)], 1, 4, ?_⟩,
    ⟨running [] [(Reg.DTM_STAT_FOLLOW 1, 1)], 1, ?_⟩,
    ⟨running [] [(Reg.DTM_ADJ_NS_NS 1, 1000000000)], 1, ?_⟩,
    ⟨running [] [(Reg.DTM_ADJ_SEC_LO_SEC 1, 1), (Reg.DTM_ADJ_NS_NS 1, 999999999)] fun b =>
      { b with dtm := { b.dtm with b := { Domain.reset with t := secUnits } } }, 1, ?_⟩,
    ⟨running [] [(Reg.DTM_ADJ_SEC_LO_SEC 1, 1)] fun b =>
      { b with dtm := { b.dtm with b := { Domain.reset with t := (86401 * secUnits) } } }, 1, ?_⟩,
    ⟨running [] [(Reg.DTM_ADJ_SEC_LO_SEC 1, 1)] fun b =>
      { b with dtm := { b.dtm with b := { Domain.reset with t := (86401 * secUnits + 1) } } }, 1, ?_⟩,
    ⟨running [] [(Reg.DTM_ADJ_SEC_LO_SEC 1, 5)] fun b =>
      { b with dtm := { b.dtm with b := { Domain.reset with t := secUnits } } }, 1, ?_⟩,
    ⟨running [] [(Reg.DTM_ADJ_SEC_LO_SEC 1, 86400), (Reg.DTM_ADJ_SEC_HI_NEG 1, 1)] fun b =>
      { b with dtm := { b.dtm with b := { Domain.reset with t := secUnits } } }, 1, ?_⟩,
    ⟨running [], ?_, 1, ?_⟩,
    ⟨running [] [(Reg.DTM_TP_CTRL_ENABLE 7, 1)], 7, ?_⟩,
    ⟨running [] [(whole (Reg.DTM_TP_PERIOD 7), 1000)], 0x0000F909, 7, ?_⟩,
    ⟨running [] [] fun b => { b with dtm := { b.dtm with b := { Domain.reset with t := 5 } } }, 1, ?_⟩,
    ⟨running [] [] fun b => { b with dtm := { b.dtm with b := { Domain.reset with t := 5, slewRem := 9 } } }, 1,
      ?_⟩,
    ⟨running [], ?_⟩,
    ⟨running [] [] fun b => { b with dtm := { b.dtm with delta := 9 } }, ?_⟩,
    ⟨running [], 0, by unfold Block.readable; decide +kernel⟩,
    ⟨running [] [] fun b => { b with dtm := { b.dtm with txs := [[1, 2], [3]] } }, 0,
      by unfold Block.readable; decide +kernel, [1, 2], [[3]], ?_⟩,
    ⟨running [], 0, by unfold Block.readable; decide +kernel⟩,
    ⟨running [] [] fun b => { b with dtm := { b.dtm with tsi1 := [[1, 2], [3]] } }, 1, 0,
      by unfold Block.readable; decide +kernel, [1, 2], [[3]], ?_⟩,
    ⟨running [] [(Reg.DTM_TSI_CFG_EDGE 1, 1)] fun b =>
      { b with dtm := { b.dtm with tsi1 := List.replicate 15 [1] } }, 1, true, ?_⟩,
    ⟨running [] [(Reg.DTM_TSI_CFG_EDGE 1, 1)] fun b =>
      { b with dtm := { b.dtm with tsi1 := List.replicate 16 [1] } }, 1, true, ?_⟩,
    ⟨running [] [(Reg.DTM_TSI_CFG_EDGE 1, 2)], 1, true, ?_⟩,
    ⟨running [] [(Reg.DTM_TP_CTRL_ENABLE 7, 1)], 7, ?_⟩,
    ⟨running [], 7, ?_⟩,
    ⟨running [] [(Reg.DTM_TP_CTRL_WIDTH 7, 10)] fun b => atTick 100
      { b with dtm := { b.dtm with pulse := [(7, some 90)] } }, 7, 90, ?_⟩,
    ⟨running [] [(Reg.DTM_TP_CTRL_WIDTH 7, 10)] fun b => atTick 99
      { b with dtm := { b.dtm with pulse := [(7, some 90)] } }, 7, 90, ?_⟩⟩ <;> decide +kernel

/-- States that meet the hypotheses of `Obligations.SyncsAndTheJoin`. -/
theorem witness_syncs_and_the_join :
    (∃ s : State, (s.blk.chainEnabled = true) ∧ (s.blk.chain.role = .master) ∧ (s.blk.running = true) ∧
      (s.blk.chain.bypassA = false) ∧ (s.blk.chain.bypassB = false) ∧ (s.blk.wrapped false = false) ∧
      (s.blk.wrapped true = false) ∧ (s.blk.dev = .settle ∨ s.blk.dev = .service)) ∧
    (∃ s : State, (s.blk.chain.role ≠ .master)) ∧
    (∃ s : State, ∃ ring : Ring, ∃ cell : List Byte, ∃ c : Cell, let inB := ring == .b; (cellOk cell = true) ∧
      (s.blk.hears inB = true) ∧ (cellOf cell = some c) ∧ (c.kind = kindSync) ∧ (c.src ≠ s.blk.rank) ∧
      (s.blk.chain.role = .none) ∧ (s.blk.dev = .settle)) ∧
    (∃ s : State, ∃ ring : Ring, ∃ cell : List Byte, ∃ c : Cell, let v := syncOf c.body; let inB := ring == .b;
      (cellOk cell = true) ∧ (s.blk.hears inB = true) ∧ (cellOf cell = some c) ∧ (c.kind = kindSync) ∧ (c.src
      ≠ s.blk.rank) ∧ (s.blk.chain.role = .master) ∧ (laterEpoch v.mepoch (s.blk.get Reg.CHN_ROSTER_MEPOCH) =
      true)) ∧
    (∃ s : State, ∃ ring : Ring, ∃ cell : List Byte, ∃ c : Cell, let v := syncOf c.body; let inB := ring == .b;
      (cellOk cell = true) ∧ (s.blk.hears inB = true) ∧ (cellOf cell = some c) ∧ (c.kind = kindSync) ∧ (c.src
      ≠ s.blk.rank) ∧ (s.blk.chain.role = .master) ∧ (s.blk.yields v = false)) ∧
    (∃ s : State, ∃ ring : Ring, ∃ cell : List Byte, let inB := ring == .b; (cellOk cell = true) ∧ (s.blk.hears
      inB = true) ∧ (cellOf cell = none)) ∧
    (∃ cell : List Byte, (cellOk cell = false)) ∧
    (∃ s : State, (s.blk.chainEnabled = true) ∧ (s.blk.dev = .settle)) ∧
    (∃ s : State, (s.blk.chainEnabled = true) ∧ (s.blk.dev = .settle) ∧ ∃ t, (s.blk.chain.ownLock = some t) ∧
      (s.blk.rank = 1) ∧ (s.blk.chain.role = .none) ∧ (s.blk.chain.heard = false) ∧ (t + 10000000 ≤
      s.blk.ticks)) ∧
    (∃ s : State, (s.blk.chainEnabled = true) ∧ (s.blk.dev = .settle) ∧ (2 ≤ s.blk.rank) ∧ (s.blk.chain.heard =
      false) ∧ (s.blk.fault.since + (s.blk.get Reg.BRG_CTRL_LOCK_WAIT + 1) * 25000000 ≤ s.blk.ticks)) ∧
    (∃ s : State, (s.blk.chainEnabled = true) ∧ (s.blk.dev = .settle) ∧ (s.blk.chain.heard = true)) ∧
    (∃ s : State, (s.blk.chainEnabled = true) ∧ (s.blk.dev = .settle) ∧ (s.blk.chain.lockedA = false) ∧
      (s.blk.chain.lockedB = false) ∧ (s.blk.fault.since + 25000000 ≤ s.blk.ticks)) ∧
    (∃ s : State, (s.blk.chainEnabled = true) ∧ (s.blk.dev = .settle) ∧ (s.blk.chain.lockedA = true ∨
      s.blk.chain.lockedB = true)) ∧
    (∃ s : State, (s.blk.chainEnabled = true) ∧ (s.blk.dev = .settle) ∧ (s.blk.chain.role ≠ .none) ∧
      (s.blk.running = true) ∧ (s.blk.chain.bypassA = true)) ∧
    (∃ s : State, (s.blk.chainEnabled = true) ∧ (s.blk.dev = .settle) ∧ (s.blk.chain.role ≠ .none) ∧
      (s.blk.running = true) ∧ (s.blk.chain.bypassA = true)) ∧
    (∃ s : State, (s.blk.chainEnabled = true) ∧ (s.blk.dev = .settle) ∧ (s.blk.chain.role ≠ .none) ∧
      (s.blk.running = true) ∧ (s.blk.chain.bypassA = false) ∧ (s.blk.chain.bypassB = true)) ∧
    (∃ s : State, ∃ ring : Ring, let inB := ring == .b; (s.blk.hears inB = true) ∧ (s.blk.bypassed (!inB) = false)
      ∧ (s.blk.wrapped (!inB) = false)) ∧
    (∃ s : State, ∃ ring : Ring, let inB := ring == .b; (s.blk.hears inB = true) ∧ ((if inB then s.blk.chain.echoB
      else s.blk.chain.echoA) = true)) := by
  refine ⟨⟨chained .service .master, ?_⟩,
    ⟨chained .service .member, ?_⟩,
    ⟨chained .settle .none, .a, (aCell kindSync 0 true [1, 0, 4, 0, 2, 4]).toBytes, (aCell kindSync 0 true [1, 0, 4,
      0, 2, 4]), ?_, ?_, cellOf_toBytes _ (?_), ?_⟩,
    ⟨chained .service .master, .a, (aCell kindSync 0 true [1, 0, 4, 0, 2, 4]).toBytes, (aCell kindSync 0 true [1, 0,
      4, 0, 2, 4]), ?_, ?_, cellOf_toBytes _ (?_), ?_⟩,
    ⟨chained .service .master, .a, (aCell kindSync 0 true [1, 0, 0, 0, 5, 4]).toBytes, (aCell kindSync 0 true [1, 0,
      0, 0, 5, 4]), ?_, ?_, cellOf_toBytes _ (?_), ?_⟩,
    ⟨chained .service .master, .a, List.replicate 72 0, ?_, ?_, no_cell⟩,
    ⟨[], ?_⟩,
    ⟨chained .settle .none, ?_⟩,
    ⟨chained .settle .none [(Reg.CHN_ID_RANK, 1)] fun b =>
      { b with ticks := 10000007, chain := { b.chain with ownLock := some 7 } }, ?_, ?_, 7, ?_⟩,
    ⟨chained .settle .none [] (atTick 5000000000000), ?_⟩,
    ⟨chained .settle .none [] fun b => { b with chain := { b.chain with heard := true } }, ?_⟩,
    ⟨chained .settle .none [] (atTick 25000000), ?_⟩,
    ⟨chained .settle .none [] fun b => { b with chain := { b.chain with lockedB := true } }, ?_⟩,
    ⟨chained .settle .member [] fun b => { b with chain := { b.chain with bypassA := true, bypassB := true } }, ?_⟩,
    ⟨chained .settle .member [] fun b => { b with chain := { b.chain with bypassA := true, bypassB := true } }, ?_⟩,
    ⟨chained .settle .master [] fun b => { b with chain := { b.chain with bypassB := true } }, ?_⟩,
    ⟨chained .service .member, .a, ?_⟩,
    ⟨chained .service .member [] fun b => { b with chain := { b.chain with echoA := true } }, .a, ?_⟩⟩ <;> decide +kernel

/-- States that meet the hypotheses of `Obligations.ChainKeepsRunning`. -/
theorem witness_chain_keeps_running :
    (∃ s : State, (s.blk.chainEnabled = true) ∧ (s.blk.chain.holdover = false) ∧ (s.blk.chain.takeoverDue = false)
      ∧ (s.blk.chain.lastSync + 3000 ≤ s.blk.ticks) ∧ (s.blk.chain.role = .member)) ∧
    (∃ s : State, (s.blk.chainEnabled = true) ∧ (s.blk.chain.holdover = false) ∧ (s.blk.chain.takeoverDue = false)
      ∧ (s.blk.chain.lastSync + 3000 ≤ s.blk.ticks) ∧ (s.blk.standbyReady = true) ∧ (s.blk.chain.resetAll =
      false)) ∧
    (∃ s : State, (s.blk.ticks < s.blk.chain.lastSync + 3000)) ∧
    (∃ s : State, (s.blk.chain.role = .master) ∧ (s.blk.chain.joined = true) ∧ ∃ p, (s.blk.chain.lastOwn + 3000 ≤
      s.blk.ticks) ∧ (s.blk.partner = some p) ∧ (s.blk.bit Reg.CHN_ROSTER_READY p = true)) ∧
    (∃ s : State, (s.blk.chain.role = .master) ∧ (s.blk.chain.joined = true) ∧ (s.blk.ticks < s.blk.chain.lastOwn
      + 3000)) ∧
    (∃ s : State, ∃ ring : Ring, let inB := ring == .b; (s.blk.hears inB = true)) ∧
    (∃ s : State, ∃ ring : Ring, let inB := ring == .b; (s.blk.hears inB = false)) ∧
    (∃ s : State, ∃ ring : Ring, ∃ cell : List Byte, ∃ c : Cell, let inB := ring == .b; (cellOk cell = true) ∧
      (s.blk.hears inB = true) ∧ (cellOf cell = some c) ∧ (c.kind = kindWrap) ∧ (c.dst = s.blk.rank) ∧
      (s.blk.on (wrapField (byteAt c.body 0 == 1)) = false)) ∧
    (∃ s : State, ∃ ring : Ring, let inB := ring == .b; (s.blk.on (losField inB) = true)) ∧
    (∃ s : State, ∃ ring : Ring, let inB := ring == .b; (s.blk.on (losField inB) = false) ∧ (s.blk.on (wrapField
      inB) = true)) ∧
    (∃ s : State, ∃ p, (s.blk.partner = some p) ∧ (s.blk.chainEnabled = true) ∧ (s.blk.rank ≤ 1) ∧
      (s.blk.pairedPorts ≠ []) ∧ (s.blk.bypassed false = false) ∧ (s.blk.wrapped false = false)) ∧
    (∃ s : State, ∃ ring : Ring, ∃ cell : List Byte, ∃ c : Cell, let inB := ring == .b; (s.blk.takesCell inB
      kindPair cell c) ∧ (s.blk.partner = some c.src)) ∧
    (∃ s : State, ∃ ring : Ring, ∃ cell : List Byte, ∃ c : Cell, ∃ port : Fin 24, let inB := ring == .b;
      (s.blk.takesCell inB kindDrive cell c) ∧ (byteAt c.body 0 = port) ∧ (s.blk.drivesFor port = true) ∧
      (byteAt c.body 2 = 1) ∧
      let fits := s.blk.thermalOk [port.val] 112 (s.blk.lossFor [port.val]) (byteAt c.body 10) true; (fits =
      true)) ∧
    (∃ s : State, ∃ ring : Ring, ∃ cell : List Byte, ∃ c : Cell, ∃ port : Fin 24, let inB := ring == .b;
      (s.blk.takesCell inB kindDrive cell c) ∧ (byteAt c.body 0 = port) ∧ (s.blk.drivesFor port = true) ∧
      (byteAt c.body 2 = 1) ∧
      let fits := s.blk.thermalOk [port.val] 112 (s.blk.lossFor [port.val]) (byteAt c.body 10) true; (fits =
      false)) ∧
    (∃ s : State, ∃ ring : Ring, ∃ cell : List Byte, ∃ c : Cell, ∃ port : Fin 24, let inB := ring == .b;
      (s.blk.takesCell inB kindDrive cell c) ∧ (byteAt c.body 0 = port) ∧ (s.blk.drivesFor port = false)) ∧
    (∃ s : State, ∃ ring : Ring, ∃ cell : List Byte, ∃ c : Cell, let inB := ring == .b; (s.blk.takesCell inB
      kindRxdone cell c)) ∧
    (∃ s : State, ∃ ring : Ring, ∃ cell : List Byte, ∃ c : Cell, let inB := ring == .b; (s.blk.takesCell inB
      kindRepl cell c) ∧ (s.blk.partner = some c.src) ∧ (s.blk.home = false) ∧ (s.blk.partnerUp = true) ∧
      (s.blk.on Reg.TRV_REPL_STAT_LINKED = true) ∧ (byteAt c.body 0 = replDone)) ∧
    (∃ s : State, ∃ ring : Ring, ∃ cell : List Byte, ∃ c : Cell, let inB := ring == .b; (s.blk.takesCell inB
      kindRepl cell c) ∧ (s.blk.partner = some c.src) ∧ (s.blk.home = false) ∧ (s.blk.partnerUp = true) ∧
      (s.blk.on Reg.TRV_REPL_STAT_LINKED = true) ∧ (byteAt c.body 0 = replCore)) ∧
    (∃ s : State, (s.blk.chain.role = .standby) ∧ (s.blk.chain.takeoverDue = true) ∧ (s.blk.chain.resetAll =
      false)) ∧
    (∃ s : State, (s.blk.chain.takeoverDue = false)) ∧
    (∃ s : State, ∃ port : Fin 24, (s.blk.chain.role = .master) ∧ (s.blk.on (Reg.LP_CTRL_PAIRED port) = true) ∧
      (s.blk.dev = .service)) ∧
    (∃ s : State, ∃ port : Fin 24, (s.blk.chain.role ≠ .master ∨ s.blk.on (Reg.LP_CTRL_PAIRED port) = false)) := by
  refine ⟨⟨chained .service .member [] (atTick 3000), ?_⟩,
    ⟨ready .service false, ?_⟩,
    ⟨chained .service .member [] (atTick 2999), ?_⟩,
    ⟨chained .service .master [(Reg.CHN_ROSTER_READY, 4)] fun b => partnered
      { b with ticks := 3000, chain := { b.chain with joined := true } }, ?_, ?_, 2, ?_⟩,
    ⟨chained .service .master [(Reg.CHN_ROSTER_READY, 4)] fun b => partnered
      { b with ticks := 2999, chain := { b.chain with joined := true } }, ?_⟩,
    ⟨chained .service .member, .b, ?_⟩,
    ⟨chained .service .member [(Reg.CHN_STAT_LOS_B, 1)], .b, ?_⟩,
    ⟨chained .service .member, .b, (aCell kindWrap 3 false [1]).toBytes, (aCell kindWrap 3 false [1]), ?_, ?_,
      cellOf_toBytes _ (?_), ?_⟩,
    ⟨chained .service .member [(Reg.CHN_STAT_LOS_B, 1), (Reg.CHN_STAT_WRAP_A, 1)], .b, ?_⟩,
    ⟨chained .service .member [(Reg.CHN_STAT_WRAP_B, 1)], .b, ?_⟩,
    ⟨chained .service .standby [(Reg.CHN_ID_RANK, 1), (Reg.LP_CTRL_PAIRED 0, 1)] partnered, 2, ?_⟩,
    ⟨chained .service .standby [] partnered, .b, (aCell kindPair 3 false [10, 3, 12, 4]).toBytes, (aCell kindPair 3
      false [10, 3, 12, 4]), ⟨?_, ?_, cellOf_toBytes _ (?_), ?_⟩, ?_⟩,
    ⟨chained .service .standby [(Reg.LP_CTRL_PAIRED 0, 1), (Reg.LP_CTRL_ENABLE 0, 1)] partnered, .b, (aCell
      kindDrive 3 false [0, 1, 1, 0, 0, 0, 0, 0, 0, 0, 20]).toBytes, (aCell kindDrive 3 false [0, 1, 1, 0, 0, 0,
      0, 0, 0, 0, 20]), 0, ⟨?_, ?_, cellOf_toBytes _ (?_), ?_⟩, ?_⟩,
    ⟨chained .service .standby [(Reg.LP_CTRL_PAIRED 0, 1), (Reg.LP_CTRL_ENABLE 0, 1)] fun b => partnered
      { b with mac := { b.mac with txs := [{ aTx with ports := [7], charge := 30000 }] } }, .b, (aCell kindDrive
      3 false [0, 1, 1, 0, 0, 0, 0, 0, 0, 0, 20]).toBytes, (aCell kindDrive 3 false [0, 1, 1, 0, 0, 0, 0, 0, 0,
      0, 20]), 0, ⟨?_, ?_, cellOf_toBytes _ (?_), ?_⟩, ?_⟩,
    ⟨chained .service .standby, .b, (aCell kindDrive 3 false [0, 1, 1, 0, 0, 0, 0, 0, 0, 0, 20]).toBytes, (aCell
      kindDrive 3 false [0, 1, 1, 0, 0, 0, 0, 0, 0, 0, 20]), 0, ⟨?_, ?_, cellOf_toBytes _ (?_), ?_⟩, ?_⟩,
    ⟨chained .service .standby, .b, (aCell kindRxdone 3 false [5, 0x80, 0x96, 0x98]).toBytes, (aCell kindRxdone 3
      false [5, 0x80, 0x96, 0x98]), ⟨?_, ?_, cellOf_toBytes _ (?_), ?_⟩⟩,
    ⟨ready .service false, .b, (aCell kindRepl 3 false (replBody 7 0 0 9 0 [])).toBytes, (aCell kindRepl 3 false
      (replBody 7 0 0 9 0 [])), ⟨?_, ?_, cellOf_toBytes _ (?_), ?_⟩, ?_⟩,
    ⟨ready .service false, .b, (aCell kindRepl 3 false (replBody 1 0 7 9 0 [1, 2, 3, 4, 5, 6, 7, 8, 9, 10, 11, 12,
      13, 14, 15, 16, 17, 18, 19, 20, 21, 22, 23, 24, 25, 26, 27, 28, 29, 30, 31, 32])).toBytes, (aCell kindRepl
      3 false (replBody 1 0 7 9 0 [1, 2, 3, 4, 5, 6, 7, 8, 9, 10, 11, 12, 13, 14, 15, 16, 17, 18, 19, 20, 21,
      22, 23, 24, 25, 26, 27, 28, 29, 30, 31, 32])), ⟨?_, ?_, cellOf_toBytes _ (?_), ?_⟩, ?_⟩,
    ⟨ready .service true, ?_⟩,
    ⟨ready .service false, ?_⟩,
    ⟨chained .service .master [(Reg.LP_CTRL_PAIRED 0, 1)], 0, ?_⟩,
    ⟨chained .service .member, 0, ?_⟩⟩ <;> decide +kernel

/-- States that meet the hypotheses of `Obligations.ChainOperationsAgree`. -/
theorem witness_chain_operations_agree :
    (∃ s : State, ∃ ring : Ring, ∃ cell : List Byte, ∃ c : Cell, let inB := ring == .b; let op := byteAt c.body 0;
      (cellOk cell = true) ∧ (s.blk.hears inB = true) ∧ (cellOf cell = some c) ∧ (s.blk.hasSeen c = false) ∧
      (c.kind = kindToken) ∧ (c.src ≠ s.blk.rank) ∧ (s.blk.chain.role ≠ .none) ∧ (op = opSwap) ∧ (s.blk.dev =
      .service) ∧ (s.blk.running = true) ∧ (s.blk.chain.holdover = false) ∧ (s.blk.chain.backSlew = false) ∧
      (s.blk.get Reg.CFG_STATUS_SHADOW = 2)) ∧
    (∃ s : State, ∃ ring : Ring, ∃ cell : List Byte, ∃ c : Cell, let inB := ring == .b; let op := byteAt c.body 0;
      (cellOk cell = true) ∧ (s.blk.hears inB = true) ∧ (cellOf cell = some c) ∧ (s.blk.hasSeen c = false) ∧
      (c.kind = kindToken) ∧ (c.src ≠ s.blk.rank) ∧ (s.blk.chain.role ≠ .none) ∧ (op = opSwap) ∧ (s.blk.get
      Reg.CFG_STATUS_SHADOW ≠ 2)) ∧
    (∃ s : State, ∃ ring : Ring, ∃ cell : List Byte, ∃ c : Cell, let inB := ring == .b; let op := byteAt c.body 0;
      let at_ : Bearing := BitVec.ofNat 48 (leAt c.body 1 6); (cellOk cell = true) ∧ (s.blk.hears inB = true)
      ∧ (cellOf cell = some c) ∧ (s.blk.hasSeen c = false) ∧ (c.kind = kindToken) ∧ (c.src = s.blk.rank) ∧
      (s.blk.chain.role = .master) ∧ (op = opSwap) ∧ ∃ a, (s.blk.img.armed = some a) ∧ (a.bearing = at_) ∧
      (a.verdict = .waiting) ∧ let ready := byteAt c.body 8; let present := s.blk.get Reg.CHN_ROSTER_PRESENT;
      (byteAt c.body 7 = 0) ∧ (ready &&& present = present)) ∧
    (∃ s : State, ∃ ring : Ring, ∃ cell : List Byte, ∃ c : Cell, let inB := ring == .b; let op := byteAt c.body 0;
      let at_ : Bearing := BitVec.ofNat 48 (leAt c.body 1 6); (cellOk cell = true) ∧ (s.blk.hears inB = true)
      ∧ (cellOf cell = some c) ∧ (s.blk.hasSeen c = false) ∧ (c.kind = kindToken) ∧ (c.src = s.blk.rank) ∧
      (s.blk.chain.role = .master) ∧ (op = opSwap) ∧ ∃ a, (s.blk.img.armed = some a) ∧ (a.bearing = at_) ∧
      (a.verdict = .waiting) ∧ (byteAt c.body 7 ≠ 0)) ∧
    (∃ s : State, ∃ ring : Ring, ∃ cell : List Byte, ∃ c : Cell, let inB := ring == .b; let op := byteAt c.body 0;
      (cellOk cell = true) ∧ (s.blk.hears inB = true) ∧ (cellOf cell = some c) ∧ (s.blk.hasSeen c = false) ∧
      (c.kind = kindVerdict) ∧ (c.src ≠ s.blk.rank) ∧ (c.bcast = true) ∧ (op = opSwap) ∧ ∃ a, (s.blk.img.armed
      = some a) ∧ (a.bearing = BitVec.ofNat 48 (leAt c.body 3 6)) ∧ (byteAt c.body 1 = 1)) ∧
    (∃ s : State, ∃ ring : Ring, ∃ cell : List Byte, ∃ c : Cell, let inB := ring == .b; let op := byteAt c.body 0;
      (cellOk cell = true) ∧ (s.blk.hears inB = true) ∧ (cellOf cell = some c) ∧ (s.blk.hasSeen c = false) ∧
      (c.kind = kindVerdict) ∧ (c.src ≠ s.blk.rank) ∧ (c.bcast = true) ∧ (op = opSwap) ∧ ∃ a, (s.blk.img.armed
      = some a) ∧ (a.bearing = BitVec.ofNat 48 (leAt c.body 3 6)) ∧ (byteAt c.body 1 ≠ 1) ∧ (byteAt c.body 2 <
      16)) ∧
    (∃ s : State, ∃ ring : Ring, ∃ cell : List Byte, ∃ c : Cell, let inB := ring == .b; (cellOk cell = true) ∧
      (s.blk.hears inB = true) ∧ (cellOf cell = some c) ∧ (s.blk.hasSeen c = false) ∧ (c.kind = kindReset) ∧
      (c.src ≠ s.blk.rank) ∧ (c.bcast = true ∨ c.dst = s.blk.rank)) ∧
    (∃ s : State, ∃ ring : Ring, ∃ cell : List Byte, ∃ c : Cell, let inB := ring == .b; (cellOk cell = true) ∧
      (s.blk.hears inB = true) ∧ (cellOf cell = some c) ∧ (s.blk.hasSeen c = false) ∧ (c.kind = kindReset) ∧
      (c.src ≠ s.blk.rank) ∧ (c.bcast = false) ∧ (c.dst ≠ s.blk.rank)) ∧
    (∃ s : State, (s.blk.accepts = true) ∧ (s.blk.on Reg.CHN_CMD_RESULT_BUSY = false) ∧ (s.blk.chain.role ≠
      .master)) ∧
    (∃ s : State, (s.blk.accepts = true) ∧ (s.blk.on Reg.CHN_CMD_RESULT_BUSY = false) ∧ (s.blk.chain.role =
      .master)) ∧
    (∃ s : State, (s.blk.accepts = true) ∧ (s.blk.on Reg.CHN_CMD_RESULT_BUSY = false) ∧ (s.blk.chain.role =
      .master) ∧ let target := s.blk.get Reg.CHN_CMD_ARG_TARGET; (target = 15)) ∧
    (∃ s : State, (s.blk.accepts = true) ∧ (s.blk.on Reg.CHN_CMD_RESULT_BUSY = false) ∧ (s.blk.chain.role =
      .master) ∧ let target := s.blk.get Reg.CHN_CMD_ARG_TARGET; (target = s.blk.rank)) ∧
    (∃ s : State, (s.blk.accepts = true) ∧ (s.blk.on Reg.CHN_CMD_RESULT_BUSY = false) ∧ (s.blk.chain.role =
      .master) ∧ let target := s.blk.get Reg.CHN_CMD_ARG_TARGET; (7 < target) ∧ (target ≠ 15)) ∧
    (∃ s : State, (s.blk.accepts = true) ∧ (s.blk.on Reg.CHN_CMD_RESULT_BUSY = false) ∧ (s.blk.chain.role =
      .master) ∧ let at2 := s.blk.bearingAt Reg.CHN_OP_BRG_LO_BRG Reg.CHN_OP_BRG_HI_BRG; (s.blk.dev =
      .service) ∧ (s.blk.running = true) ∧ (s.blk.chain.op = none) ∧ ∃ i ∈ [(Instr.snapArm, false),
      (.handoverArm, true)], ((i.2 = true → s.blk.partner.isSome = true)) ∧ (s.blk.armable at2 = true)) ∧
    (∃ s : State, (s.blk.accepts = true) ∧ (s.blk.on Reg.CHN_CMD_RESULT_BUSY = false) ∧ (s.blk.chain.role =
      .master) ∧ let at2 := s.blk.bearingAt Reg.CHN_OP_BRG_LO_BRG Reg.CHN_OP_BRG_HI_BRG; (s.blk.dev =
      .service) ∧ (s.blk.running = true) ∧ (s.blk.chain.op = none) ∧ ∃ i ∈ [(Instr.snapArm, false),
      (.handoverArm, true)], ((i.2 = true → s.blk.partner.isSome = true)) ∧ (s.blk.armable at2 = false)) ∧
    (∃ s : State, (s.blk.accepts = true) ∧ (s.blk.on Reg.CHN_CMD_RESULT_BUSY = false) ∧ (s.blk.chain.role =
      .master) ∧ ∃ o, (s.blk.chain.op = some o)) ∧
    (∃ s : State, ∃ t, (s.blk.chain.resetOut = some t) ∧ (t + 2500 ≤ s.blk.ticks)) ∧
    (∃ s : State, ∃ t, (s.blk.chain.resetOut = some t) ∧ (s.blk.ticks < t + 2500)) ∧
    (∃ s : State, ∃ o, (s.blk.chain.op = some o) ∧ (o.bearing = s.blk.brg.now) ∧ (s.blk.brg.state = .holdover)) ∧
    (∃ s : State, ∃ o, (s.blk.chain.op = some o) ∧ (o.bearing = s.blk.brg.now) ∧ (s.blk.brg.state ≠ .holdover) ∧
      (o.verdict ≠ .commit)) ∧
    (∃ s : State, ∃ o, (s.blk.chain.op = some o) ∧ (o.bearing = s.blk.brg.now) ∧ (s.blk.brg.state ≠ .holdover) ∧
      (o.verdict = .commit) ∧ (o.handover = false)) ∧
    (∃ s : State, ∃ o, (s.blk.chain.op = some o) ∧ (o.bearing = s.blk.brg.now) ∧ (s.blk.brg.state ≠ .holdover) ∧
      (o.verdict = .commit) ∧ (o.handover = true) ∧ (s.blk.chain.role = .master)) ∧
    (∃ s : State, ∃ o, (s.blk.chain.op = some o) ∧ (o.bearing = s.blk.brg.now) ∧ (s.blk.brg.state ≠ .holdover) ∧
      (o.verdict = .commit) ∧ (o.handover = true) ∧ (s.blk.chain.role = .standby)) := by
  refine ⟨⟨chained .service .member [(Reg.CFG_STATUS_SHADOW, 2)], .b, (aCell kindToken 3 false [1, 0x84, 3, 0,
      0]).toBytes, (aCell kindToken 3 false [1, 0x84, 3, 0, 0]), ?_, ?_, cellOf_toBytes _ (?_), ?_⟩,
    ⟨chained .service .member, .b, (aCell kindToken 3 false [1, 0x84, 3, 0, 0]).toBytes, (aCell kindToken 3 false
      [1, 0x84, 3, 0, 0]), ?_, ?_, cellOf_toBytes _ (?_), ?_⟩,
    ⟨chained .service .master [(Reg.CHN_ID_RANK, 2), (Reg.CHN_ROSTER_PRESENT, 12)] fun b =>
      { b with img := { b.img with armed := some (armedAt .waiting) } }, .b, (aCell kindToken 3 false [1, 0x84,
      3, 0, 0, 0, 0, 0, 12]).toBytes, (aCell kindToken 3 false [1, 0x84, 3, 0, 0, 0, 0, 0, 12]), ?_, ?_,
      cellOf_toBytes _ (?_), ?_, ?_, ?_, ?_, ?_, armedAt .waiting, ?_⟩,
    ⟨chained .service .master [(Reg.CHN_ID_RANK, 2), (Reg.CHN_ROSTER_PRESENT, 12)] fun b =>
      { b with img := { b.img with armed := some (armedAt .waiting) } }, .b, (aCell kindToken 3 false [1, 0x84,
      3, 0, 0, 0, 0, 5, 12]).toBytes, (aCell kindToken 3 false [1, 0x84, 3, 0, 0, 0, 0, 5, 12]), ?_, ?_,
      cellOf_toBytes _ (?_), ?_, ?_, ?_, ?_, ?_, armedAt .waiting, ?_⟩,
    ⟨chained .service .member [] fun b => { b with img := { b.img with armed := some (armedAt .waiting) } }, .b,
      (aCell kindVerdict 0 true [1, 1, 0, 0x84, 3]).toBytes, (aCell kindVerdict 0 true [1, 1, 0, 0x84, 3]), ?_,
      ?_, cellOf_toBytes _ (?_), ?_, ?_, ?_, ?_, ?_, armedAt .waiting, ?_⟩,
    ⟨chained .service .member [] fun b => { b with img := { b.img with armed := some (armedAt .waiting) } }, .b,
      (aCell kindVerdict 0 true [1, 2, 15, 0x84, 3]).toBytes, (aCell kindVerdict 0 true [1, 2, 15, 0x84, 3]),
      ?_, ?_, cellOf_toBytes _ (?_), ?_, ?_, ?_, ?_, ?_, armedAt .waiting, ?_⟩,
    ⟨chained .service .member, .b, (aCell kindReset 3 false []).toBytes, (aCell kindReset 3 false []), ?_, ?_,
      cellOf_toBytes _ (?_), ?_⟩,
    ⟨chained .service .member, .b, (aCell kindReset 4 false []).toBytes, (aCell kindReset 4 false []), ?_, ?_,
      cellOf_toBytes _ (?_), ?_⟩,
    ⟨chained .service .member, ?_⟩,
    ⟨chained .service .master, ?_⟩,
    ⟨chained .service .master [(Reg.CHN_CMD_ARG_TARGET, 15)], ?_⟩,
    ⟨chained .service .master [(Reg.CHN_CMD_ARG_TARGET, 3)], ?_⟩,
    ⟨chained .service .master [(Reg.CHN_CMD_ARG_TARGET, 8)], ?_⟩,
    ⟨chained .service .master [(Reg.CHN_OP_BRG_LO_BRG, 100000)], ?_, ?_, ?_, ?_, ?_, ?_, (Instr.snapArm, false), ?_,
      ?_⟩,
    ⟨chained .service .master, ?_, ?_, ?_, ?_, ?_, ?_, (Instr.snapArm, false), ?_, ?_⟩,
    ⟨chained .service .master [] (withOp (anOperation true .waiting)), ?_, ?_, ?_, anOperation true .waiting, ?_⟩,
    ⟨chained .service .master [] fun b => { b with ticks := 2507, chain := { b.chain with resetOut := some 7 } }, 7,
      ?_⟩,
    ⟨chained .service .master [] fun b => { b with ticks := 2506, chain := { b.chain with resetOut := some 7 } }, 7,
      ?_⟩,
    ⟨chained .service .master [] fun b => atBearing .holdover 900 (partnered (withOp (anOperation true .commit) b)),
      anOperation true .commit, ?_⟩,
    ⟨chained .service .master [] fun b => atBearing .locked 900 (partnered (withOp (anOperation false .waiting) b)),
      anOperation false .waiting, ?_⟩,
    ⟨chained .service .master [] fun b => atBearing .locked 900 (partnered (withOp (anOperation false .commit) b)),
      anOperation false .commit, ?_⟩,
    ⟨chained .service .master [] fun b => atBearing .locked 900 (partnered (withOp (anOperation true .commit) b)),
      anOperation true .commit, ?_⟩,
    ⟨chained .service .standby [] fun b => atBearing .locked 900 (partnered (withOp (anOperation true .commit) b)),
      anOperation true .commit, ?_⟩⟩ <;> decide +kernel

/-- States that meet the hypotheses of `Obligations.SenseMeasures`. -/
theorem witness_sense_measures :
    (∃ s : State, ∃ c : Conversion, let k := c.ch.val; let st := s.blk.senseCh k; let u := fine c.u.toInt;
      (s.blk.senseRuns k = true) ∧ (st.old = none) ∧ (s.blk.convFlag k u c.overload = .good)) ∧
    (∃ s : State, ∃ c : Conversion, let k := c.ch.val; let st := s.blk.senseCh k; let u := fine c.u.toInt;
      (s.blk.senseRuns k = true) ∧ (st.old = none) ∧ (s.blk.convFlag k u c.overload = .isOpen)) ∧
    (∃ s : State, ∃ c : Conversion, ∃ source : Fin 2, let k := c.ch.val; let st := s.blk.senseCh k;
      (s.blk.senseRuns k = true) ∧ (st.old = none) ∧ (s.blk.on (if source = 0 then Reg.SS_CH_EXC_EXC0_EN k
      else Reg.SS_CH_EXC_EXC1_EN k) = true)) ∧
    (∃ s : State, ∃ c : Conversion, let k := c.ch.val; let st := s.blk.senseCh k; ∃ ws, (st.old = some ws)) ∧
    (∃ s : State, ∃ c : Conversion, let k := c.ch.val; let st := s.blk.senseCh k; (s.blk.senseRuns k = false) ∧
      (st.old = none)) ∧
    (∃ s : State, (s.blk.dev = .settle ∨ s.blk.dev = .service) ∧ (s.blk.brg.state = .locked ∨ s.blk.brg.state =
      .slew ∨ s.blk.brg.state = .follow)) ∧
    (∃ s : State, (s.blk.dev = .settle ∨ s.blk.dev = .service) ∧ (s.blk.brg.state = .holdover ∨ s.blk.brg.state =
      .relock)) ∧
    (∃ s : State, (s.blk.dev = .settle ∨ s.blk.dev = .service) ∧ (s.blk.brg.state = .unlocked ∨ s.blk.brg.state =
      .acquire)) ∧
    (∃ s : State, ∃ n : Fin 2, ∃ measured : BitVec 16, (s.blk.on (Reg.SS_LOOP_CTRL_ENABLE n) = true) ∧
      (s.blk.loopDiffers n measured.toNat = true) ∧ (s.blk.on (Reg.SS_LOOP_FLAGS_LOOP_FAULT n) = false)) ∧
    (∃ s : State, ∃ n : Fin 2, ∃ measured : BitVec 16, (s.blk.on (Reg.SS_LOOP_CTRL_ENABLE n) = true) ∧
      (s.blk.loopDiffers n measured.toNat = false)) ∧
    (∃ s : State, ∃ n : Fin 2, (s.blk.on (Reg.SS_LOOP_CTRL_ENABLE n) = false)) := by
  refine ⟨⟨sensing 7 [(Reg.SS_CH_LIN_TSRC 7, 8)] fun b =>
      { b with sense := [(7, { SenseCh.reset with negative := true, hold := true })] }, aConversion, ?_⟩,
    ⟨sensing 7 [(Reg.SS_CH_STAT_BAD 7, 1)] fun b => { b with sense := [(7, { SenseCh.reset with lost := true })] },
      aConversion, ?_⟩,
    ⟨sensing 7 [(Reg.SS_CH_EXC_EXC1_EN 7, 1)], aConversion, 1, ?_⟩,
    ⟨sensing 7 [] fun b => { b with sense := [(7, { SenseCh.reset with old := some (List.replicate 14 0) })] },
      aConversion, List.replicate 14 0, ?_⟩,
    ⟨running [], aConversion, ?_⟩,
    ⟨running [] [(Reg.BRG_FREQ_FREQ, 3276800)], ?_⟩,
    ⟨running [] [(Reg.BRG_FREQ_FREQ, 3276800)] (atBearing .relock 0), ?_⟩,
    ⟨running [] [(Reg.BRG_CTRL_NOM, 1)] (atBearing .acquire 0), ?_⟩,
    ⟨running [] [(Reg.SS_LOOP_CTRL_ENABLE 1, 1), (Reg.SS_LOOP_STAT_DEMAND 1, 3799)], 1, 4000, ?_⟩,
    ⟨running [] [(Reg.SS_LOOP_CTRL_ENABLE 1, 1), (Reg.SS_LOOP_STAT_DEMAND 1, 3799), (Reg.SS_LOOP_FLAGS_LOOP_FAULT 1,
      1)], 1, 3999, ?_⟩,
    ⟨running [], 1, ?_⟩⟩ <;> decide +kernel

/-- States that meet the hypotheses of `Obligations.SerialPortsTalk`. -/
theorem witness_serial_ports_talk :
    (∃ s : State, ∃ p : Fin 2, ∃ c : CharIn, let x := s.blk.sp p; let whole := 2 * s.blk.charBits p + 1;
      (s.blk.spListens p whole = true) ∧ (s.blk.spListens p 1 = true) ∧ (s.blk.spListens p (s.blk.charHalves
      p) = true) ∧ (¬ (p = 0 ∧ s.blk.on (Reg.SP_CTRL_OWNER 0) = true)) ∧ (c.startLow = true) ∧ (x.rx.length <
      64)) ∧
    (∃ s : State, ∃ p : Fin 2, ∃ c : CharIn, let x := s.blk.sp p; let whole := 2 * s.blk.charBits p + 1;
      (s.blk.spListens p whole = true) ∧ (s.blk.spListens p 1 = true) ∧ (s.blk.spListens p (s.blk.charHalves
      p) = true) ∧ (¬ (p = 0 ∧ s.blk.on (Reg.SP_CTRL_OWNER 0) = true)) ∧ (c.startLow = true) ∧ (64 ≤
      x.rx.length)) ∧
    (∃ s : State, ∃ p : Fin 2, ∃ c : CharIn, let whole := 2 * s.blk.charBits p + 1; (s.blk.spListens p whole =
      true) ∧ (s.blk.spListens p 1 = true) ∧ (s.blk.spListens p (s.blk.charHalves p) = true) ∧ (¬ (p = 0 ∧
      s.blk.on (Reg.SP_CTRL_OWNER 0) = true)) ∧ (c.startLow = false) ∧ (s.blk.on (Reg.SP_CTRL_SYNC p) =
      false)) ∧
    (∃ s : State, ∃ p : Fin 2, let x := s.blk.sp p; let whole := 2 * s.blk.charBits p + 1; (s.blk.spListens p
      whole = true) ∧ (s.blk.spListens p 1 = true) ∧ (s.blk.spListens p (s.blk.charHalves p) = true) ∧ (¬ (p =
      0 ∧ s.blk.on (Reg.SP_CTRL_OWNER 0) = true)) ∧ (x.rx.length < 64)) ∧
    (∃ s : State, ∃ p : Fin 2, let whole := 2 * s.blk.charBits p + 1; (s.blk.spListens p whole = false) ∧
      (s.blk.spListens p 1 = false)) ∧
    (∃ s : State, ∃ p : Fin 2, (s.blk.spListens p (s.blk.charHalves p) = false)) ∧
    (∃ s : State, ∃ p : Fin 2, (s.blk.spActive p = true) ∧ (s.blk.on (Reg.SP_STAT_DEAD p) = false)) ∧
    (∃ s : State, ∃ p : Fin 2, let x := s.blk.sp p; (s.blk.spActive p = true) ∧ (s.blk.on (Reg.SP_IDLE_BITS p) =
      true) ∧ (x.rx ≠ [])) ∧
    (∃ s : State, ∃ p : Fin 2, let x := s.blk.sp p; (s.blk.spActive p = true) ∧ ∃ d, ∃ fmt, ∃ div, (x.shifter =
      some (some d, fmt, div)) ∧ (s.blk.on (Reg.SP_CTRL_SEND_BRK p) = false) ∧ ∃ y, ∃ rest, (x.tx = y ::
      rest)) ∧
    (∃ s : State, ∃ p : Fin 2, let x := s.blk.sp p; (s.blk.spActive p = true) ∧ ∃ d, ∃ fmt, ∃ div, (x.shifter =
      some (some d, fmt, div)) ∧ (s.blk.on (Reg.SP_CTRL_SEND_BRK p) = false) ∧ (x.tx = [])) ∧
    (∃ s : State, ∃ p : Fin 2, let x := s.blk.sp p; (s.blk.spActive p = true) ∧ ∃ fmt, ∃ div, (x.shifter = some
      (none, fmt, div)) ∧ (x.tx = [])) ∧
    (∃ s : State, ∃ p : Fin 2, ∃ xs : List Nat, let div := 2 * xs.sum; (s.blk.spActive p = true) ∧ (s.blk.on
      (Reg.SP_CTRL_AUTO p) = true) ∧ (s.blk.on (Reg.SP_CTRL_SYNC p) = false) ∧ (intervalsAgree xs = true) ∧
      (s.blk.get (Reg.SP_FMT_DATA p) = 8 ∨ s.blk.get (Reg.SP_FMT_DATA p) = 9) ∧ (256 ≤ div) ∧ (div ≤ 2560000)) ∧
    (∃ s : State, ∃ p : Fin 2, ∃ xs : List Nat, (s.blk.spActive p = true) ∧ (intervalsAgree xs = false)) ∧
    (∃ s : State, ∃ p : Fin 2, (s.blk.on (Reg.SP_STAT_DEAD p) = true)) ∧
    (∃ s : State, ∃ p : Fin 2, let x := s.blk.sp p; (s.blk.accepts = true) ∧ (64 ≤ x.tx.length)) ∧
    (∃ s : State, ∃ p : Fin 2, let x := s.blk.sp p; (s.blk.accepts = true) ∧ (x.tx.length < 64) ∧
      (x.shifter.isSome = true)) ∧
    (∃ s : State, ∃ p : Fin 2, let x := s.blk.sp p; (s.blk.accepts = true) ∧ (x.tx = []) ∧ (x.shifter = none) ∧
      (s.blk.spActive p = true) ∧ (s.blk.on (Reg.SP_CTRL_SEND_BRK p) = false)) ∧
    (∃ s : State, ∃ p : Fin 2, let x := s.blk.sp p; (s.blk.accepts = true) ∧ (x.shifter = none) ∧ (s.blk.spActive
      p = true)) ∧
    (∃ s : State, ∃ p : Fin 2, (s.blk.accepts = true) ∧ (s.blk.on (Reg.SP_CTRL_SYNC p) = false)) ∧
    (∃ s : State, ∃ p : Fin 2, (s.blk.accepts = true) ∧ (s.blk.on (Reg.SP_CTRL_SYNC p) = true)) ∧
    (∃ s : State, ∃ p : Fin 2, let x := s.blk.sp p; (s.blk.accepts = true) ∧ (¬ (p = 0 ∧ s.blk.on
      (Reg.SP_CTRL_OWNER 0) = true)) ∧ ∃ e, ∃ rest, (x.rx = e :: rest)) ∧
    (∃ s : State, ∃ p : Fin 2, let x := s.blk.sp p; (s.blk.accepts = true) ∧ (¬ (p = 0 ∧ s.blk.on
      (Reg.SP_CTRL_OWNER 0) = true)) ∧ (x.rx = [])) ∧
    (∃ s : State, ((s.blk.sp 1).tail = true) ∧ ((s.blk.sp 1).tx = [])) ∧
    (∃ s : State, ∃ p : Fin 2, let x := s.blk.sp p; (s.blk.dev = .hold) ∧ (s.blk.oscillator = false) ∧ (s.blk.on
      (Reg.SP_CTRL_ENABLE p) = true) ∧ (s.blk.on (Reg.SP_CTRL_WAKE_EN p) = true) ∧ (x.wakeArmed = true)) ∧
    (∃ s : State, ∃ p : Fin 2, let x := s.blk.sp p; (s.blk.dev = .hold) ∧ (s.blk.oscillator = false) ∧ (s.blk.on
      (Reg.SP_CTRL_ENABLE p) = true) ∧ (s.blk.on (Reg.SP_CTRL_WAKE_EN p) = true) ∧ (x.wakeArmed = false)) ∧
    (∃ s : State, (s.blk.dev = .hold) ∧ ((∀ i : Fin 2, (s.blk.sp i).rx = [] ∧ (s.blk.sp i).tx = [] ∧ (s.blk.sp
      i).shifter = none))) ∧
    (∃ s : State, ∃ p : Fin 2, let x := s.blk.sp p; (s.blk.dev = .hold) ∧ (x.rx ≠ [])) := by
  refine ⟨⟨talking 1 { SerialPort.reset with rx := List.replicate 63 5, glitched := true, lost := true }
      [(Reg.SP_FMT_DATA 1, 8), (Reg.SP_FMT_PARITY 1, 1), (Reg.SP_IDLE_BITS 1, 9)], 1, aChar, ?_⟩,
    ⟨talking 1 { SerialPort.reset with rx := List.replicate 64 5 }, 1, aChar, ?_⟩,
    ⟨talking 1 SerialPort.reset, 1, { aChar with startLow := false }, ?_⟩,
    ⟨talking 1 SerialPort.reset, 1, ?_⟩,
    ⟨talking 1 SerialPort.reset [(Reg.SP_STAT_DEAD 1, 1)], 1, ?_⟩,
    ⟨talking 1 SerialPort.reset [(Reg.SP_STAT_DEAD 1, 1)], 1, ?_⟩,
    ⟨talking 1 SerialPort.reset, 1, ?_⟩,
    ⟨talking 1 { SerialPort.reset with rx := [5] } [(Reg.SP_IDLE_BITS 1, 9)], 1, ?_⟩,
    ⟨talking 1 { SerialPort.reset with tx := [66, 67], shifter := some (some 5, 8, 1000) } [(Reg.SP_FMT_DATA 1, 8)],
      1, ?_, 5, 8, 1000, ?_, ?_, 66, [67], ?_⟩,
    ⟨talking 1 { SerialPort.reset with shifter := some (some 5, 8, 1000) } [(Reg.SP_DE_TAIL 1, 2), (Reg.SP_STAT_DE
      1, 1)], 1, ?_, 5, 8, 1000, ?_⟩,
    ⟨talking 1 { SerialPort.reset with shifter := some (none, 8, 1000) } [(Reg.SP_CTRL_SEND_BRK 1, 1)], 1, ?_, 8,
      1000, ?_⟩,
    ⟨talking 1 SerialPort.reset [(Reg.SP_CTRL_AUTO 1, 1), (Reg.SP_FMT_DATA 1, 9)], 1, [100, 101, 99, 100], ?_⟩,
    ⟨talking 1 SerialPort.reset [(Reg.SP_CTRL_AUTO 1, 1)], 1, [100, 101, 99], ?_⟩,
    ⟨talking 1 SerialPort.reset [(Reg.SP_STAT_DEAD 1, 1)], 1, ?_⟩,
    ⟨talking 1 { SerialPort.reset with tx := List.replicate 64 5 }, 1, ?_⟩,
    ⟨talking 1 { SerialPort.reset with tx := List.replicate 63 5, shifter := some (some 5, 8, 1000) }, 1, ?_⟩,
    ⟨talking 1 SerialPort.reset, 1, ?_⟩,
    ⟨talking 1 { SerialPort.reset with tx := [5] }, 1, ?_⟩,
    ⟨talking 1 SerialPort.reset, 1, ?_⟩,
    ⟨talking 1 SerialPort.reset [(Reg.SP_CTRL_SYNC 1, 1)], 1, ?_⟩,
    ⟨talking 0 { SerialPort.reset with rx := [9, 67] }, 0, ?_, ?_, 9, [67], ?_⟩,
    ⟨talking 0 SerialPort.reset, 0, ?_⟩,
    ⟨talking 1 { SerialPort.reset with tail := true } [(Reg.SP_STAT_DE 1, 1)], ?_⟩,
    ⟨sleeping 1 SerialPort.reset [(Reg.SP_CTRL_WAKE_EN 1, 1)], 1, ?_⟩,
    ⟨sleeping 1 { SerialPort.reset with wakeArmed := false } [(Reg.SP_CTRL_WAKE_EN 1, 1)], 1, ?_⟩,
    ⟨inState .hold [] fun b => { b with serial := [(1, { SerialPort.reset with wakeArmed := false })] }, ?_⟩,
    ⟨inState .hold [] fun b => { b with serial := [(1, { SerialPort.reset with rx := [5] })] }, 1, ?_⟩⟩ <;> decide +kernel

/-- States that meet the hypotheses of `Obligations.G3FramesGoAndCome`. -/
theorem witness_g3_frames_go_and_come :
    (∃ s : State, ∃ port : Fin 24, ∃ x : G3Tx, let n := port.val; let g := s.blk.g3Port n; (g.tx = some x) ∧
      (x.send = none) ∧ (x.onAir = false) ∧ (s.blk.dev = .service) ∧ (s.blk.running = true) ∧ (s.blk.g3Bound n
      = true) ∧ (s.blk.on (Reg.LP_CTRL_ENABLE n) = true) ∧ (s.blk.drives n = true) ∧ (s.blk.standsBy n =
      false) ∧ (s.blk.held (n / 3) = false) ∧ (s.blk.g3Sending n = false) ∧ (x.awaitingAck = false) ∧
      let y := s.blk.g3Frame n x []; (s.blk.quietBlocks n y.last = false) ∧ (s.blk.g3Barred (n / 3) y = false)
      ∧ (s.blk.g3YieldsP0 n x.prio = false) ∧ (x.backoffs + 1 < s.blk.get (Reg.LP_G3_CSMA_MAX_BACKOFFS n))) ∧
    (∃ s : State, ∃ port : Fin 24, ∃ x : G3Tx, let n := port.val; let g := s.blk.g3Port n; (g.tx = some x) ∧
      (x.send = none) ∧ (x.onAir = false) ∧ (s.blk.dev = .service) ∧ (s.blk.running = true) ∧ (s.blk.g3Bound n
      = true) ∧ (s.blk.on (Reg.LP_CTRL_ENABLE n) = true) ∧ (s.blk.drives n = true) ∧ (s.blk.standsBy n =
      false) ∧ (s.blk.held (n / 3) = false) ∧ (s.blk.g3Sending n = false) ∧ (x.awaitingAck = false) ∧
      let y := s.blk.g3Frame n x []; (s.blk.quietBlocks n y.last = false) ∧ (s.blk.g3Barred (n / 3) y = false)
      ∧ (s.blk.g3YieldsP0 n x.prio = false) ∧ (s.blk.get (Reg.LP_G3_CSMA_MAX_BACKOFFS n) ≤ x.backoffs + 1)) ∧
    (∃ s : State, ∃ port : Fin 24, ∃ x : G3Tx, let n := port.val; let g := s.blk.g3Port n; (g.tx = some x) ∧
      (x.send = none) ∧ (x.onAir = false) ∧ (s.blk.dev = .service) ∧ (s.blk.running = true) ∧ (s.blk.g3Bound n
      = true) ∧ (s.blk.on (Reg.LP_CTRL_ENABLE n) = true) ∧ (s.blk.drives n = true) ∧ (s.blk.standsBy n =
      false) ∧ (s.blk.held (n / 3) = false) ∧ (s.blk.g3Sending n = false) ∧ (x.awaitingAck = false) ∧
      let y := s.blk.g3Frame n x []; (s.blk.quietBlocks n y.last = false) ∧ (s.blk.g3Barred (n / 3) y = false)
      ∧ (s.blk.g3YieldsP0 n x.prio = false) ∧ (s.blk.senseIdle (n / 3) y.bands = true) ∧ (s.blk.meetsTx (n /
      3) y.bands y.start y.last = false) ∧ (s.blk.txLanesFree 1 = true) ∧ (s.blk.portFull n y.start y.last =
      false) ∧ (s.blk.thermalRoom [n] y.carriers y.loss y.atten (x.prio == 0 && x.job == .parcel) = true) ∧
      (s.blk.budgetShort [n] y.bands y.micros (x.prio == 0 && x.job == .parcel) = []) ∧ (x.job ≠ .parcel)) ∧
    (∃ s : State, ∃ port : Fin 24, ∃ x : G3Tx, let n := port.val; let g := s.blk.g3Port n; (g.tx = some x) ∧
      (x.send = none) ∧ (x.onAir = false) ∧ (x.awaitingAck = true) ∧ (x.tries < 1 + s.blk.get
      (Reg.LP_G3_CSMA_MAX_RETRIES n))) ∧
    (∃ s : State, ∃ port : Fin 24, ∃ x : G3Tx, let n := port.val; let g := s.blk.g3Port n; (g.tx = some x) ∧
      (x.send = none) ∧ (x.onAir = false) ∧ (x.awaitingAck = true) ∧ (1 + s.blk.get
      (Reg.LP_G3_CSMA_MAX_RETRIES n) ≤ x.tries)) ∧
    (∃ s : State, ∃ port : Fin 24, ∃ short : BitVec 16, let n := port.val; let g := s.blk.g3Port n; (s.blk.g3Bound
      n = true) ∧ (s.blk.dev = .service) ∧ ∃ z, (g.find short.toNat = some z) ∧ (z.mapAt + s.blk.get
      (Reg.LP_G3_TMR_TTL n) * 250000000 < s.blk.ticks)) ∧
    (∃ s : State, ∃ port : Fin 24, ∃ short : BitVec 16, let n := port.val; let g := s.blk.g3Port n; (s.blk.g3Bound
      n = true) ∧ (s.blk.dev = .service) ∧ ∃ z, (g.find short.toNat = some z) ∧ (s.blk.ticks ≤ z.mapAt +
      s.blk.get (Reg.LP_G3_TMR_TTL n) * 250000000)) ∧
    (∃ s : State, ∃ port : Fin 24, ∃ f : G3Frame, ∃ l : Nat, ∃ r : Reception, let n := port.val; (f.port = port) ∧
      (s.blk.dev = .service) ∧ (s.blk.standsBy n = false) ∧ ((s.blk.receiving n).find?
      (fun i => match (s.blk.lane i).binding with | some y => y.g3 | none => false) = some l) ∧ ((s.blk.lane
      l).current = some r) ∧ (f.fcsOk = false)) ∧
    (∃ s : State, ∃ port : Fin 24, ∃ f : G3Frame, ∃ l : Nat, ∃ r : Reception, let n := port.val; (f.port = port) ∧
      (s.blk.dev = .service) ∧ (s.blk.standsBy n = false) ∧ ((s.blk.receiving n).find?
      (fun i => match (s.blk.lane i).binding with | some y => y.g3 | none => false) = some l) ∧ ((s.blk.lane
      l).current = some r) ∧ (f.fcsOk = true) ∧ (s.blk.g3Discards f = none)) ∧
    (∃ s : State, ∃ port : Fin 24, ∃ f : G3Frame, ∃ l : Nat, ∃ r : Reception, let n := port.val; (f.port = port) ∧
      (s.blk.dev = .service) ∧ (s.blk.standsBy n = false) ∧ ((s.blk.receiving n).find?
      (fun i => match (s.blk.lane i).binding with | some y => y.g3 | none => false) = some l) ∧ ((s.blk.lane
      l).current = some r) ∧ (f.fcsOk = true) ∧ (f.level ≠ 0) ∧ (f.level ≠ 5)) ∧
    (∃ s : State, ∃ f : G3Frame, ((s.blk.receiving f.port).find?
      (fun i => match (s.blk.lane i).binding with | some y => y.g3 | none => false) = none)) := by
  refine ⟨⟨g3Up (some aG3Tx), 0, aG3Tx, ?_⟩,
    ⟨g3Up (some { aG3Tx with backoffs := 4 }), 0, { aG3Tx with backoffs := 4 }, ?_⟩,
    ⟨g3Up (some aG3Tx), 0, aG3Tx, ?_⟩,
    ⟨g3Up (some { aG3Tx with awaitingAck := true }), 0, { aG3Tx with awaitingAck := true }, ?_⟩,
    ⟨g3Up (some { aG3Tx with awaitingAck := true, tries := 3 }), 0, { aG3Tx with awaitingAck := true, tries := 3 },
      ?_⟩,
    ⟨g3Up none [] (atTick 250000101), 0, 9, ?_, ?_, aG3Neigh, ?_⟩,
    ⟨g3Up none [] (atTick 250000100), 0, 9, ?_, ?_, aG3Neigh, ?_⟩,
    ⟨g3Up none [] g3Hearing, 0, { aG3Frame with fcsOk := false }, 6,
      { aReception (aFch 0) with g3 := true, frame := none, ended := false }, ?_⟩,
    ⟨g3Up none [] g3Hearing, 0, aG3Frame, 6, { aReception (aFch 0) with g3 := true, frame := none, ended := false },
      ?_⟩,
    ⟨g3Up none [] g3Hearing, 0, { aG3Frame with level := 7 }, 6,
      { aReception (aFch 0) with g3 := true, frame := none, ended := false }, ?_⟩,
    ⟨g3Up none, aG3Frame, ?_⟩⟩ <;> decide +kernel

end Sys2Proof.Tests
end

/-!
Bearing arithmetic (R13, R14). The model counts bearings as 48-bit vectors and reads the superframe number and the cycle
count off them by division; these lemmas say what both are on natural numbers and on the bits.
-/

namespace Sys2Proof.Machine

/-- The distance from `n` to `t` along the mains, in bu modulo 2^48 (R13); adding the whole turn before `n` is taken off keeps
the difference from stopping at 0. -/
theorem toNat_bearing_sub (t n : Bearing) : (t - n).toNat = (t.toNat + 2 ^ 48 - n.toNat) % 2 ^ 48 := by
  have hn : n.toNat ≤ 2 ^ 48 := n.isLt.le
  rw [BitVec.toNat_sub', Nat.add_sub_assoc hn]

/-- A bearing lies ahead when it is less than half a turn of 2^48 on (R13). -/
theorem ahead_iff (t n : Bearing) :
    ahead t n = true ↔ (t.toNat + 2 ^ 48 - n.toNat) % 2 ^ 48 < 2 ^ 47 := by
  rw [ahead, decide_eq_true_iff, toNat_bearing_sub]

/-- The superframe number is the bearing's bits 47 to 19 (R14): a bearing has 48 bits, so the 29 bits from bit 19 up are all
that the shift leaves. -/
theorem superframeOf_eq_extractLsb' (x : Bearing) : superframeOf x = (x.extractLsb' 19 29).toNat := by
  have hlt : x.toNat / 2 ^ 19 < 2 ^ 29 := Nat.div_lt_of_lt_mul x.isLt
  rw [superframeOf, BitVec.extractLsb'_toNat, Nat.shiftRight_eq_div_pow, Nat.mod_eq_of_lt hlt]

/-- A superframe is eight cycles (R14). -/
theorem superframeOf_eq_cycleOf_shiftRight (x : Bearing) : superframeOf x = cycleOf x >>> 3 := by
  rw [superframeOf, cycleOf, Nat.shiftRight_eq_div_pow, Nat.div_div_eq_div_mul]
  rfl

/-- Settles O4: sums are `BitVec` addition, and the difference, the half turn ahead and the two readings of the superframe
number are the lemmas above. -/
theorem bearingArithmetic : Obligations.BearingArithmetic := fun t n =>
  ⟨BitVec.toNat_add t n, toNat_bearing_sub t n, ahead_iff t n, superframeOf_eq_extractLsb' t,
    superframeOf_eq_cycleOf_shiftRight t⟩

end Sys2Proof.Machine

/-!
Escalation (R548). An elapsed QUIET_RESET leads to the full reset of R545, which keeps the count just advanced; where the
conditions of R548 do not hold, ESCALATION leaves the block to its output stages.
-/

namespace Sys2Proof.Machine

/-- A command whose meaning is an answer with well-formed operands completes, with the block that has passed the output
stages. -/
theorem completes_of_answer {c : Instr} {m : String} {s : State} {f : Block → Block} {P : Block → Prop}
    (hc : exec c s = answer m true s f) (hP : P (f s.blk).gated) : Completes c s P :=
  ⟨_, hc.trans answer_next, rfl, hP⟩

/-- An answer depends on its meaning at the state's block only. -/
theorem answer_congr {m : String} {wf : Bool} {s : State} {f g : Block → Block} (h : f s.blk = g s.blk) :
    answer m wf s f = answer m wf s g := by
  unfold answer
  rw [h]

/-- The output stages leave every field outside SP_STAT of port 1 as it was. -/
theorem Block.gated_get_other (b : Block) (f : Field) (h : f.off ≠ Reg.SP_STAT 1) : b.gated.get f = b.get f :=
  Block.get_of_rd (b.gated_rd_other f.off h)

@[simp] theorem Block.fullReset_dev (b : Block) (source : Nat) : (b.fullReset source).dev = .reset := rfl

/-- A full reset writes GLB_RESET_CAUSE in SOURCE only: a field beside it is kept (R546). -/
theorem Block.fullReset_get_resetCause (b : Block) (source : Nat) (f : Field) (hoff : f.off = Reg.GLB_RESET_CAUSE)
    (ha : Reg.GLB_RESET_CAUSE_SOURCE.apart f) : (b.fullReset source).get f = b.get f := by
  have hstat : f.off ≠ Reg.CX_TAMPER_STAT := by rw [hoff]; decide
  unfold Block.fullReset
  dsimp only
  rw [Block.get_set_apart _ _ _ _ (by decide) ha]
  apply Block.get_of_rd
  rw [Block.rd_set_other _ _ _ _ hstat, hoff, Block.rd_wr_same]

/-- Below 3 the escalation count of two bits advances without wrapping. -/
theorem Block.get_inc_escCount (b : Block) (h : b.get Reg.GLB_RESET_CAUSE_ESC_COUNT < 3) :
    (b.inc Reg.GLB_RESET_CAUSE_ESC_COUNT).get Reg.GLB_RESET_CAUSE_ESC_COUNT =
      b.get Reg.GLB_RESET_CAUSE_ESC_COUNT + 1 := by
  rw [Block.get_inc _ _ (by decide)]
  exact Nat.mod_eq_of_lt (Nat.add_lt_add_right h 1)

theorem exec_escalation (s : State) : exec .escalation s = execEscalation s := rfl

theorem exec_escCountClear (s : State) : exec .escCountClear s = execEscCountClear s := rfl

/-- The conditions of R548 for an escalation. -/
def Block.escalates (b : Block) : Prop :=
  b.dev = .quiet ∧ b.on Reg.GLB_CTRL_ESC_EN = true ∧ b.on Reg.GLB_CTRL_QUIET_RESET = true ∧
    b.fault.since + b.get Reg.GLB_CTRL_QUIET_RESET * minuteTicks ≤ b.ticks ∧
    b.get Reg.GLB_RESET_CAUSE_ESC_COUNT < 3

/-- Under the conditions of R548, ESCALATION counts and makes the full reset with the source of escalation. -/
theorem exec_escalation_of_escalates {s : State} (h : s.blk.escalates) :
    exec .escalation s =
      answer "ESCALATION" true s fun b => (b.inc Reg.GLB_RESET_CAUSE_ESC_COUNT).fullReset 5 := by
  rw [exec_escalation, execEscalation]
  exact answer_congr (if_pos (by
    simpa only [Block.escalates, Bool.and_eq_true, beq_iff_eq, decide_eq_true_iff, and_assoc] using h))

/-- Where a condition of R548 fails, ESCALATION does nothing of its own. -/
theorem exec_escalation_of_not_escalates {s : State} (h : ¬ s.blk.escalates) :
    exec .escalation s = answer "ESCALATION" true s id := by
  rw [exec_escalation, execEscalation]
  exact answer_congr (if_neg (by
    simpa only [Block.escalates, Bool.and_eq_true, beq_iff_eq, decide_eq_true_iff, and_assoc] using h))

/-- An escalation resets the device and advances the count. -/
theorem completes_escalation_of_escalates {s : State} (h : s.blk.escalates) :
    Completes .escalation s fun b =>
      b.dev = .reset ∧ b.get Reg.GLB_RESET_CAUSE_ESC_COUNT = s.blk.get Reg.GLB_RESET_CAUSE_ESC_COUNT + 1 := by
  refine completes_of_answer (exec_escalation_of_escalates h) ⟨by simp, ?_⟩
  obtain ⟨-, -, -, -, hcount⟩ := h
  rw [Block.gated_get_other _ _ (by decide), Block.fullReset_get_resetCause _ _ _ rfl (by decide),
    Block.get_inc_escCount _ hcount]

/-- Without an escalation the device state stays, and no register but SP_STAT of port 1 is written. -/
theorem completes_escalation_of_not_escalates {s : State} (h : ¬ s.blk.escalates) :
    Completes .escalation s fun b => b.dev = s.blk.dev ∧ s.blk.keepsBut b [Reg.SP_STAT 1] :=
  completes_of_answer (exec_escalation_of_not_escalates h)
    ⟨Block.gated_dev _, fun off hoff => Block.gated_rd_other _ off (List.ne_of_not_mem_cons hoff)⟩

/-- After an hour in SERVICE, ESC_COUNT_CLEAR takes the count to 0. -/
theorem exec_escCountClear_of_hour {s : State} (hdev : s.blk.dev = .service)
    (hhour : s.blk.fault.since + 60 * minuteTicks ≤ s.blk.ticks) :
    exec .escCountClear s =
      answer "ESC_COUNT_CLEAR" true s fun b => b.set Reg.GLB_RESET_CAUSE_ESC_COUNT 0 := by
  rw [exec_escCountClear, execEscCountClear]
  exact answer_congr (if_pos (by
    simpa only [Bool.and_eq_true, beq_iff_eq, decide_eq_true_iff] using And.intro hdev hhour))

/-- The count cleared in SERVICE is 0, and the other registers stay. -/
theorem completes_escCountClear_of_hour {s : State} (hdev : s.blk.dev = .service)
    (hhour : s.blk.fault.since + 60 * minuteTicks ≤ s.blk.ticks) :
    Completes .escCountClear s fun b =>
      b.get Reg.GLB_RESET_CAUSE_ESC_COUNT = 0 ∧ s.blk.keepsBut b [Reg.GLB_RESET_CAUSE] := by
  refine completes_of_answer (exec_escCountClear_of_hour hdev hhour) ?_
  rw [Block.gated_service (s.blk.set _ 0) hdev]
  exact ⟨Block.get_set_same _ _ _ (by decide), fun off hoff => Block.rd_set_other _ _ _ _ (List.ne_of_not_mem_cons hoff)⟩

/-- Settles O14: a device for which the conditions of R548 hold escalates; at a count of 3, or with ESC_EN or QUIET_RESET at
0, one of them fails and it stays in QUIET. -/
theorem escalationStopsAtThree : Obligations.EscalationStopsAtThree := by
  intro s
  refine ⟨fun hdev hen hmin hdue => ⟨fun hcount => ?_, fun hcount => ?_⟩, fun hdev hoff => ?_,
    completes_escCountClear_of_hour⟩
  · exact completes_escalation_of_escalates ⟨hdev, hen, hmin, hdue, hcount⟩
  · have hno : ¬ s.blk.escalates := fun ⟨_, _, _, _, hlt⟩ => hlt.ne hcount
    obtain ⟨t, ht, hq, hstay, -⟩ := completes_escalation_of_not_escalates hno
    exact ⟨t, ht, hq, hstay.trans hdev⟩
  · have hno : ¬ s.blk.escalates := by
      rintro ⟨-, hen, hmin, -, -⟩
      rcases hoff with h | h
      · exact absurd hen (by simp [h])
      · exact absurd hmin (by simp [h])
    rw [← hdev]
    exact completes_escalation_of_not_escalates hno

end Sys2Proof.Machine

/-!
Registers that an update leaves alone. `Block.writesIn` and `Block.keepsBut` are carried through the updates one at a time, so
that a proof names the registers that are written and not those that are not.
-/

namespace Sys2Proof.Machine

/-! ### Which registers an update writes -/

/-- From `b` to `c` no register changes but those of which `P` holds. -/
def Block.writesIn (P : Nat → Prop) (b c : Block) : Prop := ∀ off, ¬ P off → c.rd off = b.rd off

theorem Block.writesIn_refl (P : Nat → Prop) (b : Block) : Block.writesIn P b b := fun _ _ => rfl

theorem Block.writesIn.mono {P Q : Nat → Prop} {b c : Block} (h : Block.writesIn P b c) (hPQ : ∀ off, P off → Q off) :
    Block.writesIn Q b c := fun off hoff => h off fun hp => hoff (hPQ off hp)

theorem Block.writesIn.trans {P : Nat → Prop} {b c d : Block} (h : Block.writesIn P b c) (h' : Block.writesIn P c d) :
    Block.writesIn P b d := fun off hoff => (h' off hoff).trans (h off hoff)

/-- A block with the same register file keeps what another keeps. -/
theorem Block.writesIn.of_regs {P : Nat → Prop} {b c c' : Block} (h : Block.writesIn P b c) (e : c'.regs = c.regs) :
    Block.writesIn P b c' := fun off hoff => (Block.rd_of_regs e off).trans (h off hoff)

theorem Block.writesIn.get {P : Nat → Prop} {b c : Block} (h : Block.writesIn P b c) {f : Field} (hf : ¬ P f.off) :
    c.get f = b.get f := Block.get_of_rd (h _ hf)

section

variable {P : Nat → Prop} {b c : Block} (h : Block.writesIn P b c)
include h

theorem Block.writesIn.wr {off : Nat} (v : Word) (hf : P off) : Block.writesIn P b (c.wr off v) :=
  fun o ho => (c.rd_wr_other v fun e : o = off => ho (e ▸ hf)).trans (h o ho)

theorem Block.writesIn.set {f : Field} (v : Nat) (hf : P f.off) : Block.writesIn P b (c.set f v) := h.wr _ hf

theorem Block.writesIn.setOn {f : Field} (on : Bool) (hf : P f.off) : Block.writesIn P b (c.setOn f on) := h.set _ hf

theorem Block.writesIn.setBit {f : Field} (i : Nat) (on : Bool) (hf : P f.off) : Block.writesIn P b (c.setBit f i on) :=
  h.set _ hf

theorem Block.writesIn.inc {f : Field} (hf : P f.off) : Block.writesIn P b (c.inc f) := h.set _ hf

theorem Block.writesIn.add {f : Field} (n : Nat) (hf : P f.off) : Block.writesIn P b (c.add f n) := h.set _ hf

theorem Block.writesIn.incSat {f : Field} (hf : P f.off) : Block.writesIn P b (c.incSat f) := by
  unfold Block.incSat
  split
  · exact h.set _ hf
  · exact h

theorem Block.writesIn.setAll {fs : List (Field × Nat)} (hf : ∀ p ∈ fs, P p.1.off) : Block.writesIn P b (c.setAll fs) :=
  fun o ho => (c.rd_setAll_other fs o fun p hp e => ho (e ▸ hf p hp)).trans (h o ho)

theorem Block.writesIn.raise (fn v : Nat) : Block.writesIn P b (c.raise fn v) := h.of_regs (c.raise_regs fn v)

theorem Block.writesIn.raiseFixed (v : Nat) : Block.writesIn P b (c.raiseFixed v) := h.of_regs (c.raiseFixed_regs v)

theorem Block.writesIn.setDev (d : DevState) : Block.writesIn P b (c.setDev d) := h.of_regs (c.setDev_regs d)

theorem Block.writesIn.pend {f : Field} (hf : P f.off) : Block.writesIn P b (c.pend f) :=
  fun o ho => (c.rd_pend_other f o fun e => ho (e ▸ hf)).trans (h o ho)

theorem Block.writesIn.post (code sev src : Nat) (args : List (Nat × Nat)) (hs : ∀ off ∈ recordRegs, P off) :
    Block.writesIn P b (c.post code sev src args) :=
  fun o ho => (c.rd_post code sev src args o fun hm => ho (hs o hm)).trans (h o ho)

theorem Block.writesIn.journalWrite (r : FbRecord) (k : Nat) (hours age : Word) (hs : ∀ off ∈ journalRegs, P off) :
    Block.writesIn P b (c.journalWrite r k hours age) :=
  fun o ho => (c.rd_journalWrite r k hours age o fun hm => ho (hs o hm)).trans (h o ho)

/-- Whatever the device state, the output stages write SP_STAT of port 1 at most (R532). -/
theorem Block.writesIn.gated (hm : P (Reg.SP_STAT 1)) : Block.writesIn P b c.gated :=
  fun o ho => (c.gated_rd_other o fun e => ho (e ▸ hm)).trans (h o ho)

/-- Outside RESET, LOAD and QUIET they write none. -/
theorem Block.writesIn.gated_of_not_silent (hd : c.dev.silent = false) : Block.writesIn P b c.gated :=
  h.of_regs (c.gated_regs hd)

end

/-! The same of the registers of a list, in the words of the statements. -/

theorem Block.keepsBut_refl (b : Block) (offs : List Nat) : b.keepsBut b offs := fun _ _ => rfl

theorem Block.keepsBut.of_regs {b c c' : Block} {offs : List Nat} (h : b.keepsBut c offs) (e : c'.regs = c.regs) :
    b.keepsBut c' offs := Block.writesIn.of_regs h e

theorem Block.keepsBut.trans {b c d : Block} {offs : List Nat} (h : b.keepsBut c offs) (h' : c.keepsBut d offs) :
    b.keepsBut d offs := Block.writesIn.trans h h'

theorem Block.keepsBut.mono {b c : Block} {offs offs' : List Nat} (h : b.keepsBut c offs) (hs : offs ⊆ offs') :
    b.keepsBut c offs' := Block.writesIn.mono h hs

theorem Block.keepsBut.get {b c : Block} {offs : List Nat} (h : b.keepsBut c offs) {f : Field} (hf : f.off ∉ offs) :
    c.get f = b.get f := Block.writesIn.get h hf

section

variable {b c : Block} {offs : List Nat} (h : b.keepsBut c offs)
include h

theorem Block.keepsBut.wr {off : Nat} (v : Word) (hf : off ∈ offs) : b.keepsBut (c.wr off v) offs := Block.writesIn.wr h v hf

theorem Block.keepsBut.set {f : Field} (v : Nat) (hf : f.off ∈ offs) : b.keepsBut (c.set f v) offs :=
  Block.writesIn.set h v hf

theorem Block.keepsBut.setBit {f : Field} (i : Nat) (on : Bool) (hf : f.off ∈ offs) :
    b.keepsBut (c.setBit f i on) offs := Block.writesIn.setBit h i on hf

theorem Block.keepsBut.inc {f : Field} (hf : f.off ∈ offs) : b.keepsBut (c.inc f) offs := Block.writesIn.inc h hf

theorem Block.keepsBut.setAll {fs : List (Field × Nat)} (hf : ∀ p ∈ fs, p.1.off ∈ offs) :
    b.keepsBut (c.setAll fs) offs := Block.writesIn.setAll h hf

theorem Block.keepsBut.pend {f : Field} (hf : f.off ∈ offs) : b.keepsBut (c.pend f) offs := Block.writesIn.pend h hf

theorem Block.keepsBut.post (code sev src : Nat) (args : List (Nat × Nat)) (hs : recordRegs ⊆ offs) :
    b.keepsBut (c.post code sev src args) offs := Block.writesIn.post h code sev src args hs

theorem Block.keepsBut.gated (hm : Reg.SP_STAT 1 ∈ offs) : b.keepsBut c.gated offs := Block.writesIn.gated h hm

theorem Block.keepsBut.gated_of_not_silent (hd : c.dev.silent = false) : b.keepsBut c.gated offs :=
  Block.writesIn.gated_of_not_silent h hd

end

/-! ### Device states -/

/-- A register command of the PF takes effect in SETTLE, SERVICE and HOLD alone (R65, R537). -/
theorem Block.dev_of_reaches {b : Block} {fn : Nat} (h : b.reaches fn = true) :
    b.dev = .settle ∨ b.dev = .service ∨ b.dev = .hold := by
  unfold Block.reaches at h
  cases hd : b.dev <;> simp_all

theorem DevState.silent_eq_false_iff {d : DevState} :
    d.silent = false ↔ d = .settle ∨ d = .service ∨ d = .hold := by cases d <;> simp [DevState.silent]

theorem Block.not_silent_of_reaches {b : Block} {fn : Nat} (h : b.reaches fn = true) : b.dev.silent = false :=
  DevState.silent_eq_false_iff.2 (Block.dev_of_reaches h)

theorem Block.not_silent_of_accepts {b : Block} (h : b.accepts = true) : b.dev.silent = false :=
  Block.not_silent_of_reaches h

theorem Block.not_silent_of_service {b : Block} (h : b.dev = .service) : b.dev.silent = false := by rw [h]; rfl

@[simp] theorem Block.byPf_of_accepts {b : Block} (h : b.accepts = true) (f : Block → Block) : b.byPf f = f b := if_pos h

@[simp] theorem Block.byPf_of_not_accepts {b : Block} (h : b.accepts = false) (f : Block → Block) : b.byPf f = b :=
  if_neg (by simp [h])

/-! ### Completions -/

/-- A command completes with the block its meaning computes, behind the output stages. -/
theorem completes_of_next {c : Instr} {s : State} {b : Block} {P : Block → Prop}
    (hc : exec c s = .next { s with blk := b.gated }) (hP : P b.gated) : Completes c s P := ⟨_, hc, rfl, hP⟩

theorem Completes.imp {c : Instr} {s : State} {P Q : Block → Prop} (h : Completes c s P) (hPQ : ∀ b, P b → Q b) :
    Completes c s Q := by
  obtain ⟨t, ht, hq, hP⟩ := h
  exact ⟨t, ht, hq, hPQ _ hP⟩

end Sys2Proof.Machine

/-!
A step (O1, O2), the state after reset (O3) and the output stages (O5): whatever happens in a step, its block passes the
output stages last, so R532 holds of every next state.
-/

namespace Sys2Proof.Machine

/-- Settles O1: a step is defined by its front command. -/
theorem stepRunsFrontCommand : Obligations.StepRunsFrontCommand := fun _ _ _ => rfl

/-- A block that has passed the output stages has the harmless state of R532. -/
theorem Block.gated_harmless (b : Block) : b.gated.harmless := by
  refine ⟨fun h => ?_, fun h => ?_, fun h => ?_⟩ <;> rw [Block.gated_dev] at h
  · exact b.gated_lineReleased h
  · exact b.gated_bypass h
  · exact b.gated_mute h

/-- Settles O5: the block of every next state has passed the output stages. -/
theorem stepKeepsHarmless : Obligations.StepKeepsHarmless := by
  intro s t _ ht
  obtain ⟨b, rfl⟩ := step_next ht
  exact b.gated_harmless

/-- Settles O3: the block at reset lists no register, so each reads as its table says. -/
theorem resetState : Obligations.ResetState := by
  refine ⟨rfl, rfl, fun _ => rfl, ⟨fun _ => ⟨rfl, rfl, fun _ => rfl⟩, fun _ => ⟨rfl, rfl⟩, fun _ => ⟨rfl, fun _ => ⟨rfl, rfl⟩, ?_⟩⟩,
    ⟨rfl, rfl⟩, rfl, rfl, rfl, rfl, rfl, rfl, ?_, ?_, ?_⟩ <;> decide +kernel

end Sys2Proof.Machine

/-!
Doubts (R535, R536), the reset sources (R545, R546) and an access that R4 does not allow.
-/

namespace Sys2Proof.Machine

/-- Entry to QUIET leaves, behind the output stages, what R535 to R537 ask for. -/
theorem Block.enterQuiet_quietWith (b : Block) {cause : Nat} (hc : cause < 256) : (b.enterQuiet cause).gated.quietWith cause := by
  have hdev : (b.enterQuiet cause).dev = .quiet := b.enterQuiet_dev cause
  have hcause : (b.enterQuiet cause).gated.get Reg.GLB_STATE_QUIET_CAUSE = cause := by
    rw [Block.gated_get_other _ _ (by decide), Block.enterQuiet_cause, Nat.mod_eq_of_lt hc]
  obtain ⟨hshadow, harmed⟩ := b.enterQuiet_img cause
  obtain ⟨hA, hB⟩ := (b.enterQuiet cause).gated_bypass (by rw [hdev]; rfl)
  exact ⟨(Block.gated_dev _).trans hdev, hcause, Block.gated_lineReleased _ (by simp), hA, hB,
    Block.gated_mute _ (by rw [hdev]; rfl), by rw [Block.gated_img, harmed], by rw [Block.gated_img, hshadow]⟩

/-- A doubt that the device state detects enters QUIET. -/
theorem Block.doubt_quietWith {b : Block} {code : Nat} (hcode : code < 256) (hd : doubtDetected code b.dev = true) :
    (b.doubt code).gated.quietWith code := by
  rw [Block.doubt, if_pos hd]
  exact b.enterQuiet_quietWith hcode

/-- A command that leaves the block to its output stages moves no state and writes SP_STAT of port 1 at most. -/
theorem completes_idle {c : Instr} {s : State} {b : Block} (hc : exec c s = .next { s with blk := b.gated })
    (hb : b = s.blk) : Completes c s fun b => b.dev = s.blk.dev ∧ s.blk.keepsBut b [Reg.SP_STAT 1] := by
  subst hb
  refine completes_of_next hc ?_
  exact ⟨Block.gated_dev _, (s.blk.keepsBut_refl _).gated (by simp)⟩

/-- Settles O6: in SETTLE, SERVICE and HOLD each doubt is detected and enters QUIET; in RESET, LOAD and QUIET none is. -/
theorem doubtEntersQuiet : Obligations.DoubtEntersQuiet := by
  intro s
  refine ⟨fun hd => ?_, fun hd => ?_⟩
  · have hdetected : ∀ code ∈ [0x09, 0x0A, 0x0B, 0x0D], doubtDetected code s.blk.dev = true := by
      rcases hd with hd | hd | hd <;> rw [hd] <;> decide
    have hquiet : ∀ code ∈ [0x09, 0x0A, 0x0B, 0x0D], (s.blk.doubt code).gated.quietWith code := fun code hcode =>
      Block.doubt_quietWith (by revert code; decide) (hdetected code hcode)
    refine ⟨completes_of_next rfl (hquiet _ (by decide)), completes_of_next rfl (hquiet _ (by decide)),
      completes_of_next rfl (hquiet _ (by decide)), fun hacc => completes_of_next rfl ?_⟩
    simp only [Block.byPf_of_accepts hacc]
    exact hquiet _ (by decide)
  · have hnot : ∀ code ∈ [0x09, 0x0A, 0x0B, 0x0D], s.blk.doubt code = s.blk := by
      intro code hmem
      refine if_neg ?_
      rcases hd with hd | hd | hd <;> rw [hd] <;> revert code <;> decide
    intro c hc
    simp only [List.mem_cons, List.not_mem_nil, or_false] at hc
    rcases hc with rfl | rfl | rfl | rfl
    · exact completes_idle rfl (hnot _ (by decide))
    · exact completes_idle rfl (hnot _ (by decide))
    · exact completes_idle rfl (hnot _ (by decide))
    · refine completes_idle rfl ?_
      simp only [Block.byPf, hnot 0x0D (by decide), ite_self]

/-! ### The full reset (R545, R546) -/

/-- Outside the registers of the VBAT domain a full reset brings every register to its reset value. -/
theorem Block.fullReset_rd_other (b : Block) (source off : Nat)
    (h : off ∉ [Reg.CX_TAMPER_CFG, Reg.GLB_RESET_CAUSE, Reg.CX_TAMPER_STAT]) : (b.fullReset source).rd off = resetWord off := by
  simp only [List.mem_cons, List.not_mem_nil, or_false, not_or] at h
  obtain ⟨hcfg, hcause, hstat⟩ := h
  unfold Block.fullReset
  dsimp only
  rw [Block.rd_set_other _ _ _ _ hcause, Block.rd_set_other _ _ _ _ hstat, Block.rd_wr_other _ _ hcause,
    Block.rd_wr_other _ _ hcfg]
  rfl

theorem Block.fullReset_rd_tamperCfg (b : Block) (source : Nat) :
    (b.fullReset source).rd Reg.CX_TAMPER_CFG = b.rd Reg.CX_TAMPER_CFG := by
  unfold Block.fullReset
  dsimp only
  rw [Block.rd_set_other _ _ _ _ (by decide), Block.rd_set_other _ _ _ _ (by decide), Block.rd_wr_other _ _ (by decide),
    Block.rd_wr_same]

theorem Block.fullReset_get_tamperLatch (b : Block) (source : Nat) :
    (b.fullReset source).get Reg.CX_TAMPER_STAT_LATCH = b.get Reg.CX_TAMPER_STAT_LATCH := by
  unfold Block.fullReset
  dsimp only
  rw [Block.get_set_apart _ _ _ _ (by decide) (by decide), Block.get_set_same _ _ _ (by decide),
    Nat.mod_eq_of_lt (b.get_lt _)]

/-- The bit of the source is set (R545). -/
theorem Block.fullReset_bit_source (b : Block) {source : Nat} (h : source < Reg.GLB_RESET_CAUSE_SOURCE.width) :
    (b.fullReset source).bit Reg.GLB_RESET_CAUSE_SOURCE source = true := by
  unfold Block.bit Block.fullReset
  dsimp only
  rw [Block.get_set_same _ _ _ (by decide), Nat.testBit_mod_two_pow]
  simp [h]

/-- Writing a field the value it has changes no register. -/
theorem Block.rd_set_of_get {b : Block} {f : Field} {v : Nat} (h : b.get f = v) (off : Nat) :
    (b.set f v).rd off = b.rd off := by
  by_cases hoff : off = f.off
  · have hlt : v < 2 ^ f.width := h ▸ b.get_lt f
    have hbits : setBits (b.rd f.off).toNat f.lo f.width v = (b.rd f.off).toNat := by
      rw [setBits_eq, Nat.mod_eq_of_lt hlt, ← h]
      exact (bits_split _ _ _).symm
    rw [hoff]
    unfold Block.set
    rw [Block.rd_wr_same, hbits, BitVec.ofNat_toNat, BitVec.setWidth_eq]
  · exact b.rd_set_other f v off hoff

/-- The output stages mute the outputs, in RESET, LOAD and QUIET, of a block with the same registers. -/
theorem Block.gated_eq_muteOutputs (b : Block) :
    ∃ c : Block, c.regs = b.regs ∧ b.gated = if b.dev.silent then c.muteOutputs else c := by
  have hline : ∃ c : Block, c.regs = b.regs ∧ c.dev = b.dev ∧ (if b.dev = .service then b else b.releaseLine) = c := by
    refine ⟨_, ?_, ?_, rfl⟩ <;> split <;> rfl
  obtain ⟨c, hregs, hdev, hc⟩ := hline
  have hrings : ∃ d : Block, d.regs = c.regs ∧ d.dev = c.dev ∧ (if c.dev.joins then c else c.shortRings) = d := by
    refine ⟨_, ?_, ?_, rfl⟩ <;> split <;> rfl
  obtain ⟨d, hregs', hdev', hd⟩ := hrings
  refine ⟨d, hregs'.trans hregs, ?_⟩
  unfold Block.gated
  dsimp only
  rw [hc, hd, hdev', hdev]

/-- The output stages write no register where SP1_DE is low already in RESET, LOAD and QUIET. -/
theorem Block.gated_rd_of_de_low {b : Block} (h : b.dev.silent = true → b.get (Reg.SP_STAT_DE 1) = 0) (off : Nat) :
    b.gated.rd off = b.rd off := by
  obtain ⟨c, hregs, hgated⟩ := b.gated_eq_muteOutputs
  rw [hgated]
  split
  · next hd =>
    unfold Block.muteOutputs
    rw [Block.rd_set_of_get]
    · exact Block.rd_of_regs hregs off
    · rw [← h hd]
      exact Block.get_of_regs hregs _
  · exact Block.rd_of_regs hregs off

theorem Block.fullReset_get_de (b : Block) (source : Nat) : (b.fullReset source).get (Reg.SP_STAT_DE 1) = 0 := by
  have h : (b.fullReset source).rd (Reg.SP_STAT 1) = resetWord (Reg.SP_STAT 1) := b.fullReset_rd_other source _ (by decide)
  unfold Block.get
  rw [show (Reg.SP_STAT_DE 1).off = Reg.SP_STAT 1 from rfl, h]
  decide +kernel

theorem Block.fullReset_gated_rd (b : Block) (source off : Nat) : (b.fullReset source).gated.rd off = (b.fullReset source).rd off :=
  Block.gated_rd_of_de_low (fun _ => b.fullReset_get_de source) off

theorem Block.fullReset_gated_get (b : Block) (source : Nat) (f : Field) :
    (b.fullReset source).gated.get f = (b.fullReset source).get f := Block.get_of_rd (b.fullReset_gated_rd source _)

/-- What R546 keeps through a full reset, and that R545 records its source. -/
theorem completes_fullReset {c : Instr} {s : State} {b : Block} {source : Nat} (hsource : source < 6)
    (hc : exec c s = .next { s with blk := (b.fullReset source).gated }) :
    Completes c s fun b' => b'.dev = .reset ∧ b'.journal = b.journal ∧ b'.host.flash = b.host.flash ∧
      b'.fault.boot = b.fault.boot ∧ b'.rd Reg.CX_TAMPER_CFG = b.rd Reg.CX_TAMPER_CFG ∧
      b'.get Reg.CX_TAMPER_STAT_LATCH = b.get Reg.CX_TAMPER_STAT_LATCH ∧
      b'.get Reg.GLB_RESET_CAUSE_ESC_COUNT = b.get Reg.GLB_RESET_CAUSE_ESC_COUNT ∧
      b'.get Reg.GLB_RESET_CAUSE_BOOT = b.get Reg.GLB_RESET_CAUSE_BOOT ∧
      b'.bit Reg.GLB_RESET_CAUSE_SOURCE source = true ∧
      (∀ off, off ∉ [Reg.CX_TAMPER_CFG, Reg.GLB_RESET_CAUSE, Reg.CX_TAMPER_STAT] → b'.rd off = resetWord off) ∧
      b'.book = [] ∧ b'.strata = StrataSt.reset ∧ b'.cx.ctxs = [] ∧ b'.img = ImgSt.reset ∧ b'.brg = BearingSt.reset ∧
      b'.dtm = DatumSt.reset ∧ b'.pool = PoolSt.reset ∧ b'.mac = MacSt.reset ∧ b'.trv = TrvSt.reset ∧
      b'.sense = [] ∧ b'.serial = [] := by
  refine completes_of_next hc ⟨rfl, rfl, rfl, rfl, ?_, ?_, ?_, ?_, ?_, fun off hoff => ?_, rfl, rfl, rfl, rfl, rfl, rfl, rfl,
    rfl, rfl, rfl, rfl⟩
  · rw [Block.fullReset_gated_rd, Block.fullReset_rd_tamperCfg]
  · rw [Block.fullReset_gated_get, Block.fullReset_get_tamperLatch]
  · rw [Block.fullReset_gated_get, Block.fullReset_get_resetCause _ _ _ rfl (by decide)]
  · rw [Block.fullReset_gated_get, Block.fullReset_get_resetCause _ _ _ rfl (by decide)]
  · rw [Block.bit, Block.fullReset_gated_get]
    exact b.fullReset_bit_source hsource
  · rw [Block.fullReset_gated_rd, Block.fullReset_rd_other _ _ _ hoff]

/-- Settles O7: each of the three sources makes the full reset with its own bit. -/
theorem fullResetKeepsOnlyVbat : Obligations.FullResetKeepsOnlyVbat := by
  intro s rail p hp
  simp only [List.mem_cons, List.not_mem_nil, or_false] at hp
  rcases hp with rfl | rfl | rfl
  · exact completes_fullReset (source := 0) (by decide) rfl
  · exact completes_fullReset (source := 1) (by decide) rfl
  · exact completes_fullReset (source := 2) (by decide) rfl

/-! ### An access R4 does not allow -/

/-- Settles O8: the access changes the answer alone, and the output stages what R532 asks for. -/
theorem misalignedAccessChangesNothing : Obligations.MisalignedAccessChangesNothing := by
  intro s fn off bytes
  refine ⟨fun h => completes_of_next (if_pos h) ?_, fun h => if_neg (by simp [h])⟩
  have hkeep : s.blk.keepsBut (s.blk.answerWith .unsupported) [Reg.SP_STAT 1] := (s.blk.keepsBut_refl _).of_regs rfl
  refine ⟨Block.gated_host _, Block.gated_dev _, hkeep.gated (by simp), fun hs off _ => ?_, Block.gated_strata _,
    Block.gated_book _, Block.gated_brg _, Block.gated_img _, Block.gated_cx _⟩
  obtain ⟨-, -, hmute⟩ := hs
  exact Block.gated_rd_of_de_low (b := s.blk.answerWith .unsupported) (fun hd => (hmute hd).2.2) off

end Sys2Proof.Machine

/-!
Register writes of the PF (R4 to R8, R540): where a write is let through, what its fields become and what a violation does.
-/

namespace Sys2Proof.Machine

/-! ### Writes and reads of the PF that reach a register -/

theorem Block.accepts_iff {b : Block} : b.accepts = true ↔ b.present 0 = true ∧ (b.config 0).mse = true ∧ b.frozen 0 = false ∧
    (b.dev = .settle ∨ b.dev = .service ∨ b.dev = .hold) := by
  unfold Block.accepts Block.reaches
  cases b.dev <;> simp [and_assoc]

/-- An offset of BAR0 at which the PF meets a register of the device: below the queue descriptors, outside the cipher pages
and the windows. -/
def plainOffset (off : Nat) : Bool := off % 4 == 0 && (off < 0x180000 || (0x199000 ≤ off && off < 0x1F1000))

theorem toNat_ofNat_of_plainOffset {off : Nat} (h : plainOffset off = true) : (BitVec.ofNat 24 off).toNat = off := by
  simp only [plainOffset, Bool.and_eq_true, Bool.or_eq_true, decide_eq_true_eq] at h
  rw [BitVec.toNat_ofNat]
  omega

/-- A write of the PF to a plain offset is a write to the register there. -/
theorem Block.registerWrite_of_accepts {b : Block} {off : Nat} (v : Word) (h : b.accepts = true) (hoff : plainOffset off = true) :
    b.registerWrite { master := 0, off := BitVec.ofNat 24 off, v := some v } = b.writeReg 0 off v := by
  obtain ⟨hpresent, hmse, hfrozen, hdev⟩ := Block.accepts_iff.1 h
  have hoff' := toNat_ofNat_of_plainOffset hoff
  simp only [plainOffset, Bool.and_eq_true, Bool.or_eq_true, decide_eq_true_eq, beq_iff_eq] at hoff
  have hopen : b.stateOpen off = true := by unfold Block.stateOpen; rcases hdev with hdev | hdev | hdev <;> rw [hdev]
  have hreset : (b.dev == .reset) = false := by rcases hdev with hdev | hdev | hdev <;> rw [hdev] <;> rfl
  have hpage : cipherPage off = none := by
    unfold cipherPage
    rw [if_neg (by omega), if_neg (by omega)]
  unfold Block.registerWrite
  simp only [hoff', Fin.val_zero, hpresent, hmse, hfrozen, hreset, hoff.1, Block.pfWrite, hopen, hpage]
  have h1 : ¬ (0x200000 ≤ off ∧ off < 0x400000) := by omega
  have h2 : ¬ 0x400000 ≤ off := by omega
  have h3 : ¬ (0x1F1000 ≤ off ∧ off < 0x1F2000) := by omega
  have h4 : ¬ (0x1F3000 ≤ off ∧ off < 0x1F4000) := by omega
  have h5 : ¬ (0x1F4000 ≤ off ∧ off < 0x1F5000) := by omega
  simp [h1, h2, h3, h4, h5]

/-- A read of the PF at a plain offset is answered with the word shown there, or has the effect of its own row. -/
theorem Block.registerRead_of_accepts {b : Block} {off : Nat} (h : b.accepts = true) (hoff : plainOffset off = true) :
    b.registerWrite { master := 0, off := BitVec.ofNat 24 off, v := none } = b.readAnswer 0 off (b.shownWord 0 off) := by
  obtain ⟨hpresent, hmse, hfrozen, hdev⟩ := Block.accepts_iff.1 h
  have hoff' := toNat_ofNat_of_plainOffset hoff
  simp only [plainOffset, Bool.and_eq_true, Bool.or_eq_true, decide_eq_true_eq, beq_iff_eq] at hoff
  have hreset : (b.dev == .reset) = false := by rcases hdev with hdev | hdev | hdev <;> rw [hdev] <;> rfl
  have hpage : cipherPage off = none := by
    unfold cipherPage
    rw [if_neg (by omega), if_neg (by omega)]
  have hread : b.pfRead off = b.readAnswer 0 off (b.shownWord 0 off) := by
    unfold Block.pfRead Block.pfWord
    rcases hdev with hdev | hdev | hdev <;> simp [hdev, hpage]
  unfold Block.registerWrite
  simp [hoff', hpresent, hmse, hfrozen, hreset, hoff.1, hread]

/-- Where no rule of its own decides a write that R6 allows, its fields follow their access codes. -/
theorem Block.writeReg_eq_writeFields {b : Block} {m off : Nat} {v : Word} (hg3 : b.g3Absent off = false)
    (hrwl : b.touchesRwl off v = false ∨ m = 0 ∧ b.on Reg.CFG_STATUS_SEALED = false) (hspecial : b.writeSpecial off v = none)
    (hafter : (b.writeFields m off v).afterWrite b off = b.writeFields m off v) :
    b.writeReg m off v = b.writeFields m off v := by
  unfold Block.writeReg
  have hno : (b.touchesRwl off v && (m != 0 || b.on Reg.CFG_STATUS_SEALED)) = false := by
    rcases hrwl with h | ⟨rfl, h⟩ <;> simp [h]
  rw [hg3, hno, hspecial]
  exact hafter

theorem Block.touchesRwl_of_rwlBits {b : Block} {off : Nat} (v : Word) (h : rwlBits off = 0) : b.touchesRwl off v = false := by
  simp [Block.touchesRwl, h]

theorem Block.g3Absent_of_lt {b : Block} {off : Nat} (h : off < 0x80000 ∨ 0x98000 ≤ off) : b.g3Absent off = false := by
  unfold Block.g3Absent
  rcases h with h | h
  · simp [Nat.not_le_of_lt h]
  · simp [Nat.not_lt_of_le h]

/-! ### Fields of single registers -/

theorem setBits_bitsAt_self (v lo w : Nat) : setBits v lo w (bitsAt v lo w) = v := by
  rw [setBits_eq, Nat.mod_eq_of_lt (bitsAt_lt v lo w)]
  exact (bits_split v lo w).symm

/-- The word that the fields of a register take from a write, by their access codes. -/
def fieldsAfter (fs : List FieldSpec) (base m old v : Nat) : Nat :=
  fs.foldl (fun w f => setBits w f.lo f.width (fieldAfter base m f (bitsAt old f.lo f.width) (bitsAt v f.lo f.width))) old

theorem Block.writeFields_of_regAt (b : Block) (m : Nat) {off : Nat} (v : Word) {r : RegSpec} (h : regAt off = some r)
    (h0 : off ≠ Reg.SP_CTRL 0) (h1 : off ≠ Reg.SP_CTRL 1) :
    b.writeFields m off v = b.wr off (BitVec.ofNat 32 (fieldsAfter r.fields r.base m (b.rd off).toNat v.toNat)) := by
  unfold Block.writeFields
  rw [h]
  dsimp only
  rw [if_neg h0, if_neg h1, Nat.and_zero, Nat.sub_zero]
  rfl

/-- An offset that holds no register, and no special write, ignores a write (R8). -/
theorem Block.writeFields_of_empty (b : Block) (m : Nat) {off : Nat} (v : Word) (h : regAt off = none) :
    b.writeFields m off v = b := by
  unfold Block.writeFields
  rw [h]

theorem Block.writeFields_alertMask (b : Block) (m : Nat) (v : Word) :
    b.writeFields m Reg.FLT_ALERT_MASK v = b.set Reg.FLT_ALERT_MASK_MASK (bitsAt v.toNat 0 6) := by
  have hreg : regAt Reg.FLT_ALERT_MASK = some ⟨0x20004, [], [⟨0, 6, .rw, 0⟩]⟩ := by decide
  have hsoft : ∀ n, softOk 0x20004 0 n = true := fun n => by
    have : softChecked.any (fun f => isAt f 0x20004 0) = false := by decide
    simp [softOk, this]
  have hvec : ((0x20004 : Nat) == Reg.CX_PAGE_CTRL 0) = false := by decide
  rw [b.writeFields_of_regAt m v hreg (by decide) (by decide)]
  simp only [fieldsAfter, List.foldl_cons, List.foldl_nil, fieldAfter, hsoft, hvec, Bool.false_and, Bool.not_false,
    Bool.and_true, if_true]
  rfl

theorem Block.writeFields_glbId (b : Block) (v : Word) : b.writeFields 0 Reg.GLB_ID v = b.wr Reg.GLB_ID (b.rd Reg.GLB_ID) := by
  have hreg : regAt Reg.GLB_ID = some ⟨0, [], [⟨0, 16, .ro, 29248⟩, ⟨16, 4, .ro, 2⟩]⟩ := by decide
  rw [b.writeFields_of_regAt 0 v hreg (by decide) (by decide)]
  simp only [fieldsAfter, List.foldl_cons, List.foldl_nil, fieldAfter, setBits_bitsAt_self, BitVec.ofNat_toNat,
    BitVec.setWidth_eq]

theorem Block.writeFields_flrSeen (b : Block) (v : Word) :
    b.writeFields 0 Reg.HIF_FLR_SEEN v = b.set Reg.HIF_FLR_SEEN_FN
      (b.get Reg.HIF_FLR_SEEN_FN - (b.get Reg.HIF_FLR_SEEN_FN &&& v.toNat % 65536)) := by
  have hreg : regAt Reg.HIF_FLR_SEEN = some ⟨0x1F000C, [], [⟨0, 16, .w1c, 0⟩]⟩ := by decide
  have hv : bitsAt v.toNat 0 16 = v.toNat % 65536 := by simp [bitsAt]
  rw [b.writeFields_of_regAt 0 v hreg (by decide) (by decide)]
  simp only [fieldsAfter, List.foldl_cons, List.foldl_nil, fieldAfter, hv]
  rfl

/-- Writing a register the word it has changes no register. -/
theorem Block.rd_wr_rd (b : Block) (off off' : Nat) : (b.wr off (b.rd off)).rd off' = b.rd off' := by
  by_cases h : off' = off
  · rw [h, Block.rd_wr_same]
  · exact b.rd_wr_other _ h

/-- A write of the PF to a register of plain fields is the write of its fields. -/
theorem completes_registerWrite {s : State} {off : Nat} {v : Word} {P : Block → Prop} (hacc : s.blk.accepts = true)
    (hoff : plainOffset off = true) (hP : P (s.blk.writeReg 0 off v).gated) :
    Completes (.registerWrite { master := 0, off := BitVec.ofNat 24 off, v := some v }) s P :=
  completes_of_next (b := s.blk.registerWrite { master := 0, off := BitVec.ofNat 24 off, v := some v }) rfl
    (by rwa [Block.registerWrite_of_accepts v hacc hoff])

theorem Block.writeReg_alertMask (b : Block) (m : Nat) (v : Word) :
    b.writeReg m Reg.FLT_ALERT_MASK v = b.writeFields m Reg.FLT_ALERT_MASK v :=
  Block.writeReg_eq_writeFields (Block.g3Absent_of_lt (by decide)) (.inl (Block.touchesRwl_of_rwlBits v (by decide))) rfl rfl

theorem Block.writeReg_glbId (b : Block) (v : Word) : b.writeReg 0 Reg.GLB_ID v = b.writeFields 0 Reg.GLB_ID v :=
  Block.writeReg_eq_writeFields (Block.g3Absent_of_lt (by decide)) (.inl (Block.touchesRwl_of_rwlBits v (by decide))) rfl rfl

theorem Block.writeReg_flrSeen (b : Block) (v : Word) :
    b.writeReg 0 Reg.HIF_FLR_SEEN v = b.writeFields 0 Reg.HIF_FLR_SEEN v :=
  Block.writeReg_eq_writeFields (Block.g3Absent_of_lt (by decide)) (.inl (Block.touchesRwl_of_rwlBits v (by decide))) rfl rfl

theorem Block.writeReg_empty (b : Block) (v : Word) : b.writeReg 0 0x000FF0 v = b :=
  (Block.writeReg_eq_writeFields (Block.g3Absent_of_lt (by decide)) (.inl (Block.touchesRwl_of_rwlBits v (by decide))) rfl
    rfl).trans (b.writeFields_of_empty 0 v (by decide))

/-- Settles O9: each of the four writes is the write of its fields, and a read has no effect but its answer. -/
theorem registerWriteFollowsAccessCodes : Obligations.RegisterWriteFollowsAccessCodes := by
  intro s v hacc
  have hsilent := Block.not_silent_of_accepts hacc
  refine ⟨completes_registerWrite hacc (by decide) ?_, completes_registerWrite hacc (by decide) ?_,
    completes_registerWrite hacc (by decide) ?_, completes_registerWrite (off := 0x000FF0) hacc (by decide) ?_, ?_⟩
  · rw [Block.writeReg_alertMask, Block.writeFields_alertMask]
    refine ⟨?_, ((s.blk.keepsBut_refl _).set _ (by simp)).gated_of_not_silent hsilent⟩
    have hbits : setBits (s.blk.rd Reg.FLT_ALERT_MASK).toNat 0 6 (bitsAt v.toNat 0 6) =
        v.toNat % 64 + (s.blk.rd Reg.FLT_ALERT_MASK).toNat / 64 * 64 := by
      simp only [setBits_eq, bitsAt]
      omega
    rw [Block.gated_rd_other _ _ (by decide), Block.set, Block.rd_wr_same, hbits]
  · rw [Block.writeReg_glbId, Block.writeFields_glbId]
    exact Block.keepsBut.gated_of_not_silent (fun off _ => s.blk.rd_wr_rd _ off) hsilent
  · rw [Block.writeReg_flrSeen, Block.writeFields_flrSeen]
    refine ⟨?_, ((s.blk.keepsBut_refl _).set _ (by simp)).gated_of_not_silent hsilent⟩
    rw [Block.gated_get_other _ _ (by decide), Block.get_set_same _ _ _ (by decide), Nat.mod_eq_of_lt]
    exact (Nat.sub_le _ _).trans_lt (s.blk.get_lt _)
  · rw [Block.writeReg_empty]
    exact (s.blk.keepsBut_refl _).gated_of_not_silent hsilent
  · refine completes_of_next (b := s.blk.registerWrite { master := 0, off := BitVec.ofNat 24 Reg.FLT_ALERT_MASK, v := none })
      rfl ?_
    rw [Block.registerRead_of_accepts hacc (by decide)]
    have hkeep : s.blk.keepsBut (s.blk.readAnswer 0 Reg.FLT_ALERT_MASK (s.blk.shownWord 0 Reg.FLT_ALERT_MASK)) [] :=
      (s.blk.keepsBut_refl _).of_regs rfl
    exact ⟨by rw [Block.gated_host]; rfl, hkeep.gated_of_not_silent hsilent⟩

/-! ### Violations (R540) -/

/-- The registers a violation may write. -/
def violationRegs : List Nat :=
  Reg.GLB_FROZEN :: Reg.FLT_VIOL_INFO :: Reg.FLT_VIOL_ADDR :: Reg.FLT_VIOL_COUNT :: recordRegs

theorem Block.freeze_keepsBut (b : Block) (m kind off : Nat) : b.keepsBut (b.freeze m kind off) violationRegs := by
  have hpost : b.keepsBut ((b.setBit Reg.GLB_FROZEN_MASTER m true).post 0x1003 3 0x49 [(1, m), (1, kind), (4, off)])
      violationRegs := ((b.keepsBut_refl _).setBit _ _ (by decide)).post _ _ _ _ (by decide)
  unfold Block.freeze
  dsimp only
  refine Block.keepsBut.pend (Block.keepsBut.inc ?_ (by decide)) (by decide)
  split
  · exact hpost
  · exact hpost.setAll (by simp [violationRegs])

/-- The latch, the count and FLT_PEND of a violation. -/
theorem Block.freeze_shows (b : Block) {m : Nat} (kind off : Nat) (hm : m < Reg.GLB_FROZEN_MASTER.width) :
    (b.freeze m kind off).frozen m = true ∧ (b.freeze m kind off).get Reg.FLT_PEND_VIOL = 1 ∧
      (b.freeze m kind off).get Reg.FLT_VIOL_COUNT_COUNT = (b.get Reg.FLT_VIOL_COUNT_COUNT + 1) % 2 ^ 32 ∧
      (b.freeze m kind off).on Reg.FLT_VIOL_INFO_VALID = true := by
  have hfrozen : (b.setBit Reg.GLB_FROZEN_MASTER m true).frozen m = true := by
    unfold Block.frozen
    rw [Block.bit_setBit _ _ _ _ _ (by decide) hm, if_pos rfl]
  have hpost : ∀ f : Field, f.off ∉ recordRegs → ((b.setBit Reg.GLB_FROZEN_MASTER m true).post 0x1003 3 0x49
      [(1, m), (1, kind), (4, off)]).get f = (b.setBit Reg.GLB_FROZEN_MASTER m true).get f :=
    fun f hf => Block.get_post _ _ _ _ _ f hf
  have hcount : (b.setBit Reg.GLB_FROZEN_MASTER m true).get Reg.FLT_VIOL_COUNT_COUNT = b.get Reg.FLT_VIOL_COUNT_COUNT :=
    Block.get_of_rd (Block.rd_setBit_other _ _ _ _ _ (by decide))
  unfold Block.freeze
  dsimp only
  set c := (b.setBit Reg.GLB_FROZEN_MASTER m true).post 0x1003 3 0x49 [(1, m), (1, kind), (4, off)]
  set d := if c.on Reg.FLT_VIOL_INFO_VALID = true then c else
    c.setAll [(Reg.FLT_VIOL_INFO_MASTER, m), (Reg.FLT_VIOL_INFO_KIND, kind), (Reg.FLT_VIOL_INFO_VALID, 1),
      (Reg.FLT_VIOL_ADDR_OFFSET, off)] with hd
  have hother : ∀ f : Field, f.off ∉ [Reg.FLT_VIOL_INFO, Reg.FLT_VIOL_ADDR] → d.get f = c.get f := by
    intro f hf
    apply Block.get_of_rd
    rw [hd]
    split
    · rfl
    · apply Block.rd_setAll_other
      simp only [List.mem_cons, List.not_mem_nil, or_false, not_or] at hf
      simp [hf]
  have hvalid : d.on Reg.FLT_VIOL_INFO_VALID = true := by
    rw [hd]
    split
    · assumption
    · simp only [Block.setAll_cons, Block.setAll_nil, Block.on]
      rw [Block.get_set_apart _ _ _ _ (by decide) (by decide), Block.get_set_same _ _ _ (by decide)]
      rfl
  have hlast : ∀ f : Field, f.off ∉ [Reg.FLT_VIOL_COUNT, Reg.FLT_PEND] →
      ((d.inc Reg.FLT_VIOL_COUNT_COUNT).pend Reg.FLT_PEND_VIOL).get f = d.get f := by
    intro f hf
    simp only [List.mem_cons, List.not_mem_nil, or_false, not_or] at hf
    apply Block.get_of_rd
    rw [Block.rd_pend_other _ _ _ hf.2, Block.rd_inc_other _ _ _ hf.1]
  refine ⟨?_, Block.get_pend _ _ (by decide) rfl, ?_, ?_⟩
  · unfold Block.frozen Block.bit
    rw [hlast _ (by decide), hother _ (by decide), hpost _ (by decide)]
    exact hfrozen
  · rw [Block.get_of_rd (Block.rd_pend_other _ _ _ (by decide)), Block.get_inc _ _ (by decide), hother _ (by decide),
      hpost _ (by decide), hcount]
  · unfold Block.on
    rw [hlast _ (by decide)]
    exact hvalid

/-- A first violation of a function that is no internal master: the freeze, and its waiting parcels are dropped. -/
theorem Block.violation_of_function {b : Block} {m : Nat} (kind off : Nat) (hm : m < 16) (h : b.frozen m = false) :
    b.violation m kind off = (b.freeze m kind off).dropWaiting m := by
  unfold Block.violation
  rw [if_neg (by simp [h]), if_neg (by omega), if_pos hm]

/-- Dropping what waits of a function writes PT_P0_WAIT alone. -/
theorem Block.dropWaiting_keepsBut (b : Block) (fn : Nat) : b.keepsBut (b.dropWaiting fn) [Reg.PT_P0_WAIT] :=
  ((b.keepsBut_refl _).of_regs rfl).set _ (by decide)

theorem Block.dropWaiting_dev (b : Block) (fn : Nat) : (b.dropWaiting fn).dev = b.dev := rfl

/-! ### GLB_WDOG under the lock of R6 -/

theorem Block.writeReg_sealed {b : Block} {off : Nat} {v : Word} (hg3 : b.g3Absent off = false)
    (htouch : b.touchesRwl off v = true) (hsealed : b.on Reg.CFG_STATUS_SEALED = true) :
    b.writeReg 0 off v = b.violation 0 2 off := by
  unfold Block.writeReg
  rw [hg3, htouch, hsealed]
  rfl

theorem Block.writeReg_wdog {b : Block} (v : Word) (hopen : b.on Reg.CFG_STATUS_SEALED = false) :
    b.writeReg 0 Reg.GLB_WDOG v = b.writeFields 0 Reg.GLB_WDOG v :=
  Block.writeReg_eq_writeFields (Block.g3Absent_of_lt (by decide)) (.inr ⟨rfl, hopen⟩) rfl rfl

/-- A field that lies within one just written shows the bits of the value there. -/
theorem Block.get_set_within (b : Block) {f g : Field} (v : Nat) (hoff : g.off = f.off) (hf : f.fits) (hlo : f.lo ≤ g.lo)
    (hhi : g.lo + g.width ≤ f.lo + f.width) : (b.set f v).get g = bitsAt v (g.lo - f.lo) g.width := by
  unfold Block.get Block.set
  rw [hoff, Block.rd_wr_same, BitVec.toNat_ofNat, Nat.mod_eq_of_lt (setBits_lt (b.rd f.off).isLt hf)]
  apply Nat.eq_of_testBit_eq
  intro i
  rw [testBit_bitsAt, testBit_bitsAt, testBit_setBits]
  by_cases hi : i < g.width
  · have h1 : ¬ g.lo + i < f.lo := by omega
    have h2 : g.lo + i < f.lo + f.width := by omega
    have h3 : g.lo + i - f.lo = g.lo - f.lo + i := by omega
    simp [hi, h1, h2, h3]
  · simp [hi]

/-- Two neighbouring runs of bits taken from one number are one run of it. -/
theorem setBits_bitsAt_adjacent (v n w w' : Nat) :
    setBits (setBits v 0 w (bitsAt n 0 w)) w w' (bitsAt n w w') = setBits v 0 (w + w') (bitsAt n 0 (w + w')) := by
  apply Nat.eq_of_testBit_eq
  intro i
  simp only [testBit_setBits, testBit_bitsAt, Nat.zero_add, Nat.sub_zero, Nat.not_lt_zero, if_false]
  by_cases h : i < w
  · simp [h, Nat.lt_add_right w' h]
  · by_cases h' : i < w + w'
    · have h1 : i - w < w' := by omega
      have h2 : w + (i - w) = i := by omega
      simp [h, h', h1, h2]
    · simp [h, h']

/-- The three fields of GLB_WDOG take the bits written; its reserved bits stay. -/
theorem Block.writeFields_wdog (b : Block) (v : Word) :
    b.writeFields 0 Reg.GLB_WDOG v = b.set ⟨Reg.GLB_WDOG, 0, 18⟩ (bitsAt v.toNat 0 18) := by
  have hreg : regAt Reg.GLB_WDOG = some ⟨0x1C, [], [⟨0, 16, .rwl, 1000⟩, ⟨16, 1, .rwl, 0⟩, ⟨17, 1, .rwl, 0⟩]⟩ := by decide
  rw [b.writeFields_of_regAt 0 v hreg (by decide) (by decide)]
  simp only [fieldsAfter, List.foldl_cons, List.foldl_nil, fieldAfter, setBits_bitsAt_adjacent]
  rfl

/-- Settles O10: the write that R6 forbids is a violation; before sealing it is the write of its fields. -/
theorem sealedWriteIsDiscarded : Obligations.SealedWriteIsDiscarded := by
  intro s v hacc htouch
  have hsilent := Block.not_silent_of_accepts hacc
  obtain ⟨-, -, hfrozen, -⟩ := Block.accepts_iff.1 hacc
  refine ⟨fun hsealed => completes_registerWrite hacc (by decide) ?_, fun hopen => completes_registerWrite hacc (by decide) ?_⟩
  · rw [Block.writeReg_sealed (Block.g3Absent_of_lt (by decide)) htouch hsealed, Block.violation_of_function _ _ (by decide) hfrozen]
    set b := s.blk.freeze 0 2 Reg.GLB_WDOG with hb
    obtain ⟨hf, hpend, hcount, hvalid⟩ := s.blk.freeze_shows (m := 0) 2 Reg.GLB_WDOG (by decide)
    rw [← hb] at hf hpend hcount hvalid
    have hkeep : b.keepsBut (b.dropWaiting 0).gated [Reg.PT_P0_WAIT, Reg.SP_STAT 1] :=
      ((b.dropWaiting_keepsBut 0).mono (by simp)).gated (by simp)
    refine ⟨(hkeep _ (by decide)).trans (s.blk.freeze_keepsBut _ _ _ _ (by decide)), ?_,
      by rw [Block.gated_dev, Block.dropWaiting_dev, hb, Block.freeze_dev],
      (hkeep.get (by decide)).trans hpend, (hkeep.get (by decide)).trans hcount, ?_⟩
    · rw [Block.frozen, Block.bit, hkeep.get (by decide)]
      exact hf
    · rw [Block.on, hkeep.get (by decide)]
      exact hvalid
  · rw [Block.writeReg_wdog v hopen, Block.writeFields_wdog]
    refine ⟨?_, ?_, ?_, ((s.blk.keepsBut_refl _).set _ (by simp)).gated_of_not_silent hsilent⟩ <;>
      rw [Block.gated_get_other _ _ (by decide), Block.get_set_within _ _ (by decide) (by decide) (by decide) (by decide)] <;>
      simp only [bitsAt] <;> omega

end Sys2Proof.Machine

/-!
The host's side doors: the console agent (R578, R579), the I2C target (R576) and the watchdogs (R547).
-/

namespace Sys2Proof.Machine

/-! ### The console agent -/

theorem Block.consoleLine_of_takes {b : Block} (h : b.consoleTakes = true) (f : Block → Block) :
    b.consoleLine true f = f b := by simp [Block.consoleLine, h]

theorem Block.consoleLine_of_not_takes {b : Block} (h : b.consoleTakes = false) (on : Bool) (f : Block → Block) :
    b.consoleLine on f = b := by simp [Block.consoleLine, h]

/-- What R578 and R585 ask for when the agent answers a line: it goes out, it is counted, and so is an answer E. -/
def Block.saysOver (b : Block) (line : List Byte) (refused : Nat) (b' : Block) : Prop :=
  b'.host.consoleOut = b.host.consoleOut ++ [line] ∧ b'.host.answer = .bytes line ∧
    b'.get Reg.HIF_CONSOLE_LINES = (b.get Reg.HIF_CONSOLE_LINES + 1) % 2 ^ 16 ∧
    b'.get Reg.HIF_CONSOLE_REFUSED = (b.get Reg.HIF_CONSOLE_REFUSED + refused) % 2 ^ 16

theorem Block.consoleSay_regs (b : Block) (line : List Byte) : (b.consoleSay line).regs =
    (if line.head? = some 0x45 then (b.inc Reg.HIF_CONSOLE_LINES).inc Reg.HIF_CONSOLE_REFUSED
      else b.inc Reg.HIF_CONSOLE_LINES).regs := rfl

theorem Block.consoleSay_host (b : Block) (line : List Byte) : (b.consoleSay line).host =
    { b.host with consoleOut := b.host.consoleOut ++ [line], answer := .bytes line } := by
  unfold Block.consoleSay
  dsimp only
  split <;> simp only [Block.answerWith, Block.inc_host]

theorem Block.consoleSay_keepsBut (b : Block) (line : List Byte) : b.keepsBut (b.consoleSay line) [Reg.HIF_CONSOLE] := by
  refine Block.keepsBut.of_regs ?_ (b.consoleSay_regs line)
  have hlines : b.keepsBut (b.inc Reg.HIF_CONSOLE_LINES) [Reg.HIF_CONSOLE] := (b.keepsBut_refl _).inc (by simp)
  split
  · exact hlines.inc (by simp)
  · exact hlines

theorem Block.consoleSay_ok (b : Block) {line : List Byte} (h : line.head? ≠ some 0x45) :
    b.saysOver line 0 (b.consoleSay line).gated := by
  have hget : ∀ f, (b.consoleSay line).get f = (b.inc Reg.HIF_CONSOLE_LINES).get f := fun f =>
    Block.get_of_regs ((b.consoleSay_regs line).trans (by rw [if_neg h])) f
  refine ⟨by rw [Block.gated_host, Block.consoleSay_host], by rw [Block.gated_host, Block.consoleSay_host], ?_, ?_⟩ <;>
    rw [Block.gated_get_other _ _ (by decide), hget]
  · exact b.get_inc _ (by decide)
  · rw [Nat.add_zero, Nat.mod_eq_of_lt (b.get_lt Reg.HIF_CONSOLE_REFUSED), Block.inc,
      Block.get_set_apart _ _ _ _ (by decide) (by decide)]

theorem Block.consoleSay_refused (b : Block) {line : List Byte} (h : line.head? = some 0x45) :
    b.saysOver line 1 (b.consoleSay line).gated := by
  have hget : ∀ f, (b.consoleSay line).get f =
      ((b.inc Reg.HIF_CONSOLE_LINES).inc Reg.HIF_CONSOLE_REFUSED).get f := fun f =>
    Block.get_of_regs ((b.consoleSay_regs line).trans (by rw [if_pos h])) f
  have hapart : ∀ (c : Block) (f g : Field), f.fits → f.apart g → (c.inc f).get g = c.get g :=
    fun c f g hf ha => c.get_set_apart f g _ hf ha
  refine ⟨by rw [Block.gated_host, Block.consoleSay_host], by rw [Block.gated_host, Block.consoleSay_host], ?_, ?_⟩ <;>
    rw [Block.gated_get_other _ _ (by decide), hget]
  · rw [hapart _ _ _ (by decide) (by decide)]
    exact b.get_inc _ (by decide)
  · rw [Block.get_inc _ _ (by decide), hapart _ _ _ (by decide) (by decide)]

theorem Block.consoleW_closed {b : Block} {off : Nat} (v : Word) (h : off % 4 ≠ 0 ∨ b.openRange off = false) :
    b.consoleW off v = b.consoleSay (textE 2) := if_pos (by simpa using h)

theorem Block.consoleWord_pend (b : Block) : b.consoleWord Reg.FLT_PEND = (b, b.rd Reg.FLT_PEND) := by
  have hspecial : b.readSpecial 17 Reg.FLT_PEND = none := rfl
  have hshown : b.shownWord 17 Reg.FLT_PEND = b.rd Reg.FLT_PEND := rfl
  unfold Block.consoleWord
  rw [hspecial, hshown]
  simp [Reg.FLT_PEND]

theorem Block.consoleW_alertMask {b : Block} (v : Word) (hopen : b.openRange Reg.FLT_ALERT_MASK = true) (hquiet : b.dev ≠ .quiet)
    (hreset : b.dev ≠ .reset) :
    b.consoleW Reg.FLT_ALERT_MASK v = (b.set Reg.FLT_ALERT_MASK_MASK (bitsAt v.toNat 0 6)).consoleSay textOk := by
  unfold Block.consoleW
  rw [if_neg (by simp [hopen, Reg.FLT_ALERT_MASK]), Block.touchesRwl_of_rwlBits v (by decide), if_neg (by simpa using hquiet),
    Block.writeReg_alertMask, Block.writeFields_alertMask]
  exact if_neg (by simpa using hreset)

theorem Block.dev_of_consoleTakes {b : Block} (h : b.consoleTakes = true) : b.dev ≠ .reset := by
  intro hd
  simp [Block.consoleTakes, hd] at h

/-- Settles O11: each line is answered with the text its clause names, and none is taken while the port is not the agent's. -/
theorem consoleAnswersEachLine : Obligations.ConsoleAnswersEachLine := by
  intro s line seq v off
  refine ⟨fun ht => ⟨?_, fun p hp => ?_, fun hp => ?_, fun hl => ?_, fun hl hr => ?_, fun hl => ?_, fun hl hw => ?_,
    fun hl hopen hquiet => ?_⟩, fun ht c hc => ?_⟩
  · refine completes_of_next (b := s.blk.consoleLine true fun b => b.consoleS) rfl ?_
    rw [Block.consoleLine_of_takes ht]
    exact s.blk.consoleSay_ok (by simp [textOk])
  · refine completes_of_next (b := s.blk.consoleLine true fun b => b.consoleF seq) rfl ?_
    rw [Block.consoleLine_of_takes ht, Block.consoleF, hp]
    exact s.blk.consoleSay_ok (by simp [textOk])
  · refine completes_of_next (b := s.blk.consoleLine true fun b => b.consoleF seq) rfl ?_
    rw [Block.consoleLine_of_takes ht, Block.consoleF, hp]
    exact s.blk.consoleSay_refused (by decide)
  · refine completes_of_next (b := s.blk.consoleLine (parseLine line == .other) fun b => b.consoleSay (textE 2)) rfl ?_
    rw [hl, beq_self_eq_true, Block.consoleLine_of_takes ht]
    exact s.blk.consoleSay_refused (by decide)
  · refine completes_of_next (b := s.blk.consoleLine true fun b => b.consoleR off) (by rw [exec, execConsoleRead, hl]; rfl) ?_
    rw [Block.consoleLine_of_takes ht, Block.consoleR, hr]
    exact s.blk.consoleSay_refused (by decide)
  · refine completes_of_next (b := s.blk.consoleLine true fun b => b.consoleR Reg.FLT_PEND)
      (by rw [exec, execConsoleRead, hl]; rfl) ?_
    have hreads : s.blk.consoleReads Reg.FLT_PEND = true := rfl
    rw [Block.consoleLine_of_takes ht, Block.consoleR, hreads, Block.consoleWord_pend]
    exact s.blk.consoleSay_ok (by simp [textOk])
  · refine completes_of_next (b := s.blk.consoleLine true fun b => b.consoleW off v) (by rw [exec, execConsoleWrite, hl]; rfl) ?_
    rw [Block.consoleLine_of_takes ht, Block.consoleW_closed v hw]
    exact s.blk.consoleSay_refused (by decide)
  · refine completes_of_next (b := s.blk.consoleLine true fun b => b.consoleW Reg.FLT_ALERT_MASK v)
      (by rw [exec, execConsoleWrite, hl]; rfl) ?_
    rw [Block.consoleLine_of_takes ht, Block.consoleW_alertMask v hopen hquiet (Block.dev_of_consoleTakes ht)]
    set b := s.blk.set Reg.FLT_ALERT_MASK_MASK (bitsAt v.toNat 0 6) with hb
    obtain ⟨hout, hanswer, hlines, hrefused⟩ := b.consoleSay_ok (line := textOk) (by decide)
    have hsame : ∀ f : Field, f.off ≠ Reg.FLT_ALERT_MASK → b.get f = s.blk.get f :=
      fun f hf => Block.get_of_rd (Block.rd_set_other _ _ _ _ hf)
    rw [hsame _ (by decide)] at hlines hrefused
    refine ⟨⟨hout, hanswer, hlines, hrefused⟩, ?_⟩
    rw [Block.gated_get_other _ _ (by decide), (b.consoleSay_keepsBut textOk).get (by decide), hb, Block.get_set_same _ _ _ (by decide)]
    simp [bitsAt]
  · have hidle : ∀ {c : Instr}, exec c s = .next { s with blk := s.blk.gated } → Completes c s fun b =>
        b.host = s.blk.host ∧ s.blk.keepsBut b [Reg.SP_STAT 1] := fun h =>
      completes_of_next h ⟨Block.gated_host _, (s.blk.keepsBut_refl _).gated (by simp)⟩
    have hline : ∀ on f, s.blk.consoleLine on f = s.blk := fun on f => Block.consoleLine_of_not_takes ht on f
    simp only [List.mem_cons, List.not_mem_nil, or_false] at hc
    rcases hc with rfl | rfl | rfl | rfl | rfl <;> apply hidle
    · rw [exec, execConsoleStatus, answer_next, hline]
    · rw [exec, execConsoleFieldBook, answer_next, hline]
    · rw [exec, execConsoleOther, answer_next, hline]
    · rw [exec, execConsoleRead, answer_next]
      cases parseLine line <;> simp [hline]
    · rw [exec, execConsoleWrite, answer_next]
      cases parseLine line <;> simp [hline]

/-! ### The I2C target -/

/-- Settles O12: both commands change the target's pointer and latch, and a read the count of R585. -/
theorem i2cReadsAWordAsLatched : Obligations.I2cReadsAWordAsLatched := by
  intro s x y z
  have hbe : beNat [x, y, z] = x.toNat * 65536 + y.toNat * 256 + z.toNat := by
    simp only [beNat, List.foldl_cons, List.foldl_nil]
    omega
  refine ⟨completes_of_next (b := s.blk.i2cPointer [x, y, z]) rfl ⟨?_, ?_⟩, completes_of_next (b := s.blk.i2cRead) rfl ?_⟩
  · rw [Block.gated_host, ← hbe]
    rfl
  · exact ((s.blk.keepsBut_refl _).of_regs rfl : s.blk.keepsBut (s.blk.i2cPointer [x, y, z]) _).gated (by simp)
  · have hkeep : s.blk.keepsBut s.blk.i2cRead [Reg.HIF_I2C_READS, Reg.SP_STAT 1] := by
      unfold Block.i2cRead
      dsimp only
      split
      · exact (s.blk.keepsBut_refl _).of_regs rfl
      · exact ((s.blk.keepsBut_refl _).inc (f := Reg.HIF_I2C_READS_COUNT) (by simp)).of_regs rfl
    rw [Block.gated_host]
    refine ⟨rfl, rfl, fun h0 => ⟨?_, ?_⟩, fun w h0 hw => ⟨?_, ?_⟩, hkeep.gated (by simp)⟩
    · simp [Block.i2cRead, Block.answerWith, h0]
    · simp [Block.i2cRead, Block.answerWith, h0]
    · simp [Block.i2cRead, Block.answerWith, h0, hw]
    · simp [Block.i2cRead, Block.answerWith, h0, hw]

/-! ### Watchdogs -/

theorem Block.dev_of_hostLate {b : Block} (h : b.hostLate = true) : b.dev = .settle ∨ b.dev = .service := by
  unfold Block.hostLate Block.wdogActs at h
  cases hd : b.dev <;> simp_all

theorem Block.get_pend_apart (b : Block) (f g : Field) (hf : f.fits) (h : f.apart g) : (b.pend f).get g = b.get g := by
  unfold Block.pend
  split
  · rfl
  · rw [Block.get_of_regs (Block.raiseFixed_regs _ _), Block.get_set_apart _ _ _ _ hf h]

/-- Of FLT_PEND a record sets the bit of the journal at most (R551). -/
theorem Block.get_post_pendBit (b : Block) (code sev src : Nat) (args : List (Nat × Nat)) {f : Field} (hoff : f.off = Reg.FLT_PEND)
    (ha : Reg.FLT_PEND_JOURNAL.apart f) : (b.post code sev src args).get f = b.get f := by
  have hslot : ∀ made, (b.takeSlot made).get f = b.get f := fun made =>
    Block.get_of_rd (b.rd_takeSlot made f.off (by rw [hoff]; decide) (by rw [hoff]; decide))
  have hjournal : ∀ (c : Block) (made : FbRecord), (c.journalWrite made 0 0 0).get f = c.get f := by
    intro c made
    unfold Block.journalWrite
    dsimp only
    split
    · rw [Block.get_pend_apart _ _ _ (by decide) ha]
      exact Block.get_of_rd (Block.rd_inc_other _ _ _ (by rw [hoff]; decide))
    · exact Block.get_of_rd (Block.rd_setAll_other _ _ _ (by rw [hoff]; simp))
  unfold Block.post
  dsimp only
  rw [Block.get_of_regs (Block.notifyRecord_regs _ _)]
  split
  · rw [hjournal, hslot]
  · exact hslot _

/-- Settles O13: what the expiry of each timer does, and that a kick restarts the host's. -/
theorem watchdogsExpire : Obligations.WatchdogsExpire := by
  intro s m
  have hexec : exec .wdogHost s = .next { s with blk := (if s.blk.hostLate then s.blk.wdogHost else s.blk).gated } := rfl
  set late : Block := { s.blk with fault := { s.blk.fault with wdogOut := true } } with hl
  set posted := (late.pend Reg.FLT_PEND_WDOG).post 0x1007 3 0x49 [(1, 1), (1, 0)] with hp
  have hkeep : s.blk.keepsBut posted recordRegs :=
    (((s.blk.keepsBut_refl _).of_regs rfl : s.blk.keepsBut late _).pend (by decide)).post _ _ _ _ (List.Subset.refl _)
  have haction : posted.on Reg.GLB_WDOG_HOST_ACTION = s.blk.on Reg.GLB_WDOG_HOST_ACTION := by
    rw [Block.on, hkeep.get (by decide)]
    rfl
  refine ⟨fun hacc => completes_of_next (b := s.blk.byPf Block.kick) rfl ?_, fun hlate hoff => ?_, fun hlate hon => ?_,
    fun hlate => completes_idle hexec (by simp [hlate]), fun hdev hm => ?_⟩
  · rw [Block.byPf_of_accepts hacc]
    have hkick : s.blk.keepsBut s.blk.kick [] := (s.blk.keepsBut_refl _).of_regs rfl
    exact ⟨by rw [Block.gated_fault]; rfl, hkick.gated_of_not_silent (Block.not_silent_of_accepts hacc)⟩
  · refine completes_of_next hexec ?_
    have hdev : posted.dev = s.blk.dev := by rw [hp, Block.post_dev, Block.pend_dev]
    have hsilent : posted.dev.silent = false := by
      rw [hdev, DevState.silent_eq_false_iff]
      exact (Block.dev_of_hostLate hlate).imp_right .inl
    rw [hlate, if_pos rfl, Block.wdogHost, if_neg (by rw [haction, hoff]; simp)]
    refine ⟨?_, by rw [Block.gated_dev, hdev], hkeep.gated_of_not_silent hsilent⟩
    rw [Block.gated_get_other _ _ (by decide), Block.get_post_pendBit _ _ _ _ _ rfl (by decide)]
    exact late.get_pend _ (by decide) rfl
  · refine completes_of_next hexec ?_
    rw [hlate, if_pos rfl, Block.wdogHost, if_pos (haction.trans hon)]
    refine ⟨by rw [Block.gated_dev, Block.fullReset_dev], ?_⟩
    rw [Block.bit, Block.fullReset_gated_get]
    exact Block.fullReset_bit_source _ (by decide)
  · refine completes_of_next (b := if s.blk.wdogActs && wdogMasters.contains m.val then
      (s.blk.post 0x1007 3 0x49 [(1, 0), (1, m.val)]).fullReset 3 else s.blk) rfl ?_
    have hacts : s.blk.wdogActs = true := by unfold Block.wdogActs; rcases hdev with hdev | hdev <;> rw [hdev]
    rw [if_pos (by rw [hacts]; simpa [wdogMasters] using hm)]
    refine ⟨by rw [Block.gated_dev, Block.fullReset_dev], ?_⟩
    rw [Block.bit, Block.fullReset_gated_get]
    exact Block.fullReset_bit_source _ (by decide)

/-! ### The journal and the powered age (R550 to R554, R559) -/

/-- Under the rate limit of R551 an entry takes the next place with the next JSEQ. -/
theorem Block.journalWrite_journal {b : Block} (made : FbRecord) (kind : Nat) (hours age : Word)
    (h : (b.fault.recent.filter fun t => b.ticks < t + minuteTicks).length < 64) :
    (b.journalWrite made kind hours age).journal.next = (b.journal.next % 16384 + 1) % 16384 ∧
      (b.journalWrite made kind hours age).journal.jseq = b.journal.jseq + 1 ∧
      Store.get (fun _ => JournalEntry.erased) (b.journalWrite made kind hours age).journal.entries (b.journal.next % 16384) =
        { record := made, jseq := b.journal.jseq, boot := b.fault.boot, kind := kind, hours := hours, age := age,
          crcOk := true } := by
  unfold Block.journalWrite
  rw [if_neg (by omega)]
  simp

theorem Block.journalWrite_fault_lives (b : Block) (made : FbRecord) (kind : Nat) (hours age : Word) :
    (b.journalWrite made kind hours age).fault.lives = b.fault.lives := by
  unfold Block.journalWrite
  dsimp only
  split <;> simp

theorem Block.journalWrite_fault_dropPending {b : Block} (made : FbRecord) (kind : Nat) (hours age : Word)
    (h : (b.fault.recent.filter fun t => b.ticks < t + minuteTicks).length < 64) :
    (b.journalWrite made kind hours age).fault.dropPending = b.fault.dropPending := by
  unfold Block.journalWrite
  rw [if_neg (by omega)]
  simp

/-- A list of fields that lie in other registers than those of another list leaves their values. -/
theorem Block.get_setAll_other (b : Block) (fs : List (Field × Nat)) (f : Field) (h : ∀ p ∈ fs, f.off ≠ p.1.off) :
    (b.setAll fs).get f = b.get f := Block.get_of_rd (b.rd_setAll_other fs f.off h)

/-- Each register of a row of whole registers takes its own value. -/
theorem Block.get_setAll_row (reg : Nat → Field) (v : Nat → Nat) (hfits : ∀ i, (reg i).fits)
    (hinj : ∀ i j, i ≠ j → (reg i).off ≠ (reg j).off) (b : Block) {n i : Nat} (hi : i < n) :
    (b.setAll ((List.range n).map fun i => (reg i, v i))).get (reg i) = v i % 2 ^ (reg i).width := by
  induction n with
  | zero => omega
  | succ n ih =>
    have happ : ∀ (fs gs : List (Field × Nat)), b.setAll (fs ++ gs) = (b.setAll fs).setAll gs := fun fs gs => by
      unfold Block.setAll
      exact List.foldl_append
    rw [List.range_succ, List.map_append, happ]
    simp only [List.map_cons, List.map_nil, Block.setAll_cons, Block.setAll_nil]
    by_cases h : i = n
    · subst h
      exact Block.get_set_same _ _ _ (hfits i)
    · rw [Block.get_of_rd (Block.rd_set_other _ _ _ _ (hinj i n h))]
      exact ih (by omega)

theorem leNat_lt (bs : List Byte) : leNat bs < 256 ^ bs.length := by
  induction bs with
  | nil => simp [leNat]
  | cons x xs ih =>
    have hx : x.toNat < 256 := x.isLt
    rw [leNat, List.length_cons, pow_succ]
    omega

theorem length_slice (bs : List Byte) (o n : Nat) : (slice bs o n).length = n := by
  simp only [slice, List.length_append, List.length_take, List.length_drop, List.length_replicate]
  omega

/-- A little-endian field of n bytes is below 256^n. -/
theorem leAt_lt (bs : List Byte) (o n : Nat) : leAt bs o n < 256 ^ n := by
  have h := leNat_lt (slice bs o n)
  rwa [length_slice] at h

/-- The block whose FLT_JNL_DATA shows 64 bytes, as JOURNAL_LATCH_DONE leaves it (R559). -/
def Block.latchedEntry (b : Block) (bytes : List Byte) : Block :=
  (b.draw.setAll ((List.range 16).map fun i => (Reg.FLT_JNL_DATA_DATA i, leAt bytes (4 * i) 4))).set Reg.FLT_JNL_SEL_BUSY 0

theorem Block.latchedEntry_busy (b : Block) (bytes : List Byte) : (b.latchedEntry bytes).get Reg.FLT_JNL_SEL_BUSY = 0 := by
  rw [Block.latchedEntry, Block.get_set_same _ _ _ (by decide), Nat.zero_mod]

theorem Block.latchedEntry_data (b : Block) (bytes : List Byte) {i : Nat} (hi : i < 16) :
    (b.latchedEntry bytes).get (Reg.FLT_JNL_DATA_DATA i) = leAt bytes (4 * i) 4 := by
  have hne : Reg.FLT_JNL_DATA i ≠ Reg.FLT_JNL_SEL := by simp only [Reg.FLT_JNL_DATA, Reg.FLT_JNL_SEL]; omega
  have hrow := Block.get_setAll_row Reg.FLT_JNL_DATA_DATA (fun i => leAt bytes (4 * i) 4) (fun _ => by simp [Field.fits])
    (fun i j h => by simp only [Reg.FLT_JNL_DATA]; omega) b.draw hi
  rw [Block.latchedEntry, Block.get_of_rd (Block.rd_set_other _ _ _ _ hne), hrow]
  exact Nat.mod_eq_of_lt (leAt_lt _ _ _)

theorem Block.latchedEntry_keepsBut (b : Block) (bytes : List Byte) : b.keepsBut (b.latchedEntry bytes)
    (Reg.FLT_JNL_SEL :: Reg.SP_STAT 1 :: (List.range 16).map Reg.FLT_JNL_DATA) := by
  have hdraw : b.keepsBut b.draw (Reg.FLT_JNL_SEL :: Reg.SP_STAT 1 :: (List.range 16).map Reg.FLT_JNL_DATA) :=
    (b.keepsBut_refl _).of_regs rfl
  refine (hdraw.setAll fun p hp => ?_).set _ (List.mem_cons_self ..)
  obtain ⟨i, hi, rfl⟩ := List.mem_map.1 hp
  exact List.mem_cons_of_mem _ (List.mem_cons_of_mem _ (List.mem_map_of_mem hi))

/-- Settles O15: the entries are written as `journalWrite` writes them, and a selection is answered from the journal. -/
theorem journalTakesEntries : Obligations.JournalTakesEntries := by
  intro s index
  refine ⟨fun hday hroom => ?_, fun hday => ?_, fun hreset hdrop hroom => ?_, fun hacc hbusy => ?_, fun hbusy => ?_⟩
  · refine completes_of_next (b := if s.blk.dayPassed then s.blk.dailyEntry else s.blk) rfl ?_
    rw [if_pos hday, Block.dailyEntry, Block.lifeEntry]
    set b : Block := { s.blk with fault := { s.blk.fault with lives := s.blk.fault.lives + 1 } } with hb
    obtain ⟨hnext, hjseq, hentry⟩ := Block.journalWrite_journal (b := b) FbRecord.zero 1 (b.rd Reg.FLT_LIFE_HOURS) (b.rd Reg.FLT_AGE) hroom
    refine ⟨by rw [Block.gated_journal, hnext], by rw [Block.gated_journal, hjseq], ⟨_, Eq.trans (by rw [Block.gated_journal]) hentry,
      rfl, rfl, rfl, rfl, rfl⟩, ?_, by rw [Block.gated_dev, Block.journalWrite_dev]⟩
    rw [Block.gated_fault, Block.journalWrite_fault_lives]
  · refine completes_of_next (b := if s.blk.dayPassed then s.blk.dailyEntry else s.blk) rfl ?_
    rw [if_neg (by simp [hday])]
    exact ⟨Block.gated_journal _, Block.gated_fault _, (s.blk.keepsBut_refl _).gated (by simp)⟩
  · have hexec : exec .journalDropSummary s = .next { s with blk := (if s.blk.dev == .reset || s.blk.fault.dropPending = 0 ||
        decide (64 ≤ (s.blk.fault.recent.filter fun t => s.blk.ticks < t + minuteTicks).length) then s.blk else
        ({ s.blk with fault := { s.blk.fault with dropPending := 0 } } : Block).journalWrite
          { FbRecord.zero with args := recordArgs [(4, s.blk.fault.dropPending)] } 2 0 0).gated } := rfl
    refine completes_of_next hexec ?_
    rw [if_neg (by simp [hreset, hdrop.ne', hroom])]
    set b : Block := { s.blk with fault := { s.blk.fault with dropPending := 0 } } with hb
    obtain ⟨-, hjseq, hentry⟩ := Block.journalWrite_journal (b := b)
      { FbRecord.zero with args := recordArgs [(4, s.blk.fault.dropPending)] } 2 0 0 hroom
    refine ⟨?_, by rw [Block.gated_journal, hjseq], ⟨_, Eq.trans (by rw [Block.gated_journal]) hentry, rfl, rfl⟩⟩
    rw [Block.gated_fault, Block.journalWrite_fault_dropPending (b := b) _ _ _ _ hroom]
  · refine completes_of_next (b := s.blk.byPf fun b => b.journalSelect index.toNat) rfl ?_
    rw [Block.byPf_of_accepts hacc, Block.journalSelect, if_neg (by simp [hbusy])]
    refine ⟨?_, ?_, ((s.blk.keepsBut_refl _).setAll (by simp)).gated_of_not_silent (by simpa using Block.not_silent_of_accepts hacc)⟩ <;>
      rw [Block.gated_get_other _ _ (by decide)] <;> simp only [Block.setAll_cons, Block.setAll_nil]
    · rw [Block.get_set_apart _ _ _ _ (by decide) (by decide), Block.get_set_same _ _ _ (by decide)]
      exact Nat.mod_eq_of_lt index.isLt
    · exact Block.get_set_same _ _ _ (by decide)
  · refine completes_of_next (b := if !s.blk.on Reg.FLT_JNL_SEL_BUSY then s.blk else
      s.blk.latchedEntry (s.blk.journalBytes (s.blk.get Reg.FLT_JNL_SEL_INDEX))) rfl ?_
    rw [if_neg (by simp [hbusy])]
    refine ⟨?_, fun i hi => ?_, (Block.latchedEntry_keepsBut _ _).gated (by simp)⟩
    · rw [Block.gated_get_other _ _ (by decide), Block.latchedEntry_busy]
    · have hne : Reg.FLT_JNL_DATA i ≠ Reg.SP_STAT 1 := by
        simp only [Reg.FLT_JNL_DATA, Reg.SP_STAT]
        omega
      rw [Block.gated_get_other _ _ hne, Block.latchedEntry_data _ _ hi]

/-- What a powered minute writes before the life warning: age, temperature and hours (R554). -/
def Block.minuteShown (b : Block) (t : Int) : Block :=
  let age := b.fault.age + ageStep t
  let b := { b with fault := { b.fault with age := age, minutes := b.fault.minutes + 1, minuteAt := b.fault.minuteAt + minuteTicks } }
  let b := b.setAll [(Reg.FLT_AGE_HOURS, age / 2 ^ 64), (Reg.GLB_TEMP_TEMP, unsignedOf 8 t)]
  if b.fault.minutes % 60 = 0 then b.inc Reg.FLT_LIFE_HOURS_HOURS else b

theorem Block.minuteShown_fault (b : Block) (t : Int) : (b.minuteShown t).fault =
    { b.fault with age := b.fault.age + ageStep t, minutes := b.fault.minutes + 1, minuteAt := b.fault.minuteAt + minuteTicks } := by
  unfold Block.minuteShown
  dsimp only
  split <;> simp only [Block.inc_fault, Block.setAll_fault]

theorem Block.minuteShown_dev (b : Block) (t : Int) : (b.minuteShown t).dev = b.dev := by
  unfold Block.minuteShown
  dsimp only
  split <;> simp only [Block.inc_dev, Block.setAll_dev]

theorem unsignedOf_lt (w : Nat) (v : Int) : unsignedOf w v < 2 ^ w := by
  have hpos : (0 : Int) < (2 ^ w : Nat) := by positivity
  have hlt := Int.emod_lt_of_pos v hpos
  have hnonneg := Int.emod_nonneg v hpos.ne'
  unfold unsignedOf
  omega

theorem Block.minuteShown_get (b : Block) (t : Int) :
    (b.minuteShown t).get Reg.GLB_TEMP_TEMP = unsignedOf 8 t ∧
      (b.minuteShown t).get Reg.FLT_AGE_HOURS = (b.fault.age + ageStep t) / 2 ^ 64 % 2 ^ 32 ∧
      (b.minuteShown t).get Reg.FLT_LIFE_HOURS_HOURS =
        (b.get Reg.FLT_LIFE_HOURS_HOURS + if (b.fault.minutes + 1) % 60 = 0 then 1 else 0) % 2 ^ 32 := by
  have hinc : ∀ (c : Block) (f : Field), f.off ≠ Reg.FLT_LIFE_HOURS → (c.inc Reg.FLT_LIFE_HOURS_HOURS).get f = c.get f :=
    fun c f hf => Block.get_of_rd (c.rd_inc_other _ _ hf)
  unfold Block.minuteShown
  dsimp only
  set c : Block := { b with fault := { b.fault with age := b.fault.age + ageStep t, minutes := b.fault.minutes + 1
                                                    minuteAt := b.fault.minuteAt + minuteTicks } }
  set d := c.setAll [(Reg.FLT_AGE_HOURS, (b.fault.age + ageStep t) / 2 ^ 64), (Reg.GLB_TEMP_TEMP, unsignedOf 8 t)] with hd
  have htemp : d.get Reg.GLB_TEMP_TEMP = unsignedOf 8 t := by
    simp only [hd, Block.setAll_cons, Block.setAll_nil]
    rw [Block.get_set_same _ _ _ (by decide)]
    exact Nat.mod_eq_of_lt (unsignedOf_lt 8 t)
  have hage : d.get Reg.FLT_AGE_HOURS = (b.fault.age + ageStep t) / 2 ^ 64 % 2 ^ 32 := by
    simp only [hd, Block.setAll_cons, Block.setAll_nil]
    rw [Block.get_set_apart _ _ _ _ (by decide) (by decide), Block.get_set_same _ _ _ (by decide)]
  have hhours : d.get Reg.FLT_LIFE_HOURS_HOURS = b.get Reg.FLT_LIFE_HOURS_HOURS :=
    Block.get_setAll_other _ _ _ (by simp [Reg.FLT_LIFE_HOURS, Reg.FLT_AGE, Reg.GLB_TEMP])
  have hminutes : d.fault.minutes = b.fault.minutes + 1 := by rw [hd, Block.setAll_fault]
  rw [hminutes]
  split
  · rw [hinc _ _ (by decide), hinc _ _ (by decide), Block.get_inc _ _ (by decide), hhours]
    exact ⟨htemp, hage, rfl⟩
  · rw [hhours, Nat.add_zero, Nat.mod_eq_of_lt (b.get_lt Reg.FLT_LIFE_HOURS_HOURS)]
    exact ⟨htemp, hage, rfl⟩

/-- The life warning makes a record and sets a bit of FLT_PEND, and no more. -/
theorem Block.ageUpdate_eq (b : Block) (t : Int) : b.ageUpdate t = b.minuteShown t ∨
    ∃ n, b.ageUpdate t = ((b.minuteShown t).pend Reg.FLT_PEND_LIFE).post 0x1008 2 0x49 [(4, n)] := by
  unfold Block.ageUpdate
  dsimp only
  split
  · exact .inr ⟨_, rfl⟩
  · exact .inl rfl

/-- A record of less than severity 3 stays out of the journal and leaves its bookkeeping. -/
theorem Block.post_fault_of_lt (b : Block) (code : Nat) {sev : Nat} (src : Nat) (args : List (Nat × Nat)) (h : sev < 3) :
    (b.post code sev src args).fault = b.fault := by
  unfold Block.post
  dsimp only
  rw [if_neg (by omega), Block.notifyRecord_fault, Block.takeSlot_fault]

theorem Block.ageUpdate_fault (b : Block) (t : Int) : (b.ageUpdate t).fault = (b.minuteShown t).fault := by
  rcases b.ageUpdate_eq t with h | ⟨n, h⟩ <;> rw [h]
  rw [Block.post_fault_of_lt _ _ _ _ (by decide), Block.pend_fault]

theorem Block.ageUpdate_get (b : Block) (t : Int) {f : Field} (hf : f.off ∉ recordRegs) :
    (b.ageUpdate t).get f = (b.minuteShown t).get f := by
  rcases b.ageUpdate_eq t with h | ⟨n, h⟩ <;> rw [h]
  rw [Block.get_post _ _ _ _ _ _ hf, Block.get_of_rd (Block.rd_pend_other _ _ _ fun e => hf (by rw [e]; decide))]

/-- Settles O16: the record of the life warning leaves what the minute has shown. -/
theorem ageAdvances : Obligations.AgeAdvances := by
  intro s t
  have hexec : exec (.ageUpdate t) s = .next { s with blk := (if s.blk.minutePassed then s.blk.ageUpdate t else s.blk).gated } := rfl
  refine ⟨fun hmin => completes_of_next hexec ?_, fun hmin => completes_of_next hexec ?_⟩
  · rw [if_pos hmin]
    set b := s.blk with hb
    have hget : ∀ f : Field, f.off ∉ Reg.SP_STAT 1 :: recordRegs → (b.ageUpdate t).gated.get f = (b.minuteShown t).get f := by
      intro f hf
      rw [List.mem_cons, not_or] at hf
      rw [Block.gated_get_other _ _ hf.1, Block.ageUpdate_get _ _ hf.2]
    have hdev : (b.ageUpdate t).dev = b.dev := by
      rcases b.ageUpdate_eq t with h | ⟨n, h⟩ <;> rw [h]
      · exact b.minuteShown_dev t
      · rw [Block.post_dev, Block.pend_dev, Block.minuteShown_dev]
    rw [Block.gated_fault, Block.ageUpdate_fault, Block.minuteShown_fault, Block.gated_dev, hdev, hget _ (by decide),
      hget _ (by decide), hget _ (by decide)]
    obtain ⟨htemp, hage, hhours⟩ := b.minuteShown_get t
    exact ⟨rfl, rfl, rfl, htemp, hage, hhours, rfl⟩
  · rw [if_neg (by simp [hmin])]
    exact ⟨Block.gated_fault _, (s.blk.keepsBut_refl _).gated (by simp)⟩

end Sys2Proof.Machine

/-!
What the queue fabric and the host interface leave alone. The core of a block is all of it but its registers, what the host
sees, the queues and the records; the operations of the queue fabric keep the core and write registers of the descriptors.
-/

namespace Sys2Proof.Machine

/-! ### The core of a block -/

/-- A block without its registers, what goes out to the host, the queues, the records and the count of free values drawn. -/
def Block.core (b : Block) : Block :=
  { b with regs := [], host := { b.host with messages := [], pba := [], dmaWrites := [] }, strata := .reset, book := [], fault := .reset, journal := Block.reset.journal, drawn := 0 }

theorem Block.core_wr (b : Block) (off : Nat) (v : Word) : (b.wr off v).core = b.core := rfl

@[simp] theorem Block.core_set (b : Block) (f : Field) (v : Nat) : (b.set f v).core = b.core := rfl

@[simp] theorem Block.core_setOn (b : Block) (f : Field) (on : Bool) : (b.setOn f on).core = b.core := rfl

@[simp] theorem Block.core_inc (b : Block) (f : Field) : (b.inc f).core = b.core := rfl

@[simp] theorem Block.core_incSat (b : Block) (f : Field) : (b.incSat f).core = b.core := by
  unfold Block.incSat
  split <;> rfl

@[simp] theorem Block.core_setAll (fs : List (Field × Nat)) (b : Block) : (b.setAll fs).core = b.core := by
  induction fs generalizing b with
  | nil => rfl
  | cons p fs ih => rw [Block.setAll_cons, ih, Block.core_set]

@[simp] theorem Block.core_raise (b : Block) (fn v : Nat) : (b.raise fn v).core = b.core := by
  unfold Block.raise
  split
  · rfl
  · split <;> rfl

@[simp] theorem Block.core_raiseFixed (b : Block) (v : Nat) : (b.raiseFixed v).core = b.core := by
  unfold Block.raiseFixed
  split
  · exact b.core_raise 0 v
  · rfl

@[simp] theorem Block.core_pend (b : Block) (f : Field) : (b.pend f).core = b.core := by
  unfold Block.pend
  split
  · rfl
  · rw [Block.core_raiseFixed, Block.core_set]

@[simp] theorem Block.core_journalWrite (b : Block) (r : FbRecord) (k : Nat) (hours age : Word) :
    (b.journalWrite r k hours age).core = b.core := by
  unfold Block.journalWrite
  dsimp only
  split
  · rw [Block.core_pend, Block.core_inc]; rfl
  · rw [Block.core_setAll]; rfl

@[simp] theorem Block.core_takeSlot (b : Block) (r : FbRecord) : (b.takeSlot r).core = b.core := by
  unfold Block.takeSlot
  dsimp only
  rw [Block.core_inc]
  split <;> rfl

@[simp] theorem Block.core_post (b : Block) (code sev src : Nat) (args : List (Nat × Nat)) :
    (b.post code sev src args).core = b.core := by
  have hnotify : ∀ c : Block, (c.notifyRecord sev).core = c.core := fun c => by
    unfold Block.notifyRecord
    split
    · exact c.core_raise _ _
    · rfl
  unfold Block.post
  dsimp only
  rw [hnotify]
  split
  · rw [Block.core_journalWrite, Block.core_takeSlot]
  · exact b.core_takeSlot _

/-! ### Queues -/

theorem Block.core_setPointers (b : Block) (q : Nat) (wr rd : Word) : (b.setPointers q wr rd).core = b.core := by
  unfold Block.setPointers
  dsimp only
  rw [Block.core_setOn, Block.core_wr, Block.core_wr]

theorem Block.core_ite {c d : Block} (p : Prop) [Decidable p] (h : d.core = c.core) : (if p then d else c).core = c.core := by
  split
  · exact h
  · rfl

theorem Block.core_countCrossings (b : Block) (q old : Nat) : (b.countCrossings q old).core = b.core := by
  unfold Block.countCrossings
  dsimp only
  exact (Block.core_ite _ ((Block.core_incSat _ _).trans (Block.core_set _ _ _))).trans
    (Block.core_ite _ ((Block.core_incSat _ _).trans (Block.core_set _ _ _)))

theorem Block.core_moveRing (b : Block) (q : Nat) (wr rd : Word) : (b.moveRing q wr rd).core = b.core := by
  unfold Block.moveRing
  dsimp only
  rw [Block.core_ite _ (Block.core_raise _ _ _), Block.core_ite _ (Block.core_raise _ _ _), Block.core_countCrossings,
    Block.core_setPointers]

@[simp] theorem Block.core_postEntry (b : Block) (e : CplEntry) : (b.postEntry e).core = b.core := by
  unfold Block.postEntry
  dsimp only
  rw [Block.core_raise, Block.core_moveRing]
  rfl

/-- A fold over pairs of a block and what is kept keeps the core where each step does. -/
theorem foldl_fst_core {α β : Type} (f : Block × α → β → Block × α) (l : List β) (x : Block × α)
    (h : ∀ acc y, (f acc y).1.core = acc.1.core) : (l.foldl f x).1.core = x.1.core :=
  foldl_keeps (fun acc : Block × α => acc.1.core) f l x h

@[simp] theorem Block.core_drainBacklog (b : Block) (fn : Nat) : (b.drainBacklog fn).core = b.core := by
  refine Eq.trans (b := (b.strata.backlog.foldl _ (b, [])).1.core) rfl (foldl_fst_core _ _ _ fun acc e => ?_)
  dsimp only
  split
  · rfl
  · exact Block.core_postEntry _ _

@[simp] theorem Block.core_drainNotices (b : Block) : b.drainNotices.core = b.core := by
  refine Eq.trans (b := (b.strata.notices.foldl _ (b, [])).1.core) rfl (foldl_fst_core _ _ _ fun acc n => ?_)
  dsimp only
  split
  · split
    · rfl
    · split
      · rfl
      · exact Block.core_postEntry _ _
  · rfl

@[simp] theorem Block.core_drain (b : Block) (fn : Nat) : (b.drain fn).core = b.core := by
  unfold Block.drain
  split
  · rfl
  · rw [Block.core_drainNotices, Block.core_drainBacklog]

@[simp] theorem Block.core_notify (b : Block) (q kind : Nat) : (b.notify q kind).core = b.core := by
  unfold Block.notify
  split
  · rfl
  · rw [Block.core_drainNotices]; rfl

@[simp] theorem Block.core_complete (b : Block) (c : Cmd) (status : Nat) (result : List Byte) (flags : Nat) :
    (b.complete c status result flags).core = b.core := by
  unfold Block.complete
  dsimp only
  split
  · rfl
  · split
    · rfl
    · split
      · rw [Block.core_drain]; rfl
      · exact Block.core_postEntry _ _

@[simp] theorem Block.core_moveQueue (b : Block) (q : Nat) (wr rd : Word) : (b.moveQueue q wr rd).core = b.core := by
  unfold Block.moveQueue
  dsimp only
  rw [Block.core_ite _ (by rw [Block.core_notify, Block.core_post, Block.core_set, Block.core_set]),
    Block.core_ite _ (Block.core_notify _ _ _), Block.core_ite _ (Block.core_notify _ _ _), Block.core_countCrossings,
    Block.core_setPointers]

/-! ### The registers of the descriptors -/

theorem Block.writesIn.ite {P : Nat → Prop} {b c d : Block} (h : Block.writesIn P b c) (p : Prop) [Decidable p]
    (hd : Block.writesIn P b d) : Block.writesIn P b (if p then d else c) := by
  split
  · exact hd
  · exact h

theorem Block.writesIn.raiseIf {P : Nat → Prop} {b c : Block} (h : Block.writesIn P b c) (p : Prop) [Decidable p] (fn v : Nat) :
    Block.writesIn P b (if p then c.raise fn v else c) := h.ite p (h.raise fn v)

/-- A fold over pairs of a block and what is kept writes where each step does. -/
theorem foldl_fst_writesIn {α β : Type} {P : Nat → Prop} {b : Block} (f : Block × α → β → Block × α) (l : List β)
    (x : Block × α) (hx : Block.writesIn P b x.1)
    (h : ∀ acc y, Block.writesIn P b acc.1 → Block.writesIn P b (f acc y).1) : Block.writesIn P b (l.foldl f x).1 := by
  induction l generalizing x with
  | nil => exact hx
  | cons y l ih => exact ih _ (h x y hx)

section

variable {P : Nat → Prop} {b c : Block} (hq : ∀ off, 0x200000 ≤ off → P off) (h : Block.writesIn P b c)
include hq h

theorem Block.writesIn.setPointers (q : Nat) (wr rd : Word) : Block.writesIn P b (c.setPointers q wr rd) :=
  ((h.wr wr (hq _ (by simp only [Reg.QD_WR]; omega))).wr rd (hq _ (by simp only [Reg.QD_RD]; omega))).setOn _
    (hq _ (by simp only [Reg.QD_BASE_HI]; omega))

theorem Block.writesIn.countCrossings (q old : Nat) : Block.writesIn P b (c.countCrossings q old) := by
  have hbase : P (Reg.QD_BASE_HI q) := hq _ (by simp only [Reg.QD_BASE_HI]; omega)
  have hcnt : P (Reg.QD_CNT q) := hq _ (by simp only [Reg.QD_CNT]; omega)
  have hcross : ∀ (d : Block) (f g : Field), f.off = Reg.QD_BASE_HI q → g.off = Reg.QD_CNT q → Block.writesIn P b d →
      Block.writesIn P b ((d.set f 1).incSat g) := fun d f g hf hg hd =>
    (hd.set 1 (hf.symm ▸ hbase)).incSat (hg.symm ▸ hcnt)
  have hhigh := h.ite (old < c.highMark q && c.highMark q ≤ c.qFill q)
    (hcross c (Reg.QD_BASE_HI_CROSSED_HI q) (Reg.QD_CNT_CNT_HI q) rfl rfl h)
  unfold Block.countCrossings
  dsimp only
  exact Block.writesIn.ite hhigh _ (hcross _ (Reg.QD_BASE_HI_CROSSED_LO q) (Reg.QD_CNT_CNT_LO q) rfl rfl hhigh)

theorem Block.writesIn.moveRing (q : Nat) (wr rd : Word) : Block.writesIn P b (c.moveRing q wr rd) := by
  have hmoved := (h.setPointers hq q wr rd).countCrossings hq q (c.qFill q)
  unfold Block.moveRing
  dsimp only
  exact Block.writesIn.raiseIf (Block.writesIn.raiseIf hmoved _ _ _) _ _ _

theorem Block.writesIn.postEntry (e : CplEntry) : Block.writesIn P b (c.postEntry e) := by
  unfold Block.postEntry
  dsimp only
  refine (Block.writesIn.moveRing hq (Block.writesIn.of_regs h ?_) _ _ _).raise _ _
  rfl

theorem Block.writesIn.drainBacklog (fn : Nat) : Block.writesIn P b (c.drainBacklog fn) := by
  unfold Block.drainBacklog
  refine Block.writesIn.of_regs (c := Prod.fst _) (foldl_fst_writesIn _ _ _ h fun acc e hacc => ?_) rfl
  dsimp only
  split
  · exact hacc
  · exact hacc.postEntry hq e

theorem Block.writesIn.drainNotices : Block.writesIn P b c.drainNotices := by
  unfold Block.drainNotices
  refine Block.writesIn.of_regs (c := Prod.fst _) (foldl_fst_writesIn _ _ _ h fun acc n hacc => ?_) rfl
  dsimp only
  split
  · split
    · exact hacc
    · split
      · exact hacc
      · exact hacc.postEntry hq _
  · exact hacc

theorem Block.writesIn.drain (fn : Nat) : Block.writesIn P b (c.drain fn) := by
  unfold Block.drain
  split
  · exact h
  · exact (h.drainBacklog hq fn).drainNotices hq

theorem Block.writesIn.notify (q kind : Nat) : Block.writesIn P b (c.notify q kind) := by
  unfold Block.notify
  split
  · exact h
  · exact Block.writesIn.drainNotices hq (h.of_regs rfl)

theorem Block.writesIn.complete (x : Cmd) (status : Nat) (result : List Byte) (flags : Nat) :
    Block.writesIn P b (c.complete x status result flags) := by
  unfold Block.complete
  dsimp only
  split
  · exact h
  · split
    · exact h.of_regs rfl
    · split
      · refine Block.writesIn.drain hq (Block.writesIn.of_regs h ?_) _
        rfl
      · exact h.postEntry hq _

theorem Block.writesIn.moveQueue (hs : ∀ off ∈ recordRegs, P off) (q : Nat) (wr rd : Word) :
    Block.writesIn P b (c.moveQueue q wr rd) := by
  have hbase : P (Reg.QD_BASE_HI q) := hq _ (by simp only [Reg.QD_BASE_HI]; omega)
  have hmoved := (h.setPointers hq q wr rd).countCrossings hq q (c.qFill q)
  have hlost : ∀ d : Block, Block.writesIn P b d → Block.writesIn P b
      ((((d.set (Reg.QD_BASE_HI_MARK_VALID q) 0).set (Reg.QD_BASE_HI_MARK_LOST q) 1).post 0x0A02 1 0x42 [(2, q)]).notify q 4) :=
    fun d hd => (((hd.set _ hbase).set _ hbase).post _ _ _ _ hs).notify hq _ _
  have hnotice : ∀ (d : Block) (p : Prop) [Decidable p] (k : Nat), Block.writesIn P b d →
      Block.writesIn P b (if p then d.notify q k else d) := fun d p _ k hd => hd.ite p (hd.notify hq q k)
  have hboth := hnotice _ (newlySet c ((c.setPointers q wr rd).countCrossings q (c.qFill q)) (Reg.QD_BASE_HI_CROSSED_LO q) &&
    c.on (Reg.QD_WM_NOTIFY_EN q)) 2 (hnotice _ (newlySet c ((c.setPointers q wr rd).countCrossings q (c.qFill q))
      (Reg.QD_BASE_HI_CROSSED_HI q) && c.on (Reg.QD_WM_NOTIFY_EN q)) 1 hmoved)
  unfold Block.moveQueue
  dsimp only
  exact Block.writesIn.ite hboth _ (hlost _ hboth)

end

end Sys2Proof.Machine

/-!
The host interface: messages of vectors, function-level reset, Bus Master Enable and configuration space (R561 to R574).
-/

namespace Sys2Proof.Machine

/-! ### Vectors -/

theorem msixKey_inj {fn v fn' v' : Nat} (hv : v < 256) (hv' : v' < 256) (h : msixKey fn v = msixKey fn' v') :
    fn = fn' ∧ v = v' := by
  unfold msixKey at h
  omega

theorem Block.raise_of_disabled {b : Block} {fn : Nat} (v : Nat) (h : (b.config fn).msixEnable = false) : b.raise fn v = b := by
  unfold Block.raise
  rw [if_pos (by simp [h])]

theorem Block.raise_of_closed {b : Block} {fn v : Nat} (hv : v < vectorsOf fn) (he : (b.config fn).msixEnable = true)
    (h : b.vectorOpen fn v = false) : b.raise fn v = b.setVectorPending fn v true := by
  unfold Block.raise
  rw [if_neg (by simp [he, hv]), if_neg (by simp [h])]

theorem Block.raise_of_open {b : Block} {fn v : Nat} (hv : v < vectorsOf fn) (h : b.vectorOpen fn v = true) :
    b.raise fn v = b.sendVector fn v := by
  have he : (b.config fn).msixEnable = true := by
    unfold Block.vectorOpen at h
    simp_all
  unfold Block.raise
  rw [if_neg (by simp [he, hv]), if_pos h]

theorem Block.vectorPending_setVectorPending (b : Block) (fn v : Nat) (on : Bool) (fn' v' : Nat) :
    (b.setVectorPending fn v on).vectorPending fn' v' =
      if msixKey fn' v' = msixKey fn v then on else b.vectorPending fn' v' := Store.get_put _ _ _ _ _

/-- Settles O17: raising a vector is one of three cases, by whether MSI-X is enabled and the vector open. -/
theorem eventRaisesVectorOrPends : Obligations.EventRaisesVectorOrPends := by
  intro b fn v hv
  refine ⟨Block.raise_of_disabled v, fun he hclosed => ?_, fun hopen => ?_⟩
  · rw [Block.raise_of_closed hv he hclosed, Block.vectorPending_setVectorPending, if_pos rfl]
    refine ⟨rfl, rfl, fun fn' v' hlt hlt' hne => ?_⟩
    rw [Block.vectorPending_setVectorPending, if_neg]
    intro hkey
    obtain ⟨rfl, rfl⟩ := msixKey_inj hlt' hlt hkey
    exact hne rfl
  · rw [Block.raise_of_open hv hopen]
    exact ⟨rfl, rfl⟩

@[simp] theorem Block.gated_vectorPending (b : Block) (fn v : Nat) : b.gated.vectorPending fn v = b.vectorPending fn v := by
  unfold Block.vectorPending
  rw [Block.gated_host]

@[simp] theorem Block.gated_msixEntry (b : Block) (fn v : Nat) : b.gated.msixEntry fn v = b.msixEntry fn v := by
  unfold Block.msixEntry
  rw [Block.gated_host]

@[simp] theorem Block.gated_config (b : Block) (fn : Nat) : b.gated.config fn = b.config fn := by
  unfold Block.config
  rw [Block.gated_host]

/-! ### Unmasking -/

/-- A block with a vector's mask cleared. -/
def Block.unmasked (b : Block) (fn v : Nat) : Block :=
  { b with host := { b.host with
      msix := Store.put (fun _ => MsixEntry.reset) b.host.msix (msixKey fn v) { b.msixEntry fn v with masked := false } } }

theorem Block.msixUnmask_of_reaches {b : Block} {fn v : Nat} (h : b.reaches fn = true) (hv : v < vectorsOf fn) :
    b.msixUnmask fn v = (b.unmasked fn v).releaseVector fn v := by
  unfold Block.msixUnmask
  rw [if_neg (by simp [h, hv])]
  rfl

theorem Block.msixEntry_unmasked (b : Block) (fn v : Nat) :
    (b.unmasked fn v).msixEntry fn v = { b.msixEntry fn v with masked := false } := Store.get_put_same _ _ _ _

theorem Block.present_of_reaches {b : Block} {fn : Nat} (h : b.reaches fn = true) : b.present fn = true := by
  unfold Block.reaches at h
  simp_all

theorem Block.releaseVector_of_open {b : Block} {fn v : Nat} (hp : b.vectorPending fn v = true) (ho : b.vectorOpen fn v = true) :
    b.releaseVector fn v = (b.setVectorPending fn v false).sendVector fn v := by
  unfold Block.releaseVector
  rw [if_pos (by simp [hp, ho])]

theorem Block.releaseVector_of_not_pending {b : Block} {fn v : Nat} (hp : b.vectorPending fn v = false) :
    b.releaseVector fn v = b := by
  unfold Block.releaseVector
  rw [if_neg (by simp [hp])]

/-- Settles O18: with its mask cleared the vector is open, and `releaseVector` sends what was pending. -/
theorem unmaskSendsWhatIsPending : Obligations.UnmaskSendsWhatIsPending := by
  intro s fn v hreach hv
  have hsilent := Block.not_silent_of_reaches hreach
  have hkeep : s.blk.keepsBut (s.blk.unmasked fn v) [] := (s.blk.keepsBut_refl _).of_regs rfl
  refine ⟨fun hpend he hmask hbme => ?_, fun hpend => ?_⟩ <;>
    refine completes_of_next (b := s.blk.msixUnmask fn v) rfl ?_ <;>
    rw [Block.msixUnmask_of_reaches hreach hv]
  · have hopen : (s.blk.unmasked fn v).vectorOpen fn v = true := by
      unfold Block.vectorOpen
      rw [Block.msixEntry_unmasked]
      have hpresent := Block.present_of_reaches hreach
      simp only [Bool.and_eq_true, Bool.not_eq_true']
      exact ⟨⟨⟨⟨he, hmask⟩, trivial⟩, hbme⟩, hpresent⟩
    rw [Block.releaseVector_of_open (b := s.blk.unmasked fn v) hpend hopen]
    have hentry := s.blk.msixEntry_unmasked fn v
    rw [Block.gated_msixEntry, Block.gated_vectorPending, Block.gated_host]
    refine ⟨congrArg MsixEntry.masked hentry, ?_, ⟨_, rfl, rfl, rfl,
      (congrArg MsixEntry.addr hentry :), (congrArg MsixEntry.data hentry :)⟩,
      ?_⟩
    · exact ((s.blk.unmasked fn v).vectorPending_setVectorPending fn v false fn v).trans (if_pos rfl)
    · exact (hkeep.of_regs (c' := ((s.blk.unmasked fn v).setVectorPending fn v false).sendVector fn v) rfl).gated_of_not_silent
        hsilent
  · rw [Block.releaseVector_of_not_pending (b := s.blk.unmasked fn v) hpend, Block.gated_msixEntry, Block.gated_host]
    exact ⟨congrArg MsixEntry.masked (s.blk.msixEntry_unmasked fn v), rfl, hkeep.gated_of_not_silent hsilent⟩

/-! ### Function-level reset and Bus Master Enable -/

/-- What a function's reset leaves of it: configuration at reset values, no bus master, paused. -/
structure Block.functionReset (b : Block) (fn : Nat) : Prop where
  config : b.config fn = FnConfig.reset
  bme : b.bme fn = false
  paused : b.bit Reg.QF_PAUSED_FN fn = true

/-- What a function's reset leaves alone. -/
structure Block.keepsQueues (b c : Block) : Prop where
  dev : c.dev = b.dev
  cx : c.cx = b.cx
  queues : c.strata.queues = b.strata.queues
  regs : b.keepsBut c [Reg.HIF_FN_STAT, Reg.HIF_FLR_SEEN, Reg.QF_PAUSED]

theorem Block.set_regs_congr {b c : Block} (h : b.regs = c.regs) (f : Field) (v : Nat) : (b.set f v).regs = (c.set f v).regs := by
  unfold Block.set Block.wr
  dsimp only
  rw [h, Block.rd_of_regs h]

theorem Block.setBit_regs_congr {b c : Block} (h : b.regs = c.regs) (f : Field) (i : Nat) (on : Bool) :
    (b.setBit f i on).regs = (c.setBit f i on).regs := by
  unfold Block.setBit
  rw [Block.get_of_regs h]
  exact Block.set_regs_congr h _ _

theorem Block.pausedNow_regs (b : Block) (fn : Nat) : (b.pausedNow fn).regs = (b.setBit Reg.QF_PAUSED_FN fn true).regs := rfl

theorem Block.resetConfig_regs (b : Block) (fn : Nat) :
    (b.resetConfig fn).regs = ((b.setBit Reg.HIF_FN_STAT_BME fn false).setBit Reg.QF_PAUSED_FN fn true).regs :=
  (Block.pausedNow_regs _ _).trans
    (Block.setBit_regs_congr (Block.setBit_regs_congr (c := b) rfl Reg.HIF_FN_STAT_BME fn false) Reg.QF_PAUSED_FN fn true)

theorem Block.pausedNow_queues (b : Block) (fn : Nat) : (b.pausedNow fn).strata.queues = b.strata.queues := by
  unfold Block.pausedNow Block.setConv
  dsimp only
  rw [Block.setBit_strata]

theorem Block.setBme_queues (b : Block) (fn : Nat) (on : Bool) : (b.setBme fn on).strata.queues = b.strata.queues := by
  unfold Block.setBme
  rw [Block.setBit_strata]

theorem Block.setBme_pausedNow_regs (b : Block) (fn : Nat) :
    ((b.setBme fn false).pausedNow fn).regs = (b.resetConfig fn).regs := by
  rw [Block.resetConfig_regs, Block.pausedNow_regs]
  rfl

theorem Block.resetConfig_dev (b : Block) (fn : Nat) : (b.resetConfig fn).dev = b.dev := by
  unfold Block.resetConfig Block.pausedNow Block.setConv Block.setBme
  dsimp only
  rw [Block.setBit_dev, Block.setBit_dev]
  rfl

theorem Block.resetConfig_cx (b : Block) (fn : Nat) : (b.resetConfig fn).cx = b.cx := by
  unfold Block.resetConfig Block.pausedNow Block.setConv Block.setBme
  dsimp only
  rw [Block.setBit_cx, Block.setBit_cx]
  rfl

theorem Block.resetConfig_queues (b : Block) (fn : Nat) : (b.resetConfig fn).strata.queues = b.strata.queues := by
  unfold Block.resetConfig
  rw [Block.pausedNow_queues, Block.setBme_queues]
  rfl

theorem Block.bit_of_get {b c : Block} {f : Field} (h : c.get f = b.get f) (i : Nat) : c.bit f i = b.bit f i := by
  unfold Block.bit
  rw [h]

theorem Block.get_setBit_other (b : Block) (f : Field) (i : Nat) (on : Bool) {g : Field} (h : g.off ≠ f.off) :
    (b.setBit f i on).get g = b.get g := Block.get_of_rd (b.rd_set_other f _ g.off h)

theorem Block.config_resetConfig (b : Block) (fn j : Nat) :
    (b.resetConfig fn).config j = if j = fn then FnConfig.reset else b.config j :=
  Store.get_put (fun _ => FnConfig.reset) b.host.config fn FnConfig.reset j

theorem Block.bme_resetConfig (b : Block) {fn : Nat} (hfn : fn < 16) (j : Nat) :
    (b.resetConfig fn).bme j = if j = fn then false else b.bme j :=
  (Block.bit_of_get ((Block.get_of_regs (b.resetConfig_regs fn) _).trans
    (Block.get_of_rd (Block.rd_set_other _ _ _ _ (by decide)))) j).trans
    (b.bit_setBit Reg.HIF_FN_STAT_BME fn false j (by decide) hfn)

theorem Block.paused_resetConfig (b : Block) {fn : Nat} (hfn : fn < 16) (j : Nat) :
    (b.resetConfig fn).bit Reg.QF_PAUSED_FN j = if j = fn then true else b.bit Reg.QF_PAUSED_FN j := by
  have hother : (b.setBit Reg.HIF_FN_STAT_BME fn false).get Reg.QF_PAUSED_FN = b.get Reg.QF_PAUSED_FN :=
    Block.get_setBit_other _ _ _ _ (by decide)
  rw [Block.bit_of_get (Block.get_of_regs (b.resetConfig_regs fn) Reg.QF_PAUSED_FN), Block.bit_setBit _ _ _ _ _ (by decide) hfn,
    Block.bit_of_get hother]

theorem Block.functionReset_resetConfig_self (b : Block) {fn : Nat} (hfn : fn < 16) : (b.resetConfig fn).functionReset fn where
  config := (b.config_resetConfig fn fn).trans (if_pos rfl)
  bme := (b.bme_resetConfig hfn fn).trans (if_pos rfl)
  paused := (b.paused_resetConfig hfn fn).trans (if_pos rfl)

theorem Block.functionReset.resetConfig {b : Block} {fn : Nat} (h : b.functionReset fn) {other : Nat} (hother : other < 16) :
    (b.resetConfig other).functionReset fn where
  config := (b.config_resetConfig other fn).trans (by rw [h.config, ite_self])
  bme := (b.bme_resetConfig hother fn).trans (by rw [h.bme, ite_self])
  paused := (b.paused_resetConfig hother fn).trans (by rw [h.paused, ite_self])

theorem Block.keepsQueues.resetConfig {b c : Block} (h : b.keepsQueues c) (fn : Nat) : b.keepsQueues (c.resetConfig fn) where
  dev := (c.resetConfig_dev fn).trans h.dev
  cx := (c.resetConfig_cx fn).trans h.cx
  queues := (c.resetConfig_queues fn).trans h.queues
  regs := ((h.regs.setBit fn false (by decide)).setBit fn true (by decide)).of_regs (c.resetConfig_regs fn)

/-- A reset that keeps the functions' reset and the queues, whatever registers it shows besides. -/
theorem Block.functionReset_of_eq {b c : Block} {fn : Nat} (h : b.functionReset fn) (hcfg : c.host.config = b.host.config)
    (hbme : c.get Reg.HIF_FN_STAT_BME = b.get Reg.HIF_FN_STAT_BME) (hp : c.get Reg.QF_PAUSED_FN = b.get Reg.QF_PAUSED_FN) :
    c.functionReset fn where
  config := by
    rw [← h.config]
    unfold Block.config
    rw [hcfg]
  bme := by
    rw [← h.bme]
    unfold Block.bme Block.bit
    rw [hbme]
  paused := by
    rw [← h.paused]
    unfold Block.bit
    rw [hp]

theorem Block.setVfs_present {b : Block} (on : Bool) {n : Nat} (hn : n < 16) :
    (b.setVfs on n).get Reg.HIF_FN_STAT_PRESENT = if on then 2 ^ (n + 1) - 1 else 1 := by
  unfold Block.setVfs
  dsimp only
  rw [Block.get_set_same _ _ _ (by decide)]
  split
  · exact Nat.mod_eq_of_lt (by
      have := Nat.pow_le_pow_right (n := 2) (by decide) (show n + 1 ≤ 16 by omega)
      show 2 ^ (n + 1) - 1 < 2 ^ 16
      omega)
  · rfl

theorem Block.setVfs_keeps {b c : Block} {fn : Nat} (h : c.functionReset fn) (hk : b.keepsQueues c) (on : Bool) (n : Nat) :
    (c.setVfs on n).functionReset fn ∧ b.keepsQueues (c.setVfs on n) := by
  unfold Block.setVfs
  dsimp only
  set gone := (List.range 16).filter _ with hgone
  have hfold : (gone.foldl (fun b f => b.resetConfig f) c).functionReset fn ∧
      b.keepsQueues (gone.foldl (fun b f => b.resetConfig f) c) := by
    refine List.foldlRecOn (motive := fun d : Block => d.functionReset fn ∧ b.keepsQueues d) gone _ ⟨h, hk⟩ ?_
    rintro d ⟨hd, hkd⟩ f hf
    have hlt : f < 16 := by
      rw [hgone] at hf
      exact List.mem_range.1 (List.mem_filter.1 hf).1
    exact ⟨hd.resetConfig hlt, hkd.resetConfig f⟩
  generalize gone.foldl (fun b f => b.resetConfig f) c = d at hfold
  obtain ⟨hd, hkd⟩ := hfold
  constructor
  · refine Block.functionReset_of_eq hd rfl ?_ ?_
    · exact Block.get_set_apart _ _ Reg.HIF_FN_STAT_BME _ (by decide) (by decide)
    · exact Block.get_of_rd (f := Reg.QF_PAUSED_FN) (Block.rd_set_other _ _ _ _ (by decide))
  · exact { dev := hkd.dev, cx := hkd.cx, queues := hkd.queues,
            regs := Block.keepsBut.set (Block.keepsBut.of_regs hkd.regs rfl) _ (by decide) }

theorem Block.functionReset.setBit {b : Block} {fn : Nat} (h : b.functionReset fn) (f : Field) (i : Nat) (on : Bool)
    (hf : Reg.HIF_FN_STAT ≠ f.off ∧ Reg.QF_PAUSED ≠ f.off) : (b.setBit f i on).functionReset fn :=
  Block.functionReset_of_eq h (congrArg HostSt.config (Block.setBit_host _ _ _ _))
    (Block.get_setBit_other _ _ _ _ hf.1) (Block.get_setBit_other _ _ _ _ hf.2)

theorem Block.functionReset.gated {b : Block} {fn : Nat} (h : b.functionReset fn) : b.gated.functionReset fn :=
  Block.functionReset_of_eq h (congrArg HostSt.config (Block.gated_host _)) (Block.gated_get_other _ _ (by decide))
    (Block.gated_get_other _ _ (by decide))

/-- What a function-level reset does before HIF_FLR_SEEN takes the function's bit. -/
def Block.flrReset (b : Block) (fn : Nat) : Block :=
  if fn = 0 then (b.resetConfig fn).setVfs false 0 else b.resetConfig fn

theorem Block.flr_of_present {b : Block} {fn : Nat} (hd : b.dev ≠ .reset) (hp : b.present fn = true) :
    b.flr fn = (b.flrReset fn).setBit Reg.HIF_FLR_SEEN_FN fn true := by
  unfold Block.flr
  rw [if_neg (by simp [hd, hp])]
  rfl

theorem Block.keepsQueues_refl (b : Block) : b.keepsQueues b := ⟨rfl, rfl, rfl, b.keepsBut_refl _⟩

theorem Block.flrReset_resets (b : Block) {fn : Nat} (hfn : fn < 16) :
    (b.flrReset fn).functionReset fn ∧ b.keepsQueues (b.flrReset fn) := by
  have hself := b.functionReset_resetConfig_self hfn
  have hkeep := b.keepsQueues_refl.resetConfig fn
  unfold Block.flrReset
  split
  · exact Block.setVfs_keeps hself hkeep false 0
  · exact ⟨hself, hkeep⟩

theorem Block.busMasterEnable_of_present {b : Block} {fn : Nat} (hd : b.dev ≠ .reset) (hp : b.present fn = true) (on : Bool) :
    b.busMasterEnable fn on =
      if on then ((b.setBme fn true).releaseVectors fn).drain fn else (b.setBme fn false).pausedNow fn := by
  unfold Block.busMasterEnable
  rw [if_neg (by simp [hd, hp])]

theorem Block.releaseVectors_regs (b : Block) (fn : Nat) : (b.releaseVectors fn).regs = b.regs :=
  foldl_keeps Block.regs _ _ _ fun c v => Block.releaseVector_regs c fn v

/-- Settles O19: each of the three is a chain of updates that write no register but those named. -/
theorem flrPausesAndKeepsQueues : Obligations.FlrPausesAndKeepsQueues := by
  intro s fn hdev hpresent
  have hfn : fn.val < 16 := fn.isLt
  refine ⟨?_, ?_, ?_⟩
  · refine completes_of_next (b := s.blk.flr fn) rfl ?_
    rw [Block.flr_of_present hdev hpresent]
    obtain ⟨hreset, hkeep⟩ := s.blk.flrReset_resets hfn
    have hdone := (hreset.setBit Reg.HIF_FLR_SEEN_FN fn true (by decide)).gated
    refine ⟨hdone.config, hdone.bme, hdone.paused, ?_, ?_, ?_, ?_, fun h0 => ?_, ?_⟩
    · rw [Block.bit_of_get (Block.gated_get_other _ _ (by decide)), Block.bit_setBit _ _ _ _ _ (by decide) hfn, if_pos rfl]
    · rw [Block.gated_strata, Block.setBit_strata]
      exact hkeep.queues
    · rw [Block.gated_cx, Block.setBit_cx]
      exact hkeep.cx
    · rw [Block.gated_dev, Block.setBit_dev]
      exact hkeep.dev
    · rw [Block.gated_get_other _ _ (by decide), Block.get_setBit_other _ _ _ _ (by decide)]
      unfold Block.flrReset
      rw [if_pos h0]
      exact Block.setVfs_present false (by decide)
    · exact ((hkeep.regs.mono (by decide)).setBit fn true (by decide)).gated (by decide)
  · refine completes_of_next (b := s.blk.busMasterEnable fn false) rfl ?_
    rw [Block.busMasterEnable_of_present hdev hpresent, if_neg (by decide)]
    have hregs : ((s.blk.setBme fn false).pausedNow fn).regs = (s.blk.resetConfig fn).regs :=
      s.blk.setBme_pausedNow_regs fn
    refine ⟨?_, ?_, ?_, ?_⟩
    · refine (Block.bit_of_get (Block.gated_get_other _ _ (by decide)) _).trans
        ((Block.bit_of_get (Block.get_of_regs hregs _) _).trans ?_)
      exact (s.blk.functionReset_resetConfig_self hfn).bme
    · rw [Block.bit_of_get (Block.gated_get_other _ _ (by decide)), Block.bit_of_get (Block.get_of_regs hregs _)]
      exact (s.blk.functionReset_resetConfig_self hfn).paused
    · rw [Block.gated_strata, Block.pausedNow_queues, Block.setBme_queues]
    · have hbme : s.blk.keepsBut (s.blk.setBme fn false) [Reg.HIF_FN_STAT, Reg.QF_PAUSED, Reg.SP_STAT 1] :=
        (s.blk.keepsBut_refl _).setBit fn false (by decide)
      refine Block.keepsBut.gated (Block.keepsBut.of_regs (hbme.setBit fn true ?_) (Block.pausedNow_regs _ _)) (by decide)
      decide
  · refine completes_of_next (b := s.blk.busMasterEnable fn true) rfl ?_
    rw [Block.busMasterEnable_of_present hdev hpresent, if_pos rfl]
    have hset : Block.writesIn (fun off => 0x200000 ≤ off) (s.blk.setBme fn true)
        (((s.blk.setBme fn true).releaseVectors fn).drain fn) :=
      ((Block.writesIn_refl _ _).of_regs (Block.releaseVectors_regs _ _)).drain (fun _ h => h) fn
    constructor
    · refine (Block.bit_of_get ((Block.gated_get_other _ _ (by decide)).trans (hset.get (by decide))) _).trans ?_
      exact (s.blk.bit_setBit Reg.HIF_FN_STAT_BME fn true fn (by decide) hfn).trans (if_pos rfl)
    · intro off hlow hoff
      obtain ⟨hfnstat, hsp⟩ : off ≠ Reg.HIF_FN_STAT ∧ off ≠ Reg.SP_STAT 1 := by simpa using hoff
      exact (Block.gated_rd_other _ _ hsp).trans ((hset off (by omega)).trans (Block.rd_set_other _ _ _ _ hfnstat))

/-! ### Configuration space -/

@[simp] theorem Block.answerWith_answer (b : Block) (a : Answer) : (b.answerWith a).host.answer = a := rfl

theorem Block.configRequest_in_reset {b : Block} (h : b.dev = .reset) (fn : Nat) (req : CfgRequest) :
    b.configRequest fn req = b.answerWith .retry := by
  unfold Block.configRequest
  rw [if_pos (by simp [h])]

theorem Block.configRequest_of_absent {b : Block} {fn : Nat} (hd : b.dev ≠ .reset) (hp : b.present fn = false) (req : CfgRequest) :
    b.configRequest fn req = b.answerWith .unsupported := by
  unfold Block.configRequest
  rw [if_neg (by simp [hd]), if_pos (by simp [hp])]

/-- A request of a present function that does nothing but answer. -/
theorem completes_configRequest {s : State} {fn : Fin 16} {req : CfgRequest} {c : Block} {P : Block → Prop}
    (h : s.blk.configRequest fn req = c) (hP : P c.gated) : Completes (.configRequest fn req) s P :=
  completes_of_next (b := s.blk.configRequest fn req) rfl (by rwa [h])

theorem answers_configRequest {s : State} {fn : Fin 16} {req : CfgRequest} {a : Answer}
    (h : s.blk.configRequest fn req = s.blk.answerWith a) : Completes (.configRequest fn req) s fun b => b.host.answer = a :=
  completes_configRequest h (by rw [Block.gated_host, Block.answerWith_answer])

theorem Block.answerOfPf_of_pf (b : Block) {fn : Nat} (h : fn = 0) (w : Word) : b.answerOfPf fn w = b.answerWith (.word w) := by
  unfold Block.answerOfPf
  rw [if_pos h]

theorem Block.keepsBut_gated_of_regs {b c : Block} (h : c.regs = b.regs) : b.keepsBut c.gated [Reg.SP_STAT 1] :=
  ((b.keepsBut_refl _).of_regs h).gated (by decide)

theorem Block.config_setConfig_same (b : Block) (fn : Nat) (c : FnConfig) : (b.setConfig fn c).config fn = c :=
  Store.get_put_same (fun _ => FnConfig.reset) b.host.config fn c

theorem Block.releaseVector_config (b : Block) (fn v : Nat) : (b.releaseVector fn v).host.config = b.host.config := by
  unfold Block.releaseVector
  split <;> rfl

theorem Block.releaseVectors_config (b : Block) (fn j : Nat) : (b.releaseVectors fn).config j = b.config j := by
  have h : (b.releaseVectors fn).host.config = b.host.config :=
    foldl_keeps (fun c : Block => c.host.config) _ _ _ fun c v => Block.releaseVector_config c fn v
  unfold Block.config
  rw [h]

theorem Block.get_setAll_skip (b : Block) (fs : List (Field × Nat)) (g : Field) (h : ∀ p ∈ fs, p.1.fits ∧ p.1.apart g) :
    (b.setAll fs).get g = b.get g := by
  induction fs generalizing b with
  | nil => rfl
  | cons p fs ih =>
    obtain ⟨hp, hfs⟩ := List.forall_mem_cons.1 h
    rw [Block.setAll_cons, ih _ hfs, Block.get_set_apart _ _ _ _ hp.1 hp.2]

/-- The first of the fields that `setAll` gives a value keeps it where the others are apart from it. -/
theorem Block.get_setAll_head (b : Block) (f : Field) (v : Nat) (fs : List (Field × Nat)) (hf : f.fits)
    (h : ∀ p ∈ fs, p.1.fits ∧ p.1.apart f) : (b.setAll ((f, v) :: fs)).get f = v % 2 ^ f.width := by
  rw [Block.setAll_cons, Block.get_setAll_skip _ _ _ h, Block.get_set_same _ _ _ hf]

/-- The link as HIF_LINK shows it, PE_WAKE_N released in L0. -/
def Block.linkShown (b : Block) (x : LinkState) : Block :=
  let b := b.setAll [(Reg.HIF_LINK_SPEED, x.speed.val), (Reg.HIF_LINK_WIDTH, x.width.val),
    (Reg.HIF_LINK_POWER, x.power.val), (Reg.HIF_LINK_DL_UP, if x.dlUp then 1 else 0)]
  if x.power.val = 0 then { b with host := { b.host with wakeLow := false } } else b

theorem Block.linkShown_shows (b : Block) (x : LinkState) :
    (b.linkShown x).get Reg.HIF_LINK_SPEED = x.speed.val ∧ (b.linkShown x).get Reg.HIF_LINK_WIDTH = x.width.val ∧
      (b.linkShown x).get Reg.HIF_LINK_POWER = x.power.val := by
  have hregs : (b.linkShown x).regs = (b.setAll [(Reg.HIF_LINK_SPEED, x.speed.val), (Reg.HIF_LINK_WIDTH, x.width.val),
      (Reg.HIF_LINK_POWER, x.power.val), (Reg.HIF_LINK_DL_UP, if x.dlUp then 1 else 0)]).regs := by
    unfold Block.linkShown
    dsimp only
    split <;> rfl
  refine ⟨?_, ?_, ?_⟩ <;> rw [Block.get_of_regs hregs]
  · rw [Block.get_setAll_head _ _ _ _ (by decide) (by simp [Field.fits, Field.apart])]
    exact Nat.mod_eq_of_lt (x.speed.isLt.trans (by decide))
  · rw [Block.setAll_cons, Block.get_setAll_head _ _ _ _ (by decide) (by simp [Field.fits, Field.apart])]
    exact Nat.mod_eq_of_lt (x.width.isLt.trans (by decide))
  · rw [Block.setAll_cons, Block.setAll_cons, Block.get_setAll_head _ _ _ _ (by decide) (by simp [Field.fits, Field.apart])]
    exact Nat.mod_eq_of_lt x.power.isLt

/-- Draining the completion rings of all functions writes their descriptors only, and leaves the core. -/
theorem Block.linkChange_keeps (b : Block) (x : LinkState) :
    Block.writesIn (fun off => 0x200000 ≤ off) (b.linkShown x) (b.linkChange x) ∧ (b.linkChange x).core = (b.linkShown x).core := by
  have h : b.linkChange x = (List.range 16).foldl (fun b f => b.drain f) (b.linkShown x) := rfl
  rw [h]
  refine List.foldlRecOn (motive := fun c : Block => Block.writesIn (fun off => 0x200000 ≤ off) (b.linkShown x) c ∧
    c.core = (b.linkShown x).core) (List.range 16) _ ⟨Block.writesIn_refl _ _, rfl⟩ ?_
  rintro c ⟨hw, hc⟩ f -
  exact ⟨hw.drain (fun _ h => h) f, (Block.core_drain c f).trans hc⟩

/-- Settles O20: `configRequest` answers request by request; a change of the link is shown before the rings are drained. -/
theorem configurationSpaceAnswers : Obligations.ConfigurationSpaceAnswers := by
  intro s fn on n x bar
  refine ⟨fun hd r => answers_configRequest (Block.configRequest_in_reset hd fn r), fun hd hp r => ?_, fun hd hp => ?_, ?_⟩
  · refine completes_configRequest (Block.configRequest_of_absent hd hp r) ⟨?_, ?_⟩
    · rw [Block.gated_host, Block.answerWith_answer]
    · exact Block.keepsBut_gated_of_regs rfl
  · have hreq : ∀ r, s.blk.configRequest fn r = _ := fun r => by
      unfold Block.configRequest
      rw [if_neg (by simp [hd]), if_neg (by simp [hp])]
    refine ⟨answers_configRequest ((hreq _).trans ?_), answers_configRequest (hreq _), fun h0 => ⟨?_, ?_, ?_, ?_, ?_, ?_⟩, ?_, ?_, ?_⟩
    · dsimp only
      split <;> rfl
    · exact answers_configRequest ((hreq _).trans (s.blk.answerOfPf_of_pf h0 _))
    · exact answers_configRequest ((hreq _).trans (s.blk.answerOfPf_of_pf h0 _))
    · exact answers_configRequest ((hreq _).trans (s.blk.answerOfPf_of_pf h0 _))
    · exact answers_configRequest ((hreq _).trans (s.blk.answerOfPf_of_pf h0 _))
    · exact answers_configRequest (hreq _)
    · exact answers_configRequest ((hreq _).trans (s.blk.answerOfPf_of_pf h0 _))
    · refine completes_configRequest (hreq _) ⟨?_, ?_⟩
      · rw [Block.gated_config]
        exact congrArg FnConfig.mse (s.blk.config_setConfig_same fn _)
      · exact Block.keepsBut_gated_of_regs rfl
    · refine completes_configRequest (hreq _) ?_
      rw [Block.gated_config]
      exact congrArg FnConfig.msixEnable ((Block.releaseVectors_config _ fn fn).trans (s.blk.config_setConfig_same fn _))
    · intro h0
      refine completes_configRequest (hreq _) ?_
      dsimp only
      rw [if_neg (by simp [h0]), Block.gated_get_other _ _ (by decide)]
      exact (Block.get_of_regs rfl _).trans (Block.setVfs_present true n.isLt)
  · refine completes_of_next (b := s.blk.linkChange x) rfl ?_
    obtain ⟨hregs, hcore⟩ := s.blk.linkChange_keeps x
    obtain ⟨hspeed, hwidth, hpower⟩ := s.blk.linkShown_shows x
    refine ⟨?_, ?_, ?_, fun h0 => ?_⟩
    · rw [Block.gated_get_other _ _ (by decide), hregs.get (by decide), hspeed]
    · rw [Block.gated_get_other _ _ (by decide), hregs.get (by decide), hwidth]
    · rw [Block.gated_get_other _ _ (by decide), hregs.get (by decide), hpower]
    · rw [Block.gated_host]
      refine (congrArg (fun c : Block => c.host.wakeLow) hcore :).trans ?_
      unfold Block.linkShown
      dsimp only
      rw [if_pos h0]
      rfl

end Sys2Proof.Machine

/-!
Sounding's fingerprints (R235) and the crossings of the mains (R91).
-/

namespace Sys2Proof.Machine

/-! ### Fingerprints -/

@[simp] theorem Block.gated_fingerprint (b : Block) (node : Nat) : b.gated.fingerprint node = b.fingerprint node := by
  unfold Block.fingerprint
  rw [Block.gated_sound]

theorem Block.fingerprint_setFingerprint_same (b : Block) (node : Nat) (f : Fingerprint) :
    (b.setFingerprint node f).fingerprint node = f := Store.get_put_same (fun _ => Fingerprint.reset) b.sound.prints node f

theorem Block.fingerprint_of_sound {b c : Block} (h : c.sound = b.sound) (node : Nat) : c.fingerprint node = b.fingerprint node := by
  unfold Block.fingerprint
  rw [h]

/-- A command of the PF that has a meaning of its own: it takes effect where the PF reaches the block. -/
theorem completes_byPf {c : Instr} {s : State} {f : Block → Block} {P : Block → Prop}
    (hc : exec c s = .next { s with blk := (s.blk.byPf f).gated }) (hacc : s.blk.accepts = true) (hP : P (f s.blk).gated) :
    Completes c s P := completes_of_next hc (by rwa [Block.byPf_of_accepts hacc])

/-- Settles O33: `printCmd` changes the fingerprint of the node selected. -/
theorem fingerprintCommandsAct : Obligations.FingerprintCommandsAct := by
  intro s hacc
  have hsilent := Block.not_silent_of_accepts hacc
  refine ⟨completes_byPf rfl hacc ?_, completes_byPf rfl hacc ?_, completes_byPf rfl hacc ?_⟩
  · have hprint : (s.blk.printCmd 1).gated.fingerprint (s.blk.get Reg.SND_FP_NODE_INDEX) = _ :=
      (Block.gated_fingerprint _ _).trans ((Block.fingerprint_of_sound ((Block.post_sound _ _ _ _ _).trans
        (Block.inc_sound _ _)) _).trans (s.blk.fingerprint_setFingerprint_same _ _))
    have hkeep : ∀ f, s.blk.keepsBut (s.blk.setFingerprint (s.blk.get Reg.SND_FP_NODE_INDEX) f) (Reg.SND_FP_REBASES :: recordRegs) :=
      fun f => (s.blk.keepsBut_refl _).of_regs rfl
    rw [hprint]
    refine ⟨rfl, rfl, rfl, ?_, ?_⟩
    · rw [Block.gated_get_other _ _ (by decide)]
      exact (Block.get_post _ _ _ _ _ _ (by decide)).trans (Block.get_inc _ _ (by decide))
    · exact (((hkeep _).inc (by decide)).post _ _ _ _ (by decide)).gated_of_not_silent
        ((congrArg DevState.silent (Block.post_dev _ _ _ _ _)).trans hsilent)
  · have hprint : (s.blk.printCmd 2).gated.fingerprint (s.blk.get Reg.SND_FP_NODE_INDEX) = _ :=
      (Block.gated_fingerprint _ _).trans (s.blk.fingerprint_setFingerprint_same _ _)
    rw [hprint]
    exact ⟨rfl, rfl, rfl, Block.keepsBut.gated_of_not_silent ((s.blk.keepsBut_refl _).of_regs rfl) hsilent⟩
  · exact ⟨(Block.gated_fingerprint _ _).trans (s.blk.fingerprint_setFingerprint_same _ _),
      Block.keepsBut.gated_of_not_silent ((s.blk.keepsBut_refl _).of_regs rfl) hsilent⟩

/-! ### Crossings of the mains -/

theorem Block.sensed_of_brg {b c : Block} (h : c.brg = b.brg) (n : Nat) : c.sensed n = b.sensed n := by
  unfold Block.sensed
  rw [h]

@[simp] theorem Block.gated_sensed (b : Block) (n : Nat) : b.gated.sensed n = b.sensed n := Block.sensed_of_brg b.gated_brg n

theorem Block.sensed_setSensed_same (b : Block) (n : Nat) (x : SenseIn) : (b.setSensed n x).sensed n = x :=
  Store.get_put_same (fun _ => SenseIn.reset) b.brg.inputs n x

theorem Block.setSensed_gated_keepsBut (b : Block) (n : Nat) (x : SenseIn) : b.keepsBut (b.setSensed n x).gated [Reg.SP_STAT 1] :=
  Block.keepsBut_gated_of_regs rfl

theorem Block.crossing_of_low (b : Block) (n : Nat) {rms : Nat} (low : Bool) (h : rms < 350) :
    b.crossing n rms low = b.setSensed n { b.sensed n with candidate := none } := by
  unfold Block.crossing
  rw [if_pos h]

theorem Block.crossing_of_first (b : Block) (n : Nat) {rms : Nat} (low : Bool) (h : 350 ≤ rms)
    (hq : (b.sensed n).lastQual = none) (hc : (b.sensed n).candidate = none) :
    b.crossing n rms low = b.setSensed n { b.sensed n with candidate := some (b.ticks, b.brg.now) } := by
  unfold Block.crossing Block.candidateCrossing
  rw [if_neg (by omega), hq]
  dsimp only
  rw [hc]

theorem Block.crossing_of_early (b : Block) (n : Nat) {rms : Nat} (low : Bool) (h : 350 ≤ rms) {q : Nat × Bearing}
    (hq : (b.sensed n).lastQual = some q) (hd : b.ticks - q.1 < 3787878) : b.crossing n rms low = b := by
  have hinterval : ¬ intervalOk (b.ticks - q.1) = true := by
    unfold intervalOk
    simp only [Bool.and_eq_true, decide_eq_true_eq]
    omega
  unfold Block.crossing
  rw [if_neg (by omega), hq]
  dsimp only
  rw [if_neg hinterval, if_pos hd]

theorem completes_mainsCrossing {s : State} {c : Crossing} {b : Block} {P : Block → Prop} (hsenses : s.blk.senses = true)
    (hb : s.blk.crossing c.input c.rmsMv c.couplerLow = b) (hP : P b.gated) : Completes (.mainsCrossing c) s P :=
  completes_of_next (b := if s.blk.senses then s.blk.crossing c.input c.rmsMv c.couplerLow else s.blk) rfl
    (by rwa [if_pos hsenses, hb])

/-- Settles O22: `crossing` by its branches; where the inputs are not watched it is not called. -/
theorem crossingIsJudged : Obligations.CrossingIsJudged := by
  intro s c
  refine ⟨fun hs hlow => ?_, fun hs hrms hq hc => ?_, fun q hs hrms hq hd => ?_, fun hs => ?_⟩
  · refine completes_mainsCrossing hs (s.blk.crossing_of_low c.input c.couplerLow hlow) ?_
    rw [Block.gated_sensed, Block.gated_brg]
    exact ⟨s.blk.sensed_setSensed_same _ _, s.blk.setSensed_gated_keepsBut _ _, rfl, rfl⟩
  · refine completes_mainsCrossing hs (s.blk.crossing_of_first c.input c.couplerLow hrms hq hc) ?_
    rw [Block.gated_sensed, Block.gated_brg]
    exact ⟨s.blk.sensed_setSensed_same _ _, s.blk.setSensed_gated_keepsBut _ _, rfl⟩
  · refine completes_mainsCrossing hs (s.blk.crossing_of_early c.input c.couplerLow hrms hq hd) ?_
    exact ⟨s.blk.gated_brg, Block.keepsBut_gated_of_regs rfl⟩
  · refine completes_of_next (b := if s.blk.senses then s.blk.crossing c.input c.rmsMv c.couplerLow else s.blk) rfl ?_
    rw [if_neg (by simp [hs])]
    exact ⟨s.blk.gated_brg, Block.keepsBut_gated_of_regs rfl⟩

end Sys2Proof.Machine

/-!
Bearing: alarms, the states of the timebase, re-seats, outages and the noise map (R85 to R124).
-/

namespace Sys2Proof.Machine

/-! ### Messages depend on few registers -/

theorem Block.vectorOpen_congr {b c : Block} (hhost : c.host = b.host)
    (hstat : c.rd Reg.HIF_FN_STAT = b.rd Reg.HIF_FN_STAT) (fn v : Nat) : c.vectorOpen fn v = b.vectorOpen fn v := by
  unfold Block.vectorOpen Block.config Block.msixEntry Block.bme Block.present Block.bit
  rw [hhost, Block.get_of_rd (f := Reg.HIF_FN_STAT_BME) hstat, Block.get_of_rd (f := Reg.HIF_FN_STAT_PRESENT) hstat]

theorem Block.raise_host_congr {b c : Block} (hhost : c.host = b.host)
    (hstat : c.rd Reg.HIF_FN_STAT = b.rd Reg.HIF_FN_STAT) (fn v : Nat) : (c.raise fn v).host = (b.raise fn v).host := by
  have hconfig : c.config fn = b.config fn := by
    unfold Block.config
    rw [hhost]
  unfold Block.raise
  rw [hconfig, Block.vectorOpen_congr hhost hstat]
  split
  · exact hhost
  · split
    · unfold Block.sendVector Block.msixEntry
      dsimp only
      rw [hhost]
    · unfold Block.setVectorPending
      dsimp only
      rw [hhost]

/-- What a fixed source sends depends on the host's side and on HIF_FIXVEC_EN and HIF_FN_STAT. -/
theorem Block.raiseFixed_host_congr {b c : Block} (hhost : c.host = b.host)
    (hen : c.rd Reg.HIF_FIXVEC_EN = b.rd Reg.HIF_FIXVEC_EN) (hstat : c.rd Reg.HIF_FN_STAT = b.rd Reg.HIF_FN_STAT) (v : Nat) :
    (c.raiseFixed v).host = (b.raiseFixed v).host := by
  unfold Block.raiseFixed Block.bit
  rw [Block.get_of_rd (f := Reg.HIF_FIXVEC_EN_EN) hen]
  split
  · exact Block.raise_host_congr hhost hstat 0 v
  · exact hhost

/-! ### Alarms -/

theorem bitsAt_one_eq_of_getLsbD (v : Word) (i : Nat) : bitsAt v.toNat i 1 = if v.getLsbD i then 1 else 0 := by
  unfold bitsAt BitVec.getLsbD
  rw [Nat.testBit_eq_decide_div_mod_eq]
  split <;> simp_all

/-- AL_HI with the fields of a word written, the alarm not yet judged. -/
def Block.alarmSet (b : Block) (k : Nat) (v : Word) : Block :=
  b.setAll [(Reg.BRG_AL_HI_TARGET k, bitsAt v.toNat 0 16), (Reg.BRG_AL_HI_SKIP k, bitsAt v.toNat 16 1),
    (Reg.BRG_AL_HI_ARM k, bitsAt v.toNat 31 1)]

theorem Block.alarmWrite_eq (b : Block) (k : Nat) (v : Word) : b.alarmWrite k v =
    if bitsAt v.toNat 31 1 = 1 ∧ !ahead ((b.alarmSet k v).alarmTarget k) (b.alarmSet k v).brg.now then
      (b.alarmSet k v).alarmSkipped k
    else b.alarmSet k v := rfl

theorem Block.alarmSet_target (b : Block) (k : Nat) (v : Word) :
    (b.alarmSet k v).get (Reg.BRG_AL_HI_TARGET k) = v.toNat % 65536 := by
  unfold Block.alarmSet
  rw [Block.get_setAll_head _ _ _ _ (by simp [Field.fits]) (by simp [Field.fits, Field.apart])]
  simp [bitsAt]

theorem Block.alarmSet_skip (b : Block) (k : Nat) (v : Word) :
    (b.alarmSet k v).get (Reg.BRG_AL_HI_SKIP k) = if v.getLsbD 16 then 1 else 0 := by
  unfold Block.alarmSet
  rw [Block.setAll_cons, Block.get_setAll_head _ _ _ _ (by simp [Field.fits]) (by simp [Field.fits, Field.apart]),
    bitsAt_one_eq_of_getLsbD]
  split <;> rfl

theorem Block.alarmSet_arm (b : Block) (k : Nat) (v : Word) :
    (b.alarmSet k v).get (Reg.BRG_AL_HI_ARM k) = if v.getLsbD 31 then 1 else 0 := by
  unfold Block.alarmSet
  rw [Block.setAll_cons, Block.setAll_cons, Block.get_setAll_head _ _ _ _ (by simp [Field.fits]) (by simp),
    bitsAt_one_eq_of_getLsbD]
  split <;> rfl

theorem Block.alarmSet_alarmTarget (b : Block) (k : Nat) (v : Word) : (b.alarmSet k v).alarmTarget k =
    BitVec.ofNat 48 (b.get (Reg.BRG_AL_LO_TARGET k) + v.toNat % 65536 * 2 ^ 32) := by
  unfold Block.alarmTarget Block.bearingAt
  rw [Block.alarmSet_target]
  unfold Block.alarmSet
  rw [Block.get_setAll_other _ _ _ (by simp [Reg.BRG_AL_LO, Reg.BRG_AL_HI])]

theorem Block.alarmSet_brg (b : Block) (k : Nat) (v : Word) : (b.alarmSet k v).brg = b.brg := Block.setAll_brg _ _

theorem Block.alarmSet_keepsBut (b : Block) (k : Nat) (v : Word) {offs : List Nat} (h : Reg.BRG_AL_HI k ∈ offs) :
    b.keepsBut (b.alarmSet k v) offs := (b.keepsBut_refl _).setAll (by simp [h])

theorem Block.keepsBut.raiseFixed {b c : Block} {offs : List Nat} (h : b.keepsBut c offs) (v : Nat) :
    b.keepsBut (c.raiseFixed v) offs := Block.writesIn.raiseFixed h v

theorem Block.alarmFires_regs (b : Block) (k : Nat) (late : Bool) : (b.alarmFires k late).regs =
    ((b.set (Reg.BRG_AL_HI_ARM k) 0).set (if late then Reg.BRG_AL_STAT_LATE k else Reg.BRG_AL_STAT_FIRED k) 1).regs :=
  Block.raiseFixed_regs _ _

theorem Block.alarmFires_arm (b : Block) (k : Nat) (late : Bool) : (b.alarmFires k late).get (Reg.BRG_AL_HI_ARM k) = 0 := by
  rw [Block.get_of_regs (b.alarmFires_regs k late), Block.get_of_rd (Block.rd_set_other _ _ _ _ (by
    split <;> simp only [Reg.BRG_AL_HI, Reg.BRG_AL_STAT] <;> omega)), Block.get_set_same _ _ _ (by simp [Field.fits])]
  rfl

theorem Block.alarmFires_stat (b : Block) (k : Nat) (late : Bool) :
    (b.alarmFires k late).get (if late then Reg.BRG_AL_STAT_LATE k else Reg.BRG_AL_STAT_FIRED k) = 1 := by
  rw [Block.get_of_regs (b.alarmFires_regs k late), Block.get_set_same _ _ _ (by split <;> simp [Field.fits])]
  split <;> rfl

theorem Block.alarmFires_host (b : Block) {k : Nat} (hk : k < 4) : (b.alarmFires k false).host = (b.raiseFixed (2 + k)).host := by
  have hrd : ∀ off, 0x100000 ≤ off → ((b.set (Reg.BRG_AL_HI_ARM k) 0).set (Reg.BRG_AL_STAT_FIRED k) 1).rd off = b.rd off :=
    fun off hoff => by
      rw [Block.rd_set_other _ _ _ _ (by simp only [Reg.BRG_AL_STAT]; omega),
        Block.rd_set_other _ _ _ _ (by simp only [Reg.BRG_AL_HI]; omega)]
  unfold Block.alarmFires
  exact Block.raiseFixed_host_congr ((Block.set_host _ _ _).trans (Block.set_host _ _ _)) (hrd _ (by decide)) (hrd _ (by decide))
    (2 + k)

/-- What a target that is not ahead leaves of an alarm: disarmed, and late or dropped. -/
theorem Block.alarmSkipped_shows (b : Block) (k : Nat) :
    (b.alarmSkipped k).get (Reg.BRG_AL_HI_ARM k) = 0 ∧
      (if b.on (Reg.BRG_AL_HI_SKIP k) then (b.alarmSkipped k).get (Reg.BRG_AL_STAT_LATE k) = 1
        else (b.alarmSkipped k).get (Reg.BRG_AL_STAT_DROPPED k) = 1) := by
  unfold Block.alarmSkipped
  split
  · exact ⟨b.alarmFires_arm k true, b.alarmFires_stat k true⟩
  · refine ⟨?_, Block.get_set_same _ _ _ (by simp [Field.fits])⟩
    rw [Block.get_of_rd (Block.rd_set_other _ _ _ _ (by simp only [Reg.BRG_AL_HI, Reg.BRG_AL_STAT]; omega)),
      Block.get_set_same _ _ _ (by simp [Field.fits])]
    rfl

theorem Block.alarmSkipped_keepsBut {b c : Block} {k : Nat} {offs : List Nat} (hk : b.keepsBut c offs)
    (h : Reg.BRG_AL_HI k ∈ offs) (hs : Reg.BRG_AL_STAT k ∈ offs) : b.keepsBut (c.alarmSkipped k) offs := by
  unfold Block.alarmSkipped
  split
  · exact ((hk.set (f := Reg.BRG_AL_HI_ARM k) 0 h).set (f := Reg.BRG_AL_STAT_LATE k) 1 hs).of_regs (c.alarmFires_regs k true)
  · exact (hk.set (f := Reg.BRG_AL_HI_ARM k) 0 h).set (f := Reg.BRG_AL_STAT_DROPPED k) 1 hs

theorem Block.alarmSkipped_dev (b : Block) (k : Nat) : (b.alarmSkipped k).dev = b.dev := by
  unfold Block.alarmSkipped Block.alarmFires
  split
  · rw [Block.raiseFixed_dev, Block.set_dev, Block.set_dev]
  · rw [Block.set_dev, Block.set_dev]

theorem Block.gated_get_of_not_silent {b : Block} (h : b.dev.silent = false) (f : Field) : b.gated.get f = b.get f :=
  Block.get_of_regs (b.gated_regs h) f

theorem Block.readBy_of_pf {b : Block} (h : b.accepts = true) (f : Block → Block) : b.readBy 0 f = f b := by
  have hreach : b.reaches 0 = true := h
  have hdev := Block.dev_of_reaches hreach
  unfold Block.reaches at hreach
  simp only [Bool.and_eq_true, Bool.not_eq_true'] at hreach
  obtain ⟨⟨⟨hp, hm⟩, hf⟩, -⟩ := hreach
  unfold Block.readBy
  rw [if_neg (by simp [hp, hm]), if_neg (by simp [hf])]
  rcases hdev with h | h | h <;> rw [h]

/-- Settles O26: `alarmWrite`, `alarmFires` and `brgNow` case by case. -/
theorem alarmsFireOnce : Obligations.AlarmsFireOnce := by
  intro s k v m
  refine ⟨fun hacc h31 => ?_, fun hacc h31 => ⟨fun hahead => ?_, fun hahead => ?_⟩, fun harm hrun hpulse hahead => ?_, fun harm => ?_,
    fun hacc hm => ?_⟩
  · have hw : s.blk.alarmWrite k v = s.blk.alarmSet k v := by
      rw [Block.alarmWrite_eq, bitsAt_one_eq_of_getLsbD, h31, if_neg (by simp)]
    have hsilent : (s.blk.alarmSet k v).dev.silent = false := by
      rw [Block.alarmSet, Block.setAll_dev]
      exact Block.not_silent_of_accepts hacc
    refine completes_byPf rfl hacc ?_
    rw [hw, Block.gated_get_of_not_silent hsilent, Block.gated_get_of_not_silent hsilent, Block.alarmSet_arm,
      Block.alarmSet_target, h31]
    exact ⟨rfl, rfl, (s.blk.alarmSet_keepsBut k v (by simp)).gated_of_not_silent hsilent⟩
  · have hw : s.blk.alarmWrite k v = s.blk.alarmSet k v := by
      rw [Block.alarmWrite_eq, Block.alarmSet_alarmTarget, Block.alarmSet_brg, hahead, if_neg (by simp)]
    have hsilent : (s.blk.alarmSet k v).dev.silent = false := by
      rw [Block.alarmSet, Block.setAll_dev]
      exact Block.not_silent_of_accepts hacc
    refine completes_byPf rfl hacc ?_
    rw [hw, Block.gated_get_of_not_silent hsilent, Block.alarmSet_arm, h31]
    exact ⟨rfl, (s.blk.alarmSet_keepsBut k v (by simp)).gated_of_not_silent hsilent⟩
  · have hw : s.blk.alarmWrite k v = (s.blk.alarmSet k v).alarmSkipped k := by
      rw [Block.alarmWrite_eq, Block.alarmSet_alarmTarget, Block.alarmSet_brg, hahead, bitsAt_one_eq_of_getLsbD,
        if_pos (by simp [h31])]
    have hsilent : ((s.blk.alarmSet k v).alarmSkipped k).dev.silent = false := by
      rw [Block.alarmSkipped_dev, Block.alarmSet, Block.setAll_dev]
      exact Block.not_silent_of_accepts hacc
    obtain ⟨harm, hstat⟩ := (s.blk.alarmSet k v).alarmSkipped_shows k
    refine completes_byPf rfl hacc ?_
    rw [hw, Block.gated_get_of_not_silent hsilent, Block.gated_get_of_not_silent hsilent, Block.gated_get_of_not_silent hsilent]
    refine ⟨harm, ?_, (Block.alarmSkipped_keepsBut (s.blk.alarmSet_keepsBut k v (by simp)) (by simp) (by simp)).gated_of_not_silent
      hsilent⟩
    unfold Block.on at hstat
    rw [Block.alarmSet_skip] at hstat
    split at hstat <;> simp_all
  · have hcond : (s.blk.on (Reg.BRG_AL_HI_ARM k) && s.blk.running &&
        decide ((s.blk.brg.now - s.blk.alarmTarget k).toNat < 2 ^ 47) && s.blk.pulses) = true := by
      have hlt : (s.blk.brg.now - s.blk.alarmTarget k).toNat < 2 ^ 47 := of_decide_eq_true hahead
      simp only [harm, hrun, hpulse, hlt, decide_true, Bool.and_self]
    refine completes_of_next (b := if s.blk.on (Reg.BRG_AL_HI_ARM k) && s.blk.running &&
        (s.blk.brg.now - s.blk.alarmTarget k).toNat < 2 ^ 47 && s.blk.pulses then s.blk.alarmFires k false else s.blk) rfl ?_
    rw [if_pos hcond, Block.gated_host]
    refine ⟨?_, ?_, ?_⟩
    · rw [Block.gated_get_other _ _ (by simp only [Reg.BRG_AL_HI, Reg.SP_STAT]; omega)]
      exact s.blk.alarmFires_arm k false
    · rw [Block.gated_get_other _ _ (by simp only [Reg.BRG_AL_STAT, Reg.SP_STAT]; omega)]
      exact s.blk.alarmFires_stat k false
    · exact s.blk.alarmFires_host k.isLt
  · refine completes_of_next (b := if s.blk.on (Reg.BRG_AL_HI_ARM k) && s.blk.running &&
        (s.blk.brg.now - s.blk.alarmTarget k).toNat < 2 ^ 47 && s.blk.pulses then s.blk.alarmFires k false else s.blk) rfl ?_
    rw [harm, Bool.false_and, Bool.false_and, Bool.false_and, if_neg Bool.false_ne_true]
    exact ⟨s.blk.gated_host, Block.keepsBut_gated_of_regs rfl⟩
  · have hm0 : m = 0 := Fin.ext hm
    subst hm0
    refine completes_of_next (b := s.blk.readBy 0 fun b => b.brgNow 0) rfl ?_
    rw [Block.readBy_of_pf hacc, Block.gated_host, Block.gated_brg]
    exact ⟨rfl, Store.get_put_same _ _ _ _, rfl,
      Block.keepsBut.gated_of_not_silent ((s.blk.keepsBut_refl _).of_regs rfl) (Block.not_silent_of_accepts hacc)⟩

/-! ### States of the timebase -/

theorem Block.get_setBrg_other (b : Block) (st : BrgState) (g : Field) (h : Reg.BRG_STATUS_STATE.apart g) :
    (b.setBrg st).get g = b.get g :=
  (Block.get_set_apart _ Reg.BRG_STATUS_STATE g _ (by decide) h).trans (Block.get_of_regs rfl g)

theorem Block.get_setBrg_state (b : Block) (st : BrgState) : (b.setBrg st).get Reg.BRG_STATUS_STATE = st.code :=
  (Block.get_set_same _ Reg.BRG_STATUS_STATE st.code (by decide)).trans (by cases st <;> rfl)

theorem Block.setBrg_regs (b : Block) (st : BrgState) : (b.setBrg st).regs = (b.set Reg.BRG_STATUS_STATE st.code).regs :=
  Block.set_regs_congr rfl _ _

theorem Block.setBrg_brg (b : Block) (st : BrgState) : (b.setBrg st).brg = { b.brg with state := st } := Block.set_brg _ _ _

theorem Block.keepsBut.setBrg {b c : Block} {offs : List Nat} (h : b.keepsBut c offs) (st : BrgState)
    (hs : Reg.BRG_STATUS ∈ offs) : b.keepsBut (c.setBrg st) offs :=
  Block.keepsBut.set (f := Reg.BRG_STATUS_STATE) (Block.keepsBut.of_regs h rfl) _ hs

/-- The residual angle that a lock takes up, a free value within 8 bu. -/
def Block.lockResidual (b : Block) : Int := (b.free % 17 : Nat) - 8

theorem Block.lockResidual_natAbs_le (b : Block) : b.lockResidual.natAbs ≤ 8 := by
  unfold Block.lockResidual
  omega

theorem Block.lockNow_brg (b : Block) (e : Int) : (b.lockNow e).brg =
    { b.brg with state := .locked, steer := pllSteer e b.lockResidual, lockOk := true } := by
  unfold Block.lockNow
  dsimp only
  rw [Block.set_brg, Block.setBrg_brg]
  rfl

theorem Block.lockNow_regs (b : Block) (e : Int) :
    (b.lockNow e).regs = ((b.setBrg .locked).set Reg.BRG_STATUS_LOCKED_ONCE 1).regs := by
  have hstate : (b.draw.setBrg .locked).regs = (b.setBrg .locked).regs :=
    (Block.setBrg_regs _ _).trans ((Block.set_regs_congr rfl _ _).trans (Block.setBrg_regs _ _).symm)
  unfold Block.lockNow
  exact Block.set_regs_congr hstate _ _

theorem Block.lockNow_shows (b : Block) (e : Int) :
    (b.lockNow e).get Reg.BRG_STATUS_STATE = 2 ∧ (b.lockNow e).get Reg.BRG_STATUS_LOCKED_ONCE = 1 ∧
      (b.lockNow e).get Reg.BRG_STATUS_RESEAT_PENDING = b.get Reg.BRG_STATUS_RESEAT_PENDING := by
  refine ⟨?_, ?_, ?_⟩ <;> rw [Block.get_of_regs (b.lockNow_regs e)]
  · rw [Block.get_set_apart _ _ _ _ (by decide) (by decide), Block.get_setBrg_state]
    rfl
  · exact Block.get_set_same _ _ _ (by decide)
  · rw [Block.get_set_apart _ _ _ _ (by decide) (by decide), Block.get_setBrg_other _ _ _ (by decide)]

theorem Block.lockNow_keepsBut {b c : Block} {offs : List Nat} (h : b.keepsBut c offs) (e : Int) (hs : Reg.BRG_STATUS ∈ offs) :
    b.keepsBut (c.lockNow e) offs :=
  Block.keepsBut.of_regs (Block.keepsBut.set (h.setBrg .locked hs) (f := Reg.BRG_STATUS_LOCKED_ONCE) 1 hs) (c.lockNow_regs e)

theorem Block.get_set_pair (b : Block) {f g : Field} (v w : Nat) (hf : f.fits) (hg : g.fits) (h : g.apart f) :
    ((b.set f v).set g w).get f = v % 2 ^ f.width ∧ ((b.set f v).set g w).get g = w % 2 ^ g.width :=
  ⟨(Block.get_set_apart _ _ _ _ hg h).trans (Block.get_set_same _ _ _ hf), Block.get_set_same _ _ _ hg⟩

/-- A bearing written to a pair of registers is read back. -/
theorem Block.bearingAt_setBearing (b : Block) {lo hi : Field} (x : Bearing) (hlo : lo.lo = 0 ∧ lo.width = 32)
    (hhi : hi.lo = 0 ∧ hi.width = 16) (h : hi.off ≠ lo.off) : (b.setBearing lo hi x).bearingAt lo hi = x := by
  have hx := x.isLt
  obtain ⟨hl, hh⟩ := b.get_set_pair (f := lo) (g := hi) (x.toNat % 2 ^ 32) (x.toNat / 2 ^ 32)
    (by unfold Field.fits; omega) (by unfold Field.fits; omega) (.inl h)
  unfold Block.bearingAt Block.setBearing
  rw [hl, hh, hlo.2, hhi.2]
  apply BitVec.eq_of_toNat_eq
  rw [BitVec.toNat_ofNat]
  omega

/-- Holdover entered, its record not yet made. -/
def Block.holdoverShown (b : Block) : Block :=
  ({ b.setBrg .holdover with brg := { (b.setBrg .holdover).brg with steer := 0 } }).setBearing Reg.BRG_HOLD_LO_BRG
    Reg.BRG_HOLD_HI_BRG b.brg.now

theorem Block.enterHoldover_eq (b : Block) :
    ∃ n, b.enterHoldover = b.holdoverShown.post 0x0301 1 0x40 [(4, n)] := by
  refine ⟨({ b.setBrg .holdover with brg := { (b.setBrg .holdover).brg with steer := 0 } } : Block).get Reg.BRG_FREQ_FREQ, ?_⟩
  unfold Block.enterHoldover Block.holdoverShown
  dsimp only
  rw [Block.setBrg_brg]

theorem Block.enterHoldover_brg (b : Block) : b.enterHoldover.brg = { b.brg with state := .holdover, steer := 0 } := by
  obtain ⟨n, h⟩ := b.enterHoldover_eq
  rw [h, Block.post_brg]
  unfold Block.holdoverShown Block.setBearing
  rw [Block.set_brg, Block.set_brg, Block.setBrg_brg]

theorem Block.holdoverShown_shows (b : Block) : b.holdoverShown.get Reg.BRG_STATUS_STATE = 3 ∧
    b.holdoverShown.bearingAt Reg.BRG_HOLD_LO_BRG Reg.BRG_HOLD_HI_BRG = b.brg.now := by
  refine ⟨?_, Block.bearingAt_setBearing _ _ (by decide) (by decide) (by decide)⟩
  unfold Block.holdoverShown Block.setBearing
  rw [Block.get_set_apart _ _ _ _ (by decide) (by decide), Block.get_set_apart _ _ _ _ (by decide) (by decide)]
  exact (Block.get_of_regs rfl _).trans (b.get_setBrg_state .holdover)

theorem Block.holdoverShown_keepsBut {b c : Block} {offs : List Nat} (h : b.keepsBut c offs)
    (hs : ∀ off ∈ [Reg.BRG_STATUS, Reg.BRG_HOLD_LO, Reg.BRG_HOLD_HI], off ∈ offs) : b.keepsBut c.holdoverShown offs := by
  have hset : b.keepsBut { c.setBrg .holdover with brg := { (c.setBrg .holdover).brg with steer := 0 } } offs :=
    (h.setBrg .holdover (hs _ (by simp))).of_regs rfl
  exact (hset.set (f := Reg.BRG_HOLD_LO_BRG) _ (hs _ (by simp))).set (f := Reg.BRG_HOLD_HI_BRG) _ (hs _ (by simp))

theorem Block.enterHoldover_shows (b : Block) : b.enterHoldover.get Reg.BRG_STATUS_STATE = 3 ∧
    b.enterHoldover.bearingAt Reg.BRG_HOLD_LO_BRG Reg.BRG_HOLD_HI_BRG = b.brg.now := by
  obtain ⟨n, h⟩ := b.enterHoldover_eq
  obtain ⟨hstate, hhold⟩ := b.holdoverShown_shows
  rw [h]
  unfold Block.bearingAt
  rw [Block.get_post _ _ _ _ _ _ (by decide), Block.get_post _ _ _ _ _ _ (by decide), Block.get_post _ _ _ _ _ _ (by decide)]
  exact ⟨hstate, hhold⟩

theorem Block.enterHoldover_dev (b : Block) : b.enterHoldover.dev = b.dev := by
  obtain ⟨n, h⟩ := b.enterHoldover_eq
  rw [h, Block.post_dev]
  unfold Block.holdoverShown Block.setBearing
  rw [Block.set_dev, Block.set_dev]
  exact b.setBrg_dev .holdover

theorem Block.enterHoldover_keepsBut {b c : Block} {offs : List Nat} (h : b.keepsBut c offs)
    (hs : ∀ off ∈ [Reg.BRG_STATUS, Reg.BRG_HOLD_LO, Reg.BRG_HOLD_HI], off ∈ offs) (hr : recordRegs ⊆ offs) :
    b.keepsBut c.enterHoldover offs := by
  obtain ⟨n, hn⟩ := c.enterHoldover_eq
  rw [hn]
  exact (Block.holdoverShown_keepsBut h hs).post _ _ _ _ hr

/-- The switch to the alternate, its record not yet made. -/
def Block.refSwitched (b : Block) : Block :=
  ({ b with brg := { b.brg with altOffset := b.get (Reg.BRG_PHOFS_OFS (b.get Reg.BRG_REF_ALT)) } }.set
    Reg.BRG_STATUS_SRC 1).restartNoise

theorem Block.refSwitch_eq (b : Block) : b.refSwitch = b.refSwitched.post 0x0304 1 0x40 [(1, b.get Reg.BRG_REF_ALT)] := rfl

theorem Block.refSwitch_brg (b : Block) : b.refSwitch.brg = { b.brg with
    altOffset := b.get (Reg.BRG_PHOFS_OFS (b.get Reg.BRG_REF_ALT)), noise := [], noiseCycles := [] } := by
  rw [Block.refSwitch_eq, Block.post_brg]
  rfl

theorem Block.refSwitch_src (b : Block) : b.refSwitch.get Reg.BRG_STATUS_SRC = 1 := by
  rw [Block.refSwitch_eq, Block.get_post _ _ _ _ _ _ (by decide)]
  exact (Block.get_of_regs rfl _).trans (Block.get_set_same _ Reg.BRG_STATUS_SRC 1 (by decide))

theorem Block.refSwitch_keepsBut {b : Block} {offs : List Nat} (hs : Reg.BRG_STATUS ∈ offs) (hr : recordRegs ⊆ offs) :
    b.keepsBut b.refSwitch offs := by
  rw [Block.refSwitch_eq]
  have h : b.keepsBut b.refSwitched offs :=
    Block.keepsBut.of_regs (Block.keepsBut.set (Block.keepsBut.of_regs (b.keepsBut_refl offs) rfl) (f := Reg.BRG_STATUS_SRC) 1 hs)
      rfl
  exact h.post _ _ _ _ hr

theorem Block.startBearing_brg (b : Block) (v : Bearing) (lead : Nat) :
    (b.startBearing v lead).brg.now = v ∧ (b.startBearing v lead).brg.lockOk = b.brg.lockOk := ⟨rfl, rfl⟩

theorem Block.startBearing_dev (b : Block) (v : Bearing) (lead : Nat) : (b.startBearing v lead).dev = b.dev := rfl

theorem Block.startBearing_regs (b : Block) (v : Bearing) (lead : Nat) : (b.startBearing v lead).regs = b.regs := rfl

/-- A standalone device that starts freely: bearing 0 in HOLDOVER at the nominal frequency. -/
theorem Block.startFree_shows (b : Block) : b.startFree.dev = b.dev ∧ b.startFree.brg.state = .holdover ∧
    b.startFree.brg.now = 0 ∧ b.startFree.brg.lockOk = b.brg.lockOk ∧
    b.startFree.get Reg.BRG_FREQ_FREQ = b.nominal % 2 ^ 32 := by
  have hkeep := fun c : Block => Block.enterHoldover_keepsBut
    (c.keepsBut_refl (Reg.BRG_STATUS :: Reg.BRG_HOLD_LO :: Reg.BRG_HOLD_HI :: recordRegs)) (by decide) (by decide)
  have hfreq : (b.set Reg.BRG_FREQ_FREQ b.nominal).get Reg.BRG_FREQ_FREQ = b.nominal % 2 ^ 32 :=
    Block.get_set_same _ _ _ (by decide)
  unfold Block.startFree
  obtain ⟨hnow, hok⟩ := (b.set Reg.BRG_FREQ_FREQ b.nominal).startBearing_brg 0 0
  rw [(hkeep _).get (by decide), Block.get_of_regs (Block.startBearing_regs _ _ _), Block.enterHoldover_brg,
    Block.enterHoldover_dev, Block.startBearing_dev, Block.set_dev]
  refine ⟨rfl, rfl, hnow, ?_, hfreq⟩
  rw [← Block.set_brg b Reg.BRG_FREQ_FREQ b.nominal]
  exact hok

theorem Block.lockWaitExpiry_of_due {b : Block} (hd : b.dev = .settle)
    (hdue : b.fault.since + b.get Reg.BRG_CTRL_LOCK_WAIT * 25000000 ≤ b.ticks) (hok : b.brg.lockOk = false)
    (hl : b.brg.state ≠ .locked) (hf : b.brg.state ≠ .follow) :
    ¬ (b.dev != .settle || decide (b.ticks < b.fault.since + b.get Reg.BRG_CTRL_LOCK_WAIT * 25000000) || b.brg.lockOk ||
      b.brg.state == .locked || b.brg.state == .follow) = true := by
  have hticks : decide (b.ticks < b.fault.since + b.get Reg.BRG_CTRL_LOCK_WAIT * 25000000) = false :=
    decide_eq_false (Nat.not_lt.2 hdue)
  rw [hd, hticks, hok, beq_eq_false_iff_ne.2 hl, beq_eq_false_iff_ne.2 hf]
  decide

theorem Block.lockWaitExpiry_free {b : Block} (hd : b.dev = .settle)
    (hdue : b.fault.since + b.get Reg.BRG_CTRL_LOCK_WAIT * 25000000 ≤ b.ticks) (hok : b.brg.lockOk = false)
    (hl : b.brg.state ≠ .locked) (hf : b.brg.state ≠ .follow) (hfree : b.on Reg.BRG_CTRL_START_FREE = true) :
    b.running = true ∧ b.lockWaitExpiry = { b with brg := { b.brg with lockOk := true } } ∨
      b.running = false ∧ (b.chainEnabled = false →
        b.lockWaitExpiry = ({ b with brg := { b.brg with lockOk := true } } : Block).startFree) := by
  unfold Block.lockWaitExpiry
  rw [if_neg (Block.lockWaitExpiry_of_due hd hdue hok hl hf), if_neg (by simp [hfree])]
  have hrun : ({ b with brg := { b.brg with lockOk := true } } : Block).running = b.running := rfl
  dsimp only
  rw [hrun]
  cases h : b.running
  · refine .inr ⟨rfl, fun hchain => ?_⟩
    have hchain' : ({ b with brg := { b.brg with lockOk := true } } : Block).chainEnabled = false := hchain
    rw [hchain', Bool.false_and, Bool.false_and, if_neg Bool.false_ne_true, if_neg Bool.false_ne_true, if_neg Bool.false_ne_true]
  · exact .inl ⟨rfl, if_pos rfl⟩

theorem Block.referenceSilence_of_silent {b : Block} (hst : b.brg.state = .locked ∨ b.brg.state = .slew)
    (hs : b.silent b.steerInput = true) : b.referenceSilence =
      if b.get Reg.BRG_STATUS_SRC = 0 ∧ b.get Reg.BRG_REF_ALT < 24 ∧ !b.silent (b.get Reg.BRG_REF_ALT) then b.refSwitch
      else b.enterHoldover := by
  unfold Block.referenceSilence
  rw [if_neg (by rcases hst with h | h <;> simp [h, hs])]

/-- Whether the crossing that RELOCK counts is overdue. -/
def Block.relockLate (b : Block) : Bool := match (b.sensed b.brg.relockInput).lastQual with
  | some q => decide (5555556 < b.ticks - q.1)
  | none => true

theorem Block.relockTimeout_eq (b : Block) : b.relockTimeout =
    if b.brg.state = .relock ∧ !b.on Reg.BRG_STATUS_RESEAT_PENDING ∧ b.relockLate then b.setBrg .holdover else b := rfl

theorem Block.relockLate_iff (b : Block) :
    b.relockLate = true ↔ ∀ q, (b.sensed b.brg.relockInput).lastQual = some q → 5555556 < b.ticks - q.1 := by
  unfold Block.relockLate
  cases (b.sensed b.brg.relockInput).lastQual <;> simp

/-- Settles O23: one clause for each exit of the four meanings. -/
theorem timebaseChangesState : Obligations.TimebaseChangesState := by
  intro s
  refine ⟨fun hslew herr => ?_, fun hor => ?_, fun hst hsil => ⟨fun hsrc halt hlive => ?_, fun hdead => ?_⟩, fun hlive => ?_,
    fun hrelock hpend => ⟨fun hlate => ?_, fun q hq hearly => ?_⟩,
    fun hd hdue hok hl hf => ⟨fun hfree => ?_, fun hfree hrun => ?_, fun hfree hrun hchain => ?_⟩⟩
  · refine completes_of_next (b := if s.blk.brg.state = .slew ∧ s.blk.mainsError.natAbs < 64 then
      s.blk.lockNow s.blk.mainsError else s.blk) rfl ?_
    rw [if_pos ⟨hslew, herr⟩, Block.gated_brg, Block.lockNow_brg]
    obtain ⟨hstate, honce, -⟩ := s.blk.lockNow_shows s.blk.mainsError
    refine ⟨rfl, ?_, ?_, rfl, ⟨s.blk.lockResidual, s.blk.lockResidual_natAbs_le, rfl⟩, ?_⟩
    · rw [Block.gated_get_other _ _ (by decide), hstate]
    · rw [Block.gated_get_other _ _ (by decide), honce]
    · exact (Block.lockNow_keepsBut (s.blk.keepsBut_refl _) _ (by decide)).gated (by decide)
  · refine completes_of_next (b := if s.blk.brg.state = .slew ∧ s.blk.mainsError.natAbs < 64 then
      s.blk.lockNow s.blk.mainsError else s.blk) rfl ?_
    rw [if_neg (by rintro ⟨h, h'⟩; rcases hor with h0 | h0; exacts [h0 h, absurd h' (by omega)])]
    exact ⟨s.blk.gated_brg, Block.keepsBut_gated_of_regs rfl⟩
  · refine completes_of_next (b := s.blk.referenceSilence) rfl ?_
    rw [Block.referenceSilence_of_silent hst hsil, if_pos ⟨hsrc, halt, by simp [hlive]⟩, Block.gated_brg, Block.refSwitch_brg,
      Block.gated_get_other _ _ (by decide), Block.refSwitch_src]
    exact ⟨rfl, rfl, rfl, (s.blk.refSwitch_keepsBut (by decide) (by decide)).gated (by decide)⟩
  · have hnot : ¬ (s.blk.get Reg.BRG_STATUS_SRC = 0 ∧ s.blk.get Reg.BRG_REF_ALT < 24 ∧
        (!s.blk.silent (s.blk.get Reg.BRG_REF_ALT)) = true) := by
      rintro ⟨h1, h2, h3⟩
      rcases hdead with h | h | h
      · exact h h1
      · omega
      · simp [h] at h3
    obtain ⟨hstate, hhold⟩ := s.blk.enterHoldover_shows
    refine completes_of_next (b := s.blk.referenceSilence) rfl ?_
    rw [Block.referenceSilence_of_silent hst hsil, if_neg hnot, Block.gated_brg, Block.enterHoldover_brg,
      Block.gated_get_other _ _ (by decide), hstate]
    refine ⟨rfl, rfl, rfl, rfl, ?_, (Block.enterHoldover_keepsBut (s.blk.keepsBut_refl _) (by decide) (by decide)).gated (by decide)⟩
    unfold Block.bearingAt at hhold ⊢
    rw [Block.gated_get_other _ _ (by decide), Block.gated_get_other _ _ (by decide), hhold]
  · refine completes_of_next (b := s.blk.referenceSilence) rfl ?_
    unfold Block.referenceSilence
    rw [if_pos (by simp [hlive])]
    exact ⟨s.blk.gated_brg, Block.keepsBut_gated_of_regs rfl⟩
  · refine completes_of_next (b := s.blk.relockTimeout) rfl ?_
    rw [Block.relockTimeout_eq, if_pos ⟨hrelock, by simp [hpend], s.blk.relockLate_iff.2 hlate⟩, Block.gated_brg, Block.setBrg_brg]
    exact ⟨rfl, rfl, ((s.blk.keepsBut_refl _).setBrg .holdover (by decide)).gated (by decide)⟩
  · refine completes_of_next (b := s.blk.relockTimeout) rfl ?_
    rw [Block.relockTimeout_eq, if_neg]
    rotate_left
    · rintro ⟨-, -, h⟩
      exact absurd (s.blk.relockLate_iff.1 h q hq) (by omega)
    exact ⟨s.blk.gated_brg, Block.keepsBut_gated_of_regs rfl⟩
  · refine completes_of_next (b := s.blk.lockWaitExpiry) rfl ?_
    unfold Block.lockWaitExpiry
    rw [if_neg (Block.lockWaitExpiry_of_due hd hdue hok hl hf), if_pos (by simp [hfree])]
    exact Block.doubt_quietWith (by decide) (by rw [hd]; rfl)
  · refine completes_of_next (b := s.blk.lockWaitExpiry) rfl ?_
    rcases Block.lockWaitExpiry_free hd hdue hok hl hf hfree with ⟨-, h⟩ | ⟨hnot, -⟩
    · rw [h, Block.gated_dev, Block.gated_brg]
      exact ⟨hd, rfl⟩
    · rw [hrun] at hnot
      cases hnot
  · refine completes_of_next (b := s.blk.lockWaitExpiry) rfl ?_
    rcases Block.lockWaitExpiry_free hd hdue hok hl hf hfree with ⟨hnot, -⟩ | ⟨-, h⟩
    · rw [hrun] at hnot
      cases hnot
    · obtain ⟨hdev, hstate, hnow, hlock, hfreq⟩ :=
        ({ s.blk with brg := { s.blk.brg with lockOk := true } } : Block).startFree_shows
      rw [h hchain, Block.gated_dev, Block.gated_brg, Block.gated_get_other _ _ (by decide), hdev, hstate, hnow, hlock, hfreq]
      refine ⟨hd, rfl, rfl, rfl, Eq.trans ?_ (if_congr Iff.rfl rfl rfl : s.blk.nominal = _)⟩
      have hnominal : s.blk.nominal < 2 ^ 32 := by
        unfold Block.nominal
        split <;> decide
      exact Nat.mod_eq_of_lt hnominal

/-! ### Outages and the noise map -/

/-- The bits of an outage set and its record made. -/
def Block.outageMarked (b : Block) (t : Nat) : Block :=
  ((b.setBit Reg.BRG_TRIAD_STAT_OUTAGE t true).setBit Reg.BRG_TRIAD_STAT_OUTAGE_SEEN t true).post 0x0305 1 0x40 [(1, t), (1, 0)]

theorem Block.outageMarked_bits (b : Block) {t : Nat} (ht : t < 8) :
    (b.outageMarked t).bit Reg.BRG_TRIAD_STAT_OUTAGE t = true ∧ (b.outageMarked t).bit Reg.BRG_TRIAD_STAT_OUTAGE_SEEN t = true := by
  have hset := b.bit_setBit Reg.BRG_TRIAD_STAT_OUTAGE t true t (by decide) ht
  have hseen := (b.setBit Reg.BRG_TRIAD_STAT_OUTAGE t true).bit_setBit Reg.BRG_TRIAD_STAT_OUTAGE_SEEN t true t (by decide) ht
  unfold Block.outageMarked
  constructor <;> rw [Block.bit_of_get (Block.get_post _ _ _ _ _ _ (by decide))]
  · refine (Block.bit_of_get (Block.get_set_apart _ _ _ _ (by decide) (by decide)) t).trans ?_
    rw [hset, if_pos rfl]
  · rw [hseen, if_pos rfl]

theorem Block.outageMarked_keepsBut (b : Block) (t : Nat) {offs : List Nat} (h : Reg.BRG_TRIAD_STAT ∈ offs) (hr : recordRegs ⊆ offs) :
    b.keepsBut (b.outageMarked t) offs :=
  (((b.keepsBut_refl offs).setBit (f := Reg.BRG_TRIAD_STAT_OUTAGE) t true h).setBit (f := Reg.BRG_TRIAD_STAT_OUTAGE_SEEN) t true
    h).post _ _ _ _ hr

/-- An outage: its bits and its record, then what it changes of Bearing and the MAC, last the gasp window. -/
theorem Block.triadOutage_eq {b : Block} {t : Nat} (hrun : b.running = true) (hs : b.senses = true) (hin : b.enabledInputs t ≠ [])
    (hout : b.bit Reg.BRG_TRIAD_STAT_OUTAGE t = false) (hall : (b.enabledInputs t).all b.silent = true) :
    ∃ c : Block, c.regs = (b.outageMarked t).regs ∧ c.brg.now = b.brg.now ∧
      b.triadOutage t = (c.setGaspClose t (some (b.outageFrom t + 2097152))).set (Reg.MAC_TRIAD_GASP t) 1 := by
  unfold Block.triadOutage
  dsimp only
  rw [if_neg (by simp [hrun, hs, hin, hout, hall])]
  refine ⟨_, ?_, ?_, rfl⟩
  · exact foldl_keeps Block.regs _ _ _ fun c n => rfl
  · have hloss : ∀ (l : List Nat) (d : Block),
        (l.foldl (fun b n => b.setSensed n { b.sensed n with lossDecided := true }) d).brg.now = d.brg.now := fun l d =>
      foldl_keeps (fun c : Block => c.brg.now) _ l d fun c n => rfl
    refine (hloss _ _).trans ?_
    rw [Block.post_brg, Block.setBit_brg, Block.setBit_brg]

theorem Block.gaspClose_of_brg {b c : Block} (h : c.brg = b.brg) (t : Nat) : c.gaspClose t = b.gaspClose t := by
  unfold Block.gaspClose
  rw [h]

theorem Block.gaspClose_setGaspClose_same (b : Block) (t : Nat) (x : Option Bearing) : (b.setGaspClose t x).gaspClose t = x :=
  Store.get_put_same (fun _ => none) b.brg.gaspClose t x

/-- The cycles of the noise map, by port. -/
def Block.noiseCycles (b : Block) (n : Nat) : Nat := Store.get (fun _ => 0) b.brg.noiseCycles n

/-- One cycle more of a port, at most 64. -/
def Block.noiseCycle (b : Block) (n : Nat) : Block :=
  { b with brg := { b.brg with noiseCycles := Store.modify (fun _ => 0) b.brg.noiseCycles n fun c => min 64 (c + 1) } }

theorem Block.noiseCycles_noiseCycle (b : Block) (n k : Nat) :
    (b.noiseCycle n).noiseCycles k = if k = n then min 64 (b.noiseCycles n + 1) else b.noiseCycles k :=
  Store.get_put (fun _ => 0) b.brg.noiseCycles n _ k

theorem Block.noiseCycle_keeps (b : Block) (n : Nat) : (b.noiseCycle n).dev = b.dev ∧ (b.noiseCycle n).regs = b.regs := ⟨rfl, rfl⟩

theorem Block.noiseTake_keeps (b : Block) (t : Nat) (x : NoiseSample) :
    (b.noiseTake t x).dev = b.dev ∧ (b.noiseTake t x).regs = b.regs ∧
      (b.noiseTake t x).brg.noiseCycles = b.brg.noiseCycles := by
  unfold Block.noiseTake
  dsimp only
  split <;> exact ⟨rfl, rfl, rfl⟩

/-- An update of the noise map: what the samples change, then a cycle of each port of the triad. -/
theorem Block.noiseUpdate_eq {b : Block} {t : Nat} (samples : List NoiseSample) (hen : b.on Reg.BRG_NM_CTRL_ENABLE = true)
    (hrun : b.running = true) (hd : b.dev = .service)
    (hlast : Store.get (fun _ => none) b.brg.noiseAt t ≠ some (b.refCycle t)) :
    ∃ c : Block, c.dev = b.dev ∧ c.regs = b.regs ∧ c.brg.noiseCycles = b.brg.noiseCycles ∧
      b.noiseUpdate t samples = ((c.noiseCycle (3 * t)).noiseCycle (3 * t + 1)).noiseCycle (3 * t + 2) := by
  unfold Block.noiseUpdate
  dsimp only
  rw [if_neg (by simp [hen, hrun, hd, hlast])]
  refine ⟨_, ?_, ?_, ?_, rfl⟩
  · exact foldl_keeps Block.dev _ _ _ fun c x => (c.noiseTake_keeps t x).1
  · exact foldl_keeps Block.regs _ _ _ fun c x => (c.noiseTake_keeps t x).2.1
  · exact foldl_keeps (fun c : Block => c.brg.noiseCycles) _ _ _ fun c x => (c.noiseTake_keeps t x).2.2

/-- Settles O25: an outage and an update of the noise map by the equations above. -/
theorem outageAndNoiseMap : Obligations.OutageAndNoiseMap := by
  intro s t samples
  have ht : t.val < 8 := t.isLt
  refine ⟨fun hrun hsense hin hout hall => ?_, fun hin => ?_, fun hen hrun hd => ⟨fun hlast => ?_, fun hlast => ?_⟩, fun hen => ?_⟩
  · obtain ⟨c, hregs, hnow, heq⟩ := Block.triadOutage_eq hrun hsense hin hout hall
    obtain ⟨hbit, hseen⟩ := s.blk.outageMarked_bits ht
    have hmarked := (s.blk.outageMarked_keepsBut t
      (offs := Reg.BRG_TRIAD_STAT :: Reg.MAC_TRIAD t :: Reg.SP_STAT 1 :: recordRegs) (by simp)
      fun off h => List.mem_cons_of_mem _ (List.mem_cons_of_mem _ (List.mem_cons_of_mem _ h))).of_regs
      (c' := c.setGaspClose t (some (s.blk.outageFrom t + 2097152))) hregs
    refine completes_of_next (b := s.blk.triadOutage t) rfl ?_
    rw [heq]
    have hstat : ∀ f : Field, f.off = Reg.BRG_TRIAD_STAT →
        (((c.setGaspClose t (some (s.blk.outageFrom t + 2097152))).set (Reg.MAC_TRIAD_GASP t) 1).gated).get f =
          (s.blk.outageMarked t).get f := fun f hf => by
      rw [Block.gated_get_other _ _ (by rw [hf]; decide), Block.get_of_rd (Block.rd_set_other _ _ _ _ (by
        rw [hf]; simp only [Reg.BRG_TRIAD_STAT, Reg.MAC_TRIAD]; omega))]
      exact Block.get_of_regs hregs f
    refine ⟨?_, ?_, ?_, ?_, ?_, ?_⟩
    · rw [Block.bit_of_get (hstat _ rfl), hbit]
    · rw [Block.bit_of_get (hstat _ rfl), hseen]
    · rw [Block.gated_get_other _ _ (by simp only [Reg.MAC_TRIAD, Reg.SP_STAT]; omega),
        Block.get_set_same _ _ _ (by simp [Field.fits])]
      rfl
    · rw [Block.gaspClose_of_brg ((Block.gated_brg _).trans (Block.set_brg _ _ _)), Block.gaspClose_setGaspClose_same]
    · rw [Block.gated_brg, Block.set_brg]
      exact hnow
    · exact (hmarked.set _ (by simp)).gated (by simp)
  · refine completes_of_next (b := s.blk.triadOutage t) rfl ?_
    unfold Block.triadOutage
    dsimp only
    rw [if_pos (by simp [hin])]
    exact ⟨Block.gaspClose_of_brg s.blk.gated_brg _, Block.keepsBut_gated_of_regs rfl⟩
  · obtain ⟨c, hdev, hregs, hcycles, heq⟩ := Block.noiseUpdate_eq samples hen hrun hd hlast
    refine completes_of_next (b := s.blk.noiseUpdate t samples) rfl ?_
    rw [heq]
    have hone : ∀ n, c.noiseCycles n = s.blk.noiseCycles n := fun n => by
      unfold Block.noiseCycles
      rw [hcycles]
    obtain ⟨hdev1, hregs1⟩ := c.noiseCycle_keeps (3 * t)
    obtain ⟨hdev2, hregs2⟩ := (c.noiseCycle (3 * t)).noiseCycle_keeps (3 * t + 1)
    obtain ⟨hdev3, hregs3⟩ := ((c.noiseCycle (3 * t)).noiseCycle (3 * t + 1)).noiseCycle_keeps (3 * t + 2)
    rw [Block.gated_service _ (hdev3.trans (hdev2.trans (hdev1.trans (hdev.trans hd))))]
    refine ⟨fun i hi => ?_, (s.blk.keepsBut_refl []).of_regs (hregs3.trans (hregs2.trans (hregs1.trans hregs)))⟩
    refine (Block.noiseCycles_noiseCycle _ _ (3 * t + i)).trans ?_
    rw [Block.noiseCycles_noiseCycle, Block.noiseCycles_noiseCycle, Block.noiseCycles_noiseCycle, hone, hone]
    change _ = min 64 (s.blk.noiseCycles (3 * t + i) + 1)
    interval_cases i <;> simp [Block.noiseCycles_noiseCycle, hone]
  · refine completes_of_next (b := s.blk.noiseUpdate t samples) rfl ?_
    unfold Block.noiseUpdate
    dsimp only
    rw [if_pos (by simp [hlast])]
    exact Block.gated_service _ hd
  · refine completes_of_next (b := s.blk.noiseUpdate t samples) rfl ?_
    unfold Block.noiseUpdate
    dsimp only
    rw [if_pos (by simp [hen])]
    exact ⟨s.blk.gated_brg, Block.keepsBut_gated_of_regs rfl⟩

end Sys2Proof.Machine

/-!
Lanes: receptions dropped, retirement, spares and bindings (R24 to R32).
-/

namespace Sys2Proof.Machine

theorem notMem_recordRegs {off : Nat} (h : 0x40000 ≤ off) : off ∉ recordRegs := by
  simp only [recordRegs, journalRegs, Reg.FB_HEAD, Reg.FB_LOST, Reg.FLT_JNL_SEQ, Reg.FLT_JNL_STAT, Reg.FLT_JNL_DROP, Reg.FLT_PEND,
    List.mem_cons, List.not_mem_nil, or_false]
  omega

/-! ### Lanes and receptions -/

theorem Block.lane_of_pool {b c : Block} (h : c.pool = b.pool) (l : Nat) : c.lane l = b.lane l := by
  unfold Block.lane
  rw [h]

theorem Block.lane_setLane (b : Block) (l : Nat) (x : Lane) (j : Nat) : (b.setLane l x).lane j = if j = l then x else b.lane j :=
  Store.get_put (fun _ => Lane.reset) b.pool.lanes l x j

theorem Block.lane_setLane_same (b : Block) (l : Nat) (x : Lane) : (b.setLane l x).lane l = x :=
  (b.lane_setLane l x l).trans (if_pos rfl)

theorem Block.lane_setLane_other (b : Block) (l : Nat) (x : Lane) {j : Nat} (h : j ≠ l) : (b.setLane l x).lane j = b.lane j :=
  (b.lane_setLane l x j).trans (if_neg h)

theorem Block.logReception_keeps (b : Block) (l : Nat) :
    (b.logReception l).regs = b.regs ∧ (b.logReception l).pool = b.pool ∧ (b.logReception l).dev = b.dev := by
  unfold Block.logReception Block.logSpan
  split
  · split <;> exact ⟨rfl, rfl, rfl⟩
  · exact ⟨rfl, rfl, rfl⟩

theorem Block.refreshAnchor_keeps (b : Block) (n : Nat) :
    (b.refreshAnchor n).pool = b.pool ∧ (b.refreshAnchor n).dev = b.dev ∧
      ∀ offs, Reg.LP_AGC_STAT n ∈ offs → b.keepsBut (b.refreshAnchor n) offs := by
  unfold Block.refreshAnchor
  split <;> exact ⟨Block.setAll_pool _ _, Block.setAll_dev _ _, fun offs h => (b.keepsBut_refl offs).setAll (by simp [h])⟩

/-- What `setReception` does before the anchor of the lane's port is looked for. -/
def Block.receptionSet (b : Block) (l : Nat) (r : Option Reception) : Block :=
  let c := if (r.filter fun x => !x.ended).isNone then b.logReception l else b
  c.setLane l { c.lane l with reception := r }

theorem Block.setReception_eq (b : Block) (l : Nat) (r : Option Reception) : b.setReception l r =
    match ((b.receptionSet l r).lane l).binding with
    | some x => (b.receptionSet l r).refreshAnchor x.port
    | none => b.receptionSet l r := rfl

theorem Block.receptionSet_keeps (b : Block) (l : Nat) (r : Option Reception) :
    (b.receptionSet l r).regs = b.regs ∧ (b.receptionSet l r).dev = b.dev ∧
      (b.receptionSet l r).pool = (b.setLane l { b.lane l with reception := r }).pool := by
  obtain ⟨hregs, hpool, hdev⟩ := b.logReception_keeps l
  unfold Block.receptionSet
  dsimp only
  split
  · refine ⟨hregs, hdev, ?_⟩
    rw [Block.lane_of_pool hpool]
    unfold Block.setLane
    dsimp only
    rw [hpool]
  · exact ⟨rfl, rfl, rfl⟩

theorem Block.setReception_pool (b : Block) (l : Nat) (r : Option Reception) :
    (b.setReception l r).pool = (b.setLane l { b.lane l with reception := r }).pool := by
  rw [Block.setReception_eq]
  split
  · exact (Block.refreshAnchor_keeps _ _).1.trans (b.receptionSet_keeps l r).2.2
  · exact (b.receptionSet_keeps l r).2.2

theorem Block.setReception_dev (b : Block) (l : Nat) (r : Option Reception) : (b.setReception l r).dev = b.dev := by
  rw [Block.setReception_eq]
  split
  · exact (Block.refreshAnchor_keeps _ _).2.1.trans (b.receptionSet_keeps l r).2.1
  · exact (b.receptionSet_keeps l r).2.1

theorem Block.lane_setReception (b : Block) (l : Nat) (r : Option Reception) (j : Nat) :
    (b.setReception l r).lane j = if j = l then { b.lane l with reception := r } else b.lane j := by
  rw [Block.lane_of_pool (b.setReception_pool l r), Block.lane_setLane]

/-- A reception changes the anchor of the port that its lane is bound to, and no other register. -/
theorem Block.setReception_keepsBut (b : Block) (l : Nat) (r : Option Reception) {offs : List Nat}
    (h : ∀ x, (b.lane l).binding = some x → Reg.LP_AGC_STAT x.port ∈ offs) : b.keepsBut (b.setReception l r) offs := by
  obtain ⟨hregs, -, hpool⟩ := b.receptionSet_keeps l r
  have hset : b.keepsBut (b.receptionSet l r) offs := (b.keepsBut_refl offs).of_regs hregs
  have hlane : ((b.receptionSet l r).lane l).binding = (b.lane l).binding := by
    rw [Block.lane_of_pool hpool, Block.lane_setLane_same]
  rw [Block.setReception_eq, hlane]
  split
  · rename_i x hx
    exact hset.trans ((Block.refreshAnchor_keeps _ x.port).2.2 offs (h x hx))
  · exact hset

/-! ### Spares -/

theorem Block.freeSpares_congr {b c : Block} (hmoves : c.pool.moves = b.pool.moves)
    (h : ∀ l, (!(c.lane l).retired && (c.lane l).binding.isNone) = (!(b.lane l).retired && (b.lane l).binding.isNone)) :
    c.freeSpares = b.freeSpares := by
  unfold Block.freeSpares Block.spareLanes
  rw [hmoves, List.filter_congr fun l _ => h l]

theorem Block.countSpares_keeps (b : Block) : b.countSpares.pool = b.pool ∧ b.countSpares.dev = b.dev ∧
    ∀ offs, Reg.FLT_SPARES ∈ offs → b.keepsBut b.countSpares offs := by
  unfold Block.countSpares
  exact ⟨Block.setAll_pool _ _, Block.setAll_dev _ _, fun offs h => (b.keepsBut_refl offs).setAll (by simp [h])⟩

theorem Block.countSpares_txAlive (b : Block) :
    b.countSpares.get Reg.FLT_SPARES_TX_ALIVE = 48 - b.pool.txRetired.length := by
  unfold Block.countSpares
  rw [Block.setAll_cons, Block.get_setAll_head _ _ _ _ (by decide) (by simp)]
  exact Nat.mod_eq_of_lt (by show _ < 256; omega)

theorem Block.spareLow_keeps (b : Block) (pool n : Nat) : (b.spareLow pool n).pool = b.pool ∧ (b.spareLow pool n).dev = b.dev ∧
    ∀ offs, recordRegs ⊆ offs → b.keepsBut (b.spareLow pool n) offs := by
  unfold Block.spareLow
  refine ⟨(Block.post_pool _ _ _ _ _).trans (Block.pend_pool _ _), (Block.post_dev _ _ _ _ _).trans (Block.pend_dev _ _),
    fun offs h => ((b.keepsBut_refl offs).pend (h (by decide))).post _ _ _ _ h⟩

theorem Block.checkSpares_keeps (b : Block) (n : Nat) : (b.checkSpares n).pool = b.pool ∧ (b.checkSpares n).dev = b.dev ∧
    ∀ offs, Reg.FLT_SPARES ∈ offs → recordRegs ⊆ offs → b.keepsBut (b.checkSpares n) offs := by
  obtain ⟨hpool, hdev, hregs⟩ := b.countSpares_keeps
  unfold Block.checkSpares
  dsimp only
  split
  · obtain ⟨hpool', hdev', hregs'⟩ := b.countSpares.spareLow_keeps 0 b.spareLanes.length
    exact ⟨hpool'.trans hpool, hdev'.trans hdev, fun offs h hr => (hregs offs h).trans (hregs' offs hr)⟩
  · exact ⟨hpool, hdev, fun offs h _ => hregs offs h⟩

/-! ### Retirement -/

/-- A lane marked retired, its reception dropped. -/
def Block.laneRetired (b : Block) (l : Nat) : Block :=
  let c := b.dropReception l
  let c := { c with pool := { c.pool with dropped := c.pool.dropped + if (b.lane l).current.isSome then 1 else 0 } }
  c.setLane l { c.lane l with retired := true }

theorem Block.retireLane_eq {b : Block} {l : Nat} (h : (b.lane l).retired = false) : b.retireLane l =
    (match ((b.laneRetired l).lane l).binding with
      | some x => (b.laneRetired l).replaceLane l x (if (b.lane l).current.isSome then 1 else 0)
      | none => (b.laneRetired l).post 0x0101 2 0x4A
          ([(1, l)] ++ bindingArgs none ++ [(1, 255), (2, if (b.lane l).current.isSome then 1 else 0)])).checkSpares
        b.spareLanes.length := by
  unfold Block.retireLane
  rw [if_neg (by simp [h])]
  rfl

theorem Block.laneRetired_lane (b : Block) (l j : Nat) : (b.laneRetired l).lane j =
    if j = l then { b.lane l with reception := none, retired := true } else b.lane j := by
  have hdrop := fun i => b.lane_setReception l none i
  unfold Block.laneRetired
  dsimp only
  rw [Block.lane_setLane]
  split
  · have h : ({ b.dropReception l with pool := { (b.dropReception l).pool with dropped := (b.dropReception l).pool.dropped +
        if (b.lane l).current.isSome then 1 else 0 } } : Block).lane l = (b.dropReception l).lane l := rfl
    rw [h, Block.dropReception, hdrop, if_pos rfl]
  · exact (hdrop j).trans (if_neg ‹_›)

theorem Block.laneRetired_moves (b : Block) (l : Nat) : (b.laneRetired l).pool.moves = b.pool.moves := by
  have h : (b.laneRetired l).pool.moves = (b.setReception l none).pool.moves := rfl
  rw [h, Block.setReception_pool]
  rfl

theorem Block.laneRetired_dev (b : Block) (l : Nat) : (b.laneRetired l).dev = b.dev := b.setReception_dev l none

theorem Block.laneRetired_keepsBut (b : Block) (l : Nat) {offs : List Nat}
    (h : ∀ x, (b.lane l).binding = some x → Reg.LP_AGC_STAT x.port ∈ offs) : b.keepsBut (b.laneRetired l) offs :=
  (b.setReception_keepsBut l none h).of_regs rfl

/-- Retiring a lane that is bound takes nothing from the spares. -/
theorem Block.laneRetired_freeSpares {b : Block} {l : Nat} {x : Binding} (h : (b.lane l).binding = some x) :
    (b.laneRetired l).freeSpares = b.freeSpares := by
  refine Block.freeSpares_congr (b.laneRetired_moves l) fun j => ?_
  rw [Block.laneRetired_lane]
  split
  · rename_i hj
    subst hj
    simp [h]
  · rfl

/-- A lane promised a spare: the move waits for the frame boundary. -/
def Block.movePlanned (b : Block) (l spare : Nat) : Block :=
  { b with pool := { b.pool with moves := b.pool.moves ++ [(l, spare)] } }

/-- A binding lost, its port short of a lane. -/
def Block.bindingLost (b : Block) (l : Nat) (x : Binding) : Block :=
  ((b.setLane l { b.lane l with binding := none }).refreshAnchor x.port).set (Reg.LP_STATUS_LANE_SHORT x.port) 1

theorem Block.replaceLane_of_spare {b : Block} {l k : Nat} {ks : List Nat} (x : Binding) (dropped : Nat)
    (h : b.freeSpares = k :: ks) : b.replaceLane l x dropped =
      (b.movePlanned l k).post 0x0101 2 0x4A ([(1, l)] ++ bindingArgs (some x) ++ [(1, k), (2, dropped)]) := by
  unfold Block.replaceLane Block.findSpare
  rw [h]
  rfl

theorem Block.replaceLane_of_none {b : Block} {l : Nat} (x : Binding) (dropped : Nat) (h : b.freeSpares = []) :
    b.replaceLane l x dropped =
      (b.bindingLost l x).post 0x0102 3 0x4A ([(1, l)] ++ bindingArgs (some x) ++ [(2, dropped)]) := by
  unfold Block.replaceLane Block.findSpare
  rw [h]
  rfl

theorem Block.bindingLost_keeps (b : Block) (l : Nat) (x : Binding) :
    (b.bindingLost l x).pool = (b.setLane l { b.lane l with binding := none }).pool ∧ (b.bindingLost l x).dev = b.dev ∧
      ∀ offs, Reg.LP_AGC_STAT x.port ∈ offs → Reg.LP_STATUS x.port ∈ offs → b.keepsBut (b.bindingLost l x) offs := by
  obtain ⟨hpool, hdev, hregs⟩ := (b.setLane l { b.lane l with binding := none }).refreshAnchor_keeps x.port
  unfold Block.bindingLost
  refine ⟨(Block.set_pool _ _ _).trans hpool, (Block.set_dev _ _ _).trans hdev, fun offs ha hs => ?_⟩
  have hlane : b.keepsBut (b.setLane l { b.lane l with binding := none }) offs := (b.keepsBut_refl offs).of_regs rfl
  exact (hlane.trans (hregs offs ha)).set (f := Reg.LP_STATUS_LANE_SHORT x.port) 1 hs

theorem Block.bindingLost_short (b : Block) (l : Nat) (x : Binding) :
    (b.bindingLost l x).get (Reg.LP_STATUS_LANE_SHORT x.port) = 1 := Block.get_set_same _ _ _ (by simp [Field.fits])

/-- What the retirement of a bound lane leaves: its lane, the moves, and the registers it writes. -/
theorem Block.retireLane_bound {b : Block} {l : Nat} {x : Binding} (hr : (b.lane l).retired = false)
    (hx : (b.lane l).binding = some x) :
    ∃ c : Block, b.retireLane l = (c.checkSpares b.spareLanes.length) ∧ c.dev = b.dev ∧
      (c.lane l).retired = true ∧ (c.lane l).reception = none ∧
      (∀ k ks, b.freeSpares = k :: ks → c.pool.moves = b.pool.moves ++ [(l, k)] ∧ (c.lane l).binding = some x) ∧
      (b.freeSpares = [] → (c.lane l).binding = none ∧ c.get (Reg.LP_STATUS_LANE_SHORT x.port) = 1) ∧
      b.keepsBut c (Reg.LP_AGC_STAT x.port :: Reg.LP_STATUS x.port :: Reg.FLT_SPARES :: recordRegs) := by
  set offs := Reg.LP_AGC_STAT x.port :: Reg.LP_STATUS x.port :: Reg.FLT_SPARES :: recordRegs with hoffs
  have hrec : recordRegs ⊆ offs := fun off h => List.mem_cons_of_mem _ (List.mem_cons_of_mem _ (List.mem_cons_of_mem _ h))
  have hkeep : b.keepsBut (b.laneRetired l) offs := b.laneRetired_keepsBut l fun y hy => by
    obtain rfl : x = y := Option.some.inj (hx.symm.trans hy)
    simp [hoffs]
  have hlane : (b.laneRetired l).lane l = { b.lane l with reception := none, retired := true } :=
    (b.laneRetired_lane l l).trans (if_pos rfl)
  have hspares := Block.laneRetired_freeSpares (l := l) hx
  have heq := Block.retireLane_eq hr
  rw [hlane] at heq
  simp only [hx] at heq
  refine ⟨_, heq, ?_⟩
  cases hfree : b.freeSpares with
  | cons k ks =>
    rw [Block.replaceLane_of_spare x _ (hspares.trans hfree)]
    have hpool := Block.post_pool ((b.laneRetired l).movePlanned l k) 0x0101 2 0x4A
      ([(1, l)] ++ bindingArgs (some x) ++ [(1, k), (2, if (b.lane l).current.isSome then 1 else 0)])
    have hpost := (Block.lane_of_pool hpool l).trans hlane
    rw [hpost, hpool]
    refine ⟨(Block.post_dev _ _ _ _ _).trans (b.laneRetired_dev l), rfl, rfl, ?_, fun h => by simp at h, ?_⟩
    · rintro k' ks' h
      obtain ⟨rfl, rfl⟩ := List.cons.inj h
      refine ⟨?_, hx⟩
      have hmoves : ((b.laneRetired l).movePlanned l k).pool.moves = (b.laneRetired l).pool.moves ++ [(l, k)] := rfl
      rw [hmoves, b.laneRetired_moves]
    · exact (hkeep.of_regs (c' := (b.laneRetired l).movePlanned l k) rfl).post _ _ _ _ hrec
  | nil =>
    obtain ⟨hpool, hdev, hregs⟩ := (b.laneRetired l).bindingLost_keeps l x
    rw [Block.replaceLane_of_none x _ (hspares.trans hfree)]
    have hpost := (Block.lane_of_pool ((Block.post_pool ((b.laneRetired l).bindingLost l x) 0x0102 3 0x4A
      ([(1, l)] ++ bindingArgs (some x) ++ [(2, if (b.lane l).current.isSome then 1 else 0)])).trans hpool) l).trans
      (Block.lane_setLane_same _ _ _)
    rw [hpost, hlane]
    refine ⟨(Block.post_dev _ _ _ _ _).trans (hdev.trans (b.laneRetired_dev l)), rfl, rfl, fun _ _ h => by simp at h,
      fun _ => ⟨rfl, ?_⟩, ?_⟩
    · rw [Block.get_post _ _ _ _ _ _ (notMem_recordRegs (by simp only [Reg.LP_STATUS]; omega))]
      exact Block.bindingLost_short _ _ _
    · exact (hkeep.trans (hregs offs (by simp [hoffs]) (by simp [hoffs]))).post _ _ _ _ hrec

/-- Retiring a spare lane: it is marked, and no other lane changes. -/
theorem Block.retireLane_spare {b : Block} {l : Nat} (hr : (b.lane l).retired = false) (hx : (b.lane l).binding = none) :
    ∃ c : Block, b.retireLane l = c.checkSpares b.spareLanes.length ∧ c.dev = b.dev ∧ (c.lane l).retired = true ∧
      (∀ j, j ≠ l → c.lane j = b.lane j) ∧ c.pool.moves = b.pool.moves ∧ b.keepsBut c recordRegs := by
  have hlane : (b.laneRetired l).lane l = { b.lane l with reception := none, retired := true } :=
    (b.laneRetired_lane l l).trans (if_pos rfl)
  have hkeep : b.keepsBut (b.laneRetired l) recordRegs := b.laneRetired_keepsBut l fun y hy => by simp [hx] at hy
  have heq := Block.retireLane_eq hr
  rw [hlane] at heq
  simp only [hx] at heq
  refine ⟨_, heq, (Block.post_dev _ _ _ _ _).trans (b.laneRetired_dev l), ?_, fun j hj => ?_, ?_,
    hkeep.post _ _ _ _ (List.Subset.refl _)⟩
  · rw [Block.lane_of_pool (Block.post_pool _ _ _ _ _), hlane]
  · rw [Block.lane_of_pool (Block.post_pool _ _ _ _ _), b.laneRetired_lane, if_neg hj]
  · rw [Block.post_pool, b.laneRetired_moves]

theorem Block.checkSpares_lane (b : Block) (n l : Nat) : (b.checkSpares n).lane l = b.lane l :=
  Block.lane_of_pool (b.checkSpares_keeps n).1 l

/-- A transmit lane retired, not yet recorded. -/
def Block.txLaneRetired (b : Block) (l : Nat) : Block :=
  { b with pool := { b.pool with txRetired := b.pool.txRetired ++ [l] } }

theorem Block.retireTxLane_shows {b : Block} {l : Nat} (h : l ∉ b.pool.txRetired) :
    (b.retireTxLane l).pool = { b.pool with txRetired := b.pool.txRetired ++ [l] } ∧ (b.retireTxLane l).dev = b.dev ∧
      (b.retireTxLane l).get Reg.FLT_SPARES_TX_ALIVE = 48 - (b.pool.txRetired ++ [l]).length ∧
      b.keepsBut (b.retireTxLane l) (Reg.FLT_SPARES :: Reg.FLT_PEND :: recordRegs) := by
  have heq : b.retireTxLane l = ((b.txLaneRetired l).countSpares.post 0x0103 2 0x4A
      [(1, l), (1, 48 - (b.txLaneRetired l).pool.txRetired.length)]).spareLow 1
        (48 - (b.txLaneRetired l).pool.txRetired.length) := by
    unfold Block.retireTxLane
    rw [if_neg (by simp [h])]
    rfl
  obtain ⟨hpool, hdev, hregs⟩ := (b.txLaneRetired l).countSpares_keeps
  obtain ⟨hpool', hdev', hregs'⟩ := ((b.txLaneRetired l).countSpares.post 0x0103 2 0x4A
      [(1, l), (1, 48 - (b.txLaneRetired l).pool.txRetired.length)]).spareLow_keeps 1
        (48 - (b.txLaneRetired l).pool.txRetired.length)
  have hmarked : b.keepsBut (b.txLaneRetired l) (Reg.FLT_SPARES :: Reg.FLT_PEND :: recordRegs) :=
    (b.keepsBut_refl _).of_regs rfl
  rw [heq]
  refine ⟨hpool'.trans ((Block.post_pool _ _ _ _ _).trans hpool), hdev'.trans ((Block.post_dev _ _ _ _ _).trans hdev), ?_, ?_⟩
  · rw [(hregs' recordRegs (List.Subset.refl _)).get (by decide), Block.get_post _ _ _ _ _ _ (by decide)]
    exact Block.countSpares_txAlive _
  · exact ((hmarked.trans (hregs _ (by simp))).post _ _ _ _ (by decide)).trans (hregs' _ (by decide))

/-- At the frame boundary the spare takes the binding. -/
theorem Block.moveBinding_shows {b : Block} {l spare : Nat} {x : Binding} (hmove : b.pool.moves.find? (fun p => p.1 == l) = some (l, spare))
    (hx : (b.lane l).binding = some x) (hne : spare ≠ l) (hr : (b.lane spare).retired = false)
    (hfree : (b.lane spare).binding = none) :
    (b.moveBinding l).dev = b.dev ∧ ((b.moveBinding l).lane spare).binding = some x ∧ ((b.moveBinding l).lane l).binding = none ∧
      (b.moveBinding l).pool.moves = b.pool.moves.filter (fun p => p.1 != l) ∧
      b.keepsBut (b.moveBinding l) [Reg.LP_AGC_STAT x.port, Reg.FLT_SPARES] := by
  set c : Block := { b with pool := { b.pool with moves := b.pool.moves.filter fun p => p.1 != l } } with hc
  have hlane : ∀ j, c.lane j = b.lane j := fun j => rfl
  set d := (c.dropReception l).setLane l { c.lane l with binding := none, reception := none } with hd
  have heq : b.moveBinding l = (d.setLane spare { d.lane spare with binding := some x }).countSpares := by
    unfold Block.moveBinding
    rw [hmove, hx]
    dsimp only
    rw [← hc, if_neg (by simp [hlane, hr, hfree])]
  obtain ⟨hpool, hdev, hregs⟩ := (d.setLane spare { d.lane spare with binding := some x }).countSpares_keeps
  have hdl : (d.lane l).binding = none := by rw [hd, Block.lane_setLane_same]
  have hdropped : b.keepsBut (c.dropReception l) [Reg.LP_AGC_STAT x.port, Reg.FLT_SPARES] := by
    refine Block.keepsBut.trans (c := c) ((b.keepsBut_refl _).of_regs rfl) (c.setReception_keepsBut l none fun y hy => ?_)
    obtain rfl : x = y := Option.some.inj (hx.symm.trans hy)
    simp
  have hmoves : (c.dropReception l).pool.moves = c.pool.moves := by
    rw [Block.dropReception, Block.setReception_pool]
    rfl
  rw [heq, Block.lane_of_pool hpool, Block.lane_of_pool hpool, hpool, Block.lane_setLane_same,
    Block.lane_setLane_other _ _ _ (Ne.symm hne), hdl]
  refine ⟨hdev.trans ?_, rfl, rfl, hmoves, ?_⟩
  · exact (c.setReception_dev l none :)
  · refine Block.keepsBut.trans (hdropped.of_regs ?_) (hregs _ (by simp))
    rfl

/-- The two lanes of a check that can retire one: a lane that is bound and a spare, neither retired. -/
structure Block.checksPair (b : Block) (c : LaneCheck) (x : Binding) : Prop where
  dev : b.dev = .service
  bound : (b.lane c.bound).binding = some x
  alive : (b.lane c.bound).retired = false
  spare : (b.lane c.spare).binding = none
  spareAlive : (b.lane c.spare).retired = false

theorem Block.laneCheck_of_pair {b : Block} {c : LaneCheck} {x : Binding} (h : b.checksPair c x) : b.laneCheck c =
    let d := if !c.equal && !c.spareOk then b.retireLane c.spare else b
    let d := if !c.equal && !c.boundOk then d.retireLane c.bound else d
    match c.txFail with
    | some l => d.retireTxLane l.val
    | none => d := by
  unfold Block.laneCheck
  dsimp only
  rw [if_neg (by simp [h.dev]), h.bound, h.alive, h.spare, h.spareAlive]
  rfl

theorem completes_laneCheck {s : State} {c : LaneCheck} {x : Binding} {b : Block} {P : Block → Prop}
    (h : s.blk.checksPair c x) (hb : s.blk.laneCheck c = b) (hd : b.dev = s.blk.dev) (hP : P b) :
    Completes (.laneCrossCheck c) s P := by
  refine completes_of_next (b := s.blk.laneCheck c) rfl ?_
  rwa [hb, Block.gated_service _ (hd.trans h.dev)]

/-- Settles O27: `laneCheck` retires a spare, a bound lane or a transmit lane, and `moveBinding` moves what was planned. -/
theorem retiredLaneIsReplaced : Obligations.RetiredLaneIsReplaced := by
  intro s c x
  refine ⟨fun hd => ?_, fun hmove => ?_, fun hd hport hx hr hfree hsr => ?_⟩
  · refine completes_of_next (b := s.blk.laneCheck c) rfl ?_
    unfold Block.laneCheck
    dsimp only
    rw [if_pos (by simp [hd])]
    exact ⟨s.blk.gated_pool, Block.keepsBut_gated_of_regs rfl⟩
  · refine completes_of_next (b := s.blk.moveBinding c.bound) rfl ?_
    unfold Block.moveBinding
    rw [hmove]
    exact ⟨s.blk.gated_pool, Block.keepsBut_gated_of_regs rfl⟩
  have hpair : s.blk.checksPair c x := ⟨hd, hx, hr, hfree, hsr⟩
  have hcheck := Block.laneCheck_of_pair hpair
  have hne : c.spare.val ≠ c.bound.val := fun h => by rw [h, hx] at hfree; cases hfree
  refine ⟨fun hok => ?_, fun heq hb hs htx => ?_, fun heq hb hs htx => ?_, fun hmove => ?_⟩
  · have hspare : (!c.equal && !c.spareOk) = false := by rcases hok with h | ⟨-, h⟩ <;> simp [h]
    have hbound : (!c.equal && !c.boundOk) = false := by rcases hok with h | ⟨h, -⟩ <;> simp [h]
    rw [hspare, hbound] at hcheck
    refine ⟨fun htx => ?_, fun l htx hl => ?_⟩
    · rw [htx] at hcheck
      exact completes_laneCheck hpair hcheck rfl rfl
    · rw [htx] at hcheck
      obtain ⟨hpool, hdev, halive, hregs⟩ := Block.retireTxLane_shows hl
      exact completes_laneCheck (b := s.blk.retireTxLane l) hpair hcheck hdev ⟨hpool, halive.trans (by rw [hpool]), hregs⟩
  · obtain ⟨d, hd1, hdev, hret, hrec, hsome, hnone, hregs⟩ := Block.retireLane_bound (l := c.bound) hr hx
    obtain ⟨hpool', hdev', hregs'⟩ := d.checkSpares_keeps s.blk.spareLanes.length
    have hrecs : recordRegs ⊆ Reg.LP_AGC_STAT x.port :: Reg.LP_STATUS x.port :: Reg.FLT_SPARES :: recordRegs :=
      fun off h => List.mem_cons_of_mem _ (List.mem_cons_of_mem _ (List.mem_cons_of_mem _ h))
    have hall := hregs' (Reg.FLT_SPARES :: recordRegs) (by simp) fun off h => List.mem_cons_of_mem _ h
    have hspare : (!c.equal && !c.spareOk) = false := by simp [hs]
    have hbound : (!c.equal && !c.boundOk) = true := by simp [heq, hb]
    rw [hspare, hbound, htx] at hcheck
    refine completes_laneCheck hpair (hcheck.trans hd1) (hdev'.trans hdev) ?_
    rw [Block.checkSpares_lane, hpool']
    refine ⟨hret, hrec, hsome, fun hfree0 => ⟨(hnone hfree0).1, ?_⟩, hregs.trans (hregs' _ (by simp) hrecs)⟩
    rw [hall.get (List.not_mem_cons_of_ne_of_not_mem (by simp only [Reg.LP_STATUS, Reg.FLT_SPARES]; omega)
      (notMem_recordRegs (by simp only [Reg.LP_STATUS]; omega)))]
    exact (hnone hfree0).2
  · obtain ⟨d, hd1, hdev, hret, hother, hmoves, hregs⟩ := Block.retireLane_spare (l := c.spare) hsr hfree
    obtain ⟨hpool', hdev', hregs'⟩ := d.checkSpares_keeps s.blk.spareLanes.length
    have hspare : (!c.equal && !c.spareOk) = true := by simp [heq, hs]
    have hbound : (!c.equal && !c.boundOk) = false := by simp [hb]
    rw [hspare, hbound, htx] at hcheck
    refine completes_laneCheck hpair (hcheck.trans hd1) (hdev'.trans hdev) ?_
    rw [Block.checkSpares_lane, Block.checkSpares_lane, hpool']
    exact ⟨hret, hother _ (Ne.symm hne), hmoves, (hregs.mono (by decide)).trans (hregs' _ (by decide) (by decide))⟩
  · obtain ⟨hdev, hspare, hbound, hmoves, hregs⟩ := Block.moveBinding_shows hmove hx hne hsr hfree
    refine completes_of_next (b := s.blk.moveBinding c.bound) rfl ?_
    rw [Block.gated_service _ (hdev.trans hd)]
    exact ⟨hspare, hbound, hmoves, hregs⟩

end Sys2Proof.Machine

/-!
DRAM pages, decoders and preambles (R20, R33, R35, R131, R165).
-/

namespace Sys2Proof.Machine

/-! ### Retired pages -/

/-- A page counted, the reserve not yet shown. -/
def Block.pageCounted (b : Block) : Block := (b.set Reg.FLT_DRAM_ROW_SPARES 0).incSat Reg.FLT_DRAM_PAGES_RETIRED

theorem Block.retirePage_eq (b : Block) (page : Nat) : b.retirePage page =
    let c := b.pageCounted.showReserve.post 0x0104 1 0x4A [(4, page), (2, b.pageCounted.showReserve.get Reg.FLT_DRAM_RESERVE_MIB)]
    if b.pageCounted.showReserve.get Reg.FLT_DRAM_RESERVE_MIB = 0 ∧ 0 < b.get Reg.FLT_DRAM_RESERVE_MIB then c.spareLow 3 0 else c :=
  rfl

theorem Block.pageCounted_shows (b : Block) : b.pageCounted.get Reg.FLT_DRAM_ROW_SPARES = 0 ∧
    b.pageCounted.get Reg.FLT_DRAM_PAGES_RETIRED = min (b.get Reg.FLT_DRAM_PAGES_RETIRED + 1) 0xFFFF := by
  have hcount := Block.get_incSat (b.set Reg.FLT_DRAM_ROW_SPARES 0) Reg.FLT_DRAM_PAGES_RETIRED (by decide)
  have hkept : (b.set Reg.FLT_DRAM_ROW_SPARES 0).get Reg.FLT_DRAM_PAGES_RETIRED = b.get Reg.FLT_DRAM_PAGES_RETIRED :=
    Block.get_set_apart _ _ _ _ (by decide) (by decide)
  refine ⟨?_, hcount.trans (congrArg (fun n => min (n + 1) 65535) hkept)⟩
  unfold Block.pageCounted Block.incSat
  split
  · rw [Block.get_set_apart _ _ _ _ (by decide) (by decide), Block.get_set_same _ _ _ (by decide)]
    rfl
  · rw [Block.get_set_same _ _ _ (by decide)]
    rfl

theorem Block.pageCounted_img (b : Block) : b.pageCounted.img = b.img := (Block.incSat_img _ _).trans (Block.set_img _ _ _)

theorem Block.dramReserve_congr {b c : Block} (h : c.img = b.img) (pages : Nat) : c.dramReserve pages = b.dramReserve pages := by
  unfold Block.dramReserve Block.setting
  rw [h]

theorem Block.usableStorage_congr {b c : Block} (h : c.img = b.img) (pages : Nat) :
    c.usableStorage pages = b.usableStorage pages := by
  unfold Block.usableStorage Block.setting
  rw [h]

theorem Block.showReserve_shows (b : Block) :
    b.showReserve.get Reg.FLT_DRAM_RESERVE_MIB = b.dramReserve (b.get Reg.FLT_DRAM_PAGES_RETIRED) % 2 ^ 16 ∧
      b.showReserve.get Reg.QF_STORAGE_USABLE = b.usableStorage (b.get Reg.FLT_DRAM_PAGES_RETIRED) % 2 ^ 16 := by
  unfold Block.showReserve
  dsimp only
  refine ⟨Block.get_setAll_head _ _ _ _ (by decide) (by simp [Field.fits, Field.apart]), ?_⟩
  rw [Block.setAll_cons, Block.setAll_cons]
  exact Block.get_setAll_head _ _ _ _ (by decide) (by simp)

theorem Block.showReserve_get_other (b : Block) (f : Field) (h1 : f.off ≠ Reg.FLT_DRAM_RESERVE) (h2 : f.off ≠ Reg.QF_STORAGE) :
    b.showReserve.get f = b.get f := by
  unfold Block.showReserve
  dsimp only
  exact Block.get_setAll_other _ _ _ (by simp [h1, h2])

theorem Block.keepsBut.incSat {b c : Block} {offs : List Nat} (h : b.keepsBut c offs) {f : Field} (hf : f.off ∈ offs) :
    b.keepsBut (c.incSat f) offs := Block.writesIn.incSat h hf

theorem Block.pageCounted_showReserve_dev (b : Block) : b.pageCounted.showReserve.dev = b.dev := by
  unfold Block.showReserve Block.pageCounted
  rw [Block.setAll_dev, Block.incSat_dev, Block.set_dev]

theorem Block.retirePage_keeps (b : Block) (page : Nat) : (b.retirePage page).dev = b.dev ∧
    b.pageCounted.showReserve.keepsBut (b.retirePage page) recordRegs := by
  have hsub : recordRegs ⊆ recordRegs := List.Subset.refl _
  have hpost := fun n => (b.pageCounted.showReserve.keepsBut_refl recordRegs).post 0x0104 1 0x4A [(4, page), (2, n)] hsub
  have hdev := b.pageCounted_showReserve_dev
  rw [Block.retirePage_eq]
  dsimp only
  split
  · obtain ⟨-, hdev', hregs'⟩ := (b.pageCounted.showReserve.post 0x0104 1 0x4A
      [(4, page), (2, b.pageCounted.showReserve.get Reg.FLT_DRAM_RESERVE_MIB)]).spareLow_keeps 3 0
    exact ⟨hdev'.trans ((Block.post_dev _ _ _ _ _).trans hdev), (hpost _).trans (hregs' _ hsub)⟩
  · exact ⟨(Block.post_dev _ _ _ _ _).trans hdev, hpost _⟩

theorem Block.retirePage_keepsBut (b : Block) (page : Nat) : b.keepsBut (b.retirePage page)
    (Reg.FLT_DRAM :: Reg.FLT_DRAM_RESERVE :: Reg.QF_STORAGE :: Reg.FLT_PEND :: Reg.SP_STAT 1 :: recordRegs) := by
  have hcounted : b.keepsBut b.pageCounted
      (Reg.FLT_DRAM :: Reg.FLT_DRAM_RESERVE :: Reg.QF_STORAGE :: Reg.FLT_PEND :: Reg.SP_STAT 1 :: recordRegs) :=
    Block.keepsBut.incSat (f := Reg.FLT_DRAM_PAGES_RETIRED)
      (Block.keepsBut.set (b.keepsBut_refl _) (f := Reg.FLT_DRAM_ROW_SPARES) 0 (by decide)) (by decide)
  exact (hcounted.setAll (by simp)).trans ((b.retirePage_keeps page).2.mono (by decide))

/-! ### Decoders -/

theorem ahead_asymm {t n : Bearing} (hne : t ≠ n) (h : ahead t n = true) : ahead n t = false := by
  unfold ahead at h ⊢
  have h := of_decide_eq_true h
  refine decide_eq_false fun h' => hne ?_
  bv_omega

/-- The codeword that goes before every other one of a list. -/
def Codeword.first (w : Codeword) (xs : List Codeword) : Prop := ∀ y ∈ xs, y ≠ w →
  (w.endBearing = y.endBearing ∧ w.lane < y.lane) ∨ (w.endBearing ≠ y.endBearing ∧ ahead y.endBearing w.endBearing = true)

theorem Codeword.before_of_first {w y : Codeword}
    (h : (w.endBearing = y.endBearing ∧ w.lane < y.lane) ∨
      (w.endBearing ≠ y.endBearing ∧ ahead y.endBearing w.endBearing = true)) : w.before y = true ∧ y.before w = false := by
  unfold Codeword.before
  rcases h with ⟨he, hl⟩ | ⟨he, ha⟩
  · rw [if_pos he, if_pos he.symm]
    exact ⟨decide_eq_true hl, decide_eq_false (by omega)⟩
  · rw [if_neg he, if_neg (Ne.symm he)]
    exact ⟨ha, ahead_asymm (Ne.symm he) ha⟩

/-- The better of the best codeword so far and the next one. -/
def Codeword.better (best : Option Codeword) (x : Codeword) : Option Codeword := match best with
  | some y => if x.before y then some x else some y
  | none => some x

theorem nextCodeword_eq_foldl (xs : List Codeword) : nextCodeword xs = xs.foldl Codeword.better none := rfl

theorem Codeword.better_self_of_first {w x : Codeword} {xs : List Codeword} (h : w.first xs) (hx : x ∈ xs) :
    Codeword.better (some w) x = some w := by
  unfold Codeword.better
  by_cases he : x = w
  · subst he
    dsimp only
    split <;> rfl
  · dsimp only
    rw [(Codeword.before_of_first (h x hx he)).2, if_neg Bool.false_ne_true]

theorem foldl_better_of_first {w : Codeword} {xs ys : List Codeword} (h : w.first xs) (hys : ys ⊆ xs) :
    ys.foldl Codeword.better (some w) = some w := by
  induction ys with
  | nil => rfl
  | cons y ys ih =>
    rw [List.foldl_cons, Codeword.better_self_of_first h (hys (List.mem_cons_self ..))]
    exact ih fun z hz => hys (List.mem_cons_of_mem _ hz)

theorem foldl_better_of_mem {w : Codeword} {xs ys : List Codeword} (h : w.first xs) (hys : ys ⊆ xs) (hw : w ∈ ys)
    {best : Option Codeword} (hbest : ∀ y, best = some y → y ∈ xs) : ys.foldl Codeword.better best = some w := by
  induction ys generalizing best with
  | nil => cases hw
  | cons y ys ih =>
    have hy : y ∈ xs := hys (List.mem_cons_self ..)
    have hrest : ys ⊆ xs := fun z hz => hys (List.mem_cons_of_mem _ hz)
    rw [List.foldl_cons]
    by_cases he : y = w
    · have hnext : Codeword.better best y = some w := by
        subst he
        unfold Codeword.better
        cases hb : best with
        | none => rfl
        | some z =>
          dsimp only
          by_cases hz : z = y
          · subst hz
            split <;> rfl
          · rw [(Codeword.before_of_first (h z (hbest z hb) hz)).1]
            rfl
      rw [hnext]
      exact foldl_better_of_first h hrest
    · refine ih hrest ((List.mem_cons.1 hw).resolve_left (Ne.symm he)) fun z hz => ?_
      unfold Codeword.better at hz
      cases hb : best with
      | none =>
        rw [hb] at hz
        exact Option.some.inj hz ▸ hy
      | some v =>
        rw [hb] at hz
        dsimp only at hz
        split at hz
        · exact Option.some.inj hz ▸ hy
        · exact Option.some.inj hz ▸ hbest v hb

theorem nextCodeword_of_first {w : Codeword} {xs : List Codeword} (h : w.first xs) (hw : w ∈ xs) : nextCodeword xs = some w :=
  (nextCodeword_eq_foldl xs).trans (foldl_better_of_mem h (List.Subset.refl _) hw fun _ h => by cases h)

/-! ### Preambles -/

theorem Block.preamble_of_skipped {b : Block} {p : PreambleIn} {x : Binding} (hx : (b.lane p.lane).binding = some x)
    (h : b.blanked x = true ∨ x.g3 = false ∧ (p.syncs.toNat < 6 ∨ (b.lane p.lane).current.isSome = true)) : b.preamble p = b := by
  unfold Block.preamble
  dsimp only
  rw [hx]
  dsimp only
  rw [if_pos]
  rcases h with h | ⟨hg, h | h⟩ <;> simp [*]

/-- Settles O28: page, decoder and preamble by the equations above. -/
theorem poolsServeTheirQueues : Obligations.PoolsServeTheirQueues := by
  intro s page arrived w freed p v
  refine ⟨?_, ⟨fun hroom hw hfirst => ?_, fun hnone => ?_⟩, fun hd hv hr hen => ⟨fun hb hok => ?_, fun hb => ?_, fun hg hskip => ?_⟩⟩
  · obtain ⟨hspares, hpages⟩ := s.blk.pageCounted_shows
    obtain ⟨hmib, husable⟩ := s.blk.pageCounted.showReserve_shows
    obtain ⟨hdev, hrecord⟩ := s.blk.retirePage_keeps page.toNat
    rw [hpages] at hmib husable
    rw [Block.dramReserve_congr s.blk.pageCounted_img] at hmib
    rw [Block.usableStorage_congr s.blk.pageCounted_img] at husable
    refine completes_of_next (b := s.blk.retirePage page.toNat) rfl ?_
    rw [Block.gated_get_other _ _ (by decide), Block.gated_get_other _ _ (by decide), Block.gated_get_other _ _ (by decide),
      Block.gated_get_other _ _ (by decide), Block.gated_dev, hrecord.get (by decide), hrecord.get (by decide),
      hrecord.get (by decide), hrecord.get (by decide)]
    refine ⟨?_, ?_, hmib, husable, hdev, (s.blk.retirePage_keepsBut _).gated (by decide)⟩
    · rw [Block.showReserve_get_other _ _ (by decide) (by decide), hspares]
    · rw [Block.showReserve_get_other _ _ (by decide) (by decide), hpages]
  · refine completes_of_next (b := s.blk.ldpcDecode arrived freed) rfl ?_
    unfold Block.ldpcDecode
    dsimp only
    rw [if_pos hroom, nextCodeword_of_first hfirst hw, Block.gated_pool]
    exact ⟨rfl, Block.keepsBut_gated_of_regs rfl⟩
  · refine completes_of_next (b := s.blk.ldpcDecode arrived freed) rfl ?_
    have hstop : (if (s.blk.pool.decoding.drop freed).length < 16 then
        nextCodeword (s.blk.pool.codewords ++ arrived.filterMap s.blk.codeword) else none) = none := by
      rcases hnone with h | h
      · rw [if_neg (by omega)]
      · rw [h]
        exact ite_self none
    unfold Block.ldpcDecode
    dsimp only
    rw [hstop, Block.gated_pool]
    exact ⟨rfl, Block.keepsBut_gated_of_regs rfl⟩
  · refine completes_of_next (b := s.blk.preamble p) rfl ?_
    have hgo : (s.blk.dev != .service || (s.blk.lane p.lane).retired || !s.blk.on (Reg.LP_CTRL_ENABLE v.port) ||
        s.blk.blanked v || (!v.g3 && (decide (p.syncs.toNat < 6) || (s.blk.lane p.lane).current.isSome))) = false := by
      rcases hok with h | ⟨h6, hcur⟩
      · simp [hd, hr, hen, hb, h]
      · simp [hd, hr, hen, hb, hcur, h6]
    unfold Block.preamble
    dsimp only
    rw [hv]
    dsimp only
    rw [hgo, if_neg Bool.false_ne_true, Block.gated_service _ ((Block.setReception_dev _ _ _).trans hd), Block.lane_setReception,
      if_pos rfl]
    refine ⟨⟨_, rfl, rfl, rfl, rfl, rfl, rfl, rfl, rfl, rfl, rfl⟩, s.blk.setReception_keepsBut _ _ fun y hy => ?_⟩
    obtain rfl : v = y := Option.some.inj (hv.symm.trans hy)
    simp
  · refine completes_of_next (b := s.blk.preamble p) rfl ?_
    rw [Block.preamble_of_skipped hv (.inl hb)]
    exact Block.gated_service _ hd
  · refine completes_of_next (b := s.blk.preamble p) rfl ?_
    rw [Block.preamble_of_skipped hv (.inr ⟨hg, hskip⟩)]
    exact Block.gated_service _ hd

end Sys2Proof.Machine

/-!
Statements over every block, also one whose stores are not canonical: the output stages of R532 rewrite the stores of the
ports and of the serial ports entry by entry and drop what has become the value of an unlisted key, so that a key listed twice
shows its second entry.
-/

namespace Sys2Proof.Machine

/-- A block in RESET whose store lists port 0 twice: first with its switches closed, then with a gain step pending and a slice
to test. -/
def portListedTwice : Block :=
  { Block.reset with ports := { Block.reset.ports with
      port := [(0, { PortSt.reset with switches := true }),
        (0, { PortSt.reset with agcPending := some 3, untested := [(0, .trip)] })] } }

/-- Where a command leaves the block to its output stages, the next state is known. -/
theorem Completes.of_idle {c : Instr} {b : Block} {P : Block → Prop} (hc : exec c ⟨b, []⟩ = .next ⟨b.gated, []⟩)
    (h : Completes c ⟨b, []⟩ P) : P b.gated := by
  obtain ⟨t, ht, -, hP⟩ := h
  obtain rfl : (⟨b.gated, []⟩ : State) = t := Host.Outcome.next.inj (hc.symm.trans ht)
  exact hP

theorem portListedTwice_pending : (portListedTwice.port 0).agcPending = none := rfl

/-- With its switches open the first entry is the one that an unlisted port reads as; it goes, and the second shows. -/
theorem portListedTwice_gated_pending : (portListedTwice.gated.port 0).agcPending = some 3 := rfl

/-- Refutes O29: the statement is over every block, also one whose store of ports is not canonical. On a block in RESET that
lists port 0 twice, a measurement does nothing, but opening the switches (R532) uncovers another pending gain step. -/
theorem not_gainStepsTakeEffect : ¬ Obligations.GainStepsTakeEffect := by
  intro h
  obtain ⟨-, hidle, -⟩ := h ⟨portListedTwice, []⟩ 0 0 0 []
  obtain ⟨hpending, -⟩ := Completes.of_idle rfl (hidle (.inl (by decide)))
  cases portListedTwice_gated_pending.symm.trans (hpending.trans portListedTwice_pending)

theorem portListedTwice_untested : (portListedTwice.port 0).untested = [] := rfl

theorem portListedTwice_gated_untested : (portListedTwice.gated.port 0).untested = [(0, .trip)] := rfl

/-- Refutes O30: on the same block no slice is active, the trip of one does nothing, but opening the switches uncovers a slice
that waits for its test. -/
theorem not_slicesAreTestedOrRetired : ¬ Obligations.SlicesAreTestedOrRetired := by
  intro h
  obtain ⟨-, -, hidle, -⟩ := h ⟨portListedTwice, []⟩ 0 0 .trip
  obtain ⟨huntested, -⟩ := Completes.of_idle rfl (hidle rfl (.sliceTrip 0 0) (by simp))
  cases portListedTwice_gated_untested.symm.trans (huntested.trans portListedTwice_untested)

/-- A block in RESET whose store lists serial port 0 twice: first with a tail under way, then with a character received. -/
def serialListedTwice : Block :=
  { Block.reset with serial := [(0, { SerialPort.reset with tail := true }), (0, { SerialPort.reset with rx := [5] })] }

theorem serialListedTwice_rx : (serialListedTwice.sp 0).rx = [] := rfl

theorem serialListedTwice_gated_rx : (serialListedTwice.gated.sp 0).rx = [5] := rfl

/-- Refutes O59: in RESET no serial port listens and a character changes nothing, but holding TXD at mark (R532) uncovers the
second entry of a port that is listed twice, and with it another receive FIFO. -/
theorem not_serialPortsTalk : ¬ Obligations.SerialPortsTalk := by
  intro h
  obtain ⟨-, hidle, -⟩ := h ⟨serialListedTwice, []⟩ 0 ⟨0, false, false, false, false⟩ false 0 0 []
  obtain ⟨hrx, -⟩ := Completes.of_idle rfl (hidle rfl rfl)
  cases serialListedTwice_gated_rx.symm.trans (hrx.trans serialListedTwice_rx)

end Sys2Proof.Machine

/-!
Driver banks (R145, R154, R594): what cutting a port's frames leaves alone, and the banks off and on.
-/

namespace Sys2Proof.Machine

/-! ### What cutting frames leaves alone -/

/-- The device state, the registers of the banks and VDDA_5 as they were, and no switch closed. -/
structure Block.cuts (b c : Block) : Prop where
  dev : c.dev = b.dev
  banks : ∀ k, c.rd (Reg.LP_BANK_STAT k) = b.rd (Reg.LP_BANK_STAT k)
  vdda5 : c.ports.vdda5Low = b.ports.vdda5Low
  opens : ∀ n, (b.port n).switches = false → (c.port n).switches = false

theorem Block.cuts_refl (b : Block) : b.cuts b := ⟨rfl, fun _ => rfl, rfl, fun _ h => h⟩

theorem Block.cuts.trans {b c d : Block} (h : b.cuts c) (h' : c.cuts d) : b.cuts d where
  dev := h'.dev.trans h.dev
  banks k := (h'.banks k).trans (h.banks k)
  vdda5 := h'.vdda5.trans h.vdda5
  opens n hn := h'.opens n (h.opens n hn)

theorem Block.cuts.of_eq {b c c' : Block} (h : b.cuts c) (hdev : c'.dev = c.dev) (hregs : c'.regs = c.regs)
    (hports : c'.ports = c.ports) : b.cuts c' where
  dev := hdev.trans h.dev
  banks k := (Block.rd_of_regs hregs _).trans (h.banks k)
  vdda5 := (congrArg PortsSt.vdda5Low hports).trans h.vdda5
  opens n hn := by
    unfold Block.port
    rw [hports]
    exact h.opens n hn

theorem Block.cuts.set {b c : Block} (h : b.cuts c) (f : Field) (v : Nat) (hf : ∀ k, Reg.LP_BANK_STAT k ≠ f.off) :
    b.cuts (c.set f v) where
  dev := (Block.set_dev _ _ _).trans h.dev
  banks k := (Block.rd_set_other _ _ _ _ (hf k)).trans (h.banks k)
  vdda5 := (congrArg PortsSt.vdda5Low (Block.set_ports _ _ _)).trans h.vdda5
  opens n hn := by
    unfold Block.port
    rw [Block.set_ports]
    exact h.opens n hn

theorem Block.cuts.post {b c : Block} (h : b.cuts c) (code sev src : Nat) (args : List (Nat × Nat)) :
    b.cuts (c.post code sev src args) where
  dev := (Block.post_dev _ _ _ _ _).trans h.dev
  banks k := (Block.rd_post _ _ _ _ _ _ (notMem_recordRegs (by simp only [Reg.LP_BANK_STAT]; omega))).trans (h.banks k)
  vdda5 := (congrArg PortsSt.vdda5Low (Block.post_ports _ _ _ _ _)).trans h.vdda5
  opens n hn := by
    unfold Block.port
    rw [Block.post_ports]
    exact h.opens n hn

theorem Block.cuts.foldl {α : Type} {b c : Block} (h : b.cuts c) (f : Block → α → Block) (l : List α)
    (hf : ∀ (d : Block) (x : α), d.cuts (f d x)) : b.cuts (l.foldl f c) := by
  induction l generalizing c with
  | nil => exact h
  | cons x l ih => exact ih (h.trans (hf c x))

theorem Block.port_setPort (b : Block) (n : Nat) (p : PortSt) (k : Nat) :
    (b.setPort n p).port k = if k = n then p else b.port k := Store.get_put (fun _ => PortSt.reset) b.ports.port n p k

/-- A port changed without closing its switches. -/
theorem Block.cuts.setPort {b c : Block} (h : b.cuts c) (n : Nat) (p : PortSt)
    (hp : (c.port n).switches = false → p.switches = false) : b.cuts (c.setPort n p) where
  dev := h.dev
  banks := h.banks
  vdda5 := h.vdda5
  opens k hk := by
    rw [Block.port_setPort]
    split
    · rename_i e
      subst e
      exact hp (h.opens k hk)
    · exact h.opens k hk

theorem Block.cuts.endPort {b c : Block} (h : b.cuts c) (n : Nat) : b.cuts (c.endPort n) := h.setPort n _ fun hs => hs

theorem Block.cuts.openSwitches {b c : Block} (h : b.cuts c) (n : Nat) : b.cuts (c.openSwitches n) :=
  (h.setPort n _ fun _ => rfl).set _ _ fun k => by simp only [Reg.LP_BANK_STAT, Reg.LP_STATUS]; omega

theorem Block.openSwitches_switches (b : Block) (n : Nat) : ((b.openSwitches n).port n).switches = false := by
  have h : (b.openSwitches n).ports = (b.setPort n (b.port n).opened).ports := Block.set_ports _ _ _
  have hport : (b.openSwitches n).port n = (b.setPort n (b.port n).opened).port n :=
    congrArg (fun p : PortsSt => Store.get (fun _ => PortSt.reset) p.port n) h
  rw [hport, Block.port_setPort, if_pos rfl]
  rfl

theorem Block.cuts.logTx {b c : Block} (h : b.cuts c) (ports : List Nat) (bands : Nat) (start : Bearing) :
    b.cuts (c.logTx ports bands start) := h.foldl _ _ fun d _ => d.cuts_refl.of_eq rfl rfl rfl

theorem Block.cuts.reportPred {b c : Block} (h : b.cuts c) : b.cuts c.reportPred := by
  unfold Block.reportPred
  dsimp only
  refine Block.cuts.set (Block.cuts.foldl (Block.cuts.foldl h _ _ fun d n => ?_) _ _ fun d k => ?_) _ _ fun k => ?_
  · exact d.cuts_refl.set _ _ fun k => by simp only [Reg.LP_BANK_STAT, Reg.LP_THERM]; omega
  · exact d.cuts_refl.set _ _ fun k => by simp only [Reg.LP_BANK_STAT, Reg.LP_BANK_PRED]; omega
  · simp only [Reg.LP_BANK_STAT, Reg.PT_THERM]
    omega

theorem Block.cuts.refreshCharges {b c : Block} (h : b.cuts c) (bank : Nat) : b.cuts (c.refreshCharges bank) :=
  (h.of_eq (c' := c.recharge bank) rfl rfl rfl).reportPred

/-- One port's frame cut: counted and recorded. -/
def Block.cutCounted (b : Block) (m cause : Nat) : Block :=
  (b.inc (Reg.LP_TX_CUT_COUNT m)).post 0x0405 2 0x41 [(1, m), (1, cause)]

theorem Block.cuts.cutCounted {b c : Block} (h : b.cuts c) (m cause : Nat) : b.cuts (c.cutCounted m cause) :=
  (h.set (Reg.LP_TX_CUT_COUNT m) _ fun k => by simp only [Reg.LP_BANK_STAT, Reg.LP_TX_CUT]; omega).post _ _ _ _

theorem Block.cuts.cutDrivesOf {b c : Block} (h : b.cuts c) (n cause : Nat) : b.cuts (c.cutDrivesOf n cause) := by
  unfold Block.cutDrivesOf
  dsimp only
  refine Block.cuts.foldl ?_ _ _ fun d x => ?_
  · exact h.of_eq rfl rfl rfl
  · exact (d.cuts_refl.logTx [n] x.bands x.start).cutCounted n cause

/-- The step that closes the ports of a cut frame. -/
def Block.cutAt (n : Nat) (b : Block) (m : Nat) : Block :=
  if m = n ∨ !b.sending m then (b.endPort m).openSwitches m else b

theorem Block.cuts_cutAt (n : Nat) (b : Block) (m : Nat) : b.cuts (Block.cutAt n b m) := by
  unfold Block.cutAt
  split
  · exact (b.cuts_refl.endPort m).openSwitches m
  · exact b.cuts_refl

theorem Block.cutAt_self_switches (n : Nat) (b : Block) : ((Block.cutAt n b n).port n).switches = false := by
  rw [Block.cutAt, if_pos (Or.inl rfl)]
  exact Block.openSwitches_switches _ n

/-- A fold whose step at `n` opens that port's switches leaves them open. -/
theorem Block.foldl_opens (f : Block → Nat → Block) (n : Nat) (hf : ∀ (d : Block) (x : Nat), d.cuts (f d x))
    (hn : ∀ d : Block, ((f d n).port n).switches = false) (l : List Nat) (hl : n ∈ l) (b : Block) :
    ((l.foldl f b).port n).switches = false := by
  induction l generalizing b with
  | nil => exact absurd hl List.not_mem_nil
  | cons x l ih =>
    rcases List.mem_cons.mp hl with rfl | hl
    · exact ((f b n).cuts_refl.foldl f l hf).opens n (hn b)
    · exact ih hl _

/-- The frames that remain when a port's are cut: those that ask for an ACK wait for it. -/
def Block.txsWithout (b : Block) (n : Nat) : List Tx :=
  b.mac.txs.filterMap fun x =>
    if x.stage != .awaitingAck && x.ports.contains n then
      (if x.offer.ackReq then some { x with stage := .awaitingAck, lostSlice := true } else none)
    else some x

/-- One cut frame: logged when it was on the line, counted at each of its ports. -/
def Block.cutTx (cause : Nat) (b : Block) (x : Tx) : Block :=
  x.ports.foldl (fun b m => b.cutCounted m cause) (if x.stage = .onLine then b.logTx x.ports x.bands x.start else b)

/-- What a cut does before it closes the ports. -/
def Block.cutFrames (b : Block) (n cause : Nat) : Block :=
  ((b.portTxs n).foldl (Block.cutTx cause) { b with mac := { b.mac with txs := b.txsWithout n } }).cutDrivesOf n cause

theorem Block.cuts_cutTx (cause : Nat) (b : Block) (x : Tx) : b.cuts (Block.cutTx cause b x) := by
  refine Block.cuts.foldl ?_ (fun b m => b.cutCounted m cause) x.ports fun d m => d.cuts_refl.cutCounted m cause
  split
  · exact b.cuts_refl.logTx _ _ _
  · exact b.cuts_refl

theorem Block.cutPort_eq (b : Block) (n cause : Nat) : b.cutPort n cause =
    (((n :: (b.portTxs n).flatMap (·.ports)).dedup.map (· / 6)).dedup).foldl (fun b k => b.refreshCharges k)
      ((n :: (b.portTxs n).flatMap (·.ports)).dedup.foldl (Block.cutAt n) (b.cutFrames n cause)) := rfl

theorem Block.cuts_cutFrames (b : Block) (n cause : Nat) : b.cuts (b.cutFrames n cause) := by
  unfold Block.cutFrames
  refine (Block.cuts.foldl ?_ _ _ (Block.cuts_cutTx cause)).cutDrivesOf n cause
  exact b.cuts_refl.of_eq rfl rfl rfl

theorem Block.cuts_cutPort (b : Block) (n cause : Nat) : b.cuts (b.cutPort n cause) := by
  rw [Block.cutPort_eq]
  exact ((b.cuts_cutFrames n cause).foldl _ _ (Block.cuts_cutAt n)).foldl _ _ fun d k => d.cuts_refl.refreshCharges k

theorem Block.cutPort_switches (b : Block) (n cause : Nat) : ((b.cutPort n cause).port n).switches = false := by
  rw [Block.cutPort_eq]
  refine Block.cuts.opens (Block.cuts_refl _ |>.foldl _ _ fun d k => d.cuts_refl.refreshCharges k) n ?_
  exact Block.foldl_opens _ n (Block.cuts_cutAt n) (Block.cutAt_self_switches n) _
    (List.mem_dedup.mpr List.mem_cons_self) _

/-! ### A bank off -/

/-- The bank's ports closed. -/
def Block.cutBank (b : Block) (bank : Nat) : Block := (bankPorts bank).foldl (fun b n => b.cutPort n 0) b

theorem Block.cuts_cutBank (b : Block) (bank : Nat) : b.cuts (b.cutBank bank) :=
  b.cuts_refl.foldl _ _ fun d n => d.cuts_cutPort n 0

theorem Block.cutBank_switches (b : Block) (bank n : Nat) (hn : n ∈ bankPorts bank) :
    ((b.cutBank bank).port n).switches = false :=
  Block.foldl_opens _ n (fun d m => d.cuts_cutPort m 0) (fun d => d.cutPort_switches n 0) _ hn b

theorem Block.cuts.refreshPorts {b c : Block} (h : b.cuts c) : b.cuts c.refreshPorts where
  dev := (Block.refreshPorts_dev c).trans h.dev
  banks k := (Block.rd_refreshPorts c _ fun n => by simp only [Reg.LP_BANK_STAT, Reg.LP_STATUS]; omega).trans (h.banks k)
  vdda5 := (congrArg PortsSt.vdda5Low (Block.refreshPorts_ports c)).trans h.vdda5
  opens n hn := by
    unfold Block.port
    rw [Block.refreshPorts_ports]
    exact h.opens n hn

theorem Block.cuts.refreshLoops {b c : Block} (h : b.cuts c) : b.cuts c.refreshLoops where
  dev := (Block.refreshLoops_dev c).trans h.dev
  banks k := (Block.rd_refreshLoops c _ (fun n => by simp only [Reg.LP_BANK_STAT, Reg.SS_LOOP_STAT]; omega)
    (fun n => by simp only [Reg.LP_BANK_STAT, Reg.SS_LOOP_FLAGS]; omega)).trans (h.banks k)
  vdda5 := (congrArg PortsSt.vdda5Low (Block.refreshLoops_ports c)).trans h.vdda5
  opens n hn := by
    unfold Block.port
    rw [Block.refreshLoops_ports]
    exact h.opens n hn

/-- A field of a bank's register after a cut. -/
theorem Block.cuts.get {b c : Block} (h : b.cuts c) (f : Field) (k : Nat) (hf : f.off = Reg.LP_BANK_STAT k) :
    c.get f = b.get f := Block.get_of_rd (by rw [hf]; exact h.banks k)

/-- A bank's OFF and OFF_SEEN set. -/
def Block.bankMarked (b : Block) (bank : Nat) : Block :=
  b.setAll [(Reg.LP_BANK_STAT_OFF bank, 1), (Reg.LP_BANK_STAT_OFF_SEEN bank, 1)]

theorem Block.bankOff_of_on {b : Block} {bank : Nat} (h : b.on (Reg.LP_BANK_STAT_OFF bank) = true) : b.bankOff bank = b :=
  if_pos h

/-- A bank that goes off: its marks, then cuts. -/
theorem Block.bankOff_cuts {b : Block} {bank : Nat} (h : b.on (Reg.LP_BANK_STAT_OFF bank) = false) :
    (b.bankMarked bank).cuts (b.bankOff bank) := by
  unfold Block.bankOff
  rw [if_neg (by rw [h]; exact Bool.false_ne_true)]
  dsimp only
  exact (((b.bankMarked bank).cuts_cutBank bank).refreshPorts).post _ _ _ _

theorem Block.bankOff_switches {b : Block} {bank : Nat} (h : b.on (Reg.LP_BANK_STAT_OFF bank) = false) (n : Nat)
    (hn : n ∈ bankPorts bank) : ((b.bankOff bank).port n).switches = false := by
  unfold Block.bankOff
  rw [if_neg (by rw [h]; exact Bool.false_ne_true)]
  dsimp only
  exact ((Block.cuts_refl _).refreshPorts.post _ _ _ _).opens n ((b.bankMarked bank).cutBank_switches bank n hn)

/-! ### The fields of a bank -/

theorem Block.on_of_get_one {b : Block} {f : Field} (h : b.get f = 1) : b.on f = true := by
  unfold Block.on
  rw [h]
  rfl

theorem Block.on_congr {b c : Block} {f : Field} (h : c.get f = b.get f) : c.on f = b.on f := by
  unfold Block.on
  rw [h]

theorem Block.bankMarked_get (b : Block) (bank : Nat) (f : Field) (h1 : (Reg.LP_BANK_STAT_OFF bank).apart f)
    (h2 : (Reg.LP_BANK_STAT_OFF_SEEN bank).apart f) : (b.bankMarked bank).get f = b.get f := by
  unfold Block.bankMarked Block.setAll
  dsimp only [List.foldl]
  rw [Block.get_set_apart _ _ _ _ (by simp [Field.fits]) h2, Block.get_set_apart _ _ _ _ (by simp [Field.fits]) h1]

theorem Block.bankMarked_off (b : Block) (bank : Nat) : (b.bankMarked bank).on (Reg.LP_BANK_STAT_OFF bank) = true := by
  refine Block.on_of_get_one ?_
  unfold Block.bankMarked Block.setAll
  dsimp only [List.foldl]
  rw [Block.get_set_apart _ (Reg.LP_BANK_STAT_OFF_SEEN bank) (Reg.LP_BANK_STAT_OFF bank) 1 (by simp [Field.fits])
    (by simp [Field.apart]), Block.get_set_same _ _ _ (by simp [Field.fits])]
  rfl

theorem Block.bankMarked_seen (b : Block) (bank : Nat) :
    (b.bankMarked bank).on (Reg.LP_BANK_STAT_OFF_SEEN bank) = true := by
  refine Block.on_of_get_one ?_
  unfold Block.bankMarked Block.setAll
  dsimp only [List.foldl]
  rw [Block.get_set_same _ (Reg.LP_BANK_STAT_OFF_SEEN bank) 1 (by simp [Field.fits])]
  rfl

theorem Block.bankOff_off (b : Block) (bank : Nat) : (b.bankOff bank).on (Reg.LP_BANK_STAT_OFF bank) = true := by
  by_cases h : b.on (Reg.LP_BANK_STAT_OFF bank) = true
  · rw [Block.bankOff_of_on h]
    exact h
  · rw [Block.on_congr ((Block.bankOff_cuts (Bool.eq_false_iff.mpr h)).get _ bank rfl)]
    exact b.bankMarked_off bank

theorem Block.bankOff_seen {b : Block} {bank : Nat} (h : b.on (Reg.LP_BANK_STAT_OFF bank) = false) :
    (b.bankOff bank).on (Reg.LP_BANK_STAT_OFF_SEEN bank) = true := by
  rw [Block.on_congr ((Block.bankOff_cuts h).get _ bank rfl)]
  exact b.bankMarked_seen bank

/-- A bank's field that is neither OFF nor OFF_SEEN of the bank that goes off. -/
theorem Block.bankOff_get (b : Block) (bank k : Nat) (f : Field) (hf : f.off = Reg.LP_BANK_STAT k)
    (h1 : (Reg.LP_BANK_STAT_OFF bank).apart f) (h2 : (Reg.LP_BANK_STAT_OFF_SEEN bank).apart f) :
    (b.bankOff bank).get f = b.get f := by
  by_cases h : b.on (Reg.LP_BANK_STAT_OFF bank) = true
  · rw [Block.bankOff_of_on h]
  · rw [(Block.bankOff_cuts (Bool.eq_false_iff.mpr h)).get f k hf, b.bankMarked_get bank f h1 h2]

/-- A bank that is off stays so when another one goes off. -/
theorem Block.bankOff_off_of_off {b : Block} {bank k : Nat} (h : b.on (Reg.LP_BANK_STAT_OFF k) = true) :
    (b.bankOff bank).on (Reg.LP_BANK_STAT_OFF k) = true := by
  by_cases hk : k = bank
  · subst hk
    exact b.bankOff_off k
  · have hoff : Reg.LP_BANK_STAT bank ≠ Reg.LP_BANK_STAT k := by simp only [Reg.LP_BANK_STAT]; omega
    rw [Block.on_congr (b.bankOff_get bank k (Reg.LP_BANK_STAT_OFF k) rfl (Or.inl hoff) (Or.inl hoff))]
    exact h

theorem Block.bankOff_dev_vdda5 (b : Block) (bank : Nat) :
    (b.bankOff bank).dev = b.dev ∧ (b.bankOff bank).ports.vdda5Low = b.ports.vdda5Low := by
  by_cases h : b.on (Reg.LP_BANK_STAT_OFF bank) = true
  · rw [Block.bankOff_of_on h]
    exact ⟨rfl, rfl⟩
  · have hc := Block.bankOff_cuts (Bool.eq_false_iff.mpr h)
    exact ⟨hc.dev.trans (Block.setAll_dev _ _), hc.vdda5.trans (congrArg PortsSt.vdda5Low (Block.setAll_ports _ _))⟩

/-- Several banks off: each of them is, and no bank comes on. -/
theorem Block.banksOff_off (l : List Nat) (b : Block) (k : Nat) (h : k ∈ l ∨ b.on (Reg.LP_BANK_STAT_OFF k) = true) :
    (l.foldl (fun b k => b.bankOff k) b).on (Reg.LP_BANK_STAT_OFF k) = true := by
  induction l generalizing b with
  | nil => exact h.resolve_left List.not_mem_nil
  | cons x l ih =>
    refine ih (b.bankOff x) ?_
    rcases h with h | h
    · rcases List.mem_cons.mp h with rfl | h
      · exact Or.inr (b.bankOff_off k)
      · exact Or.inl h
    · exact Or.inr (Block.bankOff_off_of_off h)

theorem Block.banksOff_dev_vdda5 (l : List Nat) (b : Block) :
    (l.foldl (fun b k => b.bankOff k) b).dev = b.dev ∧
      (l.foldl (fun b k => b.bankOff k) b).ports.vdda5Low = b.ports.vdda5Low := by
  induction l generalizing b with
  | nil => exact ⟨rfl, rfl⟩
  | cons x l ih => exact ⟨(ih _).1.trans (b.bankOff_dev_vdda5 x).1, (ih _).2.trans (b.bankOff_dev_vdda5 x).2⟩

/-! ### Behind the output stages -/

theorem Block.gated_bank (b : Block) (f : Field) (k : Nat) (hf : f.off = Reg.LP_BANK_STAT k) : b.gated.get f = b.get f :=
  Block.get_of_rd (b.gated_rd_other _ (by rw [hf]; simp only [Reg.LP_BANK_STAT, Reg.SP_STAT]; omega))

theorem Block.gated_bank_on (b : Block) (f : Field) (k : Nat) (hf : f.off = Reg.LP_BANK_STAT k) : b.gated.on f = b.on f :=
  Block.on_congr (b.gated_bank f k hf)

theorem Block.gated_switches {b : Block} {n : Nat} (h : (b.port n).switches = false) : (b.gated.port n).switches = false := by
  by_cases hd : b.dev = .service
  · rw [Block.gated_service b hd]
    exact h
  · exact (b.gated_lineReleased hd).2.2 n

theorem Block.gated_vdda5Low (b : Block) : b.gated.ports.vdda5Low = b.ports.vdda5Low := by
  have hline : (if b.dev = .service then b else b.releaseLine).ports.vdda5Low = b.ports.vdda5Low := by split <;> rfl
  have hrings : ∀ c : Block, (if c.dev.joins then c else c.shortRings).ports = c.ports := fun c => by split <;> rfl
  have hmute : ∀ c : Block, (if c.dev.silent then c.muteOutputs else c).ports = c.ports := fun c => by
    split
    · exact Block.muteOutputs_ports c
    · rfl
  exact (congrArg PortsSt.vdda5Low ((hmute _).trans (hrings _))).trans hline

/-! ### A measurement -/

/-- The instant since which a bank is within the limits of R145. -/
def Block.setBankOk (b : Block) (bank : Nat) (ok : Option Nat) : Block :=
  { b with ports := { b.ports with bankOk := Store.put (fun _ => none) b.ports.bankOk bank ok } }

/-- The measurement in the bank's register. -/
def Block.measured (b : Block) (bank vld temp : Nat) : Block :=
  b.setAll [(Reg.LP_BANK_STAT_VLD bank, vld), (Reg.LP_BANK_STAT_TEMP bank, temp)]

/-- What a measurement shows before the bank goes off. -/
def Block.bankShown (b : Block) (bank vld temp : Nat) (ok : Option Nat) : Block :=
  (bankPorts bank).foldl (fun b n => b.refreshMinAtten n) ((b.measured bank vld temp).setBankOk bank ok)

theorem Block.bankMeasure_eq (b : Block) (bank vld temp : Nat) : ∃ ok, b.bankMeasure bank vld temp =
    if bankBad vld (signedOf 8 temp) then (b.bankShown bank vld temp ok).bankOff bank else b.bankShown bank vld temp ok :=
  ⟨_, rfl⟩

theorem Block.cuts_refreshMinAtten (b : Block) (n : Nat) : b.cuts (b.refreshMinAtten n) := by
  unfold Block.refreshMinAtten
  dsimp only
  split
  · exact Block.cuts.set (b.cuts_refl.of_eq (c' := b.draw) rfl rfl rfl) (Reg.LP_TX_LEVEL_MIN_ATTEN n) _ fun k => by
      simp only [Reg.LP_BANK_STAT, Reg.LP_TX_LEVEL]; omega
  · exact b.cuts_refl.set (Reg.LP_TX_LEVEL_MIN_ATTEN n) _ fun k => by
      simp only [Reg.LP_BANK_STAT, Reg.LP_TX_LEVEL]; omega

theorem Block.cuts_setBankOk (b : Block) (bank : Nat) (ok : Option Nat) : b.cuts (b.setBankOk bank ok) :=
  ⟨rfl, fun _ => rfl, rfl, fun _ h => h⟩

/-- A field of a bank once its measurement is shown. -/
theorem Block.bankShown_get (b : Block) (bank vld temp k : Nat) (ok : Option Nat) (f : Field)
    (hf : f.off = Reg.LP_BANK_STAT k) : (b.bankShown bank vld temp ok).get f = (b.measured bank vld temp).get f := by
  unfold Block.bankShown
  exact ((((b.measured bank vld temp).cuts_setBankOk bank ok).foldl _ _ Block.cuts_refreshMinAtten).get f k hf)

theorem Block.measured_off (b : Block) (bank vld temp : Nat) :
    (b.measured bank vld temp).get (Reg.LP_BANK_STAT_OFF bank) = b.get (Reg.LP_BANK_STAT_OFF bank) := by
  unfold Block.measured Block.setAll
  dsimp only [List.foldl]
  rw [Block.get_set_apart _ _ _ _ (by simp [Field.fits]) (by simp [Field.apart]),
    Block.get_set_apart _ _ _ _ (by simp [Field.fits]) (by simp [Field.apart])]

theorem Block.measured_vld (b : Block) (bank vld temp : Nat) :
    (b.measured bank vld temp).get (Reg.LP_BANK_STAT_VLD bank) = vld % 2 ^ 12 := by
  unfold Block.measured Block.setAll
  dsimp only [List.foldl]
  rw [Block.get_set_apart _ (Reg.LP_BANK_STAT_TEMP bank) (Reg.LP_BANK_STAT_VLD bank) temp (by simp [Field.fits])
    (by simp [Field.apart]), Block.get_set_same _ _ _ (by simp [Field.fits])]

theorem Block.measured_temp (b : Block) (bank vld temp : Nat) :
    (b.measured bank vld temp).get (Reg.LP_BANK_STAT_TEMP bank) = temp % 2 ^ 8 := by
  unfold Block.measured Block.setAll
  dsimp only [List.foldl]
  rw [Block.get_set_same _ (Reg.LP_BANK_STAT_TEMP bank) temp (by simp [Field.fits])]

theorem signedOf_toNat (temp : BitVec 8) : signedOf 8 temp.toNat = temp.toInt := by
  rw [BitVec.toInt_eq_toNat_cond]
  unfold signedOf
  have := temp.isLt
  split <;> split <;> omega

theorem bankBad_iff (vld : Nat) (t : Int) : bankBad vld t = true ↔ vld < 1150 ∨ 2650 < vld ∨ 135 < t := by
  unfold bankBad
  simp [or_assoc]

/-- A measurement: what is shown, and whether the bank goes off. -/
theorem completes_bankMeasure (s : State) (bank : Fin 4) (vld : BitVec 12) (temp : BitVec 8)
    (hw : s.blk.watches = true) : Completes (.bankMeasure bank vld temp) s fun b =>
      b.get (Reg.LP_BANK_STAT_VLD bank) = vld.toNat ∧ b.get (Reg.LP_BANK_STAT_TEMP bank) = temp.toNat ∧
      (vld.toNat < 1150 ∨ 2650 < vld.toNat ∨ 135 < temp.toInt → b.on (Reg.LP_BANK_STAT_OFF bank) = true ∧
        (s.blk.on (Reg.LP_BANK_STAT_OFF bank) = false → b.on (Reg.LP_BANK_STAT_OFF_SEEN bank) = true ∧
          ∀ n ∈ bankPorts bank, (b.port n).switches = false)) ∧
      (1150 ≤ vld.toNat ∧ vld.toNat ≤ 2650 ∧ temp.toInt ≤ 135 →
        b.on (Reg.LP_BANK_STAT_OFF bank) = s.blk.on (Reg.LP_BANK_STAT_OFF bank)) := by
  refine completes_of_next (b := if s.blk.watches then s.blk.bankMeasure bank vld.toNat temp.toNat else s.blk) rfl ?_
  rw [if_pos hw]
  obtain ⟨ok, heq⟩ := s.blk.bankMeasure_eq bank vld.toNat temp.toNat
  rw [heq, signedOf_toNat]
  have hvld : (s.blk.bankShown bank vld.toNat temp.toNat ok).get (Reg.LP_BANK_STAT_VLD bank) = vld.toNat := by
    rw [Block.bankShown_get _ _ _ _ bank _ _ rfl, Block.measured_vld, Nat.mod_eq_of_lt vld.isLt]
  have htemp : (s.blk.bankShown bank vld.toNat temp.toNat ok).get (Reg.LP_BANK_STAT_TEMP bank) = temp.toNat := by
    rw [Block.bankShown_get _ _ _ _ bank _ _ rfl, Block.measured_temp, Nat.mod_eq_of_lt temp.isLt]
  have hoff : (s.blk.bankShown bank vld.toNat temp.toNat ok).on (Reg.LP_BANK_STAT_OFF bank) =
      s.blk.on (Reg.LP_BANK_STAT_OFF bank) :=
    Block.on_congr ((Block.bankShown_get _ _ _ _ bank _ _ rfl).trans (Block.measured_off _ _ _ _))
  rw [Block.gated_bank _ _ bank rfl, Block.gated_bank _ _ bank rfl, Block.gated_bank_on _ _ bank rfl,
    Block.gated_bank_on _ _ bank rfl]
  cases hbad : bankBad vld.toNat temp.toInt
  case true =>
    rw [if_pos rfl, Block.bankOff_get _ _ bank (Reg.LP_BANK_STAT_VLD bank) rfl (by simp [Field.apart]) (by simp [Field.apart]),
      Block.bankOff_get _ _ bank (Reg.LP_BANK_STAT_TEMP bank) rfl (by simp [Field.apart]) (by simp [Field.apart])]
    refine ⟨hvld, htemp, fun _ => ⟨Block.bankOff_off _ _, fun h => ⟨Block.bankOff_seen (hoff.trans h), fun n hn => ?_⟩⟩,
      fun h => ?_⟩
    · exact Block.gated_switches (Block.bankOff_switches (hoff.trans h) n hn)
    · have := (bankBad_iff _ _).mp hbad
      omega
  case false =>
    rw [if_neg Bool.false_ne_true]
    refine ⟨hvld, htemp, fun h => ?_, fun _ => hoff⟩
    rw [(bankBad_iff _ _).mpr h] at hbad
    exact absurd hbad (by decide)

/-! ### A bank on, and the faults of the rails -/

theorem completes_bankOn (s : State) (bank : Fin 4) (since : Nat)
    (hok : Store.get (fun _ => none) s.blk.ports.bankOk bank.val = some since)
    (hoff : s.blk.on (Reg.LP_BANK_STAT_OFF bank) = true) (ht : since + 25000000 ≤ s.blk.ticks)
    (hv : s.blk.ports.vdda5Low = false) :
    Completes (.bankOn bank) s fun b => b.on (Reg.LP_BANK_STAT_OFF bank) = false := by
  refine completes_of_next (b := s.blk.bankOn bank) rfl ?_
  rw [Block.gated_bank_on _ _ bank rfl]
  unfold Block.bankOn
  rw [hok]
  dsimp only
  rw [if_pos (by rw [hoff, hv, decide_eq_true ht]; rfl)]
  have hcut := ((Block.cuts_refl (s.blk.set (Reg.LP_BANK_STAT_OFF bank) 0)).refreshPorts.post 0x0407 1 0x41
    [(1, bank.val)]).get (Reg.LP_BANK_STAT_OFF bank) bank rfl
  rw [Block.on_congr hcut]
  unfold Block.on
  rw [Block.get_set_same _ _ _ (by simp [Field.fits])]
  rfl

theorem completes_bankOn_of_none (s : State) (bank : Fin 4)
    (hok : Store.get (fun _ => none) s.blk.ports.bankOk bank.val = (none : Option Nat)) :
    Completes (.bankOn bank) s fun b => s.blk.keepsBut b [Reg.SP_STAT 1] := by
  refine completes_of_next (b := s.blk.bankOn bank) rfl ?_
  unfold Block.bankOn
  rw [hok]
  exact Block.keepsBut_gated_of_regs rfl

theorem completes_railFault (s : State) (bank : Fin 4) (hw : s.blk.watches = true) :
    Completes (.railFault bank) s fun b =>
      b.on (Reg.LP_BANK_STAT_RAIL_FAULT bank) = true ∧ b.on (Reg.LP_BANK_STAT_OFF bank) = true ∧ b.dev = s.blk.dev := by
  refine completes_of_next (b := if !s.blk.watches then s.blk else
    ((((s.blk.set (Reg.LP_BANK_STAT_RAIL_FAULT bank) 1).post 0x0408 3 0x41 [(1, bank.val)]).setBankOk bank none).bankOff
      bank)) rfl ?_
  rw [hw, if_neg (by decide), Block.gated_bank_on _ _ bank rfl, Block.gated_bank_on _ _ bank rfl, Block.gated_dev]
  have hc := (((Block.cuts_refl (s.blk.set (Reg.LP_BANK_STAT_RAIL_FAULT bank) 1)).post 0x0408 3 0x41
    [(1, bank.val)]).trans (Block.cuts_setBankOk _ bank none))
  refine ⟨?_, Block.bankOff_off _ _, ?_⟩
  · rw [Block.on_congr (Block.bankOff_get _ bank bank (Reg.LP_BANK_STAT_RAIL_FAULT bank) rfl (by simp [Field.apart])
      (by simp [Field.apart])), Block.on_congr (hc.get _ bank rfl)]
    exact Block.on_of_get_one ((Block.get_set_same _ _ _ (by simp [Field.fits])).trans rfl)
  · exact (Block.bankOff_dev_vdda5 _ _).1.trans (hc.dev.trans (Block.set_dev _ _ _))

/-- All four banks off. -/
def Block.banksOff (b : Block) : Block := (List.range 4).foldl (fun b k => b.bankOff k) b

theorem completes_vdda5Fault (s : State) (hw : s.blk.watches = true) : Completes .vdda5Fault s fun b =>
    b.ports.vdda5Low = true ∧ (∀ k, k < 4 → b.on (Reg.LP_BANK_STAT_OFF k) = true) ∧ b.dev = s.blk.dev := by
  refine completes_of_next (b := if !s.blk.watches then s.blk else
    (Block.banksOff { s.blk with ports := { s.blk.ports with vdda5Low := true } }).refreshLoops) rfl ?_
  rw [hw, if_neg (by decide), Block.gated_vdda5Low, Block.gated_dev]
  have hc := (Block.cuts_refl (Block.banksOff { s.blk with ports := { s.blk.ports with vdda5Low := true } })).refreshLoops
  refine ⟨?_, fun k hk => ?_, ?_⟩
  · exact hc.vdda5.trans (Block.banksOff_dev_vdda5 _ _).2
  · rw [Block.gated_bank_on _ _ k rfl, Block.on_congr (hc.get _ k rfl)]
    exact Block.banksOff_off _ _ k (Or.inl (List.mem_range.mpr hk))
  · exact hc.dev.trans (Block.banksOff_dev_vdda5 _ _).1

/-- Where nothing is watched, the banks' commands leave the block to the output stages. -/
theorem completes_bank_unwatched (s : State) (bank : Fin 4) (vld : BitVec 12) (temp : BitVec 8)
    (hw : s.blk.watches = false) (c : Instr) (hc : c ∈ [Instr.bankMeasure bank vld temp, .railFault bank, .vdda5Fault]) :
    Completes c s fun b => s.blk.keepsBut b [Reg.SP_STAT 1] := by
  have hidle : s.blk.keepsBut s.blk.gated [Reg.SP_STAT 1] := Block.keepsBut_gated_of_regs rfl
  simp only [List.mem_cons, List.not_mem_nil, or_false] at hc
  rcases hc with rfl | rfl | rfl
  · refine completes_of_next (b := if s.blk.watches then s.blk.bankMeasure bank vld.toNat temp.toNat else s.blk) rfl ?_
    rw [hw]
    exact hidle
  · refine completes_of_next (b := if !s.blk.watches then s.blk else
      ((((s.blk.set (Reg.LP_BANK_STAT_RAIL_FAULT bank) 1).post 0x0408 3 0x41 [(1, bank.val)]).setBankOk bank none).bankOff
        bank)) rfl ?_
    rw [hw]
    exact hidle
  · refine completes_of_next (b := if !s.blk.watches then s.blk else
      (Block.banksOff { s.blk with ports := { s.blk.ports with vdda5Low := true } }).refreshLoops) rfl ?_
    rw [hw]
    exact hidle

/-- Settles O31, by what a measurement, a return and the two faults leave in a bank's register. -/
theorem banksGoOffAndOn : Obligations.BanksGoOffAndOn := fun s bank vld temp =>
  ⟨completes_bankMeasure s bank vld temp, fun since hok hoff ht hv => completes_bankOn s bank since hok hoff ht hv,
    completes_bankOn_of_none s bank, completes_railFault s bank, completes_vdda5Fault s,
    completes_bank_unwatched s bank vld temp⟩

end Sys2Proof.Machine

/-!
The latches of the node table (R7, R292, R326) and reads of a master that may read.
-/

namespace Sys2Proof.Machine

/-! ### Reads of a master that may read -/

theorem Block.not_silent_of_readable {b : Block} {m : Nat} (h : b.readable m) : b.dev.silent = false := by
  obtain ⟨-, -, h | h | h⟩ := h <;> rw [h] <;> rfl

theorem Block.readBy_of_readable {b : Block} {m : Nat} (h : b.readable m) (f : Block → Block) : b.readBy m f = f b := by
  obtain ⟨hreach, hfrozen, hdev⟩ := h
  have hpresent : (decide (m < 16) && !(b.present m && (b.config m).mse)) = false := by
    by_cases hm : m < 16
    · have hr := hreach hm
      unfold Block.reaches at hr
      simp only [Bool.and_eq_true] at hr
      obtain ⟨⟨⟨hp, hc⟩, -⟩, -⟩ := hr
      rw [hp, hc, Bool.and_self, Bool.not_true, Bool.and_false]
    · rw [decide_eq_false hm, Bool.false_and]
  unfold Block.readBy
  rw [hpresent, hfrozen, if_neg Bool.false_ne_true, if_neg Bool.false_ne_true]
  rcases hdev with hd | hd | hd <;> rw [hd]

/-! ### Rows of registers -/

/-- Registers of a row written each with its own word. -/
def Block.wrRow (b : Block) (reg : Nat → Nat) (v : Nat → Word) (n : Nat) : Block :=
  (List.range n).foldl (fun b i => b.wr (reg i) (v i)) b

theorem Block.wrRow_succ (b : Block) (reg : Nat → Nat) (v : Nat → Word) (n : Nat) :
    b.wrRow reg v (n + 1) = (b.wrRow reg v n).wr (reg n) (v n) := by
  unfold Block.wrRow
  rw [List.range_succ, List.foldl_append]
  rfl

theorem Block.wrRow_rd (b : Block) (reg : Nat → Nat) (v : Nat → Word) (hinj : ∀ i j, reg i = reg j → i = j) {n i : Nat}
    (hi : i < n) : (b.wrRow reg v n).rd (reg i) = v i := by
  induction n with
  | zero => exact absurd hi (Nat.not_lt_zero i)
  | succ n ih =>
    rw [Block.wrRow_succ]
    by_cases h : i = n
    · subst h
      exact Block.rd_wr_same _ _ _
    · rw [Block.rd_wr_other _ _ fun e => h (hinj _ _ e)]
      exact ih (by omega)

theorem Block.keepsBut.wrRow {b c : Block} {offs : List Nat} (h : b.keepsBut c offs) (reg : Nat → Nat) (v : Nat → Word) (n : Nat)
    (hmem : ∀ i, i < n → reg i ∈ offs) : b.keepsBut (c.wrRow reg v n) offs := by
  induction n with
  | zero => exact h
  | succ n ih =>
    rw [Block.wrRow_succ]
    exact (ih fun i hi => hmem i (by omega)).wr _ (hmem n (by omega))

theorem Block.wrRow_dev (b : Block) (reg : Nat → Nat) (v : Nat → Word) (n : Nat) : (b.wrRow reg v n).dev = b.dev := by
  induction n with
  | zero => rfl
  | succ n ih => rw [Block.wrRow_succ, Block.wr_dev, ih]

/-! ### The latches -/

/-- Word `i` of the entry of node `x` in the route table. -/
def Block.routeWord (b : Block) (x i : Nat) : Word := BitVec.ofNat 32 (leAt ((b.route x).toBytes (b.node x).pinned) (4 * i) 4)

theorem Block.routeLatch_eq (b : Block) (v : Nat) :
    b.routeLatch v = (b.set Reg.TRV_RT_NODE_INDEX (v % 2 ^ 17)).wrRow Reg.TRV_RT_DATA (b.routeWord (v % 2 ^ 17)) 4 := rfl

theorem Block.routeLatch_dev (b : Block) (v : Nat) : (b.routeLatch v).dev = b.dev := by
  rw [Block.routeLatch_eq, Block.wrRow_dev, Block.set_dev]

theorem Block.routeLatch_index (b : Block) (v : Nat) : (b.routeLatch v).get Reg.TRV_RT_NODE_INDEX = v % 2 ^ 17 := by
  have hkeep := ((b.set Reg.TRV_RT_NODE_INDEX (v % 2 ^ 17)).keepsBut_refl ((List.range 4).map Reg.TRV_RT_DATA)).wrRow
    Reg.TRV_RT_DATA (b.routeWord (v % 2 ^ 17)) 4 fun i hi => List.mem_map_of_mem (List.mem_range.mpr hi)
  rw [Block.routeLatch_eq, hkeep.get (by decide), Block.get_set_same _ _ _ (by decide)]
  exact Nat.mod_mod _ _

theorem Block.routeLatch_data (b : Block) (v : Nat) {i : Nat} (hi : i < 4) :
    (b.routeLatch v).rd (Reg.TRV_RT_DATA i) = b.routeWord (v % 2 ^ 17) i := by
  rw [Block.routeLatch_eq]
  exact Block.wrRow_rd _ _ _ (fun i j h => by simp only [Reg.TRV_RT_DATA] at h; omega) hi

theorem Block.routeLatch_keepsBut (b : Block) (v : Nat) :
    b.keepsBut (b.routeLatch v) (Reg.TRV_RT_NODE :: (List.range 4).map Reg.TRV_RT_DATA) := by
  rw [Block.routeLatch_eq]
  refine Block.keepsBut.wrRow ((b.keepsBut_refl _).set _ List.mem_cons_self) _ _ _ fun i hi => ?_
  exact List.mem_cons_of_mem _ (List.mem_map_of_mem (List.mem_range.mpr hi))

/-- The entry of node `x` in the latch of master `m`. -/
def Block.nodeLatched (b : Block) (x m : Nat) : Block :=
  { b with trv := { b.trv with latches := Store.put (fun _ => []) b.trv.latches m (b.node x).toBytes } }

/-- The answer of a word of the latch of master `m`. -/
def Block.answerLatch (b : Block) (word m : Nat) : Block :=
  b.answerWith (.word (BitVec.ofNat 32 (leAt (Store.get (fun _ => []) b.trv.latches m) (4 * word) 4)))

theorem Block.nodeLatched_latch (b : Block) (x m : Nat) :
    Store.get (fun _ => []) (b.nodeLatched x m).trv.latches m = (b.node x).toBytes := by
  unfold Block.nodeLatched
  dsimp only
  rw [Store.get_put_same]

theorem Block.nodeLatched_regs (b : Block) (x m : Nat) : (b.nodeLatched x m).regs = b.regs := by
  unfold Block.nodeLatched
  dsimp only

theorem Block.nodeLatched_dev (b : Block) (x m : Nat) : (b.nodeLatched x m).dev = b.dev := by
  unfold Block.nodeLatched
  dsimp only

theorem Block.answerLatch_keepsBut (b : Block) (word m : Nat) (h : b.dev.silent = false) :
    b.keepsBut (b.answerLatch word m).gated [] :=
  Block.keepsBut.gated_of_not_silent ((b.keepsBut_refl []).of_regs (c' := b.answerLatch word m) rfl) h

theorem Block.answerLatch_answer (b : Block) (word m : Nat) : (b.answerLatch word m).host.answer =
    .word (BitVec.ofNat 32 (leAt (Store.get (fun _ => []) b.trv.latches m) (4 * word) 4)) := rfl

theorem Block.answerLatch_trv (b : Block) (word m : Nat) : (b.answerLatch word m).trv = b.trv := rfl

theorem Block.nodeRead_first {b : Block} {m : Nat} (h : b.readable m) (x : Nat) :
    b.nodeRead x 0 m = (b.nodeLatched x m).answerLatch 0 m := Block.readBy_of_readable h _

theorem Block.nodeRead_further {b : Block} {m word : Nat} (h : b.readable m) (hword : word ≠ 0) (x : Nat) :
    b.nodeRead x word m = b.answerLatch word m := by
  unfold Block.nodeRead
  rw [Block.readBy_of_readable h]
  dsimp only
  rw [if_neg hword]
  rfl

/-- Settles O47, by the words a latch shows and the bytes a master's latch holds. -/
theorem tableEntriesAreLatched : Obligations.TableEntriesAreLatched := by
  intro s v node word m
  refine ⟨fun hacc => ?_, fun hacc => ?_, fun hread => ?_⟩
  · refine completes_byPf (f := fun b => b.routeLatch v.toNat) rfl hacc ?_
    have hsilent : (s.blk.routeLatch v.toNat).dev.silent = false := by
      rw [Block.routeLatch_dev]
      exact Block.not_silent_of_accepts hacc
    refine ⟨?_, fun i hi => ?_, (s.blk.routeLatch_keepsBut v.toNat).gated_of_not_silent hsilent⟩
    · rw [Block.gated_get_of_not_silent hsilent]
      exact s.blk.routeLatch_index v.toNat
    · rw [Block.gated_rd _ hsilent]
      exact s.blk.routeLatch_data v.toNat hi
  · refine completes_of_next (b := s.blk.byPf fun b => b.routeLatch v.toNat) rfl ?_
    rw [Block.byPf_of_not_accepts hacc]
    exact Block.keepsBut_gated_of_regs rfl
  · have hsilent := Block.not_silent_of_readable hread
    refine ⟨?_, fun hword => ?_⟩
    · refine completes_of_next (b := s.blk.nodeRead node.toNat (0 : Fin 16) m) rfl ?_
      rw [Fin.val_zero, Block.nodeRead_first hread, Block.gated_host, Block.gated_trv, Block.answerLatch_answer,
        Block.answerLatch_trv, Block.nodeLatched_latch]
      exact ⟨rfl, rfl, ((s.blk.keepsBut_refl []).of_regs (Block.nodeLatched_regs _ _ _)).trans
        (Block.answerLatch_keepsBut _ _ _ ((congrArg DevState.silent (Block.nodeLatched_dev _ _ _)).trans hsilent))⟩
    · refine completes_of_next (b := s.blk.nodeRead node.toNat word m) rfl ?_
      rw [Block.nodeRead_further hread fun h => hword (Fin.ext h), Block.gated_host, Block.gated_trv,
        Block.answerLatch_answer, Block.answerLatch_trv]
      exact ⟨rfl, rfl, Block.answerLatch_keepsBut _ _ _ hsilent⟩

end Sys2Proof.Machine

/-!
The node, route and detail tables (R287, R292, R477): what their operations write, one lemma for each, and routes that change at
EFF (R296 to R299, R311).
-/

namespace Sys2Proof.Machine

/-! ### What the operations of the tables leave alone -/

/-- The core of a block without the Chain. -/
def Block.frame (b : Block) : Block := { b.core with chain := .reset }

theorem Block.frame_of_core {b c : Block} (h : c.core = b.core) : c.frame = b.frame :=
  congrArg (fun b : Block => { b with chain := ChainSt.reset }) h

theorem Block.frame_trv (b : Block) : b.frame.trv = b.trv := rfl

theorem Block.frame_brg (b : Block) : b.frame.brg = b.brg := rfl

theorem Block.frame_dev (b : Block) : b.frame.dev = b.dev := rfl

theorem Block.dev_of_frame {b c : Block} (h : c.frame = b.frame) : c.dev = b.dev := by
  rw [← c.frame_dev, h, Block.frame_dev]

/-- A fold whose step keeps a part keeps it. -/
theorem foldl_part {α σ γ : Type} (p : σ → γ) (f : σ → α → σ) (hf : ∀ (acc : σ) (x : α), p (f acc x) = p acc) (l : List α)
    (acc : σ) : p (l.foldl f acc) = p acc := by
  induction l generalizing acc with
  | nil => rfl
  | cons x l ih => exact (ih _).trans (hf acc x)

@[simp] theorem Block.frame_set (b : Block) (f : Field) (v : Nat) : (b.set f v).frame = b.frame := rfl

@[simp] theorem Block.frame_putCell (b : Block) (ringB : Bool) (bytes : List Byte) : (b.putCell ringB bytes).frame = b.frame := by
  unfold Block.putCell
  dsimp only
  generalize (if b.wrapped ringB = true then !ringB else ringB) = out
  split <;> rfl

@[simp] theorem Block.frame_sendCell (b : Block) (kind dst : Nat) (bcast : Bool) (body : List Byte) :
    (b.sendCell kind dst bcast body).frame = b.frame := by
  unfold Block.sendCell
  rw [Block.frame_putCell, Block.frame_putCell]
  rfl

@[simp] theorem Block.frame_sendPiece (b : Block) (what piece index : Nat) (bytes : List Byte) :
    (b.sendPiece what piece index bytes).frame = b.frame := by
  unfold Block.sendPiece
  split
  · rw [Block.frame_sendCell]
    rfl
  · rfl

@[simp] theorem Block.frame_replicate (b : Block) (what index : Nat) (old new : List Byte) :
    (b.replicate what index old new).frame = b.frame := by
  unfold Block.replicate
  split
  · rfl
  · refine foldl_part Block.frame _ (fun c i => ?_) _ b
    split
    · rfl
    · exact c.frame_sendPiece _ _ _ _

@[simp] theorem Block.frame_refreshCounts (b : Block) : b.refreshCounts.frame = b.frame := by
  refine Block.frame_of_core ?_
  unfold Block.refreshCounts
  dsimp only
  rw [foldl_part Block.core _ (fun c t => Block.core_setAll _ c), Block.core_setAll]

/-! ### What they write -/

def TrvSt.putNode (t : TrvSt) (x : Nat) (n : Node) : TrvSt := { t with nodes := Store.put (fun _ => Node.free) t.nodes x n }

def TrvSt.putExt (t : TrvSt) (x : Nat) (e : NodeExt) : TrvSt := { t with ext := Store.put (fun _ => NodeExt.reset) t.ext x e }

def TrvSt.putRoute (t : TrvSt) (x : Nat) (r : Route) : TrvSt := { t with routes := Store.put (fun _ => Route.none) t.routes x r }

/-- A node's entry as written: its sequence number advances (R477). -/
def Block.entryOf (b : Block) (x : Nat) (n : Node) : Node := { n with entrySeq := ((b.node x).entrySeq + 1) % 65536 }

theorem Block.frame_setNode (b : Block) (x : Nat) (n : Node) :
    (b.setNode x n).frame = { b.frame with trv := b.trv.putNode x (b.entryOf x n) } := by
  unfold Block.setNode
  dsimp only
  rw [Block.frame_refreshCounts, Block.frame_replicate]
  rfl

theorem Block.frame_setExt (b : Block) (x : Nat) (e : NodeExt) :
    (b.setExt x e).frame = { b.frame with trv := b.trv.putExt x e } := by
  unfold Block.setExt
  dsimp only
  split
  · rw [Block.frame_replicate]
    rfl
  · rfl

theorem Block.frame_setRoute (b : Block) (x : Nat) (r : Route) :
    (b.setRoute x r).frame = { b.frame with trv := b.trv.putRoute x r } := by
  unfold Block.setRoute
  dsimp only
  rw [Block.frame_replicate]
  rfl

@[simp] theorem Block.setNode_trv (b : Block) (x : Nat) (n : Node) :
    (b.setNode x n).trv = b.trv.putNode x (b.entryOf x n) := by
  rw [← Block.frame_trv, Block.frame_setNode]

@[simp] theorem Block.setExt_trv (b : Block) (x : Nat) (e : NodeExt) : (b.setExt x e).trv = b.trv.putExt x e := by
  rw [← Block.frame_trv, Block.frame_setExt]

@[simp] theorem Block.setRoute_trv (b : Block) (x : Nat) (r : Route) : (b.setRoute x r).trv = b.trv.putRoute x r := by
  rw [← Block.frame_trv, Block.frame_setRoute]

/-! ### Entries after a write -/

theorem Block.node_congr {b c : Block} (h : c.trv.nodes = b.trv.nodes) (y : Nat) : c.node y = b.node y :=
  congrArg (fun t => Store.get (fun _ => Node.free) t y) h

theorem Block.ext_congr {b c : Block} (h : c.trv.ext = b.trv.ext) (y : Nat) : c.ext y = b.ext y :=
  congrArg (fun t => Store.get (fun _ => NodeExt.reset) t y) h

theorem Block.setNode_node (b : Block) (x : Nat) (n : Node) (y : Nat) :
    (b.setNode x n).node y = if y = x then b.entryOf x n else b.node y := by
  unfold Block.node
  rw [Block.setNode_trv]
  exact Store.get_put _ _ _ _ _

@[simp] theorem Block.setNode_ext (b : Block) (x : Nat) (n : Node) (y : Nat) : (b.setNode x n).ext y = b.ext y := by
  refine Block.ext_congr ?_ y
  rw [Block.setNode_trv]
  rfl

@[simp] theorem Block.setExt_node (b : Block) (x : Nat) (e : NodeExt) (y : Nat) : (b.setExt x e).node y = b.node y := by
  refine Block.node_congr ?_ y
  rw [Block.setExt_trv]
  rfl

theorem Block.setExt_ext (b : Block) (x : Nat) (e : NodeExt) (y : Nat) :
    (b.setExt x e).ext y = if y = x then e else b.ext y := by
  unfold Block.ext
  rw [Block.setExt_trv]
  exact Store.get_put _ _ _ _ _

@[simp] theorem Block.setRoute_node (b : Block) (x : Nat) (r : Route) (y : Nat) : (b.setRoute x r).node y = b.node y := by
  refine Block.node_congr ?_ y
  rw [Block.setRoute_trv]
  rfl

@[simp] theorem Block.setRoute_ext (b : Block) (x : Nat) (r : Route) (y : Nat) : (b.setRoute x r).ext y = b.ext y := by
  refine Block.ext_congr ?_ y
  rw [Block.setRoute_trv]
  rfl

@[simp] theorem Block.setExt_brg (b : Block) (x : Nat) (e : NodeExt) : (b.setExt x e).brg = b.brg := by
  rw [← Block.frame_brg, Block.frame_setExt]
  rfl

/-! ### Operations that leave the tables -/

@[simp] theorem Block.offer_trv (b : Block) (o : Offer) : (b.offer o).trv = b.trv := rfl

@[simp] theorem Block.controlTo_trv (b : Block) (x type : Nat) (body : List Byte) : (b.controlTo x type body).trv = b.trv := rfl

/-- The tables of a block with the frames that are owed. -/
def accTrv (acc : Block × List Nat) : TrvSt := acc.1.trv

theorem Block.routeFrame_accTrv (acc : Block × List Nat) (relay : Nat) (body : List Byte) :
    accTrv (Block.routeFrame acc relay body) = accTrv acc := by
  rw [Block.routeFrame.eq_def]
  cases acc.1.indexOf relay with
  | none => rfl
  | some y => exact Block.controlTo_trv _ _ _ _

theorem Block.downAdds_accTrv (acc : Block × List Nat) (hops : List (Nat × Nat)) (dests : List Nat) :
    accTrv (Block.downAdds acc hops dests) = accTrv acc := by
  unfold Block.downAdds
  exact foldl_part accTrv _ (fun acc _ => foldl_part accTrv _ (fun acc _ => Block.routeFrame_accTrv acc _ _) _ acc) hops acc

theorem Block.downDels_accTrv (acc : Block × List Nat) (relays dests : List Nat) :
    accTrv (Block.downDels acc relays dests) = accTrv acc := by
  unfold Block.downDels
  exact foldl_part accTrv _ (fun acc _ => foldl_part accTrv _ (fun acc _ => Block.routeFrame_accTrv acc _ _) _ acc) relays acc

/-! ### A route change announced -/

/-- The frames that announce a change: to the node, and to the relays whose downlinks change, with those that owe an ACK. -/
def Block.changeFrames (b : Block) (x parent alt : Nat) : Block × List Nat :=
  Block.downDels (Block.downAdds (b.controlTo x typeRoute (parentBody parent alt (b.depthOf parent + 1)
      (((b.route x).rver + 1) % 256) (b.superframe + effAhead)), [])
    ((downHops (b.node x).short (b.pathFrom 16 parent)).filter fun h => !(downHops (b.node x).short (b.pathUp x)).contains h)
    ((b.node x).short :: (b.subtree x).map b.shortOf))
    (((downHops (b.node x).short (b.pathUp x)).map (·.1)).filter fun r =>
      !((downHops (b.node x).short (b.pathFrom 16 parent)).map (·.1)).contains r)
    ((b.node x).short :: (b.subtree x).map b.shortOf)

/-- The change announced. -/
def Block.changeOf (b : Block) (x parent alt : Nat) : RouteChange :=
  { parent := parent, alt := alt, depth := b.depthOf parent + 1, rver := ((b.route x).rver + 1) % 256
    eff := b.superframe + effAhead, owed := (b.changeFrames x parent alt).2 }

theorem Block.startChange_eq (b : Block) (x parent alt : Nat) : b.startChange x parent alt =
    (b.changeFrames x parent alt).1.modExt x fun e => { e with change := some (b.changeOf x parent alt), better := none } := rfl

theorem Block.changeFrames_trv (b : Block) (x parent alt : Nat) : (b.changeFrames x parent alt).1.trv = b.trv := by
  unfold Block.changeFrames
  exact (Block.downDels_accTrv _ _ _).trans ((Block.downAdds_accTrv _ _ _).trans (Block.controlTo_trv _ _ _ _))

theorem Block.startChange_trv (b : Block) (x parent alt : Nat) : (b.startChange x parent alt).trv =
    b.trv.putExt x { b.ext x with change := some (b.changeOf x parent alt), better := none } := by
  have hext := Block.ext_congr (congrArg TrvSt.ext (b.changeFrames_trv x parent alt)) x
  rw [Block.startChange_eq, Block.modExt, Block.setExt_trv, Block.changeFrames_trv, hext]

/-- A change announced stands in the node's detail. -/
theorem Block.startChange_change (b : Block) (x parent alt : Nat) :
    ((b.startChange x parent alt).ext x).change = some (b.changeOf x parent alt) := by
  unfold Block.ext
  rw [Block.startChange_trv]
  exact congrArg NodeExt.change (Store.get_put_same _ _ _ _)

/-! ### A node's place: its parent, its alternate and the change announced for it -/

structure Block.keepsPlace (x : Nat) (b c : Block) : Prop where
  parent : (c.node x).parent = (b.node x).parent
  alt : (c.node x).alt = (b.node x).alt
  change : (c.ext x).change = (b.ext x).change

theorem Block.keepsPlace_refl (x : Nat) (b : Block) : Block.keepsPlace x b b := ⟨rfl, rfl, rfl⟩

section
variable {x : Nat} {b c : Block} (h : Block.keepsPlace x b c)
include h

theorem Block.keepsPlace.trans {d : Block} (h' : Block.keepsPlace x c d) : Block.keepsPlace x b d :=
  ⟨h'.parent.trans h.parent, h'.alt.trans h.alt, h'.change.trans h.change⟩

theorem Block.keepsPlace.of_trv {c' : Block} (e : c'.trv = c.trv) : Block.keepsPlace x b c' := by
  have hnode := Block.node_congr (congrArg TrvSt.nodes e) x
  have hext := Block.ext_congr (congrArg TrvSt.ext e) x
  exact ⟨hnode ▸ h.parent, hnode ▸ h.alt, hext ▸ h.change⟩

theorem Block.keepsPlace.of_tables {c' : Block} (hn : c'.trv.nodes = c.trv.nodes) (he : c'.trv.ext = c.trv.ext) :
    Block.keepsPlace x b c' := by
  have hnode := Block.node_congr hn x
  have hext := Block.ext_congr he x
  exact ⟨hnode ▸ h.parent, hnode ▸ h.alt, hext ▸ h.change⟩

theorem Block.keepsPlace.setRoute (y : Nat) (r : Route) : Block.keepsPlace x b (c.setRoute y r) := by
  refine ⟨?_, ?_, ?_⟩
  · rw [Block.setRoute_node]
    exact h.parent
  · rw [Block.setRoute_node]
    exact h.alt
  · rw [Block.setRoute_ext]
    exact h.change

theorem Block.keepsPlace.modNode (y : Nat) (f : Node → Node) (hf : ∀ n, (f n).parent = n.parent ∧ (f n).alt = n.alt) :
    Block.keepsPlace x b (c.modNode y f) := by
  unfold Block.modNode
  by_cases hy : x = y
  · subst hy
    have hnode := Block.setNode_node c x (f (c.node x)) x
    rw [if_pos rfl] at hnode
    refine ⟨?_, ?_, ?_⟩
    · rw [hnode]
      exact (hf _).1.trans h.parent
    · rw [hnode]
      exact (hf _).2.trans h.alt
    · rw [Block.setNode_ext]
      exact h.change
  · have hnode := Block.setNode_node c y (f (c.node y)) x
    rw [if_neg hy] at hnode
    exact ⟨hnode ▸ h.parent, hnode ▸ h.alt, (Block.setNode_ext c y _ x) ▸ h.change⟩

theorem Block.keepsPlace.modExt (y : Nat) (f : NodeExt → NodeExt) (hf : ∀ e, (f e).change = e.change) :
    Block.keepsPlace x b (c.modExt y f) := by
  unfold Block.modExt
  refine ⟨?_, ?_, ?_⟩
  · rw [Block.setExt_node]
    exact h.parent
  · rw [Block.setExt_node]
    exact h.alt
  · rw [Block.setExt_ext]
    split
    · rename_i hy
      subst hy
      exact (hf _).trans h.change
    · exact h.change

theorem Block.keepsPlace.foldl {α : Type} (f : Block → α → Block) (l : List α)
    (hf : ∀ (d : Block) (a : α), Block.keepsPlace x d (f d a)) : Block.keepsPlace x b (l.foldl f c) := by
  induction l generalizing c with
  | nil => exact h
  | cons a l ih => exact ih (h.trans (hf c a))

theorem Block.keepsPlace.set (f : Field) (v : Nat) : Block.keepsPlace x b (c.set f v) := h.of_trv (Block.set_trv _ _ _)

theorem Block.keepsPlace.inc (f : Field) : Block.keepsPlace x b (c.inc f) := h.of_trv (Block.inc_trv _ _)

theorem Block.keepsPlace.post (code sev src : Nat) (args : List (Nat × Nat)) :
    Block.keepsPlace x b (c.post code sev src args) := h.of_trv (Block.post_trv _ _ _ _ _)

theorem Block.keepsPlace.ite {p : Prop} [Decidable p] {d : Block} (h' : Block.keepsPlace x b d) :
    Block.keepsPlace x b (if p then c else d) := by
  split
  · exact h
  · exact h'

end

/-! ### Relays (R296) -/

theorem Block.keepsPlace_assignRelay (x y rc : Nat) (b : Block) : Block.keepsPlace x b (b.assignRelay y rc) :=
  Block.keepsPlace.modExt ((Block.keepsPlace_refl x b).of_trv (Block.controlTo_trv _ _ _ _)) y _ fun _ => rfl

theorem Block.keepsPlace_considerRelay (x y : Nat) (b : Block) : Block.keepsPlace x b (b.considerRelay y) := by
  have hdraw : Block.keepsPlace x b b.draw := (Block.keepsPlace_refl x b).of_trv rfl
  unfold Block.considerRelay
  dsimp only
  split
  · exact Block.keepsPlace_refl x b
  · split
    · split
      · exact hdraw.trans (Block.keepsPlace_assignRelay x y _ _)
      · exact hdraw
    · split
      · exact hdraw
      · cases b.draw.freeSlot (b.draw.triadOf y) with
        | some w => exact hdraw.trans (Block.keepsPlace_assignRelay x y w _)
        | none => exact hdraw.of_trv rfl

/-! ### A change taken up (R297, R299) -/

theorem Block.keepsPlace_freezeTime (x y cause : Nat) (change : Int) (b : Block) :
    Block.keepsPlace x b (b.freezeTime y cause change) := by
  unfold Block.freezeTime Block.refreshFrozen Block.asymSuspect
  dsimp only
  refine Block.keepsPlace.post (Block.keepsPlace.inc (Block.keepsPlace.set ?_ _ _) _) _ _ _ _
  exact (Block.keepsPlace_refl x b).modExt y _ fun _ => rfl

theorem Block.keepsPlace_routeFreeze (x y : Nat) (b : Block) : Block.keepsPlace x b (b.routeFreeze y) := by
  unfold Block.routeFreeze
  split
  · exact Block.keepsPlace_freezeTime x y 1 0 b
  · exact Block.keepsPlace_refl x b

theorem Block.keepsPlace_refreshRoutes (x y : Nat) (b : Block) : Block.keepsPlace x b (b.refreshRoutes y) := by
  unfold Block.refreshRoutes
  refine (Block.keepsPlace_refl x b).foldl _ _ fun d z => ?_
  unfold Block.refreshRoute
  dsimp only
  exact (Block.keepsPlace_refl x d).ite ((Block.keepsPlace_refl x d).setRoute _ _)

theorem Block.keepsPlace_refreshMetrics (x y : Nat) (b : Block) : Block.keepsPlace x b (b.refreshMetrics y) := by
  unfold Block.refreshMetrics
  refine (Block.keepsPlace_refl x b).foldl _ _ fun d z => ?_
  dsimp only
  refine (Block.keepsPlace_refl x d).ite (Block.keepsPlace.setRoute ?_ _ _)
  exact (Block.keepsPlace_refl x d).modNode z _ fun _ => ⟨rfl, rfl⟩

/-- The node has the parent and the alternate of the change, and none is announced any more. -/
def Block.placedBy (x : Nat) (c : RouteChange) (b : Block) : Prop :=
  (b.node x).parent = c.parent ∧ (b.node x).alt = c.alt ∧ (b.ext x).change = none

theorem Block.keepsPlace.placedBy {x : Nat} {c : RouteChange} {b b' : Block} (h : Block.keepsPlace x b b')
    (hb : Block.placedBy x c b) : Block.placedBy x c b' := by
  obtain ⟨hparent, halt, hchange⟩ := hb
  exact ⟨h.parent.trans hparent, h.alt.trans halt, h.change.trans hchange⟩

/-- A change taken up: only its first two writes concern the node's own place. -/
theorem Block.applyChange_placedBy (b : Block) (x : Nat) (c : RouteChange) : Block.placedBy x c (b.applyChange x c) := by
  unfold Block.applyChange
  extract_lets n moved ends link b1 b2 b3 b4 r b5 b6 b7 sound b8 note trv
  have h1 : (b1.ext x).change = none := by
    simp only [b1, Block.modExt]
    rw [Block.setExt_ext, if_pos rfl]
  clear_value b1
  have h2 : (b2.ext x).change = none := by
    have hends : Block.keepsPlace x b1 (b1.modExt x fun e => { e with rdv := none, supvFrom := b1.superframe }) :=
      (Block.keepsPlace_refl x b1).modExt x _ fun _ => rfl
    exact (hends.ite (Block.keepsPlace_refl x b1)).change.trans h1
  clear_value b2
  have h3 : Block.placedBy x c b3 := by
    simp only [b3, Block.modNode]
    refine ⟨?_, ?_, ?_⟩
    · rw [Block.setNode_node, if_pos rfl]
      rfl
    · rw [Block.setNode_node, if_pos rfl]
      rfl
    · rw [Block.setNode_ext]
      exact h2
  clear_value b3
  have h4 : Block.keepsPlace x b3 b4 :=
    (Block.keepsPlace_refl x b3).foldl _ _ fun d y => (Block.keepsPlace_refl x d).modNode y _ fun _ => ⟨rfl, rfl⟩
  clear_value b4
  have h5 : Block.keepsPlace x b3 b5 := h4.setRoute x _
  clear_value b5
  have h6 : Block.keepsPlace x b3 b6 :=
    Block.keepsPlace.ite (h5.foldl _ _ fun d y => (Block.keepsPlace_refl x d).setRoute y _) h5
  clear_value b6
  have h7 : Block.keepsPlace x b3 b7 := ((h6.trans (Block.keepsPlace_refreshMetrics x x b6)).trans
    (Block.keepsPlace_refreshRoutes x x _)).inc Reg.TRV_ROUTE_CHG_COUNT |>.trans (Block.keepsPlace_routeFreeze x x _)
  clear_value b7
  have h8 : Block.keepsPlace x b3 b8 := h7.of_trv rfl
  clear_value b8
  refine Block.keepsPlace.placedBy (Block.keepsPlace.ite ?_ h8) h3
  exact h8.of_tables rfl rfl

/-! ### The three commands of the routes -/

theorem Block.evaluateRoute_of_away {b : Block} (h : b.home = false) (x : Nat) : b.evaluateRoute x = b := by
  rw [Block.evaluateRoute.eq_def, h]
  rfl

theorem Block.considerRelay_of_away {b : Block} (h : b.home = false) (x : Nat) : b.considerRelay x = b := by
  unfold Block.considerRelay
  rw [h]
  exact if_pos rfl

/-- The third evaluation in a row, of another superframe, that finds the same better parent announces it. -/
theorem Block.evaluateRoute_change {b : Block} {x best sf : Nat} (hhome : b.home = true) (hstate : (b.node x).state = 2)
    (hpin : (b.node x).pinned = false) (hnone : (b.ext x).change = none) (hen : b.on Reg.TRV_CTRL_ROUTE_EN = true)
    (hparent : b.indexOf (b.node x).parent = none) (hbest : b.bestOf x (b.candidates x) = some best)
    (hne : best ≠ (b.node x).parent)
    (hlow : b.metricBy x best * 100 ≤ b.metricBy x (b.node x).parent * (100 - b.get Reg.TRV_ROUTE_CTRL_HYST))
    (hbetter : (b.ext x).better = some (best, 2, sf)) (hsf : sf ≠ b.superframe) :
    ∃ c, ((b.evaluateRoute x).ext x).change = some c ∧ c.parent = best ∧ b.superframe + 2 ≤ c.eff := by
  rw [Block.evaluateRoute.eq_def]
  extract_lets n e suspicious cs best' present low run parent b1 alt
  have hsus : suspicious = false := by
    simp only [suspicious, n]
    rw [hparent]
  have hcs : cs = b.candidates x := by
    simp only [cs]
    rw [hsus]
    simp
  have hbest' : best' = best := by
    simp only [best']
    rw [hcs, hbest]
    rfl
  have hlow' : low = true := by
    simp only [low, present, n]
    rw [hbest']
    simp [hne, hlow]
  have hrun : run = 3 := by
    simp only [run, e]
    rw [hbetter, hbest']
    simp [hsf]
  have hpar : parent = best := by
    simp only [parent, n]
    rw [hpin, hsus, hlow', hrun, hbest']
    simp
  have hsuper : b1.superframe = b.superframe := by
    simp only [b1, Block.modExt, Block.superframe]
    rw [Block.setExt_brg]
  rw [if_neg (by simp [hhome, n, hstate, e, hnone, hen]), if_pos (Or.inl (by rw [hpar]; exact hne))]
  clear_value b1 alt
  refine ⟨b1.changeOf x parent alt, b1.startChange_change x parent alt, hpar, ?_⟩
  rw [← hsuper]
  exact Nat.add_le_add_left (show 2 ≤ 4 by decide) _

theorem Block.endRepair_repairs (b : Block) (r : Repair) : ∀ q ∈ (b.endRepair r).trv.repairs, q.relay ≠ r.relay := by
  rw [Block.endRepair.eq_def]
  extract_lets short lost b1 trv b2
  rw [Block.post_trv]
  intro q hq
  exact bne_iff_ne.mp (List.mem_filter.mp hq).2

theorem completes_routeChangeEff {s : State} {node : NodeIx} {c : RouteChange} {P : Block → Prop}
    (hc : (s.blk.ext node.toNat).change = some c) (hhome : s.blk.home = true) (heff : c.eff ≤ s.blk.superframe)
    (hP : P (if c.owed.isEmpty then s.blk.applyChange node.toNat c else s.blk.cancelChange node.toNat).gated) :
    Completes (.routeChangeEff node) s P := by
  refine completes_of_next (b := s.blk.changeDue node.toNat) rfl ?_
  have hdue : (!s.blk.home || decide (s.blk.superframe < c.eff)) = false := by
    rw [hhome, decide_eq_false (Nat.not_lt.mpr heff)]
    rfl
  rw [Block.changeDue.eq_def, hc]
  dsimp only
  rwa [hdue]

theorem completes_repairDeadline {s : State} {node : NodeIx} {r : Repair} {P : Block → Prop}
    (hr : s.blk.trv.repairs.find? (fun q => q.relay == node.toNat) = some r)
    (hP : P (if !s.blk.home || s.blk.superframe < r.since + s.blk.get Reg.TRV_REPAIR_REPAIR_SF then s.blk
      else s.blk.endRepair r).gated) : Completes (.repairDeadline node) s P := by
  refine completes_of_next (b := match s.blk.trv.repairs.find? fun r => r.relay == node.toNat with
    | some r => if !s.blk.home || s.blk.superframe < r.since + s.blk.get Reg.TRV_REPAIR_REPAIR_SF then s.blk
      else s.blk.endRepair r
    | none => s.blk) rfl ?_
  rwa [hr]

theorem Block.cancelChange_node (b : Block) (x y : Nat) : (b.cancelChange x).node y = b.node y := by
  rw [Block.cancelChange.eq_def]
  dsimp only
  rw [Block.node_congr (congrArg TrvSt.nodes (Block.controlTo_trv _ _ _ _)), Block.modExt, Block.setExt_node]

theorem Block.cancelChange_change (b : Block) (x : Nat) : ((b.cancelChange x).ext x).change = none := by
  rw [Block.cancelChange.eq_def]
  dsimp only
  rw [Block.ext_congr (congrArg TrvSt.ext (Block.controlTo_trv _ _ _ _)), Block.modExt, Block.setExt_ext, if_pos rfl]

theorem Block.gated_node (b : Block) (x : Nat) : b.gated.node x = b.node x :=
  Block.node_congr (congrArg TrvSt.nodes b.gated_trv) x

theorem Block.gated_ext (b : Block) (x : Nat) : b.gated.ext x = b.ext x :=
  Block.ext_congr (congrArg TrvSt.ext b.gated_trv) x

/-- Settles O45: the third evaluation announces, EFF takes up or cancels, the deadline ends a repair. -/
theorem routesChangeAtEff : Obligations.RoutesChangeAtEff := by
  intro s node
  refine ⟨?_, fun hhome => ?_, fun c hc hhome heff => ⟨fun howed => ?_, fun howed => ?_⟩, fun c hc heff => ?_,
    fun r hr hhome => ⟨fun hlate => ?_, fun hearly => ?_⟩⟩
  · intro best sf hhome hstate hpin hnone hen hparent hbest hne hlow hbetter hsf
    refine completes_of_next (b := (s.blk.evaluateRoute node.toNat).considerRelay node.toNat) rfl ?_
    rw [Block.gated_ext, (Block.keepsPlace_considerRelay _ _ _).change]
    exact Block.evaluateRoute_change hhome hstate hpin hnone hen hparent hbest hne hlow hbetter hsf
  · refine completes_of_next (b := (s.blk.evaluateRoute node.toNat).considerRelay node.toNat) rfl ?_
    rw [Block.evaluateRoute_of_away hhome, Block.considerRelay_of_away hhome]
    exact s.blk.gated_trv
  · refine completes_routeChangeEff hc hhome heff ?_
    rw [howed, Block.gated_node, Block.gated_ext]
    exact s.blk.applyChange_placedBy node.toNat c
  · refine completes_routeChangeEff hc hhome heff ?_
    rw [if_neg (by simpa using howed), Block.gated_node, Block.gated_ext]
    exact ⟨s.blk.cancelChange_node _ _, s.blk.cancelChange_change _⟩
  · refine completes_of_next (b := s.blk.changeDue node.toNat) rfl ?_
    have hdue : s.blk.changeDue node.toNat = s.blk := by
      rw [Block.changeDue.eq_def, hc]
      dsimp only
      rw [decide_eq_true heff, Bool.or_true]
      rfl
    rw [hdue]
    exact ⟨s.blk.gated_trv, Block.keepsBut_gated_of_regs rfl⟩
  · refine completes_repairDeadline hr ?_
    rw [hhome, decide_eq_false (Nat.not_lt.mpr hlate), Block.gated_trv]
    have hrelay : r.relay = node.toNat := by simpa using List.find?_some hr
    rw [← hrelay]
    exact s.blk.endRepair_repairs r
  · refine completes_repairDeadline hr ?_
    rw [decide_eq_true hearly, Bool.or_true]
    exact s.blk.gated_trv

end Sys2Proof.Machine

/-!
The commands on a node (R322, R324, R326, R454).
-/

namespace Sys2Proof.Machine

/-! ### Done with a status -/

theorem Block.trvDone_trv (b : Block) (st : Nat) : (b.trvDone st).trv = b.trv := by
  unfold Block.trvDone
  rw [Block.raiseFixed_trv, Block.set_trv]

theorem Block.trvDone_status (b : Block) {st : Nat} (hst : st < 3) :
    (b.trvDone st).gated.get Reg.TRV_CMD_RESULT_STATUS = st := by
  rw [Block.gated_get_other _ _ (by decide)]
  unfold Block.trvDone
  rw [Block.get_of_regs (Block.raiseFixed_regs _ _), Block.get_set_same _ _ _ (by decide)]
  exact Nat.mod_eq_of_lt (Nat.lt_trans hst (by decide))

theorem Block.timeDone_trv (b : Block) (st : Nat) : (b.timeDone st).trv = b.trv := by
  unfold Block.timeDone
  rw [Block.raiseFixed_trv, Block.set_trv]

theorem Block.timeDone_status (b : Block) {st : Nat} (hst : st < 3) :
    (b.timeDone st).gated.get Reg.DTM_TIME_RESULT_STATUS = st := by
  rw [Block.gated_get_other _ _ (by decide)]
  unfold Block.timeDone
  rw [Block.get_of_regs (Block.raiseFixed_regs _ _), Block.get_set_same _ _ _ (by decide)]
  exact Nat.mod_eq_of_lt (Nat.lt_trans hst (by decide))

/-- What a command leaves: the entry and the detail of the block before it was done, and the status. -/
theorem Block.trvDone_after (b : Block) (x st : Nat) (hst : st < 3) :
    (b.trvDone st).gated.node x = b.node x ∧ (b.trvDone st).gated.ext x = b.ext x ∧
      (b.trvDone st).gated.trv = b.trv ∧ (b.trvDone st).gated.get Reg.TRV_CMD_RESULT_STATUS = st := by
  have htrv : (b.trvDone st).gated.trv = b.trv := (Block.gated_trv _).trans (b.trvDone_trv st)
  exact ⟨Block.node_congr (congrArg TrvSt.nodes htrv) x, Block.ext_congr (congrArg TrvSt.ext htrv) x, htrv,
    b.trvDone_status hst⟩

theorem Block.timeDone_after (b : Block) (y st : Nat) (hst : st < 3) :
    (b.timeDone st).gated.ext y = b.ext y ∧ (b.timeDone st).gated.get Reg.DTM_TIME_RESULT_STATUS = st := by
  have htrv : (b.timeDone st).gated.trv = b.trv := (Block.gated_trv _).trans (b.timeDone_trv st)
  exact ⟨Block.ext_congr (congrArg TrvSt.ext htrv) y, b.timeDone_status hst⟩

/-! ### A command that the entry allows, and one on a replica -/

theorem completes_trvCmd {c : Instr} {s : State} {ok : Node → Bool} {f : Nat → Block → Block} {P : Block → Prop}
    (hc : exec c s = .next { s with blk := (s.blk.byPf fun b => b.trvCmd ok f).gated }) (hacc : s.blk.accepts = true)
    (hhome : s.blk.home = true) (hok : ok (s.blk.node (s.blk.get Reg.TRV_CMD_NODE_INDEX)) = true)
    (hP : P (f (s.blk.get Reg.TRV_CMD_NODE_INDEX) s.blk).gated) : Completes c s P := by
  refine completes_byPf hc hacc ?_
  unfold Block.trvCmd
  dsimp only
  rwa [hhome, hok]

theorem completes_trvCmd_away {c : Instr} {s : State} {ok : Node → Bool} {f : Nat → Block → Block}
    (hc : exec c s = .next { s with blk := (s.blk.byPf fun b => b.trvCmd ok f).gated }) (hacc : s.blk.accepts = true)
    (hhome : s.blk.home = false) : Completes c s fun b =>
      b.trv = s.blk.trv ∧ b.get Reg.TRV_CMD_RESULT_STATUS = 1 ∧ s.blk.keepsBut b [Reg.TRV_CMD_RESULT] := by
  refine completes_byPf hc hacc ?_
  unfold Block.trvCmd
  dsimp only
  rw [hhome]
  have hsilent : (s.blk.trvDone stStateReject).dev.silent = false := by
    unfold Block.trvDone
    rw [Block.raiseFixed_dev, Block.set_dev]
    exact Block.not_silent_of_accepts hacc
  obtain ⟨-, -, htrv, hst⟩ := s.blk.trvDone_after 0 stStateReject (by decide)
  refine ⟨htrv, hst, Block.keepsBut.gated_of_not_silent ?_ hsilent⟩
  exact ((s.blk.keepsBut_refl _).set _ List.mem_cons_self).raiseFixed 8

theorem completes_timeCmd {c : Instr} {s : State} {g : Block → Block} {f : TimeRec → TimeRec} {P : Block → Prop}
    (hc : exec c s = .next { s with blk := (s.blk.byPf g).gated }) (hg : g s.blk = s.blk.timeCmd f) (hacc : s.blk.accepts = true)
    (hhome : s.blk.home = true) (hstate : (s.blk.node (s.blk.get Reg.DTM_TIME_NODE_INDEX)).state = 2)
    (hdepth : (s.blk.node (s.blk.get Reg.DTM_TIME_NODE_INDEX)).depth = 1)
    (hP : ∀ b : Block, (b.ext (s.blk.get Reg.DTM_TIME_NODE_INDEX)).time =
      f (s.blk.ext (s.blk.get Reg.DTM_TIME_NODE_INDEX)).time → b.get Reg.DTM_TIME_RESULT_STATUS = 0 → P b) :
    Completes c s P := by
  refine completes_byPf hc hacc ?_
  rw [hg]
  unfold Block.timeCmd
  dsimp only
  rw [hhome, hstate, hdepth]
  obtain ⟨hext, hst⟩ := (s.blk.modExt (s.blk.get Reg.DTM_TIME_NODE_INDEX) fun e => { e with time := f e.time }).timeDone_after
    (s.blk.get Reg.DTM_TIME_NODE_INDEX) stOK (by decide)
  refine hP _ ?_ hst
  refine (congrArg NodeExt.time hext).trans ?_
  unfold Block.modExt
  rw [Block.setExt_ext, if_pos rfl]

theorem completes_timeCmd_away {c : Instr} {s : State} {g : Block → Block} {f : TimeRec → TimeRec}
    (hc : exec c s = .next { s with blk := (s.blk.byPf g).gated }) (hg : g s.blk = s.blk.timeCmd f) (hacc : s.blk.accepts = true)
    (hhome : s.blk.home = false) : Completes c s fun b =>
      b.trv = s.blk.trv ∧ b.get Reg.DTM_TIME_RESULT_STATUS = 1 ∧ s.blk.keepsBut b [Reg.DTM_TIME_RESULT] := by
  refine completes_byPf hc hacc ?_
  rw [hg]
  unfold Block.timeCmd
  dsimp only
  rw [hhome]
  have hsilent : (s.blk.timeDone stStateReject).dev.silent = false := by
    unfold Block.timeDone
    rw [Block.raiseFixed_dev, Block.set_dev]
    exact Block.not_silent_of_accepts hacc
  refine ⟨(Block.gated_trv _).trans (s.blk.timeDone_trv stStateReject),
    s.blk.timeDone_status (st := stStateReject) (by decide),
    Block.keepsBut.gated_of_not_silent ?_ hsilent⟩
  exact ((s.blk.keepsBut_refl _).set _ List.mem_cons_self).raiseFixed 9

/-! ### Freeing and blocking -/

theorem Block.freeNode_node (b : Block) (x : Nat) : ((b.freeNode x).node x).state = 0 := by
  unfold Block.freeNode
  dsimp only
  rw [Block.setRoute_node, Block.setExt_node, Block.setNode_node, if_pos rfl]
  rfl

theorem Block.freeNode_ext (b : Block) (x : Nat) : (b.freeNode x).ext x = .reset := by
  unfold Block.freeNode
  dsimp only
  rw [Block.setRoute_ext, Block.setExt_ext, if_pos rfl]

theorem Block.modNode_node (b : Block) (x : Nat) (f : Node → Node) : (b.modNode x f).node x = b.entryOf x (f (b.node x)) := by
  unfold Block.modNode
  rw [Block.setNode_node, if_pos rfl]

theorem Block.modNode_ext (b : Block) (x : Nat) (f : Node → Node) (y : Nat) : (b.modNode x f).ext y = b.ext y :=
  Block.setNode_ext b x _ y

/-! ### A repair (R311) -/

/-- The entries and the repairs as they were. -/
structure Block.keepsEntries (b c : Block) : Prop where
  nodes : c.trv.nodes = b.trv.nodes
  repairs : c.trv.repairs = b.trv.repairs

theorem Block.keepsEntries_refl (b : Block) : b.keepsEntries b := ⟨rfl, rfl⟩

section
variable {b c : Block} (h : b.keepsEntries c)
include h

theorem Block.keepsEntries.trans {d : Block} (h' : c.keepsEntries d) : b.keepsEntries d :=
  ⟨h'.nodes.trans h.nodes, h'.repairs.trans h.repairs⟩

theorem Block.keepsEntries.of_trv {c' : Block} (e : c'.trv = c.trv) : b.keepsEntries c' :=
  ⟨(congrArg TrvSt.nodes e).trans h.nodes, (congrArg TrvSt.repairs e).trans h.repairs⟩

theorem Block.keepsEntries.setRoute (y : Nat) (r : Route) : b.keepsEntries (c.setRoute y r) := by
  have htrv := c.setRoute_trv y r
  exact ⟨(congrArg TrvSt.nodes htrv).trans h.nodes, (congrArg TrvSt.repairs htrv).trans h.repairs⟩

theorem Block.keepsEntries.modExt (y : Nat) (f : NodeExt → NodeExt) : b.keepsEntries (c.modExt y f) := by
  have htrv := c.setExt_trv y (f (c.ext y))
  exact ⟨(congrArg TrvSt.nodes htrv).trans h.nodes, (congrArg TrvSt.repairs htrv).trans h.repairs⟩

theorem Block.keepsEntries.foldl {α : Type} (f : Block → α → Block) (l : List α)
    (hf : ∀ (d : Block) (a : α), d.keepsEntries (f d a)) : b.keepsEntries (l.foldl f c) := by
  induction l generalizing c with
  | nil => exact h
  | cons a l ih => exact ih (h.trans (hf c a))

end

theorem Block.keepsEntries_routeFreeze (b : Block) (x : Nat) : b.keepsEntries (b.routeFreeze x) := by
  unfold Block.routeFreeze
  split
  · unfold Block.freezeTime Block.refreshFrozen Block.asymSuspect
    dsimp only
    refine Block.keepsEntries.of_trv (Block.keepsEntries.of_trv (Block.keepsEntries.of_trv ?_ (Block.set_trv _ _ _))
      (Block.inc_trv _ _)) (Block.post_trv _ _ _ _ _)
    exact b.keepsEntries_refl.modExt x _
  · exact b.keepsEntries_refl

theorem Block.keepsEntries_useAlternate (b : Block) (c suspect : Nat) : b.keepsEntries (b.useAlternate c suspect) := by
  rw [Block.useAlternate.eq_def]
  extract_lets n r below dests hops needs b1 b2 acc
  split
  · exact b.keepsEntries_refl
  have h1 : b.keepsEntries b1 := (b.keepsEntries_refl.setRoute c _).trans (Block.keepsEntries_routeFreeze _ c)
  clear_value b1
  have h2 : b.keepsEntries b2 := h1.foldl _ _ fun d y => d.keepsEntries_refl.setRoute y _
  clear_value b2
  have h3 : b.keepsEntries acc.1 := h2.of_trv (Block.downAdds_accTrv (b2, []) needs dests)
  clear_value acc
  exact h3.foldl _ _ fun d y => d.keepsEntries_refl.modExt y _

/-- A node that is orphaned stays so while further ones become so. -/
theorem Block.orphans_orphan (l : List Nat) (x : Nat) (b : Block) (h : x ∈ l ∨ (b.node x).orphan = true) :
    ((l.foldl (fun b y => b.modNode y fun m => { m with orphan := true }) b).node x).orphan = true := by
  induction l generalizing b with
  | nil => exact h.resolve_left List.not_mem_nil
  | cons y l ih =>
    refine ih _ ?_
    by_cases hy : x = y
    · subst hy
      refine Or.inr ?_
      rw [Block.modNode_node]
      rfl
    · refine (h.imp (fun h => (List.mem_cons.mp h).resolve_left hy) fun h => ?_)
      unfold Block.modNode
      rw [Block.setNode_node, if_neg hy]
      exact h

theorem Block.orphanSuspect_repairs (b : Block) (x : Nat) (h : (b.node x).orphan = false) :
    ((b.orphanSuspect x).node x).orphan = true ∧ (b.orphanSuspect x).trv.repairs.any (fun q => q.relay == x) = true := by
  rw [Block.orphanSuspect.eq_def]
  extract_lets n below kids b1 b2 trv b3 b4 port
  have hn : n.orphan = false := h
  rw [hn, Bool.false_and, Bool.false_and, if_neg Bool.false_ne_true]
  have h1 : (b1.node x).orphan = true := Block.orphans_orphan _ x b (Or.inl List.mem_cons_self)
  clear_value b1
  have h2 : b2.trv = b1.trv := Block.post_trv _ _ _ _ _
  clear_value b2
  have h3 : (b3.node x).orphan = true ∧ b3.trv.repairs.any (fun q => q.relay == x) = true := by
    refine ⟨?_, ?_⟩
    · have hnode : b3.node x = b1.node x := Block.node_congr (congrArg TrvSt.nodes h2) x
      rw [hnode]
      exact h1
    · simp only [b3, List.any_append, List.any_cons, List.any_nil, beq_self_eq_true, Bool.true_or, Bool.or_true]
  clear_value b3
  have h4 : b3.keepsEntries b4 := b3.keepsEntries_refl.foldl _ _ fun d c => d.keepsEntries_useAlternate c _
  clear_value b4
  have hend : ∀ d : Block, b3.keepsEntries d →
      (d.node x).orphan = true ∧ d.trv.repairs.any (fun q => q.relay == x) = true := fun d hd => by
    rw [Block.node_congr hd.nodes x, hd.repairs]
    exact h3
  split
  · exact hend _ h4
  · exact hend _ (h4.of_trv (Block.offer_trv _ _))

/-! ### Pinning -/

/-- The entry pinned and its route written again. -/
def Block.pinned (b : Block) (x : Nat) : Block :=
  let b := b.modNode x fun n => { n with pinned := true }
  b.setRoute x (b.route x)

theorem Block.pinned_node (b : Block) (x : Nat) :
    ((b.pinned x).node x).pinned = true ∧ ((b.pinned x).node x).parent = (b.node x).parent := by
  unfold Block.pinned
  dsimp only
  rw [Block.setRoute_node, Block.modNode_node]
  exact ⟨rfl, rfl⟩

theorem Block.startChange_node (b : Block) (x parent alt y : Nat) : (b.startChange x parent alt).node y = b.node y := by
  refine Block.node_congr ?_ y
  rw [Block.startChange_trv]
  rfl

theorem Block.pinNode_of_eligible {b : Block} {x : Nat} (h : b.eligible x (b.get Reg.TRV_CMD_ARG_PARENT) = true)
    (hnone : (b.ext x).change = none) : b.pinNode x =
      (if b.get Reg.TRV_CMD_ARG_PARENT = (b.node x).parent then b.pinned x else (b.pinned x).startChange x
        (b.get Reg.TRV_CMD_ARG_PARENT) ((b.pinned x).altFor x (b.get Reg.TRV_CMD_ARG_PARENT))).trvDone stOK := by
  rw [← (b.pinned_node x).2]
  unfold Block.pinNode
  dsimp only
  rw [h, hnone, if_neg (by decide), if_neg (by decide)]
  rfl

/-- An eligible parent: the entry is pinned, and a change to another parent is announced. -/
theorem Block.pinNode_after {b : Block} {x : Nat} (h : b.eligible x (b.get Reg.TRV_CMD_ARG_PARENT) = true)
    (hnone : (b.ext x).change = none) : ((b.pinNode x).gated.node x).pinned = true ∧
      (b.pinNode x).gated.get Reg.TRV_CMD_RESULT_STATUS = 0 ∧
      (b.get Reg.TRV_CMD_ARG_PARENT ≠ (b.node x).parent →
        ∃ c, ((b.pinNode x).gated.ext x).change = some c ∧ c.parent = b.get Reg.TRV_CMD_ARG_PARENT) := by
  rw [Block.pinNode_of_eligible h hnone]
  by_cases he : b.get Reg.TRV_CMD_ARG_PARENT = (b.node x).parent
  · rw [if_pos he]
    obtain ⟨hnode, -, -, hst⟩ := (b.pinned x).trvDone_after x stOK (by decide)
    rw [hnode]
    exact ⟨(b.pinned_node x).1, hst, fun h => absurd he h⟩
  · rw [if_neg he]
    generalize (b.pinned x).altFor x (b.get Reg.TRV_CMD_ARG_PARENT) = alt
    obtain ⟨hnode, hext, -, hst⟩ := ((b.pinned x).startChange x (b.get Reg.TRV_CMD_ARG_PARENT) alt).trvDone_after x stOK
      (by decide)
    rw [hnode, hext, Block.startChange_node, Block.startChange_change]
    exact ⟨(b.pinned_node x).1, hst, fun _ => ⟨_, rfl, rfl⟩⟩

/-! ### The commands -/

/-- Settles O46: what each command leaves in the entry and in the detail of the node. -/
theorem nodeCommandsAct : Obligations.NodeCommandsAct := by
  intro s hacc x y n done timed
  refine ⟨fun hhome => ⟨fun hn => ?_, fun h0 h4 => ?_, fun hn => ?_, fun hn hel hnone => ?_, fun hn hel => ?_,
    fun hn hpin => ?_, fun hn hrelay horphan => ?_, fun hn => ?_, fun hn hdepth => ⟨?_, ?_, ?_⟩⟩,
    fun hhome => ⟨fun c hc => ?_, fun c hc => ?_⟩⟩
  · refine completes_trvCmd rfl hacc hhome (bne_iff_ne.mpr hn) ?_
    obtain ⟨hnode, hext, -, hst⟩ := (s.blk.freeNode x).trvDone_after x stOK (by decide)
    rw [hnode, hext]
    exact ⟨s.blk.freeNode_node x, s.blk.freeNode_ext x, hst⟩
  · refine completes_trvCmd rfl hacc hhome ((Bool.and_eq_true _ _).mpr ⟨bne_iff_ne.mpr h0, bne_iff_ne.mpr h4⟩) ?_
    obtain ⟨hnode, -, -, hst⟩ := (((s.blk.revokeNode (s.blk.node x).short).dropLinks x).modNode x
      fun n => { n with state := 4, rdvQ := 0 }).trvDone_after x stOK (by decide)
    rw [hnode, Block.modNode_node]
    exact ⟨rfl, hst⟩
  · refine completes_trvCmd rfl hacc hhome (beq_iff_eq.mpr hn) ?_
    obtain ⟨hnode, -, -, hst⟩ := (s.blk.modNode x fun n => { n with state := 3 }).trvDone_after x stOK (by decide)
    rw [hnode, Block.modNode_node]
    exact ⟨rfl, hst⟩
  · refine completes_trvCmd rfl hacc hhome (beq_iff_eq.mpr hn) ?_
    exact Block.pinNode_after hel hnone
  · refine completes_trvCmd rfl hacc hhome (beq_iff_eq.mpr hn) ?_
    have hpin : s.blk.pinNode x = s.blk.trvDone stInvalid := by
      unfold Block.pinNode
      dsimp only
      rw [hel, if_pos (by decide)]
    obtain ⟨-, -, htrv, hst⟩ := s.blk.trvDone_after x stInvalid (by decide)
    rw [hpin]
    exact ⟨htrv, hst⟩
  · refine completes_trvCmd rfl hacc hhome (by rw [hpin, hn]; rfl) ?_
    obtain ⟨hnode, -, -, hst⟩ := (s.blk.modNode x fun n => { n with pinned := false }).trvDone_after x stOK (by decide)
    rw [hnode, Block.modNode_node]
    exact ⟨rfl, hst⟩
  · refine completes_trvCmd rfl hacc hhome (by rw [hn, hrelay, horphan]; rfl) ?_
    obtain ⟨hnode, -, htrv, hst⟩ := (s.blk.orphanSuspect x).trvDone_after x stOK (by decide)
    obtain ⟨ho, hr⟩ := s.blk.orphanSuspect_repairs x horphan
    rw [hnode, htrv]
    exact ⟨ho, hr, hst⟩
  · refine completes_trvCmd rfl hacc hhome (beq_iff_eq.mpr hn) ?_
    obtain ⟨hnode, hext, -, hst⟩ := ((s.blk.modExt x fun e => { e with omegas := [], moves := [] }).modNode x
      fun n => { n with phEst := 0, phCode := 0, phase := 3, phTriad := 0 }).trvDone_after x stOK (by decide)
    rw [hnode, hext, Block.modNode_node, Block.modNode_ext]
    refine ⟨?_, rfl, rfl, hst⟩
    unfold Block.modExt
    rw [Block.setExt_ext, if_pos rfl]
  · exact completes_timeCmd (f := fun t => { t with asym := false }) rfl rfl hacc hhome hn hdepth fun b ht hst => ⟨ht, hst⟩
  · exact completes_timeCmd (f := fun t => { t with corr := signedOf 32 (s.blk.get Reg.DTM_TIME_ARG_CORR) }) rfl rfl hacc hhome
      hn hdepth fun b ht hst => ⟨ht, hst⟩
  · refine completes_timeCmd (f := fun t => { t with refValid := false, agree := 0, recent := [] }) rfl rfl hacc hhome hn hdepth
      fun b ht hst => ?_
    exact ⟨(congrArg TimeRec.refValid ht).trans rfl, (congrArg TimeRec.frozen ht).trans rfl, hst⟩
  · simp only [List.mem_cons, List.not_mem_nil, or_false] at hc
    rcases hc with rfl | rfl | rfl | rfl | rfl | rfl | rfl <;> exact completes_trvCmd_away rfl hacc hhome
  · simp only [List.mem_cons, List.not_mem_nil, or_false] at hc
    rcases hc with rfl | rfl | rfl <;> exact completes_timeCmd_away rfl rfl hacc hhome

end Sys2Proof.Machine

/-!
Completions (R348, R350): what a completion leaves on its ring and in host memory.
-/

namespace Sys2Proof.Machine

/-! ### A ring's pointers moved -/

/-- The fields that a move of the pointers of queue `q` leaves alone. -/
def spares (f : Field) (q : Nat) : Prop :=
  f.off ≠ Reg.QD_WR q ∧ f.off ≠ Reg.QD_RD q ∧ f.off ≠ Reg.QD_CNT q ∧ (Reg.QD_BASE_HI_FULL q).apart f ∧
    (Reg.QD_BASE_HI_CROSSED_HI q).apart f ∧ (Reg.QD_BASE_HI_CROSSED_LO q).apart f

theorem Block.get_incSat_other (b : Block) (f g : Field) (h : g.off ≠ f.off) : (b.incSat f).get g = b.get g := by
  unfold Block.incSat
  split
  · exact Block.get_of_rd (Block.rd_set_other _ _ _ _ h)
  · rfl

theorem Block.setPointers_get (b : Block) (q : Nat) (wr rd : Word) {f : Field} (hf : spares f q) :
    (b.setPointers q wr rd).get f = b.get f := by
  obtain ⟨hwr, hrd, -, hfull, -, -⟩ := hf
  unfold Block.setPointers
  dsimp only
  unfold Block.setOn
  rw [Block.get_set_apart _ _ _ _ (by simp [Field.fits]) hfull]
  exact Block.get_of_rd ((Block.rd_wr_other _ _ hrd).trans (Block.rd_wr_other _ _ hwr))

theorem Block.setPointers_wr (b : Block) (q : Nat) (wr rd : Word) : (b.setPointers q wr rd).rd (Reg.QD_WR q) = wr := by
  unfold Block.setPointers
  dsimp only
  unfold Block.setOn
  rw [Block.rd_set_other _ (Reg.QD_BASE_HI_FULL q) _ _ (by simp [Reg.QD_WR, Reg.QD_BASE_HI]),
    Block.rd_wr_other _ _ (by simp [Reg.QD_WR, Reg.QD_RD]), Block.rd_wr_same]

theorem Block.countCrossings_rd (b : Block) (q old off : Nat) (h1 : off ≠ Reg.QD_BASE_HI q) (h2 : off ≠ Reg.QD_CNT q) :
    (b.countCrossings q old).rd off = b.rd off := by
  unfold Block.countCrossings
  dsimp only
  have hstep : ∀ (c : Block) (p : Prop) [Decidable p] (f g : Field), f.off = Reg.QD_BASE_HI q → g.off = Reg.QD_CNT q →
      (if p then (c.set f 1).incSat g else c).rd off = c.rd off := fun c p _ f g hf hg => by
    split
    · rw [Block.rd_incSat_other _ _ _ (hg ▸ h2), Block.rd_set_other _ _ _ _ (hf ▸ h1)]
    · rfl
  rw [hstep _ _ _ _ rfl rfl, hstep _ _ _ _ rfl rfl]

theorem Block.countCrossings_get (b : Block) (q old : Nat) {f : Field} (hf : spares f q) :
    (b.countCrossings q old).get f = b.get f := by
  obtain ⟨-, -, hcnt, -, hhi, hlo⟩ := hf
  unfold Block.countCrossings
  dsimp only
  have hstep : ∀ (c : Block) (p : Prop) [Decidable p] (f' g : Field), f'.fits → f'.apart f → g.off = Reg.QD_CNT q →
      (if p then (c.set f' 1).incSat g else c).get f = c.get f := fun c p _ f' g hfits hapart hg => by
    split
    · rw [Block.get_incSat_other _ _ _ (hg ▸ hcnt), Block.get_set_apart _ _ _ _ hfits hapart]
    · rfl
  rw [hstep _ _ (Reg.QD_BASE_HI_CROSSED_LO q) (Reg.QD_CNT_CNT_LO q) (by simp [Field.fits]) hlo rfl,
    hstep _ _ (Reg.QD_BASE_HI_CROSSED_HI q) (Reg.QD_CNT_CNT_HI q) (by simp [Field.fits]) hhi rfl]

theorem Block.ite_raise_regs (b : Block) (p : Prop) [Decidable p] (fn v : Nat) :
    (if p then b.raise fn v else b).regs = b.regs := by
  split
  · exact b.raise_regs fn v
  · rfl

/-- The registers of a block whose ring has moved. -/
theorem Block.moveRing_regs (b : Block) (q : Nat) (wr rd : Word) :
    (b.moveRing q wr rd).regs = ((b.setPointers q wr rd).countCrossings q (b.qFill q)).regs := by
  unfold Block.moveRing
  dsimp only
  rw [Block.ite_raise_regs, Block.ite_raise_regs]

theorem Block.moveRing_get (b : Block) (q : Nat) (wr rd : Word) {f : Field} (hf : spares f q) :
    (b.moveRing q wr rd).get f = b.get f := by
  rw [Block.get_of_regs (b.moveRing_regs q wr rd), Block.countCrossings_get _ _ _ hf, Block.setPointers_get _ _ _ _ hf]

theorem Block.moveRing_wr (b : Block) (q : Nat) (wr rd : Word) : (b.moveRing q wr rd).qWr q = wr := by
  unfold Block.qWr
  rw [Block.rd_of_regs (b.moveRing_regs q wr rd), Block.countCrossings_rd _ _ _ _ (by simp [Reg.QD_WR, Reg.QD_BASE_HI])
    (by simp [Reg.QD_WR, Reg.QD_CNT]), Block.setPointers_wr]

theorem Block.raise_dmaWrites (b : Block) (fn v : Nat) : (b.raise fn v).host.dmaWrites = b.host.dmaWrites := by
  unfold Block.raise
  split
  · rfl
  · split <;> rfl

theorem Block.moveRing_dmaWrites (b : Block) (q : Nat) (wr rd : Word) :
    (b.moveRing q wr rd).host.dmaWrites = b.host.dmaWrites := by
  have hif : ∀ (c : Block) (p : Prop) [Decidable p] (fn v : Nat),
      (if p then c.raise fn v else c).host.dmaWrites = c.host.dmaWrites := fun c p _ fn v => by
    split
    · exact c.raise_dmaWrites fn v
    · rfl
  have hcross : ∀ (c : Block) (old : Nat), (c.countCrossings q old).host = c.host := fun c old => by
    have hstep : ∀ (c : Block) (p : Prop) [Decidable p] (f g : Field),
        (if p then (c.set f 1).incSat g else c).host = c.host := fun c p _ f g => by
      split
      · rw [Block.incSat_host, Block.set_host]
      · rfl
    unfold Block.countCrossings
    dsimp only
    rw [hstep, hstep]
  have hset : (b.setPointers q wr rd).host = b.host := by
    unfold Block.setPointers
    dsimp only
    rw [Block.setOn_host, Block.wr_host, Block.wr_host]
  unfold Block.moveRing
  dsimp only
  rw [hif, hif, hcross, hset]

/-! ### A completion -/

/-- The entry of a completion as it stands at place `at_` of its ring in host memory. -/
def Block.entryWrite (b : Block) (e : CplEntry) (at_ : Word) : DmaWrite :=
  { fn := e.fn, addr := b.ringAddr e.ring 32 (at_.toNat % b.qSize e.ring), bytes := e.toBytes at_ }

/-- The entry written, the pointer not yet moved. -/
def Block.entryStored (b : Block) (e : CplEntry) : Block :=
  (b.setQ e.ring { b.q e.ring with
    owed := if e.owed then (b.q e.ring).owed - 1 else (b.q e.ring).owed
    history := Store.put (fun _ => []) (b.q e.ring).history ((b.qWr e.ring).toNat % b.qSize e.ring) (e.toBytes (b.qWr e.ring)) }).dma
    e.fn (b.ringAddr e.ring 32 ((b.qWr e.ring).toNat % b.qSize e.ring)) (e.toBytes (b.qWr e.ring))

theorem Block.entryStored_regs (b : Block) (e : CplEntry) : (b.entryStored e).regs = b.regs := by
  unfold Block.entryStored Block.dma Block.setQ
  dsimp only

theorem Block.entryStored_dmaWrites (b : Block) (e : CplEntry) :
    (b.entryStored e).host.dmaWrites = b.host.dmaWrites ++ [b.entryWrite e (b.qWr e.ring)] := by
  unfold Block.entryStored Block.dma Block.setQ Block.entryWrite
  dsimp only

theorem Block.postEntry_eq (b : Block) (e : CplEntry) : b.postEntry e =
    ((b.entryStored e).moveRing e.ring (b.qWr e.ring + 1) ((b.entryStored e).qRd e.ring)).raise e.fn
      (((b.entryStored e).moveRing e.ring (b.qWr e.ring + 1) ((b.entryStored e).qRd e.ring)).get
        (Reg.QD_CFG_VECTOR e.ring)) := rfl

theorem Block.postEntry_dmaWrites (b : Block) (e : CplEntry) :
    (b.postEntry e).host.dmaWrites = b.host.dmaWrites ++ [b.entryWrite e (b.qWr e.ring)] := by
  rw [Block.postEntry_eq, Block.raise_dmaWrites, Block.moveRing_dmaWrites, Block.entryStored_dmaWrites]

theorem Block.postEntry_get (b : Block) (e : CplEntry) {f : Field} (hf : spares f e.ring) :
    (b.postEntry e).get f = b.get f := by
  rw [Block.postEntry_eq, Block.get_of_regs (Block.raise_regs _ _ _), Block.moveRing_get _ _ _ _ hf,
    Block.get_of_regs (b.entryStored_regs e)]

theorem Block.postEntry_wr (b : Block) (e : CplEntry) : (b.postEntry e).qWr e.ring = b.qWr e.ring + 1 := by
  rw [Block.postEntry_eq]
  exact (Block.rd_of_regs (Block.raise_regs _ _ _) _).trans (Block.moveRing_wr _ _ _ _)

theorem spares_size (q : Nat) : spares (Reg.QD_CFG_SIZE_LOG2 q) q := by
  simp [spares, Field.apart, Reg.QD_CFG, Reg.QD_BASE_HI, Reg.QD_WR, Reg.QD_RD, Reg.QD_CNT]

theorem spares_base_lo (q : Nat) : spares (Reg.QD_BASE_LO_BASE q) q := by
  simp [spares, Field.apart, Reg.QD_BASE_LO, Reg.QD_BASE_HI, Reg.QD_WR, Reg.QD_RD, Reg.QD_CNT]

theorem spares_base_hi (q : Nat) : spares (Reg.QD_BASE_HI_BASE q) q := by
  simp [spares, Field.apart, Reg.QD_BASE_HI, Reg.QD_WR, Reg.QD_RD, Reg.QD_CNT]

/-- The place of an entry in host memory is that of the block before it was posted. -/
theorem Block.postEntry_entryWrite (b : Block) (e : CplEntry) (at_ : Word) :
    (b.postEntry e).entryWrite e at_ = b.entryWrite e at_ := by
  unfold Block.entryWrite Block.ringAddr Block.qSize
  rw [b.postEntry_get e (spares_size _), b.postEntry_get e (spares_base_lo _), b.postEntry_get e (spares_base_hi _)]

/-- The entry of a completion. -/
def cplOf (c : Cmd) (status flags : Nat) (result : List Byte) : CplEntry :=
  { fn := c.fn, ring := c.cpl, hostSeq := c.seq, status := status, opcode := c.opcode, flags := flags
    queue := c.queue, tag := c.tag, result := result, owed := true }

/-- Where completions go to the ring, one is posted at once. -/
theorem Block.complete_of_postsTo {b : Block} {c : Cmd} (h : b.postsTo c.fn) (status flags : Nat) (result : List Byte) :
    b.complete c status result flags = b.postEntry (cplOf c status flags result) := by
  obtain ⟨hcut, hstill, hconv, hbacklog⟩ := h
  have hany : b.strata.backlog.any (fun x => x.fn == c.fn) = false := by
    rw [List.any_eq_false]
    exact fun e he => by simpa using hbacklog e he
  unfold Block.complete
  dsimp only
  rw [hcut, hstill, hconv, hany, if_neg (by decide), if_neg (by decide), if_neg (by decide)]
  rfl

theorem Block.posted_of_postEntry (b : Block) (c : Cmd) (status flags : Nat) (result : List Byte) :
    (b.postEntry (cplOf c status flags result)).posted c status flags result := by
  have hwr : (b.postEntry (cplOf c status flags result)).qWr c.cpl - 1 = b.qWr c.cpl := by
    refine (congrArg (· - 1) (b.postEntry_wr (cplOf c status flags result))).trans ?_
    exact BitVec.add_sub_cancel _ _
  have hlast := b.postEntry_dmaWrites (cplOf c status flags result)
  unfold Block.posted
  dsimp only
  rw [hwr, hlast, List.getLast?_append]
  exact congrArg some (b.postEntry_entryWrite (cplOf c status flags result) (b.qWr c.cpl)).symm

/-- A completion of a function that converses is the last entry written to host memory. -/
theorem Block.complete_posted {b : Block} {c : Cmd} (h : b.postsTo c.fn) (status flags : Nat) (result : List Byte) :
    (b.complete c status result flags).posted c status flags result := by
  rw [Block.complete_of_postsTo h]
  exact b.posted_of_postEntry c status flags result

theorem Block.posted.of_eq {b b' : Block} {c : Cmd} {status flags : Nat} {result : List Byte}
    (h : b.posted c status flags result) (hdma : b'.host.dmaWrites = b.host.dmaWrites)
    (hregs : ∀ off, 0x200000 ≤ off → b'.rd off = b.rd off) : b'.posted c status flags result := by
  unfold Block.posted Block.qWr Block.ringAddr Block.qSize at h ⊢
  dsimp only at h ⊢
  rw [hdma, hregs _ (by simp only [Reg.QD_WR]; omega),
    Block.get_of_rd (f := Reg.QD_BASE_LO_BASE c.cpl) (hregs (Reg.QD_BASE_LO c.cpl) (by simp only [Reg.QD_BASE_LO]; omega)),
    Block.get_of_rd (f := Reg.QD_BASE_HI_BASE c.cpl) (hregs (Reg.QD_BASE_HI c.cpl) (by simp only [Reg.QD_BASE_HI]; omega)),
    Block.get_of_rd (f := Reg.QD_CFG_SIZE_LOG2 c.cpl) (hregs (Reg.QD_CFG c.cpl) (by simp only [Reg.QD_CFG]; omega))]
  exact h

theorem Block.posted.gated {b : Block} {c : Cmd} {status flags : Nat} {result : List Byte}
    (h : b.posted c status flags result) : b.gated.posted c status flags result :=
  h.of_eq (by rw [Block.gated_host]) fun off hoff => b.gated_rd_other off fun e => by
    rw [e] at hoff
    revert hoff
    decide

end Sys2Proof.Machine

/-!
The queue fabric (R348 to R366): what its operations leave of a block. They keep its core and write the descriptors, the counts of
the fabric and the registers of the records.
-/

namespace Sys2Proof.Machine

/-- The registers the queue fabric writes. -/
def fabricReg (off : Nat) : Prop := 0x200000 ≤ off ∨ off = Reg.QF_DROPS ∨ off = Reg.QF_REVOKES ∨ off ∈ recordRegs

/-- What the queue fabric leaves of a block. -/
structure Block.byFabric (b c : Block) : Prop where
  core : c.core = b.core
  regs : Block.writesIn fabricReg b c

theorem fabricReg_descriptor : ∀ off ≥ 0x200000, fabricReg off := fun _ h => Or.inl h

theorem fabricReg_record : ∀ off ∈ recordRegs, fabricReg off := fun _ h => Or.inr (Or.inr (Or.inr h))

theorem Block.byFabric_refl (b : Block) : b.byFabric b := ⟨rfl, Block.writesIn_refl _ b⟩

theorem Block.byFabric.rd {b c : Block} (h : b.byFabric c) {off : Nat} (hlt : off < 0x200000) (hd : off ≠ Reg.QF_DROPS)
    (hr : off ≠ Reg.QF_REVOKES) (hs : off ∉ recordRegs) : c.rd off = b.rd off := by
  refine h.regs off ?_
  rintro (h | h | h | h)
  · omega
  · exact hd h
  · exact hr h
  · exact hs h

section
variable {b c : Block} (h : b.byFabric c)
include h

theorem Block.byFabric.trans {d : Block} (h' : c.byFabric d) : b.byFabric d := ⟨h'.core.trans h.core, h.regs.trans h'.regs⟩

theorem Block.byFabric.of_eq {c' : Block} (hcore : c'.core = c.core) (hregs : c'.regs = c.regs) : b.byFabric c' :=
  ⟨hcore.trans h.core, h.regs.of_regs hregs⟩

theorem Block.byFabric.setQ (q : Nat) (st : QueueSt) : b.byFabric (c.setQ q st) :=
  h.of_eq (c' := c.setQ q st) rfl rfl

theorem Block.byFabric.set (f : Field) (v : Nat) (hf : fabricReg f.off) : b.byFabric (c.set f v) :=
  ⟨(Block.core_set _ _ _).trans h.core, h.regs.set v hf⟩

theorem Block.byFabric.wr (off : Nat) (v : Word) (hf : fabricReg off) : b.byFabric (c.wr off v) :=
  ⟨(Block.core_wr _ _ _).trans h.core, h.regs.wr v hf⟩

theorem Block.byFabric.inc (f : Field) (hf : fabricReg f.off) : b.byFabric (c.inc f) :=
  ⟨(Block.core_inc _ _).trans h.core, h.regs.inc hf⟩

theorem Block.byFabric.post (code sev src : Nat) (args : List (Nat × Nat)) : b.byFabric (c.post code sev src args) :=
  ⟨(Block.core_post _ _ _ _ _).trans h.core, h.regs.post _ _ _ _ fabricReg_record⟩

theorem Block.byFabric.notify (q kind : Nat) : b.byFabric (c.notify q kind) :=
  ⟨(Block.core_notify _ _ _).trans h.core, h.regs.notify fabricReg_descriptor q kind⟩

theorem Block.byFabric.complete (x : Cmd) (status : Nat) (result : List Byte) (flags : Nat) :
    b.byFabric (c.complete x status result flags) :=
  ⟨(Block.core_complete _ _ _ _ _).trans h.core, h.regs.complete fabricReg_descriptor x status result flags⟩

theorem Block.byFabric.moveQueue (q : Nat) (wr rd : Word) : b.byFabric (c.moveQueue q wr rd) :=
  ⟨(Block.core_moveQueue _ _ _ _).trans h.core, h.regs.moveQueue fabricReg_descriptor fabricReg_record q wr rd⟩

theorem Block.byFabric.ite {p : Prop} [Decidable p] {d : Block} (h' : b.byFabric d) : b.byFabric (if p then c else d) := by
  split
  · exact h
  · exact h'

theorem Block.byFabric.foldl {α : Type} (f : Block → α → Block) (l : List α) (hf : ∀ (d : Block) (x : α), d.byFabric (f d x)) :
    b.byFabric (l.foldl f c) := by
  induction l generalizing c with
  | nil => exact h
  | cons x l ih => exact ih (h.trans (hf c x))

theorem Block.byFabric.writeWords (q : Nat) (ws : List QWord) : b.byFabric (c.writeWords q ws) := by
  unfold Block.writeWords
  dsimp only
  exact (h.setQ q _).moveQueue q _ _

theorem Block.byFabric.writeEntry (q : Nat) (bytes : List Byte) (prio : Nat) (prov control : Bool) :
    b.byFabric (c.writeEntry q bytes prio prov control) := by
  unfold Block.writeEntry
  dsimp only
  exact (h.setQ q _).moveQueue q _ _

theorem Block.byFabric.overrun (q : Nat) : b.byFabric (c.overrun q) := by
  unfold Block.overrun
  exact h.ite ((((h.set (Reg.QD_BASE_HI_OVERRUN q) 1 (Or.inl (by simp only [Reg.QD_BASE_HI]; omega))).post _ _ _ _)).notify q 3)

theorem Block.byFabric.produce (q : Nat) (p : Produce) : b.byFabric (c.produce q p) := by
  have hdrop : b.byFabric (c.inc Reg.QF_DROPS_COUNT) := h.inc _ (Or.inr (Or.inl rfl))
  have hmark : ∀ st, b.byFabric (((c.wr (Reg.QD_MARK q) (c.qWr q)).set (Reg.QD_BASE_HI_MARK_VALID q) 1).setQ q st) := fun st =>
    ((h.wr _ _ (Or.inl (by simp only [Reg.QD_MARK]; omega))).set (Reg.QD_BASE_HI_MARK_VALID q) 1
      (Or.inl (by simp only [Reg.QD_BASE_HI]; omega))).setQ q st
  rw [Block.produce.eq_def]
  extract_lets st units b1
  have h1 : b.byFabric b1 := (hmark _).ite h
  clear_value b1
  refine h.ite (hdrop.ite ((h.setQ q _).ite ((hdrop.overrun q).ite ?_)))
  exact (h1.writeEntry q _ _ _ _).ite (h1.writeWords q _)

theorem Block.byFabric.resumeProducers (q : Nat) : b.byFabric (c.resumeProducers q) := by
  unfold Block.resumeProducers
  dsimp only
  exact (h.setQ q _).foldl _ _ fun d p => d.byFabric_refl.produce q p

theorem Block.byFabric.decideTag (q : Nat) (pass : Bool) : b.byFabric (c.decideTag q pass) := by
  have hrecvs : b.byFabric (c.recvsToMark q) := h.of_eq rfl rfl
  have hback : ∀ d, b.byFabric d → b.byFabric (d.backToMark q) := fun d hd => by
    unfold Block.backToMark
    dsimp only
    exact (hd.setQ q _).moveQueue q _ _
  have hclear : b.byFabric (c.clearProv q) := by
    unfold Block.clearProv
    dsimp only
    exact h.setQ q _
  have hcontrol : ∀ d, b.byFabric d → ∀ p, b.byFabric (d.writeControl q pass p) := fun d hd p => by
    unfold Block.writeControl
    dsimp only
    exact (hd.writeEntry q _ _ _ _).ite (hd.writeWords q _)
  rw [Block.decideTag.eq_def]
  cases (c.q q).live with
  | none => exact h
  | some p =>
    dsimp -zeta only
    extract_lets taken b1 b2 st b3 b4 b5
    have h1 : b.byFabric b1 := hclear.ite (hback _ (hrecvs.ite h))
    clear_value b1
    have h2 : b.byFabric b2 := h1.set (Reg.QD_BASE_HI_MARK_VALID q) 0 (Or.inl (by simp only [Reg.QD_BASE_HI]; omega))
    clear_value b2
    have h3 : b.byFabric b3 := h2.setQ q _
    clear_value b3
    have h4 : b.byFabric b4 := (hcontrol b3 h3 p).ite h3
    clear_value b4
    have h5 : b.byFabric b5 := (h4.inc Reg.QF_REVOKES_COUNT (Or.inr (Or.inr (Or.inl rfl)))).ite h4
    exact h5.resumeProducers q

theorem Block.byFabric.revokeOp (o : CipherOp) : b.byFabric (c.revokeOp o) := by
  have htag : ∀ p, b.byFabric (if (c.q o.queue).live == some p then c.decideTag o.queue false
      else c.setQ o.queue { c.q o.queue with waiting := (c.q o.queue).waiting.erase p }) := fun p =>
    (h.decideTag o.queue false).ite (h.setQ o.queue _)
  rw [Block.revokeOp.eq_def]
  cases o.work with
  | encrypt x _ _ => exact h.complete x _ _ _
  | decrypt x p => exact (htag p).complete x _ _ _
  | pass _ _ => exact h
  | link w => exact htag w.parcel

end

end Sys2Proof.Machine

/-!
The random generator, tampering and Sieve's channels (R408 to R413, R418, R419).
-/

namespace Sys2Proof.Machine

/-! ### The random generator -/

theorem completes_drbgReseed {s : State} (hstop : s.blk.cx.drbgStopped = false) (hdue : s.blk.reseedDue = true) :
    Completes .drbgReseed s fun b =>
      b.cx.drbgRequests = 0 ∧ b.cx.drbgSeeded = s.blk.ticks ∧ s.blk.keepsBut b [Reg.SP_STAT 1] := by
  refine completes_of_next (b := if s.blk.cx.drbgStopped || !s.blk.reseedDue then s.blk else
    { s.blk with cx := { s.blk.cx with drbgRequests := 0, drbgSeeded := s.blk.ticks } }) rfl ?_
  rw [hstop, hdue, if_neg (by decide), Block.gated_cx]
  exact ⟨rfl, rfl, Block.keepsBut_gated_of_regs rfl⟩

theorem completes_drbgReseed_idle {s : State} (h : s.blk.cx.drbgStopped = true ∨ s.blk.reseedDue = false) :
    Completes .drbgReseed s fun b => b.cx = s.blk.cx ∧ s.blk.keepsBut b [Reg.SP_STAT 1] := by
  refine completes_of_next (b := if s.blk.cx.drbgStopped || !s.blk.reseedDue then s.blk else
    { s.blk with cx := { s.blk.cx with drbgRequests := 0, drbgSeeded := s.blk.ticks } }) rfl ?_
  have hif : (s.blk.cx.drbgStopped || !s.blk.reseedDue) = true := by
    rcases h with h | h <;> rw [h]
    · exact Bool.true_or _
    · exact Bool.or_true _
  rw [hif, if_pos rfl, Block.gated_cx]
  exact ⟨rfl, Block.keepsBut_gated_of_regs rfl⟩

/-- The generator's output stopped. -/
def Block.rngStopped (b : Block) : Block := { b with cx := { b.cx with drbgStopped := true } }

/-- The output stopped and the failure counted. -/
def Block.sourceFailed (b : Block) : Block :=
  (b.rngStopped.set Reg.CX_RNG_STAT_HEALTHY 0).incSat Reg.CX_RNG_STAT_FAILS

theorem Block.sourceFailed_cx (b : Block) : b.sourceFailed.cx = { b.cx with drbgStopped := true } := by
  unfold Block.sourceFailed
  rw [Block.incSat_cx, Block.set_cx]
  rfl

theorem Block.sourceFailed_dev (b : Block) : b.sourceFailed.dev = b.dev := by
  unfold Block.sourceFailed
  rw [Block.incSat_dev, Block.set_dev]
  rfl

theorem Block.sourceFailed_fails (b : Block) (h : b.get Reg.CX_RNG_STAT_FAILS < 7) :
    b.sourceFailed.get Reg.CX_RNG_STAT_FAILS = b.get Reg.CX_RNG_STAT_FAILS + 1 := by
  have hget : (b.rngStopped.set Reg.CX_RNG_STAT_HEALTHY 0).get Reg.CX_RNG_STAT_FAILS = b.get Reg.CX_RNG_STAT_FAILS :=
    (Block.get_set_apart _ _ _ _ (by decide) (by decide)).trans (Block.get_of_regs rfl _)
  unfold Block.sourceFailed
  rw [Block.get_incSat _ _ (by decide), hget]
  exact Nat.min_eq_left h

theorem Block.sourceFailed_healthy (b : Block) : b.sourceFailed.get Reg.CX_RNG_STAT_HEALTHY = 0 := by
  have hset := Block.get_set_same b.rngStopped Reg.CX_RNG_STAT_HEALTHY 0 (by decide)
  unfold Block.sourceFailed Block.incSat
  split
  · rw [Block.get_set_apart _ _ _ _ (by decide) (by decide), hset]
    rfl
  · rw [hset]
    rfl

theorem Block.sourceFailed_keepsBut (b : Block) : b.keepsBut b.sourceFailed [Reg.CX_RNG_STAT] := by
  unfold Block.sourceFailed
  refine Block.keepsBut.incSat (Block.keepsBut.set ?_ _ (by decide)) (by decide)
  exact (b.keepsBut_refl _).of_regs rfl

/-- The record of a failed health test. -/
def Block.failPosted (b : Block) (test : Nat) : Block :=
  b.sourceFailed.post 0x0B07 3 0x43 [(1, test), (1, b.sourceFailed.get Reg.CX_RNG_STAT_FAILS)]

theorem Block.entropyFail_eq (b : Block) (test : Nat) : b.entropyFail test =
    if b.sourceFailed.get Reg.CX_RNG_STAT_FAILS = 3 then (b.failPosted test).doubt 0x08 else b.failPosted test := rfl

theorem completes_entropyFail {s : State} (test : Fin 2) (h : s.blk.get Reg.CX_RNG_STAT_FAILS < 2) :
    Completes (.entropyFail test) s fun b =>
      b.cx.drbgStopped = true ∧ b.get Reg.CX_RNG_STAT_HEALTHY = 0 ∧ b.dev = s.blk.dev ∧
      b.get Reg.CX_RNG_STAT_FAILS = s.blk.get Reg.CX_RNG_STAT_FAILS + 1 ∧
      s.blk.keepsBut b (Reg.CX_RNG_STAT :: Reg.SP_STAT 1 :: recordRegs) := by
  refine completes_of_next (b := s.blk.entropyFail test) rfl ?_
  have hfails := s.blk.sourceFailed_fails (by omega)
  rw [Block.entropyFail_eq, hfails, if_neg (by omega), Block.gated_cx, Block.gated_get_other _ _ (by decide),
    Block.gated_dev, Block.gated_get_other _ _ (by decide)]
  unfold Block.failPosted
  rw [Block.post_cx, Block.sourceFailed_cx, Block.get_post _ _ _ _ _ _ (by decide), Block.sourceFailed_healthy,
    Block.post_dev, Block.sourceFailed_dev, Block.get_post _ _ _ _ _ _ (by decide), hfails]
  refine ⟨rfl, rfl, rfl, rfl, Block.keepsBut.gated (Block.keepsBut.post ?_ _ _ _ _ ?_) (by simp)⟩
  · exact s.blk.sourceFailed_keepsBut.mono (by simp)
  · exact fun off hoff => List.mem_cons_of_mem _ (List.mem_cons_of_mem _ hoff)

theorem completes_entropyFail_third {s : State} (test : Fin 2) (h : s.blk.get Reg.CX_RNG_STAT_FAILS = 2)
    (hdev : s.blk.dev = .settle ∨ s.blk.dev = .service ∨ s.blk.dev = .hold) :
    Completes (.entropyFail test) s (·.quietWith 0x08) := by
  refine completes_of_next (b := s.blk.entropyFail test) rfl ?_
  rw [Block.entropyFail_eq, s.blk.sourceFailed_fails (by omega), h, if_pos rfl]
  refine Block.doubt_quietWith (by decide) ?_
  have hsame : (s.blk.failPosted test).dev = s.blk.dev := (Block.post_dev _ _ _ _ _).trans s.blk.sourceFailed_dev
  rw [hsame]
  rcases hdev with hd | hd | hd <;> rw [hd] <;> rfl

/-! ### The source recovers -/

/-- A completion goes to the ring as before when nothing it depends on has changed. -/
theorem Block.postsTo.congr {b c : Block} {fn : Nat} (h : b.postsTo fn) (hdev : c.dev = b.dev) (hstrata : c.strata = b.strata)
    (hregs : ∀ off ∈ [Reg.GLB_FROZEN, Reg.GLB_WEDGED, Reg.QF_PAUSED, Reg.HIF_FN_STAT, Reg.HIF_LINK], c.rd off = b.rd off) :
    c.postsTo fn := by
  have hget : ∀ f : Field, f.off ∈ [Reg.GLB_FROZEN, Reg.GLB_WEDGED, Reg.QF_PAUSED, Reg.HIF_FN_STAT, Reg.HIF_LINK] →
      c.get f = b.get f := fun f hf => Block.get_of_rd (hregs _ hf)
  unfold Block.postsTo Block.cutOff Block.still Block.converses Block.frozen Block.bme Block.present Block.conv Block.on
    Block.bit at h ⊢
  rw [hdev, hstrata, hget Reg.GLB_FROZEN_MASTER (by simp), hget Reg.GLB_WEDGED_FN (by simp), hget Reg.QF_PAUSED_FN (by simp),
    hget Reg.HIF_FN_STAT_BME (by simp), hget Reg.HIF_FN_STAT_PRESENT (by simp), hget Reg.HIF_LINK_DL_UP (by simp)]
  exact h

/-- The output goes on, with the requests that waited taken out. -/
def Block.sourceOn (b : Block) : Block :=
  Block.setAll { b with cx := { b.cx with drbgStopped := false, randoms := [] } }
    [(Reg.CX_RNG_STAT_HEALTHY, 1), (Reg.CX_RNG_STAT_FAILS, 0)]

theorem Block.sourceOn_cx (b : Block) : b.sourceOn.cx = { b.cx with drbgStopped := false, randoms := [] } :=
  Block.setAll_cx _ _

theorem Block.sourceOn_keepsBut (b : Block) : b.keepsBut b.sourceOn [Reg.CX_RNG_STAT] := by
  unfold Block.sourceOn
  refine Block.keepsBut.setAll ?_ (by simp)
  exact (b.keepsBut_refl _).of_regs rfl

theorem Block.sourceOn_stat (b : Block) :
    b.sourceOn.get Reg.CX_RNG_STAT_HEALTHY = 1 ∧ b.sourceOn.get Reg.CX_RNG_STAT_FAILS = 0 := by
  unfold Block.sourceOn Block.setAll
  dsimp only [List.foldl]
  rw [Block.get_set_apart _ Reg.CX_RNG_STAT_FAILS Reg.CX_RNG_STAT_HEALTHY 0 (by decide) (by decide),
    Block.get_set_same _ _ _ (by decide), Block.get_set_same _ _ _ (by decide)]
  exact ⟨rfl, rfl⟩

theorem Block.serveEngines_of_none {b : Block} (h : b.cx.waiting = []) : b.serveEngines = b := by
  unfold Block.serveEngines
  rw [h]
  unfold Block.runWaiting
  rw [h]
  rfl

theorem Block.entropyRecovered_eq (b : Block) :
    b.entropyRecovered = (b.cx.randoms.foldl (fun b c => b.giveRandom c) b.sourceOn).serveEngines := by
  unfold Block.entropyRecovered Block.sourceOn
  rfl

theorem completes_sourceRecovered {s : State} (hwait : s.blk.cx.waiting = []) (hrand : s.blk.cx.randoms = []) :
    Completes .entropySourceRecovered s fun b =>
      b.cx.drbgStopped = false ∧ b.get Reg.CX_RNG_STAT_HEALTHY = 1 ∧ b.get Reg.CX_RNG_STAT_FAILS = 0 ∧
      s.blk.keepsBut b [Reg.CX_RNG_STAT, Reg.SP_STAT 1] := by
  refine completes_of_next (b := s.blk.entropyRecovered) rfl ?_
  rw [Block.entropyRecovered_eq]
  rw [hrand, List.foldl_nil, Block.serveEngines_of_none (by rw [Block.sourceOn_cx]; exact hwait), Block.gated_cx,
    Block.sourceOn_cx, Block.gated_get_other _ _ (by decide), Block.gated_get_other _ _ (by decide)]
  exact ⟨rfl, s.blk.sourceOn_stat.1, s.blk.sourceOn_stat.2,
    Block.keepsBut.gated (s.blk.sourceOn_keepsBut.mono (by simp)) (by simp)⟩

/-- The random bytes for a request written to host memory, its completion not yet. -/
def Block.bytesGiven (b : Block) (c : Cmd) : Block :=
  Block.dma { b with drawn := b.drawn + c.le 0x20 4, cx := { b.cx with drbgRequests := b.cx.drbgRequests + 1 } } c.fn
    (c.le 0x38 8) ((List.range (c.le 0x20 4)).map fun i => Config.freeByte (b.drawn + i))

theorem Block.giveRandom_eq (b : Block) (c : Cmd) : b.giveRandom c = (b.bytesGiven c).complete c stOK [] := rfl

theorem Block.bytesGiven_postsTo {b : Block} {c : Cmd} (h : b.postsTo c.fn) : (b.bytesGiven c).postsTo c.fn :=
  h.congr rfl rfl fun _ _ => rfl

theorem Block.bytesGiven_dmaWrites (b : Block) (c : Cmd) : (b.bytesGiven c).host.dmaWrites = b.host.dmaWrites ++
    [{ fn := c.fn, addr := c.le 0x38 8
       bytes := (List.range (c.le 0x20 4)).map fun i => Config.freeByte (b.drawn + i) }] := rfl

theorem Block.giveRandom_cx (b : Block) (c : Cmd) :
    (b.giveRandom c).cx = { b.cx with drbgRequests := b.cx.drbgRequests + 1 } := by
  have h := congrArg Block.cx (Block.core_complete (b.bytesGiven c) c stOK [] 0)
  exact h

theorem completes_sourceRecovered_random {s : State} (hwait : s.blk.cx.waiting = []) (c : Cmd)
    (hrand : s.blk.cx.randoms = [c]) (hpost : s.blk.postsTo c.fn) : Completes .entropySourceRecovered s fun b =>
      b.cx.randoms = [] ∧ b.posted c 0 0 [] ∧
      { fn := c.fn, addr := c.le 0x38 8,
        bytes := (List.range (c.le 0x20 4)).map fun i => Config.freeByte (s.blk.drawn + i) } ∈ b.host.dmaWrites := by
  refine completes_of_next (b := s.blk.entropyRecovered) rfl ?_
  rw [Block.entropyRecovered_eq]
  have hon : s.blk.sourceOn.postsTo c.fn := by
    refine hpost.congr (Block.setAll_dev _ _) (Block.setAll_strata _ _) fun off hoff => s.blk.sourceOn_keepsBut off ?_
    revert off
    decide
  have hdrawn : s.blk.sourceOn.drawn = s.blk.drawn := Block.setAll_drawn _ _
  have hcx := s.blk.sourceOn.giveRandom_cx c
  rw [hrand, List.foldl_cons, List.foldl_nil, Block.serveEngines_of_none (by rw [hcx, Block.sourceOn_cx]; exact hwait)]
  refine ⟨?_, ?_, ?_⟩
  · rw [Block.gated_cx, hcx, Block.sourceOn_cx]
  · refine Block.posted.gated ?_
    rw [Block.giveRandom_eq]
    exact Block.complete_posted (Block.bytesGiven_postsTo hon) stOK 0 []
  · rw [Block.gated_host, Block.giveRandom_eq, Block.complete_of_postsTo (Block.bytesGiven_postsTo hon),
      Block.postEntry_dmaWrites, Block.bytesGiven_dmaWrites, hdrawn]
    exact List.mem_append_left _ (List.mem_append_right _ List.mem_cons_self)

/-! ### Tampering (R408, R409) -/

theorem Store.mem_of_mem_put_default {α : Type} [DecidableEq α] (d : Nat → α) (m : Store α) (k : Nat) {v : α} (hv : v = d k)
    {p : Nat × α} (hp : p ∈ Store.put d m k v) : p ∈ m := by
  unfold Store.put at hp
  rw [if_pos hv] at hp
  exact List.mem_of_mem_filter hp

theorem Block.refreshPage_cx (b : Block) (page : Nat) : (b.refreshPage page).cx = b.cx := by
  unfold Block.refreshPage
  dsimp only
  split <;> rw [Block.setAll_cx, Block.set_cx]

theorem Block.closeCtx_ctxs (b : Block) (page n : Nat) : ∀ p ∈ (b.setCtx page n .closed).cx.ctxs, p ∈ b.cx.ctxs := by
  intro p hp
  have hcx : (b.setCtx page n .closed).cx.ctxs = Store.put (fun _ => Ctx.closed) b.cx.ctxs (page * 2 ^ 19 + n) .closed := by
    have hfresh := Block.refreshPage_cx
      { b with cx := { b.cx with ctxs := Store.put (fun _ => Ctx.closed) b.cx.ctxs (page * 2 ^ 19 + n) Ctx.closed } } page
    unfold Block.setCtx
    dsimp only
    split
    · have hframe := congrArg (fun c : Block => c.cx) (Block.frame_replicate (Block.refreshPage
        { b with cx := { b.cx with ctxs := Store.put (fun _ => Ctx.closed) b.cx.ctxs (page * 2 ^ 19 + n) Ctx.closed } } page)
        replCtx n (b.ctx page n).toBytes Ctx.closed.toBytes)
      exact congrArg CipherSt.ctxs (hframe.trans hfresh)
    · exact congrArg CipherSt.ctxs hfresh
  rw [hcx] at hp
  exact Store.mem_of_mem_put_default _ _ _ rfl hp

/-- The secrets erased: no key, no operation, and only retired contexts. -/
def Block.erased (b c : Block) : Prop :=
  c.cx.cache = [] ∧ c.cx.slots = [] ∧ c.cx.waiting = [] ∧ c.cx.engines = [] ∧
    ∀ p ∈ c.cx.ctxs, p ∈ b.cx.ctxs ∧ p.2.state = 3

theorem Block.byFabric.cx {b c : Block} (h : b.byFabric c) : c.cx = b.cx := by
  have hcx := congrArg Block.cx h.core
  exact hcx

theorem Block.erased.of_cx {b c c' : Block} (h : b.erased c) (e : c'.cx = c.cx) : b.erased c' := by
  unfold Block.erased
  rw [e]
  exact h

theorem Block.closeAll_ctxs (l : List (Nat × Ctx)) (b : Block) : ∀ p ∈ (l.foldl (fun b p =>
    if p.2.state = 3 then b else b.setCtx linkPage p.1 .closed) b).cx.ctxs, p ∈ b.cx.ctxs := by
  induction l generalizing b with
  | nil => exact fun _ h => h
  | cons x l ih =>
    intro p hp
    have hstep := ih _ p hp
    revert hstep
    dsimp only
    split
    · exact id
    · exact b.closeCtx_ctxs _ _ p

theorem Block.clearSecrets_erased (b : Block) : b.erased b.clearSecrets := by
  unfold Block.clearSecrets
  extract_lets ops b1 cx b2 b3 b4 b5
  have h1 : ∀ p ∈ b1.cx.ctxs, p ∈ b.cx.ctxs := Block.closeAll_ctxs _ b
  clear_value b1
  have h2 : b.erased b2 := ⟨rfl, rfl, rfl, rfl, fun p hp => ⟨h1 p (List.mem_of_mem_filter hp),
    beq_iff_eq.mp (List.mem_filter.mp hp).2⟩⟩
  clear_value b2
  have h3 : b.erased b3 := h2.of_cx (foldl_part Block.cx _ (fun c e => Block.set_cx _ _ _) _ b2)
  clear_value b3
  have h4 : b.erased b4 := h3.of_cx ((Block.set_cx _ _ _).trans (Block.set_cx _ _ _))
  clear_value b4
  have h5 : b.erased b5 := h4.of_cx (foldl_part Block.cx _ Block.refreshPage_cx _ b4)
  clear_value b5
  exact h5.of_cx (b5.byFabric_refl.foldl _ _ fun d o => d.byFabric_refl.revokeOp o).cx

/-! The tamper register while secrets are erased -/

theorem Block.replicate_rd (b : Block) (what index off : Nat) (old new : List Byte) (h : off ≠ Reg.TRV_REPL_SEQ) :
    (b.replicate what index old new).rd off = b.rd off := by
  have hpiece : ∀ (c : Block) (i : Nat) (bytes : List Byte), (c.sendPiece what i index bytes).rd off = c.rd off :=
    fun c i bytes => by
      unfold Block.sendPiece
      split
      · exact (Block.rd_of_regs (Block.sendCell_regs _ _ _ _ _) off).trans (Block.rd_set_other _ Reg.TRV_REPL_SEQ_RSEQ _ _ h)
      · rfl
  unfold Block.replicate
  split
  · rfl
  · refine foldl_part (fun c : Block => c.rd off) _ (fun c i => ?_) _ b
    split
    · rfl
    · exact hpiece c i _

theorem Block.refreshPage_rd (b : Block) (page off : Nat) (h1 : off ≠ Reg.CX_PAGE_STAT page) (h2 : off ≠ Reg.CX_DUE_CTX page) :
    (b.refreshPage page).rd off = b.rd off := by
  have hall : ∀ (c : Block) (v w : Nat),
      (c.setAll [(Reg.CX_DUE_CTX_CTX page, v), (Reg.CX_DUE_CTX_VALID page, w)]).rd off = c.rd off := fun c v w => by
    unfold Block.setAll
    dsimp only [List.foldl]
    rw [Block.rd_set_other _ (Reg.CX_DUE_CTX_VALID page) _ _ h2, Block.rd_set_other _ (Reg.CX_DUE_CTX_CTX page) _ _ h2]
  unfold Block.refreshPage
  dsimp only
  split <;> rw [hall, Block.rd_set_other _ (Reg.CX_PAGE_STAT_OPEN page) _ _ h1]

theorem Block.setCtx_rd (b : Block) (page n off : Nat) (c : Ctx) (h1 : off ≠ Reg.CX_PAGE_STAT page)
    (h2 : off ≠ Reg.CX_DUE_CTX page) (h3 : off ≠ Reg.TRV_REPL_SEQ) : (b.setCtx page n c).rd off = b.rd off := by
  unfold Block.setCtx
  dsimp only
  split
  · rw [Block.replicate_rd _ _ _ _ _ _ h3]
    exact Block.refreshPage_rd _ _ _ h1 h2
  · exact Block.refreshPage_rd _ _ _ h1 h2

theorem cxPage_tamper (p k : Nat) (hk : k < 16) : Reg.CX_TAMPER_STAT ≠ Reg.cxPage p + k := by
  unfold Reg.cxPage
  split <;> simp only [Reg.CX_TAMPER_STAT] <;> omega

theorem Block.refreshPage_tamper (b : Block) (page : Nat) :
    (b.refreshPage page).rd Reg.CX_TAMPER_STAT = b.rd Reg.CX_TAMPER_STAT :=
  b.refreshPage_rd page _ (cxPage_tamper page 0x4 (by decide)) (cxPage_tamper page 0xC (by decide))

theorem suspField_off (e : Nat) : (suspField e).off = Reg.CX_ENGINE_STAT := by
  unfold suspField
  split <;> rfl

theorem Block.clearSecrets_tamper (b : Block) : b.clearSecrets.rd Reg.CX_TAMPER_STAT = b.rd Reg.CX_TAMPER_STAT := by
  unfold Block.clearSecrets
  extract_lets ops b1 cx b2 b3 b4 b5
  have h1 : b1.rd Reg.CX_TAMPER_STAT = b.rd Reg.CX_TAMPER_STAT := by
    refine foldl_part (fun c : Block => c.rd Reg.CX_TAMPER_STAT) _ (fun c p => ?_) _ b
    split
    · rfl
    · exact c.setCtx_rd _ _ _ _ (cxPage_tamper _ 0x4 (by decide)) (cxPage_tamper _ 0xC (by decide)) (by decide)
  clear_value b1
  have h2 : b2.rd Reg.CX_TAMPER_STAT = b.rd Reg.CX_TAMPER_STAT := h1
  clear_value b2
  have h3 : b3.rd Reg.CX_TAMPER_STAT = b.rd Reg.CX_TAMPER_STAT := by
    refine (foldl_part (fun c : Block => c.rd Reg.CX_TAMPER_STAT) _ (fun c e => ?_) _ b2).trans h2
    exact Block.rd_set_other c (suspField e) 0 _ (by rw [suspField_off]; decide)
  clear_value b3
  have h4 : b4.rd Reg.CX_TAMPER_STAT = b.rd Reg.CX_TAMPER_STAT := by
    refine (Block.rd_set_other _ Reg.CX_IMPORT_STAT1_VALID 0 _ (by decide)).trans ?_
    exact (Block.rd_set_other _ Reg.CX_IMPORT_STAT0_VALID 0 _ (by decide)).trans h3
  clear_value b4
  have h5 : b5.rd Reg.CX_TAMPER_STAT = b.rd Reg.CX_TAMPER_STAT :=
    (foldl_part (fun c : Block => c.rd Reg.CX_TAMPER_STAT) _ Block.refreshPage_tamper _ b4).trans h4
  clear_value b5
  have hrevoke := b5.byFabric_refl.foldl _ ops fun d o => d.byFabric_refl.revokeOp o
  exact (hrevoke.rd (by decide) (by decide) (by decide) (by decide)).trans h5

theorem completes_tamper_unwatched {s : State} {inputs : BitVec 4} (powered : Bool)
    (h : inputs.toNat &&& s.blk.get Reg.CX_TAMPER_CFG_EN = 0) :
    Completes (.tamper inputs powered) s fun b => b.cx = s.blk.cx ∧ s.blk.keepsBut b [Reg.SP_STAT 1] := by
  refine completes_of_next (b := s.blk.tamper inputs.toNat powered) rfl ?_
  unfold Block.tamper
  dsimp only
  rw [h, if_pos rfl, Block.gated_cx]
  exact ⟨rfl, Block.keepsBut_gated_of_regs rfl⟩

/-- The inputs that fired latched. -/
def Block.tamperLatched (b : Block) (mask : Nat) : Block :=
  b.set Reg.CX_TAMPER_STAT_LATCH (b.get Reg.CX_TAMPER_STAT_LATCH ||| mask)

theorem Block.tamperLatched_latch (b : Block) {mask : Nat} (h : mask < 16) :
    (b.tamperLatched mask).get Reg.CX_TAMPER_STAT_LATCH = b.get Reg.CX_TAMPER_STAT_LATCH ||| mask := by
  unfold Block.tamperLatched
  rw [Block.get_set_same _ _ _ (by decide)]
  exact Nat.mod_eq_of_lt (Nat.or_lt_two_pow (b.get_lt Reg.CX_TAMPER_STAT_LATCH) h)

theorem Block.tamperLatched_events (b : Block) (mask : Nat) :
    (b.tamperLatched mask).get Reg.CX_TAMPER_STAT_EVENTS = b.get Reg.CX_TAMPER_STAT_EVENTS :=
  Block.get_set_apart _ _ _ _ (by decide) (by decide)

theorem Block.tamper_of_fired {b : Block} {inputs : Nat} (h : inputs &&& b.get Reg.CX_TAMPER_CFG_EN ≠ 0) :
    b.tamper inputs true = ((b.tamperLatched (inputs &&& b.get Reg.CX_TAMPER_CFG_EN)).clearSecrets.incSat
      Reg.CX_TAMPER_STAT_EVENTS).post 0x0B06 4 0x43 [(1, inputs &&& b.get Reg.CX_TAMPER_CFG_EN), (1, 1)] := by
  unfold Block.tamper
  dsimp only
  rw [if_neg h, if_pos rfl]
  rfl

theorem completes_tamper {s : State} {inputs : BitVec 4} (h : inputs.toNat &&& s.blk.get Reg.CX_TAMPER_CFG_EN ≠ 0) :
    Completes (.tamper inputs true) s fun b =>
      b.get Reg.CX_TAMPER_STAT_LATCH =
        s.blk.get Reg.CX_TAMPER_STAT_LATCH ||| (inputs.toNat &&& s.blk.get Reg.CX_TAMPER_CFG_EN) ∧
      b.get Reg.CX_TAMPER_STAT_EVENTS = min 65535 (s.blk.get Reg.CX_TAMPER_STAT_EVENTS + 1) ∧
      b.cx.cache = [] ∧ b.cx.slots = [] ∧ b.cx.waiting = [] ∧ b.cx.engines = [] ∧
      ∀ p ∈ b.cx.ctxs, p ∈ s.blk.cx.ctxs ∧ p.2.state = 3 := by
  refine completes_of_next (b := s.blk.tamper inputs.toNat true) rfl ?_
  have hmask : inputs.toNat &&& s.blk.get Reg.CX_TAMPER_CFG_EN < 16 := Nat.and_lt_two_pow (n := 4) _ (s.blk.get_lt _)
  rw [Block.tamper_of_fired h]
  generalize inputs.toNat &&& s.blk.get Reg.CX_TAMPER_CFG_EN = mask at hmask
  have hcleared := (s.blk.tamperLatched mask).clearSecrets_tamper
  have herased := (s.blk.tamperLatched mask).clearSecrets_erased
  have hlatch := (Block.get_of_rd (f := Reg.CX_TAMPER_STAT_LATCH) hcleared).trans (s.blk.tamperLatched_latch hmask)
  have hevents := (Block.get_of_rd (f := Reg.CX_TAMPER_STAT_EVENTS) hcleared).trans (s.blk.tamperLatched_events mask)
  generalize (s.blk.tamperLatched mask).clearSecrets = c at hlatch hevents herased
  rw [Block.gated_get_other _ _ (by decide), Block.gated_get_other _ _ (by decide), Block.get_post _ _ _ _ _ _ (by decide),
    Block.get_post _ _ _ _ _ _ (by decide), Block.gated_cx, Block.post_cx, Block.incSat_cx]
  refine ⟨?_, ?_, herased⟩
  · refine Eq.trans ?_ hlatch
    unfold Block.incSat
    split
    · exact Block.get_set_apart _ _ _ _ (by decide) (by decide)
    · rfl
  · rw [Block.get_incSat _ _ (by decide), hevents, Nat.min_comm]
    rfl

theorem completes_tamper_unpowered {s : State} {inputs : BitVec 4}
    (h : inputs.toNat &&& s.blk.get Reg.CX_TAMPER_CFG_EN ≠ 0) : Completes (.tamper inputs false) s fun b =>
      b.get Reg.CX_TAMPER_STAT_LATCH =
        s.blk.get Reg.CX_TAMPER_STAT_LATCH ||| (inputs.toNat &&& s.blk.get Reg.CX_TAMPER_CFG_EN) ∧
      b.cx.tamperUnpowered = s.blk.cx.tamperUnpowered ||| (inputs.toNat &&& s.blk.get Reg.CX_TAMPER_CFG_EN) ∧
      b.cx.ctxs = s.blk.cx.ctxs ∧ s.blk.keepsBut b [Reg.CX_TAMPER_STAT, Reg.SP_STAT 1] := by
  refine completes_of_next (b := s.blk.tamper inputs.toNat false) rfl ?_
  have hmask : inputs.toNat &&& s.blk.get Reg.CX_TAMPER_CFG_EN < 16 := Nat.and_lt_two_pow (n := 4) _ (s.blk.get_lt _)
  unfold Block.tamper
  dsimp only
  rw [if_neg h, if_neg Bool.false_ne_true, Block.gated_cx, Block.gated_get_other _ _ (by decide)]
  refine ⟨(Block.get_of_regs rfl _).trans (s.blk.tamperLatched_latch hmask), ?_, ?_, Block.keepsBut.gated
    (Block.keepsBut.of_regs ?_ (c := s.blk.tamperLatched (inputs.toNat &&& s.blk.get Reg.CX_TAMPER_CFG_EN)) rfl) (by simp)⟩
  · dsimp only
    rw [Block.set_cx]
  · dsimp only
    rw [Block.set_cx]
  · exact (s.blk.keepsBut_refl _).set _ (by simp)

/-! ### Sieve's self-test (R418, R419) -/

theorem completes_sieveSelfTest {s : State} {ch : Fin 16} {va vb : BitVec 64} {P : Block → Prop}
    (hdev : s.blk.dev = .settle ∨ s.blk.dev = .service ∨ s.blk.dev = .hold) (hused : s.blk.channelUsed ch = true)
    (hret : s.blk.bit Reg.CV_STAT_RETIRED ch = false)
    (hP : ∀ b : Block, b.regs = (s.blk.inc Reg.CV_TESTS_COUNT).regs → b.dev = s.blk.dev →
      P (if va.toNat ≠ b.checkA ch then b.retireChannel ch 0 else if vb.toNat ≠ b.checkB ch then b.retireChannel ch 1 else b).gated) :
    Completes (.sieveSelfTest ch va vb) s P := by
  refine completes_of_next (b := match s.blk.dev with
    | .settle | .service | .hold => s.blk.sieveTest ch va.toNat vb.toNat
    | _ => s.blk) rfl ?_
  have hrun : (match s.blk.dev with
      | .settle | .service | .hold => s.blk.sieveTest ch va.toNat vb.toNat
      | _ => s.blk) = s.blk.sieveTest ch va.toNat vb.toNat := by
    rcases hdev with h | h | h <;> rw [h]
  rw [hrun]
  unfold Block.sieveTest
  rw [hused, hret, if_neg (by decide)]
  extract_lets b1 cx b2
  exact hP b2 rfl rfl

theorem Block.tested_chk {b c : Block} (h : c.regs = (b.inc Reg.CV_TESTS_COUNT).regs) (ch : Nat) :
    c.checkA ch = b.checkA ch ∧ c.checkB ch = b.checkB ch := by
  have hrd : ∀ off, off ≠ Reg.CV_TESTS → c.rd off = b.rd off := fun off hoff =>
    (Block.rd_of_regs h off).trans (Block.rd_set_other b Reg.CV_TESTS_COUNT _ off hoff)
  unfold Block.checkA Block.checkB
  rw [hrd _ (by simp only [Reg.CV_CH_CHKA_LO, Reg.CV_TESTS]; omega), hrd _ (by simp only [Reg.CV_CH_CHKA_HI, Reg.CV_TESTS]; omega),
    hrd _ (by simp only [Reg.CV_CH_CHKB_LO, Reg.CV_TESTS]; omega), hrd _ (by simp only [Reg.CV_CH_CHKB_HI, Reg.CV_TESTS]; omega)]
  exact ⟨rfl, rfl⟩

/-- A channel that fails: its bit is set, no other, and a record is posted. -/
theorem Block.retireChannel_shows {b : Block} {ch : Nat} (vector : Nat) (hch : ch < 16)
    (h : b.bit Reg.CV_STAT_RETIRED ch = false) : (b.retireChannel ch vector).bit Reg.CV_STAT_RETIRED ch = true ∧
      (∀ i, i ≠ ch → (b.retireChannel ch vector).bit Reg.CV_STAT_RETIRED i = b.bit Reg.CV_STAT_RETIRED i) ∧
      b.keepsBut (b.retireChannel ch vector) (Reg.CV_STAT :: recordRegs) ∧ (b.retireChannel ch vector).dev = b.dev := by
  unfold Block.retireChannel
  rw [h, if_neg Bool.false_ne_true]
  have hbit : ∀ i args, ((b.setBit Reg.CV_STAT_RETIRED ch true).post 0x0B08 2 0x44 args).bit Reg.CV_STAT_RETIRED i =
      (b.setBit Reg.CV_STAT_RETIRED ch true).bit Reg.CV_STAT_RETIRED i := fun i args => by
    unfold Block.bit
    rw [Block.get_post _ _ _ _ _ _ (by decide)]
  refine ⟨?_, fun i hi => ?_, ?_, ?_⟩
  · rw [hbit, Block.bit_setBit _ _ _ _ _ (by decide) hch, if_pos rfl]
  · rw [hbit, Block.bit_setBit _ _ _ _ _ (by decide) hch, if_neg hi]
  · exact ((b.keepsBut_refl _).setBit _ _ List.mem_cons_self).post _ _ _ _ fun off hoff => List.mem_cons_of_mem _ hoff
  · rw [Block.post_dev, Block.setBit_dev]

/-- Settles O53, clause by clause: the generator, tampering, Sieve's channels. -/
theorem entropyTamperAndSieve : Obligations.EntropyTamperAndSieve := by
  intro s test inputs ch va vb mask
  refine ⟨completes_drbgReseed, completes_drbgReseed_idle, completes_entropyFail test, completes_entropyFail_third test,
    fun hwait => ⟨completes_sourceRecovered hwait, completes_sourceRecovered_random hwait⟩,
    ⟨fun h powered => completes_tamper_unwatched powered h, completes_tamper, completes_tamper_unpowered⟩,
    fun hdev hused hret => ⟨fun ha hb => ?_, fun hab => ?_⟩, fun hidle => ?_⟩
  · refine completes_sieveSelfTest hdev hused hret fun b hregs hb' => ?_
    obtain ⟨hA, hB⟩ := Block.tested_chk hregs ch
    have hsilent : b.dev.silent = false := by
      rcases hdev with h | h | h <;> rw [hb', h] <;> rfl
    rw [hA, hB, if_neg (not_not.mpr ha), if_neg (not_not.mpr hb), Block.gated_get_of_not_silent hsilent,
      Block.get_of_regs hregs]
    refine ⟨Block.get_inc _ _ (by decide), Block.keepsBut.gated_of_not_silent ?_ hsilent⟩
    exact ((s.blk.keepsBut_refl _).inc List.mem_cons_self).of_regs hregs
  · refine completes_sieveSelfTest hdev hused hret fun b hregs hb' => ?_
    obtain ⟨hA, hB⟩ := Block.tested_chk hregs ch
    have hsilent : b.dev.silent = false := by
      rcases hdev with h | h | h <;> rw [hb', h] <;> rfl
    have hstat : b.get Reg.CV_STAT_RETIRED = s.blk.get Reg.CV_STAT_RETIRED :=
      Block.get_of_rd ((Block.rd_of_regs hregs _).trans (Block.rd_set_other s.blk Reg.CV_TESTS_COUNT _ Reg.CV_STAT (by decide)))
    have hbit : ∀ i, b.bit Reg.CV_STAT_RETIRED i = s.blk.bit Reg.CV_STAT_RETIRED i := fun i => by
      unfold Block.bit
      rw [hstat]
    have hkeep : s.blk.keepsBut b (Reg.CV_TESTS :: Reg.CV_STAT :: recordRegs) :=
      ((s.blk.keepsBut_refl _).inc List.mem_cons_self).of_regs hregs
    have hend : ∀ vector, (b.retireChannel ch vector).gated.bit Reg.CV_STAT_RETIRED ch = true ∧
        (∀ i, i ≠ ch.val → (b.retireChannel ch vector).gated.bit Reg.CV_STAT_RETIRED i = s.blk.bit Reg.CV_STAT_RETIRED i) ∧
        s.blk.keepsBut (b.retireChannel ch vector).gated (Reg.CV_TESTS :: Reg.CV_STAT :: recordRegs) := fun vector => by
      obtain ⟨hset, hother, hregs', hdev'⟩ := Block.retireChannel_shows vector ch.isLt ((hbit ch).trans hret)
      have hs' : (b.retireChannel ch vector).dev.silent = false := by
        rw [hdev']
        exact hsilent
      have hg : ∀ i, (b.retireChannel ch vector).gated.bit Reg.CV_STAT_RETIRED i =
          (b.retireChannel ch vector).bit Reg.CV_STAT_RETIRED i := fun i => by
        unfold Block.bit
        rw [Block.gated_get_of_not_silent hs']
      refine ⟨(hg _).trans hset, fun i hi => (hg i).trans ((hother i hi).trans (hbit i)), ?_⟩
      exact (hkeep.trans (hregs'.mono fun off hoff => List.mem_cons_of_mem _ hoff)).gated_of_not_silent hs'
    rw [hA, hB]
    rcases hab with h | h
    · rw [if_pos h]
      exact hend 0
    · by_cases ha : va.toNat ≠ s.blk.checkA ch
      · rw [if_pos ha]
        exact hend 0
      · rw [if_neg ha, if_pos h]
        exact hend 1
  · refine completes_of_next (b := match s.blk.dev with
      | .settle | .service | .hold => s.blk.sieveTest ch va.toNat vb.toNat
      | _ => s.blk) rfl ?_
    have hstay : (match s.blk.dev with
        | .settle | .service | .hold => s.blk.sieveTest ch va.toNat vb.toNat
        | _ => s.blk) = s.blk := by
      rcases hidle with h | h
      · rw [h]
      · unfold Block.sieveTest
        rw [h]
        cases s.blk.dev <;> rfl
    rw [hstay]
    exact Block.keepsBut_gated_of_regs rfl

end Sys2Proof.Machine

/-!
Datum in QUIET: its inputs are still watched, and the output stages end its time pulses (R532).
-/

namespace Sys2Proof.Machine

/-- A block in QUIET with a time pulse under way, as R532 lets none be. -/
def quietWithPulse : Block :=
  { Block.reset with dev := .quiet, dtm := { Block.reset.dtm with pulse := [(0, some 5)] } }

theorem quietWithPulse_pulse : quietWithPulse.dtm.pulse = [(0, some 5)] := rfl

theorem quietWithPulse_gated_pulse : quietWithPulse.gated.dtm.pulse = [] := rfl

/-- Refutes O54: the statement is over every block in which Datum runs, QUIET included. On a block in QUIET with a time pulse
under way an edge at a stamp input that is not enabled does nothing, but the output stages end the pulse. -/
theorem not_datumKeepsTime : ¬ Obligations.DatumKeepsTime := by
  intro h
  obtain ⟨-, -, -, -, -, -, hedge, -⟩ := h ⟨quietWithPulse, []⟩ 0 0 0 0 0 true
  obtain ⟨-, hidle⟩ := hedge rfl
  obtain ⟨hdtm, -⟩ := Completes.of_idle rfl (hidle (by decide))
  have hpulse := congrArg (fun d => d.pulse) hdtm
  cases quietWithPulse_gated_pulse.symm.trans (hpulse.trans quietWithPulse_pulse)

end Sys2Proof.Machine

/-!
The line's own work: what admitting, driving, receiving and ending frames leaves alone.
-/

namespace Sys2Proof.Machine

/-- The registers that the line's work may write: all but those of GLB, CFG and BRG. -/
def lineReg (off : Nat) : Prop := 0x50000 ≤ off ∨ (0x20000 ≤ off ∧ off < 0x40000)

theorem lineReg_record : ∀ off ∈ recordRegs, lineReg off := by
  unfold lineReg
  decide

theorem lineReg_of_le {off : Nat} (h : 0x50000 ≤ off) : lineReg off := Or.inl h

theorem lineReg_cxPage (p : Nat) : 0x180000 ≤ Reg.cxPage p := by
  unfold Reg.cxPage
  split <;> omega

/-- The parts of a block that driving and receiving frames leaves alone. -/
structure LineParts where
  dev : DevState
  ticks : Nat
  img : ImgSt
  brg : BearingSt
  dtm : DatumSt
  strata : StrataSt
  cx : CipherSt
  trv : TrvSt

def Block.lineParts (b : Block) : LineParts :=
  { dev := b.dev, ticks := b.ticks, img := b.img, brg := { b.brg with spans := [] }, dtm := b.dtm, strata := b.strata, cx := b.cx,
    trv := b.trv }

/-- `c` comes from `b` by driving or receiving frames. -/
structure Block.onLine (b c : Block) : Prop where
  parts : c.lineParts = b.lineParts
  regs : Block.writesIn lineReg b c

theorem Block.onLine_refl (b : Block) : b.onLine b := ⟨rfl, Block.writesIn_refl _ b⟩

section
variable {b c : Block} (h : b.onLine c)
include h

theorem Block.onLine.dev : c.dev = b.dev := congrArg LineParts.dev h.parts

theorem Block.onLine.ticks : c.ticks = b.ticks := congrArg LineParts.ticks h.parts

theorem Block.onLine.img : c.img = b.img := congrArg LineParts.img h.parts

theorem Block.onLine.now : c.brg.now = b.brg.now := congrArg (fun x => x.brg.now) h.parts

theorem Block.onLine.state : c.brg.state = b.brg.state := congrArg (fun x => x.brg.state) h.parts

theorem Block.onLine.strata : c.strata = b.strata := congrArg LineParts.strata h.parts

theorem Block.onLine.cx : c.cx = b.cx := congrArg LineParts.cx h.parts

theorem Block.onLine.trv : c.trv = b.trv := congrArg LineParts.trv h.parts

theorem Block.onLine.get {f : Field} (hf : ¬ lineReg f.off) : c.get f = b.get f := h.regs.get hf

theorem Block.onLine.trans {d : Block} (h' : c.onLine d) : b.onLine d := ⟨h'.parts.trans h.parts, h.regs.trans h'.regs⟩

theorem Block.onLine.of_eq {c' : Block} (hparts : c'.lineParts = c.lineParts) (hregs : c'.regs = c.regs) : b.onLine c' :=
  ⟨hparts.trans h.parts, h.regs.of_regs hregs⟩

theorem Block.onLine.set (f : Field) (v : Nat) (hf : lineReg f.off) : b.onLine (c.set f v) := ⟨h.parts, h.regs.set v hf⟩

theorem Block.onLine.inc (f : Field) (hf : lineReg f.off) : b.onLine (c.inc f) := ⟨h.parts, h.regs.inc hf⟩

theorem Block.onLine.setAll (fs : List (Field × Nat)) (hf : ∀ p ∈ fs, lineReg p.1.off) : b.onLine (c.setAll fs) := by
  refine ⟨?_, h.regs.setAll hf⟩
  unfold Block.lineParts
  rw [Block.setAll_dev, Block.setAll_ticks, Block.setAll_img, Block.setAll_brg, Block.setAll_dtm, Block.setAll_strata,
    Block.setAll_cx, Block.setAll_trv]
  exact h.parts

theorem Block.onLine.post (code sev src : Nat) (args : List (Nat × Nat)) : b.onLine (c.post code sev src args) := by
  refine ⟨?_, h.regs.post _ _ _ _ lineReg_record⟩
  unfold Block.lineParts
  rw [Block.post_dev, Block.post_ticks, Block.post_img, Block.post_brg, Block.post_dtm, Block.post_strata, Block.post_cx, Block.post_trv]
  exact h.parts

theorem Block.onLine.draw : b.onLine c.draw := h.of_eq rfl rfl

theorem Block.onLine.withMac (m : MacSt) : b.onLine { c with mac := m } := h.of_eq rfl rfl

theorem Block.onLine.ite {p : Prop} [Decidable p] {d : Block} (h' : b.onLine d) : b.onLine (if p then c else d) := by
  split
  · exact h
  · exact h'

theorem Block.onLine.foldl {α : Type} (f : Block → α → Block) (l : List α) (hf : ∀ (d : Block) (x : α), d.onLine (f d x)) :
    b.onLine (l.foldl f c) := by
  induction l generalizing c with
  | nil => exact h
  | cons x l ih => exact ih (h.trans (hf c x))

theorem Block.onLine.setPort (n : Nat) (p : PortSt) : b.onLine (c.setPort n p) := h.of_eq rfl rfl

theorem Block.onLine.setLane (l : Nat) (x : Lane) : b.onLine (c.setLane l x) := h.of_eq rfl rfl

theorem Block.onLine.setMacTriad (t : Nat) (m : MacTriad) : b.onLine (c.setMacTriad t m) := h.of_eq rfl rfl

theorem Block.onLine.logSpan (x : AirSpan) : b.onLine (c.logSpan x) := h.of_eq rfl rfl

theorem Block.onLine.markBusy (x : BusySpan) : b.onLine (c.markBusy x) := h.of_eq rfl rfl

theorem Block.onLine.endPort (n : Nat) : b.onLine (c.endPort n) := h.of_eq rfl rfl

theorem Block.onLine.logTx (ports : List Nat) (bands : Nat) (start : Bearing) : b.onLine (c.logTx ports bands start) :=
  h.foldl _ _ fun d _ => d.onLine_refl.logSpan _

theorem Block.onLine.closeSwitches (n : Nat) : b.onLine (c.closeSwitches n) :=
  (h.setPort n _).set _ _ (lineReg_of_le (by simp only [Reg.LP_STATUS]; omega))

theorem Block.onLine.openSwitches (n : Nat) : b.onLine (c.openSwitches n) := by
  unfold Block.openSwitches
  exact (h.setPort n _).set _ _ (lineReg_of_le (by simp only [Reg.LP_STATUS]; omega))

theorem Block.onLine.approach (n : Nat) (start : Bearing) : b.onLine (c.approach n start) := by
  unfold Block.approach
  dsimp only
  split
  · exact h
  · exact h.closeSwitches n

theorem Block.onLine.release (n : Nat) : b.onLine (c.release n) := by
  unfold Block.release
  split
  · split
    · exact h
    · split
      · exact h.set _ _ (lineReg_of_le (by simp only [Reg.LP_STATUS]; omega))
      · exact h.openSwitches n
  · exact h

theorem Block.onLine.reportPred : b.onLine c.reportPred := by
  unfold Block.reportPred
  refine Block.onLine.set (Block.onLine.foldl (Block.onLine.foldl h _ _ fun d n => ?_) _ _ fun d k => ?_) _ _ (lineReg_of_le (by decide))
  · exact d.onLine_refl.set _ _ (lineReg_of_le (by simp only [Reg.LP_THERM]; omega))
  · exact d.onLine_refl.set _ _ (lineReg_of_le (by simp only [Reg.LP_BANK_PRED]; omega))

theorem Block.onLine.recharge (bank : Nat) : b.onLine (c.recharge bank) := h.of_eq rfl rfl

theorem Block.onLine.refreshCharges (bank : Nat) : b.onLine (c.refreshCharges bank) := (h.recharge bank).reportPred

theorem Block.onLine.bankSent (bank m a : Nat) : b.onLine (c.bankSent bank m a) := h.of_eq rfl rfl

theorem Block.onLine.endDrive (d : Drive) : b.onLine (c.endDrive d) := by
  unfold Block.endDrive
  dsimp only
  refine ((Block.onLine.set (Block.onLine.draw (Block.onLine.endPort (Block.onLine.inc (Block.onLine.logTx ?_ _ _ _) _ ?_) _)) _ _ ?_).bankSent
    _ _ _).refreshCharges _
  · exact h.of_eq rfl rfl
  · exact lineReg_of_le (by simp only [Reg.LP_TX_COUNT]; omega)
  · exact lineReg_of_le (by simp only [Reg.LP_CPL_STAT]; omega)

theorem Block.onLine.endDrives : b.onLine c.endDrives := by
  unfold Block.endDrives
  exact h.foldl _ _ fun d x => by
    split
    · exact d.onLine_refl.endDrive x
    · exact d.onLine_refl

theorem Block.onLine.logReception (l : Nat) : b.onLine (c.logReception l) := by
  unfold Block.logReception
  split
  · split
    · exact h
    · exact h.logSpan _
  · exact h

theorem Block.onLine.refreshAnchor (n : Nat) : b.onLine (c.refreshAnchor n) := by
  have hreg : lineReg (Reg.LP_AGC_STAT n) := lineReg_of_le (by simp only [Reg.LP_AGC_STAT]; omega)
  unfold Block.refreshAnchor
  split <;> exact h.setAll _ (by simp [hreg])

theorem Block.onLine.setReception (l : Nat) (r : Option Reception) : b.onLine (c.setReception l r) := by
  unfold Block.setReception
  extract_lets d x e
  have hd : b.onLine d := (h.logReception l).ite h
  have he : b.onLine e := hd.setLane _ _
  clear_value e
  split
  · exact he.refreshAnchor _
  · exact he

theorem Block.onLine.dropReception (l : Nat) : b.onLine (c.dropReception l) := h.setReception l none

theorem Block.onLine.hushLanes (ports : List Nat) (bands : Nat) : b.onLine (c.hushLanes ports bands) := by
  unfold Block.hushLanes
  refine h.foldl _ _ fun d l => ?_
  split
  · split
    · exact d.onLine_refl.dropReception l
    · split
      · exact d.onLine_refl
      · exact d.onLine_refl.setReception l _
  · exact d.onLine_refl

theorem Block.onLine.followRail (bank : Nat) : b.onLine (c.followRail bank) := h.of_eq rfl rfl

theorem Block.onLine.fchGiven (l : Nat) (x : Binding) (r : Reception) (bands bits : Nat) :
    b.onLine (c.fchGiven l x r bands bits) := by
  unfold Block.fchGiven
  extract_lets f lanes shut d
  have hd : b.onLine d := h.markBusy _
  clear_value d lanes
  split
  · refine hd.foldl _ _ fun e k => ?_
    split
    · exact e.onLine_refl.setReception k _
    · exact e.onLine_refl
  · exact hd.foldl _ _ fun e k => e.onLine_refl.dropReception k

theorem Block.onLine.judgeFch (l : Nat) (x : Binding) (r : Reception) : b.onLine (c.judgeFch l x r) := by
  unfold Block.judgeFch
  extract_lets set ends
  split
  · exact h
  · split
    · split
      · exact h
      · exact h.fchGiven _ _ _ _ _
    · split
      · exact h
      · exact h.dropReception l

theorem Block.onLine.tickLane (l : Nat) : b.onLine (c.tickLane l) := by
  unfold Block.tickLane
  split
  · exact h
  · split
    · split
      · exact h
      · exact h.setReception l _
    · split
      · exact h.judgeFch _ _ _
      · split
        · exact h
        · exact h.setReception l _

theorem Block.onLine.sendCell (kind dst : Nat) (bcast : Bool) (body : List Byte) : b.onLine (c.sendCell kind dst bcast body) := by
  refine h.of_eq ?_ (Block.sendCell_regs _ _ _ _ _)
  unfold Block.lineParts
  rw [Block.sendCell_dev, Block.sendCell_ticks, Block.sendCell_img, Block.sendCell_brg, Block.sendCell_dtm, Block.sendCell_strata,
    Block.sendCell_cx, Block.sendCell_trv]

theorem Block.onLine.sendPiece (what piece index : Nat) (bytes : List Byte) : b.onLine (c.sendPiece what piece index bytes) := by
  unfold Block.sendPiece
  split
  · exact (h.inc _ (lineReg_of_le (by decide))).sendCell _ _ _ _
  · exact h

theorem Block.onLine.replicate (what index : Nat) (old new : List Byte) : b.onLine (c.replicate what index old new) := by
  unfold Block.replicate
  split
  · exact h
  · refine h.foldl _ _ fun d i => ?_
    split
    · exact d.onLine_refl
    · exact d.onLine_refl.sendPiece _ _ _ _

theorem Block.onLine.setBuckets (n s : Nat) (l : List Nat) : b.onLine (c.setBuckets n s l) := by
  unfold Block.setBuckets
  extract_lets old m d e
  have hd : b.onLine d := h.withMac _
  have he : b.onLine e := hd.set _ _ (lineReg_of_le (by simp only [Reg.PT_BUD_ACC]; omega))
  clear_value e
  split
  · exact he.replicate _ _ _ _
  · exact he

theorem Block.onLine.chargeBand (n s micros : Nat) : b.onLine (c.chargeBand n s micros) := by
  unfold Block.chargeBand
  split <;> exact h.setBuckets _ _ _

theorem Block.onLine.chargeFrame (ports : List Nat) (bands micros : Nat) : b.onLine (c.chargeFrame ports bands micros) :=
  h.foldl _ _ fun d _ => d.onLine_refl.foldl _ _ fun e _ => e.onLine_refl.chargeBand _ _ _

theorem Block.onLine.showZout (n code bands : Nat) : b.onLine (c.showZout n code bands) := by
  have hreg : lineReg (Reg.LP_ZOUT_STAT n) := lineReg_of_le (by simp only [Reg.LP_ZOUT_STAT]; omega)
  unfold Block.showZout
  exact ((h.set _ _ hreg).set _ _ hreg).ite (h.set _ _ hreg)

theorem Block.onLine.deferG3 (x : Tx) : b.onLine (c.deferG3 x) := by
  unfold Block.deferG3
  split
  · exact h
  · refine h.foldl _ _ fun d n => ?_
    exact (d.onLine_refl.inc _ (lineReg_of_le (by simp only [Reg.LP_G3_DEFER]; omega))).ite d.onLine_refl

theorem Block.onLine.driveCells (x : Tx) (n : Nat) : b.onLine (c.driveCells x n) := by
  unfold Block.driveCells
  split
  · exact h
  · exact h.foldl _ _ fun d _ => d.onLine_refl.sendCell _ _ _ _

theorem Block.onLine.putTx (x : Tx) : b.onLine (c.putTx x) := by
  unfold Block.putTx
  extract_lets m d1 d2 d3 d4
  have h1 : b.onLine d1 := h.withMac _
  have h2 : b.onLine d2 := (h1.foldl _ _ fun d _ => d.onLine_refl.showZout _ _ _).deferG3 x
  have h3 : b.onLine d3 := h2.chargeFrame _ _ _
  have h4 : b.onLine d4 := h3.foldl _ _ fun d _ => d.onLine_refl.recharge _
  exact h4.reportPred.foldl _ _ fun d _ => d.onLine_refl.driveCells _ _

theorem Block.onLine.refreshP0 : b.onLine c.refreshP0 := h.set _ _ (lineReg_of_le (by decide))

theorem Block.onLine.offer (o : Offer) : b.onLine (c.offer o) := by
  unfold Block.offer
  exact (h.withMac _).refreshP0

theorem Block.onLine.skipCairn (t s cause : Nat) : b.onLine (c.skipCairn t s cause) :=
  (h.inc _ (lineReg_of_le (by decide))).post _ _ _ _

theorem Block.onLine.broadcastTx {t type : Nat} {ports : List Nat} {phy : PhyMode} {start : Bearing} {head : Option (List Bool)}
    {mac : List Byte} {bands : Nat} {reserve : Bool} {r : Block × Tx}
    (hr : c.broadcastTx t type ports phy start head mac bands reserve = some r) : b.onLine r.1 := by
  unfold Block.broadcastTx at hr
  dsimp only at hr
  split at hr
  · cases hr
  · split at hr
    · cases hr
    · cases hr
      exact (h.withMac _).putTx _

theorem Block.onLine.sendCairn (t s : Nat) (start : Bearing) : b.onLine (c.sendCairn t s start) := by
  unfold Block.sendCairn
  extract_lets all ports type phy d
  have hd : b.onLine d := (h.skipCairn _ _ _).ite h
  clear_value d
  split
  · exact (h.skipCairn _ _ _).ite h
  · split
    · exact h.skipCairn _ _ _
    · split
      · exact h.skipCairn _ _ _
      · split
        · exact hd
        · split
          · next hr => exact hd.broadcastTx hr
          · exact hd.skipCairn _ _ _

theorem Block.onLine.cairnsDone (t n : Nat) : b.onLine (c.cairnsDone t n) := h.setMacTriad _ _

theorem Block.onLine.admitCairns (t : Nat) : b.onLine (c.admitCairns t) := by
  unfold Block.admitCairns
  extract_lets n start
  split
  · exact h
  · split
    · exact h.cairnsDone _ _
    · split
      · exact (h.cairnsDone _ _).foldl _ _ fun d _ => d.onLine_refl.sendCairn _ _ _
      · exact h

theorem Block.onLine.passCairns (t n : Nat) : b.onLine (c.passCairns t n) :=
  ((h.cairnsDone t n).foldl _ _ fun d _ => d.onLine_refl.skipCairn _ _ _).ite h

theorem Block.onLine.admitPlaced (num : Nat) : b.onLine (c.admitPlaced num) := by
  unfold Block.admitPlaced
  split
  · exact h
  · split
    · exact h
    · extract_lets t m d y
      have hd : b.onLine d := h.withMac _
      exact hd.ite (hd.putTx _)

theorem Block.onLine.noteTouched (t : Nat) : b.onLine (c.noteTouched t) := (h.setMacTriad _ _).ite h

theorem Block.onLine.noteBehind (t : Nat) : b.onLine (c.noteBehind t) := h.ite (h.setMacTriad _ _)

theorem Block.onLine.countBackoffs (t : Nat) : b.onLine (c.countBackoffs t) := h.ite (h.setMacTriad _ _)

theorem Block.onLine.tickPlane (old : Bearing) : b.onLine (c.tickPlane old) := by
  unfold Block.tickPlane
  split
  · exact h
  · extract_lets d1 d2 d3
    have h1 : b.onLine d1 := h.foldl _ _ fun d _ => d.onLine_refl.admitPlaced _
    have h2 : b.onLine d2 := h1.foldl _ _ fun d _ => d.onLine_refl.admitCairns _
    have h3 : b.onLine d3 := h2.foldl _ _ fun d _ => (d.onLine_refl.noteTouched _).noteBehind _
    exact h3.ite (h3.foldl _ _ fun d _ => d.onLine_refl.countBackoffs _)

theorem Block.onLine.tickDrivers : b.onLine c.tickDrivers := by
  unfold Block.tickDrivers
  extract_lets d1 d2 d3 d4 d5
  have h1 : b.onLine d1 := h.foldl _ _ fun d _ => (d.onLine_refl.foldl _ _ fun e _ => e.onLine_refl.approach _ _).ite d.onLine_refl
  have h2 : b.onLine d2 := h1.foldl _ _ fun d _ => d.onLine_refl.approach _ _
  have h3 : b.onLine d3 := h2.endDrives
  have h4 : b.onLine d4 := h3.foldl _ _ fun d _ => (d.onLine_refl.hushLanes _ _).ite d.onLine_refl
  have h5 : b.onLine d5 := h4.foldl _ _ fun d _ => d.onLine_refl.release _
  exact h5.foldl _ _ fun d _ => d.onLine_refl.followRail _

theorem Block.onLine.tickLanes : b.onLine c.tickLanes := h.foldl _ _ fun d _ => d.onLine_refl.tickLane _

theorem Block.onLine.relayParcel (f : Nat) (p : Produce) : b.onLine (c.relayParcel f p) := h.ite (h.offer _)

end

end Sys2Proof.Machine

/-!
A tick of the time clock (R4, R110 and the model's log entry 1).
-/

namespace Sys2Proof.Machine

/-- The parts of a block that a tick, its count apart, leaves as they were. -/
structure Block.idles (b c : Block) : Prop where
  ticks : c.ticks = b.ticks
  dev : c.dev = b.dev
  strata : c.strata = b.strata
  cx : c.cx = b.cx

theorem Block.onLine.idles {b c : Block} (h : b.onLine c) : b.idles c := ⟨h.ticks, h.dev, h.strata, h.cx⟩

theorem Block.idles_refl (b : Block) : b.idles b := ⟨rfl, rfl, rfl, rfl⟩

section
variable {b c : Block} (h : b.idles c)
include h

theorem Block.idles.trans {d : Block} (h' : c.idles d) : b.idles d :=
  ⟨h'.ticks.trans h.ticks, h'.dev.trans h.dev, h'.strata.trans h.strata, h'.cx.trans h.cx⟩

theorem Block.idles.setAll (fs : List (Field × Nat)) : b.idles (c.setAll fs) :=
  ⟨(Block.setAll_ticks _ _).trans h.ticks, (Block.setAll_dev _ _).trans h.dev, (Block.setAll_strata _ _).trans h.strata,
    (Block.setAll_cx _ _).trans h.cx⟩

theorem Block.idles.set (f : Field) (v : Nat) : b.idles (c.set f v) := ⟨h.ticks, h.dev, h.strata, h.cx⟩

theorem Block.idles.setSensed (n : Nat) (x : SenseIn) : b.idles (c.setSensed n x) := ⟨h.ticks, h.dev, h.strata, h.cx⟩

theorem Block.idles.withImg (x : ImgSt) : b.idles { c with img := x } := ⟨h.ticks, h.dev, h.strata, h.cx⟩

theorem Block.idles.applyNoiseThresholds : b.idles c.applyNoiseThresholds := by
  unfold Block.applyNoiseThresholds
  split
  · exact (h.withImg _).setAll _
  · exact h

theorem Block.idles.cyclePassed (old : Bearing) : b.idles (c.cyclePassed old) := by
  unfold Block.cyclePassed
  split
  · exact h
  · exact h.applyNoiseThresholds

theorem Block.idles.tickBearing : b.idles c.tickBearing := by
  unfold Block.tickBearing
  split
  · exact h
  · extract_lets gain total old x d
    have hd : b.idles d := ⟨h.ticks, h.dev, h.strata, h.cx⟩
    exact hd.cyclePassed _

theorem Block.idles.tickDatum : b.idles c.tickDatum := by
  unfold Block.tickDatum
  split
  · exact h
  · exact ⟨h.ticks, h.dev, h.strata, h.cx⟩

theorem Block.idles.foldl {α : Type} (f : Block → α → Block) (l : List α) (hf : ∀ (d : Block) (x : α), d.idles (f d x)) :
    b.idles (l.foldl f c) := by
  induction l generalizing c with
  | nil => exact h
  | cons x l ih => exact ih (h.trans (hf c x))

theorem Block.idles.dropSilent : b.idles c.dropSilent := by
  refine h.foldl _ _ fun d p => ?_
  split
  · exact ((d.idles_refl.set (f := Reg.BRG_INPUT_STAT_PRESENT) _).set _ _).setSensed _ _
  · exact d.idles_refl

end

/-- The block with no parcel in transit. -/
def Block.noRelays (b : Block) : Block := { b with cx := { b.cx with relays := [] } }

theorem Block.drainRelays_onLine (b : Block) : b.noRelays.onLine b.drainRelays :=
  b.noRelays.onLine_refl.foldl _ _ fun d _ => d.onLine_refl.relayParcel _ _

theorem Block.idles.noRelays {b c : Block} (h : b.idles c) : b.noRelays.idles c.noRelays where
  ticks := h.ticks
  dev := h.dev
  strata := h.strata
  cx := congrArg (fun x : CipherSt => { x with relays := [] }) h.cx

theorem Block.tick_idles (b : Block) : ({ b with ticks := b.ticks + 1 } : Block).noRelays.idles b.tick := by
  unfold Block.tick
  extract_lets old d
  have hd : d.idles d.tickBearing.tickDatum.dropSilent.tickDrivers.tickLanes :=
    d.idles_refl.tickBearing.tickDatum.dropSilent.trans (Block.onLine_refl _).tickDrivers.tickLanes.idles
  generalize d.tickBearing.tickDatum.dropSilent.tickDrivers.tickLanes = e at hd ⊢
  exact hd.noRelays.trans (e.drainRelays_onLine.tickPlane old).idles

theorem step_idle {s : State} (h : s.pending = []) : step s = .next { s with blk := s.blk.tick.gated } := by
  unfold step
  rw [h]

/-- Settles O2: the tick's parts leave the device, the queues and the contexts alone (`tick_idles`). -/
theorem idleStepIsATick : Obligations.IdleStepIsATick := by
  intro s hs
  obtain ⟨hticks, hdev, hstrata, hcx⟩ := s.blk.tick_idles
  refine ⟨{ s with blk := s.blk.tick.gated }, step_idle hs, hs, ?_, ?_, ?_, ?_⟩
  · exact (Block.gated_ticks s.blk.tick).trans hticks
  · exact (Block.gated_dev s.blk.tick).trans hdev
  · exact (Block.gated_strata s.blk.tick).trans hstrata
  · exact (Block.gated_cx s.blk.tick).trans hcx

end Sys2Proof.Machine

/-!
Admission of frames: what it leaves alone beside the line (R50, R259, R266).
-/

namespace Sys2Proof.Machine

/-- Bearing, but for what it notes of the frames on the line. -/
def Block.bearingParts (b : Block) : BearingSt := { b.brg with spans := [] }

/-- `c` comes from `b` by admitting frames: the device, its image and Bearing's count stand, and of the registers those of GLB,
CFG and BRG. -/
structure Block.admits (b c : Block) : Prop where
  dev : c.dev = b.dev
  ticks : c.ticks = b.ticks
  img : c.img = b.img
  brg : c.bearingParts = b.bearingParts
  regs : Block.writesIn lineReg b c

theorem Block.admits_refl (b : Block) : b.admits b := ⟨rfl, rfl, rfl, rfl, Block.writesIn_refl _ b⟩

theorem Block.onLine.admits {b c : Block} (h : b.onLine c) : b.admits c :=
  ⟨h.dev, h.ticks, h.img, congrArg LineParts.brg h.parts, h.regs⟩

theorem fabricReg_line {off : Nat} (h : fabricReg off) : lineReg off := by
  rcases h with h | h | h | h
  · exact lineReg_of_le (by omega)
  · exact h ▸ lineReg_of_le (by decide)
  · exact h ▸ lineReg_of_le (by decide)
  · exact lineReg_record off h

theorem Block.byFabric.admits {b c : Block} (h : b.byFabric c) : b.admits c where
  dev := show c.core.dev = b.core.dev by rw [h.core]
  ticks := show c.core.ticks = b.core.ticks by rw [h.core]
  img := show c.core.img = b.core.img by rw [h.core]
  brg := show c.core.bearingParts = b.core.bearingParts by rw [h.core]
  regs := h.regs.mono fun _ => fabricReg_line

section
variable {b c : Block} (h : b.admits c)
include h

theorem Block.admits.now : c.brg.now = b.brg.now := show c.bearingParts.now = b.bearingParts.now by rw [h.brg]

theorem Block.admits.state : c.brg.state = b.brg.state := show c.bearingParts.state = b.bearingParts.state by rw [h.brg]

theorem Block.admits.trans {d : Block} (h' : c.admits d) : b.admits d :=
  ⟨h'.dev.trans h.dev, h'.ticks.trans h.ticks, h'.img.trans h.img, h'.brg.trans h.brg, h.regs.trans h'.regs⟩

theorem Block.admits.of_eq {c' : Block} (hdev : c'.dev = c.dev) (hticks : c'.ticks = c.ticks) (himg : c'.img = c.img)
    (hbrg : c'.brg = c.brg) (hregs : c'.regs = c.regs) : b.admits c' where
  dev := hdev.trans h.dev
  ticks := hticks.trans h.ticks
  img := himg.trans h.img
  brg := (congrArg (fun x : BearingSt => { x with spans := [] }) hbrg).trans h.brg
  regs := h.regs.of_regs hregs

theorem Block.admits.withMac (m : MacSt) : b.admits { c with mac := m } := h.of_eq rfl rfl rfl rfl rfl

theorem Block.admits.withStrata (m : StrataSt) : b.admits { c with strata := m } := h.of_eq rfl rfl rfl rfl rfl

theorem Block.admits.withCx (m : CipherSt) : b.admits { c with cx := m } := h.of_eq rfl rfl rfl rfl rfl

theorem Block.admits.withTrv (m : TrvSt) : b.admits { c with trv := m } := h.of_eq rfl rfl rfl rfl rfl

theorem Block.admits.ite {p : Prop} [Decidable p] {d : Block} (h' : b.admits d) : b.admits (if p then c else d) := by
  split
  · exact h
  · exact h'

theorem Block.admits.foldl {α : Type} (f : Block → α → Block) (l : List α) (hf : ∀ (d : Block) (x : α), d.admits (f d x)) :
    b.admits (l.foldl f c) := by
  induction l generalizing c with
  | nil => exact h
  | cons x l ih => exact ih (h.trans (hf c x))

theorem Block.admits.set (f : Field) (v : Nat) (hf : lineReg f.off) : b.admits (c.set f v) :=
  h.trans (c.onLine_refl.set f v hf).admits

theorem Block.admits.inc (f : Field) (hf : lineReg f.off) : b.admits (c.inc f) := h.trans (c.onLine_refl.inc f hf).admits

theorem Block.admits.setAll (fs : List (Field × Nat)) (hf : ∀ p ∈ fs, lineReg p.1.off) : b.admits (c.setAll fs) :=
  h.trans (c.onLine_refl.setAll fs hf).admits

theorem Block.admits.replicate (what index : Nat) (old new : List Byte) : b.admits (c.replicate what index old new) :=
  h.trans (c.onLine_refl.replicate _ _ _ _).admits

theorem Block.admits.offer (o : Offer) : b.admits (c.offer o) := h.trans (c.onLine_refl.offer o).admits

theorem Block.admits.drawBackoff (o : Offer) (bands : Nat) (clear : Bool) : b.admits (c.drawBackoff o bands clear) := by
  unfold Block.drawBackoff
  exact h.ite (h.trans (c.onLine_refl.draw.setMacTriad _ _).admits)

theorem Block.admits.contend (p : Plan) (a : AdmitChoice) : b.admits (c.contend p a) := by
  unfold Block.contend
  split
  · exact h.drawBackoff _ _ _
  · exact h

theorem Block.admits.deferPlan (p : Plan) (short : List (Nat × Nat)) : b.admits (c.deferPlan p short) := by
  unfold Block.deferPlan
  split
  · exact h
  · extract_lets d
    have hd : b.admits d := h.foldl _ _ fun e x => e.admits_refl.inc _ (lineReg_of_le (by simp only [Reg.PT_BUD_WAITS]; omega))
    clear_value d
    split
    · exact hd.withStrata _
    · exact hd.withMac _

theorem Block.admits.poisoned (q : Nat) (p : Word) : b.admits (c.poisoned q p) := by
  unfold Block.poisoned
  extract_lets d
  have hd : b.admits d := h.inc _ (lineReg_of_le (by decide))
  clear_value d
  refine hd.ite (hd.trans (((d.byFabric_refl.set _ _ ?_).post _ _ _ _).notify q 5).admits)
  exact fabricReg_descriptor _ (by simp only [Reg.QD_BASE_HI]; omega)

theorem Block.admits.releaseSends (q : Nat) : b.admits (c.releaseSends q) := by
  unfold Block.releaseSends
  split
  · extract_lets live st
    refine h.trans ?_
    unfold Block.freeConsumed
    exact (((c.byFabric_refl.setQ _ _).setQ _ _).moveQueue _ _ _).admits
  · split <;> exact h.trans (c.byFabric_refl.moveQueue _ _ _).admits

theorem Block.admits.endWaitingSend (r : SendRec) (status : Nat) (result : List Byte) :
    b.admits (c.endWaitingSend r status result) := by
  unfold Block.endWaitingSend Block.completeSend
  refine Block.admits.releaseSends ?_ _
  refine Block.admits.set ?_ _ _ (lineReg_of_le (by decide))
  exact (h.withStrata _).trans ((Block.byFabric_refl _).complete _ _ _ _).admits

theorem Block.admits.setEngine (e : Nat) (x : Engine) : b.admits (c.setEngine e x) := by
  unfold Block.setEngine
  refine (h.withCx _).set _ _ (lineReg_of_le ?_)
  unfold suspField
  split <;> decide

theorem Block.admits.suspendEngine (e : Nat) : b.admits (c.suspendEngine e) := by
  unfold Block.suspendEngine
  dsimp only
  split
  · exact (h.setEngine _ _).inc _ (lineReg_of_le (by decide))
  · exact h

theorem Block.admits.seize {prio : Nat} {x : Nat × Block} (hx : c.seize prio = some x) : b.admits x.2 := by
  unfold Block.seize at hx
  split at hx
  · cases hx
  · split at hx
    · cases hx
      exact h
    · split at hx
      · split at hx
        · cases hx
          exact h.suspendEngine _
        · cases hx
      · cases hx

theorem Block.admits.awaitEngine (prio key : Nat) : b.admits (c.awaitEngine prio key) := (h.withCx _).ite h

theorem Block.admits.touchKey (root : Nat) (label : List Byte) : b.admits (c.touchKey root label) := by
  unfold Block.touchKey
  extract_lets hit x d
  have hd : b.admits d := h.withCx _
  exact hd.ite (hd.inc _ (lineReg_of_le (by decide)))

theorem Block.admits.touchLink (long : BitVec 64) (gen : Nat) (up : Bool) : b.admits (c.touchLink long gen up) := by
  unfold Block.touchLink
  extract_lets root d
  have hd : b.admits d := h.ite (h.touchKey _ _)
  exact hd.touchKey _ _

theorem Block.admits.refreshPage (page : Nat) : b.admits (c.refreshPage page) := by
  have hdue : lineReg (Reg.CX_DUE_CTX page) := lineReg_of_le (by have := lineReg_cxPage page; simp only [Reg.CX_DUE_CTX]; omega)
  unfold Block.refreshPage
  extract_lets cs d
  have hd : b.admits d := h.set _ _ (lineReg_of_le (by have := lineReg_cxPage page; simp only [Reg.CX_PAGE_STAT]; omega))
  clear_value d
  split <;> exact hd.setAll _ (by simp [hdue])

theorem Block.admits.setCtx (page n : Nat) (x : Ctx) : b.admits (c.setCtx page n x) := by
  unfold Block.setCtx
  extract_lets old y d
  have hd : b.admits d := (h.withCx _).refreshPage _
  exact (hd.replicate _ _ _ _).ite hd

theorem Block.admits.post (code sev src : Nat) (args : List (Nat × Nat)) : b.admits (c.post code sev src args) :=
  h.trans (c.onLine_refl.post _ _ _ _).admits

theorem Block.admits.raise (fn v : Nat) : b.admits (c.raise fn v) :=
  h.of_eq (Block.raise_dev _ _ _) (Block.raise_ticks _ _ _) (Block.raise_img _ _ _) (Block.raise_brg _ _ _) (Block.raise_regs _ _ _)

theorem Block.admits.rekeyCtx (page n : Nat) : b.admits (c.rekeyCtx page n).1 := by
  unfold Block.rekeyCtx
  dsimp only
  split
  · refine ((h.setCtx _ _ _).set _ _ (lineReg_of_le ?_)).post _ _ _ _
    have := lineReg_cxPage page
    simp only [Reg.CX_PAGE_STAT]
    omega
  · exact h.setCtx _ _ _

theorem Block.admits.becomeDue (page n : Nat) : b.admits (c.becomeDue page n) := by
  have hstat : lineReg (Reg.CX_PAGE_STAT page) := by
    have := lineReg_cxPage page
    exact lineReg_of_le (by simp only [Reg.CX_PAGE_STAT]; omega)
  unfold Block.becomeDue
  extract_lets x d1 d2 d3 r
  have h1 : b.admits d1 := (h.setCtx _ _ _).set _ _ hstat
  have h2 : b.admits d2 := h1.post _ _ _ _
  have h3 : b.admits d3 := (h2.raise _ _).ite h2
  have hr : b.admits r.1 := h3.rekeyCtx _ _
  clear_value r d3
  exact (hr.ite (hr.post _ _ _ _)).ite h3

theorem Block.admits.setNext (page n v : Nat) : b.admits (c.setNext page n v) := by
  unfold Block.setNext
  extract_lets x y d
  have hd : b.admits d := h.setCtx _ _ _
  exact (hd.becomeDue _ _).ite hd

theorem Block.admits.useCounter (page n : Nat) : b.admits (c.useCounter page n) := by
  unfold Block.useCounter
  refine (h.inc _ (lineReg_of_le ?_)).setNext _ _ _
  have := lineReg_cxPage page
  simp only [Reg.CX_ENC_COUNT]
  omega

theorem Block.admits.sealParcel (x : Nat) (p : OutParcel) : b.admits (c.sealParcel x p).1 := by
  unfold Block.sealParcel
  dsimp only
  split
  · exact (h.touchLink _ _ _).useCounter _ _
  · exact h

theorem Block.admits.refreshCounts : b.admits c.refreshCounts := by
  unfold Block.refreshCounts
  extract_lets live d
  have hd : b.admits d := h.setAll _ (by simp [lineReg, Reg.TRV_STAT, Reg.TRV_RELAY_STAT])
  refine hd.foldl _ _ fun e t => ?_
  extract_lets on leg
  have hA : lineReg (Reg.TRV_PH_A t) := lineReg_of_le (by simp only [Reg.TRV_PH_A]; omega)
  have hB : lineReg (Reg.TRV_PH_B t) := lineReg_of_le (by simp only [Reg.TRV_PH_B]; omega)
  exact e.admits_refl.setAll _ (by simp [hA, hB])

theorem Block.admits.setNode (x : Nat) (n : Node) : b.admits (c.setNode x n) := by
  unfold Block.setNode
  exact ((h.withTrv _).replicate _ _ _ _).refreshCounts

theorem Block.admits.modNode (x : Nat) (f : Node → Node) : b.admits (c.modNode x f) := h.setNode x _

theorem Block.admits.setExt (x : Nat) (e : NodeExt) : b.admits (c.setExt x e) := by
  unfold Block.setExt
  extract_lets y d
  have hd : b.admits d := h.withTrv _
  exact (hd.replicate _ _ _ _).ite hd

theorem Block.admits.modExt (x : Nat) (f : NodeExt → NodeExt) : b.admits (c.modExt x f) := h.setExt x _

theorem Block.admits.noteBody (hop : Option Nat) (o : Offer) (body : List Byte) (start : Bearing) :
    b.admits (c.noteBody hop o body start) := by
  unfold Block.noteBody
  split
  · exact h
  · exact (h.modExt _ _).ite (h.ite (h.modExt _ _))

theorem Block.admits.takeSend (r : SendRec) (x : Nat) : b.admits (c.takeSend r x) := by
  unfold Block.takeSend
  extract_lets pseq taken y d
  have hd : b.admits d := h.withStrata _
  exact ((hd.modNode _ _).releaseSends _).set _ _ (lineReg_of_le (by decide))

theorem Block.admits.noteAttempt (x : Cmd) (attempts : Nat) : b.admits (c.noteAttempt x attempts) := h.withStrata _

theorem Block.admits.putTx (x : Tx) : b.admits (c.putTx x) := h.trans (c.onLine_refl.putTx x).admits

theorem Block.admits.sendPiece (what piece index : Nat) (bytes : List Byte) : b.admits (c.sendPiece what piece index bytes) :=
  h.trans (c.onLine_refl.sendPiece _ _ _ _).admits

theorem foldl_fst_admits {α β : Type} (f : Block × β → α → Block × β) (hf : ∀ (acc : Block × β) (x : α), acc.1.admits (f acc x).1) (y : β) (l : List α) :
    b.admits (l.foldl f (c, y)).1 := by
  induction l generalizing c y with
  | nil => exact h
  | cons x l ih => exact ih (h.trans (hf (c, y) x)) _

theorem Block.admits.admitPlan (p : Plan) (a : AdmitChoice) (x : Tx) (ports : List Nat) : b.admits (c.admitPlan p a x ports) := by
  unfold Block.admitPlan
  extract_lets o grant num seq hd body sealed d1 mac done y tx m d2 d3 d4 d5 d6 d7
  have hsealed : b.admits sealed.1 := by
    unfold sealed
    split
    · next f _ =>
      refine foldl_fst_admits h (fun acc q => (let s := acc.1.sealParcel f q; (s.1, acc.2 ++ s.2))) (fun acc q => ?_) _ _
      exact acc.1.admits_refl.sealParcel f q
    · exact h
  have h1 : b.admits d1 := hsealed.ite h
  clear_value d1 sealed
  have h2 : b.admits d2 := h1.withMac _
  clear_value d2
  have h3 : b.admits d3 := by
    unfold d3
    split
    · exact h2.takeSend _ _
    · exact h2
  clear_value d3
  have h4 : b.admits d4 := by
    refine h3.foldl _ _ fun e q => ?_
    split
    · exact e.admits_refl.noteAttempt _ _
    · exact e.admits_refl
  clear_value d4
  have h5 : b.admits d5 := by
    unfold d5
    split
    · exact (((h4.modNode _ _).noteBody _ _ _ _).modExt _ _).ite ((h4.modNode _ _).noteBody _ _ _ _)
    · exact h4
  clear_value d5 grant
  have h6 : b.admits d6 := h5.ite (h5.inc _ (lineReg_of_le (by decide)))
  clear_value d6
  have h7 : b.admits d7 := by
    unfold d7
    split
    · exact (h6.sendPiece _ _ _ _).ite h6
    · exact h6
  exact (h7.putTx _).set _ _ (lineReg_of_le (by decide))

end

theorem Block.admits_admitFirst (a : AdmitChoice) (b : Block) (l : List Plan) (waiting : List (List Nat × Nat)) :
    b.admits (b.admitFirst a l waiting) := by
  induction l generalizing b waiting with
  | nil => exact b.admits_refl
  | cons p rest ih =>
    unfold Block.admitFirst
    split
    · exact ih b _
    · extract_lets p0 waiting'
      split
      · exact (b.admits_refl.contend p a).trans (ih _ _)
      · exact (b.admits_refl.deferPlan p _).trans (ih _ _)
      · split
        · exact (b.admits_refl.poisoned _ _).endWaitingSend _ _ _
        · split
          · split
            · next hs => exact (Block.admits.seize b.admits_refl (Option.ite_none_left_eq_some.1 hs).2).admitPlan _ _ _ _
            · exact (b.admits_refl.awaitEngine _ _).trans (ih _ _)
          · exact b.admits_refl.admitPlan _ _ _ _

section
variable {b c : Block} (h : b.admits c)
include h

theorem Block.admits.admitFixed (x : Nat) (p : Plan) (start : Bearing) : b.admits (c.admitFixed x p start) := by
  unfold Block.admitFixed
  extract_lets q o swap m d1 d2 left keep m2
  have h1 : b.admits d1 := h.withMac _
  have h2 : b.admits d2 := h1.trans (Block.admits_admitFirst _ _ _ _)
  exact h2.withMac _

theorem Block.admits.rdvPlan (x : Nat) : b.admits (c.rdvPlan x).1 := by
  unfold Block.rdvPlan
  extract_lets short waiting first ready port p o d
  have hd : b.admits d := h.offer _
  clear_value first waiting ready d
  rcases first with - | o
  · dsimp only
    split
    · exact h
    · exact hd
  · exact h

theorem Block.admits.sendWake (x k : Nat) (start : Bearing) : b.admits (c.sendWake x k start) := (h.offer _).admitFixed _ _ _

theorem Block.admits.wake (x : Nat) (start : Bearing) : b.admits (c.wake x start) := by
  unfold Block.wake
  extract_lets out
  split
  · exact h
  · exact h.ite ((h.sendWake _ _ _).ite ((h.rdvPlan x).admitFixed _ _ _))

end

end Sys2Proof.Machine

/-!
Re-seats (R110, R111).
-/

namespace Sys2Proof.Machine

theorem Block.onLine.discover {b c : Block} (h : b.onLine c) (t : Nat) : b.onLine (c.discover t) := by
  unfold Block.discover
  exact (h.withMac _).set _ _ (lineReg_of_le (by simp only [Reg.MAC_TRIAD]; omega))

/-! ### What a re-seat does around its step leaves the bearing alone -/

/-- The bearing and the register of its state as they were. -/
structure Block.keepsBearing (b c : Block) : Prop where
  now : c.brg.now = b.brg.now
  status : c.rd Reg.BRG_STATUS = b.rd Reg.BRG_STATUS

theorem status_ne {off : Nat} (h : off ≠ 0x40008) : Reg.BRG_STATUS ≠ off := fun e => h e.symm

theorem Block.keepsBearing_refl (b : Block) : b.keepsBearing b := ⟨rfl, rfl⟩

section
variable {b c : Block} (h : b.keepsBearing c)
include h

theorem Block.keepsBearing.trans {d : Block} (h' : c.keepsBearing d) : b.keepsBearing d :=
  ⟨h'.now.trans h.now, h'.status.trans h.status⟩

theorem Block.keepsBearing.of_eq {c' : Block} (hbrg : c'.brg = c.brg) (hregs : c'.regs = c.regs) : b.keepsBearing c' :=
  ⟨(congrArg (fun x : BearingSt => x.now) hbrg).trans h.now, (Block.rd_of_regs hregs _).trans h.status⟩

theorem Block.keepsBearing.admits {d : Block} (hd : c.admits d) : b.keepsBearing d :=
  ⟨hd.now.trans h.now, (hd.regs _ (by unfold lineReg; decide)).trans h.status⟩

theorem Block.keepsBearing.onLine {d : Block} (hd : c.onLine d) : b.keepsBearing d := h.admits hd.admits

theorem Block.keepsBearing.set (f : Field) (v : Nat) (hf : Reg.BRG_STATUS ≠ f.off) : b.keepsBearing (c.set f v) :=
  ⟨h.now, (Block.rd_set_other _ _ _ _ hf).trans h.status⟩

theorem Block.keepsBearing.withImg (x : ImgSt) : b.keepsBearing { c with img := x } := h.of_eq rfl rfl

theorem Block.keepsBearing.withChain (x : ChainSt) : b.keepsBearing { c with chain := x } := h.of_eq rfl rfl

theorem Block.keepsBearing.withDtm (x : DatumSt) : b.keepsBearing { c with dtm := x } := h.of_eq rfl rfl

theorem Block.keepsBearing.ite {p : Prop} [Decidable p] {d : Block} (h' : b.keepsBearing d) :
    b.keepsBearing (if p then c else d) := by
  split
  · exact h
  · exact h'

theorem Block.keepsBearing.foldl {α : Type} (f : Block → α → Block) (l : List α)
    (hf : ∀ (d : Block) (x : α), d.keepsBearing (f d x)) : b.keepsBearing (l.foldl f c) := by
  induction l generalizing c with
  | nil => exact h
  | cons x l ih => exact ih (h.trans (hf c x))

theorem Block.keepsBearing.setAll (fs : List (Field × Nat)) (hf : ∀ p ∈ fs, Reg.BRG_STATUS ≠ p.1.off) :
    b.keepsBearing (c.setAll fs) := by
  induction fs generalizing c with
  | nil => exact h
  | cons p fs ih =>
    rw [Block.setAll_cons]
    exact ih (h.set _ _ (hf p (by simp))) fun q hq => hf q (by simp [hq])

theorem Block.keepsBearing.raiseFixed (v : Nat) : b.keepsBearing (c.raiseFixed v) :=
  h.of_eq (Block.raiseFixed_brg _ _) (Block.raiseFixed_regs _ _)

theorem Block.keepsBearing.post (code sev src : Nat) (args : List (Nat × Nat)) : b.keepsBearing (c.post code sev src args) :=
  h.onLine (c.onLine_refl.post _ _ _ _)

theorem Block.keepsBearing.restartNoise : b.keepsBearing c.restartNoise := ⟨h.now, h.status⟩

theorem Block.keepsBearing.discoverAll : b.keepsBearing c.discoverAll := by
  exact h.foldl _ _ fun d t => d.keepsBearing_refl.onLine (d.onLine_refl.discover t)

theorem Block.keepsBearing.cyclePassed (old : Bearing) : b.keepsBearing (c.cyclePassed old) := by
  unfold Block.cyclePassed
  refine h.ite ?_
  unfold Block.applyNoiseThresholds
  split
  · refine (h.withImg _).setAll _ ?_
    simp
  · exact h

theorem Block.keepsBearing.sendVerdict (op verdict cause : Nat) (at_ : Bearing) :
    b.keepsBearing (c.sendVerdict op verdict cause at_) := h.onLine (c.onLine_refl.sendCell _ _ _ _)

theorem Block.keepsBearing.swapAbort (cause : Nat) : b.keepsBearing (c.swapAbort cause) := by
  unfold Block.swapAbort
  split
  · exact h
  · extract_lets x d e
    have hd : b.keepsBearing d := h.of_eq rfl rfl
    have he : b.keepsBearing e := hd.setAll _ (by simp)
    exact (he.raiseFixed 6).post _ _ _ _

theorem Block.keepsBearing.abortSwapAll (cause : Nat) : b.keepsBearing (c.abortSwapAll cause) := by
  unfold Block.abortSwapAll
  split
  · exact ((h.sendVerdict _ _ _ _).ite h).swapAbort cause
  · exact h

theorem Block.keepsBearing.opAbort (cause : Nat) : b.keepsBearing (c.opAbort cause) := by
  unfold Block.opAbort
  split
  · exact h
  · exact ((h.withChain _).setAll _ (by simp)).raiseFixed 7

theorem Block.keepsBearing.abortOpAll (cause : Nat) : b.keepsBearing (c.abortOpAll cause) := by
  unfold Block.abortOpAll
  split
  · exact ((h.sendVerdict _ _ _ _).ite h).opAbort cause
  · exact h

theorem Block.keepsBearing.abortSkipped (old : Bearing) (step : Nat) : b.keepsBearing (c.abortSkipped old step) := by
  unfold Block.abortSkipped
  extract_lets inside d
  have hd : b.keepsBearing d := by
    unfold d
    split
    · exact (h.abortSwapAll 4).ite h
    · exact h
  clear_value d
  split
  · exact (hd.abortOpAll 4).ite hd
  · exact hd

theorem Block.keepsBearing.cairnsPassed (old : Bearing) (step : Nat) : b.keepsBearing (c.cairnsPassed old step) := by
  refine h.foldl _ _ fun d n => ?_
  dsimp only
  exact Block.keepsBearing.ite (d.keepsBearing_refl.foldl _ _ fun e t => e.keepsBearing_refl.onLine (e.onLine_refl.passCairns t n))
    d.keepsBearing_refl

theorem Block.keepsBearing.alarmSkipped (k : Nat) : b.keepsBearing (c.alarmSkipped k) := by
  unfold Block.alarmSkipped Block.alarmFires
  have harm : b.keepsBearing (c.set (Reg.BRG_AL_HI_ARM k) 0) := h.set _ _ (status_ne (by simp only [Reg.BRG_AL_HI]; omega))
  have hstat : Reg.BRG_STATUS ≠ Reg.BRG_AL_STAT k := status_ne (by simp only [Reg.BRG_AL_STAT]; omega)
  exact ((harm.set _ _ (by exact hstat)).raiseFixed _).ite (harm.set _ _ hstat)

theorem Block.keepsBearing.tpSkipped (j reached : Nat) : b.keepsBearing (c.tpSkipped j reached) := by
  have hreg : ∀ off, 0x50000 ≤ off → Reg.BRG_STATUS ≠ off := fun off hoff => status_ne (by omega)
  have hstat : Reg.BRG_STATUS ≠ Reg.DTM_TP_STAT j := hreg _ (by simp only [Reg.DTM_TP_STAT]; omega)
  unfold Block.tpSkipped
  extract_lets d
  have hd : b.keepsBearing d := (((h.withDtm _).set _ _ hstat).set _ _ hstat).ite (h.set _ _ hstat)
  clear_value d
  refine Block.keepsBearing.ite ?_ (hd.set _ _ (hreg _ (by simp only [Reg.DTM_TP_CTRL]; omega)))
  have h0 : Reg.BRG_STATUS ≠ Reg.DTM_TP_T0 j := hreg _ (by simp only [Reg.DTM_TP_T0]; omega)
  have h1 : Reg.BRG_STATUS ≠ Reg.DTM_TP_T1 j := hreg _ (by simp only [Reg.DTM_TP_T1]; omega)
  have h2 : Reg.BRG_STATUS ≠ Reg.DTM_TP_T2 j := hreg _ (by simp only [Reg.DTM_TP_T2]; omega)
  unfold Block.setTpTarget
  exact (hd.setAll _ (by simp [h0, h1])).ite (hd.setAll _ (by simp [h0, h1, h2]))

theorem Block.keepsBearing.skipEvents (events : List (Nat × Skipped)) (step : Nat) :
    b.keepsBearing (events.foldl (fun b x => match x.2 with
      | .alarm k => b.alarmSkipped k
      | .rendezvous node => b.rendezvousLate node
      | .pulse j => b.tpSkipped j (targetsPassed x.1 (b.get (Reg.DTM_TP_PERIOD_PERIOD j)) 0 step)) c) := by
  refine h.foldl _ _ fun d x => ?_
  split
  · exact d.keepsBearing_refl.alarmSkipped _
  · exact d.keepsBearing_refl.admits (d.admits_refl.wake _ _)
  · exact d.keepsBearing_refl.tpSkipped _ _

end

theorem Block.applyReseat_shows (b : Block) (step : Nat) :
    (b.applyReseat step).brg.now = b.brg.now + BitVec.ofNat 48 step ∧ (b.applyReseat step).rd Reg.BRG_STATUS = b.rd Reg.BRG_STATUS := by
  unfold Block.applyReseat
  extract_lets old new busy d1 x d2 d3 d4 d5 d6 d7 d8
  have h1 : b.keepsBearing d1 := b.keepsBearing_refl.foldl _ _ fun d _ => d.keepsBearing_refl.onLine (d.onLine_refl.dropReception _)
  have hnow : d2.brg.now = b.brg.now + BitVec.ofNat 48 step := rfl
  have hstatus : d2.rd Reg.BRG_STATUS = b.rd Reg.BRG_STATUS := h1.status
  clear_value d2
  have h3 : d2.keepsBearing d3 := (d2.keepsBearing_refl.set _ _ (by decide)).set _ _ (by decide)
  have h4 : d2.keepsBearing d4 := (h3.set _ _ (by decide)).set _ _ (by decide)
  have h5 : d2.keepsBearing d5 := (h4.set _ _ (by decide)).set _ _ (by decide)
  have h6 : d2.keepsBearing d6 := (h5.post _ _ _ _).restartNoise.discoverAll
  have h7 : d2.keepsBearing d7 := (h6.cyclePassed _).abortSkipped _ _
  have h8 : d2.keepsBearing d8 := h7.cairnsPassed _ _
  have h9 := h8.skipEvents (d8.skippedEvents old step) step
  exact ⟨h9.now.trans hnow, h9.status.trans hstatus⟩

/-! ### The re-seat -/

/-- What the re-seat clears before it judges the error. -/
def Block.seated (b : Block) : Block := b.set Reg.BRG_STATUS_RESEAT_PENDING 0

theorem Block.seated_pending (b : Block) : b.seated.get Reg.BRG_STATUS_RESEAT_PENDING = 0 :=
  Block.get_set_same _ _ _ (by decide)

theorem Block.seated_get (b : Block) (f : Field) (h : Reg.BRG_STATUS_RESEAT_PENDING.apart f) : b.seated.get f = b.get f :=
  Block.get_set_apart _ _ _ _ (by decide) h

theorem Block.mainsError_congr {b c : Block} (hbrg : c.brg = b.brg) (hticks : c.ticks = b.ticks)
    (hget : ∀ f : Field, Reg.BRG_STATUS_RESEAT_PENDING.apart f → c.get f = b.get f) : c.mainsError = b.mainsError := by
  have hsrc := hget Reg.BRG_STATUS_SRC (by decide)
  have hinput : c.steerInput = b.steerInput := by
    unfold Block.steerInput
    rw [hsrc, hget Reg.BRG_REF_ALT (by decide), hget Reg.BRG_REF_SEL (by decide)]
  have hfreq : c.freq = b.freq := by
    unfold Block.freq Block.on
    rw [hget Reg.BRG_FREQ_FREQ (by decide), hget Reg.BRG_CTRL_NOM (by decide)]
  have htrim : c.trim b.steerInput = b.trim b.steerInput := by
    unfold Block.trim
    rw [hget (Reg.BRG_TRIM_TRIM _) (Or.inl (show (0x40008 : Nat) ≠ 0x40100 + 0x4 * _ by omega))]
  unfold Block.mainsError Block.mainsAngle Block.steerOffset Block.tickSpan Block.sensed
  rw [hinput, hsrc, hfreq, htrim, hbrg, hticks]

theorem Block.seated_mainsError (b : Block) : b.seated.mainsError = b.mainsError :=
  Block.mainsError_congr rfl rfl b.seated_get

/-- What a re-seat waits for has passed: the flag is cleared, the frequency measured, and the error judged. -/
theorem Block.reseat_eq {b : Block} (hp : b.on Reg.BRG_STATUS_RESEAT_PENDING = true) (hb : b.transmitting = false)
    (hf : b.brg.state ≠ .follow) : b.reseat =
      if 8192 < b.mainsError.natAbs then
        ((b.seated.measure b.seated.steerInput).applyReseat
          (if 0 < b.mainsError then b.mainsError.toNat else (65536 + b.mainsError).toNat)).lockNow 0
      else (b.seated.measure b.seated.steerInput).startSlew b.mainsError := by
  unfold Block.reseat
  rw [hp, hb, if_neg (by decide)]
  extract_lets d x y z e d2
  have hd : d = b.seated := rfl
  have he : e = b.mainsError := b.seated_mainsError
  have hd2 : d2 = d.measure d.steerInput := rfl
  clear_value d e d2
  subst hd he hd2
  exact if_neg hf

theorem Block.measure_brg (b : Block) (n : Nat) : (b.measure n).brg = b.brg := by
  unfold Block.measure
  split
  · rfl
  · exact Block.set_brg _ _ _

theorem Block.measure_get (b : Block) (n : Nat) (f : Field) (hf : f.off ≠ Reg.BRG_FREQ) : (b.measure n).get f = b.get f := by
  unfold Block.measure
  split
  · rfl
  · exact Block.get_of_rd (Block.rd_set_other _ _ _ _ hf)

theorem Block.measure_keepsBut {b c : Block} {offs : List Nat} (h : b.keepsBut c offs) (n : Nat) (hf : Reg.BRG_FREQ ∈ offs) :
    b.keepsBut (c.measure n) offs := by
  unfold Block.measure
  split
  · exact h
  · exact h.set _ hf

/-- A slew is begun, or within 64 bu the lock taken at once. -/
theorem Block.startSlew_shows (b : Block) (e : Int) : (b.startSlew e).brg.now = b.brg.now ∧
    ((b.startSlew e).brg.state = .locked ∨ (b.startSlew e).brg.state = .slew) ∧
    (b.startSlew e).get Reg.BRG_STATUS_RESEAT_PENDING = b.get Reg.BRG_STATUS_RESEAT_PENDING := by
  unfold Block.startSlew
  split
  · obtain ⟨-, -, hpend⟩ := b.lockNow_shows e
    rw [Block.lockNow_brg]
    exact ⟨rfl, Or.inl rfl, hpend⟩
  · exact ⟨rfl, Or.inr rfl, b.get_setBrg_other _ _ (by decide)⟩

theorem Block.startSlew_keepsBut {b c : Block} {offs : List Nat} (h : b.keepsBut c offs) (e : Int) (hs : Reg.BRG_STATUS ∈ offs) :
    b.keepsBut (c.startSlew e) offs := by
  unfold Block.startSlew
  split
  · exact Block.lockNow_keepsBut h e hs
  · exact (h.setBrg .slew hs).of_regs rfl

theorem Block.mainsError_range (b : Block) : -32768 ≤ b.mainsError ∧ b.mainsError < 32768 := by
  unfold Block.mainsError reduceAngle signedOf
  omega

theorem Block.reseatStep_eq (b : Block) :
    BitVec.ofNat 48 (if 0 < b.mainsError then b.mainsError.toNat else (65536 + b.mainsError).toNat) =
      BitVec.ofInt 48 (if 0 < b.mainsError then b.mainsError else 65536 + b.mainsError) := by
  obtain ⟨hlo, -⟩ := b.mainsError_range
  rw [← BitVec.ofInt_natCast]
  congr 1
  split <;> omega

theorem completes_reseat_waits {s : State} (h : (!s.blk.on Reg.BRG_STATUS_RESEAT_PENDING || s.blk.transmitting) = true) :
    Completes .reseat s fun b => b.brg = s.blk.brg ∧ s.blk.keepsBut b [Reg.SP_STAT 1] := by
  refine completes_of_next (b := s.blk.reseat) rfl ?_
  unfold Block.reseat
  rw [if_pos h]
  exact ⟨Block.gated_brg _, Block.keepsBut_gated_of_regs rfl⟩

/-- Settles O24: the re-seat waits, is abandoned, or steps. -/
theorem reseatStepsForwardOnly : Obligations.ReseatStepsForwardOnly := by
  refine ⟨fun s hp => completes_reseat_waits (by simp [hp]), fun s hp hf => ⟨fun hb => completes_reseat_waits (by simp [hb]),
    fun hb he => ?_, fun hb he => ?_⟩⟩
  · refine completes_of_next (b := s.blk.reseat) rfl ?_
    rw [Block.reseat_eq hp hb hf, if_neg (by omega), Block.gated_brg]
    obtain ⟨hnow, hstate, hpend⟩ := (s.blk.seated.measure s.blk.seated.steerInput).startSlew_shows s.blk.mainsError
    refine ⟨?_, ?_, hstate, ?_⟩
    · unfold Block.on
      rw [Block.gated_get_other _ _ (by decide), hpend, Block.measure_get _ _ _ (by decide), Block.seated_pending]
      rfl
    · rw [hnow, Block.measure_brg]
      rfl
    · refine Block.keepsBut.gated (Block.startSlew_keepsBut (Block.measure_keepsBut ?_ _ (by simp)) _ (by simp)) (by simp)
      exact (s.blk.keepsBut_refl _).set _ (by simp)
  · refine completes_of_next (b := s.blk.reseat) rfl ?_
    rw [Block.reseat_eq hp hb hf, if_pos he, Block.gated_brg]
    generalize hstep : (if 0 < s.blk.mainsError then s.blk.mainsError.toNat else (65536 + s.blk.mainsError).toNat) = step
    obtain ⟨hnow, hstatus⟩ := (s.blk.seated.measure s.blk.seated.steerInput).applyReseat_shows step
    obtain ⟨-, -, hpend⟩ := ((s.blk.seated.measure s.blk.seated.steerInput).applyReseat step).lockNow_shows 0
    rw [Block.lockNow_brg]
    refine ⟨rfl, ?_, ?_⟩
    · unfold Block.on
      rw [Block.gated_get_other _ _ (by decide), hpend, Block.get_of_rd hstatus, Block.measure_get _ _ _ (by decide),
        Block.seated_pending]
      rfl
    · rw [← s.blk.reseatStep_eq, hstep]
      refine hnow.trans ?_
      rw [Block.measure_brg]
      rfl

end Sys2Proof.Machine

/-!
Start-up (R67, R538, R580): the straps, the self-tests, the entry to SERVICE.
-/

namespace Sys2Proof.Machine

/-! ### The result of the self-tests is kept -/

section
variable (b : Block)

theorem Block.journalWrite_selfOk (r : FbRecord) (k : Nat) (hours age : Word) :
    (b.journalWrite r k hours age).fault.selfOk = b.fault.selfOk := by
  unfold Block.journalWrite
  extract_lets
  split
  · rw [Block.pend_fault, Block.inc_fault]
  · rw [Block.setAll_fault]

theorem Block.post_selfOk (code sev src : Nat) (args : List (Nat × Nat)) :
    (b.post code sev src args).fault.selfOk = b.fault.selfOk := by
  unfold Block.post
  extract_lets made kept
  have hkept : kept.fault.selfOk = b.fault.selfOk := by rw [Block.takeSlot_fault]
  clear_value kept
  rw [Block.notifyRecord_fault]
  split
  · rw [Block.journalWrite_selfOk, hkept]
  · exact hkept

theorem Block.swapAbort_selfOk (cause : Nat) : (b.swapAbort cause).fault.selfOk = b.fault.selfOk := by
  unfold Block.swapAbort
  split
  · rfl
  · rw [Block.post_selfOk, Block.raiseFixed_fault, Block.setAll_fault]

theorem Block.opAbort_selfOk (cause : Nat) : (b.opAbort cause).fault.selfOk = b.fault.selfOk := by
  unfold Block.opAbort
  split
  · rfl
  · rw [Block.raiseFixed_fault, Block.setAll_fault]

theorem Block.abortSwapAll_selfOk (cause : Nat) : (b.abortSwapAll cause).fault.selfOk = b.fault.selfOk := by
  unfold Block.abortSwapAll
  split
  · dsimp only
    rw [Block.swapAbort_selfOk]
    split
    · rw [Block.sendVerdict_fault]
    · rfl
  · rfl

theorem Block.abortOpAll_selfOk (cause : Nat) : (b.abortOpAll cause).fault.selfOk = b.fault.selfOk := by
  unfold Block.abortOpAll
  split
  · dsimp only
    rw [Block.opAbort_selfOk]
    split
    · rw [Block.sendVerdict_fault]
    · rfl
  · rfl

theorem Block.recordDefaulted_selfOk : b.recordDefaulted.fault.selfOk = b.fault.selfOk := by
  unfold Block.recordDefaulted
  split
  · rw [Block.post_selfOk]
  · rfl

theorem Block.lifeEntry_selfOk : b.lifeEntry.fault.selfOk = b.fault.selfOk := b.journalWrite_selfOk _ _ _ _

theorem Block.setDev_selfOk (d : DevState) : (b.setDev d).fault.selfOk = b.fault.selfOk := by
  unfold Block.setDev
  split
  · rfl
  · dsimp only
    rw [Block.raiseFixed_fault]
    split <;> rfl

theorem Block.enterQuiet_selfOk (cause : Nat) : (b.enterQuiet cause).fault.selfOk = b.fault.selfOk := by
  unfold Block.enterQuiet
  extract_lets prior d1 d2 d3 d4
  have h1 : d1.fault.selfOk = b.fault.selfOk := by
    unfold d1
    rw [Block.discardShadow_fault, Block.abortOpAll_selfOk, Block.abortSwapAll_selfOk]
  clear_value d1 prior
  have h2 : d2.fault = d1.fault := by
    unfold d2
    rw [Block.silenceOutputs_fault, Block.closeBypasses_fault, Block.stopTransmitting_fault]
  clear_value d2
  have h3 : d3.fault.selfOk = d2.fault.selfOk := by
    unfold d3
    rw [Block.setDev_selfOk, Block.set_fault]
  clear_value d3
  have h4 : d4.fault = d3.fault := by
    unfold d4
    rw [Block.refreshLoops_fault, Block.refreshPorts_fault]
  clear_value d4
  rw [Block.lifeEntry_selfOk, Block.post_selfOk, Block.recordDefaulted_selfOk, h4, h3, h2, h1]

theorem Block.doubts_selfOk (codes : List Nat) : (b.doubts codes).fault.selfOk = b.fault.selfOk := by
  unfold Block.doubts
  split
  · rfl
  · rw [foldl_part (fun c : Block => c.fault.selfOk) _ (fun c x => c.post_selfOk _ _ _ _), Block.enterQuiet_selfOk]

theorem Block.selfTest_selfOk (t : SelfTest) : (b.selfTest t).fault.selfOk = true := by
  unfold Block.selfTest
  extract_lets
  rw [Block.doubts_selfOk, Block.refreshLoops_fault]

end

/-! ### The entry to SERVICE -/

section
variable {b c : Block} (h : b.admits c)
include h

theorem Block.admits.refreshPorts : b.admits c.refreshPorts := by
  have hreg : ∀ off, ¬ lineReg off → ∀ n, off ≠ Reg.LP_STATUS n := fun off hoff n e => by
    subst e
    exact hoff (lineReg_of_le (by simp only [Reg.LP_STATUS]; omega))
  refine ⟨(Block.refreshPorts_dev _).trans h.dev, (Block.refreshPorts_ticks _).trans h.ticks, (Block.refreshPorts_img _).trans h.img,
    ?_, fun off hoff => (Block.rd_refreshPorts _ _ (hreg off hoff)).trans (h.regs off hoff)⟩
  unfold Block.bearingParts
  rw [Block.refreshPorts_brg]
  exact h.brg

theorem Block.admits.refreshLoops : b.admits c.refreshLoops := by
  have hreg : ∀ off, ¬ lineReg off → ∀ n, off ≠ Reg.SS_LOOP_STAT n ∧ off ≠ Reg.SS_LOOP_FLAGS n := fun off hoff n => by
    constructor <;> rintro rfl
    · exact hoff (lineReg_of_le (by simp only [Reg.SS_LOOP_STAT]; omega))
    · exact hoff (lineReg_of_le (by simp only [Reg.SS_LOOP_FLAGS]; omega))
  refine ⟨(Block.refreshLoops_dev _).trans h.dev, (Block.refreshLoops_ticks _).trans h.ticks, (Block.refreshLoops_img _).trans h.img,
    ?_, fun off hoff => (Block.rd_refreshLoops _ _ (fun n => (hreg off hoff n).1) fun n => (hreg off hoff n).2).trans
      (h.regs off hoff)⟩
  unfold Block.bearingParts
  rw [Block.refreshLoops_brg]
  exact h.brg

theorem Block.admits.withSerial (x : Store SerialPort) : b.admits { c with serial := x } := h.of_eq rfl rfl rfl rfl rfl

theorem Block.admits.withChain (x : ChainSt) : b.admits { c with chain := x } := h.of_eq rfl rfl rfl rfl rfl

theorem Block.admits.setSp (p : Nat) (x : SerialPort) : b.admits (c.setSp p x) := by
  have hstat : lineReg (Reg.SP_STAT p) := lineReg_of_le (by simp only [Reg.SP_STAT]; omega)
  unfold Block.setSp
  refine Block.admits.setAll (h.withSerial _) _ ?_
  simp [hstat]

theorem Block.admits.setDe (p : Nat) (on : Bool) : b.admits (c.setDe p on) := by
  unfold Block.setDe
  refine h.ite ?_
  extract_lets x d
  have hd : b.admits d := (h.setSp _ _).ite h
  exact hd.set _ _ (lineReg_of_le (by decide))

theorem Block.admits.hushSp (p : Nat) : b.admits (c.hushSp p) := (h.setSp _ _).setDe _ _

theorem Block.admits.loadShifter (p : Nat) : b.admits (c.loadShifter p) := by
  unfold Block.loadShifter
  extract_lets x under
  refine h.ite (((h.setSp _ _).setDe _ _).ite ?_)
  split
  · exact h
  · exact (h.setSp _ _).setDe _ _

theorem Block.admits.serialFollow : b.admits c.serialFollow := by
  have hfollow : ∀ (d : Block) (p : Nat), d.admits (if d.dev == .hold && d.on (Reg.SP_CTRL_ENABLE p) && !d.oscillator then d
      else if d.spActive p then d.loadShifter p else d.hushSp p) := fun d p =>
    d.admits_refl.ite ((d.admits_refl.loadShifter p).ite (d.admits_refl.hushSp p))
  exact (h.trans (hfollow c 0)).trans (hfollow _ 1)

theorem Block.admits.discoverAll : b.admits c.discoverAll := h.foldl _ _ fun d t => (d.onLine_refl.discover t).admits

theorem Block.admits.restartCoupler (n : Nat) : b.admits (c.restartCoupler n) :=
  h.trans ((c.onLine_refl.setPort n _).set _ _ (lineReg_of_le (by simp only [Reg.SND_CPL_BASE]; omega))).admits

theorem Block.admits.emptyReplica : b.admits c.emptyReplica := by
  unfold Block.emptyReplica
  extract_lets x y d
  have hd : b.admits d := h.of_eq rfl rfl rfl rfl rfl
  exact (hd.refreshPage _).refreshCounts

theorem Block.admits.initialCopy : b.admits c.initialCopy := by
  unfold Block.initialCopy
  extract_lets d1 d2 d3 d4 d5 d6 d7 set d8
  have h1 : b.admits d1 := h.foldl _ _ fun d _ => d.admits_refl.replicate _ _ _ _
  have h2 : b.admits d2 := h1.foldl _ _ fun d _ => d.admits_refl.replicate _ _ _ _
  have h3 : b.admits d3 := h2.foldl _ _ fun d _ => d.admits_refl.replicate _ _ _ _
  have h4 : b.admits d4 := h3.foldl _ _ fun d _ => d.admits_refl.replicate _ _ _ _
  have h5 : b.admits d5 := h4.foldl _ _ fun d _ => d.admits_refl.foldl _ _ fun e _ => e.admits_refl.replicate _ _ _ _
  have h6 : b.admits d6 := h5.foldl _ _ fun d _ => d.admits_refl.foldl _ _ fun e _ => e.admits_refl.replicate _ _ _ _
  have h7 : b.admits d7 := h6.foldl _ _ fun d _ => d.admits_refl.sendPiece _ _ _ _
  have h8 : b.admits d8 := by
    refine h7.foldl _ _ fun d t => ?_
    extract_lets e m f
    have he : d.admits f := (d.admits_refl.replicate _ _ _ _).replicate _ _ _ _
    clear_value f
    split
    · exact he.replicate _ _ _ _
    · exact he
  exact h8.sendPiece _ _ _ _

theorem Block.admits.refreshLinked : b.admits c.refreshLinked := by
  unfold Block.refreshLinked
  extract_lets up d
  have hd : b.admits d := h.set _ _ (lineReg_of_le (by decide))
  clear_value d
  exact h.ite ((hd.withChain _).ite (hd.initialCopy.ite hd.emptyReplica))

theorem Block.admits.refreshRemote : b.admits c.refreshRemote := by
  refine h.foldl _ _ fun d n => ?_
  dsimp only
  refine d.admits_refl.ite (Block.admits.post ?_ _ _ _ _)
  exact d.admits_refl.set _ _ (lineReg_of_le (by decide))

theorem Block.admits.refreshChain : b.admits c.refreshChain := by
  unfold Block.refreshChain
  refine (h.refreshLinked.setAll _ ?_).refreshRemote
  simp [show lineReg Reg.CHN_STAT from lineReg_of_le (by decide)]

end

theorem Block.enterService_shows {b : Block} (hhold : b.on Reg.GLB_CTRL_HOLD_EN = false) : b.enterService.dev = .service ∧
    ∀ set, b.img.active = some set → set.flags.getLsbD 0 = true → b.enterService.get Reg.CFG_STATUS_SEALED = 1 := by
  unfold Block.enterService
  extract_lets d1 flags d2 d3
  have hdev1 : d1.dev = .service := b.setDev_dev _
  have hget1 : ∀ f, d1.get f = b.get f := fun f => Block.get_of_regs (b.setDev_regs _) f
  have hflags : ∀ set, b.img.active = some set → flags = set.flags := fun set hset => by
    unfold flags d1
    rw [Block.setDev_img, hset]
    rfl
  clear_value d1 flags
  have hdev2 : d2.dev = .service := by
    unfold d2
    split
    · rw [Block.set_dev, hdev1]
    · exact hdev1
  have hhold2 : d2.get Reg.GLB_CTRL_HOLD_EN = b.get Reg.GLB_CTRL_HOLD_EN := by
    rw [← hget1]
    unfold d2
    split
    · exact Block.get_of_rd (Block.rd_set_other _ _ _ _ (by decide))
    · rfl
  have hsealed2 : flags.getLsbD 0 = true → d2.get Reg.CFG_STATUS_SEALED = 1 := fun hf => by
    unfold d2
    rw [if_pos hf]
    exact Block.get_set_same _ _ _ (by decide)
  clear_value d2
  have h3 : d2.admits d3 := d2.admits_refl.foldl _ _ fun d n => d.admits_refl.restartCoupler n
  have h4 := h3.refreshPorts.refreshLoops.serialFollow.discoverAll.refreshChain
  generalize d3.refreshPorts.refreshLoops.serialFollow.discoverAll.refreshChain = d4 at h4 ⊢
  have hhold4 : d4.on Reg.GLB_CTRL_HOLD_EN = false :=
    (Block.on_congr ((h4.regs.get (by unfold lineReg; decide)).trans hhold2)).trans hhold
  have htry : d4.tryHold = d4 := by
    unfold Block.tryHold
    dsimp only
    rw [hhold4, Bool.and_false, Bool.false_and, Bool.false_and, Bool.false_and]
    rfl
  rw [htry]
  refine ⟨h4.dev.trans hdev2, fun set hset hf => ?_⟩
  rw [h4.regs.get (by unfold lineReg; decide)]
  exact hsealed2 (hflags set hset ▸ hf)

/-! ### The straps -/

theorem Block.readFlashHeader_dev (b : Block) : b.readFlashHeader.dev = b.dev := by
  unfold Block.readFlashHeader
  extract_lets h bad
  clear_value bad h
  split <;> rw [Block.setAll_dev]

theorem Block.keepsBut.withImg {b c : Block} {offs : List Nat} (h : b.keepsBut c offs) (x : ImgSt) :
    b.keepsBut { c with img := x } offs := h.of_regs rfl

theorem Block.readFlashHeader_keepsBut (b : Block) : b.keepsBut b.readFlashHeader [Reg.CFG_FLASH_SLOTS] := by
  unfold Block.readFlashHeader
  extract_lets h bad
  clear_value bad h
  split
  · exact ((b.keepsBut_refl _).withImg _).setAll (by simp)
  · exact ((b.keepsBut_refl _).withImg _).setAll (by simp)

/-- The registers that show the straps, as a release from reset samples them. -/
def Block.strapped (b : Block) (x : Straps) : Block :=
  b.setAll [(Reg.HIF_STRAPS_BOOT_SEL, x.bootSel.toNat), (Reg.HIF_STRAPS_CHAIN_RANK, x.chainRank.toNat),
    (Reg.HIF_STRAPS_CHAIN_EN, bitOf x.chainEn), (Reg.HIF_STRAPS_MGT_ADDR, x.mgtAddr.toNat),
    (Reg.HIF_STRAPS_REFCLK_SEL, bitOf x.refclkSel), (Reg.CHN_ID_RANK, x.chainRank.toNat),
    (Reg.CHN_ID_EN, bitOf x.chainEn)]

theorem Block.resetRelease_eq (b : Block) (x : Straps) : b.resetRelease x = ((b.strapped x).setDev .load).readFlashHeader := rfl

theorem Block.strapped_shows (b : Block) (x : Straps) : (b.strapped x).get Reg.HIF_STRAPS_BOOT_SEL = x.bootSel.toNat ∧
    (b.strapped x).get Reg.CHN_ID_RANK = x.chainRank.toNat ∧ (b.strapped x).get Reg.HIF_STRAPS_MGT_ADDR = x.mgtAddr.toNat ∧
    (b.strapped x).on Reg.HIF_STRAPS_CHAIN_EN = x.chainEn := by
  unfold Block.strapped Block.on
  refine ⟨?_, ?_, ?_, ?_⟩
  · rw [Block.get_setAll_head _ _ _ _ (by decide) (by simp [Field.fits, Field.apart])]
    exact Nat.mod_eq_of_lt x.bootSel.isLt
  · rw [Block.setAll_cons, Block.setAll_cons, Block.setAll_cons, Block.setAll_cons, Block.setAll_cons,
      Block.get_setAll_head _ _ _ _ (by decide) (by simp [Field.fits, Field.apart])]
    exact Nat.mod_eq_of_lt x.chainRank.isLt
  · rw [Block.setAll_cons, Block.setAll_cons, Block.setAll_cons,
      Block.get_setAll_head _ _ _ _ (by decide) (by simp [Field.fits, Field.apart])]
    exact Nat.mod_eq_of_lt x.mgtAddr.isLt
  · rw [Block.setAll_cons, Block.setAll_cons, Block.get_setAll_head _ _ _ _ (by decide) (by simp [Field.fits, Field.apart])]
    cases x.chainEn <;> rfl

theorem Block.resetRelease_get (b : Block) (x : Straps) (f : Field) (hf : f.off ≠ Reg.CFG_FLASH_SLOTS) (hsp : f.off ≠ Reg.SP_STAT 1) :
    (b.resetRelease x).gated.get f = (b.strapped x).get f := by
  rw [Block.gated_get_other _ _ hsp, b.resetRelease_eq, (Block.readFlashHeader_keepsBut _).get (by simpa using hf),
    Block.get_of_regs (Block.setDev_regs _ _)]

theorem completes_resetRelease {s : State} (x : Straps) (h : s.blk.dev = .reset) : Completes (.resetRelease x) s fun b =>
    b.dev = .load ∧ b.get Reg.HIF_STRAPS_BOOT_SEL = x.bootSel.toNat ∧ b.get Reg.CHN_ID_RANK = x.chainRank.toNat ∧
    b.get Reg.HIF_STRAPS_MGT_ADDR = x.mgtAddr.toNat ∧ b.on Reg.HIF_STRAPS_CHAIN_EN = x.chainEn := by
  refine completes_of_next (b := if s.blk.dev == .reset then s.blk.resetRelease x else s.blk) rfl ?_
  rw [if_pos (by simp [h])]
  unfold Block.on
  rw [Block.resetRelease_get _ _ _ (by decide) (by decide), Block.resetRelease_get _ _ _ (by decide) (by decide),
    Block.resetRelease_get _ _ _ (by decide) (by decide), Block.resetRelease_get _ _ _ (by decide) (by decide)]
  refine ⟨?_, s.blk.strapped_shows x⟩
  rw [Block.gated_dev, Block.resetRelease_eq, Block.readFlashHeader_dev, Block.setDev_dev]

/-- Settles O21. -/
theorem startUpGoesByItsConditions : Obligations.StartUpGoesByItsConditions := by
  intro s x t
  refine ⟨completes_resetRelease x, fun h => ?_, fun hwf h => ?_, fun hwf => ?_, fun h hhold => ?_, fun h => ?_⟩
  · refine completes_of_next (b := if s.blk.dev == .reset then s.blk.resetRelease x else s.blk) rfl ?_
    rw [if_neg (by simp [h])]
    exact ⟨Block.gated_dev _, Block.keepsBut_gated_of_regs rfl⟩
  · refine completes_of_next (b := if s.blk.dev == .settle then s.blk.selfTest t else s.blk) (if_pos hwf) ?_
    rw [if_pos (by simp [h]), Block.gated_fault]
    exact s.blk.selfTest_selfOk t
  · exact if_neg (by simp [hwf])
  · refine completes_of_next (b := if s.blk.serviceReady then s.blk.enterService else s.blk) rfl ?_
    rw [if_pos h, Block.gated_dev]
    obtain ⟨hdev, hsealed⟩ := Block.enterService_shows hhold
    refine ⟨hdev, fun set hset hflag => Block.on_of_get_one ?_⟩
    rw [Block.gated_get_other _ _ (by decide)]
    exact hsealed set hset hflag
  · refine completes_of_next (b := if s.blk.serviceReady then s.blk.enterService else s.blk) rfl ?_
    rw [if_neg (by simp [h])]
    exact ⟨Block.gated_dev _, Block.keepsBut_gated_of_regs rfl⟩

end Sys2Proof.Machine

/-!
Band budgets, their time to live and the priority-0 bound (R273, R275, R278).
-/

namespace Sys2Proof.Machine

/-! ### Completions and moves of queues keep what waits -/

/-- The commands fetched, the sends and receives that wait, and the conversations: Strata but for its queues and notices. -/
def Block.waits (b : Block) : StrataSt := { b.strata with queues := [], pausedOutcomes := [], backlog := [], notices := [] }

section
variable (b : Block)

theorem Block.waits_wr (off : Nat) (v : Word) : (b.wr off v).waits = b.waits := rfl

theorem Block.waits_set (f : Field) (v : Nat) : (b.set f v).waits = b.waits := rfl

theorem Block.waits_of_strata {c : Block} (h : c.strata = b.strata) : c.waits = b.waits := by
  unfold Block.waits
  rw [h]

theorem Block.waits_setQ (q : Nat) (st : QueueSt) : (b.setQ q st).waits = b.waits := rfl

theorem Block.waits_setPointers (q : Nat) (wr rd : Word) : (b.setPointers q wr rd).waits = b.waits := by
  unfold Block.setPointers Block.setOn
  dsimp only
  rw [Block.waits_set, Block.waits_wr, Block.waits_wr]

theorem Block.waits_countCrossings (q old : Nat) : (b.countCrossings q old).waits = b.waits := by
  refine b.waits_of_strata ?_
  unfold Block.countCrossings
  extract_lets new d
  have hd : d.strata = b.strata := by
    unfold d
    split
    · rw [Block.incSat_strata, Block.set_strata]
    · rfl
  clear_value d
  split
  · rw [Block.incSat_strata, Block.set_strata, hd]
  · exact hd

theorem Block.waits_ite {c d : Block} (p : Prop) [Decidable p] (hc : c.waits = b.waits) (hd : d.waits = b.waits) :
    (if p then c else d).waits = b.waits := by
  split
  · exact hc
  · exact hd

theorem Block.waits_raise (fn v : Nat) : (b.raise fn v).waits = b.waits := b.waits_of_strata (Block.raise_strata _ _ _)

theorem Block.waits_post (code sev src : Nat) (args : List (Nat × Nat)) : (b.post code sev src args).waits = b.waits :=
  b.waits_of_strata (Block.post_strata _ _ _ _ _)

theorem Block.waits_moveRing (q : Nat) (wr rd : Word) : (b.moveRing q wr rd).waits = b.waits := by
  unfold Block.moveRing
  extract_lets d1 vector fn hi lo d2
  have h1 : d1.waits = b.waits := (Block.waits_countCrossings _ _ _).trans (b.waits_setPointers _ _ _)
  have h2 : d2.waits = b.waits := b.waits_ite _ ((d1.waits_raise _ _).trans h1) h1
  exact b.waits_ite _ ((d2.waits_raise _ _).trans h2) h2

theorem Block.waits_postEntry (e : CplEntry) : (b.postEntry e).waits = b.waits := by
  unfold Block.postEntry
  extract_lets wr i bytes st d1 d2 d3
  have h1 : d1.waits = b.waits := b.waits_setQ _ _
  have h2 : d2.waits = b.waits := h1
  have h3 : d3.waits = b.waits := (d2.waits_moveRing _ _ _).trans h2
  exact (d3.waits_raise _ _).trans h3

theorem foldl_fst_waits {α β : Type} (f : Block × α → β → Block × α) (l : List β) (x : Block × α)
    (h : ∀ acc y, (f acc y).1.waits = acc.1.waits) : (l.foldl f x).1.waits = x.1.waits :=
  foldl_keeps (fun acc : Block × α => acc.1.waits) f l x h

theorem Block.waits_drainBacklog (fn : Nat) : (b.drainBacklog fn).waits = b.waits := by
  refine Eq.trans (b := (b.strata.backlog.foldl _ (b, [])).1.waits) rfl (foldl_fst_waits _ _ _ fun acc e => ?_)
  dsimp only
  split
  · rfl
  · exact acc.1.waits_postEntry e

theorem Block.waits_drainNotices : b.drainNotices.waits = b.waits := by
  refine Eq.trans (b := (b.strata.notices.foldl _ (b, [])).1.waits) rfl (foldl_fst_waits _ _ _ fun acc n => ?_)
  dsimp only
  split
  · split
    · rfl
    · split
      · rfl
      · exact acc.1.waits_postEntry _
  · rfl

theorem Block.waits_drain (fn : Nat) : (b.drain fn).waits = b.waits :=
  b.waits_ite _ rfl ((b.drainBacklog fn).waits_drainNotices.trans (b.waits_drainBacklog fn))

theorem Block.waits_notify (q kind : Nat) : (b.notify q kind).waits = b.waits :=
  b.waits_ite _ rfl (Block.waits_drainNotices _)

theorem Block.waits_complete (c : Cmd) (status : Nat) (result : List Byte) (flags : Nat) :
    (b.complete c status result flags).waits = b.waits := by
  unfold Block.complete
  extract_lets e
  exact b.waits_ite _ rfl (b.waits_ite _ rfl (b.waits_ite _ (Block.waits_drain _ _) (b.waits_postEntry e)))

theorem Block.waits_moveQueue (q : Nat) (wr rd : Word) : (b.moveQueue q wr rd).waits = b.waits := by
  unfold Block.moveQueue
  extract_lets d1 en hi lo d2 d3
  have h1 : d1.waits = b.waits := (Block.waits_countCrossings _ _ _).trans (b.waits_setPointers _ _ _)
  have h2 : d2.waits = b.waits := b.waits_ite _ ((d1.waits_notify _ _).trans h1) h1
  have h3 : d3.waits = b.waits := b.waits_ite _ ((d2.waits_notify _ _).trans h2) h2
  refine b.waits_ite _ ?_ h3
  rw [Block.waits_notify, Block.waits_post, Block.waits_set, Block.waits_set, h3]

theorem Block.waits_freeConsumed (q : Nat) : (b.freeConsumed q).waits = b.waits :=
  (Block.waits_moveQueue _ _ _ _).trans (b.waits_setQ _ _)

theorem Block.waits_releaseSends (q : Nat) : (b.releaseSends q).waits = b.waits := by
  unfold Block.releaseSends
  refine b.waits_ite _ ((Block.waits_freeConsumed _ _).trans (b.waits_setQ _ _)) ?_
  split <;> exact b.waits_moveQueue _ _ _

theorem Block.waits_refreshP0 : b.refreshP0.waits = b.waits := rfl

theorem Block.sends_of_waits {c : Block} (h : c.waits = b.waits) : c.strata.sends = b.strata.sends := by
  have := congrArg (fun x : StrataSt => x.sends) h
  exact this

/-- A send that ends leaves the sends in wait without it. -/
theorem Block.endWaitingSend_sends (r : SendRec) (status : Nat) (result : List Byte) :
    (b.endWaitingSend r status result).strata.sends = b.strata.sends.erase r := by
  unfold Block.endWaitingSend Block.completeSend
  have h : ∀ d : Block, ((d.complete r.cmd status result).refreshP0.releaseSends r.queue).strata.sends = d.strata.sends := fun d =>
    d.sends_of_waits ((Block.waits_releaseSends _ _).trans ((Block.waits_refreshP0 _).trans (d.waits_complete _ _ _ _)))
  exact h _

end

/-! ### Budgets past their time to live -/

/-- A frame of priority 1 to 7 that has waited its superframes by superframe `now`. -/
def pastTtl (ttl now prio : Nat) (waiting : Option Nat) : Bool :=
  0 < prio && (match waiting with
    | some sf => sf + ttl ≤ now
    | none => false)

theorem lt_of_not_pastTtl {ttl now prio sf : Nat} (h : pastTtl ttl now prio (some sf) = false) (hp : 0 < prio) : now < sf + ttl := by
  simpa [pastTtl, hp] using h

/-- Erasing one by one what a filter finds leaves what it does not. -/
theorem foldl_erase_filter {α : Type} [DecidableEq α] (p : α → Bool) (l : List α) :
    (l.filter p).foldl List.erase l = l.filter fun x => !p x := by
  induction l with
  | nil => rfl
  | cons x l ih =>
    rcases hx : p x with - | -
    · have hkeep : ∀ (ys : List α) (zs : List α), x ∉ ys → ys.foldl List.erase (x :: zs) = x :: ys.foldl List.erase zs := by
        intro ys
        induction ys with
        | nil => exact fun _ _ => rfl
        | cons y ys ih =>
          intro zs hnot
          have hne : x ≠ y := fun h => hnot (by simp [h])
          rw [List.foldl_cons, List.foldl_cons, List.erase_cons_tail (by simpa using hne), ih _ fun h => hnot (by simp [h])]
      rw [List.filter_cons_of_neg (by simp [hx]), List.filter_cons_of_pos (by simp [hx]), hkeep _ _ (by simp [hx]), ih]
    · rw [List.filter_cons_of_pos hx, List.filter_cons_of_neg (by simp [hx]), List.foldl_cons, List.erase_cons_head, ih]

theorem foldl_endWaitingSend_sends (status : Nat) (result : SendRec → List Byte) (f : Field) (l : List SendRec) (b : Block) :
    (l.foldl (fun b r => (b.inc f).endWaitingSend r status (result r)) b).strata.sends = l.foldl List.erase b.strata.sends := by
  induction l generalizing b with
  | nil => rfl
  | cons r l ih =>
    rw [List.foldl_cons, List.foldl_cons, ih, Block.endWaitingSend_sends, Block.inc_strata]

theorem Block.mac_of_core {b c : Block} (h : c.core = b.core) : c.mac = b.mac := show c.core.mac = b.core.mac by rw [h]

theorem Block.gated_offers (b : Block) : b.gated.mac.offers = b.mac.offers := by
  unfold Block.gated
  extract_lets d1 d2
  have h1 : d1.mac.offers = b.mac.offers := by
    unfold d1
    split <;> rfl
  have h2 : d2.mac.offers = b.mac.offers := by
    unfold d2
    split
    · exact h1
    · exact h1
  split
  · rw [Block.muteOutputs_mac, h2]
  · exact h2

/-- `c` comes from `b` by dropping sends. -/
structure Block.drops (b c : Block) : Prop where
  sends : ∀ r ∈ c.strata.sends, r ∈ b.strata.sends
  core : c.core = b.core

theorem Block.drops_refl (b : Block) : b.drops b := ⟨fun _ h => h, rfl⟩

theorem Block.drops.foldl {α : Type} {b c : Block} (h : b.drops c) (f : Block → α → Block) (l : List α)
    (hf : ∀ (d : Block) (x : α), d.drops (f d x)) : b.drops (l.foldl f c) := by
  induction l generalizing c with
  | nil => exact h
  | cons x l ih => exact ih ⟨fun r hr => h.sends r ((hf c x).sends r hr), (hf c x).core.trans h.core⟩

theorem Block.core_withStrata (b : Block) (x : StrataSt) : ({ b with strata := x } : Block).core = b.core := rfl

/-- One parcel dropped: its send is gone, and completed. -/
def Block.dropParcel (o : Offer) (b : Block) (p : OutParcel) : Block :=
  let b := b.inc Reg.PT_BUDGET_DROP_COUNT
  match p.send with
  | some c =>
    let b := { b with strata := { b.strata with sends := b.strata.sends.filter fun r => r.cmd != c } }
    b.complete c stBudgetWait (sendResult p.pseq o.attempts 0)
  | none => b

theorem Block.drops_dropParcel (b : Block) (o : Offer) (p : OutParcel) : b.drops (Block.dropParcel o b p) := by
  unfold Block.dropParcel
  dsimp only
  split
  · next c _ =>
    refine ⟨fun r hr => ?_, ?_⟩
    · rw [Block.sends_of_waits _ (Block.waits_complete _ _ _ _ _)] at hr
      exact (List.mem_filter.1 hr).1
    · rw [Block.core_complete]
      exact (Block.core_withStrata _ _).trans (b.core_inc _)
  · exact ⟨fun _ h => h, Block.core_inc _ _⟩

/-- The block with the sends of its rings past their time to live ended. -/
def Block.endOldSends (b : Block) : Block :=
  (b.strata.sends.filter fun r => !r.taken && pastTtl (b.get Reg.PT_TTL_BUDGET_TTL) b.superframe r.prio r.waiting).foldl
    (fun b r => (b.inc Reg.PT_BUDGET_DROP_COUNT).endWaitingSend r stBudgetWait (sendResult r.pseq r.attempts 0)) b

theorem Block.endOldSends_sends (b : Block) : b.endOldSends.strata.sends =
    b.strata.sends.filter fun r => !(!r.taken && pastTtl (b.get Reg.PT_TTL_BUDGET_TTL) b.superframe r.prio r.waiting) := by
  unfold Block.endOldSends
  rw [foldl_endWaitingSend_sends _ (fun r => sendResult r.pseq r.attempts 0), foldl_erase_filter]

/-- The offer's parcels have waited out their time to live. -/
def Block.offerGone (b : Block) (o : Offer) : Bool :=
  !o.parcels.isEmpty && pastTtl (b.get Reg.PT_TTL_BUDGET_TTL) b.superframe o.prio o.waiting

/-- The block without the offers that `gone` marks. -/
def Block.withoutOffers (b : Block) (gone : Offer → Bool) : Block :=
  ({ b with mac := { b.mac with offers := b.mac.offers.filter fun o => !gone o } }).refreshP0

theorem Block.expireBudget_eq (b : Block) : b.expireBudget =
    (b.endOldSends.mac.offers.filter b.offerGone).foldl (fun b o => o.parcels.foldl (Block.dropParcel o) b)
      (b.endOldSends.withoutOffers b.offerGone) := rfl

theorem Block.expireBudget_shows (b : Block) :
    (∀ r ∈ b.expireBudget.strata.sends,
      (!r.taken && pastTtl (b.get Reg.PT_TTL_BUDGET_TTL) b.superframe r.prio r.waiting) = false) ∧
    ∀ o ∈ b.expireBudget.mac.offers, b.offerGone o = false := by
  rw [b.expireBudget_eq]
  have hdrops : (b.endOldSends.withoutOffers b.offerGone).drops _ :=
    (Block.drops_refl _).foldl (fun b o => o.parcels.foldl (Block.dropParcel o) b) (b.endOldSends.mac.offers.filter b.offerGone)
      fun d o => d.drops_refl.foldl _ _ fun e p => e.drops_dropParcel o p
  refine ⟨fun r hr => ?_, fun o ho => ?_⟩
  · have hmem : r ∈ b.endOldSends.strata.sends := hdrops.sends r hr
    rw [b.endOldSends_sends] at hmem
    simpa only [Bool.not_eq_true'] using (List.mem_filter.1 hmem).2
  · rw [Block.mac_of_core hdrops.core] at ho
    simpa only [Bool.not_eq_true'] using (List.mem_filter.1 ho).2

/-! ### Buckets -/

theorem Block.replicate_mac (b : Block) (what index : Nat) (old new : List Byte) : (b.replicate what index old new).mac = b.mac := by
  have h := b.frame_replicate what index old new
  exact show (b.replicate what index old new).frame.mac = b.frame.mac by rw [h]

theorem Block.setBuckets_buckets (b : Block) (n s : Nat) (l : List Nat) : (b.setBuckets n s l).buckets n s = l := by
  unfold Block.setBuckets
  extract_lets old m d e
  have hd : d.buckets n s = l := Store.get_put_same _ _ _ _
  clear_value d
  have he : e.buckets n s = l := by
    unfold e Block.buckets
    rw [Block.set_mac]
    exact hd
  clear_value e
  split
  · unfold Block.buckets
    rw [Block.replicate_mac]
    exact he
  · exact he

theorem Block.setBuckets_account (b : Block) {n s : Nat} (hn : n < 24) (hs : s < 4) (l : List Nat) :
    (b.setBuckets n s l).get (Reg.PT_BUD_ACC_ACCOUNT n s) = (l.take 33).sum % 2 ^ 32 := by
  unfold Block.setBuckets
  extract_lets old m d e
  have hd : d.account n s = (l.take 33).sum := by
    unfold Block.account
    rw [show d.buckets n s = l from Store.get_put_same _ _ _ _]
  clear_value d
  have he : e.get (Reg.PT_BUD_ACC_ACCOUNT n s) = (l.take 33).sum % 2 ^ 32 := by
    unfold e
    rw [Block.get_set_same _ _ _ (by simp [Field.fits]), hd]
  clear_value e
  split
  · have hoff : Reg.PT_BUD_ACC n s ≠ Reg.TRV_REPL_SEQ := by
      simp only [Reg.PT_BUD_ACC, Reg.TRV_REPL_SEQ]
      omega
    rw [Block.get_of_rd (Block.replicate_rd _ _ _ _ _ _ hoff), he]
  · exact he

theorem Block.gated_buckets (b : Block) (n s : Nat) : b.gated.buckets n s = b.buckets n s := by
  have hacc : b.gated.mac.accounts = b.mac.accounts := by
    unfold Block.gated
    extract_lets d1 d2
    have h1 : d1.mac.accounts = b.mac.accounts := by
      unfold d1
      split <;> rfl
    have h2 : d2.mac.accounts = b.mac.accounts := by
      unfold d2
      split
      · exact h1
      · exact h1
    split
    · rw [Block.muteOutputs_mac, h2]
    · exact h2
  unfold Block.buckets
  rw [hacc]

/-- The charge of the frames admitted and not yet begun that port `n` sends in band `s`. -/
def Block.chargeAhead (b : Block) (n s : Nat) : Nat :=
  ((b.mac.txs.filter fun x => x.stage == .admitted && x.ports.contains n && x.bands.testBit s).map (·.micros)).sum

theorem Block.rollBucket_nil {b : Block} {n s : Nat} (h : b.buckets n s = []) : b.rollBucket n s = b := by
  unfold Block.rollBucket
  rw [h]

theorem Block.rollBucket_cons {b : Block} {n s x : Nat} {rest : List Nat} (h : b.buckets n s = x :: rest) : b.rollBucket n s =
    b.setBuckets n s ((min x (b.chargeAhead n s) :: (x - b.chargeAhead n s) :: rest).take 33) := by
  unfold Block.rollBucket
  rw [h]
  rfl

/-- Settles O38. -/
theorem budgetsAndBounds : Obligations.BudgetsAndBounds := by
  intro s port sb bins
  refine ⟨fun x rest h => ?_, fun h => ?_, ?_, fun h => ?_, fun h => ?_⟩
  · refine completes_of_next (b := s.blk.rollBucket port sb) rfl ?_
    rw [Block.rollBucket_cons h, Block.gated_buckets, Block.setBuckets_buckets,
      Block.gated_get_other _ _ (by simp only [Reg.PT_BUD_ACC, Reg.SP_STAT]; omega), Block.setBuckets_account _ port.isLt sb.isLt,
      List.take_take, Nat.min_self]
    exact ⟨rfl, rfl⟩
  · refine completes_of_next (b := s.blk.rollBucket port sb) rfl ?_
    rw [Block.rollBucket_nil h, Block.gated_buckets]
    exact ⟨h, Block.keepsBut_gated_of_regs rfl⟩
  · refine completes_of_next (b := s.blk.expireBudget) rfl ?_
    rw [Block.gated_strata, Block.gated_offers]
    obtain ⟨hsends, hoffers⟩ := s.blk.expireBudget_shows
    refine ⟨fun r hr sf htaken hprio hw => ?_, fun o ho sf hp hprio hw => ?_⟩
    · have hold := hsends r hr
      rw [htaken, hw, Bool.not_false, Bool.true_and] at hold
      exact lt_of_not_pastTtl hold hprio
    · have hold := hoffers o ho
      unfold Block.offerGone at hold
      rw [hw, List.isEmpty_eq_false_iff.2 hp, Bool.not_false, Bool.true_and] at hold
      exact lt_of_not_pastTtl hold hprio
  · refine completes_of_next (b := if s.blk.p0Overdue port then
      (s.blk.inc Reg.PT_P0_LATE_COUNT).post 0x0704 3 19 [(1, port.val / 3), (1, port), (2, bins.toNat)] else s.blk) rfl ?_
    rw [if_pos h, Block.gated_get_other _ _ (by decide), Block.get_post _ _ _ _ _ _ (by decide), Block.get_inc _ _ (by decide)]
    refine ⟨rfl, Block.keepsBut.gated (Block.keepsBut.post ((s.blk.keepsBut_refl _).inc (by simp)) _ _ _ _ ?_) (by simp)⟩
    exact fun _ h => by simp [h]
  · refine completes_of_next (b := if s.blk.p0Overdue port then
      (s.blk.inc Reg.PT_P0_LATE_COUNT).post 0x0704 3 19 [(1, port.val / 3), (1, port), (2, bins.toNat)] else s.blk) rfl ?_
    rw [if_neg (by simp [h])]
    exact Block.keepsBut_gated_of_regs rfl

end Sys2Proof.Machine

/-!
The image swap (R78 to R82).
-/

namespace Sys2Proof.Machine

/-! ### Aborts -/

theorem Block.completes_byPfCfg {c : Instr} {s : State} {f : Block → Block} {P : Block → Prop}
    (hc : exec c s = .next { s with blk := (s.blk.byPfCfg f).gated }) (h : s.blk.accepts = true) (hP : P (f s.blk).gated) :
    Completes c s P := by
  refine completes_of_next hc ?_
  have hreached : s.blk.cfgReached = true := by
    have hdev := Block.dev_of_reaches h
    unfold Block.accepts Block.reaches at h
    simp only [Bool.and_eq_true] at h
    obtain ⟨⟨⟨-, hmse⟩, hfrozen⟩, -⟩ := h
    unfold Block.cfgReached
    rw [hfrozen, hmse]
    rcases hdev with h | h | h <;> rw [h] <;> rfl
  unfold Block.byPfCfg
  rw [if_pos hreached]
  exact hP

theorem Block.swapAbort_eq {b : Block} {a : Armed} (h : b.img.armed = some a) (cause : Nat) : ∃ args, b.swapAbort cause =
    ((({ b with img := { b.img with armed := none, ended := some a.bearing } } : Block).setAll [(Reg.CFG_STATUS_SHADOW, 2),
      (Reg.CFG_SWAP_STATUS_STATE, 3), (Reg.CFG_SWAP_STATUS_CAUSE, cause)]).raiseFixed 6).post 0x0202 1 0x4B args := by
  unfold Block.swapAbort
  rw [h]
  exact ⟨_, rfl⟩

theorem Block.swapAbort_img' {b : Block} {a : Armed} (h : b.img.armed = some a) (cause : Nat) :
    (b.swapAbort cause).img = { b.img with armed := none, ended := some a.bearing } := by
  obtain ⟨args, heq⟩ := Block.swapAbort_eq h cause
  rw [heq, Block.post_img, Block.raiseFixed_img, Block.setAll_img]

theorem Block.swapAbort_dev' {b : Block} {a : Armed} (h : b.img.armed = some a) (cause : Nat) : (b.swapAbort cause).dev = b.dev := by
  obtain ⟨args, heq⟩ := Block.swapAbort_eq h cause
  rw [heq, Block.post_dev, Block.raiseFixed_dev, Block.setAll_dev]

theorem Block.swapAbort_shows {b : Block} {a : Armed} (h : b.img.armed = some a) (cause : Nat) :
    (b.swapAbort cause).get Reg.CFG_STATUS_SHADOW = 2 ∧ (b.swapAbort cause).get Reg.CFG_SWAP_STATUS_STATE = 3 ∧
      (b.swapAbort cause).get Reg.CFG_SWAP_STATUS_CAUSE = cause % 2 ^ Reg.CFG_SWAP_STATUS_CAUSE.width := by
  obtain ⟨args, heq⟩ := Block.swapAbort_eq h cause
  rw [heq]
  refine ⟨?_, ?_, ?_⟩
  · rw [Block.get_post _ _ _ _ _ _ (by decide), Block.get_of_regs (Block.raiseFixed_regs _ _),
      Block.get_setAll_head _ _ _ _ (by decide) (by simp [Field.fits, Field.apart])]
    rfl
  · rw [Block.get_post _ _ _ _ _ _ (by decide), Block.get_of_regs (Block.raiseFixed_regs _ _), Block.setAll_cons,
      Block.get_setAll_head _ _ _ _ (by decide) (by simp [Field.fits, Field.apart])]
    rfl
  · rw [Block.get_post _ _ _ _ _ _ (by decide), Block.get_of_regs (Block.raiseFixed_regs _ _), Block.setAll_cons, Block.setAll_cons,
      Block.get_setAll_head _ _ _ _ (by decide) (by simp)]

/-- An abort of the swap by the master sends the verdict first, which changes nothing that the abort shows. -/
theorem Block.abortSwapAll_shows {b : Block} {a : Armed} (h : b.img.armed = some a) (cause : Nat) :
    (b.abortSwapAll cause).img = { b.img with armed := none, ended := some a.bearing } ∧
      (b.abortSwapAll cause).dev = b.dev ∧
      (b.abortSwapAll cause).get Reg.CFG_STATUS_SHADOW = 2 ∧ (b.abortSwapAll cause).get Reg.CFG_SWAP_STATUS_STATE = 3 ∧
      (b.abortSwapAll cause).get Reg.CFG_SWAP_STATUS_CAUSE = cause % 2 ^ Reg.CFG_SWAP_STATUS_CAUSE.width := by
  unfold Block.abortSwapAll
  rw [h]
  dsimp only
  have key : ∀ d : Block, d.img = b.img → d.dev = b.dev → (d.swapAbort cause).img = { b.img with armed := none, ended := some a.bearing } ∧
      (d.swapAbort cause).dev = b.dev ∧ (d.swapAbort cause).get Reg.CFG_STATUS_SHADOW = 2 ∧
      (d.swapAbort cause).get Reg.CFG_SWAP_STATUS_STATE = 3 ∧ (d.swapAbort cause).get Reg.CFG_SWAP_STATUS_CAUSE = cause % 2 ^ Reg.CFG_SWAP_STATUS_CAUSE.width :=
    fun d hd hdev => by
      have hda : d.img.armed = some a := by rw [hd, h]
      rw [Block.swapAbort_img' hda, Block.swapAbort_dev' hda, hd]
      exact ⟨rfl, hdev, Block.swapAbort_shows hda cause⟩
  split
  · exact key _ (Block.sendCell_img _ _ _ _ _) (Block.sendCell_dev _ _ _ _ _)
  · exact key b rfl rfl

theorem Block.sendCell_op (b : Block) (kind dst : Nat) (bcast : Bool) (body : List Byte) :
    (b.sendCell kind dst bcast body).chain.op = b.chain.op := by
  have hput : ∀ (d : Block) (ringB : Bool) (bytes : List Byte), (d.putCell ringB bytes).chain.op = d.chain.op := fun d ringB bytes => by
    unfold Block.putCell
    extract_lets out x
    clear_value out
    split <;> rfl
  unfold Block.sendCell
  dsimp only
  rw [hput, hput]
  rfl

theorem Block.abortSwapAll_chainOp (b : Block) (cause : Nat) : (b.abortSwapAll cause).chain.op = b.chain.op := by
  unfold Block.abortSwapAll
  split
  · dsimp only
    rw [Block.swapAbort_chain]
    split
    · exact b.sendCell_op _ _ _ _
    · rfl
  · rfl

/-! ### ARM and DISARM -/

theorem Block.cfgCmd_of_ok {b : Block} {ok : Bool} (hbusy : b.on Reg.CFG_CMD_RESULT_BUSY = false) (hok : ok = true)
    (f : Block → Block) : b.cfgCmd ok f = f b := by
  unfold Block.cfgCmd
  rw [if_neg (by simp [hbusy]), if_pos hok]

theorem Block.cfgDone_img (b : Block) (status : Nat) : (b.cfgDone status).img = b.img :=
  (Block.raiseFixed_img _ _).trans (Block.setAll_img _ _)

theorem Block.cfgDone_dev (b : Block) (status : Nat) : (b.cfgDone status).dev = b.dev :=
  (Block.raiseFixed_dev _ _).trans (Block.setAll_dev _ _)

theorem Block.cfgDone_keepsBut {b c : Block} {offs : List Nat} (h : b.keepsBut c offs) (status : Nat) (hr : Reg.CFG_CMD_RESULT ∈ offs) :
    b.keepsBut (c.cfgDone status) offs := Block.keepsBut.raiseFixed (h.setAll (by simp [hr])) 6

theorem Block.cfgDone_status (b : Block) (status : Nat) : (b.cfgDone status).get Reg.CFG_CMD_RESULT_STATUS = status % 256 := by
  unfold Block.cfgDone
  rw [Block.get_of_regs (Block.raiseFixed_regs _ _)]
  exact Block.get_setAll_head _ _ _ _ (by decide) (by simp [Field.fits, Field.apart])

theorem Block.cfgDone_get (b : Block) (status : Nat) (f : Field) (hf : f.off ≠ Reg.CFG_CMD_RESULT) :
    (b.cfgDone status).get f = b.get f :=
  (Block.cfgDone_keepsBut (b.keepsBut_refl [Reg.CFG_CMD_RESULT]) status (by simp)).get (by simpa using hf)

/-- The block with the shadow armed at `at_`. -/
def Block.armedAt (b : Block) (at_ : Bearing) : Block :=
  ({ b with img := { b.img with armed := some {
    bearing := at_, verdict := if b.chainEnabled then .waiting else .commit, tokenOut := b.chainEnabled,
    ready := if b.chainEnabled then 0 else 2 ^ b.rank } } } : Block).setAll
    [(Reg.CFG_STATUS_SHADOW, 4), (Reg.CFG_SWAP_STATUS_STATE, 1), (Reg.CFG_SWAP_STATUS_CAUSE, 0), (Reg.CFG_SWAP_STATUS_MEMBERS, 0)]

theorem Block.armedAt_img (b : Block) (at_ : Bearing) : (b.armedAt at_).img = { b.img with armed := some {
    bearing := at_, verdict := if b.chainEnabled then .waiting else .commit, tokenOut := b.chainEnabled,
    ready := if b.chainEnabled then 0 else 2 ^ b.rank } } := Block.setAll_img _ _

theorem Block.armedAt_dev (b : Block) (at_ : Bearing) : (b.armedAt at_).dev = b.dev := Block.setAll_dev _ _

theorem Block.armedAt_shows (b : Block) (at_ : Bearing) : (b.armedAt at_).get Reg.CFG_STATUS_SHADOW = 4 ∧
    (b.armedAt at_).get Reg.CFG_SWAP_STATUS_STATE = 1 := by
  unfold Block.armedAt
  constructor
  · rw [Block.get_setAll_head _ _ _ _ (by decide) (by simp [Field.fits, Field.apart])]
    rfl
  · rw [Block.setAll_cons, Block.get_setAll_head _ _ _ _ (by decide) (by simp [Field.fits, Field.apart])]
    rfl

theorem Block.armedAt_keepsBut (b : Block) (at_ : Bearing) : b.keepsBut (b.armedAt at_) [Reg.CFG_STATUS, Reg.CFG_SWAP_STATUS] :=
  ((b.keepsBut_refl _).withImg _).setAll (by simp)

/-- The bearing that the registers ask a swap for. -/
def Block.swapAt (b : Block) : Bearing := b.bearingAt Reg.CFG_SWAP_BRG_LO_BRG Reg.CFG_SWAP_BRG_HI_BRG

/-- The states in which a swap may be armed (R78). -/
def Block.armState (b : Block) : Bool :=
  b.dev == .service && b.running && b.get Reg.CFG_STATUS_SHADOW == 2 && (!b.chainEnabled || b.chain.role == .master)

/-- The block armed, its token sent on a Chain. -/
def Block.armedSent (b : Block) : Block :=
  if (b.armedAt b.swapAt).chainEnabled then (b.armedAt b.swapAt).sendToken opSwap b.swapAt else b.armedAt b.swapAt

theorem Block.armSwap_eq {b : Block} {x : ImageSet} (hx : b.img.shadow = some x) (hbusy : b.on Reg.CFG_CMD_RESULT_BUSY = false) :
    b.armSwap = if b.armState then
      (if !b.armable b.swapAt || ((List.range 24).any (fun n => !preserves x.sections n) &&
        (b.swapAt - b.brg.now).toNat < 65536 + b.leadTime) then b.cfgDone stInvalid
      else (b.armedSent.raiseFixed 6).cfgDone stOK)
      else b.cfgDone stStateReject := by
  unfold Block.armSwap Block.cfgCmd
  rw [if_neg (by simp [hbusy])]
  dsimp only
  refine if_congr Iff.rfl ?_ rfl
  split
  · next h => exact absurd (hx.symm.trans h) (by simp)
  · next y hy =>
    obtain rfl : x = y := Option.some.inj (hx.symm.trans hy)
    rfl

theorem Block.sendToken_img (b : Block) (op : Nat) (at_ : Bearing) : (b.sendToken op at_).img = b.img := Block.putCell_img _ _ _

theorem Block.sendToken_regs (b : Block) (op : Nat) (at_ : Bearing) : (b.sendToken op at_).regs = b.regs := Block.putCell_regs _ _ _

theorem Block.sendToken_dev (b : Block) (op : Nat) (at_ : Bearing) : (b.sendToken op at_).dev = b.dev := Block.putCell_dev _ _ _

/-- The token's way to the rings changes nothing that ARM shows. -/
theorem Block.armedSent_shows (b : Block) : b.armedSent.img = (b.armedAt b.swapAt).img ∧ b.armedSent.dev = b.dev ∧
    b.armedSent.regs = (b.armedAt b.swapAt).regs := by
  rw [← b.armedAt_dev b.swapAt]
  unfold Block.armedSent
  split
  · exact ⟨Block.sendToken_img _ _ _, Block.sendToken_dev _ _ _, Block.sendToken_regs _ _ _⟩
  · exact ⟨rfl, rfl, rfl⟩

theorem Block.armState_of {b : Block} (h1 : b.dev = .service) (h2 : b.running = true) (h3 : b.get Reg.CFG_STATUS_SHADOW = 2)
    (h4 : b.chainEnabled = false ∨ b.chain.role = .master) : b.armState = true := by
  unfold Block.armState
  rw [h1, h2, h3]
  rcases h4 with h | h <;> simp [h]

section
variable {s : State} {x : ImageSet} (hacc : s.blk.accepts = true) (hbusy : s.blk.on Reg.CFG_CMD_RESULT_BUSY = false)
  (hdev : s.blk.dev = .service)
include hacc hdev

include hbusy in
theorem completes_arm (hrun : s.blk.running = true) (hsh : s.blk.get Reg.CFG_STATUS_SHADOW = 2) (hx : s.blk.img.shadow = some x)
    (hrole : s.blk.chainEnabled = false ∨ s.blk.chain.role = .master) (harm : s.blk.armable s.blk.swapAt = true)
    (hfar : (∀ n, n < 24 → preserves x.sections n = true) ∨ 65536 + s.blk.leadTime ≤ (s.blk.swapAt - s.blk.brg.now).toNat) :
    Completes .arm s fun b =>
      b.img = { s.blk.img with armed := some {
        bearing := s.blk.swapAt, verdict := if s.blk.chainEnabled then .waiting else .commit, tokenOut := s.blk.chainEnabled,
        ready := if s.blk.chainEnabled then 0 else 2 ^ s.blk.rank } } ∧
      b.get Reg.CFG_STATUS_SHADOW = 4 ∧ b.get Reg.CFG_SWAP_STATUS_STATE = 1 ∧ b.get Reg.CFG_CMD_RESULT_STATUS = 0 ∧
      s.blk.keepsBut b [Reg.CFG_STATUS, Reg.CFG_SWAP_STATUS, Reg.CFG_CMD_RESULT] := by
  refine Block.completes_byPfCfg rfl hacc ?_
  have hnear : (!s.blk.armable s.blk.swapAt || ((List.range 24).any (fun n => !preserves x.sections n) &&
      decide ((s.blk.swapAt - s.blk.brg.now).toNat < 65536 + s.blk.leadTime))) = false := by
    rw [harm, Bool.not_true, Bool.false_or, Bool.and_eq_false_iff]
    rcases hfar with h | h
    · exact Or.inl (by simpa using h)
    · exact Or.inr (decide_eq_false (by omega))
  rw [Block.armSwap_eq hx hbusy, if_pos (Block.armState_of hdev hrun hsh hrole), if_neg (by rw [hnear]; decide)]
  obtain ⟨himg, hadev, haregs⟩ := s.blk.armedSent_shows
  have hsilent : ((s.blk.armedSent.raiseFixed 6).cfgDone stOK).dev.silent = false := by
    rw [Block.cfgDone_dev, Block.raiseFixed_dev, hadev, hdev]
    rfl
  have hregs := (Block.raiseFixed_regs s.blk.armedSent 6).trans haregs
  obtain ⟨hshadow, hstate⟩ := s.blk.armedAt_shows s.blk.swapAt
  refine ⟨?_, ?_, ?_, ?_, ?_⟩
  · rw [Block.gated_img, Block.cfgDone_img, Block.raiseFixed_img, himg, Block.armedAt_img]
  · rw [Block.gated_get_of_not_silent hsilent, Block.cfgDone_get _ _ _ (by decide), Block.get_of_regs hregs, hshadow]
  · rw [Block.gated_get_of_not_silent hsilent, Block.cfgDone_get _ _ _ (by decide), Block.get_of_regs hregs, hstate]
  · rw [Block.gated_get_of_not_silent hsilent, Block.cfgDone_status]
    rfl
  · refine Block.keepsBut.gated_of_not_silent (Block.cfgDone_keepsBut (Block.keepsBut.of_regs ?_ hregs) _ (by simp)) hsilent
    exact (s.blk.armedAt_keepsBut s.blk.swapAt).mono (by simp)

theorem completes_arm_refused (status : Nat) (h : s.blk.armSwap = s.blk.cfgDone status) : Completes .arm s fun b =>
    b.img = s.blk.img ∧ b.get Reg.CFG_CMD_RESULT_STATUS = status % 256 ∧ s.blk.keepsBut b [Reg.CFG_CMD_RESULT] := by
  refine Block.completes_byPfCfg rfl hacc ?_
  have hsilent : (s.blk.cfgDone status).dev.silent = false := by
    rw [Block.cfgDone_dev, hdev]
    rfl
  rw [h, Block.gated_img, Block.cfgDone_img, Block.gated_get_of_not_silent hsilent, Block.cfgDone_status]
  exact ⟨rfl, rfl, (Block.cfgDone_keepsBut (s.blk.keepsBut_refl _) _ (by simp)).gated_of_not_silent hsilent⟩

end

/-! ### The exchange of the sets -/

/-- The sets of the image as they were. -/
structure Block.keepsSets (b c : Block) : Prop where
  active : c.img.active = b.img.active
  shadow : c.img.shadow = b.img.shadow
  armed : c.img.armed = b.img.armed

theorem Block.keepsSets_refl (b : Block) : b.keepsSets b := ⟨rfl, rfl, rfl⟩

section
variable {b c : Block} (h : b.keepsSets c)
include h

theorem Block.keepsSets.trans {d : Block} (h' : c.keepsSets d) : b.keepsSets d :=
  ⟨h'.active.trans h.active, h'.shadow.trans h.shadow, h'.armed.trans h.armed⟩

theorem Block.keepsSets.of_img {d : Block} (hd : d.img = c.img) : b.keepsSets d := by
  constructor <;> rw [hd]
  exacts [h.active, h.shadow, h.armed]

theorem Block.keepsSets.ite {p : Prop} [Decidable p] {d : Block} (h' : b.keepsSets d) : b.keepsSets (if p then c else d) := by
  split
  · exact h
  · exact h'

theorem Block.keepsSets.foldl {α : Type} (f : Block → α → Block) (l : List α) (hf : ∀ (d : Block) (x : α), d.keepsSets (f d x)) :
    b.keepsSets (l.foldl f c) := by
  induction l generalizing c with
  | nil => exact h
  | cons x l ih => exact ih (h.trans (hf c x))

theorem foldl_fst_keepsSets {α β : Type} (f : Block × β → α → Block × β)
    (hf : ∀ (acc : Block × β) (x : α), acc.1.keepsSets (f acc x).1) (y : β) (l : List α) : b.keepsSets (l.foldl f (c, y)).1 := by
  induction l generalizing c y with
  | nil => exact h
  | cons x l ih => exact ih (h.trans (hf (c, y) x)) _

theorem Block.keepsSets.set (f : Field) (v : Nat) : b.keepsSets (c.set f v) := h.of_img (Block.set_img _ _ _)

theorem Block.keepsSets.setOn (f : Field) (on : Bool) : b.keepsSets (c.setOn f on) := h.of_img (Block.setOn_img _ _ _)

theorem Block.keepsSets.withSound (x : SoundSt) : b.keepsSets { c with sound := x } := h.of_img rfl

theorem Block.keepsSets.setAll (fs : List (Field × Nat)) : b.keepsSets (c.setAll fs) := h.of_img (Block.setAll_img _ _)

theorem Block.keepsSets.countSpares : b.keepsSets c.countSpares := h.setAll _

theorem Block.keepsSets.setSenseCh (k : Nat) (x : SenseCh) : b.keepsSets (c.setSenseCh k x) := h.of_img rfl

theorem Block.keepsSets.showGain (k code : Nat) : b.keepsSets (c.showGain k code) := h.setAll _

theorem Block.keepsSets.startChannel (k : Nat) (offsets : List Int) : b.keepsSets (c.startChannel k offsets) :=
  (h.setSenseCh k _).showGain _ _

theorem Block.keepsSets.measureOffsets (k : Nat) : b.keepsSets (c.measureOffsets k) := by
  unfold Block.measureOffsets
  extract_lets d
  have hd : d.1.img = c.img := by
    unfold d
    rw [foldl_part (fun p : Block × List Int => p.1.img)]
    exact fun _ _ => rfl
  clear_value d
  exact (h.of_img hd).startChannel _ _

theorem Block.keepsSets.renewChannel (k : Nat) (same : Bool) : b.keepsSets (c.renewChannel k same) :=
  ((h.setSenseCh k _).showGain _ _).ite (h.measureOffsets k)

theorem Block.keepsSets.swapSense (before : Block) : b.keepsSets (c.swapSense before) := by
  refine h.foldl _ _ fun d k => ?_
  exact ((d.keepsSets_refl.setSenseCh k _).setSenseCh k _).ite ((d.keepsSets_refl.setSenseCh k _).renewChannel k _)

theorem Block.keepsSets.rebind (l : Nat) (x : Option Binding) : b.keepsSets (c.rebind l x) := h.ite (h.of_img rfl)

theorem Block.keepsSets.serveBinding (x : Binding) : b.keepsSets (c.serveBinding x).1 := by
  unfold Block.serveBinding
  split
  · exact h.rebind _ _
  · exact h

theorem Block.keepsSets.onLine {d : Block} (hd : c.onLine d) : b.keepsSets d := h.of_img hd.img

theorem Block.keepsSets.bindLanes : b.keepsSets c.bindLanes := by
  unfold Block.bindLanes
  extract_lets keeps d1 x d2 d3 out
  have h1 : b.keepsSets d1 := h.foldl _ _ fun d l => d.keepsSets_refl.ite (d.keepsSets_refl.rebind l _)
  clear_value d1
  have h2 : b.keepsSets d2 := h1.of_img rfl
  have h3 : b.keepsSets d3 := h2.foldl _ _ fun d l => (d.keepsSets_refl.rebind l _).ite d.keepsSets_refl
  have hout : b.keepsSets out.1 := by
    refine foldl_fst_keepsSets h3 _ (fun acc l => ?_) _ _
    dsimp only
    split
    · split
      · exact acc.1.keepsSets_refl
      · exact acc.1.keepsSets_refl.serveBinding _
    · exact acc.1.keepsSets_refl
  clear_value out
  refine Block.keepsSets.countSpares (hout.foldl _ _ fun d n => ?_)
  exact (d.keepsSets_refl.setOn _ _).onLine ((Block.onLine_refl _).refreshAnchor n)

theorem Block.keepsSets.showSettings : b.keepsSets c.showSettings := by
  unfold Block.showSettings
  extract_lets chain replica d
  have hd : b.keepsSets d := h.foldl _ _ fun e n => (e.keepsSets_refl.set _ _).set _ _
  exact hd.setAll _

theorem Block.keepsSets.swapSettings (secs : Sections) : b.keepsSets (c.swapSettings secs) := ⟨h.active, h.shadow, h.armed⟩

theorem Block.keepsSets.applyNoiseThresholds : b.keepsSets c.applyNoiseThresholds := by
  unfold Block.applyNoiseThresholds
  split
  · extract_lets x d
    have hd : b.keepsSets d := ⟨h.active, h.shadow, h.armed⟩
    exact hd.setAll _
  · exact h

theorem Block.keepsSets.swapWord (secs : Sections) (m off : Nat) : b.keepsSets (c.swapWord secs m off) := h.of_img rfl

theorem Block.keepsSets.swapSection (secs : Sections) (id : Nat) : b.keepsSets (c.swapSection secs id) :=
  h.foldl _ _ fun d off => d.keepsSets_refl.swapWord secs _ off

theorem Block.keepsSets.post (code sev src : Nat) (args : List (Nat × Nat)) : b.keepsSets (c.post code sev src args) :=
  h.of_img (Block.post_img _ _ _ _ _)

theorem Block.keepsSets.refreshPortCal (n : Nat) : b.keepsSets (c.refreshPortCal n) := by
  unfold Block.refreshPortCal
  extract_lets done was d
  have hd : b.keepsSets d := h.set _ _
  exact (hd.post _ _ _ _).ite hd

theorem Block.keepsSets.showAgcCal (n : Nat) : b.keepsSets (c.showAgcCal n) := h.set _ _

theorem Block.keepsSets.showCoef (cls place : Nat) : b.keepsSets (c.showCoef cls place) := by
  unfold Block.showCoef
  extract_lets x cal
  split
  · exact (h.setAll _).showAgcCal _
  · exact h.refreshPortCal _
  · exact h.refreshPortCal _
  · exact h.setAll _
  · exact h.foldl _ _ fun d i => d.keepsSets_refl.set _ _
  · exact h

theorem Block.keepsSets.setCoef (key : Nat) (x : Coef) : b.keepsSets (c.setCoef key x) := h.of_img rfl

theorem Block.keepsSets.promote (cls place : Nat) : b.keepsSets (c.promote cls place) := by
  unfold Block.promote
  extract_lets key x d
  have hd : b.keepsSets d := by
    unfold d
    split
    · exact (h.setCoef _ _).ite h
    · exact h
  exact hd.showCoef _ _

theorem Block.keepsSets.setFreeze (on : Bool) : b.keepsSets (c.setFreeze on) := by
  have hfreeze : b.keepsSets c.unfreeze := by
    unfold Block.unfreeze
    extract_lets d
    have hd : b.keepsSets d := h.set _ _
    exact hd.foldl _ _ fun e p => (e.keepsSets_refl.setCoef _ _).promote _ _
  unfold Block.setFreeze
  exact h.ite (Block.keepsSets.ite ((h.withSound _).set _ _) hfreeze)

theorem Block.keepsSets.applySched : b.keepsSets c.applySched := by
  unfold Block.applySched
  split
  · exact h
  · extract_lets old x d new
    have h0 : b.keepsSets { c with img := { c.img with schedPending := [] } } := ⟨h.active, h.shadow, h.armed⟩
    have hd : b.keepsSets d := h0.swapSection _ _
    clear_value d
    exact (hd.set _ _).setFreeze _

end

theorem Block.keepsSets.admits {b c d : Block} (h : b.keepsSets c) (hd : c.admits d) : b.keepsSets d := h.of_img hd.img

/-- Ports taken up under the new set, and what Sounding and the accounts keep of them. -/
theorem Block.admits_refreshPort (b : Block) (n : Nat) : b.admits (b.refreshPort n) := by
  have hreg : lineReg (Reg.LP_STATUS n) := lineReg_of_le (by simp only [Reg.LP_STATUS]; omega)
  exact (b.admits_refl.set _ _ hreg).set _ _ hreg

theorem Block.admits_refreshPortCal (b : Block) (n : Nat) : b.admits (b.refreshPortCal n) := by
  unfold Block.refreshPortCal
  extract_lets done was d
  have hd : b.admits d := b.admits_refl.set _ _ (lineReg_of_le (by decide))
  exact (hd.post _ _ _ _).ite hd

theorem Block.admits_regroupAccounts (b before : Block) (n : Nat) : b.admits (b.regroupAccounts before n) := by
  refine b.admits_refl.foldl _ _ fun d s => ?_
  exact d.admits_refl.ite (d.admits_refl.withMac _)

theorem Block.admits_dropHeld (b : Block) (n : Nat) : b.admits (b.dropHeld n) := by
  unfold Block.dropHeld
  extract_lets mine unheld x d
  have hd : b.admits d := b.admits_refl.of_eq rfl rfl rfl rfl rfl
  exact hd.set _ _ (lineReg_of_le (by decide))

theorem Block.admits_showAgcCal (b : Block) (n : Nat) : b.admits (b.showAgcCal n) :=
  b.admits_refl.set _ _ (lineReg_of_le (by simp only [Reg.LP_STATUS]; omega))

theorem Block.admits_forgetG3 (b : Block) (n : Nat) : b.admits (b.forgetG3 n) := b.admits_refl.of_eq rfl rfl rfl rfl rfl

theorem Block.followNoiseFreeze_img (b : Block) : b.followNoiseFreeze.img = b.img := by
  unfold Block.followNoiseFreeze
  split <;> rfl

theorem Block.followNoiseFreeze_regs (b : Block) : b.followNoiseFreeze.regs = b.regs := by
  unfold Block.followNoiseFreeze
  split <;> rfl

/-- After the exchange the new set is active, the shadow empty, no swap armed, and the registers of the swap say so. -/
theorem Block.swapSets_shows (b : Block) (new : ImageSet) (at_ : Bearing) : (b.swapSets new at_).img.active = some new ∧
    (b.swapSets new at_).img.shadow = none ∧ (b.swapSets new at_).img.armed = none ∧
    (b.swapSets new at_).get Reg.CFG_SWAP_STATUS_STATE = 2 ∧ (b.swapSets new at_).get Reg.CFG_STATUS_SHADOW = 0 ∧
    (b.swapSets new at_).get Reg.CFG_ACTIVE_SERIAL_SERIAL = new.serial.toNat := by
  unfold Block.swapSets
  extract_lets secs prior rebound before d1 dropped moved d2 d3 d4 d5 d6 d7 x d8 d9 d10 d11 d12 d13 d14 d15 d16
  clear_value d7 dropped moved
  have h8 : d8.img.active = some new ∧ d8.img.shadow = none ∧ d8.img.armed = none := ⟨rfl, rfl, rfl⟩
  clear_value d8
  have h9 : d8.keepsSets d9 := d8.keepsSets_refl.swapSense prior
  clear_value d9 prior
  have h10 : d8.keepsSets d10 := ((h9.swapSettings secs).bindLanes.showSettings).admits (Block.admits_refl _).serialFollow
  clear_value d10
  have h11 : d8.keepsSets d11 := h10.applyNoiseThresholds.ite h10
  clear_value d11
  have h12 : d8.keepsSets d12 := h11.applySched.ite h11
  clear_value d12
  have h13 : d8.keepsSets d13 := h12.setAll _
  have hshadow : d13.get Reg.CFG_STATUS_SHADOW = 0 := by
    unfold d13
    rw [Block.get_setAll_head _ _ _ _ (by decide) (by simp [Field.fits, Field.apart])]
    rfl
  have hserial : d13.get Reg.CFG_ACTIVE_SERIAL_SERIAL = new.serial.toNat := by
    unfold d13
    rw [Block.setAll_cons, Block.get_setAll_head _ _ _ _ (by decide) (by simp [Field.fits, Field.apart])]
    exact Nat.mod_eq_of_lt new.serial.isLt
  have hstate : d13.get Reg.CFG_SWAP_STATUS_STATE = 2 := by
    unfold d13
    rw [Block.setAll_cons, Block.setAll_cons, Block.setAll_cons, Block.setAll_cons,
      Block.get_setAll_head _ _ _ _ (by decide) (by simp [Field.fits, Field.apart])]
    rfl
  clear_value d13
  have h14 : d13.admits d14 :=
    d13.admits_refl.foldl _ _ fun d n => (d.admits_refreshPort n).trans (Block.admits_refreshPortCal _ n)
  clear_value d14
  have h15 : d13.admits d15 := by
    refine h14.foldl _ _ fun d n => ?_
    refine Block.admits.trans ?_ (Block.admits_showAgcCal _ n)
    refine Block.admits.trans ?_ (Block.admits_dropHeld _ n)
    exact (d.admits_forgetG3 n).trans (Block.admits_regroupAccounts _ _ n)
  clear_value d15
  have himg : d16.img = d13.img := d15.followNoiseFreeze_img.trans h15.img
  have hget : ∀ f : Field, ¬ lineReg f.off → d16.get f = d13.get f := fun f hf =>
    (Block.get_of_regs d15.followNoiseFreeze_regs f).trans (h15.regs.get hf)
  clear_value d16
  obtain ⟨h1, h2, h3⟩ := h8
  have hpost : ∀ (f : Field) args, ¬ lineReg f.off →
      ((d16.raiseFixed 6).post 0x0201 0 0x4B args).get f = d13.get f := fun f args hf =>
    (Block.get_post _ _ _ _ _ _ fun hr => hf (lineReg_record _ hr)).trans
      ((Block.get_of_regs (Block.raiseFixed_regs _ _) _).trans (hget f hf))
  have hcfg : ∀ off, off < 0x20000 → ¬ lineReg off := fun off hoff => by
    unfold lineReg
    omega
  have himg16 : ∀ args, ((d16.raiseFixed 6).post 0x0201 0 0x4B args).img = d13.img := fun args =>
    (Block.post_img _ _ _ _ _).trans ((Block.raiseFixed_img _ _).trans himg)
  refine ⟨?_, ?_, ?_, (hpost _ _ (hcfg _ (by decide))).trans hstate, (hpost _ _ (hcfg _ (by decide))).trans hshadow,
    (hpost _ _ (hcfg _ (by decide))).trans hserial⟩
  · rw [himg16, h13.active, h1]
  · rw [himg16, h13.shadow, h2]
  · rw [himg16, h13.armed, h3]

/-! ### The commands and the bearing -/

theorem completes_disarm {s : State} {a : Armed} (ha : s.blk.img.armed = some a) (hacc : s.blk.accepts = true)
    (hbusy : s.blk.on Reg.CFG_CMD_RESULT_BUSY = false) (hrole : s.blk.chainEnabled = false ∨ s.blk.chain.role = .master) :
    Completes .disarm s fun b => b.img = { s.blk.img with armed := none, ended := some a.bearing } ∧
      b.get Reg.CFG_STATUS_SHADOW = 2 ∧ b.get Reg.CFG_SWAP_STATUS_STATE = 3 ∧ b.get Reg.CFG_SWAP_STATUS_CAUSE = 1 ∧
      b.get Reg.CFG_CMD_RESULT_STATUS = 0 := by
  refine Block.completes_byPfCfg (f := Block.disarmSwap) rfl hacc ?_
  have hok : (s.blk.img.armed.isSome && (!s.blk.chainEnabled || s.blk.chain.role == .master)) = true := by
    rw [ha]
    rcases hrole with h | h <;> simp [h]
  have heq : s.blk.disarmSwap = (s.blk.abortSwapAll 1).cfgDone stOK := Block.cfgCmd_of_ok hbusy hok _
  obtain ⟨himg, hdev, hshadow, hstate, hcause⟩ := Block.abortSwapAll_shows ha 1
  have hsilent : ((s.blk.abortSwapAll 1).cfgDone stOK).dev.silent = false := by
    rw [Block.cfgDone_dev, hdev]
    exact Block.not_silent_of_accepts hacc
  rw [heq, Block.gated_img, Block.cfgDone_img, himg, Block.gated_get_of_not_silent hsilent, Block.gated_get_of_not_silent hsilent,
    Block.gated_get_of_not_silent hsilent, Block.gated_get_of_not_silent hsilent, Block.cfgDone_get _ _ _ (by decide),
    Block.cfgDone_get _ _ _ (by decide), Block.cfgDone_get _ _ _ (by decide), Block.cfgDone_status, hshadow, hstate, hcause]
  exact ⟨rfl, rfl, rfl, rfl, rfl⟩

theorem completes_swapAbortDeadline {s : State} {a : Armed} (ha : s.blk.img.armed = some a) (hrole : s.blk.chain.role = .master)
    (hv : a.verdict = .waiting) (hd : s.blk.atDeadline a.bearing = true) (hop : s.blk.chain.op = none) :
    Completes .swapAbortDeadline s fun b => b.img = { s.blk.img with armed := none, ended := some a.bearing } ∧
      b.get Reg.CFG_STATUS_SHADOW = 2 ∧ b.get Reg.CFG_SWAP_STATUS_CAUSE = 3 := by
  refine completes_of_next (b := s.blk.abortLate) rfl ?_
  have heq : s.blk.abortLate = s.blk.abortSwapAll 3 := by
    unfold Block.abortLate
    rw [hrole, ha]
    dsimp only
    rw [if_neg (by decide), if_pos ⟨hv, hd⟩, Block.abortSwapAll_chainOp, hop]
  obtain ⟨himg, hdev, hshadow, -, hcause⟩ := Block.abortSwapAll_shows ha 3
  rw [heq, Block.gated_img, himg, Block.gated_get_other _ _ (by decide), Block.gated_get_other _ _ (by decide), hshadow, hcause]
  exact ⟨rfl, rfl, rfl⟩

/-- An armed swap at its bearing. -/
theorem Block.imageSwap_eq {b : Block} {a : Armed} {x : ImageSet} (ha : b.img.armed = some a) (hx : b.img.shadow = some x)
    (h : a.bearing = b.brg.now) : b.imageSwap =
      if b.brg.state = .holdover then b.abortSwapAll 4
      else if a.verdict = .commit then
        (b.set Reg.CFG_SWAP_STATUS_MEMBERS (if b.chainEnabled && b.chain.role != .master then 0 else
          2 ^ b.get Reg.CHN_ID_RANK)).swapSets x a.bearing
      else b.swapAbort 7 := by
  unfold Block.imageSwap
  rw [ha, hx]
  exact if_neg fun hne => hne.1 h

/-- Settles O36: ARM, DISARM, the deadline, and the swap at its bearing. -/
theorem swapActsAtItsBearing : Obligations.SwapActsAtItsBearing := by
  intro s x
  refine ⟨fun hacc hbusy hdev hrun hsh hx => ⟨fun hrole harm hfar => ?_, fun hrole harm => ?_, fun hen hrole => ?_⟩,
    fun a ha => ⟨fun hacc hbusy hrole => completes_disarm ha hacc hbusy hrole,
      fun _ hrole hv hd hop => completes_swapAbortDeadline ha hrole hv hd hop, fun hx hat => ⟨fun hst => ?_, fun hst hv => ?_,
      fun hst hv => ?_⟩, fun hx hne hahead => ?_⟩⟩
  · exact completes_arm hacc hbusy hdev hrun hsh hx hrole harm hfar
  · refine completes_arm_refused hacc hdev stInvalid ?_
    rw [Block.armSwap_eq hx hbusy, if_pos (Block.armState_of hdev hrun hsh hrole), if_pos]
    rw [show s.blk.armable s.blk.swapAt = false from harm]
    rfl
  · refine completes_arm_refused hacc hdev stStateReject ?_
    rw [Block.armSwap_eq hx hbusy, if_neg]
    unfold Block.armState
    rw [hen]
    simp [hrole]
  · refine completes_of_next (b := s.blk.imageSwap) rfl ?_
    rw [Block.imageSwap_eq ha hx hat, if_pos hst]
    obtain ⟨himg, -, -, -, hcause⟩ := Block.abortSwapAll_shows ha 4
    rw [Block.gated_img, himg, Block.gated_get_other _ _ (by decide), hcause]
    exact ⟨rfl, rfl⟩
  · refine completes_of_next (b := s.blk.imageSwap) rfl ?_
    rw [Block.imageSwap_eq ha hx hat, if_neg hst, if_neg (by rw [hv]; decide)]
    obtain ⟨-, -, hcause⟩ := Block.swapAbort_shows ha 7
    rw [Block.gated_img, Block.swapAbort_img' ha, Block.gated_get_other _ _ (by decide), hcause]
    exact ⟨rfl, rfl⟩
  · refine completes_of_next (b := s.blk.imageSwap) rfl ?_
    rw [Block.imageSwap_eq ha hx hat, if_neg hst, if_pos hv, Block.gated_img, Block.gated_get_other _ _ (by decide),
      Block.gated_get_other _ _ (by decide), Block.gated_get_other _ _ (by decide)]
    exact Block.swapSets_shows _ x a.bearing
  · refine completes_of_next (b := s.blk.imageSwap) rfl ?_
    have heq : s.blk.imageSwap = s.blk := by
      unfold Block.imageSwap
      rw [ha, hx]
      exact if_pos ⟨hne, hahead⟩
    rw [heq, Block.gated_img]
    exact ⟨rfl, Block.keepsBut_gated_of_regs rfl⟩

end Sys2Proof.Machine

/-!
Loading, staging, discarding and sealing the image (R61 to R71, R84).
-/

namespace Sys2Proof.Machine

/-! ### The commands of CFG_CMD -/

theorem Block.completes_byPfCfg_of_reached {c : Instr} {s : State} {f : Block → Block} {P : Block → Prop}
    (hc : exec c s = .next { s with blk := (s.blk.byPfCfg f).gated }) (h : s.blk.cfgReached = true) (hP : P (f s.blk).gated) :
    Completes c s P := by
  refine completes_of_next hc ?_
  unfold Block.byPfCfg
  rw [if_pos h]
  exact hP

/-- While a command runs another is refused. -/
theorem Block.cfgCmd_of_busy {b : Block} (hbusy : b.on Reg.CFG_CMD_RESULT_BUSY = true) (ok : Bool) (f : Block → Block) :
    b.cfgCmd ok f = (b.set Reg.CFG_CMD_RESULT_STATUS stStateReject).raiseFixed 6 := if_pos hbusy

theorem completes_busy {c : Instr} {s : State} {g : Block → Block}
    (hc : exec c s = .next { s with blk := (s.blk.byPfCfg g).gated })
    (hg : g s.blk = (s.blk.set Reg.CFG_CMD_RESULT_STATUS stStateReject).raiseFixed 6) (hacc : s.blk.accepts = true) :
    Completes c s fun b =>
      b.get Reg.CFG_CMD_RESULT_STATUS = 1 ∧ b.img = s.blk.img ∧ s.blk.keepsBut b [Reg.CFG_CMD_RESULT] := by
  refine Block.completes_byPfCfg hc hacc ?_
  rw [hg]
  have hsilent : ((s.blk.set Reg.CFG_CMD_RESULT_STATUS stStateReject).raiseFixed 6).dev.silent = false := by
    rw [Block.raiseFixed_dev, Block.set_dev]
    exact Block.not_silent_of_accepts hacc
  rw [Block.gated_get_of_not_silent hsilent, Block.get_of_regs (Block.raiseFixed_regs _ _), Block.get_set_same _ _ _ (by decide),
    Block.gated_img, Block.raiseFixed_img, Block.set_img]
  exact ⟨rfl, rfl, (Block.keepsBut.raiseFixed ((s.blk.keepsBut_refl _).set _ (by simp)) 6).gated_of_not_silent hsilent⟩

theorem completes_load {s : State} (hreach : s.blk.cfgReached = true) (hbusy : s.blk.on Reg.CFG_CMD_RESULT_BUSY = false)
    (hdev : s.blk.dev = .load) (hsel : s.blk.get Reg.HIF_STRAPS_BOOT_SEL = 0) : Completes .load s fun b =>
      b.get Reg.CFG_CMD_RESULT_BUSY = 1 ∧
      b.get Reg.CFG_LOAD_STATUS_ATTEMPTS = (s.blk.get Reg.CFG_LOAD_STATUS_ATTEMPTS + 1) % 8 ∧
      s.blk.keepsBut b [Reg.CFG_CMD_RESULT, Reg.CFG_LOAD_STATUS, Reg.SP_STAT 1] := by
  refine Block.completes_byPfCfg_of_reached (f := Block.loadCmd) rfl hreach ?_
  have heq : s.blk.loadCmd = (s.blk.set Reg.CFG_CMD_RESULT_BUSY 1).inc Reg.CFG_LOAD_STATUS_ATTEMPTS :=
    Block.cfgCmd_of_ok hbusy (by simp [hdev, hsel]) _
  have hset : (s.blk.set Reg.CFG_CMD_RESULT_BUSY 1).get Reg.CFG_LOAD_STATUS_ATTEMPTS = s.blk.get Reg.CFG_LOAD_STATUS_ATTEMPTS :=
    Block.get_of_rd (Block.rd_set_other _ _ _ _ (by decide))
  have hinc : ((s.blk.set Reg.CFG_CMD_RESULT_BUSY 1).inc Reg.CFG_LOAD_STATUS_ATTEMPTS).get Reg.CFG_CMD_RESULT_BUSY =
      (s.blk.set Reg.CFG_CMD_RESULT_BUSY 1).get Reg.CFG_CMD_RESULT_BUSY :=
    Block.get_of_rd (Block.rd_set_other _ Reg.CFG_LOAD_STATUS_ATTEMPTS _ _ (by decide))
  rw [heq, Block.gated_get_other _ _ (by decide), Block.gated_get_other _ _ (by decide), Block.get_inc _ _ (by decide), hinc, hset,
    Block.get_set_same _ _ _ (by decide)]
  exact ⟨rfl, rfl, (((s.blk.keepsBut_refl _).set _ (by simp)).inc (by simp)).gated (by simp)⟩

/-- The block with a staging from `source` begun. -/
def Block.stagingFrom (b : Block) (source : Nat) : Block :=
  ({ b with img := { b.img with shadow := none, staging := source } } : Block).setAll
    [(Reg.CFG_STATUS_SHADOW, 1), (Reg.CFG_CMD_RESULT_BUSY, 1), (Reg.CFG_SHADOW_SERIAL_SERIAL, 0), (Reg.CFG_PRESERVE_MASK_PORTS, 0)]

theorem Block.stageCmd_eq {b : Block} (hbusy : b.on Reg.CFG_CMD_RESULT_BUSY = false) (hdev : b.dev = .service)
    (hsh : b.get Reg.CFG_STATUS_SHADOW = 0 ∨ b.get Reg.CFG_STATUS_SHADOW = 2 ∨ b.get Reg.CFG_STATUS_SHADOW = 3) (source : Nat) :
    b.stageCmd source = b.stagingFrom source := by
  unfold Block.stageCmd
  refine Block.cfgCmd_of_ok hbusy ?_ _
  rw [hdev]
  rcases hsh with h | h | h <;> rw [h] <;> rfl

theorem completes_stage {c : Instr} {s : State} {source : Nat}
    (hc : exec c s = .next { s with blk := (s.blk.byPfCfg fun b => b.stageCmd source).gated })
    (hreach : s.blk.cfgReached = true) (hbusy : s.blk.on Reg.CFG_CMD_RESULT_BUSY = false) (hdev : s.blk.dev = .service)
    (hsh : s.blk.get Reg.CFG_STATUS_SHADOW = 0 ∨ s.blk.get Reg.CFG_STATUS_SHADOW = 2 ∨ s.blk.get Reg.CFG_STATUS_SHADOW = 3) :
    Completes c s fun b => b.get Reg.CFG_STATUS_SHADOW = 1 ∧ b.get Reg.CFG_CMD_RESULT_BUSY = 1 ∧ b.img.shadow = none ∧
      b.img.staging = source ∧ b.img.active = s.blk.img.active := by
  refine Block.completes_byPfCfg_of_reached hc hreach ?_
  rw [Block.stageCmd_eq hbusy hdev hsh, Block.gated_img, Block.gated_get_other _ _ (by decide),
    Block.gated_get_other _ _ (by decide)]
  have himg : (s.blk.stagingFrom source).img = { s.blk.img with shadow := none, staging := source } := Block.setAll_img _ _
  rw [himg]
  refine ⟨?_, ?_, rfl, rfl, rfl⟩ <;> unfold Block.stagingFrom
  · rw [Block.get_setAll_head _ _ _ _ (by decide) (by simp [Field.fits, Field.apart])]
    rfl
  · rw [Block.setAll_cons, Block.get_setAll_head _ _ _ _ (by decide) (by simp [Field.fits, Field.apart])]
    rfl

theorem completes_discard {s : State} (hacc : s.blk.accepts = true) (hbusy : s.blk.on Reg.CFG_CMD_RESULT_BUSY = false)
    (hsh : s.blk.get Reg.CFG_STATUS_SHADOW = 2 ∨ s.blk.get Reg.CFG_STATUS_SHADOW = 3) : Completes .discard s fun b =>
      b.get Reg.CFG_STATUS_SHADOW = 0 ∧ b.img.shadow = none ∧ b.get Reg.CFG_CMD_RESULT_STATUS = 0 ∧
      b.img.active = s.blk.img.active := by
  refine Block.completes_byPfCfg (f := Block.discardCmd) rfl hacc ?_
  have heq : s.blk.discardCmd = s.blk.discardShadow.cfgDone stOK :=
    Block.cfgCmd_of_ok hbusy (by rcases hsh with h | h <;> simp [h]) _
  have hshadow : s.blk.discardShadow.get Reg.CFG_STATUS_SHADOW = 0 := by
    unfold Block.discardShadow
    refine (Block.get_of_regs (b := s.blk.setAll _) rfl _).trans ?_
    rw [Block.get_setAll_head _ _ _ _ (by decide) (by simp [Field.fits, Field.apart])]
    rfl
  have himg : s.blk.discardShadow.img = { s.blk.img with shadow := none, armed := none } := by
    unfold Block.discardShadow
    dsimp only
    rw [Block.setAll_img]
  rw [heq, Block.gated_get_other _ _ (by decide), Block.gated_get_other _ _ (by decide), Block.gated_img,
    Block.cfgDone_get _ _ _ (by decide), Block.cfgDone_status, Block.cfgDone_img, himg, hshadow]
  exact ⟨rfl, rfl, rfl, rfl⟩

theorem completes_seal {s : State} (hacc : s.blk.accepts = true) (hbusy : s.blk.on Reg.CFG_CMD_RESULT_BUSY = false) :
    Completes .seal s fun b => b.get Reg.CFG_STATUS_SEALED = 1 ∧ b.get Reg.CFG_CMD_RESULT_STATUS = 0 ∧
      s.blk.keepsBut b [Reg.CFG_STATUS, Reg.CFG_CMD_RESULT] := by
  refine Block.completes_byPfCfg (f := Block.sealCmd) rfl hacc ?_
  have heq : s.blk.sealCmd = (s.blk.set Reg.CFG_STATUS_SEALED 1).cfgDone stOK := Block.cfgCmd_of_ok hbusy rfl _
  have hsilent : ((s.blk.set Reg.CFG_STATUS_SEALED 1).cfgDone stOK).dev.silent = false := by
    rw [Block.cfgDone_dev, Block.set_dev]
    exact Block.not_silent_of_accepts hacc
  rw [heq, Block.gated_get_of_not_silent hsilent, Block.gated_get_of_not_silent hsilent, Block.cfgDone_get _ _ _ (by decide),
    Block.cfgDone_status, Block.get_set_same _ _ _ (by decide)]
  exact ⟨rfl, rfl, (Block.cfgDone_keepsBut ((s.blk.keepsBut_refl _).set _ (by simp)) _ (by simp)).gated_of_not_silent hsilent⟩

/-! ### Reading an image -/

theorem Block.cfgDone_busy (b : Block) (status : Nat) : (b.cfgDone status).get Reg.CFG_CMD_RESULT_BUSY = 0 := by
  unfold Block.cfgDone
  rw [Block.get_of_regs (Block.raiseFixed_regs _ _), Block.setAll_cons, Block.get_setAll_head _ _ _ _ (by decide) (by simp)]
  rfl

theorem Block.countDma_keepsBut {b c : Block} {offs : List Nat} (h : b.keepsBut c offs) (fn : Nat) (d : DmaRead)
    (hcount : Reg.HIF_DMA_ERR ∈ offs) (hinfo : Reg.HIF_DMA_ERR_INFO ∈ offs) : b.keepsBut (c.countDma fn d) offs := by
  unfold Block.countDma Block.dmaError
  split
  · dsimp only
    split
    · exact h.inc hcount
    · exact (h.inc (f := Reg.HIF_DMA_ERR_COUNT) hcount).setAll (by simp [hinfo])
  · exact h

theorem Block.countDma_img (b : Block) (fn : Nat) (d : DmaRead) : (b.countDma fn d).img = b.img := by
  unfold Block.countDma
  split
  · rw [Block.dmaError_img]
  · rfl

theorem Block.countDma_dev (b : Block) (fn : Nat) (d : DmaRead) : (b.countDma fn d).dev = b.dev := by
  unfold Block.countDma
  split
  · rw [Block.dmaError_dev]
  · rfl

/-- The block once its image has been read: a failed read counted, the result shown. -/
def Block.hasRead (b : Block) (shadow : Bool) (d : DmaRead) (c : Checked) : Block := (b.countDma 0 d).reportChecked shadow c

theorem Block.hasRead_img (b : Block) (shadow : Bool) (d : DmaRead) (c : Checked) : (b.hasRead shadow d c).img = b.img :=
  (Block.setAll_img _ _).trans (b.countDma_img 0 d)

theorem Block.hasRead_dev (b : Block) (shadow : Bool) (d : DmaRead) (c : Checked) : (b.hasRead shadow d c).dev = b.dev :=
  (Block.setAll_dev _ _).trans (b.countDma_dev 0 d)

theorem Block.hasRead_attempts (b : Block) (shadow : Bool) (d : DmaRead) (c : Checked) :
    (b.hasRead shadow d c).get Reg.CFG_LOAD_STATUS_ATTEMPTS = b.get Reg.CFG_LOAD_STATUS_ATTEMPTS := by
  unfold Block.hasRead Block.reportChecked
  rw [Block.get_setAll_skip _ _ _ (by simp [Field.fits, Field.apart])]
  exact (Block.countDma_keepsBut (b.keepsBut_refl _) 0 d (by simp) (by simp)).get (offs := [Reg.HIF_DMA_ERR, Reg.HIF_DMA_ERR_INFO])
    (by decide)

/-- The shadow's registers once its image has been verified. -/
def Block.staged (b : Block) (x : ImageSet) : Block :=
  (({ b with img := { b.img with shadow := some x } } : Block).setAll [(Reg.CFG_STATUS_SHADOW, 2),
    (Reg.CFG_SHADOW_SERIAL_SERIAL, x.serial.toNat), (Reg.CFG_PRESERVE_MASK_PORTS, preserveMask x.sections)]).cfgDone stOK

theorem Block.stagingDone_eq {b : Block} (src : ImageSource) (hdev : b.dev = .service) (hbusy : b.on Reg.CFG_CMD_RESULT_BUSY = true)
    (hsh : b.get Reg.CFG_STATUS_SHADOW = 1) (hst : b.img.staging = 0) : b.stagingDone src =
      match (b.checkHost true src.host).set with
      | some x => (b.hasRead true src.host (b.checkHost true src.host)).staged x
      | none => ((b.hasRead true src.host (b.checkHost true src.host)).set Reg.CFG_STATUS_SHADOW 3).cfgFailed := by
  unfold Block.stagingDone
  rw [hdev, hbusy, if_neg (by decide), if_neg (by rw [hsh]; decide)]
  extract_lets c d1 d2
  have hc : c = b.checkHost true src.host := by
    unfold c
    rw [hst]
    rfl
  have hd1 : d1 = b.countDma 0 src.host := if_pos hst
  have hd2 : d2 = d1.reportChecked true c := rfl
  clear_value c d1 d2
  subst hc hd1 hd2
  rfl

theorem Block.staged_shows (b : Block) (x : ImageSet) : (b.staged x).get Reg.CFG_STATUS_SHADOW = 2 ∧
    (b.staged x).img = { b.img with shadow := some x } ∧ (b.staged x).get Reg.CFG_CMD_RESULT_STATUS = 0 ∧
    (b.staged x).get Reg.CFG_SHADOW_SERIAL_SERIAL = x.serial.toNat ∧ (b.staged x).get Reg.CFG_CMD_RESULT_BUSY = 0 := by
  unfold Block.staged
  rw [Block.cfgDone_img, Block.setAll_img, Block.cfgDone_status, Block.cfgDone_get _ _ _ (by decide),
    Block.cfgDone_get _ _ _ (by decide), Block.cfgDone_busy,
    Block.get_setAll_head _ _ _ _ (by decide) (by simp [Field.fits, Field.apart]), Block.setAll_cons,
    Block.get_setAll_head _ _ _ _ (by decide) (by simp [Field.fits, Field.apart])]
  exact ⟨rfl, rfl, rfl, Nat.mod_eq_of_lt x.serial.isLt, rfl⟩

theorem Block.cfgFailed_img (b : Block) : b.cfgFailed.img = b.img := Block.cfgDone_img _ _

theorem Block.cfgFailed_dev (b : Block) : b.cfgFailed.dev = b.dev := Block.cfgDone_dev _ _

theorem Block.cfgFailed_get (b : Block) (f : Field) (hf : f.off ≠ Reg.CFG_CMD_RESULT) : b.cfgFailed.get f = b.get f :=
  Block.cfgDone_get _ _ f hf

/-- What the end of a staging shows, by the set that its image holds. -/
def Block.stagedAs (b d : Block) (set : Option ImageSet) : Prop :=
  d.get Reg.CFG_CMD_RESULT_BUSY = 0 ∧ d.img.active = b.img.active ∧
    match set with
    | some x => d.get Reg.CFG_STATUS_SHADOW = 2 ∧ d.img.shadow = some x ∧ d.get Reg.CFG_CMD_RESULT_STATUS = 0 ∧
        d.get Reg.CFG_SHADOW_SERIAL_SERIAL = x.serial.toNat
    | none => d.get Reg.CFG_STATUS_SHADOW = 3 ∧ d.img.shadow = b.img.shadow

theorem Block.staged_stagedAs {b d : Block} (himg : d.img = b.img) (x : ImageSet) : b.stagedAs (d.staged x).gated (some x) := by
  obtain ⟨hshadow, hdimg, hstatus, hserial, hb⟩ := d.staged_shows x
  unfold Block.stagedAs
  rw [Block.gated_get_other _ _ (by decide), Block.gated_get_other _ _ (by decide), Block.gated_get_other _ _ (by decide),
    Block.gated_get_other _ _ (by decide), Block.gated_img, hdimg, himg]
  exact ⟨hb, rfl, hshadow, rfl, hstatus, hserial⟩

theorem Block.cfgFailed_stagedAs {b d : Block} (himg : d.img = b.img) :
    b.stagedAs (d.set Reg.CFG_STATUS_SHADOW 3).cfgFailed.gated none := by
  have hshadow : (d.set Reg.CFG_STATUS_SHADOW 3).cfgFailed.get Reg.CFG_STATUS_SHADOW = 3 := by
    rw [Block.cfgFailed_get _ _ (by decide), Block.get_set_same _ _ _ (by decide)]
    rfl
  unfold Block.stagedAs
  rw [Block.gated_get_other _ _ (by decide), Block.gated_get_other _ _ (by decide), Block.gated_img, Block.cfgFailed_img,
    Block.set_img, himg, hshadow]
  exact ⟨Block.cfgDone_busy _ _, rfl, rfl, rfl⟩

theorem completes_stagingDone {s : State} (src : ImageSource) (hdev : s.blk.dev = .service)
    (hbusy : s.blk.on Reg.CFG_CMD_RESULT_BUSY = true) (hsh : s.blk.get Reg.CFG_STATUS_SHADOW = 1) (hst : s.blk.img.staging = 0) :
    Completes (.stagingDone src) s fun b => s.blk.stagedAs b (s.blk.checkHost true src.host).set := by
  refine completes_of_next (b := s.blk.stagingDone src) rfl ?_
  rw [Block.stagingDone_eq src hdev hbusy hsh hst]
  have himg := s.blk.hasRead_img true src.host (s.blk.checkHost true src.host)
  cases (s.blk.checkHost true src.host).set with
  | none => exact Block.cfgFailed_stagedAs himg
  | some x => exact Block.staged_stagedAs himg x

/-! ### The active set obtained -/

theorem Block.admits.bindLanes {b c : Block} (h : b.admits c) : b.admits c.bindLanes := by
  have hbind : ∀ (d : Block) (l : Nat) (x : Option Binding), d.admits (d.rebind l x) := fun d l x =>
    d.admits_refl.ite (d.onLine_refl.setLane l _).admits
  have hserve : ∀ (d : Block) (x : Binding), d.admits (d.serveBinding x).1 := fun d x => by
    unfold Block.serveBinding
    split
    · exact hbind d _ _
    · exact d.admits_refl
  unfold Block.bindLanes
  extract_lets keeps d1 x d2 d3 out
  have h1 : b.admits d1 := h.foldl _ _ fun d l => d.admits_refl.ite (hbind d l _)
  clear_value d1
  have h2 : b.admits d2 := h1.of_eq rfl rfl rfl rfl rfl
  clear_value d2
  have h3 : b.admits d3 := h2.foldl _ _ fun d l => (hbind d l _).ite d.admits_refl
  clear_value d3
  have hout : b.admits out.1 := by
    refine foldl_fst_admits h3 _ (fun acc l => ?_) _ _
    dsimp only
    split
    · split
      · exact acc.1.admits_refl
      · exact hserve acc.1 _
    · exact acc.1.admits_refl
  clear_value out
  unfold Block.countSpares
  refine Block.admits.setAll (hout.foldl _ _ fun d n => ?_) _ ?_
  · have hset : d.admits (d.setOn (Reg.LP_STATUS_LANE_SHORT n) (out.2.contains n)) :=
      d.admits_refl.set _ _ (lineReg_of_le (by simp only [Reg.LP_STATUS]; omega))
    exact hset.trans ((Block.onLine_refl _).refreshAnchor n).admits
  · have hreg : lineReg Reg.FLT_SPARES := by
      unfold lineReg
      decide
    simp [hreg]

theorem Block.admits_showSettings (b : Block) : b.admits b.showSettings := by
  unfold Block.showSettings
  extract_lets chain replica d
  have hd : b.admits d := by
    refine b.admits_refl.foldl _ _ fun e n => ?_
    refine (e.admits_refl.set _ _ ?_).set _ _ ?_
    · exact lineReg_of_le (by simp only [Reg.LP_CTRL]; omega)
    · exact lineReg_of_le (by simp only [Reg.LP_G3_CTRL]; omega)
  have hreg : lineReg Reg.TRV_PART := lineReg_of_le (by decide)
  exact hd.setAll _ (by simp [hreg])

theorem Block.admits_showReserve (b : Block) : b.admits b.showReserve := by
  have hdram : lineReg Reg.FLT_DRAM_RESERVE := by
    unfold lineReg
    decide
  have hqf : lineReg Reg.QF_STORAGE := lineReg_of_le (by decide)
  exact b.admits_refl.setAll _ (by simp [hdram, hqf])

/-- The active set as it stands once loaded, and its register. -/
theorem Block.loadSet_shows (b : Block) (x : ImageSet) : (b.loadSet x).img.active = some x ∧
    (b.loadSet x).get Reg.CFG_STATUS_ACTIVE_VALID = 1 := by
  unfold Block.loadSet
  extract_lets d1 d2 y d3 d4
  clear_value d2
  have hactive : d4.img.active = some x := by
    unfold d4
    rw [Block.setAll_img]
  have hvalid : d4.get Reg.CFG_STATUS_ACTIVE_VALID = 1 := by
    unfold d4
    rw [Block.get_setAll_head _ _ _ _ (by decide) (by simp [Field.fits, Field.apart])]
    rfl
  clear_value d4
  have h5 : d4.admits d4.bindLanes.showSettings.showReserve :=
    (d4.admits_refl.bindLanes.trans (Block.admits_showSettings _)).trans (Block.admits_showReserve _)
  constructor
  · rw [Block.followNoiseFreeze_img, h5.img, hactive]
  · rw [Block.get_of_regs (Block.followNoiseFreeze_regs _), h5.regs.get (by unfold lineReg; decide), hvalid]

theorem Block.admits_setRole (b : Block) (r : Role) : b.admits (b.setRole r) := by
  unfold Block.setRole
  exact (b.admits_refl.withChain _).set _ _ (lineReg_of_le (by decide))

theorem Block.enterSettle_shows (b : Block) : b.enterSettle.dev = .settle ∧ b.enterSettle.img = b.img ∧
    Block.writesIn lineReg b b.enterSettle := by
  unfold Block.enterSettle
  extract_lets d1 x1 x2 x3 d2 d3 d4 x5 d5 d6
  have hdev : d1.dev = .settle := b.setDev_dev _
  have himg : d1.img = b.img := b.setDev_img _
  have hregs : d1.regs = b.regs := b.setDev_regs _
  clear_value d1
  have hdev2 : d2.dev = .settle := hdev
  have himg2 : d2.img = b.img := himg
  have hregs2 : d2.regs = b.regs := hregs
  clear_value d2
  have h3 : d2.admits d3 := d2.admits_setRole .none
  clear_value d3
  have h4 : d2.admits d4 := h3.foldl _ _ fun d n => (d.onLine_refl.setPort n _).admits
  clear_value d4
  have h5 : d2.admits d5 := h4.of_eq rfl rfl rfl rfl rfl
  clear_value d5
  have h6 : d2.admits d6 := h5.foldl _ _ fun d n => d.admits_refl.set _ _ (lineReg_of_le (by simp only [Reg.LP_THERM]; omega))
  clear_value d6
  have h7 : d2.admits d6.refreshPorts.refreshLoops.serialFollow := h6.refreshPorts.refreshLoops.serialFollow
  exact ⟨h7.dev.trans hdev2, h7.img.trans himg2, Block.writesIn.trans ((Block.writesIn_refl _ b).of_regs hregs2) h7.regs⟩

theorem Block.writesIn.withImg {P : Nat → Prop} {b c : Block} (h : Block.writesIn P b c) (x : ImgSt) :
    Block.writesIn P b { c with img := x } := h.of_regs rfl

theorem Block.recordDefaulted_shows (b : Block) : b.recordDefaulted.dev = b.dev ∧ b.recordDefaulted.img.active = b.img.active ∧
    Block.writesIn lineReg b b.recordDefaulted := by
  unfold Block.recordDefaulted
  split
  · refine ⟨?_, ?_, Block.writesIn.post ?_ _ _ _ _ lineReg_record⟩
    · rw [Block.post_dev]
    · rw [Block.post_img]
    · exact (Block.writesIn_refl _ b).withImg _
  · exact ⟨rfl, rfl, Block.writesIn_refl _ b⟩

theorem Block.loaded_shows (b : Block) (x : ImageSet) : (b.loaded x).dev = .settle ∧ (b.loaded x).img.active = some x ∧
    (b.loaded x).get Reg.CFG_STATUS_ACTIVE_VALID = 1 := by
  obtain ⟨hactive, hvalid⟩ := b.loadSet_shows x
  obtain ⟨hdev, himg, hregs⟩ := (b.loadSet x).enterSettle_shows
  unfold Block.loaded
  extract_lets d
  have hd : d = (b.loadSet x).enterSettle := rfl
  rw [← hd] at hdev himg hregs
  clear_value d
  obtain ⟨hdev', hactive', hregs'⟩ := (d.post 0x1001 0 0x49 [(4, (d.rd Reg.GLB_RESET_CAUSE).toNat)]).recordDefaulted_shows
  refine ⟨?_, ?_, ?_⟩
  · rw [hdev', Block.post_dev, hdev]
  · rw [hactive', Block.post_img, himg, hactive]
  · rw [hregs'.get (by unfold lineReg; decide), Block.get_post _ _ _ _ _ _ (by decide), hregs.get (by unfold lineReg; decide), hvalid]

/-! ### The end of obtaining the set -/

/-- LOAD's end with the host's image. -/
theorem Block.loadComplete_host {b : Block} (src : ImageSource) (hdev : b.dev = .load)
    (hsel : b.get Reg.HIF_STRAPS_BOOT_SEL = 0) (hbusy : b.on Reg.CFG_CMD_RESULT_BUSY = true) : b.loadComplete src =
      match (b.checkHost false src.host).set with
      | some x => ((b.hasRead false src.host (b.checkHost false src.host)).cfgDone stOK).loaded x
      | none =>
        let d := (b.hasRead false src.host (b.checkHost false src.host)).cfgFailed
        if 4 ≤ d.get Reg.CFG_LOAD_STATUS_ATTEMPTS then d.unloadable else d := by
  unfold Block.loadComplete
  extract_lets finish
  rw [hdev, if_neg (by decide), hsel, hbusy]
  rfl

/-- What the end of a load shows, by the set that the image holds. -/
def Block.loadedAs (b d : Block) (set : Option ImageSet) : Prop :=
  match set with
  | some x => d.dev = .settle ∧ d.img.active = some x ∧ d.get Reg.CFG_STATUS_ACTIVE_VALID = 1
  | none => if 4 ≤ b.get Reg.CFG_LOAD_STATUS_ATTEMPTS then d.quietWith 0x01
      else d.dev = .load ∧ d.img.active = b.img.active ∧ d.get Reg.CFG_CMD_RESULT_BUSY = 0

theorem Block.loaded_loadedAs (b d : Block) (x : ImageSet) : b.loadedAs (d.loaded x).gated (some x) := by
  obtain ⟨hdev, hactive, hvalid⟩ := d.loaded_shows x
  unfold Block.loadedAs
  rw [Block.gated_dev, Block.gated_img, Block.gated_get_other _ _ (by decide)]
  exact ⟨hdev, hactive, hvalid⟩

theorem Block.unloadable_quietWith {b : Block} (h : b.dev = .load) : b.unloadable.gated.quietWith 0x01 :=
  Block.doubt_quietWith (by decide) (by rw [h]; rfl)

theorem Block.cfgFailed_loadedAs {b d : Block} (hdev : d.dev = .load) (himg : d.img = b.img)
    (hatt : d.get Reg.CFG_LOAD_STATUS_ATTEMPTS = b.get Reg.CFG_LOAD_STATUS_ATTEMPTS) :
    b.loadedAs (if 4 ≤ d.cfgFailed.get Reg.CFG_LOAD_STATUS_ATTEMPTS then d.cfgFailed.unloadable else d.cfgFailed).gated none := by
  unfold Block.loadedAs
  dsimp only
  rw [Block.cfgFailed_get _ _ (by decide), hatt]
  by_cases h : 4 ≤ b.get Reg.CFG_LOAD_STATUS_ATTEMPTS
  · rw [if_pos h, if_pos h]
    exact Block.unloadable_quietWith (d.cfgFailed_dev.trans hdev)
  · rw [if_neg h, if_neg h, Block.gated_dev, Block.gated_img, Block.gated_get_other _ _ (by decide), Block.cfgFailed_dev,
      Block.cfgFailed_img, himg]
    exact ⟨hdev, rfl, Block.cfgDone_busy _ _⟩

theorem completes_loadComplete_host {s : State} (src : ImageSource) (hdev : s.blk.dev = .load)
    (hsel : s.blk.get Reg.HIF_STRAPS_BOOT_SEL = 0) (hbusy : s.blk.on Reg.CFG_CMD_RESULT_BUSY = true) :
    Completes (.loadComplete src) s fun b => s.blk.loadedAs b (s.blk.checkHost false src.host).set := by
  refine completes_of_next (b := s.blk.loadComplete src) rfl ?_
  rw [Block.loadComplete_host src hdev hsel hbusy]
  have hd : (s.blk.hasRead false src.host (s.blk.checkHost false src.host)).dev = .load := (Block.hasRead_dev _ _ _ _).trans hdev
  have himg := s.blk.hasRead_img false src.host (s.blk.checkHost false src.host)
  have hatt := s.blk.hasRead_attempts false src.host (s.blk.checkHost false src.host)
  cases (s.blk.checkHost false src.host).set with
  | none => exact Block.cfgFailed_loadedAs hd himg hatt
  | some x => exact Block.loaded_loadedAs _ _ x

theorem completes_loadComplete_slotB {s : State} (src : ImageSource) (hdev : s.blk.dev = .load)
    (hsel : s.blk.get Reg.HIF_STRAPS_BOOT_SEL = 2) (hnone : (s.blk.checkSlot false true src.slotBOk).set = none) :
    Completes (.loadComplete src) s fun b => b.quietWith 0x01 := by
  refine completes_of_next (b := s.blk.loadComplete src) rfl ?_
  have heq : s.blk.loadComplete src = (s.blk.reportChecked false (s.blk.checkSlot false true src.slotBOk)).unloadable := by
    unfold Block.loadComplete
    extract_lets finish
    rw [hdev, if_neg (by decide), hsel]
    change finish s.blk _ = _
    unfold finish
    rw [hnone]
  rw [heq]
  exact Block.unloadable_quietWith ((Block.setAll_dev _ _).trans hdev)

/-- Settles O35: each command of CFG_CMD, and the ends of a load and of a staging. -/
theorem imageIsLoadedAndStaged : Obligations.ImageIsLoadedAndStaged := by
  intro s src
  refine ⟨completes_load, fun hreach hbusy hdev hsh => ?_, completes_stagingDone src, completes_loadComplete_host src,
    completes_loadComplete_slotB src, fun hacc hbusy => ⟨completes_discard hacc hbusy, completes_seal hacc hbusy⟩,
    fun hacc hbusy => ?_⟩
  · simp only [List.forall_mem_cons, List.not_mem_nil, false_imp_iff, implies_true, and_true]
    exact ⟨completes_stage rfl hreach hbusy hdev hsh, completes_stage rfl hreach hbusy hdev hsh,
      completes_stage rfl hreach hbusy hdev hsh⟩
  · simp only [List.forall_mem_cons, List.not_mem_nil, false_imp_iff, implies_true, and_true]
    have hcmd := fun ok f => Block.cfgCmd_of_busy hbusy ok f
    have hstage : ∀ source, s.blk.stageCmd source = (s.blk.set Reg.CFG_CMD_RESULT_STATUS stStateReject).raiseFixed 6 :=
      fun source => by
        unfold Block.stageCmd
        exact hcmd _ _
    have harm : s.blk.armSwap = (s.blk.set Reg.CFG_CMD_RESULT_STATUS stStateReject).raiseFixed 6 := by
      unfold Block.armSwap
      exact hcmd _ _
    exact ⟨completes_busy rfl (hcmd _ _) hacc, completes_busy rfl (hstage 0) hacc, completes_busy rfl (hstage 1) hacc,
      completes_busy rfl (hstage 2) hacc, completes_busy rfl harm hacc, completes_busy (g := Block.disarmSwap) rfl (hcmd _ _) hacc,
      completes_busy rfl (hcmd _ _) hacc, completes_busy rfl (hcmd _ _) hacc⟩

end Sys2Proof.Machine

/-!
Frames received on a lane whose binding names a port that the device does not have. The statements on received frames are over
every block; Sounding shows what it learns of a gain step in the register of the step's port (R223), and with such a port that
register is another unit's.
-/

namespace Sys2Proof.Machine

/-! ### A frame on a port beyond the last -/

/-- A sounded frame of the type, of 200 payload symbols in mode 0 on sub-band 0. -/
def farFrame (type : Nat) : RxFch :=
  { bits := type + 200 * 16, lead := 0, node := none, phy := { mode := 0, bands := 1, map := [], streams := 1 }
    sample0 := 0, last := 0, samples := 0, starts := [], units := [] }

/-- The reception of that frame, ended. -/
def farReception (type : Nat) : Reception :=
  { start := 0, startTick := 0, freq := 0, syncs := 0, deep := false, fch := [], peaks := [], bearing := 0, stampA := 0
    stampB := 0, synced := true, xband := false, halved := [], g3 := false, frame := some (farFrame type), ended := true }

/-- A block in SERVICE with the frame on lane 0, bound to `port`; parcels need no link security, the coefficient of the port's gain step `step` is 0. Node 1,
a relay, sends it; node 2 is its child. Joins are open, the range of function 0 is entry 0. -/
def farBlock (type port step : Nat) : Block := { Block.reset with
  dev := .service
  regs := [(Reg.MAC_CTRL, 2), (Reg.TRV_PART, 0x10), (Reg.CX_CTRL, 0), (Reg.QD_WR 0, 5)]
  pool := { Block.reset.pool with lanes :=
    [(0, { binding := some ⟨port, 0, false⟩, retired := false, reception := some (farReception type) })] }
  sound := { Block.reset.sound with coefs := [(coefKey 0 (agcPlace port step), Coef.start 0 0)] }
  img := { Block.reset.img with settings := [(0x3040, 0x80000000), (0x3044, 1)] }
  trv := { Block.reset.trv with
    nodes := [(1, { Node.free with state := 2, relay := true, long := 1, short := 131073 }),
      (2, { Node.free with state := 2, relay := true, long := 2, short := 131074, parent := 131073 })]
    ext := [(1, { NodeExt.reset with seen := [(131073, 0)] })] } }

/-- A frame with these information bits and one observed gain step. -/
def farRx (bits : Nat) (step : Fin 18) : RxFrame :=
  { lane := 0, info := (List.range 288).map bits.testBit, decodes := [], snr := 0
    obs := { estimates := [], att := [], tau := 0, snr := [], steps := [(step.castSucc, step.succ, 0, 0)] } }

/-- What a block makes of a frame of this type that passes. -/
def farHeard (b : Block) (type : Nat) (r : RxFrame) : Heard × MacHeader :=
  (b.receive type r).2.getD (⟨0, 0, farReception type, farFrame type, [], false⟩, MacHeader.ofBytes [])

/-- The block that a command leaves behind. -/
def Block.after (b : Block) (c : Instr) : Block := match exec c ⟨b, []⟩ with
  | .next t => t.blk
  | _ => b

theorem Completes.after {c : Instr} {b : Block} {P : Block → Prop} (h : Completes c ⟨b, []⟩ P) : P (b.after c) := by
  obtain ⟨t, ht, -, hP⟩ := h
  unfold Block.after
  rw [ht]
  exact hP

/-! ### Reports (R308) -/

/-- Port 1794's gain step 4 lies at TRV_PART. -/
def missBlock : Block := farBlock typeRoute 1794 4

/-- RC_MISS of node 1: its child 131074 has missed one Cairn. -/
def missRx : RxFrame := farRx 12342255948024256270776999573874983628088047766221311856 4

def missHeard : Heard × MacHeader := farHeard missBlock typeRoute missRx

theorem missBlock_takes : missBlock.takesFrame typeRoute missRx 5 1 missHeard.1 missHeard.2 := by
  unfold Block.takesFrame
  decide +kernel

theorem missBlock_after : ((missBlock.after (.rcMissReceived missRx)).node 2).rcMiss = 0 := by decide +kernel

/-- Refutes O43: the statement is over every block, also one with a lane bound to port 1794. Sounding shows that port's gain step
4 at TRV_PART (R223): the base of the short addresses is 0 before RC_MISS looks its relay up, which is not found. -/
theorem not_nodeReportsAreTaken : ¬ Obligations.NodeReportsAreTaken := by
  intro h
  obtain ⟨-, -, -, hmiss, -⟩ := h ⟨missBlock, []⟩ missRx missHeard.1 missHeard.2 1 2
  obtain ⟨hcount, -⟩ := (hmiss missBlock_takes (by decide +kernel) (by decide +kernel) rfl rfl rfl).after
  have hone : min 3 (byteAt (missHeard.1.body 5) 4) = 1 := by decide +kernel
  exact absurd (missBlock_after.symm.trans (hcount.trans hone)) (by decide)

/-! ### Joins (R306) -/

/-- JOIN_FWD of node 1 for the node with LONG 7. -/
def joinRx : RxFrame := farRx 6107033127270389451449978847098191680834663720907224014278297792064506975321542512 4

def joinHeard : Heard × MacHeader := farHeard missBlock typeRoute joinRx

theorem missBlock_takesJoin : missBlock.takesFrame typeRoute joinRx 16 1 joinHeard.1 joinHeard.2 := by
  unfold Block.takesFrame
  decide +kernel

theorem missBlock_afterJoin : ((missBlock.after (.joinFwdReceived joinRx)).node 0).state = 0 := by decide +kernel

/-- Refutes O42: on the same block entry 0 is free, but once Sounding has shown the gain step at TRV_PART its short address is the
device's: the entry is never allocated and the join is refused. -/
theorem not_nodesJoinAndLeave : ¬ Obligations.NodesJoinAndLeave := by
  intro h
  obtain ⟨hjoin, -⟩ := h ⟨missBlock, []⟩ joinRx joinHeard.1 joinHeard.2 1 0 0 1 7
  obtain ⟨-, hforward⟩ := hjoin (by decide +kernel) (by decide +kernel) (by decide) (by decide +kernel)
  obtain ⟨hstate, -⟩ := (hforward missBlock_takesJoin (by decide +kernel) rfl (by decide +kernel) (by decide +kernel)
    (by decide +kernel) (by decide +kernel) (by decide +kernel)).after
  exact absurd (missBlock_afterJoin.symm.trans hstate) (by decide)

/-! ### Parcels (R35) -/

/-- Port 18176's gain step 3 lies at QD_WR of queue 0. -/
def parcelBlock : Block := farBlock typeData 18176 3

/-- A DATA frame of node 1 with one parcel that it has sent before. -/
def parcelRx : RxFrame := farRx 4958720351002339415976927298403650093978554087536104999175811664041342643993792368 3

def parcelHeard : Heard × MacHeader := farHeard parcelBlock typeData parcelRx

/-- The parcel's record. -/
def copiedRecord : List Byte := (rxRecords parcelHeard.2 parcelHeard.1.mac).headD []

theorem parcelBlock_receive : (parcelBlock.receive typeData parcelRx).2 = some (parcelHeard.1, parcelHeard.2) := by
  decide +kernel

theorem parcelBlock_after : (parcelBlock.after (.dataReceived parcelRx)).qWr 0 = 0 := by decide +kernel

theorem parcelBlock_qWr : parcelBlock.qWr 0 = 5 := by decide +kernel

/-- Refutes O40: a second copy of a parcel is placed nowhere, but Sounding shows a gain step of port 18176, to which the lane is
bound, at QD_WR of queue 0 (R223). -/
theorem not_dataParcelReachesItsQueue : ¬ Obligations.DataParcelReachesItsQueue := by
  intro h
  obtain ⟨hparcel, -⟩ := h ⟨parcelBlock, []⟩ parcelRx parcelHeard.1 parcelHeard.2 1 1 0 copiedRecord []
  obtain ⟨-, hcopy⟩ := hparcel parcelBlock_receive (by decide +kernel) (by decide +kernel) (by decide +kernel) (by decide +kernel)
    (by decide +kernel) (by decide +kernel) (by decide +kernel) (by decide +kernel) (by decide +kernel) (by decide +kernel)
  obtain ⟨hwr, -⟩ := (hcopy (by decide +kernel)).after
  exact absurd ((parcelBlock_after.symm.trans hwr).trans parcelBlock_qWr) (by decide)

end Sys2Proof.Machine

/-!
Site Sense (R496 to R508): what the stages of a conversion write, the notches and the current loops.
-/

namespace Sys2Proof.Machine

/-! ### Registers of a channel -/

theorem Block.sense_of_core {b c : Block} (h : c.core = b.core) : c.sense = b.sense := show c.core.sense = b.core.sense by rw [h]

theorem Block.senseCh_congr {b c : Block} (h : c.sense = b.sense) (k : Nat) : c.senseCh k = b.senseCh k :=
  congrArg (fun m => Store.get (fun _ => SenseCh.reset) m k) h

theorem Block.setSenseCh_senseCh (b : Block) (k : Nat) (x : SenseCh) (j : Nat) :
    (b.setSenseCh k x).senseCh j = if j = k then x else b.senseCh j := Store.get_put _ _ _ _ _

/-- The registers of a channel lie behind those of the loops. -/
theorem Block.rd_refreshLoops_channel (b : Block) {off : Nat} (h : 0x1D0080 ≤ off) : b.refreshLoops.rd off = b.rd off := by
  unfold Block.refreshLoops
  rw [Block.rd_refreshLoop, Block.rd_refreshLoop] <;> simp only [Reg.SS_LOOP_STAT, Reg.SS_LOOP_FLAGS] <;> omega

theorem Block.get_refreshLoops_channel (b : Block) {f : Field} (h : 0x1D0080 ≤ f.off) : b.refreshLoops.get f = b.get f :=
  Block.get_of_rd (b.rd_refreshLoops_channel h)

theorem Block.byFabric_senseWrite (b : Block) (k : Nat) (bytes : List Byte) : b.byFabric (b.senseWrite k bytes) := by
  unfold Block.senseWrite
  dsimp only
  exact (b.byFabric_refl.produce _ _).ite b.byFabric_refl

theorem Block.rd_senseWrite (b : Block) (k : Nat) (bytes : List Byte) {off : Nat} (h : 0x1D0000 ≤ off) (hlt : off < 0x200000) :
    (b.senseWrite k bytes).rd off = b.rd off :=
  (b.byFabric_senseWrite k bytes).rd hlt (by simp only [Reg.QF_DROPS]; omega) (by simp only [Reg.QF_REVOKES]; omega)
    (notMem_recordRegs (by omega))

theorem Block.senseWrite_senseCh (b : Block) (k : Nat) (bytes : List Byte) (j : Nat) :
    (b.senseWrite k bytes).senseCh j = b.senseCh j := Block.senseCh_congr (Block.sense_of_core (b.byFabric_senseWrite k bytes).core) j

/-! ### The stages of a conversion (R496 to R505) -/

/-- The counts of a conversion. -/
def Block.countConversion (b : Block) (k : Nat) : Block := (b.inc (Reg.SS_CH_STAT_SEQ k)).inc (Reg.SS_CH_COUNT_COUNT k)

/-- The channels of the converter after a conversion of channel `k`. -/
def Block.markLatest (b : Block) (k conv : Nat) : Block :=
  (List.range 8).foldl (fun b j =>
    if b.get (Reg.SS_CH_MUX_CONV j) = conv then b.setSenseCh j { b.senseCh j with latest := j == k } else b) b

/-- The channel's state when its next conversion starts. -/
def SenseCh.after (st : SenseCh) (negative hold : Bool) : SenseCh :=
  { st with negative := !negative, lost := false, hold := hold, latest := true }

/-- The present conversion is over, the next one starts. -/
def Block.nextConversion (b : Block) (k : Nat) (negative hold : Bool) : Block :=
  let st := b.senseCh k
  let b := if st.lost then b else b.set (Reg.SS_CH_STAT_OPEN_NOW k) 0
  let b := (b.markLatest k (b.get (Reg.SS_CH_MUX_CONV k))).setSenseCh k (st.after negative hold)
  (b.showGain k (b.get (Reg.SS_CH_STAT_GAIN k))).refreshLoops

theorem Block.endConversion_eq {b : Block} {c : Conversion} {k : Nat} (hk : c.ch.val = k) (h : b.senseRuns k = true) (hold : Bool) :
    ∃ bytes, b.endConversion c hold =
      (((b.applyFlag k (b.get (Reg.SS_CH_STAT_GAIN k)) (b.convFlag k (fine c.u.toInt) c.overload) (fine c.u.toInt)
        (b.senseT k c.dieTemp)).countConversion k).senseWrite k bytes).nextConversion k (b.senseCh k).negative hold := by
  subst hk
  unfold Block.endConversion
  exact ⟨_, if_neg (by simp [h])⟩

theorem Block.markLatest_regs (b : Block) (k conv : Nat) : (b.markLatest k conv).regs = b.regs := by
  unfold Block.markLatest
  refine foldl_part Block.regs _ (fun c j => ?_) _ b
  dsimp only
  split
  · exact Block.setSenseCh_regs _ _ _
  · rfl

theorem Block.nextConversion_senseCh (b : Block) (k : Nat) (negative hold : Bool) :
    (b.nextConversion k negative hold).senseCh k = (b.senseCh k).after negative hold := by
  unfold Block.nextConversion Block.showGain
  dsimp only
  rw [Block.senseCh_congr (Block.refreshLoops_sense _), Block.senseCh_congr (Block.setAll_sense _ _), Block.setSenseCh_senseCh,
    if_pos rfl]

theorem Block.nextConversion_rd (b : Block) (k : Nat) (negative hold : Bool) {off : Nat} (hlow : 0x1D0080 ≤ off)
    (hstat : off ≠ Reg.SS_CH_STAT k) (hofs : off ≠ Reg.SS_CH_OFS k) : (b.nextConversion k negative hold).rd off = b.rd off := by
  unfold Block.nextConversion Block.showGain
  dsimp only
  rw [Block.rd_refreshLoops_channel _ hlow, Block.rd_setAll_other _ _ _ (by simp [hstat, hofs]),
    Block.rd_of_regs (Block.setSenseCh_regs _ _ _), Block.rd_of_regs (Block.markLatest_regs _ _ _)]
  split
  · rfl
  · exact Block.rd_set_other _ _ _ _ hstat

/-- A field of SS_CH_STAT that the gain and OPEN_NOW lie beside. -/
theorem Block.nextConversion_get (b : Block) (k : Nat) (negative hold : Bool) {f : Field} (hoff : f.off = Reg.SS_CH_STAT k)
    (hlo : 4 ≤ f.lo) : (b.nextConversion k negative hold).get f = b.get f := by
  unfold Block.nextConversion Block.showGain
  dsimp only
  rw [Block.get_refreshLoops_channel _ (by rw [hoff]; simp only [Reg.SS_CH_STAT]; omega),
    Block.get_setAll_skip _ _ _ (by
      simp only [List.forall_mem_cons, List.not_mem_nil, false_implies, implies_true, and_true, Field.fits]
      exact ⟨⟨by decide, .inr (.inl (by simp only; omega))⟩, ⟨by decide, .inl (by rw [hoff]; simp only [Reg.SS_CH_OFS, Reg.SS_CH_STAT]; omega)⟩⟩),
    Block.get_of_regs (Block.setSenseCh_regs _ _ _), Block.get_of_regs (Block.markLatest_regs _ _ _)]
  split
  · rfl
  · exact Block.get_set_apart _ _ _ _ (by simp [Field.fits]) (.inr (.inl (by simp only; omega)))

theorem Block.nextConversion_openNow (b : Block) (k : Nat) (negative hold : Bool) (h : (b.senseCh k).lost = false) :
    (b.nextConversion k negative hold).get (Reg.SS_CH_STAT_OPEN_NOW k) = 0 := by
  unfold Block.nextConversion Block.showGain
  dsimp only
  rw [h, if_neg (by decide),
    Block.get_refreshLoops_channel _ (by simp only [Reg.SS_CH_STAT]; omega),
    Block.get_setAll_skip _ _ _ (by
      simp only [List.forall_mem_cons, List.not_mem_nil, false_implies, implies_true, and_true, Field.fits]
      exact ⟨⟨by decide, .inr (.inl (by simp only; omega))⟩, ⟨by decide, .inl (by simp only [Reg.SS_CH_OFS, Reg.SS_CH_STAT]; omega)⟩⟩),
    Block.get_of_regs (Block.setSenseCh_regs _ _ _), Block.get_of_regs (Block.markLatest_regs _ _ _),
    Block.get_set_same _ _ _ (by simp [Field.fits])]
  rfl

theorem Block.countConversion_senseCh (b : Block) (k j : Nat) : (b.countConversion k).senseCh j = b.senseCh j := by
  unfold Block.countConversion
  exact Block.senseCh_congr ((Block.inc_sense _ _).trans (Block.inc_sense _ _)) j

theorem Block.countConversion_rd (b : Block) (k : Nat) {off : Nat} (hstat : off ≠ Reg.SS_CH_STAT k) (hcount : off ≠ Reg.SS_CH_COUNT k) :
    (b.countConversion k).rd off = b.rd off := by
  unfold Block.countConversion
  exact (Block.rd_set_other _ _ _ _ hcount).trans (Block.rd_set_other _ _ _ _ hstat)

theorem Block.get_inc_apart (b : Block) (f g : Field) (hf : f.fits) (h : f.apart g) : (b.inc f).get g = b.get g :=
  Block.get_set_apart _ _ _ _ hf h

theorem Block.countConversion_get (b : Block) (k : Nat) {f : Field} (hoff : f.off = Reg.SS_CH_STAT k) (hhi : f.lo + f.width ≤ 16) :
    (b.countConversion k).get f = b.get f := by
  unfold Block.countConversion
  rw [Block.get_inc_apart _ _ _ (by simp [Field.fits]) (.inl (by rw [hoff]; simp only [Reg.SS_CH_STAT, Reg.SS_CH_COUNT]; omega)),
    Block.get_inc_apart _ _ _ (by simp [Field.fits]) (.inr (.inr hhi))]

theorem Block.countConversion_seq (b : Block) (k : Nat) :
    (b.countConversion k).get (Reg.SS_CH_STAT_SEQ k) = (b.get (Reg.SS_CH_STAT_SEQ k) + 1) % 2 ^ 16 := by
  unfold Block.countConversion
  rw [Block.get_inc_apart _ _ _ (by simp [Field.fits]) (.inl (by simp only [Reg.SS_CH_STAT, Reg.SS_CH_COUNT]; omega)),
    Block.get_inc _ _ (by simp [Field.fits])]

theorem Block.countConversion_count (b : Block) (k : Nat) :
    (b.countConversion k).get (Reg.SS_CH_COUNT_COUNT k) = (b.get (Reg.SS_CH_COUNT_COUNT k) + 1) % 2 ^ 32 := by
  unfold Block.countConversion
  rw [Block.get_inc _ _ (by simp [Field.fits]),
    Block.get_inc_apart _ _ _ (by simp [Field.fits]) (.inl (by simp only [Reg.SS_CH_STAT, Reg.SS_CH_COUNT]; omega))]

/-! ### Good and bad conversions (R501, R502, R504) -/

theorem Block.senseVector_regs (b : Block) : b.senseVector.regs = b.regs := by
  unfold Block.senseVector
  split
  · exact Block.raise_regs _ _ _
  · rfl

theorem Block.senseVector_sense (b : Block) : b.senseVector.sense = b.sense := by
  unfold Block.senseVector
  split
  · exact Block.raise_sense _ _ _
  · rfl

theorem Block.countGood_rd (b : Block) (k : Nat) {off : Nat} (h : off ∉ recordRegs) :
    (b.countGood k).rd off = (b.set (Reg.SS_CH_STAT_BAD k) 0).rd off := by
  unfold Block.countGood
  dsimp only
  split
  · rw [Block.rd_post _ _ _ _ _ _ h]
    exact Block.rd_of_regs (Block.setSenseCh_regs _ _ _) _
  · exact Block.rd_of_regs (Block.setSenseCh_regs _ _ _) _

theorem Block.countGood_senseCh (b : Block) (k : Nat) :
    ((b.countGood k).senseCh k).lost = (b.senseCh k).lost ∧ ((b.countGood k).senseCh k).negative = (b.senseCh k).negative := by
  unfold Block.countGood
  dsimp only
  split
  · rw [Block.senseCh_congr (Block.post_sense _ _ _ _ _), Block.setSenseCh_senseCh, if_pos rfl]
    exact ⟨rfl, rfl⟩
  · rw [Block.setSenseCh_senseCh, if_pos rfl]
    exact ⟨rfl, rfl⟩

theorem Block.countBad_rd (b : Block) (k cause : Nat) {off : Nat} (h : off ∉ recordRegs) :
    (b.countBad k cause).rd off = (b.set (Reg.SS_CH_STAT_BAD k) (min 2 (b.get (Reg.SS_CH_STAT_BAD k) + 1))).rd off := by
  unfold Block.countBad
  dsimp only
  split
  · rw [Block.rd_post _ _ _ _ _ _ h, Block.rd_of_regs (Block.senseVector_regs _)]
    exact Block.rd_of_regs (Block.setSenseCh_regs _ _ _) _
  · exact Block.rd_of_regs (Block.setSenseCh_regs _ _ _) _

/-- The second bad conversion in a row leaves a fault. -/
theorem Block.countBad_fault (b : Block) (k cause : Nat) (h : 1 ≤ b.get (Reg.SS_CH_STAT_BAD k)) :
    ((b.countBad k cause).senseCh k).fault.isSome = true := by
  have hn : min 2 (b.get (Reg.SS_CH_STAT_BAD k) + 1) = 2 := by omega
  unfold Block.countBad
  dsimp only
  rw [hn]
  split
  · rw [Block.senseCh_congr (Block.post_sense _ _ _ _ _), Block.senseCh_congr (Block.senseVector_sense _), Block.setSenseCh_senseCh,
      if_pos rfl]
    rfl
  · next hnone =>
    rw [Block.setSenseCh_senseCh, if_pos rfl]
    cases hf : (b.senseCh k).fault with
    | some x => rfl
    | none => exact absurd ⟨rfl, by simp [hf]⟩ hnone

/-- What a good conversion shows: x, y, GOOD_ONCE. -/
theorem Block.goodConversion_shows (b : Block) (k code : Nat) (u : Rat) (t : Word) :
    let x := (if (b.senseCh k).negative then (-1 : Rat) else 1) * (u - (b.senseCh k).offset code) / (2 ^ code : Nat)
    (b.goodConversion k code u t).rd (Reg.SS_CH_Y k) = singleOf (b.polynomial k x ((singleValue t).getD 0)) ∧
      (b.goodConversion k code u t).get (Reg.SS_CH_X_X k) = fineUnits x % 2 ^ 24 ∧
      (b.goodConversion k code u t).get (Reg.SS_CH_STAT_GOOD_ONCE k) = 1 := by
  unfold Block.goodConversion
  dsimp only
  refine ⟨?_, ?_, ?_⟩
  · rw [Block.rd_setAll_other _ _ _ (by simp [Reg.SS_CH_STAT, Reg.SS_CH_Y]), Block.rd_wr_same]
  · rw [Block.get_setAll_other _ _ _ (by simp [Reg.SS_CH_STAT, Reg.SS_CH_X]),
      Block.get_of_rd (Block.rd_wr_other _ _ (by simp [Reg.SS_CH_X, Reg.SS_CH_Y])), Block.get_set_same _ _ _ (by simp [Field.fits])]
  · exact Block.get_setAll_head _ _ _ _ (by simp [Field.fits]) (by simp [Field.fits, Field.apart])

theorem Block.goodConversion_senseCh (b : Block) (k code : Nat) (u : Rat) (t : Word) :
    ((b.goodConversion k code u t).senseCh k).lost = (b.senseCh k).lost ∧
      ((b.goodConversion k code u t).senseCh k).negative = (b.senseCh k).negative := by
  unfold Block.goodConversion
  dsimp only
  rw [Block.senseCh_congr (Block.setAll_sense _ _), Block.senseCh_congr (Block.wr_sense _ _ _), Block.senseCh_congr (Block.set_sense _ _ _),
    Block.setSenseCh_senseCh, if_pos rfl]
  exact ⟨rfl, rfl⟩

theorem Block.goodConversion_get (b : Block) (k code : Nat) (u : Rat) (t : Word) {f : Field} (hoff : f.off = Reg.SS_CH_STAT k)
    (h : 3 ≤ f.lo) (hgood : f.lo + f.width ≤ 10 ∨ 11 ≤ f.lo) : (b.goodConversion k code u t).get f = b.get f := by
  unfold Block.goodConversion
  dsimp only
  rw [Block.get_setAll_skip _ _ _ (by
      simp only [List.forall_mem_cons, List.not_mem_nil, false_implies, implies_true, and_true, Field.fits]
      exact ⟨⟨by decide, .inr hgood.symm⟩, ⟨by decide, .inr (.inl h)⟩⟩),
    Block.get_of_rd (Block.rd_wr_other _ _ (by rw [hoff]; simp [Reg.SS_CH_STAT, Reg.SS_CH_Y])),
    Block.get_of_rd (Block.rd_set_other _ _ _ _ (by rw [hoff]; simp [Reg.SS_CH_STAT, Reg.SS_CH_X])),
    Block.get_of_regs (Block.setSenseCh_regs _ _ _)]

theorem Block.goodConversion_count (b : Block) (k code : Nat) (u : Rat) (t : Word) :
    (b.goodConversion k code u t).get (Reg.SS_CH_COUNT_COUNT k) = b.get (Reg.SS_CH_COUNT_COUNT k) := by
  unfold Block.goodConversion
  dsimp only
  rw [Block.get_setAll_other _ _ _ (by simp [Reg.SS_CH_STAT, Reg.SS_CH_COUNT]),
    Block.get_of_rd (Block.rd_wr_other _ _ (by simp [Reg.SS_CH_COUNT, Reg.SS_CH_Y])),
    Block.get_of_rd (Block.rd_set_other _ _ _ _ (by simp [Reg.SS_CH_COUNT, Reg.SS_CH_X])),
    Block.get_of_regs (Block.setSenseCh_regs _ _ _)]

/-! ### A conversion under the settings before a swap (R77) -/

/-- A block whose registers of a list take the values of another block. -/
def Block.takeWords (b c : Block) (offs : List Nat) : Block := (offs.zip (offs.map c.rd)).foldl (fun b p => b.wr p.1 p.2) b

theorem Block.takeWords_rd (b c : Block) (offs : List Nat) (off : Nat) :
    (b.takeWords c offs).rd off = if off ∈ offs then c.rd off else b.rd off := by
  unfold Block.takeWords
  induction offs generalizing b with
  | nil => rfl
  | cons o offs ih =>
    rw [List.map_cons, List.zip_cons_cons, List.foldl_cons, ih, Block.rd_wr]
    by_cases hmem : off ∈ offs
    · simp [hmem]
    · by_cases ho : off = o
      · simp [ho]
      · simp [hmem, ho]

theorem channel_of_mem_senseSettings {k off : Nat} (hk : k < 8) (h : off ∈ senseSettings k) :
    0x1D0080 ≤ off ∧ off < 0x1D1000 ∧ off ≠ Reg.SS_CH_STAT k ∧ off ≠ Reg.SS_CH_OFS k := by
  simp only [senseSettings, List.mem_append, List.mem_cons, List.not_mem_nil, or_false, List.mem_flatMap, List.mem_map,
    List.mem_range, Reg.SS_CH_MUX, Reg.SS_CH_EXC, Reg.SS_CH_LIN, Reg.SS_CH_C] at h
  simp only [Reg.SS_CH_STAT, Reg.SS_CH_OFS]
  rcases h with (h | h | h) | ⟨i, hi, j, hj, h⟩ <;> omega

theorem Block.showGain_rd (b : Block) (k code : Nat) {off : Nat} (hstat : off ≠ Reg.SS_CH_STAT k) (hofs : off ≠ Reg.SS_CH_OFS k) :
    (b.showGain k code).rd off = b.rd off := Block.rd_setAll_other _ _ _ (by simp [hstat, hofs])

theorem Block.showGain_senseCh (b : Block) (k code j : Nat) : (b.showGain k code).senseCh j = b.senseCh j :=
  Block.senseCh_congr (Block.setAll_sense _ _) j

/-- The offsets are free values; drawing them writes no register. -/
theorem Block.measureOffsets_eq (b : Block) (k : Nat) : ∃ c : Block, c.regs = b.regs ∧ ∃ offsets, b.measureOffsets k = c.startChannel k offsets := by
  unfold Block.measureOffsets
  dsimp only
  refine ⟨_, ?_, _, rfl⟩
  refine foldl_part (fun p : Block × List Int => p.1.regs) _ (fun p _ => ?_) _ (b, [])
  rfl

theorem Block.renewChannel_rd (b : Block) (k : Nat) (same : Bool) {off : Nat} (hstat : off ≠ Reg.SS_CH_STAT k)
    (hofs : off ≠ Reg.SS_CH_OFS k) : (b.renewChannel k same).rd off = b.rd off := by
  unfold Block.renewChannel
  split
  · rw [Block.showGain_rd _ _ _ hstat hofs, Block.rd_of_regs (Block.setSenseCh_regs _ _ _)]
  · obtain ⟨c, hregs, offsets, hc⟩ := b.measureOffsets_eq k
    rw [hc]
    unfold Block.startChannel
    dsimp only
    rw [Block.showGain_rd _ _ _ hstat hofs, Block.rd_of_regs (Block.setSenseCh_regs _ _ _), Block.rd_of_regs hregs]

theorem Block.renewChannel_old (b : Block) (k : Nat) (same : Bool) : ((b.renewChannel k same).senseCh k).old = none := by
  unfold Block.renewChannel
  split
  · rw [Block.showGain_senseCh, Block.setSenseCh_senseCh, if_pos rfl]
  · obtain ⟨c, -, offsets, hc⟩ := b.measureOffsets_eq k
    rw [hc]
    unfold Block.startChannel
    dsimp only
    rw [Block.showGain_senseCh, Block.setSenseCh_senseCh, if_pos rfl]
    rfl

theorem Block.conversion_of_old {b : Block} {c : Conversion} {ws : List Word} (h : (b.senseCh c.ch.val).old = some ws) :
    ∃ (d : Block) (x : SenseCh) (same : Bool), b.conversion c =
      (((d.takeWords b (senseSettings c.ch.val)).setSenseCh c.ch.val x).renewChannel c.ch.val same).refreshLoops := by
  unfold Block.conversion
  dsimp only
  rw [h]
  exact ⟨_, _, _, rfl⟩

/-! ### O58 -/

/-- What becomes of a good conversion. -/
theorem Block.conversion_good {b : Block} {c : Conversion} {k : Nat} (hk : c.ch.val = k) (hruns : b.senseRuns k = true)
    (hold : (b.senseCh k).old = none) (hflag : b.convFlag k (fine c.u.toInt) c.overload = .good) :
    ∃ bytes, b.conversion c = ((((b.goodConversion k (b.get (Reg.SS_CH_STAT_GAIN k)) (fine c.u.toInt)
      (b.senseT k c.dieTemp)).countGood k).countConversion k).senseWrite k bytes).nextConversion k (b.senseCh k).negative false := by
  obtain ⟨bytes, h⟩ := Block.endConversion_eq hk hruns false
  subst hk
  refine ⟨bytes, ?_⟩
  unfold Block.conversion
  dsimp only
  rw [hold, h, hflag]
  rfl

theorem Block.conversion_open {b : Block} {c : Conversion} {k : Nat} (hk : c.ch.val = k) (hruns : b.senseRuns k = true)
    (hold : (b.senseCh k).old = none) (hflag : b.convFlag k (fine c.u.toInt) c.overload = .isOpen) :
    ∃ bytes, b.conversion c = ((((b.set (Reg.SS_CH_STAT_OPEN k) 1).countBad k 0).countConversion k).senseWrite k bytes).nextConversion k
      (b.senseCh k).negative false := by
  obtain ⟨bytes, h⟩ := Block.endConversion_eq hk hruns false
  subst hk
  refine ⟨bytes, ?_⟩
  unfold Block.conversion
  dsimp only
  rw [hold, h, hflag]
  rfl

theorem Block.dev_of_senseRuns {b : Block} {k : Nat} (h : b.senseRuns k = true) : b.dev = .service := by
  unfold Block.senseRuns at h
  simp only [Bool.and_eq_true, beq_iff_eq] at h
  exact h.1.1.1.1

theorem Block.not_lost_of_good {b : Block} {k : Nat} {u : Rat} {overload : Bool} (h : b.convFlag k u overload = .good) :
    (b.senseCh k).lost = false := by
  unfold Block.convFlag at h
  dsimp only at h
  cases hl : (b.senseCh k).lost with
  | false => rfl
  | true =>
    rw [hl, if_pos rfl] at h
    cases h

theorem notMem_recordRegs_channel (k : Nat) {off : Nat} (h : off = Reg.SS_CH_STAT k ∨ off = Reg.SS_CH_X k ∨ off = Reg.SS_CH_Y k ∨
    off = Reg.SS_CH_COUNT k) : off ∉ recordRegs := by
  refine notMem_recordRegs ?_
  simp only [Reg.SS_CH_STAT, Reg.SS_CH_X, Reg.SS_CH_Y, Reg.SS_CH_COUNT] at h
  omega

section
variable (b : Block) (k : Nat) (bytes : List Byte) (negative : Bool)

/-- A conversion that has been counted, its record written and the next one begun. -/
def Block.conversionEnds : Block := ((b.countConversion k).senseWrite k bytes).nextConversion k negative false

theorem Block.conversionEnds_rd (hk : k < 8) {off : Nat} (h : off = Reg.SS_CH_X k ∨ off = Reg.SS_CH_Y k) :
    (b.conversionEnds k bytes negative).rd off = b.rd off := by
  simp only [Reg.SS_CH_X, Reg.SS_CH_Y] at h
  unfold Block.conversionEnds
  rw [Block.nextConversion_rd _ _ _ _ (by omega) (by simp only [Reg.SS_CH_STAT]; omega) (by simp only [Reg.SS_CH_OFS]; omega),
    Block.rd_senseWrite _ _ _ (by omega) (by omega),
    Block.countConversion_rd _ _ (by simp only [Reg.SS_CH_STAT]; omega) (by simp only [Reg.SS_CH_COUNT]; omega)]

theorem Block.conversionEnds_get (hk : k < 8) {f : Field} (hoff : f.off = Reg.SS_CH_STAT k) (hlo : 4 ≤ f.lo)
    (hhi : f.lo + f.width ≤ 16) : (b.conversionEnds k bytes negative).get f = b.get f := by
  unfold Block.conversionEnds
  rw [Block.nextConversion_get _ _ _ _ hoff hlo,
    Block.get_of_rd (Block.rd_senseWrite _ _ _ (by rw [hoff]; simp only [Reg.SS_CH_STAT]; omega) (by rw [hoff]; simp only [Reg.SS_CH_STAT]; omega)),
    Block.countConversion_get _ _ hoff hhi]

theorem Block.conversionEnds_seq (hk : k < 8) :
    (b.conversionEnds k bytes negative).get (Reg.SS_CH_STAT_SEQ k) = (b.get (Reg.SS_CH_STAT_SEQ k) + 1) % 2 ^ 16 := by
  unfold Block.conversionEnds
  rw [Block.nextConversion_get _ _ _ _ rfl (by simp only; omega),
    Block.get_of_rd (Block.rd_senseWrite _ _ _ (by simp only [Reg.SS_CH_STAT]; omega) (by simp only [Reg.SS_CH_STAT]; omega)),
    Block.countConversion_seq]

theorem Block.conversionEnds_count (hk : k < 8) :
    (b.conversionEnds k bytes negative).get (Reg.SS_CH_COUNT_COUNT k) = (b.get (Reg.SS_CH_COUNT_COUNT k) + 1) % 2 ^ 32 := by
  unfold Block.conversionEnds
  rw [Block.get_of_rd (Block.nextConversion_rd _ _ _ _ (by simp only [Reg.SS_CH_COUNT]; omega)
      (by simp only [Reg.SS_CH_STAT, Reg.SS_CH_COUNT]; omega) (by simp only [Reg.SS_CH_OFS, Reg.SS_CH_COUNT]; omega)),
    Block.get_of_rd (Block.rd_senseWrite _ _ _ (by simp only [Reg.SS_CH_COUNT]; omega) (by simp only [Reg.SS_CH_COUNT]; omega)),
    Block.countConversion_count]

theorem Block.conversionEnds_senseCh : (b.conversionEnds k bytes negative).senseCh k = (b.senseCh k).after negative false := by
  unfold Block.conversionEnds
  rw [Block.nextConversion_senseCh, Block.senseWrite_senseCh, Block.countConversion_senseCh]

theorem Block.conversionEnds_openNow (h : (b.senseCh k).lost = false) :
    (b.conversionEnds k bytes negative).get (Reg.SS_CH_STAT_OPEN_NOW k) = 0 :=
  Block.nextConversion_openNow _ _ _ _ (by rw [Block.senseWrite_senseCh, Block.countConversion_senseCh, h])

end

theorem Block.gated_rd_sense (b : Block) {off : Nat} (h : off < 0x1E0000) : b.gated.rd off = b.rd off :=
  b.gated_rd_other off (by simp only [Reg.SP_STAT]; omega)

theorem Block.gated_get_sense (b : Block) {f : Field} (h : f.off < 0x1E0000) : b.gated.get f = b.get f :=
  Block.get_of_rd (b.gated_rd_sense h)

/-- What a good conversion leaves behind the output stages. -/
theorem completes_conversion_good {s : State} {c : Conversion} {k : Nat} (hk : c.ch.val = k) (hlt : k < 8)
    (hruns : s.blk.senseRuns k = true) (hold : (s.blk.senseCh k).old = none)
    (hflag : s.blk.convFlag k (fine c.u.toInt) c.overload = .good) :
    let st := s.blk.senseCh k
    let code := s.blk.get (Reg.SS_CH_STAT_GAIN k)
    let x := (if st.negative then (-1 : Rat) else 1) * (fine c.u.toInt - st.offset code) / (2 ^ code : Nat)
    Completes (.conversionComplete c) s fun b =>
      b.rd (Reg.SS_CH_Y k) = singleOf (s.blk.polynomial k x ((singleValue (s.blk.senseT k c.dieTemp)).getD 0)) ∧
      b.get (Reg.SS_CH_X_X k) = fineUnits x ∧ b.get (Reg.SS_CH_STAT_BAD k) = 0 ∧
      b.on (Reg.SS_CH_STAT_GOOD_ONCE k) = true ∧ b.on (Reg.SS_CH_STAT_OPEN_NOW k) = false ∧
      b.get (Reg.SS_CH_COUNT_COUNT k) = (s.blk.get (Reg.SS_CH_COUNT_COUNT k) + 1) % 2 ^ 32 ∧
      b.get (Reg.SS_CH_STAT_SEQ k) = (s.blk.get (Reg.SS_CH_STAT_SEQ k) + 1) % 2 ^ 16 ∧
      (b.senseCh k).negative = !st.negative ∧ (b.senseCh k).hold = false := by
  intro st code x
  obtain ⟨bytes, hb⟩ := Block.conversion_good hk hruns hold hflag
  refine completes_of_next (b := s.blk.conversion c) rfl ?_
  rw [hb]
  set g := s.blk.goodConversion k (s.blk.get (Reg.SS_CH_STAT_GAIN k)) (fine c.u.toInt) (s.blk.senseT k c.dieTemp) with hg
  have hrec : ∀ {off}, off = Reg.SS_CH_STAT k ∨ off = Reg.SS_CH_X k ∨ off = Reg.SS_CH_Y k ∨ off = Reg.SS_CH_COUNT k → off ∉ recordRegs :=
    fun h => notMem_recordRegs_channel k h
  obtain ⟨hy, hx, honce⟩ := s.blk.goodConversion_shows k code (fine c.u.toInt) (s.blk.senseT k c.dieTemp)
  obtain ⟨hlost, hneg⟩ := g.countGood_senseCh k
  obtain ⟨hlost', hneg'⟩ := s.blk.goodConversion_senseCh k code (fine c.u.toInt) (s.blk.senseT k c.dieTemp)
  have hbad : ∀ f : Field, f.off = Reg.SS_CH_STAT k → (Reg.SS_CH_STAT_BAD k).apart f → (g.countGood k).get f = g.get f :=
    fun f hoff hap => (Block.get_of_rd (g.countGood_rd k (hrec (.inl hoff)))).trans
      (Block.get_set_apart _ _ _ _ (by simp [Field.fits]) hap)
  have hfar : ∀ off, off ∉ recordRegs → off ≠ Reg.SS_CH_STAT k → (g.countGood k).rd off = g.rd off := fun off hr hs =>
    (g.countGood_rd k hr).trans (Block.rd_set_other _ _ _ _ hs)
  rw [show (((g.countGood k).countConversion k).senseWrite k bytes).nextConversion k (s.blk.senseCh k).negative false =
    (g.countGood k).conversionEnds k bytes (s.blk.senseCh k).negative from rfl]
  refine ⟨?_, ?_, ?_, ?_, ?_, ?_, ?_, ?_, ?_⟩
  · rw [Block.gated_rd_sense _ (by simp only [Reg.SS_CH_Y]; omega), Block.conversionEnds_rd _ _ _ _ hlt (.inr rfl),
      hfar _ (hrec (by simp)) (by simp [Reg.SS_CH_Y, Reg.SS_CH_STAT])]
    exact hy
  · rw [Block.gated_get_sense _ (by simp only [Reg.SS_CH_X]; omega), Block.get_of_rd (Block.conversionEnds_rd _ _ _ _ hlt (.inl rfl)),
      Block.get_of_rd (hfar _ (hrec (by simp)) (by simp [Reg.SS_CH_X, Reg.SS_CH_STAT]))]
    exact hx.trans (Nat.mod_eq_of_lt (unsignedOf_lt 24 _))
  · rw [Block.gated_get_sense _ (by simp only [Reg.SS_CH_STAT]; omega), Block.conversionEnds_get _ _ _ _ hlt rfl (by simp) (by simp),
      Block.get_of_rd (g.countGood_rd k (hrec (.inl rfl))), Block.get_set_same _ _ _ (by simp [Field.fits])]
    rfl
  · refine Block.on_of_get_one ?_
    rw [Block.gated_get_sense _ (by simp only [Reg.SS_CH_STAT]; omega), Block.conversionEnds_get _ _ _ _ hlt rfl (by simp) (by simp),
      hbad _ rfl (by simp [Field.apart])]
    exact honce
  · unfold Block.on
    rw [Block.gated_get_sense _ (by simp only [Reg.SS_CH_STAT]; omega), Block.conversionEnds_openNow _ _ _ _
      (hlost.trans (hlost'.trans (Block.not_lost_of_good hflag)))]
    rfl
  · rw [Block.gated_get_sense _ (by simp only [Reg.SS_CH_COUNT]; omega), Block.conversionEnds_count _ _ _ _ hlt,
      Block.get_of_rd (hfar _ (hrec (by simp)) (by simp [Reg.SS_CH_COUNT, Reg.SS_CH_STAT])), hg, Block.goodConversion_count]
  · rw [Block.gated_get_sense _ (by simp only [Reg.SS_CH_STAT]; omega), Block.conversionEnds_seq _ _ _ _ hlt,
      hbad _ rfl (by simp [Field.apart]), hg, Block.goodConversion_get _ _ _ _ _ rfl (by simp) (by simp)]
  · rw [Block.senseCh_congr (Block.gated_sense _), Block.conversionEnds_senseCh]
    rfl
  · rw [Block.senseCh_congr (Block.gated_sense _), Block.conversionEnds_senseCh]
    rfl

/-- What a conversion that counts as OPEN leaves behind the output stages. -/
theorem completes_conversion_open {s : State} {c : Conversion} {k : Nat} (hk : c.ch.val = k) (hlt : k < 8)
    (hruns : s.blk.senseRuns k = true) (hold : (s.blk.senseCh k).old = none)
    (hflag : s.blk.convFlag k (fine c.u.toInt) c.overload = .isOpen) :
    Completes (.conversionComplete c) s fun b =>
      b.rd (Reg.SS_CH_Y k) = s.blk.rd (Reg.SS_CH_Y k) ∧ b.on (Reg.SS_CH_STAT_OPEN k) = true ∧
      b.get (Reg.SS_CH_STAT_BAD k) = min 2 (s.blk.get (Reg.SS_CH_STAT_BAD k) + 1) ∧
      (1 ≤ s.blk.get (Reg.SS_CH_STAT_BAD k) → (b.senseCh k).fault.isSome = true) ∧
      b.get (Reg.SS_CH_COUNT_COUNT k) = (s.blk.get (Reg.SS_CH_COUNT_COUNT k) + 1) % 2 ^ 32 := by
  obtain ⟨bytes, hb⟩ := Block.conversion_open hk hruns hold hflag
  refine completes_of_next (b := s.blk.conversion c) rfl ?_
  rw [hb]
  set o := s.blk.set (Reg.SS_CH_STAT_OPEN k) 1 with ho
  have hrec : ∀ {off}, off = Reg.SS_CH_STAT k ∨ off = Reg.SS_CH_X k ∨ off = Reg.SS_CH_Y k ∨ off = Reg.SS_CH_COUNT k → off ∉ recordRegs :=
    fun h => notMem_recordRegs_channel k h
  have hbefore : o.get (Reg.SS_CH_STAT_BAD k) = s.blk.get (Reg.SS_CH_STAT_BAD k) :=
    Block.get_set_apart _ _ _ _ (by simp [Field.fits]) (by simp [Field.apart])
  have hfar : ∀ off, off ∉ recordRegs → off ≠ Reg.SS_CH_STAT k → (o.countBad k 0).rd off = s.blk.rd off := fun off hr hs =>
    (o.countBad_rd k 0 hr).trans ((Block.rd_set_other _ _ _ _ hs).trans (Block.rd_set_other _ _ _ _ hs))
  rw [show (((o.countBad k 0).countConversion k).senseWrite k bytes).nextConversion k (s.blk.senseCh k).negative false =
    (o.countBad k 0).conversionEnds k bytes (s.blk.senseCh k).negative from rfl]
  refine ⟨?_, ?_, ?_, fun hone => ?_, ?_⟩
  · rw [Block.gated_rd_sense _ (by simp only [Reg.SS_CH_Y]; omega), Block.conversionEnds_rd _ _ _ _ hlt (.inr rfl),
      hfar _ (hrec (by simp)) (by simp [Reg.SS_CH_Y, Reg.SS_CH_STAT])]
  · refine Block.on_of_get_one ?_
    rw [Block.gated_get_sense _ (by simp only [Reg.SS_CH_STAT]; omega), Block.conversionEnds_get _ _ _ _ hlt rfl (by simp) (by simp),
      Block.get_of_rd (o.countBad_rd k 0 (hrec (.inl rfl))),
      Block.get_set_apart _ _ _ _ (by simp [Field.fits]) (by simp [Field.apart]), ho, Block.get_set_same _ _ _ (by simp [Field.fits])]
    rfl
  · rw [Block.gated_get_sense _ (by simp only [Reg.SS_CH_STAT]; omega), Block.conversionEnds_get _ _ _ _ hlt rfl (by simp) (by simp),
      Block.get_of_rd (o.countBad_rd k 0 (hrec (.inl rfl))), Block.get_set_same _ _ _ (by simp [Field.fits]), hbefore]
    exact Nat.mod_eq_of_lt (by simp only; omega)
  · rw [Block.senseCh_congr (Block.gated_sense _), Block.conversionEnds_senseCh]
    exact o.countBad_fault k 0 (hbefore ▸ hone)
  · rw [Block.gated_get_sense _ (by simp only [Reg.SS_CH_COUNT]; omega), Block.conversionEnds_count _ _ _ _ hlt,
      Block.get_of_rd (hfar _ (hrec (by simp)) (by simp [Reg.SS_CH_COUNT, Reg.SS_CH_STAT]))]

/-- The end of a conversion that a swap found in progress (R77). -/
theorem completes_conversion_old {s : State} {c : Conversion} {ws : List Word} (h : (s.blk.senseCh c.ch.val).old = some ws) :
    Completes (.conversionComplete c) s fun b =>
      (b.senseCh c.ch.val).old = none ∧ ∀ off ∈ senseSettings c.ch.val, b.rd off = s.blk.rd off := by
  obtain ⟨d, x, same, hb⟩ := Block.conversion_of_old h
  refine completes_of_next (b := s.blk.conversion c) rfl ?_
  rw [hb]
  refine ⟨?_, fun off hoff => ?_⟩
  · rw [Block.senseCh_congr ((Block.gated_sense _).trans (Block.refreshLoops_sense _)), Block.renewChannel_old]
  · obtain ⟨hlow, hhigh, hstat, hofs⟩ := channel_of_mem_senseSettings c.ch.isLt hoff
    rw [Block.gated_rd_sense _ (by omega), Block.rd_refreshLoops_channel _ hlow, Block.renewChannel_rd _ _ _ hstat hofs,
      Block.rd_of_regs (Block.setSenseCh_regs _ _ _), Block.takeWords_rd, if_pos hoff]

/-- An excitation source out of compliance (R499). -/
theorem completes_complianceLoss {s : State} {ch : Fin 8} {source : Fin 2} (hruns : s.blk.senseRuns ch.val = true)
    (hon : s.blk.on (if source = 0 then Reg.SS_CH_EXC_EXC0_EN ch.val else Reg.SS_CH_EXC_EXC1_EN ch.val) = true) :
    Completes (.complianceLoss ch source) s fun b =>
      (b.senseCh ch.val).lost = true ∧ b.on (Reg.SS_CH_STAT_OPEN_NOW ch.val) = true ∧
      s.blk.keepsBut b (Reg.SS_CH_STAT ch.val :: recordRegs) := by
  have hdriven : (if source.val = 0 then s.blk.on (Reg.SS_CH_EXC_EXC0_EN ch.val) else s.blk.on (Reg.SS_CH_EXC_EXC1_EN ch.val)) = true := by
    split at hon <;> simp_all
  set lost := s.blk.setSenseCh ch.val { s.blk.senseCh ch.val with lost := true } with hl
  have hlost : (lost.senseCh ch.val).lost = true := by rw [hl, Block.setSenseCh_senseCh, if_pos rfl]
  have hregs : lost.regs = s.blk.regs := Block.setSenseCh_regs _ _ _
  have hdev : lost.dev = .service := Block.dev_of_senseRuns hruns
  have hstat : Reg.SS_CH_STAT ch.val ∉ recordRegs := notMem_recordRegs_channel ch.val (.inl rfl)
  refine completes_of_next (b := s.blk.complianceLoss ch.val source.val) rfl ?_
  have hgo : ¬ (!s.blk.senseRuns ch.val ||
      !(if source.val = 0 then s.blk.on (Reg.SS_CH_EXC_EXC0_EN ch.val) else s.blk.on (Reg.SS_CH_EXC_EXC1_EN ch.val))) = true := by
    rw [hruns, hdriven]
    decide
  unfold Block.complianceLoss
  dsimp only
  rw [if_neg hgo, ← hl]
  split
  · next hnow =>
    rw [Block.gated_service _ hdev]
    exact ⟨hlost, hnow, (s.blk.keepsBut_refl _).of_regs hregs⟩
  · rw [Block.gated_service _ (by
      rw [Block.post_dev, Block.senseVector]
      split
      · rw [Block.raise_dev, Block.set_dev, hdev]
      · rw [Block.set_dev, hdev])]
    refine ⟨?_, Block.on_of_get_one ?_, ?_⟩
    · rw [Block.senseCh_congr (Block.post_sense _ _ _ _ _), Block.senseCh_congr (Block.senseVector_sense _),
        Block.senseCh_congr (Block.set_sense _ _ _), hlost]
    · rw [Block.get_post _ _ _ _ _ _ hstat, Block.get_of_regs (Block.senseVector_regs _), Block.get_set_same _ _ _ (by simp [Field.fits])]
      rfl
    · refine Block.keepsBut.post ?_ _ _ _ _ (List.subset_cons_self _ _)
      exact (((s.blk.keepsBut_refl _).of_regs hregs).set _ (by simp)).of_regs (Block.senseVector_regs _)

/-- A channel that does not run leaves its commands without effect. -/
theorem completes_sense_idle {s : State} {c : Conversion} (source : Fin 2) (hruns : s.blk.senseRuns c.ch.val = false)
    (hold : (s.blk.senseCh c.ch.val).old = none) :
    ∀ i ∈ [Instr.conversionComplete c, .complianceLoss c.ch source], Completes i s fun b =>
      b.sense = s.blk.sense ∧ s.blk.keepsBut b [Reg.SP_STAT 1] := by
  have hidle : s.blk.gated.sense = s.blk.sense ∧ s.blk.keepsBut s.blk.gated [Reg.SP_STAT 1] :=
    ⟨Block.gated_sense _, (s.blk.keepsBut_refl _).gated (by simp)⟩
  have hconversion : s.blk.conversion c = s.blk := by
    unfold Block.conversion
    dsimp only
    rw [hold]
    exact if_pos (by rw [hruns]; rfl)
  have hloss : s.blk.complianceLoss c.ch.val source.val = s.blk := by
    unfold Block.complianceLoss
    exact if_pos (by rw [hruns]; rfl)
  intro i hi
  simp only [List.mem_cons, List.not_mem_nil, or_false] at hi
  rcases hi with rfl | rfl
  · exact completes_of_next (b := s.blk.conversion c) rfl (by rw [hconversion]; exact hidle)
  · exact completes_of_next (b := s.blk.complianceLoss c.ch.val source.val) rfl (by rw [hloss]; exact hidle)

/-! ### Notches (R500) -/

/-- In SETTLE and SERVICE the notches take the source and frequency of Bearing's state. -/
theorem completes_notchRetune {s : State} {src f : Nat} (hdev : s.blk.dev = .settle ∨ s.blk.dev = .service)
    (hsrc : notchSource s.blk.brg.state = src)
    (hf : f = if src = 2 then (if s.blk.on Reg.BRG_CTRL_NOM then 60 * 65536 else 50 * 65536) else s.blk.get Reg.BRG_FREQ_FREQ) :
    Completes .notchRetune s fun b =>
      b.get Reg.SS_STAT_F_SRC = src ∧ b.get Reg.SS_NOTCH_F_FREQ = f ∧ s.blk.keepsBut b [Reg.SS_STAT, Reg.SS_NOTCH_F] := by
  have hsilent : s.blk.dev.silent = false := DevState.silent_eq_false_iff.2 (hdev.imp_right .inl)
  have hlt : src < 4 := by rw [← hsrc]; cases s.blk.brg.state <;> decide
  have hfreq : f < 2 ^ 32 := by
    have h32 : s.blk.get Reg.BRG_FREQ_FREQ < 2 ^ 32 := (s.blk.get_lt _).trans_le (by decide)
    rw [hf]
    split
    · split <;> omega
    · exact h32
  have hb : s.blk.notchRetune = s.blk.setAll [(Reg.SS_STAT_F_SRC, src), (Reg.SS_NOTCH_F_FREQ, f)] := by
    unfold Block.notchRetune
    dsimp only
    rw [hsrc, ← hf]
    rcases hdev with hd | hd <;> rw [hd]
  refine completes_of_next (b := s.blk.notchRetune) rfl ?_
  rw [hb]
  refine ⟨?_, ?_, ?_⟩
  · rw [Block.gated_get_sense _ (by decide), Block.get_setAll_head _ _ _ _ (by decide) (by simp [Field.fits, Field.apart])]
    exact Nat.mod_eq_of_lt hlt
  · rw [Block.gated_get_sense _ (by decide), Block.setAll_cons, Block.get_setAll_head _ _ _ _ (by decide) (by simp)]
    exact Nat.mod_eq_of_lt hfreq
  · exact ((s.blk.keepsBut_refl _).setAll (by simp)).gated_of_not_silent ((Block.setAll_dev _ _).symm ▸ hsilent)

/-! ### Current loops (R508) -/

theorem completes_loopOpen {s : State} {n : Fin 2} {measured : BitVec 16} (hen : s.blk.on (Reg.SS_LOOP_CTRL_ENABLE n) = true)
    (hdiffers : s.blk.loopDiffers n measured.toNat = true) (hfault : s.blk.on (Reg.SS_LOOP_FLAGS_LOOP_FAULT n) = false) :
    Completes (.loopOpen n measured) s fun b =>
      b.on (Reg.SS_LOOP_FLAGS_LOOP_FAULT n) = true ∧ b.on (Reg.SS_LOOP_FLAGS_LOOP_FAULT_SEEN n) = true ∧
      b.get (Reg.SS_LOOP_STAT_MEAS n) = measured.toNat ∧
      s.blk.keepsBut b (Reg.SS_LOOP_STAT n :: Reg.SS_LOOP_FLAGS n :: Reg.SP_STAT 1 :: recordRegs) := by
  have hflags : Reg.SS_LOOP_FLAGS n ∉ recordRegs := notMem_recordRegs (by simp only [Reg.SS_LOOP_FLAGS]; omega)
  have hstat : Reg.SS_LOOP_STAT n ∉ recordRegs := notMem_recordRegs (by simp only [Reg.SS_LOOP_STAT]; omega)
  have hoff : Reg.SS_LOOP_FLAGS n ≠ Reg.SS_LOOP_STAT n := by simp only [Reg.SS_LOOP_FLAGS, Reg.SS_LOOP_STAT]; omega
  have hlt : n.val < 2 := n.isLt
  set m := s.blk.set (Reg.SS_LOOP_STAT_MEAS n) measured.toNat with hm
  have hdem : m.get (Reg.SS_LOOP_STAT_DEMAND n) = s.blk.get (Reg.SS_LOOP_STAT_DEMAND n) :=
    Block.get_set_apart _ _ _ _ (by simp [Field.fits]) (by simp [Field.apart])
  have hgo : ¬ (m.on (Reg.SS_LOOP_FLAGS_LOOP_FAULT n) || !m.loopDiffers n measured.toNat) = true := by
    have hon : m.on (Reg.SS_LOOP_FLAGS_LOOP_FAULT n) = false :=
      (Block.on_congr (Block.get_of_rd (Block.rd_set_other _ _ _ _ hoff))).trans hfault
    have hd : m.loopDiffers n measured.toNat = true := by
      unfold Block.loopDiffers
      rw [hdem]
      exact hdiffers
    rw [hon, hd]
    decide
  refine completes_of_next (b := s.blk.loopOpen n measured.toNat) rfl ?_
  unfold Block.loopOpen
  dsimp only
  rw [if_neg (by rw [hen]; decide), ← hm, if_neg hgo]
  set d := m.setAll [(Reg.SS_LOOP_FLAGS_LOOP_FAULT n, 1), (Reg.SS_LOOP_FLAGS_LOOP_FAULT_SEEN n, 1)] with hd
  have hget : ∀ (args : List (Nat × Nat)) (f : Field), f.off ∉ recordRegs → f.off < 0x1E0000 →
      (d.senseVector.post 0x0E04 3 0x47 args).gated.get f = d.get f := fun args f hr hf => by
    rw [Block.gated_get_sense _ hf, Block.get_post _ _ _ _ _ _ hr, Block.get_of_regs (Block.senseVector_regs _)]
  refine ⟨Block.on_of_get_one ?_, Block.on_of_get_one ?_, ?_, ?_⟩
  · rw [hget _ _ hflags (by simp only [Reg.SS_LOOP_FLAGS]; omega), hd]
    exact Block.get_setAll_head _ _ _ _ (by simp [Field.fits]) (by simp [Field.fits, Field.apart])
  · rw [hget _ _ hflags (by simp only [Reg.SS_LOOP_FLAGS]; omega), hd, Block.setAll_cons]
    exact Block.get_setAll_head _ _ _ _ (by simp [Field.fits]) (by simp)
  · rw [hget _ _ hstat (by simp only [Reg.SS_LOOP_STAT]; omega), hd, Block.get_setAll_other _ _ _ (by simp), hm,
      Block.get_set_same _ _ _ (by simp [Field.fits])]
    exact Nat.mod_eq_of_lt measured.isLt
  · refine Block.keepsBut.gated (Block.keepsBut.post ?_ _ _ _ _ fun off h => by simp [h]) (by simp)
    have hset : s.blk.keepsBut m (Reg.SS_LOOP_STAT n :: Reg.SS_LOOP_FLAGS n :: Reg.SP_STAT 1 :: recordRegs) :=
      (s.blk.keepsBut_refl _).set _ (by simp)
    exact (hset.setAll (by simp)).of_regs (Block.senseVector_regs _)

theorem completes_loopFaultClear {s : State} {n : Fin 2} {measured : BitVec 16} (hen : s.blk.on (Reg.SS_LOOP_CTRL_ENABLE n) = true)
    (hagrees : s.blk.loopDiffers n measured.toNat = false) :
    Completes (.loopFaultClear n measured) s fun b =>
      b.on (Reg.SS_LOOP_FLAGS_LOOP_FAULT n) = false ∧ b.get (Reg.SS_LOOP_STAT_MEAS n) = measured.toNat ∧
      s.blk.keepsBut b [Reg.SS_LOOP_STAT n, Reg.SS_LOOP_FLAGS n, Reg.SP_STAT 1] := by
  have hoff : Reg.SS_LOOP_STAT n ≠ Reg.SS_LOOP_FLAGS n := by simp only [Reg.SS_LOOP_FLAGS, Reg.SS_LOOP_STAT]; omega
  have hlt : n.val < 2 := n.isLt
  set m := s.blk.set (Reg.SS_LOOP_STAT_MEAS n) measured.toNat with hm
  have hdem : m.get (Reg.SS_LOOP_STAT_DEMAND n) = s.blk.get (Reg.SS_LOOP_STAT_DEMAND n) :=
    Block.get_set_apart _ _ _ _ (by simp [Field.fits]) (by simp [Field.apart])
  have hd : m.loopDiffers n measured.toNat = false := by
    unfold Block.loopDiffers
    rw [hdem]
    exact hagrees
  refine completes_of_next (b := s.blk.loopAgrees n measured.toNat) rfl ?_
  unfold Block.loopAgrees
  dsimp only
  rw [if_neg (by rw [hen]; decide), ← hm, if_neg (by rw [hd]; decide)]
  refine ⟨?_, ?_, ?_⟩
  · unfold Block.on
    rw [Block.gated_get_sense _ (by simp only [Reg.SS_LOOP_FLAGS]; omega), Block.get_set_same _ _ _ (by simp [Field.fits])]
    rfl
  · rw [Block.gated_get_sense _ (by simp only [Reg.SS_LOOP_STAT]; omega), Block.get_of_rd (Block.rd_set_other _ _ _ _ hoff), hm,
      Block.get_set_same _ _ _ (by simp [Field.fits])]
    exact Nat.mod_eq_of_lt measured.isLt
  · have hset : s.blk.keepsBut m [Reg.SS_LOOP_STAT n, Reg.SS_LOOP_FLAGS n, Reg.SP_STAT 1] := (s.blk.keepsBut_refl _).set _ (by simp)
    exact (hset.set _ (by simp)).gated (by simp)

theorem completes_loop_disabled {s : State} {n : Fin 2} {measured : BitVec 16} (hen : s.blk.on (Reg.SS_LOOP_CTRL_ENABLE n) = false) :
    ∀ i ∈ [Instr.loopOpen n measured, .loopFaultClear n measured], Completes i s fun b => s.blk.keepsBut b [Reg.SP_STAT 1] := by
  have hidle : s.blk.keepsBut s.blk.gated [Reg.SP_STAT 1] := (s.blk.keepsBut_refl _).gated (by simp)
  have hoff : (!s.blk.on (Reg.SS_LOOP_CTRL_ENABLE n)) = true := by rw [hen]; rfl
  intro i hi
  simp only [List.mem_cons, List.not_mem_nil, or_false] at hi
  rcases hi with rfl | rfl
  · refine completes_of_next (b := s.blk.loopOpen n measured.toNat) rfl ?_
    rw [show s.blk.loopOpen n measured.toNat = s.blk from if_pos hoff]
    exact hidle
  · refine completes_of_next (b := s.blk.loopAgrees n measured.toNat) rfl ?_
    rw [show s.blk.loopAgrees n measured.toNat = s.blk from if_pos hoff]
    exact hidle

/-- Settles O58: the stages of a conversion write the channel's own registers, its queue and the loops' one after the other. -/
theorem senseMeasures : Obligations.SenseMeasures := by
  intro s c source n measured k st u code x
  have hlt : k < 8 := c.ch.isLt
  refine ⟨fun hruns hold => ⟨fun hflag => completes_conversion_good rfl hlt hruns hold hflag,
    fun hflag => completes_conversion_open rfl hlt hruns hold hflag, fun hon => completes_complianceLoss hruns hon⟩,
    fun ws hold => completes_conversion_old hold, fun hruns hold => completes_sense_idle source hruns hold,
    fun hdev => ⟨fun hst => ?_, fun hst => ?_, fun hst => ?_⟩,
    fun hen => ⟨fun hd hf => completes_loopOpen hen hd hf, fun hd => completes_loopFaultClear hen hd⟩,
    fun hen => completes_loop_disabled hen⟩
  · exact completes_notchRetune hdev (by rcases hst with h | h | h <;> rw [h] <;> rfl) rfl
  · exact completes_notchRetune hdev (by rcases hst with h | h <;> rw [h] <;> rfl) rfl
  · exact completes_notchRetune hdev (by rcases hst with h | h <;> rw [h] <;> rfl) rfl

end Sys2Proof.Machine

/-!
The global operations of the Chain: tokens, verdicts, resets and the commands of the master (R458, R485 to R488).
-/

namespace Sys2Proof.Machine

/-! ### What a cell's way over the rings changes -/

/-- The blocks agree but for the cells under way, the numbers sent and the numbers seen. -/
structure Block.onRing (b c : Block) : Prop where
  dev : c.dev = b.dev
  regs : c.regs = b.regs
  img : c.img = b.img
  brg : c.brg = b.brg
  chain : c.chain = { b.chain with cells := c.chain.cells, seq := c.chain.seq, seen := c.chain.seen }

namespace Block.onRing
variable {b c d : Block}

theorem trans (h : b.onRing c) (h' : c.onRing d) : b.onRing d where
  dev := h'.dev.trans h.dev
  regs := h'.regs.trans h.regs
  img := h'.img.trans h.img
  brg := h'.brg.trans h.brg
  chain := by rw [h'.chain, h.chain]

theorem op (h : b.onRing c) : c.chain.op = b.chain.op := by rw [h.chain]

theorem role (h : b.onRing c) : c.chain.role = b.chain.role := by rw [h.chain]

theorem resetOut (h : b.onRing c) : c.chain.resetOut = b.chain.resetOut := by rw [h.chain]

theorem barrier (h : b.onRing c) : c.chain.barrier = b.chain.barrier := by rw [h.chain]

theorem held (h : b.onRing c) : c.chain.held = b.chain.held := by rw [h.chain]

theorem get (h : b.onRing c) (f : Field) : c.get f = b.get f := Block.get_of_regs h.regs f

theorem keepsBut (h : b.onRing c) (offs : List Nat) : b.keepsBut c offs := (b.keepsBut_refl offs).of_regs h.regs

end Block.onRing

theorem Block.onRing_refl (b : Block) : b.onRing b := ⟨rfl, rfl, rfl, rfl, rfl⟩

theorem Block.onRing_putCell (b : Block) (ringB : Bool) (bytes : List Byte) : b.onRing (b.putCell ringB bytes) where
  dev := Block.putCell_dev _ _ _
  regs := Block.putCell_regs _ _ _
  img := Block.putCell_img _ _ _
  brg := Block.putCell_brg _ _ _
  chain := by
    unfold Block.putCell
    extract_lets out x
    clear_value out
    split <;> rfl

theorem Block.onRing_forward (b : Block) (ringB : Bool) (c : Cell) : b.onRing (b.forward ringB c) := by
  unfold Block.forward
  split
  · exact b.onRing_refl
  · exact b.onRing_putCell _ _

theorem Block.onRing_nextSeq (b : Block) : b.onRing b.nextSeq := ⟨rfl, rfl, rfl, rfl, rfl⟩

theorem Block.onRing_keep (b : Block) (c : Cell) : b.onRing (b.keep c) := ⟨rfl, rfl, rfl, rfl, rfl⟩

theorem Block.onRing_sendCellOn (b : Block) (ringB : Bool) (kind dst : Nat) (bcast : Bool) (body : List Byte) :
    b.onRing (b.sendCellOn ringB kind dst bcast body) := b.onRing_nextSeq.trans (Block.onRing_putCell _ _ _)

theorem Block.onRing_sendCell (b : Block) (kind dst : Nat) (bcast : Bool) (body : List Byte) :
    b.onRing (b.sendCell kind dst bcast body) :=
  (b.onRing_nextSeq.trans (Block.onRing_putCell _ _ _)).trans (Block.onRing_putCell _ _ _)

theorem Block.onRing_sendVerdict (b : Block) (op verdict cause : Nat) (at_ : Bearing) :
    b.onRing (b.sendVerdict op verdict cause at_) := b.onRing_sendCell _ _ _ _

theorem Block.onRing_sendToken (b : Block) (op : Nat) (at_ : Bearing) : b.onRing (b.sendToken op at_) :=
  b.onRing_sendCellOn _ _ _ _ _

/-! ### Opening a cell -/

theorem Block.dev_of_hears {b : Block} {ringB : Bool} (h : b.hears ringB = true) : b.dev = .settle ∨ b.dev = .service := by
  unfold Block.hears at h
  simp only [Bool.and_eq_true, Bool.or_eq_true, beq_iff_eq] at h
  exact h.1.2

theorem Block.not_silent_of_hears {b : Block} {ringB : Bool} (h : b.hears ringB = true) : b.dev.silent = false := by
  rcases Block.dev_of_hears h with hd | hd <;> rw [hd] <;> rfl

theorem Block.openCell_eq {b : Block} {ringB : Bool} {bytes : List Byte} {c : Cell} (h : b.hears ringB = true)
    (hc : cellOf bytes = some c) : b.openCell ringB c.kind bytes = (b, some c) := by
  unfold Block.openCell
  rw [h, hc]
  dsimp only
  rw [if_pos rfl, if_neg (by decide)]

theorem Block.takeCell_eq {b : Block} {ringB : Bool} {bytes : List Byte} {c : Cell} (h : b.hears ringB = true)
    (hc : cellOf bytes = some c) (hsrc : c.src ≠ b.rank) (hseen : b.hasSeen c = false) (hto : c.bcast = true ∨ c.dst = b.rank) :
    ∃ d, b.onRing d ∧ b.takeCell ringB c.kind bytes = (d, some c) := by
  have hf := b.onRing_forward ringB c
  have hrank : (b.forward ringB c).rank = b.rank := hf.get _
  have hs : (b.forward ringB c).hasSeen c = b.hasSeen c := by
    have : (b.forward ringB c).chain.seen = b.chain.seen := by
      unfold Block.forward Block.putCell
      extract_lets out x
      clear_value out
      split
      · rfl
      · split <;> rfl
    unfold Block.hasSeen
    rw [this]
  refine ⟨(b.forward ringB c).keep c, hf.trans (Block.onRing_keep _ _), ?_⟩
  unfold Block.takeCell
  rw [Block.openCell_eq h hc]
  dsimp only
  rw [hrank, hs, hseen, if_neg (by simp [hsrc])]
  rw [if_pos hto]

/-- A command on a well-formed cell does what the block does with the cell. -/
theorem answer_of_wf {mnemonic : String} {wf : Bool} (h : wf = true) (s : State) (f : Block → Block) :
    answer mnemonic wf s f = .next { s with blk := (f s.blk).gated } := if_pos h

theorem exec_tokenReceived {ring : Ring} {cell : List Byte} (h : cellOk cell = true) (s : State) :
    exec (.tokenReceived ring cell) s = .next { s with blk := (s.blk.tokenReceived (ring == .b) cell).gated } := by
  show execTokenReceived ring cell s = _
  exact answer_of_wf h s _

theorem exec_verdictReceived {ring : Ring} {cell : List Byte} (h : cellOk cell = true) (s : State) :
    exec (.verdictReceived ring cell) s = .next { s with blk := (s.blk.verdictReceived (ring == .b) cell).gated } := by
  show execVerdictReceived ring cell s = _
  exact answer_of_wf h s _

theorem exec_resetCellReceived {ring : Ring} {cell : List Byte} (h : cellOk cell = true) (s : State) :
    exec (.resetCellReceived ring cell) s = .next { s with blk := (s.blk.resetCell (ring == .b) cell).gated } := by
  show execResetCellReceived ring cell s = _
  exact answer_of_wf h s _

/-! ### The token of a swap -/

/-- What a member notes when a token finds it ready for the swap at `at_` (R79). -/
def Block.swapJoined (b : Block) (at_ : Bearing) : Block :=
  (({ b with img := { b.img with armed := some { bearing := at_, verdict := .waiting, tokenOut := false, ready := 0 } } } : Block).setBearing
    Reg.CFG_SWAP_BRG_LO_BRG Reg.CFG_SWAP_BRG_HI_BRG at_).setAll
      [(Reg.CFG_STATUS_SHADOW, 4), (Reg.CFG_SWAP_STATUS_STATE, 1), (Reg.CFG_SWAP_STATUS_CAUSE, 0)]

theorem Block.swapJoined_shadow (b : Block) (at_ : Bearing) : (b.swapJoined at_).get Reg.CFG_STATUS_SHADOW = 4 :=
  Block.get_setAll_head _ _ 4 _ (by decide) (by simp [Field.fits, Field.apart])

theorem Block.swapJoined_img (b : Block) (at_ : Bearing) : (b.swapJoined at_).img =
    { b.img with armed := some { bearing := at_, verdict := .waiting, tokenOut := false, ready := 0 } } := by
  unfold Block.swapJoined Block.setBearing
  rw [Block.setAll_img, Block.set_img, Block.set_img]

theorem Block.swapJoined_dev (b : Block) (at_ : Bearing) : (b.swapJoined at_).dev = b.dev := by
  unfold Block.swapJoined Block.setBearing
  rw [Block.setAll_dev, Block.set_dev, Block.set_dev]

theorem Block.answerToken_ready {b : Block} (hdev : b.dev = .service) (hrun : b.running = true) (hhold : b.chain.holdover = false)
    (hback : b.chain.backSlew = false) (hsh : b.get Reg.CFG_STATUS_SHADOW = 2) (at_ : Bearing) :
    b.answerToken opSwap at_ = ((b.swapJoined at_).raiseFixed 6, true) := by
  have hsound : (b.dev == .service && b.running && !b.chain.holdover && !b.chain.backSlew) = true := by
    rw [hdev, hrun, hhold, hback]
    rfl
  unfold Block.answerToken
  rw [hsound, hsh]
  dsimp only
  rw [if_pos rfl, if_pos (by decide)]
  rfl

theorem Block.answerToken_not_valid {b : Block} (hsh : b.get Reg.CFG_STATUS_SHADOW ≠ 2) (at_ : Bearing) :
    b.answerToken opSwap at_ = ({ b with img := { b.img with ended := none } }, false) := by
  unfold Block.answerToken
  extract_lets sound
  clear_value sound
  rw [if_pos rfl, if_neg (by simp [hsh])]

section
variable {s : State} {ring : Ring} {cell : List Byte} {c : Cell}

/-- The token as a member passes it on. -/
theorem Block.tokenReceived_member {b : Block} {ringB : Bool} (hh : b.hears ringB = true) (hc : cellOf cell = some c)
    (hkind : c.kind = kindToken) (hsrc : c.src ≠ b.rank) (hseen : b.hasSeen c = false) (hrole : b.chain.role ≠ .none) :
    b.keep c |>.answerToken (byteAt c.body 0) (BitVec.ofNat 48 (leAt c.body 1 6)) |>.1.onRing (b.tokenReceived ringB cell) := by
  unfold Block.tokenReceived
  rw [← hkind, Block.openCell_eq hh hc]
  dsimp only
  rw [if_neg hsrc, if_neg (by simp [hseen, hrole])]
  exact Block.onRing_forward _ _ _

/-- The master's own token is back. -/
theorem Block.tokenReceived_master {b : Block} {ringB : Bool} (hh : b.hears ringB = true) (hc : cellOf cell = some c)
    (hkind : c.kind = kindToken) (hsrc : c.src = b.rank) (hseen : b.hasSeen c = false) (hrole : b.chain.role = .master)
    (hop : byteAt c.body 0 = opSwap) : b.tokenReceived ringB cell =
      (b.keep c).tokenBack opSwap (BitVec.ofNat 48 (leAt c.body 1 6)) (byteAt c.body 7) (byteAt c.body 8) := by
  unfold Block.tokenReceived
  rw [← hkind, Block.openCell_eq hh hc]
  dsimp only
  rw [if_pos hsrc, if_neg (by simp [hseen, hrole]), hop, if_neg (by decide)]

theorem completes_token_ready (hok : cellOk cell = true) (hh : s.blk.hears (ring == .b) = true) (hc : cellOf cell = some c)
    (hkind : c.kind = kindToken) (hsrc : c.src ≠ s.blk.rank) (hseen : s.blk.hasSeen c = false) (hrole : s.blk.chain.role ≠ .none)
    (hop : byteAt c.body 0 = opSwap) (hdev : s.blk.dev = .service) (hrun : s.blk.running = true)
    (hhold : s.blk.chain.holdover = false) (hback : s.blk.chain.backSlew = false) (hsh : s.blk.get Reg.CFG_STATUS_SHADOW = 2) :
    Completes (.tokenReceived ring cell) s fun b => b.get Reg.CFG_STATUS_SHADOW = 4 ∧
      b.img.armed = some { bearing := BitVec.ofNat 48 (leAt c.body 1 6), verdict := .waiting, tokenOut := false, ready := 0 } := by
  refine completes_of_next (exec_tokenReceived hok s) ?_
  have h := Block.tokenReceived_member (ringB := ring == .b) hh hc hkind hsrc hseen hrole
  rw [hop, Block.answerToken_ready (b := s.blk.keep c) hdev hrun hhold hback hsh] at h
  have hkeepsDev : (s.blk.tokenReceived (ring == .b) cell).dev = .service := by
    rw [h.dev, Block.raiseFixed_dev, Block.swapJoined_dev]
    exact hdev
  rw [Block.gated_get_of_not_silent (Block.not_silent_of_service hkeepsDev), Block.gated_img, h.get, h.img,
    Block.raiseFixed_img, Block.swapJoined_img, Block.get_of_regs (Block.raiseFixed_regs _ _), Block.swapJoined_shadow]
  exact ⟨rfl, rfl⟩

theorem completes_token_not_ready (hok : cellOk cell = true) (hh : s.blk.hears (ring == .b) = true) (hc : cellOf cell = some c)
    (hkind : c.kind = kindToken) (hsrc : c.src ≠ s.blk.rank) (hseen : s.blk.hasSeen c = false) (hrole : s.blk.chain.role ≠ .none)
    (hop : byteAt c.body 0 = opSwap) (hsh : s.blk.get Reg.CFG_STATUS_SHADOW ≠ 2) :
    Completes (.tokenReceived ring cell) s fun b => b.img = { s.blk.img with ended := none } ∧ s.blk.keepsBut b [] := by
  refine completes_of_next (exec_tokenReceived hok s) ?_
  have h := Block.tokenReceived_member (ringB := ring == .b) hh hc hkind hsrc hseen hrole
  rw [hop, Block.answerToken_not_valid (b := s.blk.keep c) hsh] at h
  have hregs : (s.blk.tokenReceived (ring == .b) cell).regs = s.blk.regs := h.regs
  have hsilent : (s.blk.tokenReceived (ring == .b) cell).dev.silent = false := by
    rw [h.dev]
    exact Block.not_silent_of_hears hh
  refine ⟨?_, ((s.blk.keepsBut_refl []).of_regs hregs).gated_of_not_silent hsilent⟩
  rw [Block.gated_img, h.img]
  rfl

/-- The block with another armed swap. -/
def Block.withArmed (b : Block) (x : Option Armed) : Block := { b with img := { b.img with armed := x } }

theorem completes_token_commit {a : Armed} (hok : cellOk cell = true) (hh : s.blk.hears (ring == .b) = true)
    (hc : cellOf cell = some c) (hkind : c.kind = kindToken) (hsrc : c.src = s.blk.rank) (hseen : s.blk.hasSeen c = false)
    (hrole : s.blk.chain.role = .master) (hop : byteAt c.body 0 = opSwap) (ha : s.blk.img.armed = some a)
    (hat : a.bearing = BitVec.ofNat 48 (leAt c.body 1 6)) (hv : a.verdict = .waiting) (h0 : byteAt c.body 7 = 0)
    (hall : byteAt c.body 8 &&& s.blk.get Reg.CHN_ROSTER_PRESENT = s.blk.get Reg.CHN_ROSTER_PRESENT) :
    Completes (.tokenReceived ring cell) s fun b =>
      b.img.armed = some { a with verdict := .commit, tokenOut := false, ready := byteAt c.body 8 } ∧ s.blk.keepsBut b [] := by
  refine completes_of_next (exec_tokenReceived hok s) ?_
  have hpres : (s.blk.keep c).get Reg.CHN_ROSTER_PRESENT = s.blk.get Reg.CHN_ROSTER_PRESENT := rfl
  have hka : (s.blk.keep c).img.armed = some a := ha
  have heq : ((s.blk.keep c).withArmed (some { a with verdict := .commit, tokenOut := false, ready := byteAt c.body 8 })).onRing
      (s.blk.tokenReceived (ring == .b) cell) := by
    rw [Block.tokenReceived_master hh hc hkind hsrc hseen hrole hop]
    unfold Block.tokenBack
    extract_lets all
    have hall' : all = true := by
      show (byteAt c.body 7 == 0 && byteAt c.body 8 &&& (s.blk.keep c).get Reg.CHN_ROSTER_PRESENT ==
        (s.blk.keep c).get Reg.CHN_ROSTER_PRESENT) = true
      rw [hpres, h0, hall]
      simp
    clear_value all
    rw [if_pos rfl, hka, hall']
    dsimp only
    rw [if_neg (by simp [hat, hv]), if_pos rfl]
    exact Block.onRing_sendVerdict _ _ _ _ _
  have hregs : (s.blk.tokenReceived (ring == .b) cell).regs = s.blk.regs := heq.regs
  have hsilent : (s.blk.tokenReceived (ring == .b) cell).dev.silent = false := by
    rw [heq.dev]
    exact Block.not_silent_of_hears hh
  refine ⟨?_, ((s.blk.keepsBut_refl []).of_regs hregs).gated_of_not_silent hsilent⟩
  rw [Block.gated_img, heq.img]
  rfl

theorem completes_token_abort {a : Armed} (hok : cellOk cell = true) (hh : s.blk.hears (ring == .b) = true)
    (hc : cellOf cell = some c) (hkind : c.kind = kindToken) (hsrc : c.src = s.blk.rank) (hseen : s.blk.hasSeen c = false)
    (hrole : s.blk.chain.role = .master) (hop : byteAt c.body 0 = opSwap) (ha : s.blk.img.armed = some a)
    (hat : a.bearing = BitVec.ofNat 48 (leAt c.body 1 6)) (hv : a.verdict = .waiting) (h0 : byteAt c.body 7 ≠ 0) :
    Completes (.tokenReceived ring cell) s fun b => b.img.armed = none ∧ b.get Reg.CFG_SWAP_STATUS_CAUSE = 2 := by
  refine completes_of_next (exec_tokenReceived hok s) ?_
  have hka : (s.blk.keep c).img.armed = some a := ha
  have heq : s.blk.tokenReceived (ring == .b) cell = (s.blk.keep c).abortSwapAll 2 := by
    rw [Block.tokenReceived_master hh hc hkind hsrc hseen hrole hop]
    unfold Block.tokenBack
    extract_lets all
    have hall' : all = false := by
      show (byteAt c.body 7 == 0 && _) = false
      simp [h0]
    clear_value all
    rw [if_pos rfl, hka, hall']
    dsimp only
    rw [if_neg (by simp [hat, hv]), if_neg (by decide)]
  obtain ⟨himg, hdev, -, -, hcause⟩ := Block.abortSwapAll_shows hka 2
  have hsilent : ((s.blk.keep c).abortSwapAll 2).dev.silent = false := by
    rw [hdev]
    exact Block.not_silent_of_hears hh
  rw [heq, Block.gated_img, himg, Block.gated_get_of_not_silent hsilent, hcause]
  exact ⟨rfl, rfl⟩

/-! ### The verdict -/

theorem Block.verdictReceived_eq {b : Block} {ringB : Bool} {a : Armed} (hh : b.hears ringB = true) (hc : cellOf cell = some c)
    (hkind : c.kind = kindVerdict) (hsrc : c.src ≠ b.rank) (hseen : b.hasSeen c = false) (hb : c.bcast = true)
    (hop : byteAt c.body 0 = opSwap) (ha : b.img.armed = some a) (hat : a.bearing = BitVec.ofNat 48 (leAt c.body 3 6)) :
    ∃ d, b.onRing d ∧ b.verdictReceived ringB cell =
      if byteAt c.body 1 = 1 then { d with img := { d.img with armed := some { a with verdict := .commit } } }
      else d.swapAbort (byteAt c.body 2) := by
  obtain ⟨d, hd, heq⟩ := Block.takeCell_eq (ringB := ringB) hh hc hsrc hseen (.inl hb)
  refine ⟨d, hd, ?_⟩
  have hda : d.img.armed = some a := by rw [hd.img, ha]
  unfold Block.verdictReceived
  rw [← hkind, heq]
  dsimp only
  rw [if_pos hop, hda]
  dsimp only
  rw [if_neg (by simp [hat])]
  by_cases h1 : byteAt c.body 1 = 1 <;> simp [h1]

theorem completes_verdict_commit {a : Armed} (hok : cellOk cell = true) (hh : s.blk.hears (ring == .b) = true)
    (hc : cellOf cell = some c) (hkind : c.kind = kindVerdict) (hsrc : c.src ≠ s.blk.rank) (hseen : s.blk.hasSeen c = false)
    (hb : c.bcast = true) (hop : byteAt c.body 0 = opSwap) (ha : s.blk.img.armed = some a)
    (hat : a.bearing = BitVec.ofNat 48 (leAt c.body 3 6)) (h1 : byteAt c.body 1 = 1) :
    Completes (.verdictReceived ring cell) s fun b => b.img.armed = some { a with verdict := .commit } ∧ s.blk.keepsBut b [] := by
  refine completes_of_next (exec_verdictReceived hok s) ?_
  obtain ⟨d, hd, heq⟩ := Block.verdictReceived_eq (ringB := ring == .b) hh hc hkind hsrc hseen hb hop ha hat
  rw [heq, if_pos h1, Block.gated_img]
  have hk : s.blk.keepsBut ({ d with img := { d.img with armed := some { a with verdict := .commit } } } : Block) [] := hd.keepsBut []
  refine ⟨rfl, hk.gated_of_not_silent ?_⟩
  show d.dev.silent = false
  rw [hd.dev]
  exact Block.not_silent_of_hears hh

theorem completes_verdict_abort {a : Armed} (hok : cellOk cell = true) (hh : s.blk.hears (ring == .b) = true)
    (hc : cellOf cell = some c) (hkind : c.kind = kindVerdict) (hsrc : c.src ≠ s.blk.rank) (hseen : s.blk.hasSeen c = false)
    (hb : c.bcast = true) (hop : byteAt c.body 0 = opSwap) (ha : s.blk.img.armed = some a)
    (hat : a.bearing = BitVec.ofNat 48 (leAt c.body 3 6)) (h1 : byteAt c.body 1 ≠ 1) (h16 : byteAt c.body 2 < 16) :
    Completes (.verdictReceived ring cell) s fun b => b.img.armed = none ∧
      b.get Reg.CFG_SWAP_STATUS_CAUSE = byteAt c.body 2 ∧ b.get Reg.CFG_STATUS_SHADOW = 2 := by
  refine completes_of_next (exec_verdictReceived hok s) ?_
  obtain ⟨d, hd, heq⟩ := Block.verdictReceived_eq (ringB := ring == .b) hh hc hkind hsrc hseen hb hop ha hat
  have hda : d.img.armed = some a := by rw [hd.img, ha]
  obtain ⟨hshadow, -, hcause⟩ := Block.swapAbort_shows hda (byteAt c.body 2)
  have hsilent : (d.swapAbort (byteAt c.body 2)).dev.silent = false := by
    rw [Block.swapAbort_dev' hda, hd.dev]
    exact Block.not_silent_of_hears hh
  rw [heq, if_neg h1, Block.gated_img, Block.swapAbort_img' hda, Block.gated_get_of_not_silent hsilent,
    Block.gated_get_of_not_silent hsilent, hcause, hshadow]
  exact ⟨rfl, Nat.mod_eq_of_lt h16, rfl⟩

/-! ### A RESET cell -/

theorem completes_chain_reset {i : Instr} {b : Block} (hc : exec i s = .next { s with blk := (b.fullReset 4).gated }) :
    Completes i s fun b => b.dev = .reset ∧ b.bit Reg.GLB_RESET_CAUSE_SOURCE 4 = true :=
  (completes_fullReset (source := 4) (by decide) hc).imp fun _ h => by
    obtain ⟨hdev, -, -, -, -, -, -, -, hbit, -⟩ := h
    exact ⟨hdev, hbit⟩

theorem completes_resetCell_taken (hok : cellOk cell = true) (hh : s.blk.hears (ring == .b) = true) (hc : cellOf cell = some c)
    (hkind : c.kind = kindReset) (hsrc : c.src ≠ s.blk.rank) (hseen : s.blk.hasSeen c = false)
    (hto : c.bcast = true ∨ c.dst = s.blk.rank) :
    Completes (.resetCellReceived ring cell) s fun b => b.dev = .reset ∧ b.bit Reg.GLB_RESET_CAUSE_SOURCE 4 = true := by
  have hf := s.blk.onRing_forward (ring == .b) c
  have hrank : (s.blk.forward (ring == .b) c).rank = s.blk.rank := hf.get _
  have hs : (s.blk.forward (ring == .b) c).hasSeen c = false := by
    rw [← hseen]
    unfold Block.hasSeen Block.forward Block.putCell
    extract_lets out x
    clear_value out
    split
    · rfl
    · split <;> rfl
  have key : ∃ d : Block, s.blk.resetCell (ring == .b) cell = d.fullReset 4 := by
    unfold Block.resetCell
    rw [← hkind, Block.openCell_eq hh hc]
    dsimp only
    rw [if_neg hsrc]
    split
    · exact ⟨_, rfl⟩
    · rename_i hb
      rw [hrank, hs, if_pos ⟨hto.resolve_left hb, rfl⟩]
      exact ⟨_, rfl⟩
  obtain ⟨d, hd⟩ := key
  exact completes_chain_reset (b := d) (hd ▸ exec_resetCellReceived hok s)

theorem completes_resetCell_passed (hok : cellOk cell = true) (hh : s.blk.hears (ring == .b) = true) (hc : cellOf cell = some c)
    (hkind : c.kind = kindReset) (hsrc : c.src ≠ s.blk.rank) (hb : c.bcast = false) (hdst : c.dst ≠ s.blk.rank) :
    Completes (.resetCellReceived ring cell) s fun b => b.dev = s.blk.dev ∧ s.blk.keepsBut b [] := by
  refine completes_of_next (exec_resetCellReceived hok s) ?_
  have hf := s.blk.onRing_forward (ring == .b) c
  have hrank : (s.blk.forward (ring == .b) c).rank = s.blk.rank := hf.get _
  have heq : s.blk.onRing (s.blk.resetCell (ring == .b) cell) := by
    unfold Block.resetCell
    rw [← hkind, Block.openCell_eq hh hc]
    dsimp only
    rw [if_neg hsrc, if_neg (by simp [hb]), hrank, if_neg fun h => hdst h.1]
    exact hf.trans (Block.onRing_keep _ _)
  refine ⟨(Block.gated_dev _).trans heq.dev, (heq.keepsBut []).gated_of_not_silent ?_⟩
  rw [heq.dev]
  exact Block.not_silent_of_hears hh

end

end Sys2Proof.Machine

/-!
The commands of the Chain's master, its reset of all, and its armed operations at their bearing (R485 to R488, R491).
-/

namespace Sys2Proof.Machine

/-! ### The result of a command -/

/-- The block with another state of the Chain. -/
def Block.withChain (b : Block) (x : ChainSt) : Block := { b with chain := x }

theorem Block.withChain_regs (b : Block) (x : ChainSt) : (b.withChain x).regs = b.regs := rfl

/-- The output stages touch the bypasses and the driven frames of the Chain's state, and nothing else of it. -/
theorem Block.gated_chain_eq (b : Block) : ∃ p q d, b.gated.chain = { b.chain with bypassA := p, bypassB := q, drives := d } := by
  have line : ∃ d, (if b.dev = .service then b else b.releaseLine).chain = { b.chain with drives := d } := by
    split
    · exact ⟨b.chain.drives, rfl⟩
    · exact ⟨[], rfl⟩
  have rings : ∀ c : Block, ∃ p q, (if c.dev.joins then c else c.shortRings).chain = { c.chain with bypassA := p, bypassB := q } := by
    intro c
    split
    · exact ⟨c.chain.bypassA, c.chain.bypassB, rfl⟩
    · exact ⟨true, true, rfl⟩
  obtain ⟨d, hd⟩ := line
  unfold Block.gated
  dsimp only
  generalize (if b.dev = .service then b else b.releaseLine) = c at hd ⊢
  obtain ⟨p, q, hpq⟩ := rings c
  generalize (if c.dev.joins then c else c.shortRings) = e at hpq ⊢
  refine ⟨p, q, d, ?_⟩
  have he : e.chain = { b.chain with bypassA := p, bypassB := q, drives := d } := by rw [hpq, hd]
  split
  · exact (Block.set_chain _ _ _).trans he
  · exact he

theorem Block.gated_chain (b : Block) : b.gated.chain =
    { b.chain with bypassA := b.gated.chain.bypassA, bypassB := b.gated.chain.bypassB, drives := b.gated.chain.drives } := by
  obtain ⟨p, q, d, h⟩ := b.gated_chain_eq
  generalize b.gated.chain = x at h ⊢
  subst h
  rfl

theorem Block.gated_op (b : Block) : b.gated.chain.op = b.chain.op := by rw [b.gated_chain]

theorem Block.gated_role (b : Block) : b.gated.chain.role = b.chain.role := by rw [b.gated_chain]

theorem Block.gated_resetOut (b : Block) : b.gated.chain.resetOut = b.chain.resetOut := by rw [b.gated_chain]

theorem Block.gated_barrier (b : Block) : b.gated.chain.barrier = b.chain.barrier := by rw [b.gated_chain]

theorem Block.gated_held (b : Block) : b.gated.chain.held = b.chain.held := by rw [b.gated_chain]

theorem Block.chnDone_dev (b : Block) (status : Nat) : (b.chnDone status).dev = b.dev :=
  (Block.raiseFixed_dev _ _).trans (Block.setAll_dev _ _)

theorem Block.chnDone_chain (b : Block) (status : Nat) : (b.chnDone status).chain = b.chain :=
  (Block.raiseFixed_chain _ _).trans (Block.setAll_chain _ _)

theorem Block.chnDone_keepsBut {b c : Block} {offs : List Nat} (h : b.keepsBut c offs) (status : Nat) (hr : Reg.CHN_CMD_RESULT ∈ offs) :
    b.keepsBut (c.chnDone status) offs :=
  Block.writesIn.raiseFixed (h.setAll (by simp [hr])) 7

theorem Block.chnDone_status (b : Block) (status : Nat) : (b.chnDone status).get Reg.CHN_CMD_RESULT_STATUS = status % 256 := by
  unfold Block.chnDone
  rw [Block.get_of_regs (Block.raiseFixed_regs _ _), Block.get_setAll_head _ _ _ _ (by decide) (by simp [Field.fits, Field.apart])]
  rfl

theorem Block.chnDone_get (b : Block) (status : Nat) (f : Field) (hf : f.off ≠ Reg.CHN_CMD_RESULT) :
    (b.chnDone status).get f = b.get f :=
  (Block.get_of_regs (Block.raiseFixed_regs _ _) f).trans (Block.get_setAll_other _ _ _ (by simp [hf]))

theorem Block.chnCmd_of_master {b : Block} (hbusy : b.on Reg.CHN_CMD_RESULT_BUSY = false) (h : b.chain.role = .master)
    (f : Block → Block) : b.chnCmd f = f b := by
  unfold Block.chnCmd
  rw [hbusy, h]
  rfl

theorem Block.chnCmd_of_not_master {b : Block} (hbusy : b.on Reg.CHN_CMD_RESULT_BUSY = false) (h : b.chain.role ≠ .master)
    (f : Block → Block) : b.chnCmd f = b.chnDone stStateReject := by
  unfold Block.chnCmd
  rw [hbusy, if_neg (by decide), if_pos (by simpa using h)]

section
variable {s : State}

/-- A command of the PF on the Chain. -/
theorem completes_chnCmd {i : Instr} {f : Block → Block} {P : Block → Prop}
    (hc : exec i s = .next { s with blk := (s.blk.byPf f).gated }) (hacc : s.blk.accepts = true) (hP : P (f s.blk).gated) :
    Completes i s P := by
  refine completes_of_next hc ?_
  rw [Block.byPf_of_accepts hacc]
  exact hP

theorem completes_chn_status {i : Instr} {f : Block → Block} (hc : exec i s = .next { s with blk := (s.blk.byPf f).gated })
    (hacc : s.blk.accepts = true) {status : Nat} (hf : f s.blk = s.blk.chnDone status) :
    Completes i s fun b => b.get Reg.CHN_CMD_RESULT_STATUS = status % 256 ∧ b.dev = s.blk.dev ∧ b.chain =
      { s.blk.chain with bypassA := b.chain.bypassA, bypassB := b.chain.bypassB, drives := b.chain.drives } ∧
        s.blk.keepsBut b [Reg.CHN_CMD_RESULT] := by
  refine completes_chnCmd hc hacc ?_
  have hsilent : (s.blk.chnDone status).dev.silent = false := by
    rw [Block.chnDone_dev]
    exact Block.not_silent_of_accepts hacc
  have hchain := Block.gated_chain (s.blk.chnDone status)
  rw [Block.chnDone_chain] at hchain
  rw [hf, Block.gated_get_of_not_silent hsilent, Block.chnDone_status]
  exact ⟨rfl, (Block.gated_dev _).trans (Block.chnDone_dev _ _), hchain,
    (Block.chnDone_keepsBut (s.blk.keepsBut_refl _) _ (by simp)).gated_of_not_silent hsilent⟩

theorem completes_chn_refused (hacc : s.blk.accepts = true) (hbusy : s.blk.on Reg.CHN_CMD_RESULT_BUSY = false)
    (hrole : s.blk.chain.role ≠ .master) :
    ∀ i ∈ [Instr.chainReset, .barrier, .snapArm, .snapDisarm, .handoverArm, .handoverDisarm],
      Completes i s fun b => b.get Reg.CHN_CMD_RESULT_STATUS = 1 ∧ b.chain =
        { s.blk.chain with bypassA := b.chain.bypassA, bypassB := b.chain.bypassB, drives := b.chain.drives } ∧
          s.blk.keepsBut b [Reg.CHN_CMD_RESULT] := by
  have key : ∀ (i : Instr) (f : Block → Block), exec i s = .next { s with blk := (s.blk.byPf f).gated } →
      f s.blk = s.blk.chnDone stStateReject → Completes i s fun b => b.get Reg.CHN_CMD_RESULT_STATUS = 1 ∧ b.chain =
        { s.blk.chain with bypassA := b.chain.bypassA, bypassB := b.chain.bypassB, drives := b.chain.drives } ∧
          s.blk.keepsBut b [Reg.CHN_CMD_RESULT] := fun i f hc hf =>
    (completes_chn_status hc hacc hf).imp fun b h => by
      obtain ⟨hstatus, -, hchain, hkeeps⟩ := h
      exact ⟨hstatus, hchain, hkeeps⟩
  intro i hi
  simp only [List.mem_cons, List.not_mem_nil, or_false] at hi
  rcases hi with rfl | rfl | rfl | rfl | rfl | rfl
  · exact key _ Block.chainResetCmd rfl (Block.chnCmd_of_not_master hbusy hrole _)
  · exact key _ Block.barrierCmd rfl (Block.chnCmd_of_not_master hbusy hrole _)
  · exact key _ (fun b => b.armOp false) rfl (Block.chnCmd_of_not_master hbusy hrole _)
  · exact key _ (fun b => b.disarmOp false) rfl (Block.chnCmd_of_not_master hbusy hrole _)
  · exact key _ (fun b => b.armOp true) rfl (Block.chnCmd_of_not_master hbusy hrole _)
  · exact key _ (fun b => b.disarmOp true) rfl (Block.chnCmd_of_not_master hbusy hrole _)

/-! ### RESET -/

/-- RESET as the master takes it: the record of it, and the command done. -/
def Block.resetNoted (b : Block) : Block :=
  (b.post 0x0D0A 1 0x46 [(1, b.get Reg.CHN_CMD_ARG_TARGET)]).chnDone stOK

theorem Block.resetNoted_dev (b : Block) : b.resetNoted.dev = b.dev := (Block.chnDone_dev _ _).trans (Block.post_dev _ _ _ _ _)

/-- The block waiting for the RESET to all to come round. -/
def Block.awaitsReset (b : Block) : Block := b.withChain { b.chain with resetOut := some b.ticks }

theorem Block.chainResetCmd_all {b : Block} (hbusy : b.on Reg.CHN_CMD_RESULT_BUSY = false) (h : b.chain.role = .master)
    (ht : b.get Reg.CHN_CMD_ARG_TARGET = 15) : b.chainResetCmd =
      b.resetNoted.awaitsReset.sendCellOn false kindReset 0 true [] := by
  unfold Block.chainResetCmd
  rw [Block.chnCmd_of_master hbusy h]
  dsimp only
  rw [ht, if_neg (by decide), if_pos rfl]
  unfold Block.resetNoted
  rw [ht]
  rfl

theorem Block.chainResetCmd_self {b : Block} (hbusy : b.on Reg.CHN_CMD_RESULT_BUSY = false) (h : b.chain.role = .master)
    (ht : b.get Reg.CHN_CMD_ARG_TARGET = b.rank) : b.chainResetCmd = b.resetNoted.fullReset 4 := by
  have hrank : b.rank < 8 := Block.get_lt _ _
  have hrank' : b.resetNoted.rank = b.rank := by
    unfold Block.rank Block.resetNoted
    rw [Block.chnDone_get _ _ _ (by decide), Block.get_post _ _ _ _ _ _ (by decide)]
  unfold Block.chainResetCmd
  rw [Block.chnCmd_of_master hbusy h]
  dsimp only
  rw [ht, if_neg (by omega), if_neg (by omega)]
  rw [← ht]
  show (if b.get Reg.CHN_CMD_ARG_TARGET = b.resetNoted.rank then b.resetNoted.fullReset 4 else _) = _
  rw [hrank', if_pos ht]

theorem completes_chainReset_all (hacc : s.blk.accepts = true) (hbusy : s.blk.on Reg.CHN_CMD_RESULT_BUSY = false)
    (hrole : s.blk.chain.role = .master) (ht : s.blk.get Reg.CHN_CMD_ARG_TARGET = 15) : Completes .chainReset s fun b =>
      b.chain.resetOut = some s.blk.ticks ∧ b.get Reg.CHN_CMD_RESULT_STATUS = 0 ∧ b.dev = s.blk.dev := by
  refine completes_chnCmd (f := Block.chainResetCmd) rfl hacc ?_
  rw [Block.chainResetCmd_all hbusy hrole ht]
  have hring := Block.onRing_sendCellOn s.blk.resetNoted.awaitsReset false kindReset 0 true []
  have hout : s.blk.resetNoted.awaitsReset.chain.resetOut = some s.blk.resetNoted.ticks := rfl
  have hstatus : s.blk.resetNoted.awaitsReset.get Reg.CHN_CMD_RESULT_STATUS = 0 := Block.chnDone_status _ _
  have hdev := hring.dev.trans (show _ = s.blk.dev from s.blk.resetNoted_dev)
  have hticks : s.blk.resetNoted.ticks = s.blk.ticks := by
    unfold Block.resetNoted Block.chnDone
    rw [Block.raiseFixed_ticks, Block.setAll_ticks, Block.post_ticks]
  rw [Block.gated_resetOut, hring.resetOut, hout, hticks, Block.gated_get_of_not_silent (by rw [hdev]; exact Block.not_silent_of_accepts hacc),
    hring.get, hstatus]
  exact ⟨rfl, rfl, (Block.gated_dev _).trans hdev⟩

theorem completes_chainReset_self (hacc : s.blk.accepts = true) (hbusy : s.blk.on Reg.CHN_CMD_RESULT_BUSY = false)
    (hrole : s.blk.chain.role = .master) (ht : s.blk.get Reg.CHN_CMD_ARG_TARGET = s.blk.rank) :
    Completes .chainReset s fun b => b.dev = .reset ∧ b.bit Reg.GLB_RESET_CAUSE_SOURCE 4 = true := by
  refine completes_chain_reset (b := s.blk.resetNoted) ?_
  rw [← Block.chainResetCmd_self hbusy hrole ht, ← Block.byPf_of_accepts hacc Block.chainResetCmd]
  rfl

theorem completes_chainReset_invalid (hacc : s.blk.accepts = true) (hbusy : s.blk.on Reg.CHN_CMD_RESULT_BUSY = false)
    (hrole : s.blk.chain.role = .master) (h7 : 7 < s.blk.get Reg.CHN_CMD_ARG_TARGET) (h15 : s.blk.get Reg.CHN_CMD_ARG_TARGET ≠ 15) :
    Completes .chainReset s fun b => b.get Reg.CHN_CMD_RESULT_STATUS = 2 ∧ b.dev = s.blk.dev ∧
      s.blk.keepsBut b [Reg.CHN_CMD_RESULT] := by
  have heq : s.blk.chainResetCmd = s.blk.chnDone stInvalid := by
    unfold Block.chainResetCmd
    rw [Block.chnCmd_of_master hbusy hrole]
    exact if_pos ⟨h7, h15⟩
  refine (completes_chn_status (f := Block.chainResetCmd) rfl hacc heq).imp fun b h => ?_
  obtain ⟨hstatus, hdev, -, hkeeps⟩ := h
  exact ⟨hstatus, hdev, hkeeps⟩

/-! ### BARRIER -/

theorem completes_barrier (hacc : s.blk.accepts = true) (hbusy : s.blk.on Reg.CHN_CMD_RESULT_BUSY = false)
    (hrole : s.blk.chain.role = .master) : Completes .barrier s fun b => b.chain.barrier = 1 ∧
      b.get Reg.CHN_CMD_RESULT_BUSY = 1 ∧ s.blk.keepsBut b [Reg.CHN_CMD_RESULT] := by
  refine completes_chnCmd (f := Block.barrierCmd) rfl hacc ?_
  have heq : s.blk.barrierCmd = ((({ s.blk with chain := { s.blk.chain with barrier := 1 } } : Block)).set
      Reg.CHN_CMD_RESULT_BUSY 1).sendToken opBarrier 0 := Block.chnCmd_of_master hbusy hrole _
  rw [heq]
  generalize hb : ({ s.blk with chain := { s.blk.chain with barrier := 1 } } : Block) = b
  have hbar : b.chain.barrier = 1 := by rw [← hb]
  have hregs : b.regs = s.blk.regs := by rw [← hb]
  have hdev : b.dev = s.blk.dev := by rw [← hb]
  have hring := Block.onRing_sendToken (b.set Reg.CHN_CMD_RESULT_BUSY 1) opBarrier 0
  have hsilent : ((b.set Reg.CHN_CMD_RESULT_BUSY 1).sendToken opBarrier 0).dev.silent = false := by
    rw [hring.dev, Block.set_dev, hdev]
    exact Block.not_silent_of_accepts hacc
  have hkeeps : s.blk.keepsBut ((b.set Reg.CHN_CMD_RESULT_BUSY 1).sendToken opBarrier 0) [Reg.CHN_CMD_RESULT] :=
    (((s.blk.keepsBut_refl _).of_regs hregs).set (f := Reg.CHN_CMD_RESULT_BUSY) 1 (by simp)).of_regs hring.regs
  rw [Block.gated_barrier, hring.barrier, Block.set_chain, hbar, Block.gated_get_of_not_silent hsilent, hring.get,
    Block.get_set_same _ _ _ (by decide)]
  exact ⟨rfl, rfl, hkeeps.gated_of_not_silent hsilent⟩

/-! ### Arming and disarming an operation -/

/-- An operation as the master arms it. -/
def Block.opArmed (b : Block) (handover : Bool) (at_ : Bearing) : Block :=
  (b.withChain { b.chain with op := some {
    handover := handover, bearing := at_, verdict := .waiting, tokenOut := true, ready := 0 } }).setAll
      [(Reg.CHN_OP_STATUS_STATE, 1), (Reg.CHN_OP_STATUS_CAUSE, 0), (Reg.CHN_OP_STATUS_MEMBERS, 0),
        (Reg.CHN_OP_STATUS_KIND, bitOf handover)]

theorem Block.opArmed_op (b : Block) (handover : Bool) (at_ : Bearing) : (b.opArmed handover at_).chain.op = some {
    handover := handover, bearing := at_, verdict := .waiting, tokenOut := true, ready := 0 } := by
  unfold Block.opArmed
  rw [Block.setAll_chain]
  rfl

theorem Block.opArmed_dev (b : Block) (handover : Bool) (at_ : Bearing) : (b.opArmed handover at_).dev = b.dev :=
  Block.setAll_dev _ _

theorem Block.opArmed_state (b : Block) (handover : Bool) (at_ : Bearing) :
    (b.opArmed handover at_).get Reg.CHN_OP_STATUS_STATE = 1 :=
  Block.get_setAll_head _ _ 1 _ (by decide) (by simp [Field.fits, Field.apart])

theorem Block.opArmed_keepsBut (b : Block) (handover : Bool) (at_ : Bearing) :
    b.keepsBut (b.opArmed handover at_) [Reg.CHN_OP_STATUS] :=
  ((b.keepsBut_refl [Reg.CHN_OP_STATUS]).of_regs (b.withChain_regs _)).setAll (by simp)

/-- The bearing of CHN_OP_BRG. -/
def Block.opAt (b : Block) : Bearing := b.bearingAt Reg.CHN_OP_BRG_LO_BRG Reg.CHN_OP_BRG_HI_BRG

/-- SNAP_ARM and HANDOVER_ARM as the master takes them. -/
def Block.armRequest (b : Block) (handover : Bool) : Block :=
  if b.dev != .service || !b.running || b.chain.op.isSome || (handover && b.partner.isNone) then b.chnDone stStateReject
  else if !b.armable b.opAt then b.chnDone stInvalid
  else (((b.opArmed handover b.opAt).raiseFixed 7).sendToken (if handover then opHandover else opSnapshot) b.opAt).chnDone stOK

theorem Block.armOp_eq {b : Block} (hbusy : b.on Reg.CHN_CMD_RESULT_BUSY = false) (hrole : b.chain.role = .master)
    (hdev : b.dev = .service) (hrun : b.running = true) (hop : b.chain.op = none) {handover : Bool}
    (hpartner : handover = true → b.partner.isSome = true) : b.armOp handover =
      if b.armable b.opAt then
        (((b.opArmed handover b.opAt).raiseFixed 7).sendToken (if handover then opHandover else opSnapshot) b.opAt).chnDone stOK
      else b.chnDone stInvalid := by
  have hno : (b.dev != .service || !b.running || b.chain.op.isSome || (handover && b.partner.isNone)) = false := by
    rw [hdev, hrun, hop]
    cases handover with
    | false => rfl
    | true =>
      have := hpartner rfl
      cases hp : b.partner with
      | none => rw [hp] at this; cases this
      | some p => rfl
  show b.chnCmd (fun b => b.armRequest handover) = _
  rw [Block.chnCmd_of_master hbusy hrole]
  unfold Block.armRequest
  rw [hno, if_neg (by decide)]
  cases h : b.armable b.opAt with
  | true => rw [Bool.not_true, if_neg (by decide), if_pos rfl]
  | false => rw [Bool.not_false, if_pos rfl, if_neg (by decide)]

theorem completes_armOp {i : Instr} {handover : Bool}
    (hc : exec i s = .next { s with blk := (s.blk.byPf fun b => b.armOp handover).gated })
    (hacc : s.blk.accepts = true) (hbusy : s.blk.on Reg.CHN_CMD_RESULT_BUSY = false) (hrole : s.blk.chain.role = .master)
    (hdev : s.blk.dev = .service) (hrun : s.blk.running = true) (hop : s.blk.chain.op = none)
    (hpartner : handover = true → s.blk.partner.isSome = true) :
    (s.blk.armable s.blk.opAt = true → Completes i s fun b =>
      b.chain.op = some { handover := handover, bearing := s.blk.opAt, verdict := .waiting, tokenOut := true, ready := 0 } ∧
      b.get Reg.CHN_OP_STATUS_STATE = 1 ∧ b.get Reg.CHN_CMD_RESULT_STATUS = 0 ∧
      s.blk.keepsBut b [Reg.CHN_OP_STATUS, Reg.CHN_CMD_RESULT]) ∧
    (s.blk.armable s.blk.opAt = false → Completes i s fun b =>
      b.chain.op = none ∧ b.get Reg.CHN_CMD_RESULT_STATUS = 2 ∧ s.blk.keepsBut b [Reg.CHN_CMD_RESULT]) := by
  have heq := Block.armOp_eq hbusy hrole hdev hrun hop hpartner
  constructor
  · intro h
    rw [if_pos h] at heq
    refine completes_chnCmd hc hacc ?_
    rw [heq]
    have hring := Block.onRing_sendToken ((s.blk.opArmed handover s.blk.opAt).raiseFixed 7)
      (if handover then opHandover else opSnapshot) s.blk.opAt
    generalize (((s.blk.opArmed handover s.blk.opAt).raiseFixed 7).sendToken (if handover then opHandover else opSnapshot)
      s.blk.opAt) = d at hring ⊢
    have hregs : d.regs = (s.blk.opArmed handover s.blk.opAt).regs := hring.regs.trans (Block.raiseFixed_regs _ _)
    have hsilent : (d.chnDone stOK).dev.silent = false := by
      rw [Block.chnDone_dev, hring.dev, Block.raiseFixed_dev, Block.opArmed_dev]
      exact Block.not_silent_of_accepts hacc
    have hkeeps : s.blk.keepsBut d [Reg.CHN_OP_STATUS, Reg.CHN_CMD_RESULT] :=
      ((s.blk.opArmed_keepsBut handover s.blk.opAt).mono (by simp)).of_regs hregs
    rw [Block.gated_op, Block.chnDone_chain, hring.op, Block.raiseFixed_chain, Block.opArmed_op,
      Block.gated_get_of_not_silent hsilent, Block.gated_get_of_not_silent hsilent, Block.chnDone_status,
      Block.chnDone_get _ _ _ (by decide), Block.get_of_regs hregs, Block.opArmed_state]
    exact ⟨rfl, rfl, rfl, (Block.chnDone_keepsBut hkeeps _ (by simp)).gated_of_not_silent hsilent⟩
  · intro h
    rw [if_neg (by simp [h])] at heq
    refine (completes_chn_status hc hacc heq).imp fun b hb => ?_
    obtain ⟨hstatus, -, hchain, hkeeps⟩ := hb
    refine ⟨?_, hstatus, hkeeps⟩
    rw [hchain]
    exact hop

/-- What the end of an operation shows. -/
theorem Block.opAbort_shows {b : Block} {o : ChainOp} (h : b.chain.op = some o) (cause : Nat) :
    (b.opAbort cause).chain.op = none ∧ (b.opAbort cause).get Reg.CHN_OP_STATUS_STATE = 3 ∧
      (b.opAbort cause).get Reg.CHN_OP_STATUS_CAUSE = cause % 2 ^ Reg.CHN_OP_STATUS_CAUSE.width := by
  unfold Block.opAbort
  rw [h]
  dsimp only
  refine ⟨?_, ?_, ?_⟩
  · rw [Block.raiseFixed_chain, Block.setAll_chain]
  · rw [Block.get_of_regs (Block.raiseFixed_regs _ _), Block.get_setAll_head _ _ _ _ (by decide) (by simp [Field.fits, Field.apart])]
    rfl
  · rw [Block.get_of_regs (Block.raiseFixed_regs _ _), Block.setAll_cons, Block.get_setAll_head _ _ _ _ (by decide) (by simp)]

/-- The master tells the others first, which changes nothing that the end shows. -/
theorem Block.abortOpAll_shows {b : Block} {o : ChainOp} (h : b.chain.op = some o) (cause : Nat) :
    (b.abortOpAll cause).chain.op = none ∧ (b.abortOpAll cause).get Reg.CHN_OP_STATUS_STATE = 3 ∧
      (b.abortOpAll cause).get Reg.CHN_OP_STATUS_CAUSE = cause % 2 ^ Reg.CHN_OP_STATUS_CAUSE.width := by
  unfold Block.abortOpAll
  rw [h]
  dsimp only
  split
  · exact Block.opAbort_shows ((Block.onRing_sendVerdict _ _ _ _ _).op.trans h) cause
  · exact Block.opAbort_shows h cause

theorem completes_disarmOp {o : ChainOp} (ho : s.blk.chain.op = some o) (hacc : s.blk.accepts = true)
    (hbusy : s.blk.on Reg.CHN_CMD_RESULT_BUSY = false) (hrole : s.blk.chain.role = .master) :
    Completes (if o.handover then .handoverDisarm else .snapDisarm) s fun b => b.chain.op = none ∧
      b.get Reg.CHN_OP_STATUS_STATE = 3 ∧ b.get Reg.CHN_OP_STATUS_CAUSE = 1 ∧ b.get Reg.CHN_CMD_RESULT_STATUS = 0 := by
  have hc : exec (if o.handover then .handoverDisarm else .snapDisarm) s =
      .next { s with blk := (s.blk.byPf fun b => b.disarmOp o.handover).gated } := by
    cases o.handover <;> rfl
  refine completes_chnCmd hc hacc ?_
  have heq : s.blk.disarmOp o.handover = (s.blk.abortOpAll 1).chnDone stOK := by
    unfold Block.disarmOp
    rw [Block.chnCmd_of_master hbusy hrole, ho]
    exact if_pos rfl
  obtain ⟨hop, hstate, hcause⟩ := Block.abortOpAll_shows ho 1
  have hsilent : ((s.blk.abortOpAll 1).chnDone stOK).dev.silent = false := by
    rw [Block.chnDone_dev, Block.abortOpAll_dev]
    exact Block.not_silent_of_accepts hacc
  rw [heq, Block.gated_op, Block.chnDone_chain, hop, Block.gated_get_of_not_silent hsilent, Block.gated_get_of_not_silent hsilent,
    Block.gated_get_of_not_silent hsilent, Block.chnDone_get _ _ _ (by decide), Block.chnDone_get _ _ _ (by decide),
    Block.chnDone_status, hstate, hcause]
  exact ⟨rfl, rfl, rfl, rfl⟩

/-! ### The end of a RESET to all -/

theorem completes_chainResetTimeout_late {t : Nat} (ht : s.blk.chain.resetOut = some t) (h : t + 2500 ≤ s.blk.ticks) :
    Completes .chainResetTimeout s fun b => b.dev = .reset ∧ b.bit Reg.GLB_RESET_CAUSE_SOURCE 4 = true := by
  refine completes_chain_reset (b := s.blk) ?_
  show execChainResetTimeout s = _
  unfold execChainResetTimeout
  rw [answer_of_wf rfl, ht]
  dsimp only
  rw [if_pos h]

theorem completes_chainResetTimeout_early {t : Nat} (ht : s.blk.chain.resetOut = some t) (h : s.blk.ticks < t + 2500) :
    Completes .chainResetTimeout s fun b => b.dev = s.blk.dev ∧ s.blk.keepsBut b [Reg.SP_STAT 1] := by
  refine completes_idle (b := s.blk) ?_ rfl
  show execChainResetTimeout s = _
  unfold execChainResetTimeout
  rw [answer_of_wf rfl, ht]
  dsimp only
  rw [if_neg (by omega)]

/-! ### An operation at its bearing -/

/-- The block with the operation begun at its bearing (R80). -/
def Block.opBegun (b : Block) : Block :=
  ((b.withChain { b.chain with op := none }).setAll [(Reg.CHN_OP_STATUS_STATE, 2),
    (Reg.CHN_OP_STATUS_MEMBERS, 2 ^ b.rank)]).raiseFixed 7

theorem Block.opDue_eq {b : Block} {o : ChainOp} (ho : b.chain.op = some o) (hat : o.bearing = b.brg.now) (act : Block → Block) :
    b.opDue o.handover act = if b.brg.state = .holdover then b.abortOpAll 4
      else if o.verdict = .commit then act b.opBegun else b.opAbort 7 := by
  unfold Block.opDue
  rw [ho]
  dsimp only
  rw [if_neg (by simp [hat])]
  rfl

theorem Block.opBegun_op (b : Block) : b.opBegun.chain.op = none := by
  unfold Block.opBegun
  rw [Block.raiseFixed_chain, Block.setAll_chain]
  rfl

theorem Block.opBegun_role (b : Block) : b.opBegun.chain.role = b.chain.role := by
  unfold Block.opBegun
  rw [Block.raiseFixed_chain, Block.setAll_chain]
  rfl

theorem Block.opBegun_state (b : Block) : b.opBegun.get Reg.CHN_OP_STATUS_STATE = 2 := by
  unfold Block.opBegun
  rw [Block.get_of_regs (Block.raiseFixed_regs _ _), Block.get_setAll_head _ _ _ _ (by decide) (by simp [Field.fits, Field.apart])]
  rfl

theorem Block.opBegun_keepsBut (b : Block) : b.keepsBut b.opBegun [Reg.CHN_OP_STATUS] :=
  Block.writesIn.raiseFixed (((b.keepsBut_refl [Reg.CHN_OP_STATUS]).of_regs (b.withChain_regs _)).setAll (by simp)) 7

theorem completes_op_ends {o : ChainOp} {d : Block} {cause : Nat} (hcause16 : cause < 16)
    (hd : ∀ act, s.blk.opDue o.handover act = d) (hshows : d.chain.op = none ∧ d.get Reg.CHN_OP_STATUS_STATE = 3 ∧
      d.get Reg.CHN_OP_STATUS_CAUSE = cause % 2 ^ Reg.CHN_OP_STATUS_CAUSE.width) :
    Completes (if o.handover then .handover else .snapshot) s fun b => b.chain.op = none ∧
      b.get Reg.CHN_OP_STATUS_STATE = 3 ∧ b.get Reg.CHN_OP_STATUS_CAUSE = cause := by
  have hc : exec (if o.handover then .handover else .snapshot) s = .next { s with blk := d.gated } := by
    cases hh : o.handover with
    | false =>
      rw [← hd Block.captureSnap, hh]
      rfl
    | true =>
      rw [← hd Block.handOver, hh]
      rfl
  obtain ⟨hop, hstate, hcause⟩ := hshows
  refine completes_of_next hc ?_
  rw [Block.gated_op, hop, Block.gated_get_other _ _ (by decide), Block.gated_get_other _ _ (by decide), hstate, hcause]
  exact ⟨rfl, rfl, Nat.mod_eq_of_lt hcause16⟩

end

end Sys2Proof.Machine

/-!
The snapshot, and what the seat of the Chain's master keeps while it changes (R477 to R487).
-/

namespace Sys2Proof.Machine

/-! ### The snapshot -/

/-- The bytes of a snapshot come from the clocks, the bearing, the count of snapshots and registers below the snapshot's own. -/
theorem Block.snapBytes_congr {b c : Block} (ha : c.dtm.a = b.dtm.a) (hb : c.dtm.b = b.dtm.b) (hnow : c.brg = b.brg)
    (hsnap : c.chain.snapshots = b.chain.snapshots) (hrd : ∀ off, off < 0x1C0100 → c.rd off = b.rd off) :
    c.snapBytes = b.snapBytes := by
  have hget : ∀ f : Field, f.off < 0x1C0100 → c.get f = b.get f := fun f h => Block.get_of_rd (hrd _ h)
  have hsum : (List.range 24).map (fun n => c.get (Reg.LP_TX_COUNT_COUNT n)) =
      (List.range 24).map fun n => b.get (Reg.LP_TX_COUNT_COUNT n) := by
    refine List.map_congr_left fun n hn => hget _ ?_
    have := List.mem_range.1 hn
    simp only [Reg.LP_TX_COUNT]
    omega
  unfold Block.snapBytes Block.stampNow
  rw [ha, hb, hnow, hsnap, hsum, hrd Reg.FB_HEAD (by decide), hrd Reg.TRV_STAT (by decide), hrd Reg.PT_THERM (by decide),
    hrd Reg.MAC_GASP_RX (by decide), hrd Reg.QF_DROPS (by decide), hrd Reg.TRV_REPL_SEQ (by decide), hget Reg.CHN_SYNC_SEQ_SEQ (by decide)]

/-- The block with one more snapshot counted. -/
def Block.snapCounted (b : Block) : Block := b.withChain { b.chain with snapshots := (b.chain.snapshots + 1) % 2 ^ 15 }

/-- Word `i` of the snapshot the block would take. -/
def Block.snapWord (b : Block) (i : Nat) : Word := BitVec.ofNat 32 (leAt b.snapBytes (4 * i) 4)

theorem Block.captureSnap_eq (b : Block) : b.captureSnap = b.snapCounted.wrRow Reg.CHN_SNAP_DATA b.snapCounted.snapWord 16 := rfl

/-- What writing a row of registers leaves besides them. -/
theorem Block.wrRow_rest (b : Block) (reg : Nat → Nat) (v : Nat → Word) (n : Nat) :
    (b.wrRow reg v n).dtm = b.dtm ∧ (b.wrRow reg v n).brg = b.brg ∧ (b.wrRow reg v n).chain = b.chain := by
  induction n with
  | zero => exact ⟨rfl, rfl, rfl⟩
  | succ n ih => rwa [Block.wrRow_succ, Block.wr_dtm, Block.wr_brg, Block.wr_chain]

theorem Block.gated_times (b : Block) : b.gated.dtm.a = b.dtm.a ∧ b.gated.dtm.b = b.dtm.b := by
  have line : (if b.dev = .service then b else b.releaseLine).dtm = b.dtm := by split <;> rfl
  have rings : ∀ c : Block, (if c.dev.joins then c else c.shortRings).dtm = c.dtm := fun c => by split <;> rfl
  unfold Block.gated
  dsimp only
  generalize (if b.dev = .service then b else b.releaseLine) = c at line ⊢
  have hr := rings c
  generalize (if c.dev.joins then c else c.shortRings) = e at hr ⊢
  rw [← line, ← hr]
  split
  · unfold Block.muteOutputs
    rw [Block.set_dtm]
    exact ⟨rfl, rfl⟩
  · exact ⟨rfl, rfl⟩

theorem Block.gated_snapshots (b : Block) : b.gated.chain.snapshots = b.chain.snapshots := by rw [b.gated_chain]

theorem completes_snapshot {s : State} {o : ChainOp} (ho : s.blk.chain.op = some o) (hat : o.bearing = s.blk.brg.now)
    (hstate : s.blk.brg.state ≠ .holdover) (hv : o.verdict = .commit) (hh : o.handover = false) :
    Completes .snapshot s fun b => b.chain.op = none ∧ b.get Reg.CHN_OP_STATUS_STATE = 2 ∧
      (∀ i, i < 16 → b.rd (Reg.CHN_SNAP_DATA i) = BitVec.ofNat 32 (leAt b.snapBytes (4 * i) 4)) ∧
      s.blk.keepsBut b (Reg.CHN_OP_STATUS :: Reg.SP_STAT 1 :: (List.range 16).map Reg.CHN_SNAP_DATA) := by
  have heq : s.blk.opDue false Block.captureSnap = s.blk.opBegun.captureSnap := by
    rw [← hh, Block.opDue_eq ho hat, if_neg hstate, if_pos hv]
  refine completes_of_next (b := s.blk.opDue false Block.captureSnap) rfl ?_
  rw [heq, Block.captureSnap_eq]
  generalize hc : s.blk.opBegun.snapCounted = c
  have hregs : c.regs = s.blk.opBegun.regs := by rw [← hc]; exact Block.withChain_regs _ _
  have hop : c.chain.op = none := by rw [← hc]; exact s.blk.opBegun_op
  obtain ⟨hdtm, hbrg, hchain⟩ := c.wrRow_rest Reg.CHN_SNAP_DATA c.snapWord 16
  have hrow : c.keepsBut (c.wrRow Reg.CHN_SNAP_DATA c.snapWord 16) ((List.range 16).map Reg.CHN_SNAP_DATA) :=
    (c.keepsBut_refl _).wrRow _ _ _ fun i hi => List.mem_map_of_mem (List.mem_range.2 hi)
  have hnot : ∀ off, off < 0x1C0100 → off ∉ (List.range 16).map Reg.CHN_SNAP_DATA := fun off hoff hmem => by
    obtain ⟨i, -, hi⟩ := List.mem_map.1 hmem
    simp only [Reg.CHN_SNAP_DATA] at hi
    omega
  have hbytes : (c.wrRow Reg.CHN_SNAP_DATA c.snapWord 16).gated.snapBytes = c.snapBytes := by
    obtain ⟨ha, hb⟩ := (c.wrRow Reg.CHN_SNAP_DATA c.snapWord 16).gated_times
    refine Block.snapBytes_congr (by rw [ha, hdtm]) (by rw [hb, hdtm]) (by rw [Block.gated_brg, hbrg])
      (by rw [Block.gated_snapshots, hchain]) fun off hoff => ?_
    rw [Block.gated_rd_other _ _ (by simp only [Reg.SP_STAT]; omega), hrow _ (hnot off hoff)]
  refine ⟨?_, ?_, fun i hi => ?_, ?_⟩
  · rw [Block.gated_op, hchain, hop]
  · rw [Block.gated_get_other _ _ (by decide), hrow.get (hnot _ (by decide)), Block.get_of_regs hregs, Block.opBegun_state]
  · rw [hbytes, Block.gated_rd_other _ _ (by simp only [Reg.SP_STAT, Reg.CHN_SNAP_DATA]; omega),
      Block.wrRow_rd _ _ _ (fun i j h => by simp only [Reg.CHN_SNAP_DATA] at h; omega) hi]
    rfl
  · have h1 : s.blk.keepsBut c (Reg.CHN_OP_STATUS :: Reg.SP_STAT 1 :: (List.range 16).map Reg.CHN_SNAP_DATA) :=
      (s.blk.opBegun_keepsBut.mono (by simp)).of_regs hregs
    exact (h1.trans (hrow.mono (by intro x hx; exact .tail _ (.tail _ hx)))).gated (by simp)

end Sys2Proof.Machine

/-!
The seat of the Chain: its role, the frames it holds and the fields that tell a change of master, and the operations that leave
them alone (R477 to R482, R485).
-/

namespace Sys2Proof.Machine

/-- The fields that tell a change of the master's place. -/
def seatFields : List Field := [Reg.TRV_PART_ROLE, Reg.CHN_ROSTER_MEPOCH, Reg.DTM_STAT_FOLLOW 0, Reg.CHN_TAKEOVERS_COUNT,
  Reg.CHN_STAT_YIELDED]

/-- A field whose writing leaves the seat alone. -/
def seatFree (f : Field) : Prop := f.fits ∧ ∀ g ∈ seatFields, f.apart g

theorem seatFree_of_off {f : Field} (hf : f.fits)
    (h : f.off ≠ 0xE00A0 ∧ f.off ≠ 0x1C0008 ∧ f.off ≠ 0x50004 ∧ f.off ≠ 0x1C0018 ∧ f.off ≠ 0x1C0004) : seatFree f := by
  obtain ⟨h1, h2, h3, h4, h5⟩ := h
  refine ⟨hf, fun g hg => .inl ?_⟩
  simp only [seatFields, List.mem_cons, List.not_mem_nil, or_false] at hg
  rcases hg with rfl | rfl | rfl | rfl | rfl
  · exact h1
  · exact h2
  · exact h3
  · exact h4
  · exact h5

theorem off_le_of_seatField {g : Field} (hg : g ∈ seatFields) : 0x50004 ≤ g.off ∧ g.off ≤ 0x1C0018 := by
  simp only [seatFields, List.mem_cons, List.not_mem_nil, or_false] at hg
  rcases hg with rfl | rfl | rfl | rfl | rfl <;> decide

/-- Role, held frames and fields of the seat stay. -/
structure Block.keepsSeat (b c : Block) : Prop where
  role : c.chain.role = b.chain.role
  held : c.chain.held = b.chain.held
  fields : ∀ f ∈ seatFields, c.get f = b.get f

theorem Block.keepsSeat_refl (b : Block) : b.keepsSeat b := ⟨rfl, rfl, fun _ _ => rfl⟩

namespace Block.keepsSeat
variable {b c d : Block}

theorem trans (h : b.keepsSeat c) (h' : c.keepsSeat d) : b.keepsSeat d :=
  ⟨h'.role.trans h.role, h'.held.trans h.held, fun f hf => (h'.fields f hf).trans (h.fields f hf)⟩

theorem of_eq (hchain : c.chain = b.chain) (hregs : c.regs = b.regs) : b.keepsSeat c :=
  ⟨by rw [hchain], by rw [hchain], fun f _ => Block.get_of_regs hregs f⟩

theorem foldl {α : Type} (f : Block → α → Block) (l : List α) (b : Block) (hf : ∀ (d : Block) (x : α), d.keepsSeat (f d x)) :
    b.keepsSeat (l.foldl f b) := by
  induction l generalizing b with
  | nil => exact b.keepsSeat_refl
  | cons x l ih => exact (hf b x).trans (ih _)

theorem foldlMem {α : Type} (f : Block → α → Block) (l : List α) (b : Block) (hf : ∀ x ∈ l, ∀ d : Block, d.keepsSeat (f d x)) :
    b.keepsSeat (l.foldl f b) := by
  induction l generalizing b with
  | nil => exact b.keepsSeat_refl
  | cons x l ih => exact (hf x (.head _) b).trans (ih _ fun y hy => hf y (.tail _ hy))

theorem ite {p : Prop} [Decidable p] (h : b.keepsSeat c) (h' : b.keepsSeat d) : b.keepsSeat (if p then c else d) := by
  split
  · exact h
  · exact h'

end Block.keepsSeat

theorem Block.onRing.keepsSeat {b c : Block} (h : b.onRing c) : b.keepsSeat c := ⟨h.role, h.held, fun f _ => h.get f⟩

theorem Block.byFabric.keepsSeat {b c : Block} (h : b.byFabric c) : b.keepsSeat c := by
  have hchain : c.chain = b.chain := show c.core.chain = b.core.chain by rw [h.core]
  refine ⟨by rw [hchain], by rw [hchain], fun f hf => h.regs.get ?_⟩
  obtain ⟨hlo, hhi⟩ := off_le_of_seatField hf
  have hnot : f.off ∉ recordRegs := notMem_recordRegs (by omega)
  have hq : f.off ≠ Reg.QF_DROPS ∧ f.off ≠ Reg.QF_REVOKES := by revert f; decide
  rintro (h1 | h1 | h1 | h1)
  · omega
  · exact hq.1 h1
  · exact hq.2 h1
  · exact hnot h1

section
variable (b : Block)

/-! ### Writes -/

theorem Block.keepsSeat_set (f : Field) (v : Nat) (hf : seatFree f) : b.keepsSeat (b.set f v) :=
  ⟨by rw [Block.set_chain], by rw [Block.set_chain], fun g hg => Block.get_set_apart _ _ _ _ hf.1 (hf.2 g hg)⟩

theorem Block.keepsSeat_setOn (f : Field) (on : Bool) (hf : seatFree f) : b.keepsSeat (b.setOn f on) := b.keepsSeat_set _ _ hf

theorem Block.keepsSeat_setBit (f : Field) (i : Nat) (on : Bool) (hf : seatFree f) : b.keepsSeat (b.setBit f i on) :=
  b.keepsSeat_set _ _ hf

theorem Block.keepsSeat_inc (f : Field) (hf : seatFree f) : b.keepsSeat (b.inc f) := b.keepsSeat_set _ _ hf

theorem Block.keepsSeat_add (f : Field) (n : Nat) (hf : seatFree f) : b.keepsSeat (b.add f n) := b.keepsSeat_set _ _ hf

theorem Block.keepsSeat_setAll (fs : List (Field × Nat)) (hf : ∀ p ∈ fs, seatFree p.1) : b.keepsSeat (b.setAll fs) :=
  Block.keepsSeat.foldlMem _ fs b fun p hp d => d.keepsSeat_set _ _ (hf p hp)

theorem Block.keepsSeat_post (code sev src : Nat) (args : List (Nat × Nat)) : b.keepsSeat (b.post code sev src args) :=
  (b.byFabric_refl.post _ _ _ _).keepsSeat

theorem Block.keepsSeat_raise (fn v : Nat) : b.keepsSeat (b.raise fn v) := .of_eq (Block.raise_chain _ _ _) (Block.raise_regs _ _ _)

theorem Block.keepsSeat_raiseFixed (v : Nat) : b.keepsSeat (b.raiseFixed v) :=
  .of_eq (Block.raiseFixed_chain _ _) (Block.raiseFixed_regs _ _)

theorem Block.keepsSeat_withMac (m : MacSt) : b.keepsSeat { b with mac := m } := .of_eq rfl rfl

theorem Block.keepsSeat_withTrv (m : TrvSt) : b.keepsSeat { b with trv := m } := .of_eq rfl rfl

theorem Block.keepsSeat_withCx (m : CipherSt) : b.keepsSeat { b with cx := m } := .of_eq rfl rfl

theorem Block.keepsSeat_withBrg (m : BearingSt) : b.keepsSeat { b with brg := m } := .of_eq rfl rfl

theorem Block.keepsSeat_withSound (m : SoundSt) : b.keepsSeat { b with sound := m } := .of_eq rfl rfl

theorem Block.keepsSeat_withChain (x : ChainSt) (hrole : x.role = b.chain.role) (hheld : x.held = b.chain.held) :
    b.keepsSeat (b.withChain x) := ⟨hrole, hheld, fun _ _ => rfl⟩

theorem Block.keepsSeat_setPort (n : Nat) (p : PortSt) : b.keepsSeat (b.setPort n p) := .of_eq rfl rfl

theorem Block.keepsSeat_chnDone (status : Nat) : b.keepsSeat (b.chnDone status) :=
  (b.keepsSeat_setAll _ (by
    intro p hp
    simp only [List.mem_cons, List.not_mem_nil, or_false] at hp
    rcases hp with rfl | rfl <;> exact seatFree_of_off (by simp [Field.fits]) (by simp))).trans
    (Block.keepsSeat_raiseFixed _ _)

/-! ### Replication and the node table -/

theorem Block.keepsSeat_sendPiece (what piece index : Nat) (bytes : List Byte) : b.keepsSeat (b.sendPiece what piece index bytes) := by
  unfold Block.sendPiece
  split
  · exact (b.keepsSeat_inc Reg.TRV_REPL_SEQ_RSEQ (seatFree_of_off (by decide) (by decide))).trans (Block.onRing_sendCell _ _ _ _ _).keepsSeat
  · exact b.keepsSeat_refl

theorem Block.keepsSeat_replicate (what index : Nat) (old new : List Byte) : b.keepsSeat (b.replicate what index old new) := by
  unfold Block.replicate
  split
  · exact b.keepsSeat_refl
  · exact .foldl _ _ _ fun d i => d.keepsSeat_refl.ite (d.keepsSeat_sendPiece _ _ _ _)

theorem Block.keepsSeat_refreshCounts : b.keepsSeat b.refreshCounts := by
  unfold Block.refreshCounts
  extract_lets live c
  have hc : b.keepsSeat c := by
    refine b.keepsSeat_setAll _ fun p hp => ?_
    simp only [List.mem_cons, List.not_mem_nil, or_false] at hp
    rcases hp with rfl | rfl | rfl <;>
      exact seatFree_of_off (by simp [Field.fits]) (by simp)
  clear_value c live
  refine hc.trans (.foldlMem _ _ _ fun t ht d => d.keepsSeat_setAll _ fun p hp => ?_)
  have ht8 := List.mem_range.1 ht
  simp only [List.mem_cons, List.not_mem_nil, or_false] at hp
  rcases hp with rfl | rfl | rfl | rfl <;>
    exact seatFree_of_off (by simp [Field.fits]) (by simp only [Reg.TRV_PH_A, Reg.TRV_PH_B]; omega)

theorem Block.keepsSeat_setNode (x : Nat) (n : Node) : b.keepsSeat (b.setNode x n) := by
  unfold Block.setNode
  exact ((b.keepsSeat_withTrv _).trans (Block.keepsSeat_replicate _ _ _ _ _)).trans (Block.keepsSeat_refreshCounts _)

theorem Block.keepsSeat_modNode (x : Nat) (f : Node → Node) : b.keepsSeat (b.modNode x f) := b.keepsSeat_setNode _ _

theorem Block.keepsSeat_setExt (x : Nat) (e : NodeExt) : b.keepsSeat (b.setExt x e) := by
  unfold Block.setExt
  exact ((b.keepsSeat_withTrv _).trans (Block.keepsSeat_replicate _ _ _ _ _)).ite (b.keepsSeat_withTrv _)

theorem Block.keepsSeat_adoptNode (x : Nat) : b.keepsSeat (b.adoptNode x) := by
  unfold Block.adoptNode
  extract_lets n e c d
  have hc : b.keepsSeat c := b.keepsSeat_setExt _ _
  have hd : b.keepsSeat d := hc.ite (hc.trans (Block.keepsSeat_modNode _ _ _))
  clear_value n e c d
  exact (hd.trans (Block.keepsSeat_withTrv _ _)).ite hd

/-! ### Contexts -/

theorem seatFree_page {f : Field} {page : Nat} (k : Nat) (hf : f.fits) (hoff : f.off = Reg.cxPage page + k) (hk : k < 0x100) : seatFree f := by
  have h : 0x180000 ≤ f.off ∧ f.off < 0x199000 := by
    rw [hoff]
    unfold Reg.cxPage
    split <;> omega
  exact seatFree_of_off hf (by omega)

theorem Block.keepsSeat_refreshPage (page : Nat) : b.keepsSeat (b.refreshPage page) := by
  have hdue : ∀ (c : Block) (v w : Nat), c.keepsSeat (c.setAll [(Reg.CX_DUE_CTX_CTX page, v), (Reg.CX_DUE_CTX_VALID page, w)]) :=
    fun c v w => c.keepsSeat_setAll _ fun p hp => by
      simp only [List.mem_cons, List.not_mem_nil, or_false] at hp
      rcases hp with rfl | rfl <;> exact seatFree_page 0xC (by simp [Field.fits]) rfl (by decide)
  have hopen : ∀ v, b.keepsSeat (b.set (Reg.CX_PAGE_STAT_OPEN page) v) :=
    fun v => b.keepsSeat_set _ _ (seatFree_page 0x4 (by simp [Field.fits]) rfl (by decide))
  unfold Block.refreshPage
  dsimp only
  split
  · exact (hopen _).trans (hdue _ _ _)
  · exact (hopen _).trans (hdue _ _ _)

theorem Block.keepsSeat_setCtx (page n : Nat) (x : Ctx) : b.keepsSeat (b.setCtx page n x) := by
  have h : ∀ ctxs, b.keepsSeat (Block.refreshPage { b with cx := { b.cx with ctxs := ctxs } } page) :=
    fun ctxs => (b.keepsSeat_withCx _).trans (Block.keepsSeat_refreshPage _ _)
  unfold Block.setCtx
  exact ((h _).trans (Block.keepsSeat_replicate _ _ _ _ _)).ite (h _)

theorem Block.keepsSeat_rekeyCtx (page n : Nat) : b.keepsSeat (b.rekeyCtx page n).1 := by
  unfold Block.rekeyCtx
  dsimp only
  split
  · exact ((b.keepsSeat_setCtx _ _ _).trans (Block.keepsSeat_set _ _ _ (seatFree_page 0x4 (by simp [Field.fits]) rfl (by decide)))).trans
      (Block.keepsSeat_post _ _ _ _ _)
  · exact b.keepsSeat_setCtx _ _ _

theorem Block.keepsSeat_becomeDue (page n : Nat) : b.keepsSeat (b.becomeDue page n) := by
  unfold Block.becomeDue
  extract_lets c d e f r
  have hd : b.keepsSeat d := (b.keepsSeat_setCtx _ _ _).trans
    (Block.keepsSeat_set _ _ _ (seatFree_page 0x4 (by simp [Field.fits]) rfl (by decide)))
  have he : b.keepsSeat e := hd.trans (Block.keepsSeat_post _ _ _ _ _)
  have hf : b.keepsSeat f := (he.trans (Block.keepsSeat_raise _ _ _)).ite he
  have hr : b.keepsSeat r.1 := hf.trans (Block.keepsSeat_rekeyCtx _ _ _)
  clear_value d e f r
  exact (hr.ite (hr.trans (Block.keepsSeat_post _ _ _ _ _))).ite hf

theorem Block.keepsSeat_setNext (page n v : Nat) : b.keepsSeat (b.setNext page n v) := by
  unfold Block.setNext
  exact ((b.keepsSeat_setCtx _ _ _).trans (Block.keepsSeat_becomeDue _ _ _)).ite (b.keepsSeat_setCtx _ _ _)

theorem Block.keepsSeat_advanceCounters : b.keepsSeat b.advanceCounters :=
  .foldl _ _ _ fun d _ => (d.keepsSeat_setNext _ _ _).ite d.keepsSeat_refl

/-! ### Ports and their frames -/

theorem seatFree_status (n lo width : Nat) (h : lo + width ≤ 10 ∨ 11 ≤ lo) (hw : lo + width ≤ 32) :
    seatFree ⟨Reg.LP_STATUS n, lo, width⟩ := by
  refine ⟨by simpa [Field.fits] using hw, fun g hg => ?_⟩
  simp only [seatFields, List.mem_cons, List.not_mem_nil, or_false] at hg
  rcases hg with rfl | rfl | rfl | rfl | rfl
  · exact .inl (by simp only [Reg.LP_STATUS, Reg.TRV_PART]; omega)
  · exact .inl (by simp only [Reg.LP_STATUS, Reg.CHN_ROSTER]; omega)
  · exact .inl (by simp only [Reg.LP_STATUS, Reg.DTM_STAT]; omega)
  · exact .inl (by simp only [Reg.LP_STATUS, Reg.CHN_TAKEOVERS]; omega)
  · rcases h with h | h
    · exact .inr (.inl h)
    · exact .inr (.inr h)

theorem Block.keepsSeat_refreshPort (n : Nat) : b.keepsSeat (b.refreshPort n) :=
  (b.keepsSeat_set _ _ (seatFree_status n 0 3 (by decide) (by decide))).trans
    (Block.keepsSeat_set _ _ _ (seatFree_status n 3 4 (by decide) (by decide)))

theorem Block.keepsSeat_refreshPorts : b.keepsSeat b.refreshPorts := .foldl _ _ _ fun d n => d.keepsSeat_refreshPort n

theorem Block.keepsSeat_openSwitches (n : Nat) : b.keepsSeat (b.openSwitches n) :=
  (b.keepsSeat_setPort _ _).trans (Block.keepsSeat_set _ _ _ (seatFree_status n 14 1 (by decide) (by decide)))

theorem Block.keepsSeat_endPort (n : Nat) : b.keepsSeat (b.endPort n) := b.keepsSeat_setPort _ _

theorem Block.keepsSeat_logTx (ports : List Nat) (bands : Nat) (start : Bearing) : b.keepsSeat (b.logTx ports bands start) :=
  .foldl _ _ _ fun d _ => d.keepsSeat_withBrg _

theorem seatFree_cut (n : Nat) : seatFree (Reg.LP_TX_CUT_COUNT n) :=
  seatFree_of_off (by simp [Field.fits]) (by simp only [Reg.LP_TX_CUT]; omega)

theorem Block.keepsSeat_cutDrivesOf (n cause : Nat) : b.keepsSeat (b.cutDrivesOf n cause) := by
  unfold Block.cutDrivesOf
  refine Block.keepsSeat.trans (c := b.withChain { b.chain with
    drives := b.chain.drives.filter fun d => d.port != n
    refused := b.chain.refused ++ (b.chain.drives.filter fun d => d.port == n).map fun d => (n, d.slot) })
    (b.keepsSeat_withChain _ rfl rfl) (.foldl _ _ _ fun d x => ?_)
  exact ((d.keepsSeat_logTx _ _ _).trans (Block.keepsSeat_inc _ _ (seatFree_cut n))).trans (Block.keepsSeat_post _ _ _ _ _)

theorem Block.keepsSeat_reportPred : b.keepsSeat b.reportPred := by
  have hport : ∀ n, n < 24 → seatFree (Reg.LP_THERM_PRED n) := fun n hn =>
    seatFree_of_off (by simp [Field.fits]) (by simp only [Reg.LP_THERM]; omega)
  have hbank : ∀ k, k < 4 → seatFree (Reg.LP_BANK_PRED_PRED k) := fun k hk =>
    seatFree_of_off (by simp [Field.fits]) (by simp only [Reg.LP_BANK_PRED]; omega)
  unfold Block.reportPred
  exact ((Block.keepsSeat.foldlMem _ _ b fun n hn d => d.keepsSeat_set _ _ (hport n (List.mem_range.1 hn))).trans
    (.foldlMem _ _ _ fun k hk d => d.keepsSeat_set _ _ (hbank k (List.mem_range.1 hk)))).trans
    (Block.keepsSeat_set _ _ _ (seatFree_of_off (by decide) (by decide)))

theorem Block.keepsSeat_recharge (bank : Nat) : b.keepsSeat (b.recharge bank) := ⟨rfl, rfl, fun _ _ => rfl⟩

theorem Block.keepsSeat_refreshCharges (bank : Nat) : b.keepsSeat (b.refreshCharges bank) :=
  (b.keepsSeat_recharge bank).trans (Block.keepsSeat_reportPred _)

theorem Block.keepsSeat_cutDrives : b.keepsSeat b.cutDrives :=
  .foldl _ _ _ fun d _ => (((d.keepsSeat_cutDrivesOf _ _).trans (Block.keepsSeat_endPort _ _)).trans
    (Block.keepsSeat_openSwitches _ _)).trans (Block.keepsSeat_refreshCharges _ _)

theorem Block.keepsSeat_cutPort (n cause : Nat) : b.keepsSeat (b.cutPort n cause) := by
  unfold Block.cutPort
  extract_lets cut ports txs m c d e f
  have hc : b.keepsSeat c := b.keepsSeat_withMac _
  have hd : b.keepsSeat d := hc.trans (.foldl _ _ _ fun x _ =>
    (((x.keepsSeat_logTx _ _ _).ite x.keepsSeat_refl)).trans (.foldl _ _ _ fun y _ =>
      (y.keepsSeat_inc _ (seatFree_cut _)).trans (Block.keepsSeat_post _ _ _ _ _)))
  have he : b.keepsSeat e := hd.trans (Block.keepsSeat_cutDrivesOf _ _ _)
  have hf : b.keepsSeat f := he.trans (.foldl _ _ _ fun x _ =>
    ((x.keepsSeat_endPort _).trans (Block.keepsSeat_openSwitches _ _)).ite x.keepsSeat_refl)
  clear_value c d e f
  exact hf.trans (.foldl _ _ _ fun x _ => x.keepsSeat_refreshCharges _)

theorem Block.keepsSeat_standPairedBy : b.keepsSeat b.standPairedBy :=
  (Block.keepsSeat.foldl _ _ b fun d _ => d.keepsSeat_cutPort _ _).trans (Block.keepsSeat_refreshPorts _)

theorem Block.keepsSeat_refreshPortCal (n : Nat) : b.keepsSeat (b.refreshPortCal n) := by
  unfold Block.refreshPortCal
  extract_lets done was c
  have hc : b.keepsSeat c := b.keepsSeat_setBit _ _ _ (seatFree_of_off (by decide) (by decide))
  clear_value c done was
  exact (hc.trans (Block.keepsSeat_post _ _ _ _ _)).ite hc

theorem Block.keepsSeat_restartPort (n : Nat) : b.keepsSeat (b.restartPort n) := by
  unfold Block.restartPort
  exact ((b.keepsSeat_withSound _).trans (Block.keepsSeat_set _ _ _ (seatFree_of_off (by decide) (by decide)))).trans (Block.keepsSeat_refreshPortCal _ _)

end

end Sys2Proof.Machine

/-!
Takeover and handover of the Chain (R477 to R482, R485), and the global operations settled.
-/

namespace Sys2Proof.Machine

section
variable (b : Block)

/-! ### The replica and what the Chain shows -/

theorem Block.keepsSeat_initialCopy : b.keepsSeat b.initialCopy := by
  unfold Block.initialCopy
  extract_lets b1 b2 b3 b4 b5 b6 b7 notch b8
  have h1 : b.keepsSeat b1 := .foldl _ _ _ fun d _ => d.keepsSeat_replicate _ _ _ _
  have h2 : b.keepsSeat b2 := h1.trans (.foldl _ _ _ fun d _ => d.keepsSeat_replicate _ _ _ _)
  have h3 : b.keepsSeat b3 := h2.trans (.foldl _ _ _ fun d _ => d.keepsSeat_replicate _ _ _ _)
  have h4 : b.keepsSeat b4 := h3.trans (.foldl _ _ _ fun d _ => d.keepsSeat_replicate _ _ _ _)
  have h5 : b.keepsSeat b5 := h4.trans (.foldl _ _ _ fun d _ => .foldl _ _ _ fun e _ => e.keepsSeat_replicate _ _ _ _)
  have h6 : b.keepsSeat b6 := h5.trans (.foldl _ _ _ fun d _ => .foldl _ _ _ fun e _ => e.keepsSeat_replicate _ _ _ _)
  have h7 : b.keepsSeat b7 := h6.trans (.foldl _ _ _ fun d _ => d.keepsSeat_sendPiece _ _ _ _)
  have h8 : b.keepsSeat b8 := h7.trans (.foldl _ _ _ fun d t => by
    extract_lets e m f
    split
    · exact ((d.keepsSeat_replicate _ _ _ _).trans (Block.keepsSeat_replicate _ _ _ _ _)).trans (Block.keepsSeat_replicate _ _ _ _ _)
    · exact (d.keepsSeat_replicate _ _ _ _).trans (Block.keepsSeat_replicate _ _ _ _ _))
  clear_value b8
  exact h8.trans (b8.keepsSeat_sendPiece _ _ _ _)

theorem Block.keepsSeat_emptyReplica : b.keepsSeat b.emptyReplica := by
  unfold Block.emptyReplica
  extract_lets x ch c
  have hc : b.keepsSeat c := ⟨rfl, rfl, fun _ _ => rfl⟩
  clear_value x ch c
  exact (hc.trans (Block.keepsSeat_refreshPage _ _)).trans (Block.keepsSeat_refreshCounts _)

theorem Block.keepsSeat_refreshLinked : b.keepsSeat b.refreshLinked := by
  unfold Block.refreshLinked
  extract_lets up c
  have hc : b.keepsSeat c := b.keepsSeat_setOn _ _ (seatFree_of_off (by decide) (by decide))
  clear_value c
  have hcopy : c.keepsSeat { c with chain := { c.chain with copyDone := false } } := ⟨rfl, rfl, fun _ _ => rfl⟩
  exact b.keepsSeat_refl.ite (hc.trans (hcopy.ite (c.keepsSeat_initialCopy.ite c.keepsSeat_emptyReplica)))

theorem Block.keepsSeat_refreshRemote : b.keepsSeat b.refreshRemote :=
  .foldl _ _ _ fun d _ => d.keepsSeat_refl.ite
    ((d.keepsSeat_setBit _ _ _ (seatFree_of_off (by decide) (by decide))).trans (Block.keepsSeat_post _ _ _ _ _))

theorem Block.keepsSeat_refreshChain : b.keepsSeat b.refreshChain := by
  unfold Block.refreshChain
  refine (b.keepsSeat_refreshLinked.trans (Block.keepsSeat_setAll _ _ fun p hp => ?_)).trans (Block.keepsSeat_refreshRemote _)
  simp only [List.mem_cons, List.not_mem_nil, or_false] at hp
  rcases hp with rfl | rfl
  · exact (show seatFree Reg.CHN_STAT_STATE from ⟨by decide, by decide⟩)
  · exact (show seatFree Reg.CHN_STAT_READY from ⟨by decide, by decide⟩)

/-! ### The steps of a takeover -/

theorem Block.keepsSeat_setBrg (st : BrgState) : b.keepsSeat (b.setBrg st) :=
  (b.keepsSeat_withBrg _).trans (Block.keepsSeat_set _ _ _ (seatFree_of_off (by decide) (by decide)))

theorem Block.keepsSeat_enterRelock (n run : Nat) : b.keepsSeat (b.enterRelock n run) :=
  (b.keepsSeat_setBrg _).trans (Block.keepsSeat_withBrg _ _)

theorem Block.keepsSeat_takeRoster (present ready : Nat) : b.keepsSeat (b.takeRoster present ready) := by
  refine b.keepsSeat_setAll _ fun p hp => ?_
  simp only [List.mem_cons, List.not_mem_nil, or_false] at hp
  rcases hp with rfl | rfl | rfl
  · exact (show seatFree Reg.CHN_ROSTER_PRESENT from ⟨by decide, by decide⟩)
  · exact (show seatFree Reg.CHN_ROSTER_READY from ⟨by decide, by decide⟩)
  · exact (show seatFree Reg.CHN_ID_N from ⟨by decide, by decide⟩)

theorem Block.keepsSeat_sendSync : b.keepsSeat b.sendSync :=
  b.keepsSeat_refl.ite (((b.keepsSeat_set _ _ (show seatFree Reg.CHN_ROSTER_PRESENT from ⟨by decide, by decide⟩)).trans
    (Block.keepsSeat_set _ _ _ (seatFree_of_off (by decide) (by decide)))).trans (Block.onRing_sendCell _ _ _ _ _).keepsSeat)

theorem Block.keepsSeat_keepAcks : b.keepsSeat b.keepAcks := ⟨rfl, rfl, fun _ _ => rfl⟩

theorem Block.keepsSeat_discover {t : Nat} (ht : t < 8) : b.keepsSeat (b.discover t) :=
  (b.keepsSeat_withMac _).trans (Block.keepsSeat_set _ _ _
    (seatFree_of_off (by simp [Field.fits]) (by simp only [Reg.MAC_TRIAD]; omega)))

theorem Block.keepsSeat_swapAbort (cause : Nat) : b.keepsSeat (b.swapAbort cause) := by
  unfold Block.swapAbort
  split
  · exact b.keepsSeat_refl
  · extract_lets x c d
    have hc : b.keepsSeat c := .of_eq rfl rfl
    clear_value x c
    have hd : b.keepsSeat d := hc.trans (c.keepsSeat_setAll _ fun p hp => by
      simp only [List.mem_cons, List.not_mem_nil, or_false] at hp
      rcases hp with rfl | rfl | rfl <;> exact seatFree_of_off (by simp [Field.fits]) (by simp))
    clear_value d
    exact (hd.trans (d.keepsSeat_raiseFixed _)).trans (Block.keepsSeat_post _ _ _ _ _)

theorem Block.keepsSeat_abortSwapAll (cause : Nat) : b.keepsSeat (b.abortSwapAll cause) := by
  unfold Block.abortSwapAll
  split
  · exact ((Block.onRing_sendVerdict _ _ _ _ _).keepsSeat.ite b.keepsSeat_refl).trans (Block.keepsSeat_swapAbort _ _)
  · exact b.keepsSeat_refl

theorem Block.keepsSeat_opAbort (cause : Nat) : b.keepsSeat (b.opAbort cause) := by
  unfold Block.opAbort
  split
  · exact b.keepsSeat_refl
  · extract_lets x c
    have hc : b.keepsSeat c := ⟨rfl, rfl, fun _ _ => rfl⟩
    clear_value x c
    refine (hc.trans (c.keepsSeat_setAll _ fun p hp => ?_)).trans (Block.keepsSeat_raiseFixed _ _)
    simp only [List.mem_cons, List.not_mem_nil, or_false] at hp
    rcases hp with rfl | rfl <;> exact seatFree_of_off (by simp [Field.fits]) (by simp)

theorem Block.keepsSeat_abortOpAll (cause : Nat) : b.keepsSeat (b.abortOpAll cause) := by
  unfold Block.abortOpAll
  split
  · exact ((Block.onRing_sendVerdict _ _ _ _ _).keepsSeat.ite b.keepsSeat_refl).trans (Block.keepsSeat_opAbort _ _)
  · exact b.keepsSeat_refl

theorem lt_of_mem_pairedPorts {b : Block} {n : Nat} (h : n ∈ b.pairedPorts) : n < 24 :=
  List.mem_range.1 (List.mem_filter.1 h).1

theorem Block.keepsSeat_receiveStamp (port orig pseq : Nat) (sync : Bearing) (stampA stampB : Nat) :
    b.keepsSeat (b.receiveStamp port orig pseq sync stampA stampB) := by
  unfold Block.receiveStamp
  exact (b.byFabric_refl.produce _ _).keepsSeat.ite b.keepsSeat_refl

/-- The held frames are released: none is left, and the rest of the seat stays. -/
theorem Block.releaseShadow_seat : b.releaseShadow.chain.role = b.chain.role ∧ b.releaseShadow.chain.held = [] ∧
    ∀ f ∈ seatFields, b.releaseShadow.get f = b.get f := by
  unfold Block.releaseShadow
  extract_lets held ch c d
  have hc : c.chain.role = b.chain.role ∧ c.chain.held = [] ∧ ∀ f, c.get f = b.get f := ⟨rfl, rfl, fun _ => rfl⟩
  have hd : c.keepsSeat d := .foldl _ _ _ fun x h =>
    ((x.byFabric_refl.produce _ _).keepsSeat).trans (Block.keepsSeat_receiveStamp _ _ _ _ _ _ _)
  clear_value ch c d held
  obtain ⟨hrole, hheld, hget⟩ := hc
  have h := hd.trans (d.keepsSeat_add Reg.CHN_SHADOW_REL_COUNT held.length (seatFree_of_off (by decide) (by decide)))
  exact ⟨h.role.trans hrole, h.held.trans hheld, fun f hf => (h.fields f hf).trans (hget f)⟩

/-! ### The takeover -/

/-- The seat as the new master's: role and fields, beside the count of takeovers. -/
structure Block.newMaster (b : Block) (mepoch : Nat) (c : Block) : Prop where
  role : c.chain.role = .master
  mepoch : c.get Reg.CHN_ROSTER_MEPOCH = mepoch
  follow : c.get (Reg.DTM_STAT_FOLLOW 0) = 0
  takeovers : c.get Reg.CHN_TAKEOVERS_COUNT = b.get Reg.CHN_TAKEOVERS_COUNT

end

theorem Block.newMaster.of_seat {b c d : Block} {mepoch : Nat} (h : b.newMaster mepoch c) (hrole : d.chain.role = c.chain.role)
    (hfields : ∀ f ∈ seatFields, d.get f = c.get f) : b.newMaster mepoch d where
  role := hrole.trans h.role
  mepoch := (hfields _ (by decide)).trans h.mepoch
  follow := (hfields _ (by decide)).trans h.follow
  takeovers := (hfields _ (by decide)).trans h.takeovers

theorem Block.newMaster.keeps {b c d : Block} {mepoch : Nat} (h : b.newMaster mepoch c) (hd : c.keepsSeat d) : b.newMaster mepoch d :=
  h.of_seat hd.role hd.fields

/-- The epoch of the master that takes over. -/
def Block.nextEpoch (b : Block) : Nat := (b.get Reg.CHN_ROSTER_MEPOCH + 1) % 65536

/-- What a takeover shows (R479 to R482). -/
structure Block.tookOver (b c : Block) : Prop where
  role : c.chain.role = .master
  held : c.chain.held = []
  mepoch : c.get Reg.CHN_ROSTER_MEPOCH = b.nextEpoch
  follow : c.get (Reg.DTM_STAT_FOLLOW 0) = 0
  part : c.get Reg.TRV_PART_ROLE = 0
  takeovers : c.get Reg.CHN_TAKEOVERS_COUNT = (b.get Reg.CHN_TAKEOVERS_COUNT + 1) % 2 ^ 32

theorem Block.tookOver_takeOver (b : Block) : b.tookOver b.takeOver := by
  unfold Block.takeOver
  extract_lets former us mepoch b1 b2 ch b3 b4 b5 br b6 b7 b8 b9 b10 b11 b12 b13 b14 b15
  have h1 : b1.chain.role = .master ∧ b1.get (Reg.DTM_STAT_FOLLOW 0) = 0 ∧
      b1.get Reg.CHN_TAKEOVERS_COUNT = b.get Reg.CHN_TAKEOVERS_COUNT := by
    refine ⟨?_, ?_, ?_⟩
    · show ((b.setRole .master).followFlags false).chain.role = _
      unfold Block.followFlags Block.setRole
      rw [Block.setOn_chain, Block.setOn_chain, Block.set_chain]
    · show ((b.setRole .master).followFlags false).get _ = _
      unfold Block.followFlags Block.setOn
      rw [Block.get_set_apart _ _ _ _ (by decide) (by decide), Block.get_set_same _ _ _ (by decide)]
      rfl
    · show ((b.setRole .master).followFlags false).get _ = _
      unfold Block.followFlags Block.setOn Block.setRole
      rw [Block.get_set_apart _ _ _ _ (by decide) (by decide), Block.get_set_apart _ _ _ _ (by decide) (by decide),
        Block.get_set_apart _ _ _ _ (by decide) (by decide)]
      rfl
  have hm : mepoch = b.nextEpoch := rfl
  clear_value b1 mepoch
  obtain ⟨hrole, hfollow, htake⟩ := h1
  have h2 : b.newMaster mepoch b2 := by
    refine ⟨?_, ?_, ?_, ?_⟩
    · rw [Block.set_chain]; exact hrole
    · exact (Block.get_set_same _ _ _ (by decide)).trans (hm ▸ Nat.mod_mod _ _)
    · exact (Block.get_set_apart _ _ _ _ (by decide) (by decide)).trans hfollow
    · exact (Block.get_set_apart _ _ _ _ (by decide) (by decide)).trans htake
  clear_value b2
  have h3 : b.newMaster mepoch b3 := h2.of_seat rfl fun _ _ => rfl
  clear_value ch b3
  have h4 : b.newMaster mepoch b4 := h3.keeps (b3.keepsSeat_takeRoster _ _)
  clear_value b4
  have h5 : b.newMaster mepoch b5 := (h4.keeps (b4.keepsSeat_enterRelock _ _)).keeps (Block.keepsSeat_setAll _ _ fun p hp => by
    simp only [List.mem_cons, List.not_mem_nil, or_false] at hp
    rcases hp with rfl | rfl <;> exact seatFree_of_off (by decide) (by decide))
  clear_value b5
  have h6 : b.newMaster mepoch b6 := h5.keeps (b5.keepsSeat_withBrg _)
  clear_value br b6
  have h7 : b.newMaster mepoch b7 := h6.keeps b6.keepsSeat_sendSync
  clear_value b7
  have h8 : b.newMaster mepoch b8 := h7.keeps (.foldl _ _ _ fun d x => d.keepsSeat_adoptNode x)
  clear_value b8
  have h9 : b.newMaster mepoch b9 ∧ b9.get Reg.TRV_PART_ROLE = 0 := by
    refine ⟨⟨?_, ?_, ?_, ?_⟩, Block.get_set_same _ _ _ (by decide)⟩
    · rw [Block.set_chain]; exact h8.role
    · exact (Block.get_set_apart _ _ _ _ (by decide) (by decide)).trans h8.mepoch
    · exact (Block.get_set_apart _ _ _ _ (by decide) (by decide)).trans h8.follow
    · exact (Block.get_set_apart _ _ _ _ (by decide) (by decide)).trans h8.takeovers
  clear_value b9
  obtain ⟨h9, hpart⟩ := h9
  have h10 : b.newMaster mepoch b10 ∧ b10.get Reg.TRV_PART_ROLE = 0 ∧ b10.chain.held = [] := by
    have ha := b9.keepsSeat_advanceCounters
    obtain ⟨hrrole, hrheld, hrfields⟩ := b9.advanceCounters.releaseShadow_seat
    have hc := (b9.advanceCounters.releaseShadow.keepsSeat_keepAcks).trans (Block.keepsSeat_cutDrives _)
    refine ⟨((h9.keeps ha).of_seat hrrole hrfields).keeps hc, ?_, hc.held.trans hrheld⟩
    rw [hc.fields _ (by decide), hrfields _ (by decide), ha.fields _ (by decide), hpart]
  clear_value b10
  have h15 : b10.keepsSeat b14 := by
    have h11 : b10.keepsSeat b11 := .foldl _ _ _ fun d n => (d.keepsSeat_setPort _ _).trans (Block.keepsSeat_restartPort _ _)
    clear_value b11
    have h12 : b10.keepsSeat b12 := h11.trans b11.keepsSeat_refreshPorts
    clear_value b12
    have h13 : b10.keepsSeat b13 := h12.trans (.foldlMem _ _ _ fun t ht d => d.keepsSeat_discover (by
      obtain ⟨n, hn, rfl⟩ := List.mem_map.1 (List.mem_dedup.1 ht)
      have := lt_of_mem_pairedPorts hn
      omega))
    clear_value b13
    exact h13.trans ((b13.keepsSeat_abortSwapAll _).trans (Block.keepsSeat_abortOpAll _ _))
  clear_value b14
  obtain ⟨h10, hpart10, hheld10⟩ := h10
  have h14 : b.newMaster mepoch b14 := h10.keeps h15
  have hafter : (b14.inc Reg.CHN_TAKEOVERS_COUNT).keepsSeat b15 :=
    (Block.keepsSeat_set _ _ _ (seatFree_of_off (by decide) (by decide))).trans
      (Block.keepsSeat_set _ _ _ (seatFree_of_off (by decide) (by decide)))
  clear_value b15
  have hend := (hafter.trans (b15.keepsSeat_post 0x0D03 3 0x46 [(1, former), (2, mepoch), (2, min us 65535)])).trans
    (Block.keepsSeat_refreshChain _)
  have hother : ∀ f ∈ seatFields, f ≠ Reg.CHN_TAKEOVERS_COUNT → (b14.inc Reg.CHN_TAKEOVERS_COUNT).get f = b14.get f := by
    intro f hf hne
    refine Block.get_set_apart _ _ _ _ (by decide) ?_
    revert f
    decide
  refine ⟨?_, ?_, ?_, ?_, ?_, ?_⟩
  · rw [hend.role, Block.inc_chain]; exact h14.role
  · rw [hend.held, Block.inc_chain, h15.held]; exact hheld10
  · rw [hend.fields _ (by decide), hother _ (by decide) (by decide), h14.mepoch, hm]
  · rw [hend.fields _ (by decide), hother _ (by decide) (by decide), h14.follow]
  · rw [hend.fields _ (by decide), hother _ (by decide) (by decide), h15.fields _ (by decide), hpart10]
  · rw [hend.fields _ (by decide), Block.get_inc _ _ (by decide), h14.takeovers]

/-! ### The handover -/

theorem Block.keepsSeat_dropBarrier (b : Block) : b.keepsSeat b.dropBarrier := by
  unfold Block.dropBarrier
  split
  · exact b.keepsSeat_refl
  · exact (b.keepsSeat_withChain { b.chain with barrier := 0 } rfl rfl).trans (Block.keepsSeat_chnDone _ _)

/-- A device that follows: its role, and the fields of the seat but the flag of Datum's domain. -/
theorem Block.takeFollower_seat (b : Block) (standby : Bool) (p : Nat) :
    (b.takeFollower standby p).chain.role = (if standby then .standby else .member) ∧
      (b.takeFollower standby p).get Reg.CHN_STAT_YIELDED = b.get Reg.CHN_STAT_YIELDED := by
  unfold Block.takeFollower
  extract_lets c ch d
  have hc : c.chain.role = (if standby then .standby else .member) ∧ c.get Reg.CHN_STAT_YIELDED = b.get Reg.CHN_STAT_YIELDED := by
    constructor
    · show ((b.setRole _).followFlags true).chain.role = _
      unfold Block.followFlags Block.setRole
      rw [Block.setOn_chain, Block.setOn_chain, Block.set_chain]
    · show ((b.setRole _).followFlags true).get _ = _
      unfold Block.followFlags Block.setOn Block.setRole
      rw [Block.get_set_apart _ _ _ _ (by decide) (by decide), Block.get_set_apart _ _ _ _ (by decide) (by decide),
        Block.get_set_apart _ _ _ _ (by decide) (by decide)]
      rfl
  clear_value c
  have hd : d.chain.role = c.chain.role ∧ d.get Reg.CHN_STAT_YIELDED = c.get Reg.CHN_STAT_YIELDED := ⟨rfl, rfl⟩
  clear_value ch d
  have h := d.keepsSeat_refreshPorts
  rw [h.role, h.fields _ (by decide), hd.1, hd.2]
  exact hc

theorem Block.keepsSeat_enterFollow (b : Block) : b.keepsSeat b.enterFollow :=
  ((b.keepsSeat_setBrg _).trans (Block.keepsSeat_set _ _ _ (seatFree_of_off (by decide) (by decide)))).trans
    (Block.keepsSeat_withBrg _ _)

theorem Block.handOver_master {b : Block} (h : b.chain.role = .master) : b.handOver.chain.role = .standby ∧
    b.handOver.get Reg.TRV_PART_ROLE = 1 ∧ b.handOver.on Reg.CHN_STAT_YIELDED = true := by
  unfold Block.handOver
  rw [h]
  dsimp only
  generalize b.partner.getD 0 = p
  generalize hc : (b.post 0x0D07 2 0x46 [(1, 2), (1, p)]).set Reg.CHN_STAT_YIELDED 1 = c
  have hcy : c.get Reg.CHN_STAT_YIELDED = 1 := by
    rw [← hc, Block.get_set_same _ _ _ (by decide)]
    rfl
  obtain ⟨hrole, hy⟩ := c.dropBarrier.takeFollower_seat true p
  generalize c.dropBarrier.takeFollower true p = d at hrole hy ⊢
  have hdy : d.get Reg.CHN_STAT_YIELDED = 1 := by rw [hy, (c.keepsSeat_dropBarrier).fields _ (by decide), hcy]
  have he : d.keepsSeat (d.withChain { d.chain with masterFreq := d.freq }).enterFollow :=
    Block.keepsSeat.trans (d.keepsSeat_withChain { d.chain with masterFreq := d.freq } rfl rfl) (Block.keepsSeat_enterFollow _)
  have hdef : (d.withChain { d.chain with masterFreq := d.freq }).enterFollow =
    Block.enterFollow { d with chain := { d.chain with masterFreq := d.freq } } := rfl
  rw [← hdef]
  generalize (d.withChain { d.chain with masterFreq := d.freq }).enterFollow = e at he ⊢
  have hf : d.keepsSeat ({ e with brg := { e.brg with steer := 0, err := 0 } } : Block) := he.trans (e.keepsSeat_withBrg _)
  generalize ({ e with brg := { e.brg with steer := 0, err := 0 } } : Block) = f at hf ⊢
  have hend := (Block.keepsSeat_standPairedBy (f.set Reg.TRV_PART_ROLE 1)).trans (Block.keepsSeat_refreshChain _)
  refine ⟨?_, ?_, on_of_get_one ?_⟩
  · rw [hend.role, Block.set_chain, hf.role, hrole]
    rfl
  · rw [hend.fields _ (by decide), Block.get_set_same _ _ _ (by decide)]
    rfl
  · rw [hend.fields _ (by decide), Block.get_set_apart _ _ _ _ (by decide) (by decide), hf.fields _ (by decide), hdy]

section
variable {s : State} {o : ChainOp}

theorem opDue_handover (ho : s.blk.chain.op = some o) (hat : o.bearing = s.blk.brg.now) (hstate : s.blk.brg.state ≠ .holdover)
    (hv : o.verdict = .commit) (hh : o.handover = true) : s.blk.opDue true Block.handOver = s.blk.opBegun.handOver := by
  rw [← hh, Block.opDue_eq ho hat, if_neg hstate, if_pos hv]

theorem completes_handover_master (ho : s.blk.chain.op = some o) (hat : o.bearing = s.blk.brg.now)
    (hstate : s.blk.brg.state ≠ .holdover) (hv : o.verdict = .commit) (hh : o.handover = true) (hrole : s.blk.chain.role = .master) :
    Completes .handover s fun b => b.chain.role = .standby ∧ b.get Reg.TRV_PART_ROLE = 1 ∧ b.on Reg.CHN_STAT_YIELDED = true := by
  refine completes_of_next (b := s.blk.opDue true Block.handOver) rfl ?_
  obtain ⟨h1, h2, h3⟩ := Block.handOver_master (s.blk.opBegun_role.trans hrole)
  rw [opDue_handover ho hat hstate hv hh, Block.gated_role, Block.gated_get_other _ _ (by decide),
    Block.on_congr (Block.gated_get_other _ _ (by decide))]
  exact ⟨h1, h2, h3⟩

theorem completes_handover_standby (ho : s.blk.chain.op = some o) (hat : o.bearing = s.blk.brg.now)
    (hstate : s.blk.brg.state ≠ .holdover) (hv : o.verdict = .commit) (hh : o.handover = true) (hrole : s.blk.chain.role = .standby) :
    Completes .handover s fun b => b.chain.role = .master ∧ b.get Reg.TRV_PART_ROLE = 0 ∧
      b.get Reg.CHN_ROSTER_MEPOCH = (s.blk.get Reg.CHN_ROSTER_MEPOCH + 1) % 65536 := by
  refine completes_of_next (b := s.blk.opDue true Block.handOver) rfl ?_
  have heq : s.blk.opBegun.handOver = s.blk.opBegun.takeOver := by
    unfold Block.handOver
    rw [s.blk.opBegun_role, hrole]
  have h := s.blk.opBegun.tookOver_takeOver
  have hepoch : s.blk.opBegun.nextEpoch = (s.blk.get Reg.CHN_ROSTER_MEPOCH + 1) % 65536 := by
    unfold Block.nextEpoch
    rw [s.blk.opBegun_keepsBut.get (by decide)]
  rw [opDue_handover ho hat hstate hv hh, heq, Block.gated_role, Block.gated_get_other _ _ (by decide),
    Block.gated_get_other _ _ (by decide), h.role, h.part, h.mepoch, hepoch]
  exact ⟨rfl, rfl, rfl⟩

end

/-- Settles O57: a cell of an operation, the master's commands, the reset to all, and an operation at its bearing. -/
theorem chainOperationsAgree : Obligations.ChainOperationsAgree := by
  intro s ring cell c
  refine ⟨fun hok hh hc hseen => ⟨fun hkind hsrc hrole hop => ⟨fun hdev hrun hhold hback hsh => ?_, fun hsh => ?_⟩,
    fun hkind hsrc hrole hop a ha hat hv => ⟨fun h0 hall => ?_, fun h0 => ?_⟩,
    fun hkind hsrc hb hop a ha hat => ⟨fun h1 => ?_, fun h1 h16 => ?_⟩, fun hkind hsrc hto => ?_,
    fun hkind hsrc hb hdst => ?_⟩,
    fun hacc hbusy => ⟨fun hrole => completes_chn_refused hacc hbusy hrole, fun hrole =>
      ⟨fun ht => completes_chainReset_all hacc hbusy hrole ht, fun ht => completes_chainReset_self hacc hbusy hrole ht,
        fun h7 h15 => completes_chainReset_invalid hacc hbusy hrole h7 h15, completes_barrier hacc hbusy hrole,
        fun hdev hrun hop i hi hpartner => ?_, fun o ho => completes_disarmOp ho hacc hbusy hrole⟩⟩,
    fun t ht => ⟨fun h => completes_chainResetTimeout_late ht h, fun h => completes_chainResetTimeout_early ht h⟩,
    fun o ho hat => ⟨fun hstate => ?_, fun hstate hv => ?_, fun hstate hv hh => completes_snapshot ho hat hstate hv hh,
      fun hstate hv hh => ⟨fun hrole => completes_handover_master ho hat hstate hv hh hrole,
        fun hrole => completes_handover_standby ho hat hstate hv hh hrole⟩⟩⟩
  · exact completes_token_ready hok hh hc hkind hsrc hseen hrole hop hdev hrun hhold hback hsh
  · exact completes_token_not_ready hok hh hc hkind hsrc hseen hrole hop hsh
  · exact completes_token_commit hok hh hc hkind hsrc hseen hrole hop ha hat hv h0 hall
  · exact completes_token_abort hok hh hc hkind hsrc hseen hrole hop ha hat hv h0
  · exact completes_verdict_commit hok hh hc hkind hsrc hseen hb hop ha hat h1
  · exact completes_verdict_abort hok hh hc hkind hsrc hseen hb hop ha hat h1 h16
  · exact completes_resetCell_taken hok hh hc hkind hsrc hseen hto
  · exact completes_resetCell_passed hok hh hc hkind hsrc hb hdst
  · simp only [List.mem_cons, List.not_mem_nil, or_false] at hi
    rcases hi with rfl | rfl
    · exact completes_armOp (handover := false) rfl hacc hbusy hrole hdev hrun hop hpartner
    · exact completes_armOp (handover := true) rfl hacc hbusy hrole hdev hrun hop hpartner
  · exact completes_op_ends (by decide) (fun act => by rw [Block.opDue_eq ho hat, if_pos hstate]) (Block.abortOpAll_shows ho 4)
  · exact completes_op_ends (by decide) (fun act => by rw [Block.opDue_eq ho hat, if_neg hstate, if_neg hv]) (Block.opAbort_shows ho 7)

end Sys2Proof.Machine

/-!
The Chain in operation (R458, R469, R470, R473, R475, R477 to R482): what the traffic to the partner leaves alone.
-/

namespace Sys2Proof.Machine

/-! ### What the traffic to the partner leaves alone -/

/-- The Chain's state without what replication and the driven frames move. -/
def ChainSt.still (x : ChainSt) : ChainSt :=
  { x with cells := [], seq := 0, seen := [], copyDone := false, notchBytes := [], drives := [] }

/-- Device state, Bearing, Datum, the ports and the rest of the Chain's state stay. -/
structure Block.byReplica (b c : Block) : Prop where
  dev : c.dev = b.dev
  brg : c.brg = b.brg
  dtm : c.dtm = b.dtm
  ports : c.ports = b.ports
  still : c.chain.still = b.chain.still

theorem Block.byReplica_refl (b : Block) : b.byReplica b := ⟨rfl, rfl, rfl, rfl, rfl⟩

namespace Block.byReplica
variable {b c d : Block}

theorem trans (h : b.byReplica c) (h' : c.byReplica d) : b.byReplica d :=
  ⟨h'.dev.trans h.dev, h'.brg.trans h.brg, h'.dtm.trans h.dtm, h'.ports.trans h.ports, h'.still.trans h.still⟩

theorem of_core (h : c.core = b.core) : b.byReplica c where
  dev := show c.core.dev = b.core.dev by rw [h]
  brg := show c.core.brg = b.core.brg by rw [h]
  dtm := show c.core.dtm = b.core.dtm by rw [h]
  ports := show c.core.ports = b.core.ports by rw [h]
  still := show c.core.chain.still = b.core.chain.still by rw [h]

theorem foldl {α : Type} (f : Block → α → Block) (l : List α) (b : Block) (hf : ∀ (d : Block) (x : α), d.byReplica (f d x)) :
    b.byReplica (l.foldl f b) := by
  induction l generalizing b with
  | nil => exact b.byReplica_refl
  | cons x l ih => exact (hf b x).trans (ih _)

theorem ite {p : Prop} [Decidable p] (h : b.byReplica c) (h' : b.byReplica d) : b.byReplica (if p then c else d) := by
  split
  · exact h
  · exact h'

theorem part (h : b.byReplica c) {γ : Type} (p : ChainSt → γ) (hp : ∀ x : ChainSt, p x.still = p x) : p c.chain = p b.chain := by
  rw [← hp, h.still, hp]

theorem role (h : b.byReplica c) : c.chain.role = b.chain.role := h.part (fun x : ChainSt => x.role) fun _ => rfl

theorem holdover (h : b.byReplica c) : c.chain.holdover = b.chain.holdover := h.part (fun x : ChainSt => x.holdover) fun _ => rfl

theorem joined (h : b.byReplica c) : c.chain.joined = b.chain.joined := h.part (fun x : ChainSt => x.joined) fun _ => rfl

theorem heldAcks (h : b.byReplica c) : c.chain.heldAcks = b.chain.heldAcks := h.part (fun x : ChainSt => x.heldAcks) fun _ => rfl

theorem partnerK (h : b.byReplica c) : c.chain.partnerK = b.chain.partnerK := h.part (fun x : ChainSt => x.partnerK) fun _ => rfl

theorem partnerAtten (h : b.byReplica c) : c.chain.partnerAtten = b.chain.partnerAtten :=
  h.part (fun x : ChainSt => x.partnerAtten) fun _ => rfl

theorem port (h : b.byReplica c) (n : Nat) : c.port n = b.port n := by
  unfold Block.port
  rw [h.ports]

end Block.byReplica

section
variable (b : Block)

theorem Block.byReplica_set (f : Field) (v : Nat) : b.byReplica (b.set f v) := .of_core (b.core_set _ _)

theorem Block.byReplica_inc (f : Field) : b.byReplica (b.inc f) := .of_core (b.core_inc _)

theorem Block.byReplica_setAll (fs : List (Field × Nat)) : b.byReplica (b.setAll fs) := .of_core (Block.core_setAll _ _)

theorem Block.byReplica_post (code sev src : Nat) (args : List (Nat × Nat)) : b.byReplica (b.post code sev src args) :=
  .of_core (b.core_post _ _ _ _)

theorem Block.byReplica_sendCell (kind dst : Nat) (bcast : Bool) (body : List Byte) :
    b.byReplica (b.sendCell kind dst bcast body) := by
  have h := b.onRing_sendCell kind dst bcast body
  refine ⟨h.dev, h.brg, Block.sendCell_dtm _ _ _ _ _, Block.sendCell_ports _ _ _ _ _, ?_⟩
  rw [h.chain]
  rfl

theorem Block.byReplica_sendPiece (what piece index : Nat) (bytes : List Byte) : b.byReplica (b.sendPiece what piece index bytes) := by
  unfold Block.sendPiece
  split
  · exact (b.byReplica_inc _).trans (Block.byReplica_sendCell _ _ _ _ _)
  · exact b.byReplica_refl

theorem Block.byReplica_replicate (what index : Nat) (old new : List Byte) : b.byReplica (b.replicate what index old new) := by
  unfold Block.replicate
  split
  · exact b.byReplica_refl
  · exact .foldl _ _ _ fun d i => d.byReplica_refl.ite (d.byReplica_sendPiece _ _ _ _)

theorem Block.byReplica_refreshCounts : b.byReplica b.refreshCounts := by
  unfold Block.refreshCounts
  exact (b.byReplica_setAll _).trans (.foldl _ _ _ fun d _ => d.byReplica_setAll _)

theorem Block.byReplica_withTrv (t : TrvSt) : b.byReplica { b with trv := t } := ⟨rfl, rfl, rfl, rfl, rfl⟩

theorem Block.byReplica_withMac (m : MacSt) : b.byReplica { b with mac := m } := ⟨rfl, rfl, rfl, rfl, rfl⟩

theorem Block.byReplica_setNode (x : Nat) (n : Node) : b.byReplica (b.setNode x n) := by
  unfold Block.setNode
  exact ((b.byReplica_withTrv _).trans (Block.byReplica_replicate _ _ _ _ _)).trans (Block.byReplica_refreshCounts _)

theorem Block.byReplica_modNode (x : Nat) (f : Node → Node) : b.byReplica (b.modNode x f) := b.byReplica_setNode _ _

theorem Block.byReplica_setExt (x : Nat) (e : NodeExt) : b.byReplica (b.setExt x e) := by
  unfold Block.setExt
  exact ((b.byReplica_withTrv _).trans (Block.byReplica_replicate _ _ _ _ _)).ite (b.byReplica_withTrv _)

theorem Block.byReplica_refreshPage (page : Nat) : b.byReplica (b.refreshPage page) := by
  unfold Block.refreshPage
  dsimp only
  split
  · exact (b.byReplica_set _ _).trans (Block.byReplica_setAll _ _)
  · exact (b.byReplica_set _ _).trans (Block.byReplica_setAll _ _)

theorem Block.byReplica_initialCopy : b.byReplica b.initialCopy := by
  unfold Block.initialCopy
  extract_lets b1 b2 b3 b4 b5 b6 b7 notch b8
  have h1 : b.byReplica b1 := .foldl _ _ _ fun d _ => d.byReplica_replicate _ _ _ _
  have h2 : b.byReplica b2 := h1.trans (.foldl _ _ _ fun d _ => d.byReplica_replicate _ _ _ _)
  have h3 : b.byReplica b3 := h2.trans (.foldl _ _ _ fun d _ => d.byReplica_replicate _ _ _ _)
  have h4 : b.byReplica b4 := h3.trans (.foldl _ _ _ fun d _ => d.byReplica_replicate _ _ _ _)
  have h5 : b.byReplica b5 := h4.trans (.foldl _ _ _ fun d _ => .foldl _ _ _ fun e _ => e.byReplica_replicate _ _ _ _)
  have h6 : b.byReplica b6 := h5.trans (.foldl _ _ _ fun d _ => .foldl _ _ _ fun e _ => e.byReplica_replicate _ _ _ _)
  have h7 : b.byReplica b7 := h6.trans (.foldl _ _ _ fun d _ => d.byReplica_sendPiece _ _ _ _)
  have h8 : b.byReplica b8 := h7.trans (.foldl _ _ _ fun d t => by
    extract_lets e m f
    split
    · exact ((d.byReplica_replicate _ _ _ _).trans (Block.byReplica_replicate _ _ _ _ _)).trans (Block.byReplica_replicate _ _ _ _ _)
    · exact (d.byReplica_replicate _ _ _ _).trans (Block.byReplica_replicate _ _ _ _ _))
  clear_value b8
  exact h8.trans (b8.byReplica_sendPiece _ _ _ _)

theorem Block.byReplica_emptyReplica : b.byReplica b.emptyReplica := by
  unfold Block.emptyReplica
  extract_lets x ch c
  have hc : b.byReplica c := ⟨rfl, rfl, rfl, rfl, rfl⟩
  clear_value x ch c
  exact (hc.trans (Block.byReplica_refreshPage _ _)).trans (Block.byReplica_refreshCounts _)

theorem Block.byReplica_refreshLinked : b.byReplica b.refreshLinked := by
  unfold Block.refreshLinked
  extract_lets up c
  have hc : b.byReplica c := b.byReplica_set _ _
  clear_value c
  have hcopy : c.byReplica { c with chain := { c.chain with copyDone := false } } := ⟨rfl, rfl, rfl, rfl, rfl⟩
  exact b.byReplica_refl.ite (hc.trans (hcopy.ite (c.byReplica_initialCopy.ite c.byReplica_emptyReplica)))

theorem Block.byReplica_refreshRemote : b.byReplica b.refreshRemote :=
  .foldl _ _ _ fun d _ => d.byReplica_refl.ite ((d.byReplica_set _ _).trans (Block.byReplica_post _ _ _ _ _))

theorem Block.byReplica_refreshChain : b.byReplica b.refreshChain :=
  (b.byReplica_refreshLinked.trans (Block.byReplica_setAll _ _)).trans (Block.byReplica_refreshRemote _)

/-! ### The registers of the Chain while it shows its state -/

/-- Registers that the refresh of the Chain may write below the Chain's own block. -/
def partnerReg (off : Nat) : Prop := off < 0x1C0000 ∨ off = Reg.CHN_PAIR_STAT

theorem partnerReg_of_lt {off : Nat} (h : off < 0x1C0000) : partnerReg off := .inl h

theorem Block.writesIn_replicate (what index : Nat) (old new : List Byte) :
    Block.writesIn partnerReg b (b.replicate what index old new) := fun off hoff =>
  Block.replicate_rd _ _ _ _ _ _ fun h => hoff (partnerReg_of_lt (by rw [h]; decide))

theorem Block.writesIn_sendPiece (what piece index : Nat) (bytes : List Byte) :
    Block.writesIn partnerReg b (b.sendPiece what piece index bytes) := by
  unfold Block.sendPiece
  split
  · exact ((Block.writesIn_refl partnerReg b).inc (partnerReg_of_lt (by decide))).of_regs (Block.sendCell_regs _ _ _ _ _)
  · exact Block.writesIn_refl _ _

theorem Block.writesIn.foldl {α : Type} {P : Nat → Prop} (f : Block → α → Block) (l : List α) (b : Block)
    (hf : ∀ x ∈ l, ∀ d : Block, Block.writesIn P d (f d x)) : Block.writesIn P b (l.foldl f b) := by
  induction l generalizing b with
  | nil => exact Block.writesIn_refl _ _
  | cons x l ih => exact (hf x (.head _) b).trans (ih _ fun y hy => hf y (.tail _ hy))

theorem Block.writesIn_initialCopy : Block.writesIn partnerReg b b.initialCopy := by
  unfold Block.initialCopy
  extract_lets b1 b2 b3 b4 b5 b6 b7 notch b8
  have h1 : Block.writesIn partnerReg b b1 := .foldl _ _ _ fun _ _ d => d.writesIn_replicate _ _ _ _
  have h2 : Block.writesIn partnerReg b b2 := h1.trans (.foldl _ _ _ fun _ _ d => d.writesIn_replicate _ _ _ _)
  have h3 : Block.writesIn partnerReg b b3 := h2.trans (.foldl _ _ _ fun _ _ d => d.writesIn_replicate _ _ _ _)
  have h4 : Block.writesIn partnerReg b b4 := h3.trans (.foldl _ _ _ fun _ _ d => d.writesIn_replicate _ _ _ _)
  have h5 : Block.writesIn partnerReg b b5 := h4.trans (.foldl _ _ _ fun _ _ d => .foldl _ _ _ fun _ _ e =>
    e.writesIn_replicate _ _ _ _)
  have h6 : Block.writesIn partnerReg b b6 := h5.trans (.foldl _ _ _ fun _ _ d => .foldl _ _ _ fun _ _ e =>
    e.writesIn_replicate _ _ _ _)
  have h7 : Block.writesIn partnerReg b b7 := h6.trans (.foldl _ _ _ fun _ _ d => d.writesIn_sendPiece _ _ _ _)
  have h8 : Block.writesIn partnerReg b b8 := h7.trans (.foldl _ _ _ fun t _ d => by
    extract_lets e m f
    split
    · exact ((d.writesIn_replicate _ _ _ _).trans (Block.writesIn_replicate _ _ _ _ _)).trans (Block.writesIn_replicate _ _ _ _ _)
    · exact (d.writesIn_replicate _ _ _ _).trans (Block.writesIn_replicate _ _ _ _ _))
  clear_value b8
  exact h8.trans (b8.writesIn_sendPiece _ _ _ _)

theorem Block.writesIn_refreshCounts : Block.writesIn partnerReg b b.refreshCounts := by
  unfold Block.refreshCounts
  extract_lets live c
  have hc : Block.writesIn partnerReg b c := (Block.writesIn_refl partnerReg b).setAll fun p hp => partnerReg_of_lt (by
    simp only [List.mem_cons, List.not_mem_nil, or_false] at hp
    rcases hp with rfl | rfl | rfl <;> simp [Reg.TRV_STAT, Reg.TRV_RELAY_STAT])
  clear_value c live
  refine hc.trans (.foldl _ _ _ fun t ht d => (Block.writesIn_refl partnerReg d).setAll fun p hp => partnerReg_of_lt ?_)
  have ht8 := List.mem_range.1 ht
  simp only [List.mem_cons, List.not_mem_nil, or_false] at hp
  rcases hp with rfl | rfl | rfl | rfl <;> simp only [Reg.TRV_PH_A, Reg.TRV_PH_B] <;> omega

theorem cxPage_lt (page k : Nat) (hk : k < 0x100) : Reg.cxPage page + k < 0x1C0000 := by
  unfold Reg.cxPage
  split <;> omega

theorem Block.writesIn_emptyReplica : Block.writesIn partnerReg b b.emptyReplica := by
  have hpage : ∀ d : Block, Block.writesIn partnerReg d (d.refreshPage linkPage) := fun d off hoff =>
    d.refreshPage_rd _ _ (fun h => hoff (partnerReg_of_lt (h ▸ cxPage_lt _ 0x4 (by decide))))
      fun h => hoff (partnerReg_of_lt (h ▸ cxPage_lt _ 0xC (by decide)))
  unfold Block.emptyReplica
  extract_lets x ch c
  have hc : Block.writesIn partnerReg b c := fun _ _ => rfl
  clear_value x ch c
  exact (hc.trans (hpage c)).trans (Block.writesIn_refreshCounts _)

theorem Block.writesIn_refreshLinked : Block.writesIn partnerReg b b.refreshLinked := by
  unfold Block.refreshLinked
  extract_lets up c
  have hc : Block.writesIn partnerReg b c := (Block.writesIn_refl partnerReg b).setOn _ (partnerReg_of_lt (by decide))
  clear_value c
  split
  · exact Block.writesIn_refl _ _
  · split
    · exact hc
    · split
      · exact hc.trans c.writesIn_initialCopy
      · exact hc.trans c.writesIn_emptyReplica

theorem Block.writesIn_refreshRemote : Block.writesIn partnerReg b b.refreshRemote := by
  refine .foldl _ _ _ fun n _ d => ?_
  dsimp only
  split
  · exact Block.writesIn_refl _ _
  · exact ((Block.writesIn_refl partnerReg d).setBit (f := Reg.CHN_PAIR_STAT_REMOTE) _ _ (.inr rfl)).post _ _ _ _ fun off hoff =>
      partnerReg_of_lt (by
        by_contra h
        exact notMem_recordRegs (off := off) (by omega) hoff)

/-- A field of the Chain's own registers, unless it is one that the refresh shows. -/
theorem Block.refreshChain_get {f : Field} (hlow : 0x1C0000 ≤ f.off) (hpair : f.off ≠ Reg.CHN_PAIR_STAT)
    (h : f.off = Reg.CHN_STAT → 4 ≤ f.lo) : b.refreshChain.get f = b.get f := by
  have hnot : ¬ partnerReg f.off := by
    rintro (h1 | h1)
    · omega
    · exact hpair h1
  unfold Block.refreshChain
  rw [(Block.writesIn_refreshRemote _).get hnot, Block.get_setAll_skip _ _ _ ?_, b.writesIn_refreshLinked.get hnot]
  intro p hp
  simp only [List.mem_cons, List.not_mem_nil, or_false] at hp
  have hap : ∀ g : Field, g.off = Reg.CHN_STAT → g.lo + g.width ≤ 4 → g.apart f := fun g hg hw => by
    by_cases ho : f.off = Reg.CHN_STAT
    · have := h ho
      exact .inr (.inl (by omega))
    · exact .inl fun e => ho (e ▸ hg)
  rcases hp with rfl | rfl
  · exact ⟨by simp [Field.fits], hap _ rfl (by simp)⟩
  · exact ⟨by simp [Field.fits], hap _ rfl (by simp)⟩

end

end Sys2Proof.Machine

/-!
Sync lost, the isolated master, wrapped rings and the pair cells (R458, R469, R470, R473, R475).
-/

namespace Sys2Proof.Machine

theorem Block.gated_part (b : Block) {γ : Type} (p : ChainSt → γ)
    (hp : ∀ (x : ChainSt) (bypassA bypassB : Bool) (drives : List Drive),
      p { x with bypassA := bypassA, bypassB := bypassB, drives := drives } = p x) : p b.gated.chain = p b.chain := by
  rw [b.gated_chain]
  exact hp _ _ _ _

/-! ### Sync lost (R469, R470) -/

/-- The record of a lost sync. -/
def Block.syncLossNoted (b : Block) : Block :=
  (b.inc Reg.CHN_SYNC_LOST_COUNT).post 0x0D02 2 0x46
    [(2, b.get Reg.CHN_SYNC_SEQ_SEQ), (1, bitOf (b.standbyReady && !b.chain.resetAll))]

theorem Block.syncLost_eq {b : Block} (hen : b.chainEnabled = true) (hrole : b.chain.role = .standby ∨ b.chain.role = .member)
    (hhold : b.chain.holdover = false) (hdue : b.chain.takeoverDue = false) (h : b.chain.lastSync + 3000 ≤ b.ticks) :
    b.syncLost = if b.standbyReady && !b.chain.resetAll then
        b.syncLossNoted.withChain { b.syncLossNoted.chain with takeoverDue := true }
      else b.syncLossNoted.enterChainHoldover.refreshChain := by
  have hfollows : (b.chain.role == .standby || b.chain.role == .member) = true := by
    rcases hrole with h | h <;> rw [h] <;> rfl
  unfold Block.syncLost
  dsimp only
  rw [hen, hfollows, hhold, hdue, if_neg (by simp; omega)]
  rfl

theorem Block.syncLossNoted_part (b : Block) : b.syncLossNoted.brg = b.brg ∧ b.syncLossNoted.chain = b.chain := by
  unfold Block.syncLossNoted
  rw [Block.post_brg, Block.inc_brg, Block.post_chain, Block.inc_chain]
  exact ⟨rfl, rfl⟩

theorem Block.syncLossNoted_count (b : Block) : b.syncLossNoted.get Reg.CHN_SYNC_LOST_COUNT =
    (b.get Reg.CHN_SYNC_LOST_COUNT + 1) % 2 ^ 32 := by
  unfold Block.syncLossNoted
  rw [Block.get_post _ _ _ _ _ _ (by decide), Block.get_inc _ _ (by decide)]

/-- What the beginning of Chain holdover shows. -/
theorem Block.enterChainHoldover_shows (b : Block) : b.enterChainHoldover.chain.holdover = true ∧
    b.enterChainHoldover.brg.state = .holdover ∧ b.enterChainHoldover.dtm.a.followErr = 0 ∧
    b.enterChainHoldover.get Reg.CHN_SYNC_LOST_COUNT = b.get Reg.CHN_SYNC_LOST_COUNT := by
  unfold Block.enterChainHoldover
  extract_lets ch b1 b2 br b3 da db b4
  have h1 : b1.chain.holdover = true ∧ b1.get Reg.CHN_SYNC_LOST_COUNT = b.get Reg.CHN_SYNC_LOST_COUNT := ⟨rfl, rfl⟩
  clear_value ch b1
  have h2 : b2.chain.holdover = true ∧ b2.brg.state = .holdover ∧ b2.get Reg.CHN_SYNC_LOST_COUNT = b.get Reg.CHN_SYNC_LOST_COUNT := by
    refine ⟨?_, ?_, ?_⟩
    · show ((b1.setBrg .holdover).set _ _).chain.holdover = true
      unfold Block.setBrg
      rw [Block.set_chain, Block.set_chain]
      exact h1.1
    · show ((b1.setBrg .holdover).set _ _).brg.state = _
      unfold Block.setBrg
      rw [Block.set_brg, Block.set_brg]
    · show ((b1.setBrg .holdover).set _ _).get _ = _
      unfold Block.setBrg
      rw [Block.get_set_apart _ _ _ _ (by decide) (by decide), Block.get_set_apart _ _ _ _ (by decide) (by decide)]
      exact h1.2
  clear_value b2
  have h3 : b3.chain.holdover = true ∧ b3.brg.state = .holdover ∧ b3.get Reg.CHN_SYNC_LOST_COUNT = b.get Reg.CHN_SYNC_LOST_COUNT := h2
  clear_value br b3
  have h4 : b4.chain.holdover = true ∧ b4.brg.state = .holdover ∧ b4.dtm.a.followErr = 0 ∧
      b4.get Reg.CHN_SYNC_LOST_COUNT = b.get Reg.CHN_SYNC_LOST_COUNT := ⟨h3.1, h3.2.1, rfl, h3.2.2⟩
  clear_value b4
  rwa [Block.post_chain, Block.post_brg, Block.post_dtm, Block.get_post _ _ _ _ _ _ (by decide)]

section
variable {s : State}

theorem completes_syncLost_member (hen : s.blk.chainEnabled = true) (hhold : s.blk.chain.holdover = false)
    (hdue : s.blk.chain.takeoverDue = false) (h : s.blk.chain.lastSync + 3000 ≤ s.blk.ticks) (hrole : s.blk.chain.role = .member) :
    Completes .syncLost s fun b => b.chain.holdover = true ∧ b.brg.state = .holdover ∧ b.dtm.a.followErr = 0 ∧
      b.get Reg.CHN_SYNC_LOST_COUNT = (s.blk.get Reg.CHN_SYNC_LOST_COUNT + 1) % 2 ^ 32 := by
  refine completes_of_next (b := s.blk.syncLost) rfl ?_
  have hready : s.blk.standbyReady = false := by
    unfold Block.standbyReady
    rw [hrole]
    rfl
  have heq := Block.syncLost_eq hen (.inr hrole) hhold hdue h
  rw [if_neg (by simp [hready])] at heq
  obtain ⟨hchain, hbrg, hdtm, hcount⟩ := s.blk.syncLossNoted.enterChainHoldover_shows
  have hr := s.blk.syncLossNoted.enterChainHoldover.byReplica_refreshChain
  rw [heq, Block.gated_brg, (Block.gated_times _).1, Block.gated_get_other _ _ (by decide),
    Block.gated_part _ (fun x => x.holdover) fun _ _ _ _ => rfl, hr.holdover, hr.brg, hr.dtm,
    Block.refreshChain_get _ (by decide) (by decide) (by decide), hcount, Block.syncLossNoted_count]
  exact ⟨hchain, hbrg, hdtm, rfl⟩

theorem completes_syncLost_standby (hen : s.blk.chainEnabled = true) (hhold : s.blk.chain.holdover = false)
    (hdue : s.blk.chain.takeoverDue = false) (h : s.blk.chain.lastSync + 3000 ≤ s.blk.ticks) (hready : s.blk.standbyReady = true)
    (hreset : s.blk.chain.resetAll = false) :
    Completes .syncLost s fun b => b.chain.takeoverDue = true ∧ b.chain.holdover = false ∧ b.brg = s.blk.brg := by
  refine completes_of_next (b := s.blk.syncLost) rfl ?_
  have hrole : s.blk.chain.role = .standby := by
    unfold Block.standbyReady at hready
    simp only [Bool.and_eq_true, beq_iff_eq] at hready
    exact hready.1.1.1.1.1.1
  have heq := Block.syncLost_eq hen (.inl hrole) hhold hdue h
  rw [if_pos (by simp [hready, hreset])] at heq
  obtain ⟨hbrg, hchain⟩ := s.blk.syncLossNoted_part
  rw [heq, Block.gated_brg, Block.gated_part _ (fun x => x.holdover) fun _ _ _ _ => rfl,
    Block.gated_part _ (fun x => x.takeoverDue) fun _ _ _ _ => rfl]
  refine ⟨rfl, ?_, hbrg⟩
  show s.blk.syncLossNoted.chain.holdover = false
  rw [hchain, hhold]

theorem completes_keepsBut_idle {i : Instr} {b : Block} (hc : exec i s = .next { s with blk := b.gated }) (hb : b = s.blk) :
    Completes i s fun b => s.blk.keepsBut b [Reg.SP_STAT 1] := (completes_idle hc hb).imp fun _ h => h.2

theorem completes_syncLost_early (h : s.blk.ticks < s.blk.chain.lastSync + 3000) :
    Completes .syncLost s fun b => s.blk.keepsBut b [Reg.SP_STAT 1] := by
  refine completes_keepsBut_idle (b := s.blk.syncLost) rfl ?_
  unfold Block.syncLost
  dsimp only
  rw [if_pos (by simp [h])]

/-! ### The isolated master (R473) -/

theorem Block.setRole_role (b : Block) (r : Role) : (b.setRole r).chain.role = r := by
  unfold Block.setRole
  rw [Block.set_chain]

theorem Block.setRole_get (b : Block) (r : Role) {f : Field} (h : Reg.CHN_ID_ROLE.apart f) : (b.setRole r).get f = b.get f := by
  unfold Block.setRole
  exact Block.get_set_apart _ _ _ _ (by decide) h

theorem completes_isolated {p : Nat} (hrole : s.blk.chain.role = .master) (hjoined : s.blk.chain.joined = true)
    (h : s.blk.chain.lastOwn + 3000 ≤ s.blk.ticks) (hp : s.blk.partner = some p) (hready : s.blk.bit Reg.CHN_ROSTER_READY p = true) :
    Completes .masterIsolated s fun b => b.chain.role = .isolated ∧ b.on Reg.CHN_STAT_YIELDED = true := by
  refine completes_of_next (b := s.blk.isolate) rfl ?_
  have key : s.blk.isolate.chain.role = .isolated ∧ s.blk.isolate.get Reg.CHN_STAT_YIELDED = 1 := by
    unfold Block.isolate
    rw [hp]
    dsimp only
    rw [hrole, hjoined, hready, if_neg (by simp; omega)]
    generalize s.blk.post 0x0D07 2 0x46 [(1, 0), (1, (some p).getD 0)] = c
    have hset : ((c.set Reg.CHN_STAT_YIELDED 1).setRole .isolated).chain.role = .isolated ∧
        ((c.set Reg.CHN_STAT_YIELDED 1).setRole .isolated).get Reg.CHN_STAT_YIELDED = 1 := by
      rw [Block.setRole_role, Block.setRole_get _ _ (by decide), Block.get_set_same _ _ _ (by decide)]
      exact ⟨rfl, rfl⟩
    generalize (c.set Reg.CHN_STAT_YIELDED 1).setRole .isolated = d at hset ⊢
    have hd := ((d.keepsSeat_dropBarrier).trans (Block.keepsSeat_standPairedBy _)).trans (Block.keepsSeat_refreshChain _)
    exact ⟨hd.role.trans hset.1, (hd.fields _ (by decide)).trans hset.2⟩
  rw [Block.gated_role, Block.on_congr (Block.gated_get_other _ _ (by decide))]
  exact ⟨key.1, Block.on_of_get_one key.2⟩

theorem completes_not_isolated (hrole : s.blk.chain.role = .master) (h : s.blk.ticks < s.blk.chain.lastOwn + 3000) :
    Completes .masterIsolated s fun b => b.chain.role = .master ∧ s.blk.keepsBut b [Reg.SP_STAT 1] := by
  have heq : s.blk.isolate = s.blk := by
    unfold Block.isolate
    dsimp only
    rw [if_pos (by simp [h])]
  refine completes_of_next (b := s.blk.isolate) rfl ?_
  rw [heq, Block.gated_role]
  exact ⟨hrole, (s.blk.keepsBut_refl _).gated (by simp)⟩

/-! ### Wrapped rings (R475) -/

theorem Block.wrap_get_stat (b : Block) (out failed : Bool) (up : Nat) : (b.wrap out failed up).get (wrapField out) = 1 := by
  unfold Block.wrap
  cases out <;>
    exact (Block.get_post _ _ _ _ _ _ (by decide)).trans
      ((Block.get_set_apart _ _ _ _ (by decide) (by decide)).trans (Block.get_set_same _ _ _ (by decide)))

theorem Block.wrap_los (b : Block) (out failed : Bool) (up : Nat) (r : Bool) :
    (b.wrap out failed up).get (losField r) = b.get (losField r) := by
  unfold Block.wrap
  cases out <;> cases r <;>
    exact (Block.get_post _ _ _ _ _ _ (by decide)).trans
      ((Block.get_set_apart _ _ _ _ (by decide) (by decide)).trans (Block.get_set_apart _ _ _ _ (by decide) (by decide)))

theorem Block.wrap_count (b : Block) (out failed : Bool) (up : Nat) :
    (b.wrap out failed up).get Reg.CHN_WRAPS_COUNT = (b.get Reg.CHN_WRAPS_COUNT + 1) % 2 ^ 32 := by
  unfold Block.wrap
  rw [Block.get_post _ _ _ _ _ _ (by decide), Block.get_inc _ _ (by decide)]
  cases out <;> rw [Block.get_set_apart _ _ _ _ (by decide) (by decide)]

theorem Block.wrap_keepsBut (b : Block) (out failed : Bool) (up : Nat) :
    b.keepsBut (b.wrap out failed up) (Reg.CHN_STAT :: Reg.CHN_WRAPS :: recordRegs) :=
  (((b.keepsBut_refl _).set (f := wrapField out) 1 (by cases out <;> simp [wrapField])).inc (by simp)).post _ _ _ _ (by simp)

theorem Block.wrap_dev (b : Block) (out failed : Bool) (up : Nat) : (b.wrap out failed up).dev = b.dev := by
  unfold Block.wrap
  rw [Block.post_dev, Block.inc_dev, Block.set_dev]

theorem refreshChain_get_ring (b : Block) {f : Field} (h : ∃ r, f = losField r ∨ f = wrapField r) : b.refreshChain.get f = b.get f := by
  obtain ⟨r, h | h⟩ := h <;> subst h <;> cases r <;> exact Block.refreshChain_get _ (by decide) (by decide) (by decide)

theorem gated_get_ring (b : Block) {f : Field} (h : ∃ r, f = losField r ∨ f = wrapField r) : b.gated.get f = b.get f := by
  obtain ⟨r, h | h⟩ := h <;> subst h <;> cases r <;> exact Block.gated_get_other _ _ (by decide)

theorem completes_lossOfSignal {ring : Ring} (hh : s.blk.hears (ring == .b) = true) :
    Completes (.lossOfSignal ring) s fun b => b.on (losField (ring == .b)) = true ∧ b.on (wrapField (!(ring == .b))) = true ∧
      b.get Reg.CHN_WRAPS_COUNT = (s.blk.get Reg.CHN_WRAPS_COUNT + 1) % 2 ^ 32 := by
  refine completes_of_next (b := s.blk.lossOfSignal (ring == .b)) rfl ?_
  generalize (ring == .b) = r at hh ⊢
  unfold Block.lossOfSignal
  dsimp only
  rw [hh, if_neg (by decide)]
  have hring := Block.onRing_sendCellOn (s.blk.set (losField r) 1) (!r) kindWrap (s.blk.upstream r) false (toLe 1 (if r then 1 else 0))
  generalize (s.blk.set (losField r) 1).sendCellOn (!r) kindWrap (s.blk.upstream r) false (toLe 1 (if r then 1 else 0)) = c at hring ⊢
  have hlos : c.get (losField r) = 1 := by
    rw [hring.get]
    cases r <;> exact Block.get_set_same _ _ _ (by decide)
  have hwraps : c.get Reg.CHN_WRAPS_COUNT = s.blk.get Reg.CHN_WRAPS_COUNT := by
    rw [hring.get]
    cases r <;> exact Block.get_set_apart _ _ _ _ (by decide) (by decide)
  refine ⟨Block.on_of_get_one ?_, Block.on_of_get_one ?_, ?_⟩
  · rw [gated_get_ring _ ⟨r, .inl rfl⟩, refreshChain_get_ring _ ⟨r, .inl rfl⟩, Block.wrap_los, hlos]
  · rw [gated_get_ring _ ⟨!r, .inr rfl⟩, refreshChain_get_ring _ ⟨!r, .inr rfl⟩, Block.wrap_get_stat]
  · rw [Block.gated_get_other _ _ (by decide), Block.refreshChain_get _ (by decide) (by decide) (by decide), Block.wrap_count, hwraps]

theorem completes_lossOfSignal_deaf {ring : Ring} (hh : s.blk.hears (ring == .b) = false) :
    Completes (.lossOfSignal ring) s fun b => s.blk.keepsBut b [Reg.SP_STAT 1] := by
  refine completes_keepsBut_idle (b := s.blk.lossOfSignal (ring == .b)) rfl ?_
  unfold Block.lossOfSignal
  rw [hh]
  rfl

theorem exec_wrapReceived {ring : Ring} {cell : List Byte} (h : cellOk cell = true) (s : State) :
    exec (.wrapReceived ring cell) s = .next { s with blk := (s.blk.wrapReceived (ring == .b) cell).gated } := by
  show execWrapReceived ring cell s = _
  exact answer_of_wf h s _

theorem completes_wrapReceived {ring : Ring} {cell : List Byte} {c : Cell} (hok : cellOk cell = true)
    (hh : s.blk.hears (ring == .b) = true) (hc : cellOf cell = some c) (hkind : c.kind = kindWrap) (hdst : c.dst = s.blk.rank)
    (hoff : s.blk.on (wrapField (byteAt c.body 0 == 1)) = false) : Completes (.wrapReceived ring cell) s fun b =>
      b.on (wrapField (byteAt c.body 0 == 1)) = true ∧
      b.get Reg.CHN_WRAPS_COUNT = (s.blk.get Reg.CHN_WRAPS_COUNT + 1) % 2 ^ 32 ∧
      s.blk.keepsBut b (Reg.CHN_STAT :: Reg.CHN_WRAPS :: recordRegs) := by
  refine completes_of_next (exec_wrapReceived hok s) ?_
  have heq : s.blk.wrapReceived (ring == .b) cell = s.blk.wrap (byteAt c.body 0 == 1) (byteAt c.body 0 == 1) s.blk.rank := by
    unfold Block.wrapReceived
    rw [← hkind, Block.openCell_eq hh hc]
    dsimp only
    rw [if_neg (by simp [hdst, hoff])]
  have hsilent : (s.blk.wrap (byteAt c.body 0 == 1) (byteAt c.body 0 == 1) s.blk.rank).dev.silent = false := by
    rw [Block.wrap_dev]
    exact Block.not_silent_of_hears hh
  rw [heq, Block.gated_get_of_not_silent hsilent, Block.wrap_count]
  refine ⟨Block.on_of_get_one ?_, rfl, (Block.wrap_keepsBut _ _ _ _).gated_of_not_silent hsilent⟩
  rw [Block.gated_get_of_not_silent hsilent, Block.wrap_get_stat]

theorem off_of_get_zero {b : Block} {f : Field} (h : b.get f = 0) : b.on f = false := by
  unfold Block.on
  rw [h]
  rfl

theorem completes_ringUnwrap_failed {ring : Ring} (h : s.blk.on (losField (ring == .b)) = true) :
    Completes (.ringUnwrap ring) s fun b => b.on (losField (ring == .b)) = false ∧ b.on (wrapField (!(ring == .b))) = false := by
  refine completes_of_next (b := s.blk.unwrap (ring == .b)) rfl ?_
  generalize (ring == .b) = r at h ⊢
  unfold Block.unwrap
  rw [if_pos h]
  have hnot : ∀ (f : Field), f.off = Reg.CHN_STAT → f.off ∉ recordRegs := fun f hf => by rw [hf]; decide
  refine ⟨off_of_get_zero ?_, off_of_get_zero ?_⟩
  · rw [gated_get_ring _ ⟨r, .inl rfl⟩, refreshChain_get_ring _ ⟨r, .inl rfl⟩]
    cases r <;>
      exact (Block.get_post _ _ _ _ _ _ (by decide)).trans
        ((Block.get_set_apart _ _ _ _ (by decide) (by decide)).trans (Block.get_set_same _ _ _ (by decide)))
  · rw [gated_get_ring _ ⟨!r, .inr rfl⟩, refreshChain_get_ring _ ⟨!r, .inr rfl⟩]
    cases r <;> exact (Block.get_post _ _ _ _ _ _ (by decide)).trans (Block.get_set_same _ _ _ (by decide))

theorem completes_ringUnwrap_fed {ring : Ring} (h : s.blk.on (losField (ring == .b)) = false)
    (hw : s.blk.on (wrapField (ring == .b)) = true) :
    Completes (.ringUnwrap ring) s fun b => b.on (wrapField (ring == .b)) = false ∧
      s.blk.keepsBut b (Reg.CHN_STAT :: Reg.SP_STAT 1 :: recordRegs) := by
  refine completes_of_next (b := s.blk.unwrap (ring == .b)) rfl ?_
  generalize (ring == .b) = r at h hw ⊢
  unfold Block.unwrap
  rw [if_neg (by simp [h]), if_pos hw]
  refine ⟨off_of_get_zero ?_, ?_⟩
  · rw [gated_get_ring _ ⟨r, .inr rfl⟩]
    cases r <;> exact (Block.get_post _ _ _ _ _ _ (by decide)).trans (Block.get_set_same _ _ _ (by decide))
  · exact (((s.blk.keepsBut_refl _).set (f := wrapField r) 0 (by cases r <;> simp [wrapField])).post _ _ _ _ (by
      intro x hx
      exact .tail _ (.tail _ hx))).gated (by simp)

/-! ### The pair cells (R458, R479) -/

theorem Block.mem_cells_putCell {b : Block} {x : OutCell} (h : x ∈ b.chain.cells) (ringB : Bool) (bytes : List Byte) :
    x ∈ (b.putCell ringB bytes).chain.cells := by
  unfold Block.putCell
  extract_lets out c
  clear_value out
  split
  · exact h
  · exact List.mem_append_left _ h

theorem Block.putCell_sent {b : Block} (hby : b.bypassed false = false) (hw : b.wrapped false = false) (bytes : List Byte) :
    ({ ringB := false, bytes := bytes } : OutCell) ∈ (b.putCell false bytes).chain.cells := by
  unfold Block.putCell
  dsimp only
  rw [hw]
  show _ ∈ (if b.bypassed false = true then b else _ : Block).chain.cells
  rw [if_neg (by simp [hby])]
  exact List.mem_append_right _ (.head _)

theorem Block.partner_lt {b : Block} {p : Nat} (h : b.partner = some p) : p < 8 := by
  unfold Block.partner at h
  dsimp only at h
  split at h
  · obtain rfl := Option.some.inj h
    exact Nat.mod_lt _ (by decide)
  · cases h

theorem completes_pairSend {p : Nat} (hp : s.blk.partner = some p) (hen : s.blk.chainEnabled = true) (hrank : s.blk.rank ≤ 1)
    (hpaired : s.blk.pairedPorts ≠ []) (hby : s.blk.bypassed false = false) (hw : s.blk.wrapped false = false) :
    Completes .pairSend s fun b => (∃ x ∈ b.chain.cells, x.ringB = false ∧ ∃ y, cellOf x.bytes = some y ∧ y.kind = kindPair ∧
      y.src = s.blk.rank ∧ y.dst = p) ∧ s.blk.keepsBut b [Reg.SP_STAT 1] := by
  refine completes_of_next (b := s.blk.pairSend) rfl ?_
  have hempty : s.blk.pairedPorts.isEmpty = false := by
    cases h : s.blk.pairedPorts with
    | nil => exact absurd h hpaired
    | cons x l => rfl
  unfold Block.pairSend
  rw [hp]
  dsimp only
  rw [hen, hempty, if_neg (by simp; omega)]
  generalize ((List.range 24).flatMap fun n => toLe 1 (s.blk.get (Reg.LP_STATUS_ACTIVE n)) ++
    toLe 1 (s.blk.get (Reg.LP_TX_LEVEL_MIN_ATTEN n))) = body
  have hring := s.blk.onRing_sendCell kindPair p false body
  refine ⟨⟨{ ringB := false, bytes := cellBytes kindPair (s.blk.get Reg.CHN_ID_RANK) p false s.blk.chain.seq body }, ?_, rfl, _,
    cellOf_cellBytes _ _ _ _ _ _ (by decide) (by decide) (by show s.blk.rank < 8; omega) (Block.partner_lt hp), rfl, rfl, rfl⟩,
    ((hring.keepsBut _)).gated (by simp)⟩
  rw [Block.gated_part _ (fun x => x.cells) fun _ _ _ _ => rfl]
  exact Block.mem_cells_putCell (Block.putCell_sent (b := s.blk.nextSeq) hby hw _) true _

end

end Sys2Proof.Machine

/-!
Cells of the partner, the takeover and the closing of its ports (R477 to R482).
-/

namespace Sys2Proof.Machine

/-! ### A cell taken -/

theorem Block.putCell_eq (b : Block) (ringB : Bool) (bytes : List Byte) : ∃ l, b.putCell ringB bytes = b.withChain { b.chain with cells := l } := by
  unfold Block.putCell
  extract_lets out c
  clear_value out
  split
  · exact ⟨b.chain.cells, rfl⟩
  · exact ⟨b.chain.cells ++ [{ ringB := out, bytes := bytes }], rfl⟩

/-- The block with other cells under way and other numbers seen. -/
def Block.passing (b : Block) (cells : List OutCell) (seen : List (Nat × Nat)) : Block :=
  b.withChain { b.chain with cells := cells, seen := seen }

theorem Block.takesCell.eq {b : Block} {ringB : Bool} {kind : Nat} {bytes : List Byte} {c : Cell} (h : b.takesCell ringB kind bytes c) :
    ∃ cells seen, b.takeCell ringB kind bytes = (b.passing cells seen, some c) := by
  obtain ⟨-, hh, hc, rfl, hsrc, hseen, hto⟩ := h
  have hf : ∃ l, b.forward ringB c = b.passing l b.chain.seen := by
    unfold Block.forward
    split
    · exact ⟨b.chain.cells, rfl⟩
    · exact b.putCell_eq _ _
  obtain ⟨l, hl⟩ := hf
  refine ⟨l, ((c.src, c.seq) :: b.chain.seen).take 64, ?_⟩
  unfold Block.takeCell
  rw [Block.openCell_eq hh hc]
  dsimp only
  rw [hl]
  have hrank : (b.passing l b.chain.seen).rank = b.rank := rfl
  have hs : (b.passing l b.chain.seen).hasSeen c = b.hasSeen c := rfl
  rw [hrank, hs, hseen, if_neg (by simp [hsrc]), if_pos hto]
  rfl

theorem Block.takesCell.ok {b : Block} {ringB : Bool} {kind : Nat} {bytes : List Byte} {c : Cell} (h : b.takesCell ringB kind bytes c) :
    cellOk bytes = true := h.1

theorem Block.takesCell.not_silent {b : Block} {ringB : Bool} {kind : Nat} {bytes : List Byte} {c : Cell}
    (h : b.takesCell ringB kind bytes c) : b.dev.silent = false := Block.not_silent_of_hears h.2.1

section
variable {s : State} {ring : Ring} {cell : List Byte} {c : Cell}

theorem exec_pairReceived (h : cellOk cell = true) : exec (.pairReceived ring cell) s =
    .next { s with blk := (s.blk.pairReceived (ring == .b) cell).gated } := by
  show execPairReceived ring cell s = _
  exact answer_of_wf h s _

theorem exec_driveReceived (h : cellOk cell = true) : exec (.driveReceived ring cell) s =
    .next { s with blk := (s.blk.driveReceived (ring == .b) cell).gated } := by
  show execDriveReceived ring cell s = _
  exact answer_of_wf h s _

theorem exec_rxdoneReceived (h : cellOk cell = true) : exec (.rxdoneReceived ring cell) s =
    .next { s with blk := (s.blk.rxdoneReceived (ring == .b) cell).gated } := by
  show execRxdoneReceived ring cell s = _
  exact answer_of_wf h s _

theorem exec_replReceived (h : cellOk cell = true) : exec (.replReceived ring cell) s =
    .next { s with blk := (s.blk.replReceived (ring == .b) cell).gated } := by
  show execReplReceived ring cell s = _
  exact answer_of_wf h s _

/-! ### The partner's counts (R479) -/

/-- Byte `o` of each port's pair, for every port. -/
def putPorts (body : List Byte) (o : Nat) (m : Store Nat) : Store Nat :=
  (List.range 24).foldl (fun m n => Store.put (fun _ => 0) m n (byteAt body (2 * n + o))) m

theorem Store.get_foldl_put {α : Type} [DecidableEq α] (d : Nat → α) (v : Nat → α) (m : Store α) {k n : Nat} (h : n < k) :
    Store.get d ((List.range k).foldl (fun m n => Store.put d m n (v n)) m) n = v n := by
  induction k with
  | zero => omega
  | succ k ih =>
    rw [List.range_succ, List.foldl_append]
    show Store.get d (Store.put d _ k (v k)) n = v n
    rw [Store.get_put]
    split
    · rename_i hk
      rw [hk]
    · exact ih (by omega)

theorem completes_pairReceived (h : s.blk.takesCell (ring == .b) kindPair cell c) (hp : s.blk.partner = some c.src) :
    Completes (.pairReceived ring cell) s fun b => ∀ n, n < 24 →
      Store.get (fun _ => 0) b.chain.partnerK n = byteAt c.body (2 * n) ∧
        Store.get (fun _ => 0) b.chain.partnerAtten n = byteAt c.body (2 * n + 1) := by
  refine completes_of_next (exec_pairReceived h.ok) fun n hn => ?_
  obtain ⟨cells, seen, heq⟩ := h.eq
  have key : ∃ d : Block, d.chain.partnerK = putPorts c.body 0 s.blk.chain.partnerK ∧
      d.chain.partnerAtten = putPorts c.body 1 s.blk.chain.partnerAtten ∧ s.blk.pairReceived (ring == .b) cell = d.refreshChain := by
    unfold Block.pairReceived
    rw [heq]
    dsimp only
    have hpp : (s.blk.passing cells seen).partner = some c.src := hp
    rw [hpp, if_neg (by simp)]
    exact ⟨_, rfl, rfl, rfl⟩
  obtain ⟨d, hk, ha, hd⟩ := key
  have hr := d.byReplica_refreshChain
  rw [hd, Block.gated_part _ (fun x => x.partnerK) fun _ _ _ _ => rfl, Block.gated_part _ (fun x => x.partnerAtten) fun _ _ _ _ => rfl,
    hr.partnerK, hr.partnerAtten, hk, ha]
  exact ⟨Store.get_foldl_put _ (fun n => byteAt c.body (2 * n + 0)) _ hn, Store.get_foldl_put _ (fun n => byteAt c.body (2 * n + 1)) _ hn⟩

/-! ### RXDONE and the held frames (R477) -/

theorem completes_rxdoneReceived (h : s.blk.takesCell (ring == .b) kindRxdone cell c) : Completes (.rxdoneReceived ring cell) s fun b =>
    b.chain.held = s.blk.chain.held.filter (fun h =>
      !(h.lane == byteAt c.body 0 && h.sync == BitVec.ofNat 48 (leAt c.body 1 6))) ∧
    b.chain.heldAcks = s.blk.chain.heldAcks.filter (fun h =>
      !(h.lane == byteAt c.body 0 && h.reception.bearing == BitVec.ofNat 48 (leAt c.body 1 6))) ∧ s.blk.keepsBut b [] := by
  refine completes_of_next (exec_rxdoneReceived h.ok) ?_
  obtain ⟨cells, seen, heq⟩ := h.eq
  unfold Block.rxdoneReceived
  rw [heq]
  dsimp only
  rw [Block.gated_held, Block.gated_part _ (fun x => x.heldAcks) fun _ _ _ _ => rfl]
  refine ⟨rfl, rfl, Block.keepsBut.gated_of_not_silent ?_ h.not_silent⟩
  exact fun _ _ => rfl

theorem completes_heldParcelExpiry : Completes .heldParcelExpiry s fun b =>
    (∀ h ∈ b.chain.held, (s.blk.brg.now - h.sync).toNat < 2 * 524288) ∧
    (∀ h ∈ b.chain.heldAcks, (s.blk.brg.now - h.reception.bearing).toNat < 2 * 524288) ∧
    (∀ h ∈ s.blk.chain.held, (s.blk.brg.now - h.sync).toNat < 2 * 524288 → h ∈ b.chain.held) ∧
    s.blk.keepsBut b [Reg.SP_STAT 1] := by
  refine completes_of_next (b := s.blk.withChain { s.blk.chain with
    held := s.blk.chain.held.filter fun h => (s.blk.brg.now - h.sync).toNat < 2 * 524288
    heldAcks := s.blk.chain.heldAcks.filter fun h => (s.blk.brg.now - h.reception.bearing).toNat < 2 * 524288 }) rfl ?_
  rw [Block.gated_held, Block.gated_part _ (fun x => x.heldAcks) fun _ _ _ _ => rfl]
  refine ⟨fun h hh => ?_, fun h hh => ?_, fun h hh hlt => List.mem_filter.2 ⟨hh, decide_eq_true hlt⟩,
    ((s.blk.keepsBut_refl _).of_regs (Block.withChain_regs _ _)).gated (by simp)⟩
  · exact of_decide_eq_true (List.mem_filter.1 hh).2
  · exact of_decide_eq_true (List.mem_filter.1 hh).2

/-! ### Replication (R478) -/

/-- While the partner is up and shown so, the refresh of the Chain moves no state but what goes out to the host. -/
theorem Block.refreshChain_linked {b : Block} (hup : b.partnerUp = true) (hl : b.on Reg.TRV_REPL_STAT_LINKED = true) :
    b.refreshChain.core = b.core ∧ b.refreshChain.get Reg.TRV_REPL_SEQ_RSEQ = b.get Reg.TRV_REPL_SEQ_RSEQ := by
  have heq : b.refreshLinked = b := by
    unfold Block.refreshLinked
    rw [hup, hl]
    exact if_pos rfl
  have hremote : ∀ d : Block, d.refreshRemote.core = d.core ∧ d.refreshRemote.get Reg.TRV_REPL_SEQ_RSEQ = d.get Reg.TRV_REPL_SEQ_RSEQ := by
    intro d
    unfold Block.refreshRemote
    refine ⟨foldl_part Block.core _ (fun e n => ?_) _ d, foldl_part (fun e : Block => e.get Reg.TRV_REPL_SEQ_RSEQ) _ (fun e n => ?_) _ d⟩
    · dsimp only
      split
      · rfl
      · exact Block.core_post _ _ _ _ _
    · dsimp only
      split
      · rfl
      · rw [Block.get_post _ _ _ _ _ _ (by decide)]
        exact Block.get_set_apart _ _ _ _ (by decide) (by decide)
  unfold Block.refreshChain
  rw [heq]
  obtain ⟨hcore, hget⟩ := hremote (b.setAll [(Reg.CHN_STAT_STATE, b.chainState), (Reg.CHN_STAT_READY, bitOf b.standbyReady)])
  exact ⟨hcore.trans (Block.core_setAll _ _), hget.trans (Block.get_setAll_other _ _ _ (by simp))⟩

theorem Block.partnerUp_congr {b c : Block} (himg : c.img = b.img) (hrole : c.chain.role = b.chain.role)
    (hjoined : c.chain.joined = b.chain.joined) (hhold : c.chain.holdover = b.chain.holdover)
    (hpresent : c.get Reg.CHN_ROSTER_PRESENT = b.get Reg.CHN_ROSTER_PRESENT) : c.partnerUp = b.partnerUp := by
  have hp : c.partner = b.partner := by
    unfold Block.partner Block.setting
    rw [himg]
  unfold Block.partnerUp Block.bit
  rw [hp, hrole, hjoined, hhold, hpresent]

/-- The block with other node tables. -/
def Block.withTrv (b : Block) (t : TrvSt) : Block := { b with trv := t }

theorem Block.noteLag_eq (b : Block) (what sent : Nat) : ∃ t : TrvSt, t.nodes = b.trv.nodes ∧ b.noteLag what sent = b.withTrv t := by
  unfold Block.noteLag
  dsimp only
  split
  · exact ⟨b.trv, rfl, rfl⟩
  · exact ⟨{ b.trv with lag := max b.trv.lag _ }, rfl, rfl⟩

theorem Block.chain_of_core {b c : Block} (h : c.core = b.core) : c.chain = b.chain := show c.core.chain = b.core.chain by rw [h]

theorem Block.img_of_core {b c : Block} (h : c.core = b.core) : c.img = b.img := show c.core.img = b.core.img by rw [h]

theorem Block.trv_of_core {b c : Block} (h : c.core = b.core) : c.trv = b.trv := show c.core.trv = b.core.trv by rw [h]

theorem Block.takePiece_core (b : Block) (piece index : Nat) (new : List Byte) : b.takePiece replCore piece index new =
    (b.withTrv (b.trv.putNode index (Node.ofBytes (patch (b.node index).toBytes piece new)))).refreshCounts := by
  unfold Block.takePiece
  rw [if_pos rfl]
  rfl

theorem Block.takePiece_done (b : Block) (piece index : Nat) (new : List Byte) : b.takePiece replDone piece index new =
    b.withChain { b.chain with copyDone := true } := by
  unfold Block.takePiece
  rw [if_neg (by decide), if_neg (by decide), if_neg (by decide), if_neg (by decide), if_neg (by decide), if_neg (by decide),
    if_pos rfl]
  rfl

/-- What a replica keeps while it takes a piece. -/
structure Block.stillLinked (b c : Block) : Prop where
  img : c.img = b.img
  role : c.chain.role = b.chain.role
  joined : c.chain.joined = b.chain.joined
  holdover : c.chain.holdover = b.chain.holdover
  present : c.get Reg.CHN_ROSTER_PRESENT = b.get Reg.CHN_ROSTER_PRESENT
  linked : c.get Reg.TRV_REPL_STAT_LINKED = b.get Reg.TRV_REPL_STAT_LINKED

/-- The end of a piece that is taken: what it shows beside the piece. -/
theorem Block.pieceTaken_shows {b d : Block} (h : b.stillLinked d) (hup : b.partnerUp = true)
    (hl : b.on Reg.TRV_REPL_STAT_LINKED = true) (what sent : Nat) {seq : Nat} (hseq : seq < 2 ^ 32) :
    let e := (((d.noteLag what sent).set Reg.TRV_REPL_SEQ_RSEQ seq).refreshChain)
    e.get Reg.TRV_REPL_SEQ_RSEQ = seq ∧ e.chain.copyDone = d.chain.copyDone ∧ e.trv.nodes = d.trv.nodes := by
  obtain ⟨t, ht, heq⟩ := d.noteLag_eq what sent
  rw [heq]
  generalize hx : d.withTrv t = x
  have himg : x.img = d.img := by rw [← hx]; rfl
  have hchain : x.chain = d.chain := by rw [← hx]; rfl
  have hregs : x.regs = d.regs := by rw [← hx]; rfl
  have htrv : x.trv = t := by rw [← hx]; rfl
  have hup' : (x.set Reg.TRV_REPL_SEQ_RSEQ seq).partnerUp = true := by
    refine Eq.trans (Block.partnerUp_congr ?_ ?_ ?_ ?_ ?_) hup
    · rw [Block.set_img, himg, h.img]
    · rw [Block.set_chain, hchain, h.role]
    · rw [Block.set_chain, hchain, h.joined]
    · rw [Block.set_chain, hchain, h.holdover]
    · rw [Block.get_set_apart _ _ _ _ (by decide) (by decide), Block.get_of_regs hregs, h.present]
  have hl' : (x.set Reg.TRV_REPL_SEQ_RSEQ seq).on Reg.TRV_REPL_STAT_LINKED = true := by
    rw [← hl]
    refine Block.on_congr ?_
    rw [Block.get_set_apart _ _ _ _ (by decide) (by decide), Block.get_of_regs hregs, h.linked]
  obtain ⟨hcore, hget⟩ := Block.refreshChain_linked hup' hl'
  refine ⟨?_, ?_, ?_⟩
  · rw [hget, Block.get_set_same _ _ _ (by decide)]
    exact Nat.mod_eq_of_lt hseq
  · rw [Block.chain_of_core hcore, Block.set_chain, hchain]
  · rw [Block.trv_of_core hcore, Block.set_trv, htrv, ht]

theorem Block.replReceived_eq {b : Block} {ringB : Bool} (h : b.takesCell ringB kindRepl cell c) (hp : b.partner = some c.src)
    (hhome : b.home = false) : ∃ cells seen, b.replReceived ringB cell =
      ((((b.passing cells seen).takePiece (byteAt c.body 0) (leAt c.body 2 2) (leAt c.body 4 4) (slice c.body 16 32)).noteLag
        (byteAt c.body 0) (leAt c.body 12 4)).set Reg.TRV_REPL_SEQ_RSEQ (leAt c.body 8 4)).refreshChain := by
  obtain ⟨cells, seen, heq⟩ := h.eq
  refine ⟨cells, seen, ?_⟩
  unfold Block.replReceived
  rw [heq]
  dsimp only
  rw [if_neg]
  rintro (h1 | h1)
  · exact h1 hp
  · exact Bool.false_ne_true (hhome ▸ h1)

theorem completes_replDone (h : s.blk.takesCell (ring == .b) kindRepl cell c) (hp : s.blk.partner = some c.src)
    (hhome : s.blk.home = false) (hup : s.blk.partnerUp = true) (hl : s.blk.on Reg.TRV_REPL_STAT_LINKED = true)
    (hwhat : byteAt c.body 0 = replDone) : Completes (.replReceived ring cell) s fun b =>
      b.chain.copyDone = true ∧ b.get Reg.TRV_REPL_SEQ_RSEQ = leAt c.body 8 4 := by
  refine completes_of_next (exec_replReceived h.ok) ?_
  obtain ⟨cells, seen, heq⟩ := Block.replReceived_eq (ringB := ring == .b) h hp hhome
  rw [heq, hwhat]
  have hpiece : (s.blk.passing cells seen).takePiece replDone (leAt c.body 2 2) (leAt c.body 4 4) (slice c.body 16 32) =
      s.blk.withChain { s.blk.chain with cells := cells, seen := seen, copyDone := true } := Block.takePiece_done _ _ _ _
  rw [hpiece]
  have hstill : s.blk.stillLinked (s.blk.withChain { s.blk.chain with cells := cells, seen := seen, copyDone := true }) :=
    ⟨rfl, rfl, rfl, rfl, rfl, rfl⟩
  obtain ⟨hseq, hcopy, -⟩ := Block.pieceTaken_shows hstill hup hl replDone (leAt c.body 12 4) (leAt_lt c.body 8 4)
  rw [Block.gated_part _ (fun x => x.copyDone) fun _ _ _ _ => rfl, Block.gated_get_other _ _ (by decide), hseq, hcopy]
  exact ⟨rfl, rfl⟩

theorem Block.refreshCounts_rest (b : Block) : b.refreshCounts.img = b.img ∧ b.refreshCounts.chain = b.chain ∧
    b.refreshCounts.trv = b.trv ∧ b.refreshCounts.get Reg.CHN_ROSTER_PRESENT = b.get Reg.CHN_ROSTER_PRESENT ∧
    b.refreshCounts.get Reg.TRV_REPL_STAT_LINKED = b.get Reg.TRV_REPL_STAT_LINKED := by
  have hcore : b.refreshCounts.core = b.core := by
    unfold Block.refreshCounts
    dsimp only
    rw [foldl_part Block.core _ (fun c t => Block.core_setAll _ c), Block.core_setAll]
  have hlinked : b.refreshCounts.get Reg.TRV_REPL_STAT_LINKED = b.get Reg.TRV_REPL_STAT_LINKED := by
    unfold Block.refreshCounts
    dsimp only
    rw [foldl_part (fun c : Block => c.get Reg.TRV_REPL_STAT_LINKED) _ (fun c t => Block.get_setAll_other _ _ _ ?_)]
    · refine Block.get_setAll_other _ _ _ fun p hp => ?_
      simp only [List.mem_cons, List.not_mem_nil, or_false] at hp
      rcases hp with rfl | rfl | rfl <;> simp
    · intro p hp
      simp only [List.mem_cons, List.not_mem_nil, or_false] at hp
      rcases hp with rfl | rfl | rfl | rfl <;> simp only [Reg.TRV_REPL_STAT, Reg.TRV_PH_A, Reg.TRV_PH_B] <;> omega
  exact ⟨Block.img_of_core hcore, Block.chain_of_core hcore, Block.trv_of_core hcore,
    b.writesIn_refreshCounts.get (by rintro (h | h) <;> revert h <;> decide), hlinked⟩

theorem completes_replCore (h : s.blk.takesCell (ring == .b) kindRepl cell c) (hp : s.blk.partner = some c.src)
    (hhome : s.blk.home = false) (hup : s.blk.partnerUp = true) (hl : s.blk.on Reg.TRV_REPL_STAT_LINKED = true)
    (hwhat : byteAt c.body 0 = replCore) : Completes (.replReceived ring cell) s fun b =>
      b.node (leAt c.body 4 4) =
        Node.ofBytes (patch (s.blk.node (leAt c.body 4 4)).toBytes (leAt c.body 2 2) (slice c.body 16 32)) ∧
      b.get Reg.TRV_REPL_SEQ_RSEQ = leAt c.body 8 4 := by
  refine completes_of_next (exec_replReceived h.ok) ?_
  obtain ⟨cells, seen, heq⟩ := Block.replReceived_eq (ringB := ring == .b) h hp hhome
  rw [heq, hwhat]
  rw [Block.takePiece_core]
  have hnode : (s.blk.passing cells seen).node (leAt c.body 4 4) = s.blk.node (leAt c.body 4 4) := rfl
  rw [hnode]
  generalize leAt c.body 4 4 = x
  generalize Node.ofBytes (patch (s.blk.node x).toBytes (leAt c.body 2 2) (slice c.body 16 32)) = n
  generalize hd0 : (s.blk.passing cells seen).withTrv ((s.blk.passing cells seen).trv.putNode x n) = d
  obtain ⟨himg, hchain, htrv, hpresent, hlinked⟩ := d.refreshCounts_rest
  have hstill : s.blk.stillLinked d.refreshCounts := by
    refine ⟨?_, ?_, ?_, ?_, ?_, ?_⟩
    · rw [himg, ← hd0]; rfl
    · rw [hchain, ← hd0]; rfl
    · rw [hchain, ← hd0]; rfl
    · rw [hchain, ← hd0]; rfl
    · rw [hpresent, ← hd0]; rfl
    · rw [hlinked, ← hd0]; rfl
  obtain ⟨hseq, -, hnodes⟩ := Block.pieceTaken_shows hstill hup hl replCore (leAt c.body 12 4) (leAt_lt c.body 8 4)
  rw [Block.gated_get_other _ _ (by decide), hseq]
  refine ⟨?_, rfl⟩
  unfold Block.node
  rw [Block.gated_trv, hnodes, htrv, ← hd0]
  exact Store.get_put_same _ _ _ _

end

end Sys2Proof.Machine

/-!
Frames driven for the partner, the takeover and the closing of the paired ports (R479, R481, R482, R484).
-/

namespace Sys2Proof.Machine

/-! ### Driven frames (R479) -/

/-- The block with the refused frames and the driven frames given. -/
def Block.driving (b : Block) (refused : List (Nat × Nat)) (drives : List Drive) : Block :=
  b.withChain { b.chain with refused := refused, drives := drives }

/-- A frame to drive as the first cell of it tells it. -/
def Block.driveOf (b : Block) (body : List Byte) : Drive :=
  { port := byteAt body 0, slot := byteAt body 1, bands := Config.sampleBands (slice body 11 52) % 16, done := false
    loss := b.lossFor [byteAt body 0], start := BitVec.ofNat 48 (leAt body 3 6), zout := byteAt body 9, atten := byteAt body 10
    samples := [], charge := 0 }

/-- What a cell adds to the frame it names. -/
def Drive.taking (port slot : Nat) (data : List Byte) (last : Bool) (d : Drive) : Drive :=
  if d.port = port ∧ d.slot = slot ∧ !d.done then { d with samples := d.samples ++ data, done := last } else d

/-- The block after a further cell of a frame that is driven. -/
def Block.driveFed (b : Block) (port slot : Nat) (data : List Byte) : Block :=
  b.withChain { b.chain with drives := b.chain.drives.map (Drive.taking port slot data false) }

theorem Block.driveFed_shows (b : Block) (port slot : Nat) (data : List Byte) : (b.driveFed port slot data).dev = b.dev ∧
    (b.driveFed port slot data).regs = b.regs ∧
    (b.driveFed port slot data).chain.drives = b.chain.drives.map (Drive.taking port slot data false) := ⟨rfl, rfl, rfl⟩

theorem Block.driveReceived_deaf {b : Block} {ringB : Bool} {cell : List Byte} {c : Cell} (h : b.takesCell ringB kindDrive cell c)
    (hport : b.drivesFor (byteAt c.body 0) = false) : ∃ cells seen, b.driveReceived ringB cell = b.passing cells seen := by
  obtain ⟨cells, seen, heq⟩ := h.eq
  refine ⟨cells, seen, ?_⟩
  have hp : (b.passing cells seen).drivesFor (byteAt c.body 0) = b.drivesFor (byteAt c.body 0) := rfl
  unfold Block.driveReceived
  rw [heq]
  dsimp only
  rw [hp, hport]
  rfl

theorem Block.driveReceived_first {b : Block} {ringB : Bool} {cell : List Byte} {c : Cell} (h : b.takesCell ringB kindDrive cell c)
    (hport : b.drivesFor (byteAt c.body 0) = true) (hflags : byteAt c.body 2 = 1) : ∃ cells seen,
    let e := ((b.passing cells seen).setRefused (b.chain.refused.filter (· != (byteAt c.body 0, byteAt c.body 1)))).beginDrive
      (b.driveOf c.body)
    b.driveReceived ringB cell = if e.chain.refused.contains (byteAt c.body 0, byteAt c.body 1) then e
      else e.driveFed (byteAt c.body 0) (byteAt c.body 1) (slice c.body 11 52) := by
  obtain ⟨cells, seen, heq⟩ := h.eq
  refine ⟨cells, seen, ?_⟩
  have hp : (b.passing cells seen).drivesFor (byteAt c.body 0) = b.drivesFor (byteAt c.body 0) := rfl
  have h0 : Nat.testBit 1 0 = true := by decide
  have h1 : Nat.testBit 1 1 = false := by decide
  unfold Block.driveReceived
  rw [heq]
  dsimp only
  rw [hp, hport, hflags, h0, h1, if_neg (by decide), if_pos rfl]
  rfl

/-- The first cell of a frame that would be too hot. -/
theorem Block.beginDrive_refused {b : Block} {d : Drive} (h : b.thermalOk [d.port] 112 d.loss d.atten true = false) :
    b.beginDrive d = (b.inc Reg.CHN_DRIVE_REFUSED_COUNT).setRefused ((d.port, d.slot) :: b.chain.refused) := by
  unfold Block.beginDrive
  rw [h]
  rfl

theorem Block.beginDrive_begun {b : Block} {d : Drive} (h : b.thermalOk [d.port] 112 d.loss d.atten true = true) :
    b.beginDrive d = ((b.withChain { b.chain with drives := b.chain.drives ++ [d] }).set (Reg.LP_ZOUT_STAT_LAST d.port) d.zout).refreshCharges
      (d.port / 6) := by
  unfold Block.beginDrive
  rw [h]
  rfl

/-- Each driven frame with its dissipation taken anew. -/
def Block.chargeDrive (b : Block) (bank : Nat) (d : Drive) : Drive :=
  if d.port / 6 = bank then { d with charge := dissipation 112 d.loss d.atten (b.bankAmin bank) } else d

theorem Block.refreshCharges_chain (b : Block) (bank : Nat) :
    (b.refreshCharges bank).chain = { b.chain with drives := b.chain.drives.map (b.chargeDrive bank) } := by
  unfold Block.refreshCharges
  rw [Block.reportPred_chain]
  rfl

theorem Block.refreshCharges_dev (b : Block) (bank : Nat) : (b.refreshCharges bank).dev = b.dev := by
  unfold Block.refreshCharges
  rw [Block.reportPred_dev]
  rfl

theorem Block.refreshCharges_zout (b : Block) (bank : Nat) {n : Nat} (hn : n < 24) :
    (b.refreshCharges bank).get (Reg.LP_ZOUT_STAT_LAST n) = b.get (Reg.LP_ZOUT_STAT_LAST n) := by
  have h : ∀ f : Field, f.off ≠ Reg.LP_ZOUT_STAT n → ∀ (d : Block) (v : Nat),
      (d.set f v).get (Reg.LP_ZOUT_STAT_LAST n) = d.get (Reg.LP_ZOUT_STAT_LAST n) := fun f hf d v =>
    Block.get_of_rd (Block.rd_set_other _ _ _ _ fun e => hf e.symm)
  unfold Block.refreshCharges Block.reportPred
  dsimp only
  rw [h _ (by simp only [Reg.PT_THERM, Reg.LP_ZOUT_STAT]; omega),
    foldl_part (fun d : Block => d.get (Reg.LP_ZOUT_STAT_LAST n)) _ (fun d k => h _ (by simp only [Reg.LP_BANK_PRED, Reg.LP_ZOUT_STAT]; omega) d _),
    foldl_part (fun d : Block => d.get (Reg.LP_ZOUT_STAT_LAST n)) _ (fun d k => h _ (by simp only [Reg.LP_THERM, Reg.LP_ZOUT_STAT]; omega) d _)]
  rfl

theorem Block.beginDrive_shows {b : Block} {d : Drive} (h : b.thermalOk [d.port] 112 d.loss d.atten true = true) (hlt : d.port < 24) :
    (b.beginDrive d).chain.refused = b.chain.refused ∧ (b.beginDrive d).dev = b.dev ∧
      (b.beginDrive d).get (Reg.LP_ZOUT_STAT_LAST d.port) = d.zout % 32 ∧
      ∃ charge, { d with charge := charge } ∈ (b.beginDrive d).chain.drives := by
  rw [Block.beginDrive_begun h]
  generalize he : (b.withChain { b.chain with drives := b.chain.drives ++ [d] }).set (Reg.LP_ZOUT_STAT_LAST d.port) d.zout = e
  have hchain : e.chain = { b.chain with drives := b.chain.drives ++ [d] } := by
    rw [← he, Block.set_chain]
    rfl
  have hdev : e.dev = b.dev := by
    rw [← he, Block.set_dev]
    rfl
  have hzout : e.get (Reg.LP_ZOUT_STAT_LAST d.port) = d.zout % 32 := by
    rw [← he]
    exact Block.get_set_same _ _ _ (by simp [Field.fits])
  rw [Block.refreshCharges_chain, Block.refreshCharges_dev, Block.refreshCharges_zout _ _ hlt, hchain, hdev, hzout]
  refine ⟨rfl, rfl, rfl, dissipation 112 d.loss d.atten (e.bankAmin (d.port / 6)), ?_⟩
  have hd : e.chargeDrive (d.port / 6) d = { d with charge := dissipation 112 d.loss d.atten (e.bankAmin (d.port / 6)) } := if_pos rfl
  rw [← hd]
  exact List.mem_map_of_mem (List.mem_append_right _ (.head _))

section
variable {s : State} {ring : Ring} {cell : List Byte} {c : Cell}

theorem completes_drive_refused (h : s.blk.takesCell (ring == .b) kindDrive cell c) (hport : s.blk.drivesFor (byteAt c.body 0) = true)
    (hflags : byteAt c.body 2 = 1)
    (hfits : s.blk.thermalOk [byteAt c.body 0] 112 (s.blk.lossFor [byteAt c.body 0]) (byteAt c.body 10) true = false) :
    Completes (.driveReceived ring cell) s fun b =>
      b.get Reg.CHN_DRIVE_REFUSED_COUNT = (s.blk.get Reg.CHN_DRIVE_REFUSED_COUNT + 1) % 2 ^ 32 ∧
      b.chain.drives = s.blk.chain.drives ∧ s.blk.keepsBut b [Reg.CHN_DRIVE_REFUSED] := by
  refine completes_of_next (exec_driveReceived h.ok) ?_
  have hdev : s.blk.dev = .service := by
    unfold Block.drivesFor at hport
    simp only [Bool.and_eq_true, beq_iff_eq] at hport
    exact hport.1.1.1
  obtain ⟨cells, seen, heq⟩ := Block.driveReceived_first h hport hflags
  generalize hb : (s.blk.passing cells seen).setRefused (s.blk.chain.refused.filter (· != (byteAt c.body 0, byteAt c.body 1))) = b at heq
  have hok : b.thermalOk [(s.blk.driveOf c.body).port] 112 (s.blk.driveOf c.body).loss (s.blk.driveOf c.body).atten true = false := by
    refine Eq.trans ?_ hfits
    rw [← hb]
    rfl
  have hregs : b.regs = s.blk.regs := by rw [← hb]; rfl
  have hdrives : b.chain.drives = s.blk.chain.drives := by rw [← hb]; rfl
  have hbdev : b.dev = s.blk.dev := by rw [← hb]; rfl
  rw [Block.beginDrive_refused hok] at heq
  dsimp only at heq
  have hmem : ((b.inc Reg.CHN_DRIVE_REFUSED_COUNT).setRefused (((s.blk.driveOf c.body).port, (s.blk.driveOf c.body).slot) ::
      b.chain.refused)).chain.refused.contains (byteAt c.body 0, byteAt c.body 1) = true :=
    List.contains_iff_mem.2 (.head _)
  rw [hmem, if_pos rfl] at heq
  generalize hd : (b.inc Reg.CHN_DRIVE_REFUSED_COUNT).setRefused (((s.blk.driveOf c.body).port, (s.blk.driveOf c.body).slot) ::
      b.chain.refused) = d at heq
  have hdregs : d.regs = (b.inc Reg.CHN_DRIVE_REFUSED_COUNT).regs := by rw [← hd]; rfl
  have hddev : d.dev = .service := by
    rw [← hd]
    show (b.inc Reg.CHN_DRIVE_REFUSED_COUNT).dev = _
    rw [Block.inc_dev, hbdev, hdev]
  have hddrives : d.chain.drives = s.blk.chain.drives := by
    rw [← hd]
    show (b.inc Reg.CHN_DRIVE_REFUSED_COUNT).chain.drives = _
    rw [Block.inc_chain, hdrives]
  rw [heq, Block.gated_service _ hddev, Block.get_of_regs hdregs, Block.get_inc _ _ (by decide), Block.get_of_regs hregs]
  exact ⟨rfl, hddrives, ((((s.blk.keepsBut_refl _).of_regs hregs).inc (by simp)).of_regs hdregs)⟩

theorem completes_drive_begun (h : s.blk.takesCell (ring == .b) kindDrive cell c) (hport : s.blk.drivesFor (byteAt c.body 0) = true)
    (hflags : byteAt c.body 2 = 1) (hlt : byteAt c.body 0 < 24)
    (hfits : s.blk.thermalOk [byteAt c.body 0] 112 (s.blk.lossFor [byteAt c.body 0]) (byteAt c.body 10) true = true) :
    Completes (.driveReceived ring cell) s fun b =>
      b.get (Reg.LP_ZOUT_STAT_LAST (byteAt c.body 0)) = byteAt c.body 9 % 32 ∧
      ∃ d ∈ b.chain.drives, d.port = byteAt c.body 0 ∧ d.slot = byteAt c.body 1 ∧ d.atten = byteAt c.body 10 ∧
        d.start = BitVec.ofNat 48 (leAt c.body 3 6) ∧ d.samples = slice c.body 11 52 := by
  refine completes_of_next (exec_driveReceived h.ok) ?_
  have hdev : s.blk.dev = .service := by
    unfold Block.drivesFor at hport
    simp only [Bool.and_eq_true, beq_iff_eq] at hport
    exact hport.1.1.1
  obtain ⟨cells, seen, heq⟩ := Block.driveReceived_first h hport hflags
  generalize hb : (s.blk.passing cells seen).setRefused (s.blk.chain.refused.filter (· != (byteAt c.body 0, byteAt c.body 1))) = b at heq
  have hok : b.thermalOk [(s.blk.driveOf c.body).port] 112 (s.blk.driveOf c.body).loss (s.blk.driveOf c.body).atten true = true := by
    refine Eq.trans ?_ hfits
    rw [← hb]
    rfl
  have hrefused : b.chain.refused = s.blk.chain.refused.filter (· != (byteAt c.body 0, byteAt c.body 1)) := by rw [← hb]; rfl
  have hbdev : b.dev = s.blk.dev := by rw [← hb]; rfl
  obtain ⟨href, hedev, hezout, charge, hmem⟩ := Block.beginDrive_shows (d := s.blk.driveOf c.body) hok hlt
  dsimp only at heq
  generalize b.beginDrive (s.blk.driveOf c.body) = e at heq href hedev hezout hmem
  have hnot : e.chain.refused.contains (byteAt c.body 0, byteAt c.body 1) = false := by
    rw [href, hrefused]
    simp
  rw [hnot, if_neg Bool.false_ne_true] at heq
  obtain ⟨hfdev, hfregs, hfdrives⟩ := e.driveFed_shows (byteAt c.body 0) (byteAt c.body 1) (slice c.body 11 52)
  rw [heq, Block.gated_service _ (by rw [hfdev, hedev, hbdev, hdev]), Block.get_of_regs hfregs, hfdrives]
  refine ⟨hezout, Drive.taking (byteAt c.body 0) (byteAt c.body 1) (slice c.body 11 52) false
    { s.blk.driveOf c.body with charge := charge }, List.mem_map_of_mem hmem, ?_⟩
  unfold Drive.taking
  rw [if_pos ⟨rfl, rfl, rfl⟩]
  exact ⟨rfl, rfl, rfl, rfl, rfl⟩

theorem completes_drive_deaf (h : s.blk.takesCell (ring == .b) kindDrive cell c) (hport : s.blk.drivesFor (byteAt c.body 0) = false) :
    Completes (.driveReceived ring cell) s fun b =>
      (s.blk.dev = .service → b.chain.drives = s.blk.chain.drives) ∧ s.blk.keepsBut b [] := by
  refine completes_of_next (exec_driveReceived h.ok) ?_
  obtain ⟨cells, seen, heq⟩ := Block.driveReceived_deaf h hport
  rw [heq]
  refine ⟨fun hdev => ?_, ((s.blk.keepsBut_refl []).of_regs (Block.withChain_regs _ _)).gated_of_not_silent h.not_silent⟩
  rw [Block.gated_service (s.blk.passing cells seen) hdev]
  rfl

/-! ### The takeover (R481) -/

theorem completes_takeover (hrole : s.blk.chain.role = .standby) (hdue : s.blk.chain.takeoverDue = true)
    (hreset : s.blk.chain.resetAll = false) : Completes .takeover s fun b =>
      b.chain.role = .master ∧ b.get Reg.CHN_ROSTER_MEPOCH = (s.blk.get Reg.CHN_ROSTER_MEPOCH + 1) % 65536 ∧
      b.on (Reg.DTM_STAT_FOLLOW 0) = false ∧ b.get Reg.TRV_PART_ROLE = 0 ∧ b.chain.held = [] ∧
      b.get Reg.CHN_TAKEOVERS_COUNT = (s.blk.get Reg.CHN_TAKEOVERS_COUNT + 1) % 2 ^ 32 := by
  have hexec : exec .takeover s = .next { s with blk := s.blk.takeOver.gated } := by
    show execTakeover s = _
    unfold execTakeover
    rw [answer_of_wf rfl, if_pos (by simp [hrole, hdue, hreset])]
  have h := s.blk.tookOver_takeOver
  refine completes_of_next hexec ?_
  rw [Block.gated_role, Block.gated_held, Block.gated_get_other _ _ (by decide), Block.gated_get_other _ _ (by decide),
    Block.gated_get_other _ _ (by decide), h.role, h.held, h.mepoch, h.part, h.takeovers]
  refine ⟨rfl, rfl, off_of_get_zero ?_, rfl, rfl, rfl⟩
  rw [Block.gated_get_other _ _ (by decide), h.follow]

theorem completes_takeover_idle (hdue : s.blk.chain.takeoverDue = false) : Completes .takeover s fun b =>
    b.chain.role = s.blk.chain.role ∧ s.blk.keepsBut b [Reg.SP_STAT 1] := by
  have hexec : exec .takeover s = .next { s with blk := s.blk.gated } := by
    show execTakeover s = _
    unfold execTakeover
    rw [answer_of_wf rfl, if_neg (by simp [hdue])]
  exact completes_of_next hexec ⟨Block.gated_role _, (s.blk.keepsBut_refl _).gated (by simp)⟩

end

/-! ### The ACKs still owed (R482, R484) -/

section
variable (b : Block)

theorem Block.byReplica_setBuckets (n k : Nat) (l : List Nat) : b.byReplica (b.setBuckets n k l) := by
  unfold Block.setBuckets
  have h : b.byReplica (({ b with mac := { b.mac with accounts := Store.put (fun _ => []) b.mac.accounts (4 * n + k) l } } : Block).set
      (Reg.PT_BUD_ACC_ACCOUNT n k)
      (({ b with mac := { b.mac with accounts := Store.put (fun _ => []) b.mac.accounts (4 * n + k) l } } : Block).account n k)) :=
    (b.byReplica_withMac _).trans (Block.byReplica_set _ _ _)
  exact (h.trans (Block.byReplica_replicate _ _ _ _ _)).ite h

theorem Block.byReplica_chargeBand (n k micros : Nat) : b.byReplica (b.chargeBand n k micros) := by
  unfold Block.chargeBand
  split <;> exact b.byReplica_setBuckets _ _ _

theorem Block.byReplica_recharge (bank : Nat) : b.byReplica (b.recharge bank) := ⟨rfl, rfl, rfl, rfl, rfl⟩

theorem Block.byReplica_reportPred : b.byReplica b.reportPred :=
  ((Block.byReplica.foldl _ _ b fun d _ => d.byReplica_set _ _).trans (.foldl _ _ _ fun d _ => d.byReplica_set _ _)).trans
    (Block.byReplica_set _ _ _)

theorem Block.byReplica_showZout (n code bands : Nat) : b.byReplica (b.showZout n code bands) := by
  unfold Block.showZout
  exact ((b.byReplica_set _ _).trans (Block.byReplica_set _ _ _)).ite (b.byReplica_set _ _)

theorem Block.byReplica_deferG3 (x : Tx) : b.byReplica (b.deferG3 x) := by
  unfold Block.deferG3
  exact b.byReplica_refl.ite (.foldl _ _ _ fun d _ => (d.byReplica_inc _).ite d.byReplica_refl)

theorem Block.byReplica_driveCells (x : Tx) (n : Nat) : b.byReplica (b.driveCells x n) := by
  unfold Block.driveCells
  split
  · exact b.byReplica_refl
  · exact .foldl _ _ _ fun d _ => d.byReplica_sendCell _ _ _ _

theorem Block.byReplica_putTx (x : Tx) : b.byReplica (b.putTx x) := by
  unfold Block.putTx
  extract_lets m d1 d2 d3 d4
  have h1 : b.byReplica d1 := b.byReplica_withMac _
  have h2 : b.byReplica d2 := (h1.trans (.foldl _ _ _ fun d _ => d.byReplica_showZout _ _ _)).trans (Block.byReplica_deferG3 _ x)
  clear_value d1 d2
  have h3 : b.byReplica d3 := h2.trans (.foldl _ _ _ fun d _ => .foldl _ _ _ fun e _ => e.byReplica_chargeBand _ _ _)
  have h4 : b.byReplica d4 := h3.trans (.foldl _ _ _ fun d _ => d.byReplica_recharge _)
  clear_value d3 d4
  exact (h4.trans d4.byReplica_reportPred).trans (.foldl _ _ _ fun d _ => d.byReplica_driveCells _ _)

theorem Block.byReplica_nextRdv (x : Nat) (wakes : Option Nat) : b.byReplica (b.nextRdv x wakes) := by
  unfold Block.nextRdv
  split
  · exact b.byReplica_refl
  · exact (b.byReplica_setExt _ _).trans (Block.byReplica_modNode _ _ _)

theorem Block.byReplica_rdvKept (x : Nat) (start : Bearing) : b.byReplica (b.rdvKept x start) := by
  unfold Block.rdvKept
  extract_lets c
  have hc : b.byReplica c := b.byReplica_modNode _ _
  clear_value c
  split
  · exact hc
  · exact hc.ite (hc.trans (c.byReplica_nextRdv _ _))

theorem Block.byReplica_sendAck (x : Nat) (h : Heard) (m : MacHeader) (lead : Nat) : b.byReplica (b.sendAck x h m lead).1 := by
  unfold Block.sendAck
  dsimp only
  split
  · exact b.byReplica_refl
  · split
    · exact b.byReplica_refl
    · split
      · exact b.byReplica_refl
      · split
        · exact b.byReplica_refl
        · exact (((b.byReplica_withMac _).trans (Block.byReplica_modNode _ _ _)).trans (Block.byReplica_putTx _ _)).trans
            (Block.byReplica_rdvKept _ _ _)

theorem Block.byReplica_setTx (num : Nat) (f : Tx → Tx) : b.byReplica (b.setTx num f) := b.byReplica_withMac _

/-- The ACKs of a port are sent: none is owed on it any more, and the ports stay. -/
theorem Block.answerHeld_shows (n : Nat) : (b.answerHeld n).ports = b.ports ∧ (b.answerHeld n).dev = b.dev ∧
    (b.answerHeld n).chain.heldAcks = b.chain.heldAcks.filter (fun h => h.port != n) := by
  unfold Block.answerHeld
  extract_lets mine ch c
  have hc : c.ports = b.ports ∧ c.dev = b.dev ∧ c.chain.heldAcks = b.chain.heldAcks.filter fun h => h.port != n := ⟨rfl, rfl, rfl⟩
  clear_value ch c mine
  obtain ⟨hports, hdev, hacks⟩ := hc
  have hfold : c.byReplica (mine.foldl (fun b h =>
      match b.sendAck h.node { port := h.port, sb := h.sb, reception := h.reception, frame := h.frame, mac := h.mac, clean := true }
        (MacHeader.ofBytes h.mac) 8000 with
      | (b, some num) => h.passed.foldl (fun b i => b.ackParcel num i) b
      | (b, none) => b) c) := .foldl _ _ _ fun d h => by
    have hs := d.byReplica_sendAck h.node
      { port := h.port, sb := h.sb, reception := h.reception, frame := h.frame, mac := h.mac, clean := true }
      (MacHeader.ofBytes h.mac) 8000
    split
    · rename_i e num he
      rw [he] at hs
      exact hs.trans (.foldl _ _ _ fun f _ => f.byReplica_setTx _ _)
    · rename_i e he
      rw [he] at hs
      exact hs
  exact ⟨hfold.ports.trans hports, hfold.dev.trans hdev, hfold.heldAcks.trans hacks⟩

theorem Block.answerHeld_none {n : Nat} (h : ∀ x ∈ b.chain.heldAcks, x.port ≠ n) : (b.answerHeld n).regs = b.regs := by
  have hmine : b.chain.heldAcks.filter (fun x => x.port == n) = [] := by
    refine List.filter_eq_nil_iff.2 fun x hx => ?_
    simpa using h x hx
  unfold Block.answerHeld
  dsimp only
  rw [hmine]
  rfl

end

section
variable {s : State} {port : Fin 24}

theorem completes_pairedPortClose (hrole : s.blk.chain.role = .master) (hon : s.blk.on (Reg.LP_CTRL_PAIRED port) = true)
    (hdev : s.blk.dev = .service) : Completes (.pairedPortClose port) s fun b =>
      (b.port port).closeWaits = false ∧ (∀ h ∈ b.chain.heldAcks, h.port ≠ port) ∧
      ((∀ h ∈ s.blk.chain.heldAcks, h.port ≠ port) → s.blk.keepsBut b []) := by
  have hexec : exec (.pairedPortClose port) s = .next { s with blk :=
      ((s.blk.setPort port { s.blk.port port with closeWaits := false }).answerHeld port).gated } := by
    show execPairedPortClose port s = _
    unfold execPairedPortClose
    rw [answer_of_wf rfl, if_pos (by simp [hrole, hon])]
  refine completes_of_next hexec ?_
  generalize hc : s.blk.setPort port { s.blk.port port with closeWaits := false } = c
  have hregs : c.regs = s.blk.regs := by rw [← hc]; rfl
  have hacks0 : c.chain.heldAcks = s.blk.chain.heldAcks := by rw [← hc]; rfl
  have hcdev : c.dev = .service := by rw [← hc, ← hdev]; rfl
  have hclose : (c.port port).closeWaits = false := by
    rw [← hc, Block.port_setPort]
    simp
  obtain ⟨hports, hd, hacks⟩ := c.answerHeld_shows port
  rw [Block.gated_service _ (hd.trans hcdev), hacks]
  refine ⟨?_, fun h hh => ?_, fun hnone => ?_⟩
  · have hport : (c.answerHeld port).port port = c.port port := by
      unfold Block.port
      rw [hports]
    rw [hport, hclose]
  · simpa using (List.mem_filter.1 hh).2
  · exact (s.blk.keepsBut_refl []).of_regs ((c.answerHeld_none (by rw [hacks0]; exact hnone)).trans hregs)

theorem completes_pairedPortClose_idle (h : s.blk.chain.role ≠ .master ∨ s.blk.on (Reg.LP_CTRL_PAIRED port) = false) :
    Completes (.pairedPortClose port) s fun b => s.blk.keepsBut b [Reg.SP_STAT 1] := by
  have hexec : exec (.pairedPortClose port) s = .next { s with blk := s.blk.gated } := by
    show execPairedPortClose port s = _
    unfold execPairedPortClose
    rw [answer_of_wf rfl, if_neg]
    rcases h with h | h
    · simp [h]
    · simp [h]
  exact completes_keepsBut_idle hexec rfl

end

/-- Settles O56: sync lost, isolation, wrapping, the partner's cells, the takeover and the closing of its ports. -/
theorem chainKeepsRunning : Obligations.ChainKeepsRunning := by
  intro s ring cell c port
  refine ⟨fun hen hhold hdue h => ⟨fun hrole => completes_syncLost_member hen hhold hdue h hrole,
      fun hready hreset => completes_syncLost_standby hen hhold hdue h hready hreset⟩,
    fun h => completes_syncLost_early h,
    fun hrole hjoined => ⟨fun p h hp hready => completes_isolated hrole hjoined h hp hready, fun h => completes_not_isolated hrole h⟩,
    fun hh => completes_lossOfSignal hh, fun hh => completes_lossOfSignal_deaf hh,
    fun hok hh hc hkind hdst hoff => completes_wrapReceived hok hh hc hkind hdst hoff,
    fun h => completes_ringUnwrap_failed h, fun h hw => completes_ringUnwrap_fed h hw,
    fun p hp hen hrank hpaired hby hw => completes_pairSend hp hen hrank hpaired hby hw,
    fun h hp => completes_pairReceived h hp, fun h hport => ?_, fun h => completes_rxdoneReceived h,
    completes_heldParcelExpiry, fun h hp hhome hup hl => ⟨fun hwhat => completes_replDone h hp hhome hup hl hwhat,
      fun hwhat => completes_replCore h hp hhome hup hl hwhat⟩,
    fun hrole hdue hreset => completes_takeover hrole hdue hreset, fun hdue => completes_takeover_idle hdue,
    fun hrole hon hdev => completes_pairedPortClose hrole hon hdev, fun h => completes_pairedPortClose_idle h⟩
  rw [← hport]
  exact ⟨fun hdrives hflags => ⟨fun hfits => completes_drive_begun h hdrives hflags (hport ▸ port.isLt) hfits,
    fun hfits => completes_drive_refused h hdrives hflags hfits⟩, fun hdrives => completes_drive_deaf h hdrives⟩

end Sys2Proof.Machine

/-!
The commands of the rings, as they are taken up and completed: what a command's completion writes (R353 to R366).
-/

namespace Sys2Proof.Machine

/-! ### A command taken up -/

/-- The block with the command taken out of those fetched. -/
def Block.taken (b : Block) (c : Cmd) : Block := { b with strata := { b.strata with fetched := b.strata.fetched.erase c } }

theorem Block.taken_postsTo {b : Block} (c : Cmd) {fn : Nat} (h : b.postsTo fn) : (b.taken c).postsTo fn := h

theorem Block.runCmd_eq {b : Block} {ring opcode : Nat} {c : Cmd} (h : b.runs ring opcode c) (f : Cmd → Block → Block) :
    b.runCmd ring opcode f = f c (b.taken c) := by
  obtain ⟨hfind, hop, -, hcut, -⟩ := h
  unfold Block.runCmd
  rw [hfind]
  dsimp only
  rw [if_pos ⟨hop, by rw [hcut]; rfl⟩]
  rfl

theorem Block.runDmaCmd_eq {b : Block} {ring opcode : Nat} {c : Cmd} (h : b.runs ring opcode c) (f : Cmd → Block → Block) :
    b.runDmaCmd ring opcode f = f c (b.taken c) := by
  have hrun := Block.runCmd_eq h f
  obtain ⟨hfind, -, -, -, hstill, -⟩ := h
  unfold Block.runDmaCmd
  rw [hfind]
  dsimp only
  rw [hstill, if_neg (by decide), hrun]

theorem Block.pageRuns.cipherCmd_eq {b : Block} {ring opcode : Nat} {c : Cmd} {page : Nat} (h : b.pageRuns ring opcode c page)
    (f : Nat → Block → Block) : (b.taken c).cipherCmd c f = f page (b.taken c) := by
  obtain ⟨⟨-, hop, -⟩, hpage, hle, hfn, hok, hlink, hother⟩ := h
  have hfn' : (b.taken c).pageFn page = c.fn := hfn
  unfold Block.cipherCmd
  dsimp only
  rw [hpage, if_neg (by omega), hfn', if_neg (by simp), hok, hop, if_neg]
  by_cases hp : page = linkPage
  · simp [hp, hlink hp]
  · simp [hp, hother hp]

theorem Block.postsTo.not_silent {b : Block} {fn : Nat} (h : b.postsTo fn) : b.dev.silent = false := by
  obtain ⟨-, -, hconv, -⟩ := h
  unfold Block.converses at hconv
  cases hd : b.dev <;> rw [hd] at hconv
  case settle => rfl
  case service => rfl
  case hold => rfl
  all_goals cases hconv

/-! ### What a completion writes -/

theorem Block.moveRing_rd (b : Block) (q : Nat) (wr rd : Word) {off : Nat} (h : off ∉ queueRegs q) :
    (b.moveRing q wr rd).rd off = b.rd off := by
  simp only [queueRegs, List.mem_cons, List.not_mem_nil, or_false, not_or] at h
  obtain ⟨hwr, hrd, hhi, hcnt⟩ := h
  rw [Block.rd_of_regs (Block.moveRing_regs _ _ _ _) off, Block.countCrossings_rd _ _ _ _ hhi hcnt]
  unfold Block.setPointers
  dsimp only
  unfold Block.setOn
  rw [Block.rd_set_other _ (Reg.QD_BASE_HI_FULL q) _ _ hhi, Block.rd_wr_other _ _ hrd, Block.rd_wr_other _ _ hwr]

theorem Block.postEntry_rd (b : Block) (e : CplEntry) {off : Nat} (h : off ∉ queueRegs e.ring) : (b.postEntry e).rd off = b.rd off := by
  rw [Block.postEntry_eq, Block.rd_of_regs (Block.raise_regs _ _ _), Block.moveRing_rd _ _ _ _ h,
    Block.rd_of_regs (b.entryStored_regs e)]

theorem Block.complete_keepsBut {b : Block} {c : Cmd} (h : b.postsTo c.fn) (status flags : Nat) (result : List Byte) :
    b.keepsBut (b.complete c status result flags) (queueRegs c.cpl) := fun off hoff => by
  rw [Block.complete_of_postsTo h]
  exact b.postEntry_rd (cplOf c status flags result) hoff

theorem le_of_mem_queueRegs {q off : Nat} (h : off ∈ queueRegs q) : 0x200000 ≤ off := by
  simp only [queueRegs, List.mem_cons, List.not_mem_nil, or_false] at h
  rcases h with rfl | rfl | rfl | rfl <;> simp only [Reg.QD_WR, Reg.QD_RD, Reg.QD_BASE_HI, Reg.QD_CNT] <;> omega

theorem Block.complete_dev (b : Block) (c : Cmd) (status flags : Nat) (result : List Byte) :
    (b.complete c status result flags).dev = b.dev := show (Block.core _).dev = b.core.dev by rw [Block.core_complete]

theorem Block.cx_of_core {b c : Block} (h : c.core = b.core) : c.cx = b.cx := show c.core.cx = b.core.cx by rw [h]

theorem Block.complete_cx (b : Block) (c : Cmd) (status flags : Nat) (result : List Byte) :
    (b.complete c status result flags).cx = b.cx := Block.cx_of_core (Block.core_complete _ _ _ _ _)

/-- A completion adds one write to host memory. -/
theorem Block.complete_dmaWrites {b : Block} {c : Cmd} (h : b.postsTo c.fn) (status flags : Nat) (result : List Byte) :
    ∃ w, (b.complete c status result flags).host.dmaWrites = b.host.dmaWrites ++ [w] := by
  rw [Block.complete_of_postsTo h, Block.postEntry_dmaWrites]
  exact ⟨_, rfl⟩

section
variable {s : State} {i : Instr} {c : Cmd}

/-- A command whose block is left to the output stages after its completion. -/
theorem Block.completed_shows {b : Block} (h : b.postsTo c.fn) (status flags : Nat) (result : List Byte) :
    (b.complete c status result flags).gated.posted c status flags result ∧
      b.keepsBut (b.complete c status result flags).gated (queueRegs c.cpl) ∧
      (b.complete c status result flags).gated.cx = b.cx := by
  refine ⟨(Block.complete_posted h _ _ _).gated, (Block.complete_keepsBut h _ _ _).gated_of_not_silent ?_, ?_⟩
  · rw [Block.complete_dev]
    exact h.not_silent
  · rw [Block.gated_cx, Block.complete_cx]

end

end Sys2Proof.Machine

/-!
Contexts, keys, random bytes and check values (R389 to R425).
-/

namespace Sys2Proof.Machine

/-! ### A context set -/

theorem Block.replicate_strata (b : Block) (what index : Nat) (old new : List Byte) :
    (b.replicate what index old new).strata = b.strata := by
  unfold Block.replicate
  split
  · rfl
  · refine foldl_part Block.strata _ (fun c i => ?_) _ b
    split
    · rfl
    · unfold Block.sendPiece
      split
      · rw [Block.sendCell_strata, Block.inc_strata]
      · rfl

theorem Block.refreshPage_strata (b : Block) (page : Nat) : (b.refreshPage page).strata = b.strata := by
  unfold Block.refreshPage
  dsimp only
  split <;> rw [Block.setAll_strata, Block.set_strata]

theorem Block.setCtx_strata (b : Block) (page n : Nat) (x : Ctx) : (b.setCtx page n x).strata = b.strata := by
  unfold Block.setCtx
  dsimp only
  split
  · rw [Block.replicate_strata, Block.refreshPage_strata]
  · rw [Block.refreshPage_strata]

theorem Block.byReplica_setCtx (b : Block) (page n : Nat) (x : Ctx) : b.byReplica (b.setCtx page n x) := by
  have h : ∀ y : CipherSt, b.byReplica (Block.refreshPage { b with cx := y } page) := fun y =>
    Block.byReplica.trans (c := { b with cx := y }) ⟨rfl, rfl, rfl, rfl, rfl⟩ (Block.byReplica_refreshPage _ _)
  unfold Block.setCtx
  exact ((h _).trans (Block.byReplica_replicate _ _ _ _ _)).ite (h _)

theorem Block.setCtx_cx (b : Block) (page n : Nat) (x : Ctx) : (b.setCtx page n x).cx =
    { b.cx with ctxs := Store.put (fun _ => Ctx.closed) b.cx.ctxs (page * 2 ^ 19 + n) x } := by
  unfold Block.setCtx
  dsimp only
  split
  · have h := Block.frame_replicate (Block.refreshPage { b with cx :=
      { b.cx with ctxs := Store.put (fun _ => Ctx.closed) b.cx.ctxs (page * 2 ^ 19 + n) x } } page) replCtx n
      (b.ctx page n).toBytes x.toBytes
    have hcx := congrArg (fun c : Block => c.cx) h
    exact hcx.trans (Block.refreshPage_cx _ _)
  · exact Block.refreshPage_cx _ _

theorem Block.ctx_of_cx {b c : Block} (h : c.cx = b.cx) (page n : Nat) : c.ctx page n = b.ctx page n := by
  unfold Block.ctx
  rw [h]

theorem Block.setCtx_ctx (b : Block) (page n : Nat) (x : Ctx) : (b.setCtx page n x).ctx page n = x := by
  unfold Block.ctx
  rw [Block.setCtx_cx]
  exact Store.get_put_same _ _ _ _

theorem cxPage_ge (page k : Nat) : 0x180000 ≤ Reg.cxPage page + k := by
  unfold Reg.cxPage
  split <;> omega

/-- A register that belongs to no page of contexts. -/
def offPages (off : Nat) : Prop := off < 0x180000 ∨ 0x199000 ≤ off

theorem ne_page_of_offPages {page k off : Nat} (h : offPages off) (hk : k < 0x1000) : off ≠ Reg.cxPage page + k := by
  unfold offPages at h
  unfold Reg.cxPage
  split <;> omega

theorem Block.setCtx_rd_off (b : Block) (page n : Nat) (x : Ctx) {off : Nat} (h : offPages off) (hr : off ≠ Reg.TRV_REPL_SEQ) :
    (b.setCtx page n x).rd off = b.rd off :=
  b.setCtx_rd page n off x (ne_page_of_offPages h (by decide)) (ne_page_of_offPages h (by decide)) hr

theorem offPages_of_postReg {off : Nat} (h : off ∈ [Reg.GLB_FROZEN, Reg.GLB_WEDGED, Reg.QF_PAUSED, Reg.HIF_FN_STAT, Reg.HIF_LINK]) :
    offPages off ∧ off ≠ Reg.TRV_REPL_SEQ := by
  simp only [List.mem_cons, List.not_mem_nil, or_false] at h
  unfold offPages
  rcases h with rfl | rfl | rfl | rfl | rfl <;> decide

theorem Block.setCtx_postsTo {b : Block} {fn : Nat} (h : b.postsTo fn) (page n : Nat) (x : Ctx) : (b.setCtx page n x).postsTo fn :=
  h.congr (b.byReplica_setCtx page n x).dev (b.setCtx_strata page n x) fun _ hoff => b.setCtx_rd_off page n x
    (offPages_of_postReg hoff).1 (offPages_of_postReg hoff).2

theorem Block.taken_ctx (b : Block) (c : Cmd) (page n : Nat) : (b.taken c).ctx page n = b.ctx page n := rfl

theorem Block.post_postsTo {b : Block} {fn : Nat} (h : b.postsTo fn) (code sev src : Nat) (args : List (Nat × Nat)) :
    (b.post code sev src args).postsTo fn :=
  h.congr (Block.post_dev _ _ _ _ _) (Block.post_strata _ _ _ _ _) fun off hoff => Block.rd_post _ _ _ _ _ _ (by revert off; decide)

section
variable {s : State} {ring : QNum} {c : Cmd} {page : Nat} {d : List Byte}

/-- A cipher command of the rings that takes effect in the block alone. -/
theorem completes_pageRuns {i : Instr} {opcode : Nat} {f : Cmd → Nat → Block → Block} {P : Block → Prop}
    (hc : exec i s = .next { s with blk := (s.blk.runCmd ring.toNat opcode fun c b => b.cipherCmd c fun page b => f c page b).gated })
    (h : s.blk.pageRuns ring.toNat opcode c page) (hP : P (f c page (s.blk.taken c)).gated) : Completes i s P := by
  refine completes_of_next hc ?_
  rw [Block.runCmd_eq h.1, h.cipherCmd_eq]
  exact hP

theorem exec_ctxOpen (ring : QNum) (s : State) : exec (.ctxOpen ring) s = .next { s with blk :=
    (s.blk.runCmd ring.toNat 0x30 fun c b => b.cipherCmd c fun page b => b.ctxOpen c page).gated } := rfl

theorem exec_ctxClose (ring : QNum) (s : State) : exec (.ctxClose ring) s = .next { s with blk :=
    (s.blk.runCmd ring.toNat 0x31 fun c b => b.cipherCmd c fun page b => b.ctxClose c page).gated } := rfl

theorem exec_rekey (ring : QNum) (s : State) : exec (.rekey ring) s = .next { s with blk :=
    (s.blk.runCmd ring.toNat 0x32 fun c b => b.cipherCmd c fun page b => b.rekey c page).gated } := rfl

theorem Block.pageRuns.postsTo {b : Block} {ring opcode : Nat} (h : b.pageRuns ring opcode c page) : b.postsTo c.fn := h.1.2.2.2

/-- What a refusal leaves: the contexts and every register but those of the completion ring. -/
theorem Block.refused_shows {b : Block} (h : b.postsTo c.fn) (status : Nat) :
    ((b.taken c).complete c status []).gated.cx = b.cx ∧ ((b.taken c).complete c status []).gated.posted c status 0 [] ∧
      b.keepsBut ((b.taken c).complete c status []).gated (queueRegs c.cpl) := by
  obtain ⟨hposted, hkeeps, hcx⟩ := Block.completed_shows (b := b.taken c) (Block.taken_postsTo c h) status 0 []
  exact ⟨hcx, hposted, hkeeps⟩

/-- What a command shows that sets a context and completes. -/
theorem Block.ctxDone_shows {b : Block} (h : b.postsTo c.fn) (n : Nat) (x : Ctx) (status : Nat) :
    (((b.taken c).setCtx page n x).complete c status []).gated.ctx page n = x ∧
      (((b.taken c).setCtx page n x).complete c status []).gated.posted c status 0 [] := by
  obtain ⟨hposted, -, hcx⟩ := Block.completed_shows (Block.setCtx_postsTo (Block.taken_postsTo c h) page n x) status 0 []
  exact ⟨(Block.ctx_of_cx hcx page n).trans (Block.setCtx_ctx _ _ _ _), hposted⟩

/-! ### CTX_OPEN, CTX_CLOSE (R393) -/

theorem completes_ctxOpen (h : s.blk.pageRuns ring.toNat 0x30 c page)
    (hok : s.blk.openOk page (c.le 0x14 4) (openedCtx c page (c.le 0x14 4)) (c.le 0x34 1) = true)
    (h0 : (s.blk.ctx page (c.le 0x14 4)).state = 0)
    (hnode : page = linkPage → c.le 0x14 4 < g3CtxBase → (s.blk.node (c.le 0x14 4 / 2)).state ≠ 0 ∧
      (s.blk.node (c.le 0x14 4 / 2)).long = (openedCtx c page (c.le 0x14 4)).long)
    (hslot : page = linkPage → g3CtxBase ≤ c.le 0x14 4 → s.blk.slotServes (openedCtx c page (c.le 0x14 4)).slot = false) :
    Completes (.ctxOpen ring) s fun b => b.ctx page (c.le 0x14 4) = openedCtx c page (c.le 0x14 4) ∧
      (b.ctx page (c.le 0x14 4)).state = 1 ∧ (b.ctx page (c.le 0x14 4)).next = 1 ∧ b.posted c 0 0 [] := by
  refine completes_pageRuns (exec_ctxOpen ring s) h ?_
  have heq : (s.blk.taken c).ctxOpen c page =
      ((s.blk.taken c).setCtx page (c.le 0x14 4) (openedCtx c page (c.le 0x14 4))).complete c stOK [] := by
    have hok' : (s.blk.taken c).openOk page (c.le 0x14 4) (openedCtx c page (c.le 0x14 4)) (c.le 0x34 1) = true := hok
    unfold Block.ctxOpen
    extract_lets n x link
    rw [hok', if_neg (by decide), if_neg, if_neg]
    · rintro ⟨hl, hne⟩
      simp only [link, Bool.and_eq_true, beq_iff_eq, decide_eq_true_eq] at hl
      exact hne (hnode hl.1 hl.2).2
    · rintro (hst | ⟨hl, hst⟩ | ⟨hp, hg, hserves⟩)
      · exact hst h0
      · simp only [link, Bool.and_eq_true, beq_iff_eq, decide_eq_true_eq] at hl
        exact (hnode hl.1 hl.2).1 hst
      · exact Bool.false_ne_true ((hslot hp hg).symm.trans hserves)
  rw [heq]
  obtain ⟨hctx, hposted⟩ := Block.ctxDone_shows (page := page) h.postsTo (c.le 0x14 4) (openedCtx c page (c.le 0x14 4)) stOK
  rw [hctx]
  exact ⟨rfl, rfl, rfl, hposted⟩

theorem completes_ctxOpen_refused (h : s.blk.pageRuns ring.toNat 0x30 c page)
    (hok : s.blk.openOk page (c.le 0x14 4) (openedCtx c page (c.le 0x14 4)) (c.le 0x34 1) = true)
    (h0 : (s.blk.ctx page (c.le 0x14 4)).state ≠ 0) :
    Completes (.ctxOpen ring) s fun b => b.ctx page (c.le 0x14 4) = s.blk.ctx page (c.le 0x14 4) ∧ b.posted c 1 0 [] ∧
      s.blk.keepsBut b (queueRegs c.cpl) := by
  refine completes_pageRuns (exec_ctxOpen ring s) h ?_
  have heq : (s.blk.taken c).ctxOpen c page = (s.blk.taken c).complete c stStateReject [] := by
    have hok' : (s.blk.taken c).openOk page (c.le 0x14 4) (openedCtx c page (c.le 0x14 4)) (c.le 0x34 1) = true := hok
    unfold Block.ctxOpen
    dsimp only
    rw [hok', if_neg (by decide), if_pos (.inl h0)]
  obtain ⟨hcx, hposted, hkeeps⟩ := Block.refused_shows h.postsTo stStateReject
  rw [heq]
  exact ⟨Block.ctx_of_cx hcx _ _, hposted, hkeeps⟩

theorem completes_ctxOpen_invalid (h : s.blk.pageRuns ring.toNat 0x30 c page)
    (hok : s.blk.openOk page (c.le 0x14 4) (openedCtx c page (c.le 0x14 4)) (c.le 0x34 1) = false) :
    Completes (.ctxOpen ring) s fun b => b.cx.ctxs = s.blk.cx.ctxs ∧ b.posted c 2 0 [] ∧ s.blk.keepsBut b (queueRegs c.cpl) := by
  refine completes_pageRuns (exec_ctxOpen ring s) h ?_
  have heq : (s.blk.taken c).ctxOpen c page = (s.blk.taken c).complete c stInvalid [] := by
    have hok' : (s.blk.taken c).openOk page (c.le 0x14 4) (openedCtx c page (c.le 0x14 4)) (c.le 0x34 1) = false := hok
    unfold Block.ctxOpen
    dsimp only
    rw [hok', if_pos (by decide)]
  obtain ⟨hcx, hposted, hkeeps⟩ := Block.refused_shows h.postsTo stInvalid
  rw [heq, hcx]
  exact ⟨rfl, hposted, hkeeps⟩

theorem completes_ctxClose (h : s.blk.pageRuns ring.toNat 0x31 c page) (hn : c.le 0x14 4 < ctxCount page)
    (h3 : (s.blk.ctx page (c.le 0x14 4)).state ≠ 3) :
    Completes (.ctxClose ring) s fun b => b.ctx page (c.le 0x14 4) = Ctx.closed ∧ b.posted c 0 0 [] := by
  refine completes_pageRuns (exec_ctxClose ring s) h ?_
  have heq : (s.blk.taken c).ctxClose c page = ((s.blk.taken c).setCtx page (c.le 0x14 4) .closed).complete c stOK [] := by
    unfold Block.ctxClose
    dsimp only
    rw [if_neg (by omega), Block.taken_ctx, if_neg h3]
  rw [heq]
  exact Block.ctxDone_shows h.postsTo _ _ _

theorem completes_ctxClose_retired (h : s.blk.pageRuns ring.toNat 0x31 c page) (hn : c.le 0x14 4 < ctxCount page)
    (h3 : (s.blk.ctx page (c.le 0x14 4)).state = 3) :
    Completes (.ctxClose ring) s fun b => b.ctx page (c.le 0x14 4) = s.blk.ctx page (c.le 0x14 4) ∧ b.posted c 1 0 [] ∧
      s.blk.keepsBut b (queueRegs c.cpl) := by
  refine completes_pageRuns (exec_ctxClose ring s) h ?_
  have heq : (s.blk.taken c).ctxClose c page = (s.blk.taken c).complete c stStateReject [] := by
    unfold Block.ctxClose
    dsimp only
    rw [if_neg (by omega), Block.taken_ctx, if_pos h3]
  obtain ⟨hcx, hposted, hkeeps⟩ := Block.refused_shows h.postsTo stStateReject
  rw [heq]
  exact ⟨Block.ctx_of_cx hcx _ _, hposted, hkeeps⟩

/-! ### REKEY (R400) -/

theorem Block.rekey_eq {b : Block} (hn : c.le 0x14 4 < ctxCount page)
    (hst : (b.ctx page (c.le 0x14 4)).state = 1 ∨ (b.ctx page (c.le 0x14 4)).state = 2) : b.rekey c page =
      (b.rekeyCtx page (c.le 0x14 4)).1.cipherDone c page (if (b.rekeyCtx page (c.le 0x14 4)).2 then stNonceExhausted else stOK) [] := by
  unfold Block.rekey
  dsimp only
  rw [if_neg (by omega), if_neg (by omega)]

theorem completes_rekey (h : s.blk.pageRuns ring.toNat 0x32 c page) (hn : c.le 0x14 4 < ctxCount page)
    (hst : (s.blk.ctx page (c.le 0x14 4)).state = 1 ∨ (s.blk.ctx page (c.le 0x14 4)).state = 2)
    (hgen : (s.blk.ctx page (c.le 0x14 4)).gen ≠ 0xFFFFFF) :
    Completes (.rekey ring) s fun b => b.ctx page (c.le 0x14 4) = { s.blk.ctx page (c.le 0x14 4) with
      state := 1, gen := (s.blk.ctx page (c.le 0x14 4)).gen + 1, next := 1, due := false } ∧ b.posted c 0 0 [] := by
  refine completes_pageRuns (exec_rekey ring s) h ?_
  have hctx : (s.blk.taken c).ctx page (c.le 0x14 4) = s.blk.ctx page (c.le 0x14 4) := rfl
  have hre : (s.blk.taken c).rekeyCtx page (c.le 0x14 4) = ((s.blk.taken c).setCtx page (c.le 0x14 4) { s.blk.ctx page (c.le 0x14 4) with
      state := 1, gen := (s.blk.ctx page (c.le 0x14 4)).gen + 1, next := 1, due := false }, false) := by
    unfold Block.rekeyCtx
    rw [hctx]
    exact if_neg hgen
  rw [Block.rekey_eq hn (hctx ▸ hst), hre]
  exact Block.ctxDone_shows h.postsTo _ _ _

theorem completes_rekey_exhausted (h : s.blk.pageRuns ring.toNat 0x32 c page) (hn : c.le 0x14 4 < ctxCount page)
    (hst : (s.blk.ctx page (c.le 0x14 4)).state = 1 ∨ (s.blk.ctx page (c.le 0x14 4)).state = 2)
    (hgen : (s.blk.ctx page (c.le 0x14 4)).gen = 0xFFFFFF) :
    Completes (.rekey ring) s fun b => b.ctx page (c.le 0x14 4) = { s.blk.ctx page (c.le 0x14 4) with state := 3, due := false } ∧
      b.posted c 5 0 [] ∧ b.get (Reg.CX_PAGE_STAT_RETIRED_SEEN page) = 1 ∧
      b.get (Reg.CX_NONCE_EXH_COUNT page) = (s.blk.get (Reg.CX_NONCE_EXH_COUNT page) + 1) % 2 ^ 32 := by
  refine completes_pageRuns (exec_rekey ring s) h ?_
  have hctx : (s.blk.taken c).ctx page (c.le 0x14 4) = s.blk.ctx page (c.le 0x14 4) := rfl
  generalize hx : ({ s.blk.ctx page (c.le 0x14 4) with state := 3, due := false } : Ctx) = x
  generalize hb1 : (s.blk.taken c).setCtx page (c.le 0x14 4) x = b1
  generalize hb2 : (b1.set (Reg.CX_PAGE_STAT_RETIRED_SEEN page) 1).post 0x0B03 2 0x43 [(1, page), (3, c.le 0x14 4)] = b2
  have hre : (s.blk.taken c).rekeyCtx page (c.le 0x14 4) = (b2, true) := by
    rw [← hb2, ← hb1, ← hx]
    unfold Block.rekeyCtx
    rw [hctx]
    exact if_pos hgen
  have hlow := cxPage_ge page
  have hhigh : ∀ k, k < 0x100 → Reg.cxPage page + k < 0x1C0000 := cxPage_lt page
  have hpost : b2.postsTo c.fn := by
    rw [← hb2]
    have h1 : b1.postsTo c.fn := hb1 ▸ Block.setCtx_postsTo (Block.taken_postsTo c h.postsTo) _ _ _
    have h2 : (b1.set (Reg.CX_PAGE_STAT_RETIRED_SEEN page) 1).postsTo c.fn := h1.congr (Block.set_dev _ _ _) (Block.set_strata _ _ _)
      fun _ hoff => Block.rd_set_other _ _ _ _ (ne_page_of_offPages (offPages_of_postReg hoff).1 (by decide))
    exact Block.post_postsTo h2 _ _ _ _
  have hcx2 : b2.cx = b1.cx := by rw [← hb2, Block.post_cx, Block.set_cx]
  have hseen2 : b2.get (Reg.CX_PAGE_STAT_RETIRED_SEEN page) = 1 := by
    rw [← hb2, Block.get_post _ _ _ _ _ _ (notMem_recordRegs (by have := hlow 0x4; simp only [Reg.CX_PAGE_STAT]; omega)),
      Block.get_set_same _ _ _ (by simp [Field.fits])]
    rfl
  have hexh2 : b2.get (Reg.CX_NONCE_EXH_COUNT page) = s.blk.get (Reg.CX_NONCE_EXH_COUNT page) := by
    rw [← hb2, Block.get_post _ _ _ _ _ _ (notMem_recordRegs (by have := hlow 0x1C; simp only [Reg.CX_NONCE_EXH]; omega)),
      Block.get_of_rd (Block.rd_set_other _ _ _ _ (by simp only [Reg.CX_NONCE_EXH, Reg.CX_PAGE_STAT]; omega)), ← hb1]
    exact Block.get_of_rd (Block.setCtx_rd _ _ _ _ _ (by simp only [Reg.CX_NONCE_EXH, Reg.CX_PAGE_STAT]; omega)
      (by simp only [Reg.CX_NONCE_EXH, Reg.CX_DUE_CTX]; omega)
      (by have := hlow 0x1C; simp only [Reg.CX_NONCE_EXH, Reg.TRV_REPL_SEQ]; omega))
  generalize hb3 : b2.inc (Reg.CX_NONCE_EXH_COUNT page) = b3
  have heq : (s.blk.taken c).rekey c page = b3.complete c stNonceExhausted [] := by
    rw [Block.rekey_eq hn (hctx ▸ hst), hre, ← hb3]
    rfl
  have hpost3 : b3.postsTo c.fn := by
    rw [← hb3]
    exact hpost.congr (Block.inc_dev _ _) (Block.inc_strata _ _) fun _ hoff => Block.rd_inc_other _ _ _
      (ne_page_of_offPages (offPages_of_postReg hoff).1 (by decide))
  obtain ⟨hposted, hkeeps, hcx⟩ := Block.completed_shows hpost3 stNonceExhausted 0 []
  have hnot : ∀ k, k < 0x100 → Reg.cxPage page + k ∉ queueRegs c.cpl := fun k hk hm => by
    have := le_of_mem_queueRegs hm
    have := hhigh k hk
    omega
  rw [heq]
  refine ⟨?_, hposted, ?_, ?_⟩
  · have hcx1 : (b3.complete c stNonceExhausted []).gated.cx = b1.cx := by rw [hcx, ← hb3, Block.inc_cx, hcx2]
    rw [Block.ctx_of_cx hcx1, ← hb1, Block.setCtx_ctx]
  · rw [hkeeps.get (hnot 0x4 (by decide)), ← hb3,
      Block.get_of_rd (Block.rd_inc_other _ _ _ (by simp only [Reg.CX_NONCE_EXH, Reg.CX_PAGE_STAT]; omega)), hseen2]
  · rw [hkeeps.get (hnot 0x1C (by decide)), ← hb3, Block.get_inc _ _ (by simp [Field.fits]), hexh2]

theorem completes_rekey_refused (h : s.blk.pageRuns ring.toNat 0x32 c page) (hn : c.le 0x14 4 < ctxCount page)
    (hst : (s.blk.ctx page (c.le 0x14 4)).state = 0 ∨ (s.blk.ctx page (c.le 0x14 4)).state = 3) :
    Completes (.rekey ring) s fun b => b.ctx page (c.le 0x14 4) = s.blk.ctx page (c.le 0x14 4) ∧ b.posted c 1 0 [] ∧
      s.blk.keepsBut b (queueRegs c.cpl) := by
  refine completes_pageRuns (exec_rekey ring s) h ?_
  have heq : (s.blk.taken c).rekey c page = (s.blk.taken c).complete c stStateReject [] := by
    unfold Block.rekey
    dsimp only
    rw [if_neg (by omega), Block.taken_ctx, if_pos hst]
  obtain ⟨hcx, hposted, hkeeps⟩ := Block.refused_shows h.postsTo stStateReject
  rw [heq]
  exact ⟨Block.ctx_of_cx hcx _ _, hposted, hkeeps⟩

end

end Sys2Proof.Machine

/-!
Key import, random bytes, check values and the latch of a context's record (R404 to R425), and contexts and keys settled.
-/

namespace Sys2Proof.Machine

section
variable {s : State} {ring : QNum} {c : Cmd} {page : Nat} {d : List Byte}

theorem exec_keyImport (ring : QNum) (dma : DmaRead) (s : State) : exec (.keyImport ring dma) s = .next { s with blk :=
    (s.blk.runDmaCmd ring.toNat 0x35 fun c b => b.cipherCmd c fun _ b => b.keyImport c dma).gated } := rfl

theorem exec_random (ring : QNum) (s : State) : exec (.random ring) s = .next { s with blk :=
    (s.blk.runDmaCmd ring.toNat 0x36 fun c b => b.cipherCmd c fun _ b => b.random c).gated } := rfl

theorem exec_check (ring : QNum) (dma : DmaRead) (s : State) : exec (.check ring dma) s = .next { s with blk :=
    (s.blk.runDmaCmd ring.toNat 0x40 fun c b => b.checkCmd c dma).gated } := rfl

/-- A cipher command of the rings that moves data. -/
theorem completes_pageRunsDma {i : Instr} {opcode : Nat} {f : Cmd → Nat → Block → Block} {P : Block → Prop}
    (hc : exec i s = .next { s with blk := (s.blk.runDmaCmd ring.toNat opcode fun c b => b.cipherCmd c fun page b => f c page b).gated })
    (h : s.blk.pageRuns ring.toNat opcode c page) (hP : P (f c page (s.blk.taken c)).gated) : Completes i s P := by
  refine completes_of_next hc ?_
  rw [Block.runDmaCmd_eq h.1, h.cipherCmd_eq]
  exact hP

/-! ### KEY_IMPORT (R408) -/

/-- A key has been used: it is in the cache, and nothing else of the cipher moves. -/
theorem Block.touchKey_shows (b : Block) (root : Nat) (label : List Byte) :
    (∃ l, (b.touchKey root label).cx = { b.cx with cache := l }) ∧ (b.touchKey root label).dev = b.dev ∧
      (b.touchKey root label).strata = b.strata ∧ b.keepsBut (b.touchKey root label) [Reg.CX_CACHE_MISS] := by
  unfold Block.touchKey
  extract_lets hit x e
  have he : (∃ l, e.cx = { b.cx with cache := l }) ∧ e.dev = b.dev ∧ e.strata = b.strata ∧ b.keepsBut e [Reg.CX_CACHE_MISS] :=
    ⟨⟨_, rfl⟩, rfl, rfl, fun _ _ => rfl⟩
  clear_value hit e
  obtain ⟨hcx, hdev, hstrata, hkeeps⟩ := he
  split
  · exact ⟨hcx, hdev, hstrata, hkeeps⟩
  · rw [Block.inc_cx, Block.inc_dev, Block.inc_strata]
    exact ⟨hcx, hdev, hstrata, hkeeps.inc (by simp)⟩

theorem postReg_ne {off : Nat} (h : off ∈ [Reg.GLB_FROZEN, Reg.GLB_WEDGED, Reg.QF_PAUSED, Reg.HIF_FN_STAT, Reg.HIF_LINK]) :
    off ∉ [Reg.CX_CACHE_MISS] ∧ off ≠ Reg.CX_IMPORT_STAT0 ∧ off ≠ Reg.CX_IMPORT_STAT1 := by
  revert off
  decide

theorem Block.showSlot_shows (b : Block) (n : Nat) (on : Bool) : (b.showSlot n on).core = b.core ∧
    (b.showSlot n on).strata = b.strata ∧ (b.showSlot n on).dev = b.dev ∧
    ∀ off, off ≠ Reg.CX_IMPORT_STAT0 → off ≠ Reg.CX_IMPORT_STAT1 → (b.showSlot n on).rd off = b.rd off := by
  unfold Block.showSlot Block.setBit
  split
  · exact ⟨rfl, Block.set_strata _ _ _, Block.set_dev _ _ _, fun off h _ => Block.rd_set_other _ _ _ _ h⟩
  · exact ⟨rfl, Block.set_strata _ _ _, Block.set_dev _ _ _, fun off _ h => Block.rd_set_other _ _ _ _ h⟩

/-- The block with a wrapped key in a slot. -/
def Block.slotTaken (b : Block) (n : Nat) (wrapped : List Byte) : Block :=
  { b with cx := { b.cx with slots := Store.put (fun _ => []) b.cx.slots n wrapped } }

theorem completes_keyImport (h : s.blk.pageRuns ring.toNat 0x35 c page) (hn : c.le 0x14 4 < 48) (hlen : c.le 0x20 4 = 24)
    (hp : s.blk.permits linkPage 3 = true) : Completes (.keyImport ring (.data d)) s fun b =>
      if (unwrapKey (s.blk.pageKey linkPage kekLabel) (slice d 0 24)).isSome then
        Store.get (fun _ => []) b.cx.slots (c.le 0x14 4) = slice d 0 24 ∧ b.posted c 0 0 []
      else b.cx.slots = s.blk.cx.slots ∧ b.posted c 6 0 [] := by
  refine completes_pageRunsDma (f := fun c _ b => b.keyImport c (.data d)) (exec_keyImport ring (.data d) s) h ?_
  obtain ⟨⟨l, hcx⟩, hdev, hstrata, hkeeps⟩ := (s.blk.taken c).touchKey_shows ((s.blk.taken c).rootIx linkPage) kekLabel
  generalize ht : (s.blk.taken c).touchKey ((s.blk.taken c).rootIx linkPage) kekLabel = t at hcx hdev hstrata hkeeps
  have hpost : t.postsTo c.fn := (Block.taken_postsTo c h.postsTo).congr hdev hstrata fun off hoff => hkeeps off (postReg_ne hoff).1
  have hkey : t.pageKey linkPage kekLabel = s.blk.pageKey linkPage kekLabel := by
    unfold Block.pageKey Block.rootIx
    rw [hkeeps.get (by decide)]
    rfl
  have hslots : t.cx.slots = s.blk.cx.slots := by rw [hcx]; rfl
  have heq : (s.blk.taken c).keyImport c (.data d) = match unwrapKey (s.blk.pageKey linkPage kekLabel) (slice d 0 24) with
      | none => t.complete c stTagFail []
      | some _ => ((t.slotTaken (c.le 0x14 4) (slice d 0 24)).showSlot (c.le 0x14 4) true).complete c stOK [] := by
    have hp' : (s.blk.taken c).permits linkPage 3 = true := hp
    unfold Block.keyImport
    dsimp only [DmaRead.bytes?]
    rw [hp', if_neg (by simp [hlen]; omega), ht, hkey]
    rfl
  rw [heq]
  cases hu : unwrapKey (s.blk.pageKey linkPage kekLabel) (slice d 0 24) with
  | none =>
    obtain ⟨hposted, -, hcx'⟩ := Block.completed_shows hpost stTagFail 0 []
    dsimp only
    rw [if_neg (by decide), hcx', hslots]
    exact ⟨rfl, hposted⟩
  | some k =>
    obtain ⟨hcore, hst, hd, hrd⟩ := (t.slotTaken (c.le 0x14 4) (slice d 0 24)).showSlot_shows (c.le 0x14 4) true
    have hpost' : ((t.slotTaken (c.le 0x14 4) (slice d 0 24)).showSlot (c.le 0x14 4) true).postsTo c.fn :=
      Block.postsTo.congr (b := t.slotTaken (c.le 0x14 4) (slice d 0 24)) hpost hd hst fun off hoff =>
        hrd off (postReg_ne hoff).2.1 (postReg_ne hoff).2.2
    obtain ⟨hposted, -, hcx'⟩ := Block.completed_shows hpost' stOK 0 []
    dsimp only
    rw [if_pos (show (some k).isSome = true from rfl), hcx', Block.cx_of_core hcore]
    exact ⟨Store.get_put_same _ _ _ _, hposted⟩

/-! ### RANDOM (R404) -/

theorem completes_random (h : s.blk.pageRuns ring.toNat 0x36 c page) (h1 : 1 ≤ c.le 0x20 4) (h256 : c.le 0x20 4 ≤ 256)
    (hon : s.blk.cx.drbgStopped = false) : Completes (.random ring) s fun b =>
      { fn := c.fn, addr := c.le 0x38 8,
        bytes := (List.range (c.le 0x20 4)).map fun i => Config.freeByte (s.blk.drawn + i) } ∈ b.host.dmaWrites ∧
      b.posted c 0 0 [] ∧ s.blk.keepsBut b (queueRegs c.cpl) := by
  refine completes_pageRunsDma (f := fun c _ b => b.random c) (exec_random ring s) h ?_
  have hon' : (s.blk.taken c).cx.drbgStopped = false := hon
  have heq : (s.blk.taken c).random c = ((s.blk.taken c).bytesGiven c).complete c stOK [] := by
    unfold Block.random
    dsimp only
    rw [if_neg (by omega), hon', if_neg (by decide)]
    rfl
  have hpost := Block.bytesGiven_postsTo (Block.taken_postsTo c h.postsTo)
  obtain ⟨hposted, hkeeps, -⟩ := Block.completed_shows hpost stOK 0 []
  obtain ⟨w, hw⟩ := Block.complete_dmaWrites hpost stOK 0 []
  rw [heq, Block.gated_host, hw, Block.bytesGiven_dmaWrites]
  exact ⟨List.mem_append_left _ (List.mem_append_right _ List.mem_cons_self), hposted, hkeeps⟩

theorem completes_random_waits (h : s.blk.pageRuns ring.toNat 0x36 c page) (h1 : 1 ≤ c.le 0x20 4) (h256 : c.le 0x20 4 ≤ 256)
    (hoff : s.blk.cx.drbgStopped = true) : Completes (.random ring) s fun b =>
      b.cx.randoms = s.blk.cx.randoms ++ [c] ∧ b.host = s.blk.host ∧ s.blk.keepsBut b [] := by
  refine completes_pageRunsDma (f := fun c _ b => b.random c) (exec_random ring s) h ?_
  have hoff' : (s.blk.taken c).cx.drbgStopped = true := hoff
  have heq : (s.blk.taken c).random c = { s.blk.taken c with cx := { (s.blk.taken c).cx with randoms := (s.blk.taken c).cx.randoms ++ [c] } } := by
    unfold Block.random
    dsimp only
    rw [if_neg (by omega), hoff', if_pos rfl]
  rw [heq, Block.gated_cx, Block.gated_host]
  refine ⟨rfl, rfl, Block.keepsBut.gated_of_not_silent (fun _ _ => rfl) ?_⟩
  exact h.postsTo.not_silent

/-! ### CHECK (R421 to R425) -/

theorem completes_checkCmd {b' : Block} (h : s.blk.runs ring.toNat 0x40 c) {status : Nat} {result : List Byte}
    (hb : (s.blk.taken c).checkCmd c (.data d) = b') (hb' : b' = (s.blk.taken c).complete c status result) :
    Completes (.check ring (.data d)) s fun b => b.posted c status 0 result ∧ s.blk.keepsBut b (queueRegs c.cpl) := by
  refine completes_of_next (exec_check ring (.data d) s) ?_
  rw [Block.runDmaCmd_eq h, hb, hb']
  obtain ⟨hposted, hkeeps, -⟩ := Block.completed_shows (Block.taken_postsTo c h.2.2.2) status 0 result
  exact ⟨hposted, hkeeps⟩

theorem Block.checkCmd_eq {b : Block} (hunit : c.le 0x10 1 ≤ 19) (hflags : c.le 0x11 1 < 4) (h1 : 1 ≤ c.le 0x20 4)
    (hlen : c.le 0x20 4 ≤ 65536) (hused : c.le 0x10 1 < 16 → b.channelUsed (c.le 0x10 1) = true) :
    b.checkCmd c (.data d) = match b.unitDef (c.le 0x10 1) with
      | none => b.complete c stNoResource []
      | some f => b.complete c stOK (toLe 8 (if (c.le 0x11 1).testBit 1 then
          finishOf f (runningOf f (if (c.le 0x11 1).testBit 0 then c.le 0x28 8 else f.init) (slice d 0 (c.le 0x20 4)))
        else runningOf f (if (c.le 0x11 1).testBit 0 then c.le 0x28 8 else f.init) (slice d 0 (c.le 0x20 4)))) := by
  have hno : (decide (19 < c.le 0x10 1) || decide (4 ≤ c.le 0x11 1) || decide (c.le 0x20 4 < 1) || decide (65536 < c.le 0x20 4) ||
      (decide (c.le 0x10 1 < 16) && !b.channelUsed (c.le 0x10 1))) = false := by
    simp only [Bool.or_eq_false_iff, decide_eq_false_iff_not, Bool.and_eq_false_iff, Bool.not_eq_false']
    refine ⟨⟨⟨⟨by omega, by omega⟩, by omega⟩, by omega⟩, ?_⟩
    by_cases hlt : c.le 0x10 1 < 16
    · exact .inr (hused hlt)
    · exact .inl hlt
  unfold Block.checkCmd
  dsimp only [DmaRead.bytes?]
  rw [hno]
  exact if_neg (by decide)

/-! ### The record of a context latched (R389) -/

theorem Block.reaches_of_pageReached {b : Block} {p : Nat} (h : b.pageReached p = true) : b.dev.silent = false := by
  unfold Block.pageReached at h
  rw [Bool.or_eq_true, Bool.and_eq_true] at h
  rcases h with h | h
  · exact Block.not_silent_of_reaches h
  · exact Block.not_silent_of_reaches h.2

theorem completes_ctxRecordLatch {p : Fin 17} {v : Word} (h : s.blk.pageReached p = true) (hv : v.toNat % 2 ^ 19 < ctxCount linkPage) :
    Completes (.ctxRecordLatch p v) s fun b => b.get (Reg.CX_CTX_SEL_CTX p) = v.toNat % 2 ^ 19 ∧
      (∀ i, i < 8 → b.rd (Reg.CX_CTX_DATA p i) = BitVec.ofNat 32 (leAt (s.blk.ctx p (v.toNat % 2 ^ 19)).toBytes (4 * i) 4)) ∧
      s.blk.keepsBut b (Reg.CX_CTX_SEL p :: (List.range 8).map fun i => Reg.CX_CTX_DATA p i) := by
  have hexec : exec (.ctxRecordLatch p v) s = .next { s with blk := (s.blk.ctxLatch p v).gated } := by
    show execCtxRecordLatch p v s = _
    unfold execCtxRecordLatch
    rw [answer_of_wf rfl, if_pos h]
  refine completes_of_next hexec ?_
  have heq : s.blk.ctxLatch p v = (s.blk.set (Reg.CX_CTX_SEL_CTX p) (v.toNat % 2 ^ 19)).wrRow (Reg.CX_CTX_DATA p)
      (fun i => BitVec.ofNat 32 (leAt (s.blk.ctx p (v.toNat % 2 ^ 19)).toBytes (4 * i) 4)) 8 := by
    unfold Block.ctxLatch
    dsimp only
    rw [if_neg (by omega)]
    rfl
  rw [heq]
  generalize hw : (fun i => BitVec.ofNat 32 (leAt (s.blk.ctx p (v.toNat % 2 ^ 19)).toBytes (4 * i) 4)) = w
  have hsilent : ((s.blk.set (Reg.CX_CTX_SEL_CTX p) (v.toNat % 2 ^ 19)).wrRow (Reg.CX_CTX_DATA p) w 8).dev.silent = false := by
    rw [Block.wrRow_dev, Block.set_dev]
    exact Block.reaches_of_pageReached h
  have hkeep : (s.blk.set (Reg.CX_CTX_SEL_CTX p) (v.toNat % 2 ^ 19)).keepsBut
      ((s.blk.set (Reg.CX_CTX_SEL_CTX p) (v.toNat % 2 ^ 19)).wrRow (Reg.CX_CTX_DATA p) w 8)
      ((List.range 8).map fun i => Reg.CX_CTX_DATA p i) :=
    (Block.keepsBut_refl _ _).wrRow _ _ _ fun i hi => List.mem_map_of_mem (List.mem_range.2 hi)
  have hsel : Reg.CX_CTX_SEL p ∉ (List.range 8).map fun i => Reg.CX_CTX_DATA p i := fun hm => by
    obtain ⟨i, -, hi⟩ := List.mem_map.1 hm
    simp only [Reg.CX_CTX_DATA, Reg.CX_CTX_SEL] at hi
    omega
  refine ⟨?_, fun i hi => ?_, ?_⟩
  · rw [Block.gated_get_of_not_silent hsilent, hkeep.get hsel, Block.get_set_same _ _ _ (by simp [Field.fits])]
    exact Nat.mod_mod _ _
  · have hrow := Block.wrRow_rd (s.blk.set (Reg.CX_CTX_SEL_CTX p) (v.toNat % 2 ^ 19)) (Reg.CX_CTX_DATA p) w
      (fun i j hij => by simp only [Reg.CX_CTX_DATA] at hij; omega) hi
    have hg := Block.keepsBut.gated_of_not_silent (Block.keepsBut_refl ((s.blk.set (Reg.CX_CTX_SEL_CTX p) (v.toNat % 2 ^ 19)).wrRow
      (Reg.CX_CTX_DATA p) w 8) []) hsilent
    rw [hg _ (by simp), hrow, ← hw]
  · have h1 : s.blk.keepsBut (s.blk.set (Reg.CX_CTX_SEL_CTX p) (v.toNat % 2 ^ 19))
        (Reg.CX_CTX_SEL p :: (List.range 8).map fun i => Reg.CX_CTX_DATA p i) := (Block.keepsBut_refl _ _).set _ (by simp)
    exact (h1.trans (hkeep.mono (by intro x hx; exact .tail _ hx))).gated_of_not_silent hsilent

end

/-- Settles O51: contexts, keys, random bytes, check values and the latch of a record. -/
theorem keysAndContexts : Obligations.KeysAndContexts := by
  intro s ring c page d
  refine ⟨fun h => ⟨fun hok => ⟨fun h0 hnode hslot => completes_ctxOpen h hok h0 hnode hslot,
      fun h0 => completes_ctxOpen_refused h hok h0⟩, fun hok => completes_ctxOpen_invalid h hok⟩,
    fun h hn => ⟨fun h3 => completes_ctxClose h hn h3, fun h3 => completes_ctxClose_retired h hn h3⟩,
    fun h hn => ⟨fun hst => ⟨fun hgen => completes_rekey h hn hst hgen, fun hgen => completes_rekey_exhausted h hn hst hgen⟩,
      fun hst => completes_rekey_refused h hn hst⟩,
    fun h hn hlen hp => completes_keyImport h hn hlen hp,
    fun h h1 h256 => ⟨fun hon => completes_random h h1 h256 hon, fun hoff => completes_random_waits h h1 h256 hoff⟩,
    fun h => ⟨fun hunit hflags h1 hlen hused => ⟨fun f hf => ?_, fun hf => ?_⟩, fun hunit => ?_⟩,
    fun p v h hv => completes_ctxRecordLatch h hv⟩
  · refine completes_checkCmd h (Block.checkCmd_eq hunit hflags h1 hlen hused) ?_
    have hf' : (s.blk.taken c).unitDef (c.le 0x10 1) = some f := hf
    rw [hf']
    rfl
  · refine completes_checkCmd h (Block.checkCmd_eq hunit hflags h1 hlen hused) ?_
    have hf' : (s.blk.taken c).unitDef (c.le 0x10 1) = none := hf
    rw [hf']
    rfl
  · refine completes_checkCmd h rfl ?_
    unfold Block.checkCmd
    dsimp only
    rw [if_pos (by simp [hunit])]
    rfl

end Sys2Proof.Machine

/-!
Entries posted on the completion rings (R348, R361, R366): what they leave of the queues. A ring is of kind 2; the queues of
parcels and of bytes are of kind 3 and 4, and no entry touches them.
-/

namespace Sys2Proof.Machine

/-! ### Writes to host memory -/

theorem Block.pend_dmaWrites (b : Block) (f : Field) : (b.pend f).host.dmaWrites = b.host.dmaWrites := by
  unfold Block.pend Block.raiseFixed
  split
  · rfl
  · split
    · rw [Block.raise_dmaWrites, Block.set_host]
    · rw [Block.set_host]

theorem Block.journalWrite_dmaWrites (b : Block) (r : FbRecord) (k : Nat) (hours age : Word) :
    (b.journalWrite r k hours age).host.dmaWrites = b.host.dmaWrites := by
  unfold Block.journalWrite
  dsimp only
  split
  · rw [Block.pend_dmaWrites, Block.inc_host]
  · rw [Block.setAll_host]

theorem Block.post_dmaWrites (b : Block) (code sev src : Nat) (args : List (Nat × Nat)) :
    (b.post code sev src args).host.dmaWrites = b.host.dmaWrites := by
  have hnotify : ∀ c : Block, (c.notifyRecord sev).host.dmaWrites = c.host.dmaWrites := fun c => by
    unfold Block.notifyRecord
    split
    · exact c.raise_dmaWrites _ _
    · rfl
  unfold Block.post
  dsimp only
  rw [hnotify]
  split
  · rw [Block.journalWrite_dmaWrites, Block.takeSlot_host]
  · rw [Block.takeSlot_host]

/-! ### Pointers and entries -/

theorem Block.countCrossings_strata (b : Block) (q old : Nat) : (b.countCrossings q old).strata = b.strata := by
  unfold Block.countCrossings
  dsimp only
  split <;> split <;> simp only [Block.incSat_strata, Block.set_strata]

theorem Block.countCrossings_host (b : Block) (q old : Nat) : (b.countCrossings q old).host = b.host := by
  unfold Block.countCrossings
  dsimp only
  split <;> split <;> simp only [Block.incSat_host, Block.set_host]

theorem Block.setPointers_strata (b : Block) (q : Nat) (wr rd : Word) : (b.setPointers q wr rd).strata = b.strata := by
  unfold Block.setPointers
  dsimp only
  rw [Block.setOn_strata, Block.wr_strata, Block.wr_strata]

theorem Block.setPointers_host (b : Block) (q : Nat) (wr rd : Word) : (b.setPointers q wr rd).host = b.host := by
  unfold Block.setPointers
  dsimp only
  rw [Block.setOn_host, Block.wr_host, Block.wr_host]

theorem Block.postEntry_strata (b : Block) (e : CplEntry) : (b.postEntry e).strata = (b.entryStored e).strata := by
  have hraise : ∀ (x : Block) (p : Prop) [Decidable p] (fn v : Nat), (if p then x.raise fn v else x).strata = x.strata :=
    fun x p _ fn v => by split <;> simp only [Block.raise_strata]
  rw [Block.postEntry_eq, Block.raise_strata]
  unfold Block.moveRing
  dsimp only
  rw [hraise, hraise, Block.countCrossings_strata, Block.setPointers_strata]

/-! ### What serving the rings leaves -/

/-- A register of a completion ring. -/
def Block.ringReg (b : Block) (off : Nat) : Prop := ∃ r, b.qKind r = 2 ∧ off ∈ queueRegs r

/-- Entries have been posted on rings, and registers of `S` written: the core, the other registers, the kinds of the queues, the
queues that are no rings and the conversations are as they were, and what was written to host memory stays. -/
structure Block.serves (S : Nat → Prop) (b c : Block) : Prop where
  core : c.core = b.core
  regs : Block.writesIn (fun off => S off ∨ b.ringReg off) b c
  kind : ∀ q, c.qKind q = b.qKind q
  queue : ∀ q, b.qKind q ≠ 2 → c.q q = b.q q
  conv : c.strata.conv = b.strata.conv
  writes : ∃ l, c.host.dmaWrites = b.host.dmaWrites ++ l

theorem Block.serves_refl (S : Nat → Prop) (b : Block) : Block.serves S b b :=
  ⟨rfl, Block.writesIn_refl _ b, fun _ => rfl, fun _ _ => rfl, rfl, [], (List.append_nil _).symm⟩

theorem Block.ringReg_congr {b c : Block} (h : ∀ q, c.qKind q = b.qKind q) (off : Nat) : c.ringReg off ↔ b.ringReg off := by
  unfold Block.ringReg
  simp only [h]

theorem Block.qKind_of_rd {b c : Block} {q : Nat} (h : c.rd (Reg.QD_CFG q) = b.rd (Reg.QD_CFG q)) : c.qKind q = b.qKind q :=
  Block.get_of_rd (f := Reg.QD_CFG_KIND q) h

theorem not_mem_queueRegs_cfg (q r : Nat) : Reg.QD_CFG q ∉ queueRegs r := by
  simp only [queueRegs, Reg.QD_CFG, Reg.QD_WR, Reg.QD_RD, Reg.QD_BASE_HI, Reg.QD_CNT, List.mem_cons, List.not_mem_nil, or_false]
  omega

theorem Block.setQ_q_same (b : Block) (q : Nat) (st : QueueSt) : (b.setQ q st).q q = st := Store.get_put_same _ _ _ _

section
variable {S : Nat → Prop} {b c d : Block} (h : Block.serves S b c)
include h

theorem Block.serves.trans (h' : Block.serves S c d) : Block.serves S b d := by
  obtain ⟨l, hl⟩ := h.writes
  obtain ⟨m, hm⟩ := h'.writes
  have hregs : Block.writesIn (fun off => S off ∨ b.ringReg off) c d :=
    h'.regs.mono fun off => Or.imp id (Block.ringReg_congr h.kind off).1
  exact ⟨h'.core.trans h.core, h.regs.trans hregs, fun q => (h'.kind q).trans (h.kind q),
    fun q hq => (h'.queue q (h.kind q ▸ hq)).trans (h.queue q hq), h'.conv.trans h.conv, l ++ m, by rw [hm, hl, List.append_assoc]⟩

/-- A step that leaves the queues and host memory alone, and of the registers all but those of `S`. -/
theorem Block.serves.step (hcore : d.core = c.core) (hregs : Block.writesIn S c d) (hcfg : ∀ q, ¬ S (Reg.QD_CFG q))
    (hstrata : d.strata = c.strata) (hdma : d.host.dmaWrites = c.host.dmaWrites) : Block.serves S b d :=
  h.trans ⟨hcore, hregs.mono fun _ => .inl, fun q => Block.qKind_of_rd (hregs _ (hcfg q)),
    fun q _ => by unfold Block.q; rw [hstrata], by rw [hstrata], [], by rw [hdma, List.append_nil]⟩

theorem Block.serves.postEntry {e : CplEntry} (he : b.qKind e.ring = 2) : Block.serves S b (c.postEntry e) := by
  have hrd : ∀ off, off ∉ queueRegs e.ring → (c.postEntry e).rd off = c.rd off := fun off hoff => Block.postEntry_rd _ _ hoff
  have hst := c.postEntry_strata e
  refine h.trans ⟨Block.core_postEntry _ _, fun off hoff => hrd off fun hm => hoff (.inr ⟨e.ring, (h.kind _).trans he, hm⟩),
    fun q => Block.qKind_of_rd (hrd _ (not_mem_queueRegs_cfg _ _)), fun q hq => ?_, by rw [hst]; rfl, _,
    Block.postEntry_dmaWrites _ _⟩
  have hne : q ≠ e.ring := fun heq => hq (heq ▸ (h.kind _).trans he)
  unfold Block.q
  rw [hst]
  exact Store.get_put_other _ _ _ hne

theorem Block.serves.drainNotices : Block.serves S b c.drainNotices := by
  have hfold : ∀ (l : List Notice) (acc : Block × List Notice), Block.serves S b acc.1 → Block.serves S b
      (l.foldl (fun (acc : Block × List Notice) n =>
        let (b, kept) := acc
        match b.ringOf n.queue, b.qOwner n.queue with
        | some ring, some fn =>
          if b.cutOff fn then (b, kept)
          else if b.still fn || !b.converses || !b.ringRoom ring || b.strata.backlog.any (fun e => e.ring == ring) then
            (b, kept ++ [n])
          else (b.postEntry (noticeEntry fn ring n), kept)
        | _, _ => (b, kept)) acc).1 := fun l => by
    induction l with
    | nil => exact fun _ hacc => hacc
    | cons n l ih =>
      intro acc hacc
      refine ih _ ?_
      obtain ⟨x, kept⟩ := acc
      dsimp only at hacc ⊢
      split
      · rename_i ring fn hring hown
        split
        · exact hacc
        · split
          · exact hacc
          · have hkind : x.qKind ring = 2 := by
              unfold Block.ringOf at hring
              dsimp only at hring
              split at hring
              · rename_i hq
                obtain rfl := Option.some.inj hring
                exact hq.1
              · cases hring
            exact hacc.postEntry ((hacc.kind _).symm.trans hkind)
      · exact hacc
  have hout := hfold c.strata.notices (c, []) h
  exact ⟨hout.core, hout.regs, hout.kind, hout.queue, hout.conv, hout.writes⟩

theorem Block.serves.notify (q kind : Nat) : Block.serves S b (c.notify q kind) := by
  unfold Block.notify
  split
  · exact h
  · exact Block.serves.drainNotices ⟨h.core, h.regs, h.kind, h.queue, h.conv, h.writes⟩

theorem Block.serves.ite {p : Prop} [Decidable p] (h' : Block.serves S b d) : Block.serves S b (if p then c else d) := by
  split
  · exact h
  · exact h'

theorem Block.serves.set {f : Field} (v : Nat) (hf : S f.off) (hcfg : ∀ q, ¬ S (Reg.QD_CFG q)) : Block.serves S b (c.set f v) :=
  h.step (Block.core_set _ _ _) ((Block.writesIn_refl _ c).set v hf) hcfg (Block.set_strata _ _ _) (by rw [Block.set_host])

theorem Block.serves.wr {off : Nat} (v : Word) (hf : S off) (hcfg : ∀ q, ¬ S (Reg.QD_CFG q)) : Block.serves S b (c.wr off v) :=
  h.step (Block.core_wr _ _ _) ((Block.writesIn_refl _ c).wr v hf) hcfg (Block.wr_strata _ _ _) (by rw [Block.wr_host])

theorem Block.serves.post (code sev src : Nat) (args : List (Nat × Nat)) (hS : ∀ off ∈ recordRegs, S off)
    (hcfg : ∀ q, ¬ S (Reg.QD_CFG q)) : Block.serves S b (c.post code sev src args) :=
  h.step (Block.core_post _ _ _ _ _) ((Block.writesIn_refl _ c).post _ _ _ _ hS) hcfg (Block.post_strata _ _ _ _ _)
    (Block.post_dmaWrites _ _ _ _ _)

end

/-! ### The pointers of a queue moved -/

/-- A queue with its pointers moved and its crossings counted; nobody told. -/
def Block.pointed (b : Block) (q : Nat) (wr rd : Word) : Block := (b.setPointers q wr rd).countCrossings q (b.qFill q)

/-- The mark of a queue is lost when its pointers move. -/
def Block.losesMark (b : Block) (q : Nat) (wr : Word) : Prop :=
  b.hostProduced q = true ∧ b.on (Reg.QD_BASE_HI_MARK_VALID q) = true ∧ b.qSize q ≤ (wr - b.qMark q).toNat

theorem Block.pointed_strata (b : Block) (q : Nat) (wr rd : Word) : (b.pointed q wr rd).strata = b.strata :=
  (Block.countCrossings_strata _ _ _).trans (Block.setPointers_strata _ _ _ _)

theorem Block.pointed_host (b : Block) (q : Nat) (wr rd : Word) : (b.pointed q wr rd).host = b.host :=
  (Block.countCrossings_host _ _ _).trans (Block.setPointers_host _ _ _ _)

theorem Block.pointed_core (b : Block) (q : Nat) (wr rd : Word) : (b.pointed q wr rd).core = b.core :=
  (Block.core_countCrossings _ _ _).trans (Block.core_setPointers _ _ _ _)

theorem Block.pointed_wr (b : Block) (q : Nat) (wr rd : Word) : (b.pointed q wr rd).qWr q = wr := by
  unfold Block.qWr Block.pointed
  rw [Block.countCrossings_rd _ _ _ _ (by simp [Reg.QD_WR, Reg.QD_BASE_HI]) (by simp [Reg.QD_WR, Reg.QD_CNT]), Block.setPointers_wr]

theorem Block.pointed_qRd (b : Block) (q : Nat) (wr rd : Word) : (b.pointed q wr rd).qRd q = rd := by
  unfold Block.qRd Block.pointed
  rw [Block.countCrossings_rd _ _ _ _ (by simp [Reg.QD_RD, Reg.QD_BASE_HI]) (by simp [Reg.QD_RD, Reg.QD_CNT])]
  unfold Block.setPointers
  dsimp only
  unfold Block.setOn
  rw [Block.rd_set_other _ (Reg.QD_BASE_HI_FULL q) _ _ (by simp [Reg.QD_RD, Reg.QD_BASE_HI]), Block.rd_wr_same]

theorem Block.pointed_get (b : Block) (q : Nat) (wr rd : Word) {f : Field} (hf : spares f q) : (b.pointed q wr rd).get f = b.get f :=
  (Block.countCrossings_get _ _ _ hf).trans (Block.setPointers_get _ _ _ _ hf)

theorem Block.pointed_keepsBut (b : Block) (q : Nat) (wr rd : Word) : b.keepsBut (b.pointed q wr rd) (queueRegs q) := fun off hoff => by
  simp only [queueRegs, List.mem_cons, List.not_mem_nil, or_false, not_or] at hoff
  obtain ⟨hwr, hrd, hhi, hcnt⟩ := hoff
  unfold Block.pointed
  rw [Block.countCrossings_rd _ _ _ _ hhi hcnt]
  unfold Block.setPointers
  dsimp only
  unfold Block.setOn
  rw [Block.rd_set_other _ (Reg.QD_BASE_HI_FULL q) _ _ hhi, Block.rd_wr_other _ _ hrd, Block.rd_wr_other _ _ hwr]

/-- A register of the descriptor of a queue that is no ring is none of a ring. -/
theorem Block.not_ringReg {b : Block} {q off : Nat} (hq : b.qKind q ≠ 2) (hoff : off / 0x20 = 0x10000 + q) : ¬ b.ringReg off := by
  rintro ⟨r, hr, hm⟩
  have hne : r ≠ q := fun e => hq (e ▸ hr)
  simp only [queueRegs, Reg.QD_WR, Reg.QD_RD, Reg.QD_BASE_HI, Reg.QD_CNT, List.mem_cons, List.not_mem_nil, or_false] at hm
  omega

theorem Block.not_ringReg_low {b : Block} {off : Nat} (hoff : off < 0x200000) : ¬ b.ringReg off := by
  rintro ⟨r, -, hm⟩
  have := le_of_mem_queueRegs hm
  omega

theorem Block.serves.rd_queue {S : Nat → Prop} {b c : Block} (h : Block.serves S b c) {q off : Nat} (hq : b.qKind q ≠ 2)
    (hoff : off / 0x20 = 0x10000 + q) (hS : ¬ S off) : c.rd off = b.rd off :=
  h.regs off fun hm => hm.elim hS (Block.not_ringReg hq hoff)

theorem Block.serves.rd_low {S : Nat → Prop} {b c : Block} (h : Block.serves S b c) {off : Nat} (hoff : off < 0x200000)
    (hS : ¬ S off) : c.rd off = b.rd off :=
  h.regs off fun hm => hm.elim hS (Block.not_ringReg_low hoff)

theorem Block.serves.mono {S T : Nat → Prop} {b c : Block} (h : Block.serves S b c) (hST : ∀ off, S off → T off) :
    Block.serves T b c :=
  ⟨h.core, h.regs.mono fun off => Or.imp (hST off) id, h.kind, h.queue, h.conv, h.writes⟩

/-- The registers that a lost mark writes. -/
def lostReg (q off : Nat) : Prop := off ∈ recordRegs ∨ off = Reg.QD_BASE_HI q

theorem not_lostReg_cfg (q r : Nat) : ¬ lostReg q (Reg.QD_CFG r) := by
  rintro (h | h)
  · exact notMem_recordRegs (by simp only [Reg.QD_CFG]; omega) h
  · simp only [Reg.QD_CFG, Reg.QD_BASE_HI] at h
    omega

/-- The watchers of a queue told of its crossings. -/
def Block.told (c : Block) (q : Nat) (hi lo : Bool) : Block :=
  if lo then (if hi then c.notify q 1 else c).notify q 2 else (if hi then c.notify q 1 else c)

theorem Block.told_serves (S : Nat → Prop) (c : Block) (q : Nat) (hi lo : Bool) : Block.serves S c (c.told q hi lo) := by
  have h1 : Block.serves S c (if hi then c.notify q 1 else c) := ((c.serves_refl S).notify q 1).ite (c.serves_refl S)
  exact (h1.notify q 2).ite h1

theorem Block.moveQueue_told (b : Block) (q : Nat) (wr rd : Word) : ∃ hi lo, b.moveQueue q wr rd =
    (let c := (b.pointed q wr rd).told q hi lo
    if c.hostProduced q && c.on (Reg.QD_BASE_HI_MARK_VALID q) && c.qSize q ≤ (wr - c.qMark q).toNat then
      (((c.set (Reg.QD_BASE_HI_MARK_VALID q) 0).set (Reg.QD_BASE_HI_MARK_LOST q) 1).post 0x0A02 1 0x42 [(2, q)]).notify q 4
    else c) := ⟨_, _, rfl⟩

theorem spares_cfg (f : Field) (q : Nat) (hf : f.off = Reg.QD_CFG q) : spares f q := by
  simp [spares, Field.apart, hf, Reg.QD_CFG, Reg.QD_BASE_HI, Reg.QD_WR, Reg.QD_RD, Reg.QD_CNT]

theorem spares_markValid (q : Nat) : spares (Reg.QD_BASE_HI_MARK_VALID q) q := by
  simp [spares, Field.apart, Reg.QD_BASE_HI, Reg.QD_WR, Reg.QD_RD, Reg.QD_CNT]

theorem Block.pointed_qKind (b : Block) (q : Nat) (wr rd : Word) (r : Nat) : (b.pointed q wr rd).qKind r = b.qKind r :=
  Block.qKind_of_rd (b.pointed_keepsBut q wr rd _ (not_mem_queueRegs_cfg _ _))

theorem Block.pointed_qMark (b : Block) (q : Nat) (wr rd : Word) : (b.pointed q wr rd).qMark q = b.qMark q :=
  b.pointed_keepsBut q wr rd _ (by
    simp only [queueRegs, Reg.QD_MARK, Reg.QD_WR, Reg.QD_RD, Reg.QD_BASE_HI, Reg.QD_CNT, List.mem_cons, List.not_mem_nil, or_false]
    omega)

/-- A move of the pointers of a queue that is no ring: beyond the pointers it serves the rings, and may lose the mark. -/
theorem Block.moveQueue_serves {b : Block} {q : Nat} (wr rd : Word) :
    Block.serves (lostReg q) (b.pointed q wr rd) (b.moveQueue q wr rd) := by
  obtain ⟨hi, lo, heq⟩ := b.moveQueue_told q wr rd
  have htold := (b.pointed q wr rd).told_serves (lostReg q) q hi lo
  rw [heq]
  exact ((((htold.set 0 (.inr rfl) (not_lostReg_cfg q)).set 1 (.inr rfl) (not_lostReg_cfg q)).post _ _ _ _ (fun _ h => .inl h)
    (not_lostReg_cfg q)).notify q 4).ite htold

theorem Block.moveQueue_serves_kept {b : Block} {q : Nat} (hq : b.qKind q ≠ 2) {wr : Word} (rd : Word) (hkept : ¬ b.losesMark q wr) :
    Block.serves (fun _ => False) (b.pointed q wr rd) (b.moveQueue q wr rd) := by
  obtain ⟨hi, lo, heq⟩ := b.moveQueue_told q wr rd
  have htold := (b.pointed q wr rd).told_serves (fun _ => False) q hi lo
  have hq' : (b.pointed q wr rd).qKind q ≠ 2 := by rwa [Block.pointed_qKind]
  rw [heq]
  dsimp only
  generalize (b.pointed q wr rd).told q hi lo = c at htold
  have hget : ∀ f : Field, f.off / 0x20 = 0x10000 + q → spares f q → c.get f = b.get f := fun f hoff hf =>
    (Block.get_of_rd (htold.rd_queue hq' hoff id)).trans (b.pointed_get q wr rd hf)
  have hmark : c.qMark q = b.qMark q :=
    (htold.rd_queue hq' (by simp only [Reg.QD_MARK]; omega) id).trans (b.pointed_qMark q wr rd)
  have hprod : c.hostProduced q = b.hostProduced q := by
    unfold Block.hostProduced Block.qKind
    rw [hget (Reg.QD_CFG_KIND q) (by simp only [Reg.QD_CFG]; omega) (spares_cfg _ _ rfl),
      hget (Reg.QD_CFG_PROD q) (by simp only [Reg.QD_CFG]; omega) (spares_cfg _ _ rfl)]
  have hvalid : c.on (Reg.QD_BASE_HI_MARK_VALID q) = b.on (Reg.QD_BASE_HI_MARK_VALID q) := by
    unfold Block.on
    rw [hget _ (by simp only [Reg.QD_BASE_HI]; omega) (spares_markValid q)]
  have hsize : c.qSize q = b.qSize q := by
    unfold Block.qSize
    rw [hget (Reg.QD_CFG_SIZE_LOG2 q) (by simp only [Reg.QD_CFG]; omega) (spares_cfg _ _ rfl)]
  rw [hprod, hvalid, hsize, hmark, if_neg]
  · exact htold
  · simp only [Bool.and_eq_true, decide_eq_true_eq]
    exact fun hh => hkept ⟨hh.1.1, hh.1.2, hh.2⟩

/-! ### Completions where the rings are served -/

theorem Block.postEntry_backlog (b : Block) (e : CplEntry) : (b.postEntry e).strata.backlog = b.strata.backlog := by
  rw [Block.postEntry_strata]
  rfl

theorem Block.drainNotices_backlog (b : Block) : b.drainNotices.strata.backlog = b.strata.backlog := by
  refine Eq.trans (b := (b.strata.notices.foldl _ (b, [])).1.strata.backlog) rfl
    (foldl_keeps (fun acc : Block × List Notice => acc.1.strata.backlog) _ _ _ fun acc n => ?_)
  dsimp only
  split
  · split
    · rfl
    · split
      · rfl
      · exact Block.postEntry_backlog _ _
  · rfl

theorem Block.notify_backlog (b : Block) (q kind : Nat) : (b.notify q kind).strata.backlog = b.strata.backlog := by
  unfold Block.notify
  split
  · rfl
  · exact Block.drainNotices_backlog _

theorem Block.told_backlog (c : Block) (q : Nat) (hi lo : Bool) : (c.told q hi lo).strata.backlog = c.strata.backlog := by
  unfold Block.told
  split <;> split <;> simp only [Block.notify_backlog]

theorem Block.moveQueue_backlog (b : Block) (q : Nat) (wr rd : Word) : (b.moveQueue q wr rd).strata.backlog = b.strata.backlog := by
  obtain ⟨hi, lo, heq⟩ := b.moveQueue_told q wr rd
  have htold : ((b.pointed q wr rd).told q hi lo).strata.backlog = b.strata.backlog :=
    (Block.told_backlog _ _ _ _).trans (by rw [Block.pointed_strata])
  rw [heq]
  dsimp only
  split
  · rw [Block.notify_backlog, Block.post_strata, Block.set_strata, Block.set_strata, htold]
  · exact htold

theorem Block.dev_of_core {b c : Block} (h : c.core = b.core) : c.dev = b.dev := show c.core.dev = b.core.dev by rw [h]

/-- The registers that decide where a function's completions go. -/
def postRegs : List Nat := [Reg.GLB_FROZEN, Reg.GLB_WEDGED, Reg.QF_PAUSED, Reg.HIF_FN_STAT, Reg.HIF_LINK]

theorem lt_of_mem_postRegs {off : Nat} (h : off ∈ postRegs) : off < 0x200000 := by
  revert off
  decide

theorem Block.postsTo.serves {S : Nat → Prop} {b c : Block} {fn : Nat} (h : b.postsTo fn) (hs : Block.serves S b c)
    (hS : ∀ off ∈ postRegs, ¬ S off) (hb : ∀ e ∈ c.strata.backlog, e.fn ≠ fn) : c.postsTo fn := by
  have hget : ∀ f : Field, f.off ∈ postRegs → c.get f = b.get f := fun f hf =>
    Block.get_of_rd (hs.rd_low (lt_of_mem_postRegs hf) (hS _ hf))
  obtain ⟨hcut, hstill, hconv, -⟩ := h
  refine ⟨?_, ?_, ?_, hb⟩
  · unfold Block.cutOff Block.frozen Block.bit at hcut ⊢
    rwa [hget Reg.GLB_FROZEN_MASTER (by simp [postRegs]), hget Reg.GLB_WEDGED_FN (by simp [postRegs])]
  · unfold Block.still Block.bme Block.present Block.conv Block.bit at hstill ⊢
    rwa [hs.conv, hget Reg.QF_PAUSED_FN (by simp [postRegs]), hget Reg.HIF_FN_STAT_BME (by simp [postRegs]),
      hget Reg.HIF_FN_STAT_PRESENT (by simp [postRegs])]
  · unfold Block.converses Block.on at hconv ⊢
    rwa [Block.dev_of_core hs.core, hget Reg.HIF_LINK_DL_UP (by simp [postRegs])]

theorem Block.postsTo.serves_of_backlog {S : Nat → Prop} {b c : Block} {fn : Nat} (h : b.postsTo fn) (hs : Block.serves S b c)
    (hS : ∀ off ∈ postRegs, ¬ S off) (hb : c.strata.backlog = b.strata.backlog) : c.postsTo fn :=
  h.serves hs hS fun e he => h.2.2.2 e (hb ▸ he)

theorem Block.serves.complete {S : Nat → Prop} {b c : Block} (h : Block.serves S b c) {x : Cmd} (hx : c.postsTo x.fn)
    (hk : b.qKind x.cpl = 2) (status flags : Nat) (result : List Byte) : Block.serves S b (c.complete x status result flags) := by
  rw [Block.complete_of_postsTo hx]
  exact h.postEntry (e := cplOf x status flags result) hk

theorem Block.complete_backlog {b : Block} {x : Cmd} (h : b.postsTo x.fn) (status flags : Nat) (result : List Byte) :
    (b.complete x status result flags).strata.backlog = b.strata.backlog := by
  rw [Block.complete_of_postsTo h, Block.postEntry_backlog]

end Sys2Proof.Machine

/-!
The ring commands on queues and on the flash (R355, R361, R362, R582, R583).
-/

namespace Sys2Proof.Machine

/-! ### Registers of two queues -/

theorem notMem_queueRegs {q r off : Nat} (hne : q ≠ r) (hoff : off / 0x20 = 0x10000 + q) : off ∉ queueRegs r := by
  simp only [queueRegs, Reg.QD_WR, Reg.QD_RD, Reg.QD_BASE_HI, Reg.QD_CNT, List.mem_cons, List.not_mem_nil, or_false]
  omega

theorem Block.ne_of_qKind {b : Block} {q r : Nat} (hq : b.qKind q ≠ 2) (hr : b.qKind r = 2) : q ≠ r := fun e => hq (e ▸ hr)

theorem Block.qKind_ne_of_hostProduced {b : Block} {q : Nat} (h : b.hostProduced q = true) : b.qKind q ≠ 2 := fun hk => by
  unfold Block.hostProduced at h
  rw [hk] at h
  simp at h

theorem Block.qKind_ne_of_deviceProduced {b : Block} {q : Nat} (h : b.deviceProduced q = true) : b.qKind q ≠ 2 := fun hk => by
  unfold Block.deviceProduced at h
  rw [hk] at h
  simp at h

theorem Block.not_hostProduced_of_deviceProduced {b : Block} {q : Nat} (h : b.deviceProduced q = true) : b.hostProduced q = false := by
  unfold Block.deviceProduced at h
  unfold Block.hostProduced
  simp only [Bool.and_eq_true, decide_eq_true_eq] at h
  simp only [Bool.and_eq_false_iff, decide_eq_false_iff_not]
  exact .inr (by omega)

/-- A block that stands in for another whose queues' registers and cipher are written leaves completions where they went. -/
theorem Block.postsTo.of_high {b d : Block} {fn : Nat} (h : b.postsTo fn) (hdev : d.dev = b.dev) (hstrata : d.strata = b.strata)
    (hregs : ∀ off, off < 0x200000 → d.rd off = b.rd off) : d.postsTo fn :=
  h.congr hdev hstrata fun off hoff => hregs off (lt_of_mem_postRegs hoff)

section
variable {s : State} {ring : QNum} {c : Cmd} {i : Instr} {opcode : Nat}

/-- A command of the rings that takes effect in the block alone. -/
theorem completes_runs {f : Cmd → Block → Block} {P : Block → Prop}
    (hc : exec i s = .next { s with blk := (s.blk.runCmd ring.toNat opcode f).gated }) (h : s.blk.runs ring.toNat opcode c)
    (hP : P (f c (s.blk.taken c)).gated) : Completes i s P := by
  refine completes_of_next hc ?_
  rw [Block.runCmd_eq h]
  exact hP

/-- A command of the rings that moves data. -/
theorem completes_runsDma {f : Cmd → Block → Block} {P : Block → Prop}
    (hc : exec i s = .next { s with blk := (s.blk.runDmaCmd ring.toNat opcode f).gated }) (h : s.blk.runs ring.toNat opcode c)
    (hP : P (f c (s.blk.taken c)).gated) : Completes i s P := by
  refine completes_of_next hc ?_
  rw [Block.runDmaCmd_eq h]
  exact hP

theorem Block.runs.postsTo {b : Block} {r : Nat} (h : b.runs r opcode c) : (b.taken c).postsTo c.fn :=
  Block.taken_postsTo c h.2.2.2

theorem Block.runs.cpl {b : Block} {r : Nat} (h : b.runs r opcode c) : b.qKind c.cpl = 2 := h.2.2.1

/-- A command that is answered with a status at once. -/
theorem Block.runs.refused {b : Block} {r : Nat} (h : b.runs r opcode c) (status : Nat) (result : List Byte) :
    ((b.taken c).complete c status result).gated.posted c status 0 result ∧
      b.keepsBut ((b.taken c).complete c status result).gated (queueRegs c.cpl) := by
  obtain ⟨hposted, hkeeps, -⟩ := Block.completed_shows h.postsTo status 0 result
  exact ⟨hposted, hkeeps⟩

/-! ### NOP, QSTAT, MARK and COMMIT (R361, R362) -/

theorem exec_nop (ring : QNum) (s : State) : exec (.nop ring) s = .next { s with blk :=
    (s.blk.runCmd ring.toNat 0 fun c b => b.complete c stOK []).gated } := rfl

theorem exec_qstat (ring : QNum) (s : State) : exec (.qstat ring) s = .next { s with blk :=
    (s.blk.runCmd ring.toNat 6 fun c b => b.complete c stOK
      (toLe 4 (b.qWr c.queue).toNat ++ toLe 4 (b.qRd c.queue).toNat ++ toLe 4 (b.qMark c.queue).toNat)).gated } := rfl

/-- MARK on a block (R355, R362). -/
def Block.markCmd (c : Cmd) (b : Block) : Block :=
  if !b.hostProduced c.queue then b.complete c stInvalid []
  else (((b.wr (Reg.QD_MARK c.queue) (b.qWr c.queue)).set (Reg.QD_BASE_HI_MARK_VALID c.queue) 1).set
    (Reg.QD_BASE_HI_MARK_LOST c.queue) 0).complete c stOK []

/-- COMMIT on a block (R362). -/
def Block.commitCmd (c : Cmd) (b : Block) : Block :=
  if !b.hostProduced c.queue then b.complete c stInvalid []
  else if !b.on (Reg.QD_BASE_HI_MARK_VALID c.queue) then b.complete c stStateReject []
  else (b.set (Reg.QD_BASE_HI_MARK_VALID c.queue) 0).complete c stOK []

theorem exec_mark (ring : QNum) (s : State) : exec (.mark ring) s = .next { s with blk :=
    (s.blk.runCmd ring.toNat 3 Block.markCmd).gated } := rfl

theorem exec_commit (ring : QNum) (s : State) : exec (.commit ring) s = .next { s with blk :=
    (s.blk.runCmd ring.toNat 5 Block.commitCmd).gated } := rfl

theorem completes_nop (h : s.blk.runs ring.toNat 0 c) : Completes (.nop ring) s fun b =>
    b.posted c 0 0 [] ∧ b.qWr c.cpl = s.blk.qWr c.cpl + 1 ∧ s.blk.keepsBut b (queueRegs c.cpl) := by
  refine completes_runs (exec_nop ring s) h ?_
  obtain ⟨hposted, hkeeps⟩ := h.refused stOK []
  refine ⟨hposted, ?_, hkeeps⟩
  unfold Block.qWr
  rw [Block.gated_rd_other _ _ (by simp only [Reg.QD_WR, Reg.SP_STAT]; omega), Block.complete_of_postsTo h.postsTo]
  exact Block.postEntry_wr _ _

theorem completes_qstat (h : s.blk.runs ring.toNat 6 c) : Completes (.qstat ring) s fun b =>
    b.posted c 0 0 (toLe 4 (s.blk.qWr c.queue).toNat ++ toLe 4 (s.blk.qRd c.queue).toNat ++ toLe 4 (s.blk.qMark c.queue).toNat) ∧
      s.blk.keepsBut b (queueRegs c.cpl) :=
  completes_runs (exec_qstat ring s) h (h.refused stOK _)

theorem completes_mark (h : s.blk.runs ring.toNat 3 c) (hq : s.blk.hostProduced c.queue = true) : Completes (.mark ring) s fun b =>
    b.posted c 0 0 [] ∧ b.qMark c.queue = s.blk.qWr c.queue ∧ b.on (Reg.QD_BASE_HI_MARK_VALID c.queue) = true ∧
      b.on (Reg.QD_BASE_HI_MARK_LOST c.queue) = false ∧
      s.blk.keepsBut b (Reg.QD_MARK c.queue :: Reg.QD_BASE_HI c.queue :: queueRegs c.cpl) := by
  refine completes_runs (exec_mark ring s) h ?_
  have hne : c.queue ≠ c.cpl := Block.ne_of_qKind (Block.qKind_ne_of_hostProduced hq) h.cpl
  generalize hd : (((s.blk.taken c).wr (Reg.QD_MARK c.queue) ((s.blk.taken c).qWr c.queue)).set (Reg.QD_BASE_HI_MARK_VALID c.queue) 1).set
    (Reg.QD_BASE_HI_MARK_LOST c.queue) 0 = d
  have heq : Block.markCmd c (s.blk.taken c) = d.complete c stOK [] := by
    have hq' : (s.blk.taken c).hostProduced c.queue = true := hq
    unfold Block.markCmd
    rw [hq', if_neg (by decide), hd]
  have hkeep : s.blk.keepsBut d [Reg.QD_MARK c.queue, Reg.QD_BASE_HI c.queue] := by
    rw [← hd]
    exact (((s.blk.keepsBut_refl _).wr (c := s.blk.taken c) _ (by simp)).set _ (by simp)).set _ (by simp)
  have hpost : d.postsTo c.fn := by
    refine h.postsTo.of_high ?_ ?_ fun off hoff => hkeep off (by simp only [Reg.QD_MARK, Reg.QD_BASE_HI, List.mem_cons, List.not_mem_nil, or_false]; omega)
    · rw [← hd, Block.set_dev, Block.set_dev, Block.wr_dev]
    · rw [← hd, Block.set_strata, Block.set_strata, Block.wr_strata]
  have hmark : d.qMark c.queue = s.blk.qWr c.queue := by
    unfold Block.qMark
    rw [← hd, Block.rd_set_other _ _ _ _ (by simp [Reg.QD_MARK, Reg.QD_BASE_HI]), Block.rd_set_other _ _ _ _ (by simp [Reg.QD_MARK, Reg.QD_BASE_HI]),
      Block.rd_wr_same]
    rfl
  have hvalid : d.get (Reg.QD_BASE_HI_MARK_VALID c.queue) = 1 := by
    rw [← hd, Block.get_set_apart _ _ _ _ (by simp [Field.fits]) (by simp [Field.apart]), Block.get_set_same _ _ _ (by simp [Field.fits])]
    rfl
  have hlost : d.get (Reg.QD_BASE_HI_MARK_LOST c.queue) = 0 := by
    rw [← hd, Block.get_set_same _ _ _ (by simp [Field.fits])]
    rfl
  rw [heq]
  obtain ⟨hposted, hkeeps, -⟩ := Block.completed_shows hpost stOK 0 []
  have hq' : ∀ off, off / 0x20 = 0x10000 + c.queue → (d.complete c stOK []).gated.rd off = d.rd off := fun off hoff =>
    hkeeps off (notMem_queueRegs hne hoff)
  refine ⟨hposted, (hq' _ (by simp only [Reg.QD_MARK]; omega)).trans hmark, ?_, ?_, ?_⟩
  · unfold Block.on
    rw [Block.get_of_rd (hq' _ (by simp only [Reg.QD_BASE_HI]; omega)), hvalid]
    rfl
  · unfold Block.on
    rw [Block.get_of_rd (hq' _ (by simp only [Reg.QD_BASE_HI]; omega)), hlost]
    rfl
  · exact (hkeep.mono fun x hx => by
      simp only [List.mem_cons, List.not_mem_nil, or_false] at hx ⊢
      exact hx.elim .inl fun h => .inr (.inl h)).trans (hkeeps.mono fun x hx => .tail _ (.tail _ hx))

theorem completes_commit (h : s.blk.runs ring.toNat 5 c) (hq : s.blk.hostProduced c.queue = true)
    (hv : s.blk.on (Reg.QD_BASE_HI_MARK_VALID c.queue) = true) : Completes (.commit ring) s fun b =>
      b.posted c 0 0 [] ∧ b.on (Reg.QD_BASE_HI_MARK_VALID c.queue) = false ∧
      s.blk.keepsBut b (Reg.QD_BASE_HI c.queue :: queueRegs c.cpl) := by
  refine completes_runs (exec_commit ring s) h ?_
  have hne : c.queue ≠ c.cpl := Block.ne_of_qKind (Block.qKind_ne_of_hostProduced hq) h.cpl
  generalize hd : (s.blk.taken c).set (Reg.QD_BASE_HI_MARK_VALID c.queue) 0 = d
  have heq : Block.commitCmd c (s.blk.taken c) = d.complete c stOK [] := by
    have hq' : (s.blk.taken c).hostProduced c.queue = true := hq
    have hv' : (s.blk.taken c).on (Reg.QD_BASE_HI_MARK_VALID c.queue) = true := hv
    unfold Block.commitCmd
    rw [hq', hv', if_neg (by decide), if_neg (by decide), hd]
  have hkeep : s.blk.keepsBut d [Reg.QD_BASE_HI c.queue] := by
    rw [← hd]
    exact (s.blk.keepsBut_refl _).set (c := s.blk.taken c) _ (by simp)
  have hpost : d.postsTo c.fn := by
    refine h.postsTo.of_high ?_ ?_ fun off hoff => hkeep off (by simp only [Reg.QD_BASE_HI, List.mem_cons, List.not_mem_nil, or_false]; omega)
    · rw [← hd, Block.set_dev]
    · rw [← hd, Block.set_strata]
  rw [heq]
  obtain ⟨hposted, hkeeps, -⟩ := Block.completed_shows hpost stOK 0 []
  refine ⟨hposted, ?_, (hkeep.mono fun x hx => ?_).trans (hkeeps.mono fun x hx => .tail _ hx)⟩
  · unfold Block.on
    rw [Block.get_of_rd (hkeeps _ (notMem_queueRegs hne (by simp only [Reg.QD_BASE_HI]; omega))), ← hd,
      Block.get_set_same _ _ _ (by simp [Field.fits])]
    rfl
  · simp only [List.mem_cons, List.not_mem_nil, or_false] at hx ⊢
    exact .inl hx

theorem completes_mark_refused (h : s.blk.runs ring.toNat 3 c) (hq : s.blk.hostProduced c.queue = false) :
    Completes (.mark ring) s fun b => b.posted c 2 0 [] ∧ s.blk.keepsBut b (queueRegs c.cpl) := by
  refine completes_runs (exec_mark ring s) h ?_
  have hq' : (s.blk.taken c).hostProduced c.queue = false := hq
  unfold Block.markCmd
  rw [hq', if_pos (by decide)]
  exact h.refused stInvalid []

theorem completes_commit_refused (h : s.blk.runs ring.toNat 5 c) (hq : s.blk.hostProduced c.queue = false) :
    Completes (.commit ring) s fun b => b.posted c 2 0 [] ∧ s.blk.keepsBut b (queueRegs c.cpl) := by
  refine completes_runs (exec_commit ring s) h ?_
  have hq' : (s.blk.taken c).hostProduced c.queue = false := hq
  unfold Block.commitCmd
  rw [hq', if_pos (by decide)]
  exact h.refused stInvalid []

theorem completes_commit_rejected (h : s.blk.runs ring.toNat 5 c) (hq : s.blk.hostProduced c.queue = true)
    (hv : s.blk.on (Reg.QD_BASE_HI_MARK_VALID c.queue) = false) :
    Completes (.commit ring) s fun b => b.posted c 1 0 [] ∧ s.blk.keepsBut b (queueRegs c.cpl) := by
  refine completes_runs (exec_commit ring s) h ?_
  have hq' : (s.blk.taken c).hostProduced c.queue = true := hq
  have hv' : (s.blk.taken c).on (Reg.QD_BASE_HI_MARK_VALID c.queue) = false := hv
  unfold Block.commitCmd
  rw [hq', hv', if_neg (by decide), if_pos (by decide)]
  exact h.refused stStateReject []

/-! ### FLUSH (R362) -/

/-- FLUSH on a block (R362). -/
def Block.flushCmd (c : Cmd) (b : Block) : Block :=
  if !b.deviceProduced c.queue then b.complete c stInvalid []
  else if b.on (Reg.QD_BASE_HI_MARK_VALID c.queue) || b.strata.recvs.any (fun r => r.cmd.queue == c.queue) then
    b.complete c stStateReject []
  else ((b.setQ c.queue { b.q c.queue with entries := [] }).moveQueue c.queue (b.qWr c.queue) (b.qWr c.queue)).complete c stOK []

theorem exec_flush (ring : QNum) (s : State) : exec (.flush ring) s = .next { s with blk :=
    (s.blk.runCmd ring.toNat 7 Block.flushCmd).gated } := rfl

/-- A queue moved and a command completed after it. -/
theorem Block.moved_shows {t : Block} {q : Nat} (hq : t.qKind q ≠ 2) {wr : Word} (rd : Word) (hkept : ¬ t.losesMark q wr)
    (hpost : t.postsTo c.fn) :
    (t.moveQueue q wr rd).postsTo c.fn ∧ (t.moveQueue q wr rd).qWr q = wr ∧ (t.moveQueue q wr rd).qRd q = rd ∧
      t.keepsLow (t.moveQueue q wr rd) [] ∧ ∀ r, (t.moveQueue q wr rd).qKind r = t.qKind r := by
  have hs := Block.moveQueue_serves_kept hq rd hkept
  have hkp := t.pointed_keepsBut q wr rd
  have hlow : ∀ off, off < 0x200000 → (t.pointed q wr rd).rd off = t.rd off := fun off hoff =>
    hkp off fun hm => by have := le_of_mem_queueRegs hm; omega
  have hpost' : (t.pointed q wr rd).postsTo c.fn :=
    hpost.of_high (Block.dev_of_core (Block.pointed_core _ _ _ _)) (Block.pointed_strata _ _ _ _) hlow
  have hq' : (t.pointed q wr rd).qKind q ≠ 2 := by rwa [Block.pointed_qKind]
  refine ⟨hpost'.serves_of_backlog hs (fun _ _ => id) ?_, ?_, ?_, fun off hoff _ => (hs.rd_low hoff id).trans (hlow off hoff), fun r => ?_⟩
  · rw [Block.moveQueue_backlog, Block.pointed_strata]
  · exact (hs.rd_queue hq' (by simp only [Reg.QD_WR]; omega) id).trans (Block.pointed_wr _ _ _ _)
  · exact (hs.rd_queue hq' (by simp only [Reg.QD_RD]; omega) id).trans (Block.pointed_qRd _ _ _ _)
  · rw [hs.kind, Block.pointed_qKind]

theorem completes_flush (h : s.blk.runs ring.toNat 7 c) (hq : s.blk.deviceProduced c.queue = true)
    (hv : s.blk.on (Reg.QD_BASE_HI_MARK_VALID c.queue) = false) (hr : ∀ x ∈ s.blk.strata.recvs, x.cmd.queue ≠ c.queue) :
    Completes (.flush ring) s fun b =>
      b.posted c 0 0 [] ∧ b.qRd c.queue = s.blk.qWr c.queue ∧ s.blk.keepsLow b [] := by
  refine completes_runs (exec_flush ring s) h ?_
  have hkind := Block.qKind_ne_of_deviceProduced hq
  have hne : c.queue ≠ c.cpl := Block.ne_of_qKind hkind h.cpl
  generalize ht : (s.blk.taken c).setQ c.queue { (s.blk.taken c).q c.queue with entries := [] } = t
  have hregs : t.regs = s.blk.regs := by
    rw [← ht]
    rfl
  have hkt : ∀ r, t.qKind r = s.blk.qKind r := fun r => Block.get_of_regs hregs _
  have hpost : t.postsTo c.fn := by
    rw [← ht]
    exact h.postsTo
  have hhost : ¬ t.losesMark c.queue (s.blk.qWr c.queue) := fun hl => by
    have hp : s.blk.hostProduced c.queue = true := by
      rw [← ht] at hl
      exact hl.1
    rw [Block.not_hostProduced_of_deviceProduced hq] at hp
    cases hp
  obtain ⟨hpost', -, hrd, hlow, -⟩ := Block.moved_shows (c := c) (hkt _ ▸ hkind) (s.blk.qWr c.queue) hhost hpost
  have heq : Block.flushCmd c (s.blk.taken c) = (t.moveQueue c.queue (s.blk.qWr c.queue) (s.blk.qWr c.queue)).complete c stOK [] := by
    have hq' : (s.blk.taken c).deviceProduced c.queue = true := hq
    have hv' : (s.blk.taken c).on (Reg.QD_BASE_HI_MARK_VALID c.queue) = false := hv
    have hr' : (s.blk.taken c).strata.recvs.any (fun r => r.cmd.queue == c.queue) = false := by
      rw [List.any_eq_false]
      exact fun x hx => by simpa using hr x hx
    unfold Block.flushCmd
    rw [hq', hv', hr', if_neg (by decide), if_neg (by decide), ht]
    rfl
  rw [heq]
  obtain ⟨hposted, hkeeps, -⟩ := Block.completed_shows hpost' stOK 0 []
  refine ⟨hposted, (hkeeps _ (notMem_queueRegs hne (by simp only [Reg.QD_RD]; omega))).trans hrd, fun off hoff hm => ?_⟩
  rw [hkeeps off fun hm => by have := le_of_mem_queueRegs hm; omega, hlow off hoff hm, Block.rd_of_regs hregs]

theorem completes_flush_rejected (h : s.blk.runs ring.toNat 7 c) (hq : s.blk.deviceProduced c.queue = true)
    (hv : s.blk.on (Reg.QD_BASE_HI_MARK_VALID c.queue) = true) :
    Completes (.flush ring) s fun b => b.posted c 1 0 [] ∧ s.blk.keepsBut b (queueRegs c.cpl) := by
  refine completes_runs (exec_flush ring s) h ?_
  have hq' : (s.blk.taken c).deviceProduced c.queue = true := hq
  have hv' : (s.blk.taken c).on (Reg.QD_BASE_HI_MARK_VALID c.queue) = true := hv
  unfold Block.flushCmd
  rw [hq', hv', if_neg (by decide), Bool.true_or, if_pos rfl]
  exact h.refused stStateReject []

theorem completes_flush_refused (h : s.blk.runs ring.toNat 7 c) (hq : s.blk.deviceProduced c.queue = false) :
    Completes (.flush ring) s fun b => b.posted c 2 0 [] ∧ s.blk.keepsBut b (queueRegs c.cpl) := by
  refine completes_runs (exec_flush ring s) h ?_
  have hq' : (s.blk.taken c).deviceProduced c.queue = false := hq
  unfold Block.flushCmd
  rw [hq', if_pos (by decide)]
  exact h.refused stInvalid []

end

end Sys2Proof.Machine

/-!
REWIND and the flash commands (R355, R582, R583), and the ring commands on queues settled.
-/

namespace Sys2Proof.Machine

/-! ### Completions that may have to wait -/

/-- What a drained backlog leaves: entries of its rings posted, and no entry that did not wait. -/
theorem Block.serves.drainBacklog {S : Nat → Prop} {b c : Block} (h : Block.serves S b c) (fn : Nat)
    (hk : ∀ e ∈ c.strata.backlog, b.qKind e.ring = 2) :
    Block.serves S b (c.drainBacklog fn) ∧ ∀ e ∈ (c.drainBacklog fn).strata.backlog, e ∈ c.strata.backlog := by
  have hfold : ∀ (l : List CplEntry) (acc : Block × List CplEntry), (∀ e ∈ l, e ∈ c.strata.backlog) → Block.serves S b acc.1 →
      (∀ e ∈ acc.2, e ∈ c.strata.backlog) →
      let out := l.foldl (fun (acc : Block × List CplEntry) e =>
        let (b, kept) := acc
        if e.fn != fn || kept.any (fun k => k.ring == e.ring) || !(e.owed || b.ringRoom e.ring) then (b, kept ++ [e])
        else (b.postEntry e, kept)) acc
      Block.serves S b out.1 ∧ ∀ e ∈ out.2, e ∈ c.strata.backlog := fun l => by
    induction l with
    | nil => exact fun _ _ hacc hkept => ⟨hacc, hkept⟩
    | cons e l ih =>
      intro acc hl hacc hkept
      obtain ⟨x, kept⟩ := acc
      have he := hl e List.mem_cons_self
      refine ih _ (fun y hy => hl y (List.mem_cons_of_mem _ hy)) ?_ ?_
      · dsimp only
        split
        · exact hacc
        · exact hacc.postEntry (hk e he)
      · dsimp only
        split
        · intro y hy
          rcases List.mem_append.1 hy with hy | hy
          · exact hkept y hy
          · exact List.mem_singleton.1 hy ▸ he
        · exact hkept
  obtain ⟨hout, hkept⟩ := hfold c.strata.backlog (c, []) (fun _ he => he) h fun _ he => absurd he List.not_mem_nil
  exact ⟨⟨hout.core, hout.regs, hout.kind, hout.queue, hout.conv, hout.writes⟩, hkept⟩

/-- A completion, where it may be held or join a backlog: it serves the rings, and what waits afterwards waited before, or is of
another function than one whose completions are posted at once. -/
theorem Block.serves.completeAny {S : Nat → Prop} {b c : Block} (h : Block.serves S b c) {fn : Nat} (hc : c.postsTo fn)
    (hk : ∀ e ∈ c.strata.backlog, b.qKind e.ring = 2) {x : Cmd} (hx : b.qKind x.cpl = 2) (status flags : Nat) (result : List Byte) :
    Block.serves S b (c.complete x status result flags) ∧
      ∀ e ∈ (c.complete x status result flags).strata.backlog, b.qKind e.ring = 2 ∧ e.fn ≠ fn := by
  have hfn := hc.2.2.2
  by_cases hsame : x.fn = fn
  · refine ⟨h.complete (hsame ▸ hc) hx _ _ _, fun e he => ?_⟩
    rw [Block.complete_backlog (hsame ▸ hc)] at he
    exact ⟨hk e he, hfn e he⟩
  · unfold Block.complete
    dsimp only
    split
    · exact ⟨h, fun e he => ⟨hk e he, hfn e he⟩⟩
    · split
      · exact ⟨⟨h.core, h.regs, h.kind, h.queue, h.conv, h.writes⟩, fun e he => ⟨hk e he, hfn e he⟩⟩
      · split
        · generalize hd : ({ c with strata := { c.strata with backlog := c.strata.backlog ++ [cplOf x status flags result] } } : Block) = d
          have hs : Block.serves S b d := by
            rw [← hd]
            exact ⟨h.core, h.regs, h.kind, h.queue, h.conv, h.writes⟩
          have hall : ∀ e ∈ d.strata.backlog, b.qKind e.ring = 2 ∧ e.fn ≠ fn := by
            rw [← hd]
            intro e he
            rcases List.mem_append.1 he with he | he
            · exact ⟨hk e he, hfn e he⟩
            · rw [List.mem_singleton.1 he]
              exact ⟨hx, hsame⟩
          have hdrain : Block.serves S b (d.drain x.fn) ∧ ∀ e ∈ (d.drain x.fn).strata.backlog, b.qKind e.ring = 2 ∧ e.fn ≠ fn := by
            unfold Block.drain
            split
            · exact ⟨hs, hall⟩
            · obtain ⟨hb, hmem⟩ := hs.drainBacklog x.fn fun e he => (hall e he).1
              refine ⟨hb.drainNotices, fun e he => ?_⟩
              rw [Block.drainNotices_backlog] at he
              exact hall e (hmem e he)
          rw [← hd] at hdrain
          exact hdrain
        · refine ⟨h.postEntry (e := cplOf x status flags result) hx, fun e he => ?_⟩
          have hpe := Block.postEntry_backlog c (cplOf x status flags result)
          exact ⟨hk e (hpe ▸ he), hfn e (hpe ▸ he)⟩

/-! ### SENDs withdrawn (R355) -/

/-- The one register a withdrawn SEND writes beside those of the rings. -/
def sendReg (off : Nat) : Prop := off = Reg.PT_P0_WAIT

theorem not_sendReg_cfg (q : Nat) : ¬ sendReg (Reg.QD_CFG q) := by
  unfold sendReg
  simp only [Reg.QD_CFG, Reg.PT_P0_WAIT]
  omega

theorem not_sendReg_post : ∀ off ∈ postRegs, ¬ sendReg off := by
  unfold sendReg
  decide

theorem Block.completeSend_sends (b : Block) (r : SendRec) (status : Nat) (result : List Byte) :
    (b.completeSend r status result).strata.sends = b.strata.sends.erase r := by
  unfold Block.completeSend
  exact Block.sends_of_waits _ ((Block.waits_refreshP0 _).trans (Block.waits_complete _ _ _ _ _))

theorem Block.serves.completeSend {b c : Block} (h : Block.serves sendReg b c) {fn : Nat} (hc : c.postsTo fn)
    (hk : ∀ e ∈ c.strata.backlog, b.qKind e.ring = 2) {r : SendRec} (hr : b.qKind r.cmd.cpl = 2) (status : Nat) (result : List Byte) :
    Block.serves sendReg b (c.completeSend r status result) ∧ (c.completeSend r status result).postsTo fn ∧
      ∀ e ∈ (c.completeSend r status result).strata.backlog, b.qKind e.ring = 2 := by
  generalize hd : ({ c with strata := { c.strata with sends := c.strata.sends.erase r } } : Block) = d
  have hs : Block.serves sendReg b d := by
    rw [← hd]
    exact ⟨h.core, h.regs, h.kind, h.queue, h.conv, h.writes⟩
  have hpost : d.postsTo fn := by
    rw [← hd]
    exact hc
  have hkd : ∀ e ∈ d.strata.backlog, b.qKind e.ring = 2 := by
    rw [← hd]
    exact hk
  obtain ⟨hdone, hwait⟩ := hs.completeAny hpost hkd hr status 0 result
  have heq : c.completeSend r status result = (d.complete r.cmd status result).refreshP0 := by
    rw [← hd]
    rfl
  have hself := ((Block.serves_refl sendReg d).completeAny hpost (fun e he => (hs.kind _).trans (hkd e he))
    ((hs.kind _).trans hr) status 0 result).1
  have hback : (d.complete r.cmd status result).refreshP0.strata.backlog = (d.complete r.cmd status result).strata.backlog := by
    unfold Block.refreshP0
    rw [Block.set_strata]
  rw [heq]
  refine ⟨hdone.set _ rfl not_sendReg_cfg, ?_, fun e he => (hwait e (hback ▸ he)).1⟩
  exact hpost.serves (hself.set _ rfl not_sendReg_cfg) not_sendReg_post fun e he => (hwait e (hback ▸ he)).2

/-- The sends withdrawn one after the other. -/
def Block.withdraw (b : Block) (gone : List SendRec) : Block :=
  gone.foldl (fun b r => b.completeSend r stRevoked (sendResult r.pseq r.attempts 0)) b

theorem Block.serves.withdraw {b c : Block} (h : Block.serves sendReg b c) {fn : Nat} (hc : c.postsTo fn)
    (hk : ∀ e ∈ c.strata.backlog, b.qKind e.ring = 2) (gone : List SendRec) (hg : ∀ r ∈ gone, b.qKind r.cmd.cpl = 2) :
    Block.serves sendReg b (c.withdraw gone) ∧ (c.withdraw gone).postsTo fn ∧
      (c.withdraw gone).strata.sends = c.strata.sends.diff gone := by
  unfold Block.withdraw
  induction gone generalizing c with
  | nil => exact ⟨h, hc, (List.diff_nil _).symm⟩
  | cons r gone ih =>
    obtain ⟨hs, hpost, hback⟩ := h.completeSend hc hk (hg r List.mem_cons_self) stRevoked (sendResult r.pseq r.attempts 0)
    obtain ⟨hs', hpost', hsends⟩ := ih hs hpost hback fun y hy => hg y (List.mem_cons_of_mem _ hy)
    rw [List.foldl_cons]
    exact ⟨hs', hpost', by rw [hsends, Block.completeSend_sends, List.diff_cons]⟩

/-- What is left when all that meet a condition are taken out. -/
theorem mem_diff_filter {α : Type} [DecidableEq α] {p : α → Bool} {l : List α} {x : α} (h : x ∈ l.diff (l.filter p)) :
    x ∈ l ∧ p x = false := by
  refine ⟨(List.diff_sublist _ _).subset h, Bool.eq_false_iff.2 fun hp => ?_⟩
  have hpos := List.count_pos_iff.2 h
  rw [List.count_diff, List.count_filter hp] at hpos
  omega

/-! ### REWIND (R355) -/

section
variable {s : State} {ring : QNum} {c : Cmd}

theorem exec_rewind (ring : QNum) (s : State) : exec (.rewind ring) s = .next { s with blk :=
    (s.blk.runCmd ring.toNat 4 fun c b => b.rewind c).gated } := rfl

/-- Whether a rewind withdraws a SEND. -/
def Block.withdraws (b : Block) (q : Nat) (r : SendRec) : Bool :=
  r.queue == q && !r.taken && decide ((r.ptr - b.qMark q).toNat < (b.qWr q - b.qMark q).toNat)

/-- The queue's words and entries taken back, its pointers not yet moved. -/
def Block.takenBack (b : Block) (q : Nat) : Block :=
  b.setQ q { b.q q with
    openBytes := [], openSop := false, held := none, sopNext := false, fresh := false
    entries := (b.q q).entries.filter fun e => !decide ((e.ptr - b.qMark q).toNat < (b.qWr q - b.qMark q).toNat) }

theorem Block.rewind_eq {b : Block} (hq : b.hostProduced c.queue = true) (hv : b.on (Reg.QD_BASE_HI_MARK_VALID c.queue) = true)
    (ht : b.takenPastMark c.queue = false) : b.rewind c =
      ((((b.takenBack c.queue).moveQueue c.queue (b.qMark c.queue) (b.qRd c.queue)).withdraw
        (b.strata.sends.filter (b.withdraws c.queue))).complete c stOK []) := by
  unfold Block.rewind
  dsimp only
  rw [hq, hv, ht, if_neg (by decide), if_neg (by decide)]
  rfl

theorem completes_rewind (h : s.blk.runs ring.toNat 4 c) (hq : s.blk.hostProduced c.queue = true)
    (hv : s.blk.on (Reg.QD_BASE_HI_MARK_VALID c.queue) = true) (ht : s.blk.takenPastMark c.queue = false)
    (hsends : ∀ x ∈ s.blk.strata.sends, s.blk.qKind x.cmd.cpl = 2) (hback : ∀ e ∈ s.blk.strata.backlog, s.blk.qKind e.ring = 2) :
    Completes (.rewind ring) s fun b => b.posted c 0 0 [] ∧ b.qWr c.queue = s.blk.qMark c.queue ∧
      (∀ x ∈ b.strata.sends, x ∈ s.blk.strata.sends ∧ (x.queue = c.queue → x.taken = true ∨
        (s.blk.qWr c.queue - s.blk.qMark c.queue).toNat ≤ (x.ptr - s.blk.qMark c.queue).toNat)) ∧
      s.blk.keepsLow b [Reg.PT_P0_WAIT] := by
  refine completes_runs (exec_rewind ring s) h ?_
  have hkind := Block.qKind_ne_of_hostProduced hq
  have hne : c.queue ≠ c.cpl := Block.ne_of_qKind hkind h.cpl
  rw [Block.rewind_eq (b := s.blk.taken c) hq hv ht]
  generalize hb0 : (s.blk.taken c).takenBack c.queue = b0
  have hregs : b0.regs = s.blk.regs := by
    rw [← hb0]
    rfl
  have hwaits0 : b0.strata.sends = s.blk.strata.sends ∧ b0.strata.backlog = s.blk.strata.backlog := by
    rw [← hb0]
    exact ⟨rfl, rfl⟩
  have hpost0 : b0.postsTo c.fn := by
    rw [← hb0]
    exact h.postsTo
  have hk0 : ∀ r, b0.qKind r = s.blk.qKind r := fun r => Block.get_of_regs hregs _
  have hlose : ¬ b0.losesMark c.queue (s.blk.qMark c.queue) := fun ⟨_, _, hsize⟩ => by
    have hm : b0.qMark c.queue = s.blk.qMark c.queue := Block.rd_of_regs hregs _
    rw [hm, BitVec.sub_self] at hsize
    exact absurd hsize (by simp [Block.qSize])
  obtain ⟨hpost1, hwr1, -, hlow1, hk1⟩ := Block.moved_shows (c := c) (hk0 _ ▸ hkind) (s.blk.qRd c.queue) hlose hpost0
  have hsends1 : (b0.moveQueue c.queue (s.blk.qMark c.queue) (s.blk.qRd c.queue)).strata.sends = s.blk.strata.sends :=
    (Block.sends_of_waits _ (Block.waits_moveQueue _ _ _ _)).trans hwaits0.1
  have hback1 : (b0.moveQueue c.queue (s.blk.qMark c.queue) (s.blk.qRd c.queue)).strata.backlog = s.blk.strata.backlog :=
    (Block.moveQueue_backlog _ _ _ _).trans hwaits0.2
  generalize hb1 : b0.moveQueue c.queue (s.blk.qMark c.queue) (s.blk.qRd c.queue) = b1 at hpost1 hwr1 hlow1 hk1 hsends1 hback1
  have hk : ∀ r, b1.qKind r = s.blk.qKind r := fun r => (hk1 r).trans (hk0 r)
  obtain ⟨hs2, hpost2, hsends2⟩ := (Block.serves_refl sendReg b1).withdraw hpost1
    (fun e he => (hk _).trans (hback e (hback1 ▸ he))) (s.blk.strata.sends.filter (s.blk.withdraws c.queue))
    fun r hr => (hk _).trans (hsends r (List.mem_of_mem_filter hr))
  have hb1' : b0.moveQueue c.queue ((s.blk.taken c).qMark c.queue) ((s.blk.taken c).qRd c.queue) = b1 := hb1
  have hgone : (s.blk.taken c).strata.sends.filter ((s.blk.taken c).withdraws c.queue) =
      s.blk.strata.sends.filter (s.blk.withdraws c.queue) := rfl
  rw [hb1', hgone]
  generalize hb2 : b1.withdraw (s.blk.strata.sends.filter (s.blk.withdraws c.queue)) = b2 at hs2 hpost2 hsends2
  obtain ⟨hposted, hkeeps, -⟩ := Block.completed_shows hpost2 stOK 0 []
  have hkind1 : b1.qKind c.queue ≠ 2 := by rwa [hk]
  refine ⟨hposted, ?_, fun x hx => ?_, fun off hoff hm => ?_⟩
  · have hwr2 : b2.qWr c.queue = b1.qWr c.queue :=
      hs2.rd_queue hkind1 (by simp only [Reg.QD_WR]; omega) (by simp only [sendReg, Reg.QD_WR, Reg.PT_P0_WAIT]; omega)
    exact (hkeeps _ (notMem_queueRegs hne (by simp only [Reg.QD_WR]; omega))).trans (hwr2.trans hwr1)
  · have hx' : x ∈ s.blk.strata.sends.diff (s.blk.strata.sends.filter (s.blk.withdraws c.queue)) := by
      rwa [Block.gated_strata, Block.sends_of_waits _ (Block.waits_complete _ _ _ _ _), hsends2, hsends1] at hx
    obtain ⟨hmem, hnot⟩ := mem_diff_filter hx'
    refine ⟨hmem, fun hxq => ?_⟩
    unfold Block.withdraws at hnot
    simp only [hxq, beq_self_eq_true, Bool.true_and, Bool.and_eq_false_iff, Bool.not_eq_false', decide_eq_false_iff_not, Nat.not_lt] at hnot
    exact hnot
  · rw [hkeeps off fun hm' => by have := le_of_mem_queueRegs hm'; omega,
      hs2.rd_low hoff fun he => hm (List.mem_singleton.2 he), hlow1 off hoff List.not_mem_nil, Block.rd_of_regs hregs]

theorem completes_rewind_rejected (h : s.blk.runs ring.toNat 4 c) (hq : s.blk.hostProduced c.queue = true)
    (hno : (!s.blk.on (Reg.QD_BASE_HI_MARK_VALID c.queue) || s.blk.takenPastMark c.queue) = true) :
    Completes (.rewind ring) s fun b => b.posted c 1 0 [] ∧ s.blk.keepsBut b (queueRegs c.cpl) := by
  refine completes_runs (exec_rewind ring s) h ?_
  have hq' : (s.blk.taken c).hostProduced c.queue = true := hq
  have hno' : (!(s.blk.taken c).on (Reg.QD_BASE_HI_MARK_VALID c.queue) || (s.blk.taken c).takenPastMark c.queue) = true := hno
  unfold Block.rewind
  dsimp only
  rw [hq', hno', if_neg (by decide), if_pos rfl]
  exact h.refused stStateReject []

theorem completes_rewind_refused (h : s.blk.runs ring.toNat 4 c) (hq : s.blk.hostProduced c.queue = false) :
    Completes (.rewind ring) s fun b => b.posted c 2 0 [] ∧ s.blk.keepsBut b (queueRegs c.cpl) := by
  refine completes_runs (exec_rewind ring s) h ?_
  have hq' : (s.blk.taken c).hostProduced c.queue = false := hq
  unfold Block.rewind
  dsimp only
  rw [hq', if_pos (by decide)]
  exact h.refused stInvalid []

/-! ### The flash (R582, R583) -/

theorem exec_flashErase (ring : QNum) (s : State) : exec (.flashErase ring) s = .next { s with blk :=
    (s.blk.runCmd ring.toNat 0x50 fun c b => b.flashErase c).gated } := rfl

theorem exec_flashProgram (ring : QNum) (dma : DmaRead) (s : State) : exec (.flashProgram ring dma) s = .next { s with blk :=
    (s.blk.runDmaCmd ring.toNat 0x51 fun c b => b.flashProgram c dma).gated } := rfl

theorem exec_flashRead (ring : QNum) (s : State) : exec (.flashRead ring) s = .next { s with blk :=
    (s.blk.runDmaCmd ring.toNat 0x52 fun c b => b.flashRead c).gated } := rfl

/-- The block with another content of the flash. -/
def Block.withFlash (b : Block) (flash : Store Byte) : Block := { b with host := { b.host with flash := flash } }

theorem Block.flash_of_core {b d : Block} (h : d.core = b.core) : d.host.flash = b.host.flash :=
  show d.core.host.flash = b.core.host.flash by rw [h]

theorem Block.complete_flash (b : Block) (status flags : Nat) (result : List Byte) :
    (b.complete c status result flags).gated.host.flash = b.host.flash := by
  rw [Block.gated_host]
  exact Block.flash_of_core (Block.core_complete _ _ _ _ _)

theorem Store.get_filter {α : Type} (d : Nat → α) (m : Store α) (keep : Nat → Bool) (k : Nat) :
    Store.get d (m.filter fun p => keep p.1) k = if keep k then Store.get d m k else d k := by
  induction m with
  | nil =>
    rw [List.filter_nil]
    split <;> rfl
  | cons p m ih =>
    rw [Store.get_cons]
    by_cases hp : p.1 = k
    · by_cases hk : keep k = true
      · rw [List.filter_cons_of_pos (by rw [hp]; exact hk), Store.get_cons, if_pos hp, if_pos hp, if_pos hk]
      · rw [List.filter_cons_of_neg (by rw [hp]; exact hk), ih, if_neg hk, if_neg hk]
    · rw [if_neg hp]
      by_cases hk : keep p.1 = true
      · rw [List.filter_cons_of_pos (p := fun p : Nat × α => keep p.1) hk, Store.get_cons, if_neg hp, ih]
      · rw [List.filter_cons_of_neg (p := fun p : Nat × α => keep p.1) hk, ih]

theorem Store.get_putAll {α : Type} [DecidableEq α] (d : Nat → α) (vs : List α) (m : Store α) (a k : Nat) (dflt : α) :
    Store.get d (Store.putAll d m a vs) k = if a ≤ k ∧ k < a + vs.length then vs.getD (k - a) dflt else Store.get d m k := by
  induction vs generalizing m a with
  | nil => rw [if_neg (by simp only [List.length_nil]; omega)]; rfl
  | cons v vs ih =>
    show Store.get d (Store.putAll d (Store.put d m a v) (a + 1) vs) k = _
    rw [ih, Store.get_put]
    by_cases hk : k = a
    · subst hk
      rw [if_neg (by omega), if_pos rfl, if_pos (by simp only [List.length_cons]; omega), Nat.sub_self]
      rfl
    · by_cases hin : a + 1 ≤ k ∧ k < a + 1 + vs.length
      · rw [if_pos hin, if_pos (by simp only [List.length_cons]; omega)]
        have hsub : k - a = (k - (a + 1)) + 1 := by omega
        rw [hsub, List.getD_cons_succ]
      · rw [if_neg hin, if_neg hk, if_neg (by simp only [List.length_cons]; omega)]

/-- A flash command that leaves another flash content. -/
theorem Block.flashed_shows {b : Block} (h : b.postsTo c.fn) (flash : Store Byte) :
    ((b.withFlash flash).complete c stOK []).gated.posted c 0 0 [] ∧
      b.keepsBut ((b.withFlash flash).complete c stOK []).gated (queueRegs c.cpl) ∧
      ((b.withFlash flash).complete c stOK []).gated.host.flash = flash := by
  obtain ⟨hposted, hkeeps, -⟩ := Block.completed_shows (b := b.withFlash flash) h stOK 0 []
  exact ⟨hposted, hkeeps, Block.complete_flash _ _ _ _⟩

theorem completes_flashErase (h : s.blk.runs ring.toNat 0x50 c)
    (hok : s.blk.flashRefuses c (c.le 0x10 4) 0x10000 (c.le 0x10 4 % 0x10000 == 0) = none) :
    Completes (.flashErase ring) s fun b => b.posted c 0 0 [] ∧ s.blk.keepsBut b (queueRegs c.cpl) ∧
      ∀ x, Store.get (fun _ => (0xFF : Byte)) b.host.flash x =
        if c.le 0x10 4 ≤ x ∧ x < c.le 0x10 4 + 0x10000 then 0xFF else Store.get (fun _ => 0xFF) s.blk.host.flash x := by
  refine completes_runs (exec_flashErase ring s) h ?_
  have heq : (s.blk.taken c).flashErase c = ((s.blk.taken c).withFlash
      (s.blk.host.flash.filter fun p => !rangeIn p.1 1 (c.le 0x10 4) 0x10000)).complete c stOK [] := by
    have hok' : (s.blk.taken c).flashRefuses c (c.le 0x10 4) 0x10000 (c.le 0x10 4 % 0x10000 == 0) = none := hok
    unfold Block.flashErase
    dsimp only
    rw [hok']
    exact rfl
  rw [heq]
  obtain ⟨hposted, hkeeps, hflash⟩ := Block.flashed_shows h.postsTo
    (s.blk.host.flash.filter fun p => !rangeIn p.1 1 (c.le 0x10 4) 0x10000)
  refine ⟨hposted, hkeeps, fun x => ?_⟩
  rw [hflash, Store.get_filter _ _ fun k => !rangeIn k 1 (c.le 0x10 4) 0x10000]
  unfold rangeIn
  by_cases hin : c.le 0x10 4 ≤ x ∧ x < c.le 0x10 4 + 0x10000
  · rw [if_pos hin, if_neg (by simp only [Bool.not_eq_true', Bool.and_eq_false_iff, decide_eq_false_iff_not]; omega)]
  · rw [if_neg hin, if_pos (by simp only [Bool.not_eq_true', Bool.and_eq_false_iff, decide_eq_false_iff_not]; omega)]

theorem completes_flashErase_refused {st : Nat} (h : s.blk.runs ring.toNat 0x50 c)
    (hno : s.blk.flashRefuses c (c.le 0x10 4) 0x10000 (c.le 0x10 4 % 0x10000 == 0) = some st) :
    Completes (.flashErase ring) s fun b =>
      b.posted c st 0 [] ∧ b.host.flash = s.blk.host.flash ∧ s.blk.keepsBut b (queueRegs c.cpl) := by
  refine completes_runs (exec_flashErase ring s) h ?_
  have heq : (s.blk.taken c).flashErase c = (s.blk.taken c).complete c st [] := by
    have hno' : (s.blk.taken c).flashRefuses c (c.le 0x10 4) 0x10000 (c.le 0x10 4 % 0x10000 == 0) = some st := hno
    unfold Block.flashErase
    dsimp only
    rw [hno']
  rw [heq]
  obtain ⟨hposted, hkeeps⟩ := h.refused st []
  exact ⟨hposted, Block.complete_flash _ _ _ _, hkeeps⟩

/-- The bytes that programming leaves. -/
def programmed (old : Store Byte) (a n : Nat) (d : List Byte) : List Byte :=
  ((Store.range (fun _ => (0xFF : Byte)) old a n).zip (slice d 0 n)).map fun p => p.1 &&& p.2

theorem programmed_length {old : Store Byte} {a n : Nat} {d : List Byte} (hd : d.length = n) : (programmed old a n d).length = n := by
  simp [programmed, Store.range, slice, hd]

theorem programmed_getD {old : Store Byte} {a n : Nat} {d : List Byte} (hd : d.length = n) {i : Nat} (hi : i < n) :
    (programmed old a n d).getD i 0 = Store.get (fun _ => (0xFF : Byte)) old (a + i) &&& d.getD i 0 := by
  simp [programmed, Store.range, slice, List.getD_eq_getElem?_getD, hd, hi]

theorem completes_flashProgram {d : List Byte} (h : s.blk.runs ring.toNat 0x51 c)
    (hok : s.blk.flashRefuses c (c.le 0x10 4) (c.le 0x20 4) (flashSpanOk (c.le 0x10 4) (c.le 0x20 4)) = none)
    (hd : d.length = c.le 0x20 4) :
    Completes (.flashProgram ring (.data d)) s fun b => b.posted c 0 0 [] ∧ s.blk.keepsBut b (queueRegs c.cpl) ∧
      ∀ x, Store.get (fun _ => (0xFF : Byte)) b.host.flash x = if c.le 0x10 4 ≤ x ∧ x < c.le 0x10 4 + c.le 0x20 4 then
        Store.get (fun _ => 0xFF) s.blk.host.flash x &&& d.getD (x - c.le 0x10 4) 0
      else Store.get (fun _ => 0xFF) s.blk.host.flash x := by
  refine completes_runsDma (exec_flashProgram ring (.data d) s) h ?_
  have heq : (s.blk.taken c).flashProgram c (.data d) = ((s.blk.taken c).withFlash (Store.putAll (fun _ => 0xFF) s.blk.host.flash
      (c.le 0x10 4) (programmed s.blk.host.flash (c.le 0x10 4) (c.le 0x20 4) d))).complete c stOK [] := by
    have hok' : (s.blk.taken c).flashRefuses c (c.le 0x10 4) (c.le 0x20 4) (flashSpanOk (c.le 0x10 4) (c.le 0x20 4)) = none := hok
    unfold Block.flashProgram
    dsimp only [DmaRead.bytes?]
    rw [hok']
    exact rfl
  rw [heq]
  obtain ⟨hposted, hkeeps, hflash⟩ := Block.flashed_shows h.postsTo (Store.putAll (fun _ => 0xFF) s.blk.host.flash
    (c.le 0x10 4) (programmed s.blk.host.flash (c.le 0x10 4) (c.le 0x20 4) d))
  refine ⟨hposted, hkeeps, fun x => ?_⟩
  rw [hflash, Store.get_putAll _ _ _ _ _ 0, programmed_length hd]
  split
  · rename_i hin
    rw [programmed_getD hd (by omega), Nat.add_sub_cancel' hin.1]
  · rfl

theorem completes_flashRead (h : s.blk.runs ring.toNat 0x52 c) (hfn : c.fn = 0)
    (hspan : flashSpanOk (c.le 0x10 4) (c.le 0x20 4) = true) (hshadow : s.blk.get Reg.CFG_STATUS_SHADOW ≠ 1) :
    Completes (.flashRead ring) s fun b => b.posted c 0 0 [] ∧ b.host.flash = s.blk.host.flash ∧
      s.blk.keepsBut b (queueRegs c.cpl) ∧
      { fn := 0, addr := c.le 0x18 8, bytes := (List.range (c.le 0x20 4)).map fun i => s.blk.flashByte (c.le 0x10 4 + i) } ∈
        b.host.dmaWrites := by
  refine completes_runsDma (exec_flashRead ring s) h ?_
  generalize hbytes : ((List.range (c.le 0x20 4)).map fun i => s.blk.flashByte (c.le 0x10 4 + i)) = bytes
  generalize hb : (s.blk.taken c).draw.dma c.fn (c.le 0x18 8) bytes = b
  have heq : (s.blk.taken c).flashRead c = b.complete c stOK [] := by
    have hshadow' : (s.blk.taken c).get Reg.CFG_STATUS_SHADOW ≠ 1 := hshadow
    rw [← hb, ← hbytes]
    unfold Block.flashRead
    dsimp only
    rw [if_neg (by simp [hfn, hspan]), if_neg hshadow']
    exact rfl
  have hpost : b.postsTo c.fn := by
    rw [← hb]
    exact h.postsTo
  have hkeep : s.blk.keepsBut b (queueRegs c.cpl) := by
    rw [← hb]
    exact fun _ _ => rfl
  have hflash : b.host.flash = s.blk.host.flash := by
    rw [← hb]
    rfl
  have hdma : b.host.dmaWrites = s.blk.host.dmaWrites ++ [{ fn := 0, addr := c.le 0x18 8, bytes := bytes }] := by
    rw [← hb, ← hfn]
    rfl
  rw [heq]
  obtain ⟨hposted, hkeeps, -⟩ := Block.completed_shows hpost stOK 0 []
  obtain ⟨w, hw⟩ := Block.complete_dmaWrites hpost stOK 0 []
  refine ⟨hposted, (Block.complete_flash _ _ _ _).trans hflash, hkeep.trans hkeeps, ?_⟩
  rw [Block.gated_host, hw, hdma]
  exact List.mem_append_left _ (List.mem_append_right _ List.mem_cons_self)

end

/-- Settles O48: NOP, QSTAT, MARK, COMMIT, REWIND and FLUSH, and the commands on the flash. -/
theorem queueCommandsComplete : Obligations.QueueCommandsComplete := by
  intro s ring c
  refine ⟨completes_nop, completes_qstat, fun hq => ⟨fun h => completes_mark h hq,
      fun hv => ⟨fun h => completes_commit h hq hv, fun h ht => completes_rewind_rejected h hq (by rw [ht, Bool.or_true]),
        fun h ht hsends hback => completes_rewind h hq hv ht hsends hback⟩,
      fun hv => ⟨fun h => completes_commit_rejected h hq hv, fun h => completes_rewind_rejected h hq (by rw [hv]; rfl)⟩⟩,
    fun hq => ⟨fun h => completes_mark_refused h hq, fun h => completes_rewind_refused h hq, fun h => completes_commit_refused h hq⟩,
    fun h => ⟨fun hq hv hr => completes_flush h hq hv hr, fun hq hv => completes_flush_rejected h hq hv,
      fun hq => completes_flush_refused h hq⟩, ?_⟩
  rintro a n d rfl rfl
  exact ⟨completes_flashErase, fun _ => completes_flashErase_refused, completes_flashProgram, completes_flashRead⟩

end Sys2Proof.Machine

/-!
Parcels in and out of the queues (R348 to R366).
-/

namespace Sys2Proof.Machine

/-! ### Words written at the end of a queue -/

theorem not_lostReg_post (q : Nat) : ∀ off ∈ postRegs, ¬ lostReg q off := by
  rintro off hoff (h | h)
  · revert h hoff
    revert off
    decide
  · have := lt_of_mem_postRegs hoff
    simp only [h, Reg.QD_BASE_HI] at this
    omega

/-- What a move of the pointers of a queue shows that is no ring, whether or not it loses the mark. -/
theorem Block.moveQueue_shows {b : Block} {q : Nat} (hq : b.qKind q ≠ 2) (wr rd : Word) :
    (b.moveQueue q wr rd).qWr q = wr ∧ (b.moveQueue q wr rd).qRd q = rd ∧ (b.moveQueue q wr rd).q q = b.q q ∧
      (∀ off, off < 0x200000 → off ∉ recordRegs → (b.moveQueue q wr rd).rd off = b.rd off) ∧
      (∀ r, (b.moveQueue q wr rd).rd (Reg.QD_CFG r) = b.rd (Reg.QD_CFG r)) ∧
      (∃ l, (b.moveQueue q wr rd).host.dmaWrites = b.host.dmaWrites ++ l) ∧
      ∀ fn, b.postsTo fn → (b.moveQueue q wr rd).postsTo fn := by
  have hs := b.moveQueue_serves (q := q) wr rd
  have hkp := b.pointed_keepsBut q wr rd
  have hlow : ∀ off, off < 0x200000 → (b.pointed q wr rd).rd off = b.rd off := fun off hoff =>
    hkp off fun hm => by have := le_of_mem_queueRegs hm; omega
  have hq' : (b.pointed q wr rd).qKind q ≠ 2 := by rwa [Block.pointed_qKind]
  have hno : ∀ off, 0x200000 ≤ off → off ≠ Reg.QD_BASE_HI q → ¬ lostReg q off := fun off hoff hne h =>
    h.elim (notMem_recordRegs (by omega)) hne
  refine ⟨?_, ?_, ?_, fun off hoff hrec => ?_, fun r => ?_, ?_, fun fn hpost => ?_⟩
  · exact (hs.rd_queue hq' (by simp only [Reg.QD_WR]; omega) (hno _ (by simp only [Reg.QD_WR]; omega)
      (by simp [Reg.QD_WR, Reg.QD_BASE_HI]))).trans (Block.pointed_wr _ _ _ _)
  · exact (hs.rd_queue hq' (by simp only [Reg.QD_RD]; omega) (hno _ (by simp only [Reg.QD_RD]; omega)
      (by simp [Reg.QD_RD, Reg.QD_BASE_HI]))).trans (Block.pointed_qRd _ _ _ _)
  · rw [hs.queue q hq']
    unfold Block.q
    rw [Block.pointed_strata]
  · refine (hs.rd_low hoff fun h => h.elim hrec fun he => ?_).trans (hlow off hoff)
    simp only [he, Reg.QD_BASE_HI] at hoff
    omega
  · refine (hs.regs _ ?_).trans (hkp _ (not_mem_queueRegs_cfg _ _))
    rintro (h | ⟨r', -, hm⟩)
    · exact not_lostReg_cfg _ _ h
    · exact not_mem_queueRegs_cfg _ _ hm
  · obtain ⟨l, hl⟩ := hs.writes
    exact ⟨l, by rw [hl, Block.pointed_host]⟩
  · have hpost' : (b.pointed q wr rd).postsTo fn :=
      hpost.of_high (Block.dev_of_core (Block.pointed_core _ _ _ _)) (Block.pointed_strata _ _ _ _) hlow
    exact hpost'.serves_of_backlog hs (not_lostReg_post q) (by rw [Block.moveQueue_backlog, Block.pointed_strata])

theorem Block.qSize_dvd (b : Block) (q : Nat) : b.qSize q ∣ 2 ^ 32 := by
  have h : b.get (Reg.QD_CFG_SIZE_LOG2 q) < 2 ^ 5 := b.get_lt _
  unfold Block.qSize
  exact Nat.pow_dvd_pow 2 (by omega)

/-- The place of the word `i` behind a pointer, in a ring whose size divides that of the pointers. -/
theorem wordPlace (p : Word) (i : Nat) {n : Nat} (hn : n ∣ 2 ^ 32) : (p + BitVec.ofNat 32 i).toNat % n = (p.toNat + i) % n := by
  rw [BitVec.toNat_add, BitVec.toNat_ofNat, Nat.mod_mod_of_dvd _ hn, Nat.add_mod, Nat.mod_mod_of_dvd _ hn, ← Nat.add_mod]

/-- Entries put at distinct places are each found where they were put. -/
theorem Store.get_foldl_put_at {α : Type} [DecidableEq α] (d : Nat → α) (place : Nat → Nat) (v : Nat → α) (m : Store α) {k n : Nat}
    (h : n < k) (hinj : ∀ i j, i < k → j < k → place i = place j → i = j) :
    Store.get d ((List.range k).foldl (fun m i => Store.put d m (place i) (v i)) m) (place n) = v n := by
  induction k with
  | zero => omega
  | succ k ih =>
    rw [List.range_succ, List.foldl_append]
    show Store.get d (Store.put d _ (place k) (v k)) (place n) = v n
    rw [Store.get_put]
    split
    · rename_i he
      rw [hinj n k h (by omega) he]
    · rename_i hne
      exact ih (by have : n ≠ k := fun e => hne (e ▸ rfl); omega) fun i j hi hj => hinj i j (by omega) (by omega)

theorem packWords_length (bytes : List Byte) (prov : Bool) : (packWords bytes prov).length = (bytes.length + 7) / 8 := by
  unfold packWords chunks
  simp

/-- The words of a queue with some written behind its pointer. -/
def Block.wordsWith (b : Block) (q : Nat) (ws : List QWord) : Store QWord :=
  (List.range ws.length).foldl
    (fun m i => Store.put (fun _ => QWord.zero) m (((b.qWr q).toNat + i) % b.qSize q) (ws.getD i QWord.zero)) (b.q q).words

theorem Block.writeWords_eq (b : Block) (q : Nat) (ws : List QWord) : b.writeWords q ws =
    (b.setQ q { b.q q with words := b.wordsWith q ws }).moveQueue q (b.qWr q + BitVec.ofNat 32 ws.length) (b.qRd q) := rfl

theorem Block.writeWords_wordAt {b : Block} {q : Nat} (hq : b.qKind q ≠ 2) (ws : List QWord) (hlen : ws.length ≤ b.qSize q) {i : Nat}
    (hi : i < ws.length) : (b.writeWords q ws).wordAt q (b.qWr q + BitVec.ofNat 32 i) = ws.getD i QWord.zero := by
  rw [Block.writeWords_eq]
  generalize hst : ({ b.q q with words := b.wordsWith q ws } : QueueSt) = st
  obtain ⟨-, -, hqq, -, hcfg, -, -⟩ := Block.moveQueue_shows (b := b.setQ q st) hq (b.qWr q + BitVec.ofNat 32 ws.length) (b.qRd q)
  have hsize : ((b.setQ q st).moveQueue q (b.qWr q + BitVec.ofNat 32 ws.length) (b.qRd q)).qSize q = b.qSize q :=
    congrArg (2 ^ ·) (Block.get_of_rd (f := Reg.QD_CFG_SIZE_LOG2 q) (hcfg q))
  unfold Block.wordAt
  rw [hqq, hsize, Block.setQ_q_same, wordPlace _ _ (b.qSize_dvd q), ← hst]
  refine Store.get_foldl_put_at _ (fun i => ((b.qWr q).toNat + i) % b.qSize q) _ _ hi fun i j hi hj he => ?_
  have h1 : i % b.qSize q = j % b.qSize q := Nat.ModEq.add_left_cancel' (b.qWr q).toNat he
  rwa [Nat.mod_eq_of_lt (by omega), Nat.mod_eq_of_lt (by omega)] at h1

/-! ### SEND (R363) -/

section
variable {s : State} {ring : QNum} {c : Cmd} {d : List Byte}

theorem exec_send (ring : QNum) (dma : DmaRead) (s : State) : exec (.send ring dma) s = .next { s with blk :=
    (s.blk.runDmaCmd ring.toNat 1 fun c b => b.send c dma).gated } := rfl

/-- The transmit header and the body of a SEND's parcel. -/
def sentBytes (c : Cmd) (d : List Byte) : List Byte :=
  transmitHeader (c.le 0x18 2) (c.le 0x1A 1 % 8) (c.le 0x1C 4) c.fn (c.flags.getLsbD 0) c.seq ++ slice d 0 (c.le 0x18 2)

/-- The SEND as it stands in flight. -/
def Block.sendOf (b : Block) (c : Cmd) (d : List Byte) : SendRec :=
  { cmd := c, queue := c.queue, ptr := b.qWr c.queue, units := b.unitsOf c.queue (sentBytes c d).length, prio := c.le 0x1A 1 % 8
    final := c.le 0x1C 4, stamp := c.flags.getLsbD 0, body := slice d 0 (c.le 0x18 2), pseq := 0, attempts := 0, taken := false
    entered := b.brg.now, waiting := none }

/-- The SEND in flight, its words not yet in the queue. -/
def Block.entersSend (b : Block) (c : Cmd) (d : List Byte) : Block :=
  ({ b with strata := { b.strata with sends := b.strata.sends ++ [b.sendOf c d] } } : Block).refreshP0

theorem Block.send_eq {b : Block} (hq : b.hostProduced c.queue = true) (hk : b.qKind c.queue = 3) (h1 : 1 ≤ c.le 0x18 2)
    (hmost : c.le 0x18 2 ≤ 2047) (hf : finalOk (c.le 0x1C 4) = true) : b.send c (.data d) =
      if !b.on (Reg.QD_CFG_ENABLE c.queue) || !b.sendAllowed (c.le 0x1C 4) then b.complete c stStateReject []
      else if b.qSize c.queue < b.qFill c.queue + b.unitsOf c.queue (sentBytes c d).length then
        (b.overrun c.queue).complete c stNoResource []
      else if (b.entersSend c d).qPriority c.queue then
        (b.entersSend c d).writeEntry c.queue (sentBytes c d) (c.le 0x1A 1 % 8) false false
      else (b.entersSend c d).writeWords c.queue (packWords (sentBytes c d) false) := by
  unfold Block.send
  dsimp only [DmaRead.bytes?]
  rw [hq, hk, hf, if_neg (by decide), if_neg (by simp; omega)]
  rfl

theorem Block.entersSend_rd (b : Block) {off : Nat} (h : off ≠ Reg.PT_P0_WAIT) : (b.entersSend c d).rd off = b.rd off :=
  Block.rd_set_other _ _ _ _ h

theorem Block.entersSend_qRegs (b : Block) {off : Nat} (h : 0x200000 ≤ off) : (b.entersSend c d).rd off = b.rd off :=
  b.entersSend_rd (by simp only [Reg.PT_P0_WAIT]; omega)

theorem Block.taken_indexOf (b : Block) (c : Cmd) (x : Nat) : (b.taken c).indexOf x = b.indexOf x := by
  have hbase : (b.taken c).saBase = b.saBase := rfl
  have hnode : ∀ n, (b.taken c).node n = b.node n := fun _ => rfl
  unfold Block.indexOf
  simp only [hbase, hnode]

theorem Block.taken_sendAllowed (b : Block) (c : Cmd) (x : Nat) : (b.taken c).sendAllowed x = b.sendAllowed x := by
  have hnode : ∀ n, (b.taken c).node n = b.node n := fun _ => rfl
  have hhome : (b.taken c).home = b.home := rfl
  have hon : (b.taken c).on Reg.CX_CTRL_LINK_REQUIRED = b.on Reg.CX_CTRL_LINK_REQUIRED := rfl
  have hopen : ∀ n, (b.taken c).linkOpen n false = b.linkOpen n false := fun _ => rfl
  unfold Block.sendAllowed
  simp only [Block.taken_indexOf, hnode, hhome, hon, hopen]
theorem completes_send (h : s.blk.runs ring.toNat 1 c) (hq : s.blk.hostProduced c.queue = true) (hk : s.blk.qKind c.queue = 3)
    (h1 : 1 ≤ c.le 0x18 2) (hmost : c.le 0x18 2 ≤ 2047) (hf : finalOk (c.le 0x1C 4) = true)
    (hen : s.blk.on (Reg.QD_CFG_ENABLE c.queue) = true) (hal : s.blk.sendAllowed (c.le 0x1C 4) = true)
    (hfit : s.blk.qFill c.queue + s.blk.unitsOf c.queue (sentBytes c d).length ≤ s.blk.qSize c.queue)
    (hpri : s.blk.qPriority c.queue = false) : Completes (.send ring (.data d)) s fun b =>
      b.qWr c.queue = s.blk.qWr c.queue + BitVec.ofNat 32 (((sentBytes c d).length + 7) / 8) ∧
      (∀ i, i < ((sentBytes c d).length + 7) / 8 → b.wordAt c.queue (s.blk.qWr c.queue + BitVec.ofNat 32 i) =
        (packWords (sentBytes c d) false).getD i QWord.zero) ∧
      (∃ x, b.strata.sends = s.blk.strata.sends ++ [x] ∧ x.cmd = c ∧ x.queue = c.queue ∧ x.ptr = s.blk.qWr c.queue ∧
        x.final = c.le 0x1C 4 ∧ x.taken = false ∧ x.entered = s.blk.brg.now) ∧
      s.blk.keepsLow b (Reg.PT_P0_WAIT :: recordRegs) := by
  refine completes_runsDma (exec_send ring (.data d) s) h ?_
  have hkind := Block.qKind_ne_of_hostProduced hq
  have hcfg : ((s.blk.taken c).entersSend c d).rd (Reg.QD_CFG c.queue) = s.blk.rd (Reg.QD_CFG c.queue) :=
    Block.entersSend_qRegs _ (by simp only [Reg.QD_CFG]; omega)
  have heq : (s.blk.taken c).send c (.data d) =
      ((s.blk.taken c).entersSend c d).writeWords c.queue (packWords (sentBytes c d) false) := by
    have hen' : (s.blk.taken c).on (Reg.QD_CFG_ENABLE c.queue) = true := hen
    have hal' : (s.blk.taken c).sendAllowed (c.le 0x1C 4) = true := (Block.taken_sendAllowed _ _ _).trans hal
    have hfit' : ¬ (s.blk.taken c).qSize c.queue < (s.blk.taken c).qFill c.queue +
      (s.blk.taken c).unitsOf c.queue (sentBytes c d).length := Nat.not_lt.2 hfit
    have hpri' : ((s.blk.taken c).entersSend c d).qPriority c.queue = false := by
      unfold Block.qPriority Block.qKind Block.on at hpri ⊢
      rwa [Block.get_of_rd (f := Reg.QD_CFG_KIND c.queue) hcfg, Block.get_of_rd (f := Reg.QD_CFG_MODE c.queue) hcfg]
    rw [Block.send_eq (b := s.blk.taken c) hq hk h1 hmost hf, hen', hal', if_neg (by decide), if_neg hfit', hpri', if_neg (by decide)]
  rw [heq]
  have hsends0 : ((s.blk.taken c).entersSend c d).strata.sends = s.blk.strata.sends ++ [s.blk.sendOf c d] := rfl
  have hwr0 : ((s.blk.taken c).entersSend c d).qWr c.queue = s.blk.qWr c.queue :=
    Block.entersSend_qRegs _ (by simp only [Reg.QD_WR]; omega)
  have hkind0 : ((s.blk.taken c).entersSend c d).qKind c.queue ≠ 2 := by rwa [Block.qKind_of_rd hcfg]
  have hsize0 : ((s.blk.taken c).entersSend c d).qSize c.queue = s.blk.qSize c.queue :=
    congrArg (2 ^ ·) (Block.get_of_rd (f := Reg.QD_CFG_SIZE_LOG2 c.queue) hcfg)
  have hlow0 : ∀ off, off ≠ Reg.PT_P0_WAIT → ((s.blk.taken c).entersSend c d).rd off = s.blk.rd off := fun off hoff =>
    Block.entersSend_rd _ hoff
  have hdev0 : ((s.blk.taken c).entersSend c d).dev = s.blk.dev := rfl
  generalize (s.blk.taken c).entersSend c d = b0 at hsends0 hwr0 hkind0 hsize0 hlow0 hdev0
  have hunits : s.blk.unitsOf c.queue (sentBytes c d).length = ((sentBytes c d).length + 7) / 8 := by
    unfold Block.unitsOf
    rw [hpri, if_neg (by decide)]
  have hlen := packWords_length (sentBytes c d) false
  have hword : ∀ i, i < ((sentBytes c d).length + 7) / 8 →
      (b0.writeWords c.queue (packWords (sentBytes c d) false)).wordAt c.queue (b0.qWr c.queue + BitVec.ofNat 32 i) =
        (packWords (sentBytes c d) false).getD i QWord.zero := fun i hi =>
    Block.writeWords_wordAt hkind0 _ (by rw [hlen, hsize0]; omega) (by rw [hlen]; exact hi)
  obtain ⟨hwr, -, -, hlow, -, -, -⟩ := Block.moveQueue_shows (b := b0.setQ c.queue { b0.q c.queue with
    words := b0.wordsWith c.queue (packWords (sentBytes c d) false) }) hkind0
    (b0.qWr c.queue + BitVec.ofNat 32 (packWords (sentBytes c d) false).length) (b0.qRd c.queue)
  have hwaits : (b0.writeWords c.queue (packWords (sentBytes c d) false)).strata.sends = b0.strata.sends :=
    Block.sends_of_waits _ ((Block.waits_moveQueue _ _ _ _).trans (Block.waits_setQ _ _ _))
  have hcore : (b0.writeWords c.queue (packWords (sentBytes c d) false)).core = b0.core := (Block.core_moveQueue _ _ _ _).trans rfl
  rw [← Block.writeWords_eq] at hwr hlow
  generalize b0.writeWords c.queue (packWords (sentBytes c d) false) = b1 at hword hwr hlow hwaits hcore
  have hsilent : b1.dev.silent = false := by
    rw [Block.dev_of_core hcore, hdev0]
    exact h.postsTo.not_silent
  have hg : ∀ off, b1.gated.rd off = b1.rd off := b1.gated_rd hsilent
  refine ⟨(hg _).trans (hwr.trans (by rw [hlen, hwr0])), fun i hi => ?_, ?_, fun off hoff hm => ?_⟩
  · have hw := hword i hi
    rw [hwr0] at hw
    unfold Block.wordAt Block.q Block.qSize at hw ⊢
    rwa [Block.gated_strata, Block.get_of_rd (f := Reg.QD_CFG_SIZE_LOG2 c.queue) (hg (Reg.QD_CFG c.queue))]
  · exact ⟨s.blk.sendOf c d, by rw [Block.gated_strata, hwaits, hsends0], rfl, rfl, rfl, rfl, rfl, rfl⟩
  · rw [List.mem_cons, not_or] at hm
    rw [hg, hlow off hoff hm.2]
    exact hlow0 off hm.1

/-! ### A SEND that finds no room (R348) -/

theorem Block.waits_overrun (b : Block) (q : Nat) : (b.overrun q).waits = b.waits := by
  unfold Block.overrun
  refine b.waits_ite _ rfl ?_
  rw [Block.waits_notify, Block.waits_post, Block.waits_set]

theorem Block.overrun_serves (b : Block) (q : Nat) : Block.serves (lostReg q) b (b.overrun q) := by
  unfold Block.overrun
  exact (b.serves_refl _).ite ((((b.serves_refl (lostReg q)).set 1 (.inr rfl) (not_lostReg_cfg q)).post _ _ _ _ (fun _ h => .inl h)
    (not_lostReg_cfg q)).notify q 3)

theorem Block.overrun_backlog (b : Block) (q : Nat) : (b.overrun q).strata.backlog = b.strata.backlog := by
  unfold Block.overrun
  split
  · rfl
  · rw [Block.notify_backlog, Block.post_strata, Block.set_strata]

theorem Block.overrun_on {b : Block} {q : Nat} (hq : b.qKind q ≠ 2) : (b.overrun q).on (Reg.QD_BASE_HI_OVERRUN q) = true := by
  unfold Block.overrun
  split
  · assumption
  · generalize hd : (b.set (Reg.QD_BASE_HI_OVERRUN q) 1).post 0x0A01 1 0x42 [(2, q), (1, b.get (Reg.QD_CFG_PROD q))] = d
    have hget : d.get (Reg.QD_BASE_HI_OVERRUN q) = 1 := by
      rw [← hd, Block.get_post _ _ _ _ _ _ (notMem_recordRegs (by simp only [Reg.QD_BASE_HI]; omega)),
        Block.get_set_same _ _ _ (by simp [Field.fits])]
      rfl
    have hk : d.qKind q ≠ 2 := by
      rwa [← hd, Block.qKind_of_rd ((Block.rd_post _ _ _ _ _ _ (notMem_recordRegs (by simp only [Reg.QD_CFG]; omega))).trans
        (Block.rd_set_other _ _ _ _ (by simp [Reg.QD_CFG, Reg.QD_BASE_HI])))]
    have hs := (d.serves_refl fun _ => False).notify q 3
    unfold Block.on
    rw [Block.get_of_rd (hs.rd_queue hk (by simp only [Reg.QD_BASE_HI]; omega) id), hget]
    rfl

theorem completes_send_overrun (h : s.blk.runs ring.toNat 1 c) (hq : s.blk.hostProduced c.queue = true) (hk : s.blk.qKind c.queue = 3)
    (h1 : 1 ≤ c.le 0x18 2) (hmost : c.le 0x18 2 ≤ 2047) (hf : finalOk (c.le 0x1C 4) = true)
    (hen : s.blk.on (Reg.QD_CFG_ENABLE c.queue) = true) (hal : s.blk.sendAllowed (c.le 0x1C 4) = true)
    (hfull : s.blk.qSize c.queue < s.blk.qFill c.queue + s.blk.unitsOf c.queue (sentBytes c d).length) :
    Completes (.send ring (.data d)) s fun b => b.posted c 3 0 [] ∧ b.on (Reg.QD_BASE_HI_OVERRUN c.queue) = true ∧
      b.qWr c.queue = s.blk.qWr c.queue ∧ b.strata.sends = s.blk.strata.sends := by
  refine completes_runsDma (exec_send ring (.data d) s) h ?_
  have hkind := Block.qKind_ne_of_hostProduced hq
  have hne : c.queue ≠ c.cpl := Block.ne_of_qKind hkind h.cpl
  have heq : (s.blk.taken c).send c (.data d) = ((s.blk.taken c).overrun c.queue).complete c stNoResource [] := by
    have hen' : (s.blk.taken c).on (Reg.QD_CFG_ENABLE c.queue) = true := hen
    have hal' : (s.blk.taken c).sendAllowed (c.le 0x1C 4) = true := (Block.taken_sendAllowed _ _ _).trans hal
    have hfull' : (s.blk.taken c).qSize c.queue < (s.blk.taken c).qFill c.queue +
      (s.blk.taken c).unitsOf c.queue (sentBytes c d).length := hfull
    rw [Block.send_eq (b := s.blk.taken c) hq hk h1 hmost hf, hen', hal', if_neg (by decide), if_pos hfull']
  have hs := (s.blk.taken c).overrun_serves c.queue
  have hpost := h.postsTo.serves_of_backlog hs (not_lostReg_post _) (Block.overrun_backlog _ _)
  have hon := Block.overrun_on (b := s.blk.taken c) (q := c.queue) hkind
  have hsends := Block.sends_of_waits _ ((s.blk.taken c).waits_overrun c.queue)
  have hwr : ((s.blk.taken c).overrun c.queue).qWr c.queue = s.blk.qWr c.queue :=
    hs.rd_queue hkind (by simp only [Reg.QD_WR]; omega) fun hl => hl.elim (notMem_recordRegs (by simp only [Reg.QD_WR]; omega))
      (by simp [Reg.QD_WR, Reg.QD_BASE_HI])
  rw [heq]
  generalize (s.blk.taken c).overrun c.queue = b at hpost hon hsends hwr
  obtain ⟨hposted, hkeeps, -⟩ := Block.completed_shows hpost stNoResource 0 []
  refine ⟨hposted, ?_, (hkeeps _ (notMem_queueRegs hne (by simp only [Reg.QD_WR]; omega))).trans hwr, ?_⟩
  · unfold Block.on at hon ⊢
    rwa [Block.get_of_rd (hkeeps _ (notMem_queueRegs hne (by simp only [Reg.QD_BASE_HI]; omega)))]
  · rw [Block.gated_strata, Block.sends_of_waits _ (Block.waits_complete _ _ _ _ _), hsends]
    rfl

theorem completes_send_rejected (h : s.blk.runs ring.toNat 1 c) (hq : s.blk.hostProduced c.queue = true) (hk : s.blk.qKind c.queue = 3)
    (h1 : 1 ≤ c.le 0x18 2) (hmost : c.le 0x18 2 ≤ 2047) (hf : finalOk (c.le 0x1C 4) = true)
    (hen : s.blk.on (Reg.QD_CFG_ENABLE c.queue) = false) : Completes (.send ring (.data d)) s fun b =>
      b.posted c 1 0 [] ∧ s.blk.keepsBut b (queueRegs c.cpl) := by
  refine completes_runsDma (exec_send ring (.data d) s) h ?_
  have hen' : (s.blk.taken c).on (Reg.QD_CFG_ENABLE c.queue) = false := hen
  rw [Block.send_eq (b := s.blk.taken c) hq hk h1 hmost hf, hen', if_pos (by simp)]
  exact h.refused stStateReject []

theorem completes_send_invalid (h : s.blk.runs ring.toNat 1 c) (hf : finalOk (c.le 0x1C 4) = false) :
    Completes (.send ring (.data d)) s fun b => b.posted c 2 0 [] ∧ s.blk.keepsBut b (queueRegs c.cpl) := by
  refine completes_runsDma (exec_send ring (.data d) s) h ?_
  have heq : (s.blk.taken c).send c (.data d) = (s.blk.taken c).complete c stInvalid [] := by
    unfold Block.send
    dsimp only [DmaRead.bytes?]
    rw [hf]
    split
    · rfl
    · rw [if_pos (by simp)]
  rw [heq]
  exact h.refused stInvalid []

/-! ### RECV (R364) -/

theorem exec_recv (ring : QNum) (s : State) : exec (.recv ring) s = .next { s with blk :=
    (s.blk.runCmd ring.toNat 2 fun c b => b.recv c).gated } := rfl

theorem completes_recv (h : s.blk.runs ring.toNat 2 c) (hq : s.blk.deviceProduced c.queue = true)
    (hlen : recvLenOk (c.le 0x18 4) = true) (hen : s.blk.on (Reg.QD_CFG_ENABLE c.queue) = true) :
    Completes (.recv ring) s fun b =>
      (∃ x, b.strata.recvs = s.blk.strata.recvs ++ [x] ∧ x.cmd = c ∧ x.started = false ∧ x.bytes = 0) ∧ s.blk.keepsBut b [] := by
  refine completes_runs (exec_recv ring s) h ?_
  have hq' : (s.blk.taken c).deviceProduced c.queue = true := hq
  have hen' : (s.blk.taken c).on (Reg.QD_CFG_ENABLE c.queue) = true := hen
  unfold Block.recv
  rw [hq', hlen, hen', if_neg (by decide), if_neg (by decide), Block.gated_strata]
  refine ⟨⟨_, rfl, rfl, rfl, rfl⟩, Block.keepsBut.gated_of_not_silent (fun _ _ => rfl) ?_⟩
  exact h.postsTo.not_silent

theorem completes_recv_invalid (h : s.blk.runs ring.toNat 2 c) (hlen : recvLenOk (c.le 0x18 4) = false) :
    Completes (.recv ring) s fun b => b.posted c 2 0 [] ∧ s.blk.keepsBut b (queueRegs c.cpl) := by
  refine completes_runs (exec_recv ring s) h ?_
  unfold Block.recv
  rw [hlen, if_pos (by simp)]
  exact h.refused stInvalid []

end

end Sys2Proof.Machine

/-!
Deliveries of a RECV (R364 to R366), and parcels in and out of the queues settled.
-/

namespace Sys2Proof.Machine

section
variable {s : State} {qn : QNum} {r : Recv}

theorem exec_recvDelivery (qn : QNum) (words : Nat) (bad : List Nat) (s : State) : exec (.recvDelivery qn words bad) s =
    .next { s with blk := (s.blk.recvDelivery qn.toNat words bad).gated } := rfl

/-- The RECV at the front of a queue, as it goes on. -/
def Block.begun (b : Block) (q : Nat) (r : Recv) : Recv := if r.started then r else { r with started := true, pos := b.qRd q }

theorem Block.begun_fields (b : Block) (q : Nat) (r : Recv) : (b.begun q r).cmd = r.cmd ∧
    (b.begun q r).pos = (if r.started then r.pos else b.qRd q) ∧ (b.begun q r).bytes = r.bytes ∧ (b.begun q r).head = r.head ∧
    (b.begun q r).prov = r.prov ∧ (b.begun q r).poison = r.poison := by
  unfold Block.begun
  split <;> exact ⟨rfl, rfl, rfl, rfl, rfl, rfl⟩

/-- A RECV after one word. -/
def Recv.past (r : Recv) (w : QWord) : Recv :=
  { r with pos := r.pos + 1, words := r.words + 1, bytes := r.bytes + 8
           head := if r.head.length < 16 then r.head ++ toLe 8 w.data.toNat else r.head
           prov := r.prov || w.prov, poison := r.poison || false || w.poison }

/-- The word, and its tag where one is asked for, in host memory. -/
def Block.wordOut (b : Block) (r : Recv) (w : QWord) : Block :=
  if r.cmd.le 0x20 8 = 0 then b.dma r.cmd.fn (r.cmd.le 0x10 8 + r.bytes) (toLe 8 w.data.toNat)
  else (b.dma r.cmd.fn (r.cmd.le 0x10 8 + r.bytes) (toLe 8 w.data.toNat)).dma r.cmd.fn (r.cmd.le 0x20 8 + r.words) [w.tag]

theorem Block.wordOut_shows (b : Block) (r : Recv) (w : QWord) : (b.wordOut r w).regs = b.regs ∧ (b.wordOut r w).strata = b.strata ∧
    (b.wordOut r w).dev = b.dev ∧
    { fn := r.cmd.fn, addr := r.cmd.le 0x10 8 + r.bytes, bytes := toLe 8 w.data.toNat } ∈ (b.wordOut r w).host.dmaWrites := by
  unfold Block.wordOut
  split
  · exact ⟨rfl, rfl, rfl, List.mem_append_right _ List.mem_cons_self⟩
  · exact ⟨rfl, rfl, rfl, List.mem_append_left _ (List.mem_append_right _ List.mem_cons_self)⟩

/-- The block after one word of a RECV, with the RECV in its new place. -/
def Block.wordTaken (b : Block) (r : Recv) (w : QWord) : Block :=
  { b.wordOut r w with strata := { b.strata with recvs := b.strata.recvs.map fun x => if x.cmd == r.cmd then r.past w else x } }

/-- A word that is there, not provisional and no control word, is delivered where there is room. -/
theorem Block.deliverWord_eq {b : Block} {r : Recv} {q : Nat} (hr : r.cmd.queue = q) (hpos : r.pos ≠ b.qWr q)
    (hprov : (b.wordAt q r.pos).prov = false) (hctl : (b.wordAt q r.pos).control = false)
    (hfit : r.bytes + 8 ≤ r.cmd.le 0x18 4) :
    b.deliverWord r false = (b.wordOut r (b.wordAt q r.pos), r.past (b.wordAt q r.pos),
      if (b.wordOut r (b.wordAt q r.pos)).qKind q = 3 ∧ (b.wordAt q r.pos).eop ∧ !(r.past (b.wordAt q r.pos)).prov then .done stOK
      else if r.cmd.le 0x18 4 < r.bytes + 8 + 8 then .done stOK else .more) := by
  subst hr
  unfold Block.deliverWord
  extract_lets q w len buf tagbuf room tag b1 b2 b3 st b4 r1
  have hw : w = b.wordAt r.cmd.queue r.pos := rfl
  have hwp : w.prov = false := hprov
  have hwc : w.control = false := hctl
  have hroom : room = 8 := by
    unfold room
    rw [hwp, if_neg (by decide)]
  rw [if_neg (by rw [hwp, hroom]; simp only [Bool.false_eq_true, false_and, false_or, not_or]; exact ⟨hpos, by omega⟩), hwc,
    if_neg (by decide)]
  have htag : tag = w.tag := if_neg (by decide)
  have hb1 : b1 = b := if_neg (by decide)
  have hb3 : b3 = b.wordOut r (b.wordAt r.cmd.queue r.pos) := by
    unfold b3 b2
    rw [hb1, htag]
    rfl
  have hb4 : b4 = b3 := if_neg (by rw [hwp]; decide)
  have hr1 : r1 = r.past (b.wordAt r.cmd.queue r.pos) := rfl
  have hlen : len = r.cmd.le 0x18 4 := rfl
  have hq : q = r.cmd.queue := rfl
  have hbytes : (r.past (b.wordAt r.cmd.queue r.pos)).bytes = r.bytes + 8 := rfl
  rw [hb4, hb3, hr1, hq, hw, hlen, hbytes]
  split
  · rfl
  · split <;> rfl

/-- How a RECV goes on after one word. -/
def Block.wordDone (b : Block) (r : Recv) (w : QWord) : Delivery → Block
  | .done st => (b.wordTaken r w).completeRecv (r.past w) st
  | .more => b.wordTaken r w
  | .noData => b.wordTaken r w

/-- A delivery of one word. -/
theorem Block.recvDelivery_eq {b : Block} {q : Nat} {d : Delivery} (hr : b.strata.recvs.find? (fun x => x.cmd.queue == q) = some r)
    (hpost : b.postsTo r.cmd.fn) (hpri : b.qPriority q = false) (hd : b.deliverWord (b.begun q r) false =
      (b.wordOut (b.begun q r) (b.wordAt q (b.begun q r).pos), (b.begun q r).past (b.wordAt q (b.begun q r).pos), d))
    (hne : d ≠ .noData) : b.recvDelivery q 1 [] = b.wordDone (b.begun q r) (b.wordAt q (b.begun q r).pos) d := by
  obtain ⟨hcut, hstill, hconv, -⟩ := hpost
  have hcont : ([] : List Nat).contains (b.begun q r).words = false := rfl
  have hwords : b.deliverWords (b.begun q r) [] 1 =
      (b.wordOut (b.begun q r) (b.wordAt q (b.begun q r).pos), (b.begun q r).past (b.wordAt q (b.begun q r).pos), d) := by
    unfold Block.deliverWords
    rw [hcont, hd]
    cases d <;> rfl
  unfold Block.recvDelivery
  rw [hr]
  dsimp only
  rw [hcut, hstill, hconv, hpri, if_neg (by decide), if_neg (by decide)]
  have hbegun : (if r.started then r else { r with started := true, pos := b.qRd q }) = b.begun q r := rfl
  rw [hbegun, hwords]
  have hst := (b.wordOut_shows (b.begun q r) (b.wordAt q (b.begun q r).pos)).2.1
  have hkept : ({ b.wordOut (b.begun q r) (b.wordAt q (b.begun q r).pos) with strata :=
      { (b.wordOut (b.begun q r) (b.wordAt q (b.begun q r).pos)).strata with
        recvs := (b.wordOut (b.begun q r) (b.wordAt q (b.begun q r).pos)).strata.recvs.map fun x =>
          if x.cmd == ((b.begun q r).past (b.wordAt q (b.begun q r).pos)).cmd then (b.begun q r).past (b.wordAt q (b.begun q r).pos) else x } } : Block) =
      b.wordTaken (b.begun q r) (b.wordAt q (b.begun q r).pos) := by
    rw [hst]
    rfl
  dsimp only
  rw [hkept]
  cases d with
  | more => rfl
  | noData => exact absurd rfl hne
  | done st => rfl

/-! ### The end of a RECV -/

/-- The block without a RECV. -/
def Block.withoutRecv (b : Block) (r : Recv) : Block :=
  { b with strata := { b.strata with recvs := b.strata.recvs.filter fun x => x.cmd != r.cmd } }

/-- The pointers moved over what a RECV took. -/
def Block.recvMoved (b : Block) (r : Recv) : Block :=
  if (b.withoutRecv r).qPriority r.cmd.queue then (b.withoutRecv r).freeConsumed r.cmd.queue
  else (b.withoutRecv r).moveQueue r.cmd.queue ((b.withoutRecv r).qWr r.cmd.queue) r.pos

theorem Block.completeRecv_eq (b : Block) (r : Recv) (status : Nat) : b.completeRecv r status = (b.recvMoved r).complete r.cmd status
    (recvResult r.bytes r.head ((b.recvMoved r).qKind r.cmd.queue == 3)) (recvFlags r) := rfl

theorem Block.recvMoved_move (b : Block) (r : Recv) : ∃ (t : Block) (wr rd : Word), b.recvMoved r = t.moveQueue r.cmd.queue wr rd ∧
    t.regs = b.regs ∧ t.strata.recvs = (b.withoutRecv r).strata.recvs ∧ t.host = b.host ∧
    (∀ fn, b.postsTo fn → t.postsTo fn) ∧ (b.qPriority r.cmd.queue = false → rd = r.pos) := by
  by_cases hp : b.qPriority r.cmd.queue = true
  · exact ⟨_, _, _, if_pos hp, rfl, rfl, rfl, fun _ h => h, fun h => absurd (hp.symm.trans h) (by decide)⟩
  · exact ⟨_, _, _, if_neg hp, rfl, rfl, rfl, fun _ h => h, fun _ => rfl⟩

theorem Block.completeRecv_shows {b : Block} {r : Recv} {q : Nat} (hr : r.cmd.queue = q) (hpost : b.postsTo r.cmd.fn)
    (hcpl : b.qKind r.cmd.cpl = 2) (hk : b.qKind q = 3) (status : Nat) :
    (b.completeRecv r status).gated.posted r.cmd status (recvFlags r) (recvResult r.bytes r.head true) ∧
      (b.qPriority q = false → (b.completeRecv r status).gated.qRd q = r.pos) ∧
      (∀ x ∈ (b.completeRecv r status).gated.strata.recvs, x.cmd ≠ r.cmd) ∧
      ∃ l, (b.completeRecv r status).gated.host.dmaWrites = b.host.dmaWrites ++ l := by
  subst hr
  obtain ⟨t, wr, rd, hmove, hregs, hrecvs, hhost, hposts, hrd⟩ := b.recvMoved_move r
  have hkt : t.qKind r.cmd.queue ≠ 2 := by
    have h3 : t.qKind r.cmd.queue = 3 := (Block.get_of_regs hregs _).trans hk
    omega
  obtain ⟨-, hqrd, -, -, hcfg, ⟨l, hl⟩, hkeep⟩ := Block.moveQueue_shows hkt wr rd
  have hwaits := Block.waits_moveQueue t r.cmd.queue wr rd
  rw [Block.completeRecv_eq]
  rw [← hmove] at hqrd hcfg hl hkeep hwaits
  have hpost' := hkeep _ (hposts _ hpost)
  have hk3 : (b.recvMoved r).qKind r.cmd.queue = 3 :=
    (Block.qKind_of_rd (hcfg _)).trans ((Block.get_of_regs hregs _).trans hk)
  have hne : r.cmd.queue ≠ r.cmd.cpl := fun he => by
    rw [he] at hk
    omega
  rw [hk3]
  generalize b.recvMoved r = m at hqrd hl hwaits hpost'
  obtain ⟨hposted, hkeeps, -⟩ := Block.completed_shows hpost' status (recvFlags r) (recvResult r.bytes r.head (3 == 3))
  refine ⟨hposted, fun hpri => ?_, fun x hx => ?_, ?_⟩
  · exact (hkeeps _ (notMem_queueRegs hne (by simp only [Reg.QD_RD]; omega))).trans (hqrd.trans (hrd hpri))
  · have hw : (m.complete r.cmd status (recvResult r.bytes r.head (3 == 3)) (recvFlags r)).strata.recvs = (b.withoutRecv r).strata.recvs :=
      (congrArg (fun x : StrataSt => x.recvs) ((Block.waits_complete _ _ _ _ _).trans hwaits) :).trans hrecvs
    rw [Block.gated_strata, hw] at hx
    simpa using (List.mem_filter.1 hx).2
  · obtain ⟨w, hw⟩ := Block.complete_dmaWrites hpost' status (recvFlags r) (recvResult r.bytes r.head (3 == 3))
    exact ⟨l ++ [w], by rw [Block.gated_host, hw, hl, hhost, List.append_assoc]⟩

/-! ### One word delivered (R364) -/

theorem queue_of_find {l : List Recv} {q : Nat} (h : l.find? (fun x => x.cmd.queue == q) = some r) : r.cmd.queue = q := by
  simpa using List.find?_some h

/-- What one word of a RECV does, whatever decides on its end. -/
theorem Block.delivered_eq {b : Block} {q : Nat} (hr : b.strata.recvs.find? (fun x => x.cmd.queue == q) = some r)
    (hpost : b.postsTo r.cmd.fn) (hpri : b.qPriority q = false) {pos : Word} (hp : (b.begun q r).pos = pos) (hpos : pos ≠ b.qWr q)
    (hprov : (b.wordAt q pos).prov = false) (hctl : (b.wordAt q pos).control = false) (hfit : r.bytes + 8 ≤ r.cmd.le 0x18 4) :
    b.recvDelivery q 1 [] = if b.qKind q = 3 ∧ (b.wordAt q pos).eop ∧ !((b.begun q r).past (b.wordAt q pos)).prov then
        (b.wordTaken (b.begun q r) (b.wordAt q pos)).completeRecv ((b.begun q r).past (b.wordAt q pos)) stOK
      else if r.cmd.le 0x18 4 < r.bytes + 8 + 8 then
        (b.wordTaken (b.begun q r) (b.wordAt q pos)).completeRecv ((b.begun q r).past (b.wordAt q pos)) stOK
      else b.wordTaken (b.begun q r) (b.wordAt q pos) := by
  subst hp
  obtain ⟨hcmd, -, hbytes, -, -, -⟩ := b.begun_fields q r
  have hk : (b.wordOut (b.begun q r) (b.wordAt q (b.begun q r).pos)).qKind q = b.qKind q :=
    Block.get_of_regs (b.wordOut_shows _ _).1 _
  have hword := Block.deliverWord_eq (q := q) (r := b.begun q r) ((congrArg Cmd.queue hcmd).trans (queue_of_find hr)) hpos hprov hctl
    (by rw [hcmd, hbytes]; exact hfit)
  rw [hk, hcmd, hbytes] at hword
  by_cases heop : b.qKind q = 3 ∧ (b.wordAt q (b.begun q r).pos).eop ∧ !((b.begun q r).past (b.wordAt q (b.begun q r).pos)).prov
  · rw [if_pos heop] at hword
    rw [if_pos heop, Block.recvDelivery_eq hr hpost hpri hword nofun]
    rfl
  · rw [if_neg heop] at hword
    rw [if_neg heop]
    by_cases hfull : r.cmd.le 0x18 4 < r.bytes + 8 + 8
    · rw [if_pos hfull] at hword
      rw [if_pos hfull, Block.recvDelivery_eq hr hpost hpri hword nofun]
      rfl
    · rw [if_neg hfull] at hword
      rw [if_neg hfull, Block.recvDelivery_eq hr hpost hpri hword nofun]
      rfl

/-- The block after one word of a RECV shows what the RECV needs of the block before it. -/
theorem Block.wordTaken_shows (b : Block) (r : Recv) (w : QWord) : (b.wordTaken r w).regs = b.regs ∧
    (b.wordTaken r w).dev = b.dev ∧ (∀ fn, b.postsTo fn → (b.wordTaken r w).postsTo fn) ∧
    (b.wordTaken r w).strata.recvs = (b.strata.recvs.map fun x => if x.cmd == r.cmd then r.past w else x) ∧
    { fn := r.cmd.fn, addr := r.cmd.le 0x10 8 + r.bytes, bytes := toLe 8 w.data.toNat } ∈ (b.wordTaken r w).host.dmaWrites := by
  obtain ⟨hregs, hstrata, hdev, hdma⟩ := b.wordOut_shows r w
  refine ⟨hregs, hdev, fun fn hpost => ?_, rfl, hdma⟩
  obtain ⟨hcut, hstill, hconv, -⟩ := Block.postsTo.congr hpost hdev hstrata fun off _ => Block.rd_of_regs hregs off
  refine ⟨hcut, ?_, hconv, hpost.2.2.2⟩
  unfold Block.still Block.conv at hstill ⊢
  rw [hstrata] at hstill
  exact hstill

theorem completes_wordDelivery {pos : Word} (hr : s.blk.strata.recvs.find? (fun x => x.cmd.queue == qn.toNat) = some r)
    (hpost : s.blk.postsTo r.cmd.fn) (hcpl : s.blk.qKind r.cmd.cpl = 2) (hk : s.blk.qKind qn.toNat = 3)
    (hp : pos = if r.started then r.pos else s.blk.qRd qn.toNat) (hpri : s.blk.qPriority qn.toNat = false)
    (hpos : pos ≠ s.blk.qWr qn.toNat) (hprov : (s.blk.wordAt qn.toNat pos).prov = false)
    (hctl : (s.blk.wordAt qn.toNat pos).control = false) (hrp : r.prov = false) (hfit : r.bytes + 8 ≤ r.cmd.le 0x18 4)
    (heop : (s.blk.wordAt qn.toNat pos).eop = true) : Completes (.recvDelivery qn 1 []) s fun b =>
      { fn := r.cmd.fn, addr := r.cmd.le 0x10 8 + r.bytes, bytes := toLe 8 (s.blk.wordAt qn.toNat pos).data.toNat } ∈ b.host.dmaWrites ∧
      b.qRd qn.toNat = pos + 1 ∧ (∀ x ∈ b.strata.recvs, x.cmd ≠ r.cmd) ∧
      b.posted r.cmd 0 (if r.poison || (s.blk.wordAt qn.toNat pos).poison then 4 else 0) (recvResult (r.bytes + 8)
        (if r.head.length < 16 then r.head ++ toLe 8 (s.blk.wordAt qn.toNat pos).data.toNat else r.head) true) := by
  refine completes_of_next (exec_recvDelivery qn 1 [] s) ?_
  obtain ⟨hcmd, hbpos, hbytes, hhead, hbprov, hpoison⟩ := s.blk.begun_fields qn.toNat r
  rw [← hp] at hbpos
  rw [Block.delivered_eq hr hpost hpri hbpos hpos hprov hctl hfit]
  generalize hw : s.blk.wordAt qn.toNat pos = w at hprov heop
  generalize s.blk.begun qn.toNat r = r0 at hcmd hbpos hbytes hhead hbprov hpoison
  have hpast : (r0.past w).prov = false := by
    show (r0.prov || w.prov) = false
    rw [hbprov, hrp, hprov]
    rfl
  rw [if_pos ⟨hk, heop, by rw [hpast]; rfl⟩]
  obtain ⟨hregs, -, hposts, -, hdma⟩ := s.blk.wordTaken_shows r0 w
  have hq : (r0.past w).cmd.queue = qn.toNat := (congrArg Cmd.queue hcmd).trans (queue_of_find hr)
  have hfn : (r0.past w).cmd = r.cmd := hcmd
  have hpri' : (s.blk.wordTaken r0 w).qPriority qn.toNat = false := by
    unfold Block.qPriority Block.qKind Block.on at hpri ⊢
    rwa [Block.get_of_regs hregs, Block.get_of_regs hregs]
  have hshows := Block.completeRecv_shows hq (hfn ▸ hposts _ hpost) (hfn ▸ (Block.get_of_regs hregs _).trans hcpl)
    ((Block.get_of_regs hregs _).trans hk) stOK
  generalize s.blk.wordTaken r0 w = b at hpri' hdma hshows
  obtain ⟨hposted, hrd, hnone, l, hl⟩ := hshows
  refine ⟨?_, (hrd hpri').trans (congrArg (· + 1) hbpos), fun x hx => hfn ▸ hnone x hx, ?_⟩
  · rw [hl]
    rw [hcmd, hbytes] at hdma
    exact List.mem_append_left _ hdma
  · have hflags : recvFlags (r0.past w) = if r.poison || w.poison then 4 else 0 := by
      unfold recvFlags
      rw [hpast]
      show (if false = true then 2 else 0) + (if (r0.poison || false || w.poison) = true then 4 else 0) = _
      rw [hpoison, Bool.or_false]
      simp
    have hres : recvResult (r0.past w).bytes (r0.past w).head true =
        recvResult (r.bytes + 8) (if r.head.length < 16 then r.head ++ toLe 8 w.data.toNat else r.head) true := by
      show recvResult (r0.bytes + 8) (if r0.head.length < 16 then r0.head ++ toLe 8 w.data.toNat else r0.head) true = _
      rw [hbytes, hhead]
    rw [hfn, hflags, hres] at hposted
    exact hposted

theorem completes_wordDelivery_more {pos : Word} (hr : s.blk.strata.recvs.find? (fun x => x.cmd.queue == qn.toNat) = some r)
    (hpost : s.blk.postsTo r.cmd.fn) (hp : pos = if r.started then r.pos else s.blk.qRd qn.toNat)
    (hpri : s.blk.qPriority qn.toNat = false)
    (hpos : pos ≠ s.blk.qWr qn.toNat) (hprov : (s.blk.wordAt qn.toNat pos).prov = false)
    (hctl : (s.blk.wordAt qn.toNat pos).control = false)
    (heop : (s.blk.wordAt qn.toNat pos).eop = false) (hfit : r.bytes + 16 ≤ r.cmd.le 0x18 4) :
    Completes (.recvDelivery qn 1 []) s fun b =>
      { fn := r.cmd.fn, addr := r.cmd.le 0x10 8 + r.bytes, bytes := toLe 8 (s.blk.wordAt qn.toNat pos).data.toNat } ∈ b.host.dmaWrites ∧
      s.blk.keepsBut b [] ∧ ∃ x ∈ b.strata.recvs, x.cmd = r.cmd ∧ x.pos = pos + 1 ∧ x.bytes = r.bytes + 8 := by
  refine completes_of_next (exec_recvDelivery qn 1 [] s) ?_
  obtain ⟨hcmd, hbpos, hbytes, -, -, -⟩ := s.blk.begun_fields qn.toNat r
  rw [← hp] at hbpos
  rw [Block.delivered_eq hr hpost hpri hbpos hpos hprov hctl (by omega), heop, if_neg (by simp), if_neg (by omega)]
  generalize s.blk.wordAt qn.toNat pos = w
  generalize s.blk.begun qn.toNat r = r0 at hcmd hbpos hbytes
  obtain ⟨hregs, hdev, -, hrecvs, hdma⟩ := s.blk.wordTaken_shows r0 w
  rw [Block.gated_host, Block.gated_strata, hrecvs]
  rw [hcmd, hbytes] at hdma
  refine ⟨hdma, ((s.blk.keepsBut_refl []).of_regs hregs).gated_of_not_silent (by rw [hdev]; exact hpost.not_silent), r0.past w, ?_,
    hcmd, congrArg (· + 1) hbpos, congrArg (· + 8) hbytes⟩
  exact List.mem_map.2 ⟨r, List.mem_of_find?_eq_some hr, if_pos (by rw [hcmd]; exact beq_self_eq_true _)⟩

/-! ### The entries of a priority queue delivered (R351) -/

/-- An entry on its way to host memory, marked as taken. -/
def Block.entryTaken (b : Block) (q : Nat) (r : Recv) (e : QEntry) : Block :=
  (b.dma r.cmd.fn (r.cmd.le 0x10 8) e.bytes).setQ q { b.q q with
    entries := (b.q q).entries.map fun x => if x.ptr == e.ptr then { x with consumed := true } else x
    provTaken := (b.q q).provTaken || e.prov }

/-- A RECV with what an entry gives. -/
def Recv.withEntry (r : Recv) (e : QEntry) : Recv :=
  { r with bytes := e.bytes.length, head := slice e.bytes 0 16, prov := e.prov, poison := false }

theorem Block.recvDelivery_entry {b : Block} {q : Nat} {e : QEntry} (hr : b.strata.recvs.find? (fun x => x.cmd.queue == q) = some r)
    (hpost : b.postsTo r.cmd.fn) (hpri : b.qPriority q = true)
    (he : nextEntry (b.q q).entries (b.on (Reg.QD_CFG_PROV_OK q)) = some e) : b.recvDelivery q 1 [] =
      if r.cmd.le 0x18 4 < e.bytes.length then (b.withoutRecv r).complete r.cmd stInvalid []
      else (b.entryTaken q r e).completeRecv (r.withEntry e) (if e.control ∧ byteAt e.bytes 0 = 1 then stRevoked else stOK) := by
  obtain ⟨hcut, hstill, hconv, -⟩ := hpost
  obtain rfl := queue_of_find hr
  unfold Block.recvDelivery
  rw [hr]
  dsimp only
  rw [hcut, hstill, hconv, hpri, if_neg (by decide), if_pos rfl]
  unfold Block.deliverEntry
  dsimp only
  rw [he]
  rfl

theorem completes_entryDelivery {e : QEntry} (hr : s.blk.strata.recvs.find? (fun x => x.cmd.queue == qn.toNat) = some r)
    (hpost : s.blk.postsTo r.cmd.fn) (hcpl : s.blk.qKind r.cmd.cpl = 2) (hk : s.blk.qKind qn.toNat = 3)
    (hpri : s.blk.qPriority qn.toNat = true)
    (he : nextEntry (s.blk.q qn.toNat).entries (s.blk.on (Reg.QD_CFG_PROV_OK qn.toNat)) = some e)
    (hfit : e.bytes.length ≤ r.cmd.le 0x18 4) (hctl : e.control = false) (hprov : e.prov = false) :
    Completes (.recvDelivery qn 1 []) s fun b =>
      { fn := r.cmd.fn, addr := r.cmd.le 0x10 8, bytes := e.bytes } ∈ b.host.dmaWrites ∧
      (∀ x ∈ b.strata.recvs, x.cmd ≠ r.cmd) ∧ b.posted r.cmd 0 0 (recvResult e.bytes.length (slice e.bytes 0 16) true) := by
  refine completes_of_next (exec_recvDelivery qn 1 [] s) ?_
  rw [Block.recvDelivery_entry hr hpost hpri he, if_neg (by omega), if_neg (by rw [hctl]; simp)]
  have hdma : { fn := r.cmd.fn, addr := r.cmd.le 0x10 8, bytes := e.bytes } ∈ (s.blk.entryTaken qn.toNat r e).host.dmaWrites :=
    List.mem_append_right _ List.mem_cons_self
  have hq : (r.withEntry e).cmd.queue = qn.toNat := by
    show r.cmd.queue = _
    exact queue_of_find hr
  obtain ⟨hposted, -, hnone, l, hl⟩ := Block.completeRecv_shows (b := s.blk.entryTaken qn.toNat r e) hq hpost hcpl hk stOK
  have hflags : recvFlags (r.withEntry e) = 0 := by
    show (if e.prov = true then 2 else 0) + (if false = true then 4 else 0) = 0
    rw [hprov]
    rfl
  rw [hflags] at hposted
  refine ⟨?_, hnone, hposted⟩
  rw [hl]
  exact List.mem_append_left _ hdma

theorem completes_entryDelivery_refused {e : QEntry} (hr : s.blk.strata.recvs.find? (fun x => x.cmd.queue == qn.toNat) = some r)
    (hpost : s.blk.postsTo r.cmd.fn) (hcpl : s.blk.qKind r.cmd.cpl = 2) (hk : s.blk.qKind qn.toNat = 3)
    (hpri : s.blk.qPriority qn.toNat = true)
    (he : nextEntry (s.blk.q qn.toNat).entries (s.blk.on (Reg.QD_CFG_PROV_OK qn.toNat)) = some e)
    (hbig : r.cmd.le 0x18 4 < e.bytes.length) : Completes (.recvDelivery qn 1 []) s fun b =>
      b.posted r.cmd 2 0 [] ∧ b.q qn.toNat = s.blk.q qn.toNat ∧ s.blk.keepsBut b (queueRegs r.cmd.cpl) := by
  refine completes_of_next (exec_recvDelivery qn 1 [] s) ?_
  rw [Block.recvDelivery_entry hr hpost hpri he, if_pos hbig]
  have hpost' : (s.blk.withoutRecv r).postsTo r.cmd.fn := hpost
  obtain ⟨hposted, hkeeps, -⟩ := Block.completed_shows hpost' stInvalid 0 []
  refine ⟨hposted, ?_, hkeeps⟩
  have hs := ((s.blk.withoutRecv r).serves_refl fun _ => False).complete (x := r.cmd) hpost' hcpl stInvalid 0 []
  have hq3 : (s.blk.withoutRecv r).qKind qn.toNat ≠ 2 := fun h => by
    have h' : s.blk.qKind qn.toNat = 2 := h
    omega
  have hq := hs.queue qn.toNat hq3
  unfold Block.q at hq ⊢
  rw [Block.gated_strata, hq]
  rfl

end

/-- Settles O49: SENDs, RECVs and deliveries. -/
theorem sendsAndDeliveries : Obligations.SendsAndDeliveries := by
  intro s ring qn c d
  refine ⟨fun h hq hk h1 hmost hf => ⟨fun hen hal => ⟨fun hfit hpri => completes_send h hq hk h1 hmost hf hen hal hfit hpri,
      fun hfull => completes_send_overrun h hq hk h1 hmost hf hen hal hfull⟩, fun hen => completes_send_rejected h hq hk h1 hmost hf hen⟩,
    fun h hf => completes_send_invalid h hf,
    fun h => ⟨fun hq hlen hen => completes_recv h hq hlen hen, fun hlen => completes_recv_invalid h hlen⟩,
    fun r hr hpost hcpl hk => ⟨fun hpri hpos hprov hctl hrp hfit => ⟨fun heop =>
        completes_wordDelivery hr hpost hcpl hk rfl hpri hpos hprov hctl hrp hfit heop,
      fun heop hmore => completes_wordDelivery_more hr hpost rfl hpri hpos hprov hctl heop hmore⟩,
    fun e hpri he => ⟨fun hfit hctl hprov => completes_entryDelivery hr hpost hcpl hk hpri he hfit hctl hprov,
      fun hbig => completes_entryDelivery_refused hr hpost hcpl hk hpri he hbig⟩⟩⟩

end Sys2Proof.Machine

/-!
Encryption and tags refuted (R353, R411): the index in the premise that no other engine runs is of `Fin 4`, where `i < 4` never
holds, so that the premise bars nothing. Two engines then hold the decryption of one parcel. The decision of the tag ends the
first of them with its parcel in the queue; the second finds its parcel no longer there and completes the command once more, with
NO_RESOURCE, which is the entry that host memory shows last.
-/

namespace Sys2Proof.Machine

/-- The parcel of one byte under its tag check. -/
def heldParcel : Produce := { bytes := [7], prio := 0, prov := true, orig := 0, pseq := 0, producer := 19 }

/-- The DECRYPT of function 0 into queue 4 that completes on ring 2. -/
def heldCmd : Cmd := { fn := 0, ring := 1, cpl := 2, seq := 5, opcode := 0x34, flags := 0, queue := 4, tag := 9, operands := [] }

/-- The operation, its tag passing. -/
def heldOp : CipherOp := { num := 1, prio := 0, page := 0, queue := 4, work := .decrypt heldCmd heldParcel, tagOk := true }

/-- A block in SERVICE whose PF masters the bus; ring 2 of kind CPL and queue 4 of kind PARCEL from Cipher are function 0's.
Engines 0 and 1 both hold the decryption whose parcel is live on queue 4, behind its mark. -/
def twiceHeld : Block := { Block.reset with
  dev := .service
  regs := [(Reg.CX_ENGINE_STAT, 15), (Reg.HIF_FN_STAT, 65537), (Reg.QD_CFG 2, 67142002), (Reg.QD_CFG 4, 50364723),
    (Reg.QD_BASE_HI 4, 1048576), (Reg.QD_WR 4, 1)]
  cx := { Block.reset.cx with
    engines := [(0, { running := some heldOp, suspended := [] }), (1, { running := some heldOp, suspended := [] })] }
  strata := { Block.reset.strata with queues := [(4, { QueueSt.empty with live := some heldParcel })] } }

theorem twiceHeld_premises : (twiceHeld.engine 1).running = some heldOp ∧ (twiceHeld.q 4).live = some heldParcel ∧
    (twiceHeld.q 4).waiting = [] ∧ twiceHeld.cx.waiting = [] ∧ twiceHeld.engineAlive 2 = true ∧ twiceHeld.qKind heldCmd.cpl = 2 ∧
    twiceHeld.deviceProduced 4 = true ∧ twiceHeld.qOwner 4 = some 0 ∧ twiceHeld.frozen 0 = false := by decide +kernel

theorem twiceHeld_postsTo : twiceHeld.postsTo heldCmd.fn := by
  unfold Block.postsTo
  decide +kernel

/-- The last entry in host memory carries another status than OK. -/
theorem twiceHeld_not_posted : ¬ (twiceHeld.after (.tagDecision 4 2 true)).posted heldCmd 0 0 [] := by
  unfold Block.posted
  decide +kernel

/-- Refutes O52: with two engines on one parcel the decision of its tag leaves the command completed with NO_RESOURCE. -/
theorem not_encryptionAndTags : ¬ Obligations.EncryptionAndTags := by
  intro h
  obtain ⟨hrun, hlive, hqw, hw, ha, hcpl, hdev, hown, hfree⟩ := twiceHeld_premises
  obtain ⟨-, -, hdecide, -⟩ := h ⟨twiceHeld, []⟩ 0 4 heldCmd 0 [] [] 1 2
  have hothers : ∀ i : Fin 4, i < 4 → i ≠ 1 → (twiceHeld.engine i).running = none := fun i hi => absurd hi (by revert i; decide)
  obtain ⟨hok, -⟩ := hdecide heldOp heldParcel hrun rfl hothers rfl hlive hqw hw (by decide) ha (by decide) twiceHeld_postsTo hcpl hdev
    (fun fn hfn => by rwa [← Option.some.inj (hown.symm.trans hfn)])
  obtain ⟨hposted, -⟩ := (hok rfl).after
  exact twiceHeld_not_posted hposted

end Sys2Proof.Machine

/-!
Sounding's coefficients (R203, R210, R213, R222). The coefficients are a store with nominal values for what it does not hold; an
operation on one of them leaves every other alone. The shown registers are rules of `promote`, which writes no control register.
-/

namespace Sys2Proof.Machine

/-! ### The store of coefficients -/

/-- A store with a value placed under a key. -/
def Store.replaced {α : Type} (m : Store α) (k : Nat) (v : α) : Store α := Store.insert (Store.erase m k) k v

theorem Store.get_replaced {α : Type} (d : Nat → α) (m : Store α) (k : Nat) (v : α) (k' : Nat) :
    Store.get d (m.replaced k v) k' = if k = k' then v else Store.get d m k' := by
  unfold Store.replaced
  rw [Store.get_insert d _ k v k' (Store.erase_ne m k)]
  split
  · rfl
  · exact Store.get_erase_other d m fun h => absurd h.symm ‹_›

theorem Store.mem_replaced {α : Type} [DecidableEq α] {m : Store α} {k : Nat} {v : α} {p : Nat × α} :
    p ∈ m.replaced k v ↔ p = (k, v) ∨ (p ∈ m ∧ p.1 ≠ k) := by
  unfold Store.replaced
  rw [Store.mem_insert]
  simp [Store.erase]

theorem Store.insert_perm {α : Type} (m : Store α) (k : Nat) (v : α) : (Store.insert m k v).Perm ((k, v) :: m) := by
  induction m with
  | nil => exact List.Perm.refl _
  | cons p m ih =>
    unfold Store.insert
    split
    · exact List.Perm.refl _
    · exact (ih.cons p).trans (List.Perm.swap _ _ _)

theorem Store.nodup_replaced {α : Type} {m : Store α} (h : (m.map (·.1)).Nodup) (k : Nat) (v : α) :
    ((m.replaced k v).map (·.1)).Nodup := by
  refine (((Store.insert_perm (Store.erase m k) k v).map (·.1)).nodup_iff).2 (List.nodup_cons.2 ⟨fun hk => ?_, ?_⟩)
  · obtain ⟨p, hp, he⟩ := List.mem_map.1 hk
    exact Store.erase_ne m k p hp he
  · exact h.sublist ((List.filter_sublist).map _)

/-- With each key once, a store reads under the key of an entry that entry's value. -/
theorem Store.get_of_mem {α : Type} (d : Nat → α) {m : Store α} (h : (m.map (·.1)).Nodup) {p : Nat × α} (hp : p ∈ m) :
    Store.get d m p.1 = p.2 := by
  induction m with
  | nil => cases hp
  | cons q m ih =>
    obtain ⟨hq, hm⟩ := List.nodup_cons.1 h
    rw [Store.get_cons]
    rcases List.mem_cons.1 hp with rfl | hp
    · exact if_pos rfl
    · rw [if_neg fun he => hq (List.mem_map.2 ⟨p, hp, he.symm⟩), ih hm hp]

/-- The value of a coefficient that is not held. -/
def Block.coefNominal (b : Block) (key : Nat) : Coef :=
  if key / 2 ^ 26 = 5 then Coef.start (b.get (Reg.LP_THERM_LOSS (6 * (key % 2 ^ 26))) * 1000000) 0 else coefStart key

theorem Block.coef_eq (b : Block) (key : Nat) : b.coef key = Store.get b.coefNominal b.sound.coefs key := by
  unfold Block.coef Store.get Block.coefNominal
  cases b.sound.coefs.find? fun p => p.1 == key <;> rfl

theorem Block.setCoef_coefs (b : Block) (key : Nat) (c : Coef) :
    (b.setCoef key c).sound.coefs = Store.replaced b.sound.coefs key c := rfl

theorem Block.coef_setCoef (b : Block) (key : Nat) (c : Coef) : (b.setCoef key c).coef key = c := by
  rw [Block.coef_eq, Block.setCoef_coefs, Store.get_replaced, if_pos rfl]

/-- A coefficient that is held reads the same from two stores that agree on it. -/
theorem Block.coef_of_held {b c : Block} {key : Nat} (h : c.sound = b.sound) (hk : ∃ p ∈ b.sound.coefs, p.1 = key) :
    c.coef key = b.coef key := by
  have hf : (b.sound.coefs.find? fun p => p.1 == key).isSome := by
    obtain ⟨p, hp, he⟩ := hk
    exact List.find?_isSome.2 ⟨p, hp, by simp [he]⟩
  obtain ⟨p, hp⟩ := Option.isSome_iff_exists.1 hf
  unfold Block.coef
  rw [h, hp]

theorem Block.held_setCoef (b : Block) (key : Nat) (c : Coef) : ∃ p ∈ (b.setCoef key c).sound.coefs, p.1 = key :=
  ⟨(key, c), Store.mem_replaced.2 (Or.inl rfl), rfl⟩

/-! ### What showing a coefficient leaves alone -/

@[simp] theorem Block.core_refreshPortCal (b : Block) (n : Nat) : (b.refreshPortCal n).core = b.core := by
  unfold Block.refreshPortCal
  dsimp only
  generalize ((groupsOf (b.permitted n)).all fun g => b.calibrated 1 (groupPlace n g) && b.calibrated 2 (groupPlace n g)) = done
  have hset : (b.setBit Reg.SND_CAL_STAT_PORT_CAL n done).core = b.core := Block.core_set _ _ _
  split
  · rw [Block.core_post, hset]
  · exact hset

@[simp] theorem Block.core_showCoef (b : Block) (cls place : Nat) : (b.showCoef cls place).core = b.core := by
  unfold Block.showCoef Block.showAgcCal
  dsimp only
  split
  · rw [Block.core_setOn, Block.core_setAll]
  · exact b.core_refreshPortCal _
  · exact b.core_refreshPortCal _
  · exact Block.core_setAll _ _
  · exact foldl_part Block.core _ (fun c i => Block.core_set c _ _) _ b
  · rfl

theorem Block.sound_of_core {b c : Block} (h : c.core = b.core) : c.sound = b.sound := show c.core.sound = b.core.sound by rw [h]

/-- Showing a coefficient leaves Sounding's control register. -/
theorem Block.showCoef_ctrl (b : Block) (cls place : Nat) : (b.showCoef cls place).rd Reg.SND_CTRL = b.rd Reg.SND_CTRL := by
  have hcal : ∀ n, (b.refreshPortCal n).rd Reg.SND_CTRL = b.rd Reg.SND_CTRL := fun n => by
    unfold Block.refreshPortCal
    dsimp only
    generalize ((groupsOf (b.permitted n)).all fun g => b.calibrated 1 (groupPlace n g) && b.calibrated 2 (groupPlace n g)) = done
    have hset : (b.setBit Reg.SND_CAL_STAT_PORT_CAL n done).rd Reg.SND_CTRL = b.rd Reg.SND_CTRL :=
      Block.rd_set_other _ _ _ _ (by decide)
    split
    · rw [Block.rd_post _ _ _ _ _ _ (notMem_recordRegs (by decide)), hset]
    · exact hset
  unfold Block.showCoef Block.showAgcCal
  dsimp only
  split
  · unfold Block.setOn
    rw [Block.rd_set_other _ _ _ _ (by simp only [Reg.SND_CTRL, Reg.LP_STATUS]; omega),
      Block.rd_setAll_other _ _ _ fun p hp => ?_]
    simp only [List.mem_cons, List.not_mem_nil, or_false] at hp
    rcases hp with rfl | rfl | rfl <;> simp only [Reg.SND_CTRL, Reg.SND_AGCR] <;> omega
  · exact hcal _
  · exact hcal _
  · refine Block.rd_setAll_other _ _ _ fun p hp => ?_
    simp only [List.mem_cons, List.not_mem_nil, or_false] at hp
    rcases hp with rfl | rfl | rfl <;> simp only [Reg.SND_CTRL, Reg.SND_ZL] <;> omega
  · refine foldl_keeps (fun c : Block => c.rd Reg.SND_CTRL) _ _ b fun c i => Block.rd_set_other _ _ _ _ ?_
    simp only [Reg.SND_CTRL, Reg.LP_THERM]
    omega
  · rfl

theorem Block.promote_ctrl (b : Block) (cls place : Nat) : (b.promote cls place).rd Reg.SND_CTRL = b.rd Reg.SND_CTRL := by
  unfold Block.promote
  dsimp only
  rw [Block.showCoef_ctrl]
  cases (b.coef (coefKey cls place)).pending with
  | none => rfl
  | some v =>
    dsimp only
    split <;> rfl

/-- An observed coefficient of class 5 takes effect at once. -/
theorem Block.coef_promote_loss (b : Block) (place : Nat) (c : Coef) :
    ((b.setCoef (coefKey 5 place) c).promote 5 place).coef (coefKey 5 place) =
      (c.pending.map fun v => { c with active := v, pending := none }).getD c := by
  have hcoef : (b.setCoef (coefKey 5 place) c).coef (coefKey 5 place) = c := Block.coef_setCoef _ _ _
  unfold Block.promote
  dsimp only
  rw [hcoef]
  cases hp : c.pending with
  | none =>
    exact (Block.coef_of_held (Block.sound_of_core (Block.core_showCoef _ _ _)) (Block.held_setCoef _ _ _)).trans hcoef
  | some v =>
    dsimp only
    rw [if_pos (by decide)]
    exact (Block.coef_of_held (Block.sound_of_core (Block.core_showCoef _ _ _)) (Block.held_setCoef _ _ _)).trans
      (Block.coef_setCoef _ _ _)

/-- Expiry keeps a coefficient but for a candidate whose time is up. -/
theorem Block.coef_expire_of_fresh (b : Block) {key : Nat}
    (h : ∀ x, (b.coef key).held = some x → b.superframe < x.first + b.get Reg.SND_CTRL_HOLD) : b.expire key = b := by
  unfold Block.expire
  dsimp only
  cases hh : (b.coef key).held with
  | none => rfl
  | some x => exact if_neg (by have := h x hh; simp only [Bool.and_eq_true, decide_eq_true_eq, not_and, not_le]; exact fun _ => this)

theorem Block.expire_keepsActive (b : Block) {key : Nat} (hk : ∃ p ∈ b.sound.coefs, p.1 = key) :
    ((b.expire key).coef key).active = (b.coef key).active ∧ ∃ p ∈ (b.expire key).sound.coefs, p.1 = key := by
  unfold Block.expire
  dsimp only
  cases (b.coef key).held with
  | none => exact ⟨rfl, hk⟩
  | some x =>
    dsimp only
    split
    · have hs : ((b.setCoef key { b.coef key with held := none }).inc Reg.SND_EXPIRED_COUNT).sound =
          (b.setCoef key { b.coef key with held := none }).sound := Block.inc_sound _ _
      refine ⟨?_, by rw [hs]; exact Block.held_setCoef _ _ _⟩
      rw [Block.coef_of_held hs (Block.held_setCoef _ _ _), Block.coef_setCoef]
    · exact ⟨rfl, hk⟩

/-- The coefficient of class 5 after an observation that is promoted, expired and counted. -/
def Block.lossTaken (b : Block) (key place : Nat) (c : Coef) : Block :=
  let d := ((b.setCoef key c).promote 5 place).expire key
  d.set Reg.SND_HELD_COUNT d.heldCount

theorem Block.held_promote (b : Block) (cls place : Nat) (hk : ∃ p ∈ b.sound.coefs, p.1 = coefKey cls place) :
    ∃ p ∈ (b.promote cls place).sound.coefs, p.1 = coefKey cls place := by
  unfold Block.promote
  dsimp only
  rw [Block.sound_of_core (Block.core_showCoef _ _ _)]
  cases (b.coef (coefKey cls place)).pending with
  | none => exact hk
  | some v =>
    dsimp only
    split
    · exact Block.held_setCoef _ _ _
    · exact hk

theorem Block.observeCoef_loss (b : Block) (place : Nat) (o : CoefVal) (x : ObsFrom) (port node : Nat)
    (hon : b.on Reg.SND_CTRL_ENABLE = true)
    (hout : ((b.coef (coefKey 5 place)).observe 5 (b.within 5 (b.coef (coefKey 5 place))) (b.on Reg.SND_CTRL_FREEZE) b.superframe o x).2 = false) :
    b.observeCoef 5 place o x port node = b.lossTaken (coefKey 5 place) place
      ((b.coef (coefKey 5 place)).observe 5 (b.within 5 (b.coef (coefKey 5 place))) (b.on Reg.SND_CTRL_FREEZE) b.superframe o x).1 := by
  unfold Block.observeCoef
  dsimp only
  rw [hon, hout]
  rfl

theorem Coef.accept_keeps (c : Coef) (cls : Nat) (x : ObsFrom) :
    (c.accept cls x).active = c.active ∧ (c.accept cls x).pending = c.pending ∧ (c.accept cls x).held = c.held := by
  unfold Coef.accept
  split <;> exact ⟨rfl, rfl, rfl⟩

theorem Coef.observe_of_near {c : Coef} {cls : Nat} {near : CoefVal → CoefVal → Bool} {frozen : Bool} {sf : Nat} {o : CoefVal} {x : ObsFrom}
    (h : near o c.active = true) (hf : frozen = false) :
    c.observe cls near frozen sf o x = (({ c with acc := stepVal c.acc o, pending := some (stepVal c.acc o) }).accept cls x, false) := by
  unfold Coef.observe
  dsimp only
  rw [if_pos h, hf]
  rfl

theorem Coef.observe_of_far {c : Coef} {cls : Nat} {near : CoefVal → CoefVal → Bool} {frozen : Bool} {sf : Nat} {o : CoefVal} {x : ObsFrom}
    (h : near o c.active = false) (hh : c.held = none) :
    c.observe cls near frozen sf o x = ({ c with held := some { value := o, count := 1, first := sf, origins := [x] } }, false) := by
  unfold Coef.observe
  dsimp only
  rw [if_neg (by rw [h]; decide), hh]

theorem Block.lossTaken_active (b : Block) (place : Nat) (c : Coef) :
    ((b.lossTaken (coefKey 5 place) place c).gated.coef (coefKey 5 place)).active = (c.pending.getD c.active) := by
  unfold Block.lossTaken
  dsimp only
  generalize hd : ((b.setCoef (coefKey 5 place) c).promote 5 place).expire (coefKey 5 place) = d
  obtain ⟨hactive, hheld⟩ := ((b.setCoef (coefKey 5 place) c).promote 5 place).expire_keepsActive
    (Block.held_promote _ _ _ (Block.held_setCoef _ _ _))
  rw [hd] at hactive hheld
  rw [Block.coef_of_held (b := d) ((Block.gated_sound _).trans (Block.set_sound _ _ _)) hheld, hactive, Block.coef_promote_loss]
  cases c.pending <;> rfl

theorem Block.promote_brg (b : Block) (cls place : Nat) : (b.promote cls place).brg = b.brg := by
  unfold Block.promote
  dsimp only
  have hshow : ∀ c : Block, (c.showCoef cls place).brg = c.brg := fun c => by
    have h := c.core_showCoef cls place
    exact show (c.showCoef cls place).core.brg = c.core.brg by rw [h]
  rw [hshow]
  cases (b.coef (coefKey cls place)).pending with
  | none => rfl
  | some v =>
    dsimp only
    split <;> rfl

/-- A candidate that has just been taken is still there. -/
theorem Block.lossTaken_candidate (b : Block) (place : Nat) (c : Coef) (hp : c.pending = none)
    (hfresh : ∀ x, c.held = some x → b.superframe < x.first + b.get Reg.SND_CTRL_HOLD) :
    (b.lossTaken (coefKey 5 place) place c).gated.coef (coefKey 5 place) = c := by
  have hcoef : ((b.setCoef (coefKey 5 place) c).promote 5 place).coef (coefKey 5 place) = c := by
    rw [Block.coef_promote_loss, hp]
    rfl
  have hsf : ((b.setCoef (coefKey 5 place) c).promote 5 place).superframe = b.superframe := by
    unfold Block.superframe
    rw [Block.promote_brg]
    rfl
  have hhold : ((b.setCoef (coefKey 5 place) c).promote 5 place).get Reg.SND_CTRL_HOLD = b.get Reg.SND_CTRL_HOLD :=
    Block.get_of_rd (Block.promote_ctrl _ _ _)
  have hexp : ((b.setCoef (coefKey 5 place) c).promote 5 place).expire (coefKey 5 place) =
      (b.setCoef (coefKey 5 place) c).promote 5 place := by
    refine Block.coef_expire_of_fresh _ fun x hx => ?_
    rw [hcoef] at hx
    rw [hsf, hhold]
    exact hfresh x hx
  unfold Block.lossTaken
  dsimp only
  rw [hexp, Block.coef_of_held ((Block.gated_sound _).trans (Block.set_sound _ _ _))
    (Block.held_promote _ _ _ (Block.held_setCoef _ _ _)), hcoef]

theorem Block.observeCoef_near (b : Block) (place : Nat) (o : CoefVal) (x : ObsFrom) (port node : Nat)
    (hon : b.on Reg.SND_CTRL_ENABLE = true) (hfrozen : b.on Reg.SND_CTRL_FREEZE = false)
    (hnear : b.within 5 (b.coef (coefKey 5 place)) o (b.coef (coefKey 5 place)).active = true) :
    ((b.observeCoef 5 place o x port node).gated.coef (coefKey 5 place)).active = stepVal (b.coef (coefKey 5 place)).acc o := by
  have hobserve := Coef.observe_of_near (c := b.coef (coefKey 5 place)) (cls := 5) (sf := b.superframe) (x := x) hnear hfrozen
  rw [Block.observeCoef_loss _ _ _ _ _ _ hon (congrArg Prod.snd hobserve), Block.lossTaken_active, hobserve]
  obtain ⟨hactive, hpending, -⟩ := Coef.accept_keeps { b.coef (coefKey 5 place) with
    acc := stepVal (b.coef (coefKey 5 place)).acc o, pending := some (stepVal (b.coef (coefKey 5 place)).acc o) } 5 x
  rw [hpending]
  rfl

theorem Block.observeCoef_far (b : Block) (place : Nat) (o : CoefVal) (x : ObsFrom) (port node : Nat)
    (hon : b.on Reg.SND_CTRL_ENABLE = true) (hhold : b.on Reg.SND_CTRL_HOLD = true)
    (hfar : b.within 5 (b.coef (coefKey 5 place)) o (b.coef (coefKey 5 place)).active = false)
    (hheld : (b.coef (coefKey 5 place)).held = none) (hpending : (b.coef (coefKey 5 place)).pending = none) :
    (b.observeCoef 5 place o x port node).gated.coef (coefKey 5 place) = { b.coef (coefKey 5 place) with
      held := some { value := o, count := 1, first := b.superframe, origins := [x] } } := by
  have hobserve := Coef.observe_of_far (c := b.coef (coefKey 5 place)) (cls := 5) (frozen := b.on Reg.SND_CTRL_FREEZE)
    (sf := b.superframe) (x := x) hfar hheld
  rw [Block.observeCoef_loss _ _ _ _ _ _ hon (congrArg Prod.snd hobserve), hobserve]
  refine b.lossTaken_candidate place _ hpending fun y hy => ?_
  obtain rfl := Option.some.inj hy
  have hpos : b.get Reg.SND_CTRL_HOLD ≠ 0 := by simpa [Block.on] using hhold
  exact Nat.lt_add_of_pos_right (Nat.pos_of_ne_zero hpos)

/-! ### The observation of the driver loss -/

/-- What a bank has sent in its superframe. -/
def Block.bankOut (b : Block) (bank : Nat) : BankSent := Store.get (fun _ => BankSent.reset) b.ports.sent bank

/-- The loss that the measured powers show (R154). -/
def lossShown (out supply idle : Nat) : CoefVal :=
  let loss := max 128000000 (min 384000000 (256000000 * (supply - idle) * 65536 / out))
  { mag := loss, phase := 0 }

/-- The same in whole numbers: an idle power above the supplied one lies below the limits. -/
theorem lossShown_mag (out supply idle : Nat) :
    lossShown out supply idle = { mag := max 128000000 (min 384000000 (256000000 * (supply - idle) * 65536 / out)), phase := 0 } := by
  unfold lossShown
  dsimp only
  congr 1
  push_cast
  rcases Nat.le_total idle supply with h | h
  · rw [Nat.cast_sub h]
  · have hneg : (256000000 * ((supply : Int) - idle) * 65536 / out) ≤ 0 := by
      rcases Nat.eq_zero_or_pos out with rfl | hout
      · simp
      · exact Int.ediv_nonpos_of_nonpos_of_neg (by omega) (Int.natCast_pos.2 hout)
    rw [show ((supply - idle : Nat) : Int) = 0 by rw [Nat.sub_eq_zero_of_le h]; rfl, mul_zero, zero_mul, Int.zero_ediv]
    omega

/-- The block whose bank has been observed. -/
def Block.bankObserved (b : Block) (bank : Nat) : Block :=
  ({ b with ports := { b.ports with
      sent := Store.put (fun _ => BankSent.reset) b.ports.sent bank { b.bankOut bank with observed := true } } }).newFrame

theorem Block.lossObservation_eq {b : Block} {bank : Nat} (supply idle : Nat) (hdev : b.dev = .service) (hout : 0 < (b.bankOut bank).out)
    (hobs : (b.bankOut bank).observed = false) : b.lossObservation bank supply idle =
      (b.bankObserved bank).observeCoef 5 bank (lossShown (b.bankOut bank).out supply idle)
        ((b.bankObserved bank).origin (b.bankObserved bank).brg.now noNode) (6 * bank) noNode := by
  have h : (b.dev != .service || (b.bankOut bank).out == 0 || (b.bankOut bank).observed) = false := by
    rw [hdev, hobs]
    simpa using Nat.ne_of_gt hout
  unfold Block.bankOut at h
  unfold Block.lossObservation Block.bankObserved Block.bankOut lossShown
  dsimp only
  rw [if_neg (Bool.eq_false_iff.1 h)]

theorem Block.lossObservation_idle {b : Block} {bank : Nat} (supply idle : Nat)
    (h : (b.bankOut bank).out = 0 ∨ (b.bankOut bank).observed = true) : b.lossObservation bank supply idle = b := by
  have h : (b.dev != .service || (b.bankOut bank).out == 0 || (b.bankOut bank).observed) = true := by
    rcases h with h | h <;> simp [h]
  unfold Block.lossObservation
  exact if_pos h

theorem exec_lossObservation (bank : Fin 4) (supply idle : Nat) (s : State) :
    exec (.lossObservation bank supply idle) s = .next { s with blk := (s.blk.lossObservation bank supply idle).gated } := rfl

theorem Block.bankObserved_coef (b : Block) (bank key : Nat) : (b.bankObserved bank).coef key = b.coef key := rfl

theorem Block.bankObserved_within (b : Block) (bank cls : Nat) : (b.bankObserved bank).within cls = b.within cls := rfl

theorem Block.bankObserved_on (b : Block) (bank : Nat) (f : Field) : (b.bankObserved bank).on f = b.on f := rfl

/-- An observation within the limits moves the value an eighth of the way. -/
theorem completes_lossObservation_near {s : State} {bank : Fin 4} {supply idle : Nat} (hdev : s.blk.dev = .service)
    (hout : 0 < (s.blk.bankOut bank).out) (hobs : (s.blk.bankOut bank).observed = false) (hon : s.blk.on Reg.SND_CTRL_ENABLE = true)
    (hfrozen : s.blk.on Reg.SND_CTRL_FREEZE = false)
    (hnear : s.blk.within 5 (s.blk.coef (coefKey 5 bank)) (lossShown (s.blk.bankOut bank).out supply idle)
      (s.blk.coef (coefKey 5 bank)).active = true) :
    Completes (.lossObservation bank supply idle) s fun b => (b.coef (coefKey 5 bank)).active =
      stepVal (s.blk.coef (coefKey 5 bank)).acc (lossShown (s.blk.bankOut bank).out supply idle) := by
  refine completes_of_next (exec_lossObservation bank supply idle s) ?_
  rw [Block.lossObservation_eq supply idle hdev hout hobs, Block.observeCoef_near, Block.bankObserved_coef]
  · rw [Block.bankObserved_on, hon]
  · rw [Block.bankObserved_on, hfrozen]
  · rw [Block.bankObserved_within, Block.bankObserved_coef, hnear]

/-- An observation outside the limits becomes a candidate. -/
theorem completes_lossObservation_far {s : State} {bank : Fin 4} {supply idle : Nat} (hdev : s.blk.dev = .service)
    (hout : 0 < (s.blk.bankOut bank).out) (hobs : (s.blk.bankOut bank).observed = false) (hon : s.blk.on Reg.SND_CTRL_ENABLE = true)
    (hfar : s.blk.within 5 (s.blk.coef (coefKey 5 bank)) (lossShown (s.blk.bankOut bank).out supply idle)
      (s.blk.coef (coefKey 5 bank)).active = false)
    (hheld : (s.blk.coef (coefKey 5 bank)).held = none) (hpending : (s.blk.coef (coefKey 5 bank)).pending = none)
    (hhold : s.blk.on Reg.SND_CTRL_HOLD = true) :
    Completes (.lossObservation bank supply idle) s fun b =>
      (b.coef (coefKey 5 bank)).active = (s.blk.coef (coefKey 5 bank)).active ∧
      ∃ h, (b.coef (coefKey 5 bank)).held = some h ∧ h.value = lossShown (s.blk.bankOut bank).out supply idle ∧ h.count = 1 := by
  refine completes_of_next (exec_lossObservation bank supply idle s) ?_
  rw [Block.lossObservation_eq supply idle hdev hout hobs, Block.observeCoef_far, Block.bankObserved_coef]
  · exact ⟨rfl, _, rfl, rfl, rfl⟩
  · rw [Block.bankObserved_on, hon]
  · rw [Block.bankObserved_on, hhold]
  · rw [Block.bankObserved_within, Block.bankObserved_coef, hfar]
  · rw [Block.bankObserved_coef, hheld]
  · rw [Block.bankObserved_coef, hpending]

/-- A superframe without output, or one already observed, shows nothing. -/
theorem completes_lossObservation_idle {s : State} {bank : Fin 4} (supply idle : Nat)
    (h : (s.blk.bankOut bank).out = 0 ∨ (s.blk.bankOut bank).observed = true) :
    Completes (.lossObservation bank supply idle) s fun b => b.sound = s.blk.sound ∧ s.blk.keepsBut b [Reg.SP_STAT 1] := by
  refine completes_of_next (exec_lossObservation bank supply idle s) ?_
  rw [Block.lossObservation_idle supply idle h]
  exact ⟨Block.gated_sound _, Block.keepsBut_gated_of_regs rfl⟩

/-! ### Candidates that expire -/

/-- No candidate of the entry has outlived its superframes. -/
def Block.freshEntry (b : Block) (p : Nat × Coef) : Prop :=
  ∀ h, p.2.held = some h → b.superframe < h.first + b.get Reg.SND_CTRL_HOLD

theorem Block.expire_superframe (b : Block) (key : Nat) : (b.expire key).superframe = b.superframe := by
  unfold Block.expire Block.superframe
  dsimp only
  cases (b.coef key).held with
  | none => rfl
  | some x =>
    dsimp only
    split
    · rw [Block.inc_brg]
      rfl
    · rfl

theorem Block.expire_ctrl (b : Block) (key : Nat) : (b.expire key).rd Reg.SND_CTRL = b.rd Reg.SND_CTRL := by
  unfold Block.expire
  dsimp only
  cases (b.coef key).held with
  | none => rfl
  | some x =>
    dsimp only
    split
    · exact Block.rd_inc_other _ _ _ (by decide)
    · rfl

theorem Block.expire_frozen {b : Block} (h : b.on Reg.SND_CTRL_FREEZE = true) (key : Nat) : b.expire key = b := by
  unfold Block.expire
  dsimp only
  cases (b.coef key).held with
  | none => rfl
  | some x => exact if_neg (by rw [h]; exact Bool.false_ne_true)

/-- The coefficients after the expiry of one. -/
theorem Block.expire_cases {b : Block} (hf : b.on Reg.SND_CTRL_FREEZE = false) (key : Nat) :
    (b.freshEntry (key, b.coef key) ∧ (b.expire key).sound.coefs = b.sound.coefs) ∨
      (b.expire key).sound.coefs = Store.replaced b.sound.coefs key { b.coef key with held := none } := by
  unfold Block.expire Block.freshEntry
  dsimp only
  cases hh : (b.coef key).held with
  | none => exact Or.inl ⟨nofun, rfl⟩
  | some x =>
    dsimp only
    split
    · right
      rw [Block.inc_sound]
      rfl
    · rename_i hlate
      rw [hf] at hlate
      left
      refine ⟨fun y hy => ?_, rfl⟩
      obtain rfl := Option.some.inj hy
      simpa using hlate

/-- The expiry of all the listed coefficients leaves only fresh candidates. -/
theorem Block.expireAll_fresh (l : List (Nat × Coef)) {b : Block} (hf : b.on Reg.SND_CTRL_FREEZE = false)
    (hnodup : (b.sound.coefs.map (·.1)).Nodup)
    (hrest : ∀ p ∈ b.sound.coefs, b.freshEntry p ∨ p.1 ∈ l.map (·.1)) :
    (∀ p ∈ (l.foldl (fun b p => b.expire p.1) b).sound.coefs, b.freshEntry p) ∧
      (l.foldl (fun b p => b.expire p.1) b).superframe = b.superframe ∧
      (l.foldl (fun b p => b.expire p.1) b).rd Reg.SND_CTRL = b.rd Reg.SND_CTRL := by
  induction l generalizing b with
  | nil => exact ⟨fun p hp => (hrest p hp).resolve_right (by simp), rfl, rfl⟩
  | cons q l ih =>
    have hctrl := b.expire_ctrl q.1
    have hsf := b.expire_superframe q.1
    have hfresh : ∀ p, (b.expire q.1).freshEntry p ↔ b.freshEntry p := fun p => by
      unfold Block.freshEntry
      rw [hsf, Block.get_of_rd (f := Reg.SND_CTRL_HOLD) hctrl]
    have hf' : (b.expire q.1).on Reg.SND_CTRL_FREEZE = false := (Block.on_congr (Block.get_of_rd hctrl)).trans hf
    have hnodup' : ((b.expire q.1).sound.coefs.map (·.1)).Nodup := by
      rcases Block.expire_cases hf q.1 with ⟨-, he⟩ | he <;> rw [he]
      · exact hnodup
      · exact Store.nodup_replaced hnodup _ _
    have hrest' : ∀ p ∈ (b.expire q.1).sound.coefs, (b.expire q.1).freshEntry p ∨ p.1 ∈ l.map (·.1) := by
      intro p hp
      rw [hfresh]
      have step : p ∈ b.sound.coefs → (p.1 = q.1 → b.freshEntry p) → b.freshEntry p ∨ p.1 ∈ l.map (·.1) := fun hmem hkey => by
        rcases hrest p hmem with h | h
        · exact Or.inl h
        · rcases List.mem_cons.1 h with h | h
          · exact Or.inl (hkey h)
          · exact Or.inr h
      rcases Block.expire_cases hf q.1 with ⟨hq, he⟩ | he <;> rw [he] at hp
      · refine step hp fun hkey => ?_
        have hcoef : b.coef q.1 = p.2 := by rw [Block.coef_eq, ← hkey, Store.get_of_mem _ hnodup hp]
        rw [hcoef, ← hkey] at hq
        exact hq
      · rcases Store.mem_replaced.1 hp with rfl | ⟨hmem, hne⟩
        · exact Or.inl nofun
        · exact step hmem fun h => absurd h hne
    obtain ⟨h1, h2, h3⟩ := ih hf' hnodup' hrest'
    exact ⟨fun p hp => (hfresh p).1 (h1 p hp), h2.trans hsf, h3.trans hctrl⟩

theorem Block.expireAll_frozen (l : List (Nat × Coef)) {b : Block} (h : b.on Reg.SND_CTRL_FREEZE = true) :
    l.foldl (fun b p => b.expire p.1) b = b := by
  induction l with
  | nil => rfl
  | cons q l ih => rw [List.foldl_cons, Block.expire_frozen h, ih]

/-- The block after the expiry of every candidate, counted. -/
def Block.expired (b : Block) : Block :=
  let c := b.sound.coefs.foldl (fun b p => b.expire p.1) b
  c.set Reg.SND_HELD_COUNT c.heldCount

theorem exec_candidateExpiry (s : State) : exec .candidateExpiry s = .next { s with blk := s.blk.expired.gated } := rfl

theorem Block.heldCount_of_sound {b c : Block} (h : c.sound = b.sound) : c.heldCount = b.heldCount := by
  unfold Block.heldCount
  rw [h]

theorem completes_candidateExpiry {s : State} (hf : s.blk.on Reg.SND_CTRL_FREEZE = false) (hnodup : (s.blk.sound.coefs.map (·.1)).Nodup) :
    Completes .candidateExpiry s fun b =>
      (∀ p ∈ b.sound.coefs, ∀ h, p.2.held = some h → s.blk.superframe < h.first + s.blk.get Reg.SND_CTRL_HOLD) ∧
      b.get Reg.SND_HELD_COUNT = b.heldCount % 2 ^ 16 := by
  refine completes_of_next (exec_candidateExpiry s) ?_
  obtain ⟨hfresh, -, -⟩ := Block.expireAll_fresh s.blk.sound.coefs hf hnodup fun p hp => Or.inr (List.mem_map_of_mem hp)
  unfold Block.expired
  dsimp only
  generalize s.blk.sound.coefs.foldl (fun b p => b.expire p.1) s.blk = c at hfresh ⊢
  have hsound : (c.set Reg.SND_HELD_COUNT c.heldCount).gated.sound = c.sound := (Block.gated_sound _).trans (Block.set_sound _ _ _)
  refine ⟨by rw [hsound]; exact hfresh, ?_⟩
  rw [Block.heldCount_of_sound hsound, Block.gated_get_other _ _ (by decide), Block.get_set_same _ _ _ (by decide)]

theorem completes_candidateExpiry_frozen {s : State} (h : s.blk.on Reg.SND_CTRL_FREEZE = true) :
    Completes .candidateExpiry s fun b => b.sound = s.blk.sound := by
  refine completes_of_next (exec_candidateExpiry s) ?_
  unfold Block.expired
  dsimp only
  rw [Block.expireAll_frozen _ h, Block.gated_sound, Block.set_sound]

end Sys2Proof.Machine

/-!
Coefficients that take effect, and the cross-band filters (R137, R138, R203, R222).
-/

namespace Sys2Proof.Machine

/-! ### What is pending takes effect at its target -/

/-- The block with other coefficients. -/
def Block.withCoefs (b : Block) (m : Store Coef) : Block := { b with sound := { b.sound with coefs := m } }

theorem Block.withCoefs_coefs (b : Block) (m : Store Coef) : (b.withCoefs m).sound.coefs = m := rfl

theorem Block.withCoefs_regs (b : Block) (m : Store Coef) : (b.withCoefs m).regs = b.regs := rfl

/-- The coefficients after the one of the entry has taken up what is pending. -/
def Store.applied (ready : Nat → Bool) (m : Store Coef) (p : Nat × Coef) : Store Coef :=
  if ready p.1 then (p.2.pending.map fun v => m.replaced p.1 { p.2 with active := v, pending := none }).getD m else m

/-- The coefficients that may take effect at the target. -/
def Block.ready (b : Block) (t : ApplyTarget) (key : Nat) : Bool := b.inTarget t key && b.mayApply key

theorem Block.applyCoef_withCoefs (b : Block) (m : Store Coef) (t : ApplyTarget) (p : Nat × Coef) :
    (if (b.withCoefs m).inTarget t p.1 && (b.withCoefs m).mayApply p.1 then (b.withCoefs m).applyCoef p.1 p.2 else b.withCoefs m) =
      b.withCoefs (m.applied (b.ready t) p) := by
  unfold Store.applied
  rw [show ((b.withCoefs m).inTarget t p.1 && (b.withCoefs m).mayApply p.1) = b.ready t p.1 from rfl]
  split
  · unfold Block.applyCoef
    cases p.2.pending <;> rfl
  · rfl

theorem Block.applyTarget_eq (b : Block) (t : ApplyTarget) :
    b.applyTarget t = b.withCoefs (b.sound.coefs.foldl (Store.applied (b.ready t)) b.sound.coefs) := by
  have hfold : ∀ (l : List (Nat × Coef)) (m : Store Coef),
      l.foldl (fun b p => if b.inTarget t p.1 && b.mayApply p.1 then b.applyCoef p.1 p.2 else b) (b.withCoefs m) =
        b.withCoefs (l.foldl (Store.applied (b.ready t)) m) := fun l => by
    induction l with
    | nil => exact fun _ => rfl
    | cons p l ih =>
      intro m
      rw [List.foldl_cons, List.foldl_cons, Block.applyCoef_withCoefs, ih]
  exact hfold _ _

theorem Store.get_applied_other (d : Nat → Coef) (ready : Nat → Bool) (m : Store Coef) {p : Nat × Coef} {k : Nat} (h : p.1 ≠ k) :
    Store.get d (m.applied ready p) k = Store.get d m k := by
  unfold Store.applied
  split
  · cases p.2.pending with
    | none => rfl
    | some v =>
      dsimp only [Option.map, Option.getD]
      rw [Store.get_replaced, if_neg h]
  · rfl

/-- A coefficient after all of them have been asked, each once. -/
theorem Store.get_appliedAll (d : Nat → Coef) (ready : Nat → Bool) (l : List (Nat × Coef)) (hl : (l.map (·.1)).Nodup) (m : Store Coef)
    {p : Nat × Coef} (hp : p ∈ l) (hm : Store.get d m p.1 = p.2) : Store.get d (l.foldl (Store.applied ready) m) p.1 =
      if ready p.1 then (p.2.pending.map fun v => { p.2 with active := v, pending := none }).getD p.2 else p.2 := by
  induction l generalizing m with
  | nil => cases hp
  | cons q l ih =>
    obtain ⟨hq, hl'⟩ := List.nodup_cons.1 hl
    rw [List.foldl_cons]
    rcases List.mem_cons.1 hp with rfl | hp
    · have hrest : ∀ m' : Store Coef, Store.get d (l.foldl (Store.applied ready) m') p.1 = Store.get d m' p.1 := fun m' =>
        foldl_keeps_mem (fun m : Store Coef => Store.get d m p.1) _ l m' fun m' q hql =>
          Store.get_applied_other d ready m' fun he => hq (List.mem_map.2 ⟨q, hql, he⟩)
      rw [hrest]
      unfold Store.applied
      split
      · cases p.2.pending with
        | none => exact hm
        | some v =>
          dsimp only [Option.map, Option.getD]
          rw [Store.get_replaced, if_pos rfl]
      · exact hm
    · refine ih hl' _ hp ((Store.get_applied_other d ready m fun he => ?_).trans hm)
      exact hq (List.mem_map.2 ⟨p, hp, he.symm⟩)

/-- The nodes whose coefficients take effect. -/
def Block.appliedNodes (b : Block) (t : ApplyTarget) : List Nat :=
  ((b.sound.coefs.filter fun p => p.1 / 2 ^ 26 == 4 && b.inTarget t p.1 && p.2.pending.isSome).map fun p => p.1 % 2 ^ 26 / 252).dedup

/-- The block at whose target the coefficients have taken effect, the changed entries replicated. -/
def Block.appliedAt (b : Block) (t : ApplyTarget) : Block :=
  let old := (b.appliedNodes t).map fun x => (x, b.extBytes x)
  let b := b.applyTarget t
  if b.replicates then old.foldl (fun b o => b.replicate replExt o.1 o.2 (b.extBytes o.1)) b else b

theorem exec_coefficientApply (t : ApplyTarget) (s : State) :
    exec (.coefficientApply t) s = .next { s with blk := (s.blk.appliedAt t).gated } := rfl

theorem Block.sound_of_frame {b c : Block} (h : c.frame = b.frame) : c.sound = b.sound := show c.frame.sound = b.frame.sound by rw [h]

theorem Block.appliedAt_shows (b : Block) (t : ApplyTarget) :
    (b.appliedAt t).sound = (b.applyTarget t).sound ∧ ∀ off, off ≠ Reg.TRV_REPL_SEQ → (b.appliedAt t).rd off = b.rd off := by
  have hregs : ∀ off, (b.applyTarget t).rd off = b.rd off := fun off => by
    rw [Block.applyTarget_eq]
    exact Block.rd_of_regs (Block.withCoefs_regs _ _) off
  unfold Block.appliedAt
  dsimp only
  generalize (b.appliedNodes t).map (fun x => (x, b.extBytes x)) = old
  generalize b.applyTarget t = c at hregs ⊢
  split
  · exact ⟨Block.sound_of_frame (foldl_part Block.frame _ (fun d o => Block.frame_replicate d _ _ _ _) old c),
      fun off hoff => (foldl_keeps (fun d : Block => d.rd off) _ old c fun d o => Block.replicate_rd d _ _ off _ _ hoff).trans (hregs off)⟩
  · exact ⟨rfl, fun off _ => hregs off⟩

theorem completes_coefficientApply {s : State} (t : ApplyTarget) (hnodup : (s.blk.sound.coefs.map (·.1)).Nodup) :
    Completes (.coefficientApply t) s fun b =>
      (∀ p ∈ s.blk.sound.coefs, ∀ v, p.2.pending = some v →
        (s.blk.inTarget t p.1 = true → s.blk.mayApply p.1 = true → b.coef p.1 = { p.2 with active := v, pending := none }) ∧
        (s.blk.inTarget t p.1 = false ∨ s.blk.mayApply p.1 = false → b.coef p.1 = p.2)) ∧
      s.blk.keepsBut b [Reg.TRV_REPL_SEQ, Reg.SP_STAT 1] := by
  refine completes_of_next (exec_coefficientApply t s) ?_
  obtain ⟨hsound, hregs⟩ := s.blk.appliedAt_shows t
  refine ⟨fun p hp v hv => ?_, fun off hoff => ?_⟩
  · have hcoef : (s.blk.appliedAt t).gated.coef p.1 =
        if s.blk.ready t p.1 then { p.2 with active := v, pending := none } else p.2 := by
      rw [Block.coef_eq, Block.gated_sound, hsound, Block.applyTarget_eq, Block.withCoefs_coefs,
        Store.get_appliedAll _ _ _ hnodup _ hp (Store.get_of_mem _ hnodup hp), hv]
      rfl
    refine ⟨fun h1 h2 => ?_, fun h => ?_⟩
    · rw [hcoef, if_pos (by unfold Block.ready; rw [h1, h2]; rfl)]
    · rw [hcoef, if_neg (by unfold Block.ready; rcases h with h | h <;> simp [h])]
  · simp only [List.mem_cons, List.not_mem_nil, or_false, not_or] at hoff
    rw [Block.gated_rd_other _ _ hoff.2, hregs _ hoff.1]

/-! ### The end of the freeze -/

/-- What the end of the freeze makes of one coefficient. -/
def Block.unfreezeOne (b : Block) (p : Nat × Coef) : Block :=
  let cls := p.1 / 2 ^ 26
  let c := { p.2 with
    held := p.2.held.map fun h => { h with first := h.first + (b.superframe - max b.sound.freezeSince h.first) }
    pending := if b.within cls p.2 p.2.acc p.2.active then some p.2.acc else p.2.pending }
  (b.setCoef p.1 c).promote cls (p.1 % 2 ^ 26)

theorem Block.unfreezeOne_ctrl (b : Block) (p : Nat × Coef) : (b.unfreezeOne p).rd Reg.SND_CTRL = b.rd Reg.SND_CTRL := by
  unfold Block.unfreezeOne
  dsimp only
  exact Block.promote_ctrl _ _ _

theorem Block.unfreeze_eq (b : Block) : b.unfreeze =
    (b.set Reg.SND_CTRL_FREEZE 0).sound.coefs.foldl Block.unfreezeOne (b.set Reg.SND_CTRL_FREEZE 0) := rfl

theorem Block.unfreeze_get (b : Block) : b.unfreeze.get Reg.SND_CTRL_FREEZE = 0 := by
  have hzero : (b.set Reg.SND_CTRL_FREEZE 0).get Reg.SND_CTRL_FREEZE = 0 := Block.get_set_same _ _ _ (by decide)
  rw [Block.unfreeze_eq]
  generalize b.set Reg.SND_CTRL_FREEZE 0 = c at hzero ⊢
  rw [Block.get_of_rd (foldl_keeps (fun c : Block => c.rd Reg.SND_CTRL) Block.unfreezeOne _ c Block.unfreezeOne_ctrl), hzero]

theorem exec_soundingUnfreeze (s : State) :
    exec .soundingUnfreeze s = .next { s with blk := (s.blk.byPf fun b => b.setFreeze false).gated } := rfl

theorem completes_soundingUnfreeze {s : State} (hacc : s.blk.accepts = true) (hf : s.blk.on Reg.SND_CTRL_FREEZE = true) :
    Completes .soundingUnfreeze s fun b => b.on Reg.SND_CTRL_FREEZE = false := by
  refine completes_byPf (exec_soundingUnfreeze s) hacc ?_
  have hset : s.blk.setFreeze false = s.blk.unfreeze := by
    unfold Block.setFreeze
    rw [if_neg (by rw [hf]; decide)]
    rfl
  rw [hset]
  unfold Block.on
  rw [Block.gated_get_other _ _ (by decide), Block.unfreeze_get]
  rfl

/-! ### Cross-band filters -/

theorem exec_xbcFilterApply (t : Fin 8) (s : State) :
    exec (.xbcFilterApply t) s = .next { s with blk := (s.blk.applyXbc t).gated } := rfl

/-- A port that shows the depth of its triad's filters. -/
def Block.showDepth (b : Block) (depth n : Nat) : Block :=
  (b.set (Reg.LP_XBC_STAT_DEPTH n) depth).set (Reg.LP_STATUS_XBC_CONV n) (if 50 ≤ depth then 1 else 0)

theorem Block.showDepth_rd (b : Block) (depth : Nat) {n off : Nat} (h1 : off ≠ Reg.LP_XBC_STAT n) (h2 : off ≠ Reg.LP_STATUS n) :
    (b.showDepth depth n).rd off = b.rd off := by
  unfold Block.showDepth
  rw [Block.rd_set_other _ _ _ _ h2, Block.rd_set_other _ _ _ _ h1]

theorem Block.showDepth_ports (b : Block) (depth n : Nat) : (b.showDepth depth n).ports = b.ports := by
  unfold Block.showDepth
  rw [Block.set_ports, Block.set_ports]

theorem Block.showDepth_same (b : Block) (depth n : Nat) :
    (b.showDepth depth n).get (Reg.LP_XBC_STAT_DEPTH n) = depth % 256 ∧
      (b.showDepth depth n).on (Reg.LP_STATUS_XBC_CONV n) = decide (50 ≤ depth) := by
  unfold Block.showDepth
  have hfits : (Reg.LP_STATUS_XBC_CONV n).fits := Nat.le_of_ble_eq_true rfl
  constructor
  · rw [Block.get_of_rd (Block.rd_set_other _ _ _ _ ?_)]
    · exact Block.get_set_same _ (Reg.LP_XBC_STAT_DEPTH n) _ (Nat.le_of_ble_eq_true rfl)
    · simp only [Reg.LP_STATUS, Reg.LP_XBC_STAT]
      omega
  · unfold Block.on
    rw [Block.get_set_same _ _ _ hfits]
    by_cases h : 50 ≤ depth <;> simp [h]

theorem Block.xbc_of_ports {b c : Block} (h : c.ports.xbc = b.ports.xbc) (t : Nat) : c.xbc t = b.xbc t := by
  unfold Block.xbc
  rw [h]

theorem Block.gated_xbcs (b : Block) : b.gated.ports.xbc = b.ports.xbc := by
  have hline : (if b.dev = .service then b else b.releaseLine).ports.xbc = b.ports.xbc := by split <;> rfl
  have hrings : ∀ c : Block, (if c.dev.joins then c else c.shortRings).ports = c.ports := fun c => by split <;> rfl
  have hmute : ∀ c : Block, (if c.dev.silent then c.muteOutputs else c).ports = c.ports := fun c => by
    split
    · exact Block.muteOutputs_ports c
    · rfl
  exact (congrArg PortsSt.xbc ((hmute _).trans (hrings _))).trans hline

theorem Block.gated_xbc (b : Block) (t : Nat) : b.gated.xbc t = b.xbc t :=
  Block.xbc_of_ports b.gated_xbcs t

/-- Ports shown one after the other each show the depth. -/
theorem Block.showDepths (depth : Nat) (l : List Nat) (hl : l.Nodup) (c : Block) {n : Nat} (hn : n ∈ l) :
    (l.foldl (fun b n => b.showDepth depth n) c).get (Reg.LP_XBC_STAT_DEPTH n) = depth % 256 ∧
      (l.foldl (fun b n => b.showDepth depth n) c).on (Reg.LP_STATUS_XBC_CONV n) = decide (50 ≤ depth) := by
  induction l generalizing c with
  | nil => cases hn
  | cons m l ih =>
    obtain ⟨hm, hl'⟩ := List.nodup_cons.1 hl
    rw [List.foldl_cons]
    rcases List.mem_cons.1 hn with rfl | hn
    · have hkeep : ∀ off, off = Reg.LP_XBC_STAT n ∨ off = Reg.LP_STATUS n →
          (l.foldl (fun b n => b.showDepth depth n) (c.showDepth depth n)).rd off = (c.showDepth depth n).rd off := fun off hoff =>
        foldl_keeps_mem (fun d : Block => d.rd off) _ l _ fun d k hk => by
          have hne : n ≠ k := fun he => hm (he ▸ hk)
          refine d.showDepth_rd depth ?_ ?_ <;> simp only [Reg.LP_XBC_STAT, Reg.LP_STATUS] at hoff ⊢ <;> omega
      obtain ⟨h1, h2⟩ := c.showDepth_same depth n
      exact ⟨(Block.get_of_rd (hkeep _ (Or.inl rfl))).trans h1, (Block.on_congr (Block.get_of_rd (hkeep _ (Or.inr rfl)))).trans h2⟩
    · exact ih hl' _ hn

theorem Block.showDepths_ports (depth : Nat) (l : List Nat) (c : Block) :
    (l.foldl (fun b n => b.showDepth depth n) c).ports = c.ports :=
  foldl_keeps Block.ports _ l c fun b n => b.showDepth_ports depth n

theorem Block.applyXbc_eq {b : Block} {t : Nat} {d : XbcSet} (hp : (b.xbc t).pending = some d)
    (hs : [3 * t, 3 * t + 1, 3 * t + 2].any b.sending = false) :
    b.applyXbc t = [3 * t, 3 * t + 1, 3 * t + 2].foldl (fun b n => b.showDepth d.depth n)
      (b.setXbc t { active := some d, pending := none }) := by
  unfold Block.applyXbc
  dsimp only
  rw [hp, hs]
  rfl

theorem Block.xbc_setXbc (b : Block) (t : Nat) (x : XbcSt) : (b.setXbc t x).xbc t = x := by
  unfold Block.setXbc Block.xbc
  exact Store.get_put_same _ _ _ _

theorem completes_xbcFilterApply {s : State} {t : Fin 8} {d : XbcSet} (hp : (s.blk.xbc t).pending = some d)
    (hs : [3 * t.val, 3 * t.val + 1, 3 * t.val + 2].any s.blk.sending = false) :
    Completes (.xbcFilterApply t) s fun b =>
      b.xbc t = { active := some d, pending := none } ∧
      (∀ i, i < 3 → b.get (Reg.LP_XBC_STAT_DEPTH (3 * t + i)) = d.depth % 256 ∧
        b.on (Reg.LP_STATUS_XBC_CONV (3 * t + i)) = decide (50 ≤ d.depth)) := by
  refine completes_of_next (exec_xbcFilterApply t s) ?_
  rw [Block.applyXbc_eq hp hs]
  generalize hc : s.blk.setXbc t { active := some d, pending := none } = c
  have hxbc : c.xbc t = { active := some d, pending := none } := by
    rw [← hc, Block.xbc_setXbc]
  refine ⟨?_, fun i hi => ?_⟩
  · rw [Block.gated_xbc, Block.xbc_of_ports (congrArg PortsSt.xbc (Block.showDepths_ports d.depth _ c)), hxbc]
  · obtain ⟨h1, h2⟩ := Block.showDepths d.depth [3 * t.val, 3 * t.val + 1, 3 * t.val + 2] (by simp) c (n := 3 * t + i)
      (by simp only [List.mem_cons, List.not_mem_nil, or_false]; omega)
    refine ⟨(Block.gated_get_other _ _ ?_).trans h1, (Block.on_congr (Block.gated_get_other _ _ ?_)).trans h2⟩
    · show Reg.LP_XBC_STAT _ ≠ Reg.SP_STAT 1
      simp only [Reg.LP_XBC_STAT, Reg.SP_STAT]
      omega
    · show Reg.LP_STATUS _ ≠ Reg.SP_STAT 1
      simp only [Reg.LP_STATUS, Reg.SP_STAT]
      omega

theorem completes_xbcFilterApply_sending {s : State} {t : Fin 8}
    (hs : [3 * t.val, 3 * t.val + 1, 3 * t.val + 2].any s.blk.sending = true) :
    Completes (.xbcFilterApply t) s fun b => b.xbc t = s.blk.xbc t ∧ s.blk.keepsBut b [Reg.SP_STAT 1] := by
  refine completes_of_next (exec_xbcFilterApply t s) ?_
  have happly : s.blk.applyXbc t = s.blk := by
    unfold Block.applyXbc
    cases (s.blk.xbc t).pending with
    | none => rfl
    | some d => exact if_pos hs
  rw [happly]
  exact ⟨s.blk.gated_xbc t, Block.keepsBut_gated_of_regs rfl⟩

/-- Settles O32: a coefficient moves an eighth of the way or holds a candidate; candidates expire; what is pending takes effect
at its target; the filters take effect while no port of the triad sends. -/
theorem coefficientsFollowObservations : Obligations.CoefficientsFollowObservations := by
  unfold Obligations.CoefficientsFollowObservations
  intro s bank supply idle target t
  refine ⟨fun hdev hout hobs hon hfrozen => ⟨fun hnear => ?_, fun hfar hheld hpending hhold => ?_⟩,
    completes_lossObservation_idle supply idle, completes_candidateExpiry, completes_candidateExpiry_frozen,
    completes_coefficientApply target, completes_soundingUnfreeze, fun d => completes_xbcFilterApply, completes_xbcFilterApply_sending⟩
  · rw [← lossShown_mag] at hnear ⊢
    exact completes_lossObservation_near hdev hout hobs hon hfrozen hnear
  · rw [← lossShown_mag] at hfar ⊢
    exact completes_lossObservation_far hdev hout hobs hon hfar hheld hpending hhold

end Sys2Proof.Machine

/-!
The frames on the line and those that wait (R50, R144). Charges apart, few operations change them; each of the others keeps them.
-/

namespace Sys2Proof.Machine

/-! ### What keeps the frames -/

theorem Block.frame_mac (b : Block) : b.frame.mac = b.mac := rfl

theorem Block.mac_of_frame {b c : Block} (h : c.frame = b.frame) : c.mac = b.mac := by
  rw [← Block.frame_mac, h, Block.frame_mac]

theorem Block.setNode_mac (b : Block) (x : Nat) (n : Node) : (b.setNode x n).mac = b.mac := by
  rw [← Block.frame_mac, Block.frame_setNode]
  exact b.frame_mac

theorem Block.setExt_mac (b : Block) (x : Nat) (e : NodeExt) : (b.setExt x e).mac = b.mac := by
  rw [← Block.frame_mac, Block.frame_setExt]
  exact b.frame_mac

theorem Block.setRoute_mac (b : Block) (x : Nat) (r : Route) : (b.setRoute x r).mac = b.mac := by
  rw [← Block.frame_mac, Block.frame_setRoute]
  exact b.frame_mac

/-- A frame on the line without its charge, which every other frame of its bank moves. -/
def Tx.uncharged (x : Tx) : Tx := { x with charge := 0 }

/-- The frames on the line, charges apart. -/
def Block.aired (b : Block) : List Tx := b.mac.txs.map Tx.uncharged

/-- The frames on the line, charges apart, and those that wait. -/
def Block.lines (b : Block) : List Tx × List Offer := (b.aired, b.mac.offers)

section
variable (b : Block)

theorem Block.lines_of_mac {c : Block} (h : c.mac = b.mac) : c.lines = b.lines := by
  unfold Block.lines Block.aired
  rw [h]

theorem Block.lines_of_frame {c : Block} (h : c.frame = b.frame) : c.lines = b.lines :=
  b.lines_of_mac (Block.mac_of_frame h)

theorem Block.aired_of_lines {c : Block} (h : c.lines = b.lines) : c.aired = b.aired := congrArg Prod.fst h

theorem Block.offers_of_lines {c : Block} (h : c.lines = b.lines) : c.mac.offers = b.mac.offers := congrArg Prod.snd h

theorem Block.lines_set (f : Field) (v : Nat) : (b.set f v).lines = b.lines := b.lines_of_mac (Block.set_mac _ _ _)

theorem Block.lines_inc (f : Field) : (b.inc f).lines = b.lines := b.lines_of_mac (Block.inc_mac _ _)

theorem Block.lines_post (code sev src : Nat) (args : List (Nat × Nat)) : (b.post code sev src args).lines = b.lines :=
  b.lines_of_mac (Block.post_mac _ _ _ _ _)

theorem Block.lines_replicate (what index : Nat) (old new : List Byte) : (b.replicate what index old new).lines = b.lines :=
  b.lines_of_frame (Block.frame_replicate _ _ _ _ _)

theorem Block.lines_sendPiece (what piece index : Nat) (bytes : List Byte) : (b.sendPiece what piece index bytes).lines = b.lines :=
  b.lines_of_frame (Block.frame_sendPiece _ _ _ _ _)

theorem Block.lines_ite {p : Prop} [Decidable p] {c d e : Block} (hc : c.lines = e.lines) (hd : d.lines = e.lines) :
    (if p then c else d).lines = e.lines := by
  split
  · exact hc
  · exact hd

theorem Block.lines_setNode (x : Nat) (n : Node) : (b.setNode x n).lines = b.lines :=
  b.lines_of_mac (b.setNode_mac x n)

theorem Block.lines_modNode (x : Nat) (f : Node → Node) : (b.modNode x f).lines = b.lines := b.lines_setNode _ _

theorem Block.lines_setExt (x : Nat) (e : NodeExt) : (b.setExt x e).lines = b.lines :=
  b.lines_of_mac (b.setExt_mac x e)

theorem Block.lines_modExt (x : Nat) (f : NodeExt → NodeExt) : (b.modExt x f).lines = b.lines := b.lines_setExt _ _

theorem Block.lines_setRoute (x : Nat) (r : Route) : (b.setRoute x r).lines = b.lines :=
  b.lines_of_mac (b.setRoute_mac x r)

theorem Block.lines_recharge (bank : Nat) : (b.recharge bank).lines = b.lines := by
  unfold Block.recharge Block.lines Block.aired
  dsimp only
  rw [List.map_map]
  refine congrArg (fun l => (l, b.mac.offers)) (List.map_congr_left fun x _ => ?_)
  dsimp only [Function.comp]
  split <;> rfl

theorem Block.lines_reportPred : b.reportPred.lines = b.lines := by
  unfold Block.reportPred
  dsimp only
  rw [Block.lines_set, foldl_part Block.lines _ (fun c k => c.lines_set _ _), foldl_part Block.lines _ (fun c k => c.lines_set _ _)]

theorem Block.lines_showZout (n code bands : Nat) : (b.showZout n code bands).lines = b.lines := by
  unfold Block.showZout
  exact Block.lines_ite ((Block.lines_set _ _ _).trans (b.lines_set _ _)) (b.lines_set _ _)

theorem Block.lines_deferG3 (x : Tx) : (b.deferG3 x).lines = b.lines := by
  unfold Block.deferG3
  split
  · rfl
  · exact foldl_part Block.lines _ (fun c n => Block.lines_ite (c.lines_inc _) rfl) _ _

theorem Block.lines_setBuckets (n s : Nat) (u : List Nat) : (b.setBuckets n s u).lines = b.lines := by
  unfold Block.setBuckets
  extract_lets old m d e
  have hd : d.lines = b.lines := rfl
  have he : e.lines = b.lines := (d.lines_set _ _).trans hd
  clear_value e
  exact Block.lines_ite ((e.lines_replicate _ _ _ _).trans he) he

theorem Block.lines_chargeBand (n s micros : Nat) : (b.chargeBand n s micros).lines = b.lines := by
  unfold Block.chargeBand
  split <;> exact b.lines_setBuckets _ _ _

theorem Block.lines_chargeFrame (ports : List Nat) (bands micros : Nat) : (b.chargeFrame ports bands micros).lines = b.lines :=
  foldl_part Block.lines _ (fun _ _ => foldl_part Block.lines _ (fun d _ => d.lines_chargeBand _ _ _) _ _) _ _

theorem Block.lines_sendCell (kind dst : Nat) (opt : Bool) (body : List Byte) : (b.sendCell kind dst opt body).lines = b.lines :=
  b.lines_of_frame (Block.frame_sendCell _ _ _ _ _)

theorem Block.lines_driveCells (x : Tx) (n : Nat) : (b.driveCells x n).lines = b.lines := by
  unfold Block.driveCells
  split
  · rfl
  · exact foldl_part Block.lines _ (fun c i => c.lines_sendCell _ _ _ _) _ _

theorem Block.lines_refreshP0 : b.refreshP0.lines = b.lines := b.lines_set _ _

theorem Block.lines_noteBody (hop : Option Nat) (o : Offer) (body : List Byte) (start : Bearing) :
    (b.noteBody hop o body start).lines = b.lines := by
  unfold Block.noteBody
  split
  · rfl
  · split
    · exact b.lines_modExt _ _
    · exact Block.lines_ite rfl (b.lines_modExt _ _)

/-- A frame put on the line joins the others. -/
theorem Block.lines_putTx (x : Tx) : (b.putTx x).lines = (b.aired ++ [x.uncharged], b.mac.offers) := by
  unfold Block.putTx
  extract_lets m d1 d2 d3 d4
  have h1 : d1.lines = (b.aired ++ [x.uncharged], b.mac.offers) := by
    unfold Block.lines Block.aired
    exact congrArg (fun l => (l, b.mac.offers)) List.map_append
  have h2 : d2.lines = d1.lines := (Block.lines_deferG3 _ x).trans (foldl_part Block.lines _ (fun c p => c.lines_showZout _ _ _) _ _)
  clear_value d1 d2
  have h3 : d3.lines = d2.lines := d2.lines_chargeFrame _ _ _
  have h4 : d4.lines = d3.lines := foldl_part Block.lines _ (fun c k => c.lines_recharge _) _ _
  clear_value d3 d4
  rw [foldl_part Block.lines _ (fun c n => c.lines_driveCells x n), Block.lines_reportPred, h4, h3, h2, h1]

end

end Sys2Proof.Machine

/-!
Frames admitted, begun and ended (R50, R144, R206, R259).
-/

namespace Sys2Proof.Machine

/-! ### Admission -/

theorem Block.mem_of_aired {b : Block} {y : Tx} (h : y ∈ b.aired) :
    ∃ z ∈ b.mac.txs, z.offer = y.offer ∧ z.ports = y.ports ∧ z.start = y.start ∧ z.stage = y.stage := by
  obtain ⟨z, hz, rfl⟩ := List.mem_map.1 h
  exact ⟨z, hz, rfl, rfl, rfl, rfl⟩

/-- A plan of the tables, not of a send, on the line: its frame joins the others, its offer has left. -/
theorem Block.lines_admitPlan (b : Block) (p : Plan) (a : AdmitChoice) (x : Tx) (ports : List Nat) (hs : p.send = none)
    (ht : p.offer.type ≠ typeData) : ∃ y : Tx, y.offer.num = p.offer.num ∧ y.offer.dst = p.offer.dst ∧
      y.offer.attempts = p.offer.attempts + 1 ∧ y.ports = ports ∧
      (b.admitPlan p a x ports).lines = (b.aired ++ [y], b.mac.offers.filter fun q => q.num != p.offer.num) := by
  unfold Block.admitPlan
  extract_lets o grant num seq hd body sealed d1 mac done y tx m d2 d3 d4 d5 d6 d7
  have hnum : num = p.offer.num := by
    unfold num
    rw [hs]
    rfl
  have h1 : d1 = b := if_neg ht
  have h2 : d2.lines = (b.aired, b.mac.offers.filter fun q => q.num != p.offer.num) := by
    have hm : d2.lines = (d1.aired, d1.mac.offers.filter fun q => p.send.isSome || q.num != p.offer.num) := rfl
    rw [hm, h1, hs]
    rfl
  clear_value d1 sealed
  clear_value d2
  have h3 : d3.lines = d2.lines := by
    unfold d3
    rw [hs]
  clear_value d3
  have h4 : d4.lines = d3.lines := foldl_part Block.lines _ (fun c q => by
    cases q.send with
    | none => rfl
    | some x => exact c.lines_of_mac rfl) _ _
  clear_value d4
  have h5 : d5.lines = d4.lines := by
    unfold d5
    cases p.hop with
    | none => rfl
    | some z =>
      have hn : ∀ c : Block, (c.noteBody (some z) o body x.start).lines = c.lines := fun c => c.lines_noteBody _ _ _ _
      exact Block.lines_ite ((Block.lines_modExt _ _ _).trans ((hn _).trans (Block.lines_modNode _ _ _)))
        ((hn _).trans (Block.lines_modNode _ _ _))
  clear_value d5 grant
  have h6 : d6.lines = d5.lines := Block.lines_ite rfl (d5.lines_inc _)
  clear_value d6
  have h7 : d7.lines = d6.lines := by
    unfold d7
    split
    · exact Block.lines_ite (d6.lines_sendPiece _ _ _ _) rfl
    · rfl
  refine ⟨({ tx with ports := ports } : Tx).uncharged, hnum, rfl, rfl, rfl, ?_⟩
  have hd : d7.lines = (b.aired, b.mac.offers.filter fun q => q.num != p.offer.num) :=
    h7.trans (h6.trans (h5.trans (h4.trans (h3.trans h2))))
  rw [Block.lines_refreshP0, Block.lines_putTx]
  exact congrArg (fun l : List Tx × List Offer => (l.1 ++ [_], l.2)) hd

/-- The first plan that nothing precedes and that fits is admitted. -/
theorem Block.admitFirst_fits {b : Block} {p : Plan} {a : AdmitChoice} {rest : List Plan} {waiting : List (List Nat × Nat)} {x : Tx}
    {phy : PhyMode} {ports : List Nat} (hb : b.blockedBy p a waiting = false) (hf : b.testModes p a = .fits x phy ports)
    (hs : p.send = none) (ht : p.offer.type ≠ typeData) : b.admitFirst a (p :: rest) waiting = b.admitPlan p a x ports := by
  unfold Block.admitFirst
  rw [hb, hf]
  dsimp only
  rw [hs]
  have hsecured : (p.offer.type == typeData && (match p.final with
      | some f => b.linkOpen f false
      | none => false)) = false := by
    rw [beq_eq_false_iff_ne.2 ht]
    rfl
  dsimp only
  rw [if_neg Bool.false_ne_true]
  exact if_neg (Bool.eq_false_iff.1 hsecured)

theorem exec_admission (a : AdmitChoice) (s : State) : exec (.admission a) s = .next { s with blk := (s.blk.admission a).gated } := rfl

theorem completes_admission {s : State} {a : AdmitChoice} {x : Tx} {p : Plan} {rest : List Plan} {phy : PhyMode} {ports : List Nat}
    (hdev : s.blk.dev = .service) (hrun : s.blk.running = true) (hpurge : s.blk.purgeSends = s.blk)
    (hleave : s.blk.leaveEngines a.triad = s.blk) (hplans : s.blk.plans a.triad = p :: rest)
    (hb : s.blk.blockedBy p a (s.blk.g3Needs a.triad) = false) (hf : s.blk.testModes p a = .fits x phy ports)
    (hs : p.send = none) (ht : p.offer.type ≠ typeData) : Completes (.admission a) s fun b =>
      (∃ y ∈ b.mac.txs, y.offer.num = p.offer.num ∧ y.ports = ports ∧ y.offer.attempts = p.offer.attempts + 1) ∧
      (∀ o ∈ b.mac.offers, o.num ≠ p.offer.num) := by
  refine completes_of_next (exec_admission a s) ?_
  have hadmit : s.blk.admission a = s.blk.admitPlan p a x ports := by
    unfold Block.admission
    rw [if_neg (by rw [hdev, hrun]; decide), hpurge, hleave]
    dsimp only
    rw [ hplans, Block.admitFirst_fits hb hf hs ht]
  rw [hadmit, Block.gated_service _ ((Block.admits.admitPlan s.blk.admits_refl p a x ports).dev.trans hdev)]
  obtain ⟨y, hnum, -, hatt, hports, hlines⟩ := s.blk.lines_admitPlan p a x ports hs ht
  obtain ⟨z, hz, ho, hp, -⟩ := Block.mem_of_aired (b := s.blk.admitPlan p a x ports) (y := y) (by
    rw [show (s.blk.admitPlan p a x ports).aired = _ from congrArg Prod.fst hlines]
    exact List.mem_append_right _ (List.mem_singleton.2 rfl))
  refine ⟨⟨z, hz, by rw [ho, hnum], hp.trans hports, by rw [ho, hatt]⟩, fun o hmem => ?_⟩
  rw [show (s.blk.admitPlan p a x ports).mac.offers = _ from congrArg Prod.snd hlines] at hmem
  exact bne_iff_ne.1 (List.mem_filter.1 hmem).2

theorem completes_admission_idle {s : State} (a : AdmitChoice) (hdev : s.blk.dev = .service) (hrun : s.blk.running = false) :
    Completes (.admission a) s fun b => b = s.blk := by
  refine completes_of_next (exec_admission a s) ?_
  have hadmit : s.blk.admission a = s.blk := by
    unfold Block.admission
    exact if_pos (by rw [hrun]; simp)
  rw [hadmit, Block.gated_service _ hdev]

/-! ### The start of a frame -/

theorem Block.tx_setTx (b : Block) {num : Nat} {x y : Tx} (hx : b.tx num = some x) (hy : y.offer.num = num) :
    (b.setTx num fun _ => y).tx num = some y := by
  unfold Block.tx Block.setTx at *
  dsimp only
  generalize b.mac.txs = l at hx ⊢
  induction l with
  | nil => cases hx
  | cons z l ih =>
    rw [List.map_cons, List.find?_cons]
    rw [List.find?_cons] at hx
    by_cases hz : (z.offer.num == num) = true
    · rw [if_pos hz, beq_iff_eq.2 hy]
    · rw [Bool.not_eq_true] at hz
      rw [hz] at hx
      rw [if_neg (by rw [hz]; exact Bool.false_ne_true), hz]
      exact ih hx

theorem Block.fixLine_num (b : Block) (x : Tx) : (b.fixLine x).offer = x.offer ∧ (b.fixLine x).ports = x.ports := by
  unfold Block.fixLine
  split <;> exact ⟨rfl, rfl⟩

theorem Block.tx_of_mac {b c : Block} (h : c.mac.txs = b.mac.txs) (num : Nat) : c.tx num = b.tx num := by
  unfold Block.tx
  rw [h]

/-- Frames stand, and the switches with their indication stay as they are. -/
structure Block.keepsSending (b c : Block) : Prop where
  dev : c.dev = b.dev
  txs : c.mac.txs = b.mac.txs
  port : c.ports.port = b.ports.port
  status : ∀ n, c.rd (Reg.LP_STATUS n) = b.rd (Reg.LP_STATUS n)

theorem Block.keepsSending_refl (b : Block) : b.keepsSending b := ⟨rfl, rfl, rfl, fun _ => rfl⟩

theorem Block.keepsSending.trans {b c d : Block} (h : b.keepsSending c) (h' : c.keepsSending d) : b.keepsSending d :=
  ⟨h'.dev.trans h.dev, h'.txs.trans h.txs, h'.port.trans h.port, fun n => (h'.status n).trans (h.status n)⟩

theorem Block.keepsSending.foldl {α : Type} (f : Block → α → Block) (l : List α) (b : Block)
    (hf : ∀ (c : Block) (x : α), c.keepsSending (f c x)) : b.keepsSending (l.foldl f b) := by
  induction l generalizing b with
  | nil => exact b.keepsSending_refl
  | cons x l ih => exact (hf b x).trans (ih _)

theorem Block.keepsSending_setReception (b : Block) (l : Nat) (r : Option Reception) : b.keepsSending (b.setReception l r) := by
  unfold Block.setReception
  extract_lets d lane e
  have hd : b.keepsSending d := by
    unfold d
    split
    · unfold Block.logReception
      split
      · split
        · exact b.keepsSending_refl
        · exact ⟨rfl, rfl, rfl, fun _ => rfl⟩
      · exact b.keepsSending_refl
    · exact b.keepsSending_refl
  have he : d.keepsSending e := ⟨rfl, rfl, rfl, fun _ => rfl⟩
  clear_value d e
  have hanchor : ∀ n, e.keepsSending (e.refreshAnchor n) := fun n => by
    have hset : ∀ v w : Nat, e.keepsSending (e.setAll [(Reg.LP_AGC_STAT_ANCHOR n, v), (Reg.LP_AGC_STAT_ANCHOR_VALID n, w)]) := fun v w =>
      ⟨Block.setAll_dev _ _, by rw [Block.setAll_mac], by rw [Block.setAll_ports], fun m => Block.rd_setAll_other _ _ _ fun p hp => by
        simp only [List.mem_cons, List.not_mem_nil, or_false] at hp
        rcases hp with rfl | rfl <;> simp only [Reg.LP_STATUS, Reg.LP_AGC_STAT] <;> omega⟩
    unfold Block.refreshAnchor
    split <;> exact hset _ _
  split
  · exact (hd.trans he).trans (hanchor _)
  · exact hd.trans he

theorem Block.keepsSending_hushLanes (b : Block) (ports : List Nat) (bands : Nat) : b.keepsSending (b.hushLanes ports bands) := by
  unfold Block.hushLanes
  refine Block.keepsSending.foldl _ _ b fun c l => ?_
  split
  · split
    · exact c.keepsSending_setReception _ _
    · split
      · exact c.keepsSending_refl
      · exact c.keepsSending_setReception _ _
  · exact c.keepsSending_refl

/-- The switches of a port are closed, and shown so. -/
def Block.sendsOn (b : Block) (n : Nat) : Prop := (b.port n).switches = true ∧ b.get (Reg.LP_STATUS_TX_BUSY n) = 1

theorem Block.port_of_ports {b c : Block} (h : c.ports.port = b.ports.port) (n : Nat) : c.port n = b.port n := by
  unfold Block.port
  rw [h]

theorem Block.port_closeSwitches (b : Block) (m n : Nat) : (b.closeSwitches m).port n =
    if n = m then { b.port m with switches := true, canceller := b.on (Reg.LP_CTRL_XBAND_RX m) } else b.port n := by
  unfold Block.closeSwitches
  rw [Block.port_of_ports (congrArg PortsSt.port (Block.set_ports _ _ _)), Block.port_setPort]

theorem Block.get_closeSwitches (b : Block) (n : Nat) : (b.closeSwitches n).get (Reg.LP_STATUS_TX_BUSY n) = 1 := by
  unfold Block.closeSwitches
  rw [Block.get_set_same _ _ _ (Nat.le_of_ble_eq_true rfl)]
  exact Nat.mod_eq_of_lt (by decide : 1 < 2 ^ 1)

theorem Block.rd_closeSwitches (b : Block) {m off : Nat} (h : off ≠ Reg.LP_STATUS m) : (b.closeSwitches m).rd off = b.rd off := by
  unfold Block.closeSwitches
  rw [Block.rd_set_other _ _ _ _ h]
  exact Block.rd_of_regs rfl off

theorem Block.closeSwitches_sendsOn (b : Block) (n : Nat) : (b.closeSwitches n).sendsOn n := by
  refine ⟨?_, b.get_closeSwitches n⟩
  rw [Block.port_closeSwitches, if_pos rfl]

theorem Block.sendsOn.closeSwitches {b : Block} {n : Nat} (h : b.sendsOn n) (m : Nat) : (b.closeSwitches m).sendsOn n := by
  by_cases hm : n = m
  · rw [hm]
    exact b.closeSwitches_sendsOn m
  · obtain ⟨hs, hb⟩ := h
    refine ⟨?_, (Block.get_of_rd (Block.rd_closeSwitches b ?_)).trans hb⟩
    · rw [Block.port_closeSwitches, if_neg hm, hs]
    · simp only [Reg.LP_STATUS]
      omega

theorem Block.closeSwitches_transmits (b : Block) (m n : Nat) : (b.closeSwitches m).transmits n = b.transmits n := by
  have hget : (b.closeSwitches m).get (Reg.LP_STATUS_STATE n) = b.get (Reg.LP_STATUS_STATE n) := by
    unfold Block.closeSwitches
    refine (Block.get_set_apart _ (Reg.LP_STATUS_TX_BUSY m) (Reg.LP_STATUS_STATE n) _ (Nat.le_of_ble_eq_true rfl) ?_).trans rfl
    exact Or.inr (Or.inr (Nat.le_of_ble_eq_true rfl))
  unfold Block.transmits
  rw [hget]

/-- The ports of a frame that begins close their switches. -/
theorem Block.closeAll_sendsOn (l : List Nat) {b : Block} :
    (∀ n ∈ l, b.transmits n = true → (l.foldl (fun b n => if b.transmits n then b.closeSwitches n else b) b).sendsOn n) ∧
      ∀ n, b.sendsOn n → (l.foldl (fun b n => if b.transmits n then b.closeSwitches n else b) b).sendsOn n := by
  induction l generalizing b with
  | nil => exact ⟨nofun, fun _ h => h⟩
  | cons m l ih =>
    rw [List.foldl_cons]
    have htr : ∀ n, (if b.transmits m then b.closeSwitches m else b).transmits n = b.transmits n := fun n => by
      split
      · exact b.closeSwitches_transmits m n
      · rfl
    have hkeep : ∀ n, b.sendsOn n → (if b.transmits m then b.closeSwitches m else b).sendsOn n := fun n h => by
      split
      · exact h.closeSwitches m
      · exact h
    refine ⟨fun n hn ht => ?_, fun n h => ih.2 n (hkeep n h)⟩
    rcases List.mem_cons.1 hn with rfl | hn
    · refine ih.2 n ?_
      rw [if_pos ht]
      exact b.closeSwitches_sendsOn n
    · exact ih.1 n hn ((htr n).trans ht)

theorem Block.closeAll_rest (l : List Nat) (b : Block) :
    (l.foldl (fun b n => if b.transmits n then b.closeSwitches n else b) b).mac = b.mac ∧
      (l.foldl (fun b n => if b.transmits n then b.closeSwitches n else b) b).dev = b.dev := by
  constructor
  · refine foldl_part Block.mac _ (fun c n => ?_) l b
    split
    · unfold Block.closeSwitches
      rw [Block.set_mac]
      rfl
    · rfl
  · refine foldl_part Block.dev _ (fun c n => ?_) l b
    split
    · unfold Block.closeSwitches
      rw [Block.set_dev]
      rfl
    · rfl

theorem Block.sendsOn.keepsSending {b c : Block} {n : Nat} (h : b.sendsOn n) (hk : b.keepsSending c) : c.sendsOn n := by
  obtain ⟨hs, hb⟩ := h
  refine ⟨?_, (Block.get_of_rd (hk.status n)).trans hb⟩
  unfold Block.port at hs ⊢
  rw [hk.port, hs]

/-- The frame as it begins, its line fixed. -/
def Block.txBegun (b : Block) (x : Tx) : Tx := { b.fixLine x with stage := .onLine }

/-- The block whose frame has begun, its ports' switches closed. -/
def Block.started (b : Block) (num : Nat) (x : Tx) : Block :=
  ((b.fixLine x).ports.foldl (fun b n => if b.transmits n then b.closeSwitches n else b) (b.setTx num fun _ => b.txBegun x)).hushLanes
    (b.fixLine x).ports (b.fixLine x).bands

theorem Block.startTx_eq {b : Block} {num : Nat} {x : Tx} (hx : b.tx num = some x) (hstage : x.stage = .admitted)
    (hstart : ahead x.start (b.brg.now + 1) = false) (hparcels : x.offer.parcels = []) : b.startTx num = b.started num x := by
  have hnone : ((b.fixLine x).offer.parcels.filter fun p => p.stamp) = [] := by
    rw [(b.fixLine_num x).1, hparcels]
    rfl
  unfold Block.startTx
  rw [hx]
  refine (if_neg (by rw [hstage, hstart]; simp)).trans ?_
  exact congrArg (fun l : List OutParcel => l.foldl (fun c p => (c.pushTxStamp (c.stampEntry (b.fixLine x) p)).draw) (b.started num x)) hnone

theorem Block.num_of_tx {b : Block} {num : Nat} {x : Tx} (hx : b.tx num = some x) : x.offer.num = num := by
  unfold Block.tx at hx
  have h := List.find?_some hx
  exact beq_iff_eq.1 h

/-- A frame that begins is on the line, on the ports that transmit; the other frames stand. -/
theorem Block.started_shows {b : Block} {num : Nat} {x : Tx} (hx : b.tx num = some x) :
    (b.started num x).tx num = some (b.txBegun x) ∧ (b.started num x).dev = b.dev ∧
      (b.started num x).mac.txs = (b.setTx num fun _ => b.txBegun x).mac.txs ∧
      (∀ n ∈ x.ports, b.transmits n = true → (b.started num x).sendsOn n) ∧
      ∀ n, b.sendsOn n → (b.started num x).sendsOn n := by
  obtain ⟨hoffer, hports⟩ := b.fixLine_num x
  have hnum : (b.txBegun x).offer.num = num := (congrArg Offer.num hoffer).trans (Block.num_of_tx hx)
  unfold Block.started
  rw [hports]
  have hctr : ∀ n, (b.setTx num fun _ => b.txBegun x).transmits n = b.transmits n := fun _ => rfl
  have hcon : ∀ n, b.sendsOn n → (b.setTx num fun _ => b.txBegun x).sendsOn n := fun _ h => h
  have hcdev : (b.setTx num fun _ => b.txBegun x).dev = b.dev := rfl
  have htx := Block.tx_setTx b hx hnum
  generalize b.setTx num (fun _ => b.txBegun x) = c at htx hctr hcon hcdev ⊢
  obtain ⟨hmac, hdev⟩ := Block.closeAll_rest x.ports c
  obtain ⟨hnew, hold⟩ := Block.closeAll_sendsOn x.ports (b := c)
  generalize x.ports.foldl (fun b n => if b.transmits n then b.closeSwitches n else b) c = d at hmac hdev hnew hold ⊢
  have hk := d.keepsSending_hushLanes x.ports (b.fixLine x).bands
  generalize d.hushLanes x.ports (b.fixLine x).bands = e at hk ⊢
  have htxs : e.mac.txs = c.mac.txs := by rw [hk.txs, hmac]
  exact ⟨(Block.tx_of_mac htxs num).trans htx, hk.dev.trans (hdev.trans hcdev), htxs,
    fun n hn ht => (hnew n hn ((hctr n).trans ht)).keepsSending hk, fun n h => (hold n (hcon n h)).keepsSending hk⟩

theorem exec_transmissionStart (num : Nat) (s : State) :
    exec (.transmissionStart num) s = .next { s with blk := (s.blk.startTx num).gated } := rfl

theorem completes_transmissionStart {s : State} {num : Nat} {x : Tx} (hdev : s.blk.dev = .service) (hx : s.blk.tx num = some x)
    (hstage : x.stage = .admitted) (hstart : ahead x.start (s.blk.brg.now + 1) = false) (hparcels : x.offer.parcels = [])
    (hports : ∀ n ∈ x.ports, n < 24 ∧ s.blk.transmits n = true) : Completes (.transmissionStart num) s fun b =>
      (b.tx num).map (·.stage) = some .onLine ∧
      ∀ n ∈ x.ports, (b.port n).switches = true ∧ b.get (Reg.LP_STATUS_TX_BUSY n) = 1 := by
  refine completes_of_next (exec_transmissionStart num s) ?_
  obtain ⟨htx, hd, -, hon, -⟩ := Block.started_shows hx
  rw [Block.startTx_eq hx hstage hstart hparcels, Block.gated_service _ (hd.trans hdev), htx]
  exact ⟨rfl, fun n hn => hon n hn (hports n hn).2⟩

theorem Block.startTx_idle {b : Block} {num : Nat} {x : Tx} (hx : b.tx num = some x)
    (h : x.stage ≠ .admitted ∨ ahead x.start (b.brg.now + 1) = true) : b.startTx num = b := by
  unfold Block.startTx
  rw [hx]
  exact if_pos h

theorem completes_transmissionStart_idle {s : State} {num : Nat} {x : Tx} (hdev : s.blk.dev = .service) (hx : s.blk.tx num = some x)
    (h : x.stage ≠ .admitted ∨ ahead x.start (s.blk.brg.now + 1) = true) :
    Completes (.transmissionStart num) s fun b => b = s.blk := by
  refine completes_of_next (exec_transmissionStart num s) ?_
  rw [Block.startTx_idle hx h, Block.gated_service _ hdev]

end Sys2Proof.Machine

/-!
The end of a frame (R144, R206, R334): its ports note the instant and count it; what Sounding observes of it and what the G3 profile
makes of it leave the frames and the counts.
-/

namespace Sys2Proof.Machine

/-! ### What leaves the frames and the counts of the ports -/

/-- The frames, the ends noted at the ports and the counts of transmissions stand. -/
structure Block.keepsEnds (b c : Block) : Prop where
  dev : c.dev = b.dev
  lines : c.lines = b.lines
  ended : ∀ n, (c.port n).ended = (b.port n).ended
  counts : ∀ n, n < 24 → c.rd (Reg.LP_TX_COUNT n) = b.rd (Reg.LP_TX_COUNT n)

namespace Block.keepsEnds
variable {b c d : Block}

theorem trans (h : b.keepsEnds c) (h' : c.keepsEnds d) : b.keepsEnds d :=
  ⟨h'.dev.trans h.dev, h'.lines.trans h.lines, fun n => (h'.ended n).trans (h.ended n), fun n hn => (h'.counts n hn).trans (h.counts n hn)⟩

theorem ite {p : Prop} [Decidable p] (hc : b.keepsEnds c) (hd : b.keepsEnds d) : b.keepsEnds (if p then c else d) := by
  split
  · exact hc
  · exact hd

end Block.keepsEnds

section
variable (b : Block)

theorem Block.keepsEnds_refl : b.keepsEnds b := ⟨rfl, rfl, fun _ => rfl, fun _ _ => rfl⟩

theorem Block.keepsEnds.foldl {α : Type} (f : Block → α → Block) (l : List α) (hf : ∀ (c : Block) (x : α), c.keepsEnds (f c x)) :
    b.keepsEnds (l.foldl f b) := by
  induction l generalizing b with
  | nil => exact b.keepsEnds_refl
  | cons x l ih => exact (hf b x).trans (ih _)

theorem Block.keepsEnds_of_parts {c : Block} (hdev : c.dev = b.dev) (hmac : c.mac = b.mac) (hports : c.ports.port = b.ports.port)
    (hregs : ∀ n, n < 24 → c.rd (Reg.LP_TX_COUNT n) = b.rd (Reg.LP_TX_COUNT n)) : b.keepsEnds c :=
  ⟨hdev, b.lines_of_mac hmac, fun n => by rw [Block.port_of_ports hports], hregs⟩

/-- The registers beside the ports' counts of transmissions. -/
def offTxCount (off : Nat) : Prop := ∀ n, n < 24 → Reg.LP_TX_COUNT n ≠ off

theorem offTxCount_of_le {off : Nat} (h : 0x98000 ≤ off ∨ off < 0x80000) : offTxCount off := fun n hn he => by
  simp only [Reg.LP_TX_COUNT] at he
  omega

theorem offTxCount_of_place {off m k : Nat} (he : off = 0x80000 + 0x1000 * m + k) (hk : k < 0x1000 ∧ k ≠ 0x3C) : offTxCount off :=
  fun n _ h => by
    simp only [Reg.LP_TX_COUNT] at h
    omega

theorem Block.keepsEnds_set (f : Field) (v : Nat) (hf : offTxCount f.off) : b.keepsEnds (b.set f v) :=
  b.keepsEnds_of_parts (Block.set_dev _ _ _) (Block.set_mac _ _ _) (congrArg PortsSt.port (Block.set_ports _ _ _))
    fun n hn => Block.rd_set_other _ _ _ _ (hf n hn)

theorem Block.keepsEnds_inc (f : Field) (hf : offTxCount f.off) : b.keepsEnds (b.inc f) := b.keepsEnds_set f _ hf

theorem Block.keepsEnds_setAll (fs : List (Field × Nat)) (hf : ∀ p ∈ fs, offTxCount p.1.off) : b.keepsEnds (b.setAll fs) :=
  b.keepsEnds_of_parts (Block.setAll_dev _ _) (Block.setAll_mac _ _) (congrArg PortsSt.port (Block.setAll_ports _ _))
    fun n hn => Block.rd_setAll_other _ _ _ fun p hp => hf p hp n hn

theorem offTxCount_record : ∀ off ∈ recordRegs, offTxCount off := fun off h n _ he =>
  notMem_recordRegs (off := Reg.LP_TX_COUNT n) (by simp only [Reg.LP_TX_COUNT]; omega) (he ▸ h)

theorem Block.keepsEnds_post (code sev src : Nat) (args : List (Nat × Nat)) : b.keepsEnds (b.post code sev src args) :=
  b.keepsEnds_of_parts (Block.post_dev _ _ _ _ _) (Block.post_mac _ _ _ _ _) (congrArg PortsSt.port (Block.post_ports _ _ _ _ _))
    fun n hn => Block.rd_post _ _ _ _ _ _ fun h => offTxCount_record _ h n hn rfl

theorem Block.keepsEnds_of_fabric {c : Block} (h : b.byFabric c) : b.keepsEnds c := by
  have hcore := h.core
  refine b.keepsEnds_of_parts (Block.dev_of_core hcore) (Block.mac_of_core hcore) ?_ fun n hn => h.regs _ fun hreg => ?_
  · exact show c.core.ports.port = b.core.ports.port by rw [hcore]
  · rcases hreg with h | h | h | h
    · simp only [Reg.LP_TX_COUNT] at h
      omega
    · exact offTxCount_of_le (Or.inl (by decide)) n hn h
    · exact offTxCount_of_le (Or.inl (by decide)) n hn h
    · exact offTxCount_record _ h n hn rfl

theorem Block.keepsEnds_setPort (n : Nat) (p : PortSt) (h : p.ended = (b.port n).ended) : b.keepsEnds (b.setPort n p) := by
  refine ⟨rfl, rfl, fun k => ?_, fun _ _ => rfl⟩
  rw [Block.port_setPort]
  split
  · next hk => rw [h, hk]
  · rfl

/-! ### Charges, and what a bank has sent -/

theorem Block.keepsEnds_recharge (bank : Nat) : b.keepsEnds (b.recharge bank) :=
  ⟨rfl, b.lines_recharge bank, fun _ => rfl, fun _ _ => rfl⟩

theorem Block.keepsEnds_reportPred : b.keepsEnds b.reportPred := by
  unfold Block.reportPred
  dsimp only
  refine (Block.keepsEnds.foldl _ _ _ fun c n => c.keepsEnds_set _ _ (offTxCount_of_place (m := n) (k := 0x30) ?_ (by decide))).trans
    ((Block.keepsEnds.foldl _ _ _ fun c k => c.keepsEnds_set _ _ (offTxCount_of_place (m := 6 * k) (k := 0x804) ?_ (by decide))).trans
      (Block.keepsEnds_set _ _ _ (offTxCount_of_le (Or.inl (by decide)))))
  · simp only [Reg.LP_THERM]
    omega
  · simp only [Reg.LP_BANK_PRED]
    omega

theorem Block.keepsEnds_refreshCharges (bank : Nat) : b.keepsEnds (b.refreshCharges bank) :=
  (b.keepsEnds_recharge bank).trans (Block.keepsEnds_reportPred _)

theorem Block.keepsEnds_bankSent (bank m a : Nat) : b.keepsEnds (b.bankSent bank m a) := ⟨rfl, rfl, fun _ => rfl, fun _ _ => rfl⟩

/-! ### What Sounding observes of the frame -/

theorem Block.keepsEnds_refreshPortCal (n : Nat) : b.keepsEnds (b.refreshPortCal n) := by
  unfold Block.refreshPortCal
  dsimp only
  generalize ((groupsOf (b.permitted n)).all fun g => b.calibrated 1 (groupPlace n g) && b.calibrated 2 (groupPlace n g)) = done
  have hset : b.keepsEnds (b.setBit Reg.SND_CAL_STAT_PORT_CAL n done) := b.keepsEnds_set _ _ (offTxCount_of_le (Or.inl (by decide)))
  exact (hset.trans (Block.keepsEnds_post _ _ _ _ _)).ite hset

theorem Block.keepsEnds_showCoef (cls place : Nat) : b.keepsEnds (b.showCoef cls place) := by
  unfold Block.showCoef Block.showAgcCal
  dsimp only
  split
  · refine (b.keepsEnds_setAll _ fun p hp => offTxCount_of_le (Or.inl ?_)).trans
      (Block.keepsEnds_set _ _ _ (offTxCount_of_place (m := place / 18) (k := 4) ?_ (by decide)))
    · simp only [List.mem_cons, List.not_mem_nil, or_false] at hp
      rcases hp with rfl | rfl | rfl <;> simp only [Reg.SND_AGCR] <;> omega
    · simp only [Reg.LP_STATUS]
      omega
  · exact b.keepsEnds_refreshPortCal _
  · exact b.keepsEnds_refreshPortCal _
  · refine b.keepsEnds_setAll _ fun p hp => offTxCount_of_le (Or.inl ?_)
    simp only [List.mem_cons, List.not_mem_nil, or_false] at hp
    rcases hp with rfl | rfl | rfl <;> simp only [Reg.SND_ZL] <;> omega
  · refine Block.keepsEnds.foldl _ _ _ fun c i => c.keepsEnds_set _ _ (offTxCount_of_place (m := 6 * place + i) (k := 0x30) ?_ (by decide))
    simp only [Reg.LP_THERM]
    omega
  · exact b.keepsEnds_refl

theorem Block.keepsEnds_setCoef (key : Nat) (c : Coef) : b.keepsEnds (b.setCoef key c) := ⟨rfl, rfl, fun _ => rfl, fun _ _ => rfl⟩

theorem Block.keepsEnds_promote (cls place : Nat) : b.keepsEnds (b.promote cls place) := by
  unfold Block.promote
  extract_lets key c d
  have hd : b.keepsEnds d := by
    unfold d
    split
    · exact (b.keepsEnds_setCoef _ _).ite b.keepsEnds_refl
    · exact b.keepsEnds_refl
  exact hd.trans (d.keepsEnds_showCoef _ _)

theorem Block.keepsEnds_expire (key : Nat) : b.keepsEnds (b.expire key) := by
  unfold Block.expire
  dsimp only
  split
  · exact ((b.keepsEnds_setCoef _ _).trans (Block.keepsEnds_inc _ _ (offTxCount_of_le (Or.inl (by decide))))).ite b.keepsEnds_refl
  · exact b.keepsEnds_refl

theorem Block.keepsEnds_observeCoef (cls place : Nat) (o : CoefVal) (x : ObsFrom) (port node : Nat) :
    b.keepsEnds (b.observeCoef cls place o x port node) := by
  unfold Block.observeCoef
  extract_lets key c out d e f
  have hd : b.keepsEnds d := (b.keepsEnds_setCoef _ _).trans (Block.keepsEnds_promote _ _ _)
  clear_value d
  have he : b.keepsEnds e :=
    hd.trans (((d.keepsEnds_inc _ (offTxCount_of_le (Or.inl (by decide)))).trans (Block.keepsEnds_post _ _ _ _ _)).ite d.keepsEnds_refl)
  clear_value e
  have hf : b.keepsEnds f := he.trans (e.keepsEnds_expire _)
  exact b.keepsEnds_refl.ite (hf.trans (f.keepsEnds_set _ _ (offTxCount_of_le (Or.inl (by decide)))))

theorem Block.keepsEnds_observePort (tx : Tx) (n : Nat) (m : PortMeasure) (x : ObsFrom) : b.keepsEnds (b.observePort tx n m x) := by
  unfold Block.observePort
  dsimp only
  refine (Block.keepsEnds.foldl _ _ _ fun c z => c.keepsEnds_observeCoef _ _ _ _ _ _).trans
    ((Block.keepsEnds.foldl _ _ _ fun c r => c.keepsEnds_observeCoef _ _ _ _ _ _).trans
      (Block.keepsEnds.foldl _ _ _ fun c t => ?_))
  split
  · exact c.keepsEnds_observeCoef _ _ _ _ _ _
  · exact c.keepsEnds_refl

theorem Block.keepsEnds_couplerEvent (n kind : Nat) : b.keepsEnds (b.couplerEvent n kind) := by
  unfold Block.couplerEvent
  refine ((b.keepsEnds_setAll _ fun p hp => offTxCount_of_le (Or.inl ?_)).trans (Block.keepsEnds_post _ _ _ _ _)).trans
    ⟨rfl, rfl, fun _ => rfl, fun _ _ => rfl⟩
  simp only [List.mem_cons, List.not_mem_nil, or_false] at hp
  rcases hp with rfl | rfl <;> simp only [Reg.SND_CPL_BASE] <;> omega

theorem Block.keepsEnds_couplerRatio (n ratio : Nat) : b.keepsEnds (b.couplerRatio n ratio) := by
  unfold Block.couplerRatio
  extract_lets d p sum d1 base away run d2
  have hd : b.keepsEnds d := b.keepsEnds_set _ _ (offTxCount_of_place (m := n) (k := 0x34) (by simp only [Reg.LP_CPL_STAT]; omega) (by decide))
  have h1 : b.keepsEnds d1 := hd.trans (d.keepsEnds_setPort n _ rfl)
  have h2 : b.keepsEnds d2 := hd.trans (d.keepsEnds_setPort n _ rfl)
  clear_value d d1 d2
  refine Block.keepsEnds.ite (Block.keepsEnds.ite (h1.trans (d1.keepsEnds_setAll _ fun p hp => offTxCount_of_le (Or.inl ?_))) h1)
    ((h2.trans (d2.keepsEnds_couplerEvent _ _)).ite h2)
  simp only [List.mem_cons, List.not_mem_nil, or_false] at hp
  rcases hp with rfl | rfl <;> simp only [Reg.SND_CPL_BASE] <;> omega

theorem Block.keepsEnds_adaptXbc (t : Nat) (m : TxMeasure) : b.keepsEnds (b.adaptXbc t m) := by
  unfold Block.adaptXbc
  dsimp only
  exact Block.keepsEnds.ite ⟨rfl, rfl, fun _ => rfl, fun _ _ => rfl⟩ b.keepsEnds_refl

theorem Block.keepsEnds_observeTx (x : Tx) (m : TxMeasure) : b.keepsEnds (b.observeTx x m) := by
  unfold Block.observeTx
  extract_lets d e from' f
  have hd : b.keepsEnds d := Block.keepsEnds.foldl _ _ _ fun c i => by
    split
    · exact c.keepsEnds_couplerRatio _ _
    · exact c.keepsEnds_refl
  have he : d.keepsEnds e := ⟨rfl, rfl, fun _ => rfl, fun _ _ => rfl⟩
  clear_value d e
  have hf : e.keepsEnds f := Block.keepsEnds.foldl _ _ _ fun c i => by
    split
    · exact c.keepsEnds_observePort _ _ _ _
    · exact c.keepsEnds_refl
  exact hd.ite (((hd.trans he).trans hf).trans (f.keepsEnds_adaptXbc _ _))

/-! ### What the G3 profile makes of it -/

theorem Block.keepsEnds_replicate (what index : Nat) (old new : List Byte) : b.keepsEnds (b.replicate what index old new) := by
  have hf : (b.replicate what index old new).frame = b.frame := Block.frame_replicate _ _ _ _ _
  refine b.keepsEnds_of_parts (Block.dev_of_frame hf) (Block.mac_of_frame hf) ?_ fun n hn => Block.replicate_rd _ _ _ _ _ _ ?_
  · exact show (b.replicate what index old new).frame.ports.port = b.frame.ports.port by rw [hf]
  · exact offTxCount_of_le (Or.inl (by decide)) n hn

theorem Block.keepsEnds_setG3 (n : Nat) (g : G3Port) : b.keepsEnds (b.setG3 n g) := by
  unfold Block.setG3
  extract_lets old d
  have hd : b.keepsEnds d := ⟨rfl, rfl, fun _ => rfl, fun _ _ => rfl⟩
  exact hd.trans (Block.keepsEnds.foldl _ _ _ fun c x => c.keepsEnds_replicate _ _ _ _)

theorem Block.keepsEnds_completeSend (r : SendRec) (status : Nat) (result : List Byte) : b.keepsEnds (b.completeSend r status result) := by
  unfold Block.completeSend
  have h0 : b.keepsEnds { b with strata := { b.strata with sends := b.strata.sends.erase r } } := ⟨rfl, rfl, fun _ => rfl, fun _ _ => rfl⟩
  generalize { b with strata := { b.strata with sends := b.strata.sends.erase r } } = c at h0
  exact (h0.trans (c.keepsEnds_of_fabric (Block.byFabric.complete c.byFabric_refl _ _ _ _))).trans
    (Block.keepsEnds_set _ _ _ (offTxCount_of_le (Or.inl (by decide))))

theorem Block.keepsEnds_g3Ended (n : Nat) : b.keepsEnds (b.g3Ended n) := by
  unfold Block.g3Ended
  dsimp only
  have hinc : b.keepsEnds (b.inc (Reg.LP_G3_TX_OK_COUNT n)) :=
    b.keepsEnds_inc _ (offTxCount_of_place (m := n) (k := 0x230) (by simp only [Reg.LP_G3_TX_OK]; omega) (by decide))
  split
  · exact b.keepsEnds_refl
  · generalize b.inc (Reg.LP_G3_TX_OK_COUNT n) = c at hinc ⊢
    refine (hinc.trans (c.keepsEnds_setG3 _ _)).ite ?_
    generalize hd : c.setG3 n _ = d
    have h1 : b.keepsEnds d := hd ▸ hinc.trans (c.keepsEnds_setG3 _ _)
    split
    · split
      · exact h1.trans (d.keepsEnds_completeSend _ _ _)
      · exact h1
    · exact h1

end

/-! ### The end of the frame -/

/-- A port at which a frame ends. -/
def Block.countEnd (b : Block) (n : Nat) : Block := (b.inc (Reg.LP_TX_COUNT_COUNT n)).endPort n

theorem Block.endPort_rest (b : Block) (n : Nat) :
    (b.endPort n).ticks = b.ticks ∧ (b.endPort n).mac = b.mac ∧ (b.endPort n).dev = b.dev ∧ (b.endPort n).regs = b.regs :=
  ⟨rfl, rfl, rfl, rfl⟩

theorem Block.endPort_port (b : Block) (n k : Nat) :
    ((b.endPort n).port k).ended = if k = n then some b.ticks else (b.port k).ended := by
  unfold Block.endPort
  rw [Block.port_setPort]
  split <;> rfl

theorem Block.countEnd_port (b : Block) (n k : Nat) :
    ((b.countEnd n).port k).ended = if k = n then some b.ticks else (b.port k).ended := by
  unfold Block.countEnd
  rw [Block.endPort_port, Block.inc_ticks, Block.port_of_ports (congrArg PortsSt.port (Block.inc_ports _ _))]

theorem Block.countEnd_rest (b : Block) (n : Nat) :
    (b.countEnd n).ticks = b.ticks ∧ (b.countEnd n).mac = b.mac ∧ (b.countEnd n).dev = b.dev := by
  unfold Block.countEnd
  obtain ⟨hticks, hmac, hdev, -⟩ := (b.inc (Reg.LP_TX_COUNT_COUNT n)).endPort_rest n
  rw [hticks, hmac, hdev]
  exact ⟨Block.inc_ticks _ _, Block.inc_mac _ _, Block.inc_dev _ _⟩

theorem Block.countEnd_same (b : Block) (n : Nat) :
    (b.countEnd n).get (Reg.LP_TX_COUNT_COUNT n) = (b.get (Reg.LP_TX_COUNT_COUNT n) + 1) % 2 ^ 32 := by
  unfold Block.countEnd
  rw [Block.get_of_regs (Block.endPort_rest _ _).2.2.2, Block.get_inc _ _ (Nat.le_of_ble_eq_true rfl)]

theorem Block.countEnd_other (b : Block) {n k : Nat} (h : k ≠ n) : (b.countEnd n).rd (Reg.LP_TX_COUNT k) = b.rd (Reg.LP_TX_COUNT k) := by
  unfold Block.countEnd
  rw [Block.rd_of_regs (Block.endPort_rest _ _).2.2.2, Block.rd_inc_other]
  simp only [Reg.LP_TX_COUNT]
  omega

/-- Each port at which a frame ends counts it once and notes the instant. -/
theorem Block.countEnds (l : List Nat) (hl : l.Nodup) (b : Block) {n : Nat} (hn : n ∈ l) :
    ((l.foldl Block.countEnd b).port n).ended = some b.ticks ∧
      (l.foldl Block.countEnd b).get (Reg.LP_TX_COUNT_COUNT n) = (b.get (Reg.LP_TX_COUNT_COUNT n) + 1) % 2 ^ 32 := by
  induction l generalizing b with
  | nil => cases hn
  | cons m l ih =>
    obtain ⟨hm, hl'⟩ := List.nodup_cons.1 hl
    obtain ⟨hticks, -, -⟩ := b.countEnd_rest m
    rw [List.foldl_cons]
    rcases List.mem_cons.1 hn with rfl | hn
    · have hport : ((l.foldl Block.countEnd (b.countEnd n)).port n).ended = ((b.countEnd n).port n).ended :=
        foldl_keeps_mem (fun c : Block => (c.port n).ended) _ l _ fun c k hk => by
          rw [Block.countEnd_port, if_neg fun he : n = k => hm (he ▸ hk)]
      have hrd : (l.foldl Block.countEnd (b.countEnd n)).rd (Reg.LP_TX_COUNT n) = (b.countEnd n).rd (Reg.LP_TX_COUNT n) :=
        foldl_keeps_mem (fun c : Block => c.rd (Reg.LP_TX_COUNT n)) _ l _ fun c k hk => c.countEnd_other fun he : n = k => hm (he ▸ hk)
      rw [hport, Block.countEnd_port, if_pos rfl]
      exact ⟨rfl, (Block.get_of_rd hrd).trans (b.countEnd_same n)⟩
    · obtain ⟨h1, h2⟩ := ih hl' (b.countEnd m) hn
      have hne : n ≠ m := fun he => hm (he ▸ hn)
      exact ⟨h1.trans (congrArg some hticks), h2.trans (by rw [Block.get_of_rd (f := Reg.LP_TX_COUNT_COUNT n) (b.countEnd_other hne)])⟩

theorem Block.countEnds_rest (l : List Nat) (b : Block) : (l.foldl Block.countEnd b).mac = b.mac ∧ (l.foldl Block.countEnd b).dev = b.dev :=
  ⟨foldl_part Block.mac _ (fun c n => (c.countEnd_rest n).2.1) l b, foldl_part Block.dev _ (fun c n => (c.countEnd_rest n).2.2) l b⟩

/-- The block whose frame waits for its ACK, or is gone. -/
def Block.frameLeaves (b : Block) (num : Nat) (ackReq : Bool) : Block :=
  if ackReq then b.setTx num fun x => { x with stage := .awaitingAck }
  else { b with mac := { b.mac with txs := b.mac.txs.filter fun y => y.offer.num != num } }

theorem Block.frameLeaves_tx {b : Block} {num : Nat} {x : Tx} (hx : b.tx num = some x) (ackReq : Bool) :
    ((b.frameLeaves num ackReq).tx num).map (·.stage) = if ackReq then some .awaitingAck else none := by
  unfold Block.frameLeaves
  cases ackReq with
  | true =>
    rw [if_pos rfl]
    have htx : ∀ l : List Tx, (l.find? fun x => x.offer.num == num) = some x →
        ((l.map fun x => if x.offer.num == num then { x with stage := .awaitingAck } else x).find? fun x => x.offer.num == num) =
          some { x with stage := .awaitingAck } := fun l => by
      induction l with
      | nil => exact nofun
      | cons z l ih =>
        intro h
        rw [List.map_cons, List.find?_cons]
        rw [List.find?_cons] at h
        by_cases hz : (z.offer.num == num) = true
        · rw [hz] at h
          obtain rfl := Option.some.inj h
          rw [if_pos hz]
          dsimp only
          rw [hz]
        · rw [Bool.not_eq_true] at hz
          rw [hz] at h
          rw [if_neg (by rw [hz]; exact Bool.false_ne_true), hz]
          exact ih h
    unfold Block.tx at hx
    exact congrArg (Option.map (·.stage)) (htx b.mac.txs hx)
  | false =>
    rw [if_neg Bool.false_ne_true]
    have hnone : ((b.mac.txs.filter fun y => y.offer.num != num).find? fun y => y.offer.num == num) = none := by
      refine List.find?_eq_none.2 fun y hy => ?_
      have hne := (List.mem_filter.1 hy).2
      simpa using hne
    exact congrArg (Option.map (·.stage)) hnone

theorem Block.stage_of_aired {b c : Block} (h : c.aired = b.aired) (num : Nat) :
    (c.tx num).map (·.stage) = (b.tx num).map (·.stage) := by
  have hstage : ∀ d : Block, (d.tx num).map (·.stage) = (d.aired.find? fun x => x.offer.num == num).map (·.stage) := fun d => by
    unfold Block.aired Block.tx
    rw [List.find?_map, Option.map_map]
    rfl
  rw [hstage, hstage, h]

theorem Block.logTx_rest (b : Block) (ports : List Nat) (bands : Nat) (start : Bearing) :
    (b.logTx ports bands start).mac = b.mac ∧ (b.logTx ports bands start).dev = b.dev ∧
      (b.logTx ports bands start).ticks = b.ticks ∧ (b.logTx ports bands start).regs = b.regs := by
  unfold Block.logTx
  refine ⟨foldl_part Block.mac _ ?_ _ _, foldl_part Block.dev _ ?_ _ _, foldl_part Block.ticks _ ?_ _ _, foldl_part Block.regs _ ?_ _ _⟩ <;>
    exact fun _ _ => rfl

theorem Block.endTx_eq {b : Block} {num : Nat} {x : Tx} (m : TxMeasure) (hx : b.tx num = some x) (hstage : x.stage = .onLine)
    (hlast : ahead x.last (b.brg.now + 1) = false) : b.endTx num m =
      let c := (x.ports.foldl Block.countEnd (b.logTx x.ports x.bands x.start)).frameLeaves num x.offer.ackReq
      let d := ((x.ports.map (· / 6)).dedup).foldl (fun b k => b.refreshCharges k) c
      let e := (x.ports.foldl (fun b n => b.bankSent (n / 6) x.carriers x.atten) d).observeTx x m
      if x.offer.type = typeG3 then e.g3Ended (x.ports.headD 0) else e := by
  unfold Block.endTx
  rw [hx]
  exact if_neg (by rw [hstage, hlast]; simp)

theorem exec_transmissionEnd (num : Nat) {m : TxMeasure} (s : State) (hm : m.wf = true) :
    exec (.transmissionEnd num m) s = .next { s with blk := (s.blk.endTx num m).gated } := by
  show execTransmissionEnd num m s = _
  exact answer_of_wf hm s _

theorem completes_transmissionEnd {s : State} {num : Nat} {m : TxMeasure} {x : Tx} (hdev : s.blk.dev = .service) (hm : m.wf = true)
    (hx : s.blk.tx num = some x) (hstage : x.stage = .onLine) (hlast : ahead x.last (s.blk.brg.now + 1) = false)
    (hnodup : x.ports.Nodup) (hports : ∀ n ∈ x.ports, n < 24) : Completes (.transmissionEnd num m) s fun b =>
      (b.tx num).map (·.stage) = (if x.offer.ackReq then some .awaitingAck else none) ∧
      ∀ n ∈ x.ports, (b.port n).ended = some s.blk.ticks ∧
        b.get (Reg.LP_TX_COUNT_COUNT n) = (s.blk.get (Reg.LP_TX_COUNT_COUNT n) + 1) % 2 ^ 32 := by
  refine completes_of_next (exec_transmissionEnd num s hm) ?_
  rw [Block.endTx_eq m hx hstage hlast]
  extract_lets c d e
  obtain ⟨hlogmac, hlogdev, hlogticks, hlogregs⟩ := s.blk.logTx_rest x.ports x.bands x.start
  obtain ⟨hcountmac, hcountdev⟩ := Block.countEnds_rest x.ports (s.blk.logTx x.ports x.bands x.start)
  have hcount := fun n (hn : n ∈ x.ports) => Block.countEnds x.ports hnodup (s.blk.logTx x.ports x.bands x.start) hn
  have hctx : (c.tx num).map (·.stage) = if x.offer.ackReq then some .awaitingAck else none :=
    Block.frameLeaves_tx ((Block.tx_of_mac (congrArg MacSt.txs (hcountmac.trans hlogmac)) num).trans hx) _
  have hleave : ∀ f : Block, (f.frameLeaves num x.offer.ackReq).dev = f.dev ∧ (f.frameLeaves num x.offer.ackReq).regs = f.regs ∧
      (f.frameLeaves num x.offer.ackReq).ports = f.ports := fun f => by
    unfold Block.frameLeaves
    split <;> exact ⟨rfl, rfl, rfl⟩
  obtain ⟨hcdev, hcregs, hcports⟩ := hleave (x.ports.foldl Block.countEnd (s.blk.logTx x.ports x.bands x.start))
  have hcd : c.keepsEnds d := Block.keepsEnds.foldl _ _ _ fun f k => f.keepsEnds_refreshCharges k
  have hde : d.keepsEnds e := (Block.keepsEnds.foldl _ _ _ fun f n => f.keepsEnds_bankSent _ _ _).trans (Block.keepsEnds_observeTx _ _ _)
  have hend : c.keepsEnds (if x.offer.type = typeG3 then e.g3Ended (x.ports.headD 0) else e) :=
    (hcd.trans hde).trans ((e.keepsEnds_g3Ended _).ite e.keepsEnds_refl)
  generalize (if x.offer.type = typeG3 then e.g3Ended (x.ports.headD 0) else e) = f at hend ⊢
  rw [Block.gated_service f (hend.dev.trans (hcdev.trans (hcountdev.trans (hlogdev.trans hdev))))]
  refine ⟨(Block.stage_of_aired (Block.aired_of_lines _ hend.lines) num).trans hctx, fun n hn => ?_⟩
  obtain ⟨hended, hcounted⟩ := hcount n hn
  refine ⟨(hend.ended n).trans ?_, (Block.get_of_rd (hend.counts n (hports n hn))).trans ((Block.get_of_regs hcregs _).trans ?_)⟩
  · exact (congrArg PortSt.ended (Block.port_of_ports (congrArg PortsSt.port hcports) n)).trans (hended.trans (congrArg some hlogticks))
  · rw [hcounted, Block.get_of_regs hlogregs]

theorem completes_transmissionEnd_unknown {s : State} {num : Nat} {m : TxMeasure} (hdev : s.blk.dev = .service) (hm : m.wf = true)
    (hx : s.blk.tx num = none) : Completes (.transmissionEnd num m) s fun b => b = s.blk := by
  refine completes_of_next (exec_transmissionEnd num s hm) ?_
  have hend : s.blk.endTx num m = s.blk := by
    unfold Block.endTx
    rw [hx]
  rw [hend, Block.gated_service _ hdev]

/-- Settles O34: a plan that fits leaves its offer for the line, closes its ports' switches at its start, and ends with its ports'
counts. -/
theorem framesHoldTheirPorts : Obligations.FramesHoldTheirPorts := by
  unfold Obligations.FramesHoldTheirPorts
  intro s a num x m hdev
  refine ⟨fun p rest phy ports hrun hpurge hleave hplans hb hf hs ht _ => completes_admission hdev hrun hpurge hleave hplans hb hf hs ht,
    completes_admission_idle a hdev, fun hx hstage hstart hparcels hports => completes_transmissionStart hdev hx hstage hstart hparcels hports,
    fun hx h => completes_transmissionStart_idle hdev hx h,
    fun hm hx hstage hlast hnodup hports => completes_transmissionEnd hdev hm hx hstage hlast hnodup hports,
    fun hm hx => completes_transmissionEnd_unknown hdev hm hx, fun hm => ?_⟩
  exact if_neg (Bool.eq_false_iff.1 hm)

end Sys2Proof.Machine

/-!
What the node table's operations leave alone (R292 to R311): the frames on the line, the last-gasp notices and the registers of the
MAC's counters.
-/

namespace Sys2Proof.Machine

/-- Outside the registers of the MAC's settings and counters. -/
def besideMac (off : Nat) : Prop := off < 0xA0000 ∨ 0xA0400 ≤ off

/-- From `b` to `c` the frames on the line, the notices and the MAC's registers stay. -/
structure Block.byTable (b c : Block) : Prop where
  dev : c.dev = b.dev
  aired : c.aired = b.aired
  gasps : c.mac.gasps = b.mac.gasps
  regs : Block.writesIn besideMac b c

namespace Block.byTable
variable {b c d : Block}

theorem trans (h : b.byTable c) (h' : c.byTable d) : b.byTable d :=
  ⟨h'.dev.trans h.dev, h'.aired.trans h.aired, h'.gasps.trans h.gasps, h.regs.trans h'.regs⟩

theorem ite {p : Prop} [Decidable p] (hc : b.byTable c) (hd : b.byTable d) : b.byTable (if p then c else d) := by
  split
  · exact hc
  · exact hd

end Block.byTable

theorem besideMac_of_le {off : Nat} (h : 0xA0400 ≤ off) : besideMac off := Or.inr h

theorem besideMac_record : ∀ off ∈ recordRegs, besideMac off := by
  unfold besideMac
  decide

section
variable (b : Block)

theorem Block.byTable_refl : b.byTable b := ⟨rfl, rfl, rfl, Block.writesIn_refl _ _⟩

theorem Block.byTable.foldl {α : Type} (f : Block → α → Block) (l : List α) (hf : ∀ (c : Block) (x : α), c.byTable (f c x)) :
    b.byTable (l.foldl f b) := by
  induction l generalizing b with
  | nil => exact b.byTable_refl
  | cons x l ih => exact (hf b x).trans (ih _)

theorem Block.byTable_of_mac {c : Block} (hdev : c.dev = b.dev) (hmac : c.mac = b.mac) (hregs : Block.writesIn besideMac b c) :
    b.byTable c := ⟨hdev, Block.aired_of_lines b (b.lines_of_mac hmac), by rw [hmac], hregs⟩

theorem Block.byTable_of_eq {c : Block} (hdev : c.dev = b.dev) (haired : c.mac.txs = b.mac.txs) (hgasps : c.mac.gasps = b.mac.gasps)
    (hregs : c.regs = b.regs) : b.byTable c :=
  ⟨hdev, congrArg (List.map Tx.uncharged) haired, hgasps, (Block.writesIn_refl besideMac b).of_regs hregs⟩

theorem Block.byTable_set (f : Field) (v : Nat) (hf : besideMac f.off) : b.byTable (b.set f v) :=
  b.byTable_of_mac (Block.set_dev _ _ _) (Block.set_mac _ _ _) ((Block.writesIn_refl besideMac b).set v hf)

theorem Block.byTable_inc (f : Field) (hf : besideMac f.off) : b.byTable (b.inc f) := b.byTable_set f _ hf

theorem Block.byTable_setAll (fs : List (Field × Nat)) (hf : ∀ p ∈ fs, besideMac p.1.off) : b.byTable (b.setAll fs) :=
  b.byTable_of_mac (Block.setAll_dev _ _) (Block.setAll_mac _ _) ((Block.writesIn_refl besideMac b).setAll hf)

theorem Block.byTable_post (code sev src : Nat) (args : List (Nat × Nat)) : b.byTable (b.post code sev src args) :=
  b.byTable_of_mac (Block.post_dev _ _ _ _ _) (Block.post_mac _ _ _ _ _)
    ((Block.writesIn_refl besideMac b).post code sev src args besideMac_record)

theorem Block.byTable_replicate (what index : Nat) (old new : List Byte) : b.byTable (b.replicate what index old new) := by
  have hf : (b.replicate what index old new).frame = b.frame := Block.frame_replicate _ _ _ _ _
  refine b.byTable_of_mac (Block.dev_of_frame hf) (Block.mac_of_frame hf) fun off hoff => Block.replicate_rd _ _ _ _ _ _ fun h => hoff ?_
  rw [h]
  exact besideMac_of_le (by decide)

theorem Block.byTable_of_fabric {c : Block} (h : b.byFabric c) : b.byTable c := by
  refine b.byTable_of_mac (Block.dev_of_core h.core) (Block.mac_of_core h.core) (h.regs.mono fun off hoff => ?_)
  rcases hoff with h | h | h | h
  · exact besideMac_of_le (by omega)
  · exact h ▸ besideMac_of_le (by decide)
  · exact h ▸ besideMac_of_le (by decide)
  · exact besideMac_record off h

theorem Block.byTable_refreshCounts : b.byTable b.refreshCounts := by
  unfold Block.refreshCounts
  extract_lets live c
  have hc : b.byTable c := b.byTable_setAll _ fun p hp => besideMac_of_le (by
    simp only [List.mem_cons, List.not_mem_nil, or_false] at hp
    rcases hp with rfl | rfl | rfl <;> simp [Reg.TRV_STAT, Reg.TRV_RELAY_STAT])
  refine hc.trans (.foldl _ _ _ fun d t => d.byTable_setAll _ fun p hp => besideMac_of_le ?_)
  simp only [List.mem_cons, List.not_mem_nil, or_false] at hp
  rcases hp with rfl | rfl | rfl | rfl <;> simp only [Reg.TRV_PH_A, Reg.TRV_PH_B] <;> omega

/-! ### The tables -/

theorem Block.byTable_withTrv (t : TrvSt) : b.byTable { b with trv := t } := b.byTable_of_eq rfl rfl rfl rfl

theorem Block.byTable_setNode (x : Nat) (n : Node) : b.byTable (b.setNode x n) := by
  unfold Block.setNode
  dsimp only
  refine Block.byTable.trans ?_ (Block.byTable_refreshCounts _)
  refine Block.byTable.trans ?_ (Block.byTable_replicate _ _ _ _ _)
  exact b.byTable_withTrv _

theorem Block.byTable_modNode (x : Nat) (f : Node → Node) : b.byTable (b.modNode x f) := b.byTable_setNode _ _

theorem Block.byTable_setExt (x : Nat) (e : NodeExt) : b.byTable (b.setExt x e) := by
  unfold Block.setExt
  extract_lets y d
  have hd : b.byTable d := b.byTable_of_eq rfl rfl rfl rfl
  exact (hd.trans (d.byTable_replicate _ _ _ _)).ite hd

theorem Block.byTable_modExt (x : Nat) (f : NodeExt → NodeExt) : b.byTable (b.modExt x f) := b.byTable_setExt _ _

theorem Block.byTable_setRoute (x : Nat) (r : Route) : b.byTable (b.setRoute x r) := by
  unfold Block.setRoute
  dsimp only
  refine Block.byTable.trans ?_ (Block.byTable_replicate _ _ _ _ _)
  exact b.byTable_withTrv _

theorem Block.byTable_withOffers (l : List Offer) : b.byTable { b with mac := { b.mac with offers := l } } :=
  b.byTable_of_eq rfl rfl rfl rfl

theorem Block.byTable_refreshP0 : b.byTable b.refreshP0 := b.byTable_set _ _ (besideMac_of_le (by decide))

theorem Block.byTable_offer (o : Offer) : b.byTable (b.offer o) := by
  unfold Block.offer
  refine Block.byTable.trans ?_ (Block.byTable_refreshP0 _)
  exact b.byTable_of_eq rfl rfl rfl rfl

theorem Block.byTable_controlTo (x type : Nat) (body : List Byte) : b.byTable (b.controlTo x type body) := b.byTable_offer _

theorem Block.byTable_refreshMetrics (x : Nat) : b.byTable (b.refreshMetrics x) := by
  unfold Block.refreshMetrics
  refine .foldl _ _ _ fun c y => ?_
  exact c.byTable_refl.ite ((c.byTable_modNode _ _).trans (Block.byTable_setRoute _ _ _))

theorem Block.byTable_refreshLink (x : Nat) : b.byTable (b.refreshLink x) := by
  unfold Block.refreshLink
  extract_lets dn up weak link d
  have hd : b.byTable d := b.byTable_refl.ite (b.byTable_modNode _ _)
  exact hd.trans (d.byTable_refreshMetrics x)

theorem Block.byTable_routeFreeze (x : Nat) : b.byTable (b.routeFreeze x) := by
  unfold Block.routeFreeze
  refine Block.byTable.ite ?_ b.byTable_refl
  unfold Block.freezeTime Block.refreshFrozen Block.asymSuspect
  dsimp only
  exact ((b.byTable_modExt _ _).trans (Block.byTable_set _ _ _ (Or.inl (by decide)))).trans
    ((Block.byTable_inc _ _ (Or.inl (by decide))).trans (Block.byTable_post _ _ _ _ _))

/-- The blocks of two pairs, the frames announced beside them. -/
def pairTable (x y : Block × List Nat) : Prop := x.1.byTable y.1

theorem pairTable_routeFrame (acc : Block × List Nat) (relay : Nat) (body : List Byte) :
    pairTable acc (Block.routeFrame acc relay body) := by
  unfold Block.routeFrame
  cases acc.1.indexOf relay with
  | none => exact acc.1.byTable_refl
  | some y => exact acc.1.byTable_controlTo _ _ _

theorem pairTable.foldl {α : Type} (f : Block × List Nat → α → Block × List Nat)
    (hf : ∀ (acc : Block × List Nat) (x : α), pairTable acc (f acc x)) (l : List α) (acc : Block × List Nat) :
    pairTable acc (l.foldl f acc) := by
  induction l generalizing acc with
  | nil => exact acc.1.byTable_refl
  | cons x l ih => exact (hf acc x).trans (ih _)

theorem pairTable_downAdds (acc : Block × List Nat) (hops : List (Nat × Nat)) (dests : List Nat) :
    pairTable acc (Block.downAdds acc hops dests) := by
  unfold Block.downAdds
  refine pairTable.foldl _ (fun acc h => ?_) hops acc
  exact pairTable.foldl _ (fun acc ds => pairTable_routeFrame acc _ _) _ acc

theorem Block.byTable_useAlternate (c suspect : Nat) : b.byTable (b.useAlternate c suspect) := by
  rw [Block.useAlternate.eq_def]
  extract_lets n r below dests hops needs b1 b2 acc
  have h1 : b.byTable b1 := (b.byTable_setRoute c _).trans (Block.byTable_routeFreeze _ c)
  clear_value b1
  have h2 : b.byTable b2 := h1.trans (.foldl _ _ _ fun d y => d.byTable_setRoute y _)
  clear_value b2
  have h3 : b.byTable acc.1 := h2.trans (pairTable_downAdds (b2, []) needs dests)
  clear_value acc
  exact b.byTable_refl.ite (h3.trans (.foldl _ _ _ fun d y => d.byTable_modExt y _))

theorem Block.byTable_orphanSuspect (x : Nat) : b.byTable (b.orphanSuspect x) := by
  rw [Block.orphanSuspect.eq_def]
  extract_lets n below kids b1 b2 trv b3 b4 port
  have h1 : b.byTable b1 := .foldl _ _ _ fun d y => d.byTable_modNode _ _
  have h2 : b.byTable b2 := h1.trans (b1.byTable_post _ _ _ _)
  clear_value b1 b2
  have h3 : b.byTable b3 := h2.trans (b2.byTable_withTrv _)
  clear_value b3
  have h4 : b.byTable b4 := h3.trans (.foldl _ _ _ fun d c => d.byTable_useAlternate c _)
  clear_value b4
  exact b.byTable_refl.ite (h4.ite (h4.trans (b4.byTable_offer _)))

end

end Sys2Proof.Machine

/-!
Rendezvous of sleeping nodes and the supervision of the others (R41, R266, R268, R270 to R272).
-/

namespace Sys2Proof.Machine

/-! ### Sends that end, and nodes that lapse -/

section
variable (b : Block)

theorem Block.byFabric_releaseSends (q : Nat) : b.byFabric (b.releaseSends q) := by
  unfold Block.releaseSends
  split
  · extract_lets live st
    unfold Block.freeConsumed
    exact ((b.byFabric_refl.setQ _ _).setQ _ _).moveQueue _ _ _
  · split <;> exact b.byFabric_refl.moveQueue _ _ _

theorem Block.byTable_withStrata (x : StrataSt) : b.byTable { b with strata := x } := b.byTable_of_eq rfl rfl rfl rfl

theorem Block.byTable_complete (x : Cmd) (status : Nat) (result : List Byte) (flags : Nat) :
    b.byTable (b.complete x status result flags) := b.byTable_of_fabric (b.byFabric_refl.complete x status result flags)

theorem Block.byTable_completeSend (r : SendRec) (status : Nat) (result : List Byte) : b.byTable (b.completeSend r status result) := by
  unfold Block.completeSend
  refine Block.byTable.trans ?_ (Block.byTable_refreshP0 _)
  refine Block.byTable.trans ?_ (Block.byTable_complete _ _ _ _ _)
  exact b.byTable_withStrata _

theorem Block.byTable_endWaitingSend (r : SendRec) (status : Nat) (result : List Byte) :
    b.byTable (b.endWaitingSend r status result) :=
  (b.byTable_completeSend r status result).trans (Block.byTable_of_fabric _ (Block.byFabric_releaseSends _ _))

theorem Block.trv_complete (x : Cmd) (status : Nat) (result : List Byte) (flags : Nat) :
    (b.complete x status result flags).trv = b.trv := Block.trv_of_core (Block.core_complete b x status result flags)

theorem Block.trv_endWaitingSend (r : SendRec) (status : Nat) (result : List Byte) : (b.endWaitingSend r status result).trv = b.trv := by
  unfold Block.endWaitingSend Block.completeSend
  rw [Block.trv_of_core (Block.byFabric_releaseSends _ _).core, show ∀ c : Block, c.refreshP0.trv = c.trv from fun c => Block.set_trv _ _ _,
    Block.trv_complete]

/-- What waits for a node that leaves is revoked. -/
theorem Block.revokeNode_shows (short : Nat) : b.byTable (b.revokeNode short) ∧ (b.revokeNode short).trv = b.trv := by
  unfold Block.revokeNode
  extract_lets gone d here dropped m e
  have hd : b.byTable d ∧ d.trv = b.trv :=
    ⟨.foldl _ _ _ fun c r => c.byTable_endWaitingSend _ _ _, foldl_part Block.trv _ (fun c r => c.trv_endWaitingSend _ _ _) _ _⟩
  clear_value d
  have he : d.byTable e ∧ e.trv = d.trv := by
    refine ⟨Block.byTable.trans ?_ (Block.byTable_refreshP0 _), Block.set_trv _ _ _⟩
    exact d.byTable_withOffers _
  clear_value e
  have hpart : ∀ (o : Offer) (c : Block) (p : OutParcel), c.byTable (match p.send with
      | some x => c.complete x stRevoked (sendResult p.pseq o.attempts 0)
      | none => c) ∧ (match p.send with
      | some x => c.complete x stRevoked (sendResult p.pseq o.attempts 0)
      | none => c).trv = c.trv := fun o c p => by
    split
    · exact ⟨c.byTable_complete _ _ _ _, c.trv_complete _ _ _ _⟩
    · exact ⟨c.byTable_refl, rfl⟩
  exact ⟨(hd.1.trans he.1).trans (.foldl _ _ _ fun c o => .foldl _ _ _ fun f p => (hpart o f p).1),
    ((foldl_part Block.trv _ (fun c o => foldl_part Block.trv _ (fun f p => (hpart o f p).2) _ _) _ _).trans he.2).trans hd.2⟩

/-- An entry but for its sequence number and its mark as an orphan. -/
def Node.plain (n : Node) : Node := { n with orphan := false, entrySeq := 0 }

theorem Block.node_modNode (x : Nat) (f : Node → Node) (y : Nat) :
    (b.modNode x f).node y = if y = x then b.entryOf x (f (b.node x)) else b.node y := Block.setNode_node b x _ y

theorem Block.entryOf_plain (x : Nat) (n : Node) : (b.entryOf x n).plain = n.plain := by
  unfold Block.entryOf Node.plain
  dsimp only

theorem Block.modNode_plain (x : Nat) (f : Node → Node) (hf : ∀ n, (f n).plain = n.plain) (y : Nat) :
    ((b.modNode x f).node y).plain = (b.node y).plain := by
  rw [Block.node_modNode]
  split
  · next h =>
    rw [h, Block.entryOf_plain, hf]
  · rfl

theorem Node.orphan_plain (n : Node) (on : Bool) : ({ n with orphan := on } : Node).plain = n.plain := by
  unfold Node.plain
  dsimp only

theorem Block.orphans_plain (on : Bool) (y : Nat) (l : List Nat) :
    ((l.foldl (fun b z => b.modNode z fun m => { m with orphan := on }) b).node y).plain = (b.node y).plain := by
  induction l generalizing b with
  | nil => rfl
  | cons z l ih =>
    rw [List.foldl_cons, ih]
    exact b.modNode_plain z _ (fun n => n.orphan_plain on) y

theorem Block.orphanSuspect_plain (x y : Nat) : ((b.orphanSuspect x).node y).plain = (b.node y).plain := by
  rw [Block.orphanSuspect.eq_def]
  extract_lets n below kids b1 b2 trv b3 b4 port
  have h1 : (b1.node y).plain = (b.node y).plain := b.orphans_plain true y _
  clear_value b1
  have h3 : b3.node y = b1.node y := Block.node_congr (congrArg TrvSt.nodes (Block.post_trv b1 _ _ _ _)) y
  clear_value b3
  have h4 : b3.keepsEntries b4 := b3.keepsEntries_refl.foldl _ _ fun d c => d.keepsEntries_useAlternate c _
  clear_value b4
  have hend : ∀ d : Block, b3.keepsEntries d → (d.node y).plain = (b.node y).plain := fun d hd => by
    rw [Block.node_congr hd.nodes y, h3, h1]
  split
  · rfl
  · split
    · exact hend _ h4
    · exact hend _ (h4.of_trv (Block.offer_trv _ _))

theorem Block.byTable_dropLinks (x : Nat) : b.byTable (b.dropLinks x) := by
  unfold Block.dropLinks
  extract_lets short d
  have hd : b.byTable d := b.byTable_modExt x _
  clear_value d
  exact hd.trans (d.byTable_withOffers _)

/-- A node that lapses has left; the MAC's counters stay. -/
theorem Block.lapse_shows (x : Nat) : b.byTable (b.lapse x) ∧ ((b.lapse x).node x).state = 3 := by
  unfold Block.lapse
  extract_lets n d e
  have hd : b.byTable d ∧ (d.node x).state = 3 := by
    refine ⟨(b.byTable_dropLinks x).trans (Block.byTable_modNode _ _ _), ?_⟩
    rw [show d.node x = _ from Block.modNode_node _ x _]
    rfl
  clear_value d
  have he : d.byTable e ∧ (e.node x).state = 3 := by
    obtain ⟨htable, htrv⟩ := (d.post 0x0802 1 20 [(3, x), (3, n.short)]).revokeNode_shows n.short
    refine ⟨(d.byTable_post _ _ _ _).trans htable, ?_⟩
    rw [Block.node_congr (congrArg TrvSt.nodes (htrv.trans (Block.post_trv _ _ _ _ _))) x, hd.2]
  clear_value e
  split
  · refine ⟨(hd.1.trans he.1).trans (e.byTable_orphanSuspect x), ?_⟩
    have hplain := e.orphanSuspect_plain x x
    exact (congrArg Node.state hplain).trans he.2
  · exact ⟨hd.1.trans he.1, he.2⟩

/-! ### Rendezvous -/

/-- The offer with its start fixed for the rendezvous. -/
def Offer.fixedAt (o : Offer) (start : Bearing) : Offer := { o with start := some start, standing := true }

/-- The block in which the offer waits with its start fixed. -/
def Block.withFixed (o : Offer) : Block :=
  { b with mac := { b.mac with offers := b.mac.offers.map fun q => if q.num = o.num then o else q } }

theorem Block.withFixed_dev (o : Offer) : (b.withFixed o).dev = b.dev := rfl

/-- What is left of an offer whose rendezvous did not find room. -/
def Offer.unfixed (num : Nat) (q : Offer) : Option Offer :=
  if q.num == num && q.start.isSome then
    (if q.parcels.isEmpty && q.type == typeData then none else some { q with start := none, standing := false })
  else some q

theorem Offer.unfixed_num {num : Nat} {q o : Offer} (h : q.unfixed num = some o) : o.num = q.num := by
  unfold Offer.unfixed at h
  split at h
  · split at h
    · cases h
    · exact Option.some.inj h ▸ rfl
  · exact Option.some.inj h ▸ rfl

/-- The block in which what is left waits like any other offer. -/
def Block.unfix (num : Nat) : Block := { b with mac := { b.mac with offers := b.mac.offers.filterMap (Offer.unfixed num) } }

theorem Block.admitFixed_eq (x : Nat) {p : Plan} (start : Bearing) (hs : p.send = none) : b.admitFixed x p start =
    ((b.withFixed (p.offer.fixedAt start)).admitFirst ((b.withFixed (p.offer.fixedAt start)).rdvChoice x)
      [{ p with offer := p.offer.fixedAt start }] []).unfix p.offer.num := by
  have hswap : (fun q : Offer => if q.num = (p.offer.fixedAt start).num ∧ p.send.isNone then p.offer.fixedAt start else q) =
      fun q => if q.num = (p.offer.fixedAt start).num then p.offer.fixedAt start else q := by
    funext q
    rw [hs]
    simp
  have hkeep : (fun q : Offer => if q.num == (p.offer.fixedAt start).num && p.send.isNone && q.start.isSome then
      (if q.parcels.isEmpty && q.type == typeData then none else some { q with start := none, standing := false }) else some q) =
      Offer.unfixed p.offer.num := by
    funext q
    unfold Offer.unfixed
    rw [hs, show (none : Option SendRec).isNone = true from rfl, Bool.and_true]
    rfl
  unfold Block.admitFixed Block.unfix Block.withFixed
  dsimp only
  rw [← hswap, ← hkeep]
  rfl

end

theorem exec_rendezvous (node : NodeIx) (s : State) :
    exec (.rendezvous node) s = .next { s with blk := (s.blk.rendezvous node.toNat).gated } := rfl

/-- A wake of an associated node with nothing on the line for it is admitted at its fixed start. -/
theorem Block.rendezvous_eq {b : Block} {x : Nat} {v : Rendezvous} {start : Bearing} {p : Plan} (hdev : b.dev = .service)
    (hhome : b.home = true) (hv : (b.ext x).rdv = some v) (hstate : (b.node x).state = 2) (hwakes : v.wakes = none)
    (hidle : ∀ y ∈ b.mac.txs, y.offer.dst ≠ (b.node x).short) (hstart : b.wakeBearing x = some start)
    (hnear : (start - b.brg.now).toNat < 65536) (hlate : b.tooLate start = false) (hplan : b.rdvPlan x = (b, p)) :
    b.rendezvous x = b.admitFixed x p start := by
  have hout : (b.mac.txs.any fun y => y.offer.dst == (b.node x).short) = false := by
    simpa using hidle
  unfold Block.rendezvous
  rw [hstart]
  dsimp only
  rw [if_pos (by rw [hlate]; simpa using hnear)]
  unfold Block.wake
  dsimp only
  rw [hv, hdev, hhome, hstate, hout]
  dsimp only
  rw [if_neg (by decide), hwakes, hplan]
  rfl

theorem completes_rendezvous {s : State} {node : NodeIx} {v : Rendezvous} {p : Plan} {start : Bearing} {y : Tx} {phy : PhyMode}
    {ports : List Nat} (hdev : s.blk.dev = .service) (hhome : s.blk.home = true) (hv : (s.blk.ext node.toNat).rdv = some v)
    (hstate : (s.blk.node node.toNat).state = 2) (hwakes : v.wakes = none)
    (hidle : ∀ y ∈ s.blk.mac.txs, y.offer.dst ≠ (s.blk.node node.toNat).short) (hstart : s.blk.wakeBearing node.toNat = some start)
    (hnear : (start - s.blk.brg.now).toNat < 65536) (hlate : s.blk.tooLate start = false)
    (hplan : s.blk.rdvPlan node.toNat = (s.blk, p)) (hs : p.send = none) (ht : p.offer.type ≠ typeData)
    (hfits : (s.blk.withFixed (p.offer.fixedAt start)).testModes { p with offer := p.offer.fixedAt start }
      ((s.blk.withFixed (p.offer.fixedAt start)).rdvChoice node.toNat) = .fits y phy ports) :
    Completes (.rendezvous node) s fun b =>
      (∀ o ∈ b.mac.offers, o.num ≠ p.offer.num) ∧
      ∃ z ∈ b.mac.txs, z.offer.num = p.offer.num ∧ z.offer.dst = p.offer.dst ∧ z.ports = ports := by
  refine completes_of_next (exec_rendezvous node s) ?_
  rw [Block.rendezvous_eq hdev hhome hv hstate hwakes hidle hstart hnear hlate hplan, Block.admitFixed_eq _ _ _ hs]
  have hbdev : (s.blk.withFixed (p.offer.fixedAt start)).dev = .service := (s.blk.withFixed_dev _).trans hdev
  generalize s.blk.withFixed (p.offer.fixedAt start) = b at hfits hbdev ⊢
  generalize b.rdvChoice node.toNat = a at hfits ⊢
  have hfree : b.blockedBy { p with offer := p.offer.fixedAt start } a [] = false := by
    unfold Block.blockedBy
    rw [List.any_nil, Bool.and_false]
  rw [Block.admitFirst_fits hfree hfits hs ht]
  obtain ⟨t, hnum, hdst, -, hports, hlines⟩ := b.lines_admitPlan { p with offer := p.offer.fixedAt start } a y ports hs ht
  have hcdev := (Block.admits.admitPlan b.admits_refl { p with offer := p.offer.fixedAt start } a y ports).dev.trans hbdev
  generalize b.admitPlan { p with offer := p.offer.fixedAt start } a y ports = c at hlines hcdev ⊢
  have hunfix : (c.unfix p.offer.num).dev = c.dev ∧ (c.unfix p.offer.num).mac.txs = c.mac.txs ∧
      (c.unfix p.offer.num).mac.offers = c.mac.offers.filterMap (Offer.unfixed p.offer.num) := ⟨rfl, rfl, rfl⟩
  obtain ⟨hd, htxs, hoffers⟩ := hunfix
  rw [Block.gated_service _ (hd.trans hcdev), htxs, hoffers]
  constructor
  · intro o ho
    obtain ⟨q, hq, hqo⟩ := List.mem_filterMap.1 ho
    rw [show c.mac.offers = _ from congrArg Prod.snd hlines] at hq
    rw [Offer.unfixed_num hqo]
    exact bne_iff_ne.1 (List.mem_filter.1 hq).2
  · obtain ⟨z, hz, ho, hp, -⟩ := Block.mem_of_aired (b := c) (y := t) (by
      rw [show c.aired = _ from congrArg Prod.fst hlines]
      exact List.mem_append_right _ (List.mem_singleton.2 rfl))
    exact ⟨z, hz, by rw [ho]; exact hnum, by rw [ho]; exact hdst, hp.trans hports⟩

theorem completes_rendezvous_early {s : State} {node : NodeIx} (h : ∀ start, s.blk.wakeBearing node.toNat = some start →
    65536 ≤ (start - s.blk.brg.now).toNat ∨ s.blk.tooLate start = true) :
    Completes (.rendezvous node) s fun b => b.mac.offers = s.blk.mac.offers ∧ s.blk.keepsBut b [Reg.SP_STAT 1] := by
  refine completes_of_next (exec_rendezvous node s) ?_
  have hidle : s.blk.rendezvous node.toNat = s.blk := by
    unfold Block.rendezvous
    cases hw : s.blk.wakeBearing node.toNat with
    | none => rfl
    | some start =>
      refine if_neg ?_
      rcases h start hw with h | h
      · rw [decide_eq_false (Nat.not_lt.2 h)]
        exact Bool.false_ne_true
      · rw [h, Bool.not_true, Bool.and_false]
        exact Bool.false_ne_true
  rw [hidle]
  exact ⟨s.blk.gated_offers, Block.keepsBut_gated_of_regs rfl⟩

/-! ### A rendezvous missed -/

theorem exec_rendezvousMissed (node : NodeIx) (s : State) :
    exec (.rendezvousMissed node) s = .next { s with blk := (s.blk.rdvMissed node.toNat).gated } := rfl

theorem Block.modExt_ext (b : Block) (x : Nat) (f : NodeExt → NodeExt) : (b.modExt x f).ext x = f (b.ext x) := by
  unfold Block.modExt
  rw [Block.setExt_ext, if_pos rfl]

theorem Block.nextRdv_ext {b : Block} {x : Nat} {v : Rendezvous} (hv : (b.ext x).rdv = some v) (wakes : Option Nat) :
    ((b.nextRdv x wakes).ext x).rdv = some { v with k := v.k + 1, wakes := wakes } := by
  unfold Block.nextRdv
  rw [hv]
  dsimp only
  rw [Block.modNode_ext, Block.modExt_ext]

theorem Block.endSeries_shows (b : Block) (x : Nat) :
    b.byTable (b.endSeries x) ∧ ((b.endSeries x).ext x).rdv = none ∧ ((b.endSeries x).ext x).supvFrom = b.superframe := by
  unfold Block.endSeries
  dsimp only
  rw [Block.modNode_ext, Block.modExt_ext]
  refine ⟨Block.byTable.trans ?_ (Block.byTable_modNode _ _ _), rfl, rfl⟩
  exact b.byTable_modExt x _

/-- A rendezvous whose bearing has passed with nothing on the line for the node. -/
structure Block.missesAt (b : Block) (x : Nat) (v : Rendezvous) : Prop where
  home : b.home = true
  series : (b.ext x).rdv = some v
  idle : ∀ y ∈ b.mac.txs, y.offer.dst ≠ (b.node x).short
  past : ahead (b.rdvBearing x v.k) b.brg.now = false

theorem Block.missesAt.proceeds {b : Block} {x : Nat} {v : Rendezvous} (h : b.missesAt x v) :
    ¬ (!b.home || (b.mac.txs.any fun y => y.offer.dst == (b.node x).short) || ahead (b.rdvBearing x v.k) b.brg.now) = true := by
  have hout : (b.mac.txs.any fun y => y.offer.dst == (b.node x).short) = false := by
    simpa using h.idle
  rw [h.home, hout, h.past]
  decide

/-- The first miss at the cap of the guard desynchronises the pair. -/
theorem Block.rdvMissed_first {b : Block} {x : Nat} {v : Rendezvous} (h : b.missesAt x v) (hw : v.wakes = none) :
    b.rdvMissed x = b.nextRdv x (if b.guardOf x v.k = 16384 then some 0 else none) := by
  unfold Block.rdvMissed
  rw [h.series]
  dsimp only
  rw [if_neg h.proceeds, hw]

theorem Block.rdvMissed_wake {b : Block} {x : Nat} {v : Rendezvous} (h : b.missesAt x v) (hw : v.wakes = some 0) :
    b.rdvMissed x = b.nextRdv x (some 1) := by
  unfold Block.rdvMissed
  rw [h.series]
  dsimp only
  rw [if_neg h.proceeds, hw]
  exact if_neg (by decide)

theorem Block.rdvMissed_last {b : Block} {x : Nat} {v : Rendezvous} (h : b.missesAt x v) (hw : v.wakes = some 1) :
    b.rdvMissed x = ((b.endSeries x).inc Reg.MAC_DESYNC_COUNT).post 0x0702 2 19 [(3, x), (3, (b.node x).short)] := by
  unfold Block.rdvMissed
  rw [h.series]
  dsimp only
  rw [if_neg h.proceeds, hw]
  exact if_pos (by decide)

theorem Block.ext_of_trv {b c : Block} (h : c.trv = b.trv) (x : Nat) : c.ext x = b.ext x := Block.ext_congr (congrArg TrvSt.ext h) x

theorem Block.node_of_trv {b c : Block} (h : c.trv = b.trv) (x : Nat) : c.node x = b.node x := Block.node_congr (congrArg TrvSt.nodes h) x

theorem not_besideMac_desync : ¬ besideMac Reg.MAC_DESYNC := by
  unfold besideMac
  decide

theorem not_besideMac_lost : ¬ besideMac Reg.MAC_SUPV_LOST := by
  unfold besideMac
  decide

theorem completes_rendezvousMissed {s : State} {node : NodeIx} {v : Rendezvous} (h : s.blk.missesAt node.toNat v) :
    (v.wakes = none → Completes (.rendezvousMissed node) s fun b => (b.ext node.toNat).rdv =
      some { v with k := v.k + 1, wakes := if s.blk.guardOf node.toNat v.k = 16384 then some 0 else none }) ∧
    (v.wakes = some 0 → Completes (.rendezvousMissed node) s fun b =>
      (b.ext node.toNat).rdv = some { v with k := v.k + 1, wakes := some 1 }) ∧
    (v.wakes = some 1 → Completes (.rendezvousMissed node) s fun b =>
      (b.ext node.toNat).rdv = none ∧ (b.ext node.toNat).supvFrom = s.blk.superframe ∧
      b.get Reg.MAC_DESYNC_COUNT = (s.blk.get Reg.MAC_DESYNC_COUNT + 1) % 2 ^ 32) := by
  refine ⟨fun hw => completes_of_next (exec_rendezvousMissed node s) ?_, fun hw => completes_of_next (exec_rendezvousMissed node s) ?_,
    fun hw => completes_of_next (exec_rendezvousMissed node s) ?_⟩
  · rw [Block.gated_ext, Block.rdvMissed_first h hw, Block.nextRdv_ext h.series]
  · rw [Block.gated_ext, Block.rdvMissed_wake h hw, Block.nextRdv_ext h.series]
  · obtain ⟨htable, hrdv, hsupv⟩ := s.blk.endSeries_shows node.toNat
    rw [Block.gated_ext, Block.rdvMissed_last h hw, Block.ext_of_trv (Block.post_trv _ _ _ _ _), Block.ext_of_trv (Block.inc_trv _ _)]
    refine ⟨hrdv, hsupv, ?_⟩
    rw [Block.gated_get_other _ _ (by decide), Block.get_post _ _ _ _ _ _ (notMem_recordRegs (by decide)),
      Block.get_inc _ _ (by decide), htable.regs.get not_besideMac_desync]

theorem completes_rendezvousMissed_idle {s : State} {node : NodeIx} (h : (s.blk.ext node.toNat).rdv = none ∨ s.blk.home = false) :
    Completes (.rendezvousMissed node) s fun b => b.trv = s.blk.trv ∧ s.blk.keepsBut b [Reg.SP_STAT 1] := by
  refine completes_of_next (exec_rendezvousMissed node s) ?_
  have hidle : s.blk.rdvMissed node.toNat = s.blk := by
    unfold Block.rdvMissed
    cases hv : (s.blk.ext node.toNat).rdv with
    | none => rfl
    | some v =>
      refine if_pos ?_
      rw [h.resolve_left (by rw [hv]; exact Option.some_ne_none v)]
      rfl
  rw [hidle]
  exact ⟨Block.gated_trv _, Block.keepsBut_gated_of_regs rfl⟩

/-! ### Supervision -/

theorem exec_supervisionExpiry (node : NodeIx) (s : State) :
    exec (.supervisionExpiry node) s = .next { s with blk := (s.blk.superviseNode node.toNat).gated } := rfl

theorem completes_supervisionExpiry {s : State} {node : NodeIx} (hhome : s.blk.home = true) (hstate : (s.blk.node node.toNat).state = 2)
    (hrdv : (s.blk.ext node.toNat).rdv = none)
    (hlate : (s.blk.ext node.toNat).supvFrom + s.blk.get Reg.MAC_SUPV_SUPV ≤ s.blk.superframe) :
    Completes (.supervisionExpiry node) s fun b => (b.node node.toNat).state = 3 ∧
      b.get Reg.MAC_SUPV_LOST_COUNT = (s.blk.get Reg.MAC_SUPV_LOST_COUNT + 1) % 2 ^ 32 := by
  refine completes_of_next (exec_supervisionExpiry node s) ?_
  have hlapse : s.blk.superviseNode node.toNat = (s.blk.inc Reg.MAC_SUPV_LOST_COUNT).lapse node.toNat := by
    unfold Block.superviseNode
    exact if_neg (by rw [hhome, hstate, hrdv, decide_eq_false (Nat.not_lt.2 hlate)]; decide)
  obtain ⟨htable, hstate⟩ := (s.blk.inc Reg.MAC_SUPV_LOST_COUNT).lapse_shows node.toNat
  rw [hlapse, Block.gated_node]
  exact ⟨hstate, (Block.gated_get_other _ _ (by decide)).trans ((htable.regs.get not_besideMac_lost).trans
    (Block.get_inc _ _ (by decide)))⟩

theorem completes_supervisionExpiry_idle {s : State} {node : NodeIx} (h : s.blk.superviseNode node.toNat = s.blk) :
    Completes (.supervisionExpiry node) s fun b => b.trv = s.blk.trv ∧ s.blk.keepsBut b [Reg.SP_STAT 1] := by
  refine completes_of_next (exec_supervisionExpiry node s) ?_
  rw [h]
  exact ⟨Block.gated_trv _, Block.keepsBut_gated_of_regs rfl⟩

/-- Settles O39: a frame is admitted at its node's rendezvous; a missed one moves the series on, desynchronises the pair or ends it;
a silent node lapses. -/
theorem sleepersAndSilentNodes : Obligations.SleepersAndSilentNodes := by
  unfold Obligations.SleepersAndSilentNodes
  intro s node v
  refine ⟨fun hdev hhome hv hstate hwakes hidle p start y phy ports hstart hnear hlate hplan hs ht hfits => ?_,
    completes_rendezvous_early, fun hhome hv hidle hpast => completes_rendezvousMissed ⟨hhome, hv, hidle, hpast⟩,
    completes_rendezvousMissed_idle, fun hhome hstate => ⟨completes_supervisionExpiry hhome hstate, fun hv => ?_⟩, fun h => ?_⟩
  · exact completes_rendezvous hdev hhome hv hstate hwakes hidle hstart hnear hlate hplan hs ht hfits
  · refine completes_supervisionExpiry_idle ?_
    unfold Block.superviseNode
    exact if_pos (by rw [hv]; simp)
  · refine completes_supervisionExpiry_idle ?_
    unfold Block.superviseNode
    refine if_pos ?_
    rcases h with h | h | h
    · simp [h]
    · simp [h]
    · simp [h]

end Sys2Proof.Machine

/-!
Last-gasp frames and relayed Cairns (R169, R242, R246, R279, R281, R305, R308).
-/

namespace Sys2Proof.Machine

/-! ### The end of a reception, and what a heard node leaves alone -/

/-- The tables, the frames and the last-gasp windows stay, and every register but those of the anchors. -/
structure Block.byReception (b c : Block) : Prop where
  trv : c.trv = b.trv
  mac : c.mac = b.mac
  chain : c.chain = b.chain
  gaspClose : c.brg.gaspClose = b.brg.gaspClose
  regs : ∀ off, (∀ n, off ≠ Reg.LP_AGC_STAT n) → c.rd off = b.rd off

theorem Block.byReception.trans {b c d : Block} (h : b.byReception c) (h' : c.byReception d) : b.byReception d :=
  ⟨h'.trv.trans h.trv, h'.mac.trans h.mac, h'.chain.trans h.chain, h'.gaspClose.trans h.gaspClose,
    fun off ho => (h'.regs off ho).trans (h.regs off ho)⟩

theorem Block.byReception.get {b c : Block} (h : b.byReception c) {f : Field} (hf : f.off % 0x1000 ≠ 0xC) : c.get f = b.get f :=
  Block.get_of_rd (h.regs _ fun n hn => hf (by rw [hn]; simp only [Reg.LP_AGC_STAT]; omega))

section
variable (b : Block)

theorem Block.byReception_refl : b.byReception b := ⟨rfl, rfl, rfl, rfl, fun _ _ => rfl⟩

theorem Block.byReception_setReception (l : Nat) (r : Option Reception) : b.byReception (b.setReception l r) := by
  unfold Block.setReception
  extract_lets d lane e
  have hd : b.byReception d := by
    unfold d
    split
    · unfold Block.logReception
      split
      · split
        · exact b.byReception_refl
        · exact ⟨rfl, rfl, rfl, rfl, fun _ _ => rfl⟩
      · exact b.byReception_refl
    · exact b.byReception_refl
  have he : d.byReception e := ⟨rfl, rfl, rfl, rfl, fun _ _ => rfl⟩
  clear_value d e
  have hanchor : ∀ n, e.byReception (e.refreshAnchor n) := fun n => by
    have hset : ∀ v w : Nat, e.byReception (e.setAll [(Reg.LP_AGC_STAT_ANCHOR n, v), (Reg.LP_AGC_STAT_ANCHOR_VALID n, w)]) := fun v w =>
      ⟨Block.setAll_trv _ _, Block.setAll_mac _ _, Block.setAll_chain _ _, by rw [Block.setAll_brg], fun off ho => Block.rd_setAll_other _ _ _ fun p hp => by
        simp only [List.mem_cons, List.not_mem_nil, or_false] at hp
        rcases hp with rfl | rfl <;> exact ho n⟩
    unfold Block.refreshAnchor
    split <;> exact hset _ _
  split
  · exact (hd.trans he).trans (hanchor _)
  · exact hd.trans he

theorem Block.byReception_endReception (h : Heard) : b.byReception (b.endReception h) := by
  unfold Block.endReception
  generalize b.lanesOfFrame h.port h.frame = l
  induction l generalizing b with
  | nil => exact b.byReception_refl
  | cons x l ih => exact (b.byReception_setReception x none).trans (ih _)

theorem Block.byTable_addOmega (x omega : Nat) (o : ObsFrom) : b.byTable (b.addOmega x omega o) := by
  unfold Block.addOmega
  extract_lets e n far moves1 moves2 kept moves3 restart omegas d est c f
  have hd : b.byTable d := b.byTable_modExt _ _
  clear_value d
  have hf : b.byTable f := hd.trans (d.byTable_modNode _ _)
  clear_value f
  exact (hf.trans (f.byTable_post _ _ _ _)).ite hf

theorem Block.byTable_noteHeard (x : Nat) (h : Heard) : b.byTable (b.noteHeard x h) := by
  unfold Block.noteHeard
  extract_lets d
  have hd : b.byTable d := b.byTable_modNode _ _
  clear_value d
  exact hd.trans (d.byTable_addOmega _ _ _)

end

/-! ### Last-gasp frames -/

/-- The notices taken in the last two cycles before the frame. -/
def Block.recentGasps (b : Block) (h : Heard) : List (Nat × Bearing) :=
  b.mac.gasps.filter fun p => (h.reception.bearing - p.2).toNat < 2097152

/-- The node of the frame is noted as heard. -/
def Block.gaspHeard (b : Block) (h : Heard) : Block :=
  ((b.indexOf (bitsAt h.frame.bits 4 20)).filter fun x => (b.node x).state == 2).elim b fun x => b.noteHeard x h

/-- What a last-gasp frame that is counted makes of the block. -/
def Block.gaspNoted (b : Block) (h : Heard) (g : GaspFrame) : Block :=
  let short := bitsAt h.frame.bits 4 20
  let m := b.macTriad h.triad
  let inWindow := (b.gaspClose h.triad).isSome
  if (b.recentGasps h).any fun p => p.1 == short then
    let b := b.inc Reg.MAC_GASP_DUP_COUNT
    if inWindow then b.setMacTriad h.triad { m with gaspDups := m.gaspDups + 1 } else b
  else if !b.on Reg.MAC_GASP_ENABLE then b
  else
    let b := { b with mac := { b.mac with gasps := b.recentGasps h ++ [(short, h.reception.bearing)] } }
    let b := if inWindow then b.setMacTriad h.triad { m with gaspNotices := m.gaspNotices + 1 } else b
    b.produce (b.get Reg.MAC_GASP_QUEUE)
      { bytes := b.gaspNotice h short g.snr.toNat, prio := 0, prov := false, orig := short, pseq := 0, producer := 19 }

theorem Block.gasp_eq {b : Block} {g : GaspFrame} {h : Heard} (hh : b.heardOn g.lane [] = some h) (ht : h.type = 15)
    (hs : b.standsBy h.port = false) :
    b.gasp g = (((b.endReception h).inc Reg.MAC_GASP_RX_COUNT).gaspHeard h).gaspNoted h g := by
  unfold Block.gasp
  rw [hh]
  refine (if_neg (by rw [ht]; decide)).trans ((if_neg (by rw [hs]; exact Bool.false_ne_true)).trans ?_)
  extract_lets d1 d2 short d3
  have hd : d3 = d2.gaspHeard h := by
    unfold d3 Block.gaspHeard
    generalize (d2.indexOf short).filter (fun x => (d2.node x).state == 2) = known
    cases known <;> rfl
  clear_value d3
  subst hd
  rfl

theorem exec_gaspReceived (g : GaspFrame) (s : State) : exec (.gaspReceived g) s = .next { s with blk := (s.blk.gasp g).gated } := rfl

/-- A further copy is counted as one. -/
theorem Block.gaspNoted_copy {b : Block} {h : Heard} (g : GaspFrame)
    (hc : ((b.recentGasps h).any fun p => p.1 == bitsAt h.frame.bits 4 20) = true) :
    (b.gaspNoted h g).get Reg.MAC_GASP_RX_COUNT = b.get Reg.MAC_GASP_RX_COUNT ∧
      (b.gaspNoted h g).get Reg.MAC_GASP_DUP_COUNT = (b.get Reg.MAC_GASP_DUP_COUNT + 1) % 2 ^ 32 ∧
      (b.gaspNoted h g).mac.gasps = b.mac.gasps := by
  have hregs : ∀ (c : Block) (t : Nat) (m : MacTriad), (c.setMacTriad t m).regs = c.regs ∧ (c.setMacTriad t m).mac.gasps = c.mac.gasps :=
    fun c t m => ⟨rfl, rfl⟩
  have hinc : (b.inc Reg.MAC_GASP_DUP_COUNT).get Reg.MAC_GASP_RX_COUNT = b.get Reg.MAC_GASP_RX_COUNT ∧
      (b.inc Reg.MAC_GASP_DUP_COUNT).get Reg.MAC_GASP_DUP_COUNT = (b.get Reg.MAC_GASP_DUP_COUNT + 1) % 2 ^ 32 ∧
      (b.inc Reg.MAC_GASP_DUP_COUNT).mac.gasps = b.mac.gasps :=
    ⟨Block.get_of_rd (Block.rd_inc_other _ _ _ (by decide)), Block.get_inc _ _ (by decide), by rw [Block.inc_mac]⟩
  unfold Block.gaspNoted
  dsimp only
  rw [if_pos hc]
  generalize b.inc Reg.MAC_GASP_DUP_COUNT = c at hinc ⊢
  split
  · obtain ⟨hr, hm⟩ := hregs c h.triad { b.macTriad h.triad with gaspDups := (b.macTriad h.triad).gaspDups + 1 }
    rw [Block.get_of_regs hr, Block.get_of_regs hr, hm]
    exact hinc
  · exact hinc

theorem Block.gaspNoted_disabled {b : Block} {h : Heard} (g : GaspFrame)
    (hc : ((b.recentGasps h).any fun p => p.1 == bitsAt h.frame.bits 4 20) = false) (he : b.on Reg.MAC_GASP_ENABLE = false) :
    b.gaspNoted h g = b := by
  unfold Block.gaspNoted
  dsimp only
  rw [if_neg (by rw [hc]; exact Bool.false_ne_true), if_pos (by rw [he]; rfl)]

/-- The notice of a first copy is produced. -/
theorem Block.gaspNoted_first {b : Block} {h : Heard} (g : GaspFrame)
    (hc : ((b.recentGasps h).any fun p => p.1 == bitsAt h.frame.bits 4 20) = false) (he : b.on Reg.MAC_GASP_ENABLE = true) :
    (b.gaspNoted h g).get Reg.MAC_GASP_RX_COUNT = b.get Reg.MAC_GASP_RX_COUNT ∧
      (b.gaspNoted h g).get Reg.MAC_GASP_DUP_COUNT = b.get Reg.MAC_GASP_DUP_COUNT ∧
      (bitsAt h.frame.bits 4 20, h.reception.bearing) ∈ (b.gaspNoted h g).mac.gasps := by
  unfold Block.gaspNoted
  extract_lets short m inWindow d0 mc d e
  have he' : (bitsAt h.frame.bits 4 20, h.reception.bearing) ∈ e.mac.gasps ∧ e.regs = b.regs := by
    have hmem : (bitsAt h.frame.bits 4 20, h.reception.bearing) ∈ b.recentGasps h ++ [(short, h.reception.bearing)] :=
      List.mem_append_right _ (List.mem_singleton.2 rfl)
    unfold e
    split <;> exact ⟨hmem, rfl⟩
  clear_value e d
  rw [if_neg (by rw [hc]; exact Bool.false_ne_true), if_neg (by rw [he]; decide)]
  have hfab : e.byFabric (e.produce (e.get Reg.MAC_GASP_QUEUE)
      { bytes := e.gaspNotice h short g.snr.toNat, prio := 0, prov := false, orig := short, pseq := 0, producer := 19 }) :=
    e.byFabric_refl.produce _ _
  generalize e.produce (e.get Reg.MAC_GASP_QUEUE) _ = f at hfab ⊢
  have hrd : ∀ fld : Field, ¬ besideMac fld.off → f.get fld = b.get fld := fun fld hf =>
    ((e.byTable_of_fabric hfab).regs.get hf).trans (Block.get_of_regs he'.2 fld)
  refine ⟨hrd _ (by unfold besideMac; decide), hrd _ (by unfold besideMac; decide), ?_⟩
  rw [Block.mac_of_core hfab.core]
  exact he'.1

theorem Block.byTable_gaspHeard (b : Block) (h : Heard) : b.byTable (b.gaspHeard h) := by
  unfold Block.gaspHeard
  generalize (b.indexOf (bitsAt h.frame.bits 4 20)).filter (fun x => (b.node x).state == 2) = known
  cases known with
  | none => exact b.byTable_refl
  | some x => exact b.byTable_noteHeard _ _

theorem not_besideMac_gasp {f : Field} (h : f.off = Reg.MAC_GASP_RX ∨ f.off = Reg.MAC_GASP_DUP ∨ f.off = Reg.MAC_GASP) :
    ¬ besideMac f.off ∧ f.off % 0x1000 ≠ 0xC := by
  rcases h with h | h | h <;> rw [h] <;> unfold besideMac <;> decide

/-- The block with the frame counted and its node heard. -/
def Block.gaspCounted (b : Block) (h : Heard) : Block := ((b.endReception h).inc Reg.MAC_GASP_RX_COUNT).gaspHeard h

theorem Block.gaspCounted_get (b : Block) (h : Heard) {f : Field}
    (hf : f.off = Reg.MAC_GASP_RX ∨ f.off = Reg.MAC_GASP_DUP ∨ f.off = Reg.MAC_GASP) :
    (b.gaspCounted h).get f = ((b.endReception h).inc Reg.MAC_GASP_RX_COUNT).get f :=
  (Block.byTable_gaspHeard _ h).regs.get (not_besideMac_gasp hf).1

theorem Block.gaspCounted_rx (b : Block) (h : Heard) :
    (b.gaspCounted h).get Reg.MAC_GASP_RX_COUNT = (b.get Reg.MAC_GASP_RX_COUNT + 1) % 2 ^ 32 := by
  rw [b.gaspCounted_get h (.inl rfl), Block.get_inc _ _ (by decide),
    (b.byReception_endReception h).get (not_besideMac_gasp (.inl rfl)).2]

theorem Block.gaspCounted_other (b : Block) (h : Heard) {f : Field} (hf : f.off = Reg.MAC_GASP_DUP ∨ f.off = Reg.MAC_GASP) :
    (b.gaspCounted h).get f = b.get f := by
  have hne : f.off ≠ Reg.MAC_GASP_RX := by rcases hf with hf | hf <;> rw [hf] <;> decide
  rw [b.gaspCounted_get h (.inr hf), Block.get_of_rd (Block.rd_inc_other _ _ _ hne),
    (b.byReception_endReception h).get (not_besideMac_gasp (.inr hf)).2]

theorem Block.gaspCounted_gasps (b : Block) (h : Heard) : (b.gaspCounted h).mac.gasps = b.mac.gasps := by
  rw [show (b.gaspCounted h).mac.gasps = _ from (Block.byTable_gaspHeard _ h).gasps, Block.inc_mac,
    (b.byReception_endReception h).mac]

theorem Block.gasp_counted {b : Block} {g : GaspFrame} {h : Heard} (hh : b.heardOn g.lane [] = some h) (ht : h.type = 15)
    (hs : b.standsBy h.port = false) : b.gasp g = (b.gaspCounted h).gaspNoted h g := Block.gasp_eq hh ht hs

theorem Block.recentGasps_any (b : Block) (h : Heard) (short : Nat) :
    ((b.gaspCounted h).recentGasps h).any (fun p => p.1 == short) =
      b.mac.gasps.any fun p => p.1 == short && (h.reception.bearing - p.2).toNat < 2097152 := by
  unfold Block.recentGasps
  rw [Block.gaspCounted_gasps, List.any_filter]
  exact congrArg (fun f => b.mac.gasps.any f) (funext fun p => Bool.and_comm _ _)

theorem Block.gated_gasps (b : Block) : b.gated.mac.gasps = b.mac.gasps := by
  unfold Block.gated
  extract_lets d1 d2
  have h1 : d1.mac.gasps = b.mac.gasps := by
    unfold d1
    split <;> rfl
  have h2 : d2.mac.gasps = b.mac.gasps := by
    unfold d2
    split
    · exact h1
    · exact h1
  split
  · rw [Block.muteOutputs_mac, h2]
  · exact h2

theorem completes_gaspReceived {s : State} {g : GaspFrame} {hd : Heard} (hh : s.blk.heardOn g.lane [] = some hd) (ht : hd.type = 15)
    (hs : s.blk.standsBy hd.port = false) :
    let short := bitsAt hd.frame.bits 4 20
    let copy := s.blk.mac.gasps.any fun p => p.1 == short && (hd.reception.bearing - p.2).toNat < 2097152
    (copy = false → s.blk.on Reg.MAC_GASP_ENABLE = true → Completes (.gaspReceived g) s fun b =>
      b.get Reg.MAC_GASP_RX_COUNT = (s.blk.get Reg.MAC_GASP_RX_COUNT + 1) % 2 ^ 32 ∧
      (short, hd.reception.bearing) ∈ b.mac.gasps ∧
      b.get Reg.MAC_GASP_DUP_COUNT = s.blk.get Reg.MAC_GASP_DUP_COUNT) ∧
    (copy = false → s.blk.on Reg.MAC_GASP_ENABLE = false → Completes (.gaspReceived g) s fun b =>
      b.get Reg.MAC_GASP_RX_COUNT = (s.blk.get Reg.MAC_GASP_RX_COUNT + 1) % 2 ^ 32 ∧
      b.mac.gasps = s.blk.mac.gasps) ∧
    (copy = true → Completes (.gaspReceived g) s fun b =>
      b.get Reg.MAC_GASP_RX_COUNT = (s.blk.get Reg.MAC_GASP_RX_COUNT + 1) % 2 ^ 32 ∧
      b.get Reg.MAC_GASP_DUP_COUNT = (s.blk.get Reg.MAC_GASP_DUP_COUNT + 1) % 2 ^ 32 ∧
      b.mac.gasps = s.blk.mac.gasps) := by
  intro short copy
  have hcopy : ((s.blk.gaspCounted hd).recentGasps hd).any (fun p => p.1 == short) = copy := s.blk.recentGasps_any hd short
  have henable : (s.blk.gaspCounted hd).on Reg.MAC_GASP_ENABLE = s.blk.on Reg.MAC_GASP_ENABLE :=
    Block.on_congr (s.blk.gaspCounted_other hd (.inr rfl))
  have hrx := s.blk.gaspCounted_rx hd
  have hdup : (s.blk.gaspCounted hd).get Reg.MAC_GASP_DUP_COUNT = s.blk.get Reg.MAC_GASP_DUP_COUNT :=
    s.blk.gaspCounted_other hd (.inl rfl)
  have hgasps := s.blk.gaspCounted_gasps hd
  have hgate : ∀ b : Block, b.gated.get Reg.MAC_GASP_RX_COUNT = b.get Reg.MAC_GASP_RX_COUNT ∧
      b.gated.get Reg.MAC_GASP_DUP_COUNT = b.get Reg.MAC_GASP_DUP_COUNT ∧ b.gated.mac.gasps = b.mac.gasps := fun b =>
    ⟨Block.gated_get_other _ _ (by decide), Block.gated_get_other _ _ (by decide), b.gated_gasps⟩
  refine ⟨fun hc he => completes_of_next (exec_gaspReceived g s) ?_, fun hc he => completes_of_next (exec_gaspReceived g s) ?_,
    fun hc => completes_of_next (exec_gaspReceived g s) ?_⟩
  all_goals
    rw [Block.gasp_counted hh ht hs]
    obtain ⟨g1, g2, g3⟩ := hgate ((s.blk.gaspCounted hd).gaspNoted hd g)
    rw [g1, g3]
  · obtain ⟨h1, h2, h3⟩ := Block.gaspNoted_first g (hcopy.trans hc) (henable.trans he)
    rw [g2]
    exact ⟨h1.trans hrx, h3, h2.trans hdup⟩
  · rw [Block.gaspNoted_disabled g (hcopy.trans hc) (henable.trans he)]
    exact ⟨hrx, hgasps⟩
  · obtain ⟨h1, h2, h3⟩ := Block.gaspNoted_copy g (hcopy.trans hc)
    rw [g2]
    exact ⟨h1.trans hrx, h2.trans (by rw [hdup]), h3.trans hgasps⟩

theorem completes_gaspReceived_none {s : State} {g : GaspFrame} (hh : s.blk.heardOn g.lane [] = none) :
    Completes (.gaspReceived g) s fun b => s.blk.keepsBut b [Reg.SP_STAT 1] := by
  refine completes_of_next (exec_gaspReceived g s) ?_
  have hidle : s.blk.gasp g = s.blk := by
    unfold Block.gasp
    rw [hh]
  rw [hidle]
  exact Block.keepsBut_gated_of_regs rfl

/-! ### Relayed Cairns that are heard -/

theorem exec_cairnCReceived (c : CairnC) (s : State) : exec (.cairnCReceived c) s = .next { s with blk := (s.blk.cairnC c).gated } := rfl

/-- The node's misses and its mark as an orphan. -/
def Node.misses (n : Node) : Nat × Bool := (n.rcMiss, n.orphan)

theorem Block.modNode_misses (b : Block) (x : Nat) (f : Node → Node) (hf : ∀ n, (f n).misses = n.misses) (y : Nat) :
    ((b.modNode x f).node y).misses = (b.node y).misses := by
  rw [Block.node_modNode]
  split
  · next h =>
    rw [h]
    exact hf (b.node x)
  · rfl

theorem Block.addOmega_misses (b : Block) (x omega : Nat) (o : ObsFrom) (y : Nat) :
    ((b.addOmega x omega o).node y).misses = (b.node y).misses := by
  unfold Block.addOmega
  extract_lets e n far moves1 moves2 kept moves3 restart omegas d est c f
  have hd : d.node y = b.node y := Block.setExt_node _ _ _ _
  clear_value d est c
  have hf : (f.node y).misses = (b.node y).misses := by
    refine (d.modNode_misses x _ (fun m => ?_) y).trans (congrArg Node.misses hd)
    unfold Node.misses
    dsimp only
  clear_value f
  split
  · rw [Block.node_of_trv (Block.post_trv _ _ _ _ _), hf]
  · exact hf

theorem Block.noteHeard_misses (b : Block) (x : Nat) (h : Heard) (y : Nat) : ((b.noteHeard x h).node y).misses = (b.node y).misses := by
  unfold Block.noteHeard
  extract_lets d
  have hd : (d.node y).misses = (b.node y).misses := by
    refine b.modNode_misses x _ (fun m => ?_) y
    unfold Node.misses
    dsimp only
  clear_value d
  rw [Block.addOmega_misses, hd]

/-- The marked nodes carry the mark. -/
theorem Block.orphans_mark (on : Bool) (y : Nat) (l : List Nat) (b : Block) (h : y ∈ l ∨ (b.node y).orphan = on) :
    ((l.foldl (fun b z => b.modNode z fun m => { m with orphan := on }) b).node y).orphan = on := by
  induction l generalizing b with
  | nil => exact h.resolve_left List.not_mem_nil
  | cons z l ih =>
    refine ih _ ?_
    rw [Block.node_modNode]
    split
    · exact Or.inr rfl
    · next hz => exact h.imp (fun h => (List.mem_cons.1 h).resolve_left hz) id

theorem Block.relayHeard_misses (b : Block) (x : Nat) : ((b.relayHeard x).node x).misses = (0, false) := by
  unfold Block.relayHeard
  extract_lets d
  have hmiss : (d.node x).rcMiss = 0 := by
    rw [show d.node x = _ from Block.modNode_node b x _]
    rfl
  clear_value d
  split
  · have hplain := d.orphans_plain false x (x :: d.subtree x)
    have hmark := Block.orphans_mark false x (x :: d.subtree x) d (Or.inl (.head _))
    exact Prod.ext ((congrArg Node.rcMiss hplain).trans hmiss) hmark
  · next ho => exact Prod.ext hmiss (Bool.not_eq_true _ ▸ ho)

theorem Block.byReception.standsBy {b c : Block} (h : b.byReception c) (n : Nat) : c.standsBy n = b.standsBy n := by
  unfold Block.standsBy
  rw [h.chain, Block.on_congr (h.get (f := Reg.LP_CTRL_PAIRED n) (by simp only [Reg.LP_CTRL]; omega))]

/-- One key alone satisfies the predicate, so that key is found. -/
theorem List.find?_of_unique_key {β : Type} {l : List (Nat × β)} {q : Nat × β → Bool} {p : Nat × β} (hp : p ∈ l) (hq : q p = true)
    (hall : ∀ r ∈ l, q r = true → r.1 = p.1) : ∃ r, l.find? q = some r ∧ r.1 = p.1 := by
  cases hf : l.find? q with
  | none => exact absurd hq (List.find?_eq_none.1 hf p hp)
  | some r => exact ⟨r, rfl, hall r (List.mem_of_find?_eq_some hf) (List.find?_some hf)⟩

/-- The Cairn of the only relay whose slot it fits. -/
theorem Block.cairnC_slot {b : Block} {c : CairnC} {h : Heard} {x : Nat} {n : Node} (hh : b.heardOn c.lane [] = some h)
    (ht : h.type = typeCairnC)
    (hslot : b.monitors x (superframeOf h.frame.sample0) = true ∧ b.triadOf x = h.triad ∧ h.sb = (if n.rcBand = 1 then 0 else 3) ∧
      near512 h.frame.sample0 (b.slotStart n (superframeOf h.frame.sample0)) = true)
    (hmem : (x, n) ∈ b.trv.nodes)
    (hall : ∀ p ∈ b.trv.nodes, b.monitors p.1 (superframeOf h.frame.sample0) = true → b.triadOf p.1 = h.triad →
      h.sb = (if p.2.rcBand = 1 then 0 else 3) → near512 h.frame.sample0 (b.slotStart p.2 (superframeOf h.frame.sample0)) = true → p.1 = x)
    (hclose : b.gaspClose h.triad = none) (hs : b.standsBy h.port = false) (h1 : bitsAt h.frame.bits 14 3 = h.triad)
    (h2 : bitsAt h.frame.bits 17 4 = 1) (h3 : bitsAt h.frame.bits 4 10 = superframeOf h.frame.sample0 % 1024) :
    b.cairnC c = ((b.endReception h).relayHeard x).noteHeard x h := by
  have hrec := b.byReception_endReception h
  unfold Block.cairnC
  rw [hh]
  dsimp -zeta only
  extract_lets start sf is d bits
  refine (if_neg (not_not.2 ht)).trans ((if_neg ?_).trans ?_)
  · have hc : d.gaspClose h.triad = none := by
      unfold Block.gaspClose
      rw [show d.brg.gaspClose = _ from hrec.gaspClose]
      exact hclose
    rw [hc, show d.standsBy h.port = _ from hrec.standsBy h.port, hs, show bitsAt bits 14 3 = _ from h1, show bitsAt bits 17 4 = _ from h2,
      show bitsAt bits 4 10 = _ from h3]
    simp only [Option.isSome_none, bne_self_eq_false, Bool.or_self, Bool.false_eq_true, not_false_eq_true, sf, start]
  · have his : ∀ p, is p = true ↔ b.monitors p.1 sf = true ∧ b.triadOf p.1 = h.triad ∧ h.sb = (if p.2.rcBand = 1 then 0 else 3) ∧
        near512 start (b.slotStart p.2 sf) = true := fun p => by
      simp only [is, Bool.and_eq_true, beq_iff_eq, and_assoc]
    obtain ⟨p, hf, hp⟩ := List.find?_of_unique_key (q := is) hmem ((his _).2 hslot) fun p hp hi => by
      obtain ⟨i1, i2, i3, i4⟩ := (his p).1 hi
      exact hall p hp i1 i2 i3 i4
    rw [show d.trv = _ from hrec.trv, hf]
    dsimp only
    rw [hp]

theorem Block.cairnC_none {b : Block} {c : CairnC} (hh : b.heardOn c.lane [] = none) : b.cairnC c = b := by
  unfold Block.cairnC
  rw [hh]

/-! ### Relayed Cairns that are missed -/

theorem exec_relayedCairnMissed (node : NodeIx) (s : State) :
    exec (.relayedCairnMissed node) s = .next { s with blk := (s.blk.cairnMissed node.toNat).gated } := rfl

theorem Block.orphanSuspect_any (b : Block) (x : Nat) : (b.orphanSuspect x).trv.repairs.any (fun q => q.relay == x) = true := by
  rw [Block.orphanSuspect.eq_def]
  extract_lets n below kids b1 b2 trv b3 b4 port
  have h3 : b3.trv.repairs.any (fun q => q.relay == x) = true := by
    simp only [b3, List.any_append, List.any_cons, List.any_nil, beq_self_eq_true, Bool.true_or, Bool.or_true]
  clear_value b3
  have h4 : b3.keepsEntries b4 := b3.keepsEntries_refl.foldl _ _ fun d c => d.keepsEntries_useAlternate c _
  clear_value b4
  have hend : ∀ d : Block, b3.keepsEntries d → d.trv.repairs.any (fun q => q.relay == x) = true := fun d hd => by
    rw [hd.repairs]
    exact h3
  split
  · next h => exact (Bool.and_eq_true_iff.1 h).2
  · split
    · exact hend _ h4
    · exact hend _ (h4.of_trv (Block.offer_trv _ _))

/-- The block with a Cairn of the node missed. -/
def Block.cairnCounted (b : Block) (x : Nat) : Block :=
  let d := b.modNode x fun n => { n with rcMiss := min 3 ((b.node x).rcMiss + 1) }
  if min 3 ((b.node x).rcMiss + 1) = 3 then d.orphanSuspect x else d

theorem Block.cairnMissed_counted {b : Block} {x : Nat} (hm : b.monitors x b.superframe = true)
    (htx : ∀ y ∈ b.mac.txs, ∀ p ∈ y.ports, p / 3 ≠ b.triadOf x)
    (hspan : ∀ y ∈ b.brg.spans, y.received = true ∨ y.port / 3 ≠ b.triadOf x)
    (hs : b.standsBy (b.route x).port = false) (ha : ahead (b.slotStart (b.node x) b.superframe + 512) b.brg.now = false) :
    b.cairnMissed x = b.cairnCounted x := by
  unfold Block.cairnMissed
  extract_lets sf n start band meets sends
  have hsends : sends = false := by
    refine Bool.or_eq_false_iff.2 ⟨List.any_eq_false.2 fun y hy => ?_, List.any_eq_false.2 fun y hy => ?_⟩
    · have hany : y.ports.any (fun p => p / 3 == b.triadOf x) = false :=
        List.any_eq_false.2 fun p hp => by rw [beq_iff_eq]; exact htx y hy p hp
      rw [hany, Bool.false_and]
      exact Bool.false_ne_true
    · rcases hspan y hy with h | h
      · rw [h]
        exact Bool.false_ne_true
      · rw [beq_eq_false_iff_ne.2 h, Bool.and_false, Bool.false_and]
        exact Bool.false_ne_true
  clear_value sends
  refine (if_neg ?_).trans rfl
  rw [hsends, show b.monitors x sf = true from hm, show ahead (start + 512) b.brg.now = false from ha, hs]
  exact Bool.false_ne_true

theorem Block.cairnCounted_shows (b : Block) (x : Nat) :
    ((b.cairnCounted x).node x).rcMiss = min 3 ((b.node x).rcMiss + 1) ∧
      (2 ≤ (b.node x).rcMiss → (b.cairnCounted x).trv.repairs.any (fun q => q.relay == x) = true) := by
  unfold Block.cairnCounted
  extract_lets d
  have hd : (d.node x).rcMiss = min 3 ((b.node x).rcMiss + 1) := by
    rw [show d.node x = _ from Block.modNode_node b x _]
    rfl
  clear_value d
  split
  · exact ⟨(congrArg Node.rcMiss (d.orphanSuspect_plain x x)).trans hd, fun _ => d.orphanSuspect_any x⟩
  · next h => exact ⟨hd, fun h2 => absurd (by omega) h⟩

theorem Block.cairnMissed_idle {b : Block} {x : Nat}
    (h : b.monitors x b.superframe = false ∨ ahead (b.slotStart (b.node x) b.superframe + 512) b.brg.now = true) :
    b.cairnMissed x = b := by
  unfold Block.cairnMissed
  extract_lets sf n start band meets sends
  clear_value sends
  refine if_pos ?_
  rcases h with h | h
  · rw [show b.monitors x sf = false from h]
    rfl
  · rw [show ahead (start + 512) b.brg.now = true from h, Bool.or_true]
    rfl

/-- Settles O44: frames, windows and misses by the block each handler returns. -/
theorem gaspsAndRelayedCairns : Obligations.GaspsAndRelayedCairns := by
  unfold Obligations.GaspsAndRelayedCairns
  intro s g c node hd
  refine ⟨completes_gaspReceived, completes_gaspReceived_none, ?_, ?_, ?_, ?_⟩
  · intro hh ht start sf inSlot hmem hslot hall hclose hs h1 h2 h3
    refine completes_of_next (exec_cairnCReceived c s) ?_
    rw [Block.cairnC_slot hh ht hslot hmem (fun p hp i1 i2 i3 i4 => hall p hp ⟨i1, i2, i3, i4⟩) hclose hs h1 h2 h3, Block.gated_node]
    have hmiss := (((s.blk.endReception hd).relayHeard node.toNat).noteHeard_misses node.toNat hd node.toNat).trans
      ((s.blk.endReception hd).relayHeard_misses node.toNat)
    exact ⟨congrArg Prod.fst hmiss, congrArg Prod.snd hmiss⟩
  · intro hh
    refine completes_of_next (exec_cairnCReceived c s) ?_
    rw [Block.cairnC_none hh]
    exact ⟨Block.gated_trv _, Block.keepsBut_gated_of_regs rfl⟩
  · intro hm htx hspan hs ha
    refine completes_of_next (exec_relayedCairnMissed node s) ?_
    rw [Block.cairnMissed_counted hm htx hspan hs ha, Block.gated_node, Block.gated_trv]
    exact s.blk.cairnCounted_shows node.toNat
  · intro h
    refine completes_of_next (exec_relayedCairnMissed node s) ?_
    rw [Block.cairnMissed_idle h]
    exact ⟨Block.gated_trv _, Block.keepsBut_gated_of_regs rfl⟩

end Sys2Proof.Machine

/-!
Acknowledgements (R259, R262, R312): what ends a transmission's wait takes its frame off the line, and nothing that follows puts one
there.
-/

namespace Sys2Proof.Machine

/-! ### No frame of a number -/

/-- No frame on the line carries the number. -/
def Block.absent (b : Block) (num : Nat) : Prop := ∀ z ∈ b.mac.txs, z.offer.num ≠ num

theorem Block.absent_of_aired {b c : Block} {num : Nat} (h : c.aired = b.aired) (hb : b.absent num) : c.absent num := fun _ hz => by
  have hmem := List.mem_map_of_mem (f := Tx.uncharged) hz
  rw [show c.mac.txs.map Tx.uncharged = _ from h] at hmem
  obtain ⟨y, hy, he⟩ := List.mem_map.1 hmem
  exact (congrArg (fun t : Tx => t.offer.num) he) ▸ hb y hy

theorem Block.absent_dropTx (b : Block) (num : Nat) : (b.dropTx num).absent num := fun _ hz =>
  bne_iff_ne.1 (List.mem_filter.1 hz).2

theorem Block.absent_gated {b : Block} {num : Nat} (h : b.absent num) : b.gated.absent num := by
  cases hd : b.dev == .service with
  | true => rwa [Block.gated_service _ (eq_of_beq hd)]
  | false => exact fun z hz => absurd hz (by rw [(b.gated_lineReleased (ne_of_beq_false hd)).1]; exact List.not_mem_nil)

/-! ### The states of the nodes -/

/-- Every node keeps its state. -/
def Block.keepsStates (b c : Block) : Prop := ∀ y, (c.node y).state = (b.node y).state

theorem Block.keepsStates.trans {b c d : Block} (h : b.keepsStates c) (h' : c.keepsStates d) : b.keepsStates d :=
  fun y => (h' y).trans (h y)

theorem Block.keepsStates.ite {b c d : Block} {p : Prop} [Decidable p] (hc : b.keepsStates c) (hd : b.keepsStates d) :
    b.keepsStates (if p then c else d) := by
  split
  · exact hc
  · exact hd

/-- The parcel's last attempt has failed: it takes the alternate hop, where there is one. -/
def Block.exhaustTo (b : Block) (o : Offer) (p : OutParcel) : Option (Nat × Nat) → Block
  | some h =>
    let n := b.mac.nextNum
    ({ b with mac := { b.mac with
        nextNum := n + 1
        offers := b.mac.offers ++ [{ o with num := n, triad := h.2 / 3, port := some h.2, dst := (b.node h.1).short, parcels := [p]
                                            attempts := 0, lastMode := none, lastBands := 0, alternate := true, start := none
                                            standing := false, waiting := none }] } }).refreshP0
  | none => b.endParcel p stTimeout o.attempts 0

theorem Block.exhaustParcel_eq (b : Block) (o : Offer) (p : OutParcel) : b.exhaustParcel o p =
    (b.inc Reg.TRV_ARQ_FAIL_COUNT).exhaustTo o p ((b.inc Reg.TRV_ARQ_FAIL_COUNT).alternateFor o p) := rfl

section
variable (b : Block)

theorem Block.keepsStates_refl : b.keepsStates b := fun _ => rfl

theorem Block.keepsStates_of_trv {c : Block} (h : c.trv = b.trv) : b.keepsStates c := fun y => by rw [Block.node_of_trv h]

theorem Block.keepsStates_modNode (x : Nat) (f : Node → Node) (hf : ∀ n, (f n).state = n.state) : b.keepsStates (b.modNode x f) :=
  fun y => by
    rw [Block.node_modNode]
    split
    · next h =>
      rw [h]
      exact hf (b.node x)
    · rfl

theorem Block.keepsStates_modExt (x : Nat) (f : NodeExt → NodeExt) : b.keepsStates (b.modExt x f) := fun y => by
  rw [show (b.modExt x f).node y = _ from Block.setExt_node _ _ _ _]

theorem Block.keepsStates_setRoute (x : Nat) (r : Route) : b.keepsStates (b.setRoute x r) := fun y => by
  rw [Block.setRoute_node]

theorem Block.keepsStates.foldl {α : Type} (f : Block → α → Block) (l : List α) (hf : ∀ (c : Block) (x : α), c.keepsStates (f c x)) :
    b.keepsStates (l.foldl f b) := by
  induction l generalizing b with
  | nil => exact b.keepsStates_refl
  | cons x l ih => exact (hf b x).trans (ih _)

theorem Block.keepsStates_refreshMetrics (x : Nat) : b.keepsStates (b.refreshMetrics x) := by
  unfold Block.refreshMetrics
  refine .foldl _ _ _ fun c y => ?_
  dsimp only
  split
  · exact c.keepsStates_refl
  · refine (c.keepsStates_modNode y _ fun n => ?_).trans (Block.keepsStates_setRoute _ _ _)
    dsimp only

theorem Block.keepsStates_refreshLink (x : Nat) : b.keepsStates (b.refreshLink x) := by
  unfold Block.refreshLink
  extract_lets dn up weak link d
  have hd : b.keepsStates d := by
    unfold d
    split
    · exact b.keepsStates_refl
    · refine b.keepsStates_modNode x _ fun n => ?_
      dsimp only
  exact hd.trans (d.keepsStates_refreshMetrics x)

theorem Block.keepsStates_refreshRoutes (x : Nat) : b.keepsStates (b.refreshRoutes x) := by
  unfold Block.refreshRoutes
  refine .foldl _ _ _ fun c y => ?_
  unfold Block.refreshRoute
  dsimp only
  exact c.keepsStates_refl.ite (c.keepsStates_setRoute _ _)

theorem Block.keepsStates_addOmega (x omega : Nat) (o : ObsFrom) : b.keepsStates (b.addOmega x omega o) := by
  unfold Block.addOmega
  extract_lets e n far moves1 moves2 kept moves3 restart omegas d est c f
  have hd : b.keepsStates d := b.keepsStates_modExt _ _
  clear_value d est c
  have hf : b.keepsStates f := hd.trans (d.keepsStates_modNode x _ fun m => by dsimp only)
  clear_value f
  split
  · exact hf.trans (f.keepsStates_of_trv (Block.post_trv _ _ _ _ _))
  · exact hf

theorem Block.keepsStates_noteFrame (x : Nat) (h : Heard) (m : MacHeader) : b.keepsStates (b.noteFrame x h m) := by
  unfold Block.noteFrame Block.noteHeard
  extract_lets d e
  have hd : b.keepsStates d := b.keepsStates_modExt _ _
  clear_value d
  have he : b.keepsStates e :=
    (hd.trans (d.keepsStates_modNode x _ fun m => by dsimp only)).trans (Block.keepsStates_modNode _ x _ fun m => by dsimp only)
  clear_value e
  exact he.trans (e.keepsStates_addOmega _ _ _)

/-! ### What an acknowledgement does to the tables -/

theorem Block.byTable_noteFrame (x : Nat) (h : Heard) (m : MacHeader) : b.byTable (b.noteFrame x h m) := by
  unfold Block.noteFrame
  extract_lets d
  have hd : b.byTable d := b.byTable_modExt _ _
  clear_value d
  exact (hd.trans (d.byTable_modNode _ _)).trans (Block.byTable_noteHeard _ _ _)

theorem Block.byTable_noteHit (y attempts : Nat) (ok : Bool) : b.byTable (b.noteHit y attempts ok) := by
  unfold Block.noteHit
  exact b.byTable_refl.ite ((b.byTable_modExt _ _).trans (Block.byTable_refreshLink _ _))

theorem Block.byTable_retry (o : Offer) (l : List OutParcel) : b.byTable (b.retry o l) := by
  unfold Block.retry
  exact (b.byTable_withOffers _).trans (Block.byTable_refreshP0 _)

theorem Block.byTable_endParcel (p : OutParcel) (status attempts bearing : Nat) : b.byTable (b.endParcel p status attempts bearing) := by
  unfold Block.endParcel
  split
  · exact b.byTable_refl
  · dsimp only
    split
    · exact b.byTable_completeSend _ _ _
    · exact b.byTable_complete _ _ _ _

theorem Block.byTable_withNumbered (num : Nat) (l : List Offer) :
    b.byTable { b with mac := { b.mac with nextNum := num, offers := l } } := b.byTable_of_eq rfl rfl rfl rfl

theorem Block.byTable_exhaustTo (o : Offer) (p : OutParcel) (hop : Option (Nat × Nat)) : b.byTable (b.exhaustTo o p hop) := by
  cases hop with
  | none => exact b.byTable_endParcel _ _ _ _
  | some h => exact (b.byTable_withNumbered _ _).trans (Block.byTable_refreshP0 _)

theorem Block.byTable_exhaustParcel (o : Offer) (p : OutParcel) : b.byTable (b.exhaustParcel o p) := by
  rw [Block.exhaustParcel_eq]
  exact (b.byTable_inc _ (besideMac_of_le (by decide))).trans (Block.byTable_exhaustTo _ _ _ _)

theorem Block.byTable_noteExhausted (y k port : Nat) : b.byTable (b.noteExhausted y k port) := by
  unfold Block.noteExhausted
  extract_lets n fails d e f
  have hd : b.byTable d := b.byTable_modNode _ _
  clear_value d
  have he : d.byTable e := (d.byTable_modNode _ _).trans (Block.byTable_refreshMetrics _ _)
  clear_value e
  have hf : b.byTable f := (hd.trans he).trans (e.byTable_post _ _ _ _)
  clear_value f
  exact ((hf.trans (f.byTable_orphanSuspect _)).ite hf).ite hd

theorem Block.byTable_nextRdv (x : Nat) (wakes : Option Nat) : b.byTable (b.nextRdv x wakes) := by
  unfold Block.nextRdv
  split
  · exact b.byTable_refl
  · exact (b.byTable_modExt _ _).trans (Block.byTable_modNode _ _ _)

theorem Block.byTable_rdvKept (x : Nat) (start : Bearing) : b.byTable (b.rdvKept x start) := by
  unfold Block.rdvKept
  extract_lets d
  have hd : b.byTable d := b.byTable_modNode _ _
  clear_value d
  split
  · exact hd
  · exact hd.ite (hd.trans (d.byTable_nextRdv _ _))

theorem Block.byTable_refreshRoutes (x : Nat) : b.byTable (b.refreshRoutes x) := by
  unfold Block.refreshRoutes
  refine .foldl _ _ _ fun c y => ?_
  unfold Block.refreshRoute
  dsimp only
  exact c.byTable_refl.ite (c.byTable_setRoute _ _)

theorem Block.byTable_offerRdv (x : Nat) : b.byTable (b.offerRdv x) := by
  unfold Block.offerRdv Block.draw
  dsimp only
  refine b.byTable_refl.ite (Block.byTable.trans ?_ (Block.byTable_controlTo _ _ _ _))
  exact b.byTable_of_eq rfl rfl rfl rfl

/-- A node whose association is acknowledged is associated; no frame goes on the line. -/
theorem Block.joined_shows (x : Nat) : b.byTable (b.joined x) ∧ ((b.node x).state = 1 → ((b.joined x).node x).state = 2) := by
  unfold Block.joined
  extract_lets n d e f
  have hd : b.byTable d := b.byTable_modExt _ _
  clear_value d
  have he : b.byTable e ∧ (e.node x).state = 2 := ⟨hd.trans (d.byTable_modNode _ _), by
    rw [show e.node x = _ from Block.modNode_node d x _]
    rfl⟩
  clear_value e
  have hf : b.byTable f ∧ (f.node x).state = 2 :=
    ⟨(he.1.trans (e.byTable_refreshLink x)).trans (Block.byTable_refreshRoutes _ x),
      (((e.keepsStates_refreshLink x).trans (Block.keepsStates_refreshRoutes _ x)) x).trans he.2⟩
  clear_value f
  have hdraw : ∀ c : Block, c.keepsStates (c.offerRdv x) := fun c => c.keepsStates_of_trv (by
    unfold Block.offerRdv
    dsimp only
    split
    · rfl
    · exact Block.controlTo_trv _ _ _ _)
  split
  · next h => exact ⟨b.byTable_refl, fun h1 => absurd h1 h⟩
  · exact ⟨(hf.1.trans (f.byTable_post _ _ _ _)).trans (Block.byTable_offerRdv _ x),
      fun _ => ((hdraw _ x).trans (f.keepsStates_of_trv (Block.post_trv _ _ _ _ _) x)).trans hf.2⟩

theorem Block.byTable_rdvAcked (y : Nat) (body : List Byte) : b.byTable (b.rdvAcked y body) := by
  unfold Block.rdvAcked
  exact (b.byTable_modExt _ _).trans (Block.byTable_modNode _ _ _)

theorem Block.byTable_setDown (short : Nat) (l : List (Nat × Nat)) : b.byTable (b.setDown short l) := b.byTable_of_eq rfl rfl rfl rfl

theorem Block.byTable_downAcked (num : Nat) : b.byTable (b.downAcked num) := b.byTable_of_eq rfl rfl rfl rfl

theorem Block.byTable_setLink (up : Bool) (x : Nat) (l : LinkMap) : b.byTable (b.setLink up x l) := by
  unfold Block.setLink
  split <;> exact b.byTable_of_eq rfl rfl rfl rfl

theorem Block.byTable_mapAcked (y : Nat) (body : List Byte) : b.byTable (b.mapAcked y body) := by
  unfold Block.mapAcked
  exact (b.byTable_modExt _ _).trans (Block.byTable_setLink _ _ _ _)

theorem Block.byTable_routeAcked (y num : Nat) (body : List Byte) : b.byTable (b.routeAcked y num body) := by
  unfold Block.routeAcked
  dsimp only
  split
  · exact (b.byTable_setDown _ _).trans (Block.byTable_downAcked _ _)
  · exact (b.byTable_setDown _ _).trans (Block.byTable_downAcked _ _)
  · have h := b.byTable_modExt y fun e => { e with rcPending := none }
    exact (h.trans ((Block.byTable_modNode _ _ _).trans (Block.byTable_setDown _ _ _))).ite (h.trans (Block.byTable_modNode _ _ _))
  · split
    · exact (b.joined_shows _).1
    · exact b.byTable_refl
  · exact b.byTable_refl

theorem Block.byTable_parcelsAcked (x : Tx) (y pmask : Nat) (sync : Bearing) : b.byTable (b.parcelsAcked x y pmask sync) := by
  unfold Block.parcelsAcked
  extract_lets o marked passed left d e f
  have hd : b.byTable d := b.byTable_noteHit _ _ _
  clear_value d
  have he : b.byTable e := (hd.trans (d.byTable_modNode _ _)).ite hd
  clear_value e
  have hf : b.byTable f := he.trans (.foldl _ _ _ fun c p => c.byTable_endParcel _ _ _ _)
  clear_value f
  refine hf.ite (Block.byTable.ite (hf.trans (f.byTable_retry _ _)) (hf.trans ?_))
  exact (Block.byTable.foldl _ _ _ fun c p => c.byTable_exhaustParcel _ _).trans (Block.byTable_noteExhausted _ _ _ _)

theorem Block.byTable_frameAcked (x : Tx) (y pmask : Nat) (sync : Bearing) : b.byTable (b.frameAcked x y pmask sync) := by
  unfold Block.frameAcked
  extract_lets o d
  have hd : b.byTable d := b.byTable_noteHit _ _ _
  clear_value d
  exact (b.byTable_parcelsAcked _ _ _ _).ite ((hd.trans (d.byTable_mapAcked _ _)).ite ((hd.trans (d.byTable_modExt _ _)).ite
    ((hd.trans (d.byTable_rdvAcked _ _)).ite ((hd.trans (d.byTable_routeAcked _ _ _)).ite hd))))

theorem Block.aired_observeCoef (cls place : Nat) (o : CoefVal) (x : ObsFrom) (port node : Nat) :
    (b.observeCoef cls place o x port node).aired = b.aired :=
  Block.aired_of_lines b (b.keepsEnds_observeCoef cls place o x port node).lines

theorem Block.aired_observeStep (n c d : Nat) (deep : Bool) (o : CoefVal) (x : ObsFrom) :
    (b.observeStep n c d deep o x).aired = b.aired := by
  unfold Block.observeStep
  extract_lets ks r up err
  split
  · rfl
  · exact foldl_part Block.aired _ (fun e k => e.aired_observeCoef _ _ _ _ _ _) _ _

theorem Block.aired_observeSnr (up : Bool) (node limit : Nat) (snr : List Nat) (x : ObsFrom) :
    (b.observeSnr up node limit snr x).aired = b.aired := by
  unfold Block.observeSnr
  split
  · rfl
  · exact (b.byTable_setLink _ _ _).aired

theorem Block.aired_setFingerprint (node : Nat) (f : Fingerprint) : (b.setFingerprint node f).aired = b.aired := rfl

theorem Block.aired_rebasePrint (node cause : Nat) (m : List (Option Nat) × Nat) (port : Nat) :
    (b.rebasePrint node cause m port).aired = b.aired := by
  unfold Block.rebasePrint
  extract_lets f d
  have hd : d.aired = b.aired := b.aired_setFingerprint _ _
  clear_value d
  exact (Block.aired_of_lines _ (Block.lines_post _ _ _ _ _)).trans ((Block.aired_of_lines _ (Block.lines_inc _ _)).trans hd)

theorem Block.aired_withShifts (l : List (Nat × Nat × Nat)) : ({ b with sound := { b.sound with shifts := l } } : Block).aired = b.aired :=
  rfl

theorem Block.aired_printShift (node port short k : Nat) (m : List (Option Nat) × Nat) :
    (b.printShift node port short k m).aired = b.aired := by
  unfold Block.printShift
  extract_lets live shifts snd d here d1 d2 snd' f
  have hd : d.aired = b.aired := b.aired_withShifts _
  clear_value d
  have h1 : d1.aired = d.aired := Block.aired_of_lines _ (Block.lines_post _ _ _ _ _)
  clear_value d1
  have h2 : d2.aired = d1.aired := foldl_part Block.aired _ (fun e x => e.aired_rebasePrint _ _ _ _) _ _
  clear_value d2
  split
  · exact (d2.aired_withShifts _).trans (h2.trans (h1.trans hd))
  · exact (Block.aired_of_lines _ (Block.lines_post _ _ _ _ _)).trans ((Block.aired_of_lines _ (Block.lines_inc _ _)).trans
      ((d.aired_setFingerprint _ _).trans hd))

theorem Block.aired_observePrint (node port short : Nat) (att : List (Option Nat)) (tau : Nat) (x : ObsFrom) :
    (b.observePrint node port short att tau x).aired = b.aired := by
  unfold Block.observePrint
  extract_lets f g got m k live beyond d
  have hd : d.aired = b.aired := b.aired_setFingerprint _ _
  clear_value d
  have hconf : (d.printConfirmed node port short (k.1 / k.2)).aired = d.aired := by
    unfold Block.printConfirmed
    extract_lets f m
    split
    · exact d.aired_rebasePrint _ _ _ _
    · exact d.aired_printShift _ _ _ _ _
  split
  · rfl
  · split
    · split <;> exact b.aired_setFingerprint _ _
    · split
      · exact b.aired_setFingerprint _ _
      · split
        · exact hconf.trans hd
        · exact hd

theorem Block.aired_observeFrame (node port short limit bands : Nat) (xband deep : Bool) (sync : Bearing) (o : Observed) :
    (b.observeFrame node port short limit bands xband deep sync o).aired = b.aired := by
  unfold Block.observeFrame
  extract_lets groups carriers d x e f snr g att
  have hd : d.aired = b.aired := rfl
  clear_value d
  have he : e.aired = d.aired := by
    unfold e
    split
    · rfl
    · exact foldl_part Block.aired _ (fun c s => c.aired_observeStep _ _ _ _ _ _) _ _
  clear_value e
  have hf : f.aired = e.aired := foldl_part Block.aired _ (fun c s => c.aired_observeCoef _ _ _ _ _ _) _ _
  clear_value f
  have hg : g.aired = f.aired := f.aired_observeSnr _ _ _ _ _
  clear_value g
  split
  · rfl
  · exact (g.aired_observePrint _ _ _ _ _ _).trans (hg.trans (hf.trans (he.trans hd)))

theorem Block.aired_soundFrame (x : Nat) (h : Heard) (r : RxFrame) : (b.soundFrame x h r).aired = b.aired := by
  unfold Block.soundFrame
  extract_lets old d
  have hd : d.aired = b.aired := b.aired_observeFrame _ _ _ _ _ _ _ _ _
  clear_value d
  split
  · rfl
  · split
    · exact (Block.aired_of_lines _ (Block.lines_replicate _ _ _ _ _)).trans hd
    · exact hd

end

/-! ### The acknowledgement -/

theorem exec_ackReceived (r : RxFrame) (s : State) : exec (.ackReceived r) s = .next { s with blk := (s.blk.ackFrame r).gated } := rfl

theorem exec_ackMissing (num : Nat) (s : State) : exec (.ackMissing num) s = .next { s with blk := (s.blk.ackMissing num).gated } := rfl

/-- A frame that is received has ended, and nothing else has happened. -/
theorem Block.receive_some {b : Block} {type : Nat} {r : RxFrame} {h : Heard} {m : MacHeader}
    (hr : (b.receive type r).2 = some (h, m)) : b.receive type r = (b.endReception h, some (h, m)) := by
  unfold Block.receive at hr ⊢
  generalize b.heardOn r.lane r.info = o at hr ⊢
  cases o with
  | none => cases hr
  | some h' =>
    dsimp only at hr ⊢
    split_ifs at hr ⊢
    cases hr
    rfl

theorem Block.byReception.home {b c : Block} (h : b.byReception c) : c.home = b.home := by
  unfold Block.home
  rw [Block.on_congr (h.get (by decide))]

theorem Block.byReception.indexOf {b c : Block} (h : b.byReception c) (short : Nat) : c.indexOf short = b.indexOf short := by
  unfold Block.indexOf
  have hsa : c.saBase = b.saBase := congrArg (· * 0x20000) (h.get (f := Reg.TRV_PART_SA_BASE) (by decide))
  rw [Block.node_of_trv h.trv, hsa]

/-- An ACK for the device, from a node it knows, and the transmission it answers. -/
structure Block.acked (b : Block) (r : RxFrame) (h : Heard) (m : MacHeader) (y : Nat) (x : Tx) : Prop where
  heard : (b.receive typeAck r).2 = some (h, m)
  source : b.indexOf m.src = some y
  fcs : fcsOk h.mac 4 = true
  stands : b.standsBy h.port = false
  home : b.home = true
  tx : b.mac.txs.find? (fun x => x.answeredBy h.triad m.src (byteAt h.mac 14) h.frame.last) = some x

/-- The acknowledged node is noted, and its channel observed. -/
def Block.ackNoted (b : Block) (y : Nat) (h : Heard) (m : MacHeader) (r : RxFrame) : Block :=
  ((b.noteFrame y h m).modNode y fun n => { n with nverAck := byteAt h.mac 17 }).soundFrame y h r

theorem Block.aired_ackNoted (b : Block) (y : Nat) (h : Heard) (m : MacHeader) (r : RxFrame) : (b.ackNoted y h m r).aired = b.aired := by
  unfold Block.ackNoted
  exact (Block.aired_soundFrame _ _ _ _).trans ((b.byTable_noteFrame y h m).trans (Block.byTable_modNode _ y _)).aired

/-- What is done for the transmission that the ACK answers, if any. -/
def Block.ackFor (b : Block) (r : RxFrame) (h : Heard) (m : MacHeader) (y : Nat) : Option Tx → Block
  | none => if (b.node y).state == 2 then b.ackNoted y h m r else b
  | some x =>
    if x.offer.type = typeAssocResp then
      (((b.dropTx x.offer.num).joined y).noteFrame y h m).modNode y fun n => { n with nverAck := byteAt h.mac 17 }
    else if !((b.node y).state == 2) then b
    else
      let d := (b.dropTx x.offer.num).rdvKept y x.start
      (if (b.node y).state == 2 then d.ackNoted y h m r else d).frameAcked x y (leAt h.mac 15 2) h.reception.bearing

/-- What is done for the node that sent the ACK, if the device knows it. -/
def Block.ackFrom (b : Block) (r : RxFrame) (h : Heard) (m : MacHeader) : Option Nat → Block
  | none => b
  | some y =>
    if !fcsOk h.mac 4 || b.standsBy h.port || !b.home then b
    else b.ackFor r h m y (b.mac.txs.find? fun x => x.answeredBy h.triad m.src (byteAt h.mac 14) h.frame.last)

/-- What an ACK does, once the frame has been received. -/
def Block.ackOf (r : RxFrame) : Block × Option (Heard × MacHeader) → Block
  | (b, none) => b
  | (b, some (h, m)) => b.ackFrom r h m (b.indexOf m.src)

theorem Block.ackFrame_eq (b : Block) (r : RxFrame) : b.ackFrame r = Block.ackOf r (b.receive typeAck r) := rfl

theorem Block.ackFrame_acked {b : Block} {r : RxFrame} {h : Heard} {m : MacHeader} {y : Nat} {x : Tx} (ha : b.acked r h m y x) :
    b.ackFrame r = (b.endReception h).ackFor r h m y (some x) := by
  have hrec := b.byReception_endReception h
  rw [Block.ackFrame_eq, Block.receive_some ha.heard]
  generalize b.endReception h = d at hrec ⊢
  have hi : d.indexOf m.src = some y := (hrec.indexOf _).trans ha.source
  have hf := ha.tx
  rw [← hrec.mac] at hf
  refine (congrArg (d.ackFrom r h m) hi).trans ?_
  unfold Block.ackFrom
  rw [hf]
  refine if_neg ?_
  rw [ha.fcs, hrec.standsBy, ha.stands, hrec.home, ha.home]
  exact Bool.false_ne_true

theorem Block.ackFor_known {b : Block} {r : RxFrame} {h : Heard} {m : MacHeader} {y : Nat} {x : Tx}
    (hs : (b.node y).state = 2) (ht : x.offer.type ≠ typeAssocResp) :
    b.ackFor r h m y (some x) = (((b.dropTx x.offer.num).rdvKept y x.start).ackNoted y h m r).frameAcked x y (leAt h.mac 15 2)
      h.reception.bearing := by
  have hk : ((b.node y).state == 2) = true := by rw [hs]; rfl
  unfold Block.ackFor
  dsimp only
  rw [if_neg ht, hk, if_pos rfl]
  rfl

theorem Block.ackFor_resp {b : Block} {r : RxFrame} {h : Heard} {m : MacHeader} {y : Nat} {x : Tx}
    (ht : x.offer.type = typeAssocResp) :
    b.ackFor r h m y (some x) = (((b.dropTx x.offer.num).joined y).noteFrame y h m).modNode y fun n =>
      { n with nverAck := byteAt h.mac 17 } := if_pos ht

theorem completes_ackReceived {s : State} {r : RxFrame} {h : Heard} {m : MacHeader} {y : Nat} {x : Tx} (ha : s.blk.acked r h m y x) :
    ((s.blk.node y).state = 2 → x.offer.type ≠ typeAssocResp → Completes (.ackReceived r) s fun b => b.absent x.offer.num) ∧
    ((s.blk.node y).state = 1 → x.offer.type = typeAssocResp → Completes (.ackReceived r) s fun b =>
      (b.node y).state = 2 ∧ b.absent x.offer.num) := by
  have hnode : (s.blk.endReception h).node y = s.blk.node y := Block.node_of_trv (s.blk.byReception_endReception h).trv y
  have hframe := Block.ackFrame_acked ha
  generalize s.blk.endReception h = c at hnode hframe
  have habs := c.absent_dropTx x.offer.num
  have hdrop : c.keepsStates (c.dropTx x.offer.num) := c.keepsStates_of_trv rfl
  refine ⟨fun hs ht => completes_of_next (exec_ackReceived r s) (Block.absent_gated ?_),
    fun hs ht => completes_of_next (exec_ackReceived r s) ?_⟩
  · rw [hframe, Block.ackFor_known (hnode ▸ hs) ht]
    generalize c.dropTx x.offer.num = d at habs
    refine Block.absent_of_aired ?_ habs
    exact (Block.byTable_frameAcked _ _ _ _ _).aired.trans ((Block.aired_ackNoted _ y h m r).trans (d.byTable_rdvKept y x.start).aired)
  · rw [hframe, Block.ackFor_resp ht, Block.gated_node]
    have hs' := (hdrop y).trans ((congrArg Node.state hnode).trans hs)
    generalize c.dropTx x.offer.num = d at habs hs'
    obtain ⟨hj, hstate⟩ := d.joined_shows y
    have hstate' := hstate hs'
    generalize d.joined y = e at hj hstate' ⊢
    exact ⟨(((e.keepsStates_noteFrame y h m).trans (Block.keepsStates_modNode _ y _ fun n => by dsimp only)) y).trans hstate',
      Block.absent_gated (Block.absent_of_aired
        (hj.trans ((e.byTable_noteFrame y h m).trans (Block.byTable_modNode _ y _))).aired habs)⟩

theorem Block.ackFrame_none {b : Block} {r : RxFrame} (hh : b.heardOn r.lane r.info = none) : b.ackFrame r = b := by
  have hr : b.receive typeAck r = (b, none) := by
    unfold Block.receive
    rw [hh]
  unfold Block.ackFrame
  rw [hr]

/-! ### A missing acknowledgement -/

theorem Block.lines_refreshMetrics (b : Block) (x : Nat) : (b.refreshMetrics x).lines = b.lines := by
  unfold Block.refreshMetrics
  refine foldl_part Block.lines _ (fun c y => ?_) _ _
  dsimp only
  exact Block.lines_ite rfl ((Block.lines_setRoute _ _ _).trans (c.lines_modNode _ _))

theorem Block.lines_noteHit (b : Block) (y attempts : Nat) (ok : Bool) : (b.noteHit y attempts ok).lines = b.lines := by
  unfold Block.noteHit Block.refreshLink
  dsimp only
  refine Block.lines_ite rfl ((Block.lines_refreshMetrics _ _).trans ?_)
  have h := b.lines_modExt y fun e => { e with hits := (ok :: e.hits).take 16 }
  exact Block.lines_ite h ((Block.lines_modNode _ _ _).trans h)

/-- The node that the transmission was for has missed one. -/
def Block.ackMissed (b : Block) (o : Offer) : Block :=
  (b.indexOf o.dst).elim b fun y => b.noteHit y o.attempts false

theorem Block.lines_ackMissed (b : Block) (o : Offer) : (b.ackMissed o).lines = b.lines := by
  unfold Block.ackMissed
  cases b.indexOf o.dst with
  | none => rfl
  | some y => exact b.lines_noteHit _ _ _

theorem Block.ackMissing_due {b : Block} {num : Nat} {x : Tx} (hx : b.tx num = some x) (hs : x.stage = .awaitingAck)
    (ha : ahead x.ackEnd b.brg.now = false) :
    (x.offer.type = typeWake → b.ackMissing num = (b.dropTx num).ackMissed x.offer) ∧
    (x.offer.type ≠ typeWake → (x.offer.type = typeData → x.offer.parcels ≠ []) → x.offer.attempts < attemptsOf x.offer.type →
      b.ackMissing num = ((b.dropTx num).ackMissed x.offer).retry x.offer x.offer.parcels) := by
  unfold Block.ackMissing
  rw [hx]
  dsimp only
  rw [if_neg (by simp [hs, ha])]
  unfold Block.ackMissed
  generalize (b.dropTx num).indexOf x.offer.dst = hop
  have hretry : x.offer.type ≠ typeWake → (x.offer.type = typeData → x.offer.parcels ≠ []) →
      ¬ (x.offer.type = typeWake ∨ x.offer.type = typeData ∧ x.offer.parcels.isEmpty = true) := by
    rintro ht hp (h | ⟨h1, h2⟩)
    · exact ht h
    · exact hp h1 (List.isEmpty_iff.1 h2)
  cases hop with
  | none => exact ⟨fun ht => if_pos (Or.inl ht), fun ht hp hat => (if_neg (hretry ht hp)).trans (if_pos hat)⟩
  | some y => exact ⟨fun ht => if_pos (Or.inl ht), fun ht hp hat => (if_neg (hretry ht hp)).trans (if_pos hat)⟩

theorem Block.ackMissing_idle {b : Block} {num : Nat} {x : Tx}
    (h : b.tx num = none ∨ (b.tx num = some x ∧ (x.stage ≠ .awaitingAck ∨ ahead x.ackEnd b.brg.now = true))) : b.ackMissing num = b := by
  unfold Block.ackMissing
  rcases h with h | ⟨h, h'⟩
  · rw [h]
  · rw [h]
    exact if_pos h'

theorem Block.absent_ackMissed (b : Block) (num : Nat) (o : Offer) : ((b.dropTx num).ackMissed o).absent num :=
  Block.absent_of_aired (Block.aired_of_lines _ (Block.lines_ackMissed _ o)) (b.absent_dropTx num)

theorem Block.retry_offers (b : Block) (o : Offer) (l : List OutParcel) :
    (b.retry o l).mac.offers = b.mac.offers ++ [{ o with parcels := l, start := none, standing := false, waiting := none }] := by
  unfold Block.retry
  rw [Block.offers_of_lines _ (Block.lines_refreshP0 _)]

theorem completes_ackMissing {s : State} {num : Nat} {x : Tx} (hx : s.blk.tx num = some x) (hs : x.stage = .awaitingAck)
    (ha : ahead x.ackEnd s.blk.brg.now = false) :
    (x.offer.type = typeWake → Completes (.ackMissing num) s fun b => b.absent num ∧ b.mac.offers = s.blk.mac.offers) ∧
    (x.offer.type ≠ typeWake → (x.offer.type = typeData → x.offer.parcels ≠ []) → x.offer.attempts < attemptsOf x.offer.type →
      Completes (.ackMissing num) s fun b => b.absent num ∧
        ∃ o ∈ b.mac.offers, o.num = num ∧ o.attempts = x.offer.attempts ∧ o.parcels = x.offer.parcels ∧ o.start = none) := by
  obtain ⟨hwake, hretry⟩ := Block.ackMissing_due hx hs ha
  have habs := s.blk.absent_ackMissed num x.offer
  refine ⟨fun ht => completes_of_next (exec_ackMissing num s) ?_, fun ht hp hat => completes_of_next (exec_ackMissing num s) ?_⟩
  · rw [hwake ht, Block.gated_offers]
    exact ⟨Block.absent_gated habs, Block.offers_of_lines (s.blk.dropTx num) (Block.lines_ackMissed _ x.offer)⟩
  · rw [hretry ht hp hat, Block.gated_offers, Block.retry_offers]
    refine ⟨Block.absent_gated (Block.absent_of_aired (Block.byTable_retry _ _ _).aired habs), _,
      List.mem_append_right _ (List.mem_singleton.2 rfl), Block.num_of_tx hx, rfl, rfl, rfl⟩

/-- Settles O41: the answered frame leaves the line, and what follows puts none of its number there. -/
theorem ackEndsTheWait : Obligations.AckEndsTheWait := by
  unfold Obligations.AckEndsTheWait
  intro s r hd m y num x
  refine ⟨fun h1 h2 h3 h4 h5 h6 => completes_ackReceived ⟨h1, h2, h3, h4, h5, h6⟩, fun hh => ?_,
    fun hx hs ha => (completes_ackMissing hx hs ha).2, fun hx hs ha => (completes_ackMissing hx hs ha).1, fun h => ?_⟩
  · refine completes_of_next (exec_ackReceived r s) ?_
    rw [Block.ackFrame_none hh]
    exact ⟨Block.gated_trv _, Block.keepsBut_gated_of_regs rfl⟩
  · refine completes_of_next (exec_ackMissing num s) ?_
    rw [Block.ackMissing_idle h]
    exact Block.keepsBut_gated_of_regs rfl

end Sys2Proof.Machine

/-!
The calendar of the superframe (R237, R239, R240, R249, R252, R279).
-/

namespace Sys2Proof.Machine

/-! ### The triads and the image -/

/-- What the MAC keeps of each triad, and the image. -/
def Block.calendar (b : Block) : Store MacTriad × ImgSt := (b.mac.triads, b.img)

theorem Block.frame_img (b : Block) : b.frame.img = b.img := rfl

theorem Block.calendar_of_frame {b c : Block} (h : c.frame = b.frame) : c.calendar = b.calendar := by
  unfold Block.calendar
  rw [Block.mac_of_frame h, ← c.frame_img, h, b.frame_img]

theorem Block.calendar_of_core {b c : Block} (h : c.core = b.core) : c.calendar = b.calendar :=
  Block.calendar_of_frame (Block.frame_of_core h)

theorem Block.macTriad_of_calendar {b c : Block} (h : c.calendar = b.calendar) (t : Nat) : c.macTriad t = b.macTriad t :=
  congrArg (fun p => Store.get (fun _ => MacTriad.reset) (Prod.fst p) t) h

theorem Block.img_of_calendar {b c : Block} (h : c.calendar = b.calendar) : c.img = b.img := congrArg Prod.snd h

theorem Block.calendar_ite {p : Prop} [Decidable p] {c d e : Block} (hc : c.calendar = e.calendar) (hd : d.calendar = e.calendar) :
    (if p then c else d).calendar = e.calendar := by
  split
  · exact hc
  · exact hd

theorem Block.triadBound_of_img {b c : Block} (h : c.img = b.img) (t : Nat) : c.triadBound t = b.triadBound t := by
  unfold Block.triadBound Block.portBound Block.structBinding Block.setting
  rw [h]

section
variable (b : Block)

theorem Block.calendar_modNode (x : Nat) (f : Node → Node) : (b.modNode x f).calendar = b.calendar := by
  have hf := b.frame_setNode x (f (b.node x))
  have hi : (b.setNode x (f (b.node x))).img = b.img := by rw [← Block.frame_img, hf]; exact b.frame_img
  unfold Block.calendar Block.modNode
  rw [Block.setNode_mac, hi]

theorem Block.calendar_modExt (x : Nat) (f : NodeExt → NodeExt) : (b.modExt x f).calendar = b.calendar := by
  have hf := b.frame_setExt x (f (b.ext x))
  have hi : (b.setExt x (f (b.ext x))).img = b.img := by rw [← Block.frame_img, hf]; exact b.frame_img
  unfold Block.calendar Block.modExt
  rw [Block.setExt_mac, hi]

theorem Block.calendar_setRoute (x : Nat) (r : Route) : (b.setRoute x r).calendar = b.calendar := by
  have hi : (b.setRoute x r).img = b.img := by rw [← Block.frame_img, b.frame_setRoute x r]; exact b.frame_img
  unfold Block.calendar
  rw [Block.setRoute_mac, hi]

theorem Block.calendar_refreshLink (x : Nat) : (b.refreshLink x).calendar = b.calendar := by
  unfold Block.refreshLink Block.refreshMetrics
  extract_lets dn up weak link d
  have hd : d.calendar = b.calendar := Block.calendar_ite rfl (b.calendar_modNode _ _)
  clear_value d
  refine (foldl_part Block.calendar _ (fun c y => ?_) _ d).trans hd
  dsimp only
  exact Block.calendar_ite rfl ((Block.calendar_setRoute _ _ _).trans (c.calendar_modNode _ _))

theorem Block.calendar_offer (o : Offer) : (b.offer o).calendar = b.calendar := by
  unfold Block.offer Block.refreshP0
  exact (Block.calendar_of_core (Block.core_set _ _ _)).trans rfl

theorem Block.calendar_setLink (up : Bool) (x : Nat) (l : LinkMap) : (b.setLink up x l).calendar = b.calendar := by
  unfold Block.setLink
  split <;> rfl

theorem Block.calendar_setCoef (key : Nat) (c : Coef) : (b.setCoef key c).calendar = b.calendar := rfl

theorem Block.calendar_promote (cls place : Nat) : (b.promote cls place).calendar = b.calendar := by
  unfold Block.promote
  extract_lets key c d
  have hd : d.calendar = b.calendar := by
    unfold d
    split
    · exact Block.calendar_ite (b.calendar_setCoef _ _) rfl
    · rfl
  clear_value d
  exact (Block.calendar_of_core (Block.core_showCoef _ _ _)).trans hd

/-! ### The schedule section -/

theorem Block.calendar_setFreeze (on : Bool) : (b.setFreeze on).calendar = b.calendar := by
  have hset : ∀ (c : Block) (v : Nat), (c.set Reg.SND_CTRL_FREEZE v).calendar = c.calendar := fun c v =>
    Block.calendar_of_core (c.core_set _ _)
  unfold Block.setFreeze
  refine Block.calendar_ite rfl (Block.calendar_ite ((hset _ _).trans rfl) ?_)
  unfold Block.unfreeze
  exact (foldl_part Block.calendar _ (fun c p => (Block.calendar_promote _ _ _).trans (c.calendar_setCoef _ _)) _ _).trans (hset _ _)

theorem Block.calendar_swapSection (secs : Sections) (id : Nat) : (b.swapSection secs id).calendar = b.calendar :=
  foldl_part Block.calendar _ (fun c _ => Block.calendar_of_core (c.core_wr _ _)) _ _

/-- A pending schedule section has been taken; what the MAC keeps of the triads stays. -/
theorem Block.applySched_shows : b.applySched.img.schedPending = [] ∧ b.applySched.mac.triads = b.mac.triads := by
  unfold Block.applySched
  extract_lets old i c new
  have hc : c.calendar = (b.mac.triads, { b.img with schedPending := [] }) := Block.calendar_swapSection _ _ _
  clear_value c
  split
  · next h => exact ⟨h, rfl⟩
  · have hd : ((c.set Reg.SND_CTRL_FREEZE old).setFreeze new).calendar = (b.mac.triads, { b.img with schedPending := [] }) :=
      (Block.calendar_setFreeze _ _).trans ((Block.calendar_of_core (c.core_set _ _)).trans hc)
    exact ⟨congrArg (fun p => p.2.schedPending) hd, congrArg Prod.fst hd⟩

/-! ### What is due of a node -/

theorem Block.calendar_sendMap (x : Nat) (up : Bool) : (b.sendMap x up).calendar = b.calendar := by
  unfold Block.sendMap
  extract_lets l
  split
  · rfl
  · next d _ _ _ _ _ =>
    extract_lets bytes m f
    have hd : d.calendar = b.calendar := b.calendar_setLink _ _ _
    clear_value d
    have hf : f.calendar = b.calendar := (d.calendar_modExt _ _).trans hd
    clear_value f
    exact Block.calendar_ite rfl ((f.calendar_offer _).trans hf)

theorem Block.byTable_sendMap (x : Nat) (up : Bool) : b.byTable (b.sendMap x up) := by
  unfold Block.sendMap
  extract_lets l
  split
  · exact b.byTable_refl
  · next d _ _ _ _ _ =>
    extract_lets bytes m f
    have hd : b.byTable d := b.byTable_setLink _ _ _
    clear_value d
    have hf : b.byTable f := hd.trans (d.byTable_modExt _ _)
    clear_value f
    exact b.byTable_refl.ite (hf.trans (f.byTable_controlTo _ _ _))

theorem Block.nodeDue_shows (n x : Nat) : (b.nodeDue n x).calendar = b.calendar ∧ b.byTable (b.nodeDue n x) := by
  unfold Block.nodeDue
  extract_lets d e ul dl f g
  have hd : d.calendar = b.calendar ∧ b.byTable d := by
    unfold d
    split
    · exact ⟨Block.calendar_ite (b.calendar_modExt _ _) rfl, (b.byTable_modExt _ _).ite b.byTable_refl⟩
    · exact ⟨rfl, b.byTable_refl⟩
  clear_value d
  have hf : f.calendar = b.calendar ∧ b.byTable f :=
    ⟨(Block.calendar_ite ((Block.calendar_refreshLink _ _).trans (d.calendar_modNode _ _)) rfl).trans hd.1,
      hd.2.trans (((d.byTable_modNode _ _).trans (Block.byTable_refreshLink _ _)).ite d.byTable_refl)⟩
  clear_value f
  have hg : g.calendar = b.calendar ∧ b.byTable g :=
    ⟨((Block.calendar_sendMap _ _ _).trans (f.calendar_sendMap _ _)).trans hf.1,
      hf.2.trans ((f.byTable_sendMap _ _).trans (Block.byTable_sendMap _ _ _))⟩
  clear_value g
  have hs : (g.offerSync x).calendar = g.calendar ∧ g.byTable (g.offerSync x) := by
    unfold Block.offerSync
    extract_lets t short
    exact ⟨Block.calendar_ite rfl (g.calendar_offer _), g.byTable_refl.ite (g.byTable_controlTo _ _ _)⟩
  split
  · exact ⟨hs.1.trans hg.1, hg.2.trans hs.2⟩
  · exact hg

/-! ### The start of a superframe for a triad -/

/-- The registers in which the calendars of the other triads stand, and those outside the MAC's. -/
def besideTriad (t off : Nat) : Prop := besideMac off ∨ ∃ u, u < 8 ∧ u ≠ t ∧ off = Reg.MAC_TRIAD u

theorem Block.sendDisc_shows (t : Nat) : (b.sendDisc t).calendar = b.calendar ∧ (b.sendDisc t).regs = b.regs := by
  unfold Block.sendDisc
  extract_lets n s phy start ports src o shape
  split
  · exact ⟨rfl, rfl⟩
  · generalize b.txOf o ports shape 0 (some (b.cairnHead typeDisc t)) [] = x
    cases x with
    | none => exact ⟨rfl, rfl⟩
    | some x =>
      dsimp only
      split
      · exact ⟨rfl, rfl⟩
      · exact ⟨rfl, rfl⟩

/-- From `b` to `c` the calendar of the triad stays, and the image. -/
structure Block.keepsTriad (t : Nat) (b c : Block) : Prop where
  triad : c.macTriad t = b.macTriad t
  img : c.img = b.img
  regs : Block.writesIn (besideTriad t) b c

theorem Block.keepsTriad_refl (t : Nat) : Block.keepsTriad t b b := ⟨rfl, rfl, Block.writesIn_refl _ _⟩

theorem Block.keepsTriad.trans {t : Nat} {b c d : Block} (h : Block.keepsTriad t b c) (h' : Block.keepsTriad t c d) :
    Block.keepsTriad t b d := ⟨h'.triad.trans h.triad, h'.img.trans h.img, h.regs.trans h'.regs⟩

theorem Block.macTriad_setMacTriad (t u : Nat) (m : MacTriad) :
    (b.setMacTriad u m).macTriad t = if t = u then m else b.macTriad t := by
  unfold Block.macTriad Block.setMacTriad
  split
  · next h =>
    rw [h]
    exact Store.get_put_same _ _ _ _
  · next h => exact Store.get_put_other _ _ _ h

theorem Block.tellTriad_shows (u : Nat) (old : List Byte) :
    (b.tellTriad u old).calendar = b.calendar ∧ Block.writesIn besideMac b (b.tellTriad u old) :=
  ⟨Block.calendar_of_frame (Block.frame_replicate _ _ _ _ _), (b.byTable_replicate _ _ _ _).regs⟩

/-- The triad whose superframe starts shows its CP_END and has none chosen for the next; the others keep theirs. -/
theorem Block.triadStart_shows (n u : Nat) (hu : u < 8) :
    ((b.triadStart n u).macTriad u).cpNext = none ∧ (b.triadStart n u).img = b.img ∧
    (b.triadStart n u).get (Reg.MAC_TRIAD_CP_END u) =
      (if b.triadBound u then (b.macTriad u).cpNext.getD (b.get Reg.MAC_CP_CTRL_CP_END_MIN) else 0) % 1024 ∧
    ∀ t, t ≠ u → Block.keepsTriad t b (b.triadStart n u) := by
  unfold Block.triadStart
  extract_lets old m cp disc
  generalize (match m.pending with
    | some (s, eff) => if eff ≤ n then (s, none) else (m.inForce, some (s, eff))
    | none => (m.inForce, none)) = p
  cases p with
  | mk inForce pending =>
    dsimp -zeta only
    extract_lets c d e
    have hcp : cp = if b.triadBound u then (b.macTriad u).cpNext.getD (b.get Reg.MAC_CP_CTRL_CP_END_MIN) else 0 := rfl
    have hfits : (Reg.MAC_TRIAD_CP_END u).fits := Nat.le_of_ble_eq_true rfl
    have hc : (c.macTriad u).cpNext = none ∧ c.img = b.img ∧ c.regs = b.regs ∧ ∀ t, t ≠ u → c.macTriad t = b.macTriad t :=
      ⟨by rw [show c.macTriad u = _ from b.macTriad_setMacTriad u u _, if_pos rfl], rfl, rfl,
        fun t ht => (b.macTriad_setMacTriad t u _).trans (if_neg ht)⟩
    clear_value c cp disc
    have hd : d.calendar = c.calendar ∧ d.get (Reg.MAC_TRIAD_CP_END u) = cp % 1024 ∧
        ∀ t, t ≠ u → Block.writesIn (besideTriad t) c d := by
      refine ⟨Block.calendar_of_core (Block.core_setAll _ _), ?_, fun t ht => (Block.writesIn_refl _ _).setAll fun p hp => ?_⟩
      · refine (Block.get_setAll_head _ _ _ _ hfits fun p hp => ?_)
        simp only [List.mem_cons, List.not_mem_nil, or_false] at hp
        rcases hp with rfl | rfl | rfl <;> exact ⟨Nat.le_of_ble_eq_true rfl, Or.inr (Or.inr (Nat.le_of_ble_eq_true rfl))⟩
      · simp only [List.mem_cons, List.not_mem_nil, or_false] at hp
        rcases hp with rfl | rfl | rfl | rfl <;> exact Or.inr ⟨u, hu, ht.symm, rfl⟩
    clear_value d
    have he : e.calendar = d.calendar ∧ Block.writesIn besideMac d e := d.tellTriad_shows u old
    clear_value e
    have hend : ∀ f : Block, f.calendar = e.calendar ∧ f.regs = e.regs →
        (f.macTriad u).cpNext = none ∧ f.img = b.img ∧ f.get (Reg.MAC_TRIAD_CP_END u) = cp % 1024 ∧
          ∀ t, t ≠ u → Block.keepsTriad t b f := fun f hf => by
      obtain ⟨c1, c2, c3, c4⟩ := hc
      have hcal : f.calendar = c.calendar := hf.1.trans (he.1.trans hd.1)
      have himg : f.img = b.img := (Block.img_of_calendar hcal).trans c2
      refine ⟨by rw [Block.macTriad_of_calendar hcal u, c1], himg, ?_, fun t ht => ?_⟩
      · rw [Block.get_of_regs hf.2, he.2.get (by unfold besideMac; simp only [Reg.MAC_TRIAD]; omega), hd.2.1]
      · refine ⟨(Block.macTriad_of_calendar hcal t).trans (c4 t ht), himg, ?_⟩
        have hregs : Block.writesIn (besideTriad t) b c := (Block.writesIn_refl _ b).of_regs c3
        exact ((hregs.trans (hd.2.2 t ht)).trans (he.2.mono fun _ h => Or.inl h)).of_regs hf.2
    rw [← hcp]
    split
    · exact hend _ (e.sendDisc_shows u)
    · exact hend _ ⟨rfl, rfl⟩

/-- The other triads' starts keep the triad's calendar. -/
theorem Block.keepsTriad_triads (n t : Nat) (l : List Nat) (hl : ∀ u ∈ l, u < 8 ∧ u ≠ t) :
    Block.keepsTriad t b (l.foldl (fun b u => b.triadStart n u) b) := by
  induction l generalizing b with
  | nil => exact b.keepsTriad_refl t
  | cons u l ih =>
    obtain ⟨hu, hl⟩ := List.forall_mem_cons.1 hl
    exact ((b.triadStart_shows n u hu.1).2.2.2 t hu.2.symm).trans (ih _ hl)

theorem Block.triadsStart_shows (n t : Nat) (ht : t < 8) :
    let c := (List.range 8).foldl (fun b u => b.triadStart n u) b
    (c.macTriad t).cpNext = none ∧ c.img = b.img ∧ c.get Reg.MAC_SFN_SFN = b.get Reg.MAC_SFN_SFN ∧
      c.get (Reg.MAC_TRIAD_CP_END t) =
        (if b.triadBound t then (b.macTriad t).cpNext.getD (b.get Reg.MAC_CP_CTRL_CP_END_MIN) else 0) % 1024 := by
  obtain ⟨l, r, hlr, hl⟩ := List.eq_append_cons_of_mem (List.mem_range.2 ht)
  have hnodup : (l ++ t :: r).Nodup := hlr ▸ List.nodup_range
  have hmem : ∀ u ∈ l ++ t :: r, u < 8 := fun u hu => List.mem_range.1 (hlr ▸ hu)
  have hr : t ∉ r := (List.nodup_cons.1 (List.nodup_append.1 hnodup).2.1).1
  have h1 := b.keepsTriad_triads n t l fun u hu => ⟨hmem u (List.mem_append_left _ hu), fun h => hl (h ▸ hu)⟩
  rw [hlr, List.foldl_append, List.foldl_cons]
  have hall := b.keepsTriad_triads n 8 (l ++ t :: r) fun u hu => ⟨hmem u hu, Nat.ne_of_lt (hmem u hu)⟩
  rw [List.foldl_append, List.foldl_cons] at hall
  generalize l.foldl (fun b u => b.triadStart n u) b = c at h1 hall
  obtain ⟨hnone, himg, hcp, hother⟩ := c.triadStart_shows n t ht
  generalize c.triadStart n t = d at hnone himg hcp hall
  have h2 := d.keepsTriad_triads n t r fun u hu =>
    ⟨hmem u (List.mem_append_right _ (List.mem_cons_of_mem _ hu)), fun h => hr (h ▸ hu)⟩
  have hbeside : ∀ (x : Nat) (f : Field), f.off = Reg.MAC_SFN ∨ f.off = Reg.MAC_CP_CTRL → ¬ besideTriad x f.off := by
    rintro x f (h | h) (h' | ⟨u, _, _, h'⟩) <;> rw [h] at h' <;> simp only [besideMac, Reg.MAC_SFN, Reg.MAC_CP_CTRL, Reg.MAC_TRIAD] at h' <;> omega
  have hown : ¬ besideTriad t (Reg.MAC_TRIAD_CP_END t).off := by
    rintro (h | ⟨u, _, h, h'⟩)
    · simp only [besideMac, Reg.MAC_TRIAD] at h
      omega
    · simp only [Reg.MAC_TRIAD] at h'
      omega
  dsimp only
  refine ⟨?_, h2.img.trans (himg.trans h1.img), ?_, ?_⟩
  · rw [h2.triad, hnone]
  · exact hall.regs.get (hbeside 8 _ (.inl rfl))
  · rw [h2.regs.get hown, hcp, h1.triad, h1.regs.get (hbeside t _ (.inr rfl)), Block.triadBound_of_img h1.img]

end

/-! ### The start of a superframe -/

theorem exec_superframeStart (s : State) : exec .superframeStart s = .next { s with blk := s.blk.superframeStart.gated } := rfl

theorem Block.superframeStart_idle {b : Block} (h : b.running = false ∨ b.get Reg.MAC_SFN_SFN = b.superframe % 2 ^ 29) :
    b.superframeStart = b := by
  unfold Block.superframeStart
  refine if_pos ?_
  rcases h with h | h
  · rw [h]
    rfl
  · rw [h, beq_self_eq_true, Bool.or_true]

theorem Block.calendar_setPort (b : Block) (n : Nat) (p : PortSt) :
    (b.setPort n p).calendar = b.calendar ∧ (b.setPort n p).regs = b.regs := ⟨rfl, rfl⟩

/-- The number stands in MAC_SFN, and the pending schedule section has been taken. -/
def Block.superframeNumbered (b : Block) (lag : Nat) : Block :=
  ((b.set Reg.MAC_SFN_SFN b.superframe).applySched).set Reg.TRV_REPL_STAT_LAG lag

theorem Block.superframeNumbered_shows (b : Block) (lag : Nat) : (b.superframeNumbered lag).img.schedPending = [] ∧
    (b.superframeNumbered lag).mac.triads = b.mac.triads ∧
    (b.img.schedPending = [] → (b.superframeNumbered lag).img = b.img ∧
      (b.superframeNumbered lag).get Reg.MAC_SFN_SFN = b.superframe % 2 ^ 29 ∧
      (b.superframeNumbered lag).get Reg.MAC_CP_CTRL_CP_END_MIN = b.get Reg.MAC_CP_CTRL_CP_END_MIN) := by
  have hset : (b.set Reg.MAC_SFN_SFN b.superframe).get Reg.MAC_SFN_SFN = b.superframe % 2 ^ 29 ∧
      (b.set Reg.MAC_SFN_SFN b.superframe).get Reg.MAC_CP_CTRL_CP_END_MIN = b.get Reg.MAC_CP_CTRL_CP_END_MIN :=
    ⟨Block.get_set_same _ _ _ (by decide), Block.get_of_rd (Block.rd_set_other _ _ _ _ (by decide))⟩
  have himg : (b.set Reg.MAC_SFN_SFN b.superframe).img = b.img := Block.set_img _ _ _
  have hmac : (b.set Reg.MAC_SFN_SFN b.superframe).mac = b.mac := Block.set_mac _ _ _
  unfold Block.superframeNumbered
  generalize b.set Reg.MAC_SFN_SFN b.superframe = c at hset himg hmac
  obtain ⟨h1, h2⟩ := c.applySched_shows
  rw [Block.set_img, Block.set_mac]
  refine ⟨h1, by rw [h2, hmac], fun hs => ?_⟩
  have hsame : c.applySched = c := if_pos (by rw [himg]; exact hs)
  rw [hsame]
  exact ⟨himg, (Block.get_of_rd (Block.rd_set_other _ _ _ _ (by decide))).trans hset.1,
    (Block.get_of_rd (Block.rd_set_other _ _ _ _ (by decide))).trans hset.2⟩

/-- The number is shown; every triad's CP_END is the one chosen for it, and none is chosen for the next. -/
theorem Block.superframeStart_shows {b : Block} (hrun : b.running = true) (hn : b.get Reg.MAC_SFN_SFN ≠ b.superframe % 2 ^ 29)
    (t : Nat) (ht : t < 8) :
    (b.superframeStart.macTriad t).cpNext = none ∧ b.superframeStart.img.schedPending = [] ∧
    (b.img.schedPending = [] → b.superframeStart.get Reg.MAC_SFN_SFN = b.superframe % 2 ^ 29 ∧
      (b.triadBound t = true → b.superframeStart.get (Reg.MAC_TRIAD_CP_END t) =
        ((b.macTriad t).cpNext.getD (b.get Reg.MAC_CP_CTRL_CP_END_MIN)) % 1024)) := by
  unfold Block.superframeStart
  extract_lets n c1 trv c2 mac c3 c4 c5
  rw [if_neg (by rw [hrun, beq_eq_false_iff_ne.2 hn]; exact Bool.false_ne_true)]
  have h1 : c1.img.schedPending = [] ∧ c1.mac.triads = b.mac.triads ∧ (b.img.schedPending = [] → c1.img = b.img ∧
      c1.get Reg.MAC_SFN_SFN = b.superframe % 2 ^ 29 ∧
      c1.get Reg.MAC_CP_CTRL_CP_END_MIN = b.get Reg.MAC_CP_CTRL_CP_END_MIN) := b.superframeNumbered_shows _
  clear_value c1
  have h3 : c3.calendar = c1.calendar ∧ c3.regs = c1.regs := ⟨rfl, rfl⟩
  clear_value c3
  have h4 : c4.calendar = c3.calendar ∧ c4.regs = c3.regs :=
    ⟨foldl_part Block.calendar _ (fun c p => (c.calendar_setPort _ _).1) _ _,
      foldl_part Block.regs _ (fun c p => (c.calendar_setPort _ _).2) _ _⟩
  clear_value c4
  have hcal : c4.calendar = c1.calendar := h4.1.trans h3.1
  have hregs : c4.regs = c1.regs := h4.2.trans h3.2
  obtain ⟨hnone, himg, hsfn, hcp⟩ : _ ∧ _ ∧ _ ∧ _ := c4.triadsStart_shows n t ht
  have h5 : ∀ d : Block, d.calendar = c5.calendar → c5.byTable d →
      (d.macTriad t).cpNext = none ∧ d.img.schedPending = [] ∧ (b.img.schedPending = [] →
        d.get Reg.MAC_SFN_SFN = b.superframe % 2 ^ 29 ∧ (b.triadBound t = true → d.get (Reg.MAC_TRIAD_CP_END t) =
          ((b.macTriad t).cpNext.getD (b.get Reg.MAC_CP_CTRL_CP_END_MIN)) % 1024)) := fun d hd htab => by
    have hmac : ∀ f : Field, 0xA0000 ≤ f.off ∧ f.off < 0xA0400 → d.get f = c5.get f := fun f hf =>
      htab.regs.get (by unfold besideMac; omega)
    have htriad : c4.macTriad t = b.macTriad t := by
      unfold Block.macTriad
      rw [show c4.mac.triads = c1.mac.triads from congrArg Prod.fst hcal, h1.2.1]
    refine ⟨by rw [Block.macTriad_of_calendar hd t, hnone], ?_, fun hs => ⟨?_, fun hb => ?_⟩⟩
    · rw [Block.img_of_calendar hd, himg, Block.img_of_calendar hcal, h1.1]
    · rw [hmac _ (by decide), hsfn, Block.get_of_regs hregs, (h1.2.2 hs).2.1]
    · have himg' : c4.img = b.img := (Block.img_of_calendar hcal).trans (h1.2.2 hs).1
      rw [hmac _ ⟨by simp only [Reg.MAC_TRIAD]; omega, by simp only [Reg.MAC_TRIAD]; omega⟩, hcp,
        Block.triadBound_of_img himg' t, if_pos hb, htriad, Block.get_of_regs hregs, (h1.2.2 hs).2.2]
  clear_value c5
  split
  · exact h5 _ (foldl_part Block.calendar _ (fun c x => (c.nodeDue_shows n x).1) _ _)
      (Block.byTable.foldl _ _ _ fun c x => (c.nodeDue_shows n x).2)
  · exact h5 _ rfl c5.byTable_refl

end Sys2Proof.Machine

/-!
The superframe's calendar continued: Cairns (R239, R240), notch sets (R249, R252) and the last-gasp window (R279).
-/

namespace Sys2Proof.Machine

/-! ### The other frames while one begins -/

/-- From `b` to `c` the frames of other numbers stand, and no switch opens. -/
structure Block.keepsStarts (num : Nat) (b c : Block) : Prop where
  dev : c.dev = b.dev
  now : c.brg.now = b.brg.now
  transmits : ∀ n, c.transmits n = b.transmits n
  sends : ∀ n, b.sendsOn n → c.sendsOn n
  tx : ∀ k, k ≠ num → c.tx k = b.tx k

theorem Block.keepsStarts.trans {num : Nat} {b c d : Block} (h : Block.keepsStarts num b c) (h' : Block.keepsStarts num c d) :
    Block.keepsStarts num b d :=
  ⟨h'.dev.trans h.dev, h'.now.trans h.now, fun n => (h'.transmits n).trans (h.transmits n), fun n hn => h'.sends n (h.sends n hn),
    fun k hk => (h'.tx k hk).trans (h.tx k hk)⟩

section
variable (b : Block) (num : Nat)

theorem Block.keepsStarts_refl : Block.keepsStarts num b b := ⟨rfl, rfl, fun _ => rfl, fun _ h => h, fun _ _ => rfl⟩

theorem Block.keepsStarts.foldl {α : Type} (f : Block → α → Block) (l : List α)
    (hf : ∀ (c : Block) (x : α), Block.keepsStarts num c (f c x)) : Block.keepsStarts num b (l.foldl f b) := by
  induction l generalizing b with
  | nil => exact b.keepsStarts_refl num
  | cons x l ih => exact (hf b x).trans (ih _)

/-- What leaves the frames, the ports and their status registers alone. -/
theorem Block.keepsStarts_of_sending {c : Block} (h : b.keepsSending c) (hnow : c.brg.now = b.brg.now) :
    Block.keepsStarts num b c :=
  ⟨h.dev, hnow, fun n => by
      unfold Block.transmits
      rw [show c.get (Reg.LP_STATUS_STATE n) = b.get (Reg.LP_STATUS_STATE n) from Block.get_of_rd (h.status n)],
    fun _ hn => hn.keepsSending h, fun k _ => Block.tx_of_mac h.txs k⟩

theorem Block.keepsStarts_setTx (f : Tx → Tx) (hf : ∀ x, x.offer.num = num → (f x).offer.num = num) :
    Block.keepsStarts num b (b.setTx num f) := by
  refine ⟨rfl, rfl, fun _ => rfl, fun _ h => h, fun k hk => ?_⟩
  unfold Block.tx Block.setTx
  dsimp only
  rw [List.find?_map, show ((fun x : Tx => x.offer.num == k) ∘ fun x : Tx => if x.offer.num == num then f x else x) =
    fun x : Tx => x.offer.num == k from funext fun x => ?_]
  · cases hx : b.mac.txs.find? fun x => x.offer.num == k with
    | none => rfl
    | some x =>
      have hnum : x.offer.num ≠ num := fun h => hk ((Block.num_of_tx (b := b) hx).symm.trans h)
      exact congrArg some (if_neg fun h => hnum (beq_iff_eq.1 h))
  · by_cases hx : x.offer.num = num
    · simp only [Function.comp, hx, beq_self_eq_true, if_true, hf x hx]
    · simp only [Function.comp, beq_iff_eq, hx, if_false]

theorem Block.keepsStarts_closeSwitches (n : Nat) : Block.keepsStarts num b (b.closeSwitches n) :=
  ⟨(b.onLine_refl.closeSwitches n).dev, (b.onLine_refl.closeSwitches n).now, fun m => b.closeSwitches_transmits n m,
    fun _ h => h.closeSwitches n, fun k _ => Block.tx_of_mac (by
      unfold Block.closeSwitches
      rw [Block.set_mac]
      rfl) k⟩

theorem Block.keepsStarts_hushLanes (ports : List Nat) (bands : Nat) : Block.keepsStarts num b (b.hushLanes ports bands) :=
  b.keepsStarts_of_sending num (b.keepsSending_hushLanes ports bands) (b.onLine_refl.hushLanes ports bands).now

theorem Block.keepsSending_set (f : Field) (v : Nat) (hf : f.off < 0x80000) : b.keepsSending (b.set f v) :=
  ⟨Block.set_dev _ _ _, by rw [Block.set_mac], by rw [Block.set_ports], fun n => Block.rd_set_other _ _ _ _ (by
    simp only [Reg.LP_STATUS]
    omega)⟩

theorem Block.keepsSending_of_mac {c : Block} (hdev : c.dev = b.dev) (hmac : c.mac = b.mac) (hports : c.ports = b.ports)
    (hregs : c.regs = b.regs) : b.keepsSending c := ⟨hdev, by rw [hmac], by rw [hports], fun _ => Block.rd_of_regs hregs _⟩

theorem Block.keepsSending_post (code sev src : Nat) (args : List (Nat × Nat)) : b.keepsSending (b.post code sev src args) :=
  ⟨Block.post_dev _ _ _ _ _, by rw [Block.post_mac], by rw [Block.post_ports], fun n => Block.rd_post _ _ _ _ _ _ fun h =>
    absurd h (notMem_recordRegs (by simp only [Reg.LP_STATUS]; omega))⟩

theorem Block.pushTxStamp_shows (entry : List Byte) :
    b.keepsSending (b.pushTxStamp entry) ∧ (b.pushTxStamp entry).brg = b.brg := by
  have hraise : ∀ (c : Block) (v : Nat), c.keepsSending (c.raise 0 v) ∧ (c.raise 0 v).brg = c.brg := fun c v =>
    ⟨c.keepsSending_of_mac (Block.raise_dev _ _ _) (Block.raise_mac _ _ _) (Block.raise_ports _ _ _) (c.raise_regs 0 v),
      Block.raise_brg _ _ _⟩
  have hset : ∀ (c : Block) (f : Field) (v : Nat), f.off < 0x80000 → c.keepsSending (c.set f v) ∧ (c.set f v).brg = c.brg :=
    fun c f v hf => ⟨c.keepsSending_set f v hf, Block.set_brg _ _ _⟩
  have hdtm : ∀ (c : Block) (x : DatumSt), c.keepsSending { c with dtm := x } ∧ ({ c with dtm := x } : Block).brg = c.brg :=
    fun c x => ⟨c.keepsSending_of_mac rfl rfl rfl rfl, rfl⟩
  have htrans : ∀ {c d e : Block}, c.keepsSending d ∧ d.brg = c.brg → d.keepsSending e ∧ e.brg = d.brg →
      c.keepsSending e ∧ e.brg = c.brg := fun h h' => ⟨h.1.trans h'.1, h'.2.trans h.2⟩
  unfold Block.pushTxStamp
  extract_lets c dtm dtm' d e
  have hc : b.keepsSending c ∧ c.brg = b.brg := hset b _ _ (by decide)
  clear_value c
  have hd : b.keepsSending d ∧ d.brg = b.brg := hdtm b _
  clear_value d
  have he : b.keepsSending e ∧ e.brg = b.brg := htrans hd (hset d _ _ (by decide))
  clear_value e
  split
  · split
    · exact htrans hc (htrans (hdtm c _) ⟨Block.keepsSending_post _ _ _ _ _, Block.post_brg _ _ _ _ _⟩)
    · exact hc
  · split
    · exact htrans he (hraise e _)
    · exact he

/-- A frame that begins, or does not, leaves the others and opens no switch. -/
theorem Block.keepsStarts_startTx : Block.keepsStarts num b (b.startTx num) := by
  unfold Block.startTx
  cases hx : b.tx num with
  | none => exact b.keepsStarts_refl num
  | some x =>
    dsimp -zeta only
    extract_lets y c d e
    have hy : y.offer = x.offer := (b.fixLine_num x).1
    clear_value y
    have hc : Block.keepsStarts num b c := b.keepsStarts_setTx num _ fun _ _ =>
      (congrArg Offer.num hy).trans (Block.num_of_tx hx)
    clear_value c
    have hd : Block.keepsStarts num b d := hc.trans (.foldl _ _ _ _ fun d n => by
      split
      · exact d.keepsStarts_closeSwitches num n
      · exact d.keepsStarts_refl num)
    clear_value d
    have he : Block.keepsStarts num b e := hd.trans (d.keepsStarts_hushLanes num _ _)
    clear_value e
    split
    · exact b.keepsStarts_refl num
    · exact he.trans (.foldl _ _ _ _ fun f p =>
        (f.keepsStarts_of_sending num (f.pushTxStamp_shows _).1 (by rw [(f.pushTxStamp_shows _).2])).trans
          (Block.keepsStarts_of_sending _ num (Block.keepsSending_of_mac _ rfl rfl rfl rfl) rfl))

end

/-! ### Cairns -/

theorem exec_cairnTransmit (t : Fin 8) (s : State) : exec (.cairnTransmit t) s = .next { s with blk := (s.blk.transmitCairn t).gated } := rfl

/-- A Cairn of the triad, by its frame. -/
def Tx.cairnOf (t : Nat) (x : Tx) : Bool := (x.offer.type == typeCairn || x.offer.type == typeCairnC) && x.offer.triad == t

theorem Block.transmitCairn_eq (b : Block) (t : Nat) :
    b.transmitCairn t = (b.mac.txs.filter (Tx.cairnOf t)).foldl (fun b x => b.startTx x.offer.num) b := rfl

/-- Starts of frames of other numbers leave the frame where it is. -/
theorem Block.keepsStarts_startAll (num : Nat) (l : List Tx) (b : Block) (hl : ∀ y ∈ l, y.offer.num ≠ num) :
    let c := l.foldl (fun b x => b.startTx x.offer.num) b
    c.dev = b.dev ∧ c.brg.now = b.brg.now ∧ (∀ n, c.transmits n = b.transmits n) ∧ (∀ n, b.sendsOn n → c.sendsOn n) ∧
      c.tx num = b.tx num := by
  induction l generalizing b with
  | nil => exact ⟨rfl, rfl, fun _ => rfl, fun _ h => h, rfl⟩
  | cons y l ih =>
    obtain ⟨hy, hl⟩ := List.forall_mem_cons.1 hl
    have h1 := b.keepsStarts_startTx y.offer.num
    obtain ⟨h2, h3, h4, h5, h6⟩ := ih (b.startTx y.offer.num) hl
    exact ⟨h2.trans h1.dev, h3.trans h1.now, fun n => (h4 n).trans (h1.transmits n), fun n h => h5 n (h1.sends n h),
      h6.trans (h1.tx num hy.symm)⟩

theorem Block.tx_of_nodup {b : Block} (h : (b.mac.txs.map (·.offer.num)).Nodup) {x : Tx} (hx : x ∈ b.mac.txs) :
    b.tx x.offer.num = some x := by
  cases ho : b.tx x.offer.num with
  | none => exact absurd (beq_self_eq_true x.offer.num) (List.find?_eq_none.1 ho x hx)
  | some y =>
    have hy : y ∈ b.mac.txs := List.mem_of_find?_eq_some ho
    exact congrArg some (List.inj_on_of_nodup_map h hy hx (Block.num_of_tx ho))

/-- The Cairns that have been admitted, and are due, are on the line; the other frames stand. -/
theorem Block.transmitCairn_shows {b : Block} (t : Nat) (hn : (b.mac.txs.map (·.offer.num)).Nodup) :
    (b.transmitCairn t).dev = b.dev ∧
    (∀ x ∈ b.mac.txs, x.cairnOf t = true → x.stage = .admitted → ahead x.start (b.brg.now + 1) = false → x.offer.parcels = [] →
      ((b.transmitCairn t).tx x.offer.num).map (·.stage) = some .onLine ∧
        ∀ n ∈ x.ports, b.transmits n = true → (b.transmitCairn t).sendsOn n) ∧
    ∀ x ∈ b.mac.txs, x.cairnOf t = false → (b.transmitCairn t).tx x.offer.num = some x := by
  have hnum : ∀ x ∈ b.mac.txs, ∀ y ∈ b.mac.txs, x.offer.num = y.offer.num → x = y := fun x hx y hy h =>
    List.inj_on_of_nodup_map hn hx hy h
  have hmem : ∀ y ∈ b.mac.txs.filter (Tx.cairnOf t), y ∈ b.mac.txs ∧ y.cairnOf t = true := fun y hy => List.mem_filter.1 hy
  have hnodup : (b.mac.txs.filter (Tx.cairnOf t)).Nodup := (List.Nodup.of_map _ hn).filter _
  rw [Block.transmitCairn_eq]
  refine ⟨?_, fun x hx hc hs ha hp => ?_, fun x hx hc => ?_⟩
  · exact foldl_part Block.dev _ (fun c x => (c.keepsStarts_startTx _).dev) _ _
  · obtain ⟨l, r, hlr, hl⟩ := List.eq_append_cons_of_mem (List.mem_filter.2 ⟨hx, hc⟩)
    rw [hlr] at hmem hnodup ⊢
    have hr : x ∉ r := (List.nodup_cons.1 (List.nodup_append.1 hnodup).2.1).1
    have hother : ∀ y ∈ l ++ x :: r, y ≠ x → y.offer.num ≠ x.offer.num := fun y hy hne h => hne (hnum y (hmem y hy).1 x hx h)
    rw [List.foldl_append, List.foldl_cons]
    obtain ⟨-, h2, h3, -, h5⟩ := Block.keepsStarts_startAll x.offer.num l b fun y hy =>
      hother y (List.mem_append_left _ hy) fun h => hl (h ▸ hy)
    rw [Block.tx_of_nodup hn hx] at h5
    generalize l.foldl (fun b x => b.startTx x.offer.num) b = c at h2 h3 h5
    rw [Block.startTx_eq h5 hs (by rw [h2]; exact ha) hp]
    obtain ⟨htx, -, -, hon, -⟩ := Block.started_shows h5
    obtain ⟨-, -, -, k4, k5⟩ := Block.keepsStarts_startAll x.offer.num r (c.started x.offer.num x) fun y hy =>
      hother y (List.mem_append_right _ (List.mem_cons_of_mem _ hy)) fun h => hr (h ▸ hy)
    rw [k5, htx]
    exact ⟨rfl, fun n hn' ht => k4 n (hon n hn' ((h3 n).trans ht))⟩
  · obtain ⟨-, -, -, -, h5⟩ := Block.keepsStarts_startAll x.offer.num (b.mac.txs.filter (Tx.cairnOf t)) b fun y hy h =>
      absurd (hmem y hy).2 (by rw [hnum y (hmem y hy).1 x hx h, hc]; exact Bool.false_ne_true)
    exact h5.trans (Block.tx_of_nodup hn hx)

/-! ### CP_END -/

theorem exec_cpEndChoice (t : Fin 8) (s : State) : exec (.cpEndChoice t) s = .next { s with blk := (s.blk.chooseCpEnd t).gated } := rfl

theorem Block.chooseCpEnd_due {b : Block} {t : Nat} (hdev : b.dev = .service) (hrun : b.running = true)
    (hbin : 960 ≤ binOf b.brg.now) (hnone : (b.macTriad t).cpNext = none) : b.chooseCpEnd t = b.setMacTriad t { b.macTriad t with
      cpNext := some (min (b.get Reg.MAC_CP_CTRL_CP_END_MAX) (max (b.get Reg.MAC_CP_CTRL_CP_END_MIN) (1023 - b.spWork t))) } := by
  unfold Block.chooseCpEnd
  refine if_neg ?_
  rw [hdev, hrun, hnone, decide_eq_false (Nat.not_lt.2 hbin)]
  decide

theorem Block.chooseCpEnd_idle {b : Block} {t : Nat} (h : b.dev ≠ .service ∨ b.running = false ∨ binOf b.brg.now < 960 ∨
    (b.macTriad t).cpNext.isSome = true) : b.chooseCpEnd t = b := by
  unfold Block.chooseCpEnd
  refine if_pos ?_
  rcases h with h | h | h | h
  · rw [bne_iff_ne.2 h]
    rfl
  · rw [h, Bool.not_false, Bool.or_true]
    rfl
  · rw [decide_eq_true h, Bool.or_true]
    rfl
  · rw [h, Bool.or_true]

/-! ### Notch sets -/

theorem exec_notchRecompute (t : Fin 8) (s : State) :
    exec (.notchRecompute t) s = .next { s with blk := (s.blk.recomputeNotch t).gated } := rfl

theorem Block.notchPosted_shows (b : Block) (t v : Nat) (args : List (Nat × Nat)) :
    ((b.set (Reg.MAC_TRIAD_NEXT t) v).post 0x0705 0 19 args).calendar = b.calendar ∧
      ((b.set (Reg.MAC_TRIAD_NEXT t) v).post 0x0705 0 19 args).dev = b.dev :=
  ⟨(Block.calendar_of_core (Block.core_post _ _ _ _ _)).trans (Block.calendar_of_core (Block.core_set _ _ _)),
    (Block.post_dev _ _ _ _ _).trans (Block.set_dev _ _ _)⟩

theorem Block.recomputeNotch_due {b : Block} {t : Nat} (hdev : b.dev = .service) (hrun : b.running = true)
    (hpend : (b.macTriad t).pending = none)
    (hint : ∀ sf, (b.macTriad t).announced = some sf → sf + b.get Reg.PT_NOTCH_CTRL_INTERVAL * 16 ≤ b.superframe) :
    let old := (b.macTriad t).inForce
    let new := if b.on Reg.PT_NOTCH_CTRL_ENABLE then b.patternsFor t old.patterns else []
    (new ≠ old.patterns → (b.recomputeNotch t).dev = b.dev ∧
      ∃ set eff, ((b.recomputeNotch t).macTriad t).pending = some (set, eff) ∧ set.patterns = new ∧
        set.version = (old.version + 1) % 256 ∧ eff = b.superframe + 2 * set.fragments.length + 8) ∧
    (new = old.patterns → b.recomputeNotch t = b) := by
  intro old new
  unfold Block.recomputeNotch
  extract_lets m interval early patterns s eff bytes c d
  have hearly : early = false := by
    unfold early
    cases ha : m.announced with
    | none => rfl
    | some sf => exact decide_eq_false (Nat.not_lt.2 (hint sf ha))
  clear_value early
  have hcond : (b.dev != .service || !b.running || m.pending.isSome || early) = false := by
    rw [hdev, hrun, show m.pending = none from hpend, hearly]
    rfl
  have hc : (c.macTriad t).pending = some (s, eff) ∧ c.dev = b.dev :=
    ⟨by rw [show c.macTriad t = _ from b.macTriad_setMacTriad t t _, if_pos rfl], rfl⟩
  clear_value c
  have hd : d.calendar = c.calendar ∧ d.dev = c.dev := c.notchPosted_shows t _ _
  clear_value d
  rw [hcond, Bool.false_or]
  refine ⟨fun hne => ?_, fun he => if_pos (decide_eq_true he)⟩
  rw [if_neg (fun h => hne (of_decide_eq_true h))]
  have h1 := d.tellTriad_shows t bytes
  have h2 : ((d.tellTriad t bytes).tellNotch t s).calendar = (d.tellTriad t bytes).calendar ∧
      ((d.tellTriad t bytes).tellNotch t s).dev = (d.tellTriad t bytes).dev :=
    ⟨Block.calendar_of_frame (Block.frame_replicate _ _ _ _ _), Block.dev_of_frame (Block.frame_replicate _ _ _ _ _)⟩
  have h3 : (d.tellTriad t bytes).dev = d.dev := Block.dev_of_frame (Block.frame_replicate _ _ _ _ _)
  refine ⟨h2.2.trans (h3.trans (hd.2.trans hc.2)), s, eff, ?_, rfl, rfl, rfl⟩
  rw [Block.macTriad_of_calendar (h2.1.trans (h1.1.trans hd.1)) t, hc.1]

theorem Block.recomputeNotch_idle {b : Block} {t : Nat} (h : b.dev ≠ .service ∨ b.running = false ∨
    (b.macTriad t).pending.isSome = true) : b.recomputeNotch t = b := by
  unfold Block.recomputeNotch
  extract_lets m interval early patterns s eff bytes c d
  clear_value early patterns
  refine if_pos ?_
  rcases h with h | h | h
  · rw [bne_iff_ne.2 h]
    rfl
  · rw [h, Bool.not_false, Bool.or_true]
    rfl
  · rw [show m.pending.isSome = true from h, Bool.or_true]
    rfl

/-! ### The end of a last-gasp window -/

/-- A register in which no triad's calendar stands. -/
def besideTriads (off : Nat) : Prop := ∀ t < 8, off ≠ Reg.MAC_TRIAD t

theorem besideTriads_of_apart {off : Nat} (h : off < 0xA0080 ∨ 0xA00A0 ≤ off) : besideTriads off := fun t ht => by
  simp only [Reg.MAC_TRIAD]
  omega

theorem besideTriads_of_page {off : Nat} (h : off % 0x1000 < 0x80 ∨ 0xA0 ≤ off % 0x1000) : besideTriads off := fun t ht => by
  simp only [Reg.MAC_TRIAD]
  omega

theorem besideTriads_record : ∀ off ∈ recordRegs, besideTriads off := fun off hoff =>
  besideTriads_of_apart (by
    have hall : ∀ off ∈ recordRegs, off < 0xA0080 ∨ 0xA00A0 ≤ off := by decide
    exact hall off hoff)

/-- From `b` to `c` the windows, what the MAC keeps of the triads and their registers stay. -/
structure Block.keepsWindows (b c : Block) : Prop where
  triads : c.mac.triads = b.mac.triads
  closes : c.brg.gaspClose = b.brg.gaspClose
  regs : Block.writesIn besideTriads b c

theorem Block.keepsWindows.trans {b c d : Block} (h : b.keepsWindows c) (h' : c.keepsWindows d) : b.keepsWindows d :=
  ⟨h'.triads.trans h.triads, h'.closes.trans h.closes, h.regs.trans h'.regs⟩

theorem Block.keepsWindows.ite {b c d : Block} {p : Prop} [Decidable p] (hc : b.keepsWindows c) (hd : b.keepsWindows d) :
    b.keepsWindows (if p then c else d) := by
  split
  · exact hc
  · exact hd

section
variable (b : Block)

theorem Block.keepsWindows_refl : b.keepsWindows b := ⟨rfl, rfl, Block.writesIn_refl _ _⟩

theorem Block.keepsWindows_set (f : Field) (v : Nat) (hf : besideTriads f.off) : b.keepsWindows (b.set f v) :=
  ⟨by rw [Block.set_mac], by rw [Block.set_brg], (Block.writesIn_refl _ b).set v hf⟩

theorem Block.keepsWindows_setAll (fs : List (Field × Nat)) (hf : ∀ p ∈ fs, p.1.off < 0xA0080 ∨ 0xA00A0 ≤ p.1.off) :
    b.keepsWindows (b.setAll fs) :=
  ⟨by rw [Block.setAll_mac], by rw [Block.setAll_brg], (Block.writesIn_refl _ b).setAll fun p hp => besideTriads_of_apart (hf p hp)⟩

theorem Block.keepsWindows_post (code sev src : Nat) (args : List (Nat × Nat)) : b.keepsWindows (b.post code sev src args) :=
  ⟨by rw [Block.post_mac], by rw [Block.post_brg], (Block.writesIn_refl _ b).post _ _ _ _ besideTriads_record⟩

theorem Block.keepsWindows_raiseFixed (v : Nat) : b.keepsWindows (b.raiseFixed v) :=
  ⟨by rw [Block.raiseFixed_mac], by rw [Block.raiseFixed_brg], (Block.writesIn_refl _ b).raiseFixed v⟩

theorem Block.keepsWindows_withImg (x : ImgSt) : b.keepsWindows { b with img := x } :=
  ⟨rfl, rfl, (Block.writesIn_refl besideTriads b).of_regs rfl⟩

theorem Block.keepsWindows_withChain (x : ChainSt) : b.keepsWindows { b with chain := x } :=
  ⟨rfl, rfl, (Block.writesIn_refl besideTriads b).of_regs rfl⟩

theorem Block.keepsWindows_withPool (x : PoolSt) : b.keepsWindows { b with pool := x } :=
  ⟨rfl, rfl, (Block.writesIn_refl besideTriads b).of_regs rfl⟩

theorem Block.keepsWindows_withSound (x : SoundSt) : b.keepsWindows { b with sound := x } :=
  ⟨rfl, rfl, (Block.writesIn_refl besideTriads b).of_regs rfl⟩

theorem Block.keepsWindows_withOscillator (x : Bool) : b.keepsWindows { b with oscillator := x } :=
  ⟨rfl, rfl, (Block.writesIn_refl besideTriads b).of_regs rfl⟩

theorem Block.keepsWindows_sendVerdict (op verdict cause : Nat) (x : Bearing) : b.keepsWindows (b.sendVerdict op verdict cause x) :=
  ⟨by rw [Block.sendVerdict_mac], by rw [Block.sendVerdict_brg], (Block.writesIn_refl _ b).of_regs (Block.sendVerdict_regs _ _ _ _ _)⟩

theorem Block.keepsWindows_abortSwapAll (cause : Nat) : b.keepsWindows (b.abortSwapAll cause) := by
  have habort : ∀ c : Block, c.keepsWindows (c.swapAbort cause) := fun c => by
    unfold Block.swapAbort
    split
    · exact c.keepsWindows_refl
    · extract_lets x d e
      have hd : c.keepsWindows d := c.keepsWindows_withImg _
      clear_value d
      have he : c.keepsWindows e := hd.trans (d.keepsWindows_setAll _ (by simp [Reg.CFG_STATUS, Reg.CFG_SWAP_STATUS]))
      clear_value e
      exact (he.trans (e.keepsWindows_raiseFixed 6)).trans (Block.keepsWindows_post _ _ _ _ _)
  unfold Block.abortSwapAll
  split
  · exact ((b.keepsWindows_sendVerdict _ _ _ _).ite b.keepsWindows_refl).trans (habort _)
  · exact b.keepsWindows_refl

theorem Block.keepsWindows_abortOpAll (cause : Nat) : b.keepsWindows (b.abortOpAll cause) := by
  have habort : ∀ c : Block, c.keepsWindows (c.opAbort cause) := fun c => by
    unfold Block.opAbort
    split
    · exact c.keepsWindows_refl
    · exact ((c.keepsWindows_withChain _).trans (Block.keepsWindows_setAll _ _ (by simp [Reg.CHN_OP_STATUS]))).trans
        (Block.keepsWindows_raiseFixed _ 7)
  unfold Block.abortOpAll
  split
  · exact ((b.keepsWindows_sendVerdict _ _ _ _).ite b.keepsWindows_refl).trans (habort _)
  · exact b.keepsWindows_refl

theorem Block.keepsWindows_discardShadow : b.keepsWindows b.discardShadow := by
  unfold Block.discardShadow
  exact (b.keepsWindows_setAll _ (by decide)).trans (Block.keepsWindows_withImg _ _)

theorem Block.keepsWindows_openSwitches (n : Nat) : b.keepsWindows (b.openSwitches n) := by
  unfold Block.openSwitches
  have hset : b.keepsWindows (b.setPort n (b.port n).opened) := ⟨rfl, rfl, (Block.writesIn_refl besideTriads b).of_regs rfl⟩
  exact hset.trans (Block.keepsWindows_set _ _ _ (besideTriads_of_page (by simp only [Reg.LP_STATUS]; omega)))

theorem Block.keepsWindows.foldl {α : Type} (f : Block → α → Block) (l : List α) (hf : ∀ (c : Block) (x : α), c.keepsWindows (f c x)) :
    b.keepsWindows (l.foldl f b) := by
  induction l generalizing b with
  | nil => exact b.keepsWindows_refl
  | cons x l ih => exact (hf b x).trans (ih _)

theorem Block.keepsWindows_reportPred : b.keepsWindows b.reportPred := by
  unfold Block.reportPred
  dsimp only
  refine (Block.keepsWindows.foldl _ _ _ fun c n => c.keepsWindows_set _ _ (besideTriads_of_page ?_)).trans
    ((Block.keepsWindows.foldl _ _ _ fun c k => c.keepsWindows_set _ _ (besideTriads_of_page ?_)).trans
      (Block.keepsWindows_set _ _ _ (besideTriads_of_apart (by decide))))
  · simp only [Reg.LP_THERM]
    omega
  · simp only [Reg.LP_BANK_PRED]
    omega

theorem Block.keepsWindows_stopTransmitting : b.keepsWindows b.stopTransmitting := by
  unfold Block.stopTransmitting
  extract_lets _ _ c
  have hc : b.keepsWindows c := ⟨rfl, rfl, (Block.writesIn_refl besideTriads b).of_regs rfl⟩
  clear_value c
  exact (hc.trans (.foldl _ _ _ fun d n => d.keepsWindows_openSwitches n)).trans (Block.keepsWindows_reportPred _)

theorem Block.keepsWindows_dropReceptions : b.keepsWindows b.dropReceptions := by
  have hdrop : ∀ (c : Block) (l : Nat), c.keepsWindows (c.dropReception l) := fun c l => by
    have h := c.byReception_setReception l none
    exact ⟨by rw [show (c.dropReception l).mac = _ from h.mac], h.gaspClose, fun off hoff => h.regs off fun n hn => hoff (by
      rw [hn]
      exact besideTriads_of_page (by simp only [Reg.LP_AGC_STAT]; omega))⟩
  unfold Block.dropReceptions
  exact (Block.keepsWindows.foldl _ _ _ hdrop).trans (Block.keepsWindows_withPool _ _)

theorem Block.keepsWindows_enterHoldover : b.keepsWindows b.enterHoldover := by
  have hbrg : b.enterHoldover.brg.gaspClose = b.brg.gaspClose := by rw [Block.enterHoldover_brg]
  have hregs : b.keepsBut b.enterHoldover (Reg.BRG_STATUS :: Reg.BRG_HOLD_LO :: Reg.BRG_HOLD_HI :: recordRegs) :=
    Block.enterHoldover_keepsBut (b.keepsBut_refl _) (by decide) fun x h =>
      List.mem_cons_of_mem _ (List.mem_cons_of_mem _ (List.mem_cons_of_mem _ h))
  have hmac : b.enterHoldover.mac = b.mac := by
    obtain ⟨n, h⟩ := b.enterHoldover_eq
    rw [h, Block.post_mac]
    unfold Block.holdoverShown
    rw [Block.setBearing_mac]
    exact Block.setBrg_mac b .holdover
  refine ⟨by rw [hmac], hbrg, fun off hoff => hregs off fun h => hoff ?_⟩
  rcases List.mem_cons.1 h with rfl | h
  · exact besideTriads_of_apart (by decide)
  · rcases List.mem_cons.1 h with rfl | h
    · exact besideTriads_of_apart (by decide)
    · rcases List.mem_cons.1 h with rfl | h
      · exact besideTriads_of_apart (by decide)
      · exact besideTriads_record off h

theorem Block.keepsWindows_leaveChain : b.keepsWindows b.leaveChain := by
  unfold Block.leaveChain
  extract_lets c _ d e
  have hc : b.keepsWindows c := (b.keepsWindows_set _ _ (besideTriads_of_apart (by decide))).ite b.keepsWindows_refl
  have hd : b.keepsWindows d := hc.trans (c.keepsWindows_withChain _)
  have he : b.keepsWindows e := hd.trans ((d.keepsWindows_set _ _ (besideTriads_of_apart (by decide))).ite d.keepsWindows_refl)
  exact (he.trans ((e.keepsWindows_set _ _ (besideTriads_of_apart (by decide))).trans (Block.keepsWindows_enterHoldover _))).ite he

theorem Block.keepsWindows_refreshPorts : b.keepsWindows b.refreshPorts :=
  ⟨by rw [Block.refreshPorts_mac], by rw [Block.refreshPorts_brg], fun off hoff => Block.rd_refreshPorts _ _ fun n hn => hoff (by
    rw [hn]
    exact besideTriads_of_page (by simp only [Reg.LP_STATUS]; omega))⟩

theorem Block.keepsWindows_refreshLoops : b.keepsWindows b.refreshLoops :=
  ⟨by rw [Block.refreshLoops_mac], by rw [Block.refreshLoops_brg], fun off hoff => Block.rd_refreshLoops _ _
    (fun n hn => hoff (by
      rw [hn]
      exact besideTriads_of_apart (by simp only [Reg.SS_LOOP_STAT]; omega)))
    (fun n hn => hoff (by
      rw [hn]
      exact besideTriads_of_apart (by simp only [Reg.SS_LOOP_FLAGS]; omega)))⟩

theorem Block.keepsWindows_lifeEntry : b.keepsWindows b.lifeEntry :=
  ⟨by rw [Block.lifeEntry_mac], by rw [Block.lifeEntry_brg], fun off hoff => Block.rd_lifeEntry _ _ fun h =>
    hoff (besideTriads_record off (List.mem_cons_of_mem _ (List.mem_cons_of_mem _ h)))⟩

theorem Block.keepsWindows_setDev (d : DevState) : b.keepsWindows (b.setDev d) :=
  ⟨by rw [Block.setDev_mac], by rw [Block.setDev_brg], (Block.writesIn_refl _ b).setDev d⟩

theorem Block.keepsWindows_enterHold : b.keepsWindows b.enterHold := by
  unfold Block.enterHold
  extract_lets c d e unheld _ f g g' h
  have hc : b.keepsWindows c :=
    ((b.keepsWindows_abortSwapAll 6).trans (Block.keepsWindows_abortOpAll _ 6)).trans (Block.keepsWindows_discardShadow _)
  clear_value c
  have hd : b.keepsWindows d := hc.trans ((c.keepsWindows_stopTransmitting.trans (Block.keepsWindows_dropReceptions _)).trans
    (Block.keepsWindows_withChain _ _))
  clear_value d
  have he : b.keepsWindows e := hd.trans d.keepsWindows_leaveChain
  clear_value e
  have hf : b.keepsWindows f := he.trans (e.keepsWindows_withSound _)
  clear_value f
  have hg : b.keepsWindows g := hf.trans ((f.keepsWindows_set _ _ (besideTriads_of_apart (by decide))).trans
    (Block.keepsWindows_setDev _ _))
  clear_value g
  have hg' : b.keepsWindows g' := hg.trans (g.keepsWindows_withOscillator _)
  clear_value g'
  have hh : b.keepsWindows h := hg'.trans (g'.keepsWindows_refreshPorts.trans (Block.keepsWindows_refreshLoops _))
  clear_value h
  exact hh.trans ((h.keepsWindows_post _ _ _ _).trans (Block.keepsWindows_lifeEntry _))

theorem Block.keepsWindows_tryHold : b.keepsWindows b.tryHold := by
  unfold Block.tryHold
  exact b.keepsWindows_enterHold.ite b.keepsWindows_refl

end

/-- What the end of a last-gasp window does. -/
def Block.gaspEnded (b : Block) (t : Nat) : Block :=
  let m := b.macTriad t
  let b := (b.setGaspClose t none).set (Reg.MAC_TRIAD_GASP t) 0
  let b := b.setMacTriad t { m with gaspNotices := 0, gaspDups := 0 }
  (b.post 0x0703 0 19 [(1, t), (2, m.gaspNotices), (2, m.gaspDups)]).tryHold

/-- The window of the triad ends, if it is due. -/
def Block.gaspTimed (b : Block) (t : Nat) : Option Bearing → Block
  | none => b
  | some c => if ahead c (b.brg.now + 1) then b else b.gaspEnded t

theorem exec_lastGaspClose (t : Fin 8) (s : State) :
    exec (.lastGaspClose t) s = .next { s with blk := (s.blk.gaspTimed t (s.blk.gaspClose t)).gated } := rfl

theorem Block.gaspEnded_shows (b : Block) (t : Nat) (ht : t < 8) : (b.gaspEnded t).gaspClose t = none ∧
    (b.gaspEnded t).get (Reg.MAC_TRIAD_GASP t) = 0 ∧ ((b.gaspEnded t).macTriad t).gaspNotices = 0 := by
  unfold Block.gaspEnded
  extract_lets m c d
  have hc : c.gaspClose t = none ∧ c.get (Reg.MAC_TRIAD_GASP t) = 0 :=
    ⟨Store.get_put_same (fun _ => none) b.brg.gaspClose t none,
      (Block.get_set_same _ _ _ (Nat.le_of_ble_eq_true rfl)).trans (Nat.zero_mod _)⟩
  clear_value c
  have hd : d.gaspClose t = none ∧ d.get (Reg.MAC_TRIAD_GASP t) = 0 ∧ (d.macTriad t).gaspNotices = 0 :=
    ⟨hc.1, hc.2, by rw [show d.macTriad t = _ from c.macTriad_setMacTriad t t _, if_pos rfl]⟩
  clear_value d
  have hend := (d.keepsWindows_post 0x0703 0 19 [(1, t), (2, m.gaspNotices), (2, m.gaspDups)]).trans (Block.keepsWindows_tryHold _)
  obtain ⟨h1, h2, h3⟩ := hd
  refine ⟨?_, (hend.regs.get fun h => h t ht rfl).trans h2, ?_⟩
  · unfold Block.gaspClose at h1 ⊢
    rw [hend.closes, h1]
  · unfold Block.macTriad at h3 ⊢
    rw [hend.triads, h3]

/-! ### The commands of the calendar -/

theorem Block.gated_triads (b : Block) : b.gated.mac.triads = b.mac.triads := by
  unfold Block.gated
  extract_lets d1 d2
  have h1 : d1.mac.triads = b.mac.triads := by
    unfold d1
    split <;> rfl
  have h2 : d2.mac.triads = b.mac.triads := by
    unfold d2
    split
    · exact h1
    · exact h1
  split
  · rw [Block.muteOutputs_mac, h2]
  · exact h2

theorem Block.gated_macTriad (b : Block) (t : Nat) : b.gated.macTriad t = b.macTriad t := by
  unfold Block.macTriad
  rw [Block.gated_triads]

theorem Reg.ne_spStat_of_mac {off : Nat} (h : off < 0xE0000) : off ≠ Reg.SP_STAT 1 := by
  simp only [Reg.SP_STAT]
  omega

theorem completes_superframeStart {s : State} {t : Fin 8} (hrun : s.blk.running = true)
    (hn : s.blk.get Reg.MAC_SFN_SFN ≠ s.blk.superframe % 2 ^ 29) :
    (s.blk.img.schedPending = [] → Completes .superframeStart s fun b =>
        b.get Reg.MAC_SFN_SFN = s.blk.superframe % 2 ^ 29 ∧ (b.macTriad t).cpNext = none ∧
        (s.blk.triadBound t = true → b.get (Reg.MAC_TRIAD_CP_END t) =
          ((s.blk.macTriad t).cpNext.getD (s.blk.get Reg.MAC_CP_CTRL_CP_END_MIN)) % 1024)) ∧
    Completes .superframeStart s fun b => (b.macTriad t).cpNext = none ∧ b.img.schedPending = [] := by
  obtain ⟨h1, h2, h3⟩ := Block.superframeStart_shows hrun hn t t.isLt
  refine ⟨fun hs => completes_of_next (exec_superframeStart s) ?_, completes_of_next (exec_superframeStart s) ?_⟩
  · obtain ⟨h4, h5⟩ := h3 hs
    rw [Block.gated_macTriad, Block.gated_get_other _ _ (by decide),
      Block.gated_get_other _ _ (Reg.ne_spStat_of_mac (by simp only [Reg.MAC_TRIAD]; omega))]
    exact ⟨h4, h1, h5⟩
  · rw [Block.gated_macTriad, Block.gated_img]
    exact ⟨h1, h2⟩

theorem completes_cairnTransmit (s : State) (t : Fin 8) :
    let cairn : Tx → Bool := fun x => (x.offer.type == typeCairn || x.offer.type == typeCairnC) && x.offer.triad == t.val
    (s.blk.dev = .service → (s.blk.mac.txs.map (·.offer.num)).Nodup → Completes (.cairnTransmit t) s fun b =>
      (∀ x ∈ s.blk.mac.txs, cairn x = true → x.stage = .admitted → ahead x.start (s.blk.brg.now + 1) = false →
        x.offer.parcels = [] → (b.tx x.offer.num).map (·.stage) = some .onLine ∧
          ∀ n ∈ x.ports, n < 24 → s.blk.transmits n = true → (b.port n).switches = true) ∧
      (∀ x ∈ s.blk.mac.txs, cairn x = false → b.tx x.offer.num = some x)) ∧
    (s.blk.mac.txs.filter cairn = [] → Completes (.cairnTransmit t) s fun b =>
      b.mac.offers = s.blk.mac.offers ∧ (s.blk.dev = .service → b = s.blk)) := by
  intro cairn
  refine ⟨fun hdev hn => completes_of_next (exec_cairnTransmit t s) ?_, fun hnone => completes_of_next (exec_cairnTransmit t s) ?_⟩
  · obtain ⟨h1, h2, h3⟩ := Block.transmitCairn_shows t.val hn
    rw [Block.gated_service _ (h1.trans hdev)]
    refine ⟨fun x hx hc hs ha hp => ?_, h3⟩
    obtain ⟨h4, h5⟩ := h2 x hx hc hs ha hp
    exact ⟨h4, fun n hn' _ ht => (h5 n hn' ht).1⟩
  · have hidle : s.blk.transmitCairn t = s.blk := by
      rw [Block.transmitCairn_eq, show s.blk.mac.txs.filter (Tx.cairnOf t.val) = [] from hnone]
      rfl
    rw [hidle]
    exact ⟨Block.gated_offers _, fun hdev => Block.gated_service _ hdev⟩

theorem completes_notchRecompute {s : State} {t : Fin 8} (hdev : s.blk.dev = .service) (hrun : s.blk.running = true)
    (hpend : (s.blk.macTriad t).pending = none)
    (hint : ∀ sf, (s.blk.macTriad t).announced = some sf → sf + s.blk.get Reg.PT_NOTCH_CTRL_INTERVAL * 16 ≤ s.blk.superframe) :
    let old := (s.blk.macTriad t).inForce
    let new := if s.blk.on Reg.PT_NOTCH_CTRL_ENABLE then s.blk.patternsFor t old.patterns else []
    (new ≠ old.patterns → Completes (.notchRecompute t) s fun b =>
      ∃ set eff, (b.macTriad t).pending = some (set, eff) ∧ set.patterns = new ∧
        set.version = (old.version + 1) % 256 ∧ eff = s.blk.superframe + 2 * set.fragments.length + 8) ∧
    (new = old.patterns → Completes (.notchRecompute t) s fun b => b = s.blk) := by
  obtain ⟨hdue, hsame⟩ := Block.recomputeNotch_due hdev hrun hpend hint
  refine ⟨fun hne => completes_of_next (exec_notchRecompute t s) ?_, fun he => completes_of_next (exec_notchRecompute t s) ?_⟩
  · obtain ⟨hd, h⟩ := hdue hne
    rw [Block.gated_service _ (hd.trans hdev)]
    exact h
  · rw [hsame he, Block.gated_service _ hdev]

/-- Settles O37: each event of the calendar by the block it returns. -/
theorem calendarOfTheSuperframe : Obligations.CalendarOfTheSuperframe := by
  unfold Obligations.CalendarOfTheSuperframe
  intro s t
  refine ⟨fun hrun hn => (completes_superframeStart hrun hn).1, fun hrun hn => (completes_superframeStart hrun hn).2, fun h => ?_,
    fun hdev hrun hbin hnone => ?_, fun h => ?_, completes_cairnTransmit s t, fun hdev hrun hpend hint => completes_notchRecompute hdev hrun hpend hint,
    fun h => ?_, fun c hc ha => ?_, fun h => ?_⟩
  · refine completes_of_next (exec_superframeStart s) ?_
    rw [Block.superframeStart_idle h]
    exact Block.keepsBut_gated_of_regs rfl
  · refine completes_of_next (exec_cpEndChoice t s) ?_
    rw [Block.chooseCpEnd_due hdev hrun hbin hnone, Block.gated_service (s.blk.setMacTriad _ _) hdev, Block.macTriad_setMacTriad,
      if_pos rfl]
    exact ⟨rfl, (s.blk.keepsBut_refl []).of_regs rfl⟩
  · refine completes_of_next (exec_cpEndChoice t s) ?_
    rw [Block.chooseCpEnd_idle h]
    exact ⟨Block.gated_macTriad _ _, Block.keepsBut_gated_of_regs rfl⟩
  · refine completes_of_next (exec_notchRecompute t s) ?_
    rw [Block.recomputeNotch_idle h]
    exact ⟨Block.gated_macTriad _ _, Block.keepsBut_gated_of_regs rfl⟩
  · refine completes_of_next (exec_lastGaspClose t s) ?_
    have hended : s.blk.gaspTimed t (s.blk.gaspClose t) = s.blk.gaspEnded t := by
      rw [hc]
      exact if_neg (by rw [ha]; exact Bool.false_ne_true)
    obtain ⟨h1, h2, h3⟩ := s.blk.gaspEnded_shows t t.isLt
    rw [hended, Block.gated_macTriad, Block.gated_get_other _ _ (Reg.ne_spStat_of_mac (by simp only [Reg.MAC_TRIAD]; omega))]
    refine ⟨?_, h2, h3⟩
    unfold Block.gaspClose at h1 ⊢
    rw [Block.gated_brg, h1]
  · refine completes_of_next (exec_lastGaspClose t s) ?_
    have hidle : s.blk.gaspTimed t (s.blk.gaspClose t) = s.blk := by
      cases hc : s.blk.gaspClose t with
      | none => rfl
      | some c => exact if_pos (h c hc)
    rw [hidle]
    exact Block.keepsBut_gated_of_regs rfl

end Sys2Proof.Machine

/-!
SYNCs and the join of the Chain (R457, R460 to R467, R472, R536): sending, damaged cells, the bypasses, the waits and the echo.
-/

namespace Sys2Proof.Machine

/-! ### The output stages in SETTLE and SERVICE -/

theorem DevState.not_silent_of_joins {d : DevState} (h : d.joins = true) : d.silent = false := by
  cases d with
  | settle => rfl
  | service => rfl
  | hold => rfl
  | reset => cases h
  | load => cases h
  | quiet => cases h

/-- Where the rings are joined the output stages leave their bypasses. -/
theorem Block.gated_bypasses {b : Block} (h : b.dev.joins = true) :
    b.gated.chain.bypassA = b.chain.bypassA ∧ b.gated.chain.bypassB = b.chain.bypassB := by
  have hrel : ∀ c : Block, c = (if b.dev = .service then b else b.releaseLine) →
      c.dev = b.dev ∧ c.chain.bypassA = b.chain.bypassA ∧ c.chain.bypassB = b.chain.bypassB := by
    rintro c rfl
    split <;> exact ⟨rfl, rfl, rfl⟩
  unfold Block.gated
  extract_lets c d
  obtain ⟨hdev, hA, hB⟩ := hrel c rfl
  have hd : d = c := if_pos (hdev ▸ h)
  clear_value c
  rw [hd, if_neg (by rw [hdev, DevState.not_silent_of_joins h]; exact Bool.false_ne_true)]
  exact ⟨hA, hB⟩

theorem Block.gated_cells (b : Block) : b.gated.chain.cells = b.chain.cells := by rw [b.gated_chain]

theorem Block.keepsBut_gated_of_joins {b c : Block} {offs : List Nat} (h : b.keepsBut c offs) (hd : c.dev.joins = true) :
    b.keepsBut c.gated offs := h.gated_of_not_silent (DevState.not_silent_of_joins hd)

theorem DevState.joins_of {d : DevState} (h : d = .settle ∨ d = .service) : d.joins = true := by
  rcases h with h | h <;> rw [h] <;> rfl

/-! ### Sending -/

/-- The block with one more cell under way. -/
def Block.withCell (b : Block) (x : OutCell) : Block := b.withChain { b.chain with cells := b.chain.cells ++ [x] }

/-- A cell that no bypass and no wrap diverts goes out on its ring. -/
theorem Block.putCell_out {b : Block} {ringB : Bool} (hby : b.bypassed ringB = false) (hw : b.wrapped ringB = false) (bytes : List Byte) :
    b.putCell ringB bytes = b.withCell { ringB := ringB, bytes := bytes } := by
  unfold Block.putCell
  rw [hw]
  exact if_neg (by rw [if_neg Bool.false_ne_true, hby]; exact Bool.false_ne_true)

theorem exec_syncSend (s : State) : exec .syncSend s = .next { s with blk := s.blk.sendSync.gated } := rfl

/-- The registers of a SYNC that the master sends. -/
def Block.syncNumbered (b : Block) : Block :=
  (b.set Reg.CHN_ROSTER_PRESENT (b.get Reg.CHN_ROSTER_PRESENT ||| 2 ^ b.rank)).set Reg.CHN_SYNC_SEQ_SEQ
    ((b.get Reg.CHN_SYNC_SEQ_SEQ + 1) % 65536)

theorem Block.rank_lt (b : Block) : b.rank < 8 := by
  unfold Block.rank Block.get bitsAt
  exact Nat.mod_lt _ (by decide)

theorem Block.syncNumbered_shows (b : Block) :
    b.syncNumbered.get Reg.CHN_SYNC_SEQ_SEQ = (b.get Reg.CHN_SYNC_SEQ_SEQ + 1) % 65536 ∧
    b.syncNumbered.bit Reg.CHN_ROSTER_PRESENT b.rank = true ∧ b.keepsBut b.syncNumbered [Reg.CHN_SYNC_SEQ, Reg.CHN_ROSTER] := by
  have hp : b.get Reg.CHN_ROSTER_PRESENT ||| 2 ^ b.rank < 2 ^ 8 :=
    Nat.or_lt_two_pow (bitsAt_lt _ _ _) (Nat.pow_lt_pow_right (by decide) b.rank_lt)
  unfold Block.syncNumbered
  refine ⟨?_, ?_, ?_⟩
  · rw [Block.get_set_same _ _ _ (by decide)]
    exact Nat.mod_eq_of_lt (Nat.mod_lt _ (by decide))
  · rw [Block.bit_of_get (Block.get_of_rd (Block.rd_set_other _ _ _ _ (by decide)))]
    unfold Block.bit
    rw [Block.get_set_same _ _ _ (by decide), Nat.mod_eq_of_lt hp, Nat.testBit_or, Nat.testBit_two_pow_self, Bool.or_true]
  · exact ((b.keepsBut_refl _).set (f := Reg.CHN_ROSTER_PRESENT) _ (by simp)).set (f := Reg.CHN_SYNC_SEQ_SEQ) _ (by simp)

theorem Block.sendSync_eq {b : Block} (hen : b.chainEnabled = true) (hrole : b.chain.role = .master) (hrun : b.running = true) :
    b.sendSync = b.syncNumbered.sendCell kindSync 0 true
      ((b.set Reg.CHN_ROSTER_PRESENT (b.get Reg.CHN_ROSTER_PRESENT ||| 2 ^ b.rank)).syncBody ((b.get Reg.CHN_SYNC_SEQ_SEQ + 1) % 65536)) := by
  unfold Block.sendSync
  refine (if_neg (by rw [hen, hrole, hrun]; decide)).trans ?_
  dsimp only
  rw [show (b.set Reg.CHN_ROSTER_PRESENT (b.get Reg.CHN_ROSTER_PRESENT ||| 2 ^ b.rank)).get Reg.CHN_SYNC_SEQ_SEQ =
    b.get Reg.CHN_SYNC_SEQ_SEQ from Block.get_of_rd (Block.rd_set_other _ _ _ _ (by decide))]
  rfl

theorem Block.sendSync_idle {b : Block} (h : b.chain.role ≠ .master) : b.sendSync = b := by
  unfold Block.sendSync
  refine if_pos ?_
  rw [bne_iff_ne.2 h, Bool.or_true]
  rfl

/-- A cell sent on both rings, where neither is bypassed nor wrapped. -/
theorem Block.sendCell_out {b : Block} (hA : b.chain.bypassA = false) (hB : b.chain.bypassB = false) (hwA : b.wrapped false = false)
    (hwB : b.wrapped true = false) (kind dst : Nat) (bcast : Bool) (body : List Byte) :
    (b.sendCell kind dst bcast body).chain.cells = b.chain.cells ++
      [{ ringB := false, bytes := cellBytes kind b.rank dst bcast b.chain.seq body },
       { ringB := true, bytes := cellBytes kind b.rank dst bcast b.chain.seq body }] := by
  unfold Block.sendCell
  dsimp only
  rw [Block.putCell_out (b := b.nextSeq) (ringB := false) hA hwA]
  have hout := Block.putCell_out (b := b.nextSeq.withCell { ringB := false, bytes := cellBytes kind b.rank dst bcast b.chain.seq body })
    (ringB := true) hB hwB (cellBytes kind b.rank dst bcast b.chain.seq body)
  exact (congrArg (fun c : Block => c.chain.cells) hout).trans (List.append_assoc _ _ _)

theorem Block.syncBody_congr {b c : Block} (seq : Nat) (hget : ∀ f : Field, f.off ≠ Reg.CHN_SYNC_SEQ → c.get f = b.get f)
    (hbrg : c.brg = b.brg) (hA : c.chain.dstepA = b.chain.dstepA) (hB : c.chain.dstepB = b.chain.dstepB) (ha : c.dtm.a = b.dtm.a)
    (hb : c.dtm.b = b.dtm.b) : c.syncBody seq = b.syncBody seq := by
  unfold Block.syncBody Block.fineBearing Block.rank
  rw [hget _ (by decide), hget Reg.CHN_ID_RANK (by decide), hget Reg.CHN_ROSTER_PRESENT (by decide),
    hget Reg.CHN_ROSTER_READY (by decide), hget Reg.BRG_FREQ_FREQ (by decide), hbrg, hA, hB, ha, hb]

theorem completes_syncSend {s : State} (hen : s.blk.chainEnabled = true) (hrole : s.blk.chain.role = .master)
    (hrun : s.blk.running = true) (hA : s.blk.chain.bypassA = false) (hB : s.blk.chain.bypassB = false)
    (hwA : s.blk.wrapped false = false) (hwB : s.blk.wrapped true = false) (hdev : s.blk.dev = .settle ∨ s.blk.dev = .service) :
    Completes .syncSend s fun b =>
      let seq := (s.blk.get Reg.CHN_SYNC_SEQ_SEQ + 1) % 65536
      let bytes := cellBytes kindSync s.blk.rank 0 true s.blk.chain.seq (b.syncBody seq)
      b.get Reg.CHN_SYNC_SEQ_SEQ = seq ∧ b.bit Reg.CHN_ROSTER_PRESENT s.blk.rank = true ∧
      b.chain.cells = s.blk.chain.cells ++ [{ ringB := false, bytes := bytes }, { ringB := true, bytes := bytes }] ∧
      s.blk.keepsBut b [Reg.CHN_SYNC_SEQ, Reg.CHN_ROSTER] := by
  refine completes_of_next (exec_syncSend s) ?_
  dsimp only
  rw [Block.sendSync_eq hen hrole hrun]
  obtain ⟨hseq, hbit, hkeep⟩ := s.blk.syncNumbered_shows
  have hrest : s.blk.syncNumbered.chain = s.blk.chain ∧ s.blk.syncNumbered.brg = s.blk.brg ∧ s.blk.syncNumbered.dtm = s.blk.dtm ∧
      s.blk.syncNumbered.dev = s.blk.dev := ⟨rfl, rfl, rfl, rfl⟩
  have hset : ∀ f : Field, f.off ≠ Reg.CHN_SYNC_SEQ → s.blk.syncNumbered.get f =
      (s.blk.set Reg.CHN_ROSTER_PRESENT (s.blk.get Reg.CHN_ROSTER_PRESENT ||| 2 ^ s.blk.rank)).get f := fun f hf =>
    Block.get_of_rd (Block.rd_set_other _ _ _ _ hf)
  have hold : (s.blk.set Reg.CHN_ROSTER_PRESENT (s.blk.get Reg.CHN_ROSTER_PRESENT ||| 2 ^ s.blk.rank)).chain = s.blk.chain ∧
      (s.blk.set Reg.CHN_ROSTER_PRESENT (s.blk.get Reg.CHN_ROSTER_PRESENT ||| 2 ^ s.blk.rank)).brg = s.blk.brg ∧
      (s.blk.set Reg.CHN_ROSTER_PRESENT (s.blk.get Reg.CHN_ROSTER_PRESENT ||| 2 ^ s.blk.rank)).dtm = s.blk.dtm := ⟨rfl, rfl, rfl⟩
  generalize s.blk.set Reg.CHN_ROSTER_PRESENT (s.blk.get Reg.CHN_ROSTER_PRESENT ||| 2 ^ s.blk.rank) = e at hset hold ⊢
  generalize s.blk.syncNumbered = c at hseq hbit hkeep hrest hset ⊢
  obtain ⟨hchain, hbrg, hdtm, hcdev⟩ := hrest
  have hrank : c.rank = s.blk.rank := hkeep.get (by decide)
  have hw : ∀ r, c.wrapped r = s.blk.wrapped r := fun r => by
    unfold Block.wrapped
    rw [Block.on_congr (hkeep.get (f := Reg.CHN_STAT_WRAP_B) (by decide)), Block.on_congr (hkeep.get (f := Reg.CHN_STAT_WRAP_A) (by decide))]
  have hcells := Block.sendCell_out (b := c) (by rw [hchain]; exact hA) (by rw [hchain]; exact hB) ((hw _).trans hwA) ((hw _).trans hwB)
    kindSync 0 true (e.syncBody ((s.blk.get Reg.CHN_SYNC_SEQ_SEQ + 1) % 65536))
  have hdt := (c.byReplica_sendCell kindSync 0 true (e.syncBody ((s.blk.get Reg.CHN_SYNC_SEQ_SEQ + 1) % 65536))).dtm
  have hring := c.onRing_sendCell kindSync 0 true (e.syncBody ((s.blk.get Reg.CHN_SYNC_SEQ_SEQ + 1) % 65536))
  generalize hd : c.sendCell kindSync 0 true (e.syncBody ((s.blk.get Reg.CHN_SYNC_SEQ_SEQ + 1) % 65536)) = d at hcells hdt hring ⊢
  have hjoins : d.dev.joins = true := by rw [hring.dev, hcdev]; exact DevState.joins_of hdev
  have hregs : d.gated.regs = c.regs := (Block.gated_regs _ (DevState.not_silent_of_joins hjoins)).trans hring.regs
  have hbody : d.gated.syncBody ((s.blk.get Reg.CHN_SYNC_SEQ_SEQ + 1) % 65536) =
      e.syncBody ((s.blk.get Reg.CHN_SYNC_SEQ_SEQ + 1) % 65536) := by
    obtain ⟨hoc, hob, hod⟩ := hold
    obtain ⟨hta, htb⟩ := d.gated_times
    have hdc : d.dtm = e.dtm := hdt.trans (hdtm.trans hod.symm)
    refine Block.syncBody_congr _ (fun f hf => (Block.get_of_regs hregs f).trans (hset f hf)) ?_ ?_ ?_ (hta.trans (by rw [hdc]))
      (htb.trans (by rw [hdc]))
    · rw [Block.gated_brg, hring.brg, hbrg, hob]
    · rw [Block.gated_chain, hring.chain, hchain, hoc]
    · rw [Block.gated_chain, hring.chain, hchain, hoc]
  rw [hbody, Block.gated_cells, hcells, hrank, hchain, Block.get_of_regs hregs, Block.bit_of_get (Block.get_of_regs hregs _)]
  exact ⟨hseq, hbit, rfl, hkeep.of_regs hregs⟩

end Sys2Proof.Machine

/-!
SYNCs and the join of the Chain (R457, R460 to R465, R472, R482): what a SYNC makes of the device that hears it.
-/

namespace Sys2Proof.Machine

/-! ### The refresh of the Chain leaves Datum's registers -/

/-- Registers outside Datum's and Bearing's. -/
def besideDatum (off : Nat) : Prop := off < 0x50000 ∨ 0x60000 ≤ off

theorem besideDatum_of_record : ∀ off ∈ recordRegs, besideDatum off := fun off hoff => by
  by_contra h
  unfold besideDatum at h
  exact notMem_recordRegs (off := off) (by omega) hoff

section
variable (b : Block)

theorem Block.besideDatum_sendPiece (what piece index : Nat) (bytes : List Byte) :
    Block.writesIn besideDatum b (b.sendPiece what piece index bytes) := by
  unfold Block.sendPiece
  split
  · exact ((Block.writesIn_refl _ b).inc (f := Reg.TRV_REPL_SEQ_RSEQ) (.inr (by decide))).of_regs (Block.sendCell_regs _ _ _ _ _)
  · exact Block.writesIn_refl _ _

/-- A relation that each piece sent keeps holds over the initial copy. -/
theorem Block.initialCopy_ind {R : Block → Block → Prop} (hrefl : ∀ d, R d d) (htrans : ∀ {d e f}, R d e → R e f → R d f)
    (hpiece : ∀ (d : Block) what piece index bytes, R d (d.sendPiece what piece index bytes)) : R b b.initialCopy := by
  have fold : ∀ {α : Type} (f : Block → α → Block) (l : List α) (d : Block), (∀ d x, R d (f d x)) → R d (l.foldl f d) := by
    intro α f l
    induction l with
    | nil => exact fun d _ => hrefl d
    | cons x l ih => exact fun d hf => htrans (hf d x) (ih _ hf)
  have hrep : ∀ (d : Block) what index old new, R d (d.replicate what index old new) := fun d what index old new => by
    unfold Block.replicate
    split
    · exact hrefl d
    · refine fold _ _ _ fun e i => ?_
      split
      · exact hrefl e
      · exact hpiece _ _ _ _ _
  unfold Block.initialCopy
  extract_lets b1 b2 b3 b4 b5 b6 b7 notch b8
  have h1 : R b b1 := fold _ _ _ fun d _ => hrep d _ _ _ _
  have h2 : R b1 b2 := fold _ _ _ fun d _ => hrep d _ _ _ _
  have h3 : R b2 b3 := fold _ _ _ fun d _ => hrep d _ _ _ _
  have h4 : R b3 b4 := fold _ _ _ fun d _ => hrep d _ _ _ _
  have h5 : R b4 b5 := fold _ _ _ fun d _ => fold _ _ _ fun e _ => hrep e _ _ _ _
  have h6 : R b5 b6 := fold _ _ _ fun d _ => fold _ _ _ fun e _ => hrep e _ _ _ _
  have h7 : R b6 b7 := fold _ _ _ fun d _ => hpiece d _ _ _ _
  have h8 : R b7 b8 := fold _ _ _ fun d t => by
    extract_lets e m f
    split
    · exact htrans (htrans (hrep _ _ _ _ _) (hrep _ _ _ _ _)) (hrep _ _ _ _ _)
    · exact htrans (hrep _ _ _ _ _) (hrep _ _ _ _ _)
  clear_value b8
  exact htrans (htrans (htrans (htrans (htrans (htrans (htrans (htrans h1 h2) h3) h4) h5) h6) h7) h8) (hpiece _ _ _ _ _)

theorem Block.besideDatum_refreshCounts : Block.writesIn besideDatum b b.refreshCounts := by
  unfold Block.refreshCounts
  extract_lets live c
  have hc : Block.writesIn besideDatum b c := (Block.writesIn_refl _ b).setAll fun p hp => by
    simp only [List.mem_cons, List.not_mem_nil, or_false] at hp
    rcases hp with rfl | rfl | rfl <;> exact .inr (by simp [Reg.TRV_STAT, Reg.TRV_RELAY_STAT])
  clear_value c live
  refine hc.trans (.foldl _ _ _ fun t _ d => (Block.writesIn_refl _ d).setAll fun p hp => ?_)
  simp only [List.mem_cons, List.not_mem_nil, or_false] at hp
  rcases hp with rfl | rfl | rfl | rfl <;> refine .inr ?_ <;> simp only [Reg.TRV_PH_A, Reg.TRV_PH_B] <;> omega

theorem le_cxPage (page k : Nat) : 0x60000 ≤ Reg.cxPage page + k := by
  unfold Reg.cxPage
  split <;> omega

theorem Block.besideDatum_emptyReplica : Block.writesIn besideDatum b b.emptyReplica := by
  have hpage : ∀ d : Block, Block.writesIn besideDatum d (d.refreshPage linkPage) := fun d off hoff =>
    d.refreshPage_rd _ _ (fun h => hoff (.inr (h ▸ le_cxPage _ 0x4))) fun h => hoff (.inr (h ▸ le_cxPage _ 0xC))
  unfold Block.emptyReplica
  extract_lets x ch c
  have hc : Block.writesIn besideDatum b c := fun _ _ => rfl
  clear_value x ch c
  exact (hc.trans (hpage c)).trans (Block.besideDatum_refreshCounts _)

theorem Block.besideDatum_refreshLinked : Block.writesIn besideDatum b b.refreshLinked := by
  unfold Block.refreshLinked
  extract_lets up c
  have hc : Block.writesIn besideDatum b c := (Block.writesIn_refl _ b).setOn (f := Reg.TRV_REPL_STAT_LINKED) _ (.inr (by decide))
  clear_value c
  split
  · exact Block.writesIn_refl _ _
  · split
    · exact hc
    · split
      · exact hc.trans (c.initialCopy_ind (R := Block.writesIn besideDatum) (Block.writesIn_refl _) Block.writesIn.trans
          Block.besideDatum_sendPiece)
      · exact hc.trans c.besideDatum_emptyReplica

theorem Block.besideDatum_refreshRemote : Block.writesIn besideDatum b b.refreshRemote := by
  refine .foldl _ _ _ fun n _ d => ?_
  dsimp only
  split
  · exact Block.writesIn_refl _ _
  · exact ((Block.writesIn_refl _ d).setBit (f := Reg.CHN_PAIR_STAT_REMOTE) _ _ (.inr (by decide))).post _ _ _ _ besideDatum_of_record

theorem Block.besideDatum_refreshChain : Block.writesIn besideDatum b b.refreshChain := by
  unfold Block.refreshChain
  refine (b.besideDatum_refreshLinked.trans (Block.writesIn.setAll (Block.writesIn_refl _ _) fun p hp => ?_)).trans
    (Block.besideDatum_refreshRemote _)
  simp only [List.mem_cons, List.not_mem_nil, or_false] at hp
  rcases hp with rfl | rfl <;> exact .inr (by simp [Reg.CHN_STAT])

end

/-! ### A device that follows -/

theorem Block.enterFollow_shows (b : Block) : b.enterFollow.brg.state = .follow ∧ b.enterFollow.brg.now = b.brg.now ∧
    b.enterFollow.dev = b.dev ∧ b.enterFollow.chain = b.chain ∧ b.enterFollow.dtm = b.dtm ∧
    b.keepsBut b.enterFollow [Reg.BRG_STATUS] := by
  unfold Block.enterFollow
  have hbrg := b.setBrg_brg .follow
  have hregs : b.keepsBut (b.setBrg .follow) [Reg.BRG_STATUS] :=
    ((b.keepsBut_refl _).set (f := Reg.BRG_STATUS_STATE) BrgState.follow.code (by simp)).of_regs (b.setBrg_regs .follow)
  have hdev : (b.setBrg .follow).dev = b.dev ∧ (b.setBrg .follow).chain = b.chain ∧ (b.setBrg .follow).dtm = b.dtm :=
    ⟨b.setBrg_dev _, b.setBrg_chain _, b.setBrg_dtm _⟩
  generalize b.setBrg .follow = c at hbrg hregs hdev
  obtain ⟨hdev, hchain, hdtm⟩ := hdev
  have hset := c.set_brg Reg.BRG_STATUS_SRC 2
  have hkeep : b.keepsBut (c.set Reg.BRG_STATUS_SRC 2) [Reg.BRG_STATUS] := hregs.set (f := Reg.BRG_STATUS_SRC) _ (by simp)
  have hrest : (c.set Reg.BRG_STATUS_SRC 2).dev = c.dev ∧ (c.set Reg.BRG_STATUS_SRC 2).chain = c.chain ∧
      (c.set Reg.BRG_STATUS_SRC 2).dtm = c.dtm := ⟨c.set_dev _ _, c.set_chain _ _, c.set_dtm _ _⟩
  generalize c.set Reg.BRG_STATUS_SRC 2 = d at hset hkeep hrest
  dsimp only
  exact ⟨by rw [hset, hbrg], by rw [hset, hbrg], hrest.1.trans hdev, hrest.2.1.trans hchain, hrest.2.2.trans hdtm,
    hkeep.of_regs rfl⟩

theorem Block.rejoinChain_shows (b : Block) (e : Int) : (b.rejoinChain e).brg.state = .follow ∧ (b.rejoinChain e).dev = b.dev ∧
    b.keepsBut (b.rejoinChain e) [Reg.BRG_STATUS] := by
  unfold Block.rejoinChain
  extract_lets ch c d
  have hcd : c.dev = b.dev ∧ b.keepsBut c [Reg.BRG_STATUS] := ⟨rfl, (b.keepsBut_refl _).of_regs rfl⟩
  clear_value c
  obtain ⟨hs, -, hd, -, -, hk⟩ := c.enterFollow_shows
  have hd' : d.brg.state = .follow ∧ d.dev = b.dev ∧ b.keepsBut d [Reg.BRG_STATUS] := ⟨hs, hd.trans hcd.1, hcd.2.trans hk⟩
  clear_value d
  obtain ⟨hs, hd, hk⟩ := hd'
  split
  · exact ⟨hs, hd, hk.of_regs rfl⟩
  · split
    · exact ⟨(congrArg BearingSt.state (Block.set_brg _ _ _)).trans hs, (Block.set_dev _ _ _).trans hd, Block.keepsBut.set (hk.of_regs rfl) (f := Reg.BRG_STATUS_RESEAT_PENDING) _ (by simp)⟩
    · exact ⟨hs, hd, hk.of_regs rfl⟩

/-- What a follower's place shows. -/
structure Block.followsAs (b c : Block) (standby : Bool) (p : Nat) : Prop where
  role : c.chain.role = (if standby then .standby else .member)
  masterRank : c.chain.masterRank = p
  followA : c.on (Reg.DTM_STAT_FOLLOW 0) = true
  followB : c.on (Reg.DTM_STAT_FOLLOW 1) = true
  dtm : c.dtm = b.dtm
  brg : c.brg = b.brg
  dev : c.dev = b.dev

theorem Block.followFlags_on (b : Block) : (b.followFlags true).on (Reg.DTM_STAT_FOLLOW 0) = true ∧
    (b.followFlags true).on (Reg.DTM_STAT_FOLLOW 1) = true := by
  unfold Block.followFlags Block.setOn
  refine ⟨on_of_get_one ?_, on_of_get_one ?_⟩
  · rw [Block.get_set_apart _ _ _ _ (by decide) (by decide), Block.get_set_same _ _ _ (by decide)]
    rfl
  · exact Block.get_set_same _ _ _ (by decide)

theorem Block.takeFollower_shows (b : Block) (standby : Bool) (p : Nat) : b.followsAs (b.takeFollower standby p) standby p := by
  unfold Block.takeFollower
  extract_lets c ch d
  have hc : c.chain.role = (if standby then .standby else .member) ∧ c.dtm = b.dtm ∧ c.brg = b.brg ∧ c.dev = b.dev := by
    refine ⟨(congrArg ChainSt.role ((Block.set_chain _ _ _).trans (Block.set_chain _ _ _))).trans (b.setRole_role _), ?_, ?_, ?_⟩
    · exact ((Block.set_dtm _ _ _).trans (Block.set_dtm _ _ _)).trans (b.setRole_dtm _)
    · exact ((Block.set_brg _ _ _).trans (Block.set_brg _ _ _)).trans (b.setRole_brg _)
    · exact ((Block.set_dev _ _ _).trans (Block.set_dev _ _ _)).trans (b.setRole_dev _)
  obtain ⟨hA, hB⟩ := (b.setRole (if standby then .standby else .member)).followFlags_on
  have hd : d.chain.role = c.chain.role ∧ d.chain.masterRank = p ∧ d.dtm = c.dtm ∧ d.brg = c.brg ∧ d.dev = c.dev ∧
      d.regs = c.regs := ⟨rfl, rfl, rfl, rfl, rfl, rfl⟩
  have hA' : c.on (Reg.DTM_STAT_FOLLOW 0) = true := hA
  have hB' : c.on (Reg.DTM_STAT_FOLLOW 1) = true := hB
  clear_value c ch d
  obtain ⟨hrole, hdtm, hbrg, hdev⟩ := hc
  obtain ⟨hr, hm, hdt, hbr, hdv, hregs⟩ := hd
  have hflag : ∀ f : Field, f.off < 0x60000 → d.refreshPorts.on f = c.on f := fun f hf => by
    refine Block.on_congr ((Block.get_of_rd (Block.rd_refreshPorts _ _ fun n => ?_)).trans (Block.get_of_regs hregs f))
    simp only [Reg.LP_STATUS]
    omega
  exact
    { role := by rw [Block.refreshPorts_chain, hr, hrole]
      masterRank := by rw [Block.refreshPorts_chain, hm]
      followA := (hflag _ (by decide)).trans hA'
      followB := (hflag _ (by decide)).trans hB'
      dtm := by rw [Block.refreshPorts_dtm, hdt, hdtm]
      brg := by rw [Block.refreshPorts_brg, hbr, hbrg]
      dev := by rw [Block.refreshPorts_dev, hdv, hdev] }

/-- What the join makes of a device that hears its first SYNC. -/
structure Block.joinsAs (b : Block) (v : SyncView) (c : Block) : Prop where
  role : c.chain.role = (if b.rank ≤ 1 then .standby else .member)
  masterRank : c.chain.masterRank = v.rank
  followA : c.on (Reg.DTM_STAT_FOLLOW 0) = true
  followB : c.on (Reg.DTM_STAT_FOLLOW 1) = true
  timeA : c.dtm.a.t = v.timeA
  timeB : c.dtm.b.t = v.timeB
  state : c.brg.state = .follow
  now : b.running = false → c.brg.now = BitVec.ofNat 48 (v.bearing / 65536)
  dev : c.dev = b.dev

theorem Block.startBearing_shows (b : Block) (v : Bearing) (lead : Nat) : (b.startBearing v lead).brg.now = v ∧
    (b.startBearing v lead).dev = b.dev ∧ (b.startBearing v lead).regs = b.regs := ⟨rfl, rfl, rfl⟩

/-- The block whose Bearing goes on at a part of a unit, without an error. -/
def Block.bearingFrom (b : Block) (acc : Nat) : Block := { b with brg := { b.brg with acc := acc, steer := 0, err := 0 } }

theorem Block.bearingFrom_shows (b : Block) (acc : Nat) : (b.bearingFrom acc).brg.state = b.brg.state ∧
    (b.bearingFrom acc).brg.now = b.brg.now ∧ (b.bearingFrom acc).dev = b.dev ∧ (b.bearingFrom acc).regs = b.regs :=
  ⟨rfl, rfl, rfl, rfl⟩

/-- Bearing as the first SYNC sets it. -/
def Block.joinBearing (b : Block) (v : SyncView) : Block :=
  if b.running then b.rejoinChain (b.syncError v)
  else (b.startBearing (BitVec.ofNat 48 (v.bearing / 65536)) 0).enterFollow.bearingFrom (v.bearing % 65536 * 10 ^ 15 / 65536)

theorem Block.startBearing_follow (b : Block) (now : Bearing) (acc : Nat) :
    ((b.startBearing now 0).enterFollow.bearingFrom acc).brg.state = .follow ∧
    ((b.startBearing now 0).enterFollow.bearingFrom acc).dev = b.dev ∧
    b.keepsBut ((b.startBearing now 0).enterFollow.bearingFrom acc) [Reg.BRG_STATUS] ∧
    ((b.startBearing now 0).enterFollow.bearingFrom acc).brg.now = now := by
  obtain ⟨hn, hd, hr⟩ := b.startBearing_shows now 0
  generalize b.startBearing now 0 = d at hn hd hr ⊢
  obtain ⟨hs, hn', hd', -, -, hk⟩ := d.enterFollow_shows
  generalize d.enterFollow = f at hs hn' hd' hk ⊢
  obtain ⟨es, en, ed, er⟩ := f.bearingFrom_shows acc
  exact ⟨es.trans hs, (ed.trans hd').trans hd, (Block.keepsBut.trans ((b.keepsBut_refl _).of_regs hr) hk).of_regs er,
    (en.trans hn').trans hn⟩

theorem Block.joinBearing_shows (b : Block) (v : SyncView) : (b.joinBearing v).brg.state = .follow ∧ (b.joinBearing v).dev = b.dev ∧
    b.keepsBut (b.joinBearing v) [Reg.BRG_STATUS] ∧
    (b.running = false → (b.joinBearing v).brg.now = BitVec.ofNat 48 (v.bearing / 65536)) := by
  by_cases hrun : b.running = true
  · rw [show b.joinBearing v = b.rejoinChain (b.syncError v) from if_pos hrun]
    obtain ⟨hs, hd, hk⟩ := b.rejoinChain_shows (b.syncError v)
    exact ⟨hs, hd, hk, fun h => by rw [h] at hrun; cases hrun⟩
  · rw [show b.joinBearing v = _ from if_neg hrun]
    obtain ⟨hs, hd, hk, hn⟩ := b.startBearing_follow (BitVec.ofNat 48 (v.bearing / 65536)) (v.bearing % 65536 * 10 ^ 15 / 65536)
    exact ⟨hs, hd, hk, fun _ => hn⟩

/-- Datum and the master's rate as the first SYNC sets them. -/
def Block.joinTimes (b : Block) (v : SyncView) : Block :=
  let b := (b.setDomain 0 { b.dtm.a with t := v.timeA, followErr := 0 }).setDomain 1 { b.dtm.b with t := v.timeB, followErr := 0 }
  { b with chain := { b.chain with dstepA := v.dstepA, dstepB := v.dstepB, masterFreq := v.freq } }

theorem Block.joinTimes_shows (b : Block) (v : SyncView) : (b.joinTimes v).brg = b.brg ∧ (b.joinTimes v).dev = b.dev ∧
    (b.joinTimes v).regs = b.regs ∧ (b.joinTimes v).dtm.a.t = v.timeA ∧ (b.joinTimes v).dtm.b.t = v.timeB := ⟨rfl, rfl, rfl, rfl, rfl⟩

theorem Block.joinFollower_eq (b : Block) (v : SyncView) : b.joinFollower v =
    ((b.joinBearing v).joinTimes v).takeFollower (((b.joinBearing v).joinTimes v).rank ≤ 1) v.rank := rfl

theorem Block.joinFollower_shows (b : Block) (v : SyncView) : b.joinsAs v (b.joinFollower v) := by
  rw [Block.joinFollower_eq]
  obtain ⟨hs, hd, hk, hn⟩ := b.joinBearing_shows v
  generalize b.joinBearing v = c at hs hd hk hn ⊢
  obtain ⟨hzb, hzd, hzr, hta, htb⟩ := c.joinTimes_shows v
  generalize c.joinTimes v = z at hzb hzd hzr hta htb ⊢
  have hrank : z.rank = b.rank := (Block.get_of_regs hzr Reg.CHN_ID_RANK).trans (hk.get (by decide))
  have h := z.takeFollower_shows (z.rank ≤ 1) v.rank
  exact
    { role := by
        rw [h.role, hrank]
        simp only [decide_eq_true_eq]
      masterRank := h.masterRank
      followA := h.followA
      followB := h.followB
      timeA := by rw [h.dtm, hta]
      timeB := by rw [h.dtm, htb]
      state := by rw [h.brg, hzb, hs]
      now := fun hr => by rw [h.brg, hzb, hn hr]
      dev := by rw [h.dev, hzd, hd] }

/-! ### A SYNC of another device -/

theorem Block.onRing_forwardSync (b : Block) (ringB : Bool) (c : Cell) (residence : Nat) : b.onRing (b.forwardSync ringB c residence) :=
  b.onRing_forward _ _

theorem Block.syncReceived_eq {b : Block} {ringB : Bool} {bytes : List Byte} {c : Cell} (h : b.hears ringB = true)
    (hc : cellOf bytes = some c) (hkind : c.kind = kindSync) (hsrc : c.src ≠ b.rank) (residence : Nat) :
    b.syncReceived ringB bytes residence = ((b.forwardSync ringB c residence).syncFrom ringB (syncOf c.body)).refreshChain := by
  unfold Block.syncReceived
  rw [← hkind, Block.openCell_eq h hc]
  have hrank : (b.forwardSync ringB c residence).rank = b.rank := (b.onRing_forwardSync _ _ _).get _
  dsimp only
  rw [if_neg (by rw [hrank]; exact hsrc)]

/-- The block that has heard a SYNC. -/
def Block.hearing (b : Block) (v : SyncView) : Block :=
  let highest := match b.chain.highest with
    | some h => if laterEpoch v.mepoch h then v.mepoch else h
    | none => v.mepoch
  { b with chain := { b.chain with heard := true, highest := some highest } }

theorem Block.hearing_shows (b : Block) (v : SyncView) : (b.hearing v).chain.role = b.chain.role ∧ (b.hearing v).brg = b.brg ∧
    (b.hearing v).dev = b.dev ∧ (b.hearing v).regs = b.regs ∧ (b.hearing v).img = b.img := ⟨rfl, rfl, rfl, rfl, rfl⟩

/-- The registers of a SYNC that the join takes. -/
def Block.joinShown (b : Block) (ringB : Bool) (v : SyncView) : Block :=
  let b := (b.takeRoster v.present v.ready).setAll [(Reg.CHN_SYNC_SEQ_SEQ, v.seq), (Reg.CHN_ROSTER_MEPOCH, v.mepoch)]
  if ringB then b.set Reg.CHN_PATH_B_RES v.res else b.set Reg.CHN_PATH_A_RES v.res

/-- What a SYNC makes of a device in a role. -/
def Block.syncAs (b : Block) (ringB : Bool) (v : SyncView) (r : Role) : Block :=
  match r with
  | .none => if b.dev != .settle then b else (b.joinFollower v).joinShown ringB v
  | .master => if b.yields v then (b.yieldTo v).set Reg.CHN_ROSTER_MEPOCH v.mepoch else b
  | .isolated =>
    if b.yields v then (b.yieldTo v).set Reg.CHN_ROSTER_MEPOCH v.mepoch else (b.setRole .master).refreshPorts
  | _ => if b.acting v then b.follow ringB v else b

theorem Block.syncFrom_eq (b : Block) (ringB : Bool) (v : SyncView) :
    b.syncFrom ringB v = (b.hearing v).syncAs ringB v (b.hearing v).chain.role := rfl

theorem Block.syncFrom_join {b : Block} (hrole : b.chain.role = .none) (hdev : b.dev = .settle) (ringB : Bool) (v : SyncView) :
    b.syncFrom ringB v = ((b.hearing v).joinFollower v).joinShown ringB v := by
  obtain ⟨hr, -, hd, -, -⟩ := b.hearing_shows v
  rw [Block.syncFrom_eq, hr, hrole]
  have hb : ¬ ((b.hearing v).dev != .settle) = true := by
    rw [hd, hdev]
    decide
  exact if_neg hb

theorem Block.syncFrom_master {b : Block} (hrole : b.chain.role = .master) (ringB : Bool) (v : SyncView) :
    b.syncFrom ringB v = if (b.hearing v).yields v then ((b.hearing v).yieldTo v).set Reg.CHN_ROSTER_MEPOCH v.mepoch else b.hearing v := by
  obtain ⟨hr, -, -, -, -⟩ := b.hearing_shows v
  rw [Block.syncFrom_eq, hr, hrole]
  rfl

theorem Block.yields_congr {b c : Block} (h : c.regs = b.regs) (v : SyncView) : c.yields v = b.yields v := by
  unfold Block.yields Block.rank
  rw [Block.get_of_regs h, Block.get_of_regs h]

/-! ### The device that joins -/

/-- What the join shows once the SYNC's registers are taken. -/
theorem Block.joinShown_shows (b : Block) (ringB : Bool) (v : SyncView) (hm : v.mepoch < 65536) :
    (b.joinShown ringB v).get Reg.CHN_ROSTER_MEPOCH = v.mepoch ∧ (b.joinShown ringB v).chain = b.chain ∧
    (b.joinShown ringB v).dtm = b.dtm ∧ (b.joinShown ringB v).brg = b.brg ∧ (b.joinShown ringB v).dev = b.dev ∧
    (∀ f : Field, f.off < 0x60000 → (b.joinShown ringB v).get f = b.get f) := by
  have hpath : ∀ (c : Block) (f : Field), f = (if ringB then Reg.CHN_PATH_B_RES else Reg.CHN_PATH_A_RES) →
      (if ringB then c.set Reg.CHN_PATH_B_RES v.res else c.set Reg.CHN_PATH_A_RES v.res) = c.set f v.res := fun c f hf => by
    rw [hf]
    split <;> rfl
  have hne : ∀ f : Field, f = (if ringB then Reg.CHN_PATH_B_RES else Reg.CHN_PATH_A_RES) → f.off ≠ Reg.CHN_ROSTER ∧ 0x60000 ≤ f.off := by
    rintro f rfl
    split <;> decide
  unfold Block.joinShown
  extract_lets c
  obtain ⟨hne, hle⟩ := hne _ rfl
  rw [hpath c _ rfl]
  generalize (if ringB then Reg.CHN_PATH_B_RES else Reg.CHN_PATH_A_RES) = p at hne hle
  refine ⟨?_, ?_, ?_, ?_, ?_, ?_⟩
  · rw [Block.get_of_rd (Block.rd_set_other _ _ _ _ hne.symm)]
    show ((b.takeRoster v.present v.ready).setAll [(Reg.CHN_SYNC_SEQ_SEQ, v.seq), (Reg.CHN_ROSTER_MEPOCH, v.mepoch)]).get _ = _
    rw [Block.setAll_cons, Block.get_setAll_head _ _ _ _ (by decide) fun p hp => absurd hp List.not_mem_nil]
    exact Nat.mod_eq_of_lt hm
  · rw [Block.set_chain]
    exact (Block.setAll_chain _ _).trans (Block.setAll_chain _ _)
  · rw [Block.set_dtm]
    exact (Block.setAll_dtm _ _).trans (Block.setAll_dtm _ _)
  · rw [Block.set_brg]
    exact (Block.setAll_brg _ _).trans (Block.setAll_brg _ _)
  · rw [Block.set_dev]
    exact (Block.setAll_dev _ _).trans (Block.setAll_dev _ _)
  · intro f hf
    have hap : ∀ g : Field, 0x60000 ≤ g.off → f.off ≠ g.off := fun g hg => by omega
    refine (Block.get_of_rd (Block.rd_set_other _ _ _ _ (hap _ hle))).trans ?_
    refine Block.get_of_rd ((Block.rd_setAll_other _ _ _ fun q hq => hap _ ?_).trans (Block.rd_setAll_other _ _ _ fun q hq => hap _ ?_))
    · simp only [List.mem_cons, List.not_mem_nil, or_false] at hq
      rcases hq with rfl | rfl <;> simp [Reg.CHN_SYNC_SEQ, Reg.CHN_ROSTER]
    · simp only [List.mem_cons, List.not_mem_nil, or_false] at hq
      rcases hq with rfl | rfl | rfl <;> simp [Reg.CHN_ID, Reg.CHN_ROSTER]

theorem mepoch_lt (body : List Byte) : (syncOf body).mepoch < 65536 := leAt_lt body 2 2

theorem exec_syncReceived {ring : Ring} {cell : List Byte} (h : cellOk cell = true) (residence : Nat) (s : State) :
    exec (.syncReceived ring cell residence) s = .next { s with blk := (s.blk.syncReceived (ring == .b) cell residence).gated } := by
  show execSyncReceived ring cell residence s = _
  exact answer_of_wf h s _

section
variable {s : State} {ring : Ring} {cell : List Byte} {residence : Nat} {c : Cell}

theorem completes_sync_join (hok : cellOk cell = true) (hh : s.blk.hears (ring == .b) = true) (hc : cellOf cell = some c)
    (hkind : c.kind = kindSync) (hsrc : c.src ≠ s.blk.rank) (hrole : s.blk.chain.role = .none) (hdev : s.blk.dev = .settle) :
    Completes (.syncReceived ring cell residence) s fun b =>
      let v := syncOf c.body
      b.chain.role = (if s.blk.rank ≤ 1 then .standby else .member) ∧ b.chain.masterRank = v.rank ∧
      b.on (Reg.DTM_STAT_FOLLOW 0) = true ∧ b.on (Reg.DTM_STAT_FOLLOW 1) = true ∧ b.dtm.a.t = v.timeA ∧
      b.dtm.b.t = v.timeB ∧ b.get Reg.CHN_ROSTER_MEPOCH = v.mepoch ∧ b.brg.state = .follow ∧
      (s.blk.running = false → b.brg.now = BitVec.ofNat 48 (v.bearing / 65536)) := by
  refine completes_of_next (exec_syncReceived hok residence s) ?_
  have hring := s.blk.onRing_forwardSync (ring == .b) c residence
  rw [Block.syncReceived_eq hh hc hkind hsrc]
  have hm := mepoch_lt c.body
  generalize syncOf c.body = v at hm ⊢
  generalize s.blk.forwardSync (ring == .b) c residence = d at hring ⊢
  rw [Block.syncFrom_join (hring.role.trans hrole) (hring.dev.trans hdev)]
  obtain ⟨-, hbrg, hd, hregs, -⟩ := d.hearing_shows v
  generalize d.hearing v = e at hbrg hd hregs ⊢
  have hj := e.joinFollower_shows v
  generalize e.joinFollower v = f at hj ⊢
  obtain ⟨hmep, hchain, hdtm, hfb, hfd, hget⟩ := f.joinShown_shows (ring == .b) v hm
  generalize f.joinShown (ring == .b) v = g at hmep hchain hdtm hfb hfd hget ⊢
  have hr := g.byReplica_refreshChain
  have hwr := g.besideDatum_refreshChain
  have hmep' : g.refreshChain.get Reg.CHN_ROSTER_MEPOCH = v.mepoch := (g.refreshChain_get (by decide) (by decide) (by decide)).trans hmep
  generalize g.refreshChain = k at hr hwr hmep' ⊢
  have hsilent : k.dev.silent = false := by rw [hr.dev, hfd, hj.dev, hd, hring.dev, hdev]; rfl
  have hflag : ∀ f' : Field, 0x50000 ≤ f'.off → f'.off < 0x60000 → k.gated.on f' = f.on f' := fun f' hlo hhi =>
    Block.on_congr ((Block.get_of_regs (k.gated_regs hsilent) _).trans ((hwr.get (by unfold besideDatum; omega)).trans (hget _ hhi)))
  have hrank : e.rank = s.blk.rank := (Block.get_of_regs hregs _).trans (hring.get _)
  have hrun : e.running = s.blk.running := by
    unfold Block.running
    rw [hbrg, hring.brg]
  have hmr : k.chain.masterRank = g.chain.masterRank := hr.part (fun x : ChainSt => x.masterRank) fun _ => rfl
  obtain ⟨hta, htb⟩ := k.gated_times
  dsimp only
  rw [hta, htb, hr.dtm, hdtm, Block.gated_role, hr.role, hchain, hj.role, hrank, Block.gated_brg, hr.brg, hfb]
  refine ⟨rfl, ?_, (hflag _ (by decide) (by decide)).trans hj.followA, (hflag _ (by decide) (by decide)).trans hj.followB,
    hj.timeA, hj.timeB, (Block.get_of_regs (k.gated_regs hsilent) _).trans hmep', hj.state, fun h => hj.now (hrun.trans h)⟩
  rw [Block.gated_chain]
  exact hmr.trans (by rw [hchain, hj.masterRank])

end

end Sys2Proof.Machine

/-!
SYNCs and the join of the Chain (R457, R464, R482): the master that yields to a later epoch.
-/

namespace Sys2Proof.Machine

/-! ### Ports that close keep the master's rank -/

section
variable (b : Block)

theorem Block.logTx_chain (ports : List Nat) (bands : Nat) (start : Bearing) : (b.logTx ports bands start).chain = b.chain :=
  by
  unfold Block.logTx
  exact foldl_part (fun b : Block => b.chain) (fun (d : Block) n => d.logSpan _) (fun _ _ => rfl) _ _

theorem Block.cutCounted_chain (m cause : Nat) : (b.cutCounted m cause).chain = b.chain :=
  (Block.post_chain _ _ _ _ _).trans (Block.set_chain _ _ _)

theorem Block.cutTx_chain (cause : Nat) (x : Tx) : (Block.cutTx cause b x).chain = b.chain := by
  unfold Block.cutTx
  rw [foldl_part (fun b : Block => b.chain) _ fun d m => d.cutCounted_chain m cause]
  split
  · exact b.logTx_chain _ _ _
  · rfl

theorem Block.cutDrivesOf_masterRank (n cause : Nat) : (b.cutDrivesOf n cause).chain.masterRank = b.chain.masterRank := by
  unfold Block.cutDrivesOf
  extract_lets mine ch c
  have hc : c.chain.masterRank = b.chain.masterRank := rfl
  clear_value c ch mine
  refine (foldl_part (fun b : Block => b.chain.masterRank) _ (fun d x => ?_) _ _).trans hc
  exact congrArg ChainSt.masterRank ((Block.cutCounted_chain _ _ _).trans (d.logTx_chain _ _ _))

theorem Block.cutAt_chain (n m : Nat) : (Block.cutAt n b m).chain = b.chain := by
  unfold Block.cutAt
  split
  · exact Block.set_chain _ _ _
  · rfl

theorem Block.cutPort_masterRank (n cause : Nat) : (b.cutPort n cause).chain.masterRank = b.chain.masterRank := by
  rw [Block.cutPort_eq, foldl_part (fun b : Block => b.chain.masterRank) _ fun d k => by rw [Block.refreshCharges_chain],
    foldl_part (fun b : Block => b.chain) _ fun d m => d.cutAt_chain n m]
  unfold Block.cutFrames
  rw [Block.cutDrivesOf_masterRank, foldl_part (fun b : Block => b.chain) _ fun d x => d.cutTx_chain cause x]

theorem Block.standPairedBy_masterRank : b.standPairedBy.chain.masterRank = b.chain.masterRank := by
  unfold Block.standPairedBy
  rw [Block.refreshPorts_chain]
  exact foldl_part (fun b : Block => b.chain.masterRank) _ (fun d n => d.cutPort_masterRank n 1) _ _

end

/-! ### Datum follows -/

/-- The registers of Datum's time pulses. -/
def pulseReg (off : Nat) : Prop := 0x50200 ≤ off ∧ off < 0x60000

/-- Only registers of the time pulses are written, the Chain's state stays. -/
structure Block.byDatum (b c : Block) : Prop where
  chain : c.chain = b.chain
  dev : c.dev = b.dev
  regs : Block.writesIn pulseReg b c

theorem Block.byDatum_refl (b : Block) : b.byDatum b := ⟨rfl, rfl, Block.writesIn_refl _ b⟩

namespace Block.byDatum
variable {b c d : Block}

theorem trans (h : b.byDatum c) (h' : c.byDatum d) : b.byDatum d :=
  ⟨h'.chain.trans h.chain, h'.dev.trans h.dev, h.regs.trans h'.regs⟩

theorem set (h : b.byDatum c) (f : Field) (v : Nat) (hf : pulseReg f.off) : b.byDatum (c.set f v) :=
  ⟨(Block.set_chain _ _ _).trans h.chain, (Block.set_dev _ _ _).trans h.dev, h.regs.set v hf⟩

theorem setAll (h : b.byDatum c) (fs : List (Field × Nat)) (hf : ∀ p ∈ fs, pulseReg p.1.off) : b.byDatum (c.setAll fs) :=
  ⟨(Block.setAll_chain _ _).trans h.chain, (Block.setAll_dev _ _).trans h.dev, h.regs.setAll hf⟩

end Block.byDatum

section
variable (b : Block)

theorem Block.byDatum_tpPulse {j : Nat} (hj : j < 8) : b.byDatum (b.tpPulse j) := by
  unfold Block.tpPulse
  generalize hc : ({ b with dtm := { b.dtm with pulse := Store.put (fun _ => none) b.dtm.pulse j (some b.ticks) } } : Block) = c
  have h : b.byDatum c := by rw [← hc]; exact ⟨rfl, rfl, fun _ _ => rfl⟩
  exact h.set _ _ (by simp only [pulseReg, Reg.DTM_TP_STAT]; omega)

theorem Block.byDatum_setTpTarget {j : Nat} (hj : j < 8) (v : Nat) : b.byDatum (b.setTpTarget j v) := by
  unfold Block.setTpTarget
  split
  · refine b.byDatum_refl.setAll _ fun p hp => ?_
    simp only [List.mem_cons, List.not_mem_nil, or_false] at hp
    rcases hp with rfl | rfl <;> simp only [pulseReg, Reg.DTM_TP_T0, Reg.DTM_TP_T1] <;> omega
  · refine b.byDatum_refl.setAll _ fun p hp => ?_
    simp only [List.mem_cons, List.not_mem_nil, or_false] at hp
    rcases hp with rfl | rfl | rfl <;> simp only [pulseReg, Reg.DTM_TP_T0, Reg.DTM_TP_T1, Reg.DTM_TP_T2] <;> omega

theorem Block.byDatum_tpSkipped {j : Nat} (hj : j < 8) (n : Nat) : b.byDatum (b.tpSkipped j n) := by
  have hstat : ∀ (c : Block) (lo v : Nat), c.byDatum (c.set ⟨Reg.DTM_TP_STAT j, lo, 1⟩ v) := fun c lo v =>
    c.byDatum_refl.set _ _ (by simp only [pulseReg, Reg.DTM_TP_STAT]; omega)
  unfold Block.tpSkipped
  extract_lets c
  have hc : b.byDatum c := by
    show b.byDatum (if _ then _ else _)
    split
    · exact (b.byDatum_tpPulse hj).trans (hstat _ 16 1)
    · exact hstat _ 17 1
  clear_value c
  split
  · exact hc.trans (c.byDatum_setTpTarget hj _)
  · exact hc.set _ _ (by simp only [pulseReg, Reg.DTM_TP_CTRL]; omega)

theorem Block.byDatum_tpJump (x old new : Nat) : b.byDatum (b.tpJump x old new) := by
  unfold Block.tpJump
  have step : ∀ l : List Nat, (∀ j ∈ l, j < 8) → ∀ c : Block, c.byDatum (l.foldl (fun b j =>
      if b.on (Reg.DTM_TP_CTRL_ENABLE j) && b.get (Reg.DTM_TP_CTRL_REF j) == x then
        match targetsPassed (b.tpTarget j * 2 ^ 32) (b.get (Reg.DTM_TP_PERIOD_PERIOD j) * 2 ^ 32) old new with
        | 0 => b
        | n => b.tpSkipped j n
      else b) c) := by
    intro l
    induction l with
    | nil => exact fun _ c => c.byDatum_refl
    | cons j l ih =>
      intro hl c
      refine Block.byDatum.trans ?_ (ih (fun k hk => hl k (.tail _ hk)) _)
      dsimp only
      split
      · split
        · exact c.byDatum_refl
        · exact c.byDatum_tpSkipped (hl j (.head _)) _
      · exact c.byDatum_refl
  exact step _ (fun j hj => List.mem_range.1 hj) b

theorem Block.byDatum_setDomain (x : Nat) (d : Domain) : b.byDatum (b.setDomain x d) := by
  unfold Block.setDomain
  split <;> exact ⟨rfl, rfl, fun _ _ => rfl⟩

theorem Block.byDatum_followDomain (x est : Nat) (stepped second : Bool) : b.byDatum (b.followDomain x est stepped second) := by
  unfold Block.followDomain
  extract_lets d e c
  have hc : b.byDatum c := b.byDatum_setDomain _ _
  clear_value c
  split
  · split
    · exact hc.trans (c.byDatum_tpJump _ _ _)
    · exact hc
  · exact b.byDatum_setDomain _ _

theorem Block.followDatum_shows (v : SyncView) (second : Bool) : (b.followDatum v second).chain.role = b.chain.role ∧
    (b.followDatum v second).chain.masterRank = b.chain.masterRank ∧ (b.followDatum v second).dev = b.dev ∧
    Block.writesIn pulseReg b (b.followDatum v second) := by
  unfold Block.followDatum
  extract_lets c ch
  have hc : b.byDatum c := (b.byDatum_followDomain _ _ _ _).trans (Block.byDatum_followDomain _ _ _ _ _)
  clear_value c
  have hrole : c.chain.role = b.chain.role := by rw [hc.chain]
  have hrank : c.chain.masterRank = b.chain.masterRank := by rw [hc.chain]
  exact ⟨hrole, hrank, hc.dev, hc.regs⟩

end

/-! ### The master that yields -/

theorem Block.yieldTo_shows (b : Block) (v : SyncView) :
    (b.yieldTo v).chain.role = (if b.pairedPorts = [] then .member else .standby) ∧ (b.yieldTo v).chain.masterRank = v.rank ∧
    (b.yieldTo v).get Reg.CHN_STAT_YIELDED = 1 := by
  unfold Block.yieldTo
  extract_lets e paired c1 c2 c3 c4 ch c5 c6
  have hp : paired = true ↔ b.pairedPorts ≠ [] := by
    show (!b.pairedPorts.isEmpty) = true ↔ _
    simp
  have h1 : c1.get Reg.CHN_STAT_YIELDED = 1 := Block.get_set_same _ _ _ (by decide)
  have h2 : c1.keepsSeat c2 :=
    ((c1.keepsSeat_swapAbort 5).trans (Block.keepsSeat_opAbort _ 5)).trans (Block.keepsSeat_dropBarrier _)
  have h3 : c3.get Reg.CHN_STAT_YIELDED = c2.get Reg.CHN_STAT_YIELDED := by
    show (if c2.running then c2.rejoinChain e else c2).get _ = _
    split
    · exact (c2.rejoinChain_shows e).2.2.get (by decide)
    · rfl
  have h4 : c4.chain.role = (if paired then .standby else .member) ∧ c4.chain.masterRank = v.rank :=
    ⟨(c3.takeFollower_shows paired v.rank).role, (c3.takeFollower_shows paired v.rank).masterRank⟩
  have h4y : c4.get Reg.CHN_STAT_YIELDED = c3.get Reg.CHN_STAT_YIELDED := (c3.takeFollower_seat paired v.rank).2
  clear_value c1 c2 c3 c4
  have h5 : c5.chain.role = c4.chain.role ∧ c5.chain.masterRank = c4.chain.masterRank ∧ c5.regs = c4.regs := ⟨rfl, rfl, rfl⟩
  clear_value c5
  obtain ⟨hr6, hm6, -, hw6⟩ := c5.followDatum_shows v false
  have hy6 : (c5.followDatum v false).get Reg.CHN_STAT_YIELDED = 1 := by
    rw [hw6.get (by unfold pulseReg; decide), Block.get_of_regs h5.2.2, h4y, h3, h2.fields _ (by decide), h1]
  have h6 : c6 = c5.followDatum v false := rfl
  rw [← h6] at hr6 hm6 hy6
  clear_value c6
  have h7 : (if paired then c6.standPairedBy else c6).chain.role = c6.chain.role ∧
      (if paired then c6.standPairedBy else c6).chain.masterRank = c6.chain.masterRank ∧
      (if paired then c6.standPairedBy else c6).get Reg.CHN_STAT_YIELDED = c6.get Reg.CHN_STAT_YIELDED := by
    split
    · exact ⟨c6.keepsSeat_standPairedBy.role, c6.standPairedBy_masterRank, c6.keepsSeat_standPairedBy.fields _ (by decide)⟩
    · exact ⟨rfl, rfl, rfl⟩
  generalize (if paired then c6.standPairedBy else c6) = c7 at h7 ⊢
  obtain ⟨hr7, hm7, hy7⟩ := h7
  refine ⟨?_, ?_, ?_⟩
  · rw [Block.set_chain, hr7, hr6, h5.1, h4.1]
    by_cases hb : b.pairedPorts = []
    · rw [if_pos hb, if_neg (by rw [hp]; exact fun h => h hb)]
    · rw [if_neg hb, if_pos (hp.2 hb)]
  · rw [Block.set_chain, hm7, hm6, h5.2.1, h4.2]
  · rw [Block.get_set_apart _ _ _ _ (by decide) (by decide), hy7, hy6]

section
variable {s : State} {ring : Ring} {cell : List Byte} {residence : Nat} {c : Cell}

theorem Block.pairedPorts_of_regs {b c : Block} (h : c.regs = b.regs) : c.pairedPorts = b.pairedPorts := by
  unfold Block.pairedPorts
  exact List.filter_congr fun n _ => Block.on_congr (Block.get_of_regs h _)

theorem completes_sync_yields (hok : cellOk cell = true) (hh : s.blk.hears (ring == .b) = true) (hc : cellOf cell = some c)
    (hkind : c.kind = kindSync) (hsrc : c.src ≠ s.blk.rank) (hrole : s.blk.chain.role = .master)
    (hlater : laterEpoch (syncOf c.body).mepoch (s.blk.get Reg.CHN_ROSTER_MEPOCH) = true) :
    Completes (.syncReceived ring cell residence) s fun b =>
      b.chain.role = (if s.blk.pairedPorts = [] then .member else .standby) ∧ b.on Reg.CHN_STAT_YIELDED = true ∧
      b.get Reg.CHN_ROSTER_MEPOCH = (syncOf c.body).mepoch ∧ b.chain.masterRank = (syncOf c.body).rank := by
  refine completes_of_next (exec_syncReceived hok residence s) ?_
  have hring := s.blk.onRing_forwardSync (ring == .b) c residence
  rw [Block.syncReceived_eq hh hc hkind hsrc]
  have hm := mepoch_lt c.body
  generalize syncOf c.body = v at hm hlater ⊢
  generalize s.blk.forwardSync (ring == .b) c residence = d at hring ⊢
  rw [Block.syncFrom_master (hring.role.trans hrole)]
  obtain ⟨-, -, -, hregs, -⟩ := d.hearing_shows v
  generalize d.hearing v = e at hregs ⊢
  have hregs' : e.regs = s.blk.regs := hregs.trans hring.regs
  have hy : e.yields v = true := by
    unfold Block.yields
    dsimp only
    rw [Block.get_of_regs hregs', hlater]
    rfl
  rw [if_pos hy]
  obtain ⟨hr, hmr, hyd⟩ := e.yieldTo_shows v
  generalize e.yieldTo v = f at hr hmr hyd ⊢
  have hk := (f.set Reg.CHN_ROSTER_MEPOCH v.mepoch).keepsSeat_refreshChain
  have hp := (f.set Reg.CHN_ROSTER_MEPOCH v.mepoch).byReplica_refreshChain.part (fun x : ChainSt => x.masterRank) fun _ => rfl
  generalize (f.set Reg.CHN_ROSTER_MEPOCH v.mepoch).refreshChain = g at hk hp ⊢
  rw [Block.gated_role, hk.role, Block.set_chain, hr, Block.pairedPorts_of_regs hregs']
  refine ⟨rfl, Block.on_of_get_one ?_, ?_, ?_⟩
  · rw [Block.gated_get_other _ _ (by decide), hk.fields _ (by decide), Block.get_of_rd (Block.rd_set_other _ _ _ _ (by decide)), hyd]
  · rw [Block.gated_get_other _ _ (by decide), hk.fields _ (by decide), Block.get_set_same _ _ _ (by decide)]
    exact Nat.mod_eq_of_lt hm
  · rw [Block.gated_chain]
    exact hp.trans (by rw [Block.set_chain, hmr])

theorem completes_sync_master (hok : cellOk cell = true) (hh : s.blk.hears (ring == .b) = true) (hc : cellOf cell = some c)
    (hkind : c.kind = kindSync) (hsrc : c.src ≠ s.blk.rank) (hrole : s.blk.chain.role = .master)
    (hy : s.blk.yields (syncOf c.body) = false) : Completes (.syncReceived ring cell residence) s fun b =>
      b.chain.role = .master ∧ b.get Reg.CHN_ROSTER_MEPOCH = s.blk.get Reg.CHN_ROSTER_MEPOCH := by
  refine completes_of_next (exec_syncReceived hok residence s) ?_
  have hring := s.blk.onRing_forwardSync (ring == .b) c residence
  rw [Block.syncReceived_eq hh hc hkind hsrc]
  generalize syncOf c.body = v at hy ⊢
  generalize s.blk.forwardSync (ring == .b) c residence = d at hring ⊢
  rw [Block.syncFrom_master (hring.role.trans hrole)]
  obtain ⟨hr, -, -, hregs, -⟩ := d.hearing_shows v
  generalize d.hearing v = e at hr hregs ⊢
  rw [if_neg (by rw [Block.yields_congr (hregs.trans hring.regs), hy]; exact Bool.false_ne_true)]
  have hk := e.keepsSeat_refreshChain
  generalize e.refreshChain = f at hk ⊢
  refine ⟨by rw [Block.gated_role, hk.role, hr, hring.role, hrole], ?_⟩
  rw [Block.gated_get_other _ _ (by decide), hk.fields _ (by decide), Block.get_of_regs (hregs.trans hring.regs)]

end

end Sys2Proof.Machine

/-!
SYNCs and the join of the Chain (R460 to R465, R467, R472, R536): damaged cells, the waits of the join, the bypasses and the echo.
-/

namespace Sys2Proof.Machine

/-! ### Damaged and ill-formed cells -/

section
variable {s : State} {ring : Ring} {cell : List Byte} {residence : Nat}

theorem Block.openCell_damaged {b : Block} {ringB : Bool} {bytes : List Byte} (h : b.hears ringB = true) (hc : cellOf bytes = none)
    (kind : Nat) : b.openCell ringB kind bytes = (b.inc Reg.CHN_CELL_ERR_COUNT, none) := by
  unfold Block.openCell
  rw [h, hc]
  exact if_neg (by decide)

theorem Block.takeCell_damaged {b : Block} {ringB : Bool} {bytes : List Byte} (h : b.hears ringB = true) (hc : cellOf bytes = none)
    (kind : Nat) : b.takeCell ringB kind bytes = (b.inc Reg.CHN_CELL_ERR_COUNT, none) := by
  unfold Block.takeCell
  rw [Block.openCell_damaged h hc]

theorem completes_damaged {i : Instr} {f : Block → Block} (hh : s.blk.hears (ring == .b) = true)
    (hx : exec i s = .next { s with blk := (f s.blk).gated }) (hf : f s.blk = s.blk.inc Reg.CHN_CELL_ERR_COUNT) :
    Completes i s fun b => b.get Reg.CHN_CELL_ERR_COUNT = (s.blk.get Reg.CHN_CELL_ERR_COUNT + 1) % 2 ^ 32 ∧
      s.blk.keepsBut b [Reg.CHN_CELL_ERR] := by
  refine completes_of_next hx ?_
  rw [hf]
  refine ⟨?_, Block.keepsBut.gated_of_not_silent ((s.blk.keepsBut_refl _).inc (f := Reg.CHN_CELL_ERR_COUNT) (by simp)) ?_⟩
  · rw [Block.gated_get_other _ _ (by decide), Block.get_inc _ _ (by decide)]
  · rw [Block.inc_dev]
    exact Block.not_silent_of_hears hh

theorem completes_damaged_cell (hok : cellOk cell = true) (hh : s.blk.hears (ring == .b) = true) (hc : cellOf cell = none) :
    ∀ i ∈ [Instr.syncReceived ring cell residence, .wrapReceived ring cell, .pairReceived ring cell, .driveReceived ring cell,
      .rxdoneReceived ring cell, .replReceived ring cell, .tokenReceived ring cell, .verdictReceived ring cell,
      .resetCellReceived ring cell], Completes i s fun b =>
        b.get Reg.CHN_CELL_ERR_COUNT = (s.blk.get Reg.CHN_CELL_ERR_COUNT + 1) % 2 ^ 32 ∧
        s.blk.keepsBut b [Reg.CHN_CELL_ERR] := by
  intro i hi
  simp only [List.mem_cons, List.not_mem_nil, or_false] at hi
  have hopen := fun kind => Block.openCell_damaged hh hc kind
  have htake := fun kind => Block.takeCell_damaged hh hc kind
  rcases hi with rfl | rfl | rfl | rfl | rfl | rfl | rfl | rfl | rfl
  · exact completes_damaged (f := fun b => b.syncReceived (ring == .b) cell residence) hh (exec_syncReceived hok residence s) (by
      unfold Block.syncReceived
      rw [hopen])
  · exact completes_damaged (f := fun b => b.wrapReceived (ring == .b) cell) hh (exec_wrapReceived hok s) (by
      unfold Block.wrapReceived
      rw [hopen])
  · exact completes_damaged (f := fun b => b.pairReceived (ring == .b) cell) hh (exec_pairReceived hok) (by
      unfold Block.pairReceived
      rw [htake])
  · exact completes_damaged (f := fun b => b.driveReceived (ring == .b) cell) hh (exec_driveReceived hok) (by
      unfold Block.driveReceived
      rw [htake])
  · exact completes_damaged (f := fun b => b.rxdoneReceived (ring == .b) cell) hh (exec_rxdoneReceived hok) (by
      unfold Block.rxdoneReceived
      rw [htake])
  · exact completes_damaged (f := fun b => b.replReceived (ring == .b) cell) hh (exec_replReceived hok) (by
      unfold Block.replReceived
      rw [htake])
  · exact completes_damaged (f := fun b => b.tokenReceived (ring == .b) cell) hh (exec_tokenReceived hok s) (by
      unfold Block.tokenReceived
      rw [hopen])
  · exact completes_damaged (f := fun b => b.verdictReceived (ring == .b) cell) hh (exec_verdictReceived hok s) (by
      unfold Block.verdictReceived
      rw [htake])
  · exact completes_damaged (f := fun b => b.resetCell (ring == .b) cell) hh (exec_resetCellReceived hok s) (by
      unfold Block.resetCell
      rw [hopen])

theorem answer_of_illFormed {mnemonic : String} {wf : Bool} (h : wf = false) (s : State) (f : Block → Block) :
    answer mnemonic wf s f = .refused (.illFormed mnemonic) := if_neg (by rw [h]; exact Bool.false_ne_true)

theorem refused_ill_formed_cell (hok : cellOk cell = false) : ∀ i ∈ [(Instr.syncReceived ring cell residence, "SYNC_RECEIVED"),
    (.wrapReceived ring cell, "WRAP_RECEIVED"), (.pairReceived ring cell, "PAIR_RECEIVED"),
    (.driveReceived ring cell, "DRIVE_RECEIVED"), (.rxdoneReceived ring cell, "RXDONE_RECEIVED"),
    (.replReceived ring cell, "REPL_RECEIVED"), (.tokenReceived ring cell, "TOKEN_RECEIVED"),
    (.verdictReceived ring cell, "VERDICT_RECEIVED"), (.resetCellReceived ring cell, "RESET_CELL_RECEIVED")],
    exec i.1 s = .refused (.illFormed i.2) := by
  intro i hi
  simp only [List.mem_cons, List.not_mem_nil, or_false] at hi
  rcases hi with rfl | rfl | rfl | rfl | rfl | rfl | rfl | rfl | rfl
  · show execSyncReceived ring cell residence s = _
    exact answer_of_illFormed hok s _
  · show execWrapReceived ring cell s = _
    exact answer_of_illFormed hok s _
  · show execPairReceived ring cell s = _
    exact answer_of_illFormed hok s _
  · show execDriveReceived ring cell s = _
    exact answer_of_illFormed hok s _
  · show execRxdoneReceived ring cell s = _
    exact answer_of_illFormed hok s _
  · show execReplReceived ring cell s = _
    exact answer_of_illFormed hok s _
  · show execTokenReceived ring cell s = _
    exact answer_of_illFormed hok s _
  · show execVerdictReceived ring cell s = _
    exact answer_of_illFormed hok s _
  · show execResetCellReceived ring cell s = _
    exact answer_of_illFormed hok s _

end

/-! ### The waits of the join -/

section
variable {s : State}

theorem Block.joinAsMaster_shows (b : Block) : b.joinAsMaster.chain.role = .master ∧
    b.joinAsMaster.get Reg.CHN_ID_ROLE = Role.master.code := by
  unfold Block.joinAsMaster
  extract_lets mepoch
  refine ⟨(congrArg ChainSt.role (Block.set_chain _ _ _)).trans (b.setRole_role _), ?_⟩
  rw [Block.get_of_rd (Block.rd_set_other _ _ _ _ (by decide))]
  exact Block.get_set_same _ _ _ (by decide)

theorem Block.enterHoldover_chain (b : Block) : b.enterHoldover.chain = b.chain := by
  obtain ⟨n, h⟩ := b.enterHoldover_eq
  rw [h, Block.post_chain]
  unfold Block.holdoverShown Block.setBearing
  rw [Block.set_chain, Block.set_chain]
  exact b.setBrg_chain .holdover

theorem Block.startFree_seat (b : Block) : b.startFree.chain.role = b.chain.role ∧
    b.startFree.get Reg.CHN_ID_ROLE = b.get Reg.CHN_ID_ROLE := by
  unfold Block.startFree
  obtain ⟨-, -, hr⟩ := (b.set Reg.BRG_FREQ_FREQ b.nominal).startBearing_shows 0 0
  have hc : ((b.set Reg.BRG_FREQ_FREQ b.nominal).startBearing 0 0).chain = (b.set Reg.BRG_FREQ_FREQ b.nominal).chain := rfl
  generalize (b.set Reg.BRG_FREQ_FREQ b.nominal).startBearing 0 0 = c at hr hc ⊢
  have hk := Block.enterHoldover_keepsBut
    (c.keepsBut_refl (Reg.BRG_STATUS :: Reg.BRG_HOLD_LO :: Reg.BRG_HOLD_HI :: recordRegs)) (by decide) (by decide)
  refine ⟨by rw [Block.enterHoldover_chain, hc, Block.set_chain], ?_⟩
  rw [hk.get (by decide), Block.get_of_regs hr, Block.get_of_rd (Block.rd_set_other _ _ _ _ (by decide))]

theorem completes_rank1 {t : Nat} (hen : s.blk.chainEnabled = true) (hdev : s.blk.dev = .settle) (hlock : s.blk.chain.ownLock = some t)
    (hrank : s.blk.rank = 1) (hrole : s.blk.chain.role = .none) (hheard : s.blk.chain.heard = false)
    (hlate : t + 10000000 ≤ s.blk.ticks) : Completes .rank1SyncWaitExpiry s fun b =>
      b.chain.role = .master ∧ b.get Reg.CHN_ID_ROLE = Role.master.code := by
  refine completes_of_next (b := s.blk.rank1Wait) rfl ?_
  have heq : s.blk.rank1Wait = (if s.blk.joinAsMaster.chain.freeStart then s.blk.joinAsMaster.startFree else s.blk.joinAsMaster).refreshChain := by
    unfold Block.rank1Wait
    rw [hlock]
    exact if_pos (by rw [hen, hdev, hrank, hrole, hheard, decide_eq_true hlate]; rfl)
  rw [heq]
  obtain ⟨hr, hg⟩ := s.blk.joinAsMaster_shows
  generalize s.blk.joinAsMaster = c at hr hg ⊢
  have hd : (if c.chain.freeStart then c.startFree else c).chain.role = .master ∧
      (if c.chain.freeStart then c.startFree else c).get Reg.CHN_ID_ROLE = Role.master.code := by
    split
    · exact ⟨c.startFree_seat.1.trans hr, c.startFree_seat.2.trans hg⟩
    · exact ⟨hr, hg⟩
  generalize (if c.chain.freeStart then c.startFree else c) = d at hd ⊢
  refine ⟨by rw [Block.gated_role, d.byReplica_refreshChain.role, hd.1], ?_⟩
  rw [Block.gated_get_other _ _ (by decide), d.refreshChain_get (by decide) (by decide) (by decide), hd.2]

theorem completes_joinTimeout_late (hen : s.blk.chainEnabled = true) (hdev : s.blk.dev = .settle) (hrank : 2 ≤ s.blk.rank)
    (hheard : s.blk.chain.heard = false)
    (hlate : s.blk.fault.since + (s.blk.get Reg.BRG_CTRL_LOCK_WAIT + 1) * 25000000 ≤ s.blk.ticks) :
    Completes .chainJoinTimeout s (·.quietWith 0x05) := by
  refine completes_of_next (b := s.blk.joinTimeout) rfl ?_
  have heq : s.blk.joinTimeout = s.blk.doubt 0x05 :=
    if_pos (by rw [hen, hdev, hheard, decide_eq_true hrank, decide_eq_true hlate]; rfl)
  rw [heq]
  exact Block.doubt_quietWith (by decide) (by rw [hdev]; rfl)

theorem completes_joined_idle {i : Instr} {b : Block} (hx : exec i s = .next { s with blk := b.gated }) (hb : b = s.blk)
    (hdev : s.blk.dev = .settle) : Completes i s fun b => s.blk.keepsBut b [] := by
  refine completes_of_next hx ?_
  rw [hb]
  exact Block.keepsBut_gated_of_joins (s.blk.keepsBut_refl _) (by rw [hdev]; rfl)

theorem completes_joinTimeout_heard (hdev : s.blk.dev = .settle) (hheard : s.blk.chain.heard = true) :
    Completes .chainJoinTimeout s fun b => s.blk.keepsBut b [] :=
  completes_joined_idle (b := s.blk.joinTimeout) rfl (if_neg (by
    rw [hheard]
    simp)) hdev

/-- An input that has locked. -/
def ChainSt.locked (x : ChainSt) (ringB : Bool) : ChainSt := if ringB then { x with lockedB := true } else { x with lockedA := true }

theorem Block.inputLocked_eq {b : Block} (hen : b.chainEnabled = true) (hdev : b.dev = .settle) (ringB : Bool) :
    b.inputLocked ringB = b.withChain (b.chain.locked ringB) := if_pos (by rw [hen, hdev]; rfl)

theorem completes_inputLocked (ring : Ring) (hen : s.blk.chainEnabled = true) (hdev : s.blk.dev = .settle) :
    Completes (.chainInputLocked ring) s fun b =>
      (if ring == .b then b.chain.lockedB else b.chain.lockedA) = true ∧ s.blk.keepsBut b [] := by
  refine completes_of_next (b := s.blk.inputLocked (ring == .b)) rfl ?_
  rw [Block.inputLocked_eq hen hdev, Block.gated_chain]
  refine ⟨?_, Block.keepsBut_gated_of_joins ((s.blk.keepsBut_refl _).of_regs rfl) (show s.blk.dev.joins = true by rw [hdev]; rfl)⟩
  cases ring <;> rfl

/-- CHAIN_INPUT_LOCK_TIMEOUT on the block. -/
def Block.inputLockTimeout (b : Block) : Block :=
  if b.chainEnabled && b.dev == .settle && !b.chain.lockedA && !b.chain.lockedB && b.fault.since + 25000000 ≤ b.ticks then b.doubt 0x05
  else b

theorem exec_chainInputLockTimeout (s : State) : exec .chainInputLockTimeout s =
    .next { s with blk := s.blk.inputLockTimeout.gated } := rfl

theorem completes_inputLockTimeout_late (hen : s.blk.chainEnabled = true) (hdev : s.blk.dev = .settle)
    (hA : s.blk.chain.lockedA = false) (hB : s.blk.chain.lockedB = false) (hlate : s.blk.fault.since + 25000000 ≤ s.blk.ticks) :
    Completes .chainInputLockTimeout s (·.quietWith 0x05) := by
  refine completes_of_next (exec_chainInputLockTimeout s) ?_
  have heq : s.blk.inputLockTimeout = s.blk.doubt 0x05 :=
    if_pos (by rw [hen, hdev, hA, hB, decide_eq_true hlate]; rfl)
  rw [heq]
  exact Block.doubt_quietWith (by decide) (by rw [hdev]; rfl)

theorem completes_inputLockTimeout_locked (hdev : s.blk.dev = .settle) (h : s.blk.chain.lockedA = true ∨ s.blk.chain.lockedB = true) :
    Completes .chainInputLockTimeout s fun b => s.blk.keepsBut b [] :=
  completes_joined_idle (exec_chainInputLockTimeout s) (if_neg (by
    rcases h with h | h <;> rw [h] <;> simp)) hdev

end

theorem completes_syncSend_idle {s : State} (h : s.blk.chain.role ≠ .master) : Completes .syncSend s fun b =>
    b.chain.cells = s.blk.chain.cells ∧ s.blk.keepsBut b [Reg.SP_STAT 1] := by
  refine completes_of_next (exec_syncSend s) ?_
  rw [Block.sendSync_idle h]
  exact ⟨Block.gated_cells _, (s.blk.keepsBut_refl _).gated (by simp)⟩

/-! ### The bypasses -/

section
variable {s : State}

/-- A ring's bypass opened. -/
def Block.opening (b : Block) (ringB : Bool) : Block :=
  b.withChain (if ringB then { b.chain with bypassB := false, lastOwn := b.ticks } else { b.chain with bypassA := false, lastOwn := b.ticks })

/-- The master whose rings are both open has joined. -/
def Block.joining (b : Block) : Block :=
  if b.chain.role = .master then
    (({ b with chain := { b.chain with joined := true } }).takeRoster (b.get Reg.CHN_ROSTER_PRESENT ||| 2 ^ b.rank)
      (b.get Reg.CHN_ROSTER_READY)).post 0x0D01 0 0x46 [(1, b.rank), (1, b.chain.role.code)]
  else b

theorem Block.bypassOpens_a {b : Block} (hen : b.chainEnabled = true) (hdev : b.dev = .settle) (hrole : b.chain.role ≠ .none)
    (hrun : b.running = true) (hA : b.chain.bypassA = true) : b.bypassOpens false = (b.opening false).sendSync.refreshChain := by
  unfold Block.bypassOpens
  refine (if_neg ?_).trans ((if_pos rfl).trans (if_neg ?_))
  · rw [hen, hdev, hrun, beq_eq_false_iff_ne.2 hrole]
    decide
  · rw [hA]
    decide

theorem Block.bypassOpens_b {b : Block} (hen : b.chainEnabled = true) (hdev : b.dev = .settle) (hrole : b.chain.role ≠ .none)
    (hrun : b.running = true) (hA : b.chain.bypassA = false) (hB : b.chain.bypassB = true) :
    b.bypassOpens true = (b.opening true).sendSync.joining.refreshChain := by
  unfold Block.bypassOpens
  refine (if_neg ?_).trans ((if_neg (by decide)).trans (if_neg ?_))
  · rw [hen, hdev, hrun, beq_eq_false_iff_ne.2 hrole]
    decide
  · rw [hA, hB]
    decide

theorem Block.bypassOpens_b_closed {b : Block} (hA : b.chain.bypassA = true) : b.bypassOpens true = b := by
  unfold Block.bypassOpens
  split
  · rfl
  · exact (if_neg (by decide)).trans (if_pos (by rw [hA]; rfl))

theorem Block.byReplica_sendSync (b : Block) : b.byReplica b.sendSync :=
  b.byReplica_refl.ite (((b.byReplica_set _ _).trans (Block.byReplica_set _ _ _)).trans (Block.byReplica_sendCell _ _ _ _ _))

theorem Block.byReplica.bypass {b c : Block} (h : b.byReplica c) : c.chain.bypassA = b.chain.bypassA ∧ c.chain.bypassB = b.chain.bypassB :=
  ⟨h.part (fun x : ChainSt => x.bypassA) fun _ => rfl, h.part (fun x : ChainSt => x.bypassB) fun _ => rfl⟩

theorem Block.joining_shows (b : Block) : b.joining.chain.bypassB = b.chain.bypassB ∧ b.joining.dev = b.dev ∧
    (b.chain.role = .master → b.joining.chain.joined = true) := by
  unfold Block.joining
  split
  next =>
    have hc : ∀ x : ChainSt, ({ b with chain := x } : Block) = b.withChain x := fun _ => rfl
    rw [hc, Block.post_chain, Block.post_dev]
    unfold Block.takeRoster
    rw [Block.setAll_chain, Block.setAll_dev]
    exact ⟨rfl, rfl, fun _ => rfl⟩
  next h => exact ⟨rfl, rfl, fun h' => absurd h' h⟩

theorem completes_bypass_a (hen : s.blk.chainEnabled = true) (hdev : s.blk.dev = .settle) (hrole : s.blk.chain.role ≠ .none)
    (hrun : s.blk.running = true) (hA : s.blk.chain.bypassA = true) : Completes (.bypassOpen .a) s fun b => b.chain.bypassA = false := by
  refine completes_of_next (b := s.blk.bypassOpens false) rfl ?_
  rw [Block.bypassOpens_a hen hdev hrole hrun hA]
  have h := (s.blk.opening false).byReplica_sendSync.trans (Block.byReplica_refreshChain _)
  generalize (s.blk.opening false).sendSync.refreshChain = c at h ⊢
  have hd : c.dev.joins = true := by
    rw [h.dev]
    show s.blk.dev.joins = true
    rw [hdev]
    rfl
  rw [(Block.gated_bypasses hd).1, h.bypass.1]
  rfl

theorem completes_bypass_b_closed (hdev : s.blk.dev = .settle) (hA : s.blk.chain.bypassA = true) :
    Completes (.bypassOpen .b) s fun b => b.chain.bypassB = s.blk.chain.bypassB ∧ s.blk.keepsBut b [] := by
  refine completes_of_next (b := s.blk.bypassOpens true) rfl ?_
  rw [Block.bypassOpens_b_closed hA]
  have hd : s.blk.dev.joins = true := by rw [hdev]; rfl
  exact ⟨(Block.gated_bypasses hd).2, Block.keepsBut_gated_of_joins (s.blk.keepsBut_refl _) hd⟩

theorem completes_bypass_b (hen : s.blk.chainEnabled = true) (hdev : s.blk.dev = .settle) (hrole : s.blk.chain.role ≠ .none)
    (hrun : s.blk.running = true) (hA : s.blk.chain.bypassA = false) (hB : s.blk.chain.bypassB = true) :
    Completes (.bypassOpen .b) s fun b => b.chain.bypassB = false ∧ (s.blk.chain.role = .master → b.chain.joined = true) := by
  refine completes_of_next (b := s.blk.bypassOpens true) rfl ?_
  rw [Block.bypassOpens_b hen hdev hrole hrun hA hB]
  have h := (s.blk.opening true).byReplica_sendSync
  generalize (s.blk.opening true).sendSync = c at h ⊢
  obtain ⟨hby, hdv, hj⟩ := c.joining_shows
  generalize c.joining = d at hby hdv hj ⊢
  have hr := d.byReplica_refreshChain
  generalize d.refreshChain = e at hr ⊢
  have hd : e.dev.joins = true := by
    rw [hr.dev, hdv, h.dev]
    show s.blk.dev.joins = true
    rw [hdev]
    rfl
  refine ⟨by rw [(Block.gated_bypasses hd).2, hr.bypass.2, hby, h.bypass.2]; rfl, fun hm => ?_⟩
  rw [Block.gated_chain]
  exact hr.joined.trans (hj (h.role.trans hm))

end

/-! ### The echo -/

section
variable {s : State} {ring : Ring}

/-- An echo awaited on a ring, or no longer. -/
def ChainSt.echoing (x : ChainSt) (ringB awaited : Bool) : ChainSt :=
  if ringB then { x with echoB := awaited } else { x with echoA := awaited }

/-- The echo a device sends upstream. -/
def Block.echoOut (b : Block) (ring : Ring) : Block :=
  let b := b.sendCellOn (ring == .a) kindEcho (b.upstream (ring == .b)) false (toLe 1 (if ring = .b then 1 else 0))
  { b with chain := if ring = .b then { b.chain with echoB := true } else { b.chain with echoA := true } }

/-- ECHO_SEND on the block. -/
def Block.echoSent (b : Block) (ring : Ring) : Block := if !b.hears (ring == .b) then b else b.echoOut ring

theorem exec_echoSend (s : State) (ring : Ring) : exec (.echoSend ring) s = .next { s with blk := (s.blk.echoSent ring).gated } := rfl

theorem Block.echoSent_eq {b : Block} {ring : Ring} (h : b.hears (ring == .b) = true) : b.echoSent ring = b.echoOut ring := by
  unfold Block.echoSent
  rw [h]
  exact if_neg Bool.false_ne_true

/-- The bytes of the echo sent upstream. -/
def Block.echoBytes (b : Block) (ringB : Bool) : List Byte :=
  cellBytes kindEcho b.rank (b.upstream ringB) false b.chain.seq (toLe 1 (if ringB then 1 else 0))

theorem Block.echoOut_shows {b : Block} {ring : Ring} (hby : b.bypassed (!(ring == .b)) = false)
    (hw : b.wrapped (!(ring == .b)) = false) :
    (b.echoOut ring).chain.cells = b.chain.cells ++ [{ ringB := !(ring == .b), bytes := b.echoBytes (ring == .b) }] ∧
    (if ring == .b then (b.echoOut ring).chain.echoB else (b.echoOut ring).chain.echoA) = true ∧ (b.echoOut ring).dev = b.dev ∧
    (b.echoOut ring).regs = b.regs := by
  have hside : (ring == .a) = !(ring == .b) := by cases ring <;> rfl
  have hnum : toLe 1 (if ring = .b then 1 else 0) = toLe 1 (if ring == .b then 1 else 0) := by cases ring <;> rfl
  have hsent : ∀ c, c = b.sendCellOn (ring == .a) kindEcho (b.upstream (ring == .b)) false (toLe 1 (if ring = .b then 1 else 0)) →
      c.chain.cells = b.chain.cells ++ [{ ringB := !(ring == .b), bytes := b.echoBytes (ring == .b) }] ∧ b.onRing c := by
    intro c hc
    refine ⟨?_, hc ▸ b.onRing_sendCellOn _ _ _ _ _⟩
    have hput := Block.putCell_out (b := b.nextSeq) hby hw (b.echoBytes (ring == .b))
    have heq : c = b.nextSeq.putCell (!(ring == .b)) (b.echoBytes (ring == .b)) := by
      rw [hc, hside, hnum]
      rfl
    rw [heq, hput]
    rfl
  unfold Block.echoOut
  extract_lets c
  obtain ⟨hcells, hring⟩ := hsent c rfl
  clear_value c
  cases ring with
  | a => exact ⟨hcells, rfl, hring.dev, hring.regs⟩
  | b => exact ⟨hcells, rfl, hring.dev, hring.regs⟩

theorem completes_echoSend (hh : s.blk.hears (ring == .b) = true) (hby : s.blk.bypassed (!(ring == .b)) = false)
    (hw : s.blk.wrapped (!(ring == .b)) = false) : Completes (.echoSend ring) s fun b =>
      (if ring == .b then b.chain.echoB else b.chain.echoA) = true ∧ s.blk.keepsBut b [] ∧
      b.chain.cells = s.blk.chain.cells ++ [{ ringB := !(ring == .b), bytes := s.blk.echoBytes (ring == .b) }] := by
  refine completes_of_next (exec_echoSend s ring) ?_
  rw [Block.echoSent_eq hh]
  obtain ⟨hcells, hecho, hdev, hregs⟩ := Block.echoOut_shows hby hw
  generalize s.blk.echoOut ring = c at hcells hecho hdev hregs ⊢
  rw [← hcells, Block.gated_chain]
  refine ⟨hecho, Block.keepsBut_gated_of_joins ((s.blk.keepsBut_refl _).of_regs hregs) ?_, rfl⟩
  rw [hdev]
  exact DevState.joins_of (Block.dev_of_hears hh)

/-- The register field of a ring's link delay. -/
def delayField (ringB : Bool) : Field := if ringB then Reg.CHN_LINK_B_DELAY else Reg.CHN_LINK_A_DELAY

theorem Block.echoed_eq {b : Block} {ringB : Bool} (h : (if ringB then b.chain.echoB else b.chain.echoA) = true) (rt residence : Nat) :
    b.echoed ringB rt residence =
      (b.withChain (b.chain.echoing ringB false)).set (delayField ringB) (min 65535 ((rt - residence) / 2)) := by
  cases ringB
  · exact if_pos h
  · exact if_pos h

theorem exec_echoReceived (s : State) (ring : Ring) (rt residence : Nat) : exec (.echoReceived ring rt residence) s =
    .next { s with blk := (if s.blk.hears (ring == .b) then s.blk.echoed (ring == .b) rt residence else s.blk).gated } := rfl

theorem completes_echoReceived {rt residence : Nat} (hh : s.blk.hears (ring == .b) = true)
    (hecho : (if ring == .b then s.blk.chain.echoB else s.blk.chain.echoA) = true) :
    Completes (.echoReceived ring rt residence) s fun b =>
      b.get (if ring == .b then Reg.CHN_LINK_B_DELAY else Reg.CHN_LINK_A_DELAY) = min 65535 ((rt - residence) / 2) ∧
      (if ring == .b then b.chain.echoB else b.chain.echoA) = false ∧
      s.blk.keepsBut b [if ring == .b then Reg.CHN_LINK_B else Reg.CHN_LINK_A] := by
  refine completes_of_next (exec_echoReceived s ring rt residence) ?_
  rw [if_pos hh, Block.echoed_eq hecho]
  generalize (ring == .b) = inB at hh hecho ⊢
  have hfits : (delayField inB).fits ∧ (delayField inB).width = 16 ∧ (delayField inB).off ≠ Reg.SP_STAT 1 := by cases inB <;> decide
  have hlt : min 65535 ((rt - residence) / 2) < 2 ^ 16 := by omega
  generalize min 65535 ((rt - residence) / 2) = d at hlt ⊢
  have hjoins : ((s.blk.withChain (s.blk.chain.echoing inB false)).set (delayField inB) d).dev.joins = true := by
    rw [Block.set_dev]
    exact DevState.joins_of (Block.dev_of_hears hh)
  refine ⟨?_, ?_, Block.keepsBut_gated_of_joins (Block.keepsBut.set ((s.blk.keepsBut_refl _).of_regs rfl) _ ?_) hjoins⟩
  · show Block.get _ (delayField inB) = d
    rw [Block.gated_get_other _ _ hfits.2.2, Block.get_set_same _ _ _ hfits.1, hfits.2.1]
    exact Nat.mod_eq_of_lt hlt
  · rw [Block.gated_chain, Block.set_chain]
    cases inB <;> rfl
  · cases inB <;> decide

end

/-! ### The statement -/

/-- Settles O55: each clause is the lemma named after what is sent, heard or awaited. -/
theorem syncsAndTheJoin : Obligations.SyncsAndTheJoin := by
  intro s ring cell residence rt c
  refine ⟨completes_syncSend, completes_syncSend_idle, fun hok hh hc hkind hsrc => ⟨completes_sync_join hok hh hc hkind hsrc,
    completes_sync_yields hok hh hc hkind hsrc, completes_sync_master hok hh hc hkind hsrc⟩, completes_damaged_cell,
    refused_ill_formed_cell, fun hen hdev => ⟨fun t => completes_rank1 hen hdev, completes_joinTimeout_late hen hdev,
      completes_joinTimeout_heard hdev, completes_inputLocked ring hen hdev, completes_inputLockTimeout_late hen hdev,
      completes_inputLockTimeout_locked hdev, fun hrole hrun => ⟨completes_bypass_a hen hdev hrole hrun,
        completes_bypass_b_closed hdev, completes_bypass_b hen hdev hrole hrun⟩⟩, completes_echoSend, completes_echoReceived⟩

end Sys2Proof.Machine

/-!
The G3-PLC profile (R331 to R334): a frame in hand backs off, goes out, or waits for its ACK.
-/

namespace Sys2Proof.Machine

/-! ### The ports' tables -/

section
variable (b : Block)

theorem Block.frame_g3 : b.frame.g3 = b.g3 := rfl

theorem Block.g3_of_frame {c : Block} (h : c.frame = b.frame) : c.g3 = b.g3 := by
  rw [← Block.frame_g3, h, Block.frame_g3]

theorem Block.g3_of_core {c : Block} (h : c.core = b.core) : c.g3 = b.g3 := b.g3_of_frame (Block.frame_of_core h)

theorem Block.g3Port_of_g3 {c : Block} (h : c.g3 = b.g3) (n : Nat) : c.g3Port n = b.g3Port n := by
  unfold Block.g3Port
  rw [h]

/-- The block with a port's table replaced, nothing of it sent to the partner. -/
def Block.putG3 (n : Nat) (g : G3Port) : Block := { b with g3 := Store.put (fun _ => G3Port.reset) b.g3 n g }

theorem Block.putG3_port (n : Nat) (g : G3Port) : (b.putG3 n g).g3Port n = g := Store.get_put_same _ _ _ _

theorem Block.g3_replicate (what index : Nat) (old new : List Byte) : (b.replicate what index old new).g3 = b.g3 :=
  b.g3_of_frame (Block.frame_replicate _ _ _ _ _)

/-- What a port's table replaced leaves: everything but that table, the Chain's traffic and its sequence register. -/
theorem Block.setG3_shows (n : Nat) (g : G3Port) : (b.setG3 n g).frame = (b.putG3 n g).frame ∧
    ∀ off, off ≠ Reg.TRV_REPL_SEQ → (b.setG3 n g).rd off = b.rd off := by
  unfold Block.setG3
  extract_lets old c
  have hc : c = b.putG3 n g := rfl
  have hrd : ∀ off, c.rd off = b.rd off := fun _ => rfl
  rw [← hc]
  clear_value c old
  refine ⟨foldl_part Block.frame _ (fun d x => Block.frame_replicate _ _ _ _ _) _ _, fun off hoff => ?_⟩
  exact (foldl_part (fun d : Block => d.rd off) _ (fun d x => Block.replicate_rd _ _ _ _ _ _ hoff) _ _).trans (hrd off)

theorem Block.setG3_port (n : Nat) (g : G3Port) : (b.setG3 n g).g3Port n = g := by
  rw [Block.g3Port_of_g3 (b.putG3 n g) (Block.g3_of_frame _ (b.setG3_shows n g).1), Block.putG3_port]

/-- A table whose neighbours stay is not sent to the partner. -/
theorem Block.setG3_eq {n : Nat} {g : G3Port} (h : g.neigh = (b.g3Port n).neigh) : b.setG3 n g = b.putG3 n g := by
  unfold Block.setG3
  extract_lets old c
  have hnone : (g.neigh.filter fun x => !old.neigh.contains x) = [] := by
    rw [h]
    exact List.filter_eq_nil_iff.2 fun x hx => by
      rw [show old.neigh.contains x = true from List.contains_iff_mem.2 hx]
      decide
  rw [hnone]
  rfl

/-! ### What does not see the sends that wait for an engine -/

/-- The block with other sends waiting for an engine. -/
def Block.withWaits (w : List Nat) : Block := { b with cx := { b.cx with sendsWait := w } }

variable (w : List Nat)

theorem Block.withWaits_g3Frame : (b.withWaits w).g3Frame = b.g3Frame := rfl

theorem Block.withWaits_quietBlocks : (b.withWaits w).quietBlocks = b.quietBlocks := rfl

theorem Block.withWaits_g3Barred : (b.withWaits w).g3Barred = b.g3Barred := rfl

theorem Block.withWaits_senseIdle : (b.withWaits w).senseIdle = b.senseIdle := rfl

theorem Block.withWaits_meetsTx : (b.withWaits w).meetsTx = b.meetsTx := rfl

theorem Block.withWaits_txLanesFree : (b.withWaits w).txLanesFree = b.txLanesFree := rfl

theorem Block.withWaits_portFull : (b.withWaits w).portFull = b.portFull := rfl

theorem Block.withWaits_budgetShort : (b.withWaits w).budgetShort = b.budgetShort := rfl

/-- The plans read the node table, the offers and the sends alone. -/
theorem Block.withWaits_plans : (b.withWaits w).plans = b.plans := by
  have hopen : (b.withWaits w).openSends = b.openSends := rfl
  have hsend : (b.withWaits w).sendOffer = b.sendOffer := rfl
  have hreach : (b.withWaits w).reachable = b.reachable := rfl
  have hindex : (b.withWaits w).indexOf = b.indexOf := rfl
  have hext : (b.withWaits w).ext = b.ext := rfl
  have hmac : (b.withWaits w).mac = b.mac := rfl
  funext t
  unfold Block.plans
  rw [hopen, hsend, hreach, hindex, hext, hmac]

theorem Block.withWaits_g3YieldsP0 : (b.withWaits w).g3YieldsP0 = b.g3YieldsP0 := by
  unfold Block.g3YieldsP0
  rw [Block.withWaits_plans]

theorem Block.withWaits_thermalRoom : (b.withWaits w).thermalRoom = b.thermalRoom := by
  have hdraft : (b.withWaits w).draft = b.draft := rfl
  have hports : (b.withWaits w).portsFor = b.portsFor := rfl
  have hneeds : (b.withWaits w).g3Needs = b.g3Needs := rfl
  have hloss : (b.withWaits w).lossFor = b.lossFor := rfl
  have hok : (b.withWaits w).thermalOk = b.thermalOk := rfl
  have hcost : (b.withWaits w).thermalCost = b.thermalCost := rfl
  have htotal : (b.withWaits w).totalPred = b.totalPred := rfl
  have hheld : (b.withWaits w).p0Held = b.p0Held := by
    unfold Block.p0Held
    rw [Block.withWaits_plans, hdraft, hports, hloss, hcost, hneeds]
  unfold Block.thermalRoom
  rw [hheld, hok, htotal, hcost]

end

/-! ### A frame in hand at the end of a backoff -/

/-- A port that may send: in SERVICE, Bearing running, bound, enabled, driven, and nothing holds it back. -/
structure Block.g3Open (b : Block) (n : Nat) : Prop where
  dev : b.dev = .service
  running : b.running = true
  bound : b.g3Bound n = true
  enabled : b.on (Reg.LP_CTRL_ENABLE n) = true
  drives : b.drives n = true
  standsBy : b.standsBy n = false
  held : b.held (n / 3) = false
  sending : b.g3Sending n = false

/-- A frame in hand without a SEND, not on the air. -/
structure Block.g3Holds (b : Block) (n : Nat) (x : G3Tx) : Prop where
  tx : (b.g3Port n).tx = some x
  send : x.send = none
  onAir : x.onAir = false

theorem Block.g3Settle_eq {b : Block} {n : Nat} {x : G3Tx} (h : b.g3Holds n x) : b.g3Settle n = b := by
  unfold Block.g3Settle
  extract_lets g
  have hg : g.tx = some x := h.tx
  clear_value g
  rw [hg]
  dsimp only
  rw [if_neg (by rw [h.onAir]; simp), if_neg (by rw [h.send]; simp)]

theorem Block.g3Take_eq {b : Block} {n : Nat} {x : G3Tx} (h : b.g3Holds n x) : b.g3Take n = b := by
  unfold Block.g3Take
  extract_lets g fresh
  have hg : g.tx = some x := h.tx
  clear_value g
  rw [hg]

theorem Block.g3Transmit_eq {b : Block} {n : Nat} {x : G3Tx} (h : b.g3Holds n x) (ho : b.g3Open n) (hack : x.awaitingAck = false)
    (access : G3Access) : ∃ w, b.g3Transmit n access = (b.withWaits w).g3Try n x access := by
  refine ⟨b.cx.sendsWait.filter (· != 8 + n), ?_⟩
  have hleave : b.leaveEngines (8 + n) = b.withWaits (b.cx.sendsWait.filter (· != 8 + n)) := rfl
  unfold Block.g3Transmit
  rw [if_neg (by rw [ho.dev, ho.running, ho.bound, ho.enabled, ho.drives, ho.standsBy, ho.held, ho.sending]; decide),
    Block.g3Settle_eq h, Block.g3Take_eq h, hleave]
  have htx : ((b.withWaits (b.cx.sendsWait.filter (· != 8 + n))).g3Port n).tx = some x := h.tx
  dsimp only
  rw [htx]
  dsimp only
  rw [hack]
  rfl

/-- What holds a frame in hand back at the end of a backoff, and what does not. -/
structure Block.g3Free (b : Block) (n : Nat) (x : G3Tx) : Prop where
  quiet : b.quietBlocks n (b.g3Frame n x []).last = false
  barred : b.g3Barred (n / 3) (b.g3Frame n x []) = false
  yields : b.g3YieldsP0 n x.prio = false

theorem Block.g3Free.withWaits {b : Block} {n : Nat} {x : G3Tx} (h : b.g3Free n x) (w : List Nat) : (b.withWaits w).g3Free n x := by
  refine ⟨?_, ?_, ?_⟩
  · rw [Block.withWaits_g3Frame, Block.withWaits_quietBlocks]
    exact h.quiet
  · rw [Block.withWaits_g3Frame, Block.withWaits_g3Barred]
    exact h.barred
  · rw [Block.withWaits_g3YieldsP0]
    exact h.yields

theorem Block.g3Try_busy {b : Block} {n : Nat} {x : G3Tx} (h : b.g3Free n x) : b.g3Try n x .busy = b.g3Busy n x := by
  unfold Block.g3Try
  refine (if_neg ?_).trans (if_pos (Or.inl rfl))
  rw [h.quiet, h.barred, h.yields]
  decide

/-- Everything that R50 asks for is at hand. -/
structure Block.g3Clear (b : Block) (n : Nat) (x : G3Tx) : Prop where
  idle : b.senseIdle (n / 3) (b.g3Frame n x []).bands = true
  apart : b.meetsTx (n / 3) (b.g3Frame n x []).bands (b.g3Frame n x []).start (b.g3Frame n x []).last = false
  lanes : b.txLanesFree 1 = true
  room : b.portFull n (b.g3Frame n x []).start (b.g3Frame n x []).last = false
  thermal : b.thermalRoom [n] (b.g3Frame n x []).carriers (b.g3Frame n x []).loss (b.g3Frame n x []).atten
    (x.prio == 0 && x.job == .parcel) = true
  budget : b.budgetShort [n] (b.g3Frame n x []).bands (b.g3Frame n x []).micros (x.prio == 0 && x.job == .parcel) = []

theorem Block.g3Clear.withWaits {b : Block} {n : Nat} {x : G3Tx} (h : b.g3Clear n x) (w : List Nat) : (b.withWaits w).g3Clear n x := by
  refine ⟨?_, ?_, ?_, ?_, ?_, ?_⟩
  · rw [Block.withWaits_g3Frame, Block.withWaits_senseIdle]
    exact h.idle
  · rw [Block.withWaits_g3Frame, Block.withWaits_meetsTx]
    exact h.apart
  · rw [Block.withWaits_txLanesFree]
    exact h.lanes
  · rw [Block.withWaits_g3Frame, Block.withWaits_portFull]
    exact h.room
  · rw [Block.withWaits_g3Frame, Block.withWaits_thermalRoom]
    exact h.thermal
  · rw [Block.withWaits_g3Frame, Block.withWaits_budgetShort]
    exact h.budget

theorem Block.g3Try_clear {b : Block} {n : Nat} {x : G3Tx} (h : b.g3Free n x) (hc : b.g3Clear n x) (hjob : x.job ≠ .parcel) :
    b.g3Try n x .clear = b.g3Admit n x := by
  unfold Block.g3Try
  extract_lets t tx p0 short
  have hshort : short = [] := hc.budget
  clear_value short
  refine (if_neg ?_).trans ((if_neg ?_).trans ((if_neg ?_).trans ((if_neg ?_).trans (if_neg fun h => hjob h.1))))
  · rw [h.quiet, h.barred, h.yields]
    decide
  · rw [hc.idle]
    decide
  · rw [hc.apart, hc.lanes, hc.room, hc.thermal]
    decide
  · rw [hshort]
    decide

/-! ### Backing off -/

theorem Block.g3Done_eq {b : Block} {n : Nat} {x : G3Tx} (htx : (b.g3Port n).tx = some x) (hsend : x.send = none) (status : Nat) :
    b.g3Done n status = b.putG3 n { b.g3Port n with tx := none } := by
  unfold Block.g3Done
  extract_lets g d
  have hg : g.tx = some x := htx
  have hput : d = b.putG3 n { g with tx := none } := b.setG3_eq rfl
  have hnone : d.g3Send x = none := by
    unfold Block.g3Send
    rw [hsend]
  clear_value g d
  rw [hg]
  dsimp only
  rw [hnone]
  exact hput

section
variable {s : State} {port : Fin 24} {x : G3Tx}

theorem exec_g3Transmit (s : State) (port : Fin 24) (access : G3Access) : exec (.g3Transmit port access) s =
    .next { s with blk := (s.blk.g3Transmit port access).gated } := rfl

theorem completes_g3_backoff (h : s.blk.g3Holds port x) (ho : s.blk.g3Open port) (hack : x.awaitingAck = false)
    (hf : s.blk.g3Free port x) (hmax : x.backoffs + 1 < s.blk.get (Reg.LP_G3_CSMA_MAX_BACKOFFS port)) :
    Completes (.g3Transmit port .busy) s fun b =>
      (b.g3Port port).tx = some { x with backoffs := x.backoffs + 1 } ∧ b.mac.txs = s.blk.mac.txs ∧ s.blk.keepsBut b [] := by
  refine completes_of_next (exec_g3Transmit s port .busy) ?_
  obtain ⟨w, hw⟩ := Block.g3Transmit_eq h ho hack .busy
  have hc : (s.blk.withWaits w).regs = s.blk.regs ∧ (s.blk.withWaits w).mac = s.blk.mac ∧ (s.blk.withWaits w).dev = s.blk.dev :=
    ⟨rfl, rfl, rfl⟩
  have hfree := hf.withWaits w
  rw [hw]
  generalize s.blk.withWaits w = c at hc hfree
  obtain ⟨hregs, hmac, hdev⟩ := hc
  have heq : c.g3Try port x .busy = c.putG3 port { c.g3Port port with tx := some { x with backoffs := x.backoffs + 1 } } := by
    rw [Block.g3Try_busy hfree]
    exact (if_pos (by rw [Block.get_of_regs hregs]; exact hmax)).trans (c.setG3_eq rfl)
  rw [heq, Block.gated_service _ (show (c.putG3 port _).dev = .service from hdev.trans ho.dev), Block.putG3_port]
  exact ⟨rfl, congrArg MacSt.txs hmac, ((s.blk.keepsBut_refl _).of_regs hregs).of_regs rfl⟩

theorem completes_g3_given_up (h : s.blk.g3Holds port x) (ho : s.blk.g3Open port) (hack : x.awaitingAck = false)
    (hf : s.blk.g3Free port x) (hmax : s.blk.get (Reg.LP_G3_CSMA_MAX_BACKOFFS port) ≤ x.backoffs + 1) :
    Completes (.g3Transmit port .busy) s fun b =>
      (b.g3Port port).tx = none ∧ s.blk.keepsBut b [Reg.LP_G3_CSMA_FAIL port] ∧
      b.get (Reg.LP_G3_CSMA_FAIL_COUNT port) = (s.blk.get (Reg.LP_G3_CSMA_FAIL_COUNT port) + 1) % 2 ^ 32 := by
  refine completes_of_next (exec_g3Transmit s port .busy) ?_
  obtain ⟨w, hw⟩ := Block.g3Transmit_eq h ho hack .busy
  have hc : (s.blk.withWaits w).regs = s.blk.regs ∧ (s.blk.withWaits w).g3 = s.blk.g3 ∧ (s.blk.withWaits w).dev = s.blk.dev :=
    ⟨rfl, rfl, rfl⟩
  have hfree := hf.withWaits w
  rw [hw]
  generalize s.blk.withWaits w = c at hc hfree
  obtain ⟨hregs, hg3, hdev⟩ := hc
  have htx : ((c.inc (Reg.LP_G3_CSMA_FAIL_COUNT port)).g3Port port).tx = some x := by
    rw [Block.g3Port_of_g3 s.blk ((Block.inc_g3 _ _).trans hg3)]
    exact h.tx
  have heq : c.g3Try port x .busy = (c.inc (Reg.LP_G3_CSMA_FAIL_COUNT port)).putG3 port
      { (c.inc (Reg.LP_G3_CSMA_FAIL_COUNT port)).g3Port port with tx := none } := by
    rw [Block.g3Try_busy hfree]
    exact (if_neg (by rw [Block.get_of_regs hregs]; omega)).trans (Block.g3Done_eq htx h.send _)
  have hdev' : (c.inc (Reg.LP_G3_CSMA_FAIL_COUNT port)).dev = .service := (Block.inc_dev _ _).trans (hdev.trans ho.dev)
  have hcount : (c.inc (Reg.LP_G3_CSMA_FAIL_COUNT port)).get (Reg.LP_G3_CSMA_FAIL_COUNT port) =
      (s.blk.get (Reg.LP_G3_CSMA_FAIL_COUNT port) + 1) % 2 ^ 32 := by
    rw [Block.get_inc _ _ (Nat.le_of_ble_eq_true rfl), Block.get_of_regs hregs]
  have hkeep : s.blk.keepsBut (c.inc (Reg.LP_G3_CSMA_FAIL_COUNT port)) [Reg.LP_G3_CSMA_FAIL port] :=
    Block.keepsBut.inc ((s.blk.keepsBut_refl _).of_regs hregs) (by simp)
  rw [heq]
  generalize c.inc (Reg.LP_G3_CSMA_FAIL_COUNT port) = d at hdev' hcount hkeep ⊢
  rw [Block.gated_service _ (show (d.putG3 port _).dev = .service from hdev'), Block.putG3_port]
  exact ⟨rfl, hkeep.of_regs rfl, hcount⟩

end

end Sys2Proof.Machine

/-!
The G3-PLC profile (R334, R337): a frame on its way, a missing ACK, a tone map that is too old.
-/

namespace Sys2Proof.Machine

/-! ### A frame put on the line keeps the ports' tables -/

section
variable (b : Block)

theorem Block.g3_showZout (n code bands : Nat) : (b.showZout n code bands).g3 = b.g3 := by
  unfold Block.showZout
  extract_lets c
  have hc : c.g3 = b.g3 := Block.set_g3 _ _ _
  clear_value c
  split
  · exact (Block.set_g3 _ _ _).trans hc
  · exact hc

theorem Block.g3_deferG3 (x : Tx) : (b.deferG3 x).g3 = b.g3 := by
  unfold Block.deferG3
  split
  · rfl
  · refine foldl_part (fun b : Block => b.g3) _ (fun d n => ?_) _ _
    split
    · exact Block.inc_g3 _ _
    · rfl

theorem Block.g3_setBuckets (n s : Nat) (l : List Nat) : (b.setBuckets n s l).g3 = b.g3 := by
  unfold Block.setBuckets
  extract_lets old m d e
  have he : e.g3 = b.g3 := (Block.set_g3 _ _ _).trans rfl
  clear_value e
  split
  · exact (e.g3_replicate _ _ _ _).trans he
  · exact he

theorem Block.g3_chargeBand (n s micros : Nat) : (b.chargeBand n s micros).g3 = b.g3 := by
  unfold Block.chargeBand
  split <;> exact b.g3_setBuckets _ _ _

theorem Block.g3_chargeFrame (ports : List Nat) (bands micros : Nat) : (b.chargeFrame ports bands micros).g3 = b.g3 :=
  foldl_part (fun b : Block => b.g3) _ (fun d _ => foldl_part (fun b : Block => b.g3) _ (fun e _ => e.g3_chargeBand _ _ _) _ d) _ b

theorem Block.g3_driveCells (x : Tx) (n : Nat) : (b.driveCells x n).g3 = b.g3 := by
  unfold Block.driveCells
  split
  · rfl
  · exact foldl_part (fun b : Block => b.g3) _ (fun d _ => Block.sendCell_g3 _ _ _ _ _) _ b

theorem Block.g3_putTx (x : Tx) : (b.putTx x).g3 = b.g3 := by
  unfold Block.putTx
  extract_lets m d1 d2 d3 d4
  have h1 : d1.g3 = b.g3 := rfl
  have h2 : d2.g3 = d1.g3 := (Block.g3_deferG3 _ x).trans (foldl_part (fun b : Block => b.g3) _ (fun c p => c.g3_showZout _ _ _) _ _)
  clear_value d1 d2
  have h3 : d3.g3 = d2.g3 := d2.g3_chargeFrame _ _ _
  have h4 : d4.g3 = d3.g3 := foldl_part (fun b : Block => b.g3) (fun (d : Block) k => d.recharge k) (fun _ _ => rfl) _ _
  clear_value d3 d4
  rw [foldl_part (fun b : Block => b.g3) _ (fun c n => c.g3_driveCells x n), Block.reportPred_g3, h4, h3, h2, h1]

end

/-! ### A frame on its way -/

/-- The frame in hand as it is on the air. -/
def G3Tx.sent (x : G3Tx) : G3Tx :=
  { x with parcel := x.parcel, tries := x.tries + 1, backoffs := 0, onAir := true, awaitingAck := false }

theorem G3Tx.sent_eq {x : G3Tx} (h : x.awaitingAck = false) :
    x.sent = { x with tries := x.tries + 1, backoffs := 0, onAir := true } := by
  cases x
  cases h
  rfl

/-- The block that has a frame of a port on its way but for the line itself. -/
def Block.g3Begun (b : Block) (n : Nat) (x : G3Tx) : Block :=
  let b := b.setG3 n { (b.g3Port n).touch x.short with tx := some x.sent }
  { b with mac := { b.mac with nextNum := b.mac.nextNum + 1 } }

theorem Block.g3Begun_shows (b : Block) (n : Nat) (x : G3Tx) : ((b.g3Begun n x).g3Port n).tx = some x.sent ∧ (b.g3Begun n x).dev = b.dev := by
  unfold Block.g3Begun
  extract_lets g c
  have hport : (c.g3Port n).tx = some x.sent := congrArg G3Port.tx (b.setG3_port n _)
  have hdev : c.dev = b.dev := (Block.dev_of_frame (b.setG3_shows n _).1).trans rfl
  clear_value c
  exact ⟨hport, hdev⟩

theorem Block.g3Seal_eq {b : Block} {n : Nat} {x : G3Tx} (h : x.job ≠ .parcel) : b.g3Seal n x = (b, x.parcel) := by
  unfold Block.g3Seal
  exact if_pos (by rw [bne_iff_ne.2 h]; simp)

theorem Block.g3Admit_eq {b : Block} {n : Nat} {x : G3Tx} (hjob : x.job ≠ .parcel) (hsend : x.send = none) :
    b.g3Admit n x = (b.g3Begun n x).putTx (b.g3Frame n x x.parcel) := by
  have hnone : b.g3Send x = none := by
    unfold Block.g3Send
    rw [hsend]
  unfold Block.g3Admit
  rw [hnone, Block.g3Seal_eq hjob]
  rfl

section
variable {s : State} {port : Fin 24} {x : G3Tx}

theorem completes_g3_sent (h : s.blk.g3Holds port x) (ho : s.blk.g3Open port) (hack : x.awaitingAck = false)
    (hf : s.blk.g3Free port x) (hc : s.blk.g3Clear port x) (hjob : x.job ≠ .parcel) :
    Completes (.g3Transmit port .clear) s fun b =>
      (b.g3Port port).tx = some { x with tries := x.tries + 1, backoffs := 0, onAir := true } ∧
      ∃ z ∈ b.mac.txs, z.offer.type = typeG3 ∧ z.ports = [port.val] ∧ z.start = (s.blk.g3Frame port x []).start := by
  refine completes_of_next (exec_g3Transmit s port .clear) ?_
  obtain ⟨w, hw⟩ := Block.g3Transmit_eq h ho hack .clear
  have hfree := hf.withWaits w
  have hclear := hc.withWaits w
  have hframe : ((s.blk.withWaits w).g3Frame port x x.parcel).offer.type = typeG3 ∧
      ((s.blk.withWaits w).g3Frame port x x.parcel).ports = [port.val] ∧
      ((s.blk.withWaits w).g3Frame port x x.parcel).start = (s.blk.g3Frame port x []).start := ⟨rfl, rfl, rfl⟩
  have hdev : (s.blk.withWaits w).dev = .service := ho.dev
  rw [hw]
  generalize s.blk.withWaits w = c at hfree hclear hframe hdev
  rw [Block.g3Try_clear hfree hclear hjob, Block.g3Admit_eq hjob h.send]
  obtain ⟨htx, hd⟩ := c.g3Begun_shows port x
  generalize c.g3Frame port x x.parcel = y at hframe ⊢
  generalize c.g3Begun port x = d at htx hd ⊢
  have hon := d.onLine_refl.putTx y
  have hmem : y.uncharged ∈ (d.putTx y).aired := by
    have := congrArg Prod.fst (d.lines_putTx y)
    rw [show (d.putTx y).aired = d.aired ++ [y.uncharged] from this]
    exact List.mem_append_right _ (.head _)
  obtain ⟨z, hz, hoff, hports, hstart, -⟩ := Block.mem_of_aired hmem
  rw [Block.gated_service _ (hon.dev.trans (hd.trans hdev)), Block.g3Port_of_g3 d (d.g3_putTx y), htx, G3Tx.sent_eq hack]
  exact ⟨rfl, z, hz, (congrArg Offer.type hoff).trans hframe.1, hports.trans hframe.2.1, hstart.trans hframe.2.2⟩

/-! ### A missing ACK -/

theorem exec_g3AckTimeout (s : State) (port : Fin 24) : exec (.g3AckTimeout port) s =
    .next { s with blk := (s.blk.g3AckTimeout port).gated } := rfl

theorem Block.g3AckTimeout_again {b : Block} {n : Nat} {x : G3Tx} (h : b.g3Holds n x) (hack : x.awaitingAck = true)
    (hmax : x.tries < 1 + b.get (Reg.LP_G3_CSMA_MAX_RETRIES n)) : b.g3AckTimeout n =
      b.putG3 n { b.g3Port n with tx := some { x with awaitingAck := false, backoffs := 0 } } := by
  unfold Block.g3AckTimeout
  rw [Block.g3Settle_eq h]
  dsimp only
  rw [h.tx]
  dsimp only
  rw [if_neg (by rw [hack]; decide), if_pos hmax]
  exact b.setG3_eq rfl

theorem Block.g3AckTimeout_last {b : Block} {n : Nat} {x : G3Tx} (h : b.g3Holds n x) (hack : x.awaitingAck = true)
    (hmax : 1 + b.get (Reg.LP_G3_CSMA_MAX_RETRIES n) ≤ x.tries) : b.g3AckTimeout n =
      (b.inc (Reg.LP_G3_TX_FAIL_COUNT n)).g3Done n stTimeout := by
  unfold Block.g3AckTimeout
  rw [Block.g3Settle_eq h]
  dsimp only
  rw [h.tx]
  dsimp only
  rw [if_neg (by rw [hack]; decide), if_neg (by omega)]

theorem completes_g3_again (h : s.blk.g3Holds port x) (hack : x.awaitingAck = true)
    (hmax : x.tries < 1 + s.blk.get (Reg.LP_G3_CSMA_MAX_RETRIES port)) : Completes (.g3AckTimeout port) s fun b =>
      (b.g3Port port).tx = some { x with awaitingAck := false, backoffs := 0 } ∧ s.blk.keepsBut b [Reg.SP_STAT 1] := by
  refine completes_of_next (exec_g3AckTimeout s port) ?_
  rw [Block.g3AckTimeout_again h hack hmax, Block.g3Port_of_g3 _ (Block.gated_g3 _), Block.putG3_port]
  exact ⟨rfl, Block.keepsBut.gated ((s.blk.keepsBut_refl _).of_regs rfl) (by simp)⟩

theorem completes_g3_failed (h : s.blk.g3Holds port x) (hack : x.awaitingAck = true)
    (hmax : 1 + s.blk.get (Reg.LP_G3_CSMA_MAX_RETRIES port) ≤ x.tries) : Completes (.g3AckTimeout port) s fun b =>
      (b.g3Port port).tx = none ∧ s.blk.keepsBut b [Reg.LP_G3_TX_FAIL port, Reg.SP_STAT 1] ∧
      b.get (Reg.LP_G3_TX_FAIL_COUNT port) = (s.blk.get (Reg.LP_G3_TX_FAIL_COUNT port) + 1) % 2 ^ 32 := by
  refine completes_of_next (exec_g3AckTimeout s port) ?_
  have htx : ((s.blk.inc (Reg.LP_G3_TX_FAIL_COUNT port)).g3Port port).tx = some x := by
    rw [Block.g3Port_of_g3 s.blk (Block.inc_g3 _ _)]
    exact h.tx
  have hcount : (s.blk.inc (Reg.LP_G3_TX_FAIL_COUNT port)).get (Reg.LP_G3_TX_FAIL_COUNT port) =
      (s.blk.get (Reg.LP_G3_TX_FAIL_COUNT port) + 1) % 2 ^ 32 := Block.get_inc _ _ (Nat.le_of_ble_eq_true rfl)
  have hkeep : s.blk.keepsBut (s.blk.inc (Reg.LP_G3_TX_FAIL_COUNT port)) [Reg.LP_G3_TX_FAIL port, Reg.SP_STAT 1] :=
    (s.blk.keepsBut_refl _).inc (by simp)
  rw [Block.g3AckTimeout_last h hack hmax, Block.g3Done_eq htx h.send]
  generalize s.blk.inc (Reg.LP_G3_TX_FAIL_COUNT port) = d at hcount hkeep ⊢
  rw [Block.g3Port_of_g3 _ (Block.gated_g3 _), Block.putG3_port]
  refine ⟨rfl, Block.keepsBut.gated (hkeep.of_regs rfl) (by simp), ?_⟩
  rw [Block.gated_get_other _ _ (by simp only [Reg.LP_G3_TX_FAIL, Reg.SP_STAT]; omega)]
  exact hcount

/-! ### A tone map that is too old -/

theorem G3Port.ask_neigh (g : G3Port) (short : Nat) (job : G3Job) : (g.ask short job).neigh = g.neigh := by
  unfold G3Port.ask
  split <;> rfl

theorem G3Port.mem_ask (g : G3Port) (short : Nat) (job : G3Job) : (short, job) ∈ (g.ask short job).control := by
  unfold G3Port.ask
  split
  next h => exact List.contains_iff_mem.1 h
  next => exact List.mem_append_right _ (.head _)

theorem Block.toneMapExpiry_eq {b : Block} {n short : Nat} {z : G3Neigh} (hb : b.g3Bound n = true) (hd : b.dev = .service)
    (hz : (b.g3Port n).find short = some z) : b.toneMapExpiry n short =
      if z.mapAt + b.get (Reg.LP_G3_TMR_TTL n) * 250000000 < b.ticks then b.setG3 n ((b.g3Port n).ask short .mapRequest) else b := by
  unfold Block.toneMapExpiry
  refine (if_neg (by rw [hb, hd]; decide)).trans ?_
  rw [hz]

theorem exec_toneMapExpiry (s : State) (port : Fin 24) (short : BitVec 16) : exec (.toneMapExpiry port short) s =
    .next { s with blk := (s.blk.toneMapExpiry port short.toNat).gated } := rfl

theorem completes_toneMap_old {short : BitVec 16} {z : G3Neigh} (hb : s.blk.g3Bound port = true) (hd : s.blk.dev = .service)
    (hz : (s.blk.g3Port port).find short.toNat = some z)
    (hold : z.mapAt + s.blk.get (Reg.LP_G3_TMR_TTL port) * 250000000 < s.blk.ticks) : Completes (.toneMapExpiry port short) s fun b =>
      (short.toNat, .mapRequest) ∈ (b.g3Port port).control ∧ s.blk.keepsBut b [] := by
  refine completes_of_next (exec_toneMapExpiry s port short) ?_
  rw [Block.toneMapExpiry_eq hb hd hz, if_pos hold, s.blk.setG3_eq (G3Port.ask_neigh _ _ _),
    Block.gated_service _ (show (s.blk.putG3 port _).dev = .service from hd), Block.putG3_port]
  exact ⟨G3Port.mem_ask _ _ _, (s.blk.keepsBut_refl _).of_regs rfl⟩

theorem completes_toneMap_fresh {short : BitVec 16} {z : G3Neigh} (hb : s.blk.g3Bound port = true) (hd : s.blk.dev = .service)
    (hz : (s.blk.g3Port port).find short.toNat = some z)
    (hnew : s.blk.ticks ≤ z.mapAt + s.blk.get (Reg.LP_G3_TMR_TTL port) * 250000000) : Completes (.toneMapExpiry port short) s fun b =>
      b.g3Port port = s.blk.g3Port port ∧ s.blk.keepsBut b [] := by
  refine completes_of_next (exec_toneMapExpiry s port short) ?_
  rw [Block.toneMapExpiry_eq hb hd hz, if_neg (by omega), Block.gated_service _ hd]
  exact ⟨rfl, s.blk.keepsBut_refl _⟩

end

end Sys2Proof.Machine

/-!
The G3-PLC profile (R336 to R338): frames received and the neighbours they make.
-/

namespace Sys2Proof.Machine

/-! ### Neighbours -/

theorem G3Port.find_isSome {g : G3Port} {short : Nat} : (g.find short).isSome = true ↔ ∃ x ∈ g.neigh, x.short = short := by
  unfold G3Port.find
  rw [List.find?_isSome]
  simp only [beq_iff_eq]

theorem G3Port.find_map {g h : G3Port} {short : Nat} {f : G3Neigh → G3Neigh} (hf : ∀ x, (f x).short = x.short)
    (hn : h.neigh = g.neigh.map f) (hg : (g.find short).isSome = true) : (h.find short).isSome = true := by
  obtain ⟨x, hx, hs⟩ := G3Port.find_isSome.1 hg
  exact G3Port.find_isSome.2 ⟨f x, hn ▸ List.mem_map_of_mem hx, (hf x).trans hs⟩

theorem G3Port.find_of_neigh {g h : G3Port} {short : Nat} (hn : h.neigh = g.neigh) (hg : (g.find short).isSome = true) :
    (h.find short).isSome = true := by
  unfold G3Port.find at hg ⊢
  rw [hn]
  exact hg

/-- A sender that is used is a neighbour. -/
theorem G3Port.find_use (g : G3Port) (now short : Nat) : ((g.use now short).find short).isSome = true := by
  unfold G3Port.use
  extract_lets uses _ _
  split
  next x hx =>
    refine G3Port.find_map (g := g) (f := fun x => if x.short = short then { x with used := uses } else x) (fun y => ?_) rfl ?_
    · split <;> rfl
    · rw [hx]
      rfl
  next => exact G3Port.find_isSome.2 ⟨_, List.mem_append_right _ (.head _), rfl⟩

/-- Whether a port has a neighbour. -/
def Block.knows (b : Block) (n short : Nat) : Bool := ((b.g3Port n).find short).isSome

/-- A port's count of good frames stays, and with it a neighbour. -/
structure Block.keepsPeer (n short : Nat) (b c : Block) : Prop where
  count : c.rd (Reg.LP_G3_RX_OK n) = b.rd (Reg.LP_G3_RX_OK n)
  peer : b.knows n short = true → c.knows n short = true

section
variable {n short : Nat}

theorem Block.keepsPeer_refl (b : Block) : Block.keepsPeer n short b b := ⟨rfl, id⟩

theorem Block.keepsPeer.trans {b c d : Block} (h : Block.keepsPeer n short b c) (h' : Block.keepsPeer n short c d) :
    Block.keepsPeer n short b d := ⟨h'.count.trans h.count, fun hk => h'.peer (h.peer hk)⟩

theorem Block.keepsPeer.ite {p : Prop} [Decidable p] {b c d : Block} (h : Block.keepsPeer n short b c)
    (h' : Block.keepsPeer n short b d) : Block.keepsPeer n short b (if p then c else d) := by
  split
  · exact h
  · exact h'

theorem Block.keepsPeer_of_g3 {b c : Block} (hg : c.g3 = b.g3) (hrd : c.rd (Reg.LP_G3_RX_OK n) = b.rd (Reg.LP_G3_RX_OK n)) :
    Block.keepsPeer n short b c := ⟨hrd, fun hk => by
  unfold Block.knows at hk ⊢
  rw [Block.g3Port_of_g3 b hg]
  exact hk⟩

theorem Block.keepsPeer_set (b : Block) (f : Field) (v : Nat) (hf : Reg.LP_G3_RX_OK n ≠ f.off) :
    Block.keepsPeer n short b (b.set f v) := Block.keepsPeer_of_g3 (Block.set_g3 _ _ _) (Block.rd_set_other _ _ _ _ hf)

theorem Block.keepsPeer_inc (b : Block) (f : Field) (hf : Reg.LP_G3_RX_OK n ≠ f.off) : Block.keepsPeer n short b (b.inc f) :=
  b.keepsPeer_set _ _ hf

theorem rxOk_ne_of_le {n off : Nat} (hn : n < 24) (h : 0x180000 ≤ off) : Reg.LP_G3_RX_OK n ≠ off := by
  simp only [Reg.LP_G3_RX_OK]
  omega

theorem Block.keepsPeer_of_fabric (hn : n < 24) {b c : Block} (h : b.byFabric c) : Block.keepsPeer n short b c := by
  refine Block.keepsPeer_of_g3 (b.g3_of_core h.core) (h.rd ?_ ?_ ?_ (notMem_recordRegs ?_))
  · simp only [Reg.LP_G3_RX_OK]
    omega
  · simp only [Reg.LP_G3_RX_OK, Reg.QF_DROPS]
    omega
  · simp only [Reg.LP_G3_RX_OK, Reg.QF_REVOKES]
    omega
  · simp only [Reg.LP_G3_RX_OK]
    omega

theorem rxOk_ne_replSeq (n : Nat) : Reg.LP_G3_RX_OK n ≠ Reg.TRV_REPL_SEQ := by
  simp only [Reg.LP_G3_RX_OK, Reg.TRV_REPL_SEQ]
  omega

theorem Block.keepsPeer_replicate (b : Block) (what index : Nat) (old new : List Byte) :
    Block.keepsPeer n short b (b.replicate what index old new) :=
  Block.keepsPeer_of_g3 (b.g3_replicate _ _ _ _) (Block.replicate_rd _ _ _ _ _ _ (rxOk_ne_replSeq n))

/-- A port's own table replaced by one that keeps its neighbours. -/
theorem Block.keepsPeer_setG3 (b : Block) {g : G3Port} (h : ((b.g3Port n).find short).isSome = true → (g.find short).isSome = true) :
    Block.keepsPeer n short b (b.setG3 n g) := by
  refine ⟨(b.setG3_shows n g).2 _ (rxOk_ne_replSeq n), fun hk => ?_⟩
  unfold Block.knows
  rw [Block.setG3_port]
  exact h hk

theorem Block.keepsPeer_withCx (b : Block) (x : CipherSt) : Block.keepsPeer n short b { b with cx := x } :=
  Block.keepsPeer_of_g3 rfl rfl

theorem Block.keepsPeer_withStrata (b : Block) (x : StrataSt) : Block.keepsPeer n short b { b with strata := x } :=
  Block.keepsPeer_of_g3 rfl rfl

/-! ### Contexts and engines -/

theorem Block.g3_refreshPage (b : Block) (page : Nat) : (b.refreshPage page).g3 = b.g3 := by
  have hall : ∀ (c : Block) (fs : List (Field × Nat)), (c.setAll fs).g3 = c.g3 := fun c fs => Block.setAll_g3 fs c
  unfold Block.refreshPage
  extract_lets cs c
  have hc : c.g3 = b.g3 := Block.set_g3 _ _ _
  clear_value c cs
  split
  · exact (hall _ _).trans hc
  · exact (hall _ _).trans hc

theorem le_cxPage_page (page k : Nat) : 0x180000 ≤ Reg.cxPage page + k := by
  unfold Reg.cxPage
  split <;> omega

theorem Block.keepsPeer_refreshPage (hn : n < 24) (b : Block) (page : Nat) : Block.keepsPeer n short b (b.refreshPage page) :=
  Block.keepsPeer_of_g3 (b.g3_refreshPage page) (b.refreshPage_rd _ _ (rxOk_ne_of_le hn (le_cxPage_page _ 0x4))
    (rxOk_ne_of_le hn (le_cxPage_page _ 0xC)))

theorem Block.keepsPeer_setCtx (hn : n < 24) (b : Block) (page k : Nat) (x : Ctx) : Block.keepsPeer n short b (b.setCtx page k x) := by
  have h : ∀ ctxs, Block.keepsPeer n short b (Block.refreshPage { b with cx := { b.cx with ctxs := ctxs } } page) :=
    fun ctxs => (b.keepsPeer_withCx _).trans (Block.keepsPeer_refreshPage hn _ _)
  unfold Block.setCtx
  exact ((h _).trans (Block.keepsPeer_replicate _ _ _ _ _)).ite (h _)

theorem Block.keepsPeer_setExt (b : Block) (x : Nat) (e : NodeExt) : Block.keepsPeer n short b (b.setExt x e) := by
  have h : ∀ t : TrvSt, Block.keepsPeer n short b { b with trv := t } := fun t => Block.keepsPeer_of_g3 rfl rfl
  unfold Block.setExt
  exact ((h _).trans (Block.keepsPeer_replicate _ _ _ _ _)).ite (h _)

theorem Block.keepsPeer_g3Accepted (b : Block) (port sh fctr : Nat) : Block.keepsPeer n short b (b.g3Accepted port sh fctr) := by
  refine ⟨rfl, fun hk => ?_⟩
  have hport : (b.g3Accepted port sh fctr).g3Port n = if n = port then
      { b.g3Port port with neigh := (b.g3Port port).neigh.map fun x => if x.short = sh then { x with fctr := some fctr } else x }
      else b.g3Port n := Store.get_put _ _ _ _ _
  unfold Block.knows at hk ⊢
  rw [hport]
  split
  next h =>
    subst h
    refine G3Port.find_map (g := b.g3Port n) (fun x => ?_) rfl hk
    split <;> rfl
  next => exact hk

theorem Block.keepsPeer_linkAccepted (hn : n < 24) (b : Block) (w : LinkWork) : Block.keepsPeer n short b (b.linkAccepted w) := by
  have htx : ∀ (c : Block) (num bit : Nat), Block.keepsPeer n short c (c.ackParcel num bit) := fun c _ _ =>
    Block.keepsPeer_of_g3 rfl rfl
  unfold Block.linkAccepted
  split
  · extract_lets c d
    have hd : Block.keepsPeer n short b d := (b.keepsPeer_setCtx hn _ _ _).trans (c.keepsPeer_setExt _ _)
    clear_value c d
    split
    · exact hd.trans (htx _ _ _)
    · exact hd
  · exact b.keepsPeer_g3Accepted _ _ _

theorem Block.keepsPeer_produce (hn : n < 24) (b : Block) (q : Nat) (p : Produce) : Block.keepsPeer n short b (b.produce q p) :=
  Block.keepsPeer_of_fabric hn (b.byFabric_refl.produce q p)

theorem Block.keepsPeer_complete (hn : n < 24) (b : Block) (x : Cmd) (status : Nat) (result : List Byte) (flags : Nat) :
    Block.keepsPeer n short b (b.complete x status result flags) :=
  Block.keepsPeer_of_fabric hn (b.byFabric_refl.complete x status result flags)

theorem Block.keepsPeer_receiveStamp (hn : n < 24) (b : Block) (port orig pseq : Nat) (sync : Bearing) (stampA stampB : Nat) :
    Block.keepsPeer n short b (b.receiveStamp port orig pseq sync stampA stampB) := by
  unfold Block.receiveStamp
  exact (b.keepsPeer_produce hn _ _).ite b.keepsPeer_refl

theorem Block.keepsPeer_endDecryption (hn : n < 24) (b : Block) (o : CipherOp) (pass stored : Bool) :
    Block.keepsPeer n short b (b.endDecryption o pass stored) := by
  unfold Block.endDecryption
  extract_lets c
  have hc : Block.keepsPeer n short b c :=
    b.keepsPeer_refl.ite (b.keepsPeer_inc _ (rxOk_ne_of_le hn (le_cxPage_page _ 0x18)))
  clear_value c
  split
  · exact hc
  · exact hc
  · exact hc.trans (c.keepsPeer_complete hn _ _ _ _)
  next w _ =>
    split
    · exact hc.trans ((c.keepsPeer_linkAccepted hn w).trans ((Block.keepsPeer_receiveStamp hn _ _ _ _ _ _ _).ite
        (Block.keepsPeer_refl _)))
    · split
      · exact hc.trans (c.keepsPeer_inc _ (by simp only [Reg.LP_G3_RX_OK, Reg.LP_G3_MIC_FAIL]; omega))
      · exact hc

theorem le_suspField (e : Nat) : 0x180000 ≤ (suspField e).off := by
  unfold suspField
  split <;> decide

theorem Block.keepsPeer_setEngine (hn : n < 24) (b : Block) (e : Nat) (x : Engine) : Block.keepsPeer n short b (b.setEngine e x) :=
  (b.keepsPeer_withCx _).trans (Block.keepsPeer_set _ _ _ (rxOk_ne_of_le hn (le_suspField e)))

theorem Block.keepsPeer_reap (hn : n < 24) (b : Block) : Block.keepsPeer n short b b.reap := by
  unfold Block.reap
  have step : ∀ (l : List Nat) (c : Block), Block.keepsPeer n short c (l.foldl (fun b e =>
      match (b.engine e).running with
      | some o => if b.opPending o then b else
          (b.setEngine e { b.engine e with running := none }).endDecryption o o.tagOk false
      | none => b) c) := by
    intro l
    induction l with
    | nil => exact fun c => c.keepsPeer_refl
    | cons e l ih =>
      intro c
      refine Block.keepsPeer.trans ?_ (ih _)
      dsimp only
      split
      · exact c.keepsPeer_refl.ite ((c.keepsPeer_setEngine hn _ _).trans (Block.keepsPeer_endDecryption hn _ _ _ _))
      · exact c.keepsPeer_refl
  exact step _ _

theorem Block.seize_same {b : Block} {prio : Nat} (h : prio ≠ 0) {x : Nat × Block} (hx : b.seize prio = some x) : x.2 = b := by
  unfold Block.seize at hx
  split at hx
  · cases hx
  · split at hx
    · cases hx
      rfl
    · cases hx

theorem Block.keepsPeer_startLink (hn : n < 24) (b : Block) (e : Nat) (o : CipherOp) (w : LinkWork) (hw : o.work = .link w) :
    Block.keepsPeer n short b (b.startOp e o) := by
  unfold Block.startOp
  rw [hw]
  exact (((b.keepsPeer_setEngine hn _ _).trans (Block.keepsPeer_inc _ _ (rxOk_ne_of_le hn (le_cxPage_page _ 0x14)))).trans
    (Block.keepsPeer_produce hn _ _ _)).trans (Block.keepsPeer_reap hn _)

theorem Block.keepsPeer_requestLink (hn : n < 24) (b : Block) {prio : Nat} (hp : prio ≠ 0) (page queue : Nat) (w : LinkWork) (tagOk : Bool) :
    Block.keepsPeer n short b (b.requestOp prio page queue (.link w) tagOk) := by
  unfold Block.requestOp
  extract_lets o x c
  have hc : Block.keepsPeer n short b c := b.keepsPeer_withCx _
  have ho : o.work = .link w := rfl
  clear_value o x c
  split
  next e d hd =>
    have hsame : d = c := by
      split at hd
      · cases hd
      · exact Block.seize_same hp hd
    subst hsame
    exact hc.trans (d.keepsPeer_startLink hn e o w ho)
  next => exact hc.trans (c.keepsPeer_withCx _)

end

end Sys2Proof.Machine

/-!
The G3-PLC profile (R336 to R338): what a received frame brings.
-/

namespace Sys2Proof.Machine

/-! ### What a frame brings keeps its sender -/

section
variable {n short : Nat}

theorem Block.keepsPeer_completeSend (hn : n < 24) (b : Block) (r : SendRec) (status : Nat) (result : List Byte) :
    Block.keepsPeer n short b (b.completeSend r status result) := by
  unfold Block.completeSend
  exact ((b.keepsPeer_withStrata _).trans (Block.keepsPeer_complete hn _ _ _ _ _)).trans
    (Block.keepsPeer_set _ _ _ (by simp only [Reg.LP_G3_RX_OK, Reg.PT_P0_WAIT]; omega))

theorem Block.keepsPeer_endWaitingSend (hn : n < 24) (b : Block) (r : SendRec) (status : Nat) (result : List Byte) :
    Block.keepsPeer n short b (b.endWaitingSend r status result) :=
  (b.keepsPeer_completeSend hn r status result).trans (Block.keepsPeer_of_fabric hn (Block.byFabric_releaseSends _ _))

theorem Block.keepsPeer_g3Done (hn : n < 24) (b : Block) (status : Nat) : Block.keepsPeer n short b (b.g3Done n status) := by
  unfold Block.g3Done
  extract_lets g d
  have hd : Block.keepsPeer n short b d := b.keepsPeer_setG3 (G3Port.find_of_neigh rfl)
  clear_value g d
  split
  · exact b.keepsPeer_refl
  · split
    · exact hd.trans ((d.keepsPeer_completeSend hn _ _ _).ite (d.keepsPeer_endWaitingSend hn _ _ _))
    · exact hd

theorem Block.keepsPeer_g3Deliver (b : Block) (f : G3Frame) (r : Reception) : Block.keepsPeer f.port short b (b.g3Deliver f r) := by
  have hn : f.port.val < 24 := f.port.isLt
  unfold Block.g3Deliver
  exact ((b.keepsPeer_produce hn _ _).trans (Block.keepsPeer_receiveStamp hn _ _ _ _ _ _ _)).ite
    (b.keepsPeer_requestLink hn (by decide) _ _ _ _)

theorem Block.keepsPeer_g3Kind (b : Block) (f : G3Frame) (r : Reception) : Block.keepsPeer f.port short b (b.g3Kind f r) := by
  have hn : f.port.val < 24 := f.port.isLt
  unfold Block.g3Kind
  cases f.kind with
  | data => exact b.keepsPeer_g3Deliver f r
  | beacon => exact b.keepsPeer_g3Deliver f r
  | ack =>
    dsimp only
    split
    · exact (b.keepsPeer_g3Done hn _).ite b.keepsPeer_refl
    · exact b.keepsPeer_refl
  | toneMapRequest => exact b.keepsPeer_setG3 (G3Port.find_of_neigh (G3Port.ask_neigh _ _ _))
  | toneMapResponse map modulation gain =>
    refine b.keepsPeer_setG3 (G3Port.find_map (f := fun x => if x.short = f.short.toNat then
      { x with toneMap := map, modulation := modulation.val, gain := gain.toNat, mapAt := b.ticks } else x) (fun x => ?_) rfl)
    split <;> rfl

end

/-! ### A frame received -/

/-- The sender's entry when a frame is taken: it is used, and asked for what it asks for. -/
def Block.g3Asked (b : Block) (f : G3Frame) : G3Port :=
  let g := (b.g3Port f.port.val).use b.ticks f.short.toNat
  let g := if f.kind = .data ∧ f.mode.getLsbD 5 then g.ask f.short.toNat .ack else g
  if f.toneMapRequest then g.ask f.short.toNat .mapResponse else g

theorem Block.g3Asked_find (b : Block) (f : G3Frame) : ((b.g3Asked f).find f.short.toNat).isSome = true := by
  have hask : ∀ (p : Prop) [Decidable p] (g : G3Port) (job : G3Job), (g.find f.short.toNat).isSome = true →
      ((if p then g.ask f.short.toNat job else g).find f.short.toNat).isSome = true := fun p _ g job h => by
    split
    · exact G3Port.find_of_neigh (G3Port.ask_neigh _ _ _) h
    · exact h
  exact hask _ _ _ (hask _ _ _ (G3Port.find_use _ _ _))

/-- A frame that passed its FCS, judged: counted as one discarded, or taken. -/
def Block.g3Judged (b : Block) (f : G3Frame) (r : Reception) (o : Option Field) : Block :=
  match o with
  | some c => b.inc c
  | none => (b.setG3 f.port.val (b.g3Asked f)).g3Kind f r

/-- The lane of a port that holds a G3 frame. -/
def Block.g3Lane (b : Block) (n : Nat) : Option Nat :=
  (b.receiving n).find? fun l => match (b.lane l).binding with
    | some x => x.g3
    | none => false

/-- A frame whose reception has ended. -/
def Block.g3Heard (b : Block) (f : G3Frame) (r : Reception) : Block :=
  if b.dev != .service || b.standsBy f.port.val then b
  else if !f.fcsOk then b.inc (Reg.LP_G3_RX_FCS_COUNT f.port.val)
  else
    let b := b.inc (Reg.LP_G3_RX_OK_COUNT f.port.val)
    b.g3Judged f r (b.g3Discards f)

/-- What a frame finds on its port's lanes. -/
def Block.g3On (b : Block) (f : G3Frame) (lane : Option Nat) : Block :=
  match lane with
  | none => b
  | some l =>
    match (b.lane l).current with
    | none => b
    | some r => (b.dropReception l).g3Heard f r

theorem Block.g3Received_eq (b : Block) (f : G3Frame) : b.g3Received f = b.g3On f (b.g3Lane f.port.val) := rfl

theorem Block.dropReception_tables (b : Block) (l : Nat) : (b.dropReception l).cx = b.cx ∧ (b.dropReception l).g3 = b.g3 := by
  unfold Block.dropReception Block.setReception
  extract_lets d lane e
  have hd : d.cx = b.cx ∧ d.g3 = b.g3 := by
    unfold d
    split
    · unfold Block.logReception
      split
      · split <;> exact ⟨rfl, rfl⟩
      · exact ⟨rfl, rfl⟩
    · exact ⟨rfl, rfl⟩
  have he : e.cx = d.cx ∧ e.g3 = d.g3 := ⟨rfl, rfl⟩
  clear_value d lane e
  obtain ⟨hdc, hdg⟩ := hd
  obtain ⟨hec, heg⟩ := he
  have hanchor : ∀ n, (e.refreshAnchor n).cx = e.cx ∧ (e.refreshAnchor n).g3 = e.g3 := fun n => by
    unfold Block.refreshAnchor
    split <;> exact ⟨Block.setAll_cx _ _, Block.setAll_g3 _ _⟩
  split
  next x _ => exact ⟨(hanchor x.port).1.trans (hec.trans hdc), (hanchor x.port).2.trans (heg.trans hdg)⟩
  next => exact ⟨hec.trans hdc, heg.trans hdg⟩

/-- A block that has taken a frame off its lane. -/
structure Block.offLane (b c : Block) : Prop where
  dev : c.dev = b.dev
  standsBy : ∀ n, c.standsBy n = b.standsBy n
  cx : c.cx = b.cx
  g3 : c.g3 = b.g3
  get : ∀ f : Field, f.off % 0x1000 ≠ 0xC → c.get f = b.get f

theorem Block.offLane_dropReception (b : Block) (l : Nat) : b.offLane (b.dropReception l) := by
  have h : b.byReception (b.dropReception l) := b.byReception_setReception l none
  obtain ⟨hcx, hg3⟩ := b.dropReception_tables l
  exact ⟨b.setReception_dev l none, fun n => h.standsBy n, hcx, hg3, fun f hf => h.get hf⟩

theorem Block.g3Discards_congr {b c : Block} (hcx : c.cx = b.cx) (hg : c.g3 = b.g3) (f : G3Frame) : c.g3Discards f = b.g3Discards f := by
  unfold Block.g3Discards Block.ctx Block.g3Port
  rw [hcx, hg]

section
variable {s : State} {f : G3Frame} {l : Nat} {r : Reception}

theorem exec_g3FrameReceived (s : State) (f : G3Frame) : exec (.g3FrameReceived f) s =
    .next { s with blk := (s.blk.g3Received f).gated } := rfl

theorem Block.g3Received_on {b : Block} (hl : b.g3Lane f.port.val = some l) (hr : (b.lane l).current = some r) :
    b.g3Received f = (b.dropReception l).g3Heard f r := by
  rw [Block.g3Received_eq, hl]
  unfold Block.g3On
  dsimp only
  rw [hr]

theorem Block.g3Heard_damaged {b : Block} (hd : b.dev = .service) (hs : b.standsBy f.port.val = false) (hf : f.fcsOk = false) :
    b.g3Heard f r = b.inc (Reg.LP_G3_RX_FCS_COUNT f.port.val) :=
  (if_neg (by rw [hd, hs]; decide)).trans (if_pos (by rw [hf]; rfl))

theorem Block.g3Heard_good {b : Block} (hd : b.dev = .service) (hs : b.standsBy f.port.val = false) (hf : f.fcsOk = true) :
    b.g3Heard f r = (b.inc (Reg.LP_G3_RX_OK_COUNT f.port.val)).g3Judged f r
      ((b.inc (Reg.LP_G3_RX_OK_COUNT f.port.val)).g3Discards f) :=
  (if_neg (by rw [hd, hs]; decide)).trans (if_neg (by rw [hf]; decide))

theorem completes_g3_damaged (hd : s.blk.dev = .service) (hs : s.blk.standsBy f.port.val = false)
    (hl : s.blk.g3Lane f.port.val = some l) (hr : (s.blk.lane l).current = some r) (hf : f.fcsOk = false) :
    Completes (.g3FrameReceived f) s fun b =>
      b.get (Reg.LP_G3_RX_FCS_COUNT f.port.val) = (s.blk.get (Reg.LP_G3_RX_FCS_COUNT f.port.val) + 1) % 2 ^ 32 ∧
      b.get (Reg.LP_G3_RX_OK_COUNT f.port.val) = s.blk.get (Reg.LP_G3_RX_OK_COUNT f.port.val) ∧ b.g3 = s.blk.g3 := by
  refine completes_of_next (exec_g3FrameReceived s f) ?_
  rw [Block.g3Received_on hl hr]
  have h := s.blk.offLane_dropReception l
  generalize s.blk.dropReception l = c at h ⊢
  rw [Block.g3Heard_damaged (h.dev.trans hd) ((h.standsBy _).trans hs) hf, Block.gated_g3, Block.inc_g3, h.g3,
    Block.gated_get_other _ _ (by simp only [Reg.LP_G3_RX_FCS, Reg.SP_STAT]; omega),
    Block.gated_get_other _ _ (by simp only [Reg.LP_G3_RX_OK, Reg.SP_STAT]; omega), Block.get_inc _ _ (Nat.le_of_ble_eq_true rfl),
    Block.get_of_rd (Block.rd_inc_other _ _ _ (by simp only [Reg.LP_G3_RX_OK, Reg.LP_G3_RX_FCS]; omega)),
    h.get _ (by simp only [Reg.LP_G3_RX_FCS]; omega), h.get _ (by simp only [Reg.LP_G3_RX_OK]; omega)]
  exact ⟨rfl, rfl, rfl⟩

theorem completes_g3_taken (hd : s.blk.dev = .service) (hs : s.blk.standsBy f.port.val = false)
    (hl : s.blk.g3Lane f.port.val = some l) (hr : (s.blk.lane l).current = some r) (hf : f.fcsOk = true)
    (hgood : s.blk.g3Discards f = none) : Completes (.g3FrameReceived f) s fun b =>
      b.get (Reg.LP_G3_RX_OK_COUNT f.port.val) = (s.blk.get (Reg.LP_G3_RX_OK_COUNT f.port.val) + 1) % 2 ^ 32 ∧
      ((b.g3Port f.port.val).find f.short.toNat).isSome = true := by
  refine completes_of_next (exec_g3FrameReceived s f) ?_
  rw [Block.g3Received_on hl hr]
  have h := s.blk.offLane_dropReception l
  generalize s.blk.dropReception l = c at h ⊢
  rw [Block.g3Heard_good (h.dev.trans hd) ((h.standsBy _).trans hs) hf,
    Block.g3Discards_congr (b := s.blk) ((Block.inc_cx _ _).trans h.cx) ((Block.inc_g3 _ _).trans h.g3), hgood]
  have hcount : (c.inc (Reg.LP_G3_RX_OK_COUNT f.port.val)).get (Reg.LP_G3_RX_OK_COUNT f.port.val) =
      (s.blk.get (Reg.LP_G3_RX_OK_COUNT f.port.val) + 1) % 2 ^ 32 := by
    rw [Block.get_inc _ _ (Nat.le_of_ble_eq_true rfl), h.get _ (by simp only [Reg.LP_G3_RX_OK]; omega)]
  generalize c.inc (Reg.LP_G3_RX_OK_COUNT f.port.val) = d at hcount ⊢
  have hfind := d.g3Asked_find f
  have hrd := (d.setG3_shows f.port.val (d.g3Asked f)).2 _ (rxOk_ne_replSeq f.port.val)
  have hknow : (d.setG3 f.port.val (d.g3Asked f)).knows f.port.val f.short.toNat = true := by
    unfold Block.knows
    rw [Block.setG3_port]
    exact hfind
  have hjudged : d.g3Judged f r none = (d.setG3 f.port.val (d.g3Asked f)).g3Kind f r := rfl
  rw [hjudged]
  generalize d.setG3 f.port.val (d.g3Asked f) = e at hrd hknow ⊢
  have hk := Block.keepsPeer_g3Kind (short := f.short.toNat) e f r
  generalize e.g3Kind f r = k at hk ⊢
  rw [Block.gated_get_other _ _ (by simp only [Reg.LP_G3_RX_OK, Reg.SP_STAT]; omega), Block.get_of_rd (hk.count.trans hrd), hcount,
    Block.g3Port_of_g3 k (Block.gated_g3 _)]
  exact ⟨rfl, hk.peer hknow⟩

theorem completes_g3_unsealed (hd : s.blk.dev = .service) (hs : s.blk.standsBy f.port.val = false)
    (hl : s.blk.g3Lane f.port.val = some l) (hr : (s.blk.lane l).current = some r) (hf : f.fcsOk = true) (h0 : f.level ≠ 0)
    (h5 : f.level ≠ 5) : Completes (.g3FrameReceived f) s fun b =>
      b.get (Reg.LP_G3_MIC_FAIL_COUNT f.port.val) = (s.blk.get (Reg.LP_G3_MIC_FAIL_COUNT f.port.val) + 1) % 2 ^ 32 ∧
      b.g3 = s.blk.g3 := by
  refine completes_of_next (exec_g3FrameReceived s f) ?_
  rw [Block.g3Received_on hl hr]
  have h := s.blk.offLane_dropReception l
  generalize s.blk.dropReception l = c at h ⊢
  have hdisc : (c.inc (Reg.LP_G3_RX_OK_COUNT f.port.val)).g3Discards f = some (Reg.LP_G3_MIC_FAIL_COUNT f.port.val) :=
    (if_neg h0).trans (if_pos (Or.inl h5))
  rw [Block.g3Heard_good (h.dev.trans hd) ((h.standsBy _).trans hs) hf, hdisc]
  have hmic : (c.inc (Reg.LP_G3_RX_OK_COUNT f.port.val)).get (Reg.LP_G3_MIC_FAIL_COUNT f.port.val) =
      s.blk.get (Reg.LP_G3_MIC_FAIL_COUNT f.port.val) := by
    rw [Block.get_of_rd (Block.rd_inc_other _ _ _ (by simp only [Reg.LP_G3_RX_OK, Reg.LP_G3_MIC_FAIL]; omega)),
      h.get _ (by simp only [Reg.LP_G3_MIC_FAIL]; omega)]
  have hg : (c.inc (Reg.LP_G3_RX_OK_COUNT f.port.val)).g3 = s.blk.g3 := (Block.inc_g3 _ _).trans h.g3
  generalize c.inc (Reg.LP_G3_RX_OK_COUNT f.port.val) = d at hmic hg ⊢
  show (Block.gated (d.inc (Reg.LP_G3_MIC_FAIL_COUNT f.port.val))).get _ = _ ∧
    (Block.gated (d.inc (Reg.LP_G3_MIC_FAIL_COUNT f.port.val))).g3 = _
  rw [Block.gated_g3, Block.inc_g3, hg, Block.gated_get_other _ _ (by simp only [Reg.LP_G3_MIC_FAIL, Reg.SP_STAT]; omega),
    Block.get_inc _ _ (Nat.le_of_ble_eq_true rfl), hmic]
  exact ⟨rfl, rfl⟩

theorem completes_g3_absent (hl : s.blk.g3Lane f.port.val = none) : Completes (.g3FrameReceived f) s fun b =>
    b.g3 = s.blk.g3 ∧ s.blk.keepsBut b [Reg.SP_STAT 1] := by
  refine completes_of_next (exec_g3FrameReceived s f) ?_
  rw [Block.g3Received_eq, hl]
  show (Block.gated s.blk).g3 = _ ∧ _
  exact ⟨Block.gated_g3 _, (s.blk.keepsBut_refl _).gated (by simp)⟩

end

/-- Settles O60: each clause is the lemma named after what becomes of the frame. -/
theorem g3FramesGoAndCome : Obligations.G3FramesGoAndCome := by
  intro s port x short f l r
  refine ⟨fun htx hsend hair => ⟨fun hdev hrun hbound hen hdr hst hheld hsending hack hquiet hbarred hyield => ?_, fun hack => ?_⟩,
    fun hb hd z hz => ⟨completes_toneMap_old hb hd hz, completes_toneMap_fresh hb hd hz⟩, ?_, completes_g3_absent⟩
  · have h : s.blk.g3Holds port.val x := ⟨htx, hsend, hair⟩
    have ho : s.blk.g3Open port.val := ⟨hdev, hrun, hbound, hen, hdr, hst, hheld, hsending⟩
    have hf : s.blk.g3Free port.val x := ⟨hquiet, hbarred, hyield⟩
    exact ⟨completes_g3_backoff h ho hack hf, completes_g3_given_up h ho hack hf,
      fun hidle hmeets hlanes hroom hthermal hbudget hjob =>
        completes_g3_sent h ho hack hf ⟨hidle, hmeets, hlanes, hroom, hthermal, hbudget⟩ hjob⟩
  · have h : s.blk.g3Holds port.val x := ⟨htx, hsend, hair⟩
    exact ⟨completes_g3_again h hack, completes_g3_failed h hack⟩
  · rintro rfl hd hs hl hr
    exact ⟨completes_g3_damaged hd hs hl hr, completes_g3_taken hd hs hl hr, completes_g3_unsealed hd hs hl hr⟩

end Sys2Proof.Machine
